-- ==== Sys2Proof/Word.lean ====
section
/-! DEFINITION. The word types of the K256 model and the plain table type. -/

namespace Sys2Proof

/-- One byte. -/
abbrev Byte := BitVec 8
/-- A 32-bit register or a FP32 encoding. -/
abbrev W32 := BitVec 32
/-- A 64-bit register or a FP64 encoding. -/
abbrev W64 := BitVec 64
/-- A step word (05, R142). -/
abbrev StepWord := BitVec 128

/-- A sparse table: index and value, indices strictly rising, no entry equal to the
value an unlisted index has. -/
abbrev Tab (α : Type) := List (Nat × α)

end Sys2Proof
end

