-- ==== Sys2Proof/Syntax.lean ====
section
/-! DEFINITION. The commands of the K256 block: one constructor per row of spec/opcode_table.json,
with what the outside (host, neighbours, board, sensors) brings to each as operands. -/

namespace Sys2Proof

/-- A fabric packet (11, Table 11-5). -/
structure Packet where
  type    : Nat
  cls     : Nat
  atype   : Nat
  ctlRsv  : Nat
  dst     : Nat
  src     : Nat
  cfg     : Nat
  inc     : Nat
  status  : Nat
  hops    : Nat
  rsv     : Nat
  tag     : Nat
  seq     : Nat
  stime   : Nat
  addr    : Nat
  ben     : Nat
  payload : List Byte
  deriving DecidableEq, Repr

/-- A HELLO (11, Table 11-4); the reserved bytes are left out. -/
structure Hello where
  uid     : Nat
  coord   : Nat
  epoch   : Nat
  node    : Nat
  port    : Nat
  genMap  : Nat
  cls     : Nat
  solo    : Bool
  digest  : Nat
  hb      : Nat
  dist    : Nat
  tTx     : Nat
  echoTx  : Nat
  echoRx  : Nat
  deriving DecidableEq, Repr

/-- One power-tap reading: Pan, band, level in 0.01 dB, none while the monitor is under
calibration (02, R55; 09, R307). -/
structure TapReading where
  pan   : Nat
  band  : Nat
  level : Option Int
  deriving DecidableEq, Repr

/-- The inputs one Kettle frame latches for one slot (08, Table 08-2): the averaged inner input,
and for an outer loop the reference offset and whether it is stale (09, R307). -/
structure SlotInput where
  slot  : Nat
  inner : Int
  ref   : Int
  stale : Bool
  deriving DecidableEq, Repr

/-- What a frame latches: the slot inputs, and VHTR per quadrant in mV (08, R260, R271). -/
structure KetInputs where
  slots : List SlotInput
  vhtr  : List Nat
  deriving DecidableEq, Repr

/-- What the measurements of a sweep find (09, R292 to R295): the rings, as physical row and column, and the modulators that
fail, the thermal gain K_th in u per pm with 16 fractional bits, and the outer set-point of the Pan's Kettle slot. -/
structure SweepResult where
  rings     : List (Nat × Nat)
  mods      : List Nat
  kTh       : Int
  target    : W32
  deriving DecidableEq, Repr

/-- One attempt of the start-up sweep (09, R306): its measurements lie within Table 09-2, or fail with a cause of Table 09-4 in a phase of Table
09-1. -/
inductive Attempt where
  | measured (r : SweepResult)
  | failed (cause phase : Nat)
  deriving DecidableEq, Repr

/-- Outcome of a structural test (10, R334). -/
inductive TestOutcome where
  | pass
  | marginal
  | fail
  deriving DecidableEq, Repr

/-- What a SECDED or parity check found (02 R48, 04 R116 R126, 10 R312). -/
inductive Finding where
  | clean
  | corrected
  | bad
  deriving DecidableEq, Repr

/-- What the parity checks of a replay find: nothing, an error on the activation path or in its open BF20 entries, which
fails the run, or one in the codes read from the replay ring (10, R313, R316). -/
inductive RunParity where
  | clean
  | path
  | ring
  deriving DecidableEq, Repr

/-- A replay for a sampled block: its Pan, and what a parity error in its codes did (10, R316, R324). -/
structure SampledRun where
  pan    : Nat
  parity : RunParity
  deriving DecidableEq, Repr

/-- How a sweep ends that does not converge: the cause, and the phase it had reached (09, Tables 09-1, 09-4). -/
structure SweepEnd where
  cause : Nat
  phase : Nat
  deriving DecidableEq, Repr

/-- The end of a deduplication entry: its epoch, and whether the source has released the tag (07, R253). -/
structure DedupEnd where
  epoch    : Nat
  released : Bool
  deriving DecidableEq, Repr

/-- The transport a Trivet command comes by (13, Table 13-1, R401): its kind and the endpoint. -/
inductive Via where
  | management (eid : Nat)
  | mailbox
  | vdm
  deriving DecidableEq, Repr

/-- A monitor scan entry (13, Table 13-7). -/
structure ScanEntry where
  en      : Bool
  channel : Nat
  span    : Nat
  gain    : Nat
  frames  : Nat
  rep     : Nat
  delay   : Nat
  rsv     : Nat
  deriving DecidableEq, Repr

/-- A comparator setting (13, R408). -/
structure CompSet where
  idx    : Nat
  lo     : Int
  hi     : Int
  hyst   : Int
  en     : Bool
  gain   : Nat
  frames : Nat
  deriving DecidableEq, Repr

/-- One converter of a common-trigger group (13, R409). -/
structure TrigConv where
  conv    : Nat
  channel : Nat
  gain    : Nat
  frames  : Nat
  deriving DecidableEq, Repr

/-- The trigger of a common-trigger group (13, R409). -/
inductive TrigKind where
  | command
  | syncIn
  | atTime (t : Nat)
  deriving DecidableEq, Repr

/-- What FUSE_ADVANCE asks for (13, R422). -/
inductive FuseReq where
  | debugLock
  | svnStep
  | revoke (slot : Nat)
  deriving DecidableEq, Repr

/-- A firmware image as PLDM firmware update delivers it (13, R415). -/
structure FwImage where
  counter : Nat
  version : Nat
  svn     : Nat
  keySlot : Nat
  sigOk   : Bool
  deriving DecidableEq, Repr

/-- The phases of a PLDM firmware update (13, R415). -/
inductive FwOp where
  | begin
  | transfer (img : FwImage)
  | activate (restart : Bool)
  | cancel
  deriving DecidableEq, Repr

/-- An MCTP control request (13, R399): endpoint discovery, or an EID assignment. -/
inductive McpReq where
  | getEid
  | setEid (eid : Nat)
  deriving DecidableEq, Repr

/-- An SPDM request that Trivet answers (13, R424). -/
inductive SpdmReq where
  | certificates
  | challenge (nonce : Nat)
  | measurements (index : Nat)
  deriving DecidableEq, Repr

/-- What starts a cold reset (14, Table 14-4): the main rails, or VAUX with them. -/
inductive ColdCause where
  | mainRails
  | vaux
  deriving DecidableEq, Repr

/-- One regulator's answer to a poll: rail number in Table 14-1 order and its READ_PIN in watts,
none when it does not answer (14, R430). -/
structure RailRead where
  rail : Nat
  pin  : Option Nat
  deriving DecidableEq, Repr

/-- The commands. `sid` is a stream ID, `h` a Basket, `p` a Pan, `n` a Kettle slot, `q` a queue pair or
a Coil. -/
inductive Instr where
  /-- NOP. R194 step NOP of stream sid reaches its head -/
  | nop (sid : Nat)
  /-- LOOP. R160 -/
  | loop (sid : Nat)
  /-- ENDL. R160 -/
  | endl (sid : Nat)
  /-- BR. R162 -/
  | br (sid : Nat)
  /-- CALL. R161 -/
  | call (sid : Nat)
  /-- RET. R161 -/
  | ret (sid : Nat)
  /-- WAIT. R155 -/
  | wait (sid : Nat)
  /-- SIG. R155 -/
  | sig (sid : Nat)
  /-- FENCE. R150 -/
  | fence (sid : Nat)
  /-- YIELD. R182 -/
  | yield (sid : Nat)
  /-- YIELD_SUSPEND. R183 -/
  | yieldSuspend (sid : Nat)
  /-- HALT. R163 -/
  | halt (sid : Nat)
  /-- MARK. R163 -/
  | mark (sid : Nat)
  /-- DBRK. R146 -/
  | dbrk (sid : Nat)
  /-- DSNAP. R146 -/
  | dsnap (sid : Nat)
  /-- WLD. R198 -/
  | wld (sid : Nat)
  /-- WSW. R200 -/
  | wsw (sid : Nat)
  /-- WREF. R201 -/
  | wref (sid : Nat)
  /-- MVM. R203 -/
  | mvm (sid : Nat)
  /-- MVMW. R97 -/
  | mvmw (sid : Nat)
  /-- POPEN. R205 -/
  | popen (sid : Nat)
  /-- PCLOSE. R129 -/
  | pclose (sid : Nat)
  /-- SPILL. R206 -/
  | spill (sid : Nat)
  /-- RESUME. R128 -/
  | resume (sid : Nat)
  /-- ROT. R83 -/
  | rot (sid : Nat)
  /-- QNT. R212 -/
  | qnt (sid : Nat)
  /-- SCUP. R213 -/
  | scup (sid : Nat)
  /-- STAT. R213 -/
  | stat (sid : Nat)
  /-- VOP. R214 -/
  | vop (sid : Nat)
  /-- ATT. R216 -/
  | att (sid : Nat)
  /-- DMA. R217 -/
  | dma (sid : Nat)
  /-- GET. R218 -/
  | get (sid : Nat)
  /-- PUT. R218 -/
  | put (sid : Nat)
  /-- AADD. R219 -/
  | aadd (sid : Nat)
  /-- GATH. R220 -/
  | gath (sid : Nat)
  /-- STEP_COMPLETION. R149: the step in flight with issue number uid ends -/
  | stepCompletion (sid : Nat) (uid : Nat)
  /-- RING_HEAD_POLL. R233 -/
  | ringHeadPoll (sid : Nat)
  /-- TOKEN_TIMEOUT. R158 -/
  | tokenTimeout (sid : Nat)
  /-- TOKEN_SIGNAL_WRITE. R159 -/
  | tokenSignalWrite (h : Nat) (tok : W32)
  /-- TOKEN_IRQ_DEFERRED. R390 -/
  | tokenIrqDeferred (g : Nat)
  /-- START. R231; bsk is the command word's BASKET field -/
  | start (sid : Nat) (bsk : Nat)
  /-- STREAM_RESUME. R235 -/
  | streamResume (sid : Nat) (bsk : Nat)
  /-- ABORT. R234 -/
  | abort (sid : Nat) (bsk : Nat)
  /-- MIGRATE. R237 -/
  | migrate (sid : Nat) (bsk : Nat)
  /-- STREAM_RESET. R230 -/
  | streamReset (sid : Nat) (bsk : Nat)
  /-- MIGRATION_MOVE. R238 -/
  | migrationMove (sid : Nat)
  /-- STREAM_PLACEMENT. R232 -/
  | streamPlacement
  /-- TILE_LOAD. R170 -/
  | tileLoad (p : Nat)
  /-- BANK_SWAP. R49 -/
  | bankSwap (p : Nat)
  /-- BANK_REFRESH. R47, R48: copy is what the parity of the local copy shows -/
  | bankRefresh (p : Nat) (bankB : Bool) (copy : Finding)
  /-- GROUP_BLOCK_END. R51: parity is an error found on the activation path or in open entries -/
  | groupBlockEnd (p : Nat) (parity : Bool)
  /-- PROMOTION. R119: element slot, batch column col of the oldest closed window -/
  | promotion (p : Nat) (slot : Nat) (col : Nat) (parity : Bool)
  /-- POT_WAIT_END. R124 -/
  | potWaitEnd (h : Nat) (pot : Nat)
  /-- REPLAY_SAME_PAN. R313, R316 -/
  | replaySamePan (p : Nat) (parity : RunParity)
  /-- REPLAY_SPARE. R315 -/
  | replaySpare (p : Nat) (parity : RunParity)
  /-- NO_SPARE_REPLAY. R320 -/
  | noSpareReplay (p : Nat) (parity : RunParity)
  /-- SAMPLED_REPLAY_COMPARE. R324 -/
  | sampledReplayCompare (r : SampledRun)
  /-- SAMPLED_REPLAY_RESOLVE. R325 -/
  | sampledReplayResolve (r : SampledRun)
  /-- TAP_READ. R55 -/
  | tapRead (readings : List TapReading)
  /-- RAMP_INTERVAL. R178: the write-clock cycles that pacing held Pans of each Basket in the interval that ends, and those in
  which they drove filler (05, Table 05-19) -/
  | rampInterval (held : List Nat) (filler : List Nat)
  /-- GOVERNOR_EVAL. R24 -/
  | governorEval
  /-- RATE_CHANGE. R24 -/
  | rateChange (h : Nat)
  /-- BASKET_STOP. R439 -/
  | basketStop (h : Nat)
  /-- BASKET_COMMIT. R439 -/
  | basketCommit (h : Nat)
  /-- BASKET_OFF. R439 -/
  | basketOff (h : Nat)
  /-- BASKET_ON. R438 -/
  | basketOn (h : Nat)
  /-- BASKET_RESET. R434 -/
  | basketReset (h : Nat)
  /-- BASKET_DRAINED. R439 -/
  | basketDrained (h : Nat)
  /-- SCALE_CLASS_WRITE. R329 -/
  | scaleClassWrite (cls : BitVec 2)
  /-- SEQ_CNT_CLR. R185 -/
  | seqCntClr (h : Nat)
  /-- WSK_CNT_CLR. R103 -/
  | wskCntClr (h : Nat)
  /-- RDO_CNT_CLR. R136 -/
  | rdoCntClr (h : Nat)
  /-- PAN_CNT_CLR. R68 -/
  | panCntClr (p : Nat)
  /-- KETTLE_FRAME. R260 -/
  | kettleFrame (inp : KetInputs)
  /-- PWM_PERIOD. R275, R276: gate commands HA, HB, LA, LB forced by a fault, per Coil -/
  | pwmPeriod (glitch : List (Nat × BitVec 4))
  /-- XCOND_CLEAR. R276 -/
  | xcondClear (q : Nat)
  /-- SLOT_STOP. R280 -/
  | slotStop (n : Nat)
  /-- SLOT_COMMIT. R281 -/
  | slotCommit (n : Nat)
  /-- SLOT_CNT_CLR. R285 -/
  | slotCntClr (n : Nat)
  /-- KET_CNT_CLR. R286 -/
  | ketCntClr
  /-- SP_WRITE. R268 -/
  | spWrite (n : Nat) (v : W32)
  /-- INJ_START. R283 -/
  | injStart (cfg : W32)
  /-- INJ_STOP. R283 -/
  | injStop (cfg : W32)
  /-- CAP_ARM. R284 -/
  | capArm (cfg : W32)
  /-- THERMAL_RETEST. R274 -/
  | thermalRetest (p : Nat)
  /-- CAL_TURN. R288 -/
  | calTurn
  /-- HANDOVER. R289 -/
  | handover
  /-- SWEEP_COMMIT. R294 -/
  | sweepCommit (res : SweepResult)
  /-- CAL_TIMEOUT. R296: the cause, and the phase the sweep had reached -/
  | calTimeout (e : SweepEnd)
  /-- CAL_ABANDON. R297 -/
  | calAbandon
  /-- CAL_REQ. R291 -/
  | calReq (pan : Nat)
  /-- CAL_CNT_CLR. R309 -/
  | calCntClr
  /-- BLIND_WINDOW. R299: the Pan at position n of Basket h -/
  | blindWindow (h : Nat) (n : Nat)
  /-- CAL_STALE. R307 -/
  | calStale (source : Nat) (idx : Nat)
  /-- STARTUP_SWEEP. R306: the attempts of the Pans, by position -/
  | startupSweep (h : Nat) (attempts : List (Nat × List Attempt))
  /-- TEST_DUE. R331 -/
  | testDue (h : Nat)
  /-- TEST_REQ. R331 -/
  | testReq (mask : BitVec 16)
  /-- TEST_DEFER_END. R332 -/
  | testDeferEnd (h : Nat)
  /-- TEST_ENTRY. R332 -/
  | testEntry (h : Nat)
  /-- TEST_RESULT. R334 -/
  | testResult (h : Nat) (res : TestOutcome)
  /-- EVENT_RECORD. R337 -/
  | eventRecord
  /-- FEU_PEND_CLEAR. R338 -/
  | feuPendClear (mask : BitVec 5)
  /-- RING_RST. R340 -/
  | ringRst
  /-- FEU_CNT_CLR. R340 -/
  | feuCntClr
  /-- HELLO_SEND. R349 -/
  | helloSend (port : Nat)
  /-- HELLO. R349 -/
  | hello (port : Nat) (m : Hello)
  /-- COORD_TIMEOUT. R350 -/
  | coordTimeout
  /-- HEARTBEAT. R350 -/
  | heartbeat
  /-- SOLO_START. R351 -/
  | soloStart
  /-- JOIN. R352 -/
  | join (port : Nat) (uid : Nat)
  /-- JOIN_RESEND. R352 -/
  | joinResend
  /-- ASSIGN. R352 -/
  | assign (port : Nat) (uid : Nat) (node : Nat)
  /-- CLAIM. R352 -/
  | claim (port : Nat) (uid : Nat) (node : Nat)
  /-- DENY. R352 -/
  | deny (port : Nat) (uid : Nat) (node : Nat)
  /-- MGT. R353 -/
  | mgt (port : Nat) (m : Packet)
  /-- WRITE. R253 -/
  | write (port : Nat) (m : Packet)
  /-- READ. R356 -/
  | read (port : Nat) (m : Packet)
  /-- ATOMIC. R249 -/
  | atomic (port : Nat) (m : Packet)
  /-- SKIP. R363 -/
  | skip (port : Nat) (m : Packet)
  /-- COMPL. R356 -/
  | compl (port : Nat) (m : Packet)
  /-- RDRSP. R356 -/
  | rdrsp (port : Nat) (m : Packet)
  /-- FORWARD. R361 -/
  | forward (port : Nat) (m : Packet)
  /-- RESEND_TIMER. R358 -/
  | resendTimer (tag : Nat)
  /-- UNIT_GIVE_UP. R255 -/
  | unitGiveUp (tag : Nat)
  /-- TAG_RELEASE. R254 -/
  | tagRelease (tag : Nat)
  /-- DEDUP_EXPIRE. R253 -/
  | dedupExpire (src : Nat) (tag : Nat) (e : DedupEnd)
  /-- CREDIT_STALL_DISCARD. R357 -/
  | creditStallDiscard (port : Nat) (m : Packet)
  /-- FLIT_REPLAY. R343 -/
  | flitReplay (port : Nat)
  /-- REPLAY_WINDOW. R348 -/
  | replayWindow (port : Nat)
  /-- LIGHT_DETECT. R345 -/
  | lightDetect (port : Nat)
  /-- LINK_UP. R345 -/
  | linkUp (port : Nat)
  /-- TRAINING_TIMEOUT. R345 -/
  | trainingTimeout (port : Nat)
  /-- LOSS_OF_SIGNAL. R362 -/
  | lossOfSignal (port : Nat)
  /-- PORT_ENABLE. R345 -/
  | portEnable (port : Nat)
  /-- PORT_DISABLE. R345 -/
  | portDisable (port : Nat)
  /-- PORT_DRAIN. R345 -/
  | portDrain (port : Nat) (on : Bool)
  /-- RETRAIN. R345 -/
  | retrain (port : Nat)
  /-- UNRETIRE. R348 -/
  | unretire (port : Nat)
  /-- PLAIT_APPLY. R366 -/
  | plaitApply
  /-- PLAIT_SETTLED. R366 -/
  | plaitSettled
  /-- CFG_COMMIT. R369 -/
  | cfgCommit
  /-- CFG_ADVANCE. R369 -/
  | cfgAdvance
  /-- CFG_CLOSE. R369 -/
  | cfgClose
  /-- CFG_CLOSE_EFFECT. R369 -/
  | cfgCloseEffect
  /-- DZF_CNT_CLR. R373 -/
  | dzfCntClr
  /-- IDMAP_WR. R352 -/
  | idmapWr (node : Nat)
  /-- IDMAP_DEL. R352 -/
  | idmapDel
  /-- SQ_DOORBELL. R386 -/
  | sqDoorbell (q : Nat) (idx : Nat)
  /-- CQ_DOORBELL. R385 -/
  | cqDoorbell (q : Nat) (idx : Nat)
  /-- COMMAND_FETCH. R386 -/
  | commandFetch (q : Nat)
  /-- QUEUE_NOP. R383 -/
  | queueNop (q : Nat) (cid : Nat)
  /-- STRM. R383 -/
  | strm (q : Nat) (cid : Nat)
  /-- XFER. R384 -/
  | xfer (q : Nat) (cid : Nat)
  /-- QUEUE_COMMAND_COMPLETE. R385 -/
  | queueCommandComplete (q : Nat) (cid : Nat)
  /-- IRQ_COALESCE_TIMER. R389 -/
  | irqCoalesceTimer (q : Nat)
  /-- QUEUE_ENABLE. R387 -/
  | queueEnable (q : Nat)
  /-- QUEUE_DISABLE. R387 -/
  | queueDisable (q : Nat)
  /-- QUEUE_PENDING_START. R387 -/
  | queuePendingStart (q : Nat)
  /-- BAR2_WRITE. R378 -/
  | bar2Write (addr : Nat) (bytes : List Byte) (poisoned : Bool)
  /-- BAR2_READ. R378 -/
  | bar2Read (addr : Nat) (len : Nat)
  /-- VF_FLR. R394 -/
  | vfFlr (v : Nat)
  /-- PF_FLR. R394 -/
  | pfFlr
  /-- LINK_DOWN. R394 (LINK_DOWN) -/
  | hostLinkLost
  /-- REGISTER_WRITE. R452: a 32-bit write, or a 64-bit one where wide -/
  | registerWrite (fn : Nat) (off : Nat) (wide : Bool) (v : W64)
  /-- REFUSED_ACCESS. R449 -/
  | refusedAccess (fn : Nat) (off : Nat) (size : Nat) (isWrite : Bool)
  /-- LATCHED_LOWER_READ. R450 -/
  | latchedLowerRead (fn : Nat) (off : Nat)
  /-- ACC_ERR_CLEAR. R456 -/
  | accErrClear
  /-- WARM_RESET. R434 -/
  | warmReset
  /-- PERST_ASSERT. R472 -/
  | perstAssert
  /-- PERST_RELEASE. R437 -/
  | perstRelease
  /-- COLD_RESET. R434, R429 -/
  | coldReset (cause : ColdCause) (railOrderOk : Bool)
  /-- VAUX_APPLY. R421: fuse words read as not valid, with whether the ECC failed -/
  | vauxApply (badFuses : List (Nat × Bool))
  /-- VAUX_POWER_FAIL. R420 -/
  | vauxPowerFail
  /-- CLOCK_LOSS. R433 -/
  | clockLoss (pll : Bool)
  /-- THERMTRIP. R444 -/
  | thermtrip (channel : Nat)
  /-- SYNC_IN. R442 -/
  | syncIn (level : Bool)
  /-- BOARD_ALERT. R442 -/
  | boardAlert (level : Bool)
  /-- HOT_IN. R442 -/
  | hotIn (level : Bool)
  /-- INPUT_STUCK. R441 -/
  | inputStuck (input : Nat)
  /-- INPUT_REARM. R441 -/
  | inputRearm (input : Nat)
  /-- OUT_CONTENTION. R443 -/
  | outContention (signal : Nat) (level : Bool)
  /-- OUTPUT_REENABLE. R443 -/
  | outputReenable (mask : W32)
  /-- PMBUS_POLL. R430 -/
  | pmbusPoll (reads : List RailRead)
  /-- TRIVET_BOOT. R417 -/
  | trivetBoot
  /-- GET_INFO. R401 -/
  | getInfo (via : Via) (tag : Nat)
  /-- SUBSCRIBE. R403 -/
  | subscribe (via : Via) (tag : Nat) (cls : Nat) (mask : Nat)
  /-- READ_MON. R410 -/
  | readMon (via : Via) (tag : Nat) (idx : Nat) (cnt : Nat)
  /-- SCAN_WRITE. R406 -/
  | scanWrite (via : Via) (tag : Nat) (table : List ScanEntry)
  /-- COMP_WRITE. R408 -/
  | compWrite (via : Via) (tag : Nat) (sets : List CompSet)
  /-- TRIG_ARM. R409 -/
  | trigArm (via : Via) (tag : Nat) (convs : List TrigConv) (kind : TrigKind)
  /-- TRIG. R409 -/
  | trig (via : Via) (tag : Nat)
  /-- ILV_SET. R409 -/
  | ilvSet (via : Via) (tag : Nat) (pair : Nat) (chan : Nat) (frames : Nat)
  /-- READ_BBR. R401 -/
  | readBbr (via : Via) (tag : Nat) (seq : Nat) (cnt : Nat)
  /-- FLASH_READ. R401 -/
  | flashRead (via : Via) (tag : Nat) (addr : Nat) (len : Nat)
  /-- FLASH_PROGRAM. R413 -/
  | flashProgram (via : Via) (tag : Nat) (addr : Nat) (bytes : List Byte)
  /-- FLASH_ERASE. R413 -/
  | flashErase (via : Via) (tag : Nat) (addr : Nat) (len : Nat)
  /-- FLASH_OP_COMPLETE. R411 -/
  | flashOpComplete
  /-- FUSE_ADVANCE. R422 -/
  | fuseAdvance (via : Via) (tag : Nat) (req : FuseReq) (nonce : Nat) (sigOk : Bool)
  /-- BBR_ERASE. R419 -/
  | bbrErase (via : Via) (tag : Nat) (nonce : Nat) (sigOk : Bool)
  /-- TRIVET_RESTART. R416: by command, or by the watchdog -/
  | trivetRestart (via : Option Via) (tag : Nat)
  /-- MCTP_CONTROL. R399 -/
  | mctpControl (req : McpReq)
  /-- PLDM_MONITORING. R400 -/
  | pldmMonitoring (sensor : Nat)
  /-- PLDM_FIRMWARE_UPDATE. R415 -/
  | pldmFirmwareUpdate (op : FwOp)
  /-- SPDM. R424 -/
  | spdm (req : SpdmReq)
  /-- REPORT. R403 -/
  | report (sub : Nat)
  /-- MONITOR_DISPATCH. R407 -/
  | monitorDispatch
  /-- CONVERSION_COMPLETE. R405 -/
  | conversionComplete (conv : Nat) (value : Int) (offScale : Bool)
  /-- MON_WINDOW. R408 -/
  | monWindow (comp : Nat) (value : Int)
  /-- HOLDOFF_END. R408 -/
  | holdoffEnd (comp : Nat) (value : Int)
  /-- COMMON_TRIGGER_START. R409 -/
  | commonTriggerStart
  /-- MONITOR_PATH_CAL. R407 -/
  | monitorPathCal (channel : Nat) (start : Bool)
  /-- BBR_COMMIT. R418 -/
  | bbrCommit
  /-- BBR_SECOND_END. R420 -/
  | bbrSecondEnd
  /-- MEM_READY. R393 -/
  | memReady
  /-- HOST_LINK_UP. R393 -/
  | hostLinkUp (width : Nat) (speed : Nat) (flit : Bool)
  /-- WARMING_END. R438 -/
  | warmingEnd (h : Nat)
  /-- CONTENTION_CLEARED. R443 -/
  | contentionCleared (signal : Nat)
  /-- HEATER_HOLD_END. R433 -/
  | heaterHoldEnd
  deriving DecidableEq, Repr

end Sys2Proof
end

