-- ==== Sys2Proof/Decode.lean ====
section
/-! DEFINITION. The table gives no row of this block any bits: every command comes from outside by its own path, and the
step words a stream runs are taken apart where the sequencer reads them (Machine/Operands.lean, 05 R142). -/

namespace Sys2Proof

/-- The command a word of the table's bits spells: none, as no row has bits. -/
def decodeTableWord (_nbits _w : Nat) : Option Instr := none

end Sys2Proof
end

