-- ==== Sys2Proof/Config.lean ====
section
/-! DEFINITION. What the spec leaves to the analogue parts, to keys and to outside standards: free values with no
body. A claim holds whatever they are. -/

namespace Sys2Proof.Config

/-- The noise of the k-th conversion, in 1/1,024 u of a data row's scale (02, R56 to R60; 04, R104).
Free: the spec gives only its distribution. Log entry 1, DESIGN CHOICE. -/
opaque convNoise : Nat → Int

/-- Whether the k-th report of sigma_g in `PAN_NOISE` rounds up (02, Table 02-27 names no rounding). Log entry 2, DESIGN CHOICE. -/
opaque sigmaRoundUp : Nat → Bool

/-- e^x to within 4 ulp, as a function of the FP32 argument (06, R214, R216). Log entry 3, DESIGN CHOICE. -/
opaque expF : W32 → W32
/-- SILU(a) to within 4 ulp (06, R214). Log entry 3, DESIGN CHOICE. -/
opaque siluF : W32 → W32
/-- GELU(a) to within 4 ulp (06, R214). Log entry 3, DESIGN CHOICE. -/
opaque geluF : W32 → W32
/-- ln x (06, R216). Log entry 3, DESIGN CHOICE. -/
opaque lnF : W32 → W32
/-- x / √y, the normaliser of RMSN and LNORM, to within 4 ulp (06, R214). Log entry 3, DESIGN CHOICE. -/
opaque divSqrtF : W32 → W32 → W32
/-- The sine of a 32-bit phase, to 18 bits, with 17 fractional bits (08, R283). Log entry 4, DESIGN CHOICE. -/
opaque sine : BitVec 32 → Int
/-- Whether a PRBS-15 chip of 1 drives +AMP (08, R283 gives no sign). Log entry 4, DESIGN CHOICE. -/
opaque prbsUp : Bool
/-- An undefined word read at reset or after an abort (08 Table 08-10, 13 Table 13-15, 07 R234), by a counter.
Log entry 5, DESIGN CHOICE. -/
opaque freeWord : Nat → W32
/-- The k-th nonce of GET_INFO (13, R401). Log entry 6, DESIGN CHOICE. -/
opaque nonce : Nat → Nat
/-- A digest the spec does not form from this machine's state: measurement index, boot count (13, R424). Log entry 7, DESIGN CHOICE. -/
opaque measurement : Nat → Nat → Nat
/-- Heater segment gain g_s of a Pan's slot and segment, with 16 fractional bits, from calibration (08, R271). Log entry 8, DESIGN CHOICE. -/
opaque segGain : Nat → Nat → Nat
/-- Heater segment resistance of a Pan's slot and segment in milliohm, from calibration (08, R271). Log entry 8, DESIGN CHOICE. -/
opaque segRes : Nat → Nat → Nat
/-- The fused VCORE and VPAN points in mV (14, R431). Log entry 9, DESIGN CHOICE. -/
opaque fusedCore : Nat
/-- See `fusedCore`. -/
opaque fusedPan : Nat
/-- Cycles a Pan waited for a bank or for room (05, Table 05-19; 04, R121): they hang on the instants of the symbols, which
the model does not time. Log entry 37, DESIGN CHOICE. -/
opaque cycles : Nat → Nat
/-- The drive level that a column's level table in a calibration set gives for a weight, as twice its value over twice
C_max, on a bank of a Pan (02, R37, R43): calibration writes the tables. Log entry 111, DESIGN CHOICE. -/
opaque levelDrive : Nat → Nat → Bool → Nat → Int → Int → Nat
/-- The 4-bit offset trim of a ring in a calibration set of a Pan (02, R37). Log entry 111, DESIGN CHOICE. -/
opaque ringTrim : Nat → Nat → Nat → Nat → Nat
/-- The Vendor ID `TVM_VID`, which the spec names and gives no number (12, Table 12-2). Log entry 144, DESIGN CHOICE. -/
opaque tvmVid : Nat
/-- The JEDEC identity `TVM_JEDEC`, which the spec names and gives no number (16, R476). Log entry 144, DESIGN CHOICE. -/
opaque tvmJedec : Nat
/-- FP8 or FP32 values the spec leaves open at a corner: a free word by operands (06, R214). Log entry 3, DESIGN CHOICE. -/
opaque freeF : W32 → W32 → W32

end Sys2Proof.Config
end

