-- ==== Sys2Proof/Machine/Tab.lean ====
section
/-! DEFINITION. Sparse tables in one canonical form, and the bit-field and counting helpers every block uses. -/

namespace Sys2Proof.Machine

variable {α : Type}

/-- The value at index k; an unlisted index reads as `d k`. -/
def tget (d : Nat → α) : Tab α → Nat → α
  | [], k => d k
  | (i, v) :: t, k => if k = i then v else tget d t k

/-- Put v at k in rising order. -/
def tins (k : Nat) (v : α) : Tab α → Tab α
  | [] => [(k, v)]
  | (i, w) :: t => if k < i then (k, v) :: (i, w) :: t else if k = i then (k, v) :: t else (i, w) :: tins k v t

/-- Take k out. -/
def tdel (k : Nat) : Tab α → Tab α
  | [] => []
  | (i, w) :: t => if k = i then tdel k t else (i, w) :: tdel k t

/-- Set index k to v, keeping the canonical form. -/
def tset [DecidableEq α] (d : Nat → α) (t : Tab α) (k : Nat) (v : α) : Tab α :=
  if v = d k then tdel k t else tins k v t

/-- Change index k. -/
def tmod [DecidableEq α] (d : Nat → α) (t : Tab α) (k : Nat) (f : α → α) : Tab α :=
  tset d t k (f (tget d t k))

/-- All indices of a table from lo on, strictly rising, and none holding its default. -/
def twfFrom [DecidableEq α] (d : Nat → α) : Nat → Tab α → Bool
  | _, [] => true
  | lo, (i, v) :: t => decide (lo ≤ i) && decide (v ≠ d i) && twfFrom d (i + 1) t

/-- The canonical form: indices strictly rising, no entry equal to what an unlisted index reads as. -/
def twf [DecidableEq α] (d : Nat → α) (t : Tab α) : Bool := twfFrom d 0 t

/-- Bits [hi:lo] of a number. -/
def bits (n hi lo : Nat) : Nat := n / 2 ^ lo % 2 ^ (hi + 1 - lo)

/-- Bit b of a number. -/
def bit (n b : Nat) : Bool := n / 2 ^ b % 2 = 1

/-- A Bool as a bit. -/
def b2n (b : Bool) : Nat := if b then 1 else 0

/-- n placed at bit position lo. -/
def shl (n lo : Nat) : Nat := n * 2 ^ lo

/-- Set bit b of n to v. -/
def setBit (n b : Nat) (v : Bool) : Nat :=
  if bit n b then (if v then n else n - 2 ^ b) else (if v then n + 2 ^ b else n)

/-- A counter that saturates at max. -/
def sat (max n : Nat) : Nat := min max n

/-- A 16-bit saturating count. -/
def sat16 (n : Nat) : Nat := sat 0xFFFF n

/-- A 32-bit saturating count. -/
def sat32 (n : Nat) : Nat := sat 0xFFFFFFFF n

/-- n as a two's-complement value of w bits. -/
def sgn (w n : Nat) : Int :=
  let m := n % 2 ^ w
  if m < 2 ^ (w - 1) then (m : Int) else (m : Int) - 2 ^ w

/-- The two's-complement code of x in w bits. -/
def unsgn (w : Nat) (x : Int) : Nat := (x % (2 ^ w : Int)).toNat

/-- n rounded up to the next multiple of k (k = 0 leaves it). -/
def ceilMul (n k : Nat) : Nat := if k = 0 then n else (n + k - 1) / k * k

/-- n / k rounded up. -/
def ceilDiv (n k : Nat) : Nat := (n + k - 1) / k

/-- log2 n rounded up. -/
def clog2 (n : Nat) : Nat := if n ≤ 1 then 0 else Nat.log2 (n - 1) + 1

/-- Quotient rounded to nearest, ties away from zero. -/
def divAway (n : Int) (d : Nat) : Int :=
  let m := (2 * n.natAbs + d) / (2 * d)
  if n < 0 then -(m : Int) else m

/-- x clamped to lo..hi. -/
def clampI (lo hi x : Int) : Int := if x < lo then lo else if hi < x then hi else x

/-- Bytes of n, little-endian. -/
def leBytes : Nat → Nat → List Byte
  | 0, _ => []
  | k + 1, n => BitVec.ofNat 8 n :: leBytes k (n / 256)

/-- The number little-endian bytes spell. -/
def leNat : List Byte → Nat
  | [] => 0
  | b :: t => b.toNat + 256 * leNat t

/-- The elements of a list that replace element i. -/
def lset (l : List α) (i : Nat) (v : α) : List α := l.set i v

/-- Replace the first element that meets p, or leave the list. -/
def lmod (p : α → Bool) (f : α → α) : List α → List α
  | [] => []
  | x :: t => if p x then f x :: t else x :: lmod p f t

/-- The last n elements. -/
def takeLast (n : Nat) (l : List α) : List α := l.drop (l.length - n)

/-- Largest of a list of numbers. -/
def maxNat : List Nat → Nat
  | [] => 0
  | x :: t => max x (maxNat t)

/-- Sum of a list of numbers. -/
def sumNat : List Nat → Nat
  | [] => 0
  | x :: t => x + sumNat t

/-- Sum of a list of integers. -/
def sumInt : List Int → Int
  | [] => 0
  | x :: t => x + sumInt t

/-- The element with the least key; on a tie the earlier one. -/
def argMin (key : α → Nat) : List α → Option α
  | [] => none
  | x :: t =>
    match argMin key t with
    | none => some x
    | some y => if key y < key x then some y else some x

end Sys2Proof.Machine
end

