-- ==== Sys2Proof/Machine/Fp.lean ====
section
/-! DEFINITION. The number formats of 03 and 04: FP32, FP64, BF16 and FP8 E4M3, with exact values and one rounding. -/

namespace Sys2Proof.Machine

/-- The value of an encoding: (-1)^neg × m × 2^e, an infinity, or NaN. -/
inductive FVal where
  | nan
  | inf (neg : Bool)
  | fin (neg : Bool) (m : Nat) (e : Int)
  deriving DecidableEq, Repr

/-- A binary format: mantissa bits, least normal exponent, exponent bits. -/
structure FFmt where
  mb   : Nat
  emin : Int
  eb   : Nat

/-- FP32. -/
def fp32 : FFmt := ⟨23, -126, 8⟩
/-- FP64. -/
def fp64 : FFmt := ⟨52, -1022, 11⟩
/-- BF16. -/
def bf16 : FFmt := ⟨7, -126, 8⟩
/-- FP8 E4M3 (03, R78); its infinity code does not exist, which callers handle. -/
def e4m3 : FFmt := ⟨3, -6, 4⟩

/-- Rounding: to nearest even, to nearest with ties away from zero, or away from zero. -/
inductive RMode where
  | even
  | away
  | up
  deriving DecidableEq, Repr

/-- Round n / d to an integer. -/
def rndQuot (r : RMode) (n d : Nat) : Nat :=
  let q := n / d
  let t := n % d
  match r with
  | .even => if 2 * t < d then q else if d < 2 * t then q + 1 else if q % 2 = 0 then q else q + 1
  | .away => if 2 * t < d then q else q + 1
  | .up => if t = 0 then q else q + 1

/-- floor(log2 (n / d × 2^e)) for positive n and d. -/
def flog2 (n d : Nat) (e : Int) : Int :=
  let l : Int := (Nat.log2 n : Int) - Nat.log2 d
  let ok : Bool := if 0 ≤ l then decide (d * 2 ^ l.toNat ≤ n) else decide (d ≤ n * 2 ^ (-l).toNat)
  (if ok then l else l - 1) + e

/-- The magnitude code of n / d × 2^e rounded once, as though the exponent range went on for ever. -/
def rndMag (f : FFmt) (r : RMode) (n d : Nat) (e : Int) : Nat :=
  if n = 0 ∨ d = 0 then 0 else
  let ex := max (flog2 n d e) f.emin
  let q := ex - f.mb
  let m := if q ≤ e then rndQuot r (n * 2 ^ (e - q).toNat) d else rndQuot r n (d * 2 ^ (q - e).toNat)
  (ex - f.emin).toNat * 2 ^ f.mb + m

/-- The code of infinity. -/
def FFmt.infCode (f : FFmt) : Nat := (2 ^ f.eb - 1) * 2 ^ f.mb

/-- The weight of the sign bit. -/
def FFmt.signW (f : FFmt) : Nat := 2 ^ (f.eb + f.mb)

/-- The value an encoding of an IEEE format stands for. -/
def fdec (f : FFmt) (n : Nat) : FVal :=
  let neg := bit n (f.eb + f.mb)
  let ex := n / 2 ^ f.mb % 2 ^ f.eb
  let m := n % 2 ^ f.mb
  if ex = 2 ^ f.eb - 1 then (if m = 0 then .inf neg else .nan)
  else if ex = 0 then .fin neg m (f.emin - f.mb)
  else .fin neg (m + 2 ^ f.mb) (f.emin - f.mb + ((ex : Int) - 1))

/-- Encode an IEEE format; NaN takes the code given. -/
def fenc (f : FFmt) (r : RMode) (nanCode : Nat) : FVal → Nat
  | .nan => nanCode
  | .inf neg => b2n neg * f.signW + f.infCode
  | .fin neg m e => b2n neg * f.signW + min f.infCode (rndMag f r m 1 e)

/-- Exact signed mantissa over a common exponent. -/
def sgnMant (neg : Bool) (m : Nat) : Int := if neg then -(m : Int) else m

/-- The exact sum of two values; a zero sum is +0 unless both are -0 (IEEE, to nearest even). -/
def vadd : FVal → FVal → FVal
  | .nan, _ => .nan
  | _, .nan => .nan
  | .inf a, .inf b => if a = b then .inf a else .nan
  | .inf a, _ => .inf a
  | _, .inf b => .inf b
  | .fin na ma ea, .fin nb mb eb =>
    let e := min ea eb
    let s := sgnMant na (ma * 2 ^ (ea - e).toNat) + sgnMant nb (mb * 2 ^ (eb - e).toNat)
    if s = 0 then .fin (na && nb && decide (ma = 0) && decide (mb = 0)) 0 e
    else .fin (decide (s < 0)) s.natAbs e

/-- The negated value. -/
def vneg : FVal → FVal
  | .nan => .nan
  | .inf a => .inf !a
  | .fin n m e => .fin (!n) m e

/-- The exact product. -/
def vmul : FVal → FVal → FVal
  | .nan, _ => .nan
  | _, .nan => .nan
  | .inf a, .inf b => .inf (a != b)
  | .inf a, .fin n m _ => if m = 0 then .nan else .inf (a != n)
  | .fin n m _, .inf a => if m = 0 then .nan else .inf (a != n)
  | .fin na ma ea, .fin nb mb eb => .fin (na != nb) (ma * mb) (ea + eb)

/-- A quotient, rounded once into the format (IEEE corners). -/
def vdivEnc (f : FFmt) (r : RMode) (nanCode : Nat) : FVal → FVal → Nat
  | .nan, _ => nanCode
  | _, .nan => nanCode
  | .inf _, .inf _ => nanCode
  | .inf a, .fin n _ _ => b2n (a != n) * f.signW + f.infCode
  | .fin n _ _, .inf a => b2n (a != n) * f.signW
  | .fin na ma ea, .fin nb mb eb =>
    if mb = 0 then (if ma = 0 then nanCode else b2n (na != nb) * f.signW + f.infCode)
    else b2n (na != nb) * f.signW + min f.infCode (rndMag f r ma mb (ea - eb))

/-- a < b as values; false when either is NaN. -/
def vlt : FVal → FVal → Bool
  | .nan, _ => false
  | _, .nan => false
  | .inf a, .inf b => a && !b
  | .inf a, .fin _ _ _ => a
  | .fin _ _ _, .inf b => !b
  | .fin na ma ea, .fin nb mb eb =>
    let e := min ea eb
    decide (sgnMant na (ma * 2 ^ (ea - e).toNat) < sgnMant nb (mb * 2 ^ (eb - e).toNat))

/-- A NaN result of FP32: quiet, with a sign and payload the spec leaves open (free, log entry 14, DESIGN CHOICE). -/
def qnan32 (a b : W32) : Nat := (0x7FC00000#32 ||| (Config.freeF a b &&& 0x803FFFFF#32)).toNat

/-- The value of a FP32 encoding. -/
def f32v (a : W32) : FVal := fdec fp32 a.toNat
/-- Round an exact value to FP32, nearest even; a NaN carries the free payload of its operands. -/
def f32r (a b : W32) (v : FVal) : W32 := BitVec.ofNat 32 (fenc fp32 .even (qnan32 a b) v)
/-- FP32 sum. -/
def f32add (a b : W32) : W32 := f32r a b (vadd (f32v a) (f32v b))
/-- FP32 difference. -/
def f32sub (a b : W32) : W32 := f32r a b (vadd (f32v a) (vneg (f32v b)))
/-- FP32 product. -/
def f32mul (a b : W32) : W32 := f32r a b (vmul (f32v a) (f32v b))
/-- FP32 quotient. -/
def f32div (a b : W32) : W32 := BitVec.ofNat 32 (vdivEnc fp32 .even (qnan32 a b) (f32v a) (f32v b))
/-- a < b. -/
def f32lt (a b : W32) : Bool := vlt (f32v a) (f32v b)
/-- An exact value as FP32. -/
def f32of (v : FVal) : W32 := f32r 0 0 v
/-- An integer as FP32, rounded to nearest even. -/
def f32int (n : Int) : W32 := f32of (.fin (decide (n < 0)) n.natAbs 0)
/-- n / d as FP32, rounded once to nearest even. -/
def f32rat (n : Int) (d : Nat) : W32 :=
  BitVec.ofNat 32 (b2n (decide (n < 0)) * fp32.signW + min fp32.infCode (rndMag fp32 .even n.natAbs d 0))
/-- Neither infinite nor NaN. -/
def f32fin (a : W32) : Bool := match f32v a with | .fin _ _ _ => true | _ => false
/-- The value of a finite FP32 encoding as a rational. -/
def f32q (a : W32) : Option Rat :=
  match f32v a with
  | .fin neg m e => some ((sgnMant neg m : Rat) * (2 : Rat) ^ e)
  | _ => none
/-- NaN. -/
def f32nan (a : W32) : Bool := match f32v a with | .nan => true | _ => false
/-- Plus or minus zero. -/
def f32zero (a : W32) : Bool := match f32v a with | .fin _ 0 _ => true | _ => false
/-- |a|. -/
def f32abs (a : W32) : W32 := a &&& 0x7FFFFFFF#32
/-- The negated value. -/
def f32neg (a : W32) : W32 := a ^^^ 0x80000000#32
/-- The larger of two values. -/
def f32max (a b : W32) : W32 := if f32lt a b then b else a

/-- A NaN result of FP64: quiet, with a sign and payload the spec leaves open (free, log entry 14, DESIGN CHOICE). -/
def qnan64 (a b : W64) : Nat :=
  (0x7FF8000000000000#64 ||| ((Config.freeF (a.extractLsb' 32 32) (b.extractLsb' 32 32) ++
    Config.freeF (a.extractLsb' 0 32) (b.extractLsb' 0 32)) &&& 0x8007FFFFFFFFFFFF#64)).toNat

/-- FP64 sum; NaN payload free as in FP32. -/
def f64add (a b : W64) : W64 :=
  BitVec.ofNat 64 (fenc fp64 .even (qnan64 a b) (vadd (fdec fp64 a.toNat) (fdec fp64 b.toNat)))
/-- The negated FP64 value. -/
def f64neg (a : W64) : W64 := a ^^^ 0x8000000000000000#64
/-- FP64 difference. -/
def f64sub (a b : W64) : W64 := f64add a (f64neg b)
/-- A FP32 encoding as FP64, exact; of a NaN the payload is free. -/
def f64of32 (a : W32) : W64 :=
  BitVec.ofNat 64 (fenc fp64 .even (qnan64 (0#32 ++ a) 0) (f32v a))
/-- The exact sum of two FP64 values rounded once to FP32 (04, R128). -/
def f32of64sum (h l : W64) : W32 :=
  f32r (h.extractLsb' 32 32) (l.extractLsb' 32 32) (vadd (fdec fp64 h.toNat) (fdec fp64 l.toNat))

/-- The value of a BF16 encoding, as FP32 (exact). -/
def bf16to32 (a : Nat) : W32 := BitVec.ofNat 32 (a % 2 ^ 16 * 2 ^ 16)

/-- The value of an E4M3 encoding as FP32 (03, R78); NaN stays NaN. -/
def e4m3to32 (a : Nat) : W32 :=
  let neg := bit a 7
  let ex := a / 8 % 16
  let m := a % 8
  if ex = 15 ∧ m = 7 then BitVec.ofNat 32 (qnan32 (BitVec.ofNat 32 a) 0)
  else if ex = 0 then f32of (.fin neg m (-9))
  else f32of (.fin neg (m + 8) ((ex : Int) - 10))

/-- A group scale: NaN reads as 0 (03, R78). -/
def groupScale (a : Nat) : W32 := if a % 128 = 127 then 0 else e4m3to32 a

/-- FP32 to E4M3 (03, R101): code and whether it saturated. -/
def toE4m3 (a : W32) : Nat × Bool :=
  match f32v a with
  | .nan => (0, true)
  | .inf neg => (b2n neg * 128 + 0x7E, true)
  | .fin neg m e =>
    let c := rndMag e4m3 .away m 1 e
    if 0x7E < c then (b2n neg * 128 + 0x7E, true) else (b2n neg * 128 + c, false)

/-- FP32 to BF16 (03, R101): code and whether it saturated. -/
def toBf16 (a : W32) : Nat × Bool :=
  match f32v a with
  | .nan => (0x7FC0, true)
  | .inf neg => (b2n neg * 0x8000 + 0x7F7F, true)
  | .fin neg m e =>
    let c := rndMag bf16 .away m 1 e
    if 0x7F7F < c then (b2n neg * 0x8000 + 0x7F7F, true) else (b2n neg * 0x8000 + c, false)

/-- A peak as BF16, rounded towards plus infinity; below zero it is 0 (03, Table 03-4). -/
def toPeak (a : W32) : BitVec 16 :=
  match f32v a with
  | .fin false m e => BitVec.ofNat 16 (min bf16.infCode (rndMag bf16 .up m 1 e))
  | _ => 0

/-- Round a value to an integer, ties away from zero; none for NaN, and the flag for an infinity. -/
def roundAway : FVal → Option Int
  | .fin neg m e =>
    let q := if 0 ≤ e then m * 2 ^ e.toNat else rndQuot .away m (2 ^ (-e).toNat)
    some (sgnMant neg q)
  | _ => none

/-- One promotion of t into the CP64 pair (S, C) (04, R119). -/
def cp64Promote (e : W32 × W32) (t : W32) : W32 × W32 :=
  let n := f32add e.1 t
  if f32fin e.1 && f32fin t && f32fin n then
    let d := if !(f32lt (f32abs e.1) (f32abs t)) then f32add (f32sub e.1 n) t else f32add (f32sub t n) e.1
    (n, f32add e.2 d)
  else (n, 0)

/-- two_sum in FP32 (04, R127, R132). -/
def twoSum32 (a b : W32) : W32 × W32 :=
  let x := f32add a b
  let z := f32sub x a
  (x, f32add (f32sub a (f32sub x z)) (f32sub b z))

/-- two_sum in FP64 (04, R127). -/
def twoSum64 (a b : W64) : W64 × W64 :=
  let x := f64add a b
  let z := f64sub x a
  (x, f64add (f64sub a (f64sub x z)) (f64sub b z))

/-- CP64 atomic add of (s, c) into (S, C) (04, R132). -/
def cp64Atomic (t o : W32 × W32) : W32 × W32 :=
  let r := twoSum32 t.1 o.1
  if f32fin t.1 && f32fin t.2 && f32fin o.1 && f32fin o.2 && f32fin r.1 then
    (r.1, f32add (f32add t.2 r.2) o.2)
  else (f32add (f32add (f32add t.1 o.1) o.2) t.2, 0)

/-- Spill of (S, C) into the CP128 element (H, L) (04, R127). -/
def cp128Spill (hl : W64 × W64) (e : W32 × W32) : W64 × W64 :=
  let a := twoSum64 hl.1 (f64of32 e.1)
  let b := twoSum64 a.1 (f64of32 e.2)
  (b.1, f64add hl.2 (f64add a.2 b.2))

/-- The value of a CP64 element (04, R129): S + C rounded once; a non-finite S stands. -/
def cp64Val (e : W32 × W32) : W32 := if f32fin e.1 then f32add e.1 e.2 else e.1

/-! ## The accuracy of the vector engine's functions (06, R214, R216)

Each function below gives the exact value of its rational argument to a relative error under 2^-100. -/

/-- The whole square root of n, for n below 4^b. -/
def isqrt (n : Nat) : Nat → Nat
  | 0 => 0
  | b + 1 =>
    let r := 2 * isqrt (n / 4) b + 1
    if r * r ≤ n then r else r - 1

/-- e^(n/d) in 2^-320, for n/d at most 512: 64 terms of the series at n/d/1,024, squared ten times. -/
def expFix (n d : Nat) : Nat :=
  let one := 2 ^ 320
  let r := n * one / d / 1024
  let t := (List.range 64).foldl (fun acc i => one + r * acc / one / (64 - i)) one
  (List.range 10).foldl (fun y _ => y * y / one) t

/-- e^x; beyond ±512, where FP32 holds neither e^x nor anything formed from it, as at ±512. -/
def expQ (x : Rat) : Rat :=
  let e : Rat := if 512 < |x| then expFix 512 1 else expFix x.num.natAbs x.den
  if x < 0 then 2 ^ 320 / e else e / 2 ^ 320

/-- a / (1 + e^-a). -/
def siluQ (a : Rat) : Rat := a / (1 + expQ (-a))

/-- 0.5a(1 + tanh u) = aE / (E + 1) with E = e^2u. -/
def geluQ (a : Rat) : Rat :=
  let e := expQ (2 * (797885 / 1000000 * (a + 44715 / 1000000 * a ^ 3)))
  a * e / (e + 1)

/-- x / √y for a positive y. -/
def divSqrtQ (x y : Rat) : Option Rat :=
  if y ≤ 0 then none else some (x * y.den * 2 ^ 128 / isqrt (y.num.natAbs * y.den * 2 ^ 256) 512)

/-- A rational as FP32, rounded once to nearest even. -/
def f32ofQ (x : Rat) : W32 := f32rat x.num x.den

/-- One FP32 unit in the last place at x. -/
def ulpQ (x : Rat) : Rat :=
  if x = 0 then 1 / 2 ^ 149 else (2 : Rat) ^ (max (flog2 x.num.natAbs x.den 0) (-126) - 23)

/-- f lies within 4 ulp of the exact value x; an infinity counts as 2^128 of its sign, and so does all beyond it. The
test lets 2^-64 ulp more pass, for the error of x (log entry 3, DESIGN CHOICE). -/
def nearQ (x : Rat) (f : W32) : Bool :=
  let x := if (2 : Rat) ^ 128 < x then 2 ^ 128 else if x < -2 ^ 128 then -2 ^ 128 else x
  let v : Option Rat := match f32v f with
    | .nan => none
    | .inf neg => some (if neg then -2 ^ 128 else 2 ^ 128)
    | .fin neg m e => some ((sgnMant neg m : Rat) * (2 : Rat) ^ e)
  match v with
  | some v => decide (|v - x| ≤ ulpQ x * (4 + 1 / 2 ^ 64))
  | none => false

/-- A free result held to R214's 4 ulp: the free value where it lies within them, else the exact value rounded. Where the
exact value is not a number the result is open. -/
def within4 (x : Option Rat) (f : W32) : W32 :=
  match x with
  | some x => if nearQ x f then f else f32ofQ x
  | none => f

end Sys2Proof.Machine
end

