-- ==== Sys2Proof/Machine/State.lean ====
section
/-! DEFINITION. The state of the K256: every register, table, queue, counter and pin the spec gives the part, as plain data. -/

namespace Sys2Proof.Machine

/-- The reasons the machine stops. -/
inductive Fault where
  /-- A command names a unit the part does not have (a Pan at or beyond 272, a Basket at or beyond 16, a stream at
  or beyond 131,072, …: 00 R4, 02 R11, 07 R226). No such command can reach the part. Raised by every meaning that
  takes a unit number. Safe: the machine stops where the hardware has nothing to do. -/
  | noSuchUnit
  deriving DecidableEq, Repr

/-- The reasons a command has no meaning. -/
inductive Refusal where
  /-- The command has no meaning in this model yet. Raised only by `exec`'s arms. Safe. -/
  | notModelled (mnemonic : String)
  deriving DecidableEq, Repr

/-! ## Events and reports -/

/-- An event record (10, Table 10-11) but for its SEQ, which the FEU gives. -/
structure EventRec where
  time   : Nat
  code   : Nat
  cls    : Nat
  unit   : Nat
  index  : Nat
  stream : Option Nat
  step   : Nat
  detail : Nat
  deriving DecidableEq, Repr

/-- A numbered event record. -/
structure SeqEvent where
  ev  : EventRec
  seq : Nat
  deriving DecidableEq, Repr

/-- A condition report or notice (13, Table 13-5, R427). -/
structure Notice where
  kind   : Nat
  time   : Nat
  index  : Nat
  detail : Int
  deriving DecidableEq, Repr

/-- The payload kinds of the black-box record (13, Table 13-12). -/
inductive BbrKind where
  | event (e : SeqEvent)
  | panRetire (pan reason : Nat)
  | fieldRepair (pan : Nat) (row col0 col1 : W32)
  | basketRetire (h cause : Nat)
  | portRetire (port cause : Nat)
  | portUnretire (port : Nat)
  | boot (bank version svn resetKind outcome inc : Nat)
  | powerLoss (count first last : Nat)
  | lost (count first last : Nat)
  | fwUpdate (bank version outcome : Nat)
  | sector (num erases : Nat)
  | erased (lastSeq : Nat)
  deriving DecidableEq, Repr

/-- A record waiting for, or in, the black box: when it was first made and whether it is a carried copy (13, Table 13-11). -/
structure BbrRec where
  seq     : Nat
  time    : Nat
  carried : Bool
  kind    : BbrKind
  deriving DecidableEq, Repr

/-! ## Streams and steps -/

/-- An open loop (07, Table 07-2; 06, R187). -/
structure LoopFrame where
  start     : Nat
  endIdx    : Nat
  count     : Nat
  remaining : Nat
  deriving DecidableEq, Repr

/-- A return address with its saved loop depth (05, R161). -/
structure CallFrame where
  ret   : Nat
  depth : Nat
  deriving DecidableEq, Repr

/-- The sequencer flags (05, R152). -/
structure Flags where
  widen   : Bool := false
  outSat  : Bool := false
  potOvf  : Bool := false
  partFlag : Bool := false
  deriving DecidableEq, Repr

/-- The retry record of a stream (06, R223), and the held parts of an AADD close; `cfg` is the CFG field, epoch and digest,
of the first issue, which its units keep (07, R252; 11, R369). -/
structure RetryRec where
  opc      : Nat
  block    : Nat
  failed   : Nat
  firstAt  : Nat
  firstTag : Nat
  units    : Nat
  cfg      : Nat
  deriving DecidableEq, Repr

/-- The FP32 results of a ROT with CHAIN = 1 that wait for their QNT (06, R211): vectors of C values. -/
structure Chain where
  uid  : Nat
  c    : Nat
  n    : Nat
  vals : List (List W32)
  deriving DecidableEq, Repr

/-- The states of a stream (07, Table 07-3). -/
inductive StrState where
  | idle
  | pending
  | resident
  | suspended
  | migrating
  | ended
  | aborted
  deriving DecidableEq, Repr

/-- What the part holds of a stream: its state, the descriptor as last read (07, R228) and its context (07, R229). -/
structure Stream where
  st       : StrState := .idle
  cause    : Nat := 0
  bsk      : Nat := 0
  func     : Nat := 0
  img      : Nat := 0
  tbl      : Nat := 0
  tblOff   : Nat := 0
  tblSteps : Nat := 0
  ptr      : Nat := 0
  aff      : Nat := 0
  winBase  : Nat := 0
  winLen   : Nat := 0
  ctx      : Nat := 0
  cring    : Nat := 0
  crLog2   : Nat := 0
  crTail   : Nat := 0
  shnd     : Nat := 0
  scnt     : Nat := 0
  migb     : Nat := 0
  migl     : Nat := 0
  flags    : Flags := {}
  loops    : List LoopFrame := []
  calls    : List CallFrame := []
  retry    : Option RetryRec := none
  chain    : Option Chain := none
  /-- The previous step of the stream was a ROT with CHAIN = 1 (R211). -/
  chained  : Bool := false
  /-- The last byte of host memory the stream has written since its last flushing read (07, R246). -/
  hostW    : Option Nat := none
  /-- Head step's token wait: since when and on which token code, none when it does not wait (05, R156, R158). -/
  waitSince : Option (Nat × Nat) := none
  /-- Issue is held: the Basket drains, or a HALT has issued, or a DBRK suspends (05, R163; 14, R439). -/
  halting  : Bool := false
  /-- The stream came to its YIELD with a test or migration pending (05, R183). -/
  atYield  : Bool := false
  /-- A migration's target and whether the stream was RESIDENT before (07, R238). -/
  migTo    : Option Nat := none
  wasRes   : Bool := false
  /-- Images wait in the migration area for step 6 of R238 (07, R239). -/
  migSaved : Bool := false
  migPots  : List (Nat × Nat × Nat × Nat) := []
  /-- Who waits for the migration's RESULT: `GCTL_STRM_STAT`, or a queue command (07, Table 07-11; 12, Table 12-6). -/
  migReg   : Bool := false
  migBy    : Option (Nat × Nat) := none
  deriving DecidableEq, Repr

/-- The header of a step in flight and what it reports at completion (05, Table 05-4; 06, Table 06-3). -/
structure StepRec where
  uid      : Nat
  sid      : Nat
  h        : Nat
  opc      : Nat
  idx      : Nat
  ord      : Nat
  sig      : Nat
  /-- The step's own work is done. -/
  done     : Bool
  status   : Nat
  detail   : Nat
  failed   : Nat
  replays  : Nat
  convSat  : Bool
  potOvf   : Bool
  outSat   : Bool
  widen    : Bool
  /-- Pots the step targets, and the scale entries it names as first handle and count, for R124, R92 and R213. -/
  pots     : List Nat
  scales   : List (Nat × Nat)
  /-- Fabric units of the step still without an answer. -/
  units    : Nat
  /-- Effective block offset (06, R186). -/
  block    : Nat
  firstAt  : Nat
  firstTag : Nat
  total    : Nat
  /-- The CFG field its units carry (07, R252; 11, R369). -/
  cfg      : Nat
  /-- The step carried RETRY = 1, and the record it retries (06, R224). -/
  retry    : Bool
  retryOf  : Option RetryRec
  /-- A chained QNT completes together with this ROT (06, R211). -/
  chainOf  : Option Nat
  /-- A completion stalled on the full ring was counted already (07, R233). -/
  stalled  : Bool
  deriving DecidableEq, Repr

/-! ## Weights, Pans -/

/-- The weight descriptor of Table 06-9 with the tensor scale latched at issue (05, R80). -/
structure WDesc where
  src   : Nat
  space : Nat
  wfmt  : Nat
  sgrp  : Nat
  rows  : Nat
  cols  : Nat
  gsc   : Nat
  tsc   : Nat
  cb    : Nat
  st    : W32
  /-- Crock offset of the window the offsets count from. -/
  win   : Nat
  deriving DecidableEq, Repr

/-- A weight bank: what was written (02, R42 to R44; 04, R107, R108; 05, R170). -/
structure Bank where
  valid   : Bool := false
  desc    : Option WDesc := none
  tile    : Nat := 0
  /-- The local copy: the code of every ring of the data slots, none where the drive for weight 0 was written (R44; 05, R174). -/
  codes   : List (List (Option Nat)) := []
  /-- The codebook a W4C bank was written from (R37; 03, R75). -/
  cb      : List Int := []
  /-- What the hold capacitors hold: twice the decoded value of every ring, slot by slot (W4F has halves). -/
  w2      : List (List Int) := []
  /-- The calibration set whose level tables and ring trims the last write or refresh went through (R37, R44, R50). -/
  calId   : Nat := 0
  /-- Twice C_max. -/
  cmax2   : Nat := 0
  /-- Group scales s_g as FP32, slot by slot. -/
  sg      : List (List W32) := []
  writtenAt : Nat := 0
  /-- The local copy holds a parity error that its next reading will find (02, R44, R48). -/
  copyBad : Bool := false
  deriving DecidableEq, Repr

/-- The states of a Pan (02, Table 02-13). -/
inductive PanMode where
  | inService
  | spare
  | calibrating
  | suspect
  | retired
  deriving DecidableEq, Repr

/-- A power tap of one band (02, Table 02-25, R55, R58). -/
structure Tap where
  stale   : Bool := true
  level   : Int := 0
  seen    : Bool := false
  low     : Nat := 0
  /-- When the band last met the loss test of R55, plus one; 0 never (10, R322). -/
  metAt   : Nat := 0
  staleAt : Nat := 0
  staleTold : Bool := false
  deriving DecidableEq, Repr

/-- What one row, converter and wiring has accumulated in a blind-trim window, with exact sums (09, R298). -/
structure BlindSum where
  sy : Rat := 0
  sp : Rat := 0
  sd : Rat := 0
  sq : Rat := 0
  n  : Nat := 0
  deriving DecidableEq, Repr

/-- One group block: the vectors, codes and latched values it runs on (02, R49, R53; 10, R316). -/
structure Block where
  step    : Nat
  sid     : Nat
  tile    : Nat
  kb      : Nat
  rb      : Nat
  group   : Nat
  gsize   : Nat
  batch   : Nat
  /-- Pass of an MVMW: 0 an MVM, 1 high, 2 low (03, R97). -/
  pass    : Nat
  ga      : Nat
  fast    : Bool
  rate    : Nat
  /-- v = c - z per vector and element of the group. -/
  vals    : List (List Int)
  sa      : W32
  /-- Leaf index within its window. -/
  leaf    : Nat
  window  : Nat
  c1Test  : Bool
  /-- Pan whose storage holds the window. -/
  home     : Nat
  /-- Saturated conversions have been counted; every run of the block so far failed by saturation alone (10, R313). -/
  satOnly : Bool
  deriving DecidableEq, Repr

/-- A run of a block: offset-removed partials y and dequantised partials q, row by row, vector by vector
(04, R109), and the tests it failed (02, R51; 04, R106). -/
structure Run where
  y        : List (List W32)
  q        : List (List W32)
  /-- First failing test as Table 10-12 codes it, 0 when none. -/
  failCode : Nat
  vecFails : Nat
  blkFails : Nat
  sats     : Nat
  /-- The band of a tap loss that fails the run (02, R55). -/
  tap      : Option Nat
  /-- The Pan that ran it, and what its conversions add to that Pan's blind-trim sums if it commits (09, R298). -/
  pan      : Nat
  sums     : Tab BlindSum
  deriving DecidableEq, Repr

/-- A BF20 leaf of a window: the shared exponent of each set and the mantissas, by vector then row
(04, R112); the sign kept beside a marker (04, R118). -/
structure Leaf where
  exps  : List (List Nat)
  mants : List (List Int)
  neg   : List (List Bool)
  /-- The low pass of an MVMW has been added. -/
  low   : Bool
  deriving DecidableEq, Repr

/-- A promotion window in a Pan's BF20 storage (04, R117). -/
structure Window where
  id      : Nat
  step    : Nat
  sid     : Nat
  rb      : Nat
  batch   : Nat
  nvec    : Nat
  /-- Leaves in walk order; none while a leaf's block has not committed. -/
  leaves  : List (Option Leaf)
  /-- No further group joins it. -/
  closed  : Bool
  /-- Its place among the Pan's windows by the moment it became ready to promote (01, R17); none before. -/
  ready   : Option Nat
  /-- Elements (slot, column) already promoted. -/
  promoted : List (Nat × Nat)
  /-- A block of the window used saturated codes (04, R106). -/
  convSat : Bool
  deriving DecidableEq, Repr

/-- A replay ladder under way on a Pan (10, R313). -/
structure Ladder where
  blk      : Block
  rung     : Nat
  first    : Nat
  band     : Nat
  satOnly  : Bool
  spareRun : Option Run
  sparePan : Nat
  startAt  : Nat
  /-- A replay for a parity error in committed entries: a pass raises no CHK_MISMATCH (04, R116). -/
  quiet    : Bool
  deriving DecidableEq, Repr

/-- A sampled block whose comparison is not yet over (10, R323 to R325). -/
structure Sample where
  blk   : Block
  orig  : Run
  spare : Option Run
  sparePan : Nat
  failed : Nat
  deriving DecidableEq, Repr

/-- Work in a Pan's write queue (06, R197). -/
inductive WItem where
  | wld (uid : Nat) (d : WDesc) (tile : Nat)
  | wref (uid banks : Nat)
  /-- The WLD that the sequencer reissues for a bank whose local copy was found bad (02, R48). -/
  | reload (bankB : Bool) (d : WDesc) (tile : Nat)
  deriving DecidableEq, Repr

/-- One step of a Pan's walk or swap in its compute queue (05, R169; 06, R197). -/
inductive CItem where
  /-- A tile of an MVM walk and batch block: step, tile, batch block, group and pass come next in `done`. -/
  | tile (uid tile batch : Nat)
  | wsw (uid : Nat)
  deriving DecidableEq, Repr

/-- A blind correction of one row, converter and wiring: offset in 1/65,536 u, gain in 2^-32, drifts since the
last commit (09, R298, R299). -/
structure Blind where
  off   : Int := 0
  gain  : Int := 4294967296
  deriving DecidableEq, Repr

/-- A Pan (02, R64 to R68), its banks, queues and BF20 storage, and what CAL keeps of it (09). -/
structure Pan where
  mode      : PanMode
  slot      : Option Nat
  reason    : Nat := 0
  timeouts  : Nat := 0
  suspectLeft : Nat := 0
  fast      : Bool := false
  margin    : Nat := 0
  group     : Nat := 0
  rate      : Nat := 0
  selB      : Bool := false
  a         : Bank := {}
  b         : Bank := {}
  /-- The column DACs are busy with a write or refresh until this time (02, Tables 02-4, 02-19). -/
  wrUntil   : Nat := 0
  wrB       : Bool := false
  refreshCnt : Nat := 0
  rowSpare  : W32
  colSpare0 : W32
  colSpare1 : W32
  mapRow    : W32
  mapCol0   : W32
  mapCol1   : W32
  chkCfg    : W32 := 0x00002828#32
  vecFail   : Nat := 0
  blkFail   : Nat := 0
  taps      : Tab Tap := []
  tapCfg    : W32 := 0x00000032#32
  tapFail   : Option Nat := none
  sigma     : Nat := 0
  enob      : Nat := 0
  blockCnt  : Nat := 0
  computeQ  : List CItem := []
  writeQ    : List WItem := []
  /-- Groups and passes of the tile at the head of the compute queue already run. -/
  progress  : Nat := 0
  windows   : List Window := []
  nextWin   : Nat := 0
  nextReady : Nat := 0
  /-- The modulators drive level 0 on every column (02, R30). -/
  level0    : Bool := true
  /-- The calibration set in force: converter, band and check corrections, level tables, ring trims, Weave settings
  (09, R294); 0 is what the factory left. -/
  calId     : Nat := 0
  /-- Segment selectors of the Pan's rings and couplers (09, R303). -/
  segSel    : Nat := 0
  /-- The low-pass buffer (04, R483). -/
  lowBuf    : Option (Block × Run) := none
  /-- The group whose low pass comes next: home Pan, window and leaf of its high pass (03, R97). -/
  lastHigh  : Option (Nat × Nat × Nat) := none
  ring      : List Block := []
  /-- Ladders and sampled comparisons under way, in order of detection (10, R315). -/
  ladders   : List Ladder := []
  samples   : List Sample := []
  /-- Bytes of a tile that has come from a global source, by offset (05, R173). -/
  stage     : Tab Byte := []
  staged    : Option (Nat × Nat) := none
  /-- Spare allowance used in this ramp interval, symbols (10, R319). -/
  allowance : Nat := 0
  blind     : Tab Blind := []
  /-- The sums of the blind-trim window under way, by `blindIx`, and when it began (09, R298). -/
  sums      : Tab BlindSum := []
  winAt     : Nat := 0
  kTh       : Int := 0
  trimOfs   : Int := 0
  /-- Planned levels: of interval k-1, k, k+1 and k+2 (05, R178). -/
  lvlPrev   : Nat := 0
  lvlNow    : Nat := 0
  lvlNext   : Nat := 0
  lvlSent   : Nat := 0
  /-- Weighted drive time of this interval's data symbols in ps, and that the Pan met an unplanned wait, or was held by
  pacing, in it (05, R176, R177, R179). -/
  drove     : Nat := 0
  waited    : Bool := false
  paced     : Bool := false
  early     : Bool := false
  lim       : Bool := false
  /-- The start-up sweep has ended without a converged sweep of the Pan (09, Table 09-15). -/
  noCal     : Bool := false
  /-- The RATE margin that R320 applies whatever the policy (10). -/
  forceRate : Bool := false
  lastCal   : Nat := 0
  ofsDrift  : Nat := 0
  gainDrift : Nat := 0
  refStale  : Bool := false
  refStaleAt : Nat := 0
  refStaleTold : Bool := false
  /-- When a reset last set the stale flags of the taps (02, Table 02-25; 09, R307). -/
  tapsAt    : Nat := 0
  /-- The blind-trim offset as the Kettle's present outer frame takes it (08, R260). -/
  trimIn    : Int := 0
  /-- When a thermal limit was set (08, R274). -/
  thermAt   : Nat := 0
  deriving DecidableEq, Repr

/-! ## Pots and scale entries -/

/-- The states of a Pot (04, Table 04-4). -/
inductive PotState where
  | free
  | opened
  | closing
  | held
  deriving DecidableEq, Repr

/-- What a PCLOSE latched of its block (06, Table 06-13; R210). -/
structure CloseDesc where
  out    : Nat
  outSp  : Nat
  omode  : Nat
  ofmt   : Nat
  flags  : Nat
  opitch : Nat
  sout   : Nat
  spitch : Nat
  hnd    : Nat
  oscale : W32
  fop    : Nat
  sta    : Nat
  crec   : Nat
  zp     : Nat
  zdef   : Bool
  win    : Nat
  /-- D of the Pot when the step issued (04, R125). -/
  depth  : Nat
  deriving DecidableEq, Repr

/-- A Pot operation that waits for the Pot's producers (04, R124). -/
inductive PotWait where
  | popen (uid rp cp : Nat)
  | spill (uid buf : Nat)
  | pclose (uid : Nat) (d : CloseDesc)
  deriving DecidableEq, Repr

/-- A Pot (04, R122 to R127). Elements are (S, C), in row-major order: row × C_p + column. -/
structure Pot where
  st       : PotState := .free
  owner    : Nat := 0
  rp       : Nat := 0
  cp       : Nat := 0
  elems    : Tab (W32 × W32) := []
  bound    : Option Nat := none
  ovf      : Bool := false
  depth    : Nat := 0
  /-- Promotions per 16-row band (04, R125). -/
  bands    : Tab Nat := []
  convSat  : Bool := false
  outSat   : Bool := false
  eccCe    : Bool := false
  /-- What the SECDED of the next read of each element will find (04, R126). -/
  ecc      : Tab Finding := []
  failed   : Nat := 0
  close    : Option CloseDesc := none
  closeUid : Nat := 0
  closeRec : Option (Nat × Nat × Nat) := none
  retry    : Option RetryRec := none
  /-- Steps that wait on this Pot, in order. -/
  waits    : List PotWait := []
  /-- Predicted state after every issued step of the Basket (04, R123): state, owner and shape. -/
  pred     : PotState := .free
  predOwner : Nat := 0
  predRp   : Nat := 0
  predCp   : Nat := 0
  predBound : Option Nat := none
  /-- A PCLOSE with RETRY = 1 has issued and not completed (06, R210). -/
  retrying : Bool := false
  deriving DecidableEq, Repr

/-- A scale entry (03, Table 03-4). -/
structure ScaleEntry where
  scale    : W32 := 0x3F800000#32
  headroom : Nat := 20
  depth    : Nat := 3
  fill     : Nat := 0
  head     : Nat := 0
  freeze   : Bool := false
  clip     : Nat := 0
  zero     : Nat := 0
  nElem    : Nat := 0
  shClip   : Nat := 0
  /-- Ring slots: PEAK_POS and PEAK_NEG as BF16. -/
  peaks    : Tab (BitVec 16 × BitVec 16) := []
  deriving DecidableEq, Repr

/-- A token (05, R155): its count and its OVF bit. -/
structure Token where
  count : Nat := 0
  ovf   : Bool := false
  deriving DecidableEq, Repr

/-! ## Baskets -/

/-- The states of a Basket (14, Table 14-7). -/
inductive BskState where
  | off
  | warming
  | ready
  | run
  | draining
  | stopped
  | test
  | retired
  deriving DecidableEq, Repr

/-- Why a Basket drains (14, Table 14-8). -/
inductive DrainFor where
  | stop
  | off
  | test
  deriving DecidableEq, Repr

/-- An MVM or MVMW in flight: what it latched at issue (06, R203). -/
structure MvmRun where
  uid     : Nat
  sid     : Nat
  desc    : WDesc
  r       : Nat
  k       : Nat
  n       : Nat
  act     : Nat
  apitch  : Nat
  afmt    : Nat
  grp     : Nat
  p       : Nat
  p0      : Nat
  fast    : Bool
  fastWant : Bool
  wide    : Bool
  slots   : Nat
  rp      : Nat
  cp      : Nat
  /-- The ramp interval it issued in (05, R178). -/
  interval : Nat
  /-- Activation scales per block, and zero points per channel. -/
  sa      : List W32
  zp      : List Nat
  /-- Some entry it consumes has SHADOW_CLIP ≠ 0 (03, R98; 06, R204). -/
  outSat  : Bool
  deriving DecidableEq, Repr

/-- A Basket: its control, sequencer, Whisk, readout and stream registers (14 Table 14-13, 05 Table 05-13,
03 Table 03-5, 04 Table 04-8, 07 Table 07-9) and what its sequencer keeps. -/
structure Basket where
  st        : BskState := .warming
  drainFor  : DrainFor := .stop
  pendEn    : Bool := false
  pendStop  : Bool := false
  ign       : Bool := false
  vtrim     : W32 := 0
  seqCfg    : W32 := 0x000003E8#32
  tokSel    : W32 := 0
  issueCnt  : Nat := 0
  stallBank : Nat := 0
  stallRamp : Nat := 0
  fillCnt   : Nat := 0
  lateCnt   : Nat := 0
  wskThr    : W32 := 0x80000400#32
  wskCfg    : W32 := 0x00000003#32
  widenCnt  : Nat := 0
  satCnt    : Nat := 0
  w4iNeg8   : Nat := 0
  w3Neg4    : Nat := 0
  wtRsv     : Nat := 0
  atRsv     : Nat := 0
  nanScale  : Nat := 0
  cbNeg128  : Nat := 0
  rdoCfg    : W32 := 0x00000040#32
  rdoSatCnt : Nat := 0
  potOvfCnt : Nat := 0
  promoStall : Nat := 0
  eccUe     : Nat := 0
  eccCe     : Nat := 0
  potSel    : W32 := 0
  resCfg    : W32 := 0x00000040#32
  ringStall : Nat := 0
  /-- The last values written to RWL registers while STOPPED, by register offset, taken at COMMIT (14, R439). -/
  staged    : Tab W32 := []
  /-- Rate of the governor: 3 is 4 GBd, 2 is 2 GBd, 1 is 1 GBd (01, R24), and the step not yet taken. -/
  rate      : Nat := 3
  rateNext  : Option Nat := none
  /-- Fast-mode grant (02, Table 02-12) and that the governor has taken fast mode away (01, R24). -/
  fastGrant : Bool := false
  /-- The fast-mode steps that hold the grant (02, Table 02-12). -/
  fastUids  : List Nat := []
  noFast    : Bool := false
  /-- Scale class in force, and that `GCTL_SCALE_CLASS.CLASS` has been written since the last COMMIT (10, R329). -/
  cls       : Nat := 0
  clsPend   : Bool := false
  lfsr      : W32
  /-- Structural test: phases, results (10, R331 to R334). -/
  testDue   : Bool := false
  testDefer : Option Nat := none
  testAt    : Nat := 0
  /-- When the Basket entered TEST (10, R333). -/
  testFrom  : Nat := 0
  testRes   : Nat := 0
  testDone  : Nat := 0
  testRow   : Bool := false
  retiredByTest : Bool := false
  inflight  : List StepRec := []
  mvms      : List MvmRun := []
  /-- Regulator trims VPAN raise while a Pan is SUSPECT under VOLT is computed (09, R301). -/
  spareTold : Bool := true
  /-- WARMING ends with the start-up sweep; false where the previous calibration stands (14, Table 14-8; 10, R322). -/
  coldSweep : Bool := true
  /-- An abandoned structural test: due 10 minutes after the Basket is READY (10, R334). -/
  testAgain : Bool := false
  deriving DecidableEq, Repr

/-! ## Kettle -/

/-- The states of a Kettle slot (08, Table 08-6). -/
inductive SlotState where
  | run
  | stopping
  | stopped
  | pendingEnable
  | hold
  deriving DecidableEq, Repr

/-- The stage states of an inner or outer loop: PID integrator and derivative filter, biquad histories
(08, R263 to R265). Values are in 2^-32 units (TL-8: 2^-16). -/
structure Stages where
  i   : Int := 0
  f   : Int := 0
  x1  : Int := 0
  x2  : Int := 0
  y1  : Int := 0
  y2  : Int := 0
  u1  : Int := 0
  u2  : Int := 0
  v1  : Int := 0
  v2  : Int := 0
  deriving DecidableEq, Repr

/-- A Kettle slot (08, Tables 08-10, 08-19 to 08-21) with its loop states. -/
structure Slot where
  st       : SlotState := .stopped
  ign      : Bool := false
  therm    : Bool := false
  compl    : Bool := false
  isat     : Bool := false
  isatO    : Bool := false
  osat     : Bool := false
  osatO    : Bool := false
  cfg      : W32
  sp       : W32 := 0
  spLatched : Int := 0
  spWrites : Nat := 0
  slew     : W32 := 0
  omin     : W32 := 0
  omax     : W32 := 0
  ilim     : W32 := 0
  ramp     : Int := 0
  out      : Int := 0
  outNext  : Option Int := none
  /-- A Pan slot's four segment currents, in 150 mA / 4,096, and those of the next frame (08, R271). -/
  segs     : List Nat := [0, 0, 0, 0]
  segsNext : Option (List Nat) := none
  err      : Int := 0
  spLost   : Nat := 0
  miss     : Nat := 0
  clampCnt : Nat := 0
  complCnt : Nat := 0
  coef     : Tab W32 := []
  inner    : Stages := {}
  outer    : Stages := {}
  outerOut : Int := 0
  /-- Compliance timer and the run of frames without compliance (08, R272). -/
  cTimer   : Nat := 0
  cClear   : Nat := 0
  /-- Frames in a row without a compliance frame and with every segment command at most 90 % of its limit (08, R274). -/
  coolRun  : Nat := 0
  /-- Last frame each event kind was recorded (08, R285), by event code. -/
  told     : Tab Nat := []
  mode     : Nat := 0
  /-- Last input sampled, for preloads and capture. -/
  lastIn   : Int := 0
  target   : Int := 0
  /-- COMMIT restarts the states of PID with a preload (08, R281). -/
  preload  : Bool := false
  preloadO : Bool := false
  /-- The last reference offset given to the outer loop, and that it is stale (09, R307). -/
  lastRef  : Int := 0
  refStale : Bool := false
  deriving DecidableEq, Repr

/-- The injection generator and the capture buffer of one engine (08, R283, R284). -/
structure Engine where
  load     : Nat := 0
  peak     : Nat := 0
  miss     : Bool := false
  startSlot : Nat := 0
  injCfg   : W32 := 0
  injF0    : W32 := 0
  injF1    : W32 := 0
  injAmp   : W32 := 0
  injRun   : Bool := false
  lfsr     : Nat := 0x7FFF
  chip     : Nat := 0
  phase    : W32 := 0
  sweepAt  : Nat := 0
  injOut   : Int := 0
  injStarted : Bool := false
  capCfg   : W32 := 0
  armed    : Bool := false
  triggered : Bool := false
  decim    : Nat := 0
  capDone  : Bool := false
  capCount : Nat := 0
  capBuf   : Tab W32 := []
  deriving DecidableEq, Repr

/-- A Coil's TEC bridge, lock window and lock counters (08, R275 to R279). -/
structure Coil where
  tecCfg   : W32 := 0x00003CF3#32
  tecOvr   : W32 := 0
  win      : W32 := 0x000007D0#32
  xcond    : Bool := false
  contend  : Bool := false
  unlock   : Bool := false
  outRun   : Nat := 0
  inRun    : Nat := 0
  everLocked : Bool := false
  /-- Applied duty in 2^-16, its polarity, and an all-off period still to come. -/
  duty     : Int := 0
  offPeriod : Bool := false
  /-- When the PWM period began, the gates an override commands, and the time before which the dead-time rule keeps each gate
  HA, HB, LA, LB off (08, R275 to R277). -/
  periodAt : Nat := 0
  gates    : BitVec 4 := 0
  gateHold : List Nat := [0, 0, 0, 0]
  dark     : Bool := false
  deriving DecidableEq, Repr

/-- The Kettle block. -/
structure Kettle where
  /-- The last inner frame and the last PWM period begun (08, R260, R275). -/
  frame    : Nat := 0
  pwm      : Nat := 0
  vhtr     : Tab Nat := []
  slots    : Tab Slot := []
  engines  : Tab Engine := []
  coils    : Tab Coil := []
  engSel   : W32 := 0
  /-- Heater currents hold until this time after a clock loss (14, R433). -/
  heaterHold : Option Nat := none
  heatersOff : Bool := false
  deriving DecidableEq, Repr

/-! ## CAL and FEU -/

/-- A sweep under way (09, R289 to R296). -/
structure Sweep where
  pan      : Nat
  cover    : Option Nat
  /-- False while the covering spare ramps. -/
  handed   : Bool
  startAt  : Nat
  calAt    : Nat
  /-- When the measurements began, the outgoing Pan's last block over (09, R289). -/
  measAt   : Option Nat
  timeout  : Nat
  slot     : Option Nat
  deriving DecidableEq, Repr

/-- The CAL block (09, Table 09-7). -/
structure Cal where
  /-- `CAL_CFG` as written, and as it is in force (09, Table 09-3). -/
  cfg      : W32 := 0x140A0200#32
  act      : W32 := 0x140A0200#32
  bskEn    : W32 := 0xFFFFFFFF#32
  blind    : W32 := 0x00100040#32
  sweepCnt : Nat := 0
  abandon  : Nat := 0
  timeouts : Nat := 0
  panSel   : W32 := 0
  next     : Nat := 0
  sweep    : Option Sweep := none
  /-- When the start-up sweep under way began (09, R306). -/
  startAt  : Option Nat := none
  deriving DecidableEq, Repr

/-- The FEU block (10, Table 10-14). -/
structure Feu where
  pend     : BitVec 5 := 0
  cfg      : W32 := 0x000C0032#32
  ringBase : W64 := 0
  tail     : W32 := 0
  head     : W32 := 0
  lost     : Nat := 0
  seq      : Nat := 0
  cnt      : Tab Nat := []
  smpCfg   : W32 := 0
  replSpare : Nat := 0
  replSame : Nat := 0
  smpRun   : Nat := 0
  smpFail  : Nat := 0
  smpSkip  : Nat := 0
  testCfg  : W32 := 0x00F0001E#32
  testSel  : W32 := 0
  testBsk  : Nat := 0
  /-- Records held for Trivet during its restart (13, R416), and those beyond. -/
  held     : List SeqEvent := []
  heldLost : List Nat := []
  deriving DecidableEq, Repr

/-! ## Fabric -/

/-- The states of a fabric port (11, Table 11-2). -/
inductive PortState where
  | disabled
  | down
  | training
  | hello
  | up
  | drain
  | isolated
  | pass
  | retired
  deriving DecidableEq, Repr

/-- A fabric port (11, Tables 11-16, 11-17) with its windows and its neighbour. -/
structure Port where
  st       : PortState := .down
  en       : Bool := true
  drainBit : Bool := false
  gen      : Nat := 0
  lanes    : Nat := 0
  cfg      : W32 := 0x000003E8#32
  nbr      : Option Hello := none
  /-- When the neighbour's heartbeat last advanced, plus one; 0 never (11, R350). -/
  nbrHbAt  : Nat := 0
  nbrAt    : Nat := 0
  crc      : Nat := 0
  crcMs    : Nat := 0
  fecUnc   : Nat := 0
  fecCor   : Nat := 0
  trainFail : Nat := 0
  downs    : Nat := 0
  bad      : Nat := 0
  stall    : Nat := 0
  rxPwr    : Tab W32 := []
  badWins  : Nat := 0
  trainFailAt : List Nat := []
  downAt   : List Nat := []
  stateAt  : Nat := 0
  /-- Plait: mode and peer staged, and in force (11, Table 11-20). -/
  stgMode  : Nat := 0
  stgPeer  : Nat := 0
  mode     : Nat := 0
  peer     : Nat := 0
  toLocal  : Bool := false
  deriving DecidableEq, Repr

/-- A routing table entry (11, Table 11-19). -/
structure Route where
  valid : Bool := false
  prio  : Nat := 0
  mask  : Nat := 0
  value : Nat := 0
  ports : Nat := 0
  deriving DecidableEq, Repr

/-- Which step, close, aperture access or chain a unit belongs to. -/
inductive UnitFor where
  | step (uid h : Nat)
  | close (h pot : Nat)
  /-- The access's first tag, and that its failure is told (12, R379). -/
  | apWrite (acc : Nat) (told : Bool)
  | apRead (acc off : Nat) (told : Bool)
  | tile (p : Nat)
  | skipSeq
  /-- A unit of work that was dropped: it is not resent, and an ORD one leaves its SEQ to a SKIP (07, R234; 11, R363). -/
  | gone
  deriving DecidableEq, Repr

/-- A unit outstanding at its source (07, R252 to R255; 11, R358). -/
structure FUnit where
  pkt     : Packet
  who     : UnitFor
  part    : Nat
  /-- Local address a read response goes to, and the bytes taken from it. -/
  local_  : Nat
  off     : Nat
  len     : Nat
  firstAt : Nat
  lastAt  : Nat
  good    : Bool
  goodAt  : Nat
  busyAt  : Option Nat
  failed  : Bool
  /-- Its payload is read from `local_` as it is sent (06, R221). -/
  lazy    : Bool
  /-- It keeps the first-issue time it came with: a reissued AADD part (06, R224). -/
  again   : Bool
  deriving DecidableEq, Repr

/-- What a target keeps per source (11, R363). -/
structure SrcSeq where
  inc      : Nat := 0
  expected : Nat := 0
  known    : Bool := false
  deriving DecidableEq, Repr

/-- A deduplication entry (07, R253). -/
structure Dedup where
  src   : Nat
  tag   : Nat
  epoch : Nat
  at_   : Nat
  deriving DecidableEq, Repr

/-- The DZF block (11, Table 11-15). -/
structure Dzf where
  ports    : Tab Port := []
  idValid  : Bool := false
  coord    : Bool := false
  sync     : Bool := false
  solo     : Bool := false
  dist     : Nat := 0xFF
  nodeId   : Nat := 0xFFFF
  cfg      : W32 := 0x10140000#32
  /-- 0 STEADY, 1 COMMITTED, 2 ADVANCED, 3 ADVANCED with CLOSE waiting. -/
  phase    : Nat := 0
  result   : Nat := 0
  stgEpoch : W32 := 0
  stgRgen  : W32 := 0
  stgFmt   : W64 := 0
  stgImg   : W64 := 0
  epoch    : W32 := 0
  digest   : W64
  prevEpoch : W32 := 0
  prevDigest : W64 := 0
  advAt    : Nat := 0
  rgen     : W32 := 0
  coordUid : Nat := 0
  parent   : Option Nat := none
  coordAt  : Nat := 0
  hb       : Nat := 0
  timeOfs  : Int := 0
  stepped  : Bool := false
  rcvd     : Nat := 0
  refused  : Nat := 0
  tie      : Nat := 0
  idmapUid : List W32 := [0, 0, 0, 0]
  idmapId  : Nat := 0
  idmap    : List (Nat × Nat) := []
  assigned : List (Nat × Nat) := []
  downPath : Tab (Option Nat) := []
  inc      : Nat := 0
  quietTil : Nat := 0
  group    : Tab Route := []
  groupSh  : Tab Route := []
  member   : Tab Route := []
  memberSh : Tab Route := []
  ties     : List (Nat × Nat × Nat) := []
  plaitBusy : Bool := false
  plaitAt  : Nat := 0
  plaitRef : Bool := false
  plaitPort : Nat := 0
  srcs     : Tab SrcSeq := []
  reorder  : List (Nat × Packet) := []
  nextSeq  : Tab Nat := []
  nextTag  : Nat := 0
  units    : List FUnit := []
  /-- Units that wait for a place among the 16,384 outstanding (07, R252). -/
  backlog  : List FUnit := []
  dedup    : List Dedup := []
  dupCnt   : Nat := 0
  busyCnt  : Nat := 0
  /-- Per source or peer, when TAG_DUP and CFG_MISMATCH were last recorded, plus one; 0 never. -/
  dupAt    : Tab Nat := []
  misAt    : Tab Nat := []
  /-- Nanoseconds the counter still holds back to slew towards its parent (11, R354). -/
  slew     : Nat := 0
  /-- The port by which each UID's JOIN or CLAIM last came up the tree (11, R352, R353; log entry 40, DEDUCED). -/
  upFrom   : List (Nat × Nat) := []
  deriving DecidableEq, Repr

/-! ## Host port -/

/-- A command of a queue in flight. -/
structure QCmd where
  cid    : Nat
  opc    : Nat
  fence  : Bool
  noirq  : Bool
  bytes  : List Byte
  sqhd   : Nat
  started : Bool
  /-- Status, RESULT and DETAIL when its work is over. -/
  done   : Option (Nat × Nat × Nat)
  deriving DecidableEq, Repr

/-- A queue pair (12, Table 12-17). -/
structure Queue where
  sqBase  : W64 := 0
  cqBase  : W64 := 0
  cfg     : W32 := 0
  active  : Bool := false
  pendEn  : Bool := false
  err     : Bool := false
  sqHead  : Nat := 0
  sqTail  : Nat := 0
  cqTail  : Nat := 0
  cqHead  : Nat := 0
  phase   : Bool := true
  icfg    : W32 := 0
  cmds    : List QCmd := []
  irqCnt  : Nat := 0
  irqAt   : Nat := 0
  deriving DecidableEq, Repr

/-- A VF's grant (12, Table 12-16). -/
structure Grant where
  hbmb : W64 := 0
  hbml : W32 := 0
  strm : W32 := 0
  bsk  : W32 := 0
  deriving DecidableEq, Repr

/-- A host address range whose accesses fail, with the HOST_LINK cause (12, R394): the host's own state. -/
structure HostBad where
  base : Nat
  len  : Nat
  kind : Nat
  deriving DecidableEq, Repr

/-- The HQ block (12, Table 12-14). -/
structure Hq where
  memReady : Bool := false
  linkUp   : Bool := false
  width    : Nat := 0
  speed    : Nat := 0
  flit     : Bool := false
  err      : BitVec 7 := 0
  reject   : Nat := 0
  apFail   : Nat := 0
  ap       : Tab W64 := []
  tirq     : Tab W32 := []
  /-- Per token: the last signal's time plus one, and whether one is held. -/
  tirqAt   : Tab Nat := []
  tirqHeld : Tab Bool := []
  vfs      : Tab Grant := []
  queues   : Tab Queue := []
  deriving DecidableEq, Repr

/-! ## Trivet -/

/-- A subscription (13, R403). -/
structure Sub where
  eid    : Nat
  cls    : Nat
  mask   : Nat
  queue  : List SeqEvent
  /-- Records dropped since the last REPORT. -/
  lost   : Nat
  deriving DecidableEq, Repr

/-- A comparator (13, R408). -/
structure Comp where
  lo    : Int := 0
  hi    : Int := 0
  hyst  : Int := 0
  en    : Bool := false
  gain  : Nat := 0
  frames : Nat := 0
  armed : Bool := false
  hold  : Option Nat := none
  cross : Nat := 0
  deriving DecidableEq, Repr

/-- A conversion under way (13, R405). -/
structure Conv where
  channel : Nat
  gain    : Nat
  frames  : Nat
  src     : Nat
  entry   : Nat
  stale   : Bool
  endAt   : Nat
  deriving DecidableEq, Repr

/-- A monitor record (13, Table 13-8). -/
structure MonRec where
  time   : Nat
  value  : Int
  sat    : Bool
  stale  : Bool
  src    : Nat
  gain   : Nat
  conv   : Nat
  channel : Nat
  frames : Nat
  entry  : Nat
  deriving DecidableEq, Repr

/-- A common-trigger group that waits (13, R409). -/
structure TrigGroup where
  convs   : List TrigConv
  kind    : TrigKind
  /-- A trigger came before the last converter was up. -/
  fired   : Bool
  readyAt : Nat
  deriving DecidableEq, Repr

/-- A flash program or erase under way (13, R411). -/
structure FlashOp where
  bank  : Nat
  via   : Via
  code  : Nat
  tag   : Nat
  deriving DecidableEq, Repr

/-- A response or message Trivet sends (13, R401, R403). -/
inductive MgmtMsg where
  | response (via : Via) (code tag status : Nat) (data : List Nat)
  | report (eid : Nat) (recs : List SeqEvent) (lost : Nat)
  | condition (eid : Nat) (n : Notice)
  | sensor (channel : Nat) (value : Int) (valid : Bool)
  | mctp (eid : Nat)
  | spdm (index : Nat) (digest : Nat)
  | regulator (rail : Nat)
  deriving DecidableEq, Repr

/-- A firmware bank of the flash (13, R415). -/
structure FwBank where
  img    : Option FwImage := none
  commit : Bool := false
  deriving DecidableEq, Repr

/-- A written sector of the black box, its records in slot order (13, R418). -/
structure BbrSector where
  num  : Nat
  recs : List BbrRec
  deriving DecidableEq, Repr

/-- Trivet (13). -/
structure Trivet where
  /-- TRIVET_READY has been sent since VAUX was applied (16, Table 16-10). -/
  up       : Bool := false
  ready    : Bool := false
  recovery : Bool := false
  bank     : Nat := 0
  drop     : Bool := false
  nlost    : Nat := 0
  disc     : Nat := 0
  skip     : Nat := 0
  rspDone  : Bool := false
  rspStat  : Nat := 0
  rspTag   : Nat := 0
  fwVer    : Nat := 0
  noteTail : W32 := 0
  noteHead : W32 := 0
  notes    : Tab Notice := []
  req      : Tab (Option W32) := []
  rsp      : Tab (Option W32) := []
  goBusy   : Bool := false
  eid      : Option Nat := none
  subs     : List Sub := []
  nonce    : Option Nat := none
  scan     : List ScanEntry := []
  scanNew  : Option (List ScanEntry) := none
  scanPos  : Nat := 0
  scanOfs  : Nat := 0
  scanRep  : Nat := 0
  /-- The next entry dispatches no sooner (13, Table 13-7 DELAY). -/
  scanWait : Nat := 0
  comps    : Tab Comp := []
  compQ    : List Nat := []
  convs    : Tab (Option Conv) := []
  pairs    : Tab (Option (Nat × Nat)) := []
  group    : Option TrigGroup := none
  mon      : Tab (Option MonRec) := []
  wptr     : Nat := 0
  wrap     : Nat := 0
  chanLast : Tab (Option Int) := []
  chanCal  : Tab (Option Nat) := []
  chanTold : Tab Bool := []
  flash    : Tab Byte := []
  flashOps : List FlashOp := []
  fw       : Tab FwBank := []
  fwUpd    : Option (Nat × Option FwImage) := none
  /-- A program or erase of the pattern area was cut short by a reset (13, R414). -/
  patCut   : Bool := false
  fuses    : Tab (BitVec 128) := []
  badFuse  : List Nat := []
  /-- Written sectors of bank 3, oldest first, their erase counts, and torn slots (13, R418, R419). -/
  bbr      : List BbrSector := []
  bbrErase : Tab Nat := []
  bbrTorn  : Nat := 0
  bbrSeq   : Nat := 0
  /-- Records that wait for their commit, with the time each was made (13, R418, R420). -/
  bbrQ     : List (Nat × BbrKind) := []
  /-- EVENT records of this second, the second, and what it lost with the SEQ range. -/
  secCount : Nat := 0
  second   : Nat := 0
  lostSec  : List Nat := []
  boots    : Nat := 0
  resetKind : Nat := 1
  deriving DecidableEq, Repr

/-! ## Power, clocks, board -/

/-- A board input (14, R441). -/
structure Input where
  level   : Bool := false
  pin     : Bool := false
  masked  : Bool := false
  stuck   : Bool := false
  edgeAt  : Option Nat := none
  since   : Nat := 0
  coal    : Nat := 0
  rateAt  : Option Nat := none
  deriving DecidableEq, Repr

/-- The test access port (16, R476, R477): its instruction, and the 111 boundary cells. -/
structure Tap1149 where
  ir    : BitVec 8 := 0x02
  cells : BitVec 111 := 0
  deriving DecidableEq, Repr

/-- GCTL's device state, clocks, rails, board pins (14; 15, Table 15-4). -/
structure Dev where
  /-- 0 INIT, 1 WARMING, 2 READY, 3 THERMTRIP, 4 CLOCK_LOST, 5 RECOVERY. -/
  st       : Nat := 0
  cause    : Nat := 0
  rootLock : Bool := false
  testLock : Bool := false
  refOk    : Bool := false
  railOk   : Nat := 0
  pwrCfg   : W32 := 0x000004B0#32
  inputs   : Tab Input := []
  inCnt    : Nat := 0
  outCont  : W32 := 0
  gpio     : W32 := 0
  hotLow   : Bool := false
  thermTrip : Bool := false
  faultClk : Bool := false
  perst    : Bool := true
  perstAt  : Nat := 0
  tap      : Tap1149 := {}
  vaux     : Bool := true
  /-- The last ramp interval, outer tap frame and governor evaluation begun (05, R176; 02, R55; 01, R24). -/
  rampK    : Nat := 0
  tapK     : Nat := 0
  govK     : Nat := 0
  /-- Governor (01, R24): the 10 ms average in mW, the design power of silent rails beside it (14, R430), their samples, good evaluations in a row. -/
  avg      : Nat := 0
  avgMore  : Nat := 0
  samples  : List (Nat × Nat) := []
  good     : Nat := 0
  rails    : Tab (Option Nat) := []
  silent   : Tab Nat := []
  /-- `GCTL_SCALE_CLASS.CLASS` as last written (10, R329). -/
  cls      : BitVec 2 := 0
  accErr   : Bool := false
  accFn    : Nat := 0
  accKind  : Nat := 0
  accCnt   : Nat := 0
  accAddr  : Nat := 0
  scratch  : List W32 := [0, 0, 0, 0]
  stBusy   : Bool := false
  stDrop   : Bool := false
  stResult : Nat := 0
  stStream : Nat := 0
  /-- Order code TVM-K256-LQ (00, Table 00-1). -/
  lq       : Bool := false
  /-- Held lower words of 64-bit writes, and read latches, per function (15, R450): offset and word. -/
  heldLow  : Tab (Option (Nat × W32)) := []
  latch    : Tab (Option (Nat × W32)) := []
  /-- What BAR0 reads returned to their functions: function, bytes. -/
  readData : List (Nat × List Byte) := []
  barData  : List (Nat × List Byte × Bool) := []
  deriving DecidableEq, Repr

/-- The whole part, and the queue of commands that wait. -/
structure State where
  pending  : List Instr
  /-- The global time counter, ns (11, R354). -/
  time     : Nat
  /-- The model's own counter of free values (log entry 1, DESIGN CHOICE). -/
  freeCtr  : Nat
  /-- HBM and the Crock, by local offset (07, Table 07-6). -/
  mem      : Tab Byte
  /-- Aligned 8-byte words whose SECDED reads uncorrectable, and those with one wrong bit (07, R243). -/
  memBad   : List Nat
  memCorr  : List Nat
  /-- `GCTL_MEM_ECC`: corrections, and uncorrectable words read (07, R243). -/
  memCe    : Nat
  memUe    : Nat
  /-- Host memory as the port reaches it, and the ranges that fail. -/
  host     : Tab Byte
  hostBad  : List HostBad
  streams  : Tab Stream
  /-- PENDING streams in order of their START (07, R232). -/
  waiting  : List Nat
  baskets  : Tab Basket
  pans     : Tab Pan
  pots     : Tab Pot
  scales   : Tab ScaleEntry
  tokens   : Tab Token
  globals  : Tab Token
  nextUid  : Nat
  /-- Fast-mode requests in order (02, Table 02-12). -/
  fastQ    : List Nat
  ket      : Kettle
  cal      : Cal
  feu      : Feu
  dzf      : Dzf
  hq       : Hq
  trv      : Trivet
  dev      : Dev
  /-- Events raised that the FEU has not taken yet (10, R337). -/
  evq      : List EventRec
  /-- What the part has put on its fabric ports (packets with the time: a port's queue, and what has left it), its MSI-X
  vectors and its management transports. -/
  tx       : List (Nat × Packet × Nat)
  hellos   : List (Nat × Hello)
  joins    : List (Nat × Nat × Nat × Nat)
  msix     : List (Nat × Nat)
  mgmt     : List MgmtMsg
  deriving DecidableEq, Repr

/-- The machine right after a cold reset with VAUX applied, factory fuses blank and the black box empty: every
register at the reset value its table gives (14, Table 14-4; 15, R453 to R458), every Basket WARMING, the Pans as R67
places them, tables with nothing listed. `dzf.digest` is bytes 0 to 7 of the SHA-384 of the record of reset values
(11, R367, R371). Log entries 10 to 13, each a DESIGN CHOICE, name what the spec gives no value for. -/
def State.reset : State where
  pending  := []
  time     := 0
  freeCtr  := 0
  mem      := []
  memBad   := []
  memCorr  := []
  memCe    := 0
  memUe    := 0
  host     := []
  hostBad  := []
  streams  := []
  waiting  := []
  baskets  := []
  pans     := []
  pots     := []
  scales   := []
  tokens   := []
  globals  := []
  nextUid  := 0
  fastQ    := []
  ket      := {}
  cal      := {}
  feu      := {}
  dzf      := { digest := 0x428fbdf2a7f27f62#64 }
  hq       := {}
  trv      := {}
  dev      := {}
  evq      := []
  tx       := []
  hellos   := []
  joins    := []
  msix     := []
  mgmt     := []

end Sys2Proof.Machine
end

