-- ==== Sys2Proof/Machine/Ops.lean ====
section
/-! DEFINITION. The named operations over the state: what unlisted units hold, reading and writing memory, raising
events, tokens, descriptors, and aborting a stream. -/

namespace Sys2Proof.Machine

/-- What a meaning answers. -/
abbrev Out := Host.Outcome State Fault Refusal

/-- Answer a next state where the unit exists, else stop (00 R6, log entry 15, DESIGN CHOICE). -/
def guard (ok : Bool) (s : State) : Out := if ok then .next s else .fault .noSuchUnit

/-! ## What an unlisted index holds: the reset values -/

/-- Memory that nothing has written reads as zero (log entry 13, DESIGN CHOICE). -/
def memDflt (_ : Nat) : Byte := 0

/-- A Pan right after cold reset with blank fuses: positions 0 to 15 in their slots, 16 SPARE (02, R67). -/
def panDflt (p : Nat) : Pan :=
  { mode := if p % 17 = 16 then .spare else .inService
    slot := if p % 17 = 16 then none else some (p % 17)
    rowSpare := 0, colSpare0 := 0, colSpare1 := 0, mapRow := 0, mapCol0 := 0, mapCol1 := 0 }

/-- The seed of a Basket's sampling LFSR (10, R323). -/
def lfsrSeed (uid0 : W32) (h : Nat) : W32 :=
  let x := uid0 ^^^ BitVec.ofNat 32 (h * 0x9E3779B9)
  if x = 0 then 1 else x

/-- A Basket right after cold reset with a blank unique ID; its structural test falls due h × INTERVAL / 16 after the cycle
starts, at the default INTERVAL of 240 minutes (10, R331; log entry 79, DEDUCED). -/
def bskDflt (h : Nat) : Basket := { lfsr := lfsrSeed 0 h, testAt := h * 900000000000 }

/-- A Kettle slot at reset: PHASE = n mod 16 (08, Table 08-19). -/
def slotDflt (n : Nat) : Slot := { cfg := BitVec.ofNat 32 (n % 16 * 2 ^ 28) }

/-- A stream never started. -/
def strDflt (_ : Nat) : Stream := {}
/-- A FREE Pot. -/
def potDflt (_ : Nat) : Pot := {}
/-- A scale entry at reset (03, Table 03-4). -/
def scaleDflt (_ : Nat) : ScaleEntry := {}
/-- A token at zero. -/
def tokDflt (_ : Nat) : Token := {}
/-- An engine at reset. -/
def engDflt (_ : Nat) : Engine := {}
/-- A Coil at reset. -/
def coilDflt (_ : Nat) : Coil := {}
/-- A port at reset. -/
def portDflt (_ : Nat) : Port := {}
/-- A queue pair at reset. -/
def queueDflt (_ : Nat) : Queue := {}
/-- A grant at reset. -/
def grantDflt (_ : Nat) : Grant := {}
/-- A route entry at reset. -/
def routeDflt (_ : Nat) : Route := {}
/-- An input at reset. -/
def inputDflt (_ : Nat) : Input := {}
/-- A comparator at reset. -/
def compDflt (_ : Nat) : Comp := {}
/-- Zero counts and words. -/
def natDflt (_ : Nat) : Nat := 0
/-- Zero words. -/
def w32Dflt (_ : Nat) : W32 := 0
/-- Zero words. -/
def w64Dflt (_ : Nat) : W64 := 0
/-- Nothing there. -/
def noneDflt {α : Type} (_ : Nat) : Option α := none
/-- Clear bits. -/
def falseDflt (_ : Nat) : Bool := false
/-- An Int of zero. -/
def intDflt (_ : Nat) : Int := 0
/-- A power tap with no reading. -/
def tapDflt (_ : Nat) : Tap := {}
/-- A blind correction at rest. -/
def blindDflt (_ : Nat) : Blind := {}
/-- Sums that nothing has been added to. -/
def sumDflt (_ : Nat) : BlindSum := {}
/-- A word or element whose SECDED finds nothing. -/
def cleanDflt (_ : Nat) : Finding := .clean
/-- Erased flash reads as ones (13, R413). -/
def flashDflt (_ : Nat) : Byte := 0xFF
/-- A firmware bank with no image. -/
def fwDflt (_ : Nat) : FwBank := {}

/-! ## Units -/

/-- Basket h of Pan p (02, R11). -/
def panBsk (p : Nat) : Nat := p / 17

/-- Stream sid. -/
def State.str (s : State) (i : Nat) : Stream := tget strDflt s.streams i
/-- Replace stream i. -/
def State.setStr (s : State) (i : Nat) (v : Stream) : State := { s with streams := tset strDflt s.streams i v }
/-- Basket h. -/
def State.bsk (s : State) (h : Nat) : Basket := tget bskDflt s.baskets h
/-- Replace Basket h. -/
def State.setBsk (s : State) (h : Nat) (v : Basket) : State := { s with baskets := tset bskDflt s.baskets h v }
/-- Pan p. -/
def State.pan (s : State) (p : Nat) : Pan := tget panDflt s.pans p
/-- Replace Pan p. -/
def State.setPan (s : State) (p : Nat) (v : Pan) : State := { s with pans := tset panDflt s.pans p v }
/-- The index of Pot i of Basket h. -/
def potIx (h i : Nat) : Nat := h * 64 + i
/-- Pot i of Basket h. -/
def State.pot (s : State) (h i : Nat) : Pot := tget potDflt s.pots (potIx h i)
/-- Replace Pot i of Basket h. -/
def State.setPot (s : State) (h i : Nat) (v : Pot) : State := { s with pots := tset potDflt s.pots (potIx h i) v }
/-- The index of scale entry i of Basket h. -/
def scaleIx (h i : Nat) : Nat := h * 16384 + i
/-- Scale entry i of Basket h. -/
def State.scale (s : State) (h i : Nat) : ScaleEntry := tget scaleDflt s.scales (scaleIx h i)
/-- Replace scale entry i of Basket h. -/
def State.setScale (s : State) (h i : Nat) (v : ScaleEntry) : State :=
  { s with scales := tset scaleDflt s.scales (scaleIx h i) v }
/-- Kettle slot n. -/
def State.slot (s : State) (n : Nat) : Slot := tget slotDflt s.ket.slots n
/-- The Kettle slot of Pan p (08, Table 08-1). -/
def panSlot (p : Nat) : Nat := 80 * (p / 68) + p % 68
/-- Replace Kettle slot n. -/
def State.setSlot (s : State) (n : Nat) (v : Slot) : State :=
  { s with ket := { s.ket with slots := tset slotDflt s.ket.slots n v } }
/-- Kettle engine e. -/
def State.eng (s : State) (e : Nat) : Engine := tget engDflt s.ket.engines e
/-- Replace Kettle engine e. -/
def State.setEng (s : State) (e : Nat) (v : Engine) : State :=
  { s with ket := { s.ket with engines := tset engDflt s.ket.engines e v } }
/-- Coil q. -/
def State.coil (s : State) (q : Nat) : Coil := tget coilDflt s.ket.coils q
/-- Replace Coil q. -/
def State.setCoil (s : State) (q : Nat) (v : Coil) : State :=
  { s with ket := { s.ket with coils := tset coilDflt s.ket.coils q v } }
/-- Fabric port n. -/
def State.port (s : State) (n : Nat) : Port := tget portDflt s.dzf.ports n
/-- Replace fabric port n. -/
def State.setPort (s : State) (n : Nat) (v : Port) : State :=
  { s with dzf := { s.dzf with ports := tset portDflt s.dzf.ports n v } }
/-- Queue pair q. -/
def State.que (s : State) (q : Nat) : Queue := tget queueDflt s.hq.queues q
/-- Replace queue pair q. -/
def State.setQue (s : State) (q : Nat) (v : Queue) : State :=
  { s with hq := { s.hq with queues := tset queueDflt s.hq.queues q v } }
/-- Board input n: 0 SYNC_IN, 1 BOARD_ALERT_N, 2 HOT_IN (14, Table 14-10). -/
def State.inp (s : State) (n : Nat) : Input := tget inputDflt s.dev.inputs n
/-- Replace board input n. -/
def State.setInp (s : State) (n : Nat) (v : Input) : State :=
  { s with dev := { s.dev with inputs := tset inputDflt s.dev.inputs n v } }

/-- The clock runs: no clock loss and no thermal trip (14, R433, R444). -/
def State.clocked (s : State) : Bool := s.dev.st != 3 && s.dev.st != 4

/-- Move time on to t, never back. -/
def State.at (s : State) (t : Nat) : State := { s with time := max s.time t }

/-- The number of the next period of d ns after period k, no sooner than now: periods begin at multiples of d, and two kinds
of period may begin at one instant. -/
def nextDue (k now d : Nat) : Nat := max (k + 1) (ceilDiv now d)

/-- The Basket is in service (14, Table 14-7). -/
def inService (b : Basket) : Bool := b.st = .ready || b.st = .run

/-- Service slots S under the Basket's scale class (10, Table 10-7). -/
def bskSlots (b : Basket) : Nat := if b.cls < 2 then 16 else 15

/-- The Pans of Basket h. -/
def bskPans (h : Nat) : List Nat := (List.range 17).map (fun i => h * 17 + i)

/-- The Pan that holds service slot i of Basket h. -/
def State.slotPan (s : State) (h i : Nat) : Option Nat :=
  (bskPans h).find? (fun p => (s.pan p).slot = some i)

/-- Streams that Basket h holds, resident, suspended or leaving it, in ascending ID (07, R232, R238; log entry 88, DEDUCED). -/
def State.held (s : State) (h : Nat) : List Nat :=
  (s.streams.filter (fun e => e.2.bsk = h && (e.2.st = .resident || e.2.st = .suspended || e.2.st = .migrating))).map (·.1)

/-- Streams resident on Basket h. -/
def State.residents (s : State) (h : Nat) : List Nat :=
  (s.streams.filter (fun e => e.2.bsk = h && e.2.st = .resident)).map (·.1)

/-- A Basket in service reads RUN with streams and READY without (14, Table 14-8). -/
def State.settleBsk (s : State) (h : Nat) : State :=
  let b := s.bsk h
  if inService b then s.setBsk h { b with st := if (s.held h).isEmpty then .ready else .run } else s

/-! ## Fuses (13, R421) -/

/-- Fuse word n as blown. -/
def State.fuse (s : State) (n : Nat) : BitVec 128 := tget (fun _ => (0 : BitVec 128)) s.trv.fuses n

/-- A fuse word that is valid: both COMMIT fuses, and no ECC failure (13, R421). -/
def State.fuseValid (s : State) (n : Nat) : Bool := bits (s.fuse n).toNat 121 120 = 3 && !s.trv.badFuse.contains n

/-- DATA of a fuse word; a blank or ignored word reads as zero. -/
def State.fuseData (s : State) (n : Nat) : Nat := if s.fuseValid n then (s.fuse n).toNat % 2 ^ 112 else 0

/-- The 128-bit unique ID (13, Table 13-13). -/
def State.uid (s : State) : Nat := s.fuseData 0 % 2 ^ 64 + shl (s.fuseData 1 % 2 ^ 64) 64

/-! ## Memory (07, R240 to R243) -/

/-- HBM bytes. -/
def hbmLen : Nat := 0x6000000000
/-- Local offset of the Crock. -/
def crockBase : Nat := 0x8000000000
/-- Bytes of the Crock. -/
def crockLen : Nat := 0x18000000
/-- Bytes of a Crock slice. -/
def sliceLen : Nat := 0x01800000
/-- Slice offset of the stream table. -/
def stOff : Nat := 0x01780000
/-- Local offset of the token doorbells. -/
def doorBase : Nat := 0x9000000000

/-- The byte at local offset a. -/
def State.rdB (s : State) (a : Nat) : Byte := tget memDflt s.mem a

/-- n bytes from a table of bytes at a. -/
def tabBytes (m : Tab Byte) (a : Nat) : Nat → List Byte
  | 0 => []
  | n + 1 => tget memDflt m a :: tabBytes m (a + 1) n

/-- n bytes at local offset a. -/
def State.rd (s : State) (a n : Nat) : List Byte := tabBytes s.mem a n

/-- A little-endian number of n bytes at local offset a. -/
def State.rdN (s : State) (a n : Nat) : Nat := leNat (s.rd a n)

/-- Bytes put into a table from a on. -/
def wrTab (m : Tab Byte) (a : Nat) : List Byte → Tab Byte
  | [] => m
  | b :: t => wrTab (tset memDflt m a b) (a + 1) t

/-- The 8-byte words that n bytes at a touch. -/
def words8 (a n : Nat) : List Nat :=
  if n = 0 then [] else (List.range ((a + n - 1) / 8 - a / 8 + 1)).map (· + a / 8)

/-- Count corrections and uncorrectable words read in `GCTL_MEM_ECC` (07, R243). -/
def State.eccCount (s : State) (ce ue : Nat) : State :=
  if ce = 0 ∧ ue = 0 then s else { s with memCe := sat16 (s.memCe + ce), memUe := sat16 (s.memUe + ue) }

/-- The words that a write of n bytes at a covers in part: it reads and merges them (07, R243). -/
def partWords (a n : Nat) : List Nat :=
  (words8 a n).filter (fun w => !(decide ((a + 7) / 8 ≤ w) && decide (w < (a + n) / 8)))

/-- A write makes the check bits of every whole word anew. A word written in part is read first: a correctable error is put
right and counted, an uncorrectable one is counted and kept (07, R243). -/
def State.wr (s : State) (a : Nat) (bs : List Byte) : State :=
  let part := partWords a bs.length
  let s := s.eccCount (part.filter s.memCorr.contains).length (part.filter s.memBad.contains).length
  { s with
    mem := wrTab s.mem a bs
    memBad := s.memBad.filter (fun w => !(decide ((a + 7) / 8 ≤ w) && decide (w < (a + bs.length) / 8)))
    memCorr := s.memCorr.filter (fun w => !(words8 a bs.length).contains w) }

/-- n bytes of number v written at local offset a. -/
def State.wrN (s : State) (a n v : Nat) : State := s.wr a (leBytes n v)

/-- Uncorrectable words among n bytes at a. -/
def State.badIn (s : State) (a n : Nat) : List Nat := (words8 a n).filter s.memBad.contains

/-- What reading n bytes at a does to the SECDED words: corrections are written back and counted, uncorrectable words
counted (07, R243; log entry 98, DESIGN CHOICE). -/
def State.scrub (s : State) (a n : Nat) : State :=
  let ws := words8 a n
  let s := s.eccCount (ws.filter s.memCorr.contains).length (ws.filter s.memBad.contains).length
  { s with memCorr := s.memCorr.filter (fun w => !ws.contains w) }

/-- The canonical form of memory: addresses strictly rising, no listed zero byte. -/
def Memory.wf (m : Tab Byte) : Bool := twf memDflt m

/-! ## Host memory as the port reaches it -/

/-- Why an access to n bytes of host memory at a fails, as HOST_LINK codes it: 1 with the link down, else what the host's
own range answers (12, R394). -/
def State.hostFail (s : State) (a n : Nat) : Option Nat :=
  if !s.hq.linkUp then some 1 else (s.hostBad.find? (fun r => decide (a < r.base + r.len) && decide (r.base < a + n))).map (·.kind)

/-- n bytes of host memory. -/
def State.hrd (s : State) (a n : Nat) : List Byte := tabBytes s.host a n

/-- Write host memory. -/
def State.hwr (s : State) (a : Nat) (bs : List Byte) : State := { s with host := wrTab s.host a bs }

/-! ## Events (10, R335 to R339) -/

/-- Raise an event that names no stream. -/
def State.raise (s : State) (code cls unit index detail : Nat) : State :=
  { s with evq := s.evq ++ [{ time := s.time, code := code, cls := cls, unit := unit, index := index,
                              stream := none, step := 0, detail := detail }] }

/-- Raise an event that names a stream and its step. -/
def State.raiseS (s : State) (code cls unit index sid h step detail : Nat) : State :=
  { s with evq := s.evq ++ [{ time := s.time, code := code, cls := cls, unit := unit, index := index,
                              stream := some sid, step := shl (h % 16) 24 + step % 2 ^ 24, detail := detail }] }

/-- Signal MSI-X vector v of a function; vectors are kept as function × 2^16 + vector. -/
def State.msi (s : State) (fn v : Nat) : State := { s with msix := s.msix ++ [(fn, v)] }

/-- A free value of the machine, and the state after it is taken (log entry 1, DESIGN CHOICE). -/
def State.fresh (s : State) : State := { s with freeCtr := s.freeCtr + 1 }

/-- Post a mailbox notice (13, R427): entry TAIL mod 64 is written, TAIL advances and PF vector 1 is signalled; with
TAIL - HEAD = 64 the notice is dropped and counted. -/
def State.notice (s : State) (kind index : Nat) (detail : Int) : State :=
  let t := s.trv
  if t.noteTail - t.noteHead = 64 then { s with trv := { t with nlost := sat 0xFF (t.nlost + 1) } } else
  ({ s with trv := { t with
      notes := tins (t.noteTail.toNat % 64) { kind := kind, time := s.time, index := index, detail := detail } t.notes
      noteTail := t.noteTail + 1 } }).msi 0 1

/-- Queue a black-box record (13, R420). -/
def State.bbrPut (s : State) (k : BbrKind) : State := { s with trv := { s.trv with bbrQ := s.trv.bbrQ ++ [(s.time, k)] } }

/-- Trivet sends a message. -/
def State.send (s : State) (m : MgmtMsg) : State := { s with mgmt := s.mgmt ++ [m] }

/-! ## Tokens (05, R155 to R159) -/

/-- A legal token code (05, Table 05-7). -/
def tokLegal (c : Nat) : Bool := decide (c ≤ 0x20) || (decide (0x81 ≤ c) && decide (c ≤ 0xFF))

/-- The token a code names at Basket h. -/
def State.tok (s : State) (h c : Nat) : Token :=
  if c ≤ 0x20 then tget tokDflt s.tokens (h * 32 + (c - 1)) else tget tokDflt s.globals (c - 0x81)

/-- Replace the token a code names at Basket h. -/
def State.setTok (s : State) (h c : Nat) (v : Token) : State :=
  if c ≤ 0x20 then { s with tokens := tset tokDflt s.tokens (h * 32 + (c - 1)) v }
  else { s with globals := tset tokDflt s.globals (c - 0x81) v }

/-- Add k to a token, saturating at 65,535; an add that finds it saturated sets OVF (05, R155; 07, R242). -/
def Token.add (t : Token) (k : Nat) : Token :=
  { count := sat16 (t.count + k), ovf := t.ovf || decide (t.count = 0xFFFF) }

/-- PF vector VEC of a `HQ_TIRQ` word; values outside 3 to 1,055 signal nothing (12, R398). -/
def State.tirqMsi (s : State) (c : Nat) : State :=
  if 3 ≤ bits c 10 0 ∧ bits c 10 0 ≤ 1055 then s.msi 0 (bits c 10 0) else s

/-- A global token's interrupt (12, R390): signals at least 1 µs apart, an addition within that time held for one
further signal. -/
def State.tokIrq (s : State) (g : Nat) : State :=
  let c := (tget w32Dflt s.hq.tirq g).toNat
  if bit c 31 then
    let last := tget natDflt s.hq.tirqAt g
    if last = 0 ∨ last - 1 + 1000 ≤ s.time then
      ({ s with hq := { s.hq with tirqAt := tset natDflt s.hq.tirqAt g (s.time + 1) } }).tirqMsi c
    else { s with hq := { s.hq with tirqHeld := tset falseDflt s.hq.tirqHeld g true } }
  else s

/-- Signal a token code at Basket h, adding k; code 0 and reserved codes signal nothing. -/
def State.sigK (s : State) (h c k : Nat) : State :=
  if c = 0 then s else if tokLegal c then
    let s := s.setTok h c ((s.tok h c).add k)
    if 0x81 ≤ c then s.tokIrq (c - 0x81) else s
  else s

/-- Signal a token code at Basket h. -/
def State.sig (s : State) (h c : Nat) : State := s.sigK h c 1

/-- Take one from a token code. -/
def State.takeTok (s : State) (h c : Nat) : State :=
  if c = 0 then s else
  let t := s.tok h c
  s.setTok h c { t with count := t.count - 1 }

/-! ## Stream descriptors (07, Table 07-1) -/

/-- Local offset of the descriptor of stream i. -/
def descAddr (i : Nat) : Nat := crockBase + i % 16 * sliceLen + stOff + i / 16 * 64

/-- Local offset of window offset w of a stream. -/
def Stream.win (t : Stream) (w : Nat) : Nat := crockBase + t.winBase + w

/-- The code of a stream state (07, Table 07-3). -/
def strCode : StrState → Nat
  | .idle => 0
  | .pending => 1
  | .resident => 2
  | .suspended => 3
  | .migrating => 4
  | .ended => 5
  | .aborted => 6

/-- Write the fields of the descriptor that the part writes (07, Table 07-1); PTR only as a stream that issued steps stops:
it is software's while the stream is not RESIDENT (07, R228, R235; log entry 89, DEDUCED). -/
def State.wrDesc (s : State) (i : Nat) (ptr : Bool) : State :=
  let t := s.str i
  let a := descAddr i
  let s := if ptr then s.wrN (a + 0x0C) 3 t.ptr else s
  (((s.wrN (a + 0x09) 1 (strCode t.st)).wrN (a + 0x22) 2 t.cause).wrN (a + 0x24) 4 t.crTail).wrN (a + 0x38) 1 (t.bsk % 16)

/-- Flags as the context area keeps them, in the order of Table 05-6 (log entry 21, DESIGN CHOICE). -/
def flagByte (f : Flags) : Nat := b2n f.widen + 2 * b2n f.outSat + 4 * b2n f.potOvf + 8 * b2n f.partFlag

/-- Loop stack bytes: 16 bytes an entry, start, END, remaining and count (log entry 21, DESIGN CHOICE). -/
def loopBytes (ls : List LoopFrame) : List Byte :=
  (List.range 8).flatMap (fun k => match ls[k]? with
    | some f => leBytes 4 f.start ++ leBytes 4 f.endIdx ++ leBytes 4 f.remaining ++ leBytes 4 f.count
    | none => leBytes 16 0)

/-- Call stack bytes: 4 bytes an entry, the depth in the top byte (log entry 21, DESIGN CHOICE). -/
def callBytes (cs : List CallFrame) : List Byte :=
  (List.range 8).flatMap (fun k => match cs[k]? with
    | some c => leBytes 3 c.ret ++ leBytes 1 c.depth
    | none => leBytes 4 0)

/-- The retry record's 64 bytes (07, Table 07-2; log entry 21, DESIGN CHOICE). -/
def retryBytes : Option RetryRec → List Byte
  | none => leBytes 64 0
  | some r => leBytes 8 r.opc ++ leBytes 8 r.block ++ leBytes 8 r.failed ++ leBytes 8 r.firstAt ++
      leBytes 8 r.firstTag ++ leBytes 8 r.units ++ leBytes 8 r.cfg ++ leBytes 8 0

/-- Migration list entries: Pot, R_p / 16, C_p and buffer offset / 16 (07, Table 07-2; log entry 21, DESIGN CHOICE). -/
def migBytes (l : List (Nat × Nat × Nat × Nat)) : List Byte :=
  (List.range 64).flatMap (fun k => match l[k]? with
    | some (p, rp16, cp, buf) => leBytes 1 p ++ leBytes 2 rp16 ++ leBytes 2 cp ++ leBytes 3 (buf / 16)
    | none => leBytes 8 0)

/-- The context area of a stream (07, Table 07-2). -/
def ctxBytes (t : Stream) : List Byte :=
  leBytes 1 (flagByte t.flags) ++ leBytes 1 t.loops.length ++ leBytes 1 t.calls.length ++ leBytes 13 0 ++
  loopBytes t.loops ++ callBytes t.calls ++ leBytes 16 0 ++ retryBytes t.retry ++ migBytes t.migPots

/-- Write the context area (07, R229). -/
def State.wrCtx (s : State) (i : Nat) : State :=
  let t := s.str i
  s.wr (t.win t.ctx) (ctxBytes t)

/-- Change a stream and write its descriptor (log entry 89, DEDUCED). -/
def State.putStr (s : State) (i : Nat) (v : Stream) : State := (s.setStr i v).wrDesc i (decide ((s.str i).st = .resident))

/-! ## Pots, and aborting a stream (07, R234) -/

/-- Some tile of a walk waits. -/
def hasTiles (q : List CItem) : Bool := q.any (fun c => match c with
  | .tile _ _ _ => true
  | .wsw _ => false)

/-- A Pan with no tile left to run reads idle and drives level 0 (02, R30, Table 02-17). -/
def Pan.settleIdle (p : Pan) : Pan :=
  if hasTiles p.computeQ then p else { p with rate := 0, fast := false, level0 := true }

/-- A Pan without the work of a stream's steps. -/
def dropWork (sid : Nat) (uids : List Nat) (p : Pan) : Pan :=
  Pan.settleIdle { p with
    computeQ := p.computeQ.filter (fun c => match c with
      | .tile u _ _ => !uids.contains u
      | .wsw u => !uids.contains u)
    writeQ := p.writeQ.filter (fun c => match c with
      | .wld u _ _ => !uids.contains u
      | .wref u _ => !uids.contains u
      | .reload _ _ _ => true)
    progress := match p.computeQ with
      | .tile u _ _ :: _ => if uids.contains u then 0 else p.progress
      | _ => p.progress
    windows := p.windows.filter (fun w => w.sid != sid)
    lowBuf := match p.lowBuf with
      | some (b, r) => if b.sid = sid then none else some (b, r)
      | none => none
    ladders := p.ladders.filter (fun l => l.blk.sid != sid)
    samples := p.samples.filter (fun x => x.blk.sid != sid) }

/-- The step of a wait. -/
def PotWait.uid : PotWait → Nat
  | .popen u _ _ => u
  | .spill u _ => u
  | .pclose u _ => u

/-- A Pot as it goes FREE; what was issued after stands. -/
def freedPot (p : Pot) : Pot :=
  { p with st := .free, owner := 0, elems := [], bound := none, ecc := [], failed := 0, close := none
           closeUid := 0, closeRec := none, retry := none, retrying := false }

/-- Set what a Pot is judged to hold: its state, owner, shape and buffer (04, R123). -/
def Pot.judge (p : Pot) (st : PotState) (owner rp cp : Nat) (bound : Option Nat) : Pot :=
  { p with pred := st, predOwner := owner, predRp := rp, predCp := cp, predBound := bound }

/-- A Pot judged again from what it holds and the steps that still wait on it, whose streams `sidOf` gives: a PCLOSE under
way leaves it FREE, a retried one as R210 gives (04, R123). -/
def Pot.rejudge (sidOf : Nat → Nat) (p : Pot) : Pot :=
  let now := match p.st with
    | .free => p.judge .free 0 0 0 none
    | .opened => p.judge .opened p.owner p.rp p.cp p.bound
    | .closing => if p.retrying then p.judge .held p.owner p.rp p.cp p.bound else p.judge .free 0 0 0 none
    | .held => p.judge .held p.owner p.rp p.cp p.bound
  p.waits.foldl (fun q w => match w with
    | .popen u rp cp => q.judge .opened (sidOf u) rp cp none
    | .spill _ _ => q.judge .free 0 0 0 none
    | .pclose _ _ => q.judge .free 0 0 0 none) now

/-- A Pot without stream i and its steps: FREE where i owned it, its waits without i's, and judged again (04, R123,
Table 04-5). -/
def Pot.without (sidOf : Nat → Nat) (i : Nat) (uids : List Nat) (p : Pot) : Pot :=
  let p := { p with waits := p.waits.filter (fun w => !uids.contains w.uid) }
  let p := Pot.rejudge sidOf (if p.st ≠ .free ∧ p.owner = i then freedPot p else p)
  if p.st = .free ∧ p.waits.isEmpty then { p with bands := [], depth := 0 } else p

/-- The stream of a step in flight. -/
def Basket.sidOf (b : Basket) (uid : Nat) : Nat :=
  match b.inflight.find? (fun r => r.uid = uid) with
  | some r => r.sid
  | none => 0

/-- The Pots of Basket h that stream i owns go FREE, and the waits of its steps end; what other streams have there stands
(04, R123, Table 04-5). -/
def State.freePots (s : State) (h i : Nat) (uids : List Nat) : State :=
  (List.range 64).foldl (fun s n =>
    let p := s.pot h n
    if (p.st ≠ .free ∧ p.owner = i) ∨ p.waits.any (fun w => uids.contains w.uid) then
      s.setPot h n (p.without (s.bsk h).sidOf i uids)
    else s) s

/-- A fabric unit of a dropped step, or of the close of a Pot that is FREE now. -/
def State.orphan (s : State) (h : Nat) (uids : List Nat) (u : FUnit) : Bool :=
  match u.who with
  | .step u' h' => h' = h && uids.contains u'
  | .close h' n => h' = h && (s.pot h n).st = .free
  | _ => false

/-- Stop everything stream i has on its Basket (07, R234). -/
def State.dropStream (s : State) (i : Nat) : State :=
  let t := s.str i
  let h := t.bsk
  let b := s.bsk h
  let uids := (b.inflight.filter (fun r => r.sid = i)).map (·.uid)
  let left := b.fastUids.filter (fun u => !uids.contains u)
  let fast := b.fastGrant && left.isEmpty
  let s := s.setBsk h { b with
    inflight := b.inflight.filter (fun r => r.sid != i)
    mvms := b.mvms.filter (fun m => m.sid != i)
    fastGrant := b.fastGrant && !fast, fastUids := left }
  let s := (bskPans h).foldl (fun s p => s.setPan p (dropWork i uids (s.pan p))) s
  let s := s.freePots h i uids
  { s with
    fastQ := if fast then s.fastQ.filter (· != h) else s.fastQ
    waiting := s.waiting.filter (· != i)
    dzf := { s.dzf with
      units := s.dzf.units.map (fun u => if s.orphan h uids u then { u with who := .gone } else u)
      backlog := s.dzf.backlog.filter (fun u => !s.orphan h uids u) } }

/-- A queue command's work is over: status, RESULT and DETAIL. -/
def State.qDone (s : State) (q cid st res det : Nat) : State :=
  let v := s.que q
  s.setQue q { v with cmds := lmod (fun c => c.cid = cid && c.started && c.done.isNone) (fun c => { c with done := some (st, res, det) }) v.cmds }

/-- The RESULT of a migration goes to whoever gave the command (07, Table 07-11; 12, Table 12-6). -/
def State.migReport (s : State) (i res : Nat) : State :=
  let t := s.str i
  let s := s.setStr i { t with migReg := false, migBy := none }
  let s := match t.migBy with
    | some (q, cid) => s.qDone q cid 0 res 0
    | none => s
  if t.migReg then { s with dev := { s.dev with stBusy := false, stResult := res, stStream := i } } else s

/-- Abort a stream (07, R234): it is ABORTED with a cause, and keeps nothing but what it has written.
A MIGRATE it breaks off reports that the state does not allow it (log entry 36, DEDUCED). -/
def State.abortStr (s : State) (i cause : Nat) : State :=
  let t := s.str i
  if t.st = .pending ∨ t.st = .resident ∨ t.st = .suspended ∨ t.st = .migrating then
    let was := t.st
    let s := if was = .migrating then (s.migReport i 2).dropStream i else s.dropStream i
    let s := s.putStr i { t with
      st := .aborted, cause := cause, flags := {}, loops := [], calls := [], retry := none, chain := none
      chained := false, hostW := none, waitSince := none, halting := false, atYield := false, migTo := none, wasRes := false
      migSaved := false, migPots := [], migReg := false, migBy := none }
    let s := if was = .pending then s else s.wrCtx i
    s.settleBsk t.bsk
  else s

/-- A migration that cannot complete on its target: the stream is SUSPENDED there with CAUSE 0xF003, its images and Pot
contents in its migration area (07, R239). Table 07-11 has no RESULT for it: the MIGRATE reports `res`, 5 for a target
out of service and 9 for entries in use (log entry 121, DESIGN CHOICE). -/
def State.migFail (s : State) (i res : Nat) : State :=
  let s := s.migReport i res
  s.putStr i { s.str i with st := .suspended, cause := 0xF003, migTo := none, wasRes := false }

/-- Every stream that Basket h holds is aborted as the Basket is reset or retired, but one that is moving to it, which R239
suspends (07, Tables 07-4, 07-5). -/
def State.evict (s : State) (h : Nat) : State :=
  (s.held h).foldl (fun s i =>
    if (s.str i).st = .migrating ∧ (s.str i).migSaved then s.migFail i 5 else s.abortStr i 0xF005) s

/-- A class X event on a stream's step: raised, and the stream aborted (10, R311; log entry 86, DEDUCED). -/
def State.raiseX (s : State) (code unit index sid h step detail : Nat) : State :=
  (s.raiseS code 4 unit index sid h step detail).abortStr sid code

/-- A step's access to host memory failed: HOST_LINK, class X (06, R192; 12, R394). -/
def State.hostX (s : State) (kind sid h step : Nat) : State := s.raiseX 0x0901 0x06 0 sid h step (shl kind 28)

/-- PARITY_DATA for an uncorrectable word (04, R484): HBM names the stack, the Crock the slice. The hash that spreads
HBM over its stacks is not given; the stack is a free value of the word (log entry 16, DESIGN CHOICE). -/
def memUnitDetail (w : Nat) : Nat :=
  if w * 8 < hbmLen then shl 3 28 + (Config.freeWord w).toNat % 8 else shl 4 28 + (w * 8 - crockBase) / sliceLen % 16

/-- A step's read finds its first uncorrectable word (07, R243). -/
def State.memX (s : State) (w sid h step : Nat) : State :=
  s.raiseX 0x0203 0x00 0 sid h step (memUnitDetail w)

end Sys2Proof.Machine
end

