-- ==== Sys2Proof/Machine/Operands.lean ====
section
/-! DEFINITION. Step words, their operand fields and parameter blocks (05, Tables 05-4 to 05-9; 06). -/

namespace Sys2Proof.Machine

/-- The header and operands of a step word (05, Table 05-4). -/
structure Hdr where
  opc  : Nat
  gen  : Nat
  ord  : Nat
  pred : Nat
  wait : Nat
  sig  : Nat
  ops  : Nat
  deriving DecidableEq, Repr

/-- Take a step word apart (05, R142). -/
def hdrOf (w : Nat) : Hdr where
  opc  := bits w 127 120
  gen  := bits w 119 118
  ord  := bits w 117 116
  pred := bits w 115 112
  wait := bits w 111 104
  sig  := bits w 103 96
  ops  := bits w 95 0

/-- The opcodes of Table 05-8. -/
def opcAssigned (c : Nat) : Bool :=
  decide (c ≤ 0x0B) || (decide (0x10 ≤ c) && decide (c ≤ 0x14)) || (decide (0x20 ≤ c) && decide (c ≤ 0x23)) ||
  (decide (0x30 ≤ c) && decide (c ≤ 0x33)) || c = 0x40 || c = 0x41 ||
  (decide (0x50 ≤ c) && decide (c ≤ 0x54)) || c = 0xF0 || c = 0xF1

/-- Control steps run in the sequencer (05, R149). -/
def isControl (c : Nat) : Bool := decide (c < 0x10) || decide (0xF0 ≤ c)

/-- The steps that write a completion record (06, R193). -/
def hasRecord (c : Nat) : Bool := (decide (0x10 ≤ c) && decide (c ≤ 0x5F)) || c = 0x0A || c = 0x0B

/-- FENCE runs with ORD = 0b10 whatever its field holds but 0b11 (05, R150). -/
def ordOf (h : Hdr) : Nat := if h.opc = 0x08 ∧ h.ord ≠ 3 then 2 else h.ord

/-- A reserved PRED code (05, Table 05-6). -/
def predBad (c : Nat) : Bool := c = 8 || (decide (5 ≤ c) && decide (c ≤ 7)) || decide (0xD ≤ c)

/-- Steps that carry a parameter block pointer (06, R186), and the block's bytes. -/
def blockLen (opc : Nat) : Nat :=
  if opc = 0x12 ∨ opc = 0x13 then 128
  else if opc = 0x10 ∨ opc = 0x21 ∨ opc = 0x30 ∨ opc = 0x31 ∨ opc = 0x40 ∨ opc = 0x41 ∨
    (0x50 ≤ opc ∧ opc ≤ 0x54) then 64 else 0

/-- Iteration index of the innermost open loop, 0 when none is open (06, R187). -/
def iterOf (t : Stream) : Nat :=
  match t.loops.getLast? with
  | some f => f.count - f.remaining
  | none => 0

/-- Effective block offset (06, R186). -/
def blockOff (h : Hdr) (i : Nat) : Nat := (bits h.ops 95 72 + i * bits h.ops 71 56) * 64

/-- A parameter block: its bytes as one little-endian number. -/
abbrev Blk := Nat

/-- n bytes of a block at offset o. -/
def fld (b : Blk) (o n : Nat) : Nat := bits b (8 * (o + n) - 1) (8 * o)

/-- A FP32 field of a block. -/
def fldF (b : Blk) (o : Nat) : W32 := BitVec.ofNat 32 (fld b o 4)

/-- Operand bits a step does not use (05, R143): the bits that must be zero, as a mask of [95:0]. -/
def rsvMask (opc : Nat) : Nat :=
  let all := 2 ^ 96 - 1
  let m (hi lo : Nat) : Nat := 2 ^ (hi + 1) - 2 ^ lo
  let used : Nat :=
    if opc = 0x01 then m 87 64 + m 63 32
    else if opc = 0x03 ∨ opc = 0x04 then m 24 0
    else if opc = 0x0B ∨ opc = 0xF1 then m 63 0
    else if opc = 0x10 then m 95 56 + m 44 26 + m 17 0
    else if opc = 0x11 then m 44 34
    else if opc = 0x14 then m 44 34 + m 1 0
    else if opc = 0x12 ∨ opc = 0x13 then m 95 56
    else if opc = 0x20 then m 44 32 + m 26 16 + m 14 8 + m 5 0
    else if opc = 0x21 then m 95 56 + m 0 0
    else if opc = 0x22 then m 95 64 + m 5 0
    else if opc = 0x23 then m 95 64 + m 60 48 + m 42 32 + m 5 0
    else if opc = 0x30 ∨ opc = 0x31 ∨ opc = 0x40 ∨ opc = 0x41 ∨ opc = 0x50 ∨ opc = 0x54 then m 95 56
    else if opc = 0x32 then m 95 32 + m 13 0
    else if opc = 0x33 then m 95 64 + m 45 32 + m 13 0
    else if opc = 0x51 ∨ opc = 0x52 ∨ opc = 0x53 then m 95 56 + m 0 0
    else 0
  all - used

/-- A mask meets a number: some bit is in both. -/
def meets (n m : Nat) : Bool := (n &&& m) ≠ 0

/-- Reserved bits of a parameter block, as a mask over the block (06, R188; Tables 06-9 to 06-22). -/
def blkRsv (opc : Nat) : Nat :=
  let by' (o n : Nat) : Nat := 2 ^ (8 * (o + n)) - 2 ^ (8 * o)
  if opc = 0x10 then by' 0x0B 5 + by' 0x24 28
  else if opc = 0x12 ∨ opc = 0x13 then by' 0x0B 5 + by' 0x24 28 + 2 ^ (8 * 0x4F + 7) + by' 0x55 43
  else if opc = 0x21 then (by' 0x0D 1 - 2 ^ (8 * 0x0D)) + by' 0x0E 2 + by' 0x1E 2 + by' 0x34 12
  else if opc = 0x30 then (by' 0x1B 1 - 15 * 2 ^ (8 * 0x1B)) + by' 0x1C 36
  else if opc = 0x31 then (by' 0x26 1 - 3 * 2 ^ (8 * 0x26)) + by' 0x27 25
  else if opc = 0x40 then 2 ^ (8 * 0x1F + 7) + by' 0x28 24
  else if opc = 0x41 then 2 ^ (8 * 0x15 + 7) + by' 0x17 1 + by' 0x28 24
  else if opc = 0x50 ∨ opc = 0x51 ∨ opc = 0x52 then by' 0x23 1 + by' 0x28 24
  else if opc = 0x53 then by' 0x11 47
  else if opc = 0x54 then by' 0x09 3 + by' 0x28 24
  else 0

/-! ## Extents and regions (06, R189, R190) -/

/-- A strided region: space code, start, pitch, bytes per row, rows, and bits of an element. -/
structure Region where
  sp    : Nat
  start : Nat
  pitch : Nat
  width : Nat
  rows  : Nat
  elem  : Nat := 8
  deriving DecidableEq, Repr

/-- The first byte past a region. -/
def Region.stop (r : Region) : Nat := if r.rows = 0 ∨ r.width = 0 then r.start else r.start + (r.rows - 1) * r.pitch + r.width

/-- Two rows share a byte. -/
def rowsMeet (a la b lb : Nat) : Bool := decide (a < b + lb) && decide (b < a + la)

/-- Some row of region b meets the row of la bytes at a, judged on the rows near it. -/
def rowInRegion (a la : Nat) (b : Region) : Bool :=
  if b.rows = 0 ∨ b.width = 0 ∨ la = 0 then false
  else if b.pitch = 0 then rowsMeet a la b.start b.width
  else
    let k1 := (a + la - 1 - b.start) / b.pitch
    let k := min k1 (b.rows - 1)
    if a + la ≤ b.start then false else rowsMeet a la (b.start + k * b.pitch) b.width

/-- The regions share a byte: every row of a is judged against b from the last row of b that starts before it ends. -/
def regionsMeet (a b : Region) : Bool :=
  a.sp = b.sp && a.sp != 3 && decide (a.start < b.stop) && decide (b.start < a.stop) &&
  (List.range a.rows).any (fun i => rowInRegion (a.start + i * a.pitch) a.width b)

/-- The overlaps R190 refuses: any shared byte but of a pair that coincides exactly, start, pitch and element width. -/
def overlapBad (outs ins : List Region) : Bool := outs.any (fun o => ins.any (fun i => decide (o ≠ i) && regionsMeet o i))

/-- A window extent does not fit (05, R165). -/
def winBad (t : Stream) (r : Region) : Bool := r.sp = 0 && decide (t.winLen < r.stop)
/-- A HBM extent does not fit (05, R165). -/
def hbmBad (r : Region) : Bool := r.sp = 1 && decide (hbmLen < r.stop)
/-- A global address whose bits [63:60] or node ID are not legal (00 R6; 06, R189). -/
def globBad (r : Region) : Bool := r.sp = 2 && decide (2 ^ 59 ≤ r.start)
/-- Local offset of a byte address in space sp of stream t. -/
def locOf (t : Stream) (sp a : Nat) : Nat := if sp = 0 then t.win a else a

/-- The uncorrectable words a local region holds. -/
def State.regionBad (s : State) (t : Stream) (r : Region) : Option Nat :=
  if s.memBad.isEmpty ∨ 2 ≤ r.sp then none else
  (List.range r.rows).findSome? (fun i => (s.badIn (locOf t r.sp (r.start + i * r.pitch)) r.width).head?)

/-- Count what reading local regions does to SECDED words (07, R243). -/
def State.scrubRegions (s : State) (t : Stream) (rs : List Region) : State :=
  if s.memBad.isEmpty && s.memCorr.isEmpty then s else
  rs.foldl (fun s r => if 2 ≤ r.sp then s else
    (List.range r.rows).foldl (fun s i => s.scrub (locOf t r.sp (r.start + i * r.pitch)) r.width) s) s

/-! ## Weight and activation formats (03, Tables 03-1, 03-2) -/

/-- Bits per weight code (05, R173). -/
def wBits (f : Nat) : Nat := if f ≤ 2 then 4 else if f = 3 then 3 else if f ≤ 5 then 2 else 1

/-- Twice the value of a weight code; W4C takes its codebook entries (03, R73, R75). -/
def wVal2 (f c : Nat) (cb : List Int) : Int :=
  if f = 0 then (if c = 8 then -14 else 2 * sgn 4 c)
  else if f = 1 then
    let mag : Int := match c % 8 with
      | 0 => 0 | 1 => 1 | 2 => 2 | 3 => 3 | 4 => 4 | 5 => 6 | 6 => 8 | _ => 12
    if 8 ≤ c then -mag else mag
  else if f = 2 then 2 * cb.getD c 0
  else if f = 3 then (if c = 4 then -6 else 2 * sgn 3 c)
  else if f = 4 then (match c with | 0 => -6 | 1 => -2 | 2 => 2 | _ => 6)
  else if f = 5 then (match c with | 0 => 0 | 1 => 2 | 2 => 0 | _ => -2)
  else if c = 0 then -2 else 2

/-- Twice C_max of a weight format (03, Table 03-2; R75). -/
def cMax2 (f : Nat) (cb : List Int) : Nat :=
  if f = 0 then 14 else if f = 1 then 12 else if f = 2 then 2 * maxNat (cb.map Int.natAbs)
  else if f ≤ 4 then 6 else 2

/-- The codebook of W4C: entries -128 read as -127 (03, R75). -/
def codebook (bs : List Byte) : List Int :=
  bs.map (fun b => if b.toInt = -128 then -127 else b.toInt)

/-- Element k of densely packed b-bit codes in a little-endian number (03, R72, R77). -/
def packed (n b k : Nat) : Nat := n / 2 ^ (b * k) % 2 ^ b

/-- Bits per activation code (03, Table 03-1): A1, AT, A2, A4, A8. -/
def aBits (f : Nat) : Nat := if f = 0 then 1 else if f ≤ 2 then 2 else if f = 3 then 4 else 8

/-- C_max of an activation format. -/
def aMax (f : Nat) : Nat := if f = 0 then 1 else if f = 1 then 2 else if f = 2 then 3 else if f = 3 then 15 else 255

/-- Drive gain g_a (02, Table 02-2). -/
def driveGain (f : Nat) : Nat := if f ≤ 1 then 15 else if f = 2 then 5 else 1

/-- Symmetric default zero points (03, R70); AT always takes 1. -/
def zpDefault (f : Nat) : Nat := if f = 0 then 0 else if f = 1 then 1 else if f = 2 then 2 else if f = 3 then 8 else 128

/-- Bits per entry of a zero-point table (03, R70). -/
def zpBits (f : Nat) : Nat := if f = 4 then 8 else 4

/-- A zero point read from its table: only the low bits the format has (03, R70). -/
def zpRead (f v : Nat) : Nat := if f = 1 then 1 else v % 2 ^ aBits f

/-- Bytes of c codes of b bits. -/
def rowBytes (b c : Nat) : Nat := (c * b + 7) / 8

/-- Pack codes of b bits densely; the last byte's rest is zero (03, R72). -/
def packCodes (b : Nat) (cs : List Nat) : List Byte :=
  leBytes (rowBytes b cs.length) (cs.foldr (fun c acc => c % 2 ^ b + 2 ^ b * acc) 0)

/-- Zero points of c channels: the table at window offset a, or the defaults (03, R70). -/
def State.zeroPoints (s : State) (t : Stream) (f c : Nat) (zdef : Bool) (a : Nat) : List Nat :=
  if zdef ∨ f = 1 then List.replicate c (zpDefault f) else
  let n := s.rdN (t.win a) (rowBytes (zpBits f) c)
  (List.range c).map (fun k => zpRead f (packed n (zpBits f) k))

end Sys2Proof.Machine
end

