-- ==== Sys2Proof/Machine/Flags.lean ====
section
/-! DEFINITION. The sequencer flags, predicates, the completion record and the completion of a step (05, R149 to R154;
06, R193; 07, R233). -/

namespace Sys2Proof.Machine

/-- The flag a PRED code names: its value (05, Table 05-6). -/
def flagOf (f : Flags) (c : Nat) : Bool :=
  if c % 8 = 1 then f.widen else if c % 8 = 2 then f.outSat else if c % 8 = 3 then f.potOvf else f.partFlag

/-- The predicate holds (05, R148; a reserved code is treated as true, 06, R195). -/
def predHolds (f : Flags) (c : Nat) : Bool :=
  if c = 0 ∨ predBad c then true else if c < 8 then flagOf f c else !flagOf f c

/-- Clear the flag a PRED code names (05, R154). -/
def clearFlag (f : Flags) (c : Nat) : Flags :=
  if c = 0 ∨ predBad c then f
  else if c % 8 = 1 then { f with widen := false }
  else if c % 8 = 2 then { f with outSat := false }
  else if c % 8 = 3 then { f with potOvf := false }
  else { f with partFlag := false }

/-- The flags after a step completes (05, R152). -/
def flagsAfter (f : Flags) (r : StepRec) : Flags :=
  { widen := f.widen || r.widen, outSat := f.outSat || r.outSat, potOvf := f.potOvf || r.potOvf
    partFlag := f.partFlag || decide (r.status = 2) }

/-- The completion record (06, Table 06-3). -/
def recBytes (time : Nat) (r : StepRec) : List Byte :=
  leBytes 8 time ++ leBytes 4 (shl r.opc 24 + r.idx % 2 ^ 24) ++
  leBytes 4 (shl r.status 24 + shl (r.h % 16) 18 + r.sid % 2 ^ 18) ++
  leBytes 4 (shl (sat16 r.replays) 16 + shl (b2n (decide (0 < r.replays))) 4 + shl (b2n r.convSat) 3 +
    shl (b2n r.potOvf) 2 + shl (b2n r.outSat) 1 + b2n r.widen) ++
  leBytes 4 r.detail ++ leBytes 8 r.failed

/-- Number of bits set among the low n bits. -/
def popcount (n : Nat) : Nat → Nat
  | 0 => 0
  | k + 1 => b2n (bit n k) + popcount n k

/-- The completion ring of a stream is full, as CR_HEAD reads now; a CR_HEAD ahead of CR_TAIL is taken as equal to it
(07, R233; judged modulo 2^32 within half the range, log entry 22, DESIGN CHOICE). -/
def State.ringFull (s : State) (sid : Nat) : Bool :=
  let t := s.str sid
  let used := (t.crTail + 2 ^ 32 - s.rdN (descAddr sid + 0x28) 4) % 2 ^ 32
  decide (2 ^ t.crLog2 ≤ used) && decide (used < 2 ^ 31)

/-- Append a record to the stream's ring (07, R233). -/
def State.putRec (s : State) (sid : Nat) (bs : List Byte) : State :=
  let t := s.str sid
  let s := s.wr (t.win t.cring + t.crTail % 2 ^ t.crLog2 * 32) bs
  let n := (t.crTail + 1) % 2 ^ 32
  (s.setStr sid { t with crTail := n }).wrN (descAddr sid + 0x24) 4 n

/-- The step's ORD class lets it complete: an in-order step after every earlier in-order step of its stream, a HALT
after every earlier step, and none past one that waits for the ring (05, R149, R163; 07, R233). -/
def ordClear (infl : List StepRec) (r : StepRec) : Bool :=
  infl.all (fun x => !(x.sid = r.sid) || x.uid = r.uid ||
    (!(x.stalled) && (decide (r.uid < x.uid) ||
      (!(r.opc = 0x0A && r.status = 5) && (r.ord = 1 || x.ord = 1)))))

/-- A step ends its stream (05, R163; 07, Table 07-5). -/
def State.endStr (s : State) (sid : Nat) : State :=
  let t := s.str sid
  ((s.putStr sid { t with st := .ended, halting := false }).wrCtx sid).settleBsk t.bsk

/-- The retry record of a stream after a step of GET, PUT, AADD or GATH: a partial completion replaces it, and a retry that
leaves nothing failed empties the record it retried, not one that has replaced it meanwhile (06, R223, R224). -/
def retryAfter (o : Option RetryRec) (r : StepRec) : Option RetryRec :=
  if 0x51 ≤ r.opc ∧ r.opc ≤ 0x54 then
    if r.status = 2 then some { opc := r.opc, block := r.block, failed := r.failed, firstAt := r.firstAt,
                                firstTag := r.firstTag, units := r.total, cfg := r.cfg }
    else if r.retry ∧ r.status = 0 ∧ o = r.retryOf then none else o
  else o

/-- A step completes: its flags are set, PARTIAL_DONE is raised for failed parts, its record is written and its token
signalled, and a HALT ends the stream (05, R149, R152; 06, R193, R222). -/
def State.finish (s : State) (r : StepRec) : State :=
  let t := s.str r.sid
  let s := s.setStr r.sid { t with flags := flagsAfter t.flags r, retry := retryAfter t.retry r }
  let s := if r.status = 2 then
      s.raiseS 0x0501 0 0x01 r.h r.sid r.h r.idx (r.detail / 2 ^ 31 % 2 * 2 ^ 31 + popcount r.failed 64)
    else s
  let s := if hasRecord r.opc then s.putRec r.sid (recBytes s.time r) else s
  let b := s.bsk r.h
  let s := s.setBsk r.h { b with inflight := b.inflight.filter (fun x => x.uid != r.uid) }
  let s := s.sig r.h r.sig
  if r.opc = 0x0A ∧ r.status = 5 then s.endStr r.sid else s

/-- Complete a step whose work is done, or let it wait in flight: for its order, or for a place in the ring, each such
wait counted once in `BSK_RING_STALL` (07, R233). -/
def State.tryEnd (s : State) (r : StepRec) : State :=
  let b := s.bsk r.h
  if !(r.done && ordClear b.inflight r) then s
  else if hasRecord r.opc && s.ringFull r.sid then
    if r.stalled then s else
      s.setBsk r.h { b with
        ringStall := sat32 (b.ringStall + 1)
        inflight := lmod (fun x => x.uid = r.uid) (fun x => { x with stalled := true }) b.inflight }
  else s.finish r

/-- Change the record of a step in flight. -/
def State.modRec (s : State) (h uid : Nat) (f : StepRec → StepRec) : State :=
  let b := s.bsk h
  s.setBsk h { b with inflight := lmod (fun x => x.uid = uid) f b.inflight }

/-- The record of a step in flight: the last one put in of its issue number, which no other holds. -/
def Basket.rec? (b : Basket) (uid : Nat) : Option StepRec := b.inflight.reverse.find? (fun x => x.uid = uid)

/-- Complete a step; a chained QNT and its ROT complete together, the ROT's record first, once the order lets both (06, R211). -/
def State.tryFinish (s : State) (r : StepRec) : State :=
  let b := s.bsk r.h
  match r.chainOf.bind b.rec? with
  | none => s.tryEnd r
  | some k =>
    if r.done && ordClear b.inflight k && ordClear (b.inflight.filter (fun x => x.uid != k.uid)) r then
      let s := (s.modRec r.h k.uid (fun x => { x with done := true })).tryEnd { k with done := true }
      if ((s.bsk r.h).rec? k.uid).isNone then s.tryEnd r else s
    else s

/-- The epoch and digest units are sent with (11, Table 11-11). -/
def Dzf.sendCfg (d : Dzf) : Nat × Nat :=
  if d.phase = 1 then (d.prevEpoch.toNat, d.prevDigest.toNat) else (d.epoch.toNat, d.digest.toNat)

/-- The CFG field of a packet (11, Table 11-5). -/
def cfgField (c : Nat × Nat) : Nat := shl (c.1 % 16) 12 + c.2 % 4096

/-- A step record as it issues. -/
def recAt (s : State) (sid : Nat) (h : Hdr) : StepRec where
  uid      := s.nextUid
  sid      := sid
  h        := (s.str sid).bsk
  opc      := h.opc
  idx      := (s.str sid).ptr
  ord      := ordOf h
  sig      := h.sig
  done     := false
  status   := 0
  detail   := 0
  failed   := 0
  replays  := 0
  convSat  := false
  potOvf   := false
  outSat   := false
  widen    := false
  pots     := []
  scales   := []
  units    := 0
  block    := 0
  firstAt  := s.time
  firstTag := 0
  total    := 0
  cfg      := cfgField s.dzf.sendCfg
  retry    := false
  retryOf  := none
  chainOf  := none
  stalled  := false

/-- The stream goes on at step p. -/
def State.goTo (s : State) (sid p : Nat) : State := s.setStr sid { s.str sid with ptr := p }

/-- Put a step in flight. -/
def State.enter (s : State) (r : StepRec) : State :=
  let b := s.bsk r.h
  { s.setBsk r.h { b with inflight := b.inflight ++ [r] } with nextUid := s.nextUid + 1 }

/-- A control step, or a skipped step, is over at issue: it completes now if its order and the ring allow it, else it
waits in flight for STEP_COMPLETION (05, R148, R149; log entry 23, DEDUCED). -/
def State.over (s : State) (r : StepRec) : State :=
  let r := { r with done := true }
  (s.enter r).tryFinish r

end Sys2Proof.Machine
end

