-- ==== Sys2Proof/Machine/FabricOps.lean ====
section
/-! DEFINITION. Sending on the Dzini fabric: the voucher of the configuration, routing, units and their tags (07, R241,
R252 to R255; 11, R353, R355 to R363, R369). -/

namespace Sys2Proof.Machine

/-- The port number that stands for the node's own local target (07, R241; log entry 28, DEDUCED). -/
def ownPort : Nat := 0xFFFF

/-- Initial HOPS; 0 acts as 1 (11, Table 11-18). -/
def Dzf.hops0 (d : Dzf) : Nat := max 1 (bits d.cfg.toNat 31 24)

/-- Resend time in ns; values below 4 act as 4 (11, R358, Table 11-18). -/
def Dzf.resendNs (d : Dzf) : Nat := 1000 * max 4 (bits d.cfg.toNat 23 16)

/-! ## Routing (11, R353, R359, R360) -/

/-- The live ports of a port set (11, R345). -/
def State.livePorts (s : State) (set : Nat) : List Nat :=
  (List.range 32).filter (fun p => bit set p && (s.port p).st = .up)

/-- The matching entries that hold a live port, in index order (11, R359). -/
def State.candidates (s : State) (t : Tab Route) (key : Nat) : List (Nat × Route) :=
  t.filter (fun e => decide (e.1 < 256) && e.2.valid && (key &&& e.2.mask) = e.2.value && !(s.livePorts e.2.ports).isEmpty)

/-- A tie between entries of a table, recorded once per pair and epoch (11, R359, R372). -/
def State.routeTie (s : State) (table win tied : Nat) : State :=
  if s.dzf.ties.contains (table, win, tied) then s
  else ({ s with dzf := { s.dzf with ties := s.dzf.ties ++ [(table, win, tied)] } }).raise 0x0803 0 0x05 0
    (shl table 31 + shl win 8 + tied)

/-- The winning entry of a table (11, R359). -/
def State.lookup (s : State) (table key : Nat) : Option Route × State :=
  let cs := s.candidates (if table = 0 then s.dzf.group else s.dzf.member) key
  let top := maxNat (cs.map (·.2.prio))
  match cs.filter (fun e => e.2.prio = top) with
  | [] => (none, s)
  | [e] => (some e.2, s)
  | e :: rest =>
    let s := { s with dzf := { s.dzf with tie := sat32 (s.dzf.tie + 1) } }
    (some e.2, rest.foldl (fun s x => s.routeTie table e.1 x.1) s)

/-- The port of a winning entry: the lowest live one, or for REL and ATM units the sprayed one (11, R360). -/
def State.choosePort (s : State) (set : Nat) (spray : Bool) (tag src : Nat) (transit : Bool) : Option Nat :=
  let ps := s.livePorts set
  if spray then
    let x := (BitVec.ofNat 32 tag ^^^ BitVec.ofNat 32 (bits s.dzf.cfg.toNat 15 0) ^^^
      (if transit then BitVec.ofNat 32 src else 0)) * 0x9E3779B9#32
    ps[x.toNat / 2 ^ 16 % max 1 ps.length]?
  else ps.head?

/-- The tree: down the way a grant for the destination passed, else towards the coordinator (11, R353). -/
def State.treePort (s : State) (dst : Nat) : Option Nat :=
  match tget noneDflt s.dzf.downPath dst with
  | some p => if (s.port p).st = .up then some p else s.dzf.parent
  | none => s.dzf.parent

/-- The port a packet leaves by (11, R359, R360); `rsp` packets follow the ORD rule (log entry 100, DEDUCED). -/
def State.egress (s : State) (p : Packet) (rsp transit : Bool) : Option Nat × State :=
  if p.dst = s.dzf.nodeId ∧ s.dzf.idValid then (some ownPort, s) else
  let (table, key) := if p.dst / 128 = s.dzf.nodeId / 128 then (1, p.dst % 128) else (0, p.dst / 128)
  match s.lookup table key with
  | (some e, s) => (s.choosePort e.ports (!rsp && (p.cls = 1 || p.cls = 2)) p.tag p.src transit, s)
  | (none, s) => (if p.cls = 3 && !rsp then s.treePort p.dst else none, s)

/-- Put a packet on a port (log entry 20, DESIGN CHOICE). -/
def State.putPort (s : State) (port : Nat) (p : Packet) : State := { s with tx := s.tx ++ [(port, p, s.time)] }

/-! ## Answers, and packets without a way (11, R360, R361) -/

/-- n × 4 free bytes. -/
def freeBytes (k : Nat) : Nat → List Byte
  | 0 => []
  | n + 1 => leBytes 4 (Config.freeWord k).toNat ++ freeBytes (k + 1) n

/-- The answer to a unit: DST and SRC exchanged, its TAG, SEQ and CFG repeated (11, Table 11-5). -/
def State.reply (s : State) (m : Packet) (status : Nat) (payload : List Byte) : Packet where
  type    := if m.type = 2 then 0x06 else 0x05
  cls     := m.cls
  atype   := 0
  ctlRsv  := 0
  dst     := m.src
  src     := m.dst
  cfg     := m.cfg
  inc     := s.dzf.inc
  status  := status
  hops    := s.dzf.hops0
  rsv     := 0
  tag     := m.tag
  seq     := m.seq
  stime   := s.time % 2 ^ 32
  addr    := 0
  ben     := 0
  payload := payload

/-- Send an answer by the ORD rule towards its DST; with no way there it is lost, and the source's timer runs (11, R360). -/
def State.sendReply (s : State) (p : Packet) (transit : Bool) : State :=
  match s.egress p true transit with
  | (some q, s) => s.putPort q p
  | (none, s) => s

/-- Answer NO_ROUTE towards the SRC of a unit; other packets are lost. -/
def State.noRoute (s : State) (m : Packet) : State :=
  if 1 ≤ m.type ∧ m.type ≤ 4 then
    let (bs, s) : List Byte × State := if m.type = 2 then (freeBytes s.freeCtr 16, { s with freeCtr := s.freeCtr + 16 }) else ([], s)
    s.sendReply (s.reply m 0x05 bs) true
  else s

/-- A packet that waits in the queue of a port out of use is routed again (11, R362): a transit unit with no way left is
answered NO_ROUTE, and one of the node's own waits for its resend timer. -/
def State.rerouted (s : State) (m : Packet) : State :=
  let own := s.dzf.idValid && m.src = s.dzf.nodeId
  match s.egress m (m.type = 5 || m.type = 6) (!own) with
  | (some q, s) => s.putPort q m
  | (none, s) => if own then s else s.noRoute m

/-- Whether a packet put on port n at time t may still wait there: 100 µs of waiting discard it (11, R357). -/
def mayWait (n now : Nat) (e : Nat × Packet × Nat) : Bool := e.1 = n && decide (now ≤ e.2.2 + 100000)

/-- The packets still queued for port n, as the free bits from k on have it, and the others: no rule says when a packet has
left its queue (log entry 147, DESIGN CHOICE). -/
def queuedOn (n now : Nat) : Nat → List (Nat × Packet × Nat) → List Packet × List (Nat × Packet × Nat)
  | _, [] => ([], [])
  | k, e :: l =>
    let r := queuedOn n now (k + 1) l
    if mayWait n now e && (Config.freeWord k).getLsbD 0 then (e.2.1 :: r.1, r.2) else (r.1, e :: r.2)

/-- Port n leaves routing: the units still queued for it are routed again at once (11, R362, Table 11-3). -/
def State.reroute (s : State) (n : Nat) : State :=
  let q := queuedOn n s.time s.freeCtr s.tx
  q.1.foldl State.rerouted { s with tx := q.2, freeCtr := s.freeCtr + s.tx.length }

/-- A node without a valid ID, with SYNC = 0, or within 2 ms of a reset originates MGT traffic only (11, R352, R354,
R363). -/
def State.mayOriginate (s : State) : Bool := s.dzf.idValid && s.dzf.sync && decide (s.dzf.quietTil ≤ s.time)

/-! ## Units at their source -/

/-- A unit with no answer yet. -/
def FUnit.waiting (u : FUnit) : Bool := !u.good && !u.failed

/-- Payload bytes of a unit that is sent from memory: those it enables, the others zero (06, R221). -/
def State.unitPayload (s : State) (u : FUnit) : List Byte :=
  if u.lazy then List.replicate u.off 0 ++ s.rd u.local_ u.len ++ List.replicate (64 - u.off - u.len) 0 else u.pkt.payload

/-- Transmit a unit, first or again: a new STIME; with no route it waits for its resend timer (07, R252; 11, R358). -/
def State.transmit (s : State) (u : FUnit) : State :=
  let p := { u.pkt with stime := s.time % 2 ^ 32, hops := s.dzf.hops0 }
  let u := { u with pkt := p, lastAt := s.time, busyAt := none }
  let s := { s with dzf := { s.dzf with units := u :: s.dzf.units.filter (fun x => x.pkt.tag != p.tag) } }
  if s.mayOriginate then
    match s.egress p false false with
    | (some port, s) => s.putPort port p
    | (none, s) => s
  else s

/-- Put a unit among the outstanding ones without sending it: its resend limit has passed, and it is given up (07, R255). -/
def State.ageUnit (s : State) (u : FUnit) : State :=
  { s with dzf := { s.dzf with units := { u with lazy := false, lastAt := s.time } :: s.dzf.units.filter (fun x => x.pkt.tag != u.pkt.tag) } }

/-- Issue a unit: its source, incarnation, CFG and, in class ORD, its SEQ are fixed now; a reissued one keeps the CFG of its
first issue (07, R252; 11, R363, R369). -/
def State.issueUnit (s : State) (u : FUnit) : State :=
  let d := s.dzf
  let ord := u.pkt.cls = 0
  let seq := if ord then tget natDflt d.nextSeq u.pkt.dst else 0
  let p := { u.pkt with
    src := d.nodeId, cfg := if u.again then u.pkt.cfg else cfgField d.sendCfg, inc := d.inc, seq := seq, payload := s.unitPayload u }
  let s := if ord then
      { s with dzf := { d with nextSeq := tset natDflt d.nextSeq u.pkt.dst ((seq + 1) % 2 ^ 32) } }
    else s
  s.transmit { u with pkt := p, lazy := false, firstAt := if u.again then u.firstAt else s.time }

/-- Issue waiting units while fewer than 16,384 are outstanding; one whose first issue lies more than 1.9 ms back is not sent
(07, R252, R255). -/
def pumpUnits : Nat → State → State
  | 0, s => s
  | n + 1, s =>
    match s.dzf.backlog with
    | [] => s
    | u :: rest =>
      if 16384 ≤ (s.dzf.units.filter FUnit.waiting).length then s
      else
        let s : State := { s with dzf := { s.dzf with backlog := rest } }
        pumpUnits n (if u.again && decide (u.firstAt + 1900000 < s.time) then s.ageUnit u else s.issueUnit u)

/-- Hand units to the fabric engine, in order. -/
def State.sendUnits (s : State) (us : List FUnit) : State :=
  let s := { s with dzf := { s.dzf with backlog := s.dzf.backlog ++ us } }
  pumpUnits s.dzf.backlog.length s

/-- Reserve n consecutive tags (07, R252). -/
def State.takeTags (s : State) (n : Nat) : Nat × State :=
  (s.dzf.nextTag, { s with dzf := { s.dzf with nextTag := (s.dzf.nextTag + n) % 2 ^ 32 } })

/-- A packet of a source, before its issue. -/
def unitPacket (type cls atype addr tag ben : Nat) (payload : List Byte) : Packet where
  type := type
  cls := cls
  atype := atype
  ctlRsv := 0
  dst := bits addr 59 44
  src := 0
  cfg := 0
  inc := 0
  status := 0
  hops := 0
  rsv := 0
  tag := tag % 2 ^ 32
  seq := 0
  stime := 0
  addr := addr / 64 * 64
  ben := ben
  payload := payload

/-- A READ unit: n bytes at offset off of the 64-byte unit at addr go to local offset `dst`. -/
def readUnit (who : UnitFor) (cls part addr off n dst tag : Nat) : FUnit where
  pkt := unitPacket 0x02 cls 0 addr tag 0 []
  who := who
  part := part
  local_ := dst
  off := off
  len := n
  firstAt := 0
  lastAt := 0
  good := false
  goodAt := 0
  busyAt := none
  failed := false
  lazy := false
  again := false

/-- A WRITE unit of n bytes at offset off of the unit at addr, read from local offset `src` as it is sent. -/
def writeUnit (who : UnitFor) (cls part addr off n src tag : Nat) : FUnit :=
  { readUnit who cls part addr off n src tag with
    pkt := unitPacket 0x01 cls 0 addr tag (2 ^ (off + n) - 2 ^ off) [], lazy := true }

/-- An ATOMIC unit of n elements, with its payload. -/
def atomicUnit (who : UnitFor) (part atype addr n tag : Nat) (payload : List Byte) : FUnit :=
  { readUnit who 2 part addr 0 0 0 tag with
    pkt := unitPacket 0x03 2 atype addr tag (2 ^ n - 1) (payload ++ List.replicate (64 - payload.length) 0) }

/-- The aligned 64-byte pieces of n bytes at a: address of the unit, offset in it, length, and offset in the bytes
(06, R222). -/
def pieces (a n : Nat) : List (Nat × Nat × Nat × Nat) :=
  if n = 0 then [] else
  (List.range ((a + n - 1) / 64 - a / 64 + 1)).map (fun i =>
    let u := (a / 64 + i) * 64
    let lo := max a u
    let hi := min (a + n) (u + 64)
    (u, lo - u, hi - lo, lo - a))

end Sys2Proof.Machine
end

