-- ==== Sys2Proof/Machine/Optics.lean ====
section
/-! DEFINITION. The optical side of a Pan: sparing of rows and columns, the levels and weights of its 136 columns, the
converters, the drive levels of its rings, the local copy of a bank, and the blind corrections (02, R30 to R44, R50; 09,
R294, R295, R298). -/

namespace Sys2Proof.Machine

/-! ## Sparing (02, R33 to R36, Tables 02-21, 02-22) -/

/-- A sparing map: `PAN_ROWSPARE`, `PAN_COLSPARE0` and `PAN_COLSPARE1` as the tables lay them out. -/
structure PanMap where
  row : W32
  c0  : W32
  c1  : W32
  deriving DecidableEq, Repr

/-- The map in force of a Pan (R35). -/
def Pan.map (p : Pan) : PanMap := { row := p.mapRow, c0 := p.mapCol0, c1 := p.mapCol1 }

/-- The map its sparing registers read, which its next sweep starts from (09, R304). -/
def Pan.startMap (p : Pan) : PanMap := { row := p.rowSpare, c0 := p.colSpare0, c1 := p.colSpare1 }

/-- The data slot that spare row 130 + i is enabled for. -/
def rowEntry (m : PanMap) (i : Nat) : Option Nat :=
  let b := bits m.row.toNat (8 * i + 7) (8 * i)
  if bit b 7 then some (b % 128) else none

/-- The primary column of its band that spare column i is enabled for: spares 2b and 2b + 1 are columns 34b + 32 and
34b + 33 of band b. -/
def colEntry (m : PanMap) (i : Nat) : Option Nat :=
  let w := if i < 4 then m.c0 else m.c1
  let b := bits w.toNat (8 * (i % 4) + 7) (8 * (i % 4))
  if bit b 7 then some (b % 32) else none

/-- The spare row that serves a slot: of two that name it, the lower-numbered takes it (R36). -/
def rowSpareOf (m : PanMap) (slot : Nat) : Option Nat := (List.range 4).find? (fun i => rowEntry m i = some slot)

/-- The spare that serves primary column j of band b: of two that name it, the lower-numbered takes it (R36). -/
def colSpareOf (m : PanMap) (b j : Nat) : Option Nat :=
  (List.range 2).find? (fun i => colEntry m (2 * b + i) = some j)

/-- The physical row of a data slot (R35). -/
def rowOf (m : PanMap) (slot : Nat) : Nat :=
  match rowSpareOf m slot with
  | some i => 130 + i
  | none => slot

/-- The column of logical element k (R33). -/
def columnOf (m : PanMap) (k : Nat) : Nat :=
  34 * (k / 32) + (match colSpareOf m (k / 32) (k % 32) with
    | some i => 32 + i
    | none => k % 32)

/-- The logical element a column serves; none where it is dark: an unmapped spare, a spare another one of the same name
stands before, or a primary column that is replaced (R33, R34, R36). -/
def elemOf (m : PanMap) (col : Nat) : Option Nat :=
  let b := col / 34
  let j := col % 34
  if j < 32 then (if (colSpareOf m b j).isNone then some (32 * b + j) else none)
  else match colEntry m (2 * b + (j - 32)) with
    | some x => if colSpareOf m b x = some (j - 32) then some (32 * b + x) else none
    | none => none

/-- The slot a physical data row serves; none for a row that stands dark (R35, R36). -/
def slotOf (m : PanMap) (row : Nat) : Option Nat :=
  if row < 128 then (if (rowSpareOf m row).isNone then some row else none)
  else match rowEntry m (row - 130) with
    | some s => if 130 ≤ row ∧ rowSpareOf m s = some (row - 130) then some s else none
    | none => none

/-! ## Levels, converters (02, R30, R33, R34, R39, Tables 02-2, 02-3) -/

/-- The physical columns of a group: 34 of each of its bands. -/
def groupCols (gsize group : Nat) : List Nat :=
  (List.range (gsize / 32)).flatMap (fun i => (List.range 34).map (fun j => 34 * (group * (gsize / 32) + i) + j))

/-- What a group's columns hold of values given element by element: 0 on every column that serves none (R34). -/
def onCols (els : List (Option Nat)) (first : Nat) (v : List Int) : List Int :=
  els.map (fun e => match e with
    | some k => v.getD (k - first) 0
    | none => 0)

/-- The converter of a row that converts vector j of a group: by band, and in fast mode by even and odd symbols (R39,
Table 02-3). -/
def convIx (gsize group : Nat) (fast : Bool) (j : Nat) : Nat :=
  if fast then j % 2 else if gsize = 128 then 0 else if gsize = 64 then group % 2 else group / 2 % 2

/-- Wiring code of a group size: 0 group 128 and fast mode, 1 group 64, 2 group 32 (09, R298). -/
def wiringOf (gsize : Nat) : Nat := if gsize = 128 then 0 else if gsize = 64 then 1 else 2

/-- Index of a blind correction: physical row, converter, wiring. -/
def blindIx (r conv w : Nat) : Nat := (r * 2 + conv) * 4 + w

/-! ## Rings (02, R37, R43, R44) -/

/-- Twice the weight a ring is written to; none is the drive for weight 0 (R34; 05, R174). -/
def codeW2 (wfmt : Nat) (cb : List Int) : Option Nat → Int
  | some c => wVal2 wfmt c cb
  | none => 0

/-- The capacitors written, or rewritten, from the local copy through the tables in force (R42, R44). -/
def Bank.drive (k : Bank) (wfmt calId now : Nat) : Bank :=
  { k with w2 := k.codes.map (fun r => r.map (codeW2 wfmt k.cb)), calId := calId, writtenAt := now }

/-- The weight format a bank was written in. -/
def Bank.wfmt (k : Bank) : Nat := match k.desc with
  | some d => d.wfmt
  | none => 0

/-- Twice the weight of the ring at a physical row and column; rows 128 and 129 hold the column means, 128 times over
(R34, R42, R43). -/
def Bank.ringW2 (k : Bank) (m : PanMap) (row col : Nat) : Int :=
  match elemOf m col with
  | none => 0
  | some e =>
    if row = 128 then sumInt (k.w2.map (fun r => r.getD e 0))
    else if row = 129 then sumInt (k.w2.zipIdx.map (fun r => if r.2 % 2 = 1 then -(r.1.getD e 0) else r.1.getD e 0))
    else match slotOf m row with
      | some s => (k.w2.getD s []).getD e 0
      | none => 0

/-- The 8-bit drive level on a ring's hold capacitor: the column's level for the weight in the bank, by the level tables
(for W4C, formed from the codebook), and the ring's own 4-bit offset trim, all of the calibration set the bank went
through (R37, R43; log entry 111, DESIGN CHOICE). A row that stands dark is not written (R42). -/
def Bank.ringDrive (k : Bank) (pan : Nat) (isB : Bool) (m : PanMap) (row col : Nat) : Option Nat :=
  if row < 128 ∧ (slotOf m row).isNone ∨ 130 ≤ row ∧ (slotOf m row).isNone then none
  else
    let den : Int := if row = 128 ∨ row = 129 then 128 else 1
    some ((Config.levelDrive k.calId pan isB col (k.ringW2 m row col) (den * k.cmax2) +
      Config.ringTrim k.calId pan row col % 16) % 256)

/-- The 4-bit position of a ring in the local copy: the code written to it; 0 in the positions of C0 and C1 and of rows
that stand dark (R44). -/
def Bank.copyPos (k : Bank) (m : PanMap) (row col : Nat) : Nat :=
  match slotOf m row, elemOf m col with
  | some s, some e => if row = 128 ∨ row = 129 then 0 else (((k.codes.getD s []).getD e none).getD 0) % 16
  | _, _ => 0

/-! ## Blind corrections and their sums (09, R298, R299; 02, R50) -/

/-- A correction at rest. -/
def Blind.rest (b : Blind) : Bool := b.off = 0 && b.gain = 4294967296

/-- y as an integer number of 2^-149 u. -/
def yInt (y : W32) : Int :=
  match f32v y with
  | .fin neg m e => sgnMant neg (m * 2 ^ (e + 149).toNat)
  | _ => 0

/-- y after its correction: the offset taken off, then the gain, rounded once (log entry 112, DESIGN CHOICE). -/
def Blind.apply (b : Blind) (y : W32) : W32 :=
  if b.rest then y else f32rat ((yInt y * 65536 - b.off * 2 ^ 149) * b.gain) (2 ^ 197)

/-- y in u, exactly. -/
def yRat (y : W32) : Rat := mkRat (yInt y) (2 ^ 149)

/-- Sum of a list of rationals. -/
def sumRat (l : List Rat) : Rat := l.foldl (· + ·) 0

/-- The mean of n values. -/
def meanRat (l : List Rat) : Rat := if l.isEmpty then 0 else sumRat l / l.length

/-- The variance of n values about their mean. -/
def varRat (l : List Rat) : Rat :=
  let m := meanRat l
  meanRat (l.map (fun x => (x - m) * (x - m)))

/-- The mean and variance over the vectors of each element's drive g_a v. -/
def driveStats (n : Nat) (as : List (List Rat)) : List (Rat × Rat) :=
  (List.range n).map (fun k => let c := as.map (fun a => a.getD k 0); (meanRat c, varRat c))

/-- What one row of one block adds to the sums of one converter and wiring: `wu` the weights in units of 1/7, `st` the mean
and variance of each element's drive over the vectors it converted, `ys` their y (R298). -/
def blindOf (wu : List Rat) (st : List (Rat × Rat)) (ys : List Rat) : BlindSum :=
  let b : Rat := ys.length
  let m := meanRat ys
  { sy := sumRat ys
    sp := b * sumRat (List.zipWith (fun w c => w * c.1) wu st)
    sd := sumRat (ys.map (fun y => (y - m) * (y - m)))
    sq := b * sumRat (List.zipWith (fun w c => w * w * c.2) wu st)
    n := ys.length }

/-- Join two sums. -/
def BlindSum.join (a b : BlindSum) : BlindSum :=
  { sy := a.sy + b.sy, sp := a.sp + b.sp, sd := a.sd + b.sd, sq := a.sq + b.sq, n := a.n + b.n }

/-- A rational in 1/65,536, rounded to nearest with ties away from zero. -/
def rat16 (x : Rat) : Int := divAway (x.num * 65536) x.den

/-! ## The repair of a sparing map (09, R295) -/

/-- The bytes of a sparing register. -/
def mapBytes (w : W32) : List Nat := (List.range 4).map (fun i => bits w.toNat (8 * i + 7) (8 * i))

/-- A map from its row entries and its column entries. -/
def PanMap.ofBytes (rows cols : List Nat) : PanMap :=
  { row := BitVec.ofNat 32 (leNat (rows.map (BitVec.ofNat 8))), c0 := BitVec.ofNat 32 (leNat ((cols.take 4).map (BitVec.ofNat 8)))
    c1 := BitVec.ofNat 32 (leNat ((cols.drop 4).map (BitVec.ofNat 8))) }

/-- The row entries of a map, and its column entries. -/
def PanMap.rows (m : PanMap) : List Nat := mapBytes m.row
/-- See `PanMap.rows`. -/
def PanMap.cols (m : PanMap) : List Nat := mapBytes m.c0 ++ mapBytes m.c1

/-- A column fails: its modulator fails R31, or its rings fail in 3 or more rows (R295). -/
def colFails (rings : List (Nat × Nat)) (mods : List Nat) (col : Nat) : Bool :=
  mods.contains col || decide (3 ≤ (((rings.filter (fun e => e.2 = col)).map (·.1)).eraseDups).length)

/-- Give each index in `need` the first free entry that `ok` allows; none where one finds no free spare. `ok` says which
entries may serve an index. -/
def assign (ok : Nat → Nat → Bool) (code : Nat → Nat) : List Nat → List Nat → Option (List Nat)
  | [], es => some es
  | x :: t, es =>
    match (List.range es.length).find? (fun i => ok i x && es.getD i 0 < 128) with
    | some i => assign ok code t (es.set i (128 + code x))
    | none => none

/-- The map a sweep leaves, from the map it starts from and the rings (row, column) and modulators that failed; none where
a check row fails or no spare is free: columns first, then the rows that still hold a failing ring in a column that
serves an element (R295; log entry 113, DESIGN CHOICE). -/
def repairMap (m : PanMap) (rings : List (Nat × Nat)) (mods : List Nat) : Option PanMap :=
  let bad (col : Nat) : Bool := colFails rings mods col
  let spareCol (i : Nat) : Nat := 34 * (i / 2) + 32 + i % 2
  let cols := (m.cols.zipIdx).map (fun e => if bad (spareCol e.2) then 0 else e.1)
  let m1 := PanMap.ofBytes m.rows cols
  let need := (List.range 128).filter (fun k => bad (34 * (k / 32) + k % 32) && (colSpareOf m1 (k / 32) (k % 32)).isNone)
  match assign (fun i k => i / 2 = k / 32 && !bad (spareCol i)) (· % 32) need cols with
  | none => none
  | some cols =>
    let m2 := PanMap.ofBytes m.rows cols
    let rowBad (r : Nat) : Bool := rings.any (fun e => e.1 = r && (elemOf m2 e.2).isSome)
    if rowBad 128 || rowBad 129 then none else
    let rows := (m.rows.zipIdx).map (fun e => if rowBad (130 + e.2) then 0 else e.1)
    let m3 := PanMap.ofBytes rows cols
    let need := (List.range 128).filter (fun r => rowBad r && (rowSpareOf m3 r).isNone)
    match assign (fun i _ => !rowBad (130 + i)) id need rows with
    | none => none
    | some rows => some (PanMap.ofBytes rows cols)

end Sys2Proof.Machine
end

