-- ==== Sys2Proof/Machine/PanOps.lean ====
section
/-! DEFINITION. The arithmetic of a Pan: bank contents, group partials, check-row tests, BF20 sets and promotion trees
(02, R30 to R58; 03, R73 to R78, R97; 04, R104 to R119). -/

namespace Sys2Proof.Machine

/-! ## Banks (02, R42; 03, R73 to R78; 06, R198) -/

/-- What a bank write counts: W4I codes 0x8, W3 codes 0x4, WT codes 0x2, codebook entries -128, NaN group scales
(03, R74, R75, R78). -/
structure FmtCount where
  w4i : Nat
  w3  : Nat
  wt  : Nat
  cb  : Nat
  nan : Nat
  deriving DecidableEq, Repr

/-- Add a bank write's counts to the Basket (03, Tables 03-10 to 03-12). -/
def Basket.addFmt (b : Basket) (c : FmtCount) : Basket :=
  { b with w4iNeg8 := sat16 (b.w4iNeg8 + c.w4i), w3Neg4 := sat16 (b.w3Neg4 + c.w3), wtRsv := sat16 (b.wtRsv + c.wt)
           cbNeg128 := sat16 (b.cbNeg128 + c.cb), nanScale := sat16 (b.nanScale + c.nan) }

/-- The 128 codes of slot s in a tile's bytes (05, R173). -/
def slotCodes (bs : List Byte) (b s : Nat) : List Nat :=
  let n := leNat ((bs.drop (s * 16 * b)).take (16 * b))
  (List.range 128).map (packed n b)

/-- Rows of the tile within R, and elements within K (05, R174). -/
def tileRows (d : WDesc) (tile : Nat) : Nat := min 128 (d.rows - 128 * (tile / rbOf' d.cols))
where
  /-- K blocks. -/
  rbOf' (k : Nat) : Nat := (k + 127) / 128

/-- Elements of the tile within K. -/
def tileCols (d : WDesc) (tile : Nat) : Nat := min 128 (d.cols - 128 * (tile % ((d.cols + 127) / 128)))

/-- Scale group in elements. -/
def WDesc.g (d : WDesc) : Nat := 32 * 2 ^ d.sgrp

/-- A bank written with tile `tile` of d from its bytes under a calibration set, and what the write counts: elements beyond
R or K take the drive for weight 0 (02, R42, R44; 05, R174; log entry 32, DESIGN CHOICE). -/
def formBank (d : WDesc) (tile : Nat) (bs cbs : List Byte) (scales : List (List Nat)) (calId now : Nat) : Bank × FmtCount :=
  let b := wBits d.wfmt
  let cb := if d.wfmt = 2 then codebook cbs else []
  let nr := tileRows d tile
  let nc := tileCols d tile
  let codes := (List.range 128).map (fun s => if s < nr then (slotCodes bs b s).take nc else [])
  let flat := codes.flatMap id
  let copy := codes.map (fun r => r.map some ++ List.replicate (128 - r.length) none)
  (({ valid := true, desc := some d, tile := tile, codes := copy, cb := cb, cmax2 := cMax2 d.wfmt cb
      sg := scales.map (fun r => r.map groupScale) } : Bank).drive d.wfmt calId now,
   { w4i := if d.wfmt = 0 then flat.count 8 else 0, w3 := if d.wfmt = 3 then flat.count 4 else 0
     wt := if d.wfmt = 5 then flat.count 2 else 0
     cb := if d.wfmt = 2 then cbs.count 0x80#8 else 0
     nan := sumNat (scales.map (fun r => (r.filter (fun x => x % 128 = 127)).length)) })

/-- The record a bank keeps names the weights and the tile; the space and the window the offsets count from are part of
the source base and of the addresses (05, R170; log entry 114, DESIGN CHOICE). -/
def Bank.holds (k : Bank) (d : WDesc) (tile : Nat) : Bool :=
  k.valid && k.tile = tile && (match k.desc with
    | some e => e.src = d.src && e.space = d.space && e.wfmt = d.wfmt && e.sgrp = d.sgrp && e.gsc = d.gsc &&
        e.tsc = d.tsc && e.win = d.win
    | none => false)

/-- The selected bank of a Pan, and the idle one. -/
def Pan.sel (p : Pan) : Bank := if p.selB then p.b else p.a
/-- See `Pan.sel`. -/
def Pan.idle (p : Pan) : Bank := if p.selB then p.a else p.b
/-- Replace the idle bank. -/
def Pan.setIdle (p : Pan) (k : Bank) : Pan := if p.selB then { p with a := k } else { p with b := k }

/-! ## Rates and noise (02, R39, R40, Table 02-7; 01, R24) -/

/-- Symbol rate code of a run: 4 for 8 GBd, 3, 2 and 1 for 4, 2 and 1 GBd. Group 32 runs at 2 GBd at most; the rate
margin halves the rate the Pan would otherwise run at, fast mode's too (02, R39, R40; 09, R302, Table 09-5). -/
def rateOf (base gsize : Nat) (fast halved : Bool) : Nat :=
  let r := if fast then 4 else if gsize = 32 then min 2 base else base
  if halved then max 1 (r - 1) else r

/-- σ_g in tenths of u, and effective bits in tenths (02, Table 02-7). -/
def sigma10 (gsize rate : Nat) : Nat × Nat :=
  if gsize = 128 then (match rate with | 4 => (509, 83) | 3 => (360, 88) | 2 => (254, 93) | _ => (193, 97))
  else if gsize = 64 then (match rate with | 4 => (168, 89) | 3 => (168, 89) | 2 => (119, 94) | _ => (96, 97))
  else (match rate with | 4 => (59, 94) | 3 => (59, 94) | 2 => (59, 94) | _ => (45, 98))

/-- The sum of the four bands' losses in 0.01 dB, held to 0 to 6 dB in the mean (02, R58). -/
def Pan.loss (p : Pan) : Nat :=
  let lv := sumInt ((List.range 4).map (fun b => (tget (fun _ => ({} : Tap)) p.taps b).level))
  (clampI 0 2400 (-lv)).toNat

/-- a > b × 2^(e / 5000), exactly. -/
def gtBand (a b e : Nat) : Bool :=
  if e = 0 then decide (b < a) else if a ≤ b then false else if 16 * b < a then true
  else decide (b ^ 5000 * 2 ^ e < a ^ 5000)

/-- 16 σ_g rounded down, for `PAN_NOISE` (02, Table 02-27). -/
def sigma16 (s10 e : Nat) : Nat :=
  (List.range 12).foldl (fun n i =>
    let c := n + 2 ^ (11 - i)
    if gtBand (10 * c) (16 * s10) e then n else c) 0

/-! ## A group block (02, R30, R49, R51; 04, R104 to R109) -/

/-- Bits of the converter's LSB: 217 × 2^-lsh u (04, R104). -/
def lshOf (gsize : Nat) : Nat := if gsize = 128 then 2 else if gsize = 64 then 3 else 4

/-- Twice the weights of the group's elements, slot by slot. -/
def groupW2 (k : Bank) (group gsize : Nat) : List (List Int) := k.w2.map (fun r => (r.drop (group * gsize)).take gsize)

/-- Column sums over the slots, plain and alternating: 128 × twice the weights of C0 and C1 (02, R42, R43). -/
def checkW2 (alt : Bool) (w : List (List Int)) : List Int :=
  (w.zipIdx).foldl (fun acc r => List.zipWith (· + ·) acc (if alt ∧ r.2 % 2 = 1 then r.1.map (-·) else r.1))
    (List.replicate ((w.headD []).length) 0)

/-- Inner product. -/
def dot (a b : List Int) : Int := sumInt (List.zipWith (· * ·) a b)

/-- A row's conversion: x2 is twice Σ L w, scaled by `den` for the check rows; n is the noise in 1/1,024 u. A ring holds
exactly w / C_max, a codebook entry finer than a drive LSB too (04, R104; 03, R75; log entry 31, DESIGN CHOICE). -/
def convert (x2 : Int) (den cmax2 lsh : Nat) (n : Int) : Int :=
  let c := if cmax2 = 0 then divAway (n * 2 ^ lsh) (217 * 1024)
    else divAway ((7 * 1024 * x2 + n * cmax2 * den) * 2 ^ lsh) (217 * 1024 * cmax2 * den)
  clampI (-512) 511 c

/-- Offset removal: y of one conversion, from the row's summed weights (04, R109). -/
def offsetOut (code : Int) (lsh : Nat) (sum2 : Int) (den cmax2 : Nat) : W32 :=
  let raw := f32rat (code * 217) (2 ^ lsh)
  let kw := if cmax2 = 0 then 0 else f32rat 14 cmax2
  f32sub raw (f32mul (f32rat (8 * sum2) den) kw)

/-- One conversion of a row: y and whether it is at the rail. -/
structure Conv1 where
  y   : W32
  sat : Bool
  deriving DecidableEq, Repr

/-- The settings and the corrections a run on a Pan has: its check bands, tap loss and saturation limit, its map and its
blind corrections in force, and whether its blind trims accumulate (02, R35, R50, R51, R58; 04, R106; 09, R298). -/
structure RunCfg where
  chk    : W32
  loss   : Nat
  satBlk : Nat
  map    : PanMap
  blind  : Tab Blind
  trims  : Bool
  pan    : Nat
  deriving DecidableEq, Repr

/-- The conversions of one physical row over the vectors: levels and weights column by column, the offset from the row's
weights, then the blind correction of the row, converter and wiring (04, R104, R109; 09, R299). -/
def convRow (c : RunCfg) (blk : Block) (row : Nat) (ls : List (List Int)) (w : List Int) (den cmax2 base : Nat) : List Conv1 :=
  let sum2 := sumInt w
  let lsh := lshOf blk.gsize
  (ls.zipIdx).map (fun v =>
    let n := Config.convNoise (base + v.2 * 134 + row)
    let n := if den = 1 then n else n / 8
    let x := convert (dot v.1 w) den cmax2 lsh n
    let ix := blindIx row (convIx blk.gsize blk.group blk.fast v.2) (wiringOf blk.gsize)
    { y := (tget blindDflt c.blind ix).apply (offsetOut x lsh sum2 den cmax2), sat := x = 511 || x = -512 })

/-- What one row of a run adds to its Pan's blind-trim sums, converter by converter, saturated conversions left out; `all`
is each converter's drive statistics over all its vectors (09, R298). -/
def rowSums (blk : Block) (as : List (List Rat)) (all : List (List (Rat × Rat))) (row : Nat) (wu : List Rat) (cs : List Conv1) :
    Tab BlindSum :=
  (List.range 2).filterMap (fun cv =>
    let mine := ((cs.zip as).zipIdx).filter (fun e => convIx blk.gsize blk.group blk.fast e.2 = cv)
    let live := mine.filter (fun e => !e.1.1.sat)
    if live.isEmpty then none else
    let st := if live.length = mine.length then all.getD cv [] else driveStats wu.length (live.map (fun e => e.1.2))
    some (blindIx row cv (wiringOf blk.gsize), blindOf wu st (live.map (fun e => yRat e.1.1.y))))

/-- What a run adds to its Pan's blind-trim sums: every lit row, the check rows too (09, R298). -/
def runSums (blk : Block) (cmax2 : Nat) (rows : List (Nat × Nat × List Int × List Conv1)) : Tab BlindSum :=
  let as := blk.vals.map (fun v => v.map (fun x => ((blk.ga : Int) * x : Rat)))
  let all := (List.range 2).map (fun cv =>
    driveStats blk.gsize (((as.zipIdx).filter (fun e => convIx blk.gsize blk.group blk.fast e.2 = cv)).map (·.1)))
  rows.flatMap (fun r => rowSums blk as all r.1 (r.2.2.1.map (fun w => mkRat (7 * w) (cmax2 * r.2.1))) r.2.2.2)

/-- Check-row difference of each vector (02, R51): plain for C0, alternating for C1. -/
def checkD (rows : List (List Conv1)) (chk : List Conv1) (alt : Bool) : List Int :=
  let zero := chk.map (fun _ => (0 : Int))
  let sum := (rows.zipIdx).foldl (fun acc r =>
    List.zipWith (· + ·) acc (r.1.map (fun c => if alt ∧ r.2 % 2 = 1 then -(yInt c.y) else yInt c.y))) zero
  List.zipWith (fun a c => a - 128 * yInt c.y) sum chk

/-- The multiplier of a row (04, R108). -/
def rowMult (sg st sa : W32) (cmax2 ga : Nat) : W32 := f32mul (f32mul (f32mul sg st) sa) (f32rat cmax2 (14 * ga))

/-- A band multiplier as it acts (02, Table 02-23). -/
def kBand (k : Nat) : Nat := max 0x10 k

/-- What a run's tests find: the first failing test, the counts of failing vector and block tests, and saturated
conversions. -/
def runTests (t : RunCfg) (gsize rate : Nat) (c1 parity : Bool) (rows : List (List Conv1)) (ck0 ck1 : List Conv1) :
    Nat × Nat × Nat × Nat :=
  let s10 := (sigma10 gsize rate).1
  let kv := kBand (bits t.chk.toNat 7 0)
  let kb := kBand (bits t.chk.toNat 15 8)
  let one : Nat := 2 ^ 149
  let vecBad (d : Int) : Bool := gtBand (d.natAbs * 400) (kv * 196 * s10 * one) (3 * t.loss)
  let blkBad (ds : List Int) : Bool :=
    gtBand ((sumInt ds).natAbs ^ 2 * 160000) ((kb * 196 * s10 * one) ^ 2 * ds.length) (6 * t.loss)
  let d0 := checkD rows ck0 false
  let d1 := if c1 then checkD rows ck1 true else []
  let v0 := (d0.filter vecBad).length
  let v1 := (d1.filter vecBad).length
  let b0 := blkBad d0
  let b1 := c1 && blkBad d1
  let satOf (r : List Conv1) : Nat := (r.filter (·.sat)).length
  let all := ck0 :: ck1 :: rows
  let satBad := all.any (fun r => decide (t.satBlk < satOf r))
  let first := if parity then 9 else if 0 < v0 then 1 else if 0 < v1 then 2 else if satBad then 5
    else if b0 then 3 else if b1 then 4 else 0
  (first, v0 + v1, b2n b0 + b2n b1, sumNat (all.map satOf))

/-- Run a group block on a bank: the levels and weights of its columns, each slot on its physical row, then partials,
tests and counts (02, R30, R33 to R36, R49, R51; 04, R106 to R110). `base` numbers its conversions among the free noise
values. -/
def runBlock (t : RunCfg) (blk : Block) (k : Bank) (base : Nat) (parity : Bool) : Run :=
  let w := groupW2 k blk.group blk.gsize
  let els := (groupCols blk.gsize blk.group).map (elemOf t.map)
  let cols (v : List Int) : List Int := onCols els (blk.group * blk.gsize) v
  let ls := blk.vals.map (fun v => cols (v.map (fun x => 16 + (blk.ga : Int) * x)))
  let rows := (w.zipIdx).map (fun r => convRow t blk (rowOf t.map r.2) ls (cols r.1) 1 k.cmax2 base)
  let w0 := checkW2 false w
  let w1 := checkW2 true w
  let ck0 := convRow t blk 128 ls (cols w0) 128 k.cmax2 base
  let ck1 := convRow t blk 129 ls (cols w1) 128 k.cmax2 base
  let (first, vf, bf, sats) := runTests t blk.gsize blk.rate blk.c1Test parity rows ck0 ck1
  let st := match k.desc with | some d => d.st | none => 0
  let gi := blk.group * blk.gsize / (match k.desc with | some d => d.g | none => 128)
  let q := (rows.zipIdx).map (fun r =>
    let m := rowMult ((k.sg.getD r.2 []).getD gi 0) st blk.sa k.cmax2 blk.ga
    r.1.map (fun c => f32mul (if blk.pass = 1 then f32mul c.y 0x41800000#32 else c.y) m))
  let sums := if t.trims then runSums blk k.cmax2 ((((w.zip rows).zipIdx).map (fun r => (rowOf t.map r.2, 1, r.1.1, r.1.2))) ++
    [(128, 128, w0, ck0), (129, 128, w1, ck1)]) else []
  { y := rows.map (fun r => r.map (·.y)), q := q, failCode := first, vecFails := vf, blkFails := bf, sats := sats
    tap := none, pan := t.pan, sums := sums }

/-- Conversions of a run: a place for every physical row and vector. -/
def runConvs (blk : Block) : Nat := blk.vals.length * 134

/-! ## BF20 (04, R112, R113, R118) -/

/-- The overflow marker. -/
def bfMark : Int := -524288

/-- |q| ≥ 2^42 - 2^22, or q not finite. -/
def bfOvf (q : W32) : Bool :=
  match f32v q with
  | .fin _ m e => if 0 ≤ e then decide (2 ^ 42 - 2 ^ 22 ≤ m * 2 ^ e.toNat) else decide ((2 ^ 42 - 2 ^ 22) * 2 ^ (-e).toNat ≤ m)
  | _ => true

/-- The mantissa of q under shared exponent e, ties away from zero. -/
def bfMant (q : W32) (e : Nat) : Int :=
  match f32v q with
  | .fin neg m x =>
    let k := x + 40 - e
    sgnMant neg (if 0 ≤ k then m * 2 ^ k.toNat else rndQuot .away m (2 ^ (-k).toNat))
  | _ => 0

/-- Raise e until no mantissa rounds to 2^19. -/
def bfFit (qs : List W32) : Nat → Nat → Nat
  | 0, e => e
  | n + 1, e => if qs.any (fun q => (bfMant q e).natAbs = 524288) then bfFit qs n (e + 1) else e

/-- Encode a set of rows: shared exponent, mantissas, and signs kept beside markers; `kept` are elements that carry a
marker already, with their sign (04, R113, R118). -/
def bfEncode (qs : List W32) (kept : List (Option Bool)) : Nat × List Int × List Bool :=
  let el := List.zipWith (fun q k => (q, k, k.isSome || bfOvf q)) qs (kept ++ List.replicate (qs.length - kept.length) none)
  let live := (el.filter (fun x => !x.2.2)).map (·.1)
  let a := live.foldl (fun m q => f32max m (f32abs q)) 0
  let e0 := match f32v a with
    | .fin _ m x => if m = 0 then 0 else (max 1 (flog2 m 1 x + 22)).toNat
    | _ => 0
  let e := if e0 = 0 then 0 else bfFit live 2 e0
  (e, el.map (fun x => if x.2.2 then bfMark else if e = 0 then 0 else bfMant x.1 e),
    el.map (fun x => match x.2.1 with
      | some n => n
      | none => x.2.2 && f32lt x.1 0))

/-- Decode an element to FP32 (04, R112, R118). -/
def bfDecode (e : Nat) (m : Int) (neg : Bool) : W32 :=
  if m = bfMark then (if neg then 0xFF800000#32 else 0x7F800000#32)
  else f32of (.fin (decide (m < 0)) m.natAbs ((e : Int) - 40))

/-- Rows in sets of 16. -/
def sets16 {α : Type} (l : List α) : List (List α) := (List.range 8).map (fun k => (l.drop (16 * k)).take 16)

/-- Column j of a row-by-row table. -/
def colOf {α : Type} (m : List (List α)) (j : Nat) (d : α) : List α := m.map (fun r => r.getD j d)

/-- A leaf from a run's q. -/
def leafOf (nvec : Nat) (q : List (List W32)) (low : Bool) : Leaf :=
  let cols := (List.range nvec).map (fun j => (sets16 (colOf q j 0)).map (fun s => bfEncode s []))
  { exps := cols.map (fun c => c.map (·.1)), mants := cols.map (fun c => c.flatMap (·.2.1))
    neg := cols.map (fun c => c.flatMap (·.2.2)), low := low }

/-- Element (slot, column) of a leaf. -/
def Leaf.elem (l : Leaf) (slot col : Nat) : W32 :=
  bfDecode ((l.exps.getD col []).getD (slot / 16) 0) ((l.mants.getD col []).getD slot 0) ((l.neg.getD col []).getD slot false)

/-- An element carries the marker. -/
def Leaf.marked (l : Leaf) (slot col : Nat) : Bool := (l.mants.getD col []).getD slot 0 = bfMark

/-- Add a low pass's q into a leaf (04, R110, R113). -/
def leafAddLow (nvec : Nat) (l : Leaf) (q : List (List W32)) : Leaf :=
  let cols := (List.range nvec).map (fun j =>
    let qs := (List.range 128).map (fun r => f32add (l.elem r j) ((q.getD r []).getD j 0))
    let kept := (List.range 128).map (fun r => if l.marked r j then some ((l.neg.getD j []).getD r false) else none)
    ((sets16 qs).zip (sets16 kept)).map (fun s => bfEncode s.1 s.2))
  { exps := cols.map (fun c => c.map (·.1)), mants := cols.map (fun c => c.flatMap (·.2.1))
    neg := cols.map (fun c => c.flatMap (·.2.2)), low := true }

/-- One level of the promotion tree. -/
def treeLevel : List W32 → List W32
  | a :: b :: t => f32add a b :: treeLevel t
  | l => l

/-- The balanced tree over a window's leaves (04, R118); at most 16 leaves, four levels. -/
def treeSum (l : List W32) : W32 := ((treeLevel (treeLevel (treeLevel (treeLevel l)))).headD 0)

/-- Every leaf of a window has committed, both passes. -/
def Window.whole (w : Window) : Bool := w.leaves.all (fun l => match l with | some l => l.low | none => false)

/-- A window that has just closed whole takes its place among the Pan's promotions, in order of arrival (01, R17; 04, R117). -/
def Pan.stamp (p : Pan) : Pan :=
  p.windows.foldl (fun q w =>
    if w.closed && w.whole && w.ready.isNone then
      { q with nextReady := q.nextReady + 1
               windows := lmod (fun x => x.id = w.id) (fun x => { x with ready := some q.nextReady }) q.windows }
    else q) p

/-- A Pan that leaves its slot has no further group for its open windows: they close (04, R117). -/
def Pan.closeWins (p : Pan) : Pan := Pan.stamp { p with windows := p.windows.map (fun w => { w with closed := true }) }

/-! ## Activity (05, R176, R177; 09, R302) -/

/-- Weighted drive time f × d of a block's symbols in ps: 250 a vector at 4, 2 and 1 GBd, 125 in fast mode (R176). -/
def driveOf (nvec : Nat) (fast : Bool) : Nat := nvec * (if fast then 125 else 250)

/-- The activity level of a drive time in one interval (R176). -/
def levelOf (drove : Nat) : Nat := min 16 (ceilDiv (16 * drove) 4000000)

/-- The highest level a Pan reaches without a gap at a rate, halved by the RATE margin: 16, 8 or 4 (R176; 09, R302). -/
def levelCap (rate : Nat) (halved : Bool) : Nat := 2 ^ (max 1 (rate - b2n halved) + 1)

/-- The RATE margin is in force: it takes the Pan's rate once the plan has come down to the halved one (R177; 09, Table
09-5). -/
def Pan.halved (p : Pan) (rate : Nat) (off : Bool) : Bool :=
  p.margin = 2 && (off || decide (p.lvlNow ≤ levelCap rate true))

/-! ## Comparing a sampled block (10, R324) -/

/-- The first failing test of R324 over the data rows: 7 bias, 8 square, 0 none. -/
def compareRuns (chk : W32) (loss gsize rate : Nat) (a b : Run) : Nat :=
  let s10 := (sigma10 gsize rate).1
  let kb := kBand (bits chk.toNat 15 8)
  let one : Nat := 2 ^ 149
  let rows := List.zipWith (fun x y => List.zipWith (fun p q => yInt p - yInt q) x y) a.y b.y
  let bias (d : List Int) : Bool := gtBand ((sumInt d).natAbs ^ 2 * 1600) ((kb * s10 * one) ^ 2 * 2 * d.length) (6 * loss)
  let square (d : List Int) : Bool :=
    gtBand ((sumInt (d.map (fun x => x * x))).natAbs * 100) (4 * d.length * (s10 * one) ^ 2) (6 * loss)
  if rows.any bias then 7 else if rows.any square then 8 else 0

end Sys2Proof.Machine
end

