-- ==== Sys2Proof/Machine/Service.lean ====
section
/-! DEFINITION. Pans in and out of service: state changes, service slots, spares, margins, abandoned sweeps, retirement and
condition reports (02, R65 to R67; 09, R297, R301, R302; 10, R313 to R321; 13, R404). -/

namespace Sys2Proof.Machine

/-- A condition report: to every subscriber whose mask includes it, and into the notice ring, while Trivet runs
(13, R404). -/
def State.condition (s : State) (kind idx : Nat) (detail : Int) : State :=
  if s.trv.ready || s.trv.recovery then
    let n : Notice := { kind := kind, time := s.time, index := idx, detail := detail }
    let s := s.trv.subs.foldl (fun s u => if bit u.mask kind then s.send (.condition u.eid n) else s) s
    s.notice kind idx detail
  else s

/-- SPAREs a Basket holds. -/
def State.spares (s : State) (h : Nat) : List Nat := (bskPans h).filter (fun p => (s.pan p).mode = .spare)

/-- Report a Basket whose SPARE count changed to or from 0 (10, R320). -/
def State.tellSpares (s : State) (h : Nat) : State :=
  let n := (s.spares h).length
  let b := s.bsk h
  if b.spareTold = decide (0 < n) then s else (s.setBsk h { b with spareTold := decide (0 < n) }).condition 0x01 h n

/-- A SPARE that may take work: no thermal limit, and the most recent converged sweep; the lower Pan on a tie (10, R315). -/
def State.takeSpare (s : State) (h : Nat) : Option Nat :=
  argMin (fun p => s.time - (s.pan p).lastCal) ((s.spares h).filter (fun p => !(s.slot (panSlot p)).therm))

/-! ## Margins (09, R301, R302) -/

/-- The VOLT margin fits the VPAN trim limit (14, R431). -/
def voltFits (b : Basket) : Bool := decide (sgn 8 (bits b.vtrim.toNat 7 0) + 25 ≤ 40)

/-- The policy in force asks for VOLT in a Basket (09, Table 09-5). -/
def State.voltPolicy (s : State) (b : Basket) : Bool :=
  let pol := bits s.cal.act.toNat 9 8
  pol = 0 || (decide (2 ≤ pol) && voltFits b)

/-- The margin a SUSPECT Pan takes: 0 none, 1 VOLT, 2 RATE. -/
def State.marginOf (s : State) (p : Nat) : Nat :=
  let b := s.bsk (panBsk p)
  let want := if !(s.pan p).forceRate && s.voltPolicy b then 1 else 2
  if want = 2 ∧ b.rate ≤ 1 then (if voltFits b then 1 else 0) else want

/-- The margins of a Basket's SUSPECT Pans follow its rate and trim (09, R302). -/
def State.remargin (s : State) (h : Nat) : State :=
  (bskPans h).foldl (fun s p =>
    let v := s.pan p
    if v.mode = .suspect then s.setPan p { v with margin := s.marginOf p } else s) s

/-- PAN_SUSPECT and PAN_RETIRED detail (10, Table 10-13). -/
def panDetail (p : Nat) : Nat := shl (panBsk p) 16 + p

/-- A Pan becomes SUSPECT: its window of 1,000 blocks begins, and its margin (02, Table 02-14; 09, R301). -/
def State.toSuspect (s : State) (p : Nat) (forced : Bool) : State :=
  let s := s.setPan p { s.pan p with mode := .suspect, suspectLeft := 1000, forceRate := forced, reason := 0 }
  let s := s.setPan p { s.pan p with margin := s.marginOf p }
  s.raise 0x0105 2 0x02 p (panDetail p)

/-- A block committed on a SUSPECT Pan: one fewer is left of its window, and at the end it is IN_SERVICE (02, Table
02-14; 10, R314). -/
def Pan.countSuspect (p : Pan) : Pan :=
  if p.mode = .suspect then
    if p.suspectLeft ≤ 1 then { p with mode := .inService, suspectLeft := 0, margin := 0, forceRate := false }
    else { p with suspectLeft := p.suspectLeft - 1 }
  else p

/-! ## Service slots (02, R65; 05, R180) -/

/-- Explicit steps queued on a Pan that is CALIBRATING or RETIRED complete as NOT_APPLIED (06, R196). -/
def State.notApplied (s : State) (p : Nat) : State :=
  let v := s.pan p
  let uids := v.writeQ.filterMap (fun w => match w with
      | .wld u _ _ => some u
      | .wref u _ => some u
      | .reload _ _ _ => none) ++
    v.computeQ.filterMap (fun c => match c with
      | .wsw u => some u
      | _ => none)
  let s := s.setPan p { v with writeQ := [], computeQ := v.computeQ.filter (fun c => match c with
    | .wsw _ => false
    | _ => true) }
  uids.foldl (fun s u => s.modRec (panBsk p) u (fun r => { r with done := true, status := 4, detail := p })) s

/-- A ladder of a Pan that leaves service otherwise than by a planned handover goes on on a spare; a replay for a parity error
of a committed entry counts as parity there (10, R314, Table 10-12; log entry 127, DESIGN CHOICE). -/
def Ladder.toSpare (l : Ladder) : Ladder := { l with rung := 2, first := if l.first = 0 then 9 else l.first }

/-- The slot of Pan `a` passes to Pan `b`, with the walk that is left; committed windows promote from where they stand. In a
planned handover the ladders stand where they are (09, R289). -/
def State.passSlot (s : State) (a b : Nat) (planned : Bool) : State :=
  let v := s.pan a
  let tiles := v.computeQ.filter (fun c => match c with
    | .tile _ _ _ => true
    | _ => false)
  let w := s.pan b
  let s := s.setPan b { w with
    mode := .inService, slot := v.slot, reason := 0, computeQ := w.computeQ ++ tiles, progress := v.progress
    lastHigh := v.lastHigh, sums := [], winAt := s.time }
  s.setPan a (Pan.settleIdle { v with
    slot := none, progress := 0, lastHigh := none, group := 0
    ladders := if planned then v.ladders else v.ladders.map Ladder.toSpare
    computeQ := v.computeQ.filter (fun c => match c with
      | .tile _ _ _ => false
      | _ => true) }.closeWins)

/-- A Pan goes to CALIBRATING with a reason, 1 a sweep and 2 a thermal retest; a SPARE `b` takes its slot where one does (02,
Table 02-14). -/
def State.toCalibrating (s : State) (p reason : Nat) (b : Option Nat) : State :=
  let s := match b with
    | some b => s.passSlot p b (reason = 1)
    | none => s
  let s := s.setPan p { s.pan p with mode := .calibrating, reason := reason, margin := 0, suspectLeft := 0, forceRate := false }
  (s.notApplied p).tellSpares (panBsk p)

/-! ## Sweeps, and their early ends (09, R292, R296, R297) -/

/-- The start-up sweep of R306 runs: a Basket waits for it and every Coil is locked (09, R306; 14, Table 14-6). -/
def State.startupRuns (s : State) : Bool :=
  (List.range 16).any (fun h => (s.bsk h).st = .warming && (s.bsk h).coldSweep) &&
  (List.range 4).all (fun q => (s.coil q).everLocked && !(s.coil q).unlock)

/-- The phase that measurements which began at m have come to, each at its nominal time, 68 µs after the sweep's start (09,
R292, Table 09-1; log entry 128, DESIGN CHOICE). -/
def phaseFrom (m now : Nat) : Nat :=
  let e := now - m + 68000
  if e < 200000 then 2 else if e < 700000 then 3 else if e < 800000 then 4 else if e < 2200000 then 5
  else if e < 2500000 then 6 else if e < 3750000 then 7 else if e < 5000000 then 8 else 9

/-- The phase of a sweep: the handover, then the measurements. -/
def sweepPhase (w : Sweep) (now : Nat) : Nat :=
  match w.measAt with
  | none => 1
  | some m => phaseFrom m now

/-- CAL_TIMEOUT of Pan p (09, Table 09-4). -/
def State.calTimeout (s : State) (p cause phase timeouts : Nat) : State :=
  s.raise 0x0701 0 0x04 0 (shl cause 24 + shl phase 20 + shl timeouts 18 + p)

/-- Abandon the running sweep: its Pan goes to SPARE under its previous values, without advancing TIMEOUTS (R297). A Pan
the start-up sweep left out stays CALIBRATING (R306). -/
def State.abandonSweep (s : State) : State :=
  match s.cal.sweep with
  | none => s
  | some w =>
    let p := s.pan w.pan
    let s := s.calTimeout w.pan 0x0F (sweepPhase w s.time) p.timeouts
    let s := { s with cal := { s.cal with sweep := none, abandon := sat16 (s.cal.abandon + 1) } }
    let s := if w.handed ∧ w.slot.isSome then s.setPan w.pan { p with mode := .spare, reason := 0, slot := none } else s
    s.tellSpares (panBsk w.pan)

/-- Abandon the sweep if it runs in Basket h (09, Table 09-3). -/
def State.abandonIn (s : State) (h : Nat) : State :=
  match s.cal.sweep with
  | some w => if panBsk w.pan = h then s.abandonSweep else s
  | none => s

/-- The spare of a ladder: a SPARE, else the Pan of the sweep that is abandoned for it, 12 µs on (10, R315; log entry 92, DEDUCED). -/
def State.ladderSpare (s : State) (h : Nat) : Option Nat × State :=
  match s.takeSpare h with
  | some p => (some p, s)
  | none =>
    match s.cal.sweep with
    | some w =>
      if panBsk w.pan = h ∧ w.handed ∧ w.slot.isSome ∧ (s.spares h).isEmpty then
        (some w.pan, (s.abandonSweep).at (s.time + 12000))
      else (none, s)
    | none => (none, s)

/-! ## Turns of the structural test (10, R331, R332) -/

/-- The Basket is under the stress of a test: the test clock and the lowered VCORE trim, for its first 15 ms (R333, Table
10-10). -/
def Basket.stressed (b : Basket) (now : Nat) : Bool := b.st = .test && decide (now < b.testFrom + 15000000)

/-- A Basket is under test, deferring or draining for one. -/
def State.testing (s : State) : Bool :=
  (List.range 16).any (fun h =>
    let b := s.bsk h
    b.st = .test || b.testDefer.isSome || (b.st = .draining && b.drainFor = .test))

/-- The next due Basket in service takes its turn: its deferral begins; the lowest first (R331, R332). -/
def State.testTurn (s : State) : State :=
  if s.testing then s else
  match (List.range 16).find? (fun h => (s.bsk h).testDue && inService (s.bsk h)) with
  | some h => s.setBsk h { s.bsk h with testDefer := some (s.time + bits s.feu.testCfg.toNat 15 0 * 1000000000) }
  | none => s

/-! ## Retirement (10, R314, R321) -/

/-- A Basket goes to RETIRED: its streams are aborted with CAUSE 0xF005 and PAN_RETIRED names it (R321); one that is moving
there is suspended instead (07, R239). -/
def State.retireBasket (s : State) (h : Nat) (byTest : Bool) : State :=
  let s := s.abandonIn h
  let s := s.evict h
  let b := s.bsk h
  let s := s.setBsk h { b with st := .retired, pendEn := false, pendStop := false, testDefer := none, testDue := false
                               retiredByTest := b.retiredByTest || byTest }
  let s := if byTest then s.bbrPut (.basketRetire h 1) else s
  (s.raise 0x0104 3 0x01 h (2 ^ 31 + shl h 16)).testTurn

/-- Every service slot of a Basket is held. -/
def State.slotsFull (s : State) (h : Nat) : Bool := (List.range (bskSlots (s.bsk h))).all (fun i => (s.slotPan h i).isSome)

/-- A SUSPECT Pan retires after a fault in its window and goes dark; spare `b` takes its slot, and a Basket that cannot fill
its slots retires (R314, R320, R321). The levels sent for it stand (05, R178; R327). -/
def State.retirePan (s : State) (p : Nat) (b : Option Nat) : State :=
  let s := match b with
    | some b => s.passSlot p b false
    | none => s.setPan p { (s.pan p).closeWins with slot := none }
  let v := s.pan p
  let s := s.setPan p { v with
    mode := .retired, reason := 3, margin := 0, suspectLeft := 0, forceRate := false, a := {}, b := {}, level0 := false }
  let s := (s.raise 0x0104 3 0x02 p (panDetail p)).bbrPut (.panRetire p 3)
  let s := (s.notApplied p).tellSpares (panBsk p)
  if s.slotsFull (panBsk p) then s else s.retireBasket (panBsk p) false

end Sys2Proof.Machine
end

