-- ==== Sys2Proof/Machine/Links.lean ====
section
/-! DEFINITION. What fabric ports and the coordinator's tree do as link states change (11, R345, R348, R350 to R352). -/

namespace Sys2Proof.Machine

/-! ## The tree (11, R350) -/

/-- Ports in UP. -/
def State.upPorts (s : State) : List Nat := (List.range 32).filter (fun p => (s.port p).st = .up)

/-- The UID a HELLO offers as COORD: the node's own until it adopts one (11, R350; log entry 40, DEDUCED). -/
def State.coordOf (s : State) : Nat := if s.dzf.dist = 0xFF then s.uid else s.dzf.coordUid

/-- What UP neighbours with a heartbeat advanced in the last 10 ms offer: port, UID and DIST from here. A SOLO neighbour
offers nothing (11, R350, R351). -/
def State.offers (s : State) : List (Nat × Nat × Nat) :=
  s.upPorts.filterMap (fun p =>
    let v := s.port p
    match v.nbr with
    | some m =>
      if v.nbrHbAt ≠ 0 ∧ s.time ≤ v.nbrHbAt - 1 + 10000000 ∧ !m.solo then some (p, m.coord, min 254 (m.dist + 1)) else none
    | none => none)

/-- Put a JOIN (1), ASSIGN (2), CLAIM (3) or DENY (4) on a port (11, R353). -/
def State.putJoin (s : State) (sub port uid node : Nat) : State := { s with joins := s.joins ++ [(sub, port, uid, node)] }

/-- A node that holds an ID claims it from a coordinator it adopts; one without joins (11, R352). -/
def State.greet (s : State) (port : Nat) : State :=
  if s.dzf.idValid then s.putJoin 3 port s.uid s.dzf.nodeId else s.putJoin 1 port s.uid 0

/-- Adopt a coordinator through a port. -/
def State.follow (s : State) (port uid dist : Nat) : State :=
  let d := s.dzf
  let fresh := decide (d.dist = 0xFF) || decide (d.coordUid ≠ uid)
  let s := { s with dzf := { d with coordUid := uid, parent := some port, dist := dist, coord := false, solo := false } }
  if fresh then s.greet port else s

/-- Adopt the lowest UID among the node's own and those offered; on the node's own its 10 ms begin (11, R350). -/
def State.adopt (s : State) : State :=
  if s.dzf.solo then s else
  let d := s.dzf
  let low := s.offers.filter (fun o => decide (o.2.1 < s.uid))
  match argMin (fun (o : Nat × Nat × Nat) => o.2.1) low with
  | some best =>
    match argMin (fun (o : Nat × Nat × Nat) => o.2.2) (low.filter (fun o => o.2.1 = best.2.1)) with
    | some o => s.follow o.1 o.2.1 o.2.2
    | none => s
  | none =>
    if d.dist = 0xFF then
      if s.upPorts.isEmpty then s
      else { s with dzf := { d with coordUid := s.uid, parent := none, dist := 0, coordAt := s.time } }
    else if d.coordUid = s.uid then s
    else { s with dzf := { d with coordUid := s.uid, parent := none, dist := 0, coord := false, coordAt := s.time } }

/-! ## Port states (11, Table 11-3) -/

/-- A port enters a state without a link: no generation, no lanes; what it still queued is routed again (11, R362). -/
def State.portTo (s : State) (n : Nat) (st : PortState) : State :=
  let live := (s.port n).st = .up || (s.port n).st = .drain
  let s := (s.setPort n { s.port n with st := st, gen := 0, lanes := 0, stateAt := s.time }).adopt
  if live then s.reroute n else s

/-- Link up, with or without routed traffic. -/
def linked (st : PortState) : Bool := st = .hello || st = .up || st = .drain || st = .isolated

/-- Retire a port: dark, out of routing, told and recorded (11, R348). -/
def State.retirePort (s : State) (n cause : Nat) : State :=
  let s := s.setPort n { s.port n with trainFailAt := [], downAt := [], badWins := 0 }
  ((s.portTo n .retired).raise 0x0804 3 0x05 n (shl cause 28 + n)).bbrPut (.portRetire n cause)

/-- The times among the last second. -/
def lastSecond (now : Nat) (ts : List Nat) : List Nat := ts.filter (fun t => decide (now ≤ t + 1000000000))

/-- A linked port goes DOWN: counted, and retired at the 16th from UP or DRAIN within 1 s (11, Table 11-3, R348). -/
def State.portDown (s : State) (n : Nat) : State :=
  let v := s.port n
  if !linked v.st then s else
  let ts := lastSecond s.time v.downAt ++ (if v.st = .up ∨ v.st = .drain then [s.time] else [])
  let s := (s.setPort n { v with downs := sat16 (v.downs + 1), downAt := ts }).portTo n .down
  if 16 ≤ ts.length then s.retirePort n 3 else s

/-- A port loses its light source: linked or training, it goes DOWN (11, R344). -/
def State.portDark (s : State) (n : Nat) : State :=
  if (s.port n).st = .training then s.portTo n .down else s.portDown n

/-- The eight ports of a quadrant go DOWN together (11, R344). -/
def State.quadPortsDown (s : State) (q : Nat) : State := (List.range 8).foldl (fun s k => s.portDark (8 * q + k)) s

end Sys2Proof.Machine
end

