-- ==== Sys2Proof/Machine/Validate.lean ====
section
/-! DEFINITION. Validation of a step at the head of its stream, in the order of Table 05-9 (05, R143, R144, R161 to R167;
06, R186 to R224). -/

namespace Sys2Proof.Machine

/-- A check: the row of Table 05-9 it belongs to, and whether it fails. -/
abbrev Chk := List (Nat × Bool)

/-- The least row that fails. -/
def firstFail : Chk → Option Nat
  | [] => none
  | (r, bad) :: t =>
    match firstFail t with
    | none => if bad then some r else none
    | some q => if bad then some (min r q) else some q

/-- Event code and reason of a row (05, Table 05-9). -/
def rowReason (r : Nat) : Nat × Nat :=
  if r = 1 then (0x0403, 0)
  else if r ≤ 8 then (0x0402, r - 1)
  else if r = 9 then (0x0402, 0x10)
  else if r ≤ 15 then (0x0402, r - 2)
  else if r = 16 then (0x0402, 0x0F)
  else (0x0401, r - 16)

/-- Debug steps are locked: order code LQ, or the debug-lock fuse (05, R146; 13, R422). -/
def State.debugLocked (s : State) : Bool :=
  s.dev.lq || s.fuseValid 3

/-- The parameter block of a step: its window offset and bytes. -/
def State.blkOf (s : State) (t : Stream) (h : Hdr) : Nat × Blk :=
  let o := blockOff h (iterOf t)
  (o, s.rdN (t.win o) (blockLen h.opc))

/-! ## Weight descriptor (06, Table 06-9) -/

/-- Row and K blocks of a descriptor (05, R168). -/
def rbOf (r : Nat) : Nat := (r + 127) / 128

/-- Group scale bytes of tiles: for one tile the bytes of its rows, for a whole step every byte of R rows (05, R81;
06, R198). -/
def gscRegion (gsc r k g : Nat) (tile : Option Nat) : Region :=
  let per := k / g
  match tile with
  | none => { sp := 0, start := gsc, pitch := 0, width := r * per, rows := 1 }
  | some t =>
    let kb := rbOf k
    let g0 := 128 * (t % kb) / g
    { sp := 0, start := gsc + 128 * (t / kb) * per + g0, pitch := per
      width := min (128 / g) (per - g0), rows := min 128 (r - 128 * (t / kb)) }

/-- The source bytes of one tile or of all (05, R173). -/
def srcRegion (b : Blk) (tiles : Nat) (tile : Option Nat) : Region :=
  let bt := 2048 * wBits (fld b 0x09 1)
  match tile with
  | none => { sp := fld b 0x08 1, start := fld b 0 8, pitch := 0, width := tiles * bt, rows := 1 }
  | some t => { sp := fld b 0x08 1, start := fld b 0 8 + t * bt, pitch := 0, width := bt, rows := 1 }

/-- Checks of a weight descriptor and the tile it names, none for a whole step (06, R198; 05, R80). -/
def chkWeights (s : State) (t : Stream) (b : Blk) (tile : Option Nat) : Chk :=
  let wf := fld b 0x09 1
  let sg := fld b 0x0A 1
  let r := fld b 0x10 4
  let k := fld b 0x14 4
  let g := 32 * 2 ^ sg
  let okR := wf ≤ 6 ∧ sg ≤ 2 ∧ 1 ≤ r ∧ r ≤ 65536 ∧ 1 ≤ k ∧ k ≤ 65536
  let tiles := rbOf r * rbOf k
  if okR then
    let src := srcRegion b tiles tile
    let gsc := gscRegion (fld b 0x18 4) r k g tile
    let ts : Region := { sp := 0, start := fld b 0x1C 4, pitch := 0, width := 4, rows := 1 }
    let cb : Region := { sp := 0, start := fld b 0x20 4, pitch := 0, width := 16, rows := 1 }
    let st := BitVec.ofNat 32 (s.rdN (t.win ts.start) 4)
    [(10, k % g ≠ 0), (10, match tile with | some x => decide (tiles ≤ x) | none => false),
     (10, 4 ≤ src.sp), (10, hbmBad src), (10, globBad src), (17, winBad t src), (17, winBad t gsc),
     (10, ts.start % 4 ≠ 0), (17, winBad t ts), (11, wf ≠ 2 ∧ cb.start ≠ 0), (10, wf = 2 ∧ cb.start % 16 ≠ 0),
     (17, wf = 2 && winBad t cb), (12, !winBad t ts && (!f32fin st || f32zero st))]
  else [(10, true)]

/-- The Pan target of WLD, WSW and WREF (06, R196). -/
def chkTarget (b : Basket) (h : Nat) (ops : Nat) : Chk :=
  let tgt := bits ops 43 34
  [(10, if bit ops 44 then decide (271 < tgt) || decide (tgt / 17 ≠ h) else decide (bskSlots b ≤ tgt))]

/-! ## Pots (04, R122, R123; 05, R172) -/

/-- Pots an output of R rows and N vectors covers, by the shape of the first (05, R172). -/
def mvmPots (r n p0 rp cp : Nat) : List Nat :=
  if rp = 0 ∨ cp = 0 then [] else (List.range (min 65 (ceilDiv r rp * ceilDiv n cp))).map (· + p0)

/-- Slot i's run of tiles (05, R168). -/
def runOf (i t slots : Nat) : List Nat :=
  (List.range ((i + 1) * t / slots - i * t / slots)).map (· + i * t / slots)

/-- Promotions an element of row block rb receives from one MVM: groups over P, rounded up per Pan (04, R125). -/
def bandDepth (rb kb t slots grpN p : Nat) : Nat :=
  sumNat ((List.range slots).map (fun i =>
    ceilDiv (((runOf i t slots).filter (fun x => x / kb = rb)).length * grpN) p))

/-- What an MVM adds to the 16-row bands of Pot number n (04, R125): band and count. -/
def potBands (r k n p0 rp cp slots grpN p : Nat) (pot : Nat) : List (Nat × Nat) :=
  let q := (pot - p0) / ceilDiv n cp
  let kb := rbOf k
  let t := rbOf r * kb
  (List.range (rp / 16)).filterMap (fun bnd =>
    let row := q * rp + 16 * bnd
    if row < r then some (bnd, bandDepth (row / 128) kb t slots grpN p) else none)

/-- Largest band count after adding. -/
def depthAfter (bands : Tab Nat) (add : List (Nat × Nat)) : Nat :=
  maxNat (bands.map (·.2) ++ add.map (fun a => tget natDflt bands a.1 + a.2))

/-- Group size of an MVM MODE byte. -/
def grpOf (m : Nat) : Nat := 128 / 2 ^ (m % 4)
/-- P of an MVM MODE byte (06, Table 06-10). -/
def pOf (m : Nat) : Nat := match m / 32 % 4 with | 0 => 8 | 1 => 2 | 2 => 4 | _ => 16

/-- Checks of MVM and MVMW (06, R202; 05, R164, R166). -/
def chkMvm (s : State) (sid : Nat) (t : Stream) (b : Blk) (wide : Bool) : Chk :=
  let r := fld b 0x10 4
  let k := fld b 0x14 4
  let n := fld b 0x50 4
  let af := fld b 0x4E 1
  let m := fld b 0x4F 1
  let p0 := fld b 0x54 1
  let zdef := bit m 3
  let fast := bit m 2
  let shadow := bit m 4
  let g := grpOf m
  let rowB := rowBytes (aBits af) k
  let act : Region := { sp := 0, start := fld b 0x40 4, pitch := fld b 0x44 4, width := rowB, rows := n }
  let zp : Region := { sp := 0, start := fld b 0x48 4, pitch := 0, width := rowBytes (zpBits af) k, rows := 1 }
  let q := s.pot t.bsk p0
  let pots := mvmPots r n p0 q.predRp q.predCp
  let slots := bskSlots (s.bsk t.bsk)
  let okR := af ≤ 4 ∧ m % 4 ≠ 3 ∧ 1 ≤ n ∧ n ≤ 4096 ∧ p0 ≤ 63 ∧ 1 ≤ r ∧ r ≤ 65536 ∧ 1 ≤ k ∧ k ≤ 65536
  chkWeights s t b none ++
  (if okR then
    [(10, decide (k % g ≠ 0) || decide (16384 < fld b 0x4C 2 + rbOf k) || decide (fld b 0x44 4 < rowB)),
     (11, zdef && decide (zp.start ≠ 0)), (11, decide (32 * 2 ^ fld b 0x0A 1 < g)),
     (11, if wide then decide (af ≠ 4) else decide (af = 4)), (11, shadow && !wide),
     (11, fast && (wide || decide (3 ≤ af) || decide (g ≠ 128))),
     (17, winBad t act), (17, !zdef && af != 1 && winBad t zp),
     (13, !(q.pred = .opened && q.predOwner = sid))] ++
    (if q.pred = .opened ∧ q.predOwner = sid then
      [(10, decide (64 < p0 + pots.length)),
       (13, pots.any (fun i => decide (i < 64) && !((s.pot t.bsk i).pred = .opened && (s.pot t.bsk i).predOwner = sid &&
         (s.pot t.bsk i).predRp = q.predRp && (s.pot t.bsk i).predCp = q.predCp))),
       (19, pots.any (fun i => decide (i < 64) && decide (4096 <
         depthAfter (s.pot t.bsk i).bands (potBands r k n p0 q.predRp q.predCp slots (128 / g) (pOf m) i)))),
       (20, decide (4096 < pOf m * min n 512))]
     else [])
  else [(10, true)])

/-! ## Regions of a step that R190 and R243 judge -/

/-- Bytes of a PCLOSE output element row: R_p codes. -/
def closeRowB (ofmt rp : Nat) : Nat :=
  if ofmt = 0 then rowBytes 4 rp else if ofmt = 3 then 2 * rp else rp

/-- Bytes of an element format of ROT and QNT inputs: BF16, E4M3, FP32. -/
def ifmtB (f : Nat) : Nat := if f = 0 then 2 else if f = 1 then 1 else 4
/-- Bytes of a VOP format: BF16, FP32, E4M3. -/
def vfmtB (f : Nat) : Nat := if f = 0 then 2 else if f = 1 then 4 else 1
/-- VOP operations that take b (06, Table 06-18). -/
def vopB (op : Nat) : Bool := op = 1 || op = 2 || op = 7 || op = 9 || op = 10
/-- Head dimension of ATT. -/
def attD (c : Nat) : Nat := 64 * 2 ^ c

/-- The input regions of an engine step, then its output regions. -/
def stepRegions (s : State) (t : Stream) (opc : Nat) (b : Blk) : List Region × List Region :=
  let win (a pitch width rows elem : Nat) : Region :=
    { sp := 0, start := a, pitch := pitch, width := width, rows := rows, elem := elem }
  if opc = 0x21 then
    let q := s.pot t.bsk (fld b 0x0C 1)
    let fl := fld b 0x0B 1
    let rp := q.predRp
    let cp := q.predCp
    let om := fld b 0x09 1
    let of := fld b 0x0A 1
    let aout := om = 0 ∧ of ≤ 1
    let e := if bit fl 7 then 4 else 2
    let fop := fld b 0x24 4
    let ins :=
      (if fl / 8 % 4 ≠ 0 then
        [match fl / 32 % 4 with
         | 0 => win fop (rp * e) (rp * e) cp (8 * e)
         | 1 => win fop 0 (rp * e) 1 (8 * e)
         | _ => win fop 0 (cp * e) 1 (8 * e)] else []) ++
      (if bit fl 2 then [win (fld b 0x28 4) 16 16 cp 32] else []) ++
      (if aout ∧ ¬ bit (fld b 0x0D 1) 0 then [win (fld b 0x30 4) 0 (rowBytes (if of = 1 then 8 else 4) rp) 1 (if of = 1 then 8 else 4)] else []) ++
      (match q.predBound with | some a => [win a 0 (16 * rp * cp) 1 128] | none => [])
    let outs :=
      [win (fld b 0x2C 4) 0 64 1 32] ++
      (if bit fl 1 then [win (fld b 0x28 4) 16 16 cp 32] else []) ++
      (if om = 0 then [{ sp := fld b 0x08 1, start := fld b 0 8, pitch := fld b 0x10 4, width := closeRowB of rp,
                         rows := cp, elem := if of = 0 then 4 else if of = 3 then 16 else 8 : Region }] else []) ++
      (if bit fl 0 then [win (fld b 0x14 4) (fld b 0x18 4) rp cp 8] else [])
    (ins, outs)
  else if opc = 0x30 then
    let c := fld b 0x14 4
    let n := fld b 0x18 2
    ([win (fld b 0 4) (fld b 4 4) (c * ifmtB (fld b 0x1A 1)) n (8 * ifmtB (fld b 0x1A 1))],
     if bit (fld b 0x1B 1) 3 then [] else [win (fld b 8 4) (fld b 0x0C 4) (2 * c) n 16])
  else if opc = 0x31 then
    let c := fld b 0x1C 4
    let n := fld b 0x20 2
    let f := fld b 0x25 1
    let ctl := fld b 0x26 1
    ((if fld b 0x24 1 = 3 then [] else [win (fld b 0 4) (fld b 4 4) (c * ifmtB (fld b 0x24 1)) n (8 * ifmtB (fld b 0x24 1))]) ++
      (if bit ctl 0 ∨ f = 1 then [] else [win (fld b 0x18 4) 0 (rowBytes (zpBits f) c) 1 (zpBits f)]),
     [win (fld b 8 4) (fld b 0x0C 4) (rowBytes (aBits f) c) n (aBits f)] ++
      (if bit ctl 1 then [win (fld b 0x10 4) (fld b 0x14 4) c n 8] else []))
  else if opc = 0x40 then
    let c := fld b 0x18 4
    let n := fld b 0x1C 2
    let f := fld b 0x1F 1
    ([win (fld b 0 4) (fld b 4 4) (c * vfmtB (f % 4)) n (8 * vfmtB (f % 4))] ++
      (if vopB (fld b 0x1E 1) then
        [win (fld b 8 4) (fld b 0x0C 4) (c * vfmtB (f / 4 % 4)) (if bit f 6 then 1 else n)
          (8 * vfmtB (f / 4 % 4))] else []),
     [win (fld b 0x10 4) (fld b 0x14 4) (c * vfmtB (f / 16 % 4)) n (8 * vfmtB (f / 16 % 4))])
  else if opc = 0x41 then
    let d := attD (fld b 0x14 1)
    let hq := fld b 0x10 2
    let nq := fld b 0x16 1
    let f := fld b 0x15 1
    (let qe := if f / 4 % 4 = 0 then 2 else 4
     let oe := if f / 16 % 4 = 0 then 2 else 4
     ([win (fld b 0 4) 0 (nq * hq * d * qe) 1 (8 * qe), win (fld b 8 4) 0 (fld b 0x12 2 * ceilDiv (fld b 0x0C 4) 64 * 16) 1 64],
      [win (fld b 4 4) 0 (nq * hq * d * oe) 1 (8 * oe)] ++
       (if bit f 6 then [win (fld b 0x24 4) 0 (nq * hq * 4) 1 32] else [])))
  else if opc = 0x50 ∨ opc = 0x51 ∨ opc = 0x52 then
    let src : Region := { sp := fld b 0x20 1, start := fld b 0 8, pitch := fld b 0x18 4, width := fld b 0x10 4, rows := fld b 0x14 4 }
    let dst : Region := { sp := fld b 0x21 1, start := fld b 8 8, pitch := fld b 0x1C 4, width := fld b 0x10 4, rows := fld b 0x14 4 }
    (if opc = 0x50 ∧ fld b 0x22 1 = 1 then [] else [src], [dst])
  else if opc = 0x53 then
    ([win (fld b 8 4) 0 (fld b 0x0C 4 * (if fld b 0x10 1 = 2 then 8 else 4)) 1 (if fld b 0x10 1 = 2 then 64 else 32)], [])
  else if opc = 0x54 then
    ([win (fld b 0x0C 4) 0 (4 * fld b 0x10 4) 1 32] ++
      (if fld b 8 1 = 1 then [{ sp := 1, start := fld b 0 8, pitch := fld b 0x18 4, width := fld b 0x14 4,
                                rows := fld b 0x24 4 : Region }] else []),
     [win (fld b 0x1C 4) (fld b 0x20 4) (fld b 0x14 4) (fld b 0x10 4) 8])
  else ([], [])

/-- The checks every local region of a step passes: window, HBM, global address and overlap (05, R165; 06, R189, R190). -/
def chkRegions (t : Stream) (io : List Region × List Region) : Chk :=
  let all := io.1 ++ io.2
  let fits := all.all (fun r => !winBad t r && !hbmBad r)
  [(17, all.any (winBad t)), (10, all.any hbmBad), (10, all.any globBad), (10, fits && overlapBad io.2 io.1)]

/-- A FP32 scale or constant that is infinite or NaN (06, R191). -/
def badF (x : W32) : Bool := !f32fin x

/-- Steps that have a Pot as a producer or a closer: MVM, MVMW, POPEN, PCLOSE and SPILL (05, R182). -/
def potUser (opc : Nat) : Bool := opc = 0x12 || opc = 0x13 || opc = 0x20 || opc = 0x21 || opc = 0x22

/-! ## The checks of each opcode (rows 8 to 21) -/

/-- LOOP, ENDL, BR, CALL, RET, YIELD (05, R154, R161, R162, R182; 06, Table 06-6). -/
def chkControl (s : State) (sid : Nat) (t : Stream) (h : Hdr) : Chk :=
  let i := t.ptr
  if h.opc = 0x01 then [(15, decide (bits h.ops 87 64 ≤ i)), (14, decide (8 ≤ t.loops.length))]
  else if h.opc = 0x02 then [(14, match t.loops.getLast? with | some f => decide (f.endIdx ≠ i) | none => true)]
  else if h.opc = 0x03 ∨ h.opc = 0x04 then
    let tgt := bits h.ops 23 0
    [(8, h.pred = 0 && bit h.ops 24), (15, decide (t.tblSteps ≤ tgt)),
     (14, h.opc = 0x04 && decide (8 ≤ t.calls.length)),
     (15, h.opc = 0x03 && (match t.loops.getLast? with
        | some f => !(decide (f.start < tgt) && decide (tgt ≤ f.endIdx))
        | none => false))]
  else if h.opc = 0x05 then
    [(14, match t.calls.getLast? with | some c => decide (c.depth ≠ t.loops.length) | none => true)]
  else if h.opc = 0x09 then
    [(16, (List.range 64).any (fun n =>
        let p := s.pot t.bsk n
        (p.st != .free && p.owner = sid) || (p.pred != .free && p.predOwner = sid)) ||
      (s.bsk t.bsk).inflight.any (fun r => r.sid = sid && !r.done && potUser r.opc))]
  else if h.opc = 0xF0 then [(9, s.debugLocked)]
  else if h.opc = 0xF1 then
    let a := bits h.ops 63 0
    [(9, s.debugLocked), (10, a % 256 ≠ 0),
     (17, winBad t { sp := 0, start := a, pitch := 0, width := 256, rows := 1 })]
  else []

/-- POPEN, SPILL, RESUME and PCLOSE (06, R205 to R208, R210). -/
def chkPot (s : State) (sid : Nat) (t : Stream) (h : Hdr) (b : Blk) : Chk :=
  let n0 := bits h.ops 5 0
  if h.opc = 0x20 then
    let np := bits h.ops 14 8
    let rp := 16 * bits h.ops 26 16
    let cp := bits h.ops 44 32
    [(10, np = 0 || decide (64 < np) || decide (64 < n0 + np) || rp = 0 || cp = 0 || decide (4096 < cp) ||
        decide (32768 < rp * cp)),
     (13, (List.range np).any (fun k => decide (n0 + k < 64) && decide (k < 64) &&
        (s.pot t.bsk (n0 + k)).pred != .free && (s.pot t.bsk (n0 + k)).predOwner != sid))]
  else if h.opc = 0x22 then
    let p := s.pot t.bsk n0
    let buf := bits h.ops 95 64
    [(10, buf % 16 ≠ 0), (13, !(p.pred = .opened && p.predOwner = sid)),
     (13, match p.predBound with | some a => decide (a ≠ buf) | none => false),
     (21, winBad t { sp := 0, start := buf, pitch := 0, width := 16 * p.predRp * p.predCp, rows := 1 })]
  else if h.opc = 0x23 then
    let p := s.pot t.bsk n0
    let buf := bits h.ops 95 64
    let rp := 16 * bits h.ops 42 32
    let cp := bits h.ops 60 48
    [(10, buf % 16 ≠ 0 || rp = 0 || cp = 0 || decide (4096 < cp) || decide (32768 < rp * cp)),
     (13, p.pred != .free),
     (21, winBad t { sp := 0, start := buf, pitch := 0, width := 16 * rp * cp, rows := 1 })]
  else if h.opc = 0x21 then
    let n := fld b 0x0C 1
    let p := s.pot t.bsk n
    if bit h.ops 0 then
      [(10, 63 < n), (13, decide (n ≤ 63) && p.st != .free && !(p.st = .held && p.owner = sid))]
    else
      let om := fld b 0x09 1
      let of := fld b 0x0A 1
      let fl := fld b 0x0B 1
      let aout := om = 0 ∧ of ≤ 1
      let open' := p.pred = .opened ∧ p.predOwner = sid
      if 63 < n ∨ 2 < om ∨ (om = 0 ∧ 3 < of) ∨ fl / 32 % 4 = 3 ∨ fl / 8 % 4 = 3 then [(10, true)]
      else
        ([(10, if om = 0 then decide (1 < fld b 0x08 1) else decide (fld b 0x08 1 ≠ 2)),
         (10, fld b 0x2C 4 % 64 ≠ 0), (10, om ≠ 0 ∧ (fld b 0 8 % 64 ≠ 0 ∨ fld b 0x10 4 % 64 ≠ 0)),
         (10, om ≠ 0 && decide (2 ^ 59 ≤ fld b 0 8)),
         (11, om ≠ 0 ∧ of ≠ 0), (11, fl / 8 % 4 = 0 ∧ fld b 0x24 4 ≠ 0), (11, !bit fl 1 && decide (fld b 0x28 4 ≠ 0)),
         (11, !bit fl 0 && decide (fld b 0x14 4 ≠ 0)), (11, bit (fld b 0x0D 1) 0 && decide (fld b 0x30 4 ≠ 0)),
         (11, ¬ aout ∧ fld b 0x1C 2 ≠ 0), (11, bit fl 0 && !(om = 0 && of = 0)), (11, bit fl 2 && !bit fl 1),
         (10, ¬ aout ∧ om = 0 ∧ badF (fldF b 0x20)),
         (13, ¬ open')] : Chk) ++
        (if open' then
          ([(11, aout ∧ p.predRp % 128 ≠ 0), (10, aout ∧ 16384 < fld b 0x1C 2 + p.predRp / 128)] : Chk) ++
          chkRegions t (stepRegions s t 0x21 b)
         else [])
  else []

/-- ROT, QNT, SCUP and STAT (06, R211 to R213). -/
def chkScale (s : State) (t : Stream) (h : Hdr) (b : Blk) : Chk :=
  if h.opc = 0x30 then
    let c := fld b 0x14 4
    let n := fld b 0x18 2
    let ctl := fld b 0x1B 1
    let m := 32 * 2 ^ (ctl % 4)
    ([(10, c = 0 || decide (65536 < c) || c % m != 0 || n = 0 || decide (4096 < n) || decide (2 < fld b 0x1A 1)),
     (11, bit ctl 3 && (decide (fld b 8 4 ≠ 0) || decide (fld b 0x0C 4 ≠ 0)))] : Chk) ++
    chkRegions t (stepRegions s t 0x30 b)
  else if h.opc = 0x31 then
    let c := fld b 0x1C 4
    let n := fld b 0x20 2
    let ifm := fld b 0x24 1
    let f := fld b 0x25 1
    let ctl := fld b 0x26 1
    if c = 0 ∨ 65536 < c ∨ n = 0 ∨ 4096 < n ∨ 3 < ifm ∨ 4 < f then [(10, true)]
    else
      ([(10, decide (16384 < fld b 0x22 2 + rbOf c)),
       (11, ifm = 3 && (decide (fld b 0 4 ≠ 0) || decide (fld b 4 4 ≠ 0))),
       (11, !bit ctl 1 && decide (fld b 0x10 4 ≠ 0)), (11, (bit ctl 0 || f = 1) && decide (fld b 0x18 4 ≠ 0)),
       (11, bit ctl 1 && f != 3), (11, ifm = 3 && !t.chained)] : Chk) ++
      chkRegions t (stepRegions s t 0x31 b)
  else
    let hnd := bits h.ops 13 0
    let cnt := bits h.ops 45 32 + 1
    let op := bits h.ops 47 46
    let addr := bits h.ops 95 64
    let img : Region := { sp := 0, start := addr, pitch := 0, width := 64 * cnt, rows := 1 }
    if h.opc = 0x33 then [(10, 16384 < hnd + cnt), (10, addr % 64 ≠ 0), (17, winBad t img)]
    else
      ([(10, 2 ≤ op), (10, 16384 < hnd + cnt)] : Chk) ++
      (if op = 0 then ([(8, bits h.ops 63 48 ≠ 0), (10, addr % 64 ≠ 0), (17, winBad t img)] : Chk)
       else if op = 1 then ([(8, addr ≠ 0), (8, bits h.ops 51 48 = 0)] : Chk) else [])

/-- VOP and ATT (06, R214 to R216). -/
def chkVec (s : State) (t : Stream) (h : Hdr) (b : Blk) : Chk :=
  if h.opc = 0x40 then
    let c := fld b 0x18 4
    let n := fld b 0x1C 2
    let op := fld b 0x1E 1
    let f := fld b 0x1F 1
    ([(10, c = 0 || decide (65536 < c) || n = 0 || decide (4096 < n) || decide (0x0B < op) ||
        f % 4 = 3 || f / 4 % 4 = 3 || f / 16 % 4 = 3),
     (11, !vopB op && decide (fld b 8 4 ≠ 0)), (11, bit f 6 && decide (fld b 0x0C 4 ≠ 0)),
     (11, (op = 9 || op = 10) && !bit f 6), (10, badF (fldF b 0x20) || badF (fldF b 0x24))] : Chk) ++
    chkRegions t (stepRegions s t 0x40 b)
  else
    let hq := fld b 0x10 2
    let hkv := fld b 0x12 2
    let f := fld b 0x15 1
    let nq := fld b 0x16 1
    let l := fld b 0x0C 4
    if hq = 0 ∨ 256 < hq ∨ hkv = 0 ∨ 256 < hkv ∨ hq % hkv ≠ 0 ∨ 2 < fld b 0x14 1 ∨ nq = 0 ∨ 16 < nq ∨ l < nq ∨
        1048576 < l ∨ 2 ≤ f % 4 ∨ 2 ≤ f / 4 % 4 ∨ 2 ≤ f / 16 % 4 then [(10, true)]
    else
      ([(10, badF (fldF b 0x18) || badF (fldF b 0x1C) || badF (fldF b 0x20)),
       (11, !bit f 6 && decide (fld b 0x24 4 ≠ 0))] : Chk) ++ chkRegions t (stepRegions s t 0x41 b)

/-- A step with RETRY = 1 whose record names another opcode or block (06, R224). -/
def retryBad (t : Stream) (opc off : Nat) : Bool :=
  match t.retry with
  | some r => decide (r.opc ≠ opc) || decide (r.block ≠ off)
  | none => false

/-- DMA, GET, PUT, AADD and GATH (06, R217 to R220, R224). -/
def chkMem (s : State) (t : Stream) (h : Hdr) (off : Nat) (b : Blk) : Chk :=
  let retry : Chk := [(10, bit h.ops 0 && retryBad t h.opc off)]
  let io := stepRegions s t h.opc b
  if h.opc ≤ 0x52 then
    let len := fld b 0x10 4
    let rows := fld b 0x14 4
    let ssp := fld b 0x20 1
    let dsp := fld b 0x21 1
    let op := fld b 0x22 1
    let range : Chk := [(10, len = 0 || decide (2 ^ 30 < len) || rows = 0 || decide (2 ^ 24 < rows))]
    if h.opc = 0x50 then
      let fill := op = 1
      range ++
      ([(10, 2 ≤ op), (10, ssp = 2 || decide (3 < ssp) || dsp = 2 || decide (3 < dsp)),
       (11, fill ∧ (fld b 0 8 ≠ 0 ∨ ssp ≠ 0)), (10, fill ∧ (len % 4 ≠ 0 ∨ fld b 8 8 % 4 ≠ 0)),
       (11, ¬ fill ∧ ssp = 3 ∧ dsp = 3)] : Chk) ++
      (if len = 0 ∨ 2 ^ 30 < len ∨ rows = 0 ∨ 2 ^ 24 < rows then [] else chkRegions t io)
    else
      range ++ retry ++
      ([(10, if h.opc = 0x51 then decide (ssp ≠ 2) || decide (1 < dsp) else decide (1 < ssp) || decide (dsp ≠ 2)),
       (8, op ≠ 0 ∨ fld b 0x24 4 ≠ 0)] : Chk) ++
      (if len = 0 ∨ 2 ^ 30 < len ∨ rows = 0 ∨ 2 ^ 24 < rows then [] else chkRegions t io)
  else if h.opc = 0x53 then
    let cnt := fld b 0x0C 4
    retry ++
    ([(10, fld b 0 8 % 64 ≠ 0 ∨ fld b 8 4 % 64 ≠ 0), (10, decide (2 ^ 59 ≤ fld b 0 8)), (10, cnt = 0 ∨ 2 ^ 24 < cnt),
     (10, 2 < fld b 0x10 1)] : Chk) ++ chkRegions t io
  else
    let cnt := fld b 0x10 4
    let rby := fld b 0x14 4
    if cnt = 0 ∨ 65536 < cnt ∨ rby < 4 ∨ 65536 < rby ∨ rby % 4 ≠ 0 ∨ fld b 0x24 4 = 0 ∨ (fld b 8 1 ≠ 1 ∧ fld b 8 1 ≠ 2)
    then [(10, true)]
    else
      ([(10, fld b 8 1 = 2 && decide (2 ^ 59 ≤ fld b 0 8)),
       (10, fld b 8 1 = 1 && decide (hbmLen < fld b 0 8 + fld b 0x24 4 * fld b 0x18 4))] : Chk) ++ chkRegions t io

/-- The checks of rows 9 to 21 of an opcode, and its further checks of row 8. -/
def chkOpc (s : State) (sid : Nat) (t : Stream) (h : Hdr) (off : Nat) (b : Blk) : Chk :=
  let bk := s.bsk t.bsk
  if h.opc = 0x10 then
    chkTarget bk t.bsk h.ops ++ chkWeights s t b (some (bits h.ops 17 0 + iterOf t * bits h.ops 33 26))
  else if h.opc = 0x11 then chkTarget bk t.bsk h.ops
  else if h.opc = 0x14 then chkTarget bk t.bsk h.ops ++ ([(10, h.ops % 4 = 3)] : Chk)
  else if h.opc = 0x12 then chkMvm s sid t b false
  else if h.opc = 0x13 then chkMvm s sid t b true
  else if 0x20 ≤ h.opc ∧ h.opc ≤ 0x23 then chkPot s sid t h b
  else if 0x30 ≤ h.opc ∧ h.opc ≤ 0x33 then chkScale s t h b
  else if h.opc = 0x40 ∨ h.opc = 0x41 then chkVec s t h b
  else if 0x50 ≤ h.opc ∧ h.opc ≤ 0x54 then chkMem s t h off b
  else chkControl s sid t h

/-- The step after a ROT with CHAIN = 1 must be a QNT that takes its results, of the same C and N (06, R211). -/
def chainBad (t : Stream) (h : Hdr) (b : Blk) : Bool :=
  t.chained && !(h.opc = 0x31 && fld b 0x24 1 = 3 &&
    (match t.chain with | some c => c.c = fld b 0x1C 4 && c.n = fld b 0x20 2 | none => false))

/-- The first failure that the step word shows: rows 1 to 7 of Table 05-9, then the extent of the parameter block, which
counts as BUF_TOO_SMALL before row 8 (05, R144). -/
def validateHead (t : Stream) (h : Hdr) : Option (Nat × Nat) :=
  let head : Chk := [(1, decide (2 ≤ h.gen)), (2, !opcAssigned h.opc), (3, h.gen = 0), (4, h.ord = 3), (5, predBad h.pred),
    (6, !tokLegal h.wait), (7, !tokLegal h.sig)]
  match firstFail head with
  | some r => some (rowReason r)
  | none =>
    if blockLen h.opc ≠ 0 ∧ t.winLen < blockOff h (iterOf t) + blockLen h.opc then some (0x0401, 0x01) else none

/-- The first failure of a head step, as the row of Table 05-9 (05, R144). -/
def State.validate (s : State) (sid : Nat) (h : Hdr) : Option (Nat × Nat) :=
  let t := s.str sid
  match validateHead t h with
  | some e => some e
  | none =>
    let off := blockOff h (iterOf t)
    let b := (s.blkOf t h).2
    (firstFail (([(8, meets h.ops (rsvMask h.opc)), (8, meets b (blkRsv h.opc)), (11, chainBad t h b)] : Chk) ++
      chkOpc s sid t h off b)).map rowReason

/-- The Pots a head step names, and whether it must wait for a retried close (06, R210). -/
def State.headPots (s : State) (sid : Nat) (h : Hdr) : List Nat :=
  let t := s.str sid
  let b := (s.blkOf t h).2
  let n0 := bits h.ops 5 0
  if h.opc = 0x20 then (List.range (min 64 (bits h.ops 14 8))).map (· + n0)
  else if h.opc = 0x22 ∨ h.opc = 0x23 then [n0]
  else if h.opc = 0x21 then [fld b 0x0C 1]
  else if h.opc = 0x12 ∨ h.opc = 0x13 then
    let p0 := fld b 0x54 1
    let q := s.pot t.bsk p0
    mvmPots (min 65536 (fld b 0x10 4)) (min 4096 (fld b 0x50 4)) p0 (max 16 q.predRp) (max 1 q.predCp)
  else []

/-- The head step waits: a Pot it names has a retried close under way, or it retries a Pot that is CLOSING (06, R210). -/
def State.potHold (s : State) (sid : Nat) (h : Hdr) : Bool :=
  let t := s.str sid
  (s.headPots sid h).any (fun n => decide (n < 64) && ((s.pot t.bsk n).retrying ||
    (h.opc = 0x21 && bit h.ops 0 && (s.pot t.bsk n).st = .closing)))

end Sys2Proof.Machine
end

