-- ==== Sys2Proof/Machine/Sequencer.lean ====
section
/-! DEFINITION. The sequencer: the head step of a stream (05, R147, R148), the control steps (05, R160 to R163, R182,
R183; 06, R194), tokens and the end of a step. -/

namespace Sys2Proof.Machine

/-- Streams that began to wait on the same token before this one: by time, then Basket, then stream (05, R156). -/
def State.waitersAhead (s : State) (sid h c at' : Nat) : Nat :=
  (s.streams.filter (fun e =>
    match e.2.waitSince with
    | some (τ, c') => e.1 != sid && c' = c && e.2.st = .resident && (decide (0x81 ≤ c) || e.2.bsk = h) &&
        (decide (τ < at') || (τ = at' && (decide (e.2.bsk < h) || (e.2.bsk = h && decide (e.1 < sid)))))
    | none => false)).length

/-- When the head step of stream sid began to wait on token code c: now, if it does not wait on it yet. -/
def State.waitFrom (s : State) (sid c : Nat) : Nat :=
  match (s.str sid).waitSince with
  | some (τ, c') => if c' = c then τ else s.time
  | none => s.time

/-- A step that fails validation suspends its stream and has no other effect (05, R167). -/
def State.failStep (s : State) (sid code reason : Nat) : State :=
  let t := s.str sid
  (s.putStr sid { t with st := .suspended, cause := code, waitSince := none }).raiseS code 0 0x01 t.bsk sid t.bsk t.ptr reason

/-- A ROT whose chained results no QNT takes completes without them (06, R211; log entry 24, DEDUCED). -/
def State.dropChain (s : State) (sid : Nat) : State :=
  let t := s.str sid
  match t.chain with
  | some c => ((s.setStr sid { t with chain := none, chained := false }).modRec t.bsk c.uid (fun r => { r with done := true }))
  | none => s.setStr sid { t with chained := false }

/-- The head step is skipped: it takes its token and completes with no effect (05, R148; 06, R195). -/
def State.skipStep (s : State) (sid : Nat) (h : Hdr) : State :=
  let t := s.str sid
  let s := if tokLegal h.wait then s.takeTok t.bsk h.wait else s
  let s := s.dropChain sid
  let t := s.str sid
  let r := { recAt s sid h with status := 1 }
  let fl := if (h.opc = 0x03 ∨ h.opc = 0x04) ∧ bit h.ops 24 then clearFlag t.flags h.pred else t.flags
  (s.setStr sid { t with ptr := t.ptr + 1, waitSince := none, flags := fl }).over r

/-- The head step issues: its token is taken, it is counted, and its effect follows (05, R148, R185). -/
def State.issueStep (s : State) (sid : Nat) (h : Hdr) (eff : State → Nat → Hdr → State) : State :=
  let t := s.str sid
  let s := s.takeTok t.bsk h.wait
  let s := s.setStr sid { s.str sid with waitSince := none }
  let b := s.bsk t.bsk
  eff (s.setBsk t.bsk { b with issueCnt := sat32 (b.issueCnt + 1) }) sid h

/-- Steps in flight of a Basket: those handed to engines or Pans, so neither control steps nor skipped ones, which only wait
for their order or the ring (05, R148, R149; log entry 117, DEDUCED). -/
def inflightCnt (b : Basket) : Nat := (b.inflight.filter (fun r => !isControl r.opc && r.status != 1)).length

/-- The head step of a stream past its fence (05, R148): the token, the predicate, validation, its parameter block read once
the step word and the block's extent have passed, then issue. `hold` names what else the opcode waits for at the head. -/
def State.headGo (s : State) (sid : Nat) (h : Hdr) (hold : State → Nat → Hdr → Bool)
    (eff : State → Nat → Hdr → State) : State :=
  let t := s.str sid
  let b := s.bsk t.bsk
  let wt := h.wait ≠ 0 ∧ tokLegal h.wait
  let τ := s.waitFrom sid h.wait
  if wt ∧ (s.tok t.bsk h.wait).count ≤ s.waitersAhead sid t.bsk h.wait τ then
    s.setStr sid { t with waitSince := some (τ, h.wait) }
  else if !predHolds t.flags h.pred then s.skipStep sid h
  else match validateHead t h with
  | some (code, reason) => s.failStep sid code reason
  | none =>
    let off := blockOff h (iterOf t)
    match (if blockLen h.opc = 0 then none else (s.badIn (t.win off) (blockLen h.opc)).head?) with
    | some w => (s.scrub (t.win off) (blockLen h.opc)).memX w sid t.bsk t.ptr
    | none =>
      let s := if blockLen h.opc = 0 then s else s.scrub (t.win off) (blockLen h.opc)
      if s.potHold sid h then s else
      match s.validate sid h with
      | some (code, reason) => s.failStep sid code reason
      | none =>
        if !isControl h.opc && decide (512 ≤ inflightCnt b) then s
        else if hold s sid h then s
        else s.issueStep sid h eff

/-- The head step of a stream, its word read: a fence waits for every earlier step of the stream (05, Table 05-5), and where
the stream has written host memory for a flushing read of it after the last write (07, R246). That it reads the last byte
written, and that its failure is the fence step's failed host read, is log entry 123, DEDUCED. -/
def State.headStep (s : State) (sid : Nat) (h : Hdr) (hold : State → Nat → Hdr → Bool)
    (eff : State → Nat → Hdr → State) : State :=
  let t := s.str sid
  if ordOf h = 2 then
    if (s.bsk t.bsk).inflight.any (fun r => r.sid = sid) then s else
    match t.hostW with
    | some a =>
      (match s.hostFail a 1 with
       | some k => s.hostX k sid t.bsk t.ptr
       | none => (s.setStr sid { t with hostW := none }).headGo sid h hold eff)
    | none => s.headGo sid h hold eff
  else s.headGo sid h hold eff

/-- A stream issues: RESIDENT on a Basket in service, and not held by a HALT (05, R147, R163; 14, R439). -/
def State.issues (s : State) (sid : Nat) : Bool :=
  let t := s.str sid
  t.st = .resident && !t.halting && inService (s.bsk t.bsk) && s.clocked

/-- Local offset of the step word at the stream's PTR (05, R141). -/
def Stream.stepAddr (t : Stream) : Nat := t.img + t.tblOff + 16 * t.ptr

/-- A step command: the step of opcode opc at the head of stream sid. A head step of another assigned opcode is left
alone; PTR past the table's end fails as R162 gives for a target (log entry 25, DEDUCED; log entry 19, DESIGN CHOICE). -/
def State.runHead (s : State) (opc sid : Nat) (hold : State → Nat → Hdr → Bool)
    (eff : State → Nat → Hdr → State) : State :=
  let t := s.str sid
  if !s.issues sid then s
  else if t.tblSteps ≤ t.ptr then s.failStep sid 0x0402 0x0D
  else match (s.badIn t.stepAddr 16).head? with
  | some w => (s.scrub t.stepAddr 16).memX w sid t.bsk t.ptr
  | none =>
    let h := hdrOf (s.rdN t.stepAddr 16)
    if opcAssigned h.opc ∧ h.opc ≠ opc then s else (s.scrub t.stepAddr 16).headStep sid h hold eff

/-- Nothing more to wait for. -/
def noHold (_ : State) (_ : Nat) (_ : Hdr) : Bool := false

/-- A step command of the table (log entry 85, DEDUCED). -/
def runStep (opc : Nat) (hold : State → Nat → Hdr → Bool) (eff : State → Nat → Hdr → State) (sid : Nat) (s : State) : Out :=
  guard (decide (sid < 131072)) (s.runHead opc sid hold eff)

/-! ## Control steps -/

/-- A control step that goes on at step p. -/
def State.ctlTo (s : State) (sid : Nat) (h : Hdr) (p : Nat) : State :=
  (s.goTo sid p).over (recAt s sid h)

/-- A control step that goes on at the next step (06, R194). -/
def effNext (s : State) (sid : Nat) (h : Hdr) : State := s.ctlTo sid h ((s.str sid).ptr + 1)

/-- NOP: no effect. -/
def execNop (sid : Nat) (s : State) : Out := runStep 0x00 noHold effNext sid s

/-- LOOP opens a loop, or with count 0 goes on after its ENDL (05, R160). -/
def effLoop (s : State) (sid : Nat) (h : Hdr) : State :=
  let t := s.str sid
  let c := bits h.ops 63 32
  let e := bits h.ops 87 64
  if c = 0 then s.ctlTo sid h (e + 1)
  else (s.setStr sid { t with loops := t.loops ++ [{ start := t.ptr, endIdx := e, count := c, remaining := c }] }).ctlTo
    sid h (t.ptr + 1)

/-- LOOP. -/
def execLoop (sid : Nat) (s : State) : Out := runStep 0x01 noHold effLoop sid s

/-- ENDL counts down the innermost loop: back to its body, or it closes (05, R160). -/
def effEndl (s : State) (sid : Nat) (h : Hdr) : State :=
  let t := s.str sid
  match t.loops.getLast? with
  | none => s
  | some f =>
    if 1 < f.remaining then
      (s.setStr sid { t with loops := t.loops.dropLast ++ [{ f with remaining := f.remaining - 1 }] }).ctlTo
        sid h (f.start + 1)
    else (s.setStr sid { t with loops := t.loops.dropLast }).ctlTo sid h (t.ptr + 1)

/-- ENDL. -/
def execEndl (sid : Nat) (s : State) : Out := runStep 0x02 noHold effEndl sid s

/-- The flags after a BR or CALL with CLR (05, R154). -/
def State.brClear (s : State) (sid : Nat) (h : Hdr) : State :=
  let t := s.str sid
  if bit h.ops 24 then s.setStr sid { t with flags := clearFlag t.flags h.pred } else s

/-- BR goes to its target (05, R162). -/
def effBr (s : State) (sid : Nat) (h : Hdr) : State := (s.brClear sid h).ctlTo sid h (bits h.ops 23 0)

/-- BR. -/
def execBr (sid : Nat) (s : State) : Out := runStep 0x03 noHold effBr sid s

/-- CALL saves the next step and the loop depth (05, R161). -/
def effCall (s : State) (sid : Nat) (h : Hdr) : State :=
  let s := s.brClear sid h
  let t := s.str sid
  (s.setStr sid { t with calls := t.calls ++ [{ ret := t.ptr + 1, depth := t.loops.length }] }).ctlTo sid h (bits h.ops 23 0)

/-- CALL. -/
def execCall (sid : Nat) (s : State) : Out := runStep 0x04 noHold effCall sid s

/-- RET pops the return address (05, R161). -/
def effRet (s : State) (sid : Nat) (h : Hdr) : State :=
  let t := s.str sid
  match t.calls.getLast? with
  | none => s
  | some c => (s.setStr sid { t with calls := t.calls.dropLast }).ctlTo sid h c.ret

/-- RET. -/
def execRet (sid : Nat) (s : State) : Out := runStep 0x05 noHold effRet sid s

/-- WAIT does nothing but through its header (05, R155). -/
def execWait (sid : Nat) (s : State) : Out := runStep 0x06 noHold effNext sid s

/-- SIG does nothing but through its header (05, R155). -/
def execSig (sid : Nat) (s : State) : Out := runStep 0x07 noHold effNext sid s

/-- FENCE is a NOP with ORD = 0b10 (05, R150). -/
def execFence (sid : Nat) (s : State) : Out := runStep 0x08 noHold effNext sid s

/-- A structural test of the stream's Basket is pending, deferring or waiting its turn, or a migration of some stream of the
Basket (05, R183; log entry 80, DEDUCED). -/
def State.movePending (s : State) (sid : Nat) : Bool :=
  let h := (s.str sid).bsk
  let b := s.bsk h
  b.testDefer.isSome || b.testDue || s.streams.any (fun e => e.2.bsk = h && e.2.st = .migrating)

/-- YIELD waits at the head while a test or migration is pending (05, R183). -/
def yieldHold (s : State) (sid : Nat) (_ : Hdr) : Bool := s.movePending sid

/-- YIELD with nothing pending completes as a NOP (05, R183). -/
def execYield (sid : Nat) (s : State) : Out := runStep 0x09 yieldHold effNext sid s

/-- HALT stops issue; its record ends the stream once every earlier step has completed (05, R163). -/
def effHalt (s : State) (sid : Nat) (h : Hdr) : State :=
  let t := s.str sid
  (s.setStr sid { t with halting := true, ptr := t.ptr + 1 }).over { recAt s sid h with status := 5 }

/-- HALT. -/
def execHalt (sid : Nat) (s : State) : Out := runStep 0x0A noHold effHalt sid s

/-- MARK writes its trace record (05, R163; 06, Table 06-3). -/
def effMark (s : State) (sid : Nat) (h : Hdr) : State :=
  (s.goTo sid ((s.str sid).ptr + 1)).over { recAt s sid h with status := 6, failed := bits h.ops 63 0 }

/-- MARK. -/
def execMark (sid : Nat) (s : State) : Out := runStep 0x0B noHold effMark sid s

/-- DBRK suspends the stream before its next step with CAUSE 0xF002, and Trivet posts a notice naming stream and step
(05, R146; 13, R427). -/
def effDbrk (s : State) (sid : Nat) (h : Hdr) : State :=
  let i := (s.str sid).ptr
  let s := s.ctlTo sid h (i + 1)
  (s.putStr sid { s.str sid with st := .suspended, cause := 0xF002 }).notice 0x20 sid (i : Int)

/-- DBRK. -/
def execDbrk (sid : Nat) (s : State) : Out := runStep 0xF0 noHold effDbrk sid s

/-- The 256-byte record of DSNAP: loop stack, call stack, flags and the Basket's 32 token counts (05, R146; the layout
is log entry 21, DESIGN CHOICE's). -/
def dsnapBytes (s : State) (t : Stream) : List Byte :=
  leBytes 1 (flagByte t.flags) ++ leBytes 1 t.loops.length ++ leBytes 1 t.calls.length ++ leBytes 13 0 ++
  loopBytes t.loops ++ callBytes t.calls ++ leBytes 16 0 ++
  (List.range 32).flatMap (fun k => leBytes 2 (s.tok t.bsk (k + 1)).count)

/-- DSNAP writes its record and completes. -/
def effDsnap (s : State) (sid : Nat) (h : Hdr) : State :=
  let t := s.str sid
  (s.wr (t.win (bits h.ops 63 0)) (dsnapBytes s t)).ctlTo sid h (t.ptr + 1)

/-- DSNAP. -/
def execDsnap (sid : Nat) (s : State) : Out := runStep 0xF1 noHold effDsnap sid s

/-! ## The end of a step, and tokens -/

/-- STEP_COMPLETION: the step in flight of issue number uid ends when its work is done and its order and the ring allow
it; while another of its stream waits for the ring it waits too (05, R149; 07, R233; log entry 72, DESIGN CHOICE). -/
def execStepCompletion (sid uid : Nat) (s : State) : Out :=
  guard (decide (sid < 131072)) (
    match (s.bsk (s.str sid).bsk).rec? uid with
    | some r => if r.sid = sid then s.tryFinish r else s
    | none => s)

/-- RING_HEAD_POLL: 1 µs on, CR_HEAD is read again; the step that waits completes when a place is free (07, R233). -/
def execRingHeadPoll (sid : Nat) (s : State) : Out :=
  guard (decide (sid < 131072)) (
    let s := s.at (s.time + 1000)
    match (s.bsk (s.str sid).bsk).inflight.find? (fun r => r.sid = sid && r.stalled) with
    | some r => s.tryFinish r
    | none => s)

/-- TOKEN_TIMEOUT: a head step that still waits on its token after more than TOK_TMO raises class X, its detail the token's
code, and its stream is aborted (05, R158; log entry 27, DEDUCED). -/
def execTokenTimeout (sid : Nat) (s : State) : Out :=
  guard (decide (sid < 131072)) (
    let t := s.str sid
    let tmo := (s.bsk t.bsk).seqCfg.toNat % 65536
    match t.waitSince with
    | some (τ, c) =>
      if t.st = .resident ∧ tmo ≠ 0 ∧ (s.tok t.bsk c).count ≤ s.waitersAhead sid t.bsk c τ then
        (s.at (τ + tmo * 1000000 + 1)).raiseX 0x0404 0x01 t.bsk sid t.bsk t.ptr c
      else s
    | none => s)

/-- TOKEN_SIGNAL_WRITE: a write of `BSK_TOK_SIG` signals its token; illegal codes and 0x00 are ignored (05, R159). -/
def execTokenSignalWrite (h : Nat) (tok : W32) (s : State) : Out :=
  guard (decide (h < 16)) (s.sig h (tok.toNat % 256))

/-- TOKEN_IRQ_DEFERRED: the held message of a global token is sent once a microsecond has passed since the last
(12, R390). -/
def execTokenIrqDeferred (g : Nat) (s : State) : Out :=
  guard (decide (g < 127)) (
    if tget falseDflt s.hq.tirqHeld g then
      let c := (tget w32Dflt s.hq.tirq g).toNat
      let s := s.at (tget natDflt s.hq.tirqAt g + 999)
      let s := { s with hq := { s.hq with tirqHeld := tset falseDflt s.hq.tirqHeld g false
                                          tirqAt := tset natDflt s.hq.tirqAt g (s.time + 1) } }
      if bit c 31 then s.tirqMsi c else s
    else s)

end Sys2Proof.Machine
end

