-- ==== Sys2Proof/Machine/Whisk.lean ====
section
/-! DEFINITION. The Whisk: the scale of a block, quantisation, statistics and widening (03, R87 to R101). -/

namespace Sys2Proof.Machine

/-! ## Scale entries (03, R88, Table 03-4) -/

/-- FILL as it acts: 9 to 15 act as 8. -/
def ScaleEntry.fillEff (e : ScaleEntry) : Nat := min 8 e.fill

/-- Ring slot i. -/
def ScaleEntry.peak (e : ScaleEntry) (i : Nat) : BitVec 16 × BitVec 16 := tget (fun _ => (0, 0)) e.peaks i

/-- The larger of two BF16 peaks as values: a loaded image may hold a negative one (06, R209). A NaN among them is left out
(log entry 118, DESIGN CHOICE). -/
def peakMax (a b : BitVec 16) : BitVec 16 :=
  if f32nan (bf16to32 a.toNat) || f32lt (bf16to32 a.toNat) (bf16to32 b.toNat) then b else a

/-- The largest peaks over the n most recent slots. -/
def ScaleEntry.recent (e : ScaleEntry) (n : Nat) : BitVec 16 × BitVec 16 :=
  (List.range n).foldl (fun m i =>
    let p := e.peak ((e.head + 8 - i % 8) % 8)
    (peakMax m.1 p.1, peakMax m.2 p.2)) (e.peak (e.head % 8))

/-- The least of a list of numbers. -/
def minNat : List Nat → Nat
  | [] => 0
  | [x] => x
  | x :: t => min x (minNat t)

/-- The scale at the start of a quantisation, and whether SCALE_UNDER is raised (R88). -/
def ScaleEntry.choose (e : ScaleEntry) (cmax : Nat) (zs : List Nat) : W32 × Bool :=
  if e.freeze || e.fillEff = 0 then (e.scale, false) else
  let pk := e.recent (min e.fillEff (e.depth + 1))
  let qpos := minNat (zs.map (fun z => cmax - z))
  let qneg := minNat zs
  let t0 : W32 := 0
  let t1 := if 0 < qpos then f32max t0 (f32div (bf16to32 pk.1.toNat) (f32int qpos)) else t0
  let t2 := if 0 < qneg then f32max t1 (f32div (bf16to32 pk.2.toNat) (f32int qneg)) else t1
  let s := f32mul (f32rat (max 8 e.headroom) 16) t2
  let under := f32lt s 0x1F800000#32
  let s := if under then e.scale else s
  (if f32lt 0x5F800000#32 s then 0x5F800000#32 else s, under)

/-! ## Quantisation (R90, R96) -/

/-- An element quantised: its code, whether it was clipped, and whether it went to zero. -/
structure Quant where
  code : Nat
  clip : Bool
  zero : Bool
  deriving DecidableEq, Repr

/-- Quantise x with r = 1 / s, C_max and zero point z (R90). -/
def quantOne (r : W32) (cmax z : Nat) (x : W32) : Quant :=
  let p := f32mul x r
  if f32nan x || f32nan p then { code := z, clip := true, zero := false } else
  match f32v p with
  | .inf neg => { code := if neg then 0 else cmax, clip := true, zero := false }
  | v =>
    let q := (roundAway v).getD 0
    if ((cmax : Int) - z) < q then { code := cmax, clip := true, zero := false }
    else if q < -(z : Int) then { code := 0, clip := true, zero := false }
    else { code := (q + z).toNat, clip := false, zero := q = 0 && !f32zero x }

/-- An element takes part in the peaks: finite, and not treated as a NaN (R90). -/
def peakOf (r x : W32) : Bool := f32fin x && !f32nan (f32mul x r)

/-- Count the elements of a matrix that meet a test. -/
def countIf {α : Type} (p : α → Bool) (m : List (List α)) : Nat := sumNat (m.map (fun v => (v.filter p).length))

/-- Quantise one block of vectors: rows of codes. -/
def quantRows (r : W32) (cmax : Nat) (zs : List Nat) (xs : List (List W32)) : List (List Quant) :=
  xs.map (fun v => (zs.zip v).map (fun e => quantOne r cmax e.1 e.2))

/-- The result of a block: codes, shadow codes, the entry after it, clipped elements of the main output, and whether the
scale was under. -/
structure BlockOut where
  codes  : List (List Nat)
  shadow : List (List Nat)
  entry  : ScaleEntry
  under  : Bool
  deriving DecidableEq, Repr

/-- Quantise a block through its entry, and push its history (R88, R90, R91, R96). -/
def quantBlock (e : ScaleEntry) (f : Nat) (shadow : Bool) (zs : List Nat) (xs : List (List W32)) : BlockOut :=
  let cmax := aMax f
  let (s, under) := e.choose cmax zs
  let r := f32div 0x3F800000#32 s
  let q := quantRows r cmax zs xs
  let r8 := f32div 0x3F800000#32 (f32div s 0x40800000#32)
  let q8 := if shadow then quantRows r8 255 (zs.map (16 * ·)) xs else []
  let fin := xs.map (fun v => v.filter (peakOf r))
  let pos := fin.foldl (fun m v => v.foldl f32max m) 0
  let neg := fin.foldl (fun m v => v.foldl (fun m x => f32max m (f32neg x)) m) 0
  let e := { e with
    scale := s
    clip := countIf (·.clip) q
    zero := countIf (·.zero) q
    nElem := sumNat (xs.map List.length)
    shClip := countIf (·.clip) q8 }
  let head := (e.head + 1) % 8
  { codes := q.map (fun v => v.map (·.code))
    shadow := q8.map (fun v => v.map (·.code))
    under := under
    entry := if e.freeze then e else
      { e with head := head, fill := min 8 (e.fillEff + 1)
               peaks := tset (fun _ => (0, 0)) e.peaks head (toPeak pos, toPeak neg) } }

/-- The tests of R94 on a block. -/
def widens (b : Basket) (e : ScaleEntry) : Bool :=
  (bit b.wskCfg.toNat 0 && decide (bits b.wskThr.toNat 15 0 * e.nElem < e.clip * 65536)) ||
  (bit b.wskCfg.toNat 1 && decide (bits b.wskThr.toNat 31 16 * e.nElem < e.zero * 65536))

/-- What a quantisation of a tensor leaves: codes and shadow codes vector by vector, the first handle over a threshold,
the first whose scale was under, the clipped elements and the blocks over threshold. -/
structure TensorOut where
  codes  : List (List Nat)
  shadow : List (List Nat)
  wide   : List Nat
  under  : List Nat
  clips  : Nat
  deriving DecidableEq, Repr

/-- Append row by row. -/
def zipApp {α : Type} (a b : List (List α)) : List (List α) := List.zipWith (· ++ ·) a b

/-- Quantise N vectors of C channels through entries hnd onward of Basket h (R82, R88 to R91). -/
def State.quantise (s : State) (h hnd f : Nat) (shadow : Bool) (zp : List Nat) (xs : List (List W32)) : State × TensorOut :=
  let empty := xs.map (fun _ => ([] : List Nat))
  (List.range (rbBlocks zp.length)).foldl (fun (acc : State × TensorOut) b =>
    let (s, o) := acc
    let cut {α : Type} (l : List α) : List α := (l.drop (128 * b)).take 128
    let r := quantBlock (s.scale h (hnd + b)) f shadow (cut zp) (xs.map cut)
    (s.setScale h (hnd + b) r.entry,
      { codes := zipApp o.codes r.codes
        shadow := if shadow then zipApp o.shadow r.shadow else []
        wide := if widens (s.bsk h) r.entry then o.wide ++ [hnd + b] else o.wide
        under := if r.under then o.under ++ [hnd + b] else o.under
        clips := o.clips + r.entry.clip }))
    (s, { codes := empty, shadow := if shadow then empty else [], wide := [], under := [], clips := 0 })
where
  /-- Blocks of 128 channels. -/
  rbBlocks (c : Nat) : Nat := (c + 127) / 128

/-- SCALE_UNDER, WIDEN and OUT_SAT of a step, each recorded once (R89, R95, R100). The spec gives OUT_SAT no DETAIL: it is
written 0 (log entry 119, DESIGN CHOICE). -/
def State.whiskEvents (s : State) (h sid idx : Nat) (wide under : List Nat) (outSat : Bool) : State :=
  let s := match under.head? with
    | some n => s.raiseS 0x0302 0 0x01 h sid h idx n
    | none => s
  let s := match wide.head? with
    | some n =>
      let b := s.bsk h
      (s.setBsk h { b with widenCnt := sat32 (b.widenCnt + 1) }).raiseS 0x0301 0 0x01 h sid h idx n
    | none => s
  if outSat then
    let b := s.bsk h
    (s.setBsk h { b with satCnt := sat32 (b.satCnt + 1) }).raiseS 0x0303 0 0x01 h sid h idx 0
  else s

/-! ## FP8 and BF16 output (R101) -/

/-- A value through the output scale: its code in BF16 (true) or E4M3, and whether it saturated. -/
def narrow (bf : Bool) (r x : W32) : Nat × Bool :=
  let p := f32mul x r
  if bf then toBf16 p else toE4m3 p

/-- The reciprocal of the output scale; zero means 1.0 (06, Table 06-13). -/
def outRecip (oscale : W32) : W32 := if oscale = 0 then 0x3F800000#32 else f32div 0x3F800000#32 oscale

/-- An element of a tensor, decoded to FP32: 0 BF16, 1 E4M3, 2 FP32 (06, Table 06-14). -/
def State.elem (s : State) (f a : Nat) : W32 :=
  if f = 0 then bf16to32 (s.rdN a 2) else if f = 1 then e4m3to32 (s.rdN a 1) else BitVec.ofNat 32 (s.rdN a 4)

/-- A vector of c elements at local offset a. -/
def State.vec (s : State) (f a c : Nat) : List W32 :=
  (List.range c).map (fun k => s.elem f (a + k * (if f = 0 then 2 else if f = 1 then 1 else 4)))

/-- Write rows of bytes at a strided region. -/
def State.wrRows (s : State) (a pitch : Nat) (rows : List (List Byte)) : State :=
  (rows.foldl (fun (acc : State × Nat) r => (acc.1.wr acc.2 r, acc.2 + pitch)) (s, a)).1

end Sys2Proof.Machine
end

