-- ==== Sys2Proof/Machine/Pots.lean ====
section
/-! DEFINITION. The Pots: POPEN, SPILL, RESUME and PCLOSE, and what waits for a Pot's producers (04, R122 to R133; 06, R205
to R210). -/

namespace Sys2Proof.Machine

/-! ## Waiting for producers, closes and scale entries -/

/-- Two ranges of scale entries meet. -/
def rangesMeet (a b : Nat × Nat) : Bool := decide (a.1 < b.1 + b.2) && decide (b.1 < a.1 + a.2)

/-- A step that names a scale entry to write, load or store it: QNT, PCLOSE, SCUP or STAT (03, R92). -/
def writesScale (opc : Nat) : Bool := opc = 0x31 || opc = 0x21 || opc = 0x32 || opc = 0x33

/-- Some step of the Basket, issued before uid and not completed, names one of the entries; with `all` the MVMs count too
(03, R92; 06, R213). -/
def State.scalesBusy (s : State) (h uid : Nat) (all : Bool) (rg : Nat × Nat) : Bool :=
  (s.bsk h).inflight.any (fun r => decide (r.uid < uid) && (all || writesScale r.opc) && r.scales.any (rangesMeet rg))

/-- Every producer of Pot n issued before step uid has landed its last promotion (04, R124). -/
def State.potClear (s : State) (h n uid : Nat) : Bool :=
  (s.bsk h).inflight.all (fun r => !(r.opc = 0x12 || r.opc = 0x13) || r.done || decide (uid ≤ r.uid) || !r.pots.contains n)

/-- The scale entries of a close, none where its output is not A4 or A8 (06, R208). -/
def closeScales (d : CloseDesc) (rp : Nat) : List (Nat × Nat) :=
  if d.omode = 0 ∧ d.ofmt ≤ 1 then [(d.hnd, rp / 128)] else []

/-- A waiting Pot operation may start (04, R124; 03, R92). -/
def State.waitReady (s : State) (h n : Nat) (w : PotWait) : Bool :=
  let p := s.pot h n
  s.potClear h n w.uid && p.st != .closing &&
  (match w with
   | .pclose u d => !(closeScales d p.rp).any (s.scalesBusy h u false)
   | _ => true)

/-! ## Elements -/

/-- Element (S, C) at row r and column j. -/
def Pot.elem (p : Pot) (r j : Nat) : W32 × W32 := tget (fun _ => (0, 0)) p.elems (r * p.cp + j)

/-- A finite FP64. -/
def f64fin (a : W64) : Bool := match fdec fp64 a.toNat with | .fin _ _ _ => true | _ => false

/-- The CP128 elements of a buffer. -/
def State.cp128 (s : State) (a n : Nat) : List (W64 × W64) :=
  (List.range n).map (fun i => (BitVec.ofNat 64 (s.rdN (a + 16 * i) 8), BitVec.ofNat 64 (s.rdN (a + 16 * i + 8) 8)))

/-- Add a Pot into its buffer (04, R127), and whether some sum is not finite. -/
def State.spillInto (s : State) (a : Nat) (p : Pot) : State × Bool :=
  let out := (s.cp128 a (p.rp * p.cp)).zipIdx.map (fun e => cp128Spill e.1 (tget (fun _ => (0, 0)) p.elems e.2))
  (s.wr a (out.flatMap (fun e => leBytes 8 e.1.toNat ++ leBytes 8 e.2.toNat)), out.any (fun e => !f64fin e.1))

/-- The pair (S′, C′) a CP64 add carries for a bound Pot (04, R131); where the sum is not finite C′ is free (log entry
30, DESIGN CHOICE). -/
def boundPair (e : W64 × W64) : W32 × W32 :=
  let v := f32of64sum e.1 e.2
  if f32fin v then
    (v, f32of (vadd (vadd (fdec fp64 e.1.toNat) (fdec fp64 e.2.toNat)) (vneg (f32v v))))
  else (v, Config.freeF v v)

/-- POT_OVF of a step, recorded once (04, R120). -/
def State.potOvf (s : State) (h uid : Nat) : State :=
  match (s.bsk h).rec? uid with
  | some r =>
    if r.potOvf then s else
    let s := s.modRec h uid (fun r => { r with potOvf := true })
    let b := s.bsk h
    (s.setBsk h { b with potOvfCnt := sat32 (b.potOvfCnt + 1) }).raiseS 0x0202 0 0x01 h r.sid h r.idx 0
  | none => s

/-- A step of a Pot ends: one Pot fewer is left of it. -/
def State.potDone (s : State) (h uid detail : Nat) : State :=
  s.modRec h uid (fun r => { r with units := r.units - 1, done := decide (r.units ≤ 1), detail := detail })

/-- What a read of some elements of a Pot's SRAM finds: corrected errors are written back, counted and marked; none where
one is uncorrectable (04, R126). -/
def State.potEccIn (s : State) (h n : Nat) (mine : Nat → Bool) : Option State :=
  let p := s.pot h n
  let b := s.bsk h
  let hit := p.ecc.filter (fun e => mine e.1)
  if hit.isEmpty then some s
  else if hit.any (fun e => e.2 = .bad) then none
  else some ((s.setBsk h { b with eccCe := sat16 (b.eccCe + hit.length) }).setPot h n
    { p with ecc := p.ecc.filter (fun e => !mine e.1), eccCe := true })

/-- What a read of the whole Pot finds. -/
def State.potEcc (s : State) (h n : Nat) : Option State := s.potEccIn h n (fun _ => true)

/-- The uncorrectable case of `potEcc`, for stream sid at step idx. -/
def State.potEccAt (s : State) (h n sid idx : Nat) : State :=
  let b := s.bsk h
  (s.setBsk h { b with eccUe := sat16 (b.eccUe + 1) }).raiseX 0x0203 0x01 h sid h idx (shl 2 28 + n)

/-- The uncorrectable case of `potEcc`. -/
def State.potEccX (s : State) (h n : Nat) (r : StepRec) : State := s.potEccAt h n r.sid r.idx

/-! ## POPEN, SPILL and RESUME -/

/-- A Pot as POPEN or RESUME leaves it; its band counts, formed at issue, stand (04, R122, R125, R128). -/
def openedPot (p : Pot) (owner rp cp : Nat) (bound : Option Nat) : Pot :=
  { p with st := .opened, owner := owner, rp := rp, cp := cp, elems := [], bound := bound, ovf := false
           convSat := false, outSat := false, eccCe := false, ecc := [], failed := 0, close := none
           closeUid := 0, closeRec := none, retry := none, retrying := false }

/-- A POPEN starts on its Pot (06, R205). -/
def State.runPopen (s : State) (h n : Nat) (r : StepRec) (rp cp : Nat) : State :=
  (s.setPot h n (openedPot (s.pot h n) r.sid rp cp none)).potDone h r.uid r.detail

/-- Pot n of Basket h is spilled into a buffer of its stream's window and goes FREE: whether some sum is not finite, or none
where its SRAM or the buffer holds an uncorrectable error, which aborts the stream (04, R120, R126, R127; 07, R243). -/
def State.spillPot (s : State) (h n buf sid idx : Nat) : State × Option Bool :=
  match s.potEcc h n with
  | none => (s.potEccAt h n sid idx, none)
  | some s =>
    let p := s.pot h n
    let t := s.str sid
    let rg : Region := { sp := 0, start := buf, pitch := 0, width := 16 * p.rp * p.cp, rows := 1 }
    match s.regionBad t rg with
    | some w => ((s.scrubRegions t [rg]).memX w sid h idx, none)
    | none =>
      let (s, ovf) := (s.scrubRegions t [rg]).spillInto (t.win buf) p
      (s.setPot h n { freedPot p with ovf := p.ovf || ovf }, some ovf)

/-- A SPILL starts on its Pot: added into the buffer, and the Pot FREE (04, R127; 06, R206). -/
def State.runSpill (s : State) (h n : Nat) (r : StepRec) (buf : Nat) : State :=
  let len := (s.pot h n).rp * (s.pot h n).cp
  match s.spillPot h n buf r.sid r.idx with
  | (s, some ovf) => (if ovf then s.potOvf h r.uid else s).potDone h r.uid len
  | (s, none) => s

/-! ## PCLOSE (04, R129 to R133) -/

/-- What a PCLOSE block names (06, Table 06-13). -/
def closeDesc (b : Blk) (t : Stream) (depth : Nat) : CloseDesc where
  out    := fld b 0 8
  outSp  := fld b 8 1
  omode  := fld b 9 1
  ofmt   := fld b 0x0A 1
  flags  := fld b 0x0B 1
  opitch := fld b 0x10 4
  sout   := fld b 0x14 4
  spitch := fld b 0x18 4
  hnd    := fld b 0x1C 2
  oscale := fldF b 0x20
  fop    := fld b 0x24 4
  sta    := fld b 0x28 4
  crec   := fld b 0x2C 4
  zp     := fld b 0x30 4
  zdef   := bit (fld b 0x0D 1) 0
  win    := t.winBase
  depth  := depth

/-- Window offset w of the close. -/
def CloseDesc.at (d : CloseDesc) (w : Nat) : Nat := crockBase + d.win + w

/-- The regions a close reads. -/
def closeIns (d : CloseDesc) (p : Pot) : List Region :=
  let rg (a pitch w n : Nat) : Region := { sp := 0, start := a, pitch := pitch, width := w, rows := n }
  let e := if bit d.flags 7 then 4 else 2
  (if d.flags / 8 % 4 = 0 then [] else
    [rg d.fop 0 ((if d.flags / 32 % 4 = 0 then p.rp * p.cp else if d.flags / 32 % 4 = 1 then p.rp else p.cp) * e) 1]) ++
  (if bit d.flags 2 then [rg d.sta 16 16 p.cp] else []) ++
  (if d.omode = 0 ∧ d.ofmt ≤ 1 ∧ ¬ d.zdef then [rg d.zp 0 (rowBytes (zpBits (if d.ofmt = 1 then 4 else 3)) p.rp) 1] else []) ++
  (match p.bound with | some a => [rg a 0 (16 * p.rp * p.cp) 1] | none => [])

/-- The fuse operand of element (r, j) (06, R207). -/
def State.fuseOf (s : State) (d : CloseDesc) (rp r j : Nat) : W32 :=
  let k := if d.flags / 32 % 4 = 0 then j * rp + r else if d.flags / 32 % 4 = 1 then r else j
  if bit d.flags 7 then s.elem 2 (d.at (d.fop + k * 4)) else s.elem 0 (d.at (d.fop + k * 2))

/-- Element (r, j) of a close: v′ and the pair a CP64 add carries (04, R129, R131). -/
def State.closeElem (s : State) (d : CloseDesc) (p : Pot) (hl : List (W64 × W64)) (r j : Nat) : W32 × W32 × W32 :=
  let pr := match p.bound with
    | some _ => boundPair (hl.getD (r * p.cp + j) (0, 0))
    | none => p.elem r j
  let v := match p.bound with
    | some _ => pr.1
    | none => cp64Val pr
  let fuse := d.flags / 8 % 4
  if fuse = 0 then (v, pr)
  else
    let f := s.fuseOf d p.rp r j
    let v := if fuse = 1 then f32add v f else f32mul v f
    (v, v, 0)

/-- MAX and SUM of a column, NaN left out (04, R130). -/
def colStats (vs : List W32) : W32 × (W32 × W32) :=
  let vs := vs.filter (fun v => !f32nan v)
  (vs.foldl f32max 0xFF800000#32, vs.foldl cp64Promote (0, 0))

/-- Write or merge the statistics record of a column (04, R130). -/
def State.putStats (s : State) (a : Nat) (merge : Bool) (vs : List W32) : State :=
  let (mx, sm) := colStats vs
  let (mx, sm) := if merge then
      let m0 := BitVec.ofNat 32 (s.rdN a 4)
      (if vs.all f32nan then m0 else f32max m0 mx,
        cp64Atomic (BitVec.ofNat 32 (s.rdN (a + 8) 4), BitVec.ofNat 32 (s.rdN (a + 12) 4)) sm)
    else (mx, sm)
  s.wr a (leBytes 4 mx.toNat ++ leBytes 4 0 ++ leBytes 4 sm.1.toNat ++ leBytes 4 sm.2.toNat)

/-- The close record (04, Table 04-6). -/
def closeRecord (time n : Nat) (r : StepRec) (d : CloseDesc) (fl sat nonfin failed : Nat) : List Byte :=
  leBytes 8 time ++ leBytes 4 (shl d.omode 24 + shl n 18 + r.sid) ++ leBytes 4 (shl r.h 24 + r.idx) ++
  leBytes 4 (fl + shl (b2n (decide (failed ≠ 0))) 4) ++ leBytes 4 sat ++ leBytes 4 nonfin ++ leBytes 4 d.depth ++
  leBytes 8 failed ++ leBytes 24 0

/-- A close ends: its record is written, the Pot leaves CLOSING, and the step is done (04, R131, R133; 06, Table 06-5). -/
def State.endClose (s : State) (h n : Nat) : State :=
  let p := s.pot h n
  match p.close, (s.bsk h).rec? p.closeUid, p.closeRec with
  | some d, some r, some (fl, sat, nonfin) =>
    let s := s.wr (d.at d.crec) (closeRecord s.time n r d (fl + 64 * b2n p.eccCe) sat nonfin p.failed)
    let p' := if p.failed = 0 then freedPot p else { p with st := .held, retrying := false }
    let p' := if p.retrying ∨ (p'.st = .held ∧ p.pred = .free) then
        { p' with pred := p'.st, predOwner := p'.owner, predRp := p'.rp, predCp := p'.cp, predBound := p'.bound }
      else p'
    (s.setPot h n p').modRec h r.uid (fun r => { r with
      done := true, failed := p.failed, status := if p.failed = 0 then 0 else 2
      detail := if r.detail / 2 ^ 31 % 2 = 1 then 2 ^ 31 + sat % 2 ^ 31 else sat })
  | _, _, _ => s

/-- Elements of an atomic unit of a close. -/
def perUnit (omode : Nat) : Nat := if omode = 1 then 16 else 8

/-- Units of an AADD close of a Pot of shape rp × cp (04, R131). -/
def closeCount (omode rp cp : Nat) : Nat := cp * (rp / perUnit omode)

/-- The units of an AADD close: column by column, in parts by the column's number, under the tags, the time and the epoch
of their first issue (04, R131; 07, R252). `parts` names the parts of a retry. -/
def closeUnits (h n : Nat) (d : CloseDesc) (p : Pot) (parts : Option Nat) (f : RetryRec) : List FUnit :=
  let k := perUnit d.omode
  let e := 64 / k
  let per := p.rp / k
  (List.range p.cp).flatMap (fun j =>
    if (match parts with | some m => bit m (j % 64) | none => true) then
      (List.range per).map (fun q =>
        let es := (List.range k).map (fun i => p.elem (q * k + i) j)
        let bytes := es.flatMap (fun x => if d.omode = 1 then leBytes 4 x.1.toNat else leBytes 4 x.1.toNat ++ leBytes 4 x.2.toNat)
        { atomicUnit (.close h n) (j % 64) d.omode (d.out + j * d.opitch + q * k * e) k (f.firstTag + j * per + q) bytes with
          again := parts.isSome, firstAt := f.firstAt, pkt.cfg := f.cfg })
    else [])

/-- A PCLOSE starts, every producer having landed (04, R129 to R133; 06, R207, R208). -/
def State.runPclose (s : State) (h n : Nat) (r : StepRec) (d : CloseDesc) : State :=
  match s.potEcc h n with
  | none => s.potEccX h n r
  | some s =>
    let p := s.pot h n
    let t := { s.str r.sid with winBase := d.win }
    let ins := closeIns d p
    let s := s.scrubRegions t ins
    match ins.findSome? (s.regionBad t) with
    | some w => s.memX w r.sid h r.idx
    | none =>
      -- a bound Pot is spilled first (R128)
      let (s, ovf) := match p.bound with
        | some a => s.spillInto (d.at a) p
        | none => (s, false)
      let s := if ovf then s.potOvf h r.uid else s
      let p := { p with ovf := p.ovf || ovf, failed := 0 }
      let hl := match p.bound with
        | some a => s.cp128 (d.at a) (p.rp * p.cp)
        | none => []
      let cols := (List.range p.cp).map (fun j => (List.range p.rp).map (fun i => s.closeElem d p hl i j))
      let vs := cols.map (fun c => c.map (·.1))
      let s := if bit d.flags 1 then
          (vs.foldl (fun (acc : State × Nat) c => (acc.1.putStats acc.2 (bit d.flags 2) c, acc.2 + 16)) (s, d.at d.sta)).1
        else s
      let nonfin := countIf (fun v => !f32fin v) vs
      let base := 8 * b2n (bit d.flags 1) + 32 * b2n p.bound.isSome + 4 * b2n p.convSat + 2 * b2n p.ovf
      if d.omode = 0 then
        let a := if d.outSp = 0 then d.at d.out else d.out
        if d.ofmt ≤ 1 then
          let f := if d.ofmt = 1 then 4 else 3
          let zp := s.zeroPoints t f p.rp d.zdef d.zp
          let (s, o) := s.quantise h d.hnd f (bit d.flags 0) zp vs
          let s := s.wrRows a d.opitch (o.codes.map (packCodes (aBits f)))
          let s := if bit d.flags 0 then s.wrRows (d.at d.sout) d.spitch (o.shadow.map (packCodes 8)) else s
          let outSat := d.ofmt = 1 && decide (0 < o.clips)
          let s := s.whiskEvents h r.sid r.idx o.wide o.under outSat
          let s := s.modRec h r.uid (fun r => { r with widen := !o.wide.isEmpty, outSat := outSat })
          (s.setPot h n { p with st := .closing, close := some d, closeUid := r.uid
                                 closeRec := some (base + b2n (p.outSat || outSat), o.clips, nonfin) }).endClose h n
        else
          let bf := d.ofmt = 3
          let q := vs.map (fun c => c.map (narrow bf (outRecip d.oscale)))
          let sat := countIf (·.2) q
          let s := s.wrRows a d.opitch (q.map (fun c => c.flatMap (fun e => leBytes (if bf then 2 else 1) e.1)))
          let s := s.whiskEvents h r.sid r.idx [] [] (decide (0 < sat))
          let s := s.modRec h r.uid (fun r => { r with outSat := decide (0 < sat) })
          (s.setPot h n { p with st := .closing, close := some d, closeUid := r.uid
                                 closeRec := some (base + b2n (p.outSat || decide (0 < sat)), sat, nonfin) }).endClose h n
      else
        -- the contents kept for a retry are the pairs that are sent
        let pairs : Tab (W32 × W32) := (List.range (p.rp * p.cp)).filterMap (fun i =>
          let e := ((cols.getD (i % p.cp) []).getD (i / p.cp) (0, 0, 0))
          let pr := if d.omode = 1 then (e.1, 0) else e.2
          if pr = (0, 0) then none else some (i, pr))
        let p := { p with st := .closing, elems := pairs, close := some d, closeUid := r.uid, failed := 0
                          closeRec := some (base + b2n p.outSat, 0, nonfin) }
        let k : RetryRec := { opc := 0x21, block := r.block, failed := 0, firstAt := s.time, firstTag := r.firstTag
                              units := r.total, cfg := r.cfg }
        let p := { p with retry := some k }
        ((s.setPot h n p).modRec h r.uid (fun r => { r with units := r.total, firstAt := s.time })).sendUnits
          (closeUnits h n d p none k)

/-! ## The head of a Pot's waits -/

/-- Run the first wait of a Pot when it may start. -/
def State.runWait (s : State) (h n : Nat) : State :=
  let p := s.pot h n
  match p.waits with
  | [] => s
  | w :: rest =>
    match (s.bsk h).rec? w.uid with
    | none => s.setPot h n { p with waits := rest }
    | some r =>
      if s.waitReady h n w then
        let s := s.setPot h n { p with waits := rest }
        match w with
        | .popen _ rp cp => s.runPopen h n r rp cp
        | .spill _ buf => s.runSpill h n r buf
        | .pclose _ d => s.runPclose h n r d
      else s

/-- Append a wait to a Pot, and start it at once where nothing stands before it. -/
def State.addWait (s : State) (h n : Nat) (w : PotWait) : State :=
  let p := s.pot h n
  let s := s.setPot h n { p with waits := p.waits ++ [w] }
  if p.waits.isEmpty then s.runWait h n else s

/-- POT_WAIT_END: the producers of the first wait of a Pot have landed, and it starts (04, R124). -/
def execPotWaitEnd (h pot : Nat) (s : State) : Out := guard (decide (h < 16) && decide (pot < 64)) (s.runWait h pot)

/-! ## The steps -/

/-- The step goes in flight and the stream on to the next step. -/
def State.launch (s : State) (sid : Nat) (r : StepRec) : State := (s.goTo sid ((s.str sid).ptr + 1)).enter r

/-- POPEN: the judged state of its Pots changes at issue; each opens once its wait ends (04, R123, R124; 06, R205). -/
def effPopen (s : State) (sid : Nat) (h : Hdr) : State :=
  let np := bits h.ops 14 8
  let n0 := bits h.ops 5 0
  let rp := 16 * bits h.ops 26 16
  let cp := bits h.ops 44 32
  let r := { recAt s sid h with units := np, detail := np }
  let s := s.launch sid r
  let ns := (List.range np).map (· + n0)
  let s := ns.foldl (fun s n => s.setPot r.h n { s.pot r.h n with
    pred := .opened, predOwner := sid, predRp := rp, predCp := cp, predBound := none, bands := [], depth := 0 }) s
  (ns.foldl (fun s n => s.addWait r.h n (.popen r.uid rp cp)) s)

/-- POPEN. -/
def execPopen (sid : Nat) (s : State) : Out := runStep 0x20 noHold effPopen sid s

/-- SPILL: judged FREE from issue (04, R123). -/
def effSpill (s : State) (sid : Nat) (h : Hdr) : State :=
  let n := bits h.ops 5 0
  let r := { recAt s sid h with units := 1 }
  let s := s.launch sid r
  let s := s.setPot r.h n { s.pot r.h n with pred := .free, predBound := none }
  s.addWait r.h n (.spill r.uid (bits h.ops 95 64))

/-- SPILL. -/
def execSpill (sid : Nat) (s : State) : Out := runStep 0x22 noHold effSpill sid s

/-- A RESUME waits at the head until what was issued to its Pot before has ended (04, R123). -/
def resumeHold (s : State) (sid : Nat) (h : Hdr) : Bool :=
  let p := s.pot (s.str sid).bsk (bits h.ops 5 0)
  !(p.st = .free && p.waits.isEmpty)

/-- RESUME opens its Pot at zero, bound to its buffer (04, R128; 06, R206). -/
def effResume (s : State) (sid : Nat) (h : Hdr) : State :=
  let n := bits h.ops 5 0
  let rp := 16 * bits h.ops 42 32
  let cp := bits h.ops 60 48
  let buf := bits h.ops 95 64
  let r := { recAt s sid h with done := true, detail := 1 }
  let s := s.launch sid r
  s.setPot r.h n { openedPot (s.pot r.h n) sid rp cp (some buf) with
    pred := .opened, predOwner := sid, predRp := rp, predCp := cp, predBound := some buf, bands := [], depth := 0 }

/-- RESUME. -/
def execResume (sid : Nat) (s : State) : Out := runStep 0x23 resumeHold effResume sid s

/-- PCLOSE with RETRY = 1: a HELD Pot reissues its failed parts under their first tags, those past 1.9 ms staying failed;
a FREE Pot does nothing (06, R210; 07, R255). -/
def State.retryClose (s : State) (sid : Nat) (h : Hdr) (n : Nat) : State :=
  let r := recAt s sid h
  let p := s.pot r.h n
  match p.st, p.close, p.retry with
  | .held, some d, some k =>
    let s := s.launch sid { r with firstAt := k.firstAt, firstTag := k.firstTag, total := k.units, retry := true, block := k.block,
                                   cfg := k.cfg }
    match s.potEcc r.h n with
    | none => s.potEccX r.h n r
    | some s =>
      let p := { s.pot r.h n with st := .closing, closeUid := r.uid, retrying := true }
      if k.firstAt + 1900000 < s.time then
        ((s.setPot r.h n p).modRec r.h r.uid (fun r => { r with detail := 2 ^ 31 })).endClose r.h n
      else
        let us := closeUnits r.h n d p (some p.failed) k
        ((s.setPot r.h n { p with failed := 0 }).modRec r.h r.uid (fun r => { r with units := us.length })).sendUnits us
  | _, _, _ => s.launch sid { r with done := true, retry := true }

/-- PCLOSE: the block is latched, the tags of its AADD units are reserved, the Pot is judged FREE from issue, and the close
waits for its producers (04, R123, R124, R129; 06, R210; 07, R252). -/
def effPclose (s : State) (sid : Nat) (h : Hdr) : State :=
  let t := s.str sid
  let (off, b) := s.blkOf t h
  let n := fld b 0x0C 1
  if bit h.ops 0 then s.retryClose sid h n
  else
    let p := s.pot t.bsk n
    let d := closeDesc b t p.depth
    let cnt := if d.omode = 0 then 0 else closeCount d.omode p.predRp p.predCp
    let (tag, s) := s.takeTags cnt
    let r := { recAt s sid h with units := 1, block := off, scales := closeScales d p.predRp, firstTag := tag, total := cnt }
    let s := s.launch sid r
    let s := s.setPot r.h n { s.pot r.h n with pred := .free, predBound := none }
    s.addWait r.h n (.pclose r.uid d)

/-- PCLOSE. -/
def execPclose (sid : Nat) (s : State) : Out := runStep 0x21 noHold effPclose sid s

end Sys2Proof.Machine
end

