-- ==== Sys2Proof/Machine/Pans.lean ====
section
/-! DEFINITION. Weights, walks and promotions: WLD, WSW, WREF, MVM and MVMW, and what a Pan does for them (02, R42 to R63;
04, R104 to R121; 05, R168 to R175; 06, R196 to R204). -/

namespace Sys2Proof.Machine

/-! ## The MVMs of a Basket -/

/-- The MVM or MVMW of issue number uid. -/
def Basket.mvm? (b : Basket) (uid : Nat) : Option MvmRun := b.mvms.find? (fun m => m.uid = uid)

/-- K blocks of a descriptor. -/
def WDesc.kb (d : WDesc) : Nat := rbOf d.cols

/-- Groups of a tile under a reduction group (05, R169). -/
def MvmRun.groups (m : MvmRun) : Nat := 128 / m.grp

/-- Group blocks of a tile: two passes each in an MVMW (03, R97). -/
def MvmRun.blocks (m : MvmRun) : Nat := if m.wide then 2 * m.groups else m.groups

/-- Vectors of batch block n (05, R168). -/
def MvmRun.vecs (m : MvmRun) (n : Nat) : Nat := min 512 (m.n - 512 * n)

/-- Rows of row block rb below R (05, R171). -/
def MvmRun.rows (m : MvmRun) (rb : Nat) : Nat := min 128 (m.r - 128 * rb)

/-- Work of step uid is left on a Pan. -/
def Pan.worksFor (p : Pan) (uid : Nat) : Bool :=
  p.computeQ.any (fun c => match c with
    | .tile u _ _ => u = uid
    | .wsw _ => false) ||
  p.windows.any (fun w => w.step = uid) || p.ladders.any (fun l => l.blk.step = uid) ||
  p.samples.any (fun x => x.blk.step = uid) ||
  (match p.lowBuf with | some (b, _) => b.step = uid | none => false)

/-- An MVM whose last promotion has landed is done; its fast-mode grant ends (02, Table 02-12; 06, Table 06-5). -/
def State.settleMvm (s : State) (h uid : Nat) : State :=
  let b := s.bsk h
  match b.mvm? uid with
  | none => s
  | some _ =>
    if (bskPans h).any (fun p => (s.pan p).worksFor uid) then s else
    let left := b.fastUids.filter (· != uid)
    let ends := b.fastGrant && b.fastUids.contains uid && left.isEmpty
    let s := s.setBsk h { b with
      mvms := b.mvms.filter (fun m => m.uid != uid)
      fastGrant := b.fastGrant && !ends, fastUids := left
      inflight := lmod (fun r => r.uid = uid) (fun r => { r with done := true }) b.inflight }
    if ends then
      (bskPans h).foldl (fun s p => s.setPan p { s.pan p with fast := false }) { s with fastQ := s.fastQ.filter (· != h) }
    else s

/-! ## Bank writes (02, R42 to R48; 05, R170; 06, R197, R198) -/

/-- Who a load is for: the step it may abort. -/
abbrev LoadFor := Option StepRec

/-- An uncorrectable word read by a load: class X for its step (07, R243); a reissued WLD has no step, and the event names
none (log entry 33, DEDUCED). -/
def State.loadX (s : State) (w : Nat) : LoadFor → State
  | some r => s.memX w r.sid r.h r.idx
  | none => s.raise 0x0203 1 0x00 0 (memUnitDetail w)

/-- The rows of group scales of a tile (06, R198). -/
def State.tileScales (s : State) (d : WDesc) (tile : Nat) : List (List Nat) :=
  let per := d.cols / d.g
  let g0 := 128 * (tile % d.kb) / d.g
  (List.range (tileRows d tile)).map (fun i =>
    (List.range (min (128 / d.g) (per - g0))).map (fun j =>
      (s.rdB (crockBase + d.win + d.gsc + (128 * (tile / d.kb) + i) * per + g0 + j)).toNat))

/-- The local regions a load of a tile reads. -/
def loadRegions (d : WDesc) (tile : Nat) : List Region :=
  let bt := 2048 * wBits d.wfmt
  let src : Region := { sp := d.space, start := d.src + tile * bt, pitch := 0, width := bt, rows := 1 }
  (if d.space ≤ 1 then [src] else []) ++ [gscRegion d.gsc d.rows d.cols d.g (some tile)] ++
  (if d.wfmt = 2 then [{ sp := 0, start := d.cb, pitch := 0, width := 16, rows := 1 }] else [])

/-- Bytes of a tile from another node: its reads are sent once, and the bytes are there when all have come (log entry 29, DEDUCED). -/
def State.fetchTile (s : State) (p : Nat) (d : WDesc) (tile : Nat) : State × Option (List Byte) :=
  let v := s.pan p
  let bt := 2048 * wBits d.wfmt
  let key := (d.src + tile * bt, tile)
  let mine (u : FUnit) : Bool := u.who = .tile p
  if v.staged = some key then
    if (s.dzf.units.any (fun u => mine u && u.waiting)) || s.dzf.backlog.any mine then (s, none)
    else (s.setPan p { v with stage := [], staged := none }, some (tabBytes v.stage 0 bt))
  else
    let s := s.setPan p { v with stage := [], staged := some key }
    let s := { s with dzf := { s.dzf with
      units := s.dzf.units.map (fun u => if mine u then { u with who := .gone } else u)
      backlog := s.dzf.backlog.filter (fun u => !mine u) } }
    let ps := pieces key.1 bt
    let (tag, s) := s.takeTags ps.length
    (s.sendUnits (ps.zipIdx.map (fun x => readUnit (.tile p) 1 0 x.1.1 x.1.2.1 x.1.2.2.1 x.1.2.2.2 (tag + x.2))), none)

/-- Nanoseconds of a bank write or refresh: 130 write cycles (02, R47, Table 02-4). -/
def writeNs : Nat := 130

/-- Put a bank in place. -/
def Pan.setBank (p : Pan) (toB : Bool) (k : Bank) : Pan :=
  if toB then { p with b := k, wrB := true } else { p with a := k, wrB := false }

/-- Bank A or B of a Pan. -/
def Pan.bank (p : Pan) (isB : Bool) : Bank := if isB then p.b else p.a

/-- Write tile `tile` of d into a bank of Pan p: true when it is written (02, R42, Table 02-4; 06, R198). The command is the
write's first cycle, the bank is valid 130 ns on, and a swap does not wait for them (log entry 130, DESIGN CHOICE). -/
def State.loadTile (s : State) (p : Nat) (toB : Bool) (d : WDesc) (tile : Nat) (who : LoadFor) : State × Bool :=
  let t : Stream := { winBase := d.win }
  let rs := loadRegions d tile
  match rs.findSome? (s.regionBad t) with
  | some w => ((s.scrubRegions t rs).loadX w who, false)
  | none =>
    let s := s.scrubRegions t rs
    let bt := 2048 * wBits d.wfmt
    let src := d.src + tile * bt
    let (s, bytes) : State × Option (List Byte) :=
      if d.space = 3 then
        match s.hostFail src bt, who with
        | some k, some r => (s.hostX k r.sid r.h r.idx, none)
        | some k, none => (s.raise 0x0901 1 0x06 0 (shl k 28), none)
        | none, _ => (s, some (s.hrd src bt))
      else if d.space = 2 then s.fetchTile p d tile
      else (s, some (s.rd (locOf t d.space src) bt))
    match bytes with
    | none => (s, false)
    | some bs =>
      let (k, c) := formBank d tile bs (s.rd (crockBase + d.win + d.cb) 16) (s.tileScales d tile) (s.pan p).calId (s.time + writeNs)
      let s := s.setPan p { (s.pan p).setBank toB k with wrUntil := s.time + writeNs }
      (s.setBsk (panBsk p) ((s.bsk (panBsk p)).addFmt c), true)

/-- What a Pan writes next. -/
inductive NextWrite where
  | item (w : WItem)
  | walk (uid tile : Nat)
  deriving DecidableEq, Repr

/-- The walk's next internal load: the first entry of the compute queue that the selected bank does not serve, when it is a
tile that neither bank holds (05, R170; 02, R45). -/
def State.walkLoad (s : State) (p : Nat) : Option (Nat × Nat) :=
  let v := s.pan p
  let b := s.bsk (panBsk p)
  let held (k : Bank) (u t : Nat) : Bool := match b.mvm? u with | some m => k.holds m.desc t | none => false
  match v.computeQ.find? (fun c => match c with
    | .tile u t _ => !held v.sel u t
    | .wsw _ => true) with
  | some (.tile u t _) => if held v.idle u t then none else some (u, t)
  | _ => none

/-- Every swap that stands before a write of step uid has taken effect (02, R45; 06, R197). -/
def State.swapsDone (s : State) (p uid : Nat) : Bool :=
  let v := s.pan p
  let b := s.bsk (panBsk p)
  v.computeQ.all (fun c => match c with
    | .tile u t _ => decide (uid < u) || (match b.mvm? u with | some m => v.sel.holds m.desc t | none => true)
    | .wsw u => decide (uid < u))

/-- The next write of Pan p (06, R197). -/
def State.nextWrite (s : State) (p : Nat) : Option NextWrite :=
  let explicit (u : Nat) (w : WItem) : Option NextWrite :=
    match s.walkLoad p with
    | some (v, t) => if u < v then (if s.swapsDone p u then some (.item w) else none) else some (.walk v t)
    | none => if s.swapsDone p u then some (.item w) else none
  match (s.pan p).writeQ with
  | .reload b d t :: _ => some (.item (.reload b d t))
  | .wld u d t :: _ => explicit u (.wld u d t)
  | .wref u k :: _ => explicit u (.wref u k)
  | [] => (s.walkLoad p).map (fun x => .walk x.1 x.2)

/-- Take the head of a Pan's write queue off. -/
def State.popWrite (s : State) (p : Nat) : State := s.setPan p { s.pan p with writeQ := (s.pan p).writeQ.drop 1 }

/-- Banks a WREF names: A and B (06, R201). -/
def wrefBanks (v : Pan) (code : Nat) : Bool × Bool :=
  let sel := code = 0 || code = 2
  let idle := code = 1 || code = 2
  (if v.selB then idle else sel, if v.selB then sel else idle)

/-- The WLD that last wrote a bank. -/
def reloadOf (isB : Bool) (k : Bank) : List WItem :=
  match k.desc with
  | some d => [.reload isB d k.tile]
  | none => []

/-- A parity error in the local copy of a bank: the bank is invalid, its WLD comes again, and the event tells it (02, R48).
The spec gives the reissued WLD no place among those that wait: it goes to the front of the write queue (log entry 131,
DESIGN CHOICE). -/
def State.copyError (s : State) (p : Nat) (isB : Bool) : State :=
  let v := s.pan p
  let k := v.bank isB
  (s.setPan p { v.setBank isB { k with valid := false, copyBad := false } with
    wrB := v.wrB, writeQ := reloadOf isB k ++ v.writeQ }).raise 0x0103 1 0x02 p 0

/-- One bank a WREF names: rewritten when it is valid and its copy is sound, and whether it was (06, R201; log entry 59, DEDUCED). -/
def State.wrefBank (s : State) (p : Nat) (isB named : Bool) : State × Bool :=
  let v := s.pan p
  let k := v.bank isB
  if !named || !k.valid then (s, false)
  else if k.copyBad then (s.copyError p isB, false)
  else (s.setPan p { v.setBank isB (k.drive k.wfmt v.calId (s.time + writeNs)) with
    wrUntil := s.time + writeNs, level0 := v.level0 || v.selB = isB
    refreshCnt := if v.selB = isB then sat32 (v.refreshCnt + 1) else v.refreshCnt }, true)

/-- The Pan's next write runs, if one may start (02, R45; 05, R170; 06, R197). -/
def State.writeNext (s : State) (p : Nat) : State :=
  let h := panBsk p
  let v := s.pan p
  match s.nextWrite p with
  | some (.item (.wld u d t)) =>
    let toB := !v.selB
    let (s, ok) := s.loadTile p toB d t ((s.bsk h).rec? u)
    if ok then (s.popWrite p).modRec h u (fun r => { r with done := true, detail := shl (b2n toB) 16 + p }) else s
  | some (.item (.reload b d t)) =>
    let (s, ok) := s.loadTile p b d t none
    if ok || d.space ≠ 2 then s.popWrite p else s
  | some (.item (.wref u k)) =>
    let (na, nb) := wrefBanks v k
    let (s, a) := (s.popWrite p).wrefBank p false na
    let (s, b) := s.wrefBank p true nb
    s.modRec h u (fun r => { r with done := true, detail := shl (b2n a + 2 * b2n b) 16 + p })
  | some (.walk u t) =>
    match (s.bsk h).mvm? u with
    | some m => (s.loadTile p (!v.selB) m.desc t ((s.bsk h).rec? u)).1
    | none => s
  | none => s

/-- A Pan that may take work: not CALIBRATING and not RETIRED (06, R196). -/
def takesWork (v : Pan) : Bool := v.mode != .calibrating && v.mode != .retired

/-- A bank held longer than 20 µs (02, R47). -/
def overdue (now : Nat) (k : Bank) : Bool := k.valid && decide (k.writtenAt + 20000 < now)

/-- TILE_LOAD: the Pan's next bank write (05, R170; 06, R197). -/
def execTileLoad (p : Nat) (s : State) : Out :=
  guard (decide (p < 272)) (if takesWork (s.pan p) && s.clocked then s.writeNext p else s)

/-! ## Swaps (02, R49; 06, R200) -/

/-- A write of the idle bank is still to come, from before a WSW of issue number uid. -/
def writePending (v : Pan) (uid : Nat) : Bool :=
  v.writeQ.any (fun w => match w with
    | .wld u _ _ => decide (u < uid)
    | .wref u _ => decide (u < uid)
    | .reload b _ _ => b != v.selB)

/-- Count the cycles a Pan waits for a bank, at level 0 on its modulators (01, R21; 05, Table 05-19; log entry 37, DESIGN
CHOICE). -/
def State.bankStall (s : State) (p : Nat) : State :=
  let h := panBsk p
  let b := s.bsk h
  ((s.setBsk h { b with stallBank := sat32 (b.stallBank + Config.cycles s.freeCtr) }).fresh).setPan p
    { s.pan p with level0 := true }

/-- A Pan waits for a bank and goes on waiting: unplanned (01, R21; 05, R179). -/
def State.bankWait (s : State) (p : Nat) : State :=
  let s := s.bankStall p
  s.setPan p { s.pan p with waited := true }

/-- The swap at the head of the compute queue, if it may take effect; a wait for its bank is counted (01, R21). -/
def State.swapNext (s : State) (p : Nat) : State :=
  let h := panBsk p
  let v := s.pan p
  match v.computeQ with
  | .wsw u :: rest =>
    if writePending v u || overdue s.time v.idle then s.bankWait p
    else if v.idle.valid then
      (s.setPan p { v with selB := !v.selB, computeQ := rest }).modRec h u
        (fun r => { r with done := true, detail := shl (b2n (!v.selB)) 16 + p })
    else
      (s.setPan p { v with computeQ := rest }).modRec h u
        (fun r => { r with done := true, status := 3, detail := shl (b2n v.selB) 16 + p })
  | .tile u t _ :: _ =>
    match (s.bsk h).mvm? u with
    | some m =>
      if v.sel.holds m.desc t then s
      else if v.idle.holds m.desc t && !overdue s.time v.idle then
        let s := s.bankStall p
        s.setPan p { s.pan p with selB := !v.selB }
      else s.bankWait p
    | none => s
  | [] => s

/-- BANK_SWAP at a group boundary (02, R49). -/
def execBankSwap (p : Nat) (s : State) : Out :=
  guard (decide (p < 272)) (if takesWork (s.pan p) && s.clocked then s.swapNext p else s)

/-! ## Refresh (02, R47, R48) -/

/-- A bank falls due, and is rewritten from its local copy or found bad; a write of the other bank runs to its end first
(R47). -/
def State.refresh (s : State) (p : Nat) (isB bad : Bool) : State :=
  let v := s.pan p
  let k := v.bank isB
  if !k.valid || !s.clocked then s else
  let s := s.at (max (k.writtenAt + 20000) v.wrUntil)
  if bad || k.copyBad then s.copyError p isB
  else
    let s := s.setPan p { v.setBank isB (k.drive k.wfmt v.calId (s.time + writeNs)) with
      wrUntil := s.time + writeNs, level0 := v.level0 || v.selB = isB }
    if v.selB = isB then
      (s.setPan p { s.pan p with refreshCnt := sat32 (v.refreshCnt + 1) }).raise 0x0102 0 0x02 p 0
    else s

/-- BANK_REFRESH: a valid bank is refreshed at 20 µs, or found to have a parity error in its local copy (02, R47, R48). -/
def execBankRefresh (p : Nat) (bankB : Bool) (copy : Finding) (s : State) : Out :=
  guard (decide (p < 272)) (s.refresh p bankB (copy = .bad))

/-! ## The steps WLD, WSW and WREF -/

/-- The Pan a target names, at issue (06, R196). -/
def State.target (s : State) (h ops : Nat) : Nat :=
  let tgt := bits ops 43 34
  if bit ops 44 then tgt else (s.slotPan h tgt).getD 0x3FF

/-- A Pan step on a Pan that is RETIRED or CALIBRATING is not applied; else it is queued by `put`, and starts at once where
nothing stands before it. -/
def State.panStep (s : State) (sid : Nat) (r : StepRec) (p : Nat) (put : Pan → Pan) (go : State → Nat → State) : State :=
  if takesWork (s.pan p) && decide (p < 272) then
    go ((s.launch sid r).setPan p (put (s.pan p))) p
  else s.launch sid { r with done := true, status := 4, detail := p }

/-- The descriptor of a block, with the tensor scale as it stands at issue (05, R80; 06, Table 06-9). -/
def State.wdesc (s : State) (t : Stream) (b : Blk) : WDesc where
  src   := fld b 0 8
  space := fld b 8 1
  wfmt  := fld b 9 1
  sgrp  := fld b 0x0A 1
  rows  := fld b 0x10 4
  cols  := fld b 0x14 4
  gsc   := fld b 0x18 4
  tsc   := fld b 0x1C 4
  cb    := fld b 0x20 4
  st    := BitVec.ofNat 32 (s.rdN (t.win (fld b 0x1C 4)) 4)
  win   := t.winBase

/-- WLD is queued on its Pan, and writes the idle bank (06, R197, R198). -/
def effWld (s : State) (sid : Nat) (h : Hdr) : State :=
  let t := s.str sid
  let b := (s.blkOf t h).2
  let r := recAt s sid h
  let d := s.wdesc t b
  let tile := bits h.ops 17 0 + iterOf t * bits h.ops 33 26
  s.panStep sid r (s.target t.bsk h.ops) (fun v => { v with writeQ := v.writeQ ++ [.wld r.uid d tile] })
    (fun s p => if (s.pan p).writeQ.length = 1 then s.writeNext p else s)

/-- WLD. -/
def execWld (sid : Nat) (s : State) : Out := runStep 0x10 noHold effWld sid s

/-- WSW joins its Pan's compute queue, and swaps at once when the Pan is not computing (06, R200). -/
def effWsw (s : State) (sid : Nat) (h : Hdr) : State :=
  let r := recAt s sid h
  s.panStep sid r (s.target (s.str sid).bsk h.ops) (fun v => { v with computeQ := v.computeQ ++ [.wsw r.uid] })
    (fun s p => if (s.pan p).computeQ.length = 1 then s.swapNext p else s)

/-- WSW. -/
def execWsw (sid : Nat) (s : State) : Out := runStep 0x11 noHold effWsw sid s

/-- WREF joins its Pan's write queue (06, R201). -/
def effWref (s : State) (sid : Nat) (h : Hdr) : State :=
  let r := recAt s sid h
  s.panStep sid r (s.target (s.str sid).bsk h.ops) (fun v => { v with writeQ := v.writeQ ++ [.wref r.uid (bits h.ops 1 0)] })
    (fun s p => if (s.pan p).writeQ.length = 1 then s.writeNext p else s)

/-- WREF. -/
def execWref (sid : Nat) (s : State) : Out := runStep 0x14 noHold effWref sid s

/-! ## The steps MVM and MVMW -/

/-- The tiles of a slot's walk, batch block by batch block, serpentine (05, R169). -/
def walkOf (uid slot tiles slots batches : Nat) : List CItem :=
  (List.range batches).flatMap (fun n =>
    let run := runOf slot tiles slots
    (if n % 2 = 1 then run.reverse else run).map (fun t => .tile uid t n))

/-- What an MVM latches at issue (06, R203). -/
def State.mvmRun (s : State) (t : Stream) (b : Blk) (uid sid : Nat) (wide : Bool) : MvmRun :=
  let m := fld b 0x4F 1
  let k := fld b 0x14 4
  let af := fld b 0x4E 1
  let hnd := fld b 0x4C 2
  let p0 := fld b 0x54 1
  let q := s.pot t.bsk p0
  let sa (i : Nat) : W32 :=
    let e := s.scale t.bsk (hnd + i)
    if wide && bit m 4 then f32div e.scale 0x40800000#32 else e.scale
  { uid := uid, sid := sid, desc := s.wdesc t b, r := fld b 0x10 4, k := k, n := fld b 0x50 4, act := fld b 0x40 4
    apitch := fld b 0x44 4, afmt := af, grp := grpOf m, p := pOf m, p0 := p0, fast := bit m 2, fastWant := bit m 2
    wide := wide, slots := bskSlots (s.bsk t.bsk), rp := q.predRp, cp := q.predCp
    interval := s.time / 4000
    sa := (List.range (rbOf k)).map sa, zp := s.zeroPoints t af k (bit m 3) (fld b 0x48 4)
    outSat := wide && (List.range (rbOf k)).any (fun i => decide ((s.scale t.bsk (hnd + i)).shClip ≠ 0)) }

/-- An MVM issues: its walk joins the compute queues of its Basket's slots (05, R169; 06, R203). -/
def State.mvmIssue (s : State) (sid : Nat) (h : Hdr) (wide : Bool) : State :=
  let t := s.str sid
  let b := (s.blkOf t h).2
  let r := recAt s sid h
  let m := s.mvmRun t b r.uid sid wide
  let pots := mvmPots m.r m.n m.p0 m.rp m.cp
  let kb := rbOf m.k
  let tiles := rbOf m.r * kb
  let s := s.launch sid { r with pots := pots, scales := [(fld b 0x4C 2, kb)], outSat := m.outSat }
  let s := if m.outSat then s.whiskEvents r.h sid r.idx [] [] true else s
  let s := pots.foldl (fun s i =>
    let add := potBands m.r m.k m.n m.p0 m.rp m.cp m.slots m.groups m.p i
    let q := s.pot r.h i
    s.setPot r.h i { q with
      bands := add.foldl (fun bs a => tmod natDflt bs a.1 (· + a.2)) q.bands
      depth := max q.depth (depthAfter q.bands add) }) s
  let bk := s.bsk r.h
  let s := s.setBsk r.h { bk with mvms := bk.mvms ++ [m] }
  (List.range m.slots).foldl (fun s i =>
    match s.slotPan r.h i with
    | some p => s.setPan p { s.pan p with computeQ := (s.pan p).computeQ ++ walkOf r.uid i tiles m.slots (ceilDiv m.n 512) }
    | none => s) s

/-- An MVM waits at the head while an earlier step has still to write its scale entries (03, R92). -/
def mvmHold (s : State) (sid : Nat) (h : Hdr) : Bool :=
  let t := s.str sid
  let b := (s.blkOf t h).2
  s.scalesBusy t.bsk s.nextUid false (fld b 0x4C 2, rbOf (fld b 0x14 4))

/-- MVM. -/
def execMvm (sid : Nat) (s : State) : Out := runStep 0x12 mvmHold (fun s sid h => s.mvmIssue sid h false) sid s

/-- MVMW. -/
def execMvmw (sid : Nat) (s : State) : Out := runStep 0x13 mvmHold (fun s sid h => s.mvmIssue sid h true) sid s

/-! ## Group blocks (02, R49 to R55; 04, R104 to R118) -/

/-- v = c - z of an element, by pass: 0 the whole code, 1 its high nibble, 2 its low nibble (03, R97). -/
def passVal (pass c z : Nat) : Int :=
  if pass = 1 then (c / 16 : Nat) - (z / 16 : Nat) else if pass = 2 then (c % 16 : Nat) - (z % 16 : Nat) else (c : Int) - z

/-- The region of activation codes a group block reads. -/
def MvmRun.actRegion (m : MvmRun) (kb group batch : Nat) : Region :=
  let b := aBits m.afmt
  let k0 := 128 * kb + group * m.grp
  { sp := 0, start := m.act + 512 * batch * m.apitch + k0 * b / 8, pitch := m.apitch
    width := (min m.grp (m.k - k0) * b + 7) / 8, rows := m.vecs batch }

/-- The values of a group block, vector by vector, and the reserved AT codes read (03, R71). -/
def State.blockVals (s : State) (m : MvmRun) (kb group batch pass : Nat) : List (List Int) × Nat :=
  let b := aBits m.afmt
  let k0 := 128 * kb + group * m.grp
  let rg := m.actRegion kb group batch
  let codes := (List.range rg.rows).map (fun j =>
    let n := s.rdN (crockBase + m.desc.win + rg.start + j * rg.pitch) rg.width
    (List.range m.grp).map (fun i => if k0 + i < m.k then some (packed n b i, m.zp.getD (k0 + i) 0) else none))
  let bad (x : Nat × Nat) : Bool := m.afmt = 1 && x.1 = 3
  (codes.map (fun v => v.map (fun e => match e with
      | some x => if bad x then 0 else passVal pass x.1 x.2
      | none => 0)),
    sumNat (codes.map (fun v => (v.filter (fun e => match e with | some x => bad x | none => false)).length)))

/-- Noise settings in force, for `PAN_NOISE` (02, R58, Table 02-27; log entry 2, DESIGN CHOICE). -/
def noiseRegs (p : Pan) (gsize rate k : Nat) : Nat × Nat :=
  let (s10, e10) := sigma10 gsize rate
  let up := Config.sigmaRoundUp k
  (sigma16 s10 (3 * p.loss) + b2n up, e10 - (3 * p.loss + (if up then 0 else 499)) / 500)

/-- Entries of BF20 storage in use in a slot: those of committed leaves less what has been promoted, and those of blocks
that wait for a sampled comparison; a discarded block holds none (04, R115; log entry 99, DEDUCED). -/
def Pan.entries (p : Pan) (slot : Nat) : Nat :=
  sumNat (p.windows.map (fun w =>
    (w.leaves.filter (·.isSome)).length * (w.nvec - (w.promoted.filter (fun e => e.1 = slot)).length) +
    (p.samples.filter (fun x => x.blk.window = w.id && x.blk.pass ≠ 2)).length * w.nvec))

/-- Run a block on Pan p with a bank, its tests on that Pan: a tap loss fails it too (02, R51, R55), and its failures count
there, as does the time it drives (05, R176). -/
def State.runOn (s : State) (p : Nat) (blk : Block) (k : Bank) (parity : Bool) : State × Run :=
  let v := s.pan p
  let h := panBsk p
  let run := runBlock {
    chk := v.chkCfg, loss := v.loss, satBlk := bits (s.bsk h).rdoCfg.toNat 9 0, map := v.map, blind := v.blind, pan := p
    trims := (v.mode = .inService || v.mode = .suspect) && bit s.cal.bskEn.toNat (16 + h) } blk k s.freeCtr parity
  let run := { run with tap := v.tapFail, failCode := if v.tapFail.isSome ∧ run.failCode = 0 then 6 else run.failCode }
  ({ s.setPan p { v with
      vecFail := sat16 (v.vecFail + run.vecFails), blkFail := sat16 (v.blkFail + run.blkFails), tapFail := none
      drove := v.drove + driveOf blk.vals.length blk.fast, level0 := false } with freeCtr := s.freeCtr + runConvs blk }, run)

/-- Change a window of Pan p; one that is whole and closed now takes its turn to promote (01, R17). -/
def State.modWin (s : State) (p w : Nat) (f : Window → Window) : State :=
  s.setPan p (Pan.stamp { s.pan p with windows := lmod (fun x => x.id = w) f (s.pan p).windows })

/-- Window w of Pan p. -/
def State.win? (s : State) (p w : Nat) : Option Window := (s.pan p).windows.find? (fun x => x.id = w)

/-- The low-pass buffer of a Pan holds a low pass, committed or waiting for its sampled comparison (04, R483). -/
def Pan.bufBusy (p : Pan) : Bool := p.lowBuf.isSome || p.samples.any (fun x => x.blk.pass = 2)

/-- What a committed run adds to the blind-trim sums of the Pan that ran it (09, R298). -/
def State.addSums (s : State) (run : Run) : State :=
  if run.sums.isEmpty then s else
  let v := s.pan run.pan
  s.setPan run.pan { v with sums := run.sums.foldl (fun t e => tmod sumDflt t e.1 (fun x => x.join e.2)) v.sums }

/-- A run failed by saturation alone: no other test, the tap's neither (10, Table 10-3). -/
def satAlone (r : Run) : Bool := r.failCode = 5 && r.vecFails = 0 && r.blkFails = 0 && r.tap.isNone

/-- A block commits with a run's partials: its saturated codes are counted, and its leaf is formed, a low pass joining its
high pass once both stand (04, R106, R113, R483; log entry 95, DEDUCED). -/
def State.commit (s : State) (blk : Block) (run : Run) : State :=
  let hb := panBsk blk.home
  let b := s.bsk hb
  let s := (s.setBsk hb { b with rdoSatCnt := sat32 (b.rdoSatCnt + run.sats) }).addSums run
  let s := if run.sats = 0 then s else
    match b.rec? blk.step with
    | some r =>
      let s := s.modWin blk.home blk.window (fun w => { w with convSat := true })
      if r.convSat then s
      else (s.modRec hb r.uid (fun r => { r with convSat := true })).raiseS 0x0201 0 0x01 hb r.sid hb r.idx 0
    | none => s
  let put (s : State) (f : Option Leaf) : State :=
    s.modWin blk.home blk.window (fun w => { w with leaves := w.leaves.set blk.leaf f })
  match s.win? blk.home blk.window with
  | none => s
  | some w =>
    if blk.pass = 2 then
      match (w.leaves.getD blk.leaf none) with
      | some l => put s (some (leafAddLow w.nvec l run.q))
      | none => s.setPan blk.home { s.pan blk.home with lowBuf := some (blk, run) }
    else
      let l := leafOf w.nvec run.q (blk.pass = 0)
      match (s.pan blk.home).lowBuf with
      | some (lb, lr) =>
        if blk.pass = 1 ∧ lb.window = blk.window ∧ lb.leaf = blk.leaf then
          put (s.setPan blk.home { s.pan blk.home with lowBuf := none }) (some (leafAddLow w.nvec l lr.q))
        else put s (some l)
      | none => put s (some l)

/-- One step of the sampling LFSR (10, R323). -/
def lfsrNext (x : W32) : W32 := if x.toNat % 2 = 1 then (x >>> 1) ^^^ 0x80200003#32 else x >>> 1

/-- One block in N is sampled (10, Table 10-7, Table 10-20). -/
def smpN (cfg : W32) (cls : Nat) : Nat :=
  let r := bits cfg.toNat 3 0
  if r ≠ 0 then 2 ^ (r + 8) else if cls = 0 then 65536 else if cls = 3 then 4096 else 16384

/-- Whether the block about to run is drawn for sampled replay, and the spare that takes it (10, R319, R323; log entry 91, DEDUCED). -/
def State.draw (s : State) (h b : Nat) : State × Option Nat :=
  let bk := s.bsk h
  let x := lfsrNext bk.lfsr
  let s := s.setBsk h { bk with lfsr := x }
  if x.toNat % smpN s.feu.smpCfg bk.cls ≠ 0 then (s, none) else
  match s.takeSpare h with
  | some p =>
    if (s.pan p).allowance + b ≤ 512 then
      (s.setPan p { s.pan p with allowance := (s.pan p).allowance + b }, some p)
    else ({ s with feu := { s.feu with smpSkip := sat32 (s.feu.smpSkip + 1) } }, none)
  | none => ({ s with feu := { s.feu with smpSkip := sat32 (s.feu.smpSkip + 1) } }, none)

/-- The check row C1 is tested on a Pan's next block (02, R52). -/
def c1Tested (v : Pan) (cls : Nat) : Bool :=
  let m := bits v.chkCfg.toNat 17 16
  let every := m = 1 ∨ (m ≠ 2 ∧ cls = 3)
  every || v.blockCnt % 16 = v.blockCnt / 16 % 16

/-- Fast mode at the first group boundary of a step that asks for it: at most four Baskets hold a grant (02, Table 02-12).
Steps of one Basket in flight together share its grant, which ends with the last of them (log entry 132, DESIGN CHOICE). -/
def State.grantFast (s : State) (h : Nat) (m : MvmRun) : State × Bool :=
  let b := s.bsk h
  if !m.fastWant then (s, m.fast && b.fastGrant && !b.noFast) else
  let yes := !b.noFast && (b.fastGrant || decide (s.fastQ.length < 4))
  let s := s.setBsk h { b with
    fastGrant := b.fastGrant || yes, fastUids := if yes then b.fastUids ++ [m.uid] else b.fastUids
    mvms := lmod (fun x => x.uid = m.uid) (fun x => { x with fastWant := false, fast := yes }) b.mvms }
  (if yes && !b.fastGrant then { s with fastQ := s.fastQ ++ [h] } else s, yes)

/-- No later tile in walk order joins the window of (step, batch, row block) (05, R171). -/
def windowEnds (rest : List CItem) (uid batch rb kb : Nat) : Bool :=
  match rest with
  | .tile u t n :: _ => !(u = uid && n = batch && t / kb = rb)
  | _ => true

/-- The window the Pan's next leaf joins: an open one of the same step, batch block and row block, or a new one. -/
def Pan.openWin (p : Pan) (uid sid rb batch nvec : Nat) : Pan × Nat × Nat :=
  match p.windows.find? (fun w => w.step = uid && w.rb = rb && w.batch = batch && !w.closed) with
  | some w =>
    ({ p with windows := lmod (fun x => x.id = w.id) (fun x => { x with leaves := x.leaves ++ [none] }) p.windows },
      w.id, w.leaves.length)
  | none =>
    ({ p with nextWin := p.nextWin + 1
              windows := p.windows ++ [{ id := p.nextWin, step := uid, sid := sid, rb := rb, batch := batch, nvec := nvec
                                         leaves := [none], closed := false, ready := none, promoted := [], convSat := false }] },
      p.nextWin, 0)

/-- A Pan that may not go on waits at level 0: unplanned, or held by pacing (01, R17; 05, R177, R179). -/
def State.holdPan (s : State) (p : Nat) (byPlan : Bool) : State :=
  let v := s.pan p
  s.setPan p { v with level0 := true, waited := v.waited || !byPlan, paced := v.paced || byPlan }

/-- The plan lets the Pan drive d ps more in this interval: its level is not passed, and an interval in which the level
rises takes only work that had issued before that level was sent (05, R177, R178; log entry 129, DEDUCED). -/
def mayDrive (off : Bool) (now : Nat) (v : Pan) (m : MvmRun) (d : Nat) : Bool :=
  off || (decide (ceilDiv (16 * (v.drove + d)) 4000000 ≤ v.lvlNow) &&
    (decide (v.lvlNow ≤ v.lvlPrev) || decide (m.interval + 3 ≤ now / 4000)))

/-- The block at the head of Pan p's walk, as it latches what it runs on, and whether it is its window's last (02, R49,
R53; 03, R97; 05, R169, R171). -/
def Pan.headBlock (v : Pan) (p : Nat) (b : Basket) (m : MvmRun) (tile batch : Nat) (rest : List CItem) (fast : Bool)
    (vals : List (List Int)) : Pan × Block × Bool :=
  let kbs := m.desc.kb
  let kb := tile % kbs
  let rb := tile / kbs
  let pass := if m.wide then 1 + v.progress % 2 else 0
  let group := if m.wide then v.progress / 2 else v.progress
  let (w, home, win, leaf) :=
    if pass = 2 then
      match v.lastHigh with
      | some (hm, w, l) => (v, hm, w, l)
      | none => (v, p, 0, 0)
    else
      let (w, i, l) := v.openWin m.uid m.sid rb batch (m.vecs batch)
      (w, p, i, l)
  let rate := rateOf b.rate m.grp fast (v.halved b.rate (bit b.seqCfg.toNat 16))
  let blk : Block := {
    step := m.uid, sid := m.sid, tile := tile, kb := kb, rb := rb, group := group, gsize := m.grp, batch := batch
    pass := pass, ga := if m.wide then 1 else driveGain m.afmt, fast := fast, rate := rate, vals := vals
    sa := m.sa.getD kb 0, leaf := leaf, window := win, c1Test := c1Tested v b.cls, home := home, satOnly := true }
  (w, blk, decide (leaf + 1 = m.p) || (group + 1 = m.groups && windowEnds rest m.uid batch rb kbs))

/-- The group block at the head of Pan p's walk ends: it runs, is tested, and commits or goes to its ladder
(02, R49 to R55; 10, R313, R323). A full store, a low-pass buffer in use and the activity plan make it wait (04, R115, R483;
05, R177); a failed low pass that has been discarded holds no buffer. Reserved AT codes count at the block's first drive,
not at its replays, which drive the ring's copy (03, R71; log entry 133, DESIGN CHOICE). -/
def State.blockEnd (s : State) (p : Nat) (m : MvmRun) (tile batch : Nat) (rest : List CItem) (parity : Bool) : State :=
  let h := panBsk p
  let v := s.pan p
  let b := s.bsk h
  let nvec := m.vecs batch
  let pass := if m.wide then 1 + v.progress % 2 else 0
  let group := if m.wide then v.progress / 2 else v.progress
  let rg := m.actRegion (tile % m.desc.kb) group batch
  let t : Stream := { winBase := m.desc.win }
  let home := match v.lastHigh with
    | some (hm, _, _) => hm
    | none => p
  match b.rec? m.uid, s.regionBad t rg with
  | some r, some w => (s.scrubRegions t [rg]).memX w r.sid r.h r.idx
  | none, _ => s
  | some _, none =>
    if pass = 2 ∧ (s.pan home).bufBusy then s.holdPan p false
    else if pass ≠ 2 ∧ 4096 < maxNat ((List.range 128).map v.entries) + nvec then
      ((s.setBsk h { b with promoStall := sat32 (b.promoStall + Config.cycles s.freeCtr) }).fresh).holdPan p false
    else if !mayDrive (bit b.seqCfg.toNat 16) s.time v m (driveOf nvec (m.fast && b.rate = 3)) then s.holdPan p true
    else
      let s := s.scrubRegions t [rg]
      let (s, fast) := s.grantFast h m
      let fast := fast && b.rate = 3
      let (vals, rsv) := s.blockVals m (tile % m.desc.kb) group batch pass
      let s := s.setBsk h { s.bsk h with atRsv := sat16 ((s.bsk h).atRsv + rsv) }
      let (v, blk, lastOfWin) := v.headBlock p b m tile batch rest fast vals
      let last := v.progress + 1 = m.blocks
      let (sg, en) := noiseRegs v m.grp blk.rate s.freeCtr
      let s := s.setPan p { v with
        fast := fast, group := match m.grp with | 128 => 0 | 64 => 1 | _ => 2
        rate := blk.rate, sigma := sg, enob := en
        blockCnt := v.blockCnt + 1, progress := if last then 0 else v.progress + 1
        computeQ := if last then rest else v.computeQ
        lastHigh := if pass = 1 then some (blk.home, blk.window, blk.leaf) else v.lastHigh
        ring := takeLast 8 (v.ring ++ [blk]) }
      let s := if lastOfWin then s.modWin blk.home blk.window (fun w => { w with closed := true }) else s
      let (s, spare) := s.draw h nvec
      let (s, run) := s.runOn p blk (s.pan p).sel parity
      let s := s.setPan p (s.pan p).settleIdle
      if run.failCode = 0 then
        match spare with
        | some q => s.setPan p { (s.pan p).countSuspect with samples := (s.pan p).samples ++
            [{ blk := blk, orig := run, spare := none, sparePan := q, failed := 0 }] }
        | none =>
          let s := s.commit blk run
          s.setPan p (s.pan p).countSuspect
      else
        s.setPan p { s.pan p with ladders := (s.pan p).ladders ++
          [{ blk := blk, rung := if (s.pan p).mode = .suspect then 2 else 1, first := run.failCode
             band := if run.failCode = 6 then run.tap.getD 0 else 0, satOnly := satAlone run, spareRun := none
             sparePan := 0x3FF, startAt := s.time, quiet := false }] }

/-- GROUP_BLOCK_END: the next group block of Pan p's walk, when its tile is on the selected bank and no refresh of it is
overdue (05, R169, R170; 02, R47, R49). -/
def State.groupBlock (s : State) (p : Nat) (parity : Bool) : State :=
  let v := s.pan p
  match v.computeQ with
  | .tile u t n :: rest =>
    match (s.bsk (panBsk p)).mvm? u with
    | some m =>
      let st := (s.bsk (panBsk p)).st
      if (v.mode = .inService ∨ v.mode = .suspect) ∧ (st = .ready ∨ st = .run ∨ st = .draining) ∧ s.clocked ∧ v.sel.holds m.desc t ∧ ¬ overdue s.time v.sel then
        (s.blockEnd p m t n rest parity).settleMvm (panBsk p) u
      else s
    | none => s
  | _ => s

/-- GROUP_BLOCK_END. -/
def execGroupBlockEnd (p : Nat) (parity : Bool) (s : State) : Out :=
  guard (decide (p < 272)) (s.groupBlock p parity)

/-! ## Promotion (04, R116 to R120; 05, R172) -/

/-- The pot and element an output element lands in (05, R172). -/
def MvmRun.place (m : MvmRun) (row col : Nat) : Nat × Nat :=
  (m.p0 + row / max 1 m.rp * ceilDiv m.n (max 1 m.cp) + col / max 1 m.cp, row % max 1 m.rp * m.cp + col % max 1 m.cp)

/-- A parity error in a committed entry: the window's partials are discarded, and its blocks run again from the ring while
it holds them all (04, R116). -/
def State.windowParity (s : State) (p : Nat) (w : Window) (m : MvmRun) (r : StepRec) (slot : Nat) : State :=
  let v := s.pan p
  let blks := v.ring.filter (fun b => b.window = w.id && b.home = p && b.step = w.step)
  let det := shl 1 28 + slot
  if blks.length = w.leaves.length * (if m.wide then 2 else 1) then
    let s := s.raiseS 0x0203 1 0x02 p r.sid r.h r.idx det
    let s := s.modWin p w.id (fun x => { x with leaves := x.leaves.map (fun _ => none), ready := none })
    s.setPan p { s.pan p with ladders := (s.pan p).ladders ++ blks.map (fun b =>
      { blk := b, rung := 1, first := 0, band := 0, satOnly := false, spareRun := none
        sparePan := 0x3FF, startAt := s.time, quiet := true }) }
  else s.raiseX 0x0203 0x02 p r.sid r.h r.idx det

/-- One promotion lands in its Pot, the element it reads checked (04, R118, R119, R126). -/
def State.promote (s : State) (p : Nat) (w : Window) (m : MvmRun) (r : StepRec) (slot col : Nat) : State :=
  let h := panBsk p
  let (pot, el) := m.place (128 * w.rb + slot) (512 * w.batch + col)
  match s.potEccIn h pot (fun i => i = el) with
  | none => s.potEccX h pot r
  | some s =>
    let q := s.pot h pot
    let t := treeSum (w.leaves.map (fun l => match l with | some l => l.elem slot col | none => 0))
    let n := cp64Promote (tget (fun _ => (0, 0)) q.elems el) t
    let bad := !f32fin n.1
    let s := s.setPot h pot { q with
      elems := tset (fun _ => (0, 0)) q.elems el n, ovf := q.ovf || bad
      convSat := q.convSat || w.convSat, outSat := q.outSat || m.outSat }
    let s := if bad then s.potOvf h w.step else s
    let done := (slot, col) :: w.promoted
    let s := if done.length = m.rows w.rb * w.nvec then
        s.setPan p { s.pan p with windows := (s.pan p).windows.filter (fun x => x.id != w.id) }
      else s.modWin p w.id (fun x => { x with promoted := done })
    s.settleMvm h w.step

/-- Element (slot, column) of a window may land: the window is ready, holds it still, and no operation issued before its step
waits on the Pot (04, R124). -/
def State.mayLand (s : State) (h slot col : Nat) (w : Window) : Bool :=
  match (s.bsk h).mvm? w.step, w.ready with
  | some m, some _ =>
    decide (slot < m.rows w.rb) && decide (col < w.nvec) && !w.promoted.contains (slot, col) &&
      !(s.pot h (m.place (128 * w.rb + slot) (512 * w.batch + col)).1).waits.any (fun x => decide (x.uid < w.step))
  | _, _ => false

/-- PROMOTION: element (slot, col) of the window that became ready first among those it may land from (01, R17; 04, R117,
R119). -/
def execPromotion (p slot col : Nat) (parity : Bool) (s : State) : Out :=
  guard (decide (p < 272)) (
    let h := panBsk p
    match argMin (fun w => w.ready.getD 0) ((s.pan p).windows.filter (s.mayLand h slot col)) with
    | some w =>
      match (s.bsk h).mvm? w.step, (s.bsk h).rec? w.step with
      | some m, some r => if parity then s.windowParity p w m r slot else s.promote p w m r slot col
      | _, _ => s
    | none => s)

/-- `PAN_CTL.CNT_CLR` clears the Pan's counters (02, Table 02-18). -/
def State.panClear (s : State) (p : Nat) : State := s.setPan p { s.pan p with vecFail := 0, blkFail := 0, refreshCnt := 0 }

/-- PAN_CNT_CLR. -/
def execPanCntClr (p : Nat) (s : State) : Out := guard (decide (p < 272)) (s.panClear p)

end Sys2Proof.Machine
end

