-- ==== Sys2Proof/Machine/Replay.lean ====
section
/-! DEFINITION. The replay ladder and sampled replay (10, R313 to R325; 04, R116, R483). -/

namespace Sys2Proof.Machine

/-- CHK_MISMATCH detail (10, Table 10-12); `spare` is 0x3FF where no Pan served. -/
def chkDetail (outcome first band spare p : Nat) : Nat :=
  shl outcome 28 + shl first 24 + shl band 22 + shl spare 10 + p

/-- CHK_MISMATCH of a block, class below X. -/
def State.chk (s : State) (blk : Block) (cls p detail : Nat) : State :=
  match (s.bsk (panBsk p)).rec? blk.step with
  | some r => s.raiseS 0x0101 cls 0x02 p r.sid r.h r.idx detail
  | none => s

/-- CHK_MISMATCH as class X: the streams with work in the block's Pot are aborted; a Pot has one owner (10, R313, R316). -/
def State.chkX (s : State) (blk : Block) (p detail : Nat) : State :=
  match (s.bsk (panBsk p)).rec? blk.step with
  | some r => s.raiseX 0x0101 0x02 p r.sid r.h r.idx detail
  | none => s

/-- Take a ladder off its Pan. -/
def State.dropLadder (s : State) (p : Nat) (l : Ladder) : State :=
  s.setPan p { s.pan p with ladders := (s.pan p).ladders.erase l }

/-- A group block of the step has been replayed (06, Table 06-3; log entry 97, DEDUCED). -/
def State.replayed (s : State) (p : Nat) (blk : Block) : State :=
  s.modRec (panBsk p) blk.step (fun r => { r with replays := r.replays + 1 })

/-- A ladder ended on its own Pan. -/
def State.cntSame (s : State) : State := { s with feu := { s.feu with replSame := sat32 (s.feu.replSame + 1) } }
/-- A ladder reached a spare, or R320's replay. -/
def State.cntSpare (s : State) : State := { s with feu := { s.feu with replSpare := sat32 (s.feu.replSpare + 1) } }

/-- The bank a replay on the block's own Pan uses: one that holds the tile, else the idle bank once the tile is loaded
there, what it held before being loaded again afterwards (10, R317). -/
def State.replayBank (s : State) (p : Nat) (m : MvmRun) (blk : Block) : State × Option Bank :=
  let v := s.pan p
  if v.sel.holds m.desc blk.tile then (s, some v.sel)
  else if v.idle.holds m.desc blk.tile then (s, some v.idle)
  else
    let old := if v.idle.valid then reloadOf (!v.selB) v.idle else []
    let (s, ok) := s.loadTile p (!v.selB) m.desc blk.tile ((s.bsk (panBsk p)).rec? blk.step)
    if ok then
      (s.setPan p { s.pan p with writeQ := (s.pan p).writeQ ++ old }, some (s.pan p).idle)
    else (s, none)

/-- A spare loads the tile from the weight source into its idle bank (10, R317). -/
def State.spareBank (s : State) (q : Nat) (m : MvmRun) (blk : Block) : State × Option Bank :=
  let (s, ok) := s.loadTile q (!(s.pan q).selB) m.desc blk.tile ((s.bsk (panBsk q)).rec? blk.step)
  (s, if ok then some (s.pan q).idle else none)

/-- The Pan's first ladder at a rung that may run: a low pass waits while the buffer it goes through holds another (04, R483). -/
def State.ladderAt (s : State) (p rung : Nat) : Option Ladder :=
  (s.pan p).ladders.find? (fun l => l.rung = rung && !(l.blk.pass = 2 && (s.pan l.blk.home).bufBusy))

/-- REPLAY_SAME_PAN: rung 1 of the Pan's first ladder that stands there (10, R313, R316). A replay for a parity error in a
committed entry is no ladder until it fails: it raises no CHK_MISMATCH and counts nowhere (04, R116; log entry 60,
DEDUCED). Its partials find room in storage however full (10, R318; log entry 125, DEDUCED). -/
def State.replaySame (s : State) (p : Nat) (parity : RunParity) : State :=
  let h := panBsk p
  match s.ladderAt p 1 with
  | none => s
  | some l =>
    match (s.bsk h).mvm? l.blk.step with
    | none => s
    | some m =>
      if parity = .ring then s.cntSame.chkX l.blk p (chkDetail 4 9 0 0x3FF p) else
      match s.replayBank p m l.blk with
      | (s, none) => s
      | (s, some k) =>
        let (s, run) := s.runOn p l.blk k (parity = .path)
        let s := s.replayed p l.blk
        if run.failCode = 0 then
          let s := (s.dropLadder p l).commit l.blk run
          let s := if l.quiet then s else s.cntSame.chk l.blk 1 p (chkDetail 1 l.first l.band 0x3FF p)
          s.settleMvm h l.blk.step
        else
          s.setPan p { s.pan p with ladders := lmod (fun x => x = l) (fun x => { x with
            rung := 2, first := if x.first = 0 then run.failCode else x.first, quiet := false
            band := if x.first = 0 ∧ run.failCode = 6 then run.tap.getD 0 else x.band
            satOnly := x.satOnly && satAlone run }) (s.pan p).ladders }

/-- REPLAY_SAME_PAN. -/
def execReplaySamePan (p : Nat) (parity : RunParity) (s : State) : Out := guard (decide (p < 272)) (s.replaySame p parity)

/-- The first ladder of a Basket that waits for a spare: by its start, then Pan (10, R315). -/
def State.spareTurn (s : State) (h : Nat) : Option Nat :=
  argMin (fun p => match s.ladderAt p 2 with
      | some l => l.startAt
      | none => 0)
    ((bskPans h).filter (fun p => (s.ladderAt p 2).isSome))

/-- Rung 3: saturated data commits as it stands; else the block stays discarded and the event is class X (10, Table
10-3). -/
def State.rung3 (s : State) (p : Nat) (l : Ladder) (run : Run) (spare : Nat) : State :=
  if l.satOnly && satAlone run then
    ((((s.dropLadder p l).commit l.blk run).chk l.blk 0 p (chkDetail 3 l.first l.band spare p))).settleMvm (panBsk p) l.blk.step
  else s.chkX l.blk p (chkDetail 4 l.first l.band spare p)

/-- A SUSPECT Pan, or one that has left service meanwhile, whose block passed on spare q (10, R313, R314). A Pan that is
CALIBRATING or RETIRED by then keeps its state, which Table 02-14 lets no ladder change (log entry 34, DEDUCED). -/
def State.sparePassed (s : State) (p q : Nat) (l : Ladder) : State :=
  let v := s.pan p
  if l.quiet then s
  else if v.mode = .suspect then (s.chk l.blk 3 p (chkDetail 0xB l.first l.band q p)).retirePan p (some q)
  else
    let s := s.chk l.blk 2 p (chkDetail 2 l.first l.band q p)
    if v.mode = .inService then s.toSuspect p false else s

/-- REPLAY_SPARE: rung 2, or R314's replay, on a spare, when it is this Pan's turn (10, R313 to R319). -/
def State.replaySpare (s : State) (p : Nat) (parity : RunParity) : State :=
  let h := panBsk p
  match s.ladderAt p 2 with
  | none => s
  | some l =>
    if s.spareTurn h ≠ some p then s else
    match (s.bsk h).mvm? l.blk.step with
    | none => s
    | some m =>
      match s.ladderSpare h with
      | (none, s) => s
      | (some q, s) =>
        if parity = .ring then s.cntSpare.chkX l.blk p (chkDetail 4 9 0 0x3FF p) else
        if 512 < (s.pan q).allowance + l.blk.vals.length then s else
        match s.spareBank q m l.blk with
        | (s, none) => s
        | (s, some k) =>
          let (s, run) := s.runOn q l.blk k (parity = .path)
          let s := (s.setPan q { s.pan q with allowance := (s.pan q).allowance + l.blk.vals.length }).replayed p l.blk
          let s := s.cntSpare
          if run.failCode = 0 then
            (((s.dropLadder p l).commit l.blk run).sparePassed p q l).settleMvm h l.blk.step
          else s.rung3 p l run q

/-- REPLAY_SPARE. -/
def execReplaySpare (p : Nat) (parity : RunParity) (s : State) : Out := guard (decide (p < 272)) (s.replaySpare p parity)

/-- NO_SPARE_REPLAY: the Basket has neither a SPARE nor a sweep to abandon. The block runs once more on its own Pan at half
the rate; a block of a SUSPECT Pan is discarded and the Basket retires (10, R320). -/
def State.noSpare (s : State) (p : Nat) (parity : RunParity) : State :=
  let h := panBsk p
  match s.ladderAt p 2 with
  | none => s
  | some l =>
    if (s.ladderSpare h).1.isSome then s else
    match (s.bsk h).mvm? l.blk.step with
    | none => s
    | some m =>
      if parity = .ring then s.cntSpare.chkX l.blk p (chkDetail 4 9 0 0x3FF p)
      else if (s.pan p).mode = .suspect then
        ((s.chkX l.blk p (chkDetail 4 l.first l.band 0x3FF p)).cntSpare).retirePan p none
      else
        match s.replayBank p m l.blk with
        | (s, none) => s
        | (s, some k) =>
          let blk := { l.blk with rate := max 1 (l.blk.rate - 1), fast := false }
          let (s, run) := s.runOn p blk k (parity = .path)
          let s := (s.replayed p l.blk).cntSpare
          if run.failCode = 0 then
            let s := (s.dropLadder p l).commit l.blk run
            let s := if l.quiet then s else s.chk l.blk 2 p (chkDetail 5 l.first l.band 0x3FF p)
            (if (s.pan p).mode = .inService then s.toSuspect p true else s).settleMvm h l.blk.step
          else s.rung3 p l run 0x3FF

/-- NO_SPARE_REPLAY. -/
def execNoSpareReplay (p : Nat) (parity : RunParity) (s : State) : Out := guard (decide (p < 272)) (s.noSpare p parity)

/-! ## Sampled replay (10, R323 to R325) -/

/-- Take a sample off its Pan. -/
def State.dropSample (s : State) (p : Nat) (x : Sample) : State :=
  s.setPan p { s.pan p with samples := (s.pan p).samples.erase x }

/-- SAMPLED_REPLAY_COMPARE: the spare runs the first sampled block of Pan p, and the runs are compared; a comparison that
passes commits the block (10, R323, R324). A spare that has gone meanwhile leaves the block to its own tests (log entry
34, DEDUCED). A spare's run that fails a test of its own is a comparison that fails by that test, and codes that the ring
has lost end it as R316 says (log entry 109, DESIGN CHOICE). -/
def State.smpCompare (s : State) (p : Nat) (parity : RunParity) : State :=
  let h := panBsk p
  match (s.pan p).samples.find? (fun x => x.spare.isNone) with
  | none => s
  | some x =>
    match (s.bsk h).mvm? x.blk.step with
    | none => s
    | some m =>
      if (s.pan x.sparePan).mode ≠ .spare then
        ((s.dropSample p x).commit x.blk x.orig).settleMvm h x.blk.step
      else if parity = .ring then s.chkX x.blk p (chkDetail 4 9 0 0x3FF p)
      else
        match s.spareBank x.sparePan m x.blk with
        | (s, none) => s
        | (s, some k) =>
          let (s, run) := s.runOn x.sparePan x.blk k (parity = .path)
          let v := s.pan p
          let c := if run.failCode ≠ 0 then run.failCode
            else compareRuns v.chkCfg v.loss x.blk.gsize x.blk.rate x.orig run
          let s := { s with feu := { s.feu with smpRun := sat32 (s.feu.smpRun + 1) } }
          if c = 0 then ((s.dropSample p x).commit x.blk x.orig).settleMvm h x.blk.step
          else
            let s := { s with feu := { s.feu with smpFail := sat32 (s.feu.smpFail + 1) } }
            let upd (y : Sample) : Sample := { y with spare := some run, failed := c }
            s.setPan p { s.pan p with samples := lmod (fun y => y = x) upd (s.pan p).samples }

/-- SAMPLED_REPLAY_COMPARE. -/
def execSampledReplayCompare (r : SampledRun) (s : State) : Out :=
  guard (decide (r.pan < 272)) (s.smpCompare r.pan r.parity)

/-- An early calibration request for a Pan (09, R291). -/
def State.earlyCal (s : State) (p : Nat) : State := s.setPan p { s.pan p with early := true }

/-- Row 4 of Table 10-4 where the spare's run passed its own tests: that run commits, and the original Pan becomes SUSPECT
or is retired (10, R325); a Pan that has left service keeps its state. -/
def State.smpSpare (s : State) (p : Nat) (x : Sample) (sp : Run) (det : Nat) : State :=
  let s := s.commit x.blk sp
  let spare := if (s.pan x.sparePan).mode = .spare then some x.sparePan else s.takeSpare (panBsk p)
  match (s.pan p).mode with
  | .suspect => (s.chk x.blk 3 p det).retirePan p spare
  | .inService => (s.chk x.blk 2 p det).toSuspect p false
  | _ => s.chk x.blk 2 p det

/-- SAMPLED_REPLAY_RESOLVE: the block runs again on its own Pan, and Table 10-4 gives the run that commits (10, R325).
Where a SUSPECT Pan is retired, the spare that ran the block takes its slot (10, R314). A run that fails a test of its own
agrees with no other; where neither the replay nor the spare's run may commit, the block stays discarded (log entry 109,
DESIGN CHOICE). -/
def State.smpResolve (s : State) (p : Nat) (parity : RunParity) : State :=
  let h := panBsk p
  match (s.pan p).samples.find? (fun x => x.spare.isSome) with
  | none => s
  | some x =>
    match (s.bsk h).mvm? x.blk.step, x.spare with
    | some m, some sp =>
      let det (o : Nat) : Nat := chkDetail o x.failed (if x.failed = 6 then sp.tap.getD 0 else 0) x.sparePan p
      if parity = .ring then s.chkX x.blk p (chkDetail 4 9 0 0x3FF p) else
      match (if takesWork (s.pan p) then s.replayBank p m x.blk else (s, some {})) with
      | (s, none) => s
      | (s, some k) =>
        -- the Pan may have left service meanwhile (log entry 34, DEDUCED)
        let gone := !takesWork (s.pan p)
        let (s, run) := if gone then (s, x.orig) else s.runOn p x.blk k (parity = .path)
        let s : State := (s.dropSample p x).replayed p x.blk
        let v : Pan := s.pan p
        let same (a b : Run) : Bool := !gone && a.failCode = 0 && b.failCode = 0 &&
          compareRuns v.chkCfg v.loss x.blk.gsize x.blk.rate a b = 0
        let s : State := match same run sp, same run x.orig with
          | true, false => (s.commit x.blk run).chk x.blk 1 p (det 6)
          | false, true => ((s.commit x.blk x.orig).chk x.blk 1 p (det 7)).earlyCal x.sparePan
          | true, true => (s.commit x.blk x.orig).chk x.blk 0 p (det 8)
          | false, false => if sp.failCode = 0 then s.smpSpare p x sp (det 9) else s.chkX x.blk p (det 4)
        s.settleMvm h x.blk.step
    | _, _ => s

/-- SAMPLED_REPLAY_RESOLVE. -/
def execSampledReplayResolve (r : SampledRun) (s : State) : Out :=
  guard (decide (r.pan < 272)) (s.smpResolve r.pan r.parity)

end Sys2Proof.Machine
end

