-- ==== Sys2Proof/Machine/Vector.lean ====
section
/-! DEFINITION. The Mill, the Whisk's own steps, and the vector and attention engines: ROT, QNT, SCUP, STAT, VOP and ATT
(03, R82 to R96; 06, R211 to R216). -/

namespace Sys2Proof.Machine

/-- Run an engine's work on its local inputs: an uncorrectable word among them is class X (07, R243; log entry 90, DEDUCED). -/
def State.withInputs (s : State) (t : Stream) (r : StepRec) (ins : List Region) (work : State → State) : State :=
  let s' := s.scrubRegions t ins
  match ins.findSome? (s.regionBad t) with
  | some w => s'.memX w r.sid r.h r.idx
  | none => work s'

/-- A step's own work is done. -/
def State.stepDone (s : State) (r : StepRec) (detail : Nat) : State :=
  s.modRec r.h r.uid (fun r => { r with done := true, detail := detail })

/-- Row j's local offset in a strided tensor of the window. -/
def rowAt (t : Stream) (a pitch j : Nat) : Nat := t.win (a + j * pitch)

/-! ## ROT (03, R83 to R85) -/

/-- The sign of channel k under a seed: true where it is -1 (03, R84). -/
def rotSign (seed : W32) (k : Nat) : Bool :=
  let x := seed ^^^ BitVec.ofNat 32 (k * 0x9E3779B9)
  let x := x ^^^ (x >>> 16)
  let x := x * 0x85EBCA6B#32
  let x := x ^^^ (x >>> 13)
  x.msb

/-- Butterfly stage b over a list (03, R85). -/
def butterfly (b : Nat) (xs : List W32) : List W32 :=
  xs.zipIdx.map (fun e =>
    if bit e.2 b then f32sub (xs.getD (e.2 - 2 ^ b) 0) e.1 else f32add e.1 (xs.getD (e.2 + 2 ^ b) 0))

/-- c_n of n = 32 × 2^k (03, Table 03-3). -/
def rotNorm (k : Nat) : W32 :=
  match k with
  | 0 => 0x3E3504F3#32
  | 1 => 0x3E000000#32
  | 2 => 0x3DB504F3#32
  | _ => 0x3D800000#32

/-- One rotation block of n = 32 × 2^k values, signs applied already. -/
def rotBlock (k : Nat) (xs : List W32) : List W32 :=
  ((List.range (5 + k)).foldl (fun xs b => butterfly b xs) xs).map (fun x => f32mul x (rotNorm k))

/-- A vector cut into blocks of m values. -/
def chunks {α : Type} (m : Nat) (l : List α) : List (List α) :=
  (List.range (l.length / max 1 m)).map (fun i => (l.drop (i * m)).take m)

/-- ROT of one vector (03, R83). -/
def rotVec (k : Nat) (signs : Option W32) (xs : List W32) : List W32 :=
  let xs := match signs with
    | some seed => xs.zipIdx.map (fun e => if rotSign seed e.2 then f32neg e.1 else e.1)
    | none => xs
  (chunks (32 * 2 ^ k) xs).flatMap (rotBlock k)

/-- FP32 stored as BF16, to nearest with ties away from zero; a NaN's payload is free (03, R85; log entry 14, DESIGN CHOICE). -/
def storeBf16 (x : W32) : Nat := fenc bf16 .away (qnan32 x 0 / 65536) (f32v x)

/-- ROT. -/
def effRot (s : State) (sid : Nat) (h : Hdr) : State :=
  let t := s.str sid
  let b := (s.blkOf t h).2
  let r := recAt s sid h
  let ctl := fld b 0x1B 1
  let c := fld b 0x14 4
  let n := fld b 0x18 2
  let io := stepRegions s t 0x30 b
  (s.launch sid r).withInputs t r io.1 (fun s =>
    let ys := (List.range n).map (fun j =>
      rotVec (ctl % 4) (if bit ctl 2 then some (fldF b 0x10) else none)
        (s.vec (fld b 0x1A 1) (rowAt t (fld b 0 4) (fld b 4 4) j) c))
    if bit ctl 3 then
      s.setStr sid { s.str sid with chain := some { uid := r.uid, c := c, n := n, vals := ys }, chained := true }
    else
      (s.wrRows (t.win (fld b 8 4)) (fld b 0x0C 4) (ys.map (fun y => y.flatMap (fun x => leBytes 2 (storeBf16 x))))).stepDone
        r 0)

/-- ROT. -/
def execRot (sid : Nat) (s : State) : Out := runStep 0x30 noHold effRot sid s

/-! ## QNT (03, R88 to R96; 06, R212) -/

/-- QNT. -/
def effQnt (s : State) (sid : Nat) (h : Hdr) : State :=
  let t := s.str sid
  let b := (s.blkOf t h).2
  let c := fld b 0x1C 4
  let n := fld b 0x20 2
  let hnd := fld b 0x22 2
  let f := fld b 0x25 1
  let ctl := fld b 0x26 1
  let r := { recAt s sid h with scales := [(hnd, rbOf c)], chainOf := t.chain.map (·.uid) }
  let io := stepRegions s t 0x31 b
  let s := s.launch sid r
  let s := s.setStr sid { s.str sid with chain := none, chained := false }
  s.withInputs t r io.1 (fun s =>
    let xs := match t.chain with
      | some k => if fld b 0x24 1 = 3 then k.vals else []
      | none => (List.range n).map (fun j => s.vec (fld b 0x24 1) (rowAt t (fld b 0 4) (fld b 4 4) j) c)
    let zp := s.zeroPoints t f c (bit ctl 0) (fld b 0x18 4)
    let (s, o) := s.quantise r.h hnd f (bit ctl 1) zp xs
    let s := s.wrRows (t.win (fld b 8 4)) (fld b 0x0C 4) (o.codes.map (packCodes (aBits f)))
    let s := if bit ctl 1 then s.wrRows (t.win (fld b 0x10 4)) (fld b 0x14 4) (o.shadow.map (packCodes 8)) else s
    let s := s.whiskEvents r.h sid r.idx o.wide o.under false
    (s.stepDone r o.wide.length).modRec r.h r.uid (fun r => { r with widen := !o.wide.isEmpty }))

/-- A QNT waits while an earlier step of the Basket that names an entry has not completed (03, R92). -/
def qntHold (s : State) (sid : Nat) (h : Hdr) : Bool :=
  let t := s.str sid
  let b := (s.blkOf t h).2
  s.scalesBusy t.bsk s.nextUid false (fld b 0x22 2, rbOf (fld b 0x1C 4))

/-- QNT. -/
def execQnt (sid : Nat) (s : State) : Out := runStep 0x31 qntHold effQnt sid s

/-! ## SCUP and STAT (03, Table 03-4; 06, R209, R213) -/

/-- An entry as its 64-byte image. -/
def scaleImage (e : ScaleEntry) : List Byte :=
  leBytes 4 e.scale.toNat ++
  leBytes 4 (shl e.headroom 24 + shl e.depth 16 + shl e.fill 12 + shl e.head 9 + shl (b2n e.freeze) 8) ++
  leBytes 4 e.clip ++ leBytes 4 e.zero ++ leBytes 4 e.nElem ++ leBytes 4 e.shClip ++ leBytes 8 0 ++
  (List.range 8).flatMap (fun i => let p := e.peak i; leBytes 2 p.2.toNat ++ leBytes 2 p.1.toNat)

/-- The entry an image holds, reserved fields as zero. -/
def imageScale (n : Nat) : ScaleEntry :=
  let w1 := fld n 4 4
  { scale := BitVec.ofNat 32 (fld n 0 4), headroom := bits w1 31 24, depth := bits w1 18 16, fill := bits w1 15 12
    head := bits w1 11 9, freeze := bit w1 8, clip := fld n 8 4, zero := fld n 12 4, nElem := fld n 16 4, shClip := fld n 20 4
    peaks := (List.range 8).foldl (fun t i =>
      tset (fun _ => (0, 0)) t i (BitVec.ofNat 16 (fld n (34 + 4 * i) 2), BitVec.ofNat 16 (fld n (32 + 4 * i) 2))) [] }

/-- Some reserved field of an image is not zero. -/
def imageRsv (n : Nat) : Bool := bits (fld n 4 4) 23 19 ≠ 0 || fld n 4 4 % 256 ≠ 0 || fld n 24 8 ≠ 0

/-- What SCUP SET does to an entry. -/
def scaleSet (ops : Nat) (e : ScaleEntry) : ScaleEntry :=
  let e := if bit ops 48 then { e with headroom := bits ops 63 56 } else e
  let e := if bit ops 49 then { e with depth := bits ops 55 53 } else e
  let e := if bit ops 50 then { e with freeze := bit ops 52 } else e
  if bit ops 51 then { e with fill := 0, peaks := [] } else e

/-- SCUP. -/
def effScup (s : State) (sid : Nat) (h : Hdr) : State :=
  let t := s.str sid
  let hnd := bits h.ops 13 0
  let cnt := bits h.ops 45 32 + 1
  let a := bits h.ops 95 64
  let r := { recAt s sid h with scales := [(hnd, cnt)] }
  let s := s.launch sid r
  if bits h.ops 47 46 = 0 then
    s.withInputs t r [{ sp := 0, start := a, pitch := 0, width := 64 * cnt, rows := 1 }] (fun s =>
      let imgs := (List.range cnt).map (fun i => s.rdN (t.win (a + 64 * i)) 64)
      let s := (imgs.zipIdx).foldl (fun s e => s.setScale r.h (hnd + e.2) (imageScale e.1)) s
      s.stepDone r (imgs.filter imageRsv).length)
  else
    ((List.range cnt).foldl (fun s i => s.setScale r.h (hnd + i) (scaleSet h.ops (s.scale r.h (hnd + i)))) s).stepDone r 0

/-- SCUP and STAT wait until every earlier step that names an entry of theirs has completed (06, R213). -/
def scupHold (s : State) (sid : Nat) (h : Hdr) : Bool :=
  s.scalesBusy (s.str sid).bsk s.nextUid true (bits h.ops 13 0, bits h.ops 45 32 + 1)

/-- SCUP. -/
def execScup (sid : Nat) (s : State) : Out := runStep 0x32 scupHold effScup sid s

/-- STAT. -/
def effStat (s : State) (sid : Nat) (h : Hdr) : State :=
  let t := s.str sid
  let hnd := bits h.ops 13 0
  let cnt := bits h.ops 45 32 + 1
  let r := { recAt s sid h with scales := [(hnd, cnt)] }
  let s := s.launch sid r
  (s.wr (t.win (bits h.ops 95 64)) ((List.range cnt).flatMap (fun i => scaleImage (s.scale r.h (hnd + i))))).stepDone r 0

/-- STAT. -/
def execStat (sid : Nat) (s : State) : Out := runStep 0x33 scupHold effStat sid s

/-! ## VOP (06, R214) -/

/-- Format code of the vector engine as `State.elem` numbers them. -/
def vfmt (f : Nat) : Nat := match f with | 0 => 0 | 1 => 2 | _ => 1

/-- e^x; of minus infinity it is zero (06, R214, R216; log entry 3, DESIGN CHOICE). -/
def fexp (x : W32) : W32 := if x = 0xFF800000#32 then 0 else within4 ((f32q x).map expQ) (Config.expF x)

/-- SILU (06, Table 06-18, R214). -/
def fsilu (x : W32) : W32 := within4 ((f32q x).map siluQ) (Config.siluF x)

/-- GELU (06, Table 06-18, R214). -/
def fgelu (x : W32) : W32 := within4 ((f32q x).map geluQ) (Config.geluF x)

/-- x / √y (06, Table 06-18, R214). -/
def fdivSqrt (x y : W32) : W32 :=
  within4 ((f32q x).bind (fun a => (f32q y).bind (fun b => divSqrtQ a b))) (Config.divSqrtF x y)

/-- A sum over a vector as a CP64 pair, read rounded once (06, R214). -/
def vsum (xs : List W32) : W32 := cp64Val (xs.foldl cp64Promote (0, 0))

/-- max(a, 0); of a NaN it is open (06, Table 06-18; log entry 3, DESIGN CHOICE). -/
def relu (a : W32) : W32 := if f32nan a then Config.freeF a 0 else if f32lt a 0 then 0 else a

/-- One vector through an operation (06, Table 06-18). -/
def vopVec (op : Nat) (k0 k1 : W32) (as bs : List W32) : List W32 :=
  let c := f32int as.length
  match op with
  | 0 => as
  | 1 => List.zipWith f32add as bs
  | 2 => List.zipWith f32mul as bs
  | 3 => as.map (fun a => f32add (f32mul k0 a) k1)
  | 4 => as.map relu
  | 5 => as.map fsilu
  | 6 => as.map fgelu
  | 7 => List.zipWith (fun a b => f32mul (fsilu a) b) as bs
  | 8 => as.map (fun a => fexp (f32sub a k0))
  | 9 =>
    let y := f32add (f32div (vsum (as.map (fun a => f32mul a a))) c) k0
    List.zipWith (fun a b => fdivSqrt (f32mul a b) y) as bs
  | 10 =>
    let mu := f32div (vsum as) c
    let ds := as.map (fun a => f32sub a mu)
    let y := f32add (f32div (vsum (ds.map (fun d => f32mul d d))) c) k0
    List.zipWith (fun d b => fdivSqrt (f32mul d b) y) ds bs
  | _ =>
    let m := as.foldl f32max 0xFF800000#32
    let es := as.map (fun a => fexp (f32mul k0 (f32sub a m)))
    let z := vsum es
    es.map (fun e => f32div e z)

/-- An element in an output format, and whether it saturated: 0 BF16, 1 FP32, 2 E4M3 (06, R214). -/
def outElem (f : Nat) (x : W32) : List Byte × Bool :=
  if f = 1 then (leBytes 4 x.toNat, false)
  else if f = 0 then (let c := toBf16 x; (leBytes 2 c.1, c.2))
  else (let c := toE4m3 x; (leBytes 1 c.1, c.2))

/-- VOP. -/
def effVop (s : State) (sid : Nat) (h : Hdr) : State :=
  let t := s.str sid
  let b := (s.blkOf t h).2
  let r := recAt s sid h
  let c := fld b 0x18 4
  let n := fld b 0x1C 2
  let op := fld b 0x1E 1
  let f := fld b 0x1F 1
  let io := stepRegions s t 0x40 b
  (s.launch sid r).withInputs t r io.1 (fun s =>
    let rows := (List.range n).map (fun j =>
      let as := s.vec (vfmt (f % 4)) (rowAt t (fld b 0 4) (fld b 4 4) j) c
      let bs := if vopB op then
          s.vec (vfmt (f / 4 % 4)) (rowAt t (fld b 8 4) (fld b 0x0C 4) (if bit f 6 then 0 else j)) c
        else []
      (vopVec op (fldF b 0x20) (fldF b 0x24) as bs).map (outElem (f / 16 % 4)))
    (s.wrRows (t.win (fld b 0x10 4)) (fld b 0x14 4) (rows.map (fun v => v.flatMap (·.1)))).stepDone r (countIf (·.2) rows))

/-- VOP. -/
def execVop (sid : Nat) (s : State) : Out := runStep 0x40 noHold effVop sid s

/-! ## ATT (06, R215, R216) -/

/-- What an ATT block names. -/
structure AttArgs where
  d   : Nat
  hq  : Nat
  hkv : Nat
  nq  : Nat
  l   : Nat
  fmt : Nat
  sms : W32
  ks  : W32
  vs  : W32
  deriving DecidableEq, Repr

/-- Take an ATT block apart (06, Table 06-19). -/
def attArgs (b : Blk) : AttArgs where
  d   := attD (fld b 0x14 1)
  hq  := fld b 0x10 2
  hkv := fld b 0x12 2
  nq  := fld b 0x16 1
  l   := fld b 0x0C 4
  fmt := fld b 0x15 1
  sms := fldF b 0x18
  ks  := fldF b 0x1C
  vs  := fldF b 0x20

/-- Bytes of a key or value element. -/
def AttArgs.kvB (a : AttArgs) : Nat := if a.fmt % 4 = 0 then 2 else 1

/-- Page addresses of KV head g, page b: keys and values (06, R215). -/
def State.attPage (s : State) (t : Stream) (pt : Nat) (a : AttArgs) (g b : Nat) : Nat × Nat :=
  let e := t.win (pt + (g * ceilDiv a.l 64 + b) * 16)
  (s.rdN e 8, s.rdN (e + 8) 8)

/-- A page address that ends the step. -/
def pageBad (x : Nat) : Bool := decide (hbmLen ≤ x) || x % 256 ≠ 0

/-- Rows of d elements of KV head g at positions 0 to L - 1: keys, or values (06, R215). -/
def State.attRow (s : State) (t : Stream) (pt : Nat) (a : AttArgs) (g p : Nat) (val : Bool) : List W32 :=
  let pg := s.attPage t pt a g (p / 64)
  s.vec (a.fmt % 4) ((if val then pg.2 else pg.1) + p % 64 * a.d * a.kvB) a.d

/-- The running state of one (i, h): m, l and the accumulators. -/
structure AttAcc where
  m   : W32
  l   : W32
  acc : List W32
  deriving DecidableEq, Repr

/-- One position (06, R216). -/
def attStep (sc : W32) (q : List W32) (vs : W32) (x : AttAcc) (k v : List W32) : AttAcc :=
  let dot := (List.zip q k).foldl (fun a e => f32add a (f32mul e.1 e.2)) 0
  let s := f32mul dot sc
  let x := if f32lt x.m s then
      let r := fexp (f32sub x.m s)
      { m := s, l := f32mul x.l r, acc := x.acc.map (fun a => f32mul a r) : AttAcc }
    else x
  let e := fexp (f32sub s x.m)
  { x with l := f32add x.l e, acc := List.zipWith (fun a v => f32add a (f32mul e (f32mul v vs))) x.acc v }

/-- Query position i of head hh: its output and its log-sum-exp (06, R216). -/
def State.attOne (s : State) (t : Stream) (q pt : Nat) (a : AttArgs) (i hh : Nat) : List W32 × W32 :=
  let g := hh / (a.hq / max 1 a.hkv)
  let qb := if a.fmt / 4 % 4 = 0 then 2 else 4
  let qv := s.vec (if a.fmt / 4 % 4 = 0 then 0 else 2) (t.win (q + (i * a.hq + hh) * a.d * qb)) a.d
  let x := (List.range (a.l - a.nq + i + 1)).foldl (fun x p =>
      attStep (f32mul a.ks a.sms) qv a.vs x (s.attRow t pt a g p false) (s.attRow t pt a g p true))
    { m := 0xFF800000#32, l := 0, acc := List.replicate a.d 0 }
  (x.acc.map (fun v => f32div v x.l), f32add x.m (Config.lnF x.l))

/-- The key and value pages of an ATT, in table order. -/
def State.attPages (s : State) (t : Stream) (pt : Nat) (a : AttArgs) : List Nat :=
  (List.range a.hkv).flatMap (fun g => (List.range (ceilDiv a.l 64)).flatMap (fun b =>
    let p := s.attPage t pt a g b
    [p.1, p.2]))

/-- ATT: a page address at fault ends it before it writes an output (06, R215; log entry 35, DEDUCED). -/
def effAtt (s : State) (sid : Nat) (h : Hdr) : State :=
  let t := s.str sid
  let b := (s.blkOf t h).2
  let r := recAt s sid h
  let a := attArgs b
  let q := fld b 0 4
  let pt := fld b 8 4
  let io := stepRegions s t 0x41 b
  (s.launch sid r).withInputs t r io.1 (fun s =>
    let pages := s.attPages t pt a
    if pages.any pageBad then s.raiseX 0x0402 0x01 r.h r.sid r.h r.idx 0x08 else
    s.withInputs t r (pages.map (fun p => { sp := 1, start := p, pitch := 0, width := 64 * a.d * a.kvB, rows := 1 })) (fun s =>
      let of := if a.fmt / 16 % 4 = 0 then 0 else 1
      let res := (List.range a.nq).flatMap (fun i => (List.range a.hq).map (fun hh => s.attOne t q pt a i hh))
      let out := res.map (fun x => x.1.map (outElem of))
      let s := s.wr (t.win (fld b 4 4)) (out.flatMap (fun v => v.flatMap (·.1)))
      let s := if bit a.fmt 6 then s.wr (t.win (fld b 0x24 4)) (res.flatMap (fun x => leBytes 4 x.2.toNat)) else s
      s.stepDone r (countIf (·.2) out)))

/-- ATT. -/
def execAtt (sid : Nat) (s : State) : Out := runStep 0x41 noHold effAtt sid s

end Sys2Proof.Machine
end

