-- ==== Sys2Proof/Machine/Streams.lean ====
section
/-! DEFINITION. Stream commands, placement and migration (05, R137 to R140; 07, R226 to R239). -/

namespace Sys2Proof.Machine

/-! ## Descriptors and images -/

/-- A descriptor as it stands in the stream table (07, Table 07-1): its 64 bytes as one number. -/
def State.descNum (s : State) (i : Nat) : Nat := s.rdN (descAddr i) 64

/-- What R231 refuses (07, R227, R231). -/
def descBad (d : Nat) : Bool :=
  let img := fld d 0 8
  let base := fld d 0x10 4
  let len := fld d 0x14 4
  let ctx := fld d 0x18 4
  let cring := fld d 0x1C 4
  let lg := fld d 0x20 1
  let migb := fld d 0x30 4
  fld d 0x0A 2 = 0 || decide (15 < fld d 8 1) || img % 4096 ≠ 0 || decide (hbmLen ≤ img) ||
  base % 4096 ≠ 0 || len % 4096 ≠ 0 || decide (len < 0x40000) || decide (0x01780000 < len) || decide (crockLen ≤ base) ||
  decide (stOff < base % sliceLen + len) ||
  ctx % 1024 ≠ 0 || decide (len < ctx + 1024) || decide (lg < 6) || decide (16 < lg) ||
  cring % (32 * 2 ^ lg) ≠ 0 || decide (len < cring + 32 * 2 ^ lg) ||
  (migb ≠ 0 && (migb % 64 ≠ 0 || decide (len < migb + fld d 0x34 4))) ||
  decide (16384 < fld d 0x2C 2 + fld d 0x2E 2) ||
  fld d 0x0F 1 ≠ 0 || fld d 0x21 1 ≠ 0 || decide (15 < fld d 0x38 1) || fld d 0x39 7 ≠ 0

/-- A directory entry of an image (05, Table 05-2). -/
def State.secEntry (s : State) (img i : Nat) : Nat := s.rdN (img + 0x80 + 32 * i) 32

/-- The entries of an image's directory. -/
def State.secEntries (s : State) (img : Nat) : List Nat := (List.range (s.rdN (img + 0x10) 4)).map (s.secEntry img)

/-- A legal section type (05, Table 05-3). -/
def secLegal (ty : Nat) : Bool := (decide (1 ≤ ty) && decide (ty ≤ 5)) || decide (0x8000 ≤ ty)

/-- Step 4 of R139 on an entry. -/
def secRsv (e : Nat) : Bool :=
  let ty := fld e 0 2
  decide (1 ≤ ty) && decide (ty ≤ 5) &&
    (fld e 3 5 ≠ 0 || (ty ≠ 1 && fld e 2 1 ≠ 0) || (ty ≠ 2 && ty ≠ 3 && fld e 0x18 8 ≠ 0))

/-- No index appears twice among the step tables. -/
def noTwice : List Nat → Bool
  | [] => true
  | x :: t => !t.contains x && noTwice t

/-- The first failure of an image: the event code and reason (05, R139). -/
def State.imageBad (s : State) (img : Nat) : Option (Nat × Nat) :=
  let hd := s.rdN img 128
  let cnt := fld hd 0x10 4
  if fld hd 0 4 ≠ 0x31494B5A ∨ fld hd 4 2 ≠ 1 then some (0x0402, 0x0E)
  else if fld hd 6 1 = 0 ∨ fld hd 7 1 < fld hd 6 1 then some (0x0402, 0x0E)
  else if 1 < fld hd 6 1 then some (0x0403, 0)
  else if cnt = 0 ∨ 64 < cnt ∨ fld hd 0x14 12 ≠ 0 ∨ fld hd 0x50 48 ≠ 0 then some (0x0402, 0x0E)
  else
    let es := s.secEntries img
    let tbls := es.filter (fun e => fld e 0 2 = 1)
    if es.any secRsv || es.any (fun e => !secLegal (fld e 0 2) || decide (fld hd 8 8 < fld e 8 8 + fld e 0x10 8)) ||
        tbls.any (fun e => fld e 0x10 8 = 0 || fld e 0x10 8 % 16 ≠ 0 || decide (2 ^ 28 < fld e 0x10 8)) ||
        !noTwice (tbls.map (fun e => fld e 2 1)) then some (0x0402, 0x0E)
    else none

/-- Offset and steps of step table n of an image; an image without it gives an empty table (log entry 25, DEDUCED). -/
def State.findTable (s : State) (img n : Nat) : Nat × Nat :=
  match (s.secEntries img).find? (fun e => fld e 0 2 = 1 && fld e 2 1 = n) with
  | some e => (fld e 8 8, fld e 0x10 8 / 16)
  | none => (0, 0)

/-- The S fields of a descriptor, as a command reads them (07, R228). -/
def State.readDesc (s : State) (i : Nat) (t : Stream) : Stream :=
  let d := s.descNum i
  let tb := s.findTable (fld d 0 8) (fld d 8 1)
  { t with
    img := fld d 0 8, tbl := fld d 8 1, tblOff := tb.1, tblSteps := tb.2, aff := fld d 0x0A 2
    winBase := fld d 0x10 4, winLen := fld d 0x14 4, ctx := fld d 0x18 4, cring := fld d 0x1C 4, crLog2 := fld d 0x20 1
    crTail := fld d 0x24 4, shnd := fld d 0x2C 2, scnt := fld d 0x2E 2, migb := fld d 0x30 4, migl := fld d 0x34 4 }

/-! ## Placement (07, R232) -/

/-- Contexts a Basket may hold. -/
def maxRes (b : Basket) : Nat := min 64 (bits b.resCfg.toNat 6 0)

/-- A Basket READY or RUN, in the mask, with room. -/
def State.takesStream (s : State) (aff h : Nat) : Bool :=
  bit aff h && inService (s.bsk h) && decide ((s.held h).length < maxRes (s.bsk h))

/-- The Basket with the fewest streams among those that qualify; the lower on a tie. -/
def State.placeAt (s : State) (aff : Nat) (ok : Nat → Bool) : Option Nat :=
  argMin (fun h => (s.held h).length) ((List.range 16).filter (fun h => s.takesStream aff h && ok h))

/-- A stream becomes resident on a Basket. -/
def State.settleOn (s : State) (i h : Nat) (st : StrState) : State :=
  (s.putStr i { s.str i with st := st, bsk := h }).settleBsk h

/-- STREAM_PLACEMENT: the first PENDING stream, in order of START, that a Basket can take (07, R232). -/
def execStreamPlacement (s : State) : Out :=
  .next (match s.waiting.find? (fun i => (s.placeAt (s.str i).aff (fun _ => true)).isSome) with
    | some i =>
      match s.placeAt (s.str i).aff (fun _ => true) with
      | some h => ({ s with waiting := s.waiting.filter (· != i) }).settleOn i h .resident
      | none => s
    | none => s)

/-! ## Stream commands (07, Table 07-5) -/

/-- STATE in the table is a reserved code (07, Table 07-3). -/
def State.stateRsv (s : State) (i : Nat) : Bool := decide (6 < (s.rdB (descAddr i + 9)).toNat)

/-- START (07, R231). -/
def State.cmdStart (s : State) (i : Nat) : State × Nat :=
  let t := s.str i
  if t.st = .idle ∨ t.st = .ended ∨ t.st = .aborted then
    let d := s.descNum i
    if descBad d then (s, 3) else
    match s.imageBad (fld d 0 8) with
    | some (code, reason) => (s.raiseS code 0 0x00 0 i 0 (fld d 0x0C 3) reason, 4)
    | none =>
      let t := { s.readDesc i { cause := t.cause } with ptr := fld d 0x0C 3 }
      let s := (s.setStr i t).wrCtx i
      match s.placeAt t.aff (fun _ => true) with
      | some h => (s.settleOn i h .resident, 0)
      | none => ({ s.putStr i { t with st := .pending } with waiting := s.waiting ++ [i] }, 0)
  else (s, 2)

/-- A stream held by Basket h, other than i, names an entry of the range (07, R237). -/
def State.entriesUsed (s : State) (h i hnd cnt : Nat) : Bool :=
  (s.held h).any (fun j => j != i && rangesMeet (hnd, cnt) ((s.str j).shnd, (s.str j).scnt))

/-- Step 6 of R238 on Basket h: the images are loaded and the listed Pots open, bound to their buffers. -/
def State.migLoad (s : State) (i h : Nat) : State :=
  let t := s.str i
  let s := s.scrub (t.win t.migb) (64 * t.scnt)
  let s := (List.range t.scnt).foldl (fun s k =>
    s.setScale h (t.shnd + k) (imageScale (s.rdN (t.win (t.migb + 64 * k)) 64))) s
  t.migPots.foldl (fun s e =>
    let (n, rp16, cp, buf) := e
    s.setPot h n { openedPot (s.pot h n) i (16 * rp16) cp (some buf) with
      pred := .opened, predOwner := i, predRp := 16 * rp16, predCp := cp, predBound := some buf, bands := [], depth := 0 }) s

/-- The first uncorrectable word among the images that wait in the migration area (07, R243). -/
def State.imagesBad (s : State) (t : Stream) : Option Nat := (s.badIn (t.win t.migb) (64 * t.scnt)).head?

/-- Basket h has a free place for every Pot that waits in stream i's migration list, each opened by RESUME (07, R238; 06,
R206). -/
def State.potsFit (s : State) (h : Nat) (t : Stream) : Bool :=
  t.migPots.all (fun e => (s.pot h e.1).st = .free && (s.pot h e.1).pred = .free)

/-- Step 6 of R238 on Basket h for a stream already set down there, and step 7: it takes state `st`. An image that reads
uncorrectable is data read for the stream: class X (07, R243; log entry 121, DESIGN CHOICE). -/
def State.reopen (s : State) (i h : Nat) (st : StrState) : State :=
  match s.imagesBad (s.str i) with
  | some w => (s.scrub ((s.str i).win (s.str i).migb) (64 * (s.str i).scnt)).memX w i h (s.str i).ptr
  | none =>
    let s := s.migLoad i h
    (s.putStr i { s.str i with
      st := st, bsk := h, migTo := none, wasRes := false, migSaved := false, migPots := [] }).settleBsk h

/-- RESUME (07, R235, R239). A Basket that has not every listed Pot FREE does not qualify (log entry 120, DEDUCED). -/
def State.cmdResume (s : State) (i : Nat) : State × Nat :=
  let t := s.str i
  if t.st = .suspended then
    let d := s.descNum i
    if descBad d then (s, 3) else
    let t := { s.readDesc i t with ptr := fld d 0x0C 3, atYield := false, waitSince := none }
    if t.migSaved then
      match s.placeAt t.aff (fun h => !s.entriesUsed h i t.shnd t.scnt && s.potsFit h t) with
      | some h => (((s.setStr i { t with bsk := h }).reopen i h .resident).settleBsk t.bsk, 0)
      | none => (s, if (s.placeAt t.aff (fun h => s.potsFit h t)).isSome then 9 else 5)
    else ((s.setStr i t).settleOn i t.bsk .resident, 0)
  else (s, 2)

/-- ABORT (07, R234). -/
def State.cmdAbort (s : State) (i : Nat) : State × Nat :=
  let t := s.str i
  if t.st = .pending ∨ t.st = .resident ∨ t.st = .suspended ∨ t.st = .migrating then
    (s.abortStr i 0xF004, 0)
  else (s, 2)

/-- RESET (07, Table 07-5). -/
def State.cmdReset (s : State) (i : Nat) : State × Nat :=
  let t := s.str i
  if t.st = .ended ∨ t.st = .aborted then (s.putStr i { t with st := .idle, cause := 0, bsk := 0 }, 0) else (s, 2)

/-- Pots of Basket h that stream i owns in a state. -/
def State.ownPots (s : State) (h i : Nat) (st : PotState) : List Nat :=
  (List.range 64).filter (fun n => (s.pot h n).st = st && (s.pot h n).owner = i)

/-- Bytes the migration area must hold (07, R237). -/
def State.migNeed (s : State) (h i : Nat) (t : Stream) : Nat :=
  64 * t.scnt + sumNat (((s.ownPots h i .opened).filter (fun n => (s.pot h n).bound.isNone)).map
    (fun n => (s.pot h n).rp * (s.pot h n).cp * 16))

/-- Why a migration to Basket g is refused, by the Pots and entries (07, R237). -/
def State.migBad (s : State) (i g : Nat) (t : Stream) : Option Nat :=
  let h := t.bsk
  let owned := (List.range 64).filter (fun n => (s.pot h n).st ≠ .free && (s.pot h n).owner = i)
  if owned.any (fun n => (s.pot g n).st ≠ .free) then some 6
  else if !(s.ownPots h i .held).isEmpty then some 8
  else if !s.potsFit g t then some 6
  else if (if t.migb = 0 then 0 else t.migl) < s.migNeed h i t then some 7
  else if s.entriesUsed g i t.shnd t.scnt then some 9
  else none

/-- MIGRATE to Basket g: checked in full, then the stream stops issue and is MIGRATING (07, R237, R238); none while it is
under way. A stream whose images wait in its migration area has steps 3 to 5 behind it (07, R239; log entry 121, DESIGN
CHOICE). -/
def State.cmdMigrate (s : State) (i g : Nat) : State × Option Nat :=
  let t := s.str i
  if t.st = .resident ∨ t.st = .suspended then
    if descBad (s.descNum i) then (s, some 3) else
    let u := s.readDesc i t
    if !s.takesStream u.aff g then (s, some 5) else
    match s.migBad i g u with
    | some r => (s, some r)
    | none =>
      ((s.putStr i { u with
        st := .migrating, migTo := some g, wasRes := t.st = .resident, waitSince := none
        bsk := if u.migSaved then g else u.bsk }).settleBsk t.bsk, none)
  else (s, some 2)

/-- A stream command: its RESULT, none while a migration is under way (07, Tables 07-5, 07-10, 07-11; log entry 87, DEDUCED). -/
def State.strmDo (s : State) (cmd bsk i : Nat) : State × Option Nat :=
  let of (x : State × Nat) : State × Option Nat := (x.1, some x.2)
  if cmd = 0 ∨ 5 < cmd ∨ (cmd ≠ 4 ∧ bsk ≠ 0) ∨ 131072 ≤ i then (s, some 1)
  else if s.stateRsv i then (s, some 3)
  else if cmd = 1 then of (s.cmdStart i)
  else if cmd = 2 then of (s.cmdResume i)
  else if cmd = 3 then of (s.cmdAbort i)
  else if cmd = 4 then s.cmdMigrate i bsk
  else of (s.cmdReset i)

/-- A command given by `GCTL_STRM_CMD`: ignored while the last is BUSY, which sets DROP (07, Table 07-10). -/
def State.strmReg (s : State) (cmd bsk i : Nat) : State :=
  if s.dev.stBusy then { s with dev := { s.dev with stDrop := true } } else
  match s.strmDo cmd bsk i with
  | (s, some r) => { s with dev := { s.dev with stResult := r, stStream := i } }
  | (s, none) => { s.setStr i { s.str i with migReg := true } with dev := { s.dev with stBusy := true, stStream := i } }

/-- START. -/
def execStart (sid bsk : Nat) (s : State) : Out := guard (decide (sid < 131072) && decide (bsk < 16)) (s.strmReg 1 bsk sid)
/-- RESUME. -/
def execStreamResume (sid bsk : Nat) (s : State) : Out :=
  guard (decide (sid < 131072) && decide (bsk < 16)) (s.strmReg 2 bsk sid)
/-- ABORT. -/
def execAbort (sid bsk : Nat) (s : State) : Out := guard (decide (sid < 131072) && decide (bsk < 16)) (s.strmReg 3 bsk sid)
/-- MIGRATE. -/
def execMigrate (sid bsk : Nat) (s : State) : Out := guard (decide (sid < 131072) && decide (bsk < 16)) (s.strmReg 4 bsk sid)
/-- RESET. -/
def execStreamReset (sid bsk : Nat) (s : State) : Out :=
  guard (decide (sid < 131072) && decide (bsk < 16)) (s.strmReg 5 bsk sid)

/-! ## The move (07, R238, R239) -/

/-- A migration ends without a move: the stream goes on as it was, and its RESULT is reported. -/
def State.migRefuse (s : State) (i r : Nat) : State :=
  let t := s.str i
  (s.putStr i { t with st := if t.wasRes then .resident else .suspended, migTo := none, wasRes := false }).migReport i r

/-- Step 3: the images of the stream's entries (07, R238). -/
def State.migImages (s : State) (i : Nat) : State :=
  let t := s.str i
  s.wr (t.win t.migb) ((List.range t.scnt).flatMap (fun k => scaleImage (s.scale t.bsk (t.shnd + k))))

/-- Step 4 on one Pot: an unbound one gets the next free region, zeroed first; what is left is the next region and whether
some spill was not finite. Nothing more is done for a stream that an uncorrectable error has aborted (04, R120, R126). -/
def State.migPot (s : State) (i n next : Nat) (ovf : Bool) : State × Nat × Bool :=
  let t := s.str i
  let p := s.pot t.bsk n
  if t.st ≠ .migrating then (s, next, ovf) else
  let fresh := p.bound.isNone
  let buf := p.bound.getD next
  let next := if fresh then next + 16 * p.rp * p.cp else next
  let s := if fresh then s.wr (t.win buf) (List.replicate (16 * p.rp * p.cp) 0) else s
  match s.spillPot t.bsk n buf i t.ptr with
  | (s, none) => (s, next, ovf)
  | (s, some o) =>
    let s := s.setStr i { s.str i with migPots := t.migPots ++ [(n, p.rp / 16, p.cp, buf)] }
    let q := s.pot t.bsk n
    (s.setPot t.bsk n { q with pred := .free, predBound := none }, next, ovf || o)

/-- Steps 3 to 5 of R238: the checks again, the images, the Pots and the context area, and BSK is the target. A spill that is
not finite is one POT_OVF of the stream (04, R120; log entry 121, DESIGN CHOICE). -/
def State.migSave (s : State) (i g : Nat) : State :=
  let t := s.str i
  let h := t.bsk
  if !(s.ownPots h i .held).isEmpty then s.migRefuse i 8
  else if (s.ownPots h i .opened).any (fun n => (s.pot g n).st ≠ .free) then s.migRefuse i 6
  else if s.entriesUsed g i t.shnd t.scnt then s.migRefuse i 9
  else
    let s := (s.setStr i { t with migPots := [] }).migImages i
    let (s, _, ovf) := (s.ownPots h i .opened).foldl (fun (a : State × Nat × Bool) n => a.1.migPot i n a.2.1 a.2.2)
      (s, t.migb + 64 * t.scnt, false)
    if (s.str i).st ≠ .migrating then s else
    let s := if ovf then
        (s.setBsk h { s.bsk h with potOvfCnt := sat32 ((s.bsk h).potOvfCnt + 1) }).raiseS 0x0202 0 0x01 h i h t.ptr 0
      else s
    ((s.wrCtx i).putStr i { (s.wrCtx i).str i with bsk := g, migSaved := true }).settleBsk h

/-- Steps 6 and 7 of R238 on the target, or what R239 gives where it cannot complete there. -/
def State.migOpen (s : State) (i g : Nat) : State :=
  let t := s.str i
  if !inService (s.bsk g) then s.migFail i 5
  else if s.entriesUsed g i t.shnd t.scnt || !s.potsFit g t then s.migFail i 9
  else
    let s := s.reopen i g (if t.wasRes then .resident else .suspended)
    if (s.str i).st = .aborted then s else s.migReport i 0

/-- MIGRATION_MOVE: once the stream's steps in flight have completed, the first saves it, steps 3 to 5 of R238, and the
second opens it on its target, steps 6 and 7; other commands may come between (log entry 121, DESIGN CHOICE). -/
def State.migMove (s : State) (i : Nat) : State :=
  let t := s.str i
  match t.migTo with
  | none => s
  | some g =>
    if t.st ≠ .migrating then s
    else if t.migSaved then s.migOpen i g
    else if (s.bsk t.bsk).inflight.any (fun r => r.sid = i) then s
    else s.migSave i g

/-- MIGRATION_MOVE. -/
def execMigrationMove (sid : Nat) (s : State) : Out := guard (decide (sid < 131072)) (s.migMove sid)

end Sys2Proof.Machine
end

