-- ==== Sys2Proof/Machine/Control.lean ====
section
/-! DEFINITION. Basket control, the activity ramp, the power governor, power taps and Coil faults (01, R24; 02, R55; 05, R176 to
R181; 10, R322, R329; 14, R434 to R440). -/

namespace Sys2Proof.Machine

/-- The next multiple of d after t. -/
def nextMul (t d : Nat) : Nat := (t / d + 1) * d

/-! ## Entering and leaving service (14, Tables 14-4, 14-8) -/

/-- Registers that take their values at COMMIT, by offset within the Basket block, or 0x10000 and Pan × 16 for
`PAN_CHK_CFG` (14, R439). -/
def takeStaged (s : State) (h : Nat) (e : Nat × W32) : State :=
  let b := s.bsk h
  let v := e.2
  match e.1 with
  | 0x0008 => s.setBsk h { b with vtrim := v }
  | 0x0300 => s.setBsk h { b with seqCfg := v }
  | 0x0400 => s.setBsk h { b with wskThr := v }
  | 0x0404 => s.setBsk h { b with wskCfg := v }
  | 0x0500 => s.setBsk h { b with rdoCfg := v }
  | 0x0604 => s.setBsk h { b with resCfg := v }
  | k => if 0x10000 ≤ k then s.setPan ((k - 0x10000) / 16) { s.pan ((k - 0x10000) / 16) with chkCfg := v } else s

/-- Key of a Pan's `PAN_CHK_CFG` among the staged registers of its Basket. -/
def chkKey (p : Nat) : Nat := 0x10000 + 16 * p

/-- The scale class takes effect: the Pan in slot 15 becomes SPARE, or the SPARE with the most recent sweep takes slot 15
(10, R329). -/
def State.takeClass (s : State) (h : Nat) : State :=
  let b := s.bsk h
  let was := bskSlots b
  let s := s.setBsk h { b with cls := s.dev.cls.toNat, clsPend := false }
  let now := bskSlots (s.bsk h)
  if now < was then
    match s.slotPan h 15 with
    | some p =>
      let v := s.pan p
      (s.setPan p ({ v with
        mode := .spare, slot := none, suspectLeft := 0, margin := 0, forceRate := false } : Pan).closeWins).tellSpares h
    | none => s
  else if was < now then
    match argMin (fun p => s.time - (s.pan p).lastCal) (s.spares h) with
    | some p => (s.setPan p { s.pan p with mode := .inService, slot := some 15, reason := 0 }).tellSpares h
    | none => s.retireBasket h false
  else s

/-! ## Baskets that fall due for the structural test (10, R331; 13, R414) -/

/-- A committed pattern set stands in bank 2 (13, R414). -/
def State.patternsOk (s : State) : Bool :=
  !s.trv.patCut && (List.range 4).all (fun i => tget flashDflt s.trv.flash (0x06EFFFFC + i) = 0)

/-- A Basket falls due; without a committed pattern set its test is postponed by 10 minutes (10, R331; 13, R414). -/
def State.makeDue (s : State) (h : Nat) : State :=
  let b := s.bsk h
  if b.st = .retired ∨ b.testDefer.isSome ∨ b.st = .test then s
  else if s.patternsOk then s.setBsk h { b with testDue := true }
  else s.setBsk h { b with testDue := false, testAt := s.time + 600000000000 }

/-- A COMMIT takes effect (14, R439). -/
def State.commitBsk (s : State) (h : Nat) : State :=
  let st := (s.bsk h).staged
  let s := st.foldl (fun s e => takeStaged s h e) s
  let s := s.setBsk h { s.bsk h with st := .ready, pendEn := false, ign := false, staged := [] }
  (((s.takeClass h).remargin h).settleBsk h).testTurn

/-- A Basket enters WARMING without a new start-up sweep (14, Table 14-8). -/
def State.toWarming (s : State) (h : Nat) : State := s.setBsk h { s.bsk h with st := .warming, pendEn := false, pendStop := false }

/-- A command that the state does not allow (14, R440). -/
def State.ignBsk (s : State) (h : Nat) : State := s.setBsk h { s.bsk h with ign := true }

/-- Issue stops and the Basket drains for a reason; a sweep there is abandoned, and a test that it was deferring gives its
turn up (09, Table 09-3; 10, R331; 14, R439). -/
def State.drainBsk (s : State) (h : Nat) (why : DrainFor) : State :=
  let s := s.abandonIn h
  (s.setBsk h { s.bsk h with st := .draining, drainFor := why, testDefer := none }).testTurn

/-- STOP (14, R439, R440). -/
def State.cmdStop (s : State) (h : Nat) : State :=
  let b := s.bsk h
  match b.st with
  | .ready => s.drainBsk h .stop
  | .run => s.drainBsk h .stop
  | .test => s.setBsk h { b with pendStop := true }
  | .draining => if b.pendEn then s.setBsk h { b with pendEn := false } else s.ignBsk h
  | _ => s.ignBsk h

/-- COMMIT (14, R439, R440). -/
def State.cmdCommit (s : State) (h : Nat) : State :=
  let b := s.bsk h
  match b.st with
  | .stopped => s.commitBsk h
  | .draining => if b.drainFor = .stop then s.setBsk h { b with pendEn := true } else s.ignBsk h
  | _ => s.ignBsk h

/-- OFF (14, R439, R440). -/
def State.cmdOff (s : State) (h : Nat) : State :=
  let b := s.bsk h
  if !(s.held h).isEmpty then s.ignBsk h else
  match b.st with
  | .ready => s.drainBsk h .off
  | .run => s.drainBsk h .off
  | .stopped => s.setBsk h { b with st := .off }
  | .draining => if b.pendEn then s.setBsk h { b with pendEn := false } else s.ignBsk h
  | _ => s.ignBsk h

/-- ON (14, R438, R440). -/
def State.cmdOn (s : State) (h : Nat) : State :=
  let b := s.bsk h
  match b.st with
  | .off => s.toWarming h
  | .draining => if b.drainFor = .off then s.setBsk h { b with pendEn := true } else s.ignBsk h
  | _ => s.ignBsk h

/-- A Pan through a warm or Basket reset: its state, calibration and sparing are kept, its banks invalid, its registers at
their reset values, the taps' stale flags set from now on; levels sent to the Kettle stand (14, Table 14-4, R435; 05, R178;
log entry 67, DEDUCED). -/
def resetPan (now : Nat) (p : Pan) : Pan :=
  { p with
    selB := false, a := {}, b := {}, wrUntil := 0, wrB := false, refreshCnt := 0, chkCfg := 0x00002828#32
    vecFail := 0, blkFail := 0, taps := [], tapsAt := now, tapCfg := 0x00000032#32, tapFail := none, sigma := 0, enob := 0
    blockCnt := 0, computeQ := [], writeQ := [], progress := 0, windows := [], nextReady := 0, lowBuf := none, lastHigh := none
    ring := [], ladders := [], samples := [], stage := [], staged := none, fast := false, rate := 0, group := 0
    level0 := true, sums := [], winAt := now, allowance := 0, drove := 0, waited := false, paced := false }

/-- A Basket's block and what it kept, reset; its rate, scale class and test history stand (14, Table 14-4, R435). -/
def resetBskRegs (uid0 : W32) (h : Nat) (b : Basket) : Basket :=
  { bskDflt h with
    st := .warming, coldSweep := b.coldSweep, rate := b.rate, rateNext := b.rateNext, noFast := b.noFast, cls := b.cls
    lfsr := lfsrSeed uid0 h, testDue := b.testDue, testAt := b.testAt, testRes := b.testRes, testDone := b.testDone
    testRow := b.testRow, testAgain := b.testAgain || b.st = .test, retiredByTest := b.retiredByTest
    spareTold := b.spareTold, clsPend := b.clsPend }

/-- Everything a Basket reset does (14, Tables 14-4, 14-5). -/
def State.resetBsk (s : State) (h : Nat) : State :=
  let s := s.abandonIn h
  let s := s.evict h
  let s := { s with
    pots := s.pots.filter (fun e => e.1 / 64 != h)
    scales := s.scales.filter (fun e => e.1 / 16384 != h)
    tokens := s.tokens.filter (fun e => e.1 / 32 != h)
    fastQ := s.fastQ.filter (· != h) }
  let s := s.setBsk h (resetBskRegs (BitVec.ofNat 32 s.uid) h (s.bsk h))
  let s := (bskPans h).foldl (fun s p => s.setPan p (resetPan s.time (s.pan p))) s
  (s.remargin h).testTurn

/-- RESET (14, Table 14-8). -/
def State.cmdReset' (s : State) (h : Nat) : State :=
  match (s.bsk h).st with
  | .off => s.ignBsk h
  | .retired => s.ignBsk h
  | _ => s.resetBsk h

/-- A `BSK_CTL` write by its bits (14, R440, Table 14-13). -/
def State.bskCtl (s : State) (h v : Nat) : State :=
  match v % 32 with
  | 0 => s
  | 1 => s.cmdStop h
  | 2 => s.cmdCommit h
  | 3 => (s.cmdStop h).cmdCommit h
  | 4 => s.cmdReset' h
  | 8 => s.cmdOff h
  | 16 => s.cmdOn h
  | _ => s.ignBsk h

/-- BASKET_STOP. -/
def execBasketStop (h : Nat) (s : State) : Out := guard (decide (h < 16)) (s.cmdStop h)
/-- BASKET_COMMIT. -/
def execBasketCommit (h : Nat) (s : State) : Out := guard (decide (h < 16)) (s.cmdCommit h)
/-- BASKET_OFF. -/
def execBasketOff (h : Nat) (s : State) : Out := guard (decide (h < 16)) (s.cmdOff h)
/-- BASKET_ON. -/
def execBasketOn (h : Nat) (s : State) : Out := guard (decide (h < 16)) (s.cmdOn h)
/-- BASKET_RESET. -/
def execBasketReset (h : Nat) (s : State) : Out := guard (decide (h < 16)) (s.cmdReset' h)

/-- Every Pan of a Basket is at A = 0 (14, Table 14-8). -/
def State.quiet (s : State) (h : Nat) : Bool := (bskPans h).all (fun p => (s.pan p).lvlNow = 0)

/-- A drain for STOP or OFF that is over; a pending enable acts at once (14, R439, R440). -/
def State.drained (s : State) (h : Nat) : State :=
  let b := s.bsk h
  if b.st = .draining ∧ b.inflight.isEmpty ∧ s.quiet h then
    match b.drainFor with
    | .stop =>
      let s := s.setBsk h { b with st := .stopped }
      if b.pendEn then s.commitBsk h else s
    | .off =>
      let s := s.setBsk h { b with st := .off }
      if b.pendEn then s.toWarming h else s
    | .test => s
  else s

/-- BASKET_DRAINED. -/
def execBasketDrained (h : Nat) (s : State) : Out := guard (decide (h < 16)) (s.drained h)

/-- A Basket that is READY again after WARMING: a test abandoned by a reset falls due in 10 minutes (10, R334). -/
def State.warmed (s : State) (h : Nat) : State :=
  let b := s.bsk h
  let s := s.setBsk h { b with
    st := .ready, coldSweep := false, testAgain := false
    testAt := if b.testAgain then s.time + 600000000000 else b.testAt
    testDue := b.testDue && !b.testAgain }
  (s.settleBsk h).testTurn

/-- WARMING_END: WARMING under the previous calibration ends, in READY, or in RETIRED where Pans are short (14, Table
14-8; 10, R321). -/
def execWarmingEnd (h : Nat) (s : State) : Out :=
  guard (decide (h < 16)) (
    let b := s.bsk h
    if b.st = .warming ∧ ¬ b.coldSweep then
      if s.slotsFull h then s.warmed h else s.retireBasket h false
    else s)

/-- A write to CLASS: it waits for each Basket's next COMMIT, and each one's bit of PEND reads 1 until then (10, R329). -/
def State.scaleClass (s : State) (cls : BitVec 2) : State :=
  let s := { s with dev := { s.dev with cls := cls } }
  (List.range 16).foldl (fun s h => s.setBsk h { s.bsk h with clsPend := true }) s

/-- SCALE_CLASS_WRITE. -/
def execScaleClassWrite (cls : BitVec 2) (s : State) : Out := .next (s.scaleClass cls)

/-- Bits of `GCTL_SCALE_CLASS.PEND`: Baskets that have not taken CLASS (10, Table 10-8). -/
def State.clsPend (s : State) : Nat := sumNat ((List.range 16).map (fun h => if (s.bsk h).clsPend then 2 ^ h else 0))

/-- `BSK_SEQ_CTL.CNT_CLR`: the sequencer's counters, and OVF of every token (05, Table 05-21). -/
def State.seqClear (s : State) (h : Nat) : State :=
  let s := s.setBsk h { s.bsk h with issueCnt := 0, stallBank := 0, stallRamp := 0, fillCnt := 0, lateCnt := 0 }
  let clr (m : Tab Token) (k : Nat) : Tab Token := tmod tokDflt m k (fun t => { t with ovf := false })
  { s with
    tokens := (List.range 32).foldl (fun m i => clr m (h * 32 + i)) s.tokens
    globals := (List.range 127).foldl clr s.globals }

/-- `BSK_WSK_CTL.CNT_CLR` (03, Table 03-13). -/
def State.wskClear (s : State) (h : Nat) : State :=
  s.setBsk h { s.bsk h with
    widenCnt := 0, satCnt := 0, w4iNeg8 := 0, w3Neg4 := 0, wtRsv := 0, atRsv := 0, nanScale := 0, cbNeg128 := 0 }

/-- `BSK_RDO_CTL.CNT_CLR`: the counters at 0x0504 to 0x050C and 0x0520 (04, Table 04-16). -/
def State.rdoClear (s : State) (h : Nat) : State :=
  s.setBsk h { s.bsk h with rdoSatCnt := 0, potOvfCnt := 0, promoStall := 0, eccUe := 0, eccCe := 0 }

/-- SEQ_CNT_CLR. -/
def execSeqCntClr (h : Nat) (s : State) : Out := guard (decide (h < 16)) (s.seqClear h)

/-- WSK_CNT_CLR. -/
def execWskCntClr (h : Nat) (s : State) : Out := guard (decide (h < 16)) (s.wskClear h)

/-- RDO_CNT_CLR. -/
def execRdoCntClr (h : Nat) (s : State) : Out := guard (decide (h < 16)) (s.rdoClear h)

/-! ## The activity ramp (05, R176 to R181) -/

/-- Drive time of a Pan's work that has issued and is not yet driven, in ps weighted by rate (R176, R177; log entry 134,
DEDUCED). -/
def State.workOf (s : State) (p : Nat) : Nat :=
  let v := s.pan p
  let b := s.bsk (panBsk p)
  let tile (c : CItem) : Nat := match c with
    | .tile u _ n => match b.mvm? u with
      | some m => m.blocks * driveOf (m.vecs n) (m.fast && b.rate = 3)
      | none => 0
    | .wsw _ => 0
  let done := match v.computeQ with
    | .tile u _ n :: _ => match b.mvm? u with
      | some m => v.progress * driveOf (m.vecs n) (m.fast && b.rate = 3)
      | none => 0
    | _ => 0
  sumNat (v.computeQ.map tile) - done

/-- Weighted drive time of one activity level over an interval, in ps. -/
def levelPs : Nat := 250000

/-- A Pan held at A = 16 on filler or measurement: the covering spare of a sweep that ramps, the Pan under sweep, and every
Pan of a Basket in the start-up sweep (09, R289, R292, R306). -/
def State.atFull (s : State) (p : Nat) : Bool :=
  (match s.cal.sweep with
    | some w => (w.handed && w.pan = p) || (!w.handed && w.cover = some p)
    | none => false) ||
  ((s.bsk (panBsk p)).st = .warming && (s.bsk (panBsk p)).coldSweep && s.startupRuns && (s.pan p).mode ≠ .retired)

/-- The level of interval k + 2, `now` and `next` those of k and k + 1 and `sent` the last: within 1 of it, towards the work
that is left beyond the two intervals and down in time for its end, no higher than the rate can fill; falling through an
unplanned wait (R177 to R179; log entry 134, DEDUCED). With RAMP_OFF it is what that work will produce unpaced (R181). -/
def planLevel (off full waited : Bool) (cap work now next sent : Nat) : Nat :=
  if off then
    if full then 16 else min cap (ceilDiv (work - 2 * cap * levelPs) levelPs)
  else
    let rem := work - (now + next) * levelPs
    if full then min 16 (sent + 1)
    else if waited || decide (cap < sent) then sent - 1
    else if (sent + 1) * sent / 2 * levelPs < rem then min cap (sent + 1)
    else if sent * (sent - 1) / 2 * levelPs < rem then sent
    else sent - 1

/-- The level an interval had: with filler what was planned (R177, R179). -/
def Pan.actual (v : Pan) (off : Bool) : Nat := if v.waited || off then levelOf v.drove else max v.lvlNow (levelOf v.drove)

/-- One Pan at the start of an interval: the levels move on, and the next is sent (R178). A RETIRED Pan's fall by the plan
(R177). -/
def rampPan (off full : Bool) (cap work : Nat) (v : Pan) : Pan :=
  { v with
    lvlPrev := v.lvlNow, lvlNow := v.lvlNext, lvlNext := v.lvlSent
    lvlSent := planLevel off full (v.waited || v.mode = .retired) cap work v.lvlNext v.lvlSent v.lvlSent
    allowance := 0, drove := 0, paced := false, waited := v.waited && v.drove = 0 }

/-- A Basket's Pans at the start of an interval; intervals that ended short of the sent level by more than 1 are counted
(R179), and where pacing held a Pan or one drove filler the cycles of it, which the command brings (log entry 37, DESIGN
CHOICE). -/
def State.rampBsk (s : State) (held filler h : Nat) : State :=
  let b := s.bsk h
  let ps := bskPans h
  let off := bit b.seqCfg.toNat 16
  let late := (ps.filter (fun p => decide ((s.pan p).actual off + 1 < (s.pan p).lvlNow))).length
  let paced := ps.any (fun p => (s.pan p).paced)
  let filled := ps.any (fun p => !(s.pan p).waited && !off && decide (levelOf (s.pan p).drove < (s.pan p).lvlNow))
  let cap (p : Nat) : Nat := levelCap (b.rateNext.getD b.rate) ((s.pan p).margin = 2)
  let t := s.setBsk h { b with
    lateCnt := sat32 (b.lateCnt + late)
    stallRamp := if paced then sat32 (b.stallRamp + held) else b.stallRamp
    fillCnt := if filled then sat32 (b.fillCnt + filler) else b.fillCnt }
  ps.foldl (fun t p => t.setPan p (rampPan off (s.atFull p) (cap p) (s.workOf p) (t.pan p))) t

/-- The measurements of a sweep begin, at A = 16, once the outgoing Pan's last block has committed; they write its banks (09,
R289, R292; log entry 75, DEDUCED). -/
def State.startMeasure (s : State) : State :=
  match s.cal.sweep with
  | some w =>
    let v := s.pan w.pan
    if w.handed && w.measAt.isNone && v.lvlNow = 16 && v.ladders.isEmpty && v.samples.isEmpty && v.lowBuf.isNone then
      { s.setPan w.pan { v with a := {}, b := {}, wrUntil := 0 } with
        cal := { s.cal with sweep := some { w with measAt := some s.time } } }
    else s
  | none => s

/-- The next 4 µs interval begins (R176, R178); a start-up sweep that may run now has begun (09, R306). -/
def State.ramp (s : State) (held filler : List Nat) : State :=
  let k := nextDue s.dev.rampK s.time 4000
  let s := { s.at (4000 * k) with dev := { s.dev with rampK := k } }
  let s : State := ((List.range 16).foldl (fun s h => s.rampBsk (held.getD h 0) (filler.getD h 0) h) s).startMeasure
  { s with cal := { s.cal with startAt := if s.startupRuns then some (s.cal.startAt.getD s.time) else none } }

/-- RAMP_INTERVAL. -/
def execRampInterval (held filler : List Nat) (s : State) : Out := .next (if s.clocked then s.ramp held filler else s)

/-! ## The governor (01, R24) -/

/-- The rate a Basket has or is going to. -/
def tRate (b : Basket) : Nat := b.rateNext.getD b.rate

/-- The governor's active limit in watts: HOT_LIM while HOT_IN acts (14, R442). -/
def State.powerLimit (s : State) : Nat :=
  if (s.inp 2).level || s.dev.hotLow then bits s.dev.pwrCfg.toNat 15 0
  else if bit s.dev.pwrCfg.toNat 31 then 1900 else 1700

/-- Baskets the governor steps and counts. The spec does not say whether OFF and RETIRED Baskets count: this model leaves
them out (log entry 135, DESIGN CHOICE). -/
def State.powered (s : State) : List Nat := (List.range 16).filter (fun h => (s.bsk h).st ≠ .off ∧ (s.bsk h).st ≠ .retired)

/-- One step down, or the report that none is left. -/
def State.stepDown (s : State) (excess : Nat) : State :=
  let hs := s.powered.reverse
  match hs.find? (fun h => (s.bsk h).fastGrant && !(s.bsk h).noFast) with
  | some h => s.setBsk h { s.bsk h with noFast := true }
  | none =>
    let top := maxNat (hs.map (fun h => tRate (s.bsk h)))
    match hs.find? (fun h => tRate (s.bsk h) = top && decide (1 < top)) with
    | some h => s.setBsk h { s.bsk h with rateNext := some (top - 1) }
    | none => s.condition 0x06 0 excess

/-- One step up, in the reverse order. -/
def State.stepUp (s : State) : State :=
  let hs := s.powered
  let low := 3 - maxNat (hs.map (fun h => 3 - tRate (s.bsk h)))
  match hs.find? (fun h => tRate (s.bsk h) = low && decide (low < 3)) with
  | some h => s.setBsk h { s.bsk h with rateNext := some (low + 1) }
  | none =>
    match hs.find? (fun h => (s.bsk h).noFast) with
    | some h => s.setBsk h { s.bsk h with noFast := false }
    | none => s

/-- One evaluation of the governor, at the next millisecond, on the mean power and the design power of the rails whose
regulators are silent (14, R430); an excess is reported in whole watts, rounded up (log entry 82,
DEDUCED). -/
def State.govern (s : State) : State :=
  let k := nextDue s.dev.govK s.time 1000000
  let s : State := { s.at (1000000 * k) with dev := { s.dev with govK := k } }
  let lim := s.powerLimit * 1000
  let p := s.dev.avg + s.dev.avgMore
  if lim < p then ({ s with dev := { s.dev with good := 0 } }).stepDown (ceilDiv (p - lim) 1000)
  else if p + 50000 ≤ lim then
    let s : State := { s with dev := { s.dev with good := min 10 (s.dev.good + 1) } }
    if s.dev.good = 10 then s.stepUp else s
  else { s with dev := { s.dev with good := 0 } }

/-- GOVERNOR_EVAL: during a Trivet restart every rate is held (13, R416). -/
def execGovernorEval (s : State) : Out := .next (if s.clocked && (s.trv.ready || !s.trv.up) then s.govern else s)

/-- The governor's step takes effect at the Basket's next group boundary: a step down once the plan of every Pan that takes
work has come down to what the lower rate can fill, so that a halving spreads over its intervals, and at once with RAMP_OFF;
margins follow it (01, R24; 05, R177; 09, R302). -/
def State.rateChange (s : State) (h : Nat) : State :=
  let b := s.bsk h
  match b.rateNext with
  | some r =>
    let ready := (bskPans h).all (fun p =>
      let v := s.pan p
      !takesWork v || decide (v.lvlNow ≤ levelCap r (v.margin = 2)))
    if s.clocked && (decide (b.rate ≤ r) || bit b.seqCfg.toNat 16 || ready) then
      (s.setBsk h { b with rate := r, rateNext := none }).remargin h
    else s
  | none => s

/-- RATE_CHANGE. -/
def execRateChange (h : Nat) (s : State) : Out := guard (decide (h < 16)) (s.rateChange h)

/-! ## Power taps and Coil faults (02, R55; 10, R322) -/

/-- The tap of a band: one that no reading has come from since a reset has stood stale since then (02, Table 02-25). -/
def Pan.tap (v : Pan) (b : Nat) : Tap :=
  let t := tget tapDflt v.taps b
  if t.seen || t.staleAt ≠ 0 then t else { t with staleAt := v.tapsAt }

/-- One reading, and the loss it shows in its second and every further low frame. The spec does not say what a stale frame
between two low ones does: this model counts them from 1 again (log entry 136, DESIGN CHOICE). -/
def readTap (now : Nat) (thr : Nat) (r : TapReading) (t : Tap) : Tap :=
  match r.level with
  | none => { t with stale := true, low := 0, staleAt := if t.stale then t.staleAt else now }
  | some l =>
    let low := if (thr : Int) < -l then t.low + 1 else 0
    { stale := false, level := clampI (-32768) 32767 l, seen := true, staleAt := 0, staleTold := false
      low := low, metAt := if low = 2 then now + 1 else t.metAt }

/-- Put one reading into its Pan. Of two bands lost in one frame, which the spec does not choose between, CHK_MISMATCH names
the one read last (log entry 137, DESIGN CHOICE). -/
def State.tapIn (s : State) (r : TapReading) : State :=
  let v := s.pan r.pan
  let t := readTap s.time (bits v.tapCfg.toNat 7 0) r (v.tap r.band)
  s.setPan r.pan { v with
    taps := tset tapDflt v.taps r.band t
    tapFail := if 2 ≤ t.low ∧ v.mode ≠ .retired then some r.band else v.tapFail }

/-- The Pans of a quadrant. -/
def quadPans (q : Nat) : List Nat := (List.range 68).map (· + 68 * q)

/-- Eight Pans of a quadrant met the loss test on a band at this frame end or one of the two before it, the last of them
now, whether their light has come back since or not. -/
def State.coilLoss (s : State) (q band : Nat) : Bool :=
  let met := ((quadPans q).map (fun p => if (s.pan p).mode = .retired then 0 else ((s.pan p).tap band).metAt)).filter
    (fun t => t ≠ 0 && decide (s.time ≤ t - 1 + 32000))
  decide (8 ≤ met.length) && met.contains (s.time + 1)

/-- The blocks of a Pan that failed by loss of light: those on a ladder for it, and the one it is driving, by step and
stream (10, R322). -/
def State.lostBlocks (s : State) (p : Nat) : List (Nat × Nat) :=
  let v := s.pan p
  ((v.ladders.filter (fun l => l.first = 6)).map (fun l => (l.blk.step, l.blk.sid))) ++
  (match v.tapFail, v.computeQ with
    | some _, .tile u t _ :: _ => match (s.bsk (panBsk p)).mvm? u with
      | some m => if takesWork v && v.sel.holds m.desc t then [(u, m.sid)] else []
      | none => []
    | _, _ => [])

/-- A block lost to a Coil band fault ends the stream of its step (10, R322). -/
def State.loseBlock (s : State) (h p band : Nat) (e : Nat × Nat) : State :=
  match (s.bsk h).rec? e.1 with
  | some r => s.raiseX 0x0101 0x02 p e.2 h r.idx (chkDetail 0xA 6 band 0x3FF p)
  | none => s

/-- A Coil fault takes a Basket out of service: CHK_MISMATCH of class X for each stream with work in the Pots of the failed
blocks, which are discarded without a ladder, and WARMING with a start-up sweep (10, R322). -/
def State.coilBsk (s : State) (band h : Nat) : State :=
  if !inService (s.bsk h) && (s.bsk h).st ≠ .draining then s else
  let s := (bskPans h).foldl (fun s p => (s.lostBlocks p).foldl (fun s e => s.loseBlock h p band e) s) s
  let s := (s.abandonIn h).toWarming h
  let s := s.setBsk h { s.bsk h with coldSweep := true, testDefer := none }
  let s := (bskPans h).foldl (fun s p => s.setPan p { s.pan p with
    tapFail := none, ladders := (s.pan p).ladders.filter (fun l => l.first ≠ 6) }) s
  s.testTurn

/-- A Coil fault of a quadrant, if this frame shows one; its ports go DOWN (10, R322; 11, R344). -/
def State.coilFault (s : State) (q : Nat) : State :=
  match (List.range 4).find? (fun band => s.coilLoss q band) with
  | some band => ((List.range 4).foldl (fun s i => s.coilBsk band (4 * q + i)) s).quadPortsDown q
  | none => s

/-- TAP_READ: the readings latched at the end of an outer frame (02, R55). -/
def execTapRead (readings : List TapReading) (s : State) : Out :=
  guard (readings.all (fun r => decide (r.pan < 272) && decide (r.band < 4)))
    (if s.clocked then
      let k := nextDue s.dev.tapK s.time 16000
      let s := { s.at (16000 * k) with dev := { s.dev with tapK := k } }
      (List.range 4).foldl State.coilFault (readings.foldl State.tapIn s)
    else s)

end Sys2Proof.Machine
end

