-- ==== Sys2Proof/Machine/Kettle.lean ====
section
/-! DEFINITION. The Kettle: loops, set-points, heaters, TEC drive, injection and capture (08, R257 to R286). -/

namespace Sys2Proof.Machine

/-! ## Slots (08, Table 08-1) -/

/-- What a slot's loop holds. -/
inductive SlotKind where
  | pan
  | wave
  | tec
  | power
  | none
  deriving DecidableEq, Repr

/-- The kind of slot n. -/
def kindOf (n : Nat) : SlotKind :=
  let j := n % 80
  if j < 68 then .pan else if j = 68 then .wave else if j = 69 then .tec else if j ≤ 72 then .power else .none

/-- The Pan of a temperature slot. -/
def slotPanOf (n : Nat) : Nat := 68 * (n / 80) + n % 80

/-- `KET_SLOT_CFG` as a number. -/
def Slot.c (v : Slot) : Nat := v.cfg.toNat
/-- MODE. -/
def Slot.cMode (v : Slot) : Nat := bits v.c 2 0
/-- PHASE. -/
def Slot.phase (v : Slot) : Nat := bits v.c 31 28
/-- OUTER_EN. -/
def Slot.outerEn (v : Slot) : Bool := bit v.c 16
/-- SLOW. -/
def Slot.slow (v : Slot) : Bool := bit v.c 17
/-- LINK. -/
def Slot.link (v : Slot) : Bool := bit v.c 18
/-- FF_EN. -/
def Slot.ffEn (v : Slot) : Bool := bit v.c 15
/-- Word k of the coefficient area (08, Table 08-11). -/
def Slot.cw (v : Slot) (k : Nat) : Nat := (tget w32Dflt v.coef k).toNat

/-- Slot n is the TEC or wavelength slot of a Coil whose bridge is held off (08, R276, R278). -/
def State.coilHeld (s : State) (n : Nat) : Bool :=
  let c := s.coil (n / 80)
  (n % 80 = 68 || n % 80 = 69) && (c.xcond || c.contend)

/-! ## Events (08, R285) -/

/-- A Kettle event on slot n, at most once in 1,000 frames under one key; the counters count every one (log entry 74, DEDUCED). -/
def State.ketEvent (s : State) (n key code cls detail : Nat) : State :=
  let v := s.slot n
  let last := tget natDflt v.told key
  if last ≠ 0 ∧ s.ket.frame + 1 < last + 1000 then s
  else (s.setSlot n { v with told := tset natDflt v.told key (s.ket.frame + 1) }).raise code cls 0x03 n detail

/-- Detail of a Kettle event: the slot, or the Coil, in [31:16] below bit 31, the second value in [15:0] (log entry 38, DEDUCED). -/
def ketDetail (a b : Nat) : Nat := shl a 16 + b % 65536

/-! ## Arithmetic (08, R263, R264) -/

/-- Round to nearest, ties away, dropping k fractional bits. -/
def rnd (k : Nat) (n : Int) : Int := divAway n (2 ^ k)
/-- Saturate to 48 bits. -/
def sat48 (x : Int) : Int := clampI (-(2 ^ 47)) (2 ^ 47 - 1) x
/-- Saturate to 32 bits. -/
def satI32 (x : Int) : Int := clampI (-(2 ^ 31)) (2 ^ 31 - 1) x
/-- A native coefficient in units of 2^-47: mantissa and exponent. -/
def coefN (m e : Nat) : Int := sgn 16 m * 2 ^ e

/-- What a stage run gives: its states, v in 2^-32 units, and the value the integrator limit watches, in the same units. -/
structure StageOut where
  st   : Stages
  v    : Int
  lim  : Int

/-- The PID stage on error e, in 2^-32 units (08, R265, R266); `pre` is the value the first output must take. -/
def pid (cw : Nat → Nat) (frozen : Bool) (ilim : Int) (pre : Option Int) (t : Stages) (e : Int) : StageOut :=
  let x := bits (cw 10) 5 0
  let kp := coefN (cw 0) x
  let ki := coefN (cw 1) x
  let kd := coefN (cw 2) x
  let kf := coefN (cw 3) x
  match pre with
  | some o =>
    let i := clampI (-ilim) ilim (sat48 (rnd 47 (o * 2 ^ 47 - kp * e)))
    { st := { t with i := i, f := e }, v := sat48 (rnd 47 (kp * e + i * 2 ^ 47)), lim := i }
  | none =>
    let i := if frozen then t.i else clampI (-ilim) ilim (sat48 (rnd 47 (t.i * 2 ^ 47 + ki * e)))
    let f := sat48 (rnd 47 (t.f * 2 ^ 47 + kf * (e - t.f)))
    { st := { t with i := i, f := f }, v := sat48 (rnd 47 (kp * e + i * 2 ^ 47 + kd * (f - t.f))), lim := i }

/-- The two biquad stages over a rule for one stage's sum; stage 1 integrates (08, R265, R266). -/
def biquads (sum : Nat → List Int → Int) (frozen : Bool) (ilim : Int) (t : Stages) (e : Int) : StageOut :=
  let y := if frozen then t.y1 else clampI (-ilim) ilim (sum 0 [e, t.x1, t.x2, t.y1, t.y2])
  let v := sum 5 [y, t.u1, t.u2, t.v1, t.v2]
  { st := { t with x1 := e, x2 := t.x1, y1 := y, y2 := t.y1, u1 := y, u2 := t.u1, v1 := v, v2 := t.v1 }, v := v, lim := y }

/-- A native biquad sum: coefficients from k on under the stage's exponent, rounded once. -/
def natSum (cw : Nat → Nat) (k : Nat) (xs : List Int) : Int :=
  let e := if k = 0 then bits (cw 10) 5 0 else bits (cw 10) 13 8
  sat48 (rnd 47 (sumInt (xs.zipIdx.map (fun x => coefN (cw (k + x.2)) e * x.1))))

/-- The shift of coefficient k in TL-8 mode. -/
def tlShift (cw : Nat → Nat) (k : Nat) : Nat :=
  if k < 6 then bits (cw 10) (5 * k + 4) (5 * k) else bits (cw 11) (5 * (k - 6) + 4) (5 * (k - 6))

/-- A TL-8 sum: shifted terms and their sum in 64 bits (08, R264; log entry 69, DEDUCED). -/
def tlSum (cw : Nat → Nat) (k : Nat) (xs : List Int) : Int :=
  let t := sumInt (xs.zipIdx.map (fun x => sgn 32 (cw (k + x.2)) * x.1 / 2 ^ tlShift cw (k + x.2)))
  satI32 (sgn 64 (unsgn 64 t))

/-- The stages of a MODE on a signal of 16 fractional bits; limits in 16 fractional bits (08, R263 to R266). -/
def stages (mode : Nat) (cw : Nat → Nat) (frozen : Bool) (ilim : Int) (pre : Option Int) (t : Stages) (e : Int) : StageOut :=
  match mode with
  | 1 => pid cw frozen (ilim * 65536) pre t (e * 65536)
  | 2 => biquads (natSum cw) frozen (ilim * 65536) t (e * 65536)
  | 3 =>
    let o := biquads (tlSum cw) frozen ilim t e
    { o with v := o.v * 65536, lim := o.lim * 65536 }
  | _ => { st := t, v := 0, lim := 0 }

/-- The ramp; the slew is two's complement as Table 08-21 has it (08, R267). -/
def rampTo (r t sl : Int) : Int :=
  if sl = 0 ∨ ((t - r).natAbs : Int) ≤ sl then t else if r < t then r + sl else r - sl

/-! ## Feed-forward (08, R270) -/

/-- The planned level of a Pan in interval k, when interval `now` is the last that has begun. -/
def Pan.lvl (p : Pan) (now k : Nat) : Nat :=
  if k < now then p.lvlPrev else if k = now then p.lvlNow else if k = now + 1 then p.lvlNext else p.lvlSent

/-- Planned activity at frame f, in 1/64 (08, R270). -/
def actAt (p : Pan) (now f : Nat) : Int :=
  let k := f / 4
  4 * (p.lvl now (k - 1) : Int) + ((f % 4 : Nat) + 1) * ((p.lvl now k : Int) - p.lvl now (k - 1))

/-- The neighbours of Pan p: NB0 to NB3 (08, R259). -/
def neighbours (p : Nat) : List (Option Nat) :=
  [if p % 17 = 0 then none else some (p - 1), if p % 17 = 16 then none else some (p + 1),
   if p % 68 < 17 then none else some (p - 17), if 51 ≤ p % 68 then none else some (p + 17)]

/-- The feed-forward term of slot n in frame f, in 2^-53 units. -/
def State.feedFwd (s : State) (n f : Nat) : Int :=
  let v := s.slot n
  let p := slotPanOf n
  let lead := min 8 (bits v.c 27 24)
  let e := bits (v.cw 30) 21 16
  let nb := [bits (v.cw 28) 31 16, bits (v.cw 29) 15 0, bits (v.cw 29) 31 16, bits (v.cw 30) 15 0]
  let a (p : Nat) : Int := actAt (s.pan p) s.dev.rampK (f + lead)
  coefN (bits (v.cw 28) 15 0) e * a p +
    sumInt (List.zipWith (fun m q => match q with
      | some q => coefN m e * a q
      | none => 0) nb (neighbours p))

/-! ## Heaters (08, R271 to R273) -/

/-- What segment g of slot n does at output u (16 fractional bits, mW) from a supply of vmv mV. -/
structure SegOut where
  /-- Its current as the DAC's step gives it, in 150 mA / 4,096. -/
  code : Nat
  /-- In compliance, held at its limit. -/
  comp : Bool
  /-- Above 90 % of its limit. -/
  hot  : Bool
  deriving DecidableEq, Repr

/-- The conversion of one segment: lim_s is the lower of 150 mA and what its resistance draws below 0.35 V of room, and a
current is never below 0; rounded to the DAC's nearest step (08, R271, R272; log entry 140, DESIGN CHOICE). -/
def segment (n g : Nat) (u : Int) (vmv : Nat) : SegOut :=
  -- currents in mA over `den`; the resistance's limit over `res` as well
  let i := (Config.segGain n g : Int) * u * 1000
  let den := 4 * (vmv : Int) * 2 ^ 32
  let res := (Config.segRes n g : Int)
  let room := ((vmv : Int) - 350) * 1000
  let over150 := decide (150 * den < i)
  let overRes := decide (room * den < i * res)
  let step (num d : Int) : Nat := (clampI 0 4096 (divAway (num * 4096) (150 * d).toNat)).toNat
  { code := if overRes ∧ room < 150 * res then step room res else if over150 then 4096 else step i den
    comp := over150 || overRes
    hot := decide (135 * den < i) || decide (9 * room * den < 10 * i * res) }

/-- The supply the conversion of frame f uses: VHTR as the frame latched it, its average over the frame before (Table 08-2),
with VFF_EN, else 3.300 V (08, R271; log entry 140, DESIGN CHOICE). -/
def State.vhtrOf (s : State) (n : Nat) : Nat := if bit (s.slot n).c 14 then tget natDflt s.ket.vhtr (n / 80) else 3300

/-- A sweep of Pan p, ramping or under way, is discarded without a CAL_TIMEOUT (08, R273; 09, Table 09-3). -/
def State.discardSweep (s : State) (p : Nat) : State :=
  match s.cal.sweep with
  | some w => if w.pan = p then { s with cal := { s.cal with sweep := none } } else s
  | none => s

/-- The Pan of a slot is thermal-limited (08, R273). With no SPARE to take its slot a Pan in service stays there (log
entry 39, DEDUCED). -/
def State.thermalLimit (s : State) (n segs : Nat) : State :=
  let p := slotPanOf n
  let s := s.setSlot n { s.slot n with therm := true }
  let s := s.setPan p { s.pan p with thermAt := s.time }
  let s := s.ketEvent n 0x10603 0x0603 2 (2 ^ 31 + ketDetail n segs)
  match (s.pan p).mode with
  | .inService => match s.takeSpare (panBsk p) with
    | some q => (s.discardSweep p).toCalibrating p 2 (some q)
    | none => s
  | .suspect => match s.takeSpare (panBsk p) with
    | some q => s.toCalibrating p 2 (some q)
    | none => s
  | .calibrating =>
    let s := s.discardSweep p
    s.setPan p { s.pan p with reason := 2 }
  | _ => s

/-- A Pan slot's conversion: compliance, its timer, and the thermal limit. -/
def State.heat (s : State) (n : Nat) (u : Int) : State × Bool :=
  let v := s.slot n
  let seg := (List.range 4).map (fun g => segment n g u (s.vhtrOf n))
  let segs := (seg.filter (·.comp)).length
  let comp := decide (0 < segs)
  let hot := seg.any (fun x => x.comp || x.hot)
  let clear := if comp then 0 else min 1000 (v.cClear + 1)
  let timer := if comp then v.cTimer + 1 else if clear = 1000 then 0 else v.cTimer
  let s := s.setSlot n { v with
    segsNext := some (seg.map (·.code)), compl := comp, cClear := clear, cTimer := timer, coolRun := if hot then 0 else min 10000 (v.coolRun + 1)
    complCnt := if comp && !v.compl then sat16 (v.complCnt + 1) else v.complCnt }
  let s := if comp && !v.compl then s.ketEvent n 0x0603 0x0603 0 (ketDetail n segs) else s
  (if comp && timer = 10000 && !v.therm then s.thermalLimit n segs else s, comp)

/-! ## One slot in one frame (08, R265) -/

/-- An integrator reaches its limit: counted and recorded on entry (08, R266). -/
def State.clampMark (s : State) (n : Nat) (was now outer : Bool) : State :=
  let v := s.slot n
  let s := s.setSlot n (if outer then { v with isatO := now } else { v with isat := now })
  if now && !was then
    (s.setSlot n { s.slot n with clampCnt := sat16 (v.clampCnt + 1) }).ketEvent n 0x0602 0x0602 0 (ketDetail n (b2n outer))
  else s

/-- A limit word as a magnitude in 2^-32 units reached by x. -/
def atLimit (lim x : Int) : Bool := decide (lim * 65536 ≤ x.natAbs)

/-- What a structural test adds to the inner set-point of a Pan: up to 10 °C over 3 ms, and back from 15 ms on; the outer
loop holds meanwhile (10, R333, Table 10-10; log entry 141, DESIGN CHOICE). -/
def State.testOfs (s : State) (n : Nat) : Int :=
  let b := s.bsk (panBsk (slotPanOf n))
  if b.st ≠ .test ∨ kindOf n ≠ .pan then 0 else
  let e := s.time - b.testFrom
  let up := min e 3000000
  let down := min (e - 15000000) 3000000
  ((up - down) * 655360 / 3000000 : Nat)

/-- The outer part of slot n, in its phase frame: the ramp, then the stages unless the input is stale (09, R307; log entry 70, DEDUCED). -/
def State.outerStep (s : State) (n : Nat) (inj : Int) : State :=
  let v := s.slot n
  let r := rampTo v.ramp v.spLatched v.slew.toInt
  if v.refStale || s.testOfs n ≠ 0 then s.setSlot n { v with ramp := r } else
  let trim := rnd 47 (coefN (bits (v.cw 27) 15 0) (bits (v.cw 27) 21 16) * (s.pan (slotPanOf n)).trimIn)
  let eo := satI32 (r + inj - (v.lastRef + trim))
  let lim := ((sgn 32 (v.cw 26)).natAbs : Int)
  let o := stages v.mode (fun k => v.cw (12 + k)) (v.osatO || v.osat) lim (if v.preloadO then some (v.outerOut * 65536) else none) v.outer eo
  let vc := clampI (sgn 32 (v.cw 24) * 65536) (sgn 32 (v.cw 25) * 65536) o.v
  let s := s.setSlot n { v with ramp := r, outer := o.st, outerOut := satI32 (rnd 16 vc), osatO := decide (vc ≠ o.v), preloadO := false }
  s.clampMark n v.isatO (atLimit lim o.lim) true

/-- Slot n runs frame f with the engine's injection value (08, R265). -/
def State.slotStep (s : State) (n f : Nat) (injVal : Int) : State :=
  let injSel := bits (s.slot n).c 21 20
  let injSp := if injSel = 1 then injVal else 0
  let injOut := if injSel = 2 then injVal else 0
  let s := if (s.slot n).outerEn && f % 16 = (s.slot n).phase then s.outerStep n injSp else s
  let v := s.slot n
  let r := rampTo v.ramp v.spLatched v.slew.toInt
  let (target, ramp) :=
    if v.link then ((s.slot (n - 1)).out, v.ramp) else if v.outerEn then (v.outerOut, v.ramp) else (r, r)
  let target := satI32 (target + s.testOfs n)
  let e := satI32 (target + (if v.outerEn then 0 else injSp) - v.lastIn)
  let ff := if v.ffEn then s.feedFwd n f else 0
  let lim := ((v.ilim.toInt).natAbs : Int)
  let pre := if v.preload && v.mode = 1 then some (rnd 21 (v.out * 2 ^ 37 - ff - injOut * 2 ^ 37)) else none
  let o := stages v.mode v.cw v.osat lim pre v.inner e
  let x := o.v * 2 ^ 21 + ff + injOut * 2 ^ 37
  let xc := clampI (v.omin.toInt * 2 ^ 37) (v.omax.toInt * 2 ^ 37) x
  let u := satI32 (rnd 37 xc)
  let s := s.setSlot n { v with
    ramp := ramp, target := target, err := e, inner := o.st, osat := decide (xc ≠ x), outNext := some u, preload := false }
  let s := s.clampMark n v.isat (atLimit lim o.lim) false
  match kindOf n with
  | .pan =>
    let (s, comp) := s.heat n u
    s.setSlot n { s.slot n with osat := (s.slot n).osat || comp }
  | _ => s

/-- Lane-cycles slot n costs in frame f (08, Table 08-3). -/
def slotCost (v : Slot) (f : Nat) : Nat :=
  let st := match v.mode with
    | 1 => 1
    | 2 => 2
    | _ => 4
  st + 1 + b2n v.ffEn + (if v.outerEn && f % 16 = v.phase then st + 1 else 0)

/-- Slot n runs in frame f. -/
def State.slotRuns (s : State) (n f : Nat) : Bool :=
  let v := s.slot n
  v.st = .run && (!v.slow || f % 16 = v.phase) && !s.coilHeld n

/-- The slots of a frame that finish by cycle 249 and those that miss it: each goes to the lane that is free first (08, R261,
R262; log entry 68, DEDUCED). -/
def schedule (cost : Nat → Nat) : List Nat → Nat → Nat → List Nat × List Nat
  | [], _, _ => ([], [])
  | n :: t, a, b =>
    let lo := min a b
    let hi := max a b
    if lo + cost n ≤ 240 then
      let r := schedule cost t (lo + cost n) hi
      (n :: r.1, r.2)
    else
      let r := schedule cost t 240 hi
      (r.1, n :: r.2)

/-- A slot misses its frame (08, R262). -/
def State.missSlot (s : State) (load n : Nat) : State :=
  let v := s.slot n
  (s.setSlot n { v with miss := sat16 (v.miss + 1) }).ketEvent n 0x0601 0x0601 0 (ketDetail n load)

/-! ## Injection (08, R283) -/

/-- The injection generator's value for this frame, and its next state. -/
def injStep (k : Engine) : Engine :=
  if !k.injRun then { k with injOut := 0, injStarted := false } else
  let c := k.injCfg.toNat
  if bits c 30 29 = 0 then
    let up := bit k.lfsr 14 = Config.prbsUp
    let out := if up then k.injAmp.toInt else -k.injAmp.toInt
    if bits c 23 16 ≤ k.chip then
      let nb := (bit k.lfsr 14) != (bit k.lfsr 13)
      { k with injOut := out, chip := 0, lfsr := k.lfsr * 2 % 32768 + b2n nb }
    else { k with injOut := out, chip := k.chip + 1 }
  else
    let n := 2 ^ min 24 (max 10 (bits c 28 24))
    let inc : Int := k.injF0.toNat + ((k.injF1.toNat : Int) - k.injF0.toNat) * k.sweepAt / (n : Int)
    let out := rnd 17 (k.injAmp.toInt * Config.sine k.phase)
    { k with
      injOut := out, phase := k.phase + BitVec.ofInt 32 inc, sweepAt := k.sweepAt + 1
      injRun := decide (k.sweepAt + 1 < n) }

/-! ## Capture (08, R284) -/

/-- The slot an engine captures. -/
def capSlot (e : Nat) (k : Engine) : Nat :=
  let j := bits k.capCfg.toNat 15 7
  80 * e + (if 79 < j then 0 else j)

/-- The capture trigger is met in this frame; `was` is the slot before the frame, `missed` that it missed it. -/
def capTrig (k : Engine) (was now : Slot) (missed : Bool) : Bool :=
  match bits k.capCfg.toNat 30 28 with
  | 1 => k.injStarted
  | 2 => (now.isat && !was.isat) || (now.isatO && !was.isatO)
  | 3 => now.compl
  | 4 => missed
  | _ => true

/-- Samples written into the buffer until it is full. -/
def capPut (k : Engine) : List Int → Engine
  | [] => k
  | x :: t =>
    if 16384 ≤ k.capCount then k
    else capPut { k with capBuf := tins k.capCount (BitVec.ofInt 32 x) k.capBuf, capCount := k.capCount + 1 } t

/-- One frame of an engine's capture. -/
def capStep (k : Engine) (was now : Slot) (missed : Bool) : Engine :=
  if !k.armed then k else
  let on := k.triggered || capTrig k was now missed
  if !on then k else
  let c := k.capCfg.toNat
  let u := now.outNext.getD now.out
  let sigs := (if bit c 24 then [now.lastIn] else []) ++ (if bit c 25 then [now.err] else []) ++
    (if bit c 26 then [now.target] else []) ++ (if bit c 27 then [u] else [])
  let k := { k with triggered := true }
  let k := if k.decim = 0 then capPut k sigs else k
  let k := { k with decim := if bits c 23 16 ≤ k.decim then 0 else k.decim + 1 }
  if 16384 ≤ k.capCount then
    { k with armed := false, capDone := true, capCfg := k.capCfg &&& 0x7FFFFFFF#32 }
  else k

/-! ## Slot commands (08, R280, R281) -/

/-- Bits of the coefficient area that are not named for a MODE; with MODE = OFF those that neither layout names (log entry 71, DEDUCED). -/
def coefRsv (mode k : Nat) : Nat :=
  let nat := mode = 1 || mode = 2
  let j := k % 12
  if k < 24 then
    if j < 10 then (if nat then 0xFFFF0000 else 0)
    else if j = 10 then (if nat then 0xFFFFC0C0 else 0xC0000000)
    else (if nat then 0xFFFFFFFF else 0xFFF00000)
  else if k = 27 || k = 30 then 0xFFC00000
  else if k = 31 then 0xFFFFFFFF else 0

/-- A field is set that Table 08-8 does not allow. -/
def cfgBad (kind : SlotKind) (v : Slot) : Bool :=
  let ff := v.ffEn || bit v.c 14
  decide (3 < v.cMode) ||
  (match kind with
    | .pan => v.link || v.slow
    | .wave => v.outerEn || v.link || v.slow || ff
    | .tec => v.outerEn || v.slow || ff
    | .power => v.outerEn || v.link || !v.slow || ff
    | .none => v.cMode != 0 || v.outerEn || v.link || v.slow || ff)

/-- A COMMIT is refused (08, R280, R281). -/
def commitBad (n : Nat) (v : Slot) : Bool :=
  cfgBad (kindOf n) v || (List.range 32).any (fun k => meets' (v.cw k) (coefRsv v.cMode k)) ||
  (bit v.c 19 && v.cMode != v.mode)
where
  meets' (a m : Nat) : Bool := (a &&& m) ≠ 0

/-- A COMMIT takes effect on a STOPPED slot (08, R280, R281). -/
def commitSlot (n : Nat) (v : Slot) : Slot :=
  if commitBad n v then { v with st := .stopped, ign := true }
  else if v.cMode = 0 then { v with st := .stopped, mode := 0, out := 0, outNext := none }
  else if bit v.c 19 then { v with st := .run }
  else { v with
    st := .run, mode := v.cMode, inner := {}, outer := {}, ramp := v.spLatched, preload := true, preloadO := true, osat := false
    osatO := false, isat := false, isatO := false }

/-- STOP. -/
def stopSlot (v : Slot) : Slot :=
  match v.st with
  | .run => { v with st := .stopping }
  | .pendingEnable => { v with st := .stopping }
  | .hold => { v with st := .stopping }
  | _ => v

/-- COMMIT. -/
def commitCmd (n : Nat) (v : Slot) : Slot :=
  match v.st with
  | .stopped => commitSlot n v
  | .stopping => { v with st := .pendingEnable }
  | _ => { v with ign := true }

/-- SLOT_STOP. -/
def execSlotStop (n : Nat) (s : State) : Out := guard (decide (n < 320)) (s.setSlot n (stopSlot (s.slot n)))
/-- SLOT_COMMIT. -/
def execSlotCommit (n : Nat) (s : State) : Out := guard (decide (n < 320)) (s.setSlot n (commitCmd n (s.slot n)))

/-- SLOT_CNT_CLR: counters, IGN and the event rate limits (08, Table 08-19). -/
def clrSlot (v : Slot) : Slot :=
  { v with spLost := 0, miss := 0, clampCnt := 0, complCnt := 0, ign := false, told := [] }

/-- SLOT_CNT_CLR. -/
def execSlotCntClr (n : Nat) (s : State) : Out := guard (decide (n < 320)) (s.setSlot n (clrSlot (s.slot n)))

/-- `KET_CTL.CNT_CLR`: every LOAD peak and MISS (08, Table 08-13). -/
def State.ketClear (s : State) : State :=
  (List.range 4).foldl (fun s e => s.setEng e { s.eng e with peak := 0, miss := false }) s

/-- KET_CNT_CLR. -/
def execKetCntClr (s : State) : Out := .next s.ketClear

/-- A set-point write, latched with the next frame (08, R268, R269). -/
def State.spWrite (s : State) (n : Nat) (v : W32) : State :=
  let t := s.slot n
  if t.link then s else s.setSlot n { t with sp := v, spWrites := t.spWrites + 1 }

/-- SP_WRITE. -/
def execSpWrite (n : Nat) (v : W32) (s : State) : Out := guard (decide (n < 320)) (s.spWrite n v)

/-! ## The frame (08, R260) -/

/-- Cycle 0 for slot n: the last output applied, a stop that is over, the target latched, the writes it supersedes counted. -/
def cycle0 (held : Bool) (n : Nat) (v : Slot) : Slot :=
  let v := { v with
    out := if held && n % 80 = 69 then 0 else v.outNext.getD v.out, outNext := none, spLatched := v.sp.toInt, spWrites := 0
    spLost := sat16 (v.spLost + (v.spWrites - 1)), segs := v.segsNext.getD v.segs, segsNext := none
    inner := if held && n % 80 = 69 then {} else v.inner }
  let v := match v.st with
    | .stopping => { v with st := .stopped }
    | .pendingEnable => commitSlot n { v with st := .stopped }
    | _ => v
  if n % 80 = 68 then
    (match v.st with
      | .run => if held then { v with st := .hold } else v
      | .hold => if held then v else { v with st := .run }
      | _ => v)
  else v

/-- Cycle 0 of slot n, and SP_RATE for the set-point writes that its latched one supersedes (08, R268, Table 08-4). -/
def State.slotStart (s : State) (n : Nat) : State :=
  let v := s.slot n
  let s := s.setSlot n (cycle0 (s.coilHeld n) n v)
  if v.spWrites ≤ 1 then s else s.ketEvent n 0x0605 0x0605 0 (ketDetail n (v.spWrites - 1))

/-- One slot input latched; an outer input, and a power slot's, is one of a whole outer frame, latched as the next begins, and
a stale one holds the last valid value. An unassigned slot has no input (08, R258, R260, Table 08-2; 09, R307). -/
def State.latchIn (f : Nat) (s : State) (x : SlotInput) : State :=
  let v := s.slot x.slot
  let outer := f % 16 = 0
  match kindOf x.slot with
  | .none => s
  | .power => if outer then s.setSlot x.slot { v with lastIn := satI32 x.inner } else s
  | .pan =>
    let s := s.setSlot x.slot { v with
      lastIn := satI32 x.inner, lastRef := if outer ∧ !x.stale then satI32 x.ref else v.lastRef
      refStale := if outer then x.stale else v.refStale }
    if outer then
      let p := s.pan (slotPanOf x.slot)
      s.setPan (slotPanOf x.slot) { p with
        refStale := x.stale, refStaleAt := if x.stale && !p.refStale then s.time else p.refStaleAt
        refStaleTold := p.refStaleTold && x.stale }
    else s
  | _ => s.setSlot x.slot { v with lastIn := satI32 x.inner }

/-- An outer frame begins: the blind-trim offsets of the one that ended stand in it (08, R260; log entry 142, DEDUCED). -/
def State.outerStart (s : State) : State :=
  (List.range 272).foldl (fun s p => if (s.pan p).trimIn = (s.pan p).trimOfs then s else s.setPan p { s.pan p with trimIn := (s.pan p).trimOfs }) s

/-- Coil q's lock window on its discriminator error (08, R279; log entry 73, DEDUCED). -/
def State.lockStep (s : State) (q : Nat) : State :=
  let w := s.slot (80 * q + 68)
  let c := s.coil q
  let outside := decide ((bits c.win.toNat 15 0) * 65536 < (w.target - w.lastIn).natAbs * 100)
  let o := if outside then min 16 (c.outRun + 1) else 0
  let i := if outside then 0 else min 1000 (c.inRun + 1)
  let now := if o = 16 then true else if i = 1000 then false else c.unlock
  let s := s.setCoil q { c with
    outRun := o, inRun := i, unlock := now, everLocked := c.everLocked || (w.st = .run && i = 1000) }
  if now = c.unlock then s else s.condition 0x02 q (b2n now)

/-- Engine e runs frame f. -/
def State.engineFrame (s : State) (f e : Nat) : State :=
  let k := injStep (s.eng e)
  let order := (List.range 80).map (fun j => 80 * e + (k.startSlot + j) % 80)
  let run := order.filter (fun n => s.slotRuns n f)
  let cost (n : Nat) : Nat := slotCost (s.slot n) f
  let load := sumNat (run.map cost)
  let (done, missed) := schedule cost run 0 0
  let was := s.slot (capSlot e k)
  let s := done.foldl (fun s n => s.slotStep n f k.injOut) s
  let s := missed.foldl (fun s n => s.missSlot load n) s
  let k := { k with
    load := load, peak := max k.peak load, miss := k.miss || !missed.isEmpty
    startSlot := match missed with
      | n :: _ => n % 80
      | [] => 0 }
  let k := capStep k was (s.slot (capSlot e k)) (missed.contains (capSlot e k))
  s.setEng e { k with injStarted := false }

/-- A whole frame. -/
def State.frame (s : State) (inp : KetInputs) : State :=
  let f := nextDue s.ket.frame s.time 1000
  let s := s.at (1000 * f)
  let s : State := { s with ket := { s.ket with
    frame := f, vhtr := (inp.vhtr.take 4).zipIdx.foldl (fun t x => tset natDflt t x.2 x.1) s.ket.vhtr } }
  let s := (List.range 320).foldl State.slotStart s
  let s := if f % 16 = 0 then s.outerStart else s
  let s := inp.slots.foldl (State.latchIn f) s
  let s := (List.range 4).foldl (fun s e => s.engineFrame f e) s
  (List.range 4).foldl State.lockStep s

/-- KETTLE_FRAME: the next inner frame, with the inputs it latches (08, R260). -/
def execKettleFrame (inp : KetInputs) (s : State) : Out :=
  guard (inp.slots.all (fun x => decide (x.slot < 320))) (if s.clocked then s.frame inp else s)

/-! ## TEC drive (08, R275 to R278) -/

/-- A pattern HA, HB, LA, LB, bit 3 to bit 0, that commands both gates of a leg. -/
def crosses (g : BitVec 4) : Bool := (bit g.toNat 3 && bit g.toNat 1) || (bit g.toNat 2 && bit g.toNat 0)

/-- `KET_TEC_OVRq` has effect: debug unlocked, and slot 80q + 69 STOPPED (08, R277). -/
def State.ovrLive (s : State) (q : Nat) : Bool := !s.fuseValid 3 && (s.slot (80 * q + 69)).st = .stopped

/-- The override's gate pattern while it is enabled and has effect. -/
def State.ovrGates (s : State) (q : Nat) : Option (BitVec 4) :=
  let o := (s.coil q).tecOvr
  if s.ovrLive q && bit o.toNat 4 then some (o.setWidth 4) else none

/-- t_on in ns of a duty of 16 fractional bits (08, R275). -/
def tOn (duty : Int) : Nat := (divAway (duty.natAbs * 2000) 65536).toNat

/-- The dead time in force: below 40 ns it acts as 40 (08, R276, Table 08-16). -/
def Coil.dead (c : Coil) : Nat := max 40 (bits c.tecCfg.toNat 15 8)

/-- The gates HA, HB, LA, LB that a duty drives t ns into its period (08, Table 08-5). -/
def driveGates (duty : Int) (dead t : Nat) : BitVec 4 :=
  let on := decide (t < tOn duty)
  let low := decide (tOn duty + dead ≤ t) && decide (t < 2000 - dead)
  if duty = 0 then 0
  else if 0 < duty then (if on then 0b1001#4 else if low then 0b0011#4 else 0b0001#4)
  else (if on then 0b0110#4 else if low then 0b0011#4 else 0b0010#4)

/-- The gate commands of a Coil's bridge at a moment: the PWM's, or those an override set. -/
def Coil.command (c : Coil) (now : Nat) : BitVec 4 :=
  if c.duty = 0 then c.gates else driveGates c.duty c.dead (((now : Int) - c.periodAt) % 2000).toNat

/-- The other gate of a gate's leg, as bits 3 to 0 of HA, HB, LA, LB. -/
def otherGate (k : Nat) : Nat := (k + 2) % 4

/-- The time from which the dead-time rule lets gate k turn on: 40 ns after the other gate of its leg was last on (08, R276). -/
def Coil.freeFrom (c : Coil) (now k : Nat) : Nat :=
  let last := (List.range 40).find? (fun i => decide (i ≤ now) && bit (c.command (now - i)).toNat (otherGate k))
  max (c.gateHold.getD (3 - k) 0) (match last with
    | some i => now - i + 40
    | none => 0)

/-- The gate commands change: each gate waits out the dead time of its leg (08, R275 to R277). -/
def Coil.gatesTo (c : Coil) (now : Nat) (duty : Int) (gates : BitVec 4) (periodAt : Nat) : Coil :=
  { c with
    duty := duty, gates := gates, periodAt := periodAt, offPeriod := false
    gateHold := [c.freeFrom now 3, c.freeFrom now 2, c.freeFrom now 1, c.freeFrom now 0] }

/-- The gates that a Coil's bridge has on at a moment: those commanded, after the dead time of the leg; none with its light
out or its outputs in contention (08, R276 to R278). -/
def Coil.driven (c : Coil) (now : Nat) : BitVec 4 :=
  if c.dark || c.contend || c.xcond then 0 else
  let on (k : Nat) : Nat := if bit (c.command now).toNat k && decide (c.gateHold.getD (3 - k) 0 ≤ now) then 2 ^ k else 0
  BitVec.ofNat 4 (on 3 + on 2 + on 1 + on 0)

/-- Cross-conduction found on Coil q (08, R276). -/
def State.crossCond (s : State) (q : Nat) (g : BitVec 4) : State :=
  let s := s.setCoil q { (s.coil q).gatesTo s.time 0 0 s.time with xcond := true }
  let t := 80 * q + 69
  let s := s.setSlot t { s.slot t with out := 0, outNext := none }
  let w := s.slot (80 * q + 68)
  let s := if w.st = .run then s.setSlot (80 * q + 68) { w with st := .hold, outNext := none } else s
  s.ketEvent t 0x0604 0x0604 0 (ketDetail q g.toNat)

/-- The next period of Coil q. -/
def State.period (s : State) (q : Nat) : State :=
  let c := s.coil q
  if c.xcond || c.contend || c.dark then s.setCoil q (c.gatesTo s.time 0 0 s.time) else
  match s.ovrGates q with
  | some g => if crosses g then s.crossCond q g else s.setCoil q (c.gatesTo s.time 0 g s.time)
  | none =>
    let m : Int := 256 * bits c.tecCfg.toNat 7 0
    let u := clampI (-m) m (s.slot (80 * q + 69)).out
    let u := if tOn u < 20 then 0 else u
    if (0 < c.duty ∧ u < 0) ∨ (c.duty < 0 ∧ 0 < u) then
      s.setCoil q { c.gatesTo s.time 0 0 s.time with offPeriod := true }
    else s.setCoil q (c.gatesTo s.time u 0 s.time)

/-- PWM_PERIOD: the next period begins; `glitch` gives gate commands that a fault forces, per Coil. -/
def execPwmPeriod (glitch : List (Nat × BitVec 4)) (s : State) : Out :=
  guard (glitch.all (fun e => decide (e.1 < 4)))
    (if s.clocked then
      let k := nextDue s.ket.pwm s.time 2000
      let s := { s.at (2000 * k) with ket := { s.ket with pwm := k } }
      let s := (List.range 4).foldl State.period s
      glitch.foldl (fun s e => if crosses e.2 && !(s.coil e.1).xcond then s.crossCond e.1 e.2 else s) s
    else s)

/-- Coil q's bridge is free again: the TEC slot restarts with zero state, the wavelength slot leaves HOLD at the next frame
(08, R276, R278). -/
def State.releaseCoil (s : State) (q : Nat) : State :=
  let t := 80 * q + 69
  s.setSlot t { s.slot t with out := 0, outNext := none, inner := {}, preload := false }

/-- Writing 1 to `KET_STAT.XCOND` for Coil q: it latches again at once while its cause persists (08, R276). -/
def State.xcondClear (s : State) (q : Nat) : State :=
  let c := s.coil q
  if !c.xcond then s else
  let s := (s.setCoil q { c with xcond := false }).releaseCoil q
  match s.ovrGates q with
  | some g => if crosses g then s.crossCond q g else s
  | none => s

/-- XCOND_CLEAR. -/
def execXcondClear (q : Nat) (s : State) : Out := guard (decide (q < 4)) (s.xcondClear q)

/-! ## Injection, capture and retest commands -/

/-- The engine `KET_ENG_SEL` names. -/
def State.engNo (s : State) : Nat := bits s.ket.engSel.toNat 1 0

/-- A write to `KET_INJ_CFG` with RUN = 1; one with a reserved TYPE is ignored whole, and a generator that runs goes on as it
was (08, Table 08-17; log entry 143, DEDUCED). -/
def State.injStart (s : State) (cfg : W32) : State :=
  if 1 < bits cfg.toNat 30 29 then s else
  s.setEng s.engNo { s.eng s.engNo with
    injCfg := cfg &&& 0x7FFF0000#32, injRun := true, injStarted := true, lfsr := 0x7FFF, chip := 0, phase := 0, sweepAt := 0 }

/-- INJ_START. -/
def execInjStart (cfg : W32) (s : State) : Out := .next (s.injStart cfg)

/-- A write to `KET_INJ_CFG` with RUN = 0. -/
def State.injStop (s : State) (cfg : W32) : State :=
  s.setEng s.engNo { s.eng s.engNo with injCfg := cfg &&& 0x7FFF0000#32, injRun := false, injOut := 0, injStarted := false }

/-- INJ_STOP. -/
def execInjStop (cfg : W32) (s : State) : Out := .next (s.injStop cfg)

/-- A write to `KET_CAP_CFG` with ARM = 1 (08, R284). -/
def State.capArm (s : State) (cfg : W32) : State :=
  s.setEng s.engNo { s.eng s.engNo with
    capCfg := (cfg &&& 0x7FFFFF80#32) ||| 0x80000000#32, armed := true, triggered := false, decim := 0, capDone := false
    capCount := 0 }

/-- CAP_ARM. -/
def execCapArm (cfg : W32) (s : State) : Out := .next (s.capArm cfg)

/-- THERMAL_RETEST: the retest of Pan p, due 1 s after its limit and every 1 s on (08, R274; 02, Table 02-14). -/
def State.retest (s : State) (p : Nat) : State :=
  let n := panSlot p
  let v := s.slot n
  if !v.therm then s else
  let due := (s.pan p).thermAt + 1000000000
  let s := s.at due
  let s := s.setPan p { s.pan p with thermAt := due }
  if v.coolRun < 10000 then s else
  let s := s.setSlot n { v with therm := false }
  let q := s.pan p
  if q.mode = .calibrating ∧ q.reason = 2 then
    (s.setPan p { q with mode := .spare, reason := 0, slot := none }).tellSpares (panBsk p)
  else s

/-- THERMAL_RETEST. -/
def execThermalRetest (p : Nat) (s : State) : Out := guard (decide (p < 272)) (s.retest p)

end Sys2Proof.Machine
end

