-- ==== Sys2Proof/Machine/Cal.lean ====
section
/-! DEFINITION. Calibration in service: the rotation, sweeps, blind trims, stale flags and the start-up sweep (09, R287 to
R309). -/

namespace Sys2Proof.Machine

/-! ## The rotation (09, R287 to R291) -/

/-- A Pan the start-up sweep left without a slot (09, R306). -/
def leftOut (v : Pan) : Bool := v.mode = .calibrating && v.reason = 1 && v.slot.isNone

/-- The covering spare: the oldest converged sweep, with no thermal limit (09, R288). -/
def State.coverSpare (s : State) (h : Nat) : Option Nat :=
  argMin (fun p => (s.pan p).lastCal) ((s.spares h).filter (fun p => !(s.slot (panSlot p)).therm))

/-- The Pan to sweep in Basket h, and its cover: one left out first, which needs none, then an early request, then the
oldest sweep (09, R288, R306; log entry 76, DEDUCED). -/
def State.calPick (s : State) (h : Nat) : Option (Nat × Option Nat) :=
  let ps := bskPans h
  let b := s.bsk h
  let paused := ps.any (fun p => (s.pan p).mode = .calibrating && (s.pan p).reason = 2)
  if !inService b || !bit s.cal.bskEn.toNat h || paused then none else
  match ps.find? (fun p => leftOut (s.pan p)) with
  | some p => some (p, none)
  | none =>
    match s.coverSpare h with
    | none => none
    | some c =>
      let own := ps.filter (fun p => (s.pan p).mode = .inService)
      let early := own.filter (fun p => (s.pan p).early)
      (argMin (fun p => (s.pan p).lastCal) (if early.isEmpty then own else early)).map (fun p => (p, some c))

/-- The settings written to `CAL_CFG` come into force: at the next sweep, or at once where none runs; the margin policy acts
on every SUSPECT Pan (09, R301, Table 09-3; log entry 62, DEDUCED). -/
def State.calCfgTake (s : State) : State :=
  if s.cal.act = s.cal.cfg then s
  else (List.range 16).foldl State.remargin { s with cal := { s.cal with act := s.cal.cfg } }

/-- A sweep of Pan p begins, covered by c. -/
def State.sweepStart (s : State) (h p : Nat) (c : Option Nat) : State :=
  let v := s.pan p
  let s := s.setPan p { v with early := false }
  { s with cal := { s.cal with
    next := (h + 1) % 16
    sweep := some { pan := p, cover := c, handed := c.isNone, startAt := s.time, calAt := s.time, measAt := none
                    timeout := max 6 (bits s.cal.act.toNat 31 24), slot := v.slot } } }

/-- A turn begins in the next Basket that can take one (09, R287). -/
def State.turn (s : State) : State :=
  if s.cal.sweep.isSome then s else
  let s := s.calCfgTake
  if bit s.cal.act.toNat 0 then s else
  let hs := (List.range 16).map (fun i => (s.cal.next + i) % 16)
  match hs.find? (fun h => (s.calPick h).isSome) with
  | none => s
  | some h =>
    match s.calPick h with
    | none => s
    | some (p, c) => s.sweepStart h p c

/-- CAL_TURN. -/
def execCalTurn (s : State) : Out := .next (if s.clocked then s.turn else s)

/-- The tile at the head of a Pan's walk is in a bank of spare c, or is loaded there now (09, R289). -/
def State.preload (s : State) (p c : Nat) : State × Bool :=
  match (s.pan p).computeQ with
  | .tile u t _ :: _ =>
    match (s.bsk (panBsk p)).mvm? u with
    | some m =>
      let v := s.pan c
      if v.sel.holds m.desc t || v.idle.holds m.desc t then (s, true)
      else s.loadTile c (!v.selB) m.desc t ((s.bsk (panBsk p)).rec? u)
    | none => (s, true)
  | _ => (s, true)

/-- A replay of Basket h needs the covering spare c (09, Table 09-3). -/
def State.coverBusy (s : State) (h c : Nat) : Bool := (s.spareTurn h).isSome && s.takeSpare h = some c

/-- The handover: the covering spare is at A = 16, no replay needs it, and the outgoing Pan is about to take a new tile with
no window open; the slot passes, and the Pan enters CALIBRATING (09, R289, Table 09-3). A sweep whose Pan has left
service, or whose cover may take no slot, is abandoned (log entry 128, DESIGN CHOICE). -/
def State.handOver (s : State) (w : Sweep) (c : Nat) : State :=
  let p := w.pan
  let v := s.pan p
  if v.mode ≠ .inService ∨ (s.pan c).mode ≠ .spare ∨ (s.slot (panSlot c)).therm then s.abandonSweep else
  if (s.pan c).lvlNow ≠ 16 ∨ v.progress ≠ 0 ∨ v.windows.any (fun x => !x.closed) ∨ s.coverBusy (panBsk p) c then s else
  match s.preload p c with
  | (s, false) => s
  | (s, true) =>
    let s := s.toCalibrating p 1 (some c)
    ({ s with cal := { s.cal with sweep := some { w with handed := true, calAt := s.time } } }).startMeasure

/-- HANDOVER. -/
def execHandover (s : State) : Out :=
  .next (match s.cal.sweep with
    | some w => match w.handed, w.cover with
      | false, some c => if s.clocked then s.handOver w c else s
      | _, _ => s
    | none => s)

/-! ## The end of a sweep (09, R294 to R297) -/

/-- Field repairs of a map: enabled spares that the fuse image of the Pan does not give (09, Table 09-15). -/
def State.repairsOf (s : State) (p : Nat) (row c0 c1 : W32) : Nat :=
  let f := s.fuseData (0x10 + p)
  let cnt (w : W32) (g : Nat) : Nat := ((List.range 4).filter (fun i =>
    bit w.toNat (8 * i + 7) && bits w.toNat (8 * i + 7) (8 * i) != bits g (8 * i + 7) (8 * i))).length
  cnt row (bits f 31 0) + cnt c0 (bits f 63 32) + cnt c1 (bits f 95 64)

/-- What a converged sweep replaces together: the map the repair leaves, the calibration set, K_th, and the blind corrections,
back to zero with the offset they gave the Kettle (log entry 126, DEDUCED); a change of the map is recorded (09, R294, R295,
R305). -/
def State.commitCal (s : State) (p : Nat) (m : PanMap) (r : SweepResult) : State :=
  let v := s.pan p
  let s := s.setPan p { v with
    rowSpare := m.row, colSpare0 := m.c0, colSpare1 := m.c1, mapRow := m.row, mapCol0 := m.c0, mapCol1 := m.c1
    calId := v.calId + 1, kTh := r.kTh, blind := [], sums := [], winAt := s.time, trimOfs := 0, ofsDrift := 0, gainDrift := 0
    lim := false, noCal := false, timeouts := 0, lastCal := s.time }
  let s := if v.map = m then s else s.bbrPut (.fieldRepair p m.row m.c0 m.c1)
  let s := { s with cal := { s.cal with sweepCnt := sat32 (s.cal.sweepCnt + 1) } }
  s.spWrite (panSlot p) r.target

/-- Count a sweep of Pan p that has not converged, and tell it (09, R293, R296). -/
def State.notConverged (s : State) (p cause phase : Nat) : State :=
  let n := min 3 ((s.pan p).timeouts + 1)
  let s := (s.setPan p { s.pan p with timeouts := n }).calTimeout p cause phase n
  { s with cal := { s.cal with timeouts := sat16 (s.cal.timeouts + 1) } }

/-- A sweep that has not converged: its Pan goes to SPARE, or after a third time in a row to SUSPECT in its former slot (09,
R293, R296). -/
def State.sweepFailed (s : State) (w : Sweep) (cause phase : Nat) : State :=
  let s := if cause = 1 then s.at (w.calAt + w.timeout * 1000000) else s
  let p := w.pan
  let h := panBsk p
  let s := s.notConverged p cause phase
  let s := { s with cal := { s.cal with sweep := none } }
  match w.slot with
  | none => s
  | some sl =>
    if (s.pan p).timeouts < 3 then (s.setPan p { s.pan p with mode := .spare, reason := 0, slot := none }).tellSpares h
    else
      let s := match s.slotPan h sl with
        | some q =>
          let s := s.passSlot q p false
          s.setPan q { s.pan q with mode := .spare, margin := 0, suspectLeft := 0, forceRate := false }
        | none => s.setPan p { s.pan p with slot := some sl }
      (s.toSuspect p false).tellSpares h

/-- The end of the running sweep, its measurements within their limits: where the map can be repaired it commits, and its Pan
goes to SPARE (09, R294, R295). -/
def State.sweepDone (s : State) (w : Sweep) (r : SweepResult) : State :=
  match repairMap (s.pan w.pan).startMap r.rings r.mods with
  | some m =>
    let s := s.commitCal w.pan m r
    let s := { s with cal := { s.cal with sweep := none } }
    (s.setPan w.pan { s.pan w.pan with mode := .spare, reason := 0, slot := none }).tellSpares (panBsk w.pan)
  | none => s.sweepFailed w 5 6

/-- SWEEP_COMMIT: the running sweep ends within its time (09, R294, R296). -/
def execSweepCommit (res : SweepResult) (s : State) : Out :=
  .next (match s.cal.sweep with
    | some w =>
      if s.clocked ∧ w.measAt.isSome ∧ s.time ≤ w.calAt + w.timeout * 1000000 then s.sweepDone w res else s
    | none => s)

/-- CAL_TIMEOUT, causes 0x01 to 0x09, in the phase reached: the handover's until the measurements begin (09, Tables 09-1,
09-4). -/
def execCalTimeout (e : SweepEnd) (s : State) : Out :=
  .next (match s.cal.sweep with
    | some w =>
      if s.clocked ∧ w.handed ∧ 1 ≤ e.cause ∧ e.cause ≤ 9 ∧ 1 ≤ e.phase ∧ e.phase ≤ 9 ∧ (w.measAt.isNone → e.cause = 1) then
        s.sweepFailed w e.cause (if w.measAt.isNone then 1 else e.phase)
      else s
    | none => s)

/-- CAL_ABANDON: `CAL_CTL.ABANDON` (09, R297). -/
def execCalAbandon (s : State) : Out := .next s.abandonSweep

/-- A write to `CAL_REQ`: larger values, and the Pan under sweep, are ignored (09, R291, Table 09-13). -/
def State.calReq (s : State) (p : Nat) : State :=
  let swept := match s.cal.sweep with
    | some w => decide (w.pan = p)
    | none => false
  if decide (272 ≤ p) || swept then s else s.earlyCal p

/-- CAL_REQ. -/
def execCalReq (pan : Nat) (s : State) : Out := .next (s.calReq pan)

/-- `CAL_CTL.CNT_CLR` (09, Table 09-8). -/
def State.calClear (s : State) : State := { s with cal := { s.cal with sweepCnt := 0, abandon := 0, timeouts := 0 } }

/-- CAL_CNT_CLR. -/
def execCalCntClr (s : State) : Out := .next s.calClear

/-! ## Blind trims (09, R298 to R300) -/

/-- Group size of a wiring. -/
def wiringSize (w : Nat) : Nat := match w with
  | 0 => 128
  | 1 => 64
  | _ => 32

/-- σ_g of a wiring at the Pan's rate, in 1/65,536 u, as `PAN_NOISE` would report it (log entry 2, DESIGN CHOICE). -/
def State.sigmaOf (s : State) (p w : Nat) : Nat :=
  let v := s.pan p
  let b := s.bsk (panBsk p)
  let halved := v.halved b.rate (bit b.seqCfg.toNat 16)
  (noiseRegs v (wiringSize w) (rateOf b.rate (wiringSize w) false halved) s.freeCtr).1 * 4096

/-- The offset estimate of a window, in 1/65,536 u (09, R298; log entry 78, DESIGN CHOICE). -/
def BlindSum.offset (x : BlindSum) : Int := rat16 ((x.sy - x.sp) / x.n)

/-- The gain estimate of a window, in 2^-32; free where the drive did not vary, for which R298 gives none (log entry 78, DESIGN
CHOICE). -/
def BlindSum.gain (x : BlindSum) (sg free : Nat) : Int :=
  if x.sq = 0 then free
  else
    let r := (x.sd - x.n * mkRat (sg * sg) (2 ^ 32)) / x.sq
    (isqrt (r.num.toNat * 2 ^ 64 / r.den) 128 : Int)

/-- One window moves its corrections, held at their limits; true where a limit holds (09, R299). -/
def moveBlind (sg : Nat) (oCm oEst gEst : Int) (b : Blind) : Blind × Bool :=
  let d := clampI (-(sg / 4 : Nat)) (sg / 4 : Nat) (divAway (oEst - oCm) 4)
  let off := clampI (-(4 * sg : Nat)) (4 * sg : Nat) (b.off + d)
  let c := clampI (-(2 ^ 22)) (2 ^ 22) (divAway (gEst - 2 ^ 32) 4)
  let g := b.gain - divAway (b.gain * c) (2 ^ 32)
  let gain := clampI (2 ^ 32 - 2 ^ 26) (2 ^ 32 + 2 ^ 26) g
  ({ off := off, gain := gain }, decide (off ≠ b.off + d) || decide (gain ≠ g))

/-- Length of a blind-trim window in ns (09, R298, Table 09-12). -/
def State.blindLen (s : State) : Nat := max 16 (bits s.cal.blind.toNat 7 0) * 16000

/-- The windows' sums that hold enough partials (09, R298). -/
def State.blindFull (s : State) (p : Nat) : Tab BlindSum :=
  (s.pan p).sums.filter (fun e => decide (4096 * max 1 (bits s.cal.blind.toNat 23 16) ≤ e.2.n))

/-- The common-mode offset, in 1/65,536 u: the mean over the rows that serve a data slot, under group-128 wiring (09, R300). -/
def commonMode (m : PanMap) (est : Tab BlindSum) : Int :=
  let wide := est.filter (fun e => e.1 % 4 = 0 && (slotOf m (e.1 / 8)).isSome)
  rat16 (meanRat (wide.map (fun e => (e.2.sy - e.2.sp) / e.2.n)))

/-- The window of Pan p ends: the corrections move, the common mode goes to the rows or to the Kettle, and the sums are
cleared (09, R298 to R300; log entry 78, DESIGN CHOICE). -/
def State.blindWin (s : State) (p : Nat) : State :=
  let v := s.pan p
  if !(v.mode = .inService || v.mode = .suspect) || !bit s.cal.bskEn.toNat (16 + panBsk p) || !s.clocked then s else
  let s := s.at (v.winAt + s.blindLen)
  let est := s.blindFull p
  let mean := commonMode v.map est
  let routed := bit s.cal.act.toNat 4
  let oCm := if routed then 0 else mean
  let trim : Int := if routed ∨ mean = 0 then 0
    else if v.kTh = 0 then (Config.freeWord s.freeCtr).toInt else divAway (mean * 65536 * (if v.kTh < 0 then -1 else 1)) v.kTh.natAbs
  let step (a : Tab Blind × Bool) (e : Nat × BlindSum) : Tab Blind × Bool :=
    let sg := s.sigmaOf p (e.1 % 4)
    let r := moveBlind sg oCm e.2.offset (e.2.gain sg (Config.freeWord (s.freeCtr + 1)).toNat) (tget blindDflt a.1 e.1)
    (tset blindDflt a.1 e.1 r.1, a.2 || r.2)
  let (bl, held) := est.foldl step (v.blind, false)
  let ofs := maxNat (bl.map (fun e => e.2.off.natAbs * 256 / max 1 (s.sigmaOf p (e.1 % 4))))
  let gn := maxNat (bl.map (fun e => (e.2.gain - 2 ^ 32).natAbs / 65536))
  let s := (s.fresh.fresh).setPan p { v with
    blind := bl, trimOfs := trim, ofsDrift := sat16 ofs, gainDrift := sat16 gn, lim := v.lim || held, sums := [], winAt := s.time }
  if held then s.calReq p else s

/-- BLIND_WINDOW. -/
def execBlindWindow (h n : Nat) (s : State) : Out :=
  guard (decide (h < 16) && decide (n < 17)) (s.blindWin (17 * h + n))

/-! ## Stale flags (09, R307, R308) -/

/-- The limit of a stale flag in ns, none where it raises no event. -/
def State.staleMax (s : State) : Option Nat :=
  let m := bits s.cal.act.toNat 23 16
  if m = 0 then none else some (m * 1000000)

/-- CAL_STALE, once for a flag. -/
def State.staleEvent (s : State) (source idx from_ lim : Nat) : State :=
  (s.at (from_ + lim)).raise 0x0702 0 0x04 0 (shl source 28 + idx % 1024)

/-- CAL_STALE: the flag of a Pan tap, a reference ring or a monitor channel has stood longer than STALE_MAX (09, R307). -/
def State.stale (s : State) (source idx : Nat) : State :=
  match s.staleMax with
  | none => s
  | some lim =>
    let v := s.pan idx
    match source with
    | 1 =>
      match (List.range 4).find? (fun b => (v.tap b).stale && !(v.tap b).staleTold) with
      | some b =>
        let t := v.tap b
        (s.setPan idx { v with taps := tset tapDflt v.taps b { t with staleTold := true } }).staleEvent 1 idx t.staleAt lim
      | none => s
    | 2 =>
      if v.refStale && !v.refStaleTold then
        (s.setPan idx { v with refStaleTold := true }).staleEvent 2 idx v.refStaleAt lim
      else s
    | _ =>
      match tget noneDflt s.trv.chanCal idx with
      | some t =>
        if tget falseDflt s.trv.chanTold idx then s
        else ({ s with trv := { s.trv with chanTold := tset falseDflt s.trv.chanTold idx true } }).staleEvent 3 idx t lim
      | none => s

/-- CAL_STALE. -/
def execCalStale (source idx : Nat) (s : State) : Out :=
  guard ((decide (1 ≤ source) && decide (source ≤ 2) && decide (idx < 272)) || (source = 3 && decide (idx < 512)))
    (if s.clocked then s.stale source idx else s)

/-! ## The start-up sweep (09, R306; 02, R67; 10, R321, R322) -/

/-- A Pan that did not converge in three attempts (09, R306). -/
def State.leaveOut (s : State) (p : Nat) : State :=
  s.setPan p { s.pan p with
    mode := .calibrating, reason := 1, slot := none, timeouts := 3, noCal := (s.pan p).calId = 0, margin := 0, suspectLeft := 0, forceRate := false }

/-- The slots of a Basket go to its lowest usable Pans in position order, the rest become SPARE (02, R67). -/
def State.layPans (s : State) (h : Nat) : State :=
  let us := (bskPans h).filter (fun p => (s.pan p).mode ≠ .retired && (s.pan p).mode ≠ .calibrating)
  let n := bskSlots (s.bsk h)
  us.zipIdx.foldl (fun s x =>
    s.setPan x.1 { s.pan x.1 with
      mode := if x.2 < n then .inService else .spare, slot := if x.2 < n then some x.2 else none, reason := 0 }) s

/-- After a Coil fault the Pans keep their slots; a SPARE takes that of one which did not converge (10, R322; log entry 77, DEDUCED). -/
def State.refill (s : State) (h p : Nat) : State :=
  match (s.pan p).slot with
  | none => s.leaveOut p
  | some _ =>
    match s.takeSpare h with
    | some q => ((s.passSlot p q false).leaveOut p)
    | none => s.leaveOut p

/-- The global time stands: it was measured once, or the node is its own reference. No Basket leaves WARMING before (11,
R351, R354; log entry 44, DEDUCED). -/
def State.timeSet (s : State) : Bool := s.dzf.stepped || s.dzf.coord

/-- The Kettle holds each Pan of a Basket at its set-point, within the 0.1 °C of Table 14-6 (09, R306; 14; log entry 139, DEDUCED). -/
def State.panHeld (s : State) (p : Nat) : Bool :=
  let v := s.slot (panSlot p)
  v.st = .run && decide (v.err.natAbs * 10 ≤ 65536)

/-- An attempt that the start-up sweep may bring: its cause and phase are ones the tables give. -/
def Attempt.legal : Attempt → Bool
  | .measured _ => true
  | .failed c f => decide (1 ≤ c) && decide (c ≤ 9) && decide (2 ≤ f) && decide (f ≤ 9)

/-- One more attempt of Pan p, unless one converged or none is left: the state, whether it converged, and how many attempts
the Pan has. One that does not converge is told as a sweep's is (09, R293, R296, R306; log entry 138, DEDUCED). -/
def State.tryOne (p : Nat) (a : State × Bool × Nat) (t : Attempt) : State × Bool × Nat :=
  if a.2.1 || a.2.2 = 0 then a
  else match t with
  | .failed c f => (a.1.notConverged p c f, false, a.2.2 - 1)
  | .measured r =>
    match repairMap (a.1.pan p).startMap r.rings r.mods with
    | some m => (a.1.commitCal p m r, true, a.2.2 - 1)
    | none => (a.1.notConverged p 5 6, false, a.2.2 - 1)

/-- The attempts of Pan p one after another, three at most (09, R306). -/
def State.tryPan (s : State) (p : Nat) (l : List Attempt) : State × Bool × Nat := l.foldl (State.tryOne p) (s, false, 3)

/-- The attempts that a list brings for a Pan. -/
def attemptsOf (l : List (Nat × List Attempt)) (p : Nat) : List Attempt :=
  match l.find? (fun e => e.1 = p % 17) with
  | some e => e.2
  | none => []

/-- What the attempts of a start-up sweep leave: the Pans that converged, those that did not, and that one has attempts
left. -/
structure SweepSum where
  ok   : List Nat := []
  out  : List Nat := []
  more : Bool := false

/-- A Pan's attempts, and how they ended. -/
def SweepSum.tell (a : SweepSum) (p : Nat) (c : Bool) (n : Nat) : SweepSum :=
  { ok := if c then p :: a.ok else a.ok, out := if c then a.out else p :: a.out, more := a.more || (!c && decide (0 < n)) }

/-- Each Pan of a list takes its attempts. -/
def State.tryPans (s : State) (ps : List Nat) (l : List (Nat × List Attempt)) : State × SweepSum :=
  ps.foldl (fun a p =>
    let r := a.1.tryPan p (attemptsOf l p)
    (r.1, a.2.tell p r.2.1 r.2.2)) (s, {})

/-- Pans that converged and had been left out serve as spares again. -/
def State.letIn (s : State) (ps : List Nat) : State :=
  ps.foldl (fun s p => if leftOut (s.pan p) then s.setPan p { s.pan p with mode := .spare, reason := 0 } else s) s

/-- Pans that did not converge leave: before the slots are laid, or from the slot they hold. -/
def State.putOut (s : State) (h : Nat) (first : Bool) (ps : List Nat) : State :=
  if first then (ps.foldl State.leaveOut s).layPans h else ps.reverse.foldl (fun s p => s.refill h p) s

/-- The sweep of all Pans of a Basket in WARMING is over once each has converged or failed three times (09, R306). -/
def State.startup (s : State) (h : Nat) (l : List (Nat × List Attempt)) : State :=
  let b := s.bsk h
  let ps := (bskPans h).filter (fun p => (s.pan p).mode ≠ .retired)
  if !(b.st = .warming && b.coldSweep && s.clocked && s.timeSet && s.startupRuns && ps.all s.panHeld &&
      l.all (fun e => e.2.all Attempt.legal)) then s else
  let first := ps.all (fun p => (s.pan p).calId = 0)
  let s0 := ps.foldl (fun s p => s.setPan p { s.pan p with timeouts := 0 }) s
  let r := s0.tryPans ps l
  if r.2.more then s else
  let t := ((r.1.letIn r.2.ok).putOut h first r.2.out).tellSpares h
  let t := { t with cal := { t.cal with startAt := none } }
  if t.slotsFull h then t.warmed h else t.retireBasket h false

/-- STARTUP_SWEEP. -/
def execStartupSweep (h : Nat) (attempts : List (Nat × List Attempt)) (s : State) : Out :=
  guard (decide (h < 16)) (s.startup h attempts)

end Sys2Proof.Machine
end

