-- ==== Sys2Proof/Machine/Fabric.lean ====
section
/-! DEFINITION. The Dzini fabric's data path: arriving units at their target, answers at their source, forwarding, timers and
the deduplication store (07, R241 to R255; 11, R355 to R363, R368). -/

namespace Sys2Proof.Machine

/-- A bit of `HQ_ERR` sets; PF vector 2 is signalled when it was clear (12, R388). -/
def State.hqErr (s : State) (b : Nat) : State :=
  let was := bit s.hq.err.toNat b
  let s := { s with hq := { s.hq with err := s.hq.err ||| BitVec.ofNat 7 (2 ^ b) } }
  if was then s else s.msi 0 2

/-- A failed aperture access: `HQ_ERR` bit b and `HQ_ERR_CNT.AP_FAIL` (12, R379). -/
def State.apFailed (s : State) (b : Nat) : State :=
  ({ s with hq := { s.hq with apFail := sat16 (s.hq.apFail + 1) } }).hqErr b

/-- The INDEX of a fabric event: the port, 0 where none is concerned (11, R372). -/
def portIdx (port : Nat) : Nat := if port < 32 then port else 0

/-! ## Configuration vouchers (11, R368) -/

/-- The full epoch a CFG field stands for, where the node accepts the field. -/
def Dzf.acceptCfg (d : Dzf) (cfg : Nat) : Option Nat :=
  if cfg = cfgField (d.epoch.toNat, d.digest.toNat) then some d.epoch.toNat
  else if d.phase ≠ 0 ∧ cfg = cfgField (d.prevEpoch.toNat, d.prevDigest.toNat) then some d.prevEpoch.toNat
  else none

/-- CFG_MISMATCH, at most once per peer and millisecond (11, R368, Table 11-14). -/
def State.mismatch (s : State) (kind port ebits peer : Nat) : State :=
  let last := tget natDflt s.dzf.misAt peer
  if last ≠ 0 ∧ s.time < last - 1 + 1000000 then s else
  ({ s with dzf := { s.dzf with misAt := tset natDflt s.dzf.misAt peer (s.time + 1) } }).raise 0x0802 0 0x05 (portIdx port)
    (shl kind 30 + shl (ebits % 16) 24 + peer % 2 ^ 16)

/-- A unit, or an MGT packet, whose CFG disagrees is counted where it arrives (11, R368). -/
def State.countMis (s : State) (port : Nat) (m : Packet) : State :=
  ({ s with dzf := { s.dzf with rcvd := sat16 (s.dzf.rcvd + 1) } }).mismatch 0 port (m.cfg / 4096) m.src

/-! ## Answers -/

/-- Answer a unit. A RDRSP carries 64 bytes; those of one that is not GOOD are free (log entry 5, DESIGN CHOICE; log entry 96, DEDUCED). -/
def State.answer (s : State) (m : Packet) (status : Nat) (payload : List Byte) : State :=
  if m.type = 2 ∧ status ≠ 0 then
    let p := s.reply m status (freeBytes s.freeCtr 16)
    ({ s with freeCtr := s.freeCtr + 16 }).sendReply p false
  else s.sendReply (s.reply m status payload) false

/-! ## The local target (07, R241, R242) -/

/-- n bytes at local offset a lie in HBM, or in the Crock outside the stream tables. -/
def memOk (a n : Nat) : Bool :=
  decide (a + n ≤ hbmLen) ||
  (decide (crockBase ≤ a) && decide (a + n ≤ crockBase + crockLen) &&
    decide ((a - crockBase) % sliceLen + n ≤ stOff))

/-- The bytes of a unit that it names: enabled ones, or enabled elements, as offset and length. -/
def pktSpans (m : Packet) : List (Nat × Nat) :=
  if m.type = 1 then ((List.range 64).filter (bit m.ben)).map (fun b => (b, 1))
  else if m.type = 2 then [(0, 64)]
  else
    let e := if m.atype = 2 then 8 else 4
    ((List.range (64 / e)).filter (bit m.ben)).map (fun i => (i * e, e))

/-- Local offset of a unit; the low six bits of ADDR take no part (log entry 28, DEDUCED). -/
def pktLoc (m : Packet) : Nat := bits m.addr 43 0 / 64 * 64

/-- Element i of a packet's payload, of e bytes; one that is not enabled counts as zero. -/
def pktElem (m : Packet) (e i : Nat) : Nat := if bit m.ben i then leNat ((m.payload.drop (i * e)).take e) else 0

/-- The doorbell a unit is aimed at (07, Table 07-6). -/
def pktDoor (m : Packet) : Option Nat :=
  if doorBase ≤ (pktLoc m) ∧ (pktLoc m) < doorBase + 127 * 64 then some (((pktLoc m) - doorBase) / 64) else none

/-- The only unit a doorbell takes: an ATM-class INT32 add of 1 to 65,535 in its first element (07, R242). -/
def pktDoorOk (m : Packet) : Bool :=
  m.type = 3 && m.atype = 0 && decide (1 ≤ pktElem m 4 0) && decide (pktElem m 4 0 ≤ 65535) &&
  (List.range 16).all (fun i => i = 0 || pktElem m 4 i = 0)

/-- ADDR_ERR (11, Table 11-7). -/
def pktAddrBad (m : Packet) : Bool :=
  if m.type = 4 then false else
  decide (2 ^ 60 ≤ m.addr) || decide (bits m.addr 59 44 ≠ m.dst) ||
  (match (pktDoor m) with
   | some _ => !(pktDoorOk m)
   | none => (pktSpans m).any (fun x => !memOk ((pktLoc m) + x.1) x.2))

/-- Pairs of class and type that 11, Table 11-6 gives. -/
def classOk (type cls : Nat) : Bool :=
  if type = 1 ∨ type = 2 then decide (cls ≤ 1) else if type = 3 then cls = 2 else if type = 4 then cls = 0 else true

/-- TYPE_ERR (11, Table 11-7). -/
def pktTypeBad (m : Packet) : Bool :=
  m.ctlRsv ≠ 0 || m.rsv ≠ 0 || (m.type = 3 && m.atype = 3) || !classOk m.type m.cls

/-- Uncorrectable words that a READ or an ATOMIC finds (07, R243). -/
def State.unitBad (s : State) (m : Packet) : Bool :=
  if m.type = 1 ∨ (pktDoor m).isSome then false else (pktSpans m).any (fun x => !(s.badIn ((pktLoc m) + x.1) x.2).isEmpty)

/-- One 8-byte word of a WRITE: whole, or byte by byte (07, R243). -/
def State.writeWord (s : State) (m : Packet) (k : Nat) : State :=
  if bits m.ben (8 * k + 7) (8 * k) = 255 then s.wr ((pktLoc m) + 8 * k) ((m.payload.drop (8 * k)).take 8)
  else (List.range 8).foldl (fun s i =>
    if bit m.ben (8 * k + i) then s.wr ((pktLoc m) + 8 * k + i) [m.payload.getD (8 * k + i) 0] else s) s

/-- One element of an atomic add (04, R132). -/
def State.addElem (s : State) (m : Packet) (i : Nat) : State :=
  let e := if m.atype = 2 then 8 else 4
  let a := (pktLoc m) + i * e
  let x := pktElem m e i
  let t := s.rdN a e
  if m.atype = 0 then s.wrN a 4 ((t + x) % 2 ^ 32)
  else if m.atype = 1 then s.wrN a 4 (f32add (BitVec.ofNat 32 t) (BitVec.ofNat 32 x)).toNat
  else
    let r := cp64Atomic (BitVec.ofNat 32 t, BitVec.ofNat 32 (t / 2 ^ 32)) (BitVec.ofNat 32 x, BitVec.ofNat 32 (x / 2 ^ 32))
    s.wrN a 8 (r.1.toNat + r.2.toNat * 2 ^ 32)

/-- Apply a WRITE or an ATOMIC: memory, or a token doorbell (07, R242; 04, R132). -/
def State.applyUnit (s : State) (m : Packet) : State :=
  if m.type = 1 then (List.range 8).foldl (fun s k => s.writeWord m k) s
  else match (pktDoor m) with
    | some g => s.sigK 0 (0x81 + g) (pktElem m 4 0)
    | none =>
      let e := if m.atype = 2 then 8 else 4
      let s := (pktSpans m).foldl (fun s x => s.scrub ((pktLoc m) + x.1) x.2) s
      ((List.range (64 / e)).filter (bit m.ben)).foldl (fun s i => s.addElem m i) s

/-- TAG_DUP: counted each time, recorded once per source and millisecond (07, R253). -/
def State.tagDup (s : State) (port : Nat) (m : Packet) : State :=
  let s := { s with dzf := { s.dzf with dupCnt := sat16 (s.dzf.dupCnt + 1) } }
  let last := tget natDflt s.dzf.dupAt m.src
  if last ≠ 0 ∧ s.time < last - 1 + 1000000 then s else
  ({ s with dzf := { s.dzf with dupAt := tset natDflt s.dzf.dupAt m.src (s.time + 1) } }).raise 0x0502 0 0x05 port
    (shl (m.src % 2 ^ 16) 16 + m.tag % 2 ^ 16)

/-- Handle a unit at its target; false where it is answered BUSY and so not handled (07, R253; 11, R356, R368). -/
def State.handle (s : State) (port : Nat) (m : Packet) : State × Bool :=
  if (pktTypeBad m) then (s.answer m 0x07 [], true) else
  match s.dzf.acceptCfg m.cfg with
  | none => ((s.countMis port m).answer m 0x04 [], true)
  | some epoch =>
    if m.type = 4 then (s.answer m 0x00 [], true)
    else if (pktAddrBad m) then (s.answer m 0x03 [], true)
    else if m.type = 2 then
      let bad := s.unitBad m
      let s := s.scrub (pktLoc m) 64
      if bad then (s.answer m 0x06 [], true) else (s.answer m 0x00 (s.rd (pktLoc m) 64), true)
    else if s.dzf.dedup.any (fun d => d.src = m.src && d.tag = m.tag && d.epoch = epoch) then
      ((s.tagDup port m).answer m 0x01 [], true)
    else if 131072 ≤ s.dzf.dedup.length then
      let s : State := { s with dzf := { s.dzf with busyCnt := sat16 (s.dzf.busyCnt + 1) } }
      (s.answer m 0x02 [], false)
    else if s.unitBad m then
      (((pktSpans m).foldl (fun s x => s.scrub ((pktLoc m) + x.1) x.2) s).answer m 0x06 [], true)
    else
      let s := s.applyUnit m
      let s : State := { s with dzf := { s.dzf with
        dedup := s.dzf.dedup ++ [{ src := m.src, tag := m.tag, epoch := epoch, at_ := s.time }] } }
      (s.answer m 0x00 [], true)

/-! ## Order at the target (11, R363) -/

/-- What the target keeps of a source. -/
def srcDflt (_ : Nat) : SrcSeq := {}

/-- A unit of another incarnation than the one held discards the held units and starts the sequence anew. -/
def State.newInc (s : State) (m : Packet) : State :=
  let v := tget srcDflt s.dzf.srcs m.src
  if v.known ∧ v.inc = m.inc then s else
  { s with dzf := { s.dzf with
      srcs := tset srcDflt s.dzf.srcs m.src { inc := m.inc, expected := 0, known := true }
      reorder := s.dzf.reorder.filter (fun x => x.2.src != m.src) } }

/-- The next SEQ expected of a source. -/
def State.expected (s : State) (src : Nat) : Nat := (tget srcDflt s.dzf.srcs src).expected

/-- The sequence of a source moves on. -/
def State.advance (s : State) (src : Nat) : State :=
  let v := tget srcDflt s.dzf.srcs src
  { s with dzf := { s.dzf with srcs := tset srcDflt s.dzf.srcs src { v with expected := (v.expected + 1) % 2 ^ 32 } } }

/-- Held units follow in SEQ order. -/
def State.followers (s : State) (src : Nat) : Nat → State
  | 0 => s
  | n + 1 =>
    match s.dzf.reorder.find? (fun x => x.2.src = src && x.2.seq = s.expected src) with
    | none => s
    | some x =>
      let s := { s with dzf := { s.dzf with reorder := s.dzf.reorder.filter (fun y => y != x) } }
      match s.handle x.1 x.2 with
      | (s, true) => (s.advance src).followers src n
      | (s, false) => s

/-- An ORD unit: handled at once, held, answered BUSY, or answered as one handled already. SEQ wraps; a unit less than half
the range ahead is later (log entry 22, DESIGN CHOICE). -/
def State.ordered (s : State) (port : Nat) (m : Packet) : State :=
  let ahead := (m.seq + 2 ^ 32 - s.expected m.src % 2 ^ 32) % 2 ^ 32
  if ahead = 0 then
    match s.handle port m with
    | (s, true) => (s.advance m.src).followers m.src s.dzf.reorder.length
    | (s, false) => s
  else if ahead < 2 ^ 31 then
    if s.dzf.reorder.any (fun x => x.2.src = m.src && x.2.seq = m.seq) then s
    else if 4096 ≤ s.dzf.reorder.length then s.answer m 0x02 []
    else { s with dzf := { s.dzf with reorder := s.dzf.reorder ++ [(port, m)] } }
  else (s.handle port m).1

/-- Nanoseconds since a STIME, signed. -/
def State.age (s : State) (m : Packet) : Int := sgn 32 (s.time % 2 ^ 32 + 2 ^ 32 - m.stime % 2 ^ 32)

/-- A unit reaches its target: too old, it is discarded without an answer (07, R253). -/
def State.arrive (s : State) (port : Nat) (m : Packet) : State :=
  if 50000 < s.age m then s else
  let s := s.newInc m
  if m.cls = 0 then s.ordered port m else (s.handle port m).1

/-! ## Transit (11, R361) -/

/-- Forward a packet for another node. -/
def State.forwardPkt (s : State) (m : Packet) : State :=
  if m.hops ≤ 1 then s.noRoute m else
  let p := { m with hops := m.hops - 1 }
  match s.egress p (m.type = 5 || m.type = 6) true with
  | (some q, s) => s.putPort q p
  | (none, s) => s.noRoute m

/-- The port carries traffic: it is UP or DRAIN, or it stands for the node itself. -/
def State.carries (s : State) (port : Nat) : Bool :=
  port = ownPort || (s.port port).st = .up || (s.port port).st = .drain

/-- The packet is for this node. -/
def State.isMine (s : State) (m : Packet) : Bool := s.dzf.idValid && m.dst = s.dzf.nodeId

/-- A reserved TYPE is discarded and counted at the first node it reaches (11, Table 11-6). -/
def State.countBad (s : State) (port : Nat) : State :=
  let v := s.port port
  if port < 32 then s.setPort port { v with bad := sat16 (v.bad + 1) } else s

/-- A packet of one TYPE comes in on a port: what is not for this node is forwarded. A packet of another TYPE is none of this
command's (log entry 101, DEDUCED). -/
def State.arrival (s : State) (type port : Nat) (m : Packet) (f : State → State) : State :=
  if !s.clocked || !s.carries port then s
  else if m.type = 0 ∨ 8 ≤ m.type then s.countBad port
  else if m.type ≠ type then s
  else if s.isMine m then f s
  else s.forwardPkt m

/-- A port number a packet can come by. -/
def portOk (port : Nat) : Bool := decide (port < 32) || port = ownPort

/-- WRITE (07, R253). -/
def execWrite (port : Nat) (m : Packet) (s : State) : Out := guard (portOk port) (s.arrival 0x01 port m (·.arrive port m))

/-- READ (11, R356). -/
def execRead (port : Nat) (m : Packet) (s : State) : Out := guard (portOk port) (s.arrival 0x02 port m (·.arrive port m))

/-- ATOMIC (07, R249). -/
def execAtomic (port : Nat) (m : Packet) (s : State) : Out := guard (portOk port) (s.arrival 0x03 port m (·.arrive port m))

/-- SKIP (11, R363). -/
def execSkip (port : Nat) (m : Packet) (s : State) : Out := guard (portOk port) (s.arrival 0x04 port m (·.arrive port m))

/-- FORWARD (11, R361): a packet for another node. -/
def execForward (port : Nat) (m : Packet) (s : State) : Out :=
  guard (portOk port) (if s.isMine m then s else s.arrival m.type port m id)

/-! ## Answers at the source (11, Table 11-7) -/

/-- Every unit of an aperture access knows that the access failed, which is told once (12, R379). -/
def State.apTell (s : State) (acc : Nat) : State :=
  let tell (u : FUnit) : FUnit := match u.who with
    | .apWrite a _ => if a = acc then { u with who := .apWrite a true } else u
    | .apRead a o _ => if a = acc then { u with who := .apRead a o true } else u
    | _ => u
  { s with dzf := { s.dzf with units := s.dzf.units.map tell, backlog := s.dzf.backlog.map tell } }

/-- A unit of a part is over: its part fails where the unit did, and what waits on the unit goes on (06, R222, R225; 04,
R131). `aged` marks a unit given up at 1.9 ms (07, R255). -/
def State.settle (s : State) (u : FUnit) (ok aged : Bool) : State :=
  match u.who with
  | .step uid h =>
    s.modRec h uid (fun r =>
      let failed := if ok then r.failed else setBit r.failed u.part true
      let old := if r.opc = 0x53 ∧ (aged ∨ bit r.detail 31) then 2 ^ 31 else 0
      let last := decide (r.units ≤ 1)
      { r with
        units := r.units - 1, failed := failed, done := last
        status := if last && decide (failed ≠ 0) then 2 else r.status
        detail := if r.opc = 0x54 then r.detail else old + popcount failed 64 })
  | .close h n =>
    let p := s.pot h n
    let s := if ok then s else s.setPot h n { p with failed := setBit p.failed u.part true }
    let s := s.modRec h p.closeUid (fun r => { r with
      units := r.units - 1, detail := if aged then setBit r.detail 31 true else r.detail })
    match (s.bsk h).rec? p.closeUid with
    | some r => if r.units = 0 then s.endClose h n else s
    | none => s
  | .tile _ =>
    if ok then s else
    let (tag, s) := s.takeTags 1
    s.sendUnits [{ u with pkt := { u.pkt with tag := tag }, good := false, failed := false, busyAt := none }]
  | .apWrite acc told => if ok ∨ told then s else (s.apTell acc).apFailed 5
  | .apRead acc off told =>
    if ok ∨ told then s else
    let s := s.apTell acc
    ({ s with dev := { s.dev with barData := s.dev.barData ++ [(off, [], true)] } }).apFailed 4
  | .skipSeq => s
  | .gone => s

/-- The bytes of a read unit go where it sends them. -/
def State.deposit (s : State) (u : FUnit) (payload : List Byte) : State :=
  let bs := (payload.drop u.off).take u.len
  match u.who with
  | .step _ _ => s.wr u.local_ bs
  | .tile p => s.setPan p { s.pan p with stage := wrTab (s.pan p).stage u.local_ bs }
  | .apRead _ off told => if told then s else { s with dev := { s.dev with barData := s.dev.barData ++ [(off, bs, false)] } }
  | _ => s

/-- Take a unit out of the outstanding ones, and let waiting ones go. -/
def State.dropUnit (s : State) (u : FUnit) : State :=
  { s with dzf := { s.dzf with units := s.dzf.units.filter (fun x => x.pkt.tag != u.pkt.tag) } }

/-- Replace an outstanding unit. -/
def State.putUnit (s : State) (u : FUnit) : State :=
  { s with dzf := { s.dzf with units := s.dzf.units.map (fun x => if x.pkt.tag = u.pkt.tag then u else x) } }

/-- Units that waited for a place are issued. -/
def State.pump (s : State) : State := pumpUnits s.dzf.backlog.length s

/-- An answer reaches the source of a unit. -/
def State.answered (s : State) (port : Nat) (m : Packet) (u : FUnit) : State :=
  if m.status ≤ 1 then
    let s := if u.pkt.type = 2 then (s.dropUnit u).deposit u m.payload
      else s.putUnit { u with good := true, goodAt := s.time }
    (s.settle u true false).pump
  else if m.status = 2 then s.putUnit { u with busyAt := some (s.time + 1000) }
  else if m.status = 5 then s
  else
    let s := if m.status = 4 then
        ({ s with dzf := { s.dzf with refused := sat16 (s.dzf.refused + 1) } }).mismatch 1 port (m.cfg / 4096) m.src
      else s
    ((s.dropUnit u).settle u false false).pump

/-- The unit an answer is for. -/
def State.unitOf (s : State) (m : Packet) : Option FUnit :=
  s.dzf.units.find? (fun u => u.pkt.tag = m.tag && u.pkt.dst = m.src && u.waiting && (u.pkt.type = 2) == (m.type = 6))

/-- COMPL and RDRSP at the source: one that answers no outstanding unit changes nothing. -/
def State.sink (s : State) (port : Nat) (m : Packet) : State :=
  match s.unitOf m with
  | some u => s.answered port m u
  | none => s

/-- COMPL (11, R356). -/
def execCompl (port : Nat) (m : Packet) (s : State) : Out := guard (portOk port) (s.arrival 0x05 port m (·.sink port m))

/-- RDRSP (11, R356). -/
def execRdrsp (port : Nat) (m : Packet) (s : State) : Out := guard (portOk port) (s.arrival 0x06 port m (·.sink port m))

/-! ## Timers of a unit (07, R254, R255; 11, R358) -/

/-- The outstanding unit of a tag. -/
def State.unitTag (s : State) (tag : Nat) : Option FUnit := s.dzf.units.find? (fun u => u.pkt.tag = tag)

/-- When a unit is due for a resend. -/
def State.resendAt (s : State) (u : FUnit) : Nat := u.busyAt.getD (u.lastAt + s.dzf.resendNs)

/-- RESEND_TIMER: resent under its first TAG, SEQ and CFG, never after 1.9 ms, and not when its work was dropped. -/
def execResendTimer (tag : Nat) (s : State) : Out :=
  .next (match s.unitTag tag with
    | some u =>
      let t := max s.time (s.resendAt u)
      if u.waiting && u.who != .gone && s.clocked && decide (t ≤ u.firstAt + 1900000) then (s.at t).transmit u else s
    | none => s)

/-- A SKIP takes over the SEQ of an ORD unit that its source gives up (11, R363). -/
def State.sendSkip (s : State) (u : FUnit) : State :=
  let (tag, s) := s.takeTags 1
  let p := { unitPacket 0x04 0 0 0 tag 0 [] with
    dst := u.pkt.dst, src := s.dzf.nodeId, cfg := cfgField s.dzf.sendCfg, inc := s.dzf.inc, seq := u.pkt.seq }
  s.transmit { readUnit .skipSeq 0 0 0 0 0 0 tag with pkt := p, firstAt := s.time }

/-- UNIT_GIVE_UP: 1.9 ms after first issue the part fails, an AADD's aged (07, R255; 11, R358, R363). -/
def execUnitGiveUp (tag : Nat) (s : State) : Out :=
  .next (match s.unitTag tag with
    | some u =>
      if u.waiting && s.clocked then
        let s := (s.at (u.firstAt + 1900000)).dropUnit u
        let s := if u.pkt.cls = 0 then s.sendSkip u else s
        (s.settle u false true).pump
      else s
    | none => s)

/-- A retry record asks for a unit of this tag and part again. -/
def RetryRec.covers (k : RetryRec) (failed tag part : Nat) : Bool :=
  bit failed part && decide ((tag + 2 ^ 32 - k.firstTag) % 2 ^ 32 < k.units)

/-- An atomic unit with a good completion whose part may yet be sent again under first tags: its source holds the tag until
1.9 ms after first issue, so that the target's entry stands (06, R224; 07, R249, R254; log entry 115, DEDUCED). -/
def State.partOpen (s : State) (u : FUnit) : Bool :=
  u.pkt.type = 3 && decide (s.time ≤ u.firstAt + 1900000) &&
  ((s.dzf.units ++ s.dzf.backlog).any (fun x => x.who = u.who && x.part = u.part && x.waiting) ||
    (match u.who with
     | .step uid h =>
       (match (s.bsk h).rec? uid with | some r => bit r.failed u.part | none => false) ||
       s.streams.any (fun e => match e.2.retry with
         | some k => k.covers k.failed u.pkt.tag u.part
         | none => false)
     | .close h n =>
       match (s.pot h n).retry with
       | some k => (s.pot h n).st != .free && k.covers (s.pot h n).failed u.pkt.tag u.part
       | none => false
     | _ => false))

/-- TAG_RELEASE: 50 µs after the last transmission of a unit with a good completion, once no retry can send it again; the
node's own store drops its entry (07, R249, R253, R254). -/
def execTagRelease (tag : Nat) (s : State) : Out :=
  .next (match s.unitTag tag with
    | some u =>
      if u.good && s.clocked && !s.partOpen u then
        let s := (s.at (max u.goodAt (u.lastAt + 50000))).dropUnit u
        { s with dzf := { s.dzf with dedup := s.dzf.dedup.filter (fun d =>
            !(d.src = s.dzf.nodeId && d.tag = u.pkt.tag && u.pkt.dst = s.dzf.nodeId)) } }
      else s
    | none => s)

/-- DEDUP_EXPIRE: an entry leaves the store when its source has released the tag, which for a unit of this node's own shows
among its units, or when 2 ms have passed since the unit was applied (07, R253; log entry 116, DESIGN CHOICE). -/
def State.dedupExpire (s : State) (src tag epoch : Nat) (released : Bool) : State :=
  let mine (d : Dedup) : Bool := d.src = src && d.tag = tag && d.epoch = epoch
  match s.dzf.dedup.find? mine with
  | none => s
  | some d =>
    if released then
      if src = s.dzf.nodeId && (s.unitTag tag).isSome then s
      else { s with dzf := { s.dzf with dedup := s.dzf.dedup.filter (fun x => !mine x) } }
    else
      let s := s.at (d.at_ + 2000000)
      { s with dzf := { s.dzf with dedup := s.dzf.dedup.filter (fun x => !mine x) } }

/-- DEDUP_EXPIRE. -/
def execDedupExpire (src tag : Nat) (e : DedupEnd) (s : State) : Out := .next (s.dedupExpire src tag e.epoch e.released)

/-- CREDIT_STALL_DISCARD: a packet that waited 100 µs in a port queue is gone, and counted (11, R357). -/
def execCreditStallDiscard (port : Nat) (m : Packet) (s : State) : Out :=
  guard (decide (port < 32))
    (match s.tx.find? (fun e => e.1 = port && e.2.1 = m) with
    | some e =>
      let s := s.at (e.2.2 + 100000)
      let v := s.port port
      ({ s with tx := s.tx.erase e }).setPort port { v with stall := sat16 (v.stall + 1) }
    | none => s)

end Sys2Proof.Machine
end

