-- ==== Sys2Proof/Machine/Feu.lean ====
section
/-! DEFINITION. The FEU: event records, its ring, counters and FAULT_N, and what Trivet does with a record (10, R335 to R340;
13, R402, R403, R416, R420). -/

namespace Sys2Proof.Machine

/-! ## Trivet's part (13) -/

/-- The black box's second rolls on: what the last second lost is queued as one LOST record (13, R420). -/
def State.bbrRoll (s : State) : State :=
  let sec := s.time / 1000000000
  if s.trv.second = sec then s else
  let l := s.trv.lostSec
  let s := if l.isEmpty then s else s.bbrPut (.lost l.length (l.headD 0) (l.getLastD 0))
  { s with trv := { s.trv with second := sec, secCount := 0, lostSec := [] } }

/-- An EVENT record for the black box: at most 64 in a second, and 256 waiting (13, R420). -/
def State.bbrEvent (s : State) (e : SeqEvent) : State :=
  let s := s.bbrRoll
  if 64 ≤ s.trv.secCount ∨ 256 ≤ s.trv.bbrQ.length then
    { s with trv := { s.trv with lostSec := s.trv.lostSec ++ [e.seq] } }
  else ({ s with trv := { s.trv with secCount := s.trv.secCount + 1 } }).bbrPut (.event e)

/-- A record for subscriber i: queued, or dropped and reported when its 1,024 places are full (13, R403, R404). -/
def State.subPut (s : State) (e : SeqEvent) (i : Nat) : State :=
  match s.trv.subs[i]? with
  | none => s
  | some u =>
    if e.ev.cls < u.cls then s
    else if u.queue.length < 1024 then
      { s with trv := { s.trv with subs := s.trv.subs.set i { u with queue := u.queue ++ [e] } } }
    else
      ({ s with trv := { s.trv with subs := s.trv.subs.set i { u with lost := u.lost + 1 } } }).condition 0x08 i ((u.lost + 1 : Nat) : Int)

/-- Trivet takes a record: every subscriber, and the black box for classes S, P and X (10, R337; 13, R402). -/
def State.trivetTake (s : State) (e : SeqEvent) : State :=
  let s := (List.range 4).foldl (fun s i => s.subPut e i) s
  if 2 ≤ e.ev.cls then s.bbrEvent e else s

/-- The FEU passes a record on, or holds it during a restart (13, R416; log entry 84, DEDUCED). -/
def State.toTrivet (s : State) (e : SeqEvent) : State :=
  if s.trv.ready then s.trivetTake e
  else if s.feu.held.length < 4096 then { s with feu := { s.feu with held := s.feu.held ++ [e] } }
  else { s with feu := { s.feu with heldLost := s.feu.heldLost ++ [e.seq] } }

/-! ## The FEU -/

/-- The 32 bytes of an event record (10, Table 10-11). -/
def eventBytes (e : SeqEvent) : List Byte :=
  leBytes 8 e.ev.time ++ leBytes 2 e.ev.code ++ leBytes 1 (e.ev.cls % 16) ++ leBytes 1 e.ev.unit ++ leBytes 2 e.ev.index ++
  leBytes 2 0 ++
  leBytes 4 (match e.ev.stream with
    | some i => 2 ^ 31 + i % 2 ^ 18
    | none => 0) ++
  leBytes 4 (if e.ev.stream.isSome then e.ev.step % 2 ^ 28 else 0) ++ leBytes 4 e.ev.detail ++ leBytes 4 e.seq

/-- Ring entries (10, Table 10-17). -/
def ringSize (f : Feu) : Nat := 2 ^ min 20 (max 8 (bits f.cfg.toNat 20 16))

/-- A record dropped for the ring only. -/
def State.feuLost (s : State) : State := { s with feu := { s.feu with lost := sat32 (s.feu.lost + 1) } }

/-- The ring's share of a record (10, R337). -/
def State.feuRing (s : State) (e : SeqEvent) : State :=
  let f := s.feu
  let n := ringSize f
  if !bit f.cfg.toNat 8 then s
  else if n ≤ (f.tail - f.head).toNat then s.feuLost
  else
    let a := f.ringBase.toNat + f.tail.toNat % n * 32
    let next (s : State) : State := { s with feu := { s.feu with tail := s.feu.tail + 1 } }
    if bit f.cfg.toNat 9 then
      (if (s.hostFail a 32).isSome then s.feuLost else next (s.hwr a (eventBytes e)))
    else if hbmLen < f.ringBase.toNat + 32 * n then s.feuLost
    else next (s.wr a (eventBytes e))

/-- The FEU takes a record: number, count, ring, vector 0, pending bit, Trivet (10, R337; 12, R388). -/
def State.feuTake (s : State) (ev : EventRec) : State :=
  let q := s.feu.seq + 1
  let e : SeqEvent := { ev := ev, seq := q % 2 ^ 32 }
  let c := ev.cls
  let s := { s with feu := { s.feu with
    seq := q, cnt := tmod natDflt s.feu.cnt c (fun n => sat32 (n + 1))
    pend := s.feu.pend ||| (1#5 <<< c) } }
  let s := s.feuRing e
  let irq := bits s.feu.cfg.toNat 2 0
  let s := if irq ≤ 4 ∧ irq ≤ c then s.msi 0 0 else s
  s.toTrivet e

/-- EVENT_RECORD: the FEU takes the first record raised (10, R337; log entry 83, DEDUCED). -/
def execEventRecord (s : State) : Out :=
  .next (match s.evq with
    | e :: t => if s.clocked then ({ s with evq := t }).feuTake e else s
    | [] => s)

/-- FAULT_N is asserted (10, R338; 14, R433). -/
def State.faultN (s : State) : Bool :=
  let c := min 4 (bits s.feu.cfg.toNat 6 4)
  s.dev.faultClk || (List.range 5).any (fun k => decide (c ≤ k) && bit s.feu.pend.toNat k)

/-- Writing 1 to pending bits (10, R338). -/
def State.pendClear (s : State) (mask : BitVec 5) : State := { s with feu := { s.feu with pend := s.feu.pend &&& ~~~mask } }

/-- `FEU_CTL.RING_RST` (10, Table 10-16). -/
def State.ringReset (s : State) : State := { s with feu := { s.feu with tail := 0, head := 0, lost := 0 } }

/-- `FEU_CTL.CNT_CLR`: the counters at 0x030 to 0x054 (10, Table 10-16). -/
def State.feuClear (s : State) : State :=
  { s with feu := { s.feu with cnt := [], replSpare := 0, replSame := 0, smpRun := 0, smpFail := 0, smpSkip := 0 } }

/-- FEU_PEND_CLEAR. -/
def execFeuPendClear (mask : BitVec 5) (s : State) : Out := .next (s.pendClear mask)

/-- RING_RST. -/
def execRingRst (s : State) : Out := .next s.ringReset

/-- FEU_CNT_CLR. -/
def execFeuCntClr (s : State) : Out := .next s.feuClear

end Sys2Proof.Machine
end

