-- ==== Sys2Proof/Machine/Ports.lean ====
section
/-! DEFINITION. Fabric ports and the Plait switch: link commands, retirement, circuits (11, R343 to R348, R362, R365, R366). -/

namespace Sys2Proof.Machine

/-- Run a port command while the clock runs. -/
def State.onPort (s : State) (n : Nat) (f : State → State) : Out := guard (decide (n < 32)) (if s.clocked then f s else s)

/-! ## Replays and windows (11, R343, R347, R348) -/

/-- FLIT_REPLAY: counted. Whether FEC or the CRC refused the flit is a free value (log entry 41, DESIGN CHOICE). -/
def execFlitReplay (n : Nat) (s : State) : Out :=
  s.onPort n (fun s =>
    let v := s.port n
    if !linked v.st then s else
    let unc := (Config.freeWord s.freeCtr).toNat % 2
    s.fresh.setPort n { v with crc := sat32 (v.crc + 1), crcMs := v.crcMs + 1, fecUnc := sat16 (v.fecUnc + unc) })

/-- REPLAY_WINDOW: the end of a 1 ms window. LINK_CRC tells the replays of that millisecond (R347; log entry 145, DEDUCED), and
ten windows in a row above RETRY_THR retire the port (R348). Codewords that FEC corrected are a
free count (log entry 41, DESIGN CHOICE). -/
def execReplayWindow (n : Nat) (s : State) : Out :=
  s.onPort n (fun s =>
    let v := s.port n
    let bad := if bits v.cfg.toNat 15 0 < v.crcMs then v.badWins + 1 else 0
    let cor := if linked v.st then bits (Config.freeWord s.freeCtr).toNat 15 0 else 0
    let s := s.fresh.setPort n { v with crcMs := 0, badWins := bad, fecCor := sat16 (v.fecCor + cor) }
    let s := if v.crcMs = 0 then s else s.raise 0x0801 1 0x05 n (shl (min 0xFFFF v.crcMs) 16 + n)
    if 10 ≤ bad ∧ (v.st = .hello ∨ v.st = .up ∨ v.st = .drain ∨ v.st = .down ∨ v.st = .training) then s.retirePort n 1 else s)

/-! ## Link state (11, R344, R345, Table 11-3) -/

/-- LIGHT_DETECT: light on all 8 lanes starts training, once the quadrant's Coil has locked since cold reset. The received
powers are free (log entry 41, DESIGN CHOICE). -/
def execLightDetect (n : Nat) (s : State) : Out :=
  s.onPort n (fun s =>
    if (s.port n).st = .down && (s.coil (n / 8)).everLocked then
      let pw : Tab W32 := (List.range 4).map (fun m => (m, Config.freeWord (s.freeCtr + m)))
      let s := ({ s with freeCtr := s.freeCtr + 4 }).portTo n .training
      s.setPort n { s.port n with rxPwr := pw }
    else s)

/-- LINK_UP: the link layer is up, its lanes locked. -/
def execLinkUp (n : Nat) (s : State) : Out :=
  s.onPort n (fun s =>
    if (s.port n).st = .training then
      let s := s.portTo n .hello
      s.setPort n { s.port n with lanes := 0xFF }
    else s)

/-- TRAINING_TIMEOUT: 10 ms after entry; the third training failure within 1 s retires the port. -/
def execTrainingTimeout (n : Nat) (s : State) : Out :=
  s.onPort n (fun s =>
    let v := s.port n
    if v.st = .training then
      let s := s.at (v.stateAt + 10000000)
      let ts := lastSecond s.time v.trainFailAt ++ [s.time]
      let s := (s.setPort n { v with trainFail := sat16 (v.trainFail + 1), trainFailAt := ts }).portTo n .down
      if 3 ≤ ts.length then s.retirePort n 2 else s
    else s)

/-- LOSS_OF_SIGNAL, or no acknowledgement for 2 µs. -/
def execLossOfSignal (n : Nat) (s : State) : Out := s.onPort n (·.portDown n)

/-- EN set to 1. -/
def State.portOn (s : State) (n : Nat) : State :=
  let s := s.setPort n { s.port n with en := true }
  if (s.port n).st = .disabled then s.portTo n .down else s

/-- EN set to 0. -/
def State.portOff (s : State) (n : Nat) : State :=
  let s := s.setPort n { s.port n with en := false }
  if (s.port n).st = .retired ∨ (s.port n).st = .pass then s else s.portTo n .disabled

/-- DRAIN set to a value. -/
def State.portDrain (s : State) (n : Nat) (on : Bool) : State :=
  let v := { s.port n with drainBit := on }
  let st := if on && v.st = .up then .drain else if !on && v.st = .drain then .up else v.st
  (s.setPort n { v with st := st }).adopt

/-- RETRAIN. -/
def State.portRetrain (s : State) (n : Nat) : State :=
  if (s.port n).st = .isolated ∨ (s.port n).st = .drain then s.portTo n .training else s

/-- UNRETIRE: the port comes back, and the black box says so (11, R348). -/
def State.portBack (s : State) (n : Nat) : State :=
  if (s.port n).st = .retired then (s.portTo n .down).bbrPut (.portUnretire n) else s

/-- PORT_ENABLE. -/
def execPortEnable (n : Nat) (s : State) : Out := s.onPort n (·.portOn n)
/-- PORT_DISABLE. -/
def execPortDisable (n : Nat) (s : State) : Out := s.onPort n (·.portOff n)
/-- PORT_DRAIN. -/
def execPortDrain (n : Nat) (on : Bool) (s : State) : Out := s.onPort n (·.portDrain n on)
/-- RETRAIN. -/
def execRetrain (n : Nat) (s : State) : Out := s.onPort n (·.portRetrain n)
/-- UNRETIRE. -/
def execUnretire (n : Nat) (s : State) : Out := s.onPort n (·.portBack n)

/-! ## Plait (11, R365, R366) -/

/-- Why port p makes a staged map be refused: a port whose mode changes must be in DRAIN, DOWN or DISABLED, or in PASS already
(R366); Table 11-3 gives an ISOLATED one no way to PASS either (log entry 146, DEDUCED). -/
def State.plaitBad (s : State) (p : Nat) : Bool :=
  let v := s.port p
  let w := s.port v.stgPeer
  v.stgMode = 3 || (v.stgMode = 1 && !(w.stgMode = 1 && w.stgPeer = p)) ||
  (v.stgMode ≠ v.mode && (v.st = .up || v.st = .hello || v.st = .training || v.st = .isolated || v.st = .retired))

/-- One port as the map is applied: leaving LOCAL, its engine goes dark at once; going back, it waits for the couplers (11,
Table 11-9; log entry 42, DEDUCED). -/
def State.plaitPort (s : State) (p : Nat) : State :=
  let v := s.port p
  let back := decide (v.mode ≠ 0) && decide (v.stgMode = 0)
  let away := decide (v.mode = 0) && decide (v.stgMode ≠ 0)
  let s := s.setPort p { v with mode := v.stgMode, peer := if v.stgMode = 1 then v.stgPeer else 0, toLocal := back }
  if away then s.portTo p .pass else s

/-- Apply or refuse the staged map. -/
def State.plaitApply (s : State) : State :=
  match (List.range 32).find? s.plaitBad with
  | some p => { s with dzf := { s.dzf with plaitRef := true, plaitPort := p } }
  | none =>
    let s := (List.range 32).foldl State.plaitPort s
    { s with dzf := { s.dzf with plaitRef := false, plaitPort := 0, plaitBusy := true, plaitAt := s.time } }

/-- PLAIT_APPLY. -/
def execPlaitApply (s : State) : Out := .next (if s.clocked then s.plaitApply else s)

/-- PLAIT_SETTLED: 40 µs after APPLY. -/
def execPlaitSettled (s : State) : Out :=
  .next (if s.dzf.plaitBusy && s.clocked then
    let s := s.at (s.dzf.plaitAt + 40000)
    let s := (List.range 32).foldl (fun s p =>
      let v := s.port p
      if v.toLocal then (s.setPort p { v with toLocal := false }).portTo p .down else s) s
    { s with dzf := { s.dzf with plaitBusy := false } }
  else s)

end Sys2Proof.Machine
end

