-- ==== Sys2Proof/Machine/Sha.lean ====
section
/-! DEFINITION. SHA-384 of the 128-byte configuration record (11, R367). The spec names the function and leaves it to its
standard, FIPS 180-4 (log entry 43, PRESUMED). -/

namespace Sys2Proof.Machine

/-- Round constants 0 to 19. -/
def shaK0 : List W64 := [
  0x428a2f98d728ae22#64, 0x7137449123ef65cd#64, 0xb5c0fbcfec4d3b2f#64, 0xe9b5dba58189dbbc#64,
  0x3956c25bf348b538#64, 0x59f111f1b605d019#64, 0x923f82a4af194f9b#64, 0xab1c5ed5da6d8118#64,
  0xd807aa98a3030242#64, 0x12835b0145706fbe#64, 0x243185be4ee4b28c#64, 0x550c7dc3d5ffb4e2#64,
  0x72be5d74f27b896f#64, 0x80deb1fe3b1696b1#64, 0x9bdc06a725c71235#64, 0xc19bf174cf692694#64,
  0xe49b69c19ef14ad2#64, 0xefbe4786384f25e3#64, 0x0fc19dc68b8cd5b5#64, 0x240ca1cc77ac9c65#64]

/-- Round constants 20 to 39. -/
def shaK1 : List W64 := [
  0x2de92c6f592b0275#64, 0x4a7484aa6ea6e483#64, 0x5cb0a9dcbd41fbd4#64, 0x76f988da831153b5#64,
  0x983e5152ee66dfab#64, 0xa831c66d2db43210#64, 0xb00327c898fb213f#64, 0xbf597fc7beef0ee4#64,
  0xc6e00bf33da88fc2#64, 0xd5a79147930aa725#64, 0x06ca6351e003826f#64, 0x142929670a0e6e70#64,
  0x27b70a8546d22ffc#64, 0x2e1b21385c26c926#64, 0x4d2c6dfc5ac42aed#64, 0x53380d139d95b3df#64,
  0x650a73548baf63de#64, 0x766a0abb3c77b2a8#64, 0x81c2c92e47edaee6#64, 0x92722c851482353b#64]

/-- Round constants 40 to 59. -/
def shaK2 : List W64 := [
  0xa2bfe8a14cf10364#64, 0xa81a664bbc423001#64, 0xc24b8b70d0f89791#64, 0xc76c51a30654be30#64,
  0xd192e819d6ef5218#64, 0xd69906245565a910#64, 0xf40e35855771202a#64, 0x106aa07032bbd1b8#64,
  0x19a4c116b8d2d0c8#64, 0x1e376c085141ab53#64, 0x2748774cdf8eeb99#64, 0x34b0bcb5e19b48a8#64,
  0x391c0cb3c5c95a63#64, 0x4ed8aa4ae3418acb#64, 0x5b9cca4f7763e373#64, 0x682e6ff3d6b2b8a3#64,
  0x748f82ee5defb2fc#64, 0x78a5636f43172f60#64, 0x84c87814a1f0ab72#64, 0x8cc702081a6439ec#64]

/-- Round constants 60 to 79. -/
def shaK3 : List W64 := [
  0x90befffa23631e28#64, 0xa4506cebde82bde9#64, 0xbef9a3f7b2c67915#64, 0xc67178f2e372532b#64,
  0xca273eceea26619c#64, 0xd186b8c721c0c207#64, 0xeada7dd6cde0eb1e#64, 0xf57d4f7fee6ed178#64,
  0x06f067aa72176fba#64, 0x0a637dc5a2c898a6#64, 0x113f9804bef90dae#64, 0x1b710b35131c471b#64,
  0x28db77f523047d84#64, 0x32caab7b40c72493#64, 0x3c9ebe0a15c9bebc#64, 0x431d67c49c100d4c#64,
  0x4cc5d4becb3e42b6#64, 0x597f299cfc657e2a#64, 0x5fcb6fab3ad6faec#64, 0x6c44198c4a475817#64]

/-- All 80 round constants. -/
def shaK : List W64 := shaK0 ++ shaK1 ++ shaK2 ++ shaK3

/-- The eight chaining words: a to h. -/
structure Sha where
  a : W64
  b : W64
  c : W64
  d : W64
  e : W64
  f : W64
  g : W64
  h : W64
  deriving DecidableEq, Repr

/-- Initial hash value of SHA-384. -/
def sha384Init : Sha :=
  { a := 0xcbbb9d5dc1059ed8#64
    b := 0x629a292a367cd507#64
    c := 0x9159015a3070dd17#64
    d := 0x152fecd8f70e5939#64
    e := 0x67332667ffc00b31#64
    f := 0x8eb44a8768581511#64
    g := 0xdb0c2e0d64f98fa7#64
    h := 0x47b5481dbefa4fa4#64 }

/-- Small sigma 0. -/
def shaS0 (x : W64) : W64 := x.rotateRight 1 ^^^ x.rotateRight 8 ^^^ (x >>> 7)
/-- Small sigma 1. -/
def shaS1 (x : W64) : W64 := x.rotateRight 19 ^^^ x.rotateRight 61 ^^^ (x >>> 6)
/-- Big sigma 0. -/
def shaB0 (x : W64) : W64 := x.rotateRight 28 ^^^ x.rotateRight 34 ^^^ x.rotateRight 39
/-- Big sigma 1. -/
def shaB1 (x : W64) : W64 := x.rotateRight 14 ^^^ x.rotateRight 18 ^^^ x.rotateRight 41

/-- One round with its schedule word. -/
def shaRound (v : Sha) (k w : W64) : Sha :=
  let t1 := v.h + shaB1 v.e + ((v.e &&& v.f) ^^^ (~~~v.e &&& v.g)) + k + w
  let t2 := shaB0 v.a + ((v.a &&& v.b) ^^^ (v.a &&& v.c) ^^^ (v.b &&& v.c))
  { a := t1 + t2, b := v.a, c := v.b, d := v.c, e := v.d + t1, f := v.e, g := v.f, h := v.g }

/-- The rounds over the constants left, with the sixteen latest schedule words, oldest first. -/
def shaRounds (v : Sha) : List W64 → List W64 → Sha
  | [], _ => v
  | k :: ks, ws =>
    let w := ws.headD 0
    let next := shaS1 (ws.getD 14 0) + ws.getD 9 0 + shaS0 (ws.getD 1 0) + w
    shaRounds (shaRound v k w) ks (ws.tail ++ [next])

/-- One block of sixteen words. -/
def shaBlock (v : Sha) (ws : List W64) : Sha :=
  let r := shaRounds v shaK ws
  { a := v.a + r.a, b := v.b + r.b, c := v.c + r.c, d := v.d + r.d
    e := v.e + r.e, f := v.f + r.f, g := v.g + r.g, h := v.h + r.h }

/-- Big-endian words of bytes. -/
def beWords : Nat → List Byte → List W64
  | 0, _ => []
  | n + 1, bs => BitVec.ofNat 64 ((bs.take 8).foldl (fun x b => x * 256 + b.toNat) 0) :: beWords n (bs.drop 8)

/-- Bytes 0 to 7, read little-endian, of the SHA-384 of a 128-byte record: one data block and one of padding. -/
def sha384Low (rec : List Byte) : W64 :=
  let pad : List W64 := 0x8000000000000000#64 :: List.replicate 14 0 ++ [1024#64]
  let v := shaBlock (shaBlock sha384Init (beWords 16 rec)) pad
  BitVec.ofNat 64 (leNat ((leBytes 8 v.a.toNat).reverse))

end Sys2Proof.Machine
end

