-- ==== Sys2Proof/Machine/Hall.lean ====
section
/-! DEFINITION. Finding the hall and agreeing on its configuration: HELLO, the coordinator, node IDs, time, MGT packets and
rollouts (11, R349 to R354, R364, R367 to R373). -/

namespace Sys2Proof.Machine

/-! ## HELLO (11, R346, R349, R354) -/

/-- The HELLO a port sends (11, Table 11-4). -/
def State.helloOf (s : State) (n : Nat) : Hello :=
  let v := s.port n
  let d := s.dzf
  { uid := s.uid, coord := s.coordOf, epoch := d.epoch.toNat, node := if d.idValid then d.nodeId else 0xFFFF, port := n
    genMap := 1, cls := s.dev.cls.toNat, solo := d.solo, digest := d.digest.toNat, hb := d.hb
    dist := if d.dist = 0xFF then 0 else d.dist
    tTx := s.time, echoTx := match v.nbr with | some m => m.tTx | none => 0
    echoRx := if v.nbr.isSome then v.nbrAt else 0 }

/-- HELLO_SEND: every 100 µs on every linked port. -/
def execHelloSend (n : Nat) (s : State) : Out :=
  s.onPort n (fun s => if linked (s.port n).st then { s with hellos := s.hellos ++ [(n, s.helloOf n)] } else s)

/-- The neighbour registers take a HELLO; its heartbeat has advanced where the same coordinator's HB went on (11, R350). -/
def State.keepHello (s : State) (n : Nat) (m : Hello) : State :=
  let v := s.port n
  let adv := match v.nbr with
    | some o => decide (o.coord = m.coord) && decide (o.hb ≠ m.hb) && decide ((m.hb + 2 ^ 32 - o.hb) % 2 ^ 32 < 2 ^ 31)
    | none => false
  s.setPort n { v with nbr := some m, nbrAt := s.time, nbrHbAt := if adv then s.time + 1 else v.nbrHbAt }

/-- A SOLO node meets a neighbour: it joins one that is not SOLO, and of two SOLO nodes the one with the higher UID joins
(11, R351). -/
def State.meetSolo (s : State) (n : Nat) (m : Hello) : State :=
  let s := { s with dzf := { s.dzf with solo := false } }
  if m.solo ∧ s.uid < m.coord then s
  else
    let s := s.setPort n { s.port n with nbrHbAt := s.time + 1 }
    s.follow n m.coord (min 254 (m.dist + 1))

/-- A port in HELLO settles its generation (11, R346, Table 11-3). -/
def State.settlePort (s : State) (n : Nat) (m : Hello) : State :=
  let v := s.port n
  if v.st ≠ .hello then s
  else if bit m.genMap 0 then
    let s := s.setPort n { v with st := if v.drainBit then .drain else .up, gen := 1, stateAt := s.time }
    if s.dzf.solo && !v.drainBit then s.meetSolo n m else s
  else (s.setPort n { v with st := .isolated, gen := 0, stateAt := s.time }).raise 0x0805 0 0x05 n (shl n 4 + m.genMap % 16)

/-- A HELLO of the node's own epoch with another digest (11, R368). -/
def State.helloCfg (s : State) (n : Nat) (m : Hello) : State :=
  if m.epoch = s.dzf.epoch.toNat ∧ m.digest ≠ s.dzf.digest.toNat then s.mismatch 2 n m.epoch m.node else s

/-- Steering towards the parent: the first measurement steps the counter, later ones slew it, at most 20 ns in the 100 µs
between two HELLOs (11, R354; log entry 44, DEDUCED). -/
def State.steer (s : State) (n : Nat) (m : Hello) : State :=
  if s.dzf.parent ≠ some n ∨ m.echoTx = 0 then s else
  let ofs : Int := (((m.echoRx : Int) - m.echoTx) - ((s.time : Int) - m.tTx)) / 2
  if !s.dzf.stepped then
    { s with time := ((s.time : Int) + ofs).toNat, dzf := { s.dzf with timeOfs := ofs, stepped := true, sync := true } }
  else
    let far (x : Int) : Bool := decide (100000 < x.natAbs)
    let was := far s.dzf.timeOfs
    let s := { s with
      time := s.time + (clampI 0 20 ofs).toNat
      dzf := { s.dzf with timeOfs := ofs, sync := decide (ofs.natAbs ≤ 10000), slew := (clampI 0 20 (-ofs)).toNat } }
    if far ofs && !was then s.condition 0x03 0 (ofs / 1000) else s

/-- The heartbeat last seen comes from the parent (11, R350). -/
def State.takeHb (s : State) (n : Nat) (m : Hello) : State :=
  if s.dzf.parent = some n then { s with dzf := { s.dzf with hb := m.hb } } else s

/-- HELLO. -/
def execHello (n : Nat) (m : Hello) (s : State) : Out :=
  s.onPort n (fun s =>
    if linked (s.port n).st then
      ((((s.keepHello n m).settlePort n m).helloCfg n m).adopt.takeHb n m).steer n m
    else s)

/-! ## The coordinator (11, R350 to R352) -/

/-- Who holds a node ID. -/
def idOwner (l : List (Nat × Nat)) (node : Nat) : Option Nat := (l.find? (fun e => e.2 = node)).map (·.1)

/-- The ID a UID has in a list. -/
def idOf (l : List (Nat × Nat)) (uid : Nat) : Option Nat := (l.find? (fun e => e.1 = uid)).map (·.2)

/-- The ID that the coordinator assigns: mapped, or assigned before (log entry 40, DEDUCED), or the lowest that is neither. -/
def State.chooseId (s : State) (uid : Nat) : Option Nat :=
  match idOf s.dzf.idmap uid, idOf s.dzf.assigned uid with
  | some i, _ => some i
  | none, some i => some i
  | none, none =>
    let used := (s.dzf.idmap ++ s.dzf.assigned).map (·.2)
    (List.range (min 32768 (used.length + 1))).find? (fun i => !used.contains i)

/-- An ID is free for a UID: neither mapped nor assigned to another. -/
def State.grantable (s : State) (uid node : Nat) : Bool :=
  (match idOwner s.dzf.idmap node with | some u => u = uid | none => true) &&
  (match idOwner s.dzf.assigned node with | some u => u = uid | none => true)

/-- Note that an ID is a UID's. -/
def State.noteAssigned (s : State) (uid node : Nat) : State :=
  { s with dzf := { s.dzf with assigned := s.dzf.assigned.filter (fun e => e.1 != uid && e.2 != node) ++ [(uid, node)] } }

/-- The node's claim was denied: no valid ID, and Trivet says so (11, R352). -/
def State.loseId (s : State) : State :=
  let old := s.dzf.nodeId
  ({ s with dzf := { s.dzf with idValid := false, nodeId := 0xFFFF } }).condition 0x04 0 (old : Int)

/-- The coordinator grants itself an ID by the same rule. -/
def State.selfId (s : State) : State :=
  let s := if s.dzf.idValid ∧ !s.grantable s.uid s.dzf.nodeId then s.loseId else s
  if s.dzf.idValid then s.noteAssigned s.uid s.dzf.nodeId
  else match s.chooseId s.uid with
    | some i => ({ s with dzf := { s.dzf with idValid := true, nodeId := i } }).noteAssigned s.uid i
    | none => s

/-- COORD_TIMEOUT: a heartbeat 10 ms old is dropped; a node without a lower UID for 10 ms becomes the coordinator. -/
def execCoordTimeout (s : State) : Out :=
  .next (
    if !s.clocked || s.dzf.solo || s.dzf.coord || s.dzf.dist = 0xFF then s
    else if s.dzf.coordUid = s.uid then
      let s := (s.at (s.dzf.coordAt + 10000000)).adopt
      if s.dzf.coordUid = s.uid then
        ({ s with dzf := { s.dzf with coord := true, parent := none, dist := 0, assigned := [], sync := true, stepped := true
                                      timeOfs := 0, slew := 0 } }).selfId
      else s
    else
      match s.dzf.parent with
      | some p => (s.at ((s.port p).nbrHbAt + 10000000)).adopt
      | none => s.adopt)

/-- HEARTBEAT: the coordinator's HB goes on, every 1 ms. -/
def execHeartbeat (s : State) : Out :=
  .next (if s.dzf.coord && s.clocked then { s with dzf := { s.dzf with hb := (s.dzf.hb + 1) % 2 ^ 32 } } else s)

/-- SOLO_START (11, R351). -/
def execSoloStart (s : State) : Out :=
  .next (
    if !s.clocked || s.dzf.solo || !s.upPorts.isEmpty then s
    else { s with dzf := { s.dzf with
      solo := true, coord := true, coordUid := s.uid, parent := none, dist := 0
      nodeId := (idOf s.dzf.idmap s.uid).getD 0, idValid := true
      stepped := true, timeOfs := 0, sync := true, slew := 0 } })

/-! ## JOIN, ASSIGN, CLAIM, DENY (11, R352, R353; log entry 40, DEDUCED) -/

/-- Keep the port a UID's request came up by. -/
def State.noteUp (s : State) (port uid : Nat) : State :=
  { s with dzf := { s.dzf with upFrom := s.dzf.upFrom.filter (fun e => e.1 != uid) ++ [(uid, port)] } }

/-- A grant passes down: the way to its node is recorded. -/
def State.noteDown (s : State) (port node : Nat) : State :=
  { s with dzf := { s.dzf with downPath := tset noneDflt s.dzf.downPath node (some port) } }

/-- A request goes on up the tree. -/
def State.passUp (s : State) (sub port uid node : Nat) : State :=
  let s := s.noteUp port uid
  match s.dzf.parent with
  | some p => s.putJoin sub p uid node
  | none => s

/-- An answer goes on down, by the way its UID's request came. -/
def State.passDown (s : State) (sub uid node : Nat) (grant : Bool) : State :=
  match idOf s.dzf.upFrom uid with
  | some p => (if grant then s.noteDown p node else s).putJoin sub p uid node
  | none => s

/-- JOIN. -/
def State.join (s : State) (port uid : Nat) : State :=
  if s.dzf.coord then
    match s.chooseId uid with
    | some i => (((s.noteAssigned uid i).noteUp port uid).noteDown port i).putJoin 2 port uid i
    | none => s
  else s.passUp 1 port uid 0

/-- ASSIGN. -/
def State.assign (s : State) (uid node : Nat) : State :=
  if uid = s.uid then { s with dzf := { s.dzf with idValid := true, nodeId := node } }
  else s.passDown 2 uid node true

/-- CLAIM: judged by the coordinator; a grant comes back down as a CLAIM. -/
def State.claim (s : State) (port uid node : Nat) : State :=
  if s.dzf.coord then
    if s.grantable uid node then (((s.noteAssigned uid node).noteUp port uid).noteDown port node).putJoin 3 port uid node
    else s.putJoin 4 port uid node
  else if s.dzf.parent = some port then (if uid = s.uid then s else s.passDown 3 uid node true)
  else s.passUp 3 port uid node

/-- DENY. -/
def State.deny (s : State) (uid node : Nat) : State :=
  if uid = s.uid then
    if s.dzf.idValid ∧ s.dzf.nodeId = node then
      let s := s.loseId
      match s.dzf.parent with
      | some p => s.putJoin 1 p s.uid 0
      | none => s
    else s
  else s.passDown 4 uid node false

/-- Run a tree message on a port that carries traffic. -/
def State.onTree (s : State) (n : Nat) (f : State → State) : Out := s.onPort n (fun s => if s.carries n then f s else s)

/-- JOIN. -/
def execJoin (n uid : Nat) (s : State) : Out := s.onTree n (·.join n uid)
/-- ASSIGN. -/
def execAssign (n uid node : Nat) (s : State) : Out := s.onTree n (·.assign uid node)
/-- CLAIM. -/
def execClaim (n uid node : Nat) (s : State) : Out := s.onTree n (·.claim n uid node)
/-- DENY. -/
def execDeny (n uid node : Nat) (s : State) : Out := s.onTree n (·.deny uid node)

/-- JOIN_RESEND: every 1 ms while the node has no ID. -/
def execJoinResend (s : State) : Out :=
  .next (
    match s.dzf.parent with
    | some p => if s.clocked && !s.dzf.idValid then s.putJoin 1 p s.uid 0 else s
    | none => s)

/-! ## The ID map (11, R352, Table 11-19) -/

/-- The UID in `DZF_IDMAP_UID0` to `3`. -/
def Dzf.mapUid (d : Dzf) : Nat := d.idmapUid.foldr (fun w x => w.toNat + 2 ^ 32 * x) 0

/-- `DZF_IDMAP_CTL.WR`: the pair replaces any entry for either; an ID above 32,767, or a new pair in a full map, is ignored. -/
def State.idmapWr (s : State) (node : Nat) : State :=
  let d := { s.dzf with idmapId := node % 2 ^ 16 }
  let rest := d.idmap.filter (fun e => e.1 != d.mapUid && e.2 != d.idmapId)
  let full := decide (32768 ≤ d.idmap.length) && decide (rest.length = d.idmap.length)
  { s with dzf := if 32767 < d.idmapId ∨ full then d else { d with idmap := rest ++ [(d.mapUid, d.idmapId)] } }

/-- `DZF_IDMAP_CTL.DEL`. -/
def State.idmapDel (s : State) : State :=
  { s with dzf := { s.dzf with idmap := s.dzf.idmap.filter (fun e => e.1 != s.dzf.mapUid) } }

/-- IDMAP_WR. -/
def execIdmapWr (node : Nat) (s : State) : Out := .next (s.idmapWr node)

/-- IDMAP_DEL. -/
def execIdmapDel (s : State) : Out := .next s.idmapDel

/-! ## MGT packets (11, R353; 13, R399) -/

/-- Deliver an MGT packet: subtypes 0x01 to 0x04 to the tree, 0x10 to Trivet, whose commands have rows of their own; others
are discarded, those above 0x10 counted by Trivet. -/
def State.mgtIn (s : State) (port : Nat) (m : Packet) : State :=
  let s := if (s.dzf.acceptCfg m.cfg).isSome then s else s.countMis port m
  let sub := (m.payload.getD 0 0).toNat
  let uid := leNat ((m.payload.drop 1).take 16)
  let node := leNat ((m.payload.drop 17).take 2)
  if sub = 1 then s.join port uid
  else if sub = 2 then s.assign uid node
  else if sub = 3 then s.claim port uid node
  else if sub = 4 then s.deny uid node
  else if 0x11 ≤ sub ∧ (s.trv.ready ∨ s.trv.recovery) then { s with trv := { s.trv with disc := sat 0xFF (s.trv.disc + 1) } }
  else s

/-- MGT. -/
def execMgt (port : Nat) (m : Packet) (s : State) : Out := guard (portOk port) (s.arrival 0x07 port m (·.mgtIn port m))

/-! ## Rollouts (11, R367 to R371) -/

/-- Answer a rollout command. -/
def State.cfgResult (s : State) (r : Nat) : State := { s with dzf := { s.dzf with result := r } }

/-- HBM offset of the staged image. -/
def Dzf.imgOff (d : Dzf) : Nat := bits d.stgImg.toNat 43 0

/-- The staged image is named and cannot be used (11, Table 11-12). -/
def State.imgBad (s : State) : Bool :=
  bit s.dzf.stgImg.toNat 63 &&
  (s.dzf.imgOff % 4096 ≠ 0 || decide (hbmLen ≤ s.dzf.imgOff) || s.rdN s.dzf.imgOff 4 ≠ 0x31494B5A)

/-- The configuration set record (11, Table 11-10). -/
def State.cfgRecord (s : State) : List Byte :=
  leBytes 1 s.dev.cls.toNat ++ leBytes 3 0 ++ leBytes 4 s.dzf.stgRgen.toNat ++ leBytes 8 s.dzf.stgFmt.toNat ++
  (if bit s.dzf.stgImg.toNat 63 then s.rd (s.dzf.imgOff + 0x20) 48 else leBytes 48 0) ++ leBytes 1 1 ++ leBytes 63 0

/-- COMMIT: the staged epoch and tables come into force (11, R364, R369, R371). -/
def State.cfgCommit (s : State) : State :=
  let d := s.dzf
  let e := d.stgEpoch.toNat
  let c := d.epoch.toNat
  if d.phase ≠ 0 then s.cfgResult 0x01
  else if e = 0 ∨ (c ≠ 0 ∧ !(1 ≤ (e + 2 ^ 32 - c) % 2 ^ 32 ∧ (e + 2 ^ 32 - c) % 2 ^ 32 ≤ 15)) then s.cfgResult 0x02
  else if s.imgBad then s.cfgResult 0x03
  else { s with dzf := { d with
    result := 0, phase := if c = 0 then 0 else 1
    prevEpoch := if c = 0 then d.prevEpoch else d.epoch
    prevDigest := if c = 0 then d.prevDigest else d.digest
    epoch := d.stgEpoch, digest := sha384Low s.cfgRecord, rgen := d.stgRgen
    group := d.groupSh, member := d.memberSh, ties := [] } }

/-- ADVANCE. -/
def State.cfgAdvance (s : State) : State :=
  if s.dzf.phase = 1 then { s with dzf := { s.dzf with phase := 2, advAt := s.time, result := 0 } } else s.cfgResult 0x04

/-- CLOSE: at once when 2 ms have passed since ADVANCE, else it waits. -/
def State.cfgClose (s : State) : State :=
  if s.dzf.phase ≠ 2 then s.cfgResult 0x05
  else { s with dzf := { s.dzf with phase := if s.dzf.advAt + 2000000 ≤ s.time then 0 else 3, result := 0 } }

/-- CFG_COMMIT. -/
def execCfgCommit (s : State) : Out := .next (if s.clocked then s.cfgCommit else s)
/-- CFG_ADVANCE. -/
def execCfgAdvance (s : State) : Out := .next (if s.clocked then s.cfgAdvance else s)
/-- CFG_CLOSE. -/
def execCfgClose (s : State) : Out := .next (if s.clocked then s.cfgClose else s)

/-- CFG_CLOSE_EFFECT: 2 ms after ADVANCE the waiting CLOSE takes effect. -/
def execCfgCloseEffect (s : State) : Out :=
  .next (if s.dzf.phase = 3 ∧ s.clocked then
    let s := s.at (s.dzf.advAt + 2000000)
    { s with dzf := { s.dzf with phase := 0 } }
  else s)

/-- DZF_CNT_CLR: `DZF_MIS_CNT`, `DZF_TIE_CNT` and every port counter (11, Table 11-18). -/
def State.dzfClear (s : State) : State :=
  let s := (List.range 32).foldl (fun s n =>
    s.setPort n { s.port n with crc := 0, fecUnc := 0, fecCor := 0, trainFail := 0, downs := 0, bad := 0, stall := 0 }) s
  { s with dzf := { s.dzf with rcvd := 0, refused := 0, tie := 0 } }

/-- DZF_CNT_CLR. -/
def execDzfCntClr (s : State) : Out := .next (if s.clocked then s.dzfClear else s)

end Sys2Proof.Machine
end

