-- ==== Sys2Proof/Machine/Host.lean ====
section
/-! DEFINITION. The host port: BAR2, apertures, queue pairs and their commands, interrupts, virtual functions, and host-side
resets (12, R376 to R398). -/

namespace Sys2Proof.Machine

/-! ## BAR2 (12, R377 to R379) -/

/-- Where an access of n bytes at a BAR2 offset goes. -/
inductive BarTo where
  | mem (loc : Nat)
  | win (k : Nat)
  | rsv
  deriving DecidableEq, Repr

/-- 12, Table 12-4 (log entry 103, DEDUCED). -/
def barTo (addr n : Nat) : BarTo :=
  if addr + n ≤ hbmLen then .mem addr
  else if hbmLen ≤ addr ∧ addr + n ≤ hbmLen + crockLen then .mem (crockBase + (addr - hbmLen))
  else if 0x7000000000 ≤ addr ∧ addr / 2 ^ 32 = (addr + n - 1) / 2 ^ 32 then .win (addr / 2 ^ 32 % 16)
  else .rsv

/-- The global address of a byte of an aperture window, where the window is enabled (12, Table 12-16) and the fabric has its
clock (01, R18). -/
def State.apAddr (s : State) (k addr : Nat) : Option Nat :=
  let w := (tget w64Dflt s.hq.ap k).toNat
  if bit w 63 && decide (bits w 59 44 ≤ 32767) && s.clocked then some (shl (bits w 59 44) 44 + shl (bits w 43 32) 32 + addr % 2 ^ 32) else none

/-- HBM and the Crock take host traffic: MEM_READY, and a clock that runs (12, R393; 01, R18). -/
def State.memUp (s : State) : Bool := s.hq.memReady && s.clocked

/-- An access that is not carried out as issued: its flag, and REJECT (12, R378). -/
def State.barReject (s : State) (b : Nat) : State :=
  ({ s with hq := { s.hq with reject := sat16 (s.hq.reject + 1) } }).hqErr b

/-- A read returns data to the host: BAR2 offset, bytes, and the poison mark. -/
def State.barReturn (s : State) (addr : Nat) (bs : List Byte) (poison : Bool) : State :=
  { s with dev := { s.dev with barData := s.dev.barData ++ [(addr, bs, poison)] } }

/-- The length of an access: it lies in BAR2 and within one 4 KiB page, as PCI Express has it. -/
def barOk (addr n : Nat) : Bool := decide (1 ≤ n) && decide (addr % 4096 + n ≤ 4096) && decide (addr + n ≤ 2 ^ 39)

/-- The WRITE units of an aperture write. -/
def apWrites (g : Nat) (bytes : List Byte) (tag : Nat) : List FUnit :=
  (pieces g bytes.length).zipIdx.map (fun x =>
    let (u, off, n, at') := x.1
    { readUnit (.apWrite tag false) 0 0 u off n 0 (tag + x.2) with
      pkt := unitPacket 0x01 0 0 u (tag + x.2) (2 ^ (off + n) - 2 ^ off)
        (List.replicate off 0 ++ (bytes.drop at').take n ++ List.replicate (64 - off - n) 0) })

/-- The READ units of an aperture read. -/
def apReads (addr g n tag : Nat) : List FUnit :=
  (pieces g n).zipIdx.map (fun x => readUnit (.apRead tag (addr + x.1.2.2.2) false) 0 0 x.1.1 x.1.2.1 x.1.2.2.1 0 (tag + x.2))

/-- BAR2_WRITE. -/
def execBar2Write (addr : Nat) (bytes : List Byte) (poisoned : Bool) (s : State) : Out :=
  guard (barOk addr bytes.length) (
    if poisoned then s.barReject 3 else
    match barTo addr bytes.length with
    | .mem l => if s.memUp then s.wr l bytes else s.barReject 2
    | .win k =>
      match s.apAddr k addr with
      | some g =>
        let (tag, s) := s.takeTags (pieces g bytes.length).length
        s.sendUnits (apWrites g bytes tag)
      | none => s.barReject 2
    | .rsv => s.barReject 2)

/-- BAR2_READ. -/
def execBar2Read (addr len : Nat) (s : State) : Out :=
  guard (barOk addr len) (
    let zero := (s.barReturn addr (List.replicate len 0) false).barReject 2
    match barTo addr len with
    | .mem l =>
      if s.memUp then
        let bad := !(s.badIn l len).isEmpty
        let s := (s.scrub l len).barReturn addr (s.rd l len) bad
        if bad then s.barReject 6 else s
      else zero
    | .win k =>
      match s.apAddr k addr with
      | some g =>
        let (tag, s) := s.takeTags (pieces g len).length
        s.sendUnits (apReads addr g len tag)
      | none => zero
    | .rsv => zero)

/-! ## Queue pairs (12, R381 to R387) -/

/-- Entries of a queue by its LOG2 field (12, Table 12-17). -/
def qSize (f : Nat) : Nat := 2 ^ min 12 (max 4 f)
/-- SQ entries. -/
def Queue.sqSize (v : Queue) : Nat := qSize (bits v.cfg.toNat 23 20)
/-- CQ entries. -/
def Queue.cqSize (v : Queue) : Nat := qSize (bits v.cfg.toNat 19 16)
/-- The function a queue belongs to. -/
def Queue.func (v : Queue) : Nat := bits v.cfg.toNat 28 24
/-- EN. -/
def Queue.en (v : Queue) : Bool := bit v.cfg.toNat 31

/-- A doorbell beyond the last entry is ignored and told (12, R386). -/
def State.badBell (s : State) (q : Nat) : State := (s.setQue q { s.que q with err := true }).hqErr 1

/-- A write of `HQ_SQ_TAIL`. -/
def State.sqBell (s : State) (q idx : Nat) : State :=
  let v := s.que q
  if v.sqSize ≤ idx then s.badBell q else s.setQue q { v with sqTail := idx }

/-- A write of `HQ_CQ_HEAD`. -/
def State.cqBell (s : State) (q idx : Nat) : State :=
  let v := s.que q
  if v.cqSize ≤ idx then s.badBell q else s.setQue q { v with cqHead := idx }

/-- SQ_DOORBELL. -/
def execSqDoorbell (q idx : Nat) (s : State) : Out := guard (decide (q < 64)) (s.sqBell q idx)

/-- CQ_DOORBELL (log entry 102, DEDUCED). -/
def execCqDoorbell (q idx : Nat) (s : State) : Out := guard (decide (q < 64)) (s.cqBell q idx)

/-- CQ entries written and not yet taken. -/
def Queue.cqUsed (v : Queue) : Nat := (v.cqTail + v.cqSize - v.cqHead % v.cqSize) % v.cqSize

/-- The CQ has room for every command in flight and one more; one entry stays free, so that a full CQ is not taken for an
empty one (12, R386; log entry 46, DEDUCED). -/
def Queue.room (v : Queue) : Bool := decide (v.cqUsed + v.cmds.length + 1 < v.cqSize)

/-- A fetched command; one with a reserved OPC is over at once (12, Tables 12-5, 12-8). -/
def fetched (bs : List Byte) (sqhd : Nat) : QCmd where
  cid := leNat ((bs.drop 2).take 2)
  opc := (bs.getD 0 0).toNat
  fence := bit (bs.getD 1 0).toNat 0
  noirq := bit (bs.getD 1 0).toNat 1
  bytes := bs
  sqhd := sqhd
  started := decide (2 < (bs.getD 0 0).toNat)
  done := if 2 < (bs.getD 0 0).toNat then some (1, 0, 0) else none

/-- COMMAND_FETCH: the next entry of the SQ. An entry that host memory does not give ends as HOST_ERR under a free CID (log
entry 45; log entry 45, DEDUCED). -/
def execCommandFetch (q : Nat) (s : State) : Out :=
  guard (decide (q < 64)) (
    let v := s.que q
    if s.clocked && v.active && v.en && !v.pendEn && decide (v.sqHead ≠ v.sqTail) && v.room && s.hq.linkUp then
      let a := v.sqBase.toNat + 64 * v.sqHead
      let hd := (v.sqHead + 1) % v.sqSize
      match s.hostFail a 64 with
      | none => s.setQue q { v with sqHead := hd, cmds := v.cmds ++ [fetched (s.hrd a 64) hd] }
      | some _ =>
        let cid := bits (Config.freeWord s.freeCtr).toNat 15 0
        let c : QCmd := { cid := cid, opc := 0, fence := false, noirq := false, bytes := [], sqhd := hd, started := true, done := some (3, 0, 0) }
        s.fresh.setQue q { v with sqHead := hd, cmds := v.cmds ++ [c] }
    else s)

/-- The command of a queue that starts next: with FENCE, once every earlier one has completed (12, R381). -/
def Queue.next (v : Queue) : Option QCmd :=
  match v.cmds.find? (fun c => !c.started) with
  | some c => if c.fence && !(match v.cmds.head? with | some h => !h.started | none => true) then none else some c
  | none => none

/-- Start the next command of a queue where it is the one named; the queues run on the root clock (01, R18). -/
def State.startCmd (s : State) (q cid opc : Nat) (f : QCmd → State → State) : Out :=
  guard (decide (q < 64)) (
    match (s.que q).next with
    | some c =>
      if s.clocked ∧ c.cid = cid ∧ c.opc = opc then
        f c (s.setQue q { s.que q with cmds := lmod (fun x => !x.started) (fun x => { x with started := true }) (s.que q).cmds })
      else s
    | none => s)

/-- Bytes lo to 63 of an entry, and its first reserved bytes, are zero. -/
def rsvZero (c : QCmd) (lo : Nat) : Bool :=
  decide ((c.bytes.getD 1 0).toNat < 4) && ((c.bytes.drop 4).take 4).all (· = 0) && (c.bytes.drop lo).all (· = 0)

/-- An operand of an entry. -/
def QCmd.arg (c : QCmd) (o n : Nat) : Nat := leNat ((c.bytes.drop o).take n)

/-- QUEUE_NOP. -/
def execQueueNop (q cid : Nat) (s : State) : Out :=
  s.startCmd q cid 0 (fun c s => s.qDone q cid (if rsvZero c 8 then 0 else 1) 0 0)

/-! ## Grants (12, R391) -/

/-- The streams of VF v. -/
def State.vfHas (s : State) (v sid : Nat) : Bool :=
  let g := (tget grantDflt s.hq.vfs v).strm.toNat
  let l := min 17 (bits g 31 27)
  bits g 17 0 / 2 ^ l = sid / 2 ^ l

/-- HBM bytes of VF v. -/
def State.vfHbm (s : State) (v a n : Nat) : Bool :=
  let g := tget grantDflt s.hq.vfs v
  let base := bits g.hbmb.toNat 43 30 * 2 ^ 30
  decide (base ≤ a) && decide (a + n ≤ base + bits g.hbml.toNat 8 0 * 2 ^ 30)

/-- A STRM command outside a VF's grant. -/
def State.strmDenied (s : State) (v cmd sid : Nat) : Bool :=
  if v = 0 then false else
  !s.vfHas v sid ||
  (cmd = 1 &&
    let d := s.rdN (descAddr sid) 64
    ((bits d 95 80 &&& (65535 - (tget grantDflt s.hq.vfs v).bsk.toNat % 65536)) ≠ 0 || !s.vfHbm v (bits d 63 0) 1))

/-- STRM: the stream command of the entry (12, R383). -/
def execStrm (q cid : Nat) (s : State) : Out :=
  s.startCmd q cid 1 (fun c s =>
    let w := c.arg 8 4
    let v := (s.que q).func
    if !rsvZero c 12 then s.qDone q cid 1 0 0
    else if s.strmDenied v (bits w 31 28) (bits w 17 0) then s.qDone q cid 4 0 0
    else
      match s.strmDo (bits w 31 28) (bits w 27 24) (bits w 17 0) with
      | (s, some r) =>
        let s := if bits w 31 28 = 1 ∧ r = 0 then s.setStr (bits w 17 0) { s.str (bits w 17 0) with func := v } else s
        s.qDone q cid 0 r 0
      | (s, none) => s.setStr (bits w 17 0) { s.str (bits w 17 0) with migBy := some (q, cid) })

/-! ## XFER (12, R384) -/

/-- A 4-byte Crock word that VF v may touch: its streams' descriptors, and the windows they name. -/
def State.vfCrock (s : State) (v a : Nat) : Bool :=
  let o := a - crockBase
  (decide (stOff ≤ o % sliceLen) && s.vfHas v ((o % sliceLen - stOff) / 64 * 16 + o / sliceLen)) ||
  (List.range 131072).any (fun i =>
    s.vfHas v i &&
    decide (s.rdN (descAddr i + 0x10) 4 ≤ o) && decide (o + 4 ≤ s.rdN (descAddr i + 0x10) 4 + s.rdN (descAddr i + 0x14) 4))

/-- Why an XFER is refused (12, Table 12-8). -/
def State.xferBad (s : State) (v : Nat) (c : QCmd) : Option Nat :=
  let h := c.arg 8 8
  let d := c.arg 0x10 8
  let n := c.arg 0x18 4
  if !rsvZero c 0x1D || decide (1 < c.arg 0x1C 1) || n = 0 || n % 4 ≠ 0 || h % 4 ≠ 0 || d % 4 ≠ 0 then some 1
  else if !s.hq.memReady then some 7
  else if !(decide (d + n ≤ hbmLen) || (decide (crockBase ≤ d) && decide (d + n ≤ crockBase + crockLen))) then some 2
  else if v = 0 then none
  else if s.vfHbm v d n ∨ (crockBase ≤ d ∧ (List.range (n / 4)).all (fun k => s.vfCrock v (d + 4 * k)) = true) then none
  else some 4

/-- Bytes of host memory from a that can be read before the first that fails (log entry 47, DEDUCED). -/
def State.hostGood (s : State) (a n : Nat) : Nat :=
  if !s.hq.linkUp then 0 else
  s.hostBad.foldl (fun k r => if a < r.base + r.len ∧ r.base < a + n then min k (r.base - a) else k) n

/-- Bytes of device memory from a before the first uncorrectable word. -/
def State.devGood (s : State) (a n : Nat) : Nat :=
  (s.badIn a n).foldl (fun k w => min k (8 * w - a)) n

/-- XFER. -/
def execXfer (q cid : Nat) (s : State) : Out :=
  s.startCmd q cid 2 (fun c s =>
    match s.xferBad (s.que q).func c with
    | some st => s.qDone q cid st 0 0
    | none =>
      let h := c.arg 8 8
      let d := c.arg 0x10 8
      let n := c.arg 0x18 4
      if c.arg 0x1C 1 = 0 then
        let k := s.hostGood h n
        (s.wr d (s.hrd h k)).qDone q cid (if k = n then 0 else 3) 0 k
      else
        let k := s.devGood d n
        ((s.scrub d n).hwr h (s.rd d k)).qDone q cid (if k = n then 0 else 6) 0 k)

/-! ## Completions and interrupts (12, R385, R389) -/

/-- Signal a queue's vector, inside its function's table (12, R388, R389). -/
def State.queueMsi (s : State) (q : Nat) : State :=
  let v := s.que q
  let vec := bits v.cfg.toNat 10 0
  let s := s.setQue q { v with irqCnt := 0 }
  if vec < (if v.func = 0 then 1056 else 32) then s.msi v.func vec else s

/-- A completion without NOIRQ was written. -/
def State.queueIrq (s : State) (q : Nat) : State :=
  let v := s.que q
  if !bit v.cfg.toNat 30 then s else
  let v := { v with irqCnt := v.irqCnt + 1, irqAt := if v.irqCnt = 0 then s.time else v.irqAt }
  let s := s.setQue q v
  if max 1 (bits v.icfg.toNat 15 8) ≤ v.irqCnt ∨ bits v.icfg.toNat 7 0 = 0 then s.queueMsi q else s

/-- QUEUE_COMMAND_COMPLETE: the completion entry is written, and a queue that stops is no longer ACTIVE after its last
(12, R385, R387). -/
def execQueueCommandComplete (q cid : Nat) (s : State) : Out :=
  guard (decide (q < 64)) (
    let v := s.que q
    match v.cmds.find? (fun c => s.clocked && c.cid = cid && c.done.isSome) with
    | some c =>
      match c.done with
      | some (st, res, det) =>
        let bs := leBytes 2 c.cid ++ leBytes 1 st ++ leBytes 1 (b2n v.phase) ++ leBytes 2 c.sqhd ++ leBytes 2 0 ++
          leBytes 4 res ++ leBytes 4 det
        let s := s.hwr (v.cqBase.toNat + 16 * v.cqTail) bs
        let wrap := decide (v.cqTail + 1 = v.cqSize)
        let rest := v.cmds.erase c
        let s := s.setQue q { v with
          cmds := rest, cqTail := if wrap then 0 else v.cqTail + 1, phase := v.phase != wrap
          active := v.active && !(rest.isEmpty && (!v.en || v.pendEn)) }
        if c.noirq then s else s.queueIrq q
      | none => s
    | none => s)

/-- IRQ_COALESCE_TIMER. -/
def execIrqCoalesceTimer (q : Nat) (s : State) : Out :=
  guard (decide (q < 64)) (
    let v := s.que q
    if v.irqCnt = 0 then s else (s.at (v.irqAt + bits v.icfg.toNat 7 0 * 1000)).queueMsi q)

/-! ## Enable and disable (12, R387) -/

/-- The queue starts: heads and tail at 0, on its first pass. -/
def Queue.start (v : Queue) : Queue :=
  { v with active := true, pendEn := false, err := false, sqHead := 0, sqTail := 0, cqHead := 0, cqTail := 0, phase := true
           cmds := [], irqCnt := 0 }

/-- EN set. -/
def State.queOn (s : State) (q : Nat) : State :=
  let v := s.que q
  if v.en then s else
  let v := { v with cfg := v.cfg ||| 0x80000000#32 }
  s.setQue q (if v.active then { v with pendEn := true } else v.start)

/-- EN cleared: commands not yet started end as ABORTED, those in flight complete. -/
def State.queOff (s : State) (q : Nat) : State :=
  let v := s.que q
  if !v.en then s else
  let cs := v.cmds.map (fun c => if c.started then c else { c with started := true, done := some (5, 0, 0) })
  s.setQue q { v with cfg := v.cfg &&& 0x7FFFFFFF#32, pendEn := false, cmds := cs, active := v.active && !cs.isEmpty }

/-- QUEUE_ENABLE. -/
def execQueueEnable (q : Nat) (s : State) : Out := guard (decide (q < 64)) (s.queOn q)
/-- QUEUE_DISABLE. -/
def execQueueDisable (q : Nat) (s : State) : Out := guard (decide (q < 64)) (s.queOff q)
/-- QUEUE_PENDING_START: ACTIVE has cleared. -/
def execQueuePendingStart (q : Nat) (s : State) : Out :=
  guard (decide (q < 64)) (let v := s.que q; if v.pendEn && !v.active then s.setQue q v.start else s)

/-! ## Host-side resets (12, R393, R394) -/

/-- Migrations given by the queues in question answer nobody. -/
def State.dropMigBy (s : State) (qs : List Nat) : State :=
  let mine (t : Stream) : Bool := match t.migBy with
    | some (q, _) => qs.contains q
    | none => false
  (s.streams.filter (fun e => mine e.2)).foldl (fun s e => s.setStr e.1 { s.str e.1 with migBy := none }) s

/-- The queues of a function. -/
def State.queuesOf (s : State) (v : Nat) : List Nat := (List.range 64).filter (fun q => (s.que q).func = v)

/-- A queue is disabled, and its commands end without completions. -/
def State.killQue (s : State) (q : Nat) : State :=
  let v := s.que q
  s.setQue q { v with cfg := v.cfg &&& 0x7FFFFFFF#32, active := false, pendEn := false, cmds := [], irqCnt := 0 }

/-- VF_FLR. -/
def execVfFlr (v : Nat) (s : State) : Out :=
  guard (decide (1 ≤ v) && decide (v < 32)) (
    let qs := s.queuesOf v
    let s := qs.foldl State.killQue (s.dropMigBy qs)
    (s.streams.filter (fun e => s.vfHas v e.1)).foldl (fun s e => s.abortStr e.1 0xF004) s)

/-- PF FLR and hot reset: every register but `HQ_STAT`, `HQ_ERR` and `HQ_ERR_CNT` takes its reset value (12, R394, R398). -/
def State.pfReset (s : State) : State :=
  let s := s.dropMigBy (List.range 64)
  { s with hq := { s.hq with ap := [], tirq := [], tirqAt := [], tirqHeld := [], vfs := [], queues := [] } }

/-- PF_FLR. -/
def execPfFlr (s : State) : Out := .next s.pfReset

/-- LINK_DOWN. -/
def execHostLinkLost (s : State) : Out :=
  .next (
    if s.hq.linkUp then
      let s := s.pfReset
      let s := { s with hq := { s.hq with linkUp := false, width := 0, speed := 0, flit := false } }
      (s.hqErr 0).condition 0x05 0 0
    else s)

/-- MEM_READY: HBM and the Crock take host traffic, after PERST_N is released (12, Table 12-9), and never in recovery (13,
R417). -/
def execMemReady (s : State) : Out :=
  .next (if s.dev.perst || !s.clocked || s.dev.st = 5 then s else { s with hq := { s.hq with memReady := true } })

/-- HOST_LINK_UP: the link trained to a width and speed of 12, Table 12-1. -/
def execHostLinkUp (width speed : Nat) (flit : Bool) (s : State) : Out :=
  guard ([1, 2, 4, 8, 16].contains width && decide (1 ≤ speed) && decide (speed ≤ 6))
    (if s.dev.perst then s
     else { s with hq := { s.hq with linkUp := true, width := width, speed := speed, flit := flit } })

end Sys2Proof.Machine
end

