-- ==== Sys2Proof/Machine/Record.lean ====
section
/-! DEFINITION. The black-box record: its sectors, sticky records, commits and seconds; and Trivet's boot selection and restart
(13, R416 to R421). -/

namespace Sys2Proof.Machine

/-! ## Records (13, R418, R419) -/

/-- A later record of kind b supersedes one of kind a (13, Table 13-12, R419). -/
def supersedes : BbrKind → BbrKind → Bool
  | .panRetire p _, .panRetire q _ => p = q
  | .fieldRepair p _ _ _, .fieldRepair q _ _ _ => p = q
  | .basketRetire h _, .basketRetire g _ => h = g
  | .portRetire p _, .portRetire q _ => p = q
  | .portRetire p _, .portUnretire q => p = q
  | _, _ => false

/-- A sticky kind (13, Table 13-12). -/
def sticky : BbrKind → Bool
  | .panRetire _ _ => true
  | .fieldRepair _ _ _ _ => true
  | .basketRetire _ _ => true
  | .portRetire _ _ => true
  | _ => false

/-- The live sticky records of a list in order. -/
def liveSticky : List BbrRec → List BbrRec
  | [] => []
  | r :: t => if sticky r.kind && !t.any (fun x => supersedes r.kind x.kind) then r :: liveSticky t else liveSticky t

/-- Every valid record, oldest first. -/
def Trivet.records (t : Trivet) : List BbrRec := t.bbr.flatMap (·.recs)

/-- Write one record at the head sector, at the next SEQ. -/
def Trivet.putRec (t : Trivet) (time : Nat) (carried : Bool) (k : BbrKind) : Trivet :=
  let r : BbrRec := { seq := t.bbrSeq + 1, time := time, carried := carried, kind := k }
  { t with
    bbrSeq := t.bbrSeq + 1
    bbr := match t.bbr.getLast? with
      | some x => t.bbr.dropLast ++ [{ x with recs := x.recs ++ [r] }]
      | none => [] }

/-- Open the next sector with its SECTOR record. -/
def Trivet.openSector (t : Trivet) (now : Nat) : Trivet :=
  let n := match t.bbr.getLast? with
    | some x => (x.num + 1) % 256
    | none => 0
  let t := { t with bbr := t.bbr ++ [({ num := n, recs := [] } : BbrSector)] }
  t.putRec now false (.sector n (tget natDflt t.bbrErase n))

/-- Keep two erased sectors ahead: the oldest sector's live sticky records are carried to the head, then it is erased (13,
R419). -/
def Trivet.reclaim (t : Trivet) : Trivet :=
  match t.bbr with
  | old :: _ =>
    if t.bbr.length ≤ 254 then t else
    let live := (liveSticky t.records).filter (fun r => old.recs.contains r)
    let t := live.foldl (fun t r => t.putRec r.time true r.kind) t
    { t with bbr := t.bbr.drop 1, bbrErase := tset natDflt t.bbrErase old.num (tget natDflt t.bbrErase old.num + 1) }
  | [] => t

/-- Commit a record, first made at `time`. -/
def Trivet.commit (t : Trivet) (now time : Nat) (k : BbrKind) : Trivet :=
  let full := match t.bbr.getLast? with
    | some x => decide (1024 ≤ x.recs.length)
    | none => true
  let t := if full then (t.openSector now).reclaim else t
  t.putRec time false k

/-- BBR_COMMIT: the record at the front of the commit queue is written and committed (13, R418). -/
def execBbrCommit (s : State) : Out :=
  .next (match s.trv.bbrQ with
    | (t, k) :: rest => { s with trv := ({ s.trv with bbrQ := rest }).commit s.time t k }
    | [] => s)

/-- BBR_SECOND_END: the counter reaches a multiple of 10^9; what the second lost is queued as one LOST record (13, R420). -/
def execBbrSecondEnd (s : State) : Out := .next ((s.at (nextMul s.time 1000000000)).bbrRoll)

/-! ## Boot (13, R416, R417, R421) -/

/-- A firmware key slot that may sign: its key is fused and not revoked (13, Table 13-13). -/
def State.keyOk (s : State) (k : Nat) : Bool :=
  decide (k < 8) && (List.range 4).all (fun i => s.fuseValid (0x130 + 4 * k + i)) && !s.fuseValid (0x170 + k)

/-- The SVN count. -/
def State.svnCount (s : State) : Nat := ((List.range 64).filter (fun i => s.fuseValid (0x180 + i))).length

/-- Bank b's record of an image. -/
def State.fwBank (s : State) (b : Nat) : FwBank := tget fwDflt s.trv.fw b

/-- An image verifies (13, R417). -/
def State.verifies (s : State) (i : FwImage) : Bool := i.sigOk && s.keyOk i.keySlot && decide (s.svnCount ≤ i.svn)

/-- A bootable bank's image. -/
def State.bootable (s : State) (b : Nat) : Option FwImage :=
  match (s.fwBank b).img with
  | some i => if (s.fwBank b).commit && s.verifies i then some i else none
  | none => none

/-- The ROM's choice: the higher update counter, or the only bootable bank. Equal counters take bank 0 (log entry 48, DESIGN CHOICE). -/
def State.bootBank (s : State) : Option (Nat × FwImage) :=
  match s.bootable 0, s.bootable 1 with
  | some a, some b => if a.counter < b.counter then some (1, b) else some (0, a)
  | some a, none => some (0, a)
  | none, some b => some (1, b)
  | none, none => none

/-- A BOOT record (13, Table 13-12). Outcome 0 says booted, 1 recovery (log entry 51, DEDUCED). -/
def State.bootRec (s : State) (kind : Nat) : State :=
  s.bbrPut (.boot s.trv.bank s.trv.fwVer s.svnCount kind (b2n s.trv.recovery) s.dzf.inc)

/-- Torn slots found at boot are told once (13, R418). -/
def State.tellTorn (s : State) : State :=
  if s.trv.bbrTorn = 0 then s else s.raise 0x0A03 0 0x07 0 (min 0xFFFF s.trv.bbrTorn)

/-- What the FEU held for Trivet goes to it; what it could not hold is a LOST record (13, R416). -/
def State.takeHeld (s : State) : State :=
  let es := s.feu.held
  let ls := s.feu.heldLost
  let s := { s with feu := { s.feu with held := [], heldLost := [] } }
  let s := es.foldl (fun s e => s.trivetTake e) s
  if ls.isEmpty then s else s.bbrPut (.lost ls.length (ls.headD 0) (ls.getLastD 0))

/-- The part out of recovery: it starts where PERST_N is released, else it is in INIT (13, R417; 14, Table 14-11; log entry 149,
DEDUCED). -/
def Dev.recovered (d : Dev) : Nat := if d.st = 5 then (if d.perst then 0 else 1) else d.st

/-- TRIVET_BOOT: an image is chosen and runs, or Trivet enters recovery; a BOOT record is written. The causes that RECOVERY
reports are a free value (log entry 51, DEDUCED). -/
def execTrivetBoot (s : State) : Out :=
  .next (
    if !s.dev.vaux || s.trv.ready || s.trv.recovery then s else
    let s := { s with trv := { s.trv with boots := s.trv.boots + 1 } }
    match s.bootBank with
    | some (b, i) =>
      let s := { s with
        trv := { s.trv with ready := true, up := true, bank := b, fwVer := i.version }
        dev := { s.dev with st := s.dev.recovered } }
      ((s.condition 0x09 b (i.version : Int)).takeHeld.tellTorn).bootRec s.trv.resetKind
    | none =>
      let s := { s with trv := { s.trv with recovery := true, fwVer := 0 }, dev := { s.dev with st := 5 } }
      ((s.fresh.condition 0x0A 0 ((Config.freeWord s.freeCtr).toNat : Int)).tellTorn).bootRec s.trv.resetKind)

/-- Trivet restarts: what its RAM held is gone, but for the records that wait for their commit, and the MBX
block takes its reset values (13, R403, R410, R416; 15, R453; log entry 50, DEDUCED). -/
def State.restartTrivet (s : State) : State :=
  let t := s.trv
  { s with
    trv := { t with
      ready := false, recovery := false, goBusy := false, eid := none, subs := [], nonce := none, scan := [], scanNew := none
      scanPos := 0, scanOfs := 0, scanRep := 0, scanWait := 0, comps := [], compQ := [], convs := [], pairs := [], group := none
      drop := false, nlost := 0, disc := 0, skip := 0, rspDone := false, rspStat := 0, rspTag := 0, fwVer := 0, noteTail := 0
      noteHead := 0, notes := [], req := [], rsp := [], mon := [], wptr := 0, wrap := 0, chanLast := [], chanCal := [], chanTold := [], fwUpd := none }
    dev := { s.dev with st := s.dev.recovered } }

end Sys2Proof.Machine
end

