-- ==== Sys2Proof/Machine/Manage.lean ====
section
/-! DEFINITION. Trivet's command set, mailbox answers, flash, fuses, firmware updates and attestation (13, R399 to R403, R411 to
R415, R419, R422 to R426). -/

namespace Sys2Proof.Machine

/-! ## Transports and answers (13, R399, R401, R426) -/

/-- The command came by a management transport, not by the mailbox or a PCIe VDM (13, Table 13-3). -/
def managed : Via → Bool
  | .management _ => true
  | _ => false

/-- Trivet listens: its firmware runs, a mailbox command has its GO (13, R426), and MCTP transports have an endpoint ID; in recovery only what R417 names (13, R399,
R417). -/
def State.hears (s : State) (via : Via) (inRecovery : Bool) : Bool :=
  match via with
  | .mailbox => s.trv.ready && s.trv.goBusy
  | .vdm => s.trv.ready && s.trv.eid.isSome
  | .management _ => s.trv.eid.isSome && (s.trv.ready || (inRecovery && s.trv.recovery))

/-- Little-endian words of bytes. -/
def words4 : Nat → List Byte → List W32
  | 0, _ => []
  | n + 1, bs => BitVec.ofNat 32 (leNat (bs.take 4)) :: words4 n (bs.drop 4)

/-- `MBX_RSP` takes words from its start. -/
def putRsp (t : Tab (Option W32)) (i : Nat) : List W32 → Tab (Option W32)
  | [] => t
  | w :: ws => putRsp (tset noneDflt t i (some w)) (i + 1) ws

/-- Answer a command. In the mailbox: the header, then the payload; where the spec lays the payload out no further, its length
and words are free (log entry 52, DESIGN CHOICE). -/
def State.respond (s : State) (via : Via) (code tag status : Nat) (data : List Nat) (bytes : Option (List Byte)) : State :=
  let s := s.send (.response via code tag status data)
  match via with
  | .mailbox =>
    let k := s.freeCtr
    let len := match bytes with
      | some b => b.length
      | none => bits (Config.freeWord k).toNat 23 0
    let pay := match bytes with
      | some b => words4 (min 1022 ((b.length + 3) / 4)) b
      | none => (List.range (min 1022 data.length)).map (fun i => Config.freeWord (k + 1 + i))
    let hd : List W32 := [BitVec.ofNat 32 (code + shl (tag % 2 ^ 16) 16), BitVec.ofNat 32 (bits len 23 0 + shl status 24)]
    ({ s with
      freeCtr := k + 1 + data.length
      trv := { s.trv with
        rsp := putRsp s.trv.rsp 0 (hd ++ pay), rspDone := true, rspStat := status, rspTag := tag % 2 ^ 16, goBusy := false }
    }).msi 0 1
  | _ => s

/-- Answer with a status and nothing else. -/
def State.status (s : State) (via : Via) (code tag status : Nat) : State := s.respond via code tag status [] (some [])

/-! ## GET_INFO, SUBSCRIBE, REPORT, READ_BBR -/

/-- Debug lock (13, Table 13-13). -/
def State.locked (s : State) : Bool := s.fuseValid 3

/-- GET_INFO: a new nonce each time (13, R401; log entry 6, DESIGN CHOICE). -/
def execGetInfo (via : Via) (tag : Nat) (s : State) : Out :=
  .next (
    if s.hears via true then
      let n := Config.nonce s.freeCtr
      let s := { s.fresh with trv := { s.trv with nonce := some n } }
      s.respond via 1 tag 0 [s.uid, s.trv.fwVer, s.trv.bank, s.svnCount, b2n s.locked, n] none
    else s)

/-- SUBSCRIBE: at most four endpoints; a later one of the same endpoint replaces its earlier one (13, R403). -/
def execSubscribe (via : Via) (tag cls mask : Nat) (s : State) : Out :=
  .next (
    if !s.hears via false then s else
    match via with
    | .management e =>
      let u : Sub := { eid := e, cls := cls, mask := mask, queue := [], lost := 0 }
      let subs := s.trv.subs
      if subs.any (fun x => x.eid = e) then
        ({ s with trv := { s.trv with subs := lmod (fun x => x.eid = e) (fun _ => u) subs } }).status via 2 tag 0
      else if subs.length < 4 then ({ s with trv := { s.trv with subs := subs ++ [u] } }).status via 2 tag 0
      else s.status via 2 tag 2
    | .mailbox => s.status via 2 tag 2
    | .vdm => s.status via 2 tag 2)

/-- REPORT: up to 16 records, and how many were dropped since the last (13, R403). -/
def execReport (i : Nat) (s : State) : Out :=
  guard (decide (i < 4)) (
    match s.trv.subs[i]? with
    | some u =>
      if s.trv.ready && (!u.queue.isEmpty || u.lost ≠ 0) then
        ({ s with trv := { s.trv with subs := s.trv.subs.set i { u with queue := u.queue.drop 16, lost := 0 } } }).send
          (.report u.eid (u.queue.take 16) u.lost)
      else s
    | none => s)

/-- The KIND code of a record, and what its payload holds (13, Table 13-12). -/
def kindCode : BbrKind → Nat × List Nat
  | .event e => (0x01, [leNat (eventBytes e)])
  | .panRetire p r => (0x02, [p, r])
  | .fieldRepair p r c0 c1 => (0x03, [p, r.toNat, c0.toNat, c1.toNat])
  | .basketRetire h c => (0x04, [h, c])
  | .portRetire p c => (0x05, [p, c])
  | .portUnretire p => (0x06, [p])
  | .boot b v sv k o inc => (0x07, [b, v, sv, k, o, inc])
  | .powerLoss n a b => (0x08, [n, a, b])
  | .lost n a b => (0x09, [n, a, b])
  | .fwUpdate b v o => (0x0A, [b, v, o])
  | .sector n e => (0x0B, [n, e])
  | .erased q => (0x0C, [q])

/-- What READ_BBR says of a record: SEQ, KIND, FLAGS, TIME and its payload. -/
def recData (r : BbrRec) : List Nat := [r.seq, (kindCode r.kind).1, b2n r.carried, r.time] ++ (kindCode r.kind).2

/-- READ_BBR: up to cnt records from SEQ on (13, R401). -/
def execReadBbr (via : Via) (tag seq cnt : Nat) (s : State) : Out :=
  .next (
    if s.hears via false then
      s.respond via 8 tag 0 (((s.trv.records.filter (fun r => decide (seq ≤ r.seq))).take cnt).flatMap recData) none
    else s)

/-- BBR_ERASE: signed, over the nonce of the last GET_INFO; an ERASED record follows at the next SEQ (13, R419). -/
def execBbrErase (via : Via) (tag nonce : Nat) (sigOk : Bool) (s : State) : Out :=
  .next (
    if !s.hears via false then s
    else if !managed via then s.status via 0xC tag 2
    else if sigOk && s.trv.nonce = some nonce then
      let t := s.trv
      let er := t.bbr.foldl (fun e x => tset natDflt e x.num (tget natDflt e x.num + 1)) t.bbrErase
      let t := ({ t with bbr := [], bbrErase := er, bbrTorn := 0 }).commit s.time s.time (.erased t.bbrSeq)
      ({ s with trv := t }).status via 0xC tag 0
    else s.status via 0xC tag 5)

/-! ## Flash (13, R411 to R414) -/

/-- The flash bank of an offset (13, Table 13-10). -/
def flashBank (a : Nat) : Nat := if a < 0x2000000 then 0 else if a < 0x4000000 then 1 else if a < 0x7000000 then 2 else 3

/-- First offset of a bank. -/
def bankBase (b : Nat) : Nat := if b = 0 then 0 else if b = 1 then 0x2000000 else if b = 2 then 0x4000000 else 0x7000000

/-- The commit word of the pattern area. -/
def patWord : Nat := 0x06EFFFFC

/-- An offset of the pattern area. -/
def inPattern (a : Nat) : Bool := decide (0x4000000 ≤ a) && decide (a < 0x6F00000)

/-- A firmware image stands in the bank of an offset. -/
def State.inImage (s : State) (a : Nat) : Bool := decide (flashBank a < 2) && (s.fwBank (flashBank a)).img.isSome

/-- A byte of flash. What an image, the certificate chain and the record hold is free, the spec giving no bytes of them (log
entry 48). -/
def State.flashByte (s : State) (a : Nat) : Byte :=
  if s.inImage a ∨ 0x6F00000 ≤ a then BitVec.ofNat 8 (Config.freeWord (s.freeCtr + a)).toNat
  else tget flashDflt s.trv.flash a

/-- The flash operation under way is over, and answered (13, R401, R411). -/
def State.flashDone (s : State) : State :=
  match s.trv.flashOps with
  | o :: rest => ({ s with trv := { s.trv with flashOps := rest } }).status o.via o.code o.tag 0
  | [] => s

/-- FLASH_OP_COMPLETE. -/
def execFlashOpComplete (s : State) : Out := .next s.flashDone

/-- FLASH_READ: a read of a bank waits while that bank programs or erases (13, R411). -/
def execFlashRead (via : Via) (tag addr len : Nat) (s : State) : Out :=
  .next (
    if !s.hears via false then s else
    let s := if s.trv.flashOps.any (fun o => o.bank = flashBank addr || o.bank = flashBank (addr + len - 1)) then s.flashDone else s
    if 0x8000000 < addr + len then s.status via 9 tag 6
    else
      let bs := (List.range len).map (fun i => s.flashByte (addr + i))
      let s := { s with freeCtr := s.freeCtr + addr + len }
      s.respond via 9 tag 0 (bs.map BitVec.toNat) (some bs))

/-- Why a bank cannot be written: 0 it executes, 1 a structural test reads it, 2 an update writes it (13, R413). -/
def State.bankBusy (s : State) (b : Nat) : Option Nat :=
  if s.trv.ready && s.trv.bank = b then some 0
  else if b = 2 && (List.range 16).any (fun h => (s.bsk h).st = .test) then some 1
  else match s.trv.fwUpd with
    | some (u, _) => if u = b then some 2 else none
    | none => none

/-- The first three checks of R413: the status that refuses the command, its event raised. -/
def State.flashCheck (s : State) (via : Via) (addr len unit : Nat) : State × Option Nat :=
  let b := flashBank addr
  if (addr < 0x8000000 ∧ 0x6F00000 < addr + len) ∨ (!managed via ∧ b ≠ 2) then (s, some 2)
  else if addr % unit ≠ 0 ∨ len % unit ≠ 0 ∨ len = 0 ∨ 0x8000000 < addr + len ∨ flashBank (addr + len - 1) ≠ b then (s, some 6)
  else match s.bankBusy b with
    | some c => (s.raise 0x0A02 0 0x07 0 (shl b 30 + shl c 28), some 3)
    | none => (s, none)

/-- The commit word reads blank after any write of the pattern area but one of the word itself (13, R414). -/
def uncommit (t : Tab Byte) (addr len : Nat) : Tab Byte :=
  if inPattern addr && !(decide (addr ≤ patWord) && decide (patWord < addr + len)) then
    (List.range 4).foldl (fun t i => tset flashDflt t (patWord + i) 0xFF) t
  else t

/-- Bytes put into flash. -/
def flashPut (t : Tab Byte) (a : Nat) : List Byte → Tab Byte
  | [] => t
  | b :: bs => flashPut (tset flashDflt t a b) (a + 1) bs

/-- A program or an erase runs. -/
def State.flashRun (s : State) (via : Via) (tag addr len : Nat) (t : Tab Byte) : State :=
  let t := uncommit t addr len
  let ok := (List.range 4).all (fun i => tget flashDflt t (patWord + i) = 0)
  { s with trv := { s.trv with
    flash := t, patCut := s.trv.patCut && !ok
    flashOps := s.trv.flashOps ++ [{ bank := flashBank addr, via := via, code := 0xA, tag := tag }] } }

/-- FLASH_PROGRAM: whole pages, on blank bytes (13, R413; log entry 107, DEDUCED). -/
def execFlashProgram (via : Via) (tag addr : Nat) (bytes : List Byte) (s : State) : Out :=
  .next (
    if !s.hears via false then s else
    match s.flashDone.flashCheck via addr bytes.length 256 with
    | (s, some st) => s.status via 0xA tag st
    | (s, none) =>
      match (List.range bytes.length).find? (fun i => s.inImage addr || tget flashDflt s.trv.flash (addr + i) ≠ 0xFF) with
      | some i =>
        let b := flashBank addr
        (s.raise 0x0A01 0 0x07 0 (shl b 30 + (addr + i - bankBase b) / 256)).status via 0xA tag 4
      | none => s.flashRun via tag addr bytes.length (flashPut s.trv.flash addr bytes))

/-- FLASH_ERASE: whole sectors; an image that stood in the bank is gone (13, R413). -/
def execFlashErase (via : Via) (tag addr len : Nat) (s : State) : Out :=
  .next (
    if !s.hears via false then s else
    match s.flashDone.flashCheck via addr len 0x10000 with
    | (s, some st) => s.status via 0xA tag st
    | (s, none) =>
      let b := flashBank addr
      let s := if b < 2 then { s with trv := { s.trv with fw := tset fwDflt s.trv.fw b {} } } else s
      s.flashRun via tag addr len (s.trv.flash.filter (fun e => !(decide (addr ≤ e.1) && decide (e.1 < addr + len)))))

/-! ## Fuses (13, R421, R422) -/

/-- Blow a word: both COMMIT fuses; what DATA and ECC take is free (log entry 53, DESIGN CHOICE). -/
def State.blow (s : State) (n : Nat) : State :=
  let k := s.freeCtr
  let d := (List.range 4).foldl (fun x i => x + shl (Config.freeWord (k + i)).toNat (32 * i)) 0
  let w : BitVec 128 := BitVec.ofNat 128 (d % 2 ^ 120 + shl 3 120)
  { s with freeCtr := k + 4, trv := { s.trv with fuses := tins n w s.trv.fuses, badFuse := s.trv.badFuse.filter (· != n) } }

/-- A firmware key slot that still signs. -/
def State.liveSlots (s : State) : List Nat := (List.range 8).filter s.keyOk

/-- The word that a FUSE_ADVANCE programs; none where it is refused with RANGE. -/
def State.fuseTarget (s : State) : FuseReq → Option Nat
  | .debugLock => if s.fuseValid 3 then none else some 3
  | .svnStep => ((List.range 64).map (· + 0x180)).find? (fun n => s.fuse n = 0)
  | .revoke k => if 15 < k ∨ s.fuseValid (0x170 + k) ∨ s.liveSlots = [k] then none else some (0x170 + k)

/-- FUSE_ADVANCE (13, R422). -/
def execFuseAdvance (via : Via) (tag : Nat) (req : FuseReq) (nonce : Nat) (sigOk : Bool) (s : State) : Out :=
  .next (
    if !s.hears via false then s
    else if !managed via then s.status via 0xB tag 2
    else if !(sigOk && s.trv.nonce = some nonce) then s.status via 0xB tag 5
    else match s.fuseTarget req with
      | some n => (s.blow n).status via 0xB tag 0
      | none => s.status via 0xB tag 6)

/-! ## Restart and firmware update (13, R415, R416) -/

/-- TRIVET_RESTART, by command or by the watchdog. -/
def execTrivetRestart (via : Option Via) (tag : Nat) (s : State) : Out :=
  .next (
    match via with
    | some v => if s.hears v false then (s.status v 0xD tag 0).restartTrivet else s
    | none => if s.trv.ready || s.trv.recovery then s.restartTrivet else s)

/-- The bank an update writes: the one that is not executing; bank 0 in recovery (log entry 51, DEDUCED). -/
def State.updBank (s : State) : Nat := if s.trv.recovery then 0 else 1 - s.trv.bank

/-- Change a firmware bank. -/
def State.setFw (s : State) (b : Nat) (v : FwBank) : State := { s with trv := { s.trv with fw := tset fwDflt s.trv.fw b v } }

/-- PLDM_FIRMWARE_UPDATE: the bank is erased, written, verified as at boot, and committed at activation; every other outcome
leaves the commit word blank. Outcome 0 says done, 1 refused, 2 cancelled (log entry 51, DEDUCED). -/
def State.fwOp (s : State) : FwOp → State
  | .begin =>
    match s.trv.fwUpd with
    | some _ => s
    | none =>
      let b := s.updBank
      let fl := s.trv.flash.filter (fun e => !(decide (bankBase b ≤ e.1) && decide (e.1 < bankBase b + 0x2000000)))
      (({ s with trv := { s.trv with fwUpd := some (b, none), flash := fl } }).setFw b {})
  | .transfer img =>
    match s.trv.fwUpd with
    | some (b, _) => (({ s with trv := { s.trv with fwUpd := some (b, some img) } }).setFw b { img := some img, commit := false })
    | none => s
  | .activate restart =>
    match s.trv.fwUpd with
    | some (b, some img) =>
      let ok := s.verifies img
      let s := { s with trv := { s.trv with fwUpd := none } }
      let s := (s.setFw b { img := some img, commit := ok }).bbrPut (.fwUpdate b img.version (b2n !ok))
      if ok && restart then s.restartTrivet else s
    | some (b, none) => ({ s with trv := { s.trv with fwUpd := none } }).bbrPut (.fwUpdate b 0 1)
    | none => s
  | .cancel =>
    match s.trv.fwUpd with
    | some (b, img) =>
      ({ s with trv := { s.trv with fwUpd := none } }).bbrPut (.fwUpdate b (match img with | some i => i.version | none => 0) 2)
    | none => s

/-- PLDM_FIRMWARE_UPDATE. -/
def execPldmFirmwareUpdate (op : FwOp) (s : State) : Out :=
  .next (if s.trv.eid.isSome && (s.trv.ready || s.trv.recovery) then s.fwOp op else s)

/-! ## MCTP, PLDM monitoring, SPDM (13, R399, R400, R424) -/

/-- MCTP_CONTROL: discovery, and the one endpoint ID of all transports. -/
def execMctpControl (req : McpReq) (s : State) : Out :=
  .next (
    if s.trv.ready || s.trv.recovery then
      match req with
      | .getEid => s.send (.mctp (s.trv.eid.getD 0))
      | .setEid e => ({ s with trv := { s.trv with eid := some e } }).send (.mctp e)
    else s)

/-- PLDM_MONITORING: the numeric sensor of a monitor channel. -/
def execPldmMonitoring (sensor : Nat) (s : State) : Out :=
  guard (decide (sensor < 512)) (
    if s.trv.ready && s.trv.eid.isSome then
      match tget noneDflt s.trv.chanLast sensor with
      | some v => s.send (.sensor sensor v true)
      | none => s.send (.sensor sensor 0 false)
    else s)

/-- What a measurement measures, as one number (13, Table 13-14). -/
def State.measured (s : State) (i : Nat) : Nat :=
  if i = 2 then
    match (s.fwBank s.trv.bank).img with
    | some x => 1 + x.counter + shl x.version 64 + shl x.svn 128
    | none => 0
  else if i = 3 then
    s.trv.bank + 2 * b2n s.locked + 4 * s.svnCount +
      ((List.range 16).foldl (fun x k => x + shl (b2n (s.fuseValid (0x170 + k))) (16 + k)) 0)
  else if i = 4 then (s.trv.fuses.filter (fun e => decide (e.1 < 0x130))).foldl (fun x e => x * 2 ^ 160 + shl e.1 128 + e.2.toNat) 0
  else if i = 5 then s.dzf.epoch.toNat + shl s.dzf.digest.toNat 32
  else if i = 6 then (s.trv.flash.filter (fun e => inPattern e.1)).foldl (fun x e => x * 2 ^ 64 + shl e.1 8 + e.2.toNat) 0
  else 0

/-- SPDM: certificates, a challenge, or a measurement; digests of what the machine holds are free functions of it (log
entry 7). -/
def execSpdm (req : SpdmReq) (s : State) : Out :=
  .next (
    if s.trv.ready && s.trv.eid.isSome then
      match req with
      | .certificates => s.send (.spdm 0 (Config.measurement 0 0))
      | .challenge n => s.send (.spdm 0 (Config.measurement 7 n))
      | .measurements i => if 1 ≤ i ∧ i ≤ 6 then s.send (.spdm i (Config.measurement i (s.measured i))) else s
    else s)

end Sys2Proof.Machine
end

