-- ==== Sys2Proof/Machine/Memops.lean ====
section
/-! DEFINITION. The memory and fabric steps: DMA, GET, PUT, AADD and GATH, and their retries (06, R217 to R225). -/

namespace Sys2Proof.Machine

/-! ## DMA (06, R217) -/

/-- The pattern of a FILL, over n bytes. -/
def fillBytes (pat n : Nat) : List Byte := (List.range (n / 4)).flatMap (fun _ => leBytes 4 pat)

/-- One row of a DMA; the HOST_LINK cause where a host access fails (06, R192). -/
def State.dmaRow (s : State) (t : Stream) (b : Blk) (i : Nat) : State × Option Nat :=
  let len := fld b 0x10 4
  let src := fld b 0 8 + i * fld b 0x18 4
  let dst := fld b 8 8 + i * fld b 0x1C 4
  let got : Option Nat × List Byte :=
    if fld b 0x22 1 = 1 then (none, fillBytes (fld b 0x24 4) len)
    else if fld b 0x20 1 = 3 then (s.hostFail src len, s.hrd src len)
    else (none, s.rd (locOf t (fld b 0x20 1) src) len)
  match got with
  | (some k, _) => (s, some k)
  | (none, bs) =>
    if fld b 0x21 1 = 3 then
      match s.hostFail dst len with
      | some k => (s, some k)
      | none => (s.hwr dst bs, none)
    else (s.wr (locOf t (fld b 0x21 1) dst) bs, none)

/-- The rows of a DMA in ascending order, up to the first that fails. -/
def State.dmaRows (s : State) (t : Stream) (b : Blk) : Nat → Nat → State × Option Nat
  | 0, _ => (s, none)
  | n + 1, i =>
    match s.dmaRow t b i with
    | (s, some k) => (s, some k)
    | (s, none) => s.dmaRows t b n (i + 1)

/-- DMA copies or fills its rows; a failed host access ends it with HOST_LINK (06, R192, R217). -/
def effDma (s : State) (sid : Nat) (h : Hdr) : State :=
  let t := s.str sid
  let b := (s.blkOf t h).2
  let r := recAt s sid h
  let io := stepRegions s t 0x50 b
  (s.launch sid r).withInputs t r io.1 (fun s =>
    let s := if fld b 0x21 1 = 3 then
        s.setStr sid { s.str sid with hostW := some (fld b 8 8 + (fld b 0x14 4 - 1) * fld b 0x1C 4 + fld b 0x10 4 - 1) }
      else s
    match s.dmaRows t b (fld b 0x14 4) 0 with
    | (s, some k) => s.hostX k sid r.h r.idx
    | (s, none) => s.stepDone r 0)

/-- DMA. -/
def execDma (sid : Nat) (s : State) : Out := runStep 0x50 noHold effDma sid s

/-! ## Units of a step (06, R222) -/

/-- Number the units of a step in ascending order: unit u goes to part u mod 64 under tag first + u. -/
def numberUnits (tag : Nat) (us : List (Nat → Nat → FUnit)) : List FUnit :=
  us.zipIdx.map (fun e => e.1 (e.2 % 64) (tag + e.2))

/-- The fabric class of GET and PUT: REL where the step is relaxed, else ORD (06, R218). -/
def gpClass (h : Hdr) : Nat := if ordOf h = 1 then 1 else 0

/-- The units of a GET or PUT, row by row. -/
def gpUnits (t : Stream) (who : UnitFor) (cls : Nat) (get : Bool) (b : Blk) : List (Nat → Nat → FUnit) :=
  (List.range (fld b 0x14 4)).flatMap (fun i =>
    let src := fld b 0 8 + i * fld b 0x18 4
    let dst := fld b 8 8 + i * fld b 0x1C 4
    if get then
      (pieces src (fld b 0x10 4)).map (fun p => fun part tag =>
        readUnit who cls part p.1 p.2.1 p.2.2.1 (locOf t (fld b 0x21 1) dst + p.2.2.2) tag)
    else
      (pieces dst (fld b 0x10 4)).map (fun p => fun part tag =>
        writeUnit who cls part p.1 p.2.1 p.2.2.1 (locOf t (fld b 0x20 1) src + p.2.2.2) tag))

/-- The units of an AADD (06, R219). -/
def aaddUnits (t : Stream) (who : UnitFor) (b : Blk) : List (Nat → Nat → FUnit) :=
  let ty := fld b 0x10 1
  let e := if ty = 2 then 8 else 4
  let k := 64 / e
  let cnt := fld b 0x0C 4
  (List.range (ceilDiv cnt k)).map (fun u => fun part tag =>
    let n := min k (cnt - u * k)
    { atomicUnit who part ty (fld b 0 8 + 64 * u) n tag [] with
      lazy := true, local_ := t.win (fld b 8 4 + 64 * u), off := 0, len := n * e })

/-- A fabric step issues its units: all of them under new tags, or with RETRY = 1 the parts its record names, an AADD's under
their first tags and not beyond the deduplication window (06, R222 to R225). -/
def State.sendStep (s : State) (sid : Nat) (h : Hdr) (off : Nat) (us : State → StepRec → List (Nat → Nat → FUnit)) : State :=
  let r := { recAt s sid h with block := off }
  let total := (us s r).length
  if !bit h.ops 0 then
    let (tag, s) := s.takeTags total
    (s.launch sid { r with units := total, total := total, firstTag := tag, done := total = 0 }).sendUnits
      (numberUnits tag (us s r))
  else
    match (s.str sid).retry with
    | none => s.launch sid { r with done := true, retry := true }
    | some k =>
      let atomic := h.opc = 0x53
      if atomic ∧ k.firstAt + 1900000 < s.time then
        s.launch sid { r with
          done := true, retry := true, retryOf := some k, status := 2, failed := k.failed, firstAt := k.firstAt
          firstTag := k.firstTag, cfg := k.cfg, total := total, detail := 2 ^ 31 + popcount k.failed 64 }
      else
        let (tag, s) := if atomic then (k.firstTag, s) else s.takeTags total
        let sel := (numberUnits tag (us s r)).filter (fun u => bit k.failed u.part)
        let sel := if atomic then sel.map (fun u => { u with again := true, firstAt := k.firstAt, pkt.cfg := k.cfg }) else sel
        (s.launch sid { r with
          units := sel.length, total := total, firstTag := tag, firstAt := if atomic then k.firstAt else s.time
          retry := true, retryOf := some k, cfg := if atomic then k.cfg else r.cfg, done := sel.isEmpty }).sendUnits sel

/-- GET. -/
def effGet (s : State) (sid : Nat) (h : Hdr) : State :=
  let t := s.str sid
  let (off, b) := s.blkOf t h
  s.sendStep sid h off (fun _ r => gpUnits t (.step r.uid r.h) (gpClass h) true b)

/-- GET. -/
def execGet (sid : Nat) (s : State) : Out := runStep 0x51 noHold effGet sid s

/-- PUT. -/
def effPut (s : State) (sid : Nat) (h : Hdr) : State :=
  let t := s.str sid
  let (off, b) := s.blkOf t h
  let r := recAt s sid h
  s.withInputs t r (stepRegions s t 0x52 b).1 (fun s =>
    s.sendStep sid h off (fun _ r => gpUnits t (.step r.uid r.h) (gpClass h) false b))

/-- PUT. -/
def execPut (sid : Nat) (s : State) : Out := runStep 0x52 noHold effPut sid s

/-- AADD. -/
def effAadd (s : State) (sid : Nat) (h : Hdr) : State :=
  let t := s.str sid
  let (off, b) := s.blkOf t h
  let r := recAt s sid h
  s.withInputs t r (stepRegions s t 0x53 b).1 (fun s =>
    s.sendStep sid h off (fun _ r => aaddUnits t (.step r.uid r.h) b))

/-- AADD. -/
def execAadd (sid : Nat) (s : State) : Out := runStep 0x53 noHold effAadd sid s

/-! ## GATH (06, R220) -/

/-- The indices of a GATH. -/
def State.gathIdx (s : State) (t : Stream) (b : Blk) : List Nat :=
  (List.range (fld b 0x10 4)).map (fun n => s.rdN (t.win (fld b 0x0C 4 + 4 * n)) 4)

/-- Local rows of a GATH, each copied or zeroed in order; a global row beyond LIMIT is zeroed at once. -/
def State.gathRows (s : State) (t : Stream) (b : Blk) (idx : List Nat) : State :=
  (idx.zipIdx).foldl (fun s e =>
    let dst := t.win (fld b 0x1C 4 + e.2 * fld b 0x20 4)
    let n := fld b 0x14 4
    if fld b 0x24 4 ≤ e.1 then s.wr dst (List.replicate n 0)
    else if fld b 8 1 = 1 then s.wr dst (s.rd (fld b 0 8 + e.1 * fld b 0x18 4) n)
    else s) s

/-- The units of a global GATH, index by index; where destination rows overlap, a row leaves the bytes of the rows after it
to them, as a copy in ascending order does. -/
def gathUnits (t : Stream) (who : UnitFor) (b : Blk) (idx : List Nat) : List (Nat → Nat → FUnit) :=
  (idx.zipIdx).flatMap (fun e =>
    if fld b 0x24 4 ≤ e.1 then [] else
    let dst := t.win (fld b 0x1C 4 + e.2 * fld b 0x20 4)
    let keep := if e.2 + 1 = idx.length then fld b 0x14 4 else min (fld b 0x14 4) (fld b 0x20 4)
    (pieces (fld b 0 8 + e.1 * fld b 0x18 4) (fld b 0x14 4)).map (fun p => fun part tag =>
      readUnit who 1 part p.1 p.2.1 (min p.2.2.1 (keep - p.2.2.2)) (dst + p.2.2.2) tag))

/-- The HBM rows a local GATH reads. -/
def gathRegions (b : Blk) (idx : List Nat) : List Region :=
  if fld b 8 1 = 1 then
    (idx.filter (fun i => decide (i < fld b 0x24 4))).map (fun i =>
      { sp := 1, start := fld b 0 8 + i * fld b 0x18 4, pitch := 0, width := fld b 0x14 4, rows := 1 })
  else []

/-- GATH. -/
def effGath (s : State) (sid : Nat) (h : Hdr) : State :=
  let t := s.str sid
  let (off, b) := s.blkOf t h
  let idx := s.gathIdx t b
  let ixr : Region := { sp := 0, start := fld b 0x0C 4, pitch := 0, width := 4 * fld b 0x10 4, rows := 1 }
  let r := { recAt s sid h with block := off, detail := (idx.filter (fun i => decide (fld b 0x24 4 ≤ i))).length }
  if fld b 8 1 = 1 then
    (s.launch sid r).withInputs t r (ixr :: gathRegions b idx) (fun s => (s.gathRows t b idx).stepDone r r.detail)
  else
    s.withInputs t r [ixr] (fun s =>
      let us := gathUnits t (.step r.uid r.h) b idx
      let (tag, s) := s.takeTags us.length
      ((s.launch sid { r with units := us.length, total := us.length, firstTag := tag, done := us.isEmpty }).gathRows
        t b idx).sendUnits (numberUnits tag us))

/-- GATH. -/
def execGath (sid : Nat) (s : State) : Out := runStep 0x54 noHold effGath sid s

end Sys2Proof.Machine
end

