-- ==== Sys2Proof/Machine/Monitor.lean ====
section
/-! DEFINITION. The monitor converters: scan table, dispatcher, comparators, common triggers, interleaved pairs and the result
buffer (13, R405 to R410). -/

namespace Sys2Proof.Machine

/-! ## Channels (13, Table 13-6) -/

/-- A reserved channel. -/
def chanRsv (ch : Nat) : Bool :=
  (decide (0x164 ≤ ch) && decide (ch ≤ 0x16F)) || decide (0x1A8 ≤ ch)

/-- The least and the greatest VALUE of a channel at gain 1. -/
def fullScale (ch : Nat) : Int × Int :=
  if ch < 0x130 then (-1250000, 1250000)
  else if ch < 0x140 then (-2000000, 2000000)
  else if ch < 0x158 then (-1250000, 1250000)
  else if ch < 0x160 then (-1000000, 1000000)
  else if ch < 0x1A0 then (-40000, 150000)
  else if ch ≤ 0x1A2 then (-2000000, 2000000)
  else (-40000, 150000)

/-- VALUE and SAT of an input: beyond the full scale of its gain it clamps (13, R405). -/
def clampVal (ch gain : Nat) (v : Int) (off : Bool) : Int × Bool :=
  let g : Int := 4 ^ gain
  let r := clampI ((fullScale ch).1.tdiv g) ((fullScale ch).2.tdiv g) v
  (r, off || r != v)

/-- The channel of comparator n (13, R408). -/
def compChan (n : Nat) : Nat := if n < 48 then 0x110 + n else if n < 56 then 0x158 + (n - 48) else 0x1A0 + (n - 56)

/-- Conversion time of N frames, ns. -/
def convTime (n : Nat) : Nat := 12000 + 16000 * n

/-! ## Records (13, R410, Table 13-8) -/

/-- The four words of a record. -/
def monWords (r : MonRec) : List W32 :=
  [BitVec.ofNat 32 r.time, BitVec.ofNat 32 (r.time / 2 ^ 32),
   BitVec.ofNat 32 (shl (unsgn 22 r.value) 10 + shl (b2n r.sat) 9 + shl (b2n r.stale) 8 + shl (r.src % 4) 6 + shl (r.gain % 4) 4 +
     r.conv % 16),
   BitVec.ofNat 32 (shl (r.channel % 512) 23 + shl (r.frames % 64) 17 + shl (r.entry % 256) 9)]

/-- The words at index i of the result buffer; an entry that nothing has written reads free (log entry 5, DESIGN CHOICE). -/
def State.monAt (s : State) (i : Nat) : List W32 :=
  match tget noneDflt s.trv.mon i with
  | some r => monWords r
  | none => (List.range 4).map (fun k => Config.freeWord (s.freeCtr + 4 * i + k))

/-- Put a record in the buffer. -/
def State.putMon (s : State) (r : MonRec) : State :=
  let t := s.trv
  { s with trv := { t with
    mon := tset noneDflt t.mon t.wptr (some r)
    wptr := (t.wptr + 1) % 16384
    wrap := if t.wptr + 1 = 16384 then (t.wrap + 1) % 2 ^ 32 else t.wrap
    chanLast := if r.stale then t.chanLast else tset noneDflt t.chanLast r.channel (some r.value) } }

/-- READ_MON: cnt records from an index of the buffer. -/
def execReadMon (via : Via) (tag idx cnt : Nat) (s : State) : Out :=
  .next (
    if !s.hears via false then s
    else if 16384 ≤ idx ∨ 16384 < cnt then s.status via 3 tag 6
    else
      let ws := (List.range cnt).flatMap (fun i => s.monAt ((idx + i) % 16384))
      let s := { s with freeCtr := s.freeCtr + 65536 }
      s.respond via 3 tag 0 (ws.map BitVec.toNat) (some (ws.flatMap (fun w => leBytes 4 w.toNat))))

/-! ## Settings -/

/-- SCAN_WRITE: the table replaces the running one when that next starts over (13, R406). -/
def execScanWrite (via : Via) (tag : Nat) (table : List ScanEntry) (s : State) : Out :=
  .next (
    if !s.hears via false then s
    else if 256 < table.length ∨ table.any (fun e => e.rsv ≠ 0) = true then s.status via 4 tag 1
    else if table.any (fun e => decide (0x1FF < e.channel + e.span)) then s.status via 4 tag 6
    else ({ s with trv := { s.trv with scanNew := some table } }).status via 4 tag 0)

/-- COMP_WRITE: a comparator just set is armed once its input has been seen inside (13, R408). -/
def execCompWrite (via : Via) (tag : Nat) (sets : List CompSet) (s : State) : Out :=
  .next (
    if !s.hears via false then s
    else if sets.any (fun c => decide (64 ≤ c.idx) || c.frames = 0 || decide (64 < c.frames) || decide (3 < c.gain)) then
      s.status via 5 tag 6
    else
      let set (t : Tab Comp) (c : CompSet) : Tab Comp :=
        tset compDflt t c.idx { tget compDflt t c.idx with
          lo := c.lo, hi := c.hi, hyst := c.hyst, en := c.en, gain := c.gain, frames := c.frames, armed := false }
      ({ s with trv := { s.trv with comps := sets.foldl set s.trv.comps } }).status via 5 tag 0)

/-- The conversion under way on a converter. -/
def State.convAt (s : State) (c : Nat) : Option Conv := tget noneDflt s.trv.convs c

/-- Replace it. -/
def State.setConv (s : State) (c : Nat) (v : Option Conv) : State :=
  { s with trv := { s.trv with convs := tset noneDflt s.trv.convs c v } }

/-- The pair a converter is in, where it is set. -/
def State.pairOf (s : State) (c : Nat) : Option (Nat × Nat) :=
  if 12 ≤ c then tget noneDflt s.trv.pairs ((c - 12) / 2) else none

/-- When a converter is free of its present conversion. -/
def State.convFree (s : State) (c : Nat) : Nat := match s.convAt c with
  | some v => max s.time v.endAt
  | none => s.time

/-- TRIG_ARM: the converters are reserved as they finish, and power up at once (13, R409). -/
def execTrigArm (via : Via) (tag : Nat) (convs : List TrigConv) (kind : TrigKind) (s : State) : Out :=
  .next (
    if !s.hears via false then s
    else if convs.any (fun c => decide (16 ≤ c.conv) || decide (512 ≤ c.channel) || c.frames = 0 || decide (64 < c.frames) ||
        decide (3 < c.gain) || (s.pairOf c.conv).isSome) ||
        (match kind with | .atTime t => t % 1000 ≠ 0 | _ => false) then s.status via 6 tag 6
    else
      let g : TrigGroup := { convs := convs, kind := kind, fired := false
                             readyAt := maxNat (convs.map (fun c => s.convFree c.conv)) + 12000 }
      ({ s with trv := { s.trv with group := some g } }).status via 6 tag 0)

/-- A trigger of the group's kind comes. -/
def State.fire (s : State) (k : TrigKind) : State :=
  match s.trv.group with
  | some g => if g.kind = k then { s with trv := { s.trv with group := some { g with fired := true } } } else s
  | none => s

/-- TRIG (log entry 104, DEDUCED). -/
def execTrig (via : Via) (tag : Nat) (s : State) : Out :=
  .next (if s.hears via false then (s.fire .command).status via 6 tag 0 else s)

/-- COMMON_TRIGGER_START: the group integrates together once its last converter is up and its trigger has come (13, R409).
ENTRY of its records is 0 (log entry 49, DEDUCED). -/
def execCommonTriggerStart (s : State) : Out :=
  .next (match s.trv.group with
    | some g =>
      let at' := match g.kind with
        | .atTime t => some (max t g.readyAt)
        | _ => if g.fired then some g.readyAt else none
      match at' with
      | some t =>
        let s := s.at t
        let s := g.convs.foldl (fun s c => s.setConv c.conv (some {
          channel := c.channel, gain := c.gain, frames := c.frames, src := 2, entry := 0
          stale := (tget noneDflt s.trv.chanCal c.channel).isSome, endAt := s.time + 16000 * c.frames })) s
        { s with trv := { s.trv with group := none } }
      | none => s
    | none => s)

/-- A pair's converter starts over at t. -/
def State.pairConv (s : State) (pair c chan n t : Nat) : State :=
  s.setConv c (some { channel := chan, gain := 0, frames := n, src := 3, entry := pair
                      stale := (tget noneDflt s.trv.chanCal chan).isSome, endAt := t })

/-- ILV_SET: an interleaved pair on a channel, its odd converter 8N µs behind (13, R409). -/
def execIlvSet (via : Via) (tag pair chan frames : Nat) (s : State) : Out :=
  .next (
    if !s.hears via false then s
    else if 2 ≤ pair ∨ chan < 0x158 ∨ 0x15B < chan ∨ frames = 0 ∨ 64 < frames then s.status via 7 tag 6
    else
      let e := 12 + 2 * pair
      let idle := (s.convAt e).isNone && (s.convAt (e + 1)).isNone
      let t := s.time + convTime frames
      let s := { s with trv := { s.trv with pairs := tset noneDflt s.trv.pairs pair (some (chan, frames)) } }
      let s := if idle then (s.pairConv pair e chan frames t).pairConv pair (e + 1) chan frames (t + 8000 * frames) else s
      s.status via 7 tag 0)

/-! ## The dispatcher (13, R407) -/

/-- The converter is reserved for the armed group. -/
def State.grouped (s : State) (c : Nat) : Bool := match s.trv.group with
  | some g => g.convs.any (fun x => x.conv = c)
  | none => false

/-- A free converter. -/
def State.convIdle (s : State) (c : Nat) : Bool := (s.convAt c).isNone && !s.grouped c && (s.pairOf c).isNone

/-- The scan goes to its next entry; at the end it starts over, with a new table where one waits (13, R406). -/
def State.scanNext (s : State) : State :=
  let t := s.trv
  if t.scanPos + 1 < t.scan.length then { s with trv := { t with scanPos := t.scanPos + 1, scanOfs := 0, scanRep := 0 } }
  else { s with trv := { t with scanPos := 0, scanOfs := 0, scanRep := 0, scan := t.scanNew.getD t.scan, scanNew := none } }

/-- The scan goes on after one channel of an entry; DELAY runs from the entry's last dispatch (13, Table 13-7). -/
def State.scanStep (s : State) (e : ScanEntry) : State :=
  let t := s.trv
  if t.scanOfs < e.span then { s with trv := { t with scanOfs := t.scanOfs + 1 } }
  else if t.scanRep < e.rep then { s with trv := { t with scanOfs := 0, scanRep := t.scanRep + 1 } }
  else ({ s with trv := { t with scanWait := s.time + e.delay * 1000 } }).scanNext

/-- The next scan conversion: entries without EN and reserved channels are passed over. -/
def State.scanTake (s : State) : Nat → State × Option (Nat × ScanEntry × Nat)
  | 0 => (s, none)
  | n + 1 =>
    match s.trv.scan[s.trv.scanPos]? with
    | none => (s, none)
    | some e =>
      if s.time < s.trv.scanWait then (s, none)
      else if !e.en then s.scanNext.scanTake n
      else
        let pos := s.trv.scanPos
        let ch := e.channel + s.trv.scanOfs
        if chanRsv ch then
          ({ s with trv := { s.trv with skip := sat 0xFF (s.trv.skip + 1) } }.scanStep e).scanTake n
        else (s.scanStep e, some (pos, e, ch))

/-- Start a conversion on a converter; a channel whose path is being calibrated is not converted, its record comes STALE. -/
def State.startConv (s : State) (c chan gain n src entry : Nat) : State :=
  s.setConv c (some { channel := chan, gain := gain, frames := n, src := src, entry := entry
                      stale := (tget noneDflt s.trv.chanCal chan).isSome, endAt := s.time + convTime n })

/-- One free converter is served: comparators first, lowest first, then the scan. -/
def State.serveConv (s : State) (c : Nat) : State :=
  if !s.convIdle c then s else
  match argMin id s.trv.compQ with
  | some n =>
    let v := tget compDflt s.trv.comps n
    ({ s with trv := { s.trv with compQ := s.trv.compQ.erase n } }).startConv c (compChan n) v.gain v.frames 1 n
  | none =>
    match s.scanTake 1024 with
    | (s, some (pos, e, ch)) => s.startConv c ch e.gain (e.frames + 1) 0 pos
    | (s, none) => s

/-- MONITOR_DISPATCH: every free converter is served, lowest first. An idle scan takes a waiting table at once. -/
def execMonitorDispatch (s : State) : Out :=
  .next (
    if s.trv.ready then
      let s := if s.trv.scan.isEmpty && s.trv.scanNew.isSome then s.scanNext else s
      (List.range 16).foldl State.serveConv s
    else s)

/-- CONVERSION_COMPLETE: the record is written, the converter goes back to the pool, or to its pair (13, R405, R409). -/
def execConversionComplete (c : Nat) (value : Int) (offScale : Bool) (s : State) : Out :=
  guard (decide (c < 16)) (
    match s.convAt c with
    | some v =>
      let s := s.at v.endAt
      let last := (tget noneDflt s.trv.chanLast v.channel).getD 0
      let r := clampVal v.channel v.gain value offScale
      let s := s.putMon { time := s.time, value := if v.stale then last else r.1, sat := !v.stale && r.2, stale := v.stale
                          src := v.src, gain := v.gain, conv := c, channel := v.channel, frames := v.frames - 1, entry := v.entry }
      match s.pairOf c with
      | some (chan, n) =>
        if v.src = 3 then s.pairConv ((c - 12) / 2) c chan n (s.time + 16000 * n)
        else s.pairConv ((c - 12) / 2) c chan n (s.time + convTime n + (if c % 2 = 1 then 8000 * n else 0))
      | none => s.setConv c none
    | none => s)

/-! ## Comparators (13, R408) -/

/-- Replace a comparator. -/
def State.setComp (s : State) (n : Nat) (v : Comp) : State :=
  { s with trv := { s.trv with comps := tset compDflt s.trv.comps n v } }

/-- Queue one conversion of a comparator's channel, its holdoff running from now. -/
def State.compStart (s : State) (n : Nat) (v : Comp) : State :=
  let s := s.setComp n { v with hold := some (s.time + 64000), cross := 0 }
  { s with trv := { s.trv with compQ := s.trv.compQ ++ [n] } }

/-- MON_WINDOW: a comparator's input. Inside its inner window it arms; leaving LO to HI while armed it disarms, and outside a
holdoff it reports and converts. -/
def execMonWindow (n : Nat) (value : Int) (s : State) : Out :=
  guard (decide (n < 64)) (
    let v := tget compDflt s.trv.comps n
    if !v.en || !s.trv.ready then s
    else if v.lo + v.hyst ≤ value ∧ value ≤ v.hi - v.hyst then s.setComp n { v with armed := true }
    else if !v.armed || (decide (v.lo ≤ value) && decide (value ≤ v.hi)) then s
    else if v.hold.isSome then s.setComp n { v with armed := false, cross := v.cross + 1 }
    else (s.condition 0x07 n (if v.hi < value then 1 else 2)).compStart n { v with armed := false })

/-- HOLDOFF_END: after a crossing within the holdoff and with the input still outside, one further conversion, and a holdoff
of its own, so that a comparator starts at most one in 64 µs (log entry 49, DEDUCED). -/
def execHoldoffEnd (n : Nat) (value : Int) (s : State) : Out :=
  guard (decide (n < 64)) (
    let v := tget compDflt s.trv.comps n
    match v.hold with
    | some t =>
      let s := s.at t
      if v.cross ≠ 0 ∧ ¬(v.lo ≤ value ∧ value ≤ v.hi) then s.compStart n v
      else s.setComp n { v with hold := none, cross := 0 }
    | none => s)

/-- MONITOR_PATH_CAL: the 1 ms calibration of a channel's path begins or ends (13, R407). -/
def execMonitorPathCal (chan : Nat) (start : Bool) (s : State) : Out :=
  guard (decide (chan < 512)) (
    let t := s.trv
    if start then
      { s with trv := { t with chanCal := tset noneDflt t.chanCal chan (some s.time), chanTold := tset falseDflt t.chanTold chan false } }
    else
      match tget noneDflt t.chanCal chan with
      | some b =>
        let s := s.at (b + 1000000)
        { s with trv := { t with chanCal := tset noneDflt t.chanCal chan none, chanTold := tset falseDflt t.chanTold chan false } }
      | none => s)

end Sys2Proof.Machine
end

