-- ==== Sys2Proof/Machine/Power.lean ====
section
/-! DEFINITION. Clocks, rails and the board: clock loss, thermal trip, board inputs, driven outputs and the regulator poll (14,
R429 to R433, R441 to R445). -/

namespace Sys2Proof.Machine

/-! ## Losing the clock (14, R433, R444) -/

/-- Every stream that is neither IDLE, ENDED nor ABORTED is aborted with a cause. -/
def State.abortAll (s : State) (cause : Nat) : State :=
  (s.streams.map (·.1)).foldl (fun s i => s.abortStr i cause) s

/-- A Coil goes dark, its gates off (14, R433). -/
def State.coilDark (s : State) (q : Nat) : State :=
  s.setCoil q { (s.coil q).gatesTo s.time 0 0 s.time with dark := true }

/-- A Basket stops at once, without drain (14, R433; log entry 105, DEDUCED). -/
def State.haltBsk (s : State) (h : Nat) : State :=
  let b := s.bsk h
  if b.st = .off ∨ b.st = .retired then s
  else s.setBsk h { b with st := .stopped, pendEn := false, pendStop := false, testDefer := none, testDue := false }

/-- The part stops on a lost clock or a trip (14, R433). -/
def State.stopClock (s : State) (st cause : Nat) : State :=
  let s := s.abandonSweep.abortAll 0xF005
  let s := (List.range 16).foldl State.haltBsk s
  let s := (List.range 4).foldl State.coilDark s
  let s := (List.range 32).foldl State.portDark s
  { s with
    ket := { s.ket with heaterHold := some (s.time + 10000000) }
    dev := { s.dev with st := st, cause := cause, faultClk := true, rootLock := false, testLock := false } }

/-- CLOCK_LOSS: REFCLK, or the lock of the root PLL where `pll`. -/
def execClockLoss (pll : Bool) (s : State) : Out :=
  .next (
    if s.clocked then
      let s := s.stopClock 4 (if pll then 2 else 1)
      { s with dev := { s.dev with refOk := s.dev.refOk && pll } }
    else s)

/-- THERMTRIP: the hardware comparator of a monitor channel trips. -/
def execThermtrip (channel : Nat) (s : State) : Out :=
  guard (decide (channel < 512)) (
    let s := s.raise 0x0B04 4 0x00 0 channel
    let s := if s.clocked then s.stopClock 3 4 else s
    { s with dev := { s.dev with st := 3, cause := 4, thermTrip := true, faultClk := true } })

/-- HEATER_HOLD_END: 10 ms after the clock loss the heater currents go to zero. -/
def execHeaterHoldEnd (s : State) : Out :=
  .next (match s.ket.heaterHold with
    | some t =>
      let s := s.at t
      let s := { s with ket := { s.ket with heaterHold := none, heatersOff := true } }
      (s.ket.slots.filter (fun e => decide (e.1 % 80 < 68))).foldl (fun s e => s.setSlot e.1 { s.slot e.1 with
        out := 0, outNext := none, segs := [0, 0, 0, 0], segsNext := none }) s
    | none => s)

/-! ## Board inputs (14, R441, R442) -/

/-- STATUS_WORD is read from every regulator (14, R430; log entry 54, DESIGN CHOICE). -/
def State.statusReads (s : State) : State := (List.range 9).foldl (fun s r => s.send (.regulator r)) s

/-- The conditioned level of an input changes; its assertion acts. HOT_IN acts by its level, in the governor. -/
def State.inputLevel (s : State) (n : Nat) (lv : Bool) : State :=
  let v := s.inp n
  if v.masked || v.level = lv then s else
  let s := s.setInp n { v with level := lv }
  if !lv then s else if n = 0 then s.fire .syncIn else if n = 1 then s.statusReads else s

/-- After the 10 µs of the rate limit the input's level is its new level (14, R441). -/
def State.settleInput (s : State) (n : Nat) : State :=
  match (s.inp n).edgeAt with
  | some t =>
    if t + 10000 ≤ s.time then (s.setInp n { s.inp n with edgeAt := none }).inputLevel n (s.inp n).pin else s
  | none => s

/-- All three inputs settle. -/
def State.settleInputs (s : State) : State := (List.range 3).foldl State.settleInput s

/-- A nanosecond in which nothing is commanded: while the clock runs the global time counter counts one, unless it holds back
to slew towards its parent, and the inputs settle (11, R354; 14, R441; log entries 17, DESIGN CHOICE, and 44, DEDUCED). -/
def State.idleTick (s : State) : State :=
  if !s.clocked then s
  else if 0 < s.dzf.slew then { s with dzf := { s.dzf with slew := s.dzf.slew - 1 } }.settleInputs
  else { s with time := s.time + 1 }.settleInputs

/-- An edge at a pin, past the glitch filter: passed on, or coalesced within 10 µs of the last one passed. Before Trivet is
ready the inputs are ignored (16, Table 16-10). -/
def State.inputEdge (s : State) (n : Nat) (asserted : Bool) : State :=
  let s := s.settleInput n
  let v := s.inp n
  if v.pin = asserted then s else
  let s := s.setInp n { v with pin := asserted, since := s.time }
  if !s.trv.up then s else
  match v.edgeAt with
  | some _ =>
    let v := s.inp n
    let told := match v.rateAt with
      | some t => decide (s.time < t + 1000000000)
      | none => false
    let s := { s with dev := { s.dev with inCnt := sat16 (s.dev.inCnt + 1) } }
    if told then s.setInp n { v with coal := v.coal + 1 }
    else (s.setInp n { v with coal := 0, rateAt := some s.time }).raise 0x0B02 0 0x08 n (sat16 (v.coal + 1))
  | none => (s.setInp n { s.inp n with edgeAt := some s.time }).inputLevel n asserted

/-- SYNC_IN: `level` says asserted. -/
def execSyncIn (level : Bool) (s : State) : Out := .next (s.inputEdge 0 level)
/-- BOARD_ALERT_N: `level` says asserted, the pin low. -/
def execBoardAlert (level : Bool) (s : State) : Out := .next (s.inputEdge 1 level)
/-- HOT_IN: `level` says asserted. -/
def execHotIn (level : Bool) (s : State) : Out := .next (s.inputEdge 2 level)

/-- INPUT_STUCK: held asserted for more than 100 ms, the input acts as deasserted; the governor's lower limit stays in force
while HOT_IN is masked (14, R441, R442). -/
def execInputStuck (n : Nat) (s : State) : Out :=
  guard (decide (n < 3)) (
    let v := s.inp n
    if v.pin && !v.masked && s.trv.up then
      let s := s.at (v.since + 100000001)
      let s := s.setInp n { v with masked := true, stuck := true, level := false, edgeAt := none }
      let s := if n = 2 then { s with dev := { s.dev with hotLow := true } } else s
      s.raise 0x0B01 0 0x08 n 1
    else s)

/-- INPUT_REARM: seen deasserted for 10 ms. -/
def execInputRearm (n : Nat) (s : State) : Out :=
  guard (decide (n < 3)) (
    let v := s.inp n
    if v.masked && !v.pin then
      let s := s.at (v.since + 10000000)
      let s := s.setInp n { v with masked := false }
      let s := if n = 2 then { s with dev := { s.dev with hotLow := false } } else s
      s.raise 0x0B01 0 0x08 n 0
    else s)

/-! ## Driven outputs (14, R443, R445) -/

/-- The bit of `CLK_OUT_CONT` of a board signal (14, Tables 14-10, 14-12). -/
def contBit (signal : Nat) : Option Nat :=
  if 16 ≤ signal ∧ signal < 32 then some (8 + (signal - 16)) else if 32 ≤ signal ∧ signal < 40 then some (signal - 32) else none

/-- The signal is an output: a TEC gate, or a GPIO with OE (14, R443). -/
def State.isDriven (s : State) (signal : Nat) : Bool := decide (signal < 32) || bit s.dev.gpio.toNat (8 + (signal - 32))

/-- A TEC gate contends: its bridge is off, the Kettle holds the TEC output at 0 and the wavelength slot in HOLD (08, R278). -/
def State.bridgeOff (s : State) (q : Nat) : State :=
  let s := s.setCoil q { (s.coil q).gatesTo s.time 0 0 s.time with contend := true }
  let s := s.setSlot (80 * q + 69) { s.slot (80 * q + 69) with out := 0, outNext := none }
  let w := s.slot (80 * q + 68)
  if w.st = .run then s.setSlot (80 * q + 68) { w with st := .hold, outNext := none } else s

/-- OUT_CONTENTION: three readings in a row differed, `level` the last. -/
def execOutContention (signal : Nat) (level : Bool) (s : State) : Out :=
  match contBit signal with
  | none => .fault .noSuchUnit
  | some b =>
    .next (
      if s.isDriven signal && !bit s.dev.outCont.toNat b then
        let s := { s with dev := { s.dev with outCont := s.dev.outCont ||| BitVec.ofNat 32 (2 ^ b) } }
        let s := if signal < 32 then s.bridgeOff ((signal - 16) / 4) else s
        s.raise 0x0B03 0 0x08 signal (b2n level)
      else s)

/-- OUTPUT_REENABLE: 1 bits of a write to `CLK_OUT_CONT`. -/
def State.reenable (s : State) (mask : W32) : State := { s with dev := { s.dev with outCont := s.dev.outCont &&& ~~~mask } }

/-- OUTPUT_REENABLE. -/
def execOutputReenable (mask : W32) (s : State) : Out := .next (s.reenable mask)

/-- CONTENTION_CLEARED: the three readings after the re-enable matched; a bridge with no gate left tri-stated goes on. -/
def execContentionCleared (signal : Nat) (s : State) : Out :=
  match contBit signal with
  | none => .fault .noSuchUnit
  | some b =>
    let q := (signal - 16) / 4
    .next (
      if decide (signal < 32) && !bit s.dev.outCont.toNat b && (s.coil q).contend && bits s.dev.outCont.toNat (11 + 4 * q) (8 + 4 * q) = 0 then
        (s.setCoil q { s.coil q with contend := false }).releaseCoil q
      else s)

/-! ## The regulators (14, R430; 01, R24) -/

/-- Design power of a rail in mW, in the order of 14, Table 14-1 (log entry 54, DESIGN CHOICE). -/
def designPower (r : Nat) : Nat := [576000, 336000, 81000, 363000, 297000, 234000, 168000, 80000, 25200].getD r 0

/-- One regulator's answer to the millisecond's read. -/
def State.railRead (s : State) (x : RailRead) : State :=
  match x.pin with
  | some w => { s with dev := { s.dev with rails := tset noneDflt s.dev.rails x.rail (some w), silent := tset natDflt s.dev.silent x.rail 0 } }
  | none => { s with dev := { s.dev with silent := tset natDflt s.dev.silent x.rail (tget natDflt s.dev.silent x.rail + 1) } }

/-- What a rail adds, in mW, to the sum, and to what the governor adds beside it: a regulator silent for 10 ms is left out of
the sum, and the governor adds its design power. -/
def State.railPower (s : State) (r : Nat) : Nat × Nat :=
  if 10 ≤ tget natDflt s.dev.silent r then (0, designPower r) else (1000 * (tget noneDflt s.dev.rails r).getD 0, 0)

/-- The mean of a list. -/
def mean (l : List Nat) : Nat := sumNat l / l.length

/-- PMBUS_POLL: once per millisecond; the mean of the last ten sums is what `MBX_PWR.AVG` shows in whole watts, and the
governor compares it with the rails that are left out added. -/
def execPmbusPoll (reads : List RailRead) (s : State) : Out :=
  guard (reads.all (fun x => decide (x.rail < 9))) (
    if s.trv.ready || !s.trv.up then
      let s := reads.foldl State.railRead s
      let x := (List.range 9).map s.railPower
      let l := takeLast 10 (s.dev.samples ++ [(sumNat (x.map (·.1)), sumNat (x.map (·.2)))])
      { s with dev := { s.dev with samples := l, avg := mean (l.map (·.1)), avgMore := mean (l.map (·.2)) } }
    else s)

end Sys2Proof.Machine
end

