-- ==== Sys2Proof/Machine/StructTest.lean ====
section
/-! DEFINITION. The structural test: its due times, deferral, drain, migration and results, and the YIELD that waits for it
(05, R183; 10, R331 to R334; 13, R414). -/

namespace Sys2Proof.Machine

/-- The Basket a stream on h may move to for a test: the least loaded of its mask on which nothing refuses it (07, R232,
R237; 10, R332). -/
def State.moveTarget (s : State) (i h : Nat) : Option Nat :=
  let t := s.str i
  s.placeAt t.aff (fun g => g != h && (s.migBad i g t).isNone)

/-- A stream leaves for Basket g; MIGRATION_MOVE ends the move (07, R238). `res`: it issues again where it arrives. A stream
that stopped at its YIELD for the test does, whether it leaves at once or when the Basket has drained, though R238 gives a
stream its former state and R183 calls it suspended there (log entry 122, DESIGN CHOICE). -/
def State.sendAway (s : State) (i g : Nat) (res : Bool) : State :=
  let t := s.str i
  s.putStr i { t with
    st := .migrating, migTo := some g, wasRes := res, waitSince := none, migReg := false, migBy := none, atYield := false }

/-- YIELD_SUSPEND: with a test or migration pending, the stream suspends at its YIELD once its steps in flight have
completed, with CAUSE 0xF001, and for a test it is migrated at once where a Basket takes it; its PTR stays on the YIELD
(05, R183; 10, R332). The token of the YIELD is left (log entry 26, DEDUCED; log entry 80, DEDUCED). -/
def execYieldSuspend (sid : Nat) (s : State) : Out :=
  guard (decide (sid < 131072)) (
    let t := s.str sid
    let h := hdrOf (s.rdN t.stepAddr 16)
    if s.issues sid && decide (t.ptr < t.tblSteps) && h.opc = 0x09 && predHolds t.flags h.pred &&
        (s.validate sid h).isNone && s.movePending sid && !(s.bsk t.bsk).inflight.any (fun r => r.sid = sid) then
      match s.moveTarget sid t.bsk with
      | some g => if (s.bsk t.bsk).testDefer.isSome then s.sendAway sid g true
          else s.putStr sid { t with st := .suspended, cause := 0xF001, waitSince := none, atYield := true }
      | none => s.putStr sid { t with st := .suspended, cause := 0xF001, waitSince := none, atYield := true }
    else s)

/-- TEST_DUE: Basket h falls due by its schedule, which INTERVAL = 0 disables (10, R331; log entry 79, DEDUCED). -/
def execTestDue (h : Nat) (s : State) : Out :=
  guard (decide (h < 16)) (
    if bits s.feu.testCfg.toNat 31 16 = 0 ∨ !s.clocked then s
    else ((s.at (s.bsk h).testAt).makeDue h).testTurn)

/-- A write to `FEU_TEST_REQ` (10, R331). -/
def State.testReq (s : State) (mask : Nat) : State :=
  ((List.range 16).foldl (fun s h => if bit mask h then s.makeDue h else s) s).testTurn

/-- TEST_REQ. -/
def execTestReq (mask : BitVec 16) (s : State) : Out := .next (s.testReq mask.toNat)

/-- A resident stream of Basket h owns Pot state (10, R332). -/
def State.potsOwned (s : State) (h : Nat) : Bool :=
  (List.range 64).any (fun n => (s.pot h n).st ≠ .free && (s.residents h).contains (s.pot h n).owner)

/-- TEST_DEFER_END: no resident stream owns Pot state, or DEFER_MAX has passed; the Basket drains (10, R332). -/
def execTestDeferEnd (h : Nat) (s : State) : Out :=
  guard (decide (h < 16)) (
    match (s.bsk h).testDefer with
    | some t => if inService (s.bsk h) then (if s.potsOwned h then s.at t else s).drainBsk h .test else s
    | none => s)

/-- A remaining stream moves if it can; else it stays with issue held (10, R332). -/
def State.moveOff (s : State) (h i : Nat) : State :=
  let t := s.str i
  if t.st = .migrating then (s.migMove i).migMove i else
  match s.moveTarget i h with
  | some g => ((s.sendAway i g (t.st = .resident || t.atYield)).migMove i).migMove i
  | none => s

/-- TEST_ENTRY: the drain is over; the remaining streams are migrated, and the Basket enters TEST under the test clock (10,
R332; 14, R432). -/
def execTestEntry (h : Nat) (s : State) : Out :=
  guard (decide (h < 16)) (
    let b := s.bsk h
    if b.st = .draining ∧ b.drainFor = .test ∧ b.inflight.isEmpty then
      let s := (s.held h).foldl (fun s i => s.moveOff h i) s
      let s := s.abandonIn h
      s.setBsk h { s.bsk h with st := .test, testFrom := s.time }
    else s)

/-- A test ends with a result, and the Basket goes on to READY, or to STOPPED after a STOP (10, R334; 14, Table 14-8). -/
def State.testOver (s : State) (h code : Nat) (row : Bool) (next : Nat) : State :=
  let b := s.bsk h
  let s := s.setBsk h { b with
    st := if b.pendStop then .stopped else .ready, pendStop := false, testDue := false, testRes := code
    testDone := s.time, testRow := row, testAt := s.time + next * 60000000000 }
  let s := (s.held h).foldl (fun s i =>
    let t := s.str i
    if t.st = .suspended ∧ t.atYield then s.putStr i { t with st := .resident, atYield := false } else s) s
  (s.settleBsk h).testTurn

/-- TEST_RESULT: the result stands once the nominal phase of Table 10-10 has come, 18 ms in, the stress taken off (10, R333,
R334). -/
def execTestResult (h : Nat) (res : TestOutcome) (s : State) : Out :=
  guard (decide (h < 16)) (
    let b := s.bsk h
    let failed (s : State) : State :=
      ((s.setBsk h { s.bsk h with testRes := 3, testDone := s.time }).retireBasket h true).testTurn
    if b.st ≠ .test then s else
    let s := s.at (b.testFrom + 18000000)
    match res with
    | .pass => s.testOver h 1 false (bits s.feu.testCfg.toNat 31 16)
    | .marginal =>
      if b.testRow then failed s
      else (s.raise 0x0105 2 0x01 h (2 ^ 30 + shl h 16)).testOver h 2 true 15
    | .fail => failed s)

end Sys2Proof.Machine
end

