-- ==== Sys2Proof/Machine/Reset.lean ====
section
/-! DEFINITION. Warm and cold resets, PERST_N and VAUX (09, R303; 11, R363, R371; 13, R419 to R421; 14, R429, R433 to R437; 16,
R472). -/

namespace Sys2Proof.Machine

/-! ## Warm reset (14, Table 14-4, R435) -/

/-- A Basket through a warm reset: one that is OFF or RETIRED stays so (log entry 66, DEDUCED). -/
def State.warmBsk (s : State) (h : Nat) : State :=
  let was := (s.bsk h).st
  let s := s.resetBsk h
  if was = .off ∨ was = .retired then s.setBsk h { s.bsk h with st := was } else s

/-- The fabric engine runs on: only the node's own units are discarded, under a new incarnation that sends nothing for 2 ms
(11, R363, R371). -/
def Dzf.warm (d : Dzf) (now : Nat) : Dzf :=
  { d with units := [], backlog := [], nextSeq := [], inc := (d.inc + 1) % 256, quietTil := now + 2000000, dupCnt := 0, busyCnt := 0 }

/-- GCTL through a warm reset: `GCTL_SCALE_CLASS`, the sticky scratch registers and the CLKPWR block are kept. -/
def Dev.warm (d : Dev) : Dev :=
  { d with
    st := if d.st = 5 then 5 else 1
    accErr := false, accFn := 0, accKind := 0, accCnt := 0, accAddr := 0, stBusy := false, stDrop := false, stResult := 0
    stStream := 0, heldLow := [], latch := [] }

/-- A warm reset. It does nothing to a part whose clock is lost or whose dies are held in reset (14, R429, R433). -/
def State.warmReset (s : State) : State :=
  if !s.clocked || s.dev.cause = 3 then s else
  let s := s.abortAll 0xF005
  let s := s.abandonSweep
  let s := (List.range 16).foldl State.warmBsk s
  let s := { s with
    pots := [], scales := [], tokens := [], globals := [], fastQ := [], waiting := [], hq := {}, memCe := 0, memUe := 0
    dzf := s.dzf.warm s.time, dev := s.dev.warm }
  s.bootRec 3

/-- WARM_RESET. -/
def execWarmReset (s : State) : Out := .next s.warmReset

/-- PERST_ASSERT: a level that holds for at least 1 µs starts a warm reset (16, R472; log entry 110, DEDUCED). -/
def execPerstAssert (s : State) : Out :=
  .next (
    if s.dev.perst then s
    else
      let s := s.warmReset
      { s with dev := { s.dev with perst := true, perstAt := s.time } })

/-- PERST_RELEASE: held inside until 100 µs after assertion; the clocks are locked and the rails in regulation by then (14,
R432, R437; 16, R472). -/
def execPerstRelease (s : State) : Out :=
  .next (
    if !s.dev.perst then s
    else
      let s := s.at (s.dev.perstAt + 100000)
      let d := { s.dev with perst := false }
      if !s.clocked || d.cause = 3 || !d.vaux then { s with dev := d }
      else { s with dev := { d with
        st := if d.st = 5 then 5 else 1, rootLock := true, testLock := true, refOk := true, railOk := 0x7FF } })

/-! ## Cold reset (14, Table 14-4; 09, R303; 02, R67; 11, R348) -/

/-- The bits of a `PAN_COLSPARE` register that are not reserved (02, Table 02-22). -/
def colMask : Nat := 0x9F9F9F9F

/-- The repair image of Pan p's fuse word, its segment selectors with it (13, Table 13-13); an ignored or blank word gives
the default map with the first segment of every pair. -/
def State.fusedPan (s : State) (p : Nat) : Pan :=
  let d := s.fuseData (0x10 + p)
  let r := BitVec.ofNat 32 d
  let c0 := BitVec.ofNat 32 (d / 2 ^ 32 &&& colMask)
  let c1 := BitVec.ofNat 32 (d / 2 ^ 64 &&& colMask)
  { panDflt p with rowSpare := r, colSpare0 := c0, colSpare1 := c1, mapRow := r, mapCol0 := c0, mapCol1 := c1, segSel := d / 2 ^ 96 % 2 ^ 16 }

/-- What a live sticky record does at cold reset: repairs and retired Pans, Baskets and ports (09, R303; 02, R67; 10, R321; 11,
R348). -/
def State.fromRecord (s : State) (r : BbrRec) : State :=
  match r.kind with
  | .fieldRepair p a b c =>
    s.setPan p { s.pan p with rowSpare := a, colSpare0 := b, colSpare1 := c, mapRow := a, mapCol0 := b, mapCol1 := c }
  | .panRetire p _ => s.setPan p { s.pan p with mode := .retired, slot := none, reason := 4 }
  | .basketRetire h _ => s.setBsk h { s.bsk h with st := .retired, retiredByTest := true }
  | .portRetire n _ => (s.setPort n { s.port n with st := .retired }).raise 0x0804 3 0x05 n (shl 4 28 + n)
  | _ => s

/-- The records a cold reset goes by: those of the black box, and those that wait for their commit while VAUX holds Trivet up
(02, R67: retirement survives every reset). -/
def Trivet.known (t : Trivet) : List BbrRec :=
  t.records ++ t.bbrQ.map (fun x => { seq := 0, time := x.1, carried := false, kind := x.2 })

/-- What outlives the loss of the main rails beside Trivet: the outside, and what the part has sent. -/
def State.bare (s : State) (trv : Trivet) (inc : Nat) : State :=
  { State.reset with
    pending := s.pending, freeCtr := s.freeCtr, host := s.host, hostBad := s.hostBad, trv := trv
    evq := s.evq.filter (fun e => e.unit = 0x07), tx := s.tx, hellos := s.hellos, joins := s.joins, msix := s.msix, mgmt := s.mgmt
    dzf := { State.reset.dzf with inc := inc % 256 }
    dev := { State.reset.dev with lq := s.dev.lq, readData := s.dev.readData, barData := s.dev.barData } }

/-- The reset kind of a BOOT record: 1 with VAUX, 2 by the main rails, 3 warm, 4 after a clock loss (14, R433; log
entry 51). -/
def State.coldKind (s : State) (c : ColdCause) : Nat :=
  match c with
  | .vaux => 1
  | .mainRails => if s.dev.st = 4 then 4 else 2

/-- A cold reset. Under a rail-order fault the dies stay in reset until VAUX is removed (14, R429). -/
def State.coldReset (s : State) (c : ColdCause) (orderOk : Bool) : State :=
  if !s.dev.vaux || s.dev.cause = 3 then s else
  let kind := s.coldKind c
  let inc := match c with
    | .vaux => s.dzf.inc
    | .mainRails => s.dzf.inc + 1
  let trip := s.dev.thermTrip
  let rec5 := s.trv.recovery
  let s := s.bare { s.trv with subs := [], resetKind := kind } inc
  let s := { s with
    dzf := { s.dzf with quietTil := 2000000 }
    dev := { s.dev with st := if rec5 && orderOk then 5 else 0, cause := if orderOk then 0 else 3, thermTrip := trip } }
  let s := (List.range 272).foldl (fun s p => s.setPan p (s.fusedPan p)) s
  let uid0 := BitVec.ofNat 32 s.uid
  let s := (List.range 16).foldl (fun s h => s.setBsk h { s.bsk h with lfsr := lfsrSeed uid0 h }) s
  let s := (liveSticky s.trv.known).foldl State.fromRecord s
  let s := (List.range 16).foldl State.layPans s
  s.bootRec kind

/-- COLD_RESET. -/
def execColdReset (c : ColdCause) (orderOk : Bool) (s : State) : Out := .next (s.coldReset c orderOk)

/-! ## VAUX (11, R363; 13, R420, R421) -/

/-- The incarnation of the last valid BOOT record. -/
def Trivet.lastInc (t : Trivet) : Nat :=
  match t.records.reverse.findSome? (fun r => match r.kind with
    | .boot _ _ _ _ _ inc => some inc
    | _ => none) with
  | some i => i
  | none => 0

/-- What Trivet keeps without power: flash, firmware banks, fuses and the record. -/
def Trivet.dark (t : Trivet) : Trivet :=
  { flash := t.flash, fw := t.fw, fuses := t.fuses, badFuse := t.badFuse, bbr := t.bbr, bbrErase := t.bbrErase
    bbrTorn := t.bbrTorn, bbrSeq := t.bbrSeq, boots := t.boots, resetKind := 1
    patCut := t.patCut || t.flashOps.any (fun o => o.bank = 2) }

/-- VAUX_APPLY: Trivet wakes and reads the fuse array; words read as not valid are told and act as blank; INC is one above
that of the last BOOT record. -/
def execVauxApply (badFuses : List (Nat × Bool)) (s : State) : Out :=
  guard (badFuses.all (fun e => decide (e.1 < 512))) (
    if s.dev.vaux then s else
    let s := s.bare { s.trv.dark with badFuse := badFuses.map (·.1) } (s.trv.lastInc + 1)
    let s := { s with dev := { s.dev with vaux := true } }
    badFuses.foldl (fun s e => s.raise 0x0A04 0 0x07 0 (shl (b2n e.2) 28 + e.1)) s)

/-- The SEQs of the EVENT records that wait for their commit. -/
def Trivet.queuedSeqs (t : Trivet) : List Nat :=
  t.bbrQ.filterMap (fun x => match x.2 with
    | .event e => some e.seq
    | _ => none)

/-- VAUX_POWER_FAIL: the hold-up writes one POWER_LOSS record for what is still queued; then the part is dark. -/
def execVauxPowerFail (s : State) : Out :=
  .next (
    if !s.dev.vaux then s else
    let qs := s.trv.queuedSeqs
    let t := s.trv.commit s.time s.time (.powerLoss s.trv.bbrQ.length (qs.headD 0) (qs.getLastD 0))
    let s := s.bare t.dark s.dzf.inc
    { s with dev := { s.dev with vaux := false } })

end Sys2Proof.Machine
end

