-- ==== Sys2Proof/Machine/Regs.lean ====
section
/-! DEFINITION. What every register of BAR0 reads (15, R447, R448, R454 to R458, and the register tables of every chapter). -/

namespace Sys2Proof.Machine

/-! ## The BAR0 map (15, R447) -/

/-- The blocks of PF BAR0 (15, Table 15-1). -/
inductive RegBlock where
  | gctl
  | clk
  | feu
  | ket
  | cal
  | bsk (h : Nat)
  | pan (p : Nat)
  | dzf
  | hq
  | mbx
  | rsv
  deriving DecidableEq, Repr

/-- The block an offset lies in, and the offset within it (15, Table 15-1). -/
def regBlock (off : Nat) : RegBlock × Nat :=
  if off < 0x10000 then (.gctl, off)
  else if off < 0x20000 then (.clk, off - 0x10000)
  else if off < 0x40000 then (.feu, off - 0x20000)
  else if off < 0x80000 then (.ket, off - 0x40000)
  else if off < 0x100000 then (.cal, off - 0x80000)
  else if off < 0x200000 then (.bsk ((off - 0x100000) / 0x10000), (off - 0x100000) % 0x10000)
  else if off < 0x310000 then (.pan ((off - 0x200000) / 0x1000), (off - 0x200000) % 0x1000)
  else if off < 0x400000 then (.rsv, 0)
  else if off < 0x500000 then (.dzf, off - 0x400000)
  else if off < 0x600000 then (.hq, off - 0x500000)
  else if off < 0x800000 then (.mbx, off - 0x600000)
  else (.rsv, 0)

/-- The low or the high word of a 64-bit value. -/
def half (high : Bool) (v : Nat) : Nat := if high then v / 2 ^ 32 % 2 ^ 32 else v % 2 ^ 32

/-- A field of a word: the value cut to n bits, at bit lo. -/
def put (n lo v : Nat) : Nat := shl (v % 2 ^ n) lo

/-- The offset within a table of units `size` bytes apart that begins at `base`: which unit, and where in it. -/
def unitAt (base size count r : Nat) : Option (Nat × Nat) :=
  if base ≤ r ∧ r < base + size * count then some ((r - base) / size, (r - base) % size) else none

/-- Word k of four. -/
def uidWord (uid k : Nat) : Nat := uid / 2 ^ (32 * k) % 2 ^ 32

/-- Bits of the units that satisfy a test. -/
def bitMap (n : Nat) (f : Nat → Bool) : Nat := sumNat ((List.range n).map (fun i => if f i then 2 ^ i else 0))

/-! ## State codes -/

/-- 14, Table 14-7. -/
def bskCode : BskState → Nat
  | .off => 0
  | .warming => 1
  | .ready => 2
  | .run => 3
  | .draining => 4
  | .stopped => 5
  | .test => 6
  | .retired => 7

/-- 02, Table 02-13. -/
def panCode : PanMode → Nat
  | .inService => 0
  | .spare => 1
  | .calibrating => 2
  | .suspect => 3
  | .retired => 4

/-- 04, Table 04-4. -/
def potCode : PotState → Nat
  | .free => 0
  | .opened => 1
  | .closing => 2
  | .held => 3

/-- 08, Table 08-6. -/
def slotCode : SlotState → Nat
  | .run => 0
  | .stopping => 1
  | .stopped => 2
  | .pendingEnable => 3
  | .hold => 4

/-- 11, Table 11-2. -/
def portCode : PortState → Nat
  | .disabled => 0
  | .down => 1
  | .training => 2
  | .hello => 3
  | .up => 4
  | .drain => 5
  | .isolated => 6
  | .pass => 7
  | .retired => 8

/-! ## GCTL (15, R456; 14, Table 14-11) and the supplies (14, R431) -/

/-- `GCTL_DEV_STATE.STATE`: once started, READY when every Basket that is not RETIRED is in service (14, Table 14-11). -/
def State.devState (s : State) : Nat :=
  if s.dev.st = 1 then
    (if (List.range 16).all (fun h => inService (s.bsk h) || (s.bsk h).st = .retired) then 2 else 1)
  else s.dev.st

/-- Coil q is locked (08, R279). -/
def State.coilLocked (s : State) (q : Nat) : Bool := (s.coil q).everLocked && !(s.coil q).unlock && !(s.coil q).dark

/-- A Basket's VCORE target in mV (14, R431). -/
def State.coreTarget (s : State) (h : Nat) : Int :=
  let b := s.bsk h
  let f : Int := Config.fusedCore
  f + clampI (-40) 30 (sgn 8 (bits b.vtrim.toNat 15 8)) - (if b.stressed s.time then divAway (5 * f) 100 else 0)

/-- A Basket's VPAN target in mV (14, R431): the VOLT margin raises it for as long as any Pan of it is SUSPECT (09, Table
09-5). -/
def State.panTarget (s : State) (h : Nat) : Int :=
  let b := s.bsk h
  let m : Int := if (bskPans h).any (fun p => (s.pan p).mode = .suspect && ((s.pan p).margin = 1 || s.voltPolicy b)) then 25
    else 0
  (Config.fusedPan : Int) + clampI (-40) 40 (sgn 8 (bits b.vtrim.toNat 7 0) + m)

/-- The greatest of a list of integers, from a first one. -/
def maxInt (x : Int) : List Int → Int
  | [] => x
  | y :: l => maxInt (if x < y then y else x) l

/-- A rail: the highest target of the 16 Baskets plus 15 mV, within the AVS range (14, R431, Table 14-1). -/
def railTarget (lo hi : Int) (targets : List Int) : Int := clampI lo hi (maxInt (targets.headD 0) targets + 15)

/-- The VCORE rail target. -/
def State.coreRail (s : State) : Int := railTarget 650 800 ((List.range 16).map s.coreTarget)
/-- The VPAN rail target. -/
def State.panRail (s : State) : Int := railTarget 780 860 ((List.range 16).map s.panTarget)

/-- `BSK_VTRIM_EFF` (14, Table 14-13): targets in force, and that one exceeds its clamped rail. -/
def State.vtrimEff (s : State) (h : Nat) : Nat :=
  let c := s.coreTarget h
  let p := s.panTarget h
  let cr := s.coreRail - 15
  let pr := s.panRail - 15
  put 1 31 (b2n (decide (cr < c) || decide (pr < p))) + put 12 16 (min c cr).toNat + put 12 0 (min p pr).toNat

/-- The identifiers of a function's configuration space (12, Table 12-2). -/
structure CfgSpace where
  vendor    : Nat
  device    : Nat
  revision  : Nat
  classCode : Nat
  subVendor : Nat
  subsystem : Nat
  deriving DecidableEq, Repr

/-- `GCTL_DEV_ID` (15, Table 15-5). -/
def Dev.idWord (d : Dev) : Nat := if d.lq then 0xC2561010 else 0xC2560010

/-- What the configuration space of a function presents (12, R375, Table 12-2; 00, R3): `GCTL_DEV_ID.STEP` as the revision,
and the subsystem IDs of fuse word 0x002. -/
def State.cfgSpace (s : State) (fn : Nat) : CfgSpace :=
  { vendor := Config.tvmVid, device := if fn = 0 then 0xC256 else 0xC25F, revision := bits s.dev.idWord 15 8
    classCode := 0x120000, subVendor := bits (s.fuseData 2) 79 64, subsystem := bits (s.fuseData 2) 95 80 }

/-- The IDCODE register of the test access port (16, R476): the stepping, the part number and TVM_JEDEC. -/
def State.tapIdcode (s : State) : Nat :=
  put 4 28 (bits s.dev.idWord 15 12) + put 16 12 0xC256 + put 11 1 Config.tvmJedec + 1

/-- The instruction the test access port acts on (16, R476, R478): every unassigned code is BYPASS, and EXTEST, CLAMP and
HIGHZ take the lands only while PERST_N is asserted, else they act as SAMPLE/PRELOAD. -/
def State.tapInstr (s : State) : Nat :=
  match s.dev.tap.ir.toNat with
  | 0x00 => if s.dev.perst then 0x00 else 0x01
  | 0x01 => 0x01
  | 0x02 => 0x02
  | 0x03 => if s.dev.perst then 0x03 else 0x01
  | 0x04 => if s.dev.perst then 0x04 else 0x01
  | _ => 0xFF

/-- GCTL (15, Table 15-4; log entry 94, DEDUCED). -/
def State.gctlWord (s : State) (r : Nat) : Nat :=
  let d := s.dev
  match r with
  | 0x0000 => d.idWord
  | 0x0004 => 0x03101181
  | 0x0008 => put 16 16 (bitMap 16 (fun h => inService (s.bsk h))) + put 4 12 (bitMap 4 s.coilLocked) + put 4 8 d.cause +
      put 4 0 s.devState
  | 0x0020 => put 16 16 s.clsPend + d.cls.toNat
  | 0x0030 => s.dzf.epoch.toNat
  | 0x0038 => half false s.dzf.digest.toNat
  | 0x003C => half true s.dzf.digest.toNat
  | 0x0100 => uidWord s.uid 0
  | 0x0104 => uidWord s.uid 1
  | 0x0108 => uidWord s.uid 2
  | 0x010C => uidWord s.uid 3
  | 0x0200 => half false s.time
  | 0x0204 => half true s.time
  | 0x0300 => put 1 31 (b2n d.accErr) + put 5 24 d.accFn + put 4 16 d.accKind + sat16 d.accCnt
  | 0x0304 => put 25 0 d.accAddr
  | 0x0404 => put 1 31 (b2n d.stBusy) + put 1 30 (b2n d.stDrop) + put 8 18 d.stResult + put 18 0 d.stStream
  | 0x0408 => put 18 0 s.waiting.length
  | 0x040C => put 18 0 s.dzf.dedup.length
  | 0x0410 => put 16 16 (sat16 s.dzf.busyCnt) + sat16 s.dzf.dupCnt
  | 0x0418 => put 16 16 (sat16 s.memCe) + sat16 s.memUe
  | 0x0500 => (d.scratch.getD 0 0).toNat
  | 0x0504 => (d.scratch.getD 1 0).toNat
  | 0x0508 => (d.scratch.getD 2 0).toNat
  | 0x050C => (d.scratch.getD 3 0).toNat
  | _ => 0

/-- `CLK_GPIO_IN`: an output that is not tri-stated reads as driven; what stands at another pin comes from outside, and no
command brings it: it is free (log entry 148, DESIGN CHOICE). -/
def State.gpioIn (s : State) : Nat :=
  let c := s.dev.gpio.toNat
  bitMap 8 (fun n =>
    if bit c (8 + n) && !bit s.dev.outCont.toNat n then bit c n else (Config.freeWord s.freeCtr).getLsbD n)

/-- CLKPWR (14, Table 14-12). Before the part has started no rail has a target. -/
def State.clkWord (s : State) (r : Nat) : Nat :=
  let d := s.dev
  match r with
  | 0x000 => put 1 31 (b2n d.rootLock) + put 1 30 (b2n d.testLock) + put 1 29 (b2n d.refOk) + put 11 0 d.railOk
  | 0x004 => d.pwrCfg.toNat
  | 0x008 => if d.st = 0 then 0 else put 16 16 s.panRail.toNat + put 16 0 s.coreRail.toNat
  | 0x010 => put 3 8 (bitMap 3 (fun n => (s.inp n).stuck)) + bitMap 3 (fun n => (s.inp n).level)
  | 0x014 => sat16 d.inCnt
  | 0x018 => bits d.outCont.toNat 23 0
  | 0x01C => d.gpio.toNat
  | 0x020 => s.gpioIn
  | _ => 0

/-! ## FEU (10, R340) -/

/-- Minutes since a time. -/
def State.minutes (s : State) (t : Nat) : Nat := sat 0xFFFFFF ((s.time - t) / 60000000000)

/-- Basket h is due, deferring, draining for its test or waiting its turn (10, Table 10-21). -/
def State.isDue (s : State) (h : Nat) : Bool :=
  let b := s.bsk h
  b.testDue || b.testDefer.isSome || (b.st = .draining && b.drainFor = .test)

/-- The Basket under test, or deferring. -/
def State.underTest (s : State) : Nat :=
  ((List.range 16).find? (fun h =>
    let b := s.bsk h
    b.st = .test || b.testDefer.isSome || (b.st = .draining && b.drainFor = .test))).getD 0

/-- FEU (10, Table 10-14). -/
def State.feuWord (s : State) (r : Nat) : Nat :=
  let f := s.feu
  match r with
  | 0x000 => put 1 9 (b2n (decide ((f.tail - f.head).toNat = ringSize f))) + put 1 8 (b2n s.faultN) + f.pend.toNat
  | 0x008 => f.cfg.toNat
  | 0x010 => half false f.ringBase.toNat
  | 0x014 => half true f.ringBase.toNat
  | 0x018 => f.tail.toNat
  | 0x01C => f.head.toNat
  | 0x020 => sat32 f.lost
  | 0x024 => f.seq % 2 ^ 32
  | 0x030 => sat32 (tget natDflt f.cnt 0)
  | 0x034 => sat32 (tget natDflt f.cnt 1)
  | 0x038 => sat32 (tget natDflt f.cnt 2)
  | 0x03C => sat32 (tget natDflt f.cnt 3)
  | 0x040 => sat32 (tget natDflt f.cnt 4)
  | 0x044 => f.smpCfg.toNat
  | 0x048 => put 16 16 (sat16 f.replSpare) + sat16 f.replSame
  | 0x04C => sat32 f.smpRun
  | 0x050 => sat32 f.smpFail
  | 0x054 => sat32 f.smpSkip
  | 0x060 => f.testCfg.toNat
  | 0x068 => put 1 31 (b2n ((List.range 16).any (fun h => (s.bsk h).st = .test))) + put 4 24 s.underTest + bitMap 16 s.isDue
  | 0x06C => f.testSel.toNat
  | 0x070 =>
    let b := s.bsk (bits f.testSel.toNat 3 0)
    put 2 30 b.testRes + (if b.testRes = 0 then 0 else s.minutes b.testDone)
  | _ => 0

/-! ## KET (08, R286) -/

/-- A signed value with 16 fractional bits as a register shows it. -/
def word16 (x : Int) : Nat := unsgn 32 x

/-- A slot's registers (08, Tables 08-19 to 08-21). -/
def Slot.word (v : Slot) (r : Nat) : Nat :=
  match r with
  | 0x04 => put 3 29 (slotCode v.st) + put 1 11 (b2n v.ign) + put 1 10 (b2n v.therm) + put 1 9 (b2n v.compl) +
      put 1 8 (b2n (v.isat || v.isatO)) + put 1 7 (b2n v.osat) + put 1 6 (b2n v.osatO)
  | 0x08 => v.cfg.toNat
  | 0x0C => v.sp.toNat
  | 0x10 => v.slew.toNat
  | 0x14 => v.omin.toNat
  | 0x18 => v.omax.toNat
  | 0x1C => v.ilim.toNat
  | 0x20 => word16 v.ramp
  | 0x24 => word16 v.out
  | 0x28 => word16 v.err
  | 0x2C => put 16 16 (sat16 v.spLost) + sat16 v.miss
  | 0x30 => put 16 16 (sat16 v.clampCnt) + sat16 v.complCnt
  | _ => 0

/-- A sample of the selected engine's capture buffer; one never written reads free (log entry 5, DESIGN CHOICE). -/
def State.capWord (s : State) (i : Nat) : Nat :=
  match (s.eng s.engNo).capBuf.find? (fun e => e.1 = i) with
  | some e => e.2.toNat
  | none => (Config.freeWord (s.freeCtr + i)).toNat

/-- KET (08, Table 08-10). -/
def State.ketWord (s : State) (r : Nat) : Nat :=
  let k := s.eng s.engNo
  match unitAt 0x1000 0x40 320 r with
  | some (n, o) => (s.slot n).word o
  | none =>
  match unitAt 0x8000 0x80 320 r with
  | some (n, o) => (tget w32Dflt (s.slot n).coef (o / 4)).toNat
  | none =>
  if 0x20000 ≤ r ∧ r < 0x30000 then s.capWord ((r - 0x20000) / 4) else
  match r with
  | 0x00 => put 4 16 (bitMap 4 (fun q => (s.coil q).unlock)) + put 4 12 (bitMap 4 (fun q => (s.slot (80 * q + 68)).st = .hold)) +
      put 4 8 (bitMap 4 (fun q => (s.coil q).xcond)) + bitMap 4 (fun e => (s.eng e).miss)
  | 0x08 => put 16 16 (tget natDflt s.ket.vhtr 1) + put 16 0 (tget natDflt s.ket.vhtr 0)
  | 0x0C => put 16 16 (tget natDflt s.ket.vhtr 3) + put 16 0 (tget natDflt s.ket.vhtr 2)
  | 0x10 => put 16 16 (sat16 (s.eng 0).peak) + sat16 (s.eng 0).load
  | 0x14 => put 16 16 (sat16 (s.eng 1).peak) + sat16 (s.eng 1).load
  | 0x18 => put 16 16 (sat16 (s.eng 2).peak) + sat16 (s.eng 2).load
  | 0x1C => put 16 16 (sat16 (s.eng 3).peak) + sat16 (s.eng 3).load
  | 0x20 => (s.coil 0).tecCfg.toNat
  | 0x24 => (s.coil 1).tecCfg.toNat
  | 0x28 => (s.coil 2).tecCfg.toNat
  | 0x2C => (s.coil 3).tecCfg.toNat
  | 0x30 => if s.ovrLive 0 then (s.coil 0).tecOvr.toNat else 0
  | 0x34 => if s.ovrLive 1 then (s.coil 1).tecOvr.toNat else 0
  | 0x38 => if s.ovrLive 2 then (s.coil 2).tecOvr.toNat else 0
  | 0x3C => if s.ovrLive 3 then (s.coil 3).tecOvr.toNat else 0
  | 0x40 => (s.coil 0).win.toNat
  | 0x44 => (s.coil 1).win.toNat
  | 0x48 => (s.coil 2).win.toNat
  | 0x4C => (s.coil 3).win.toNat
  | 0x50 => s.ket.engSel.toNat
  | 0x54 => put 1 31 (b2n k.injRun) + bits k.injCfg.toNat 30 0
  | 0x58 => k.injF0.toNat
  | 0x5C => k.injF1.toNat
  | 0x60 => k.injAmp.toNat
  | 0x64 => put 1 31 (b2n k.armed) + bits k.capCfg.toNat 30 0
  | 0x68 => put 1 31 (b2n k.capDone) + put 1 30 (b2n k.armed) + put 15 0 k.capCount
  | _ => 0

/-! ## CAL (09, R309) -/

/-- `CAL_PAN_INFO` (09, Table 09-15; log entry 63, DEDUCED). -/
def State.panInfo (s : State) (p : Nat) : Nat :=
  let v := s.pan p
  put 1 31 (b2n v.early) + put 1 30 (b2n v.lim) + put 1 29 (b2n v.noCal) + put 9 20 (s.repairsOf p v.mapRow v.mapCol0 v.mapCol1) +
    (if v.calId = 0 then 0 else sat 0xFFFFF ((s.time - v.lastCal) / 1000000))

/-- `CAL_STAT` while a sweep runs (09, Table 09-10). -/
def calStat (startup : Bool) (phase p : Nat) : Nat :=
  put 1 31 1 + put 1 30 (b2n startup) + put 4 24 phase + put 4 16 (panBsk p) + put 10 0 p

/-- The Pan `CAL_STAT` names in the start-up sweep, which takes 17 of each Basket at once: the lowest under it (log entry 128,
DESIGN CHOICE). -/
def State.startPan (s : State) : Nat :=
  ((List.range 272).find? (fun p =>
    let b := s.bsk (panBsk p)
    b.st = .warming && b.coldSweep && (s.pan p).mode ≠ .retired)).getD 0

/-- CAL (09, Table 09-7); the start-up sweep begins at its measurements (09, R306). What it reports of a Pan that `CAL_PAN_SEL` names and the part does not have is free (log
entry 5). -/
def State.calWord (s : State) (r : Nat) : Nat :=
  let c := s.cal
  let p := bits c.panSel.toNat 9 0
  let sel (v : Nat) : Nat := if p < 272 then v else (Config.freeWord (s.freeCtr + r)).toNat
  match r with
  | 0x004 => c.cfg.toNat
  | 0x008 => match c.sweep with
    | some w => calStat s.startupRuns (sweepPhase w s.time) w.pan
    | none => match c.startAt with
      | some m => calStat true (phaseFrom m s.time) s.startPan
      | none => put 1 30 (b2n s.startupRuns)
  | 0x00C => c.bskEn.toNat
  | 0x010 => c.blind.toNat
  | 0x018 => sat32 c.sweepCnt
  | 0x01C => put 16 16 (sat16 c.abandon) + sat16 c.timeouts
  | 0x020 => c.panSel.toNat
  | 0x024 => sel (s.panInfo p)
  | 0x028 => sel (put 16 16 (sat16 (s.pan p).ofsDrift) + sat16 (s.pan p).gainDrift)
  | 0x030 => sel (half false (s.pan p).lastCal)
  | 0x034 => sel (half true (s.pan p).lastCal)
  | _ => 0

/-! ## Basket blocks (14, Table 14-13; 05, R185; 03, R103; 04, R136; 07, Table 07-9) -/

/-- An RWL register of a Basket: the value last written, where a COMMIT has not taken it yet (14, R439; log entry 56, DEDUCED). -/
def Basket.rwl (b : Basket) (key : Nat) (v : W32) : Nat := ((b.staged.find? (fun e => e.1 = key)).map (·.2)).getD v |>.toNat

/-- Head steps of Basket h that wait on token c (05, Table 05-17). -/
def State.waitersOn (s : State) (h c : Nat) : Nat :=
  (s.streams.filter (fun e => e.2.bsk = h && e.2.st = .resident && (match e.2.waitSince with
    | some (_, x) => x = c
    | none => false))).length

/-- Planned level of slot i in this interval (05, Table 05-20). -/
def State.levelOf (s : State) (h i : Nat) : Nat :=
  if i < bskSlots (s.bsk h) then (match s.slotPan h i with
    | some p => (s.pan p).lvlNow
    | none => 0) else 0

/-- `BSK_ACTm`. -/
def State.actWord (s : State) (h m : Nat) : Nat :=
  put 5 24 (s.levelOf h (4 * m + 3)) + put 5 16 (s.levelOf h (4 * m + 2)) + put 5 8 (s.levelOf h (4 * m + 1)) +
    put 5 0 (s.levelOf h (4 * m))

/-- Streams Basket h holds resident or suspended, and those of them that are suspended (07, Table 07-15). -/
def State.resWord (s : State) (h : Nat) : Nat :=
  let cnt (st : StrState) : Nat := (s.streams.filter (fun e => e.2.bsk = h && e.2.st = st)).length
  put 7 16 (cnt .suspended) + put 7 0 (cnt .resident + cnt .suspended)

/-- A Basket block. -/
def State.bskWord (s : State) (h r : Nat) : Nat :=
  let b := s.bsk h
  let tok := bits b.tokSel.toNat 7 0
  let pot := s.pot h (bits b.potSel.toNat 5 0)
  let busy (n : Nat) : Bool := (s.pot h n).st = .opened || (s.pot h n).st = .closing
  let held (n : Nat) : Bool := (s.pot h n).st = .held
  match r with
  | 0x0004 => put 4 28 (bskCode b.st) + put 1 27 (b2n b.pendEn) + put 1 26 (b2n b.pendStop) + put 1 25 (b2n b.ign) +
      put 1 24 (b2n (b.stressed s.time))
  | 0x0008 => b.rwl 0x0008 b.vtrim
  | 0x000C => if s.dev.st = 0 then 0 else s.vtrimEff h
  | 0x0300 => b.rwl 0x0300 b.seqCfg
  | 0x0304 => put 10 0 (inflightCnt b)
  | 0x0308 => b.tokSel.toNat
  | 0x030C =>
    if tokLegal tok && tok ≠ 0 then
      put 1 31 (b2n (s.tok h tok).ovf) + put 10 16 (s.waitersOn h tok) + put 16 0 (s.tok h tok).count
    else 0
  | 0x0314 => sat32 b.issueCnt
  | 0x0318 => sat32 b.stallBank
  | 0x031C => sat32 b.stallRamp
  | 0x0320 => sat32 b.fillCnt
  | 0x0324 => sat32 b.lateCnt
  | 0x0328 => s.actWord h 0
  | 0x032C => s.actWord h 1
  | 0x0330 => s.actWord h 2
  | 0x0334 => s.actWord h 3
  | 0x0400 => b.rwl 0x0400 b.wskThr
  | 0x0404 => b.rwl 0x0404 b.wskCfg
  | 0x0408 => sat32 b.widenCnt
  | 0x040C => sat32 b.satCnt
  | 0x0410 => put 16 16 (sat16 b.w3Neg4) + sat16 b.w4iNeg8
  | 0x0414 => put 16 16 (sat16 b.atRsv) + sat16 b.wtRsv
  | 0x0418 => put 16 16 (sat16 b.cbNeg128) + sat16 b.nanScale
  | 0x0500 => b.rwl 0x0500 b.rdoCfg
  | 0x0504 => sat32 b.rdoSatCnt
  | 0x0508 => sat32 b.potOvfCnt
  | 0x050C => sat32 b.promoStall
  | 0x0510 => bitMap 32 busy
  | 0x0514 => bitMap 32 (fun n => busy (32 + n))
  | 0x0518 => bitMap 32 held
  | 0x051C => bitMap 32 (fun n => held (32 + n))
  | 0x0520 => put 16 16 (sat16 b.eccUe) + sat16 b.eccCe
  | 0x0524 => b.potSel.toNat
  | 0x0528 => put 2 30 (potCode pot.st) + put 1 29 (b2n pot.bound.isSome) + put 1 28 (b2n pot.ovf) + put 13 0 pot.depth
  | 0x052C => if pot.st = .free then 0 else put 1 31 1 + put 18 0 pot.owner
  | 0x0600 => s.resWord h
  | 0x0604 => b.rwl 0x0604 b.resCfg
  | 0x0608 => sat32 b.ringStall
  | _ => 0

/-! ## Pan blocks (02, R68) -/

/-- Microseconds since a bank was last written or refreshed; a bank never written shows 0 (02, Table 02-19). -/
def State.bankAge (s : State) (k : Bank) : Nat := if k.desc.isNone && !k.valid then 0 else sat 0xFF ((s.time - k.writtenAt) / 1000)

/-- `PAN_TAP_PWRb` (02, Table 02-25). -/
def Tap.word (t : Tap) : Nat := put 1 31 (b2n t.stale) + unsgn 16 t.level

/-- A Pan block (02, Table 02-15). -/
def State.panWord (s : State) (p r : Nat) : Nat :=
  let v := s.pan p
  match r with
  | 0x000 => put 4 24 v.reason + put 2 22 v.timeouts + put 10 12 v.suspectLeft + put 5 4 (v.slot.getD 0x1F) + panCode v.mode
  | 0x004 => put 1 7 (b2n v.fast) + put 2 5 v.margin + put 2 3 v.group + put 3 0 v.rate
  | 0x010 => put 8 24 (s.bankAge v.b) + put 8 16 (s.bankAge v.a) + put 1 5 (b2n (decide (s.time < v.wrUntil))) + put 1 4 (b2n v.wrB) +
      put 1 3 (b2n v.b.valid) + put 1 2 (b2n v.a.valid) + b2n v.selB
  | 0x014 => sat32 v.refreshCnt
  | 0x020 => v.rowSpare.toNat
  | 0x024 => v.colSpare0.toNat
  | 0x028 => v.colSpare1.toNat
  | 0x030 => (s.bsk (panBsk p)).rwl (chkKey p) v.chkCfg
  | 0x034 => put 16 16 (sat16 v.blkFail) + sat16 v.vecFail
  | 0x040 => (v.tap 0).word
  | 0x044 => (v.tap 1).word
  | 0x048 => (v.tap 2).word
  | 0x04C => (v.tap 3).word
  | 0x050 => v.tapCfg.toNat
  | 0x060 => put 16 16 v.sigma + put 8 0 v.enob
  | _ => 0

/-! ## DZF (11, R373) -/

/-- `DZF_P_NBR_INFO` (11, Table 11-17). -/
def nbrInfo (m : Hello) : Nat := put 16 16 m.node + put 5 6 m.port + put 2 4 m.cls + put 4 0 m.genMap

/-- A port's registers (11, Tables 11-16, 11-17). -/
def Port.word (v : Port) (r : Nat) : Nat :=
  let of (f : Hello → Nat) : Nat := (v.nbr.map f).getD 0
  match r with
  | 0x000 => put 1 1 (b2n v.drainBit) + b2n v.en
  | 0x004 => put 4 28 (portCode v.st) + put 4 24 v.gen + put 8 16 v.lanes + 1
  | 0x008 => v.cfg.toNat
  | 0x010 => of (fun m => uidWord m.uid 0)
  | 0x014 => of (fun m => uidWord m.uid 1)
  | 0x018 => of (fun m => uidWord m.uid 2)
  | 0x01C => of (fun m => uidWord m.uid 3)
  | 0x020 => of nbrInfo
  | 0x024 => of (fun m => m.epoch % 2 ^ 32)
  | 0x028 => of (fun m => half false m.digest)
  | 0x02C => of (fun m => half true m.digest)
  | 0x030 => sat32 v.crc
  | 0x034 => put 16 16 (sat16 v.fecUnc) + sat16 v.fecCor
  | 0x038 => put 16 16 (sat16 v.trainFail) + sat16 v.downs
  | 0x03C => put 16 16 (sat16 v.bad) + sat16 v.stall
  | 0x040 => (tget w32Dflt v.rxPwr 0).toNat
  | 0x044 => (tget w32Dflt v.rxPwr 1).toNat
  | 0x048 => (tget w32Dflt v.rxPwr 2).toNat
  | 0x04C => (tget w32Dflt v.rxPwr 3).toNat
  | _ => 0

/-- A routing table entry's word (11, Table 11-19). -/
def Route.word (e : Route) (k : Nat) : Nat :=
  match k with
  | 0 => put 1 31 (b2n e.valid) + put 4 24 e.prio + put 8 16 e.mask + put 8 0 e.value
  | 1 => put 32 0 e.ports
  | _ => 0

/-- DZF (11, Table 11-15). -/
def State.dzfWord (s : State) (r : Nat) : Nat :=
  let d := s.dzf
  match unitAt 0 0x800 32 r with
  | some (p, o) => (s.port p).word o
  | none =>
  match unitAt 0x11000 16 256 r with
  | some (i, o) => (tget routeDflt d.groupSh i).word (o / 4)
  | none =>
  match unitAt 0x12000 16 256 r with
  | some (i, o) => (tget routeDflt d.memberSh i).word (o / 4)
  | none =>
  match unitAt 0x13000 4 32 r with
  | some (p, _) =>
    let v := s.port p
    put 2 24 v.mode + put 5 16 v.peer + put 2 8 v.stgMode + put 5 0 v.stgPeer
  | none =>
  match r with
  | 0x10000 => put 1 31 (b2n d.idValid) + put 1 30 (b2n d.coord) + put 1 29 (b2n d.sync) + put 1 28 (b2n d.solo) + put 8 16 d.dist +
      put 16 0 d.nodeId
  | 0x10008 => d.cfg.toNat
  | 0x1000C => put 2 30 d.phase + put 8 16 d.result
  | 0x10010 => d.stgEpoch.toNat
  | 0x10014 => d.stgRgen.toNat
  | 0x10018 => half false d.stgFmt.toNat
  | 0x1001C => half true d.stgFmt.toNat
  | 0x10020 => half false d.stgImg.toNat
  | 0x10024 => half true d.stgImg.toNat
  | 0x10028 => d.prevEpoch.toNat
  | 0x10030 => half false d.prevDigest.toNat
  | 0x10034 => half true d.prevDigest.toNat
  | 0x10038 => d.rgen.toNat
  | 0x10040 => uidWord d.coordUid 0
  | 0x10044 => uidWord d.coordUid 1
  | 0x10048 => uidWord d.coordUid 2
  | 0x1004C => uidWord d.coordUid 3
  | 0x10050 => unsgn 32 d.timeOfs
  | 0x10054 => put 16 16 (sat16 d.rcvd) + sat16 d.refused
  | 0x10058 => sat32 d.tie
  | 0x1005C => put 13 0 d.reorder.length
  | 0x10060 => (d.idmapUid.getD 0 0).toNat
  | 0x10064 => (d.idmapUid.getD 1 0).toNat
  | 0x10068 => (d.idmapUid.getD 2 0).toNat
  | 0x1006C => (d.idmapUid.getD 3 0).toNat
  | 0x10070 => put 1 29 (b2n (decide (32768 ≤ d.idmap.length))) + put 16 0 d.idmapId
  | 0x10074 => put 8 0 d.inc
  | 0x13084 => put 1 31 (b2n d.plaitBusy) + put 1 30 (b2n d.plaitRef) + put 5 0 d.plaitPort
  | _ => 0

/-! ## HQ (12, R398) -/

/-- A queue pair's registers (12, Table 12-17). -/
def Queue.word (v : Queue) (r : Nat) : Nat :=
  match r with
  | 0x00 => half false v.sqBase.toNat
  | 0x04 => half true v.sqBase.toNat
  | 0x08 => half false v.cqBase.toNat
  | 0x0C => half true v.cqBase.toNat
  | 0x10 => v.cfg.toNat
  | 0x14 => put 1 31 (b2n v.active) + put 1 30 (b2n v.pendEn) + put 1 29 (b2n v.err) + put 12 12 v.sqHead + put 12 0 v.cqTail
  | 0x20 => v.icfg.toNat
  | _ => 0

/-- A VF's grant (12, Table 12-16). -/
def Grant.word (g : Grant) (r : Nat) : Nat :=
  match r with
  | 0x00 => half false g.hbmb.toNat
  | 0x04 => half true g.hbmb.toNat
  | 0x08 => g.hbml.toNat
  | 0x0C => g.strm.toNat
  | 0x10 => g.bsk.toNat
  | _ => 0

/-- HQ (12, Table 12-14). -/
def State.hqWord (s : State) (r : Nat) : Nat :=
  let q := s.hq
  match unitAt 0x1000 0x40 64 r with
  | some (n, o) => (s.que n).word o
  | none =>
  match unitAt 0x10 8 16 r with
  | some (k, o) => half (decide (4 ≤ o)) (tget w64Dflt q.ap k).toNat
  | none =>
  match unitAt 0x100 4 127 r with
  | some (g, _) => (tget w32Dflt q.tirq g).toNat
  | none =>
  match unitAt 0x420 0x20 31 r with
  | some (v, o) => (tget grantDflt q.vfs (v + 1)).word o
  | none =>
  match r with
  | 0x00 => put 1 31 (b2n q.memReady) + put 1 30 (b2n q.linkUp) + put 5 16 q.width + put 4 8 q.speed + b2n q.flit
  | 0x04 => q.err.toNat
  | 0x08 => put 16 16 (sat16 q.apFail) + sat16 q.reject
  | _ => 0

/-! ## MBX (13, R425 to R427) -/

/-- A word of the mailbox memory; one never written reads free (log entry 5, DESIGN CHOICE). -/
def State.mbxMem (s : State) (m : Tab (Option W32)) (i key : Nat) : Nat :=
  match tget noneDflt m i with
  | some w => w.toNat
  | none => (Config.freeWord (s.freeCtr + key)).toNat

/-- SEQ of the last committed record (13, Table 13-16). -/
def Trivet.lastSeq (t : Trivet) : Nat := ((t.records.getLast?).map (·.seq)).getD 0

/-- MBX (13, Table 13-15). While Trivet restarts every word reads its reset value (15, R455). The spec gives the notices no
layout, so their words are free (log entry 52, DESIGN CHOICE). -/
def State.mbxWord (s : State) (r : Nat) : Nat :=
  let t := s.trv
  if !t.ready && !t.recovery then 0 else
  if 0x1000 ≤ r ∧ r < 0x2000 then s.mbxMem t.req ((r - 0x1000) / 4) r
  else if 0x2000 ≤ r ∧ r < 0x3000 then s.mbxMem t.rsp ((r - 0x2000) / 4) r
  else if 0x3000 ≤ r ∧ r < 0x4000 then (Config.freeWord (s.freeCtr + r)).toNat
  else if 0x100000 ≤ r ∧ r < 0x140000 then ((s.monAt ((r - 0x100000) / 16)).getD (r / 4 % 4) 0).toNat
  else match r with
  | 0x00 => put 1 31 (b2n t.ready) + put 1 30 (b2n t.recovery) + put 2 28 t.bank + put 1 27 (b2n t.drop) + put 8 16 t.nlost +
      put 8 8 t.disc + put 8 0 t.skip
  | 0x08 => put 1 31 (b2n t.rspDone) + put 8 16 t.rspStat + put 16 0 t.rspTag
  | 0x0C => t.fwVer % 2 ^ 32
  | 0x10 => t.noteTail.toNat
  | 0x14 => t.noteHead.toNat
  | 0x18 => put 14 0 t.wptr
  | 0x1C => t.wrap % 2 ^ 32
  | 0x20 => t.lastSeq % 2 ^ 32
  | 0x24 => put 16 16 s.powerLimit + put 16 0 (s.dev.avg / 1000)
  | _ => 0

/-! ## The word at an offset -/

/-- The word at an offset of PF BAR0, as it stands; an offset no table names reads 0 (15, R448). -/
def State.pfWord (s : State) (off : Nat) : Nat :=
  match regBlock off with
  | (.gctl, r) => s.gctlWord r
  | (.clk, r) => s.clkWord r
  | (.feu, r) => s.feuWord r
  | (.ket, r) => s.ketWord r
  | (.cal, r) => s.calWord r
  | (.bsk h, r) => s.bskWord h r
  | (.pan p, r) => s.panWord p r
  | (.dzf, r) => s.dzfWord r
  | (.hq, r) => s.hqWord r
  | (.mbx, r) => s.mbxWord r
  | (.rsv, _) => 0

/-- The queue pair a VF sees at an offset of its BAR0, and the offset within it (12, R387; 15, R457). -/
def State.vfPair (s : State) (v off : Nat) : Option (Nat × Nat) :=
  ((s.queuesOf v)[off / 0x40]?).map (fun q => (q, off % 0x40))

/-- The word at an offset of a VF's BAR0: its queue pairs, with FUNC reading 0 (15, R457). -/
def State.vfWord (s : State) (v off : Nat) : Nat :=
  match s.vfPair v off with
  | some (q, 0x10) => (s.que q).word 0x10 - put 5 24 (s.que q).func
  | some (q, r) => (s.que q).word r
  | none => 0

/-- Blocks served while the clock is lost or the part has tripped (15, R455). -/
def servedDark (off : Nat) : Bool :=
  match (regBlock off).1 with
  | .gctl => true
  | .mbx => true
  | _ => false

/-- The word at an offset of a function's BAR0, in the part's present state (15, R455). -/
def State.word (s : State) (fn off : Nat) : Nat :=
  if s.clocked || (decide (fn = 0) && servedDark off) then (if fn = 0 then s.pfWord off else s.vfWord fn off) else 0

/-- The lower word of a 64-bit register of the PF (15, R450). -/
def lowWord (off : Nat) : Bool :=
  match regBlock off with
  | (.gctl, r) => r = 0x38 || r = 0x200
  | (.feu, r) => r = 0x10
  | (.cal, r) => r = 0x30
  | (.dzf, r) => (decide (r < 0x10000) && r % 0x800 = 0x28) || r = 0x10018 || r = 0x10020 || r = 0x10030
  | (.hq, r) => (decide (0x10 ≤ r) && decide (r < 0x90) && r % 8 = 0) ||
      (decide (0x420 ≤ r) && decide (r < 0x800) && r % 0x20 = 0) ||
      (decide (0x1000 ≤ r) && decide (r < 0x2000) && (r % 0x40 = 0 || r % 0x40 = 8))
  | (.mbx, r) => r = 0x18
  | _ => false

/-- The lower word of a 64-bit register in a function's view; a VF's are its queue bases (15, R450, R457). -/
def isLow (fn off : Nat) : Bool := if fn = 0 then lowWord off else off % 0x40 = 0 || off % 0x40 = 8

/-- What a 32-bit read of a function returns: the latch of an upper word where it holds one, else the word (15, R450). No read
changes a register (15, R451; log entry 108, DESIGN CHOICE). -/
def State.read32 (s : State) (fn off : Nat) : Nat :=
  match tget noneDflt s.dev.latch fn with
  | some (o, w) => if off = o + 4 then w.toNat else s.word fn off
  | none => s.word fn off

/-- What a 64-bit read returns: both words at one instant (15, R449, R450). -/
def State.read64 (s : State) (fn off : Nat) : Nat := s.word fn off + shl (s.word fn (off + 4)) 32

/-- Bytes of a span, as 32-bit reads of the containing words give them (15, R449). -/
def State.readBytes (s : State) (fn off n : Nat) : List Byte :=
  (List.range n).map (fun i => BitVec.ofNat 8 (s.word fn ((off + i) / 4 * 4) / 2 ^ (8 * ((off + i) % 4))))

end Sys2Proof.Machine
end

