-- ==== Sys2Proof/Machine/RegWrite.lean ====
section
/-! DEFINITION. Writes to BAR0: refused accesses, held lower words, and what each register takes (15, R449 to R457). -/

namespace Sys2Proof.Machine

/-! ## Refused accesses (15, R449, R455, R456) -/

/-- Count a refused access, and record the first (15, R449, Table 15-8). -/
def State.accRefuse (s : State) (fn off kind : Nat) : State :=
  let d := s.dev
  let d := if d.accErr then d else { d with accErr := true, accFn := fn, accKind := kind, accAddr := off }
  { s with dev := { d with accCnt := sat16 (d.accCnt + 1) } }

/-- Writing 1 to `GCTL_ACC_ERR.VALID` (15, Table 15-8). -/
def State.accClear (s : State) : State :=
  { s with dev := { s.dev with accErr := false, accFn := 0, accKind := 0, accCnt := 0, accAddr := 0 } }

/-- ACC_ERR_CLEAR. -/
def execAccErrClear (s : State) : Out := .next s.accClear

/-- BAR0 can be reached: VAUX stands and PERST_N is released (12, R393; 15, R455; log entry 55, DEDUCED). -/
def State.reachable (s : State) : Bool := s.dev.vaux && !s.dev.perst

/-- Registers that take writes in RECOVERY (15, R455; log entry 64, DEDUCED). -/
def recoveryOpen (fn off : Nat) : Bool :=
  decide (fn = 0) && ((regBlock off).1 = .mbx || decide (off / 4 * 4 = 0x300) || (decide (0x500 ≤ off) && decide (off < 0x510)))

/-- The state of the part refuses a write there (15, R455). -/
def State.stateRefuses (s : State) (fn off : Nat) : Bool :=
  (s.dev.st = 5 && !recoveryOpen fn off) || (!s.clocked && !(decide (fn = 0) && (regBlock off).1 = .mbx))

/-- KIND of a refused access, none where it is accepted: size first, then alignment, then state (15, Table 15-8). -/
def State.refusal (s : State) (fn off size : Nat) (isWrite : Bool) : Option Nat :=
  if size ≠ 4 ∧ size ≠ 8 then some 1
  else if off % size ≠ 0 then some 2
  else if isWrite && s.stateRefuses fn off then some 3
  else none

/-- An access ends a read latch of its function, and a write a held lower word (15, R450; log entry 65, DEDUCED). -/
def State.unlatch (s : State) (fn : Nat) (isWrite : Bool) : State :=
  { s with dev := { s.dev with
    latch := tset noneDflt s.dev.latch fn none
    heldLow := if isWrite then tset noneDflt s.dev.heldLow fn none else s.dev.heldLow } }

/-- A function of the part, and a span of its BAR0. -/
def barSpan (fn off size : Nat) : Bool := decide (fn < 32) && decide (off + size ≤ 0x2000000)

/-- A read returns bytes to its function. -/
def State.readReturn (s : State) (fn : Nat) (bs : List Byte) : State :=
  { s with dev := { s.dev with readData := s.dev.readData ++ [(fn, bs)] } }

/-- REFUSED_ACCESS: a refused write is discarded; a refused read returns the bytes it covers (15, R449). -/
def execRefusedAccess (fn off size : Nat) (isWrite : Bool) (s : State) : Out :=
  guard (barSpan fn off size) (
    if !s.reachable then s else
    match s.refusal fn off size isWrite with
    | none => s
    | some k =>
      let bs := s.readBytes fn off size
      let s := (s.unlatch fn isWrite).accRefuse fn off k
      if isWrite then s else s.readReturn fn bs)

/-- LATCHED_LOWER_READ: a 32-bit read; of the lower word of a 64-bit register of the PF it latches the upper word, and any
other discards the latch (15, R450, R457). -/
def execLatchedLowerRead (fn off : Nat) (s : State) : Out :=
  guard (barSpan fn off 4 && decide (off % 4 = 0)) (
    if !s.reachable then s else
    let w := s.read32 fn off
    let up := s.word fn (off + 4)
    let s := s.unlatch fn false
    let s := if fn = 0 ∧ lowWord off then
        { s with dev := { s.dev with latch := tset noneDflt s.dev.latch fn (some (off, BitVec.ofNat 32 up)) } } else s
    s.readReturn fn (leBytes 4 w))

/-! ## What each block takes -/

/-- A word cut to the bits a register has. -/
def keep (mask v : Nat) : W32 := BitVec.ofNat 32 (v &&& mask)

/-- GCTL (15, Table 15-4). -/
def State.gctlWrite (s : State) (r v : Nat) : State :=
  let scr (i : Nat) : State := { s with dev := { s.dev with scratch := lset s.dev.scratch i (BitVec.ofNat 32 v) } }
  match r with
  | 0x0010 => if bit v 0 then s.warmReset else s
  | 0x0020 => s.scaleClass (BitVec.ofNat 2 v)
  | 0x0300 => if bit v 31 then s.accClear else s
  | 0x0400 => s.strmReg (bits v 31 28) (bits v 27 24) (bits v 17 0)
  | 0x0404 => if bit v 30 then { s with dev := { s.dev with stDrop := false } } else s
  | 0x0500 => scr 0
  | 0x0504 => scr 1
  | 0x0508 => scr 2
  | 0x050C => scr 3
  | _ => s

/-- Clear the STUCK bits a write names; it does not unmask (14, Table 14-12). -/
def State.stuckClear (s : State) (v : Nat) : State :=
  (List.range 3).foldl (fun s n => if bit v (8 + n) then s.setInp n { s.inp n with stuck := false } else s) s

/-- CLKPWR (14, Table 14-12). -/
def State.clkWrite (s : State) (r v : Nat) : State :=
  match r with
  | 0x004 => { s with dev := { s.dev with pwrCfg := keep 0x8000FFFF v } }
  | 0x010 => s.stuckClear v
  | 0x018 => s.reenable (keep 0x00FFFFFF v)
  | 0x01C => { s with dev := { s.dev with gpio := keep 0xFFFF v } }
  | _ => s

/-- A field of the FEU block. -/
def State.feuSet (s : State) (f : Feu → Feu) : State := { s with feu := f s.feu }

/-- FEU (10, Table 10-14). -/
def State.feuWrite (s : State) (r v : Nat) : State :=
  match r with
  | 0x000 => s.pendClear (BitVec.ofNat 5 v)
  | 0x004 =>
    let s := if bit v 0 then s.feuClear else s
    if bit v 1 then s.ringReset else s
  | 0x008 => s.feuSet (fun f => { f with cfg := keep 0x001F0377 v })
  | 0x01C => s.feuSet (fun f => { f with head := BitVec.ofNat 32 v })
  | 0x044 => s.feuSet (fun f => { f with smpCfg := keep 0xF v })
  | 0x060 => s.feuSet (fun f => { f with testCfg := BitVec.ofNat 32 v })
  | 0x064 => s.testReq (bits v 15 0)
  | 0x06C => s.feuSet (fun f => { f with testSel := keep 0xF v })
  | _ => s

/-- `KET_SLOT_CTL`: CNT_CLR first, then STOP, then COMMIT (08, R280, Table 08-19; log entry 57, DEDUCED). -/
def slotCtl (n v : Nat) (t : Slot) : Slot :=
  let t := if bit v 2 then clrSlot t else t
  let t := if bit v 0 then stopSlot t else t
  if bit v 1 then commitCmd n t else t

/-- An RWL register of a slot: written while it is STOPPED, else IGN sets (08, R280). -/
def State.slotRwl (s : State) (n : Nat) (f : Slot → Slot) : State :=
  let t := s.slot n
  s.setSlot n (if t.st = .stopped then f t else { t with ign := true })

/-- A slot's registers (08, Tables 08-19 to 08-21). -/
def State.slotWrite (s : State) (n r v : Nat) : State :=
  let w := BitVec.ofNat 32 v
  match r with
  | 0x00 => s.setSlot n (slotCtl n v (s.slot n))
  | 0x08 => s.slotRwl n (fun t => { t with cfg := keep 0xFF3FC007 v })
  | 0x0C => s.spWrite n w
  | 0x10 => s.slotRwl n (fun t => { t with slew := w })
  | 0x14 => s.slotRwl n (fun t => { t with omin := w })
  | 0x18 => s.slotRwl n (fun t => { t with omax := w })
  | 0x1C => s.slotRwl n (fun t => { t with ilim := w })
  | _ => s

/-- `KET_TEC_CFGq`, owned by slot 80q + 69 (08, R286). -/
def State.tecCfgWrite (s : State) (q v : Nat) : State :=
  let n := 80 * q + 69
  if (s.slot n).st = .stopped then s.setCoil q { s.coil q with tecCfg := keep 0xFFFF v }
  else s.setSlot n { s.slot n with ign := true }

/-- `KET_TEC_OVRq`: it takes a write only where it has effect (08, R277). -/
def State.tecOvrWrite (s : State) (q v : Nat) : State :=
  if s.ovrLive q then
    let s := s.setCoil q { s.coil q with tecOvr := keep 0x1F v }
    if (s.coil q).xcond then s else
    match s.ovrGates q with
    | some g => if crosses g then s.crossCond q g else s.setCoil q ((s.coil q).gatesTo s.time 0 g s.time)
    | none => s.setCoil q ((s.coil q).gatesTo s.time 0 0 s.time)
  else s

/-- `KET_COIL_WINq`. -/
def State.coilWinWrite (s : State) (q v : Nat) : State := s.setCoil q { s.coil q with win := keep 0xFFFF v }

/-- A field of the selected engine. -/
def State.engSet (s : State) (f : Engine → Engine) : State := s.setEng s.engNo (f (s.eng s.engNo))

/-- KET (08, Table 08-10; log entry 61, DEDUCED). -/
def State.ketWrite (s : State) (r v : Nat) : State :=
  let w := BitVec.ofNat 32 v
  match unitAt 0x1000 0x40 320 r with
  | some (n, o) => s.slotWrite n o v
  | none =>
  match unitAt 0x8000 0x80 320 r with
  | some (n, o) => s.slotRwl n (fun t => { t with coef := tset w32Dflt t.coef (o / 4) w })
  | none =>
  match unitAt 0x20 4 4 r with
  | some (q, _) => s.tecCfgWrite q v
  | none =>
  match unitAt 0x30 4 4 r with
  | some (q, _) => s.tecOvrWrite q v
  | none =>
  match unitAt 0x40 4 4 r with
  | some (q, _) => s.coilWinWrite q v
  | none =>
  match r with
  | 0x00 => (List.range 4).foldl (fun s q => if bit v (8 + q) then s.xcondClear q else s) s
  | 0x04 => if bit v 0 then s.ketClear else s
  | 0x50 => { s with ket := { s.ket with engSel := keep 3 v } }
  | 0x54 => if bit v 31 then s.injStart w else s.injStop w
  | 0x58 => s.engSet (fun k => { k with injF0 := w })
  | 0x5C => s.engSet (fun k => { k with injF1 := w })
  | 0x60 => s.engSet (fun k => { k with injAmp := w })
  | 0x64 => if bit v 31 then s.capArm w else s.engSet (fun k => { k with capCfg := keep 0x7FFFFF80 v, armed := false, triggered := false })
  | _ => s

/-- A field of the CAL block. -/
def State.calSet (s : State) (f : Cal → Cal) : State := { s with cal := f s.cal }

/-- `CAL_CFG`: in force at the next sweep, or at once where none runs (09, Table 09-3). -/
def State.calCfgWrite (s : State) (v : Nat) : State :=
  let s := s.calSet (fun c => { c with cfg := keep 0xFFFF0311 v })
  if s.cal.sweep.isSome then s else s.calCfgTake

/-- CAL (09, Table 09-7). -/
def State.calWrite (s : State) (r v : Nat) : State :=
  match r with
  | 0x000 =>
    let s := if bit v 0 then s.calClear else s
    if bit v 1 then s.abandonSweep else s
  | 0x004 => s.calCfgWrite v
  | 0x00C => s.calSet (fun c => { c with bskEn := BitVec.ofNat 32 v })
  | 0x010 => s.calSet (fun c => { c with blind := keep 0x00FF00FF v })
  | 0x014 => s.calReq (bits v 9 0)
  | 0x020 => s.calSet (fun c => { c with panSel := keep 0x3FF v })
  | _ => s

/-- An RWL register of a Basket or of its Pans: the value is held for COMMIT while the Basket is STOPPED, else the write is
ignored and IGN sets (14, R439; 15, Table 15-2; log entry 56, DEDUCED). -/
def State.bskRwl (s : State) (h key : Nat) (v : W32) : State :=
  let b := s.bsk h
  s.setBsk h (if b.st = .stopped then { b with staged := tins key v b.staged } else { b with ign := true })

/-- A field of a Basket. -/
def State.bskSet (s : State) (h : Nat) (f : Basket → Basket) : State := s.setBsk h (f (s.bsk h))

/-- A Basket block (15, Table 15-15). -/
def State.bskWrite (s : State) (h r v : Nat) : State :=
  match r with
  | 0x0000 => s.bskCtl h v
  | 0x0008 => s.bskRwl h 0x0008 (keep 0xFFFF v)
  | 0x0300 => s.bskRwl h 0x0300 (keep 0x1FFFF v)
  | 0x0308 => s.bskSet h (fun b => { b with tokSel := keep 0xFF v })
  | 0x0310 => s.sig h (bits v 7 0)
  | 0x0338 => if bit v 0 then s.seqClear h else s
  | 0x0400 => s.bskRwl h 0x0400 (BitVec.ofNat 32 v)
  | 0x0404 => s.bskRwl h 0x0404 (keep 3 v)
  | 0x041C => if bit v 0 then s.wskClear h else s
  | 0x0500 => s.bskRwl h 0x0500 (keep 0x3FF v)
  | 0x0524 => s.bskSet h (fun b => { b with potSel := keep 0x3F v })
  | 0x0530 => if bit v 0 then s.rdoClear h else s
  | 0x0604 => s.bskRwl h 0x0604 (keep 0x7F v)
  | _ => s

/-- A sparing register of a Pan: written while its Basket is STOPPED, else IGN sets (02, R68; log entry 56, DEDUCED). -/
def State.panRwl (s : State) (p : Nat) (f : Pan → Pan) : State :=
  let h := panBsk p
  if (s.bsk h).st = .stopped then s.setPan p (f (s.pan p)) else s.setBsk h { s.bsk h with ign := true }

/-- A Pan block (02, Table 02-15). -/
def State.panWrite (s : State) (p r v : Nat) : State :=
  match r with
  | 0x008 => if bit v 0 then s.panClear p else s
  | 0x020 => s.panRwl p (fun x => { x with rowSpare := BitVec.ofNat 32 v })
  | 0x024 => s.panRwl p (fun x => { x with colSpare0 := keep colMask v })
  | 0x028 => s.panRwl p (fun x => { x with colSpare1 := keep colMask v })
  | 0x030 => s.bskRwl (panBsk p) (chkKey p) (keep 0x3FFFF v)
  | 0x050 => s.setPan p { s.pan p with tapCfg := keep 0xFF v }
  | _ => s

/-- `DZF_P_CTL`: EN, DRAIN, UNRETIRE, RETRAIN (11, Table 11-16). -/
def State.portCtl (s : State) (n v : Nat) : State :=
  let s := if bit v 0 = (s.port n).en then s else if bit v 0 then s.portOn n else s.portOff n
  let s := if bit v 1 = (s.port n).drainBit then s else s.portDrain n (bit v 1)
  let s := if bit v 8 then s.portBack n else s
  if bit v 9 then s.portRetrain n else s

/-- A port's registers. -/
def State.portWrite (s : State) (n r v : Nat) : State :=
  match r with
  | 0x000 => s.portCtl n v
  | 0x008 => s.setPort n { s.port n with cfg := keep 0xFFFF v }
  | _ => s

/-- A word of a routing table entry; in the member table bits 23 and 7 are reserved (11, Table 11-19). -/
def routeWrite (member : Bool) (e : Route) (k v : Nat) : Route :=
  match k with
  | 0 => { e with
    valid := bit v 31, prio := bits v 27 24
    mask := if member then bits v 22 16 else bits v 23 16, value := if member then bits v 6 0 else bits v 7 0 }
  | 1 => { e with ports := v % 2 ^ 32 }
  | _ => e

/-- `DZF_CTL`: CNT_CLR first, then COMMIT, ADVANCE, CLOSE (11, Table 11-18; log entry 57, DEDUCED). -/
def State.dzfCtl (s : State) (v : Nat) : State :=
  let s := if bit v 0 then s.dzfClear else s
  let s := if bit v 1 then s.cfgCommit else s
  let s := if bit v 2 then s.cfgAdvance else s
  if bit v 3 then s.cfgClose else s

/-- `DZF_IDMAP_CTL`: WR, then DEL (11, Table 11-19; log entry 57, DEDUCED). -/
def State.idmapCtl (s : State) (v : Nat) : State :=
  let s := { s with dzf := { s.dzf with idmapId := bits v 15 0 } }
  let s := if bit v 31 then s.idmapWr (bits v 15 0) else s
  if bit v 30 then s.idmapDel else s

/-- A field of the DZF block. -/
def State.dzfSet (s : State) (f : Dzf → Dzf) : State := { s with dzf := f s.dzf }

/-- DZF (11, Table 11-15). -/
def State.dzfWrite (s : State) (r v : Nat) : State :=
  let w := BitVec.ofNat 32 v
  match unitAt 0 0x800 32 r with
  | some (p, o) => s.portWrite p o v
  | none =>
  match unitAt 0x11000 16 256 r with
  | some (i, o) => s.dzfSet (fun d => { d with groupSh := tmod routeDflt d.groupSh i (fun e => routeWrite false e (o / 4) v) })
  | none =>
  match unitAt 0x12000 16 256 r with
  | some (i, o) => s.dzfSet (fun d => { d with memberSh := tmod routeDflt d.memberSh i (fun e => routeWrite true e (o / 4) v) })
  | none =>
  match unitAt 0x13000 4 32 r with
  | some (p, _) => s.setPort p { s.port p with stgMode := bits v 9 8, stgPeer := bits v 4 0 }
  | none =>
  match unitAt 0x10060 4 4 r with
  | some (k, _) => s.dzfSet (fun d => { d with idmapUid := lset d.idmapUid k w })
  | none =>
  match r with
  | 0x10004 => s.dzfCtl v
  | 0x10008 => s.dzfSet (fun d => { d with cfg := w })
  | 0x10010 => s.dzfSet (fun d => { d with stgEpoch := w })
  | 0x10014 => s.dzfSet (fun d => { d with stgRgen := w })
  | 0x10070 => s.idmapCtl v
  | 0x13080 => if bit v 0 then s.plaitApply else s
  | _ => s

/-- `HQ_Q_CFG`: base, size and FUNC fields stand while the queue is ACTIVE or pending; a VF cannot write FUNC (12, R387). -/
def State.qCfgWrite (s : State) (vf : Bool) (q v : Nat) : State :=
  let x := s.que q
  let old := x.cfg.toNat
  let busy := x.active || x.pendEn
  let size := (if busy then old else v) &&& 0x00FF0000
  let func := (if busy || vf then old else v) &&& 0x1F000000
  let s := s.setQue q { x with cfg := BitVec.ofNat 32 (size + func + (old &&& 0x80000000) + (v &&& 0x400007FF)) }
  if bit v 31 then s.queOn q else s.queOff q

/-- A queue pair's 32-bit registers (12, Table 12-17). -/
def State.queWrite (s : State) (vf : Bool) (q r v : Nat) : State :=
  match r with
  | 0x10 => s.qCfgWrite vf q v
  | 0x18 => s.sqBell q (bits v 11 0)
  | 0x1C => s.cqBell q (bits v 11 0)
  | 0x20 => s.setQue q { s.que q with icfg := keep 0xFFFF v }
  | _ => s

/-- A queue pair's bases (12, Table 12-17, R387). -/
def State.queBase (s : State) (q r v : Nat) : State :=
  let x := s.que q
  let a := BitVec.ofNat 64 (v / 4096 * 4096)
  if x.active || x.pendEn then s
  else if r = 0x00 then s.setQue q { x with sqBase := a } else if r = 0x08 then s.setQue q { x with cqBase := a } else s

/-- A field of the HQ block. -/
def State.hqSet (s : State) (f : Hq → Hq) : State := { s with hq := f s.hq }

/-- A VF's grant. -/
def State.grantSet (s : State) (v : Nat) (f : Grant → Grant) : State :=
  s.hqSet (fun q => { q with vfs := tmod grantDflt q.vfs v f })

/-- HQ (12, Table 12-14). -/
def State.hqWrite (s : State) (r v : Nat) : State :=
  match unitAt 0x1000 0x40 64 r with
  | some (n, o) => s.queWrite false n o v
  | none =>
  match unitAt 0x100 4 127 r with
  | some (g, _) => s.hqSet (fun q => { q with tirq := tset w32Dflt q.tirq g (keep 0x800007FF v) })
  | none =>
  match unitAt 0x420 0x20 31 r with
  | some (i, 0x08) => s.grantSet (i + 1) (fun g => { g with hbml := keep 0x1FF v })
  | some (i, 0x0C) => s.grantSet (i + 1) (fun g => { g with strm := keep 0xF803FFFF v })
  | some (i, 0x10) => s.grantSet (i + 1) (fun g => { g with bsk := keep 0xFFFF v })
  | some _ => s
  | none => if r = 0x04 then s.hqSet (fun q => { q with err := q.err &&& ~~~(BitVec.ofNat 7 v) }) else s

/-- `MBX_CTL.GO`: ignored while a command is in progress, which sets DROP; else DONE clears (13, R426). A command of `MBX_REQ`
whose code Table 13-3 gives has a row of its own, with its operands; any other is answered BAD_REQ. -/
def State.mbxGo (s : State) : State :=
  let t := s.trv
  if t.goBusy then { s with trv := { t with drop := true } } else
  let s := { s with trv := { t with goBusy := true, rspDone := false } }
  match tget noneDflt t.req 0 with
  | some w =>
    let code := bits w.toNat 15 0
    if t.ready ∧ (code = 0 ∨ 0x0E ≤ code) then s.status .mailbox code (bits w.toNat 31 16) 1 else s
  | none => s

/-- MBX (13, Table 13-15); ignored while Trivet restarts (15, R455). -/
def State.mbxWrite (s : State) (r v : Nat) : State :=
  let t := s.trv
  let w := BitVec.ofNat 32 v
  if !t.ready && !t.recovery then s
  else if 0x1000 ≤ r ∧ r < 0x2000 then { s with trv := { t with req := tset noneDflt t.req ((r - 0x1000) / 4) (some w) } }
  else if r = 0x00 then (if bit v 27 then { s with trv := { t with drop := false } } else s)
  else if r = 0x04 then (if bit v 0 then s.mbxGo else s)
  else if r = 0x14 then { s with trv := { t with noteHead := w } }
  else s

/-! ## Writes (15, R449 to R452) -/

/-- A 32-bit write to an offset of PF BAR0 that is no half of a 64-bit register. -/
def State.pfWrite (s : State) (off v : Nat) : State :=
  match regBlock off with
  | (.gctl, r) => s.gctlWrite r v
  | (.clk, r) => s.clkWrite r v
  | (.feu, r) => s.feuWrite r v
  | (.ket, r) => s.ketWrite r v
  | (.cal, r) => s.calWrite r v
  | (.bsk h, r) => s.bskWrite h r v
  | (.pan p, r) => s.panWrite p r v
  | (.dzf, r) => s.dzfWrite r v
  | (.hq, r) => s.hqWrite r v
  | (.mbx, r) => s.mbxWrite r v
  | (.rsv, _) => s

/-- A write to a 64-bit register of PF BAR0, at its lower word's offset, in one instant (15, R450). -/
def State.pfWrite64 (s : State) (off v : Nat) : State :=
  let w := BitVec.ofNat 64 v
  match regBlock off with
  | (.feu, 0x10) => s.feuSet (fun f => { f with ringBase := w })
  | (.dzf, 0x10018) => s.dzfSet (fun d => { d with stgFmt := w })
  | (.dzf, 0x10020) => s.dzfSet (fun d => { d with stgImg := w &&& 0x80000FFFFFFFFFFF#64 })
  | (.hq, r) =>
    match unitAt 0x1000 0x40 64 r with
    | some (n, o) => s.queBase n o v
    | none =>
    match unitAt 0x10 8 16 r with
    | some (k, _) => s.hqSet (fun q => { q with ap := tset w64Dflt q.ap k (w &&& 0x8FFFFFFF00000000#64) })
    | none =>
    match unitAt 0x420 0x20 31 r with
    | some (i, 0) => s.grantSet (i + 1) (fun g => { g with hbmb := w &&& 0x00000FFFFFFFFFFF#64 })
    | _ => s
  | _ => s

/-- A 32-bit write in a function's view. -/
def State.fnWrite (s : State) (fn off v : Nat) : State :=
  if fn = 0 then s.pfWrite off v else
  match s.vfPair fn off with
  | some (q, r) => s.queWrite true q r v
  | none => s

/-- A write to a 64-bit register in a function's view. -/
def State.fnWrite64 (s : State) (fn off v : Nat) : State :=
  if fn = 0 then s.pfWrite64 off v else
  match s.vfPair fn off with
  | some (q, r) => s.queBase q r v
  | none => s

/-- A 32-bit write: a lower word is held, and takes effect with the next write of its upper word by the same function (15,
R450). -/
def State.write32 (s : State) (fn off v : Nat) : State :=
  let held := tget noneDflt s.dev.heldLow fn
  let s := s.unlatch fn true
  if isLow fn off then
    { s with dev := { s.dev with heldLow := tset noneDflt s.dev.heldLow fn (some (off, BitVec.ofNat 32 v)) } }
  else if 4 ≤ off ∧ isLow fn (off - 4) then
    let low := match held with
      | some (o, w) => if o + 4 = off then w.toNat else s.word fn (off - 4)
      | none => s.word fn (off - 4)
    s.fnWrite64 fn (off - 4) (low + shl v 32)
  else s.fnWrite fn off v

/-- A 64-bit write: to a 64-bit register in one instant, else as two 32-bit writes, the lower address first (15, R449, R450). -/
def State.write64 (s : State) (fn off v : Nat) : State :=
  if isLow fn off then (s.unlatch fn true).fnWrite64 fn off v
  else (s.write32 fn off (v % 2 ^ 32)).write32 fn (off + 4) (v / 2 ^ 32 % 2 ^ 32)

/-- REGISTER_WRITE: an access that R449 and R455 accept takes effect; any other is discarded and recorded. -/
def execRegisterWrite (fn off : Nat) (wide : Bool) (v : W64) (s : State) : Out :=
  let size := if wide then 8 else 4
  guard (barSpan fn off size) (
    if !s.reachable then s else
    match s.refusal fn off size true with
    | some k => (s.unlatch fn true).accRefuse fn off k
    | none => if wide then s.write64 fn off v.toNat else s.write32 fn off (v.toNat % 2 ^ 32))

end Sys2Proof.Machine
end

