-- ==== Sys2Proof/Machine/Dispatch.lean ====
section
/-! DEFINITION. One arm per command, each one direct call of its meaning. -/

namespace Sys2Proof.Machine

/-- The effect of a command on everything but the queue. -/
def exec (i : Instr) (s : State) : Host.Outcome State Fault Refusal :=
  match i with
  | .nop sid => Sys2Proof.Machine.execNop sid s
  | .loop sid => Sys2Proof.Machine.execLoop sid s
  | .endl sid => Sys2Proof.Machine.execEndl sid s
  | .br sid => Sys2Proof.Machine.execBr sid s
  | .call sid => Sys2Proof.Machine.execCall sid s
  | .ret sid => Sys2Proof.Machine.execRet sid s
  | .wait sid => Sys2Proof.Machine.execWait sid s
  | .sig sid => Sys2Proof.Machine.execSig sid s
  | .fence sid => Sys2Proof.Machine.execFence sid s
  | .yield sid => Sys2Proof.Machine.execYield sid s
  | .yieldSuspend sid => Sys2Proof.Machine.execYieldSuspend sid s
  | .halt sid => Sys2Proof.Machine.execHalt sid s
  | .mark sid => Sys2Proof.Machine.execMark sid s
  | .dbrk sid => Sys2Proof.Machine.execDbrk sid s
  | .dsnap sid => Sys2Proof.Machine.execDsnap sid s
  | .wld sid => Sys2Proof.Machine.execWld sid s
  | .wsw sid => Sys2Proof.Machine.execWsw sid s
  | .wref sid => Sys2Proof.Machine.execWref sid s
  | .mvm sid => Sys2Proof.Machine.execMvm sid s
  | .mvmw sid => Sys2Proof.Machine.execMvmw sid s
  | .popen sid => Sys2Proof.Machine.execPopen sid s
  | .pclose sid => Sys2Proof.Machine.execPclose sid s
  | .spill sid => Sys2Proof.Machine.execSpill sid s
  | .resume sid => Sys2Proof.Machine.execResume sid s
  | .rot sid => Sys2Proof.Machine.execRot sid s
  | .qnt sid => Sys2Proof.Machine.execQnt sid s
  | .scup sid => Sys2Proof.Machine.execScup sid s
  | .stat sid => Sys2Proof.Machine.execStat sid s
  | .vop sid => Sys2Proof.Machine.execVop sid s
  | .att sid => Sys2Proof.Machine.execAtt sid s
  | .dma sid => Sys2Proof.Machine.execDma sid s
  | .get sid => Sys2Proof.Machine.execGet sid s
  | .put sid => Sys2Proof.Machine.execPut sid s
  | .aadd sid => Sys2Proof.Machine.execAadd sid s
  | .gath sid => Sys2Proof.Machine.execGath sid s
  | .stepCompletion sid uid => Sys2Proof.Machine.execStepCompletion sid uid s
  | .ringHeadPoll sid => Sys2Proof.Machine.execRingHeadPoll sid s
  | .tokenTimeout sid => Sys2Proof.Machine.execTokenTimeout sid s
  | .tokenSignalWrite h tok => Sys2Proof.Machine.execTokenSignalWrite h tok s
  | .tokenIrqDeferred g => Sys2Proof.Machine.execTokenIrqDeferred g s
  | .start sid bsk => Sys2Proof.Machine.execStart sid bsk s
  | .streamResume sid bsk => Sys2Proof.Machine.execStreamResume sid bsk s
  | .abort sid bsk => Sys2Proof.Machine.execAbort sid bsk s
  | .migrate sid bsk => Sys2Proof.Machine.execMigrate sid bsk s
  | .streamReset sid bsk => Sys2Proof.Machine.execStreamReset sid bsk s
  | .migrationMove sid => Sys2Proof.Machine.execMigrationMove sid s
  | .streamPlacement => Sys2Proof.Machine.execStreamPlacement s
  | .tileLoad p => Sys2Proof.Machine.execTileLoad p s
  | .bankSwap p => Sys2Proof.Machine.execBankSwap p s
  | .bankRefresh p bankB copy => Sys2Proof.Machine.execBankRefresh p bankB copy s
  | .groupBlockEnd p parity => Sys2Proof.Machine.execGroupBlockEnd p parity s
  | .promotion p slot col parity => Sys2Proof.Machine.execPromotion p slot col parity s
  | .potWaitEnd h pot => Sys2Proof.Machine.execPotWaitEnd h pot s
  | .replaySamePan p parity => Sys2Proof.Machine.execReplaySamePan p parity s
  | .replaySpare p parity => Sys2Proof.Machine.execReplaySpare p parity s
  | .noSpareReplay p parity => Sys2Proof.Machine.execNoSpareReplay p parity s
  | .sampledReplayCompare r => Sys2Proof.Machine.execSampledReplayCompare r s
  | .sampledReplayResolve r => Sys2Proof.Machine.execSampledReplayResolve r s
  | .tapRead readings => Sys2Proof.Machine.execTapRead readings s
  | .rampInterval held filler => Sys2Proof.Machine.execRampInterval held filler s
  | .governorEval => Sys2Proof.Machine.execGovernorEval s
  | .rateChange h => Sys2Proof.Machine.execRateChange h s
  | .basketStop h => Sys2Proof.Machine.execBasketStop h s
  | .basketCommit h => Sys2Proof.Machine.execBasketCommit h s
  | .basketOff h => Sys2Proof.Machine.execBasketOff h s
  | .basketOn h => Sys2Proof.Machine.execBasketOn h s
  | .basketReset h => Sys2Proof.Machine.execBasketReset h s
  | .basketDrained h => Sys2Proof.Machine.execBasketDrained h s
  | .scaleClassWrite cls => Sys2Proof.Machine.execScaleClassWrite cls s
  | .seqCntClr h => Sys2Proof.Machine.execSeqCntClr h s
  | .wskCntClr h => Sys2Proof.Machine.execWskCntClr h s
  | .rdoCntClr h => Sys2Proof.Machine.execRdoCntClr h s
  | .panCntClr p => Sys2Proof.Machine.execPanCntClr p s
  | .kettleFrame inp => Sys2Proof.Machine.execKettleFrame inp s
  | .pwmPeriod glitch => Sys2Proof.Machine.execPwmPeriod glitch s
  | .xcondClear q => Sys2Proof.Machine.execXcondClear q s
  | .slotStop n => Sys2Proof.Machine.execSlotStop n s
  | .slotCommit n => Sys2Proof.Machine.execSlotCommit n s
  | .slotCntClr n => Sys2Proof.Machine.execSlotCntClr n s
  | .ketCntClr => Sys2Proof.Machine.execKetCntClr s
  | .spWrite n v => Sys2Proof.Machine.execSpWrite n v s
  | .injStart cfg => Sys2Proof.Machine.execInjStart cfg s
  | .injStop cfg => Sys2Proof.Machine.execInjStop cfg s
  | .capArm cfg => Sys2Proof.Machine.execCapArm cfg s
  | .thermalRetest p => Sys2Proof.Machine.execThermalRetest p s
  | .calTurn => Sys2Proof.Machine.execCalTurn s
  | .handover => Sys2Proof.Machine.execHandover s
  | .sweepCommit res => Sys2Proof.Machine.execSweepCommit res s
  | .calTimeout e => Sys2Proof.Machine.execCalTimeout e s
  | .calAbandon => Sys2Proof.Machine.execCalAbandon s
  | .calReq pan => Sys2Proof.Machine.execCalReq pan s
  | .calCntClr => Sys2Proof.Machine.execCalCntClr s
  | .blindWindow h n => Sys2Proof.Machine.execBlindWindow h n s
  | .calStale source idx => Sys2Proof.Machine.execCalStale source idx s
  | .startupSweep h attempts => Sys2Proof.Machine.execStartupSweep h attempts s
  | .testDue h => Sys2Proof.Machine.execTestDue h s
  | .testReq mask => Sys2Proof.Machine.execTestReq mask s
  | .testDeferEnd h => Sys2Proof.Machine.execTestDeferEnd h s
  | .testEntry h => Sys2Proof.Machine.execTestEntry h s
  | .testResult h res => Sys2Proof.Machine.execTestResult h res s
  | .eventRecord => Sys2Proof.Machine.execEventRecord s
  | .feuPendClear mask => Sys2Proof.Machine.execFeuPendClear mask s
  | .ringRst => Sys2Proof.Machine.execRingRst s
  | .feuCntClr => Sys2Proof.Machine.execFeuCntClr s
  | .helloSend port => Sys2Proof.Machine.execHelloSend port s
  | .hello port m => Sys2Proof.Machine.execHello port m s
  | .coordTimeout => Sys2Proof.Machine.execCoordTimeout s
  | .heartbeat => Sys2Proof.Machine.execHeartbeat s
  | .soloStart => Sys2Proof.Machine.execSoloStart s
  | .join port uid => Sys2Proof.Machine.execJoin port uid s
  | .joinResend => Sys2Proof.Machine.execJoinResend s
  | .assign port uid node => Sys2Proof.Machine.execAssign port uid node s
  | .claim port uid node => Sys2Proof.Machine.execClaim port uid node s
  | .deny port uid node => Sys2Proof.Machine.execDeny port uid node s
  | .mgt port m => Sys2Proof.Machine.execMgt port m s
  | .write port m => Sys2Proof.Machine.execWrite port m s
  | .read port m => Sys2Proof.Machine.execRead port m s
  | .atomic port m => Sys2Proof.Machine.execAtomic port m s
  | .skip port m => Sys2Proof.Machine.execSkip port m s
  | .compl port m => Sys2Proof.Machine.execCompl port m s
  | .rdrsp port m => Sys2Proof.Machine.execRdrsp port m s
  | .forward port m => Sys2Proof.Machine.execForward port m s
  | .resendTimer tag => Sys2Proof.Machine.execResendTimer tag s
  | .unitGiveUp tag => Sys2Proof.Machine.execUnitGiveUp tag s
  | .tagRelease tag => Sys2Proof.Machine.execTagRelease tag s
  | .dedupExpire src tag e => Sys2Proof.Machine.execDedupExpire src tag e s
  | .creditStallDiscard port m => Sys2Proof.Machine.execCreditStallDiscard port m s
  | .flitReplay port => Sys2Proof.Machine.execFlitReplay port s
  | .replayWindow port => Sys2Proof.Machine.execReplayWindow port s
  | .lightDetect port => Sys2Proof.Machine.execLightDetect port s
  | .linkUp port => Sys2Proof.Machine.execLinkUp port s
  | .trainingTimeout port => Sys2Proof.Machine.execTrainingTimeout port s
  | .lossOfSignal port => Sys2Proof.Machine.execLossOfSignal port s
  | .portEnable port => Sys2Proof.Machine.execPortEnable port s
  | .portDisable port => Sys2Proof.Machine.execPortDisable port s
  | .portDrain port on => Sys2Proof.Machine.execPortDrain port on s
  | .retrain port => Sys2Proof.Machine.execRetrain port s
  | .unretire port => Sys2Proof.Machine.execUnretire port s
  | .plaitApply => Sys2Proof.Machine.execPlaitApply s
  | .plaitSettled => Sys2Proof.Machine.execPlaitSettled s
  | .cfgCommit => Sys2Proof.Machine.execCfgCommit s
  | .cfgAdvance => Sys2Proof.Machine.execCfgAdvance s
  | .cfgClose => Sys2Proof.Machine.execCfgClose s
  | .cfgCloseEffect => Sys2Proof.Machine.execCfgCloseEffect s
  | .dzfCntClr => Sys2Proof.Machine.execDzfCntClr s
  | .idmapWr node => Sys2Proof.Machine.execIdmapWr node s
  | .idmapDel => Sys2Proof.Machine.execIdmapDel s
  | .sqDoorbell q idx => Sys2Proof.Machine.execSqDoorbell q idx s
  | .cqDoorbell q idx => Sys2Proof.Machine.execCqDoorbell q idx s
  | .commandFetch q => Sys2Proof.Machine.execCommandFetch q s
  | .queueNop q cid => Sys2Proof.Machine.execQueueNop q cid s
  | .strm q cid => Sys2Proof.Machine.execStrm q cid s
  | .xfer q cid => Sys2Proof.Machine.execXfer q cid s
  | .queueCommandComplete q cid => Sys2Proof.Machine.execQueueCommandComplete q cid s
  | .irqCoalesceTimer q => Sys2Proof.Machine.execIrqCoalesceTimer q s
  | .queueEnable q => Sys2Proof.Machine.execQueueEnable q s
  | .queueDisable q => Sys2Proof.Machine.execQueueDisable q s
  | .queuePendingStart q => Sys2Proof.Machine.execQueuePendingStart q s
  | .bar2Write addr bytes poisoned => Sys2Proof.Machine.execBar2Write addr bytes poisoned s
  | .bar2Read addr len => Sys2Proof.Machine.execBar2Read addr len s
  | .vfFlr v => Sys2Proof.Machine.execVfFlr v s
  | .pfFlr => Sys2Proof.Machine.execPfFlr s
  | .hostLinkLost => Sys2Proof.Machine.execHostLinkLost s
  | .registerWrite fn off wide v => Sys2Proof.Machine.execRegisterWrite fn off wide v s
  | .refusedAccess fn off size isWrite => Sys2Proof.Machine.execRefusedAccess fn off size isWrite s
  | .latchedLowerRead fn off => Sys2Proof.Machine.execLatchedLowerRead fn off s
  | .accErrClear => Sys2Proof.Machine.execAccErrClear s
  | .warmReset => Sys2Proof.Machine.execWarmReset s
  | .perstAssert => Sys2Proof.Machine.execPerstAssert s
  | .perstRelease => Sys2Proof.Machine.execPerstRelease s
  | .coldReset cause railOrderOk => Sys2Proof.Machine.execColdReset cause railOrderOk s
  | .vauxApply badFuses => Sys2Proof.Machine.execVauxApply badFuses s
  | .vauxPowerFail => Sys2Proof.Machine.execVauxPowerFail s
  | .clockLoss pll => Sys2Proof.Machine.execClockLoss pll s
  | .thermtrip channel => Sys2Proof.Machine.execThermtrip channel s
  | .syncIn level => Sys2Proof.Machine.execSyncIn level s
  | .boardAlert level => Sys2Proof.Machine.execBoardAlert level s
  | .hotIn level => Sys2Proof.Machine.execHotIn level s
  | .inputStuck input => Sys2Proof.Machine.execInputStuck input s
  | .inputRearm input => Sys2Proof.Machine.execInputRearm input s
  | .outContention signal level => Sys2Proof.Machine.execOutContention signal level s
  | .outputReenable mask => Sys2Proof.Machine.execOutputReenable mask s
  | .pmbusPoll reads => Sys2Proof.Machine.execPmbusPoll reads s
  | .trivetBoot => Sys2Proof.Machine.execTrivetBoot s
  | .getInfo via tag => Sys2Proof.Machine.execGetInfo via tag s
  | .subscribe via tag cls mask => Sys2Proof.Machine.execSubscribe via tag cls mask s
  | .readMon via tag idx cnt => Sys2Proof.Machine.execReadMon via tag idx cnt s
  | .scanWrite via tag table => Sys2Proof.Machine.execScanWrite via tag table s
  | .compWrite via tag sets => Sys2Proof.Machine.execCompWrite via tag sets s
  | .trigArm via tag convs kind => Sys2Proof.Machine.execTrigArm via tag convs kind s
  | .trig via tag => Sys2Proof.Machine.execTrig via tag s
  | .ilvSet via tag pair chan frames => Sys2Proof.Machine.execIlvSet via tag pair chan frames s
  | .readBbr via tag seq cnt => Sys2Proof.Machine.execReadBbr via tag seq cnt s
  | .flashRead via tag addr len => Sys2Proof.Machine.execFlashRead via tag addr len s
  | .flashProgram via tag addr bytes => Sys2Proof.Machine.execFlashProgram via tag addr bytes s
  | .flashErase via tag addr len => Sys2Proof.Machine.execFlashErase via tag addr len s
  | .flashOpComplete => Sys2Proof.Machine.execFlashOpComplete s
  | .fuseAdvance via tag req nonce sigOk => Sys2Proof.Machine.execFuseAdvance via tag req nonce sigOk s
  | .bbrErase via tag nonce sigOk => Sys2Proof.Machine.execBbrErase via tag nonce sigOk s
  | .trivetRestart via tag => Sys2Proof.Machine.execTrivetRestart via tag s
  | .mctpControl req => Sys2Proof.Machine.execMctpControl req s
  | .pldmMonitoring sensor => Sys2Proof.Machine.execPldmMonitoring sensor s
  | .pldmFirmwareUpdate op => Sys2Proof.Machine.execPldmFirmwareUpdate op s
  | .spdm req => Sys2Proof.Machine.execSpdm req s
  | .report sub => Sys2Proof.Machine.execReport sub s
  | .monitorDispatch => Sys2Proof.Machine.execMonitorDispatch s
  | .conversionComplete conv value offScale => Sys2Proof.Machine.execConversionComplete conv value offScale s
  | .monWindow comp value => Sys2Proof.Machine.execMonWindow comp value s
  | .holdoffEnd comp value => Sys2Proof.Machine.execHoldoffEnd comp value s
  | .commonTriggerStart => Sys2Proof.Machine.execCommonTriggerStart s
  | .monitorPathCal channel start => Sys2Proof.Machine.execMonitorPathCal channel start s
  | .bbrCommit => Sys2Proof.Machine.execBbrCommit s
  | .bbrSecondEnd => Sys2Proof.Machine.execBbrSecondEnd s
  | .memReady => Sys2Proof.Machine.execMemReady s
  | .hostLinkUp width speed flit => Sys2Proof.Machine.execHostLinkUp width speed flit s
  | .warmingEnd h => Sys2Proof.Machine.execWarmingEnd h s
  | .contentionCleared signal => Sys2Proof.Machine.execContentionCleared signal s
  | .heaterHoldEnd => Sys2Proof.Machine.execHeaterHoldEnd s

end Sys2Proof.Machine
end

