-- ==== Sys2Proof/WellFormed.lean ====
section
/-! DEFINITION. Well-formed commands: every unit they name is one the part has (00, R4; 02, R11; 07, R226). -/

namespace Sys2Proof

/-- A BAR2 access lies in BAR2 and in one 4 KiB page (12, R377). -/
def spanOk (addr n : Nat) : Bool := decide (1 ≤ n) && decide (addr % 4096 + n ≤ 4096) && decide (addr + n ≤ 2 ^ 39)

/-- A BAR0 access of one of the 32 functions lies in BAR0 (15, R447). -/
def barSpanOk (fn off size : Nat) : Bool := decide (fn < 32) && decide (off + size ≤ 0x2000000)

/-- Every unit a command names exists. -/
def Instr.wf : Instr → Bool
  | .nop sid => decide (sid < 131072)
  | .loop sid => decide (sid < 131072)
  | .endl sid => decide (sid < 131072)
  | .br sid => decide (sid < 131072)
  | .call sid => decide (sid < 131072)
  | .ret sid => decide (sid < 131072)
  | .wait sid => decide (sid < 131072)
  | .sig sid => decide (sid < 131072)
  | .fence sid => decide (sid < 131072)
  | .yield sid => decide (sid < 131072)
  | .yieldSuspend sid => decide (sid < 131072)
  | .halt sid => decide (sid < 131072)
  | .mark sid => decide (sid < 131072)
  | .dbrk sid => decide (sid < 131072)
  | .dsnap sid => decide (sid < 131072)
  | .wld sid => decide (sid < 131072)
  | .wsw sid => decide (sid < 131072)
  | .wref sid => decide (sid < 131072)
  | .mvm sid => decide (sid < 131072)
  | .mvmw sid => decide (sid < 131072)
  | .popen sid => decide (sid < 131072)
  | .pclose sid => decide (sid < 131072)
  | .spill sid => decide (sid < 131072)
  | .resume sid => decide (sid < 131072)
  | .rot sid => decide (sid < 131072)
  | .qnt sid => decide (sid < 131072)
  | .scup sid => decide (sid < 131072)
  | .stat sid => decide (sid < 131072)
  | .vop sid => decide (sid < 131072)
  | .att sid => decide (sid < 131072)
  | .dma sid => decide (sid < 131072)
  | .get sid => decide (sid < 131072)
  | .put sid => decide (sid < 131072)
  | .aadd sid => decide (sid < 131072)
  | .gath sid => decide (sid < 131072)
  | .stepCompletion sid _ => decide (sid < 131072)
  | .ringHeadPoll sid => decide (sid < 131072)
  | .tokenTimeout sid => decide (sid < 131072)
  | .tokenSignalWrite h _ => decide (h < 16)
  | .tokenIrqDeferred g => decide (g < 127)
  | .start sid bsk => decide (sid < 131072) && decide (bsk < 16)
  | .streamResume sid bsk => decide (sid < 131072) && decide (bsk < 16)
  | .abort sid bsk => decide (sid < 131072) && decide (bsk < 16)
  | .migrate sid bsk => decide (sid < 131072) && decide (bsk < 16)
  | .streamReset sid bsk => decide (sid < 131072) && decide (bsk < 16)
  | .migrationMove sid => decide (sid < 131072)
  | .streamPlacement => true
  | .tileLoad p => decide (p < 272)
  | .bankSwap p => decide (p < 272)
  | .bankRefresh p _ _ => decide (p < 272)
  | .groupBlockEnd p _ => decide (p < 272)
  | .promotion p _ _ _ => decide (p < 272)
  | .potWaitEnd h pot => decide (h < 16) && decide (pot < 64)
  | .replaySamePan p _ => decide (p < 272)
  | .replaySpare p _ => decide (p < 272)
  | .noSpareReplay p _ => decide (p < 272)
  | .sampledReplayCompare r => decide (r.pan < 272)
  | .sampledReplayResolve r => decide (r.pan < 272)
  | .tapRead readings => readings.all (fun r => decide (r.pan < 272) && decide (r.band < 4))
  | .rampInterval _ _ => true
  | .governorEval => true
  | .rateChange h => decide (h < 16)
  | .basketStop h => decide (h < 16)
  | .basketCommit h => decide (h < 16)
  | .basketOff h => decide (h < 16)
  | .basketOn h => decide (h < 16)
  | .basketReset h => decide (h < 16)
  | .basketDrained h => decide (h < 16)
  | .scaleClassWrite _ => true
  | .seqCntClr h => decide (h < 16)
  | .wskCntClr h => decide (h < 16)
  | .rdoCntClr h => decide (h < 16)
  | .panCntClr p => decide (p < 272)
  | .kettleFrame inp => inp.slots.all (fun x => decide (x.slot < 320))
  | .pwmPeriod glitch => glitch.all (fun e => decide (e.1 < 4))
  | .xcondClear q => decide (q < 4)
  | .slotStop n => decide (n < 320)
  | .slotCommit n => decide (n < 320)
  | .slotCntClr n => decide (n < 320)
  | .ketCntClr => true
  | .spWrite n _ => decide (n < 320)
  | .injStart _ => true
  | .injStop _ => true
  | .capArm _ => true
  | .thermalRetest p => decide (p < 272)
  | .calTurn => true
  | .handover => true
  | .sweepCommit _ => true
  | .calTimeout _ => true
  | .calAbandon => true
  | .calReq _ => true
  | .calCntClr => true
  | .blindWindow h n => decide (h < 16) && decide (n < 17)
  | .calStale source idx => (decide (1 ≤ source) && decide (source ≤ 2) && decide (idx < 272)) || (source = 3 && decide (idx < 512))
  | .startupSweep h _ => decide (h < 16)
  | .testDue h => decide (h < 16)
  | .testReq _ => true
  | .testDeferEnd h => decide (h < 16)
  | .testEntry h => decide (h < 16)
  | .testResult h _ => decide (h < 16)
  | .eventRecord => true
  | .feuPendClear _ => true
  | .ringRst => true
  | .feuCntClr => true
  | .helloSend port => decide (port < 32)
  | .hello port _ => decide (port < 32)
  | .coordTimeout => true
  | .heartbeat => true
  | .soloStart => true
  | .join port _ => decide (port < 32)
  | .joinResend => true
  | .assign port _ _ => decide (port < 32)
  | .claim port _ _ => decide (port < 32)
  | .deny port _ _ => decide (port < 32)
  | .mgt port _ => decide (port < 32) || port = 0xFFFF
  | .write port _ => decide (port < 32) || port = 0xFFFF
  | .read port _ => decide (port < 32) || port = 0xFFFF
  | .atomic port _ => decide (port < 32) || port = 0xFFFF
  | .skip port _ => decide (port < 32) || port = 0xFFFF
  | .compl port _ => decide (port < 32) || port = 0xFFFF
  | .rdrsp port _ => decide (port < 32) || port = 0xFFFF
  | .forward port _ => decide (port < 32) || port = 0xFFFF
  | .resendTimer _ => true
  | .unitGiveUp _ => true
  | .tagRelease _ => true
  | .dedupExpire _ _ _ => true
  | .creditStallDiscard port _ => decide (port < 32)
  | .flitReplay port => decide (port < 32)
  | .replayWindow port => decide (port < 32)
  | .lightDetect port => decide (port < 32)
  | .linkUp port => decide (port < 32)
  | .trainingTimeout port => decide (port < 32)
  | .lossOfSignal port => decide (port < 32)
  | .portEnable port => decide (port < 32)
  | .portDisable port => decide (port < 32)
  | .portDrain port _ => decide (port < 32)
  | .retrain port => decide (port < 32)
  | .unretire port => decide (port < 32)
  | .plaitApply => true
  | .plaitSettled => true
  | .cfgCommit => true
  | .cfgAdvance => true
  | .cfgClose => true
  | .cfgCloseEffect => true
  | .dzfCntClr => true
  | .idmapWr _ => true
  | .idmapDel => true
  | .sqDoorbell q _ => decide (q < 64)
  | .cqDoorbell q _ => decide (q < 64)
  | .commandFetch q => decide (q < 64)
  | .queueNop q _ => decide (q < 64)
  | .strm q _ => decide (q < 64)
  | .xfer q _ => decide (q < 64)
  | .queueCommandComplete q _ => decide (q < 64)
  | .irqCoalesceTimer q => decide (q < 64)
  | .queueEnable q => decide (q < 64)
  | .queueDisable q => decide (q < 64)
  | .queuePendingStart q => decide (q < 64)
  | .bar2Write addr bytes _ => spanOk addr bytes.length
  | .bar2Read addr len => spanOk addr len
  | .vfFlr v => decide (1 ≤ v) && decide (v < 32)
  | .pfFlr => true
  | .hostLinkLost => true
  | .registerWrite fn off wide _ => barSpanOk fn off (if wide then 8 else 4)
  | .refusedAccess fn off size _ => barSpanOk fn off size
  | .latchedLowerRead fn off => barSpanOk fn off 4 && decide (off % 4 = 0)
  | .accErrClear => true
  | .warmReset => true
  | .perstAssert => true
  | .perstRelease => true
  | .coldReset _ _ => true
  | .vauxApply badFuses => badFuses.all (fun e => decide (e.1 < 512))
  | .vauxPowerFail => true
  | .clockLoss _ => true
  | .thermtrip channel => decide (channel < 512)
  | .syncIn _ => true
  | .boardAlert _ => true
  | .hotIn _ => true
  | .inputStuck input => decide (input < 3)
  | .inputRearm input => decide (input < 3)
  | .outContention signal _ => decide (16 ≤ signal) && decide (signal < 40)
  | .outputReenable _ => true
  | .pmbusPoll reads => reads.all (fun x => decide (x.rail < 9))
  | .trivetBoot => true
  | .getInfo _ _ => true
  | .subscribe _ _ _ _ => true
  | .readMon _ _ _ _ => true
  | .scanWrite _ _ _ => true
  | .compWrite _ _ _ => true
  | .trigArm _ _ _ _ => true
  | .trig _ _ => true
  | .ilvSet _ _ _ _ _ => true
  | .readBbr _ _ _ _ => true
  | .flashRead _ _ _ _ => true
  | .flashProgram _ _ _ _ => true
  | .flashErase _ _ _ _ => true
  | .flashOpComplete => true
  | .fuseAdvance _ _ _ _ _ => true
  | .bbrErase _ _ _ _ => true
  | .trivetRestart _ _ => true
  | .mctpControl _ => true
  | .pldmMonitoring sensor => decide (sensor < 512)
  | .pldmFirmwareUpdate _ => true
  | .spdm _ => true
  | .report sub => decide (sub < 4)
  | .monitorDispatch => true
  | .conversionComplete conv _ _ => decide (conv < 16)
  | .monWindow comp _ => decide (comp < 64)
  | .holdoffEnd comp _ => decide (comp < 64)
  | .commonTriggerStart => true
  | .monitorPathCal channel _ => decide (channel < 512)
  | .bbrCommit => true
  | .bbrSecondEnd => true
  | .memReady => true
  | .hostLinkUp width speed _ => [1, 2, 4, 8, 16].contains width && decide (1 ≤ speed) && decide (speed ≤ 6)
  | .warmingEnd h => decide (h < 16)
  | .contentionCleared signal => decide (16 ≤ signal) && decide (signal < 40)
  | .heaterHoldEnd => true

/-- The checks as a proposition. -/
def Instr.WellFormed (i : Instr) : Prop := i.wf = true

end Sys2Proof
end

