-- ==== Sys2Proof/Safety.lean ====
section
/-! DEFINITION. What a safe run is, in the terms the claims use. -/

namespace Sys2Proof.Machine

/-- The memories are in their canonical form: local memory (HBM and the Crock) and host memory, addresses strictly rising and
no byte listed that an unlisted address reads as. -/
def State.MemOk (s : State) : Prop := Memory.wf s.mem = true ∧ Memory.wf s.host = true

/-- Every command that waits names units the part has. -/
def State.QueueOk (s : State) : Prop := s.pending.all Instr.wf = true

/-- The outcome is a next state: the machine neither stopped with a fault nor refused the command. -/
def Out.Goes (o : Out) : Prop := ∃ t, o = .next t

/-- A state from which the machine takes its next step without a fault or a refusal. -/
def State.Safe (s : State) : Prop := Out.Goes (step s)

/-! ## What a command may touch -/

/-- The fields of State, by name. -/
inductive Field where
  | pending | time | freeCtr | mem | memBad | memCorr | memCe | memUe | host | hostBad | streams | waiting | baskets | pans | pots | scales | tokens | globals
  | nextUid | fastQ | ket | cal | feu | dzf | hq | trv | dev | evq | tx | hellos | joins | msix | mgmt
  deriving DecidableEq, Repr

/-- A field reads the same in two states. -/
def Field.same (s t : State) : Field → Prop
  | .pending => t.pending = s.pending
  | .time => t.time = s.time
  | .freeCtr => t.freeCtr = s.freeCtr
  | .mem => t.mem = s.mem
  | .memBad => t.memBad = s.memBad
  | .memCorr => t.memCorr = s.memCorr
  | .memCe => t.memCe = s.memCe
  | .memUe => t.memUe = s.memUe
  | .host => t.host = s.host
  | .hostBad => t.hostBad = s.hostBad
  | .streams => t.streams = s.streams
  | .waiting => t.waiting = s.waiting
  | .baskets => t.baskets = s.baskets
  | .pans => t.pans = s.pans
  | .pots => t.pots = s.pots
  | .scales => t.scales = s.scales
  | .tokens => t.tokens = s.tokens
  | .globals => t.globals = s.globals
  | .nextUid => t.nextUid = s.nextUid
  | .fastQ => t.fastQ = s.fastQ
  | .ket => t.ket = s.ket
  | .cal => t.cal = s.cal
  | .feu => t.feu = s.feu
  | .dzf => t.dzf = s.dzf
  | .hq => t.hq = s.hq
  | .trv => t.trv = s.trv
  | .dev => t.dev = s.dev
  | .evq => t.evq = s.evq
  | .tx => t.tx = s.tx
  | .hellos => t.hellos = s.hellos
  | .joins => t.joins = s.joins
  | .msix => t.msix = s.msix
  | .mgmt => t.mgmt = s.mgmt

/-- Every field outside W reads the same in two states. -/
def Unchanged (W : List Field) (s t : State) : Prop := ∀ f, f ∉ W → f.same s t

/-- The fields a command may change; the queue is in none of the lists. -/
def touches : Instr → List Field
  | .nop _ => [.mem, .memBad, .memCorr, .memCe, .memUe, .streams, .waiting, .baskets, .pans, .pots, .tokens,
      .globals, .nextUid, .fastQ, .dzf, .hq, .dev, .evq, .msix]
  | .loop _ => [.mem, .memBad, .memCorr, .memCe, .memUe, .streams, .waiting, .baskets, .pans, .pots, .tokens,
      .globals, .nextUid, .fastQ, .dzf, .hq, .dev, .evq, .msix]
  | .endl _ => [.mem, .memBad, .memCorr, .memCe, .memUe, .streams, .waiting, .baskets, .pans, .pots, .tokens,
      .globals, .nextUid, .fastQ, .dzf, .hq, .dev, .evq, .msix]
  | .br _ => [.mem, .memBad, .memCorr, .memCe, .memUe, .streams, .waiting, .baskets, .pans, .pots, .tokens,
      .globals, .nextUid, .fastQ, .dzf, .hq, .dev, .evq, .msix]
  | .call _ => [.mem, .memBad, .memCorr, .memCe, .memUe, .streams, .waiting, .baskets, .pans, .pots, .tokens,
      .globals, .nextUid, .fastQ, .dzf, .hq, .dev, .evq, .msix]
  | .ret _ => [.mem, .memBad, .memCorr, .memCe, .memUe, .streams, .waiting, .baskets, .pans, .pots, .tokens,
      .globals, .nextUid, .fastQ, .dzf, .hq, .dev, .evq, .msix]
  | .wait _ => [.mem, .memBad, .memCorr, .memCe, .memUe, .streams, .waiting, .baskets, .pans, .pots, .tokens,
      .globals, .nextUid, .fastQ, .dzf, .hq, .dev, .evq, .msix]
  | .sig _ => [.mem, .memBad, .memCorr, .memCe, .memUe, .streams, .waiting, .baskets, .pans, .pots, .tokens,
      .globals, .nextUid, .fastQ, .dzf, .hq, .dev, .evq, .msix]
  | .fence _ => [.mem, .memBad, .memCorr, .memCe, .memUe, .streams, .waiting, .baskets, .pans, .pots, .tokens,
      .globals, .nextUid, .fastQ, .dzf, .hq, .dev, .evq, .msix]
  | .yield _ => [.mem, .memBad, .memCorr, .memCe, .memUe, .streams, .waiting, .baskets, .pans, .pots, .tokens,
      .globals, .nextUid, .fastQ, .dzf, .hq, .dev, .evq, .msix]
  | .yieldSuspend _ => [.mem, .memBad, .memCorr, .memCe, .memUe, .streams]
  | .halt _ => [.mem, .memBad, .memCorr, .memCe, .memUe, .streams, .waiting, .baskets, .pans, .pots, .tokens,
      .globals, .nextUid, .fastQ, .dzf, .hq, .dev, .evq, .msix]
  | .mark _ => [.mem, .memBad, .memCorr, .memCe, .memUe, .streams, .waiting, .baskets, .pans, .pots, .tokens,
      .globals, .nextUid, .fastQ, .dzf, .hq, .dev, .evq, .msix]
  | .dbrk _ => [.mem, .memBad, .memCorr, .memCe, .memUe, .streams, .waiting, .baskets, .pans, .pots, .tokens,
      .globals, .nextUid, .fastQ, .dzf, .hq, .trv, .dev, .evq, .msix]
  | .dsnap _ => [.mem, .memBad, .memCorr, .memCe, .memUe, .streams, .waiting, .baskets, .pans, .pots, .tokens,
      .globals, .nextUid, .fastQ, .dzf, .hq, .dev, .evq, .msix]
  | .wld _ => [.mem, .memBad, .memCorr, .memCe, .memUe, .streams, .waiting, .baskets, .pans, .pots, .tokens,
      .globals, .nextUid, .fastQ, .dzf, .hq, .dev, .evq, .tx, .msix]
  | .wsw _ => [.freeCtr, .mem, .memBad, .memCorr, .memCe, .memUe, .streams, .waiting, .baskets, .pans, .pots,
      .tokens, .globals, .nextUid, .fastQ, .dzf, .hq, .dev, .evq, .msix]
  | .wref _ => [.mem, .memBad, .memCorr, .memCe, .memUe, .streams, .waiting, .baskets, .pans, .pots, .tokens,
      .globals, .nextUid, .fastQ, .dzf, .hq, .dev, .evq, .tx, .msix]
  | .mvm _ => [.mem, .memBad, .memCorr, .memCe, .memUe, .streams, .waiting, .baskets, .pans, .pots, .tokens,
      .globals, .nextUid, .fastQ, .dzf, .hq, .dev, .evq, .msix]
  | .mvmw _ => [.mem, .memBad, .memCorr, .memCe, .memUe, .streams, .waiting, .baskets, .pans, .pots, .tokens,
      .globals, .nextUid, .fastQ, .dzf, .hq, .dev, .evq, .msix]
  | .popen _ => [.mem, .memBad, .memCorr, .memCe, .memUe, .streams, .waiting, .baskets, .pans, .pots, .scales,
      .tokens, .globals, .nextUid, .fastQ, .dzf, .hq, .dev, .evq, .tx, .msix]
  | .pclose _ => [.mem, .memBad, .memCorr, .memCe, .memUe, .streams, .waiting, .baskets, .pans, .pots, .scales,
      .tokens, .globals, .nextUid, .fastQ, .dzf, .hq, .dev, .evq, .tx, .msix]
  | .spill _ => [.mem, .memBad, .memCorr, .memCe, .memUe, .streams, .waiting, .baskets, .pans, .pots, .scales,
      .tokens, .globals, .nextUid, .fastQ, .dzf, .hq, .dev, .evq, .tx, .msix]
  | .resume _ => [.mem, .memBad, .memCorr, .memCe, .memUe, .streams, .waiting, .baskets, .pans, .pots, .tokens,
      .globals, .nextUid, .fastQ, .dzf, .hq, .dev, .evq, .msix]
  | .rot _ => [.mem, .memBad, .memCorr, .memCe, .memUe, .streams, .waiting, .baskets, .pans, .pots, .tokens,
      .globals, .nextUid, .fastQ, .dzf, .hq, .dev, .evq, .msix]
  | .qnt _ => [.mem, .memBad, .memCorr, .memCe, .memUe, .streams, .waiting, .baskets, .pans, .pots, .scales,
      .tokens, .globals, .nextUid, .fastQ, .dzf, .hq, .dev, .evq, .msix]
  | .scup _ => [.mem, .memBad, .memCorr, .memCe, .memUe, .streams, .waiting, .baskets, .pans, .pots, .scales,
      .tokens, .globals, .nextUid, .fastQ, .dzf, .hq, .dev, .evq, .msix]
  | .stat _ => [.mem, .memBad, .memCorr, .memCe, .memUe, .streams, .waiting, .baskets, .pans, .pots, .tokens,
      .globals, .nextUid, .fastQ, .dzf, .hq, .dev, .evq, .msix]
  | .vop _ => [.mem, .memBad, .memCorr, .memCe, .memUe, .streams, .waiting, .baskets, .pans, .pots, .tokens,
      .globals, .nextUid, .fastQ, .dzf, .hq, .dev, .evq, .msix]
  | .att _ => [.mem, .memBad, .memCorr, .memCe, .memUe, .streams, .waiting, .baskets, .pans, .pots, .tokens,
      .globals, .nextUid, .fastQ, .dzf, .hq, .dev, .evq, .msix]
  | .dma _ => [.mem, .memBad, .memCorr, .memCe, .memUe, .host, .streams, .waiting, .baskets, .pans, .pots, .tokens,
      .globals, .nextUid, .fastQ, .dzf, .hq, .dev, .evq, .msix]
  | .get _ => [.mem, .memBad, .memCorr, .memCe, .memUe, .streams, .waiting, .baskets, .pans, .pots, .tokens,
      .globals, .nextUid, .fastQ, .dzf, .hq, .dev, .evq, .tx, .msix]
  | .put _ => [.mem, .memBad, .memCorr, .memCe, .memUe, .streams, .waiting, .baskets, .pans, .pots, .tokens,
      .globals, .nextUid, .fastQ, .dzf, .hq, .dev, .evq, .tx, .msix]
  | .aadd _ => [.mem, .memBad, .memCorr, .memCe, .memUe, .streams, .waiting, .baskets, .pans, .pots, .tokens,
      .globals, .nextUid, .fastQ, .dzf, .hq, .dev, .evq, .tx, .msix]
  | .gath _ => [.mem, .memBad, .memCorr, .memCe, .memUe, .streams, .waiting, .baskets, .pans, .pots, .tokens,
      .globals, .nextUid, .fastQ, .dzf, .hq, .dev, .evq, .tx, .msix]
  | .stepCompletion _ _ => [.mem, .memBad, .memCorr, .memCe, .memUe, .streams, .baskets, .tokens, .globals, .hq,
      .evq, .msix]
  | .ringHeadPoll _ => [.time, .mem, .memBad, .memCorr, .memCe, .memUe, .streams, .baskets, .tokens, .globals, .hq,
      .evq, .msix]
  | .tokenTimeout _ => [.time, .mem, .memBad, .memCorr, .memCe, .memUe, .streams, .waiting, .baskets, .pans, .pots,
      .fastQ, .dzf, .hq, .dev, .evq]
  | .tokenSignalWrite _ _ => [.tokens, .globals, .hq, .msix]
  | .tokenIrqDeferred _ => [.time, .hq, .msix]
  | .start _ _ => [.mem, .memBad, .memCorr, .memCe, .memUe, .streams, .waiting, .baskets, .pans, .pots, .scales,
      .fastQ, .dzf, .hq, .dev, .evq]
  | .streamResume _ _ => [.mem, .memBad, .memCorr, .memCe, .memUe, .streams, .waiting, .baskets, .pans, .pots,
      .scales, .fastQ, .dzf, .hq, .dev, .evq]
  | .abort _ _ => [.mem, .memBad, .memCorr, .memCe, .memUe, .streams, .waiting, .baskets, .pans, .pots, .scales,
      .fastQ, .dzf, .hq, .dev, .evq]
  | .migrate _ _ => [.mem, .memBad, .memCorr, .memCe, .memUe, .streams, .waiting, .baskets, .pans, .pots, .scales,
      .fastQ, .dzf, .hq, .dev, .evq]
  | .streamReset _ _ => [.mem, .memBad, .memCorr, .memCe, .memUe, .streams, .waiting, .baskets, .pans, .pots,
      .scales, .fastQ, .dzf, .hq, .dev, .evq]
  | .migrationMove _ => [.mem, .memBad, .memCorr, .memCe, .memUe, .streams, .waiting, .baskets, .pans, .pots,
      .scales, .fastQ, .dzf, .hq, .dev, .evq]
  | .streamPlacement => [.mem, .memBad, .memCorr, .memCe, .memUe, .streams, .waiting, .baskets]
  | .tileLoad _ => [.mem, .memBad, .memCorr, .memCe, .memUe, .streams, .waiting, .baskets, .pans, .pots, .fastQ,
      .dzf, .hq, .dev, .evq, .tx]
  | .bankSwap _ => [.freeCtr, .baskets, .pans]
  | .bankRefresh _ _ _ => [.time, .pans, .evq]
  | .groupBlockEnd _ _ => [.freeCtr, .mem, .memBad, .memCorr, .memCe, .memUe, .streams, .waiting, .baskets, .pans,
      .pots, .fastQ, .feu, .dzf, .hq, .dev, .evq]
  | .promotion _ _ _ _ => [.mem, .memBad, .memCorr, .memCe, .memUe, .streams, .waiting, .baskets, .pans, .pots,
      .fastQ, .dzf, .hq, .dev, .evq]
  | .potWaitEnd _ _ => [.mem, .memBad, .memCorr, .memCe, .memUe, .streams, .waiting, .baskets, .pans, .pots,
      .scales, .fastQ, .dzf, .hq, .dev, .evq, .tx]
  | .replaySamePan _ _ => [.freeCtr, .mem, .memBad, .memCorr, .memCe, .memUe, .streams, .waiting, .baskets, .pans,
      .pots, .fastQ, .feu, .dzf, .hq, .dev, .evq, .tx]
  | .replaySpare _ _ => [.time, .freeCtr, .mem, .memBad, .memCorr, .memCe, .memUe, .streams, .waiting, .baskets,
      .pans, .pots, .fastQ, .cal, .feu, .dzf, .hq, .trv, .dev, .evq, .tx, .msix, .mgmt]
  | .noSpareReplay _ _ => [.time, .freeCtr, .mem, .memBad, .memCorr, .memCe, .memUe, .streams, .waiting, .baskets,
      .pans, .pots, .fastQ, .cal, .feu, .dzf, .hq, .trv, .dev, .evq, .tx, .msix, .mgmt]
  | .sampledReplayCompare _ => [.freeCtr, .mem, .memBad, .memCorr, .memCe, .memUe, .streams, .waiting, .baskets,
      .pans, .pots, .fastQ, .feu, .dzf, .hq, .dev, .evq, .tx]
  | .sampledReplayResolve _ => [.freeCtr, .mem, .memBad, .memCorr, .memCe, .memUe, .streams, .waiting, .baskets,
      .pans, .pots, .fastQ, .cal, .dzf, .hq, .trv, .dev, .evq, .tx, .msix, .mgmt]
  | .tapRead _ => [.time, .freeCtr, .mem, .memBad, .memCorr, .memCe, .memUe, .streams, .waiting, .baskets, .pans,
      .pots, .fastQ, .cal, .dzf, .hq, .trv, .dev, .evq, .tx, .joins, .msix, .mgmt]
  | .rampInterval _ _ => [.time, .baskets, .pans, .cal, .dev]
  | .governorEval => [.time, .baskets, .trv, .dev, .msix, .mgmt]
  | .rateChange _ => [.baskets, .pans]
  | .basketStop _ => [.baskets, .pans, .cal, .trv, .evq, .msix, .mgmt]
  | .basketCommit _ => [.mem, .memBad, .memCorr, .memCe, .memUe, .streams, .waiting, .baskets, .pans, .pots,
      .fastQ, .cal, .dzf, .hq, .trv, .dev, .evq, .msix, .mgmt]
  | .basketOff _ => [.baskets, .pans, .cal, .trv, .evq, .msix, .mgmt]
  | .basketOn _ => [.baskets]
  | .basketReset _ => [.mem, .memBad, .memCorr, .memCe, .memUe, .streams, .waiting, .baskets, .pans, .pots,
      .scales, .tokens, .fastQ, .cal, .dzf, .hq, .trv, .dev, .evq, .msix, .mgmt]
  | .basketDrained _ => [.mem, .memBad, .memCorr, .memCe, .memUe, .streams, .waiting, .baskets, .pans, .pots,
      .fastQ, .cal, .dzf, .hq, .trv, .dev, .evq, .msix, .mgmt]
  | .scaleClassWrite _ => [.baskets, .dev]
  | .seqCntClr _ => [.baskets, .tokens, .globals]
  | .wskCntClr _ => [.baskets]
  | .rdoCntClr _ => [.baskets]
  | .panCntClr _ => [.pans]
  | .kettleFrame _ => [.time, .baskets, .pans, .ket, .cal, .trv, .evq, .msix, .mgmt]
  | .pwmPeriod _ => [.time, .ket, .evq]
  | .xcondClear _ => [.ket, .evq]
  | .slotStop _ => [.ket]
  | .slotCommit _ => [.ket]
  | .slotCntClr _ => [.ket]
  | .ketCntClr => [.ket]
  | .spWrite _ _ => [.ket]
  | .injStart _ => [.ket]
  | .injStop _ => [.ket]
  | .capArm _ => [.ket]
  | .thermalRetest _ => [.time, .baskets, .pans, .ket, .trv, .msix, .mgmt]
  | .calTurn => [.pans, .cal]
  | .handover => [.mem, .memBad, .memCorr, .memCe, .memUe, .streams, .waiting, .baskets, .pans, .pots, .fastQ,
      .cal, .dzf, .hq, .trv, .dev, .evq, .tx, .msix, .mgmt]
  | .sweepCommit _ => [.time, .baskets, .pans, .ket, .cal, .trv, .evq, .msix, .mgmt]
  | .calTimeout _ => [.time, .baskets, .pans, .cal, .trv, .evq, .msix, .mgmt]
  | .calAbandon => [.baskets, .pans, .cal, .trv, .evq, .msix, .mgmt]
  | .calReq _ => [.pans]
  | .calCntClr => [.cal]
  | .blindWindow _ _ => [.time, .freeCtr, .pans]
  | .calStale _ _ => [.time, .pans, .trv, .evq]
  | .startupSweep _ _ => [.mem, .memBad, .memCorr, .memCe, .memUe, .streams, .waiting, .baskets, .pans, .pots,
      .fastQ, .ket, .cal, .dzf, .hq, .trv, .dev, .evq, .msix, .mgmt]
  | .testDue _ => [.time, .baskets]
  | .testReq _ => [.baskets]
  | .testDeferEnd _ => [.time, .baskets, .pans, .cal, .trv, .evq, .msix, .mgmt]
  | .testEntry _ => [.mem, .memBad, .memCorr, .memCe, .memUe, .streams, .waiting, .baskets, .pans, .pots, .scales,
      .fastQ, .cal, .dzf, .hq, .trv, .dev, .evq, .msix, .mgmt]
  | .testResult _ _ => [.time, .mem, .memBad, .memCorr, .memCe, .memUe, .streams, .waiting, .baskets, .pans, .pots,
      .fastQ, .cal, .dzf, .hq, .trv, .dev, .evq, .msix, .mgmt]
  | .eventRecord => [.mem, .memBad, .memCorr, .memCe, .memUe, .host, .feu, .trv, .evq, .msix, .mgmt]
  | .feuPendClear _ => [.feu]
  | .ringRst => [.feu]
  | .feuCntClr => [.feu]
  | .helloSend _ => [.hellos]
  | .hello _ _ => [.time, .dzf, .trv, .evq, .joins, .msix, .mgmt]
  | .coordTimeout => [.time, .dzf, .trv, .joins, .msix, .mgmt]
  | .heartbeat => [.dzf]
  | .soloStart => [.dzf]
  | .join _ _ => [.dzf, .joins]
  | .joinResend => [.joins]
  | .assign _ _ _ => [.dzf, .joins]
  | .claim _ _ _ => [.dzf, .joins]
  | .deny _ _ _ => [.dzf, .trv, .joins, .msix, .mgmt]
  | .mgt _ _ => [.freeCtr, .dzf, .trv, .evq, .tx, .joins, .msix, .mgmt]
  | .write _ _ => [.freeCtr, .mem, .memBad, .memCorr, .memCe, .memUe, .tokens, .globals, .dzf, .hq, .evq, .tx,
      .msix]
  | .read _ _ => [.freeCtr, .mem, .memBad, .memCorr, .memCe, .memUe, .tokens, .globals, .dzf, .hq, .evq, .tx,
      .msix]
  | .atomic _ _ => [.freeCtr, .mem, .memBad, .memCorr, .memCe, .memUe, .tokens, .globals, .dzf, .hq, .evq, .tx,
      .msix]
  | .skip _ _ => [.freeCtr, .mem, .memBad, .memCorr, .memCe, .memUe, .tokens, .globals, .dzf, .hq, .evq, .tx,
      .msix]
  | .compl _ _ => [.freeCtr, .mem, .memBad, .memCorr, .memCe, .memUe, .baskets, .pans, .pots, .dzf, .hq, .dev,
      .evq, .tx, .msix]
  | .rdrsp _ _ => [.freeCtr, .mem, .memBad, .memCorr, .memCe, .memUe, .baskets, .pans, .pots, .dzf, .hq, .dev,
      .evq, .tx, .msix]
  | .forward _ _ => [.freeCtr, .dzf, .evq, .tx]
  | .resendTimer _ => [.time, .dzf, .evq, .tx]
  | .unitGiveUp _ => [.time, .mem, .memBad, .memCorr, .memCe, .memUe, .baskets, .pots, .dzf, .hq, .dev, .evq, .tx,
      .msix]
  | .tagRelease _ => [.time, .dzf]
  | .dedupExpire _ _ _ => [.time, .dzf]
  | .creditStallDiscard _ _ => [.time, .dzf, .tx]
  | .flitReplay _ => [.freeCtr, .dzf]
  | .replayWindow _ => [.freeCtr, .dzf, .trv, .evq, .tx, .joins]
  | .lightDetect _ => [.freeCtr, .dzf, .evq, .tx, .joins]
  | .linkUp _ => [.freeCtr, .dzf, .evq, .tx, .joins]
  | .trainingTimeout _ => [.time, .freeCtr, .dzf, .trv, .evq, .tx, .joins]
  | .lossOfSignal _ => [.freeCtr, .dzf, .trv, .evq, .tx, .joins]
  | .portEnable _ => [.freeCtr, .dzf, .evq, .tx, .joins]
  | .portDisable _ => [.freeCtr, .dzf, .evq, .tx, .joins]
  | .portDrain _ _ => [.dzf, .joins]
  | .retrain _ => [.freeCtr, .dzf, .evq, .tx, .joins]
  | .unretire _ => [.freeCtr, .dzf, .trv, .evq, .tx, .joins]
  | .plaitApply => [.freeCtr, .dzf, .evq, .tx, .joins]
  | .plaitSettled => [.time, .freeCtr, .dzf, .evq, .tx, .joins]
  | .cfgCommit => [.dzf]
  | .cfgAdvance => [.dzf]
  | .cfgClose => [.dzf]
  | .cfgCloseEffect => [.time, .dzf]
  | .dzfCntClr => [.dzf]
  | .idmapWr _ => [.dzf]
  | .idmapDel => [.dzf]
  | .sqDoorbell _ _ => [.hq, .msix]
  | .cqDoorbell _ _ => [.hq, .msix]
  | .commandFetch _ => [.freeCtr, .hq]
  | .queueNop _ _ => [.hq]
  | .strm _ _ => [.mem, .memBad, .memCorr, .memCe, .memUe, .streams, .waiting, .baskets, .pans, .pots, .scales,
      .fastQ, .dzf, .hq, .dev, .evq]
  | .xfer _ _ => [.mem, .memBad, .memCorr, .memCe, .memUe, .host, .hq]
  | .queueCommandComplete _ _ => [.host, .hq, .msix]
  | .irqCoalesceTimer _ => [.time, .hq, .msix]
  | .queueEnable _ => [.hq]
  | .queueDisable _ => [.hq]
  | .queuePendingStart _ => [.hq]
  | .bar2Write _ _ _ => [.mem, .memBad, .memCorr, .memCe, .memUe, .dzf, .hq, .evq, .tx, .msix]
  | .bar2Read _ _ => [.memCorr, .memCe, .memUe, .dzf, .hq, .dev, .evq, .tx, .msix]
  | .vfFlr _ => [.mem, .memBad, .memCorr, .memCe, .memUe, .streams, .waiting, .baskets, .pans, .pots, .fastQ, .dzf,
      .hq, .dev]
  | .pfFlr => [.streams, .hq]
  | .hostLinkLost => [.streams, .hq, .trv, .msix, .mgmt]
  | .registerWrite _ _ _ _ => [.freeCtr, .mem, .memBad, .memCorr, .memCe, .memUe, .streams, .waiting, .baskets,
      .pans, .pots, .scales, .tokens, .globals, .fastQ, .ket, .cal, .feu, .dzf, .hq, .trv, .dev, .evq, .tx, .joins,
      .msix, .mgmt]
  | .refusedAccess _ _ _ _ => [.dev]
  | .latchedLowerRead _ _ => [.dev]
  | .accErrClear => [.dev]
  | .warmReset => [.mem, .memBad, .memCorr, .memCe, .memUe, .streams, .waiting, .baskets, .pans, .pots, .scales,
      .tokens, .globals, .fastQ, .cal, .dzf, .hq, .trv, .dev, .evq, .msix, .mgmt]
  | .perstAssert => [.mem, .memBad, .memCorr, .memCe, .memUe, .streams, .waiting, .baskets, .pans, .pots, .scales,
      .tokens, .globals, .fastQ, .cal, .dzf, .hq, .trv, .dev, .evq, .msix, .mgmt]
  | .perstRelease => [.time, .dev]
  | .coldReset _ _ => [.time, .mem, .memBad, .memCorr, .memCe, .memUe, .streams, .waiting, .baskets, .pans, .pots,
      .scales, .tokens, .globals, .nextUid, .fastQ, .ket, .cal, .feu, .dzf, .hq, .trv, .dev, .evq]
  | .vauxApply _ => [.time, .mem, .memBad, .memCorr, .memCe, .memUe, .streams, .waiting, .baskets, .pans, .pots,
      .scales, .tokens, .globals, .nextUid, .fastQ, .ket, .cal, .feu, .dzf, .hq, .trv, .dev, .evq]
  | .vauxPowerFail => [.time, .mem, .memBad, .memCorr, .memCe, .memUe, .streams, .waiting, .baskets, .pans, .pots,
      .scales, .tokens, .globals, .nextUid, .fastQ, .ket, .cal, .feu, .dzf, .hq, .trv, .dev, .evq]
  | .clockLoss _ => [.freeCtr, .mem, .memBad, .memCorr, .memCe, .memUe, .streams, .waiting, .baskets, .pans, .pots,
      .fastQ, .ket, .cal, .dzf, .hq, .trv, .dev, .evq, .tx, .joins, .msix, .mgmt]
  | .thermtrip _ => [.freeCtr, .mem, .memBad, .memCorr, .memCe, .memUe, .streams, .waiting, .baskets, .pans, .pots,
      .fastQ, .ket, .cal, .dzf, .hq, .trv, .dev, .evq, .tx, .joins, .msix, .mgmt]
  | .syncIn _ => [.trv, .dev, .evq, .mgmt]
  | .boardAlert _ => [.trv, .dev, .evq, .mgmt]
  | .hotIn _ => [.trv, .dev, .evq, .mgmt]
  | .inputStuck _ => [.time, .dev, .evq]
  | .inputRearm _ => [.time, .dev, .evq]
  | .outContention _ _ => [.ket, .dev, .evq]
  | .outputReenable _ => [.dev]
  | .pmbusPoll _ => [.dev]
  | .trivetBoot => [.freeCtr, .feu, .trv, .dev, .evq, .msix, .mgmt]
  | .getInfo _ _ => [.freeCtr, .trv, .msix, .mgmt]
  | .subscribe _ _ _ _ => [.freeCtr, .trv, .msix, .mgmt]
  | .readMon _ _ _ _ => [.freeCtr, .trv, .msix, .mgmt]
  | .scanWrite _ _ _ => [.freeCtr, .trv, .msix, .mgmt]
  | .compWrite _ _ _ => [.freeCtr, .trv, .msix, .mgmt]
  | .trigArm _ _ _ _ => [.freeCtr, .trv, .msix, .mgmt]
  | .trig _ _ => [.freeCtr, .trv, .msix, .mgmt]
  | .ilvSet _ _ _ _ _ => [.freeCtr, .trv, .msix, .mgmt]
  | .readBbr _ _ _ _ => [.freeCtr, .trv, .msix, .mgmt]
  | .flashRead _ _ _ _ => [.freeCtr, .trv, .msix, .mgmt]
  | .flashProgram _ _ _ _ => [.freeCtr, .trv, .evq, .msix, .mgmt]
  | .flashErase _ _ _ _ => [.freeCtr, .trv, .evq, .msix, .mgmt]
  | .flashOpComplete => [.freeCtr, .trv, .msix, .mgmt]
  | .fuseAdvance _ _ _ _ _ => [.freeCtr, .trv, .msix, .mgmt]
  | .bbrErase _ _ _ _ => [.freeCtr, .trv, .msix, .mgmt]
  | .trivetRestart _ _ => [.freeCtr, .trv, .dev, .msix, .mgmt]
  | .mctpControl _ => [.trv, .mgmt]
  | .pldmMonitoring _ => [.mgmt]
  | .pldmFirmwareUpdate _ => [.trv, .dev]
  | .spdm _ => [.mgmt]
  | .report _ => [.trv, .mgmt]
  | .monitorDispatch => [.trv]
  | .conversionComplete _ _ _ => [.time, .trv]
  | .monWindow _ _ => [.trv, .msix, .mgmt]
  | .holdoffEnd _ _ => [.time, .trv]
  | .commonTriggerStart => [.time, .trv]
  | .monitorPathCal _ _ => [.time, .trv]
  | .bbrCommit => [.trv]
  | .bbrSecondEnd => [.time, .trv]
  | .memReady => [.hq]
  | .hostLinkUp _ _ _ => [.hq]
  | .warmingEnd _ => [.mem, .memBad, .memCorr, .memCe, .memUe, .streams, .waiting, .baskets, .pans, .pots, .fastQ,
      .cal, .dzf, .hq, .trv, .dev, .evq, .msix, .mgmt]
  | .contentionCleared _ => [.ket]
  | .heaterHoldEnd => [.time, .ket]

/-! ## A step of a stream that issues -/

/-- The state once the word of the head step has been read, its SECDED corrected and counted, and its fence, if it is one, has
flushed what the stream wrote to host memory (05, R141; 07, R243, R246). -/
def flushed (s : State) (sid : Nat) (h : Hdr) : State :=
  let s := s.scrub (s.str sid).stepAddr 16
  if ordOf h = 2 ∧ (s.str sid).hostW.isSome then s.setStr sid { s.str sid with hostW := none } else s

/-- The state once the parameter block too has been read (05, R144; 07, R243). -/
def headRead (s : State) (sid : Nat) (h : Hdr) : State :=
  let s := flushed s sid h
  let t := s.str sid
  if blockLen h.opc = 0 then s else s.scrub (t.win (blockOff h (iterOf t))) (blockLen h.opc)

/-- The head step of stream sid is the word of header h, of opcode opc, and nothing keeps it from issuing: the stream is
RESIDENT and not held by a HALT on a Basket in service, PTR lies in the table, the fence lets it by, its token is there
for it, its predicate holds, its block reads good, it does not wait on a Pot, it passes validation, and there is room in
flight (05, R147, R148, R149, R164). -/
structure HeadReady (s : State) (sid opc : Nat) (h : Hdr) : Prop where
  range : sid < 131072
  live  : s.issues sid = true
  table : (s.str sid).ptr < (s.str sid).tblSteps
  good  : s.badIn (s.str sid).stepAddr 16 = []
  word  : hdrOf (s.rdN (s.str sid).stepAddr 16) = h
  code  : h.opc = opc
  fence : ordOf h = 2 → (s.bsk (s.str sid).bsk).inflight.all (fun r => r.sid != sid) = true ∧
    ∀ a, (s.str sid).hostW = some a → s.hostFail a 1 = none
  token : h.wait ≠ 0 → tokLegal h.wait = true →
    let u := flushed s sid h
    u.waitersAhead sid (u.str sid).bsk h.wait (u.waitFrom sid h.wait) < (u.tok (u.str sid).bsk h.wait).count
  pred  : predHolds ((flushed s sid h).str sid).flags h.pred = true
  block : blockLen opc = 0 ∨
    (flushed s sid h).badIn (((flushed s sid h).str sid).win (blockOff h (iterOf ((flushed s sid h).str sid)))) (blockLen opc) = []
  pot   : (headRead s sid h).potHold sid h = false
  valid : (headRead s sid h).validate sid h = none
  room  : isControl opc = true ∨ inflightCnt ((flushed s sid h).bsk ((flushed s sid h).str sid).bsk) < 512

/-- The state as the head step issues: its token is taken, its wait is over and the Basket counts it (05, R148, R185). -/
def issueOf (s : State) (sid : Nat) (h : Hdr) : State :=
  let b := (s.str sid).bsk
  let s := s.takeTok b h.wait
  let s := s.setStr sid { s.str sid with waitSince := none }
  s.setBsk b { s.bsk b with issueCnt := sat32 ((s.bsk b).issueCnt + 1) }

/-- The state as the head step issues, its word and block read. -/
def issued (s : State) (sid : Nat) (h : Hdr) : State := issueOf (headRead s sid h) sid h

/-- The record of a control step, whose work is over as it issues (05, R149; log entry 23, DEDUCED). -/
def ctlRec (s : State) (sid : Nat) (h : Hdr) : StepRec := { recAt s sid h with done := true }

/-- A control step without a completion record has run: its stream is v with its wait over, its Basket counts it and
keeps it in flight only while its order asks for it, its token is taken and, once it completes, its own is signalled.
Nothing else changes (05, R148, R149, R155). -/
def CtlDone (s t : State) (sid : Nat) (h : Hdr) (v : Stream) : Prop :=
  let b := (s.str sid).bsk
  let fl := (s.bsk b).inflight ++ [ctlRec s sid h]
  let ends := ordClear fl (ctlRec s sid h)
  let u := if ends then (s.takeTok b h.wait).sig b h.sig else s.takeTok b h.wait
  t.str sid = { v with waitSince := none } ∧ (∀ j, j ≠ sid → t.str j = s.str j) ∧
  t.bsk b = { s.bsk b with issueCnt := sat32 ((s.bsk b).issueCnt + 1)
                           inflight := if ends then fl.filter (fun x => x.uid != s.nextUid) else fl } ∧
  (∀ j, j ≠ b → t.bsk j = s.bsk j) ∧
  t = { s with streams := t.streams, baskets := t.baskets, tokens := u.tokens, globals := u.globals, hq := u.hq
               msix := u.msix, nextUid := s.nextUid + 1 }

/-- The completion record of HALT or MARK (06, Table 06-3). -/
def endRec (s : State) (sid : Nat) (h : Hdr) (status failed : Nat) : StepRec :=
  { recAt s sid h with done := true, status := status, failed := failed }

/-- A step with the record r completes as it issues: its order lets it, and the ring has a place (05, R149; 07, R233). -/
def endsNow (s : State) (sid : Nat) (r : StepRec) : Prop :=
  ordClear ((s.bsk (s.str sid).bsk).inflight ++ [r]) r = true ∧ s.ringFull sid = false

/-- The step of stream sid that the header h spells has issued and gone on: PTR stands at the next step, its wait is over,
its Basket has counted it, its token is taken, and no other stream has changed (05, R148, R149, R155, R185). -/
def StepGoes (s t : State) (sid : Nat) (h : Hdr) : Prop :=
  let b := (s.str sid).bsk
  (t.str sid).ptr = (s.str sid).ptr + 1 ∧ (t.str sid).waitSince = none ∧ (∀ j, j ≠ sid → t.str j = s.str j) ∧
  (t.bsk b).issueCnt = sat32 ((s.bsk b).issueCnt + 1) ∧ t.nextUid = s.nextUid + 1 ∧
  t.tokens = (s.takeTok b h.wait).tokens ∧ t.globals = (s.takeTok b h.wait).globals

/-- The step is in flight with the record r (05, R149). -/
def FlyingAs (s t : State) (sid : Nat) (r : StepRec) : Prop := r ∈ (t.bsk (s.str sid).bsk).inflight

/-- What a step reads is free of uncorrectable words (07, R243). -/
def ReadsGood (s : State) (sid : Nat) (rs : List Region) : Prop := rs.findSome? (s.regionBad (s.str sid)) = none

end Sys2Proof.Machine
end

