-- ==== Sys2Proof/Certificates/Slice0/Obligations.lean ====
section
/-! DEFINITION. The statements for the provers. Each says what its docstring says, of every state that meets its hypotheses; most
come from the spec's numbered rules, and one that rests on a choice of the model names its log entry. -/

open Sys2Proof Sys2Proof.Machine

/-- A step takes the command at the front of the queue and is that command's effect with the queue's rest. With nothing in the
queue the machine's own choice is that a nanosecond passes, while the clock runs and no slew holds the counter (11, R354;
log entries 17 and 44). -/
def Obligations.StepRunsTheFrontCommand : Prop :=
  (∀ (s : State) (c : Instr) (rest : List Instr),
    step { s with pending := c :: rest } = exec c { s with pending := rest }) ∧
  (∀ (s : State), s.pending = [] → s.clocked = true → s.dzf.slew = 0 → (∀ n, n < 3 → (s.inp n).edgeAt = none) →
    step s = .next { s with time := s.time + 1 })

/-- A command that names units the part has runs on to a next state from every state; one that does not stops with the fault
that says so, and only with it (00, R6; log entry 15). -/
def Obligations.CommandsRunExactlyWhereTheirUnitsExist : Prop :=
  ∀ (c : Instr) (s : State),
    (c.wf = true → ∃ t, exec c s = .next t) ∧ (c.wf = false → exec c s = .fault .noSuchUnit)

/-- Every command leaves every field of the state outside its own list as it was, and the queue is on no list. -/
def Obligations.CommandsTouchOnlyTheirFields : Prop :=
  ∀ (c : Instr) (s t : State), exec c s = .next t → Unchanged (touches c) s t ∧ t.pending = s.pending

/-- Every step, from every state whose memories are in their canonical form, leaves them so. -/
def Obligations.StepsKeepMemoryCanonical : Prop :=
  ∀ (s t : State), s.MemOk → step s = .next t → t.MemOk

/-- No step takes a token's count above 65,535 (05, R155). -/
def Obligations.StepsKeepTokenCountsInRange : Prop :=
  ∀ (s t : State),
    (∀ k, (tget tokDflt s.tokens k).count ≤ 65535) → (∀ k, (tget tokDflt s.globals k).count ≤ 65535) → step s = .next t →
    (∀ k, (tget tokDflt t.tokens k).count ≤ 65535) ∧ (∀ k, (tget tokDflt t.globals k).count ≤ 65535)

/-- After reset the memories are canonical and empty, the queue holds nothing, every stream is IDLE, every Pot FREE, every token
0, the Baskets are WARMING, each has its Pans 0 to 15 in their slots and Pan 16 SPARE, the ports are DOWN and the node has no
ID (02, R67; 05, R155; 07, R230; 11, Tables 11-3, 11-18; 14, Table 14-4). -/
def Obligations.ResetStateIsAsTheTablesSay : Prop :=
  State.reset.MemOk ∧ State.reset.pending = [] ∧ State.reset.mem = [] ∧
  (∀ i, (State.reset.str i).st = .idle) ∧ (∀ h n, (State.reset.pot h n).st = .free) ∧
  (∀ h c, (State.reset.tok h c).count = 0 ∧ (State.reset.tok h c).ovf = false) ∧
  (∀ h, (State.reset.bsk h).st = .warming ∧ (State.reset.bsk h).seqCfg = 0x3E8 ∧ (State.reset.bsk h).inflight = []) ∧
  (∀ h k, k < 16 → (State.reset.pan (h * 17 + k)).mode = .inService ∧ (State.reset.pan (h * 17 + k)).slot = some k) ∧
  (∀ h, (State.reset.pan (h * 17 + 16)).mode = .spare ∧ (State.reset.pan (h * 17 + 16)).slot = none) ∧
  (∀ n, (State.reset.port n).st = .down ∧ (State.reset.port n).en = true) ∧
  State.reset.dzf.idValid = false ∧ State.reset.dzf.nodeId = 0xFFFF ∧ State.reset.dev.perst = true

/-- NOP, WAIT, SIG, FENCE, and a YIELD with nothing pending, go on at the next step and do nothing but take and signal their
tokens (05, R148 to R150, R155, R183). -/
def Obligations.PlainControlStepsGoOn : Prop :=
  ∀ (s : State) (sid : Nat) (h : Hdr),
    let u := headRead s sid h
    let v := { u.str sid with ptr := (s.str sid).ptr + 1 }
    (HeadReady s sid 0x00 h → ∃ t, exec (.nop sid) s = .next t ∧ CtlDone u t sid h v) ∧
    (HeadReady s sid 0x06 h → ∃ t, exec (.wait sid) s = .next t ∧ CtlDone u t sid h v) ∧
    (HeadReady s sid 0x07 h → ∃ t, exec (.sig sid) s = .next t ∧ CtlDone u t sid h v) ∧
    (HeadReady s sid 0x08 h → ∃ t, exec (.fence sid) s = .next t ∧ CtlDone u t sid h v) ∧
    (HeadReady s sid 0x09 h → s.movePending sid = false → ∃ t, exec (.yield sid) s = .next t ∧ CtlDone u t sid h v)

/-- LOOP of count 0 goes past its END; of another count it opens a loop on the stack; END goes back to the step after its LOOP
while a pass remains, and closes the loop after the last (05, R160; 06, R187).

BR goes to its target, CALL too with the next step and the loop depth on the call stack, RET back to the step on top of it;
CLR clears the flag a taken BR or CALL has tested (05, R154, R161, R162; 06, Table 06-6). -/
def Obligations.LoopsAndBranchesMoveThePointer : Prop :=
  -- LoopsRepeatTheirBody
  (∀ (s : State) (sid : Nat) (h : Hdr),
    let u := headRead s sid h
    let v := u.str sid
    let cnt := bits h.ops 63 32
    let e := bits h.ops 87 64
    (HeadReady s sid 0x01 h → cnt = 0 → ∃ t, exec (.loop sid) s = .next t ∧ CtlDone u t sid h { v with ptr := e + 1 }) ∧
    (HeadReady s sid 0x01 h → cnt ≠ 0 → ∃ t, exec (.loop sid) s = .next t ∧
      CtlDone u t sid h { v with ptr := v.ptr + 1, loops := v.loops ++ [{ start := v.ptr, endIdx := e, count := cnt, remaining := cnt }] }) ∧
    (∀ f, HeadReady s sid 0x02 h → v.loops.getLast? = some f → 1 < f.remaining → ∃ t, exec (.endl sid) s = .next t ∧
      CtlDone u t sid h { v with ptr := f.start + 1, loops := v.loops.dropLast ++ [{ f with remaining := f.remaining - 1 }] }) ∧
    (∀ f, HeadReady s sid 0x02 h → v.loops.getLast? = some f → f.remaining ≤ 1 → ∃ t, exec (.endl sid) s = .next t ∧
      CtlDone u t sid h { v with ptr := v.ptr + 1, loops := v.loops.dropLast })) ∧
  -- BranchesGoToTheirTargets
  (∀ (s : State) (sid : Nat) (h : Hdr),
    let u := headRead s sid h
    let v := u.str sid
    let fl := if bit h.ops 24 then clearFlag v.flags h.pred else v.flags
    let tgt := bits h.ops 23 0
    (HeadReady s sid 0x03 h → ∃ t, exec (.br sid) s = .next t ∧ CtlDone u t sid h { v with ptr := tgt, flags := fl }) ∧
    (HeadReady s sid 0x04 h → ∃ t, exec (.call sid) s = .next t ∧
      CtlDone u t sid h { v with ptr := tgt, flags := fl, calls := v.calls ++ [{ ret := v.ptr + 1, depth := v.loops.length }] }) ∧
    (∀ c, HeadReady s sid 0x05 h → v.calls.getLast? = some c → ∃ t, exec (.ret sid) s = .next t ∧
      CtlDone u t sid h { v with ptr := c.ret, calls := v.calls.dropLast }))

/-- HALT, once what came before it lets it complete, writes its record and ENDs its stream; before that no further step issues
(05, R163; 06, R193).

MARK writes a record of status 6 with its number at the tail of its stream's completion ring, as its order and the ring let
it (05, R163; 06, R193; 07, R233). -/
def Obligations.HaltAndMarkEndWithRecords : Prop :=
  -- HaltEndsItsStream
  (∀ (s : State) (sid : Nat) (h : Hdr),
    let v := (headRead s sid h).str sid
    let r := endRec s sid h 5 0
    HeadReady s sid 0x0A h → ∃ t, exec (.halt sid) s = .next t ∧ (t.str sid).ptr = v.ptr + 1 ∧
      (endsNow s sid r → (t.str sid).st = .ended ∧ (t.str sid).crTail = (v.crTail + 1) % 2 ^ 32) ∧
      (ordClear ((s.bsk v.bsk).inflight ++ [r]) r = false →
        t.str sid = { v with waitSince := none, halting := true, ptr := v.ptr + 1 } ∧ r ∈ (t.bsk v.bsk).inflight) ∧
      (∀ j, j ≠ sid → t.str j = s.str j)) ∧
  -- MarkWritesItsRecord
  (∀ (s : State) (sid : Nat) (h : Hdr),
    let v := (headRead s sid h).str sid
    let r := endRec s sid h 6 (bits h.ops 63 0)
    let a := v.win v.cring + v.crTail % 2 ^ v.crLog2 * 32
    HeadReady s sid 0x0B h → ∃ t, exec (.mark sid) s = .next t ∧
      (endsNow s sid r → t.str sid = { v with waitSince := none, ptr := v.ptr + 1, crTail := (v.crTail + 1) % 2 ^ 32 } ∧
        (∀ k, k < 32 → ¬ (descAddr sid ≤ a + k ∧ a + k < descAddr sid + 64) → t.rdB (a + k) = (recBytes s.time r).getD k 0) ∧
        (∀ k, k < a ∨ a + 32 ≤ k → ¬ (descAddr sid ≤ k ∧ k < descAddr sid + 64) → t.rdB k = s.rdB k)) ∧
      (¬ endsNow s sid r → t.str sid = { v with waitSince := none, ptr := v.ptr + 1 } ∧ (∀ k, t.rdB k = s.rdB k)) ∧
      (∀ j, j ≠ sid → t.str j = s.str j))

/-- DBRK suspends its stream with CAUSE 0xF002 before the next step and posts a mailbox notice (05, R146).

DSNAP writes its 256-byte record at the operand's window offset and goes on (05, R146). -/
def Obligations.DebugStepsSuspendAndSnapshot : Prop :=
  -- DbrkSuspendsBeforeTheNextStep
  (∀ (s : State) (sid : Nat) (h : Hdr),
    let v := (headRead s sid h).str sid
    HeadReady s sid 0xF0 h → ∃ t, exec (.dbrk sid) s = .next t ∧
      t.str sid = { v with waitSince := none, ptr := v.ptr + 1, st := .suspended, cause := 0xF002 } ∧
      (s.trv.noteTail - s.trv.noteHead ≠ 64 → t.trv.noteTail = s.trv.noteTail + 1 ∧
        (s.trv.noteTail.toNat % 64, ({ kind := 0x20, time := s.time, index := sid, detail := v.ptr } : Notice)) ∈ t.trv.notes) ∧
      (∀ j, j ≠ sid → t.str j = s.str j)) ∧
  -- DsnapWritesItsRecord
  (∀ (s : State) (sid : Nat) (h : Hdr),
    let v := (headRead s sid h).str sid
    let bytes := dsnapBytes (issued s sid h) { v with waitSince := none }
    HeadReady s sid 0xF1 h → bytes.length = 256 ∧ ∃ t, exec (.dsnap sid) s = .next t ∧
      CtlDone ((headRead s sid h).wr (v.win (bits h.ops 63 0)) bytes) t sid h { v with ptr := v.ptr + 1 })

/-- WLD, WSW and WREF on a Pan that is CALIBRATING or RETIRED are not applied: they go on with status 4 and name the Pan
(06, R196).

WLD and WREF join the write queue of their Pan and WSW its compute queue; behind work that stands there they wait, and
nothing else of any Pan changes (06, R197, R200, R201). -/
def Obligations.PanStepsJoinTheirQueues : Prop :=
  -- PanStepsAreNotAppliedOnAPanOutOfService
  (∀ (s : State) (sid : Nat) (h : Hdr),
    let p := s.target (s.str sid).bsk h.ops
    let r := { recAt s sid h with done := true, status := 4, detail := p }
    (takesWork (s.pan p) && decide (p < 272)) = false →
    (HeadReady s sid 0x10 h → ∃ t, exec (.wld sid) s = .next t ∧ StepGoes s t sid h ∧ FlyingAs s t sid r ∧ t.pans = s.pans) ∧
    (HeadReady s sid 0x11 h → ∃ t, exec (.wsw sid) s = .next t ∧ StepGoes s t sid h ∧ FlyingAs s t sid r ∧ t.pans = s.pans) ∧
    (HeadReady s sid 0x14 h → ∃ t, exec (.wref sid) s = .next t ∧ StepGoes s t sid h ∧ FlyingAs s t sid r ∧ t.pans = s.pans)) ∧
  -- PanStepsJoinTheirQueues
  (∀ (s : State) (sid : Nat) (h : Hdr),
    let v := s.str sid
    let p := s.target v.bsk h.ops
    let w := s.pan p
    let tile := bits h.ops 17 0 + iterOf v * bits h.ops 33 26
    (takesWork w && decide (p < 272)) = true →
    (HeadReady s sid 0x10 h → w.writeQ ≠ [] → ∃ t, exec (.wld sid) s = .next t ∧ StepGoes s t sid h ∧
      FlyingAs s t sid (recAt s sid h) ∧ (∀ q, q ≠ p → t.pan q = s.pan q) ∧
      t.pan p = { w with writeQ := w.writeQ ++ [.wld s.nextUid (s.wdesc v (s.blkOf v h).2) tile] }) ∧
    (HeadReady s sid 0x11 h → w.computeQ ≠ [] → ∃ t, exec (.wsw sid) s = .next t ∧ StepGoes s t sid h ∧
      FlyingAs s t sid (recAt s sid h) ∧ (∀ q, q ≠ p → t.pan q = s.pan q) ∧
      t.pan p = { w with computeQ := w.computeQ ++ [.wsw s.nextUid] }) ∧
    (HeadReady s sid 0x14 h → w.writeQ ≠ [] → ∃ t, exec (.wref sid) s = .next t ∧ StepGoes s t sid h ∧
      FlyingAs s t sid (recAt s sid h) ∧ (∀ q, q ≠ p → t.pan q = s.pan q) ∧
      t.pan p = { w with writeQ := w.writeQ ++ [.wref s.nextUid (bits h.ops 1 0)] }))

/-- A WLD of a local tile that finds its Pan with nothing to do writes the idle bank at once, from the tile's codes, its group
scales and its codebook, and is done with the bank and the Pan as its detail (02, R42, R45; 06, R197, R198). -/
def Obligations.WldWritesTheIdleBank : Prop :=
  ∀ (s : State) (sid : Nat) (h : Hdr),
    let v := s.str sid
    let p := s.target v.bsk h.ops
    let w := s.pan p
    let d := s.wdesc v (s.blkOf v h).2
    let tile := bits h.ops 17 0 + iterOf v * bits h.ops 33 26
    let n := 2048 * wBits d.wfmt
    let k := (formBank d tile (s.rd (locOf v d.space (d.src + tile * n)) n) (s.rd (v.win d.cb) 16) (s.tileScales d tile) w.calId (s.time + 130)).1
    HeadReady s sid 0x10 h → takesWork w = true → p < 272 → panBsk p = v.bsk → w.writeQ = [] → w.computeQ = [] →
    d.space ≤ 1 → ReadsGood s sid (loadRegions d tile) →
    ∃ t, exec (.wld sid) s = .next t ∧ StepGoes s t sid h ∧
      FlyingAs s t sid { recAt s sid h with done := true, detail := shl (b2n (!w.selB)) 16 + p } ∧
      t.pan p = { w.setBank (!w.selB) k with wrUntil := s.time + 130 } ∧ (∀ q, q ≠ p → t.pan q = s.pan q) ∧
      (∀ a, t.rdB a = s.rdB a)

/-- A WSW that finds its Pan computing nothing and no write of the idle bank to come changes the banks over at once; where
the idle bank is not valid it does not, and its status is 3 (02, R49; 06, R200).

A WREF that finds its Pan with nothing to do drives each valid bank it names anew from its copy, in 130 ns, counts a refresh of
the selected bank, and tells in its detail which it rewrote (06, R201). The copies of both banks are sound here. -/
def Obligations.WswAndWrefWorkOnTheBanks : Prop :=
  -- WswSwapsTheBanks
  (∀ (s : State) (sid : Nat) (h : Hdr),
    let v := s.str sid
    let p := s.target v.bsk h.ops
    let w := s.pan p
    let r := recAt s sid h
    HeadReady s sid 0x11 h → takesWork w = true → p < 272 → panBsk p = v.bsk → w.computeQ = [] →
    writePending w s.nextUid = false → overdue s.time w.idle = false →
    ∃ t, exec (.wsw sid) s = .next t ∧ StepGoes s t sid h ∧ (∀ q, q ≠ p → t.pan q = s.pan q) ∧
      (w.idle.valid = true → t.pan p = { w with selB := !w.selB } ∧
        FlyingAs s t sid { r with done := true, detail := shl (b2n (!w.selB)) 16 + p }) ∧
      (w.idle.valid = false → t.pan p = w ∧
        FlyingAs s t sid { r with done := true, status := 3, detail := shl (b2n w.selB) 16 + p })) ∧
  -- WrefRewritesTheBanksItNames
  (∀ (s : State) (sid : Nat) (h : Hdr),
    let v := s.str sid
    let p := s.target v.bsk h.ops
    let w := s.pan p
    let n := wrefBanks w (bits h.ops 1 0)
    let ra := n.1 && w.a.valid
    let rb := n.2 && w.b.valid
    HeadReady s sid 0x14 h → takesWork w = true → p < 272 → panBsk p = v.bsk → w.writeQ = [] → w.computeQ = [] →
    w.a.copyBad = false → w.b.copyBad = false →
    ∃ t, exec (.wref sid) s = .next t ∧ StepGoes s t sid h ∧ (∀ q, q ≠ p → t.pan q = s.pan q) ∧
      (t.pan p).a = (if ra then w.a.drive w.a.wfmt w.calId (s.time + 130) else w.a) ∧
      (t.pan p).b = (if rb then w.b.drive w.b.wfmt w.calId (s.time + 130) else w.b) ∧
      (t.pan p).wrUntil = (if ra || rb then s.time + 130 else w.wrUntil) ∧
      (t.pan p).refreshCnt = (if (if w.selB then rb else ra) then sat32 (w.refreshCnt + 1) else w.refreshCnt) ∧
      (t.pan p).selB = w.selB ∧ (t.pan p).writeQ = [] ∧ (t.pan p).computeQ = [] ∧
      FlyingAs s t sid { recAt s sid h with done := true, detail := shl (b2n ra + 2 * b2n rb) 16 + p })

/-- MVM and MVMW latch their block, go in flight naming their Pots and their scale entries, and put their walk, tile by tile,
behind what each service slot's Pan has to compute (05, R169; 06, R203). -/
def Obligations.MvmWalksEverySlot : Prop :=
  ∀ (s : State) (sid : Nat) (h : Hdr) (wide : Bool),
    let v := s.str sid
    let b := (s.blkOf v h).2
    let m := s.mvmRun v b s.nextUid sid wide
    let pots := mvmPots m.r m.n m.p0 m.rp m.cp
    let tiles := rbOf m.r * rbOf m.k
    HeadReady s sid (if wide then 0x13 else 0x12) h → mvmHold (headRead s sid h) sid h = false →
    ∃ t, exec (if wide then .mvmw sid else .mvm sid) s = .next t ∧ StepGoes s t sid h ∧
      FlyingAs s t sid { recAt s sid h with pots := pots, scales := [(fld b 0x4C 2, rbOf m.k)], outSat := m.outSat } ∧
      (t.bsk v.bsk).mvms = (s.bsk v.bsk).mvms ++ [m] ∧
      (∀ i p, i < m.slots → s.slotPan v.bsk i = some p →
        t.pan p = { s.pan p with computeQ := (s.pan p).computeQ ++ walkOf s.nextUid i tiles m.slots (ceilDiv m.n 512) }) ∧
      (∀ p, (∀ i, i < m.slots → s.slotPan v.bsk i ≠ some p) → t.pan p = s.pan p) ∧
      (∀ n, n ∉ pots → t.pot v.bsk n = s.pot v.bsk n) ∧ (∀ a, t.rdB a = s.rdB a)

/-- POPEN counts its Pots as open from its issue. A Pot that has no operation before it and no producer to wait for opens at
once, empty and with the step's shape and owner; behind an operation it waits. The Basket's other Pots stay
(04, R122 to R125; 06, R205). -/
def Obligations.PopenOpensItsPots : Prop :=
  ∀ (s : State) (sid : Nat) (h : Hdr),
    let v := s.str sid
    let np := bits h.ops 14 8
    let n0 := bits h.ops 5 0
    let rp := 16 * bits h.ops 26 16
    let cp := bits h.ops 44 32
    HeadReady s sid 0x20 h →
    ∃ t, exec (.popen sid) s = .next t ∧ StepGoes s t sid h ∧ (∀ a, t.rdB a = s.rdB a) ∧
      (∀ n, n < n0 ∨ n0 + np ≤ n → t.pot v.bsk n = s.pot v.bsk n) ∧
      (∀ n, n0 ≤ n → n < n0 + np →
        let q := t.pot v.bsk n
        (q.pred = .opened ∧ q.predOwner = sid ∧ q.predRp = rp ∧ q.predCp = cp ∧ q.predBound = none ∧ q.bands = [] ∧ q.depth = 0) ∧
        ((s.pot v.bsk n).waits ≠ [] → q.st = (s.pot v.bsk n).st ∧ q.elems = (s.pot v.bsk n).elems ∧
          q.waits = (s.pot v.bsk n).waits ++ [.popen s.nextUid rp cp]) ∧
        ((s.pot v.bsk n).waits = [] → s.potClear v.bsk n s.nextUid = true → (s.pot v.bsk n).st ≠ .closing →
          q.waits = [] ∧ q.st = .opened ∧ q.owner = sid ∧ q.rp = rp ∧ q.cp = cp ∧ q.elems = [] ∧ q.bound = none ∧
          q.ovf = false ∧ q.convSat = false ∧ q.outSat = false))

/-- SPILL adds its Pot into its buffer, element by element, and frees it, at once where nothing stands before it and behind it
where something does; RESUME opens a free Pot at zero, bound to its buffer (04, R127, R128; 06, R206).

A PCLOSE that nothing stands before, of a Pot that is not bound, to BF16 in local memory without statistics or an
operand: every column is written, element by element through the output scale, then the close record; the Pot is free and the
step done with the saturations as its detail. Behind an operation on its Pot it waits there (04, R129, R133; 06, R207, R210). -/
def Obligations.PotsAreSpilledResumedAndClosed : Prop :=
  -- SpillAndResumeMoveAPot
  (∀ (s : State) (sid : Nat) (h : Hdr),
    let v := s.str sid
    let n := bits h.ops 5 0
    let q := s.pot v.bsk n
    let buf := bits h.ops 95 64
    let rp := 16 * bits h.ops 42 32
    let cp := bits h.ops 60 48
    (HeadReady s sid 0x22 h → q.waits ≠ [] → ∃ t, exec (.spill sid) s = .next t ∧ StepGoes s t sid h ∧
      FlyingAs s t sid { recAt s sid h with units := 1 } ∧ (∀ a, t.rdB a = s.rdB a) ∧
      (∀ j, j ≠ n → t.pot v.bsk j = s.pot v.bsk j) ∧
      t.pot v.bsk n = { q with pred := .free, predBound := none, waits := q.waits ++ [.spill s.nextUid buf] }) ∧
    (HeadReady s sid 0x22 h → q.waits = [] → s.potClear v.bsk n s.nextUid = true → q.st ≠ .closing → q.ecc = [] →
      ReadsGood s sid [{ sp := 0, start := buf, pitch := 0, width := 16 * q.rp * q.cp, rows := 1 }] →
      ∃ t, exec (.spill sid) s = .next t ∧ StepGoes s t sid h ∧ (∀ j, j ≠ n → t.pot v.bsk j = s.pot v.bsk j) ∧
        t.pot v.bsk n = { freedPot q with
          pred := .free, predBound := none, ovf := q.ovf || (s.spillInto (v.win buf) q).2 } ∧
        t.mem = (s.spillInto (v.win buf) q).1.mem) ∧
    (HeadReady s sid 0x23 h → resumeHold (headRead s sid h) sid h = false → ∃ t, exec (.resume sid) s = .next t ∧ StepGoes s t sid h ∧
      FlyingAs s t sid { recAt s sid h with done := true, detail := 1 } ∧ (∀ a, t.rdB a = s.rdB a) ∧
      (∀ j, j ≠ n → t.pot v.bsk j = s.pot v.bsk j) ∧
      t.pot v.bsk n = { openedPot q sid rp cp (some buf) with
        pred := .opened, predOwner := sid, predRp := rp, predCp := cp, predBound := some buf, bands := [], depth := 0 })) ∧
  -- PcloseWritesItsPotOut
  (∀ (s : State) (sid : Nat) (h : Hdr),
    let v := s.str sid
    let b := (s.blkOf v h).2
    let n := fld b 0x0C 1
    let q := s.pot v.bsk n
    let d := closeDesc b v q.depth
    let r := { recAt s sid h with
      units := 1, block := (s.blkOf v h).1, scales := closeScales d q.predRp, firstTag := s.dzf.nextTag
      total := if d.omode = 0 then 0 else closeCount d.omode q.predRp q.predCp }
    let e := (List.range q.cp).map (fun j => (List.range q.rp).map (fun i => cp64Val (q.elem i j)))
    let o := e.map (fun c => c.map (narrow true (outRecip d.oscale)))
    let sat := countIf (·.2) o
    let fl := 64 * b2n q.eccCe + 4 * b2n q.convSat + 2 * b2n q.ovf + b2n (q.outSat || decide (0 < sat))
    HeadReady s sid 0x21 h → bit h.ops 0 = false →
    (q.waits ≠ [] → ∃ t, exec (.pclose sid) s = .next t ∧ StepGoes s t sid h ∧ FlyingAs s t sid r ∧
      (∀ a, t.rdB a = s.rdB a) ∧ (∀ j, j ≠ n → t.pot v.bsk j = s.pot v.bsk j) ∧
      t.pot v.bsk n = { q with pred := .free, predBound := none, waits := q.waits ++ [.pclose s.nextUid d] }) ∧
    (q.waits = [] → s.potClear v.bsk n s.nextUid = true → q.st ≠ .closing → q.ecc = [] → q.bound = none →
      d.omode = 0 → d.ofmt = 3 → d.flags = 0 → d.outSp = 0 →
      ∃ t, exec (.pclose sid) s = .next t ∧ StepGoes s t sid h ∧ (∀ j, j ≠ n → t.pot v.bsk j = s.pot v.bsk j) ∧
        (t.pot v.bsk n).st = .free ∧ (t.pot v.bsk n).elems = [] ∧ (t.pot v.bsk n).waits = [] ∧
        t.mem = ((s.wrRows (v.win d.out) d.opitch (o.map (fun c => c.flatMap (fun e => leBytes 2 e.1)))).wr (v.win d.crec)
          (closeRecord s.time n r d fl sat (countIf (fun x => !f32fin x) e) 0)).mem ∧
        FlyingAs s t sid { r with done := true, outSat := decide (0 < sat), detail := sat }))

/-- ROT rotates its vectors block by block, signs applied first, and writes them as BF16; with CHAIN it keeps them for the
QNT that follows and writes nothing (03, R83 to R85; 06, R211).

QNT quantises its vectors, its own inputs or those a ROT left it, through its scale entries, block of 128 by block, and
writes the codes (and the shadow codes where they are asked for), each entry brought up to date (03, R88 to R96; 06, R212).

SCUP LOAD reads entries from their images, SCUP SET changes the fields its masks name, and STAT writes entries out as
images, leaving them alone (03, Table 03-4; 06, R209, R213). -/
def Obligations.WhiskStepsMakeCodesAndEntries : Prop :=
  -- RotRotatesItsVectors
  (∀ (s : State) (sid : Nat) (h : Hdr),
    let v := s.str sid
    let b := (s.blkOf v h).2
    let ctl := fld b 0x1B 1
    let c := fld b 0x14 4
    let n := fld b 0x18 2
    let ys := (List.range n).map (fun j => rotVec (ctl % 4) (if bit ctl 2 then some (fldF b 0x10) else none)
      (s.vec (fld b 0x1A 1) (rowAt v (fld b 0 4) (fld b 4 4) j) c))
    HeadReady s sid 0x30 h → ReadsGood s sid (stepRegions s v 0x30 b).1 →
    ∃ t, exec (.rot sid) s = .next t ∧ StepGoes s t sid h ∧
      (bit ctl 3 = false → FlyingAs s t sid { recAt s sid h with done := true } ∧
        t.mem = (s.wrRows (v.win (fld b 8 4)) (fld b 0x0C 4) (ys.map (fun y => y.flatMap (fun x => leBytes 2 (storeBf16 x))))).mem) ∧
      (bit ctl 3 = true → FlyingAs s t sid (recAt s sid h) ∧ t.mem = s.mem ∧
        (t.str sid).chain = some { uid := s.nextUid, c := c, n := n, vals := ys } ∧ (t.str sid).chained = true)) ∧
  -- QntWritesCodesAndEntries
  (∀ (s : State) (sid : Nat) (h : Hdr),
    let v := s.str sid
    let b := (s.blkOf v h).2
    let c := fld b 0x1C 4
    let hnd := fld b 0x22 2
    let f := fld b 0x25 1
    let ctl := fld b 0x26 1
    let xs := match v.chain with
      | some k => if fld b 0x24 1 = 3 then k.vals else []
      | none => (List.range (fld b 0x20 2)).map (fun j => s.vec (fld b 0x24 1) (rowAt v (fld b 0 4) (fld b 4 4) j) c)
    let o := s.quantise v.bsk hnd f (bit ctl 1) (s.zeroPoints v f c (bit ctl 0) (fld b 0x18 4)) xs
    let u := s.wrRows (v.win (fld b 8 4)) (fld b 0x0C 4) (o.2.codes.map (packCodes (aBits f)))
    HeadReady s sid 0x31 h → qntHold (headRead s sid h) sid h = false → ReadsGood s sid (stepRegions s v 0x31 b).1 →
    ∃ t, exec (.qnt sid) s = .next t ∧ StepGoes s t sid h ∧ (t.str sid).chain = none ∧ t.scales = o.1.scales ∧
      t.mem = (if bit ctl 1 then u.wrRows (v.win (fld b 0x10 4)) (fld b 0x14 4) (o.2.shadow.map (packCodes 8)) else u).mem ∧
      FlyingAs s t sid { recAt s sid h with
        scales := [(hnd, rbOf c)], done := true, detail := o.2.wide.length, widen := !o.2.wide.isEmpty
        chainOf := v.chain.map (·.uid) }) ∧
  -- ScaleEntriesLoadSetAndStore
  (∀ (s : State) (sid : Nat) (h : Hdr),
    let v := s.str sid
    let hnd := bits h.ops 13 0
    let cnt := bits h.ops 45 32 + 1
    let a := bits h.ops 95 64
    let r := { recAt s sid h with scales := [(hnd, cnt)] }
    let imgs := (List.range cnt).map (fun i => s.rdN (v.win (a + 64 * i)) 64)
    scupHold (headRead s sid h) sid h = false →
    (HeadReady s sid 0x32 h → bits h.ops 47 46 = 0 →
      ReadsGood s sid [{ sp := 0, start := a, pitch := 0, width := 64 * cnt, rows := 1 }] →
      ∃ t, exec (.scup sid) s = .next t ∧ StepGoes s t sid h ∧ t.mem = s.mem ∧
        FlyingAs s t sid { r with done := true, detail := (imgs.filter imageRsv).length } ∧
        (∀ i, i < cnt → t.scale v.bsk (hnd + i) = imageScale (s.rdN (v.win (a + 64 * i)) 64)) ∧
        (∀ n, n < hnd ∨ hnd + cnt ≤ n → t.scale v.bsk n = s.scale v.bsk n)) ∧
    (HeadReady s sid 0x32 h → bits h.ops 47 46 ≠ 0 →
      ∃ t, exec (.scup sid) s = .next t ∧ StepGoes s t sid h ∧ t.mem = s.mem ∧ FlyingAs s t sid { r with done := true } ∧
        (∀ i, i < cnt → t.scale v.bsk (hnd + i) = scaleSet h.ops (s.scale v.bsk (hnd + i))) ∧
        (∀ n, n < hnd ∨ hnd + cnt ≤ n → t.scale v.bsk n = s.scale v.bsk n)) ∧
    (HeadReady s sid 0x33 h →
      ∃ t, exec (.stat sid) s = .next t ∧ StepGoes s t sid h ∧ t.scales = s.scales ∧ FlyingAs s t sid { r with done := true } ∧
        t.mem = (s.wr (v.win a) ((List.range cnt).flatMap (fun i => scaleImage (s.scale v.bsk (hnd + i))))).mem))

/-- VOP reads its vectors, combines them by its operation, and writes them in the output format, its detail the elements that
saturated (06, R214).

ATT whose pages all stand in HBM attends from every query of every head over the positions its page table names, and
writes the outputs, and the log-sum-exps where they are asked for (06, R215, R216). -/
def Obligations.VectorStepsWriteTheirResults : Prop :=
  -- VopWritesItsVectors
  (∀ (s : State) (sid : Nat) (h : Hdr),
    let v := s.str sid
    let b := (s.blkOf v h).2
    let c := fld b 0x18 4
    let op := fld b 0x1E 1
    let f := fld b 0x1F 1
    let xa (j : Nat) := s.vec (vfmt (f % 4)) (rowAt v (fld b 0 4) (fld b 4 4) j) c
    let xb (j : Nat) := if vopB op then s.vec (vfmt (f / 4 % 4)) (rowAt v (fld b 8 4) (fld b 0x0C 4) (if bit f 6 then 0 else j)) c else []
    let rows := (List.range (fld b 0x1C 2)).map (fun j =>
      (vopVec op (fldF b 0x20) (fldF b 0x24) (xa j) (xb j)).map (outElem (f / 16 % 4)))
    HeadReady s sid 0x40 h → ReadsGood s sid (stepRegions s v 0x40 b).1 →
    ∃ t, exec (.vop sid) s = .next t ∧ StepGoes s t sid h ∧
      t.mem = (s.wrRows (v.win (fld b 0x10 4)) (fld b 0x14 4) (rows.map (fun x => x.flatMap (·.1)))).mem ∧
      FlyingAs s t sid { recAt s sid h with done := true, detail := countIf (·.2) rows }) ∧
  -- AttWritesItsOutputs
  (∀ (s : State) (sid : Nat) (h : Hdr),
    let v := s.str sid
    let b := (s.blkOf v h).2
    let a := attArgs b
    let pt := fld b 8 4
    let pages := s.attPages v pt a
    let res := (List.range a.nq).flatMap (fun i => (List.range a.hq).map (fun k => s.attOne v (fld b 0 4) pt a i k))
    let out := res.map (fun x => x.1.map (outElem (if a.fmt / 16 % 4 = 0 then 0 else 1)))
    let u := s.wr (v.win (fld b 4 4)) (out.flatMap (fun x => x.flatMap (·.1)))
    HeadReady s sid 0x41 h → ReadsGood s sid (stepRegions s v 0x41 b).1 → pages.any pageBad = false →
    ReadsGood s sid (pages.map (fun p => { sp := 1, start := p, pitch := 0, width := 64 * a.d * a.kvB, rows := 1 })) →
    ∃ t, exec (.att sid) s = .next t ∧ StepGoes s t sid h ∧
      t.mem = (if bit a.fmt 6 then u.wr (v.win (fld b 0x24 4)) (res.flatMap (fun x => leBytes 4 x.2.toNat)) else u).mem ∧
      FlyingAs s t sid { recAt s sid h with done := true, detail := countIf (·.2) out })

/-- DMA whose host accesses go through moves or fills its rows in ascending order, and a GATH of a local table copies the rows
its indices name, in order, with zeros for an index at or past LIMIT; both are done (06, R192, R217, R220).

GET, PUT, AADD and a GATH of a global table cut their work into 64-byte units in ascending order, take as many
consecutive tags, hand the units to the fabric engine and stand in flight with their count (06, R218 to R222; 07, R252). -/
def Obligations.DataMoversAndFabricSteps : Prop :=
  -- DmaAndLocalGathMoveTheirRows
  (∀ (s : State) (sid : Nat) (h : Hdr),
    let v := s.str sid
    let b := (s.blkOf v h).2
    let m := s.dmaRows v b (fld b 0x14 4) 0
    let idx := s.gathIdx v b
    let out := (idx.filter (fun i => decide (fld b 0x24 4 ≤ i))).length
    (HeadReady s sid 0x50 h → ReadsGood s sid (stepRegions s v 0x50 b).1 → m.2 = none →
      ∃ t, exec (.dma sid) s = .next t ∧ StepGoes s t sid h ∧ t.mem = m.1.mem ∧ t.host = m.1.host ∧
        FlyingAs s t sid { recAt s sid h with done := true }) ∧
    (HeadReady s sid 0x54 h → fld b 8 1 = 1 →
      ReadsGood s sid ({ sp := 0, start := fld b 0x0C 4, pitch := 0, width := 4 * fld b 0x10 4, rows := 1 } :: gathRegions b idx) →
      ∃ t, exec (.gath sid) s = .next t ∧ StepGoes s t sid h ∧ t.mem = (s.gathRows v b idx).mem ∧
        FlyingAs s t sid { recAt s sid h with block := (s.blkOf v h).1, done := true, detail := out })) ∧
  -- FabricStepsIssueTheirUnits
  (∀ (s : State) (sid : Nat) (h : Hdr),
    let v := s.str sid
    let off := (s.blkOf v h).1
    let b := (s.blkOf v h).2
    let who : UnitFor := .step s.nextUid v.bsk
    let idx := s.gathIdx v b
    let Sent (t : State) (us : List (Nat → Nat → FUnit)) (r : StepRec) : Prop :=
      StepGoes s t sid h ∧ t.dzf.nextTag = (s.dzf.nextTag + us.length) % 2 ^ 32 ∧
      FlyingAs s t sid { r with units := us.length, total := us.length, firstTag := s.dzf.nextTag, done := decide (us.length = 0) } ∧
      (∀ u, u ∈ numberUnits s.dzf.nextTag us →
        u ∈ t.dzf.backlog ∨ ∃ w, w ∈ t.dzf.units ∧ w.pkt.tag = u.pkt.tag ∧ w.who = u.who ∧ w.part = u.part)
    let r := { recAt s sid h with block := off }
    (HeadReady s sid 0x51 h → bit h.ops 0 = false →
      ∃ t, exec (.get sid) s = .next t ∧ t.mem = s.mem ∧ Sent t (gpUnits v who (gpClass h) true b) r) ∧
    (HeadReady s sid 0x52 h → bit h.ops 0 = false → ReadsGood s sid (stepRegions s v 0x52 b).1 →
      ∃ t, exec (.put sid) s = .next t ∧ t.mem = s.mem ∧ Sent t (gpUnits v who (gpClass h) false b) r) ∧
    (HeadReady s sid 0x53 h → bit h.ops 0 = false → ReadsGood s sid (stepRegions s v 0x53 b).1 →
      ∃ t, exec (.aadd sid) s = .next t ∧ t.mem = s.mem ∧ Sent t (aaddUnits v who b) r) ∧
    (HeadReady s sid 0x54 h → fld b 8 1 ≠ 1 →
      ReadsGood s sid [{ sp := 0, start := fld b 0x0C 4, pitch := 0, width := 4 * fld b 0x10 4, rows := 1 }] →
      ∃ t, exec (.gath sid) s = .next t ∧ t.mem = (s.gathRows v b idx).mem ∧
        Sent t (gathUnits v who b idx) { r with detail := (idx.filter (fun i => decide (fld b 0x24 4 ≤ i))).length }))

/-- A step whose work is done and whose order lets it completes, at STEP_COMPLETION or, after it waited for the ring, at the
poll 1 µs on that finds a place: it leaves flight, its stream's flags follow it, its record is written behind the ring's tail
and its token signalled. Steps with failed parts, HALT and a QNT whose ROT completes with it are not spoken of here (05, R149,
R152; 06, R193; 07, R233). -/
def Obligations.StepsThatAreDoneComplete : Prop :=
  ∀ (s : State) (sid : Nat) (r : StepRec),
    let v := s.str sid
    let After (u t : State) : Prop :=
      let a := v.win v.cring + v.crTail % 2 ^ v.crLog2 * 32
      t.bsk v.bsk = { s.bsk v.bsk with inflight := (s.bsk v.bsk).inflight.filter (fun x => x.uid != r.uid) } ∧
      t.str sid = { v with
        flags := flagsAfter v.flags r, retry := retryAfter v.retry r
        crTail := if hasRecord r.opc then (v.crTail + 1) % 2 ^ 32 else v.crTail } ∧
      (∀ j, j ≠ sid → t.str j = s.str j) ∧ t.tokens = (u.sig v.bsk r.sig).tokens ∧ t.globals = (u.sig v.bsk r.sig).globals ∧
      (hasRecord r.opc = true → ∀ k, k < 32 → ¬ (descAddr sid ≤ a + k ∧ a + k < descAddr sid + 64) →
        t.rdB (a + k) = (recBytes u.time r).getD k 0) ∧
      (∀ k, (hasRecord r.opc = true → k < a ∨ a + 32 ≤ k) → ¬ (descAddr sid ≤ k ∧ k < descAddr sid + 64) → t.rdB k = s.rdB k)
    sid < 131072 → r.sid = sid → r.h = v.bsk → r.done = true → r.chainOf.bind (s.bsk v.bsk).rec? = none → ordClear (s.bsk v.bsk).inflight r = true → r.status ≠ 2 →
    r.opc ≠ 0x0A → (hasRecord r.opc = true → s.ringFull sid = false) →
    ((s.bsk v.bsk).rec? r.uid = some r → ∃ t, exec (.stepCompletion sid r.uid) s = .next t ∧ t.time = s.time ∧ After s t) ∧
    ((s.bsk v.bsk).inflight.find? (fun x => x.sid = sid && x.stalled) = some r →
      ∃ t, exec (.ringHeadPoll sid) s = .next t ∧ t.time = s.time + 1000 ∧ After (s.at (s.time + 1000)) t)

/-- A head step whose token has stayed short for longer than TOK_TMO milliseconds raises an event of class X that names its
stream and, as detail, the token's code, and the stream is ABORTED with that cause; TOK_TMO = 0 sets no limit, and a step
whose token has come is not timed out (05, R156, R158). -/
def Obligations.TokenTimeoutAbortsTheStream : Prop :=
  ∀ (s : State) (sid τ c : Nat),
    let v := s.str sid
    let tmo := (s.bsk v.bsk).seqCfg.toNat % 65536
    let short := (s.tok v.bsk c).count ≤ s.waitersAhead sid v.bsk c τ
    sid < 131072 → v.waitSince = some (τ, c) → v.st = .resident →
    (tmo = 0 ∨ ¬ short → exec (.tokenTimeout sid) s = .next s) ∧ (tmo ≠ 0 → short → ∃ t, exec (.tokenTimeout sid) s = .next t ∧ t.time = max s.time (τ + tmo * 1000000 + 1) ∧
      (t.str sid).st = .aborted ∧ (t.str sid).cause = 0x0404 ∧ (t.str sid).ptr = v.ptr ∧ (t.str sid).waitSince = none ∧
      (∀ j, j ≠ sid → t.str j = s.str j) ∧ (∀ r, r ∈ (t.bsk v.bsk).inflight → r.sid ≠ sid) ∧
      (∃ e, e ∈ t.evq ∧ e.code = 0x0404 ∧ e.cls = 4 ∧ e.unit = 0x01 ∧ e.index = v.bsk ∧ e.stream = some sid ∧
        e.step = shl (v.bsk % 16) 24 + v.ptr % 2 ^ 24 ∧ e.detail = c ∧ e.time = t.time))

/-- A write of BSK_TOK_SIG adds one to the token its bits 7:0 name, up to 65,535, and sets its OVF where it stood there
already; code 0x00 and reserved codes change nothing; no other token changes (05, R155, R159). -/
def Obligations.TokenSignalWriteAddsOne : Prop :=
  ∀ (s : State) (h : Nat) (w : W32),
    let c := w.toNat % 256
    let k := s.tok h c
    h < 16 →
    (c = 0 ∨ tokLegal c = false → exec (.tokenSignalWrite h w) s = .next s) ∧
    (c ≠ 0 → tokLegal c = true → ∃ t, exec (.tokenSignalWrite h w) s = .next t ∧
      t.tok h c = { count := min 65535 (k.count + 1), ovf := k.ovf || decide (k.count = 65535) } ∧
      (c ≤ 0x20 → t = { s with tokens := t.tokens } ∧
        ∀ n, n ≠ h * 32 + (c - 1) → tget tokDflt t.tokens n = tget tokDflt s.tokens n) ∧
      (0x20 < c → t = { s with globals := t.globals, hq := t.hq, msix := t.msix } ∧
        ∀ n, n ≠ c - 0x81 → tget tokDflt t.globals n = tget tokDflt s.globals n))

/-- START, RESUME, ABORT, MIGRATE and RESET given by GCTL_STRM_CMD, and the placement of a stream that waits, where nothing
refuses them: the stream's new state and Basket, and RESULT 0; no other stream changes (07, R231 to R238, Table 07-5). -/
def Obligations.StreamCommandsMoveStreams : Prop :=
  ∀ (s : State) (i g : Nat),
    let v := s.str i
    let d := s.descNum i
    let ptr := fld d 0x0C 3
    let Told (t : State) : Prop := t.dev.stResult = 0 ∧ t.dev.stStream = i ∧ t.dev.stBusy = false ∧ ∀ j, j ≠ i → t.str j = s.str j
    i < 131072 → s.stateRsv i = false → s.dev.stBusy = false →
    (v.st = .idle ∨ v.st = .ended ∨ v.st = .aborted → descBad d = false → s.imageBad (fld d 0 8) = none →
      (s.placeAt (fld d 0x0A 2) (fun _ => true) = some g →
        ∃ t, exec (.start i 0) s = .next t ∧ Told t ∧ (t.str i).st = .resident ∧ (t.str i).bsk = g ∧ (t.str i).ptr = ptr ∧
          (t.str i).loops = [] ∧ (t.str i).calls = [] ∧ (t.str i).flags = {} ∧ (t.bsk g).st = .run) ∧
      (s.placeAt (fld d 0x0A 2) (fun _ => true) = none →
        ∃ t, exec (.start i 0) s = .next t ∧ Told t ∧ (t.str i).st = .pending ∧ (t.str i).ptr = ptr ∧
          t.waiting = s.waiting ++ [i])) ∧
    (v.st = .suspended → descBad d = false → v.migSaved = false →
      ∃ t, exec (.streamResume i 0) s = .next t ∧ Told t ∧ (t.str i).st = .resident ∧ (t.str i).bsk = v.bsk ∧
        (t.str i).ptr = ptr ∧ (t.str i).loops = v.loops ∧ (t.str i).calls = v.calls ∧ (t.str i).flags = v.flags) ∧
    (v.st = .pending ∨ v.st = .resident ∨ v.st = .suspended ∨ v.st = .migrating →
      ∃ t, exec (.abort i 0) s = .next t ∧ Told t ∧ (t.str i).st = .aborted ∧ (t.str i).cause = 0xF004 ∧
        (t.str i).loops = [] ∧ (t.str i).calls = [] ∧ i ∉ t.waiting ∧
        (∀ r, r ∈ (t.bsk v.bsk).inflight → r.sid ≠ i)) ∧
    (v.st = .ended ∨ v.st = .aborted →
      ∃ t, exec (.streamReset i 0) s = .next t ∧ Told t ∧ t.str i = { v with st := .idle, cause := 0, bsk := 0 })

/-- YIELD with a test or a migration pending, its steps in flight over, suspends its stream at the YIELD with CAUSE 0xF001;
where a test is pending and a Basket takes the stream it is MIGRATING there instead (log entry 122, DESIGN CHOICE). PTR stays
(05, R183; 10, R332).

MIGRATE where nothing refuses it leaves its stream MIGRATING and the command BUSY; the move, once nothing of the stream is
in flight, saves it and then opens it on the other Basket with its entries and Pots and reports RESULT 0, in two commands
(log entry 121, DESIGN CHOICE); a PENDING stream is placed, the first of them in order, where a Basket can take it
(07, R232, R237, R238). -/
def Obligations.StreamsYieldMoveAndArePlaced : Prop :=
  -- YieldSuspendsForATestOrAMigration
  (∀ (s : State) (sid : Nat),
    let v := s.str sid
    let h := hdrOf (s.rdN v.stepAddr 16)
    sid < 131072 → s.issues sid = true → v.ptr < v.tblSteps → h.opc = 0x09 → predHolds v.flags h.pred = true →
    s.validate sid h = none → s.movePending sid = true → (∀ r, r ∈ (s.bsk v.bsk).inflight → r.sid ≠ sid) →
    ∃ t, exec (.yieldSuspend sid) s = .next t ∧ (∀ j, j ≠ sid → t.str j = s.str j) ∧
      ((s.bsk v.bsk).testDefer = none ∨ s.moveTarget sid v.bsk = none →
        t.str sid = { v with st := .suspended, cause := 0xF001, waitSince := none, atYield := true }) ∧
      (∀ g, (s.bsk v.bsk).testDefer ≠ none → s.moveTarget sid v.bsk = some g →
        t.str sid = { v with st := .migrating, migTo := some g, wasRes := true, waitSince := none, migReg := false
                             migBy := none, atYield := false })) ∧
  -- StreamsAreMovedAndPlaced
  (∀ (s : State) (i g : Nat),
    let v := s.str i
    let u := s.readDesc i v
    (i < 131072 → g < 16 → s.stateRsv i = false → s.dev.stBusy = false → v.st = .resident ∨ v.st = .suspended →
      descBad (s.descNum i) = false → s.takesStream u.aff g = true → s.migBad i g u = none →
      ∃ t, exec (.migrate i g) s = .next t ∧ t.dev.stBusy = true ∧ t.dev.stStream = i ∧ (∀ j, j ≠ i → t.str j = s.str j) ∧
        t.str i = { u with st := .migrating, migTo := some g, wasRes := decide (v.st = .resident), waitSince := none
                           migReg := true, bsk := if v.migSaved then g else v.bsk }) ∧
    (i < 131072 → v.st = .migrating → v.migTo = some g → v.migSaved = false → (∀ r, r ∈ (s.bsk v.bsk).inflight → r.sid ≠ i) →
      s.ownPots v.bsk i .held = [] →
      (∀ n, n ∈ s.ownPots v.bsk i .opened → (s.pot g n).st = .free ∧ (s.pot v.bsk n).ecc = []) →
      s.entriesUsed g i v.shnd v.scnt = false → s.memBad = [] →
      ∃ t, exec (.migrationMove i) s = .next t ∧ (∀ j, j ≠ i → t.str j = s.str j) ∧ (t.str i).bsk = g ∧
        (t.str i).st = .migrating ∧ (t.str i).migSaved = true ∧ (t.str i).migTo = some g ∧
        (t.str i).migPots.map (·.1) = s.ownPots v.bsk i .opened ∧
        (∀ n, n ∈ s.ownPots v.bsk i .opened → (t.pot v.bsk n).st = .free) ∧ t.scales = s.scales) ∧
    (i < 131072 → v.st = .migrating → v.migTo = some g → v.migSaved = true → inService (s.bsk g) = true →
      s.entriesUsed g i v.shnd v.scnt = false → s.potsFit g v = true → s.imagesBad v = none →
      ∃ t, exec (.migrationMove i) s = .next t ∧ (∀ j, j ≠ i → t.str j = s.str j) ∧ (t.str i).bsk = g ∧
        (t.str i).st = (if v.wasRes then .resident else .suspended) ∧ (t.str i).migTo = none ∧ (t.str i).migReg = false ∧
        (∀ k, k < v.scnt → t.scale g (v.shnd + k) = imageScale (s.rdN (v.win (v.migb + 64 * k)) 64)) ∧
        (∀ e, e ∈ v.migPots → (t.pot g e.1).st = .opened ∧ (t.pot g e.1).owner = i) ∧
        (t.str i).ptr = v.ptr ∧ (t.str i).loops = v.loops ∧ (t.str i).calls = v.calls ∧ (t.str i).flags = v.flags ∧
        (v.migReg = true → t.dev.stBusy = false ∧ t.dev.stResult = 0 ∧ t.dev.stStream = i)) ∧
    (s.waiting.find? (fun k => (s.placeAt (s.str k).aff (fun _ => true)).isSome) = some i →
      s.placeAt v.aff (fun _ => true) = some g →
      ∃ t, exec .streamPlacement s = .next t ∧ t.str i = { v with st := .resident, bsk := g } ∧
        (∀ j, j ≠ i → t.str j = s.str j) ∧ t.waiting = s.waiting.filter (fun k => k != i)))

/-- TILE_LOAD runs the write at the head of a Pan's queue, BANK_SWAP the swap at the head of its compute queue, and a bank that
falls due at 20 µs is refreshed, or, found bad, made invalid and loaded again (02, R42, R45, R47 to R49; 06, R197, R200). -/
def Obligations.BanksAreWrittenSwappedAndRefreshed : Prop :=
  ∀ (s : State) (p : Nat),
    let w := s.pan p
    (∀ u d tile rest, p < 272 → takesWork w = true → s.clocked = true → w.writeQ = .wld u d tile :: rest → w.computeQ = [] → d.space ≤ 1 →
      (loadRegions d tile).findSome? (s.regionBad { winBase := d.win }) = none →
      let n := 2048 * wBits d.wfmt
      let x : Stream := { winBase := d.win }
      let k := (formBank d tile (s.rd (locOf x d.space (d.src + tile * n)) n) (s.rd (x.win d.cb) 16) (s.tileScales d tile) w.calId
        (s.time + 130)).1
      ∃ t, exec (.tileLoad p) s = .next t ∧ t.pan p = { w.setBank (!w.selB) k with writeQ := rest, wrUntil := s.time + 130 } ∧
        (∀ q, q ≠ p → t.pan q = s.pan q) ∧ (∀ a, t.rdB a = s.rdB a)) ∧
    (∀ u rest, p < 272 → takesWork w = true → s.clocked = true → w.computeQ = .wsw u :: rest → writePending w u = false →
      overdue s.time w.idle = false → w.idle.valid = true →
      ∃ t, exec (.bankSwap p) s = .next t ∧ t.pan p = { w with selB := !w.selB, computeQ := rest } ∧
        (∀ q, q ≠ p → t.pan q = s.pan q)) ∧
    (∀ isB f, p < 272 → s.clocked = true → (w.bank isB).valid = true → f ≠ .bad → (w.bank isB).copyBad = false →
      ∃ t, exec (.bankRefresh p isB f) s = .next t ∧ t.time = max s.time (max ((w.bank isB).writtenAt + 20000) w.wrUntil) ∧
        (t.pan p).bank isB = (w.bank isB).drive (w.bank isB).wfmt w.calId (t.time + 130) ∧ (t.pan p).wrUntil = t.time + 130 ∧
        (t.pan p).bank (!isB) = w.bank (!isB) ∧
        t.evq = (if w.selB = isB then s.evq ++ [{ time := t.time, code := 0x0102, cls := 0, unit := 0x02, index := p, stream := none
                                                  step := 0, detail := 0 }] else s.evq) ∧
        (t.pan p).refreshCnt = (if w.selB = isB then sat32 (w.refreshCnt + 1) else w.refreshCnt) ∧
        (∀ q, q ≠ p → t.pan q = s.pan q)) ∧
    (∀ isB, p < 272 → s.clocked = true → (w.bank isB).valid = true →
      ∃ t, exec (.bankRefresh p isB .bad) s = .next t ∧ ((t.pan p).bank isB).valid = false ∧
        (t.pan p).writeQ = reloadOf isB (w.bank isB) ++ w.writeQ ∧
        t.evq = s.evq ++ [{ time := t.time, code := 0x0103, cls := 1, unit := 0x02, index := p, stream := none, step := 0, detail := 0 }])

/-- A group block of an MVM or MVMW at the head of its Pan's walk, its tile on the selected bank, ends: it is counted,
remembered in the Pan's ring of the last eight, and the walk goes on by a block, or, after the tile's last, to the next tile;
where the activity plan does not let it drive, the Pan waits at level 0. An element of a closed and whole window lands in its
Pot as the sum of the window's leaves; where a parity error is found instead, the window's blocks run again from the ring
that holds them all (04, R115 to R119, R483; 05, R169 to R172, R177). -/
def Obligations.GroupBlocksAndPromotionsGoOn : Prop :=
  ∀ (s : State) (p : Nat),
    let b := s.bsk (panBsk p)
    let v := s.pan p
    (∀ u tile n rest m r parity, p < 272 → v.computeQ = .tile u tile n :: rest → b.mvm? u = some m →
      m.uid = u → b.rec? u = some r → v.mode = .inService ∨ v.mode = .suspect → b.st = .ready ∨ b.st = .run ∨ b.st = .draining →
      s.clocked = true → v.sel.holds m.desc tile = true → overdue s.time v.sel = false →
      let pass := if m.wide then 1 + v.progress % 2 else 0
      let group := if m.wide then v.progress / 2 else v.progress
      let home := match v.lastHigh with
        | some (hm, _, _) => hm
        | none => p
      s.regionBad { winBase := m.desc.win } (m.actRegion (tile % m.desc.kb) group n) = none →
      (pass = 2 → (s.pan home).bufBusy = false) →
      (pass ≠ 2 → maxNat ((List.range 128).map v.entries) + m.vecs n ≤ 4096) →
      let goes := mayDrive (bit b.seqCfg.toNat 16) s.time v m (driveOf (m.vecs n) (m.fast && b.rate = 3))
      (goes = true → ∃ t, exec (.groupBlockEnd p parity) s = .next t ∧ (t.pan p).blockCnt = v.blockCnt + 1 ∧
        (t.pan p).progress = (if v.progress + 1 = m.blocks then 0 else v.progress + 1) ∧
        (t.pan p).computeQ = (if v.progress + 1 = m.blocks then rest else v.computeQ) ∧
        (∃ k, (t.pan p).ring = takeLast 8 (v.ring ++ [k]) ∧ k.step = u ∧ k.tile = tile ∧ k.group = group ∧ k.batch = n ∧
          k.pass = pass ∧ k.home = (if pass = 2 then home else p))) ∧
      (goes = false → exec (.groupBlockEnd p parity) s = .next (s.setPan p { v with level0 := true, paced := true }))) ∧
    (∀ slot col w m r, p < 272 → argMin (fun w => w.ready.getD 0) (v.windows.filter (s.mayLand (panBsk p) slot col)) = some w →
      b.mvm? w.step = some m → b.rec? w.step = some r →
      let at' := m.place (128 * w.rb + slot) (512 * w.batch + col)
      let q := s.pot (panBsk p) at'.1
      q.ecc = [] →
      let e := cp64Promote (tget (fun _ => (0, 0)) q.elems at'.2)
        (treeSum (w.leaves.map (fun l => match l with | some l => l.elem slot col | none => 0)))
      ∃ t, exec (.promotion p slot col false) s = .next t ∧
        t.pot (panBsk p) at'.1 = { q with
          elems := tset (fun _ => (0, 0)) q.elems at'.2 e, ovf := q.ovf || !f32fin e.1
          convSat := q.convSat || w.convSat, outSat := q.outSat || m.outSat } ∧
        (∀ n, n ≠ at'.1 → t.pot (panBsk p) n = s.pot (panBsk p) n)) ∧
    (∀ slot col w m r, p < 272 → argMin (fun w => w.ready.getD 0) (v.windows.filter (s.mayLand (panBsk p) slot col)) = some w →
      b.mvm? w.step = some m → b.rec? w.step = some r →
      let n := w.leaves.length * (if m.wide then 2 else 1)
      (v.ring.filter (fun k => k.window = w.id && k.home = p && k.step = w.step)).length = n →
      ∃ t, exec (.promotion p slot col true) s = .next t ∧ t.pots = s.pots ∧
        (t.pan p).ladders.length = v.ladders.length + n ∧
        t.evq = s.evq ++ [{ time := s.time, code := 0x0203, cls := 1, unit := 0x02, index := p, stream := some r.sid
                            step := shl (r.h % 16) 24 + r.idx % 2 ^ 24, detail := shl 1 28 + slot }])

/-- The first operation that waits on a Pot starts once its producers have landed. A POPEN opens it, empty and with the step's
shape and owner; a SPILL adds it into its buffer and frees it; a PCLOSE to BF16 in local memory writes its columns and its
close record and frees it; where the Pot is not ready yet nothing happens. PAN_CTL.CNT_CLR clears the Pan's three counters
(04, R122, R124, R127, R129, R133; 02, Table 02-18). -/
def Obligations.PotWaitsEndAndPanCountersClear : Prop :=
  (∀ (s : State) (h n : Nat) (w : PotWait) (rest : List PotWait) (r : StepRec),
    let q := s.pot h n
    let v := s.str r.sid
    h < 16 → n < 64 → q.waits = w :: rest → (s.bsk h).rec? w.uid = some r →
    (s.waitReady h n w = false → exec (.potWaitEnd h n) s = .next s) ∧
    (∀ i rp cp, s.waitReady h n w = true → w = .popen i rp cp →
      ∃ t, exec (.potWaitEnd h n) s = .next t ∧ t.pot h n = openedPot { q with waits := rest } r.sid rp cp none ∧
        (∀ k, k ≠ n → t.pot h k = s.pot h k) ∧ t.mem = s.mem) ∧
    (∀ i a, s.waitReady h n w = true → w = .spill i a → q.ecc = [] →
      s.regionBad v { sp := 0, start := a, pitch := 0, width := 16 * q.rp * q.cp, rows := 1 } = none →
      ∃ t, exec (.potWaitEnd h n) s = .next t ∧
        t.pot h n = { freedPot { q with waits := rest } with ovf := q.ovf || (s.spillInto (v.win a) q).2 } ∧
        (∀ k, k ≠ n → t.pot h k = s.pot h k) ∧ t.mem = (s.spillInto (v.win a) q).1.mem) ∧
    (∀ i d, s.waitReady h n w = true → w = .pclose i d → i = r.uid → q.ecc = [] → q.bound = none →
      d.omode = 0 → d.ofmt = 3 → d.flags = 0 → d.outSp = 0 →
      let e := (List.range q.cp).map (fun j => (List.range q.rp).map (fun i => cp64Val (q.elem i j)))
      let o := e.map (fun c => c.map (narrow true (outRecip d.oscale)))
      let sat := countIf (·.2) o
      let fl := 64 * b2n q.eccCe + 4 * b2n q.convSat + 2 * b2n q.ovf + b2n (q.outSat || decide (0 < sat))
      ∃ t, exec (.potWaitEnd h n) s = .next t ∧ (t.pot h n).st = .free ∧ (t.pot h n).elems = [] ∧ (t.pot h n).waits = rest ∧
        (∀ k, k ≠ n → t.pot h k = s.pot h k) ∧
        t.mem = ((s.wrRows (d.at d.out) d.opitch (o.map (fun c => c.flatMap (fun e => leBytes 2 e.1)))).wr (d.at d.crec)
          (closeRecord s.time n r d fl sat (countIf (fun x => !f32fin x) e) 0)).mem)) ∧
  (∀ (s : State) (p : Nat), p < 272 →
    exec (.panCntClr p) s = .next (s.setPan p { s.pan p with vecFail := 0, blkFail := 0, refreshCnt := 0 }))

/-- A block that failed its tests runs again: on its own Pan first, where a pass commits it and a failure sends it to a spare;
on the spare, where a pass makes its Pan SUSPECT; and, without a spare, once more on its own Pan at half the rate, where a
pass makes the Pan SUSPECT under the RATE margin (10, R313 to R320).

A sampled block runs on its spare: runs that agree commit it, and runs that do not are counted and kept for the third run,
after which the block commits and is forgotten; where the third run agrees with neither, the spare's commits and the Pan is
SUSPECT (10, R323 to R325; log entry 109, DESIGN CHOICE). -/
def Obligations.BlocksAreReplayed : Prop :=
  -- ReplayLadderClimbs
  (∀ (s u : State) (p : Nat) (l : Ladder) (m : MvmRun) (k : Bank) (parity : RunParity),
    let h := panBsk p
    let v := s.pan p
    let run := (u.runOn p l.blk k (decide (parity = .path))).2
    p < 272 → (s.bsk h).mvm? l.blk.step = some m → parity ≠ .ring → s.ladderAt p 1 = some l →
    s.replayBank p m l.blk = (u, some k) →
    (run.failCode = 0 → ∃ t, exec (.replaySamePan p parity) s = .next t ∧ (t.pan p).ladders = v.ladders.erase l ∧
      t.feu.replSame = (if l.quiet then s.feu.replSame else sat32 (s.feu.replSame + 1))) ∧
    (run.failCode ≠ 0 → ∃ t, exec (.replaySamePan p parity) s = .next t ∧
      (t.pan p).ladders = lmod (fun x => x = l) (fun x => { x with
        rung := 2, first := if x.first = 0 then run.failCode else x.first, quiet := false
        band := if x.first = 0 ∧ run.failCode = 6 then run.tap.getD 0 else x.band
        satOnly := x.satOnly && satAlone run }) v.ladders)) ∧
  -- ASpareTakesTheBlock
  (∀ (s a u : State) (p q : Nat) (l : Ladder) (m : MvmRun) (k : Bank) (parity : RunParity),
    let h := panBsk p
    let v := s.pan p
    p < 272 → (s.bsk h).mvm? l.blk.step = some m → parity ≠ .ring → s.ladderAt p 2 = some l → s.spareTurn h = some p →
    s.ladderSpare h = (some q, a) → q ≠ p → (a.pan q).allowance + l.blk.vals.length ≤ 512 → a.spareBank q m l.blk = (u, some k) →
    v.mode = .inService → (u.runOn q l.blk k (decide (parity = .path))).2.failCode = 0 →
    ∃ t, exec (.replaySpare p parity) s = .next t ∧ t.feu.replSpare = sat32 (s.feu.replSpare + 1) ∧
      (t.pan p).ladders = v.ladders.erase l ∧
      (l.quiet = false → (t.pan p).mode = .suspect ∧ (t.pan p).suspectLeft = 1000 ∧
        (∃ e, e ∈ t.evq ∧ e.code = 0x0105 ∧ e.cls = 2 ∧ e.unit = 0x02 ∧ e.index = p)) ∧
      (l.quiet = true → (t.pan p).mode = .inService)) ∧
  -- NoSpareIsLeft
  (∀ (s u : State) (p : Nat) (l : Ladder) (m : MvmRun) (k : Bank) (parity : RunParity),
    let h := panBsk p
    let v := s.pan p
    let blk := { l.blk with rate := max 1 (l.blk.rate - 1), fast := false }
    p < 272 → (s.bsk h).mvm? l.blk.step = some m → parity ≠ .ring → s.ladderAt p 2 = some l → (s.ladderSpare h).1 = none →
    s.replayBank p m l.blk = (u, some k) → v.mode = .inService → (u.runOn p blk k (decide (parity = .path))).2.failCode = 0 →
    ∃ t, exec (.noSpareReplay p parity) s = .next t ∧ t.feu.replSpare = sat32 (s.feu.replSpare + 1) ∧
      (t.pan p).mode = .suspect ∧ (t.pan p).forceRate = true ∧ (t.pan p).ladders = v.ladders.erase l) ∧
  -- SampledReplayCompares
  (∀ (s u : State) (p : Nat) (x : Sample) (m : MvmRun) (k : Bank) (parity : RunParity),
    let h := panBsk p
    let v := s.pan p
    p < 272 → (s.bsk h).mvm? x.blk.step = some m → v.samples.find? (fun y => y.spare.isNone) = some x → v.mode ≠ .spare →
    ((s.pan x.sparePan).mode ≠ .spare → ∃ t, exec (.sampledReplayCompare ⟨p, parity⟩) s = .next t ∧
      (t.pan p).samples = v.samples.erase x ∧ t.feu = s.feu) ∧
    ((s.pan x.sparePan).mode = .spare → parity ≠ .ring → s.spareBank x.sparePan m x.blk = (u, some k) →
      let run := (u.runOn x.sparePan x.blk k (decide (parity = .path))).2
      let c := if run.failCode ≠ 0 then run.failCode else compareRuns v.chkCfg v.loss x.blk.gsize x.blk.rate x.orig run
      ∃ t, exec (.sampledReplayCompare ⟨p, parity⟩) s = .next t ∧ t.feu.smpRun = sat32 (s.feu.smpRun + 1) ∧
        (c = 0 → (t.pan p).samples = v.samples.erase x ∧ t.feu.smpFail = s.feu.smpFail) ∧
        (c ≠ 0 → t.feu.smpFail = sat32 (s.feu.smpFail + 1) ∧
          (t.pan p).samples = lmod (fun y => y = x) (fun y => { y with spare := some run, failed := c }) v.samples))) ∧
  -- SampledReplayResolves
  (∀ (s u : State) (p : Nat) (x : Sample) (sp : Run) (m : MvmRun) (k : Bank) (parity : RunParity),
    let h := panBsk p
    let v := s.pan p
    let run := (u.runOn p x.blk k (decide (parity = .path))).2
    let same (a b : Run) : Bool := decide (a.failCode = 0) && decide (b.failCode = 0) &&
      decide (compareRuns v.chkCfg v.loss x.blk.gsize x.blk.rate a b = 0)
    p < 272 → (s.bsk h).mvm? x.blk.step = some m → v.samples.find? (fun y => y.spare.isSome) = some x → x.spare = some sp →
    parity ≠ .ring → takesWork v = true → s.replayBank p m x.blk = (u, some k) →
    (same run sp = true ∨ same run x.orig = true → ∃ t, exec (.sampledReplayResolve ⟨p, parity⟩) s = .next t ∧
      (t.pan p).samples = v.samples.erase x ∧ (t.pan p).mode = v.mode) ∧
    (same run sp = false → same run x.orig = false → sp.failCode = 0 → v.mode = .inService →
      ∃ t, exec (.sampledReplayResolve ⟨p, parity⟩) s = .next t ∧ (t.pan p).samples = v.samples.erase x ∧
        (t.pan p).mode = .suspect))

/-- At the start of a 4 µs interval every Pan's activity levels move on by one interval, and the level it sends for the
interval after next is the plan's, within one of the last unless RAMP_OFF: full for a Pan held at A = 16, falling while an
unplanned wait lasts, and else what the work that has issued will fill at the Pan's rate (05, R176 to R181; log entry 134,
DEDUCED). What the Pan has driven starts from zero, and so does a spare's allowance (05, R176; 10, R319). The cycles that
pacing held a Basket's Pans are counted where it held one (05, Table 05-19; log entry 37, DESIGN CHOICE). -/
def Obligations.RampMovesLevelsOn : Prop :=
  ∀ (s : State) (p : Nat) (held filler : List Nat),
    let v := s.pan p
    let b := s.bsk (panBsk p)
    let off := bit b.seqCfg.toNat 16
    let k := nextDue s.dev.rampK s.time 4000
    let cap := levelCap (b.rateNext.getD b.rate) (v.margin = 2)
    s.clocked = true → p < 272 →
    ∃ t, exec (.rampInterval held filler) s = .next t ∧ t.time = 4000 * k ∧ t.dev.rampK = k ∧
      (t.pan p).lvlPrev = v.lvlNow ∧ (t.pan p).lvlNow = v.lvlNext ∧ (t.pan p).lvlNext = v.lvlSent ∧
      (t.pan p).lvlSent = planLevel off (s.atFull p) (v.waited || decide (v.mode = .retired)) cap (s.workOf p)
        v.lvlNext v.lvlSent v.lvlSent ∧
      (t.pan p).drove = 0 ∧ (t.pan p).allowance = 0 ∧
      (t.bsk (panBsk p)).stallRamp = (if (bskPans (panBsk p)).any (fun q => (s.pan q).paced) then
        sat32 (b.stallRamp + held.getD (panBsk p) 0) else b.stallRamp) ∧
      (off = false → v.lvlSent ≤ 16 →
        (t.pan p).lvlSent ≤ v.lvlSent + 1 ∧ v.lvlSent ≤ (t.pan p).lvlSent + 1 ∧ (cap ≤ 16 → (t.pan p).lvlSent ≤ 16))

/-- The governor, once a millisecond: over the limit it counts no good time and steps the highest rate down on the last of the
powered Baskets that have it, fast mode first; 50 W below the limit it counts good milliseconds up to ten, and from the tenth
on steps the lowest rate up; between, it starts over. A rate that waits takes effect at its Basket's group boundary, a lower
one once every working Pan's plan has come down to what it fills, or at once under RAMP_OFF (01, R24; 05, R177). Which Baskets
are powered is log entry 135, DESIGN CHOICE. -/
def Obligations.GovernorStepsRates : Prop :=
  ∀ (s : State),
    let hs := s.powered.reverse
    let lim := s.powerLimit * 1000
    let pw := s.dev.avg + s.dev.avgMore
    let low := 3 - maxNat (s.powered.map (fun k => 3 - tRate (s.bsk k)))
    let on := s.clocked = true ∧ (s.trv.ready = true ∨ s.trv.up = false)
    let time := 1000000 * nextDue s.dev.govK s.time 1000000
    (∀ h, on → lim < pw → hs.find? (fun k => (s.bsk k).fastGrant && !(s.bsk k).noFast) = some h →
      ∃ t, exec .governorEval s = .next t ∧ t.time = time ∧ t.dev.good = 0 ∧ t.bsk h = { s.bsk h with noFast := true } ∧
        (∀ k, k ≠ h → t.bsk k = s.bsk k)) ∧
    (∀ h, on → lim < pw → (∀ k, k ∈ hs → ((s.bsk k).fastGrant && !(s.bsk k).noFast) = false) →
      hs.find? (fun k => tRate (s.bsk k) = maxNat (hs.map (fun j => tRate (s.bsk j))) &&
        decide (1 < maxNat (hs.map (fun j => tRate (s.bsk j))))) = some h →
      ∃ t, exec .governorEval s = .next t ∧ t.time = time ∧ t.dev.good = 0 ∧
        t.bsk h = { s.bsk h with rateNext := some (maxNat (hs.map (fun j => tRate (s.bsk j))) - 1) } ∧
        (∀ k, k ≠ h → t.bsk k = s.bsk k)) ∧
    (on → pw ≤ lim → lim < pw + 50000 →
      ∃ t, exec .governorEval s = .next t ∧ t.time = time ∧ t.dev.good = 0 ∧ t.baskets = s.baskets) ∧
    (on → pw + 50000 ≤ lim → s.dev.good < 9 →
      ∃ t, exec .governorEval s = .next t ∧ t.time = time ∧ t.dev.good = s.dev.good + 1 ∧ t.baskets = s.baskets) ∧
    (∀ h, on → pw + 50000 ≤ lim → 9 ≤ s.dev.good →
      s.powered.find? (fun k => tRate (s.bsk k) = low && decide (low < 3)) = some h →
      ∃ t, exec .governorEval s = .next t ∧ t.time = time ∧ t.dev.good = 10 ∧
        t.bsk h = { s.bsk h with rateNext := some (low + 1) } ∧ (∀ k, k ≠ h → t.bsk k = s.bsk k)) ∧
    (∀ h r, h < 16 → (s.bsk h).rateNext = some r → s.clocked = true →
      let b := s.bsk h
      let free := b.rate ≤ r ∨ bit b.seqCfg.toNat 16 = true ∨
        ∀ p, p ∈ bskPans h → takesWork (s.pan p) = true → (s.pan p).lvlNow ≤ levelCap r ((s.pan p).margin = 2)
      (free → ∃ t, exec (.rateChange h) s = .next t ∧ t.bsk h = { b with rate := r, rateNext := none } ∧
        (∀ k, k ≠ h → t.bsk k = s.bsk k)) ∧
      (¬ free → exec (.rateChange h) s = .next s))

/-- The tap readings of a frame's end go into their Pans: a stale one is marked from when it came, a good one gives its level,
and a loss beyond the threshold counts a low frame, a stale one starting the count over (log entry 136, DESIGN CHOICE); the
second and every further low frame fails the Pan's block. Here no quadrant shows a Coil fault (02, R55; 10, R322). -/
def Obligations.TapReadingsAreTaken : Prop :=
  ∀ (s : State) (rs : List TapReading),
    let k := nextDue s.dev.tapK s.time 16000
    let u := rs.foldl State.tapIn { s.at (16000 * k) with dev := { s.dev with tapK := k } }
    (∀ r, r ∈ rs → r.pan < 272 ∧ r.band < 4) → s.clocked = true →
    (∀ q, q < 4 → ∀ band, band < 4 → u.coilLoss q band = false) →
    ∃ t, exec (.tapRead rs) s = .next t ∧ t.time = 16000 * k ∧ t.baskets = s.baskets ∧
      (∀ p, (∀ r, r ∈ rs → r.pan ≠ p) → t.pan p = s.pan p) ∧
      (∀ r, rs = [r] →
        let v := s.pan r.pan
        let w := t.pan r.pan
        let x := v.tap r.band
        let y := tget tapDflt w.taps r.band
        (r.level = none → y = { x with stale := true, low := 0, staleAt := if x.stale then x.staleAt else t.time }) ∧
        (∀ l, r.level = some l → y.stale = false ∧ y.level = clampI (-32768) 32767 l ∧ y.seen = true ∧
          y.low = (if (bits v.tapCfg.toNat 7 0 : Int) < -l then x.low + 1 else 0) ∧
          y.metAt = (if y.low = 2 then t.time + 1 else x.metAt)) ∧
        (2 ≤ y.low → v.mode ≠ .retired → w.tapFail = some r.band) ∧
        (∀ b, b ≠ r.band → tget tapDflt w.taps b = tget tapDflt v.taps b))

/-- BSK_CTL STOP, COMMIT, OFF and ON in the states that take them, and IGN in the rest (14, R438 to R440, Table 14-8). -/
def Obligations.BasketControlFollowsItsStates : Prop :=
  ∀ (s : State) (h : Nat),
    let b := s.bsk h
    h < 16 →
    (b.st = .ready ∨ b.st = .run → ∃ t, exec (.basketStop h) s = .next t ∧ (t.bsk h).st = .draining ∧
      (t.bsk h).drainFor = .stop ∧ (t.bsk h).inflight = b.inflight ∧ (t.bsk h).testDefer = none ∧
      ∀ k, k ≠ h → (t.bsk k).st = (s.bsk k).st ∧ (t.bsk k).inflight = (s.bsk k).inflight) ∧
    (b.st = .test → exec (.basketStop h) s = .next (s.setBsk h { b with pendStop := true })) ∧
    (b.st = .stopped ∨ b.st = .off ∨ b.st = .warming ∨ b.st = .retired →
      exec (.basketStop h) s = .next (s.setBsk h { b with ign := true })) ∧
    (b.st = .draining → exec (.basketStop h) s =
      .next (s.setBsk h (if b.pendEn then { b with pendEn := false } else { b with ign := true }))) ∧
    (b.st = .stopped → b.cls = s.dev.cls.toNat →
      let u := (b.staged.foldl (fun s e => takeStaged s h e) s).bsk h
      ∃ t, exec (.basketCommit h) s = .next t ∧ (t.bsk h).st = (if s.held h = [] then .ready else .run) ∧
        (t.bsk h).pendEn = false ∧ (t.bsk h).ign = false ∧ (t.bsk h).staged = [] ∧ (t.bsk h).vtrim = u.vtrim ∧
        (t.bsk h).seqCfg = u.seqCfg ∧ (t.bsk h).wskThr = u.wskThr ∧ (t.bsk h).wskCfg = u.wskCfg ∧
        (t.bsk h).rdoCfg = u.rdoCfg ∧ (t.bsk h).resCfg = u.resCfg ∧ ∀ k, k ≠ h → (t.bsk k).st = (s.bsk k).st) ∧
    (b.st = .draining → b.drainFor = .stop → exec (.basketCommit h) s = .next (s.setBsk h { b with pendEn := true })) ∧
    (b.st = .ready ∨ b.st = .run ∨ b.st = .test ∨ b.st = .off ∨ b.st = .warming ∨ b.st = .retired →
      exec (.basketCommit h) s = .next (s.setBsk h { b with ign := true })) ∧
    (s.held h = [] → b.st = .ready ∨ b.st = .run → ∃ t, exec (.basketOff h) s = .next t ∧ (t.bsk h).st = .draining ∧
      (t.bsk h).drainFor = .off ∧ (t.bsk h).testDefer = none ∧
      ∀ k, k ≠ h → (t.bsk k).st = (s.bsk k).st ∧ (t.bsk k).inflight = (s.bsk k).inflight) ∧
    (s.held h = [] → b.st = .stopped → exec (.basketOff h) s = .next (s.setBsk h { b with st := .off })) ∧
    (s.held h ≠ [] → exec (.basketOff h) s = .next (s.setBsk h { b with ign := true })) ∧
    (b.st = .off → exec (.basketOn h) s = .next (s.setBsk h { b with st := .warming, pendEn := false, pendStop := false })) ∧
    (b.st = .draining → b.drainFor = .off → exec (.basketOn h) s = .next (s.setBsk h { b with pendEn := true })) ∧
    (b.st = .ready ∨ b.st = .run ∨ b.st = .test ∨ b.st = .stopped ∨ b.st = .warming ∨ b.st = .retired →
      exec (.basketOn h) s = .next (s.setBsk h { b with ign := true }))

/-- A Basket RESET empties it: it is WARMING with nothing in flight, its Pots, scale entries and tokens at their reset values,
no bank of its Pans valid, and its streams ABORTED with CAUSE 0xF005, but one that is moving to it, which is SUSPENDED with
0xF003. A drain that is over leaves the Basket STOPPED or OFF, or goes on with an enable that waits; a WARMING that is over
leaves it READY, or RUN with streams (14, R435, R439, Tables 14-4, 14-8; 07, R239). -/
def Obligations.BasketsResetDrainAndWarmUp : Prop :=
  ∀ (s : State) (h : Nat),
    let b := s.bsk h
    h < 16 →
    (b.st ≠ .off → b.st ≠ .retired → ∃ t, exec (.basketReset h) s = .next t ∧ (t.bsk h).st = .warming ∧ (t.bsk h).inflight = [] ∧
      (t.bsk h).mvms = [] ∧ (t.bsk h).rate = b.rate ∧ (t.bsk h).cls = b.cls ∧ (t.bsk h).seqCfg = (bskDflt h).seqCfg ∧
      (∀ n, n < 64 → t.pot h n = {}) ∧ (∀ n, n < 16384 → t.scale h n = scaleDflt n) ∧
      (∀ n, n < 32 → tget tokDflt t.tokens (h * 32 + n) = {}) ∧
      (∀ p, panBsk p = h → (t.pan p).a.valid = false ∧ (t.pan p).b.valid = false ∧ (t.pan p).computeQ = []) ∧
      (∀ i, i ∈ s.held h → (s.str i).st = .resident ∨ (s.str i).st = .suspended ∨ ((s.str i).st = .migrating ∧ (s.str i).migSaved = false) →
        (t.str i).st = .aborted ∧ (t.str i).cause = 0xF005) ∧
      ((s.held h).Nodup → ∀ i, i ∈ s.held h → (s.str i).st = .migrating → (s.str i).migSaved = true →
        (t.str i).st = .suspended ∧ (t.str i).cause = 0xF003)) ∧
    (b.st = .off ∨ b.st = .retired → exec (.basketReset h) s = .next (s.setBsk h { b with ign := true })) ∧
    (b.st = .draining → b.inflight = [] → s.quiet h = true →
      (b.drainFor = .stop → b.pendEn = false → exec (.basketDrained h) s = .next (s.setBsk h { b with st := .stopped })) ∧
      (b.drainFor = .off → b.pendEn = false → exec (.basketDrained h) s = .next (s.setBsk h { b with st := .off })) ∧
      (b.drainFor = .off → b.pendEn = true → ∃ t, exec (.basketDrained h) s = .next t ∧ (t.bsk h).st = .warming ∧
        (t.bsk h).pendEn = false)) ∧
    (b.st = .warming → b.coldSweep = false → s.slotsFull h = true → ∃ t, exec (.warmingEnd h) s = .next t ∧
      (t.bsk h).st = (if s.held h = [] then .ready else .run) ∧ (t.bsk h).testAgain = false ∧
      (t.bsk h).testAt = (if b.testAgain then s.time + 600000000000 else b.testAt))

/-- GCTL_SCALE_CLASS takes a class for the Baskets' next COMMITs, and each one's bit of PEND reads 1 until then; CNT_CLR of the
sequencer, the Whisk and the readout clear their counters, the first also OVF of every token, and change nothing else (03,
Table 03-13; 04, Table 04-16; 05, Table 05-21; 10, R329).

RING_RST empties the FEU's ring and its LOST counter, CNT_CLR clears the FEU's counters, and nothing else changes (10, Table
10-16). -/
def Obligations.CountersClearAndClassesAreTaken : Prop :=
  -- CountersOfABasketClear
  (∀ (s : State) (h : Nat) (c : BitVec 2),
    let b := s.bsk h
    (∃ t, exec (.scaleClassWrite c) s = .next t ∧ t = { s with dev := { s.dev with cls := c }, baskets := t.baskets } ∧
      ∀ k, t.bsk k = (if k < 16 then { s.bsk k with clsPend := true } else s.bsk k)) ∧
    (h < 16 →
      exec (.wskCntClr h) s = .next (s.setBsk h { b with
        widenCnt := 0, satCnt := 0, w4iNeg8 := 0, w3Neg4 := 0, wtRsv := 0, atRsv := 0, nanScale := 0, cbNeg128 := 0 }) ∧
      exec (.rdoCntClr h) s = .next (s.setBsk h { b with rdoSatCnt := 0, potOvfCnt := 0, promoStall := 0, eccUe := 0, eccCe := 0 }) ∧
      ∃ t, exec (.seqCntClr h) s = .next t ∧
        t = { s with baskets := t.baskets, tokens := t.tokens, globals := t.globals } ∧
        t.bsk h = { b with issueCnt := 0, stallBank := 0, stallRamp := 0, fillCnt := 0, lateCnt := 0 } ∧
        (∀ k, k ≠ h → t.bsk k = s.bsk k) ∧
        (∀ k, k < 32 → tget tokDflt t.tokens (h * 32 + k) = { tget tokDflt s.tokens (h * 32 + k) with ovf := false }) ∧
        (∀ k, k < 127 → tget tokDflt t.globals k = { tget tokDflt s.globals k with ovf := false }))) ∧
  -- FeuRingAndCountersClear
  (∀ (s : State),
    exec .ringRst s = .next { s with feu := { s.feu with tail := 0, head := 0, lost := 0 } } ∧
    exec .feuCntClr s = .next { s with feu := { s.feu with
      cnt := [], replSpare := 0, replSame := 0, smpRun := 0, smpFail := 0, smpSkip := 0 } })

/-- STOP and COMMIT of a Kettle slot in each of its states: a stop waits for the frame, a commit is taken when the slot is
STOPPED, waits while it is STOPPING and sets IGN otherwise; with KEEP a commit leaves the loop's state, without it the loop
starts from zero at the latched set-point (08, R280, R281).

A set-point write is kept for the next frame, which takes the last, and a slot under LINK ignores it. The clears of a slot and
of the Kettle put their counters to zero (08, R268, R269, Tables 08-13, 08-19). -/
def Obligations.KettleSlotsAreCommanded : Prop :=
  -- KettleSlotsStopAndCommit
  (∀ (s : State) (n : Nat),
    let v := s.slot n
    n < 320 →
    (v.st = .run ∨ v.st = .pendingEnable ∨ v.st = .hold →
      exec (.slotStop n) s = .next (s.setSlot n { v with st := .stopping })) ∧
    (v.st = .stopped ∨ v.st = .stopping → exec (.slotStop n) s = .next (s.setSlot n v)) ∧
    (v.st = .stopping → exec (.slotCommit n) s = .next (s.setSlot n { v with st := .pendingEnable })) ∧
    (v.st = .run ∨ v.st = .pendingEnable ∨ v.st = .hold →
      exec (.slotCommit n) s = .next (s.setSlot n { v with ign := true })) ∧
    (v.st = .stopped → commitBad n v = true → exec (.slotCommit n) s = .next (s.setSlot n { v with ign := true })) ∧
    (v.st = .stopped → commitBad n v = false → v.cMode = 0 →
      exec (.slotCommit n) s = .next (s.setSlot n { v with mode := 0, out := 0, outNext := none })) ∧
    (v.st = .stopped → commitBad n v = false → v.cMode ≠ 0 → bit v.c 19 = true →
      exec (.slotCommit n) s = .next (s.setSlot n { v with st := .run })) ∧
    (v.st = .stopped → commitBad n v = false → v.cMode ≠ 0 → bit v.c 19 = false →
      exec (.slotCommit n) s = .next (s.setSlot n { v with
        st := .run, mode := v.cMode, inner := {}, outer := {}, ramp := v.spLatched, preload := true, preloadO := true, osat := false
        osatO := false, isat := false, isatO := false }))) ∧
  -- KettleSetPointsAndClears
  (∀ (s : State) (n : Nat) (w : W32),
    let v := s.slot n
    n < 320 →
    (v.link = true → exec (.spWrite n w) s = .next s) ∧
    (v.link = false → exec (.spWrite n w) s = .next (s.setSlot n { v with sp := w, spWrites := v.spWrites + 1 })) ∧
    exec (.slotCntClr n) s = .next (s.setSlot n { v with
      spLost := 0, miss := 0, clampCnt := 0, complCnt := 0, ign := false, told := [] }) ∧
    ∃ t, exec .ketCntClr s = .next t ∧ t = { s with ket := t.ket } ∧
      (∀ e, e < 4 → t.eng e = { s.eng e with peak := 0, miss := false }) ∧ (∀ k, t.slot k = s.slot k))

/-- The Kettle's frame begins at the next microsecond. A slot at rest whose inputs are not latched applies its last output and
latches its set-point, the writes it supersedes count in SP_LOST and raise an event; a slot that is stopping has stopped
(08, R260, R268, R280).

Injection and capture act on the engine that KET_ENG_SEL names: RUN starts the generator afresh, unless its TYPE is
reserved, when the write is ignored, and stops it; ARM arms an empty capture (08, R283, R284, Table 08-17). -/
def Obligations.KettleFramesAndTestSignals : Prop :=
  -- KettleFrameBegins
  (∀ (s : State) (inp : KetInputs) (n : Nat),
    let v := s.slot n
    let f := nextDue s.ket.frame s.time 1000
    (∀ x, x ∈ inp.slots → x.slot < 320) → s.clocked = true →
    ∃ t, exec (.kettleFrame inp) s = .next t ∧ t.time = 1000 * f ∧ t.ket.frame = f ∧
      (n < 320 → v.st = .stopped ∨ v.st = .stopping → (∀ x, x ∈ inp.slots → x.slot ≠ n) → n % 80 ≠ 69 →
        t.slot n = { v with
          st := .stopped, out := v.outNext.getD v.out, outNext := none, spLatched := v.sp.toInt, spWrites := 0
          segs := v.segsNext.getD v.segs, segsNext := none, spLost := min 65535 (v.spLost + (v.spWrites - 1))
          told := (t.slot n).told } ∧
        (v.spWrites ≤ 1 → v.spLost ≤ 65535 → (t.slot n).spLost = v.spLost ∧ (t.slot n).told = v.told) ∧
        (2 ≤ v.spWrites → tget natDflt v.told 0x0605 = 0 →
          ∃ e, e ∈ t.evq ∧ e.code = 0x0605 ∧ e.unit = 0x03 ∧ e.index = n ∧ e.time = t.time))) ∧
  -- InjectionAndCaptureAreCommanded
  (∀ (s : State) (c : W32),
    let e := bits s.ket.engSel.toNat 1 0
    let k := s.eng e
    (bits c.toNat 30 29 ≤ 1 → exec (.injStart c) s = .next (s.setEng e { k with
      injCfg := c &&& 0x7FFF0000#32, injRun := true, injStarted := true, lfsr := 0x7FFF, chip := 0, phase := 0, sweepAt := 0 })) ∧
    (1 < bits c.toNat 30 29 → exec (.injStart c) s = .next s) ∧
    exec (.injStop c) s = .next (s.setEng e { k with
      injCfg := c &&& 0x7FFF0000#32, injRun := false, injOut := 0, injStarted := false }) ∧
    exec (.capArm c) s = .next (s.setEng e { k with
      capCfg := (c &&& 0x7FFFFF80#32) ||| 0x80000000#32, armed := true, triggered := false, decim := 0, capDone := false
      capCount := 0 }))

/-- A TEC period: the bridge of a Coil in order, with no override and no forced gates, drives the duty its slot commands within
its limit, both ways off where that is below 20 ns, and passes through one period with all gates off before it turns; a
gate pattern that crosses a leg latches XCOND and holds the bridge off, until software clears it. At no moment has a bridge
both gates of a leg on (08, R275 to R278).

The retest of a thermally limited Pan, 1 s after its limit: with 10,000 frames of its heaters below their limits it passes,
and a Pan that calibrates for its limit goes to SPARE; else the next retest is a second on (08, R273, R274). -/
def Obligations.TecBridgesAndThermalLimits : Prop :=
  -- TecBridgesDriveAndProtect
  (∀ (s : State) (q : Nat) (g : BitVec 4),
    let c := s.coil q
    let m : Int := 256 * bits c.tecCfg.toNat 7 0
    let u0 := clampI (-m) m (s.slot (80 * q + 69)).out
    let u := if tOn u0 < 20 then 0 else u0
    let turns := (0 < c.duty ∧ u < 0) ∨ (c.duty < 0 ∧ 0 < u)
    q < 4 →
    (s.clocked = true → c.xcond = false → c.contend = false → c.dark = false → s.ovrGates q = none →
      ∃ t, exec (.pwmPeriod []) s = .next t ∧ t.time = 2000 * nextDue s.ket.pwm s.time 2000 ∧
        (turns → t.coil q = { c.gatesTo t.time 0 0 t.time with offPeriod := true }) ∧
        (¬ turns → t.coil q = c.gatesTo t.time u 0 t.time)) ∧
    (s.clocked = true → c.xcond = false → crosses g = true →
      ∃ t, exec (.pwmPeriod [(q, g)]) s = .next t ∧ (t.coil q).xcond = true ∧ (t.coil q).duty = 0 ∧ (t.coil q).gates = 0 ∧
        (∀ τ, (t.coil q).driven τ = 0) ∧ (t.slot (80 * q + 69)).out = 0) ∧
    (∀ τ, (c.duty ≠ 0 → crosses (c.command τ) = false) ∧ (crosses (c.command τ) = false → crosses (c.driven τ) = false)) ∧
    (c.xcond = true → (∀ x, s.ovrGates q = some x → crosses x = false) →
      ∃ t, exec (.xcondClear q) s = .next t ∧ t.coil q = { c with xcond := false } ∧ (t.slot (80 * q + 69)).out = 0 ∧
        (t.slot (80 * q + 69)).inner = {} ∧ (∀ k, k ≠ q → t.coil k = s.coil k)) ∧
    (c.xcond = false → exec (.xcondClear q) s = .next s)) ∧
  -- ThermalRetestClearsTheLimit
  (∀ (s : State) (p : Nat),
    let v := s.slot (panSlot p)
    let due := (s.pan p).thermAt + 1000000000
    p < 272 →
    (v.therm = false → exec (.thermalRetest p) s = .next s) ∧
    (v.therm = true → ∃ t, exec (.thermalRetest p) s = .next t ∧ t.time = max s.time due ∧ (t.pan p).thermAt = due ∧
      (t.slot (panSlot p)).therm = decide (v.coolRun < 10000) ∧
      (10000 ≤ v.coolRun → (s.pan p).mode = .calibrating → (s.pan p).reason = 2 →
        (t.pan p).mode = .spare ∧ (t.pan p).slot = none ∧ (t.pan p).reason = 0) ∧
      (v.coolRun < 10000 → (t.pan p).mode = (s.pan p).mode)))

/-- A calibration turn begins where none runs and the rotation is not held: in the next Basket, from CAL's own counter on, that
can take one, for the Pan it picks and under the spare that covers it (09, R287, R288, R291).

HANDOVER, once the covering spare works at A = 16 and no replay needs it, the Pan is between tiles with no window open, and the
tile to come is on the spare: the spare takes the slot and what is left of the walk, and the Pan is CALIBRATING, its ladders
going on; the measurements begin, over its banks, once none of its blocks is left to commit and it is at A = 16
(09, R289, R292, Table 09-3).

The three ends of a sweep. A converged one whose failing rings and modulators the spares can replace gives its Pan the
repaired sparing map and a new calibration set, with blind trims and drifts at zero, counts, and makes it a SPARE; one that
does not converge counts, raises CAL_TIMEOUT and, before its third failure, makes its Pan a
SPARE under the old values; an abandoned one does the same without counting a failure (09, R294 to R297).

CAL_REQ marks a Pan for an early sweep, but for the Pan under sweep and for numbers of no Pan; CAL_CTL.CNT_CLR clears the
three counters (09, R291, Tables 09-8, 09-13). -/
def Obligations.SweepsRunTheirCourse : Prop :=
  -- CalibrationTurnBegins
  (∀ (s : State) (h p : Nat) (c : Option Nat),
    let u := s.calCfgTake
    s.clocked = true → s.cal.sweep = none → bit s.cal.cfg.toNat 0 = false →
    ((List.range 16).map (fun i => (s.cal.next + i) % 16)).find? (fun k => (u.calPick k).isSome) = some h →
    u.calPick h = some (p, c) →
    ∃ t, exec .calTurn s = .next t ∧ t.pan p = { u.pan p with early := false } ∧ (∀ q, q ≠ p → t.pan q = u.pan q) ∧
      t.cal = { s.cal with
        act := s.cal.cfg, next := (h + 1) % 16
        sweep := some { pan := p, cover := c, handed := c.isNone, startAt := s.time, calAt := s.time, measAt := none
                        timeout := max 6 (bits s.cal.cfg.toNat 31 24), slot := (s.pan p).slot } }) ∧
  -- HandoverPassesTheSlot
  (∀ (s u : State) (w : Sweep) (c : Nat),
    let p := w.pan
    let v := s.pan p
    let x := s.pan c
    let now : Bool := decide (v.lvlNow = 16 ∧ v.ladders = [] ∧ v.samples = [] ∧ v.lowBuf = none)
    s.clocked = true → s.cal.sweep = some w → w.handed = false → w.measAt = none → w.cover = some c → p ≠ c → v.mode = .inService →
    x.mode = .spare → (s.slot (panSlot c)).therm = false → x.lvlNow = 16 → v.progress = 0 →
    v.windows.any (fun y => !y.closed) = false → s.coverBusy (panBsk p) c = false → s.preload p c = (u, true) →
    ∃ t, exec .handover s = .next t ∧ (t.pan c).mode = .inService ∧ (t.pan c).slot = v.slot ∧ (t.pan p).mode = .calibrating ∧
      (t.pan p).slot = none ∧ (t.pan p).reason = 1 ∧ (t.pan p).ladders = v.ladders ∧ (t.pan p).writeQ = [] ∧
      t.cal.sweep = some { w with handed := true, calAt := s.time, measAt := if now then some s.time else none } ∧
      (now = true → (t.pan p).a.valid = false ∧ (t.pan p).b.valid = false) ∧ (∀ q, q ≠ p → q ≠ c → t.pan q = s.pan q)) ∧
  -- SweepsEndInThreeWays
  (∀ (s : State) (w : Sweep) (r : SweepResult),
    let p := w.pan
    let v := s.pan p
    s.cal.sweep = some w → w.handed = true → p < 272 →
    (∀ m, s.clocked = true → w.measAt.isSome = true → s.time ≤ w.calAt + w.timeout * 1000000 → repairMap v.startMap r.rings r.mods = some m →
      ∃ t, exec (.sweepCommit r) s = .next t ∧ t.cal.sweep = none ∧
      t.cal.sweepCnt = sat32 (s.cal.sweepCnt + 1) ∧ (t.pan p).mode = .spare ∧ (t.pan p).slot = none ∧
      (t.pan p).map = m ∧ (t.pan p).startMap = m ∧ (t.pan p).calId = v.calId + 1 ∧ (t.pan p).trimOfs = 0 ∧
      (t.pan p).kTh = r.kTh ∧ (t.pan p).blind = [] ∧ (t.pan p).timeouts = 0 ∧ (t.pan p).noCal = false ∧
      (t.pan p).lastCal = s.time ∧ (∀ q, q ≠ p → t.pan q = s.pan q)) ∧
    (∀ k f, s.clocked = true → 1 ≤ k → k ≤ 9 → 1 ≤ f → f ≤ 9 → (w.measAt = none → k = 1) → v.timeouts < 2 → w.slot.isSome = true →
      ∃ t, exec (.calTimeout ⟨k, f⟩) s = .next t ∧ t.cal.sweep = none ∧
      t.cal.timeouts = sat16 (s.cal.timeouts + 1) ∧ (t.pan p).timeouts = v.timeouts + 1 ∧ (t.pan p).mode = .spare ∧
      (t.pan p).slot = none ∧ (t.pan p).rowSpare = v.rowSpare ∧ (t.pan p).kTh = v.kTh ∧
      (∃ e, e ∈ t.evq ∧ e.code = 0x0701 ∧ e.cls = 0 ∧ e.unit = 0x04 ∧ bits e.detail 31 24 = k ∧
        bits e.detail 23 20 = (if w.measAt = none then 1 else f) ∧ bits e.detail 17 0 = p) ∧
      (∀ q, q ≠ p → t.pan q = s.pan q)) ∧
    (w.slot.isSome = true → ∃ t, exec .calAbandon s = .next t ∧ t.cal.sweep = none ∧ t.cal.abandon = sat16 (s.cal.abandon + 1) ∧
      t.pan p = { v with mode := .spare, reason := 0, slot := none } ∧ (∀ q, q ≠ p → t.pan q = s.pan q))) ∧
  -- CalibrationRequestsAndClears
  (∀ (s : State) (p : Nat),
    (272 ≤ p ∨ (∃ w, s.cal.sweep = some w ∧ w.pan = p) → exec (.calReq p) s = .next s) ∧
    (p < 272 → (∀ w, s.cal.sweep = some w → w.pan ≠ p) →
      exec (.calReq p) s = .next (s.setPan p { s.pan p with early := true })) ∧
    exec .calCntClr s = .next { s with cal := { s.cal with sweepCnt := 0, abandon := 0, timeouts := 0 } })

/-- The end of a blind window of a Pan in service, with blind trims enabled there: each sum that holds enough partials moves its
correction, held within 4 standard deviations of offset and 1/64 of gain, and one held at a limit asks for an early sweep;
the common mode of the data rows goes to the Pan's thermal trim, and the sums start over (09, R298 to R300; log entry 78,
DESIGN CHOICE).

A stale flag that has stood for STALE_MAX raises CAL_STALE once, naming its source and its index (09, R307). -/
def Obligations.BlindWindowsAndStaleFlags : Prop :=
  -- BlindWindowsMoveTheTrims
  (∀ (s : State) (p : Nat),
    let v := s.pan p
    let u := s.at (v.winAt + s.blindLen)
    let est := s.blindFull p
    let mean := commonMode v.map est
    let routed := bit s.cal.act.toNat 4
    p < 272 → s.clocked = true → v.mode = .inService ∨ v.mode = .suspect → bit s.cal.bskEn.toNat (16 + panBsk p) = true →
    ∃ t, exec (.blindWindow (p / 17) (p % 17)) s = .next t ∧ t.time = u.time ∧ (t.pan p).sums = [] ∧ (t.pan p).winAt = u.time ∧
      (routed = true ∨ mean = 0 → (t.pan p).trimOfs = 0) ∧
      (routed = false → mean ≠ 0 → v.kTh ≠ 0 →
        (t.pan p).trimOfs = divAway (mean * 65536 * (if v.kTh < 0 then -1 else 1)) v.kTh.natAbs) ∧
      (est = [] → (t.pan p).blind = v.blind ∧ (t.pan p).early = v.early) ∧
      (∀ i e, est = [(i, e)] →
        let sg := u.sigmaOf p (i % 4)
        let x := tget blindDflt v.blind i
        let y := tget blindDflt (t.pan p).blind i
        (∃ g, y = (moveBlind sg (if routed then 0 else mean) e.offset (e.gain sg g) x).1 ∧
          ((moveBlind sg (if routed then 0 else mean) e.offset (e.gain sg g) x).2 = true → (t.pan p).lim = true ∧
            ((∀ w, s.cal.sweep = some w → w.pan ≠ p) → (t.pan p).early = true))) ∧
        -(4 * sg : Int) ≤ y.off ∧ y.off ≤ 4 * sg ∧ 2 ^ 32 - 2 ^ 26 ≤ y.gain ∧ y.gain ≤ 2 ^ 32 + 2 ^ 26 ∧
        (∀ j, j ≠ i → tget blindDflt (t.pan p).blind j = tget blindDflt v.blind j)) ∧
      (∀ q, q ≠ p → t.pan q = s.pan q)) ∧
  -- StaleFlagsRaiseOneEvent
  (∀ (s : State) (n : Nat),
    let m := bits s.cal.act.toNat 23 16
    let v := s.pan n
    let Said (t : State) (src from' : Nat) : Prop := ∃ e, t.evq = s.evq ++ [e] ∧ e.code = 0x0702 ∧ e.cls = 0 ∧ e.unit = 0x04 ∧
      e.detail = shl src 28 + n % 1024 ∧ e.time = max s.time (from' + m * 1000000)
    m ≠ 0 → s.clocked = true →
    (n < 272 → v.refStale = true → v.refStaleTold = false →
      ∃ t, exec (.calStale 2 n) s = .next t ∧ Said t 2 v.refStaleAt ∧ t.pan n = { v with refStaleTold := true }) ∧
    (∀ b, n < 272 → (List.range 4).find? (fun b => (v.tap b).stale && !(v.tap b).staleTold) = some b →
      ∃ t, exec (.calStale 1 n) s = .next t ∧ Said t 1 (v.tap b).staleAt ∧
        tget tapDflt (t.pan n).taps b = { v.tap b with staleTold := true }) ∧
    (∀ at', n < 512 → tget noneDflt s.trv.chanCal n = some at' → tget falseDflt s.trv.chanTold n = false →
      ∃ t, exec (.calStale 3 n) s = .next t ∧ Said t 3 at' ∧ tget falseDflt t.trv.chanTold n = true))

/-- The first start-up sweep of a Basket whose Pans all converge at the first attempt, the Kettle holding each at its set-point
and every Coil locked: each Pan takes its repaired map and its first calibration set, the lowest take the slots in order and
the rest are SPARE, and the Basket is READY, or RUN with streams (02, R67; 09, R306). -/
def Obligations.StartupSweepFillsTheSlots : Prop :=
  ∀ (s : State) (h : Nat) (l : List (Nat × List Attempt)),
    let b := s.bsk h
    h < 16 → b.st = .warming → b.coldSweep = true → s.clocked = true → s.timeSet = true → s.startupRuns = true →
    (∀ p, p ∈ bskPans h → (s.pan p).mode ≠ .retired ∧ (s.pan p).mode ≠ .calibrating ∧ (s.pan p).calId = 0 ∧ s.panHeld p = true) →
    l.all (fun e => e.2.all Attempt.legal) = true →
    (∀ p, p ∈ bskPans h → ∃ r m, attemptsOf l p = [.measured r] ∧ repairMap (s.pan p).startMap r.rings r.mods = some m) →
    ∃ t, exec (.startupSweep h l) s = .next t ∧ (t.bsk h).st = (if s.held h = [] then .ready else .run) ∧
      (t.bsk h).coldSweep = false ∧
      (∀ k, k < 17 → (t.pan (h * 17 + k)).mode = (if k < bskSlots b then .inService else .spare) ∧
        (t.pan (h * 17 + k)).slot = (if k < bskSlots b then some k else none) ∧ (t.pan (h * 17 + k)).noCal = false ∧
        (t.pan (h * 17 + k)).calId = 1 ∧ (t.pan (h * 17 + k)).lastCal = s.time ∧
        (∀ r m, attemptsOf l (h * 17 + k) = [.measured r] →
          repairMap (s.pan (h * 17 + k)).startMap r.rings r.mods = some m → (t.pan (h * 17 + k)).map = m))

/-- A structural test falls due by its schedule or by a request; its deferral ends when no resident stream owns a Pot, or at
its time; the Basket drains and is under TEST, stressed for its first 15 ms; 18 ms in, a pass takes it back to READY or RUN,
and a failure retires it (10, R331 to R334). -/
def Obligations.StructuralTestsRunTheirCourse : Prop :=
  ∀ (s : State) (h : Nat),
    let b := s.bsk h
    h < 16 →
    (s.clocked = true → bits s.feu.testCfg.toNat 31 16 ≠ 0 → b.st ≠ .retired → b.st ≠ .test → b.testDefer = none → s.patternsOk = true →
      ∃ t, exec (.testDue h) s = .next t ∧ t.time = max s.time b.testAt ∧ (t.bsk h).testDue = true) ∧
    (∀ m : BitVec 16, bit m.toNat h = true → b.st ≠ .retired → b.st ≠ .test → b.testDefer = none → s.patternsOk = true →
      ∃ t, exec (.testReq m) s = .next t ∧ (t.bsk h).testDue = true) ∧
    (∀ d, b.testDefer = some d → inService b = true →
      ∃ t, exec (.testDeferEnd h) s = .next t ∧ (t.bsk h).st = .draining ∧ (t.bsk h).drainFor = .test ∧
        (t.bsk h).testDefer = none ∧ t.time = (if s.potsOwned h then max s.time d else s.time)) ∧
    (b.st = .draining → b.drainFor = .test → b.inflight = [] →
      ∃ t, exec (.testEntry h) s = .next t ∧ (t.bsk h).st = .test ∧
        (t.bsk h).testFrom = s.time ∧ (t.bsk h).stressed t.time = true) ∧
    (b.st = .test → b.pendStop = false →
      ∃ t, exec (.testResult h .pass) s = .next t ∧ (t.bsk h).st = (if t.held h = [] then .ready else .run) ∧
        t.time = max s.time (b.testFrom + 18000000) ∧ (t.bsk h).testRes = 1 ∧ (t.bsk h).testDone = t.time ∧
        (t.bsk h).testDue = false ∧ (t.bsk h).stressed t.time = false ∧
        (t.bsk h).testAt = t.time + bits s.feu.testCfg.toNat 31 16 * 60000000000) ∧
    (b.st = .test →
      ∃ t, exec (.testResult h .fail) s = .next t ∧ (t.bsk h).st = .retired ∧ (t.bsk h).testRes = 3 ∧
        (t.bsk h).retiredByTest = true ∧ (∀ i, i ∈ s.held h → (s.str i).st = .resident ∨ (s.str i).st = .suspended ∨
          ((s.str i).st = .migrating ∧ (s.str i).migSaved = false) → (t.str i).st = .aborted ∧ (t.str i).cause = 0xF005) ∧
        (∃ e, e ∈ t.evq ∧ e.code = 0x0104 ∧ e.cls = 3 ∧ e.index = h))

/-- The FEU takes an event: it numbers it, counts its class, sets its pending bit, writes its 32 bytes at the tail of the ring
in HBM where that is on and has room, and signals vector 0 at or above the class it is set for; the queue goes on
(10, R337; 12, R388). -/
def Obligations.FeuTakesAnEvent : Prop :=
  ∀ (s : State) (e : EventRec) (rest : List EventRec),
    let f := s.feu
    let n := ringSize f
    let q : SeqEvent := { ev := e, seq := (f.seq + 1) % 2 ^ 32 }
    let a := f.ringBase.toNat + f.tail.toNat % n * 32
    s.evq = e :: rest → s.clocked = true → e.cls ≤ 4 → bit f.cfg.toNat 8 = true → bit f.cfg.toNat 9 = false →
    (f.tail - f.head).toNat < n → f.ringBase.toNat + 32 * n ≤ hbmLen →
    ∃ t, exec .eventRecord s = .next t ∧ t.feu.seq = f.seq + 1 ∧
      tget natDflt t.feu.cnt e.cls = sat32 (tget natDflt f.cnt e.cls + 1) ∧
      (∀ k, k ≠ e.cls → tget natDflt t.feu.cnt k = tget natDflt f.cnt k) ∧
      t.feu.pend = f.pend ||| (1#5 <<< e.cls) ∧ t.feu.tail = f.tail + 1 ∧ t.feu.head = f.head ∧ t.feu.lost = f.lost ∧
      (∀ k, k < 32 → t.rdB (a + k) = (eventBytes q).getD k 0) ∧ (∀ k, k < a ∨ a + 32 ≤ k → t.rdB k = s.rdB k) ∧
      (bits f.cfg.toNat 2 0 ≤ e.cls → (0, 0) ∈ t.msix)

/-- FAULT_N is asserted while a pending bit of a class at or above FLT_CLS stands; writing ones to pending bits clears those and
only those, and FAULT_N is released exactly when none at or above FLT_CLS remains (10, R338). The clock runs here: without it
FAULT_N is asserted in any case (14, R433). -/
def Obligations.FaultNFollowsThePendingBits : Prop :=
  ∀ (s : State) (m : BitVec 5),
    let c := bits s.feu.cfg.toNat 6 4
    s.dev.faultClk = false → c ≤ 4 →
    (s.faultN = true ↔ ∃ k, k < 5 ∧ c ≤ k ∧ bit s.feu.pend.toNat k = true) ∧
    ∃ t, exec (.feuPendClear m) s = .next t ∧ t = { s with feu := { s.feu with pend := t.feu.pend } } ∧
      (∀ k, k < 5 → bit t.feu.pend.toNat k = (bit s.feu.pend.toNat k && !bit m.toNat k)) ∧
      (t.faultN = false ↔ ∀ k, k < 5 → c ≤ k → bit s.feu.pend.toNat k = true → bit m.toNat k = true)

/-- HELLOs go out on every linked port; one that arrives is kept as the neighbour's, takes a port in HELLO to UP or, without a
common generation, to ISOLATED with an event, and the lowest UID whose heartbeat goes on is adopted through its port. A node
that nobody below it reaches for 10 ms is the coordinator and counts the heartbeat on; one with no port UP may start alone
(11, R346, R349 to R351, R354). -/
def Obligations.HellosBuildTheTree : Prop :=
  ∀ (s : State) (n : Nat) (m : Hello),
    let v := s.port n
    s.clocked = true →
    (n < 32 → linked v.st = true → exec (.helloSend n) s = .next { s with hellos := s.hellos ++ [(n, s.helloOf n)] }) ∧
    (n < 32 → v.st = .hello → s.dzf.solo = false → bit m.genMap 0 = true →
      ∃ t, exec (.hello n m) s = .next t ∧ (t.port n).st = (if v.drainBit then .drain else .up) ∧ (t.port n).gen = 1 ∧
        (t.port n).nbr = some m ∧ (t.port n).nbrAt = s.time ∧ (∀ k, k ≠ n → t.port k = s.port k)) ∧
    (n < 32 → v.st = .hello → bit m.genMap 0 = false →
      ∃ t, exec (.hello n m) s = .next t ∧ (t.port n).st = .isolated ∧ (t.port n).gen = 0 ∧ (t.port n).nbr = some m ∧
        (∀ k, k ≠ n → t.port k = s.port k) ∧
        ∃ e, e ∈ t.evq ∧ e.code = 0x0805 ∧ e.cls = 0 ∧ e.unit = 0x05 ∧ e.index = n ∧ e.detail = shl n 4 + m.genMap % 16) ∧
    (∀ o, n < 32 → v.st = .up → s.dzf.solo = false → v.nbr = some o → o.coord = m.coord → m.hb = (o.hb + 1) % 2 ^ 32 →
      o.hb < 2 ^ 32 → m.solo = false → m.coord < s.uid → (∀ k, k ≠ n → (s.port k).nbr = none) →
      ∃ t, exec (.hello n m) s = .next t ∧ t.dzf.coordUid = m.coord ∧ t.dzf.parent = some n ∧
        t.dzf.dist = min 254 (m.dist + 1) ∧ t.dzf.coord = false ∧ t.dzf.hb = m.hb ∧
        (s.dzf.coordUid ≠ m.coord →
          t.joins = s.joins ++ [if s.dzf.idValid then (3, n, s.uid, s.dzf.nodeId) else (1, n, s.uid, 0)])) ∧
    (s.dzf.coord = true → exec .heartbeat s = .next { s with dzf := { s.dzf with hb := (s.dzf.hb + 1) % 2 ^ 32 } }) ∧
    (s.dzf.solo = false → s.dzf.coord = false → s.dzf.dist ≠ 0xFF → s.dzf.coordUid = s.uid → (∀ k, (s.port k).nbr = none) →
      ∃ t, exec .coordTimeout s = .next t ∧ t.time = max s.time (s.dzf.coordAt + 10000000) ∧ t.dzf.coord = true ∧
        t.dzf.parent = none ∧ t.dzf.dist = 0 ∧ t.dzf.sync = true ∧
        (∀ i, s.dzf.idValid = false → idOf s.dzf.idmap s.uid = some i → t.dzf.idValid = true ∧ t.dzf.nodeId = i)) ∧
    (s.dzf.solo = false → s.upPorts = [] → exec .soloStart s = .next { s with dzf := { s.dzf with
      solo := true, coord := true, coordUid := s.uid, parent := none, dist := 0
      nodeId := (idOf s.dzf.idmap s.uid).getD 0, idValid := true, stepped := true, timeOfs := 0, sync := true, slew := 0 } })

/-- JOIN and CLAIM go up the tree and are judged by the coordinator, by its map first; ASSIGN, a granted CLAIM and DENY go back
down the way their request came. A node takes the ID it is assigned and drops the one it is denied, then joins; without one it
asks every millisecond. An MGT packet that carries such a message does the same. The map takes and drops its entries
(11, R352, R353, Table 11-19). -/
def Obligations.NodeIdsAreAskedForAndGranted : Prop :=
  ∀ (s : State) (n uid node p : Nat),
    let d := s.dzf
    n < 32 → s.clocked = true → (s.port n).st = .up →
    (∀ i, d.coord = true → s.chooseId uid = some i → ∃ t, exec (.join n uid) s = .next t ∧
      t.joins = s.joins ++ [(2, n, uid, i)] ∧ (uid, i) ∈ t.dzf.assigned ∧ tget noneDflt t.dzf.downPath i = some n) ∧
    (∀ i, idOf d.idmap uid = some i → s.chooseId uid = some i) ∧
    (d.coord = false → d.parent = some p → ∃ t, exec (.join n uid) s = .next t ∧
      t.joins = s.joins ++ [(1, p, uid, 0)] ∧ idOf t.dzf.upFrom uid = some n) ∧
    (exec (.assign n s.uid node) s = .next { s with dzf := { d with idValid := true, nodeId := node } }) ∧
    (uid ≠ s.uid → idOf d.upFrom uid = some p → ∃ t, exec (.assign n uid node) s = .next t ∧
      t.joins = s.joins ++ [(2, p, uid, node)] ∧ tget noneDflt t.dzf.downPath node = some p) ∧
    (d.coord = true → s.grantable uid node = true → ∃ t, exec (.claim n uid node) s = .next t ∧
      t.joins = s.joins ++ [(3, n, uid, node)] ∧ (uid, node) ∈ t.dzf.assigned ∧ tget noneDflt t.dzf.downPath node = some n) ∧
    (d.coord = true → s.grantable uid node = false →
      exec (.claim n uid node) s = .next { s with joins := s.joins ++ [(4, n, uid, node)] }) ∧
    (d.coord = false → d.parent = some p → p ≠ n → ∃ t, exec (.claim n uid node) s = .next t ∧
      t.joins = s.joins ++ [(3, p, uid, node)] ∧ idOf t.dzf.upFrom uid = some n) ∧
    (d.idValid = true → d.nodeId = node → d.parent = some p → ∃ t, exec (.deny n s.uid node) s = .next t ∧
      t.dzf.idValid = false ∧ t.dzf.nodeId = 0xFFFF ∧ t.joins = s.joins ++ [(1, p, s.uid, 0)]) ∧
    (uid ≠ s.uid → idOf d.upFrom uid = some p →
      exec (.deny n uid node) s = .next { s with joins := s.joins ++ [(4, p, uid, node)] }) ∧
    (d.idValid = false → d.parent = some p → exec .joinResend s = .next { s with joins := s.joins ++ [(1, p, s.uid, 0)] }) ∧
    (∀ m : Packet, m.type = 7 → s.isMine m = true → (d.acceptCfg m.cfg).isSome = true →
      let u := leNat ((m.payload.drop 1).take 16)
      let k := leNat ((m.payload.drop 17).take 2)
      (m.payload.getD 0 0 = 1 → exec (.mgt n m) s = exec (.join n u) s) ∧
      (m.payload.getD 0 0 = 2 → exec (.mgt n m) s = exec (.assign n u k) s) ∧
      (m.payload.getD 0 0 = 3 → exec (.mgt n m) s = exec (.claim n u k) s) ∧
      (m.payload.getD 0 0 = 4 → exec (.mgt n m) s = exec (.deny n u k) s)) ∧
    (node ≤ 32767 → d.idmap.length < 32768 → exec (.idmapWr node) s = .next { s with dzf := { d with
      idmapId := node, idmap := d.idmap.filter (fun e => e.1 != d.mapUid && e.2 != node) ++ [(d.mapUid, node)] } }) ∧
    (32767 < node → node < 65536 → exec (.idmapWr node) s = .next { s with dzf := { d with idmapId := node } }) ∧
    exec .idmapDel s = .next { s with dzf := { d with idmap := d.idmap.filter (fun e => e.1 != d.mapUid) } }

/-- A rollout: COMMIT takes the staged epoch, route generation and tables into force, answers its refusals by code, and opens
the window of both epochs but for the first; ADVANCE sends under the new one; CLOSE ends the window, 2 ms after ADVANCE at the
earliest. CNT_CLR clears the fabric's counters (11, R364, R367, R369 to R371, Table 11-18).

APPLY takes the staged Plait map into force where no port speaks against it: a port that leaves LOCAL is PASS at once, and
one that comes back to LOCAL is DOWN once the couplers have settled, 40 µs on. A map that some port speaks against is refused,
naming the lowest such port, and nothing else changes (11, R365, R366). -/
def Obligations.RolloutsAndCircuitsChange : Prop :=
  -- RolloutsGoThroughTheirPhases
  (∀ (s : State),
    let d := s.dzf
    let e := d.stgEpoch.toNat
    let c := d.epoch.toNat
    let next := c = 0 ∨ (1 ≤ (e + 2 ^ 32 - c) % 2 ^ 32 ∧ (e + 2 ^ 32 - c) % 2 ^ 32 ≤ 15)
    let Answers (r : Nat) : State := { s with dzf := { d with result := r } }
    s.clocked = true →
    (d.phase ≠ 0 → exec .cfgCommit s = .next (Answers 1)) ∧
    (d.phase = 0 → e = 0 ∨ ¬ next → exec .cfgCommit s = .next (Answers 2)) ∧
    (d.phase = 0 → e ≠ 0 → next → s.imgBad = true → exec .cfgCommit s = .next (Answers 3)) ∧
    (d.phase = 0 → e ≠ 0 → next → s.imgBad = false → ∃ t, exec .cfgCommit s = .next t ∧ t = { s with dzf := t.dzf } ∧
      t.dzf.result = 0 ∧ t.dzf.phase = (if c = 0 then 0 else 1) ∧ t.dzf.epoch = d.stgEpoch ∧ t.dzf.rgen = d.stgRgen ∧
      t.dzf.digest = sha384Low s.cfgRecord ∧ t.dzf.group = d.groupSh ∧ t.dzf.member = d.memberSh ∧ t.dzf.ties = [] ∧
      (c ≠ 0 → t.dzf.prevEpoch = d.epoch ∧ t.dzf.prevDigest = d.digest ∧ t.dzf.sendCfg = (c, d.digest.toNat))) ∧
    (d.phase = 1 → exec .cfgAdvance s = .next { s with dzf := { d with phase := 2, advAt := s.time, result := 0 } }) ∧
    (d.phase ≠ 1 → exec .cfgAdvance s = .next (Answers 4)) ∧
    (d.phase = 2 → exec .cfgClose s =
      .next { s with dzf := { d with phase := if d.advAt + 2000000 ≤ s.time then 0 else 3, result := 0 } }) ∧
    (d.phase ≠ 2 → exec .cfgClose s = .next (Answers 5)) ∧
    (d.phase = 3 → exec .cfgCloseEffect s =
      .next { s with time := max s.time (d.advAt + 2000000), dzf := { d with phase := 0 } }) ∧
    ∃ t, exec .dzfCntClr s = .next t ∧ t = { s with dzf := t.dzf } ∧
      (∀ n, n < 32 → t.port n = { s.port n with crc := 0, fecUnc := 0, fecCor := 0, trainFail := 0, downs := 0, bad := 0, stall := 0 }) ∧
      t.dzf = { d with ports := t.dzf.ports, rcvd := 0, refused := 0, tie := 0 }) ∧
  -- PlaitMapsAreAppliedOrRefused
  (∀ (s : State) (p : Nat),
    let d := s.dzf
    let bad (q : Nat) : Prop := s.plaitBad q = true
    s.clocked = true → p < 32 →
    (bad p → (∀ q, q < p → ¬ bad q) →
      exec .plaitApply s = .next { s with dzf := { d with plaitRef := true, plaitPort := p } }) ∧
    ((∀ q, q < 32 → ¬ bad q) → ∃ t, exec .plaitApply s = .next t ∧ t.dzf.plaitRef = false ∧ t.dzf.plaitBusy = true ∧
      t.dzf.plaitAt = s.time ∧
      (let v := s.port p
       let w := t.port p
       w.mode = v.stgMode ∧ w.peer = (if v.stgMode = 1 then v.stgPeer else 0) ∧
       w.toLocal = (decide (v.mode ≠ 0) && decide (v.stgMode = 0)) ∧
       w.st = (if v.mode = 0 ∧ v.stgMode ≠ 0 then .pass else v.st))) ∧
    (d.plaitBusy = true → ∃ t, exec .plaitSettled s = .next t ∧ t.time = max s.time (d.plaitAt + 40000) ∧
      t.dzf.plaitBusy = false ∧ (t.port p).toLocal = false ∧
      ((s.port p).toLocal = true → (t.port p).st = .down) ∧ ((s.port p).toLocal = false → t.port p = s.port p)))

/-- A WRITE, READ, ATOMIC or SKIP for this node, at most 50 µs old, legal, under a configuration the node accepts and in its
turn: a WRITE stores the bytes BEN enables, an ATOMIC adds its enabled elements, or its count to a token, both remembered
against their like and a second one not applied again; a READ brings the 64 bytes of its unit. The answer leaves by its way
back (07, R241, R242, R249, R253; 11, R356, R363, R368, Tables 11-6, 11-7). -/
def Obligations.UnitsAreHandledAtTheirTarget : Prop :=
  ∀ (s : State) (port : Nat) (m : Packet) (epoch : Nat),
    let a := pktLoc m
    let d : Dedup := { src := m.src, tag := m.tag, epoch := epoch, at_ := s.time }
    let seen := s.dzf.dedup.any (fun d => d.src = m.src && d.tag = m.tag && d.epoch = epoch)
    let Answered (t : State) (st : Nat) (bs : List Byte) : Prop :=
      (∀ q, (s.egress (s.reply m st bs) true false).1 = some q → t.tx = s.tx ++ [(q, s.reply m st bs, s.time)]) ∧
      ((s.egress (s.reply m st bs) true false).1 = none → t.tx = s.tx) ∧
      (m.cls = 0 → t.expected m.src = (m.seq + 1) % 2 ^ 32)
    portOk port = true → s.clocked = true → s.carries port = true → s.isMine m = true → s.age m ≤ 50000 →
    (m.cls ≠ 0 ∨ (s.dzf.reorder = [] ∧ m.seq < 2 ^ 32 ∧ m.seq = (s.newInc m).expected m.src)) →
    pktTypeBad m = false →
    (m.type = 1 → s.dzf.acceptCfg m.cfg = some epoch → pktAddrBad m = false → m.payload.length = 64 → s.dzf.dedup.length < 131072 →
      (seen = false → ∃ t, exec (.write port m) s = .next t ∧ Answered t 0 [] ∧ t.dzf.dedup = s.dzf.dedup ++ [d] ∧
        (∀ k, k < 64 → bit m.ben k = true → t.rdB (a + k) = m.payload.getD k 0) ∧
        (∀ b, (∀ k, k < 64 → bit m.ben k = true → b ≠ a + k) → t.rdB b = s.rdB b)) ∧
      (seen = true → ∃ t, exec (.write port m) s = .next t ∧ Answered t 1 [] ∧ t.dzf.dedup = s.dzf.dedup ∧ t.mem = s.mem ∧
        t.dzf.dupCnt = min 65535 (s.dzf.dupCnt + 1))) ∧
    (m.type = 2 → (s.dzf.acceptCfg m.cfg).isSome = true → pktAddrBad m = false → s.unitBad m = false →
      ∃ t, exec (.read port m) s = .next t ∧ Answered t 0 (s.rd a 64) ∧ t.mem = s.mem) ∧
    (m.type = 3 → s.dzf.acceptCfg m.cfg = some epoch → pktAddrBad m = false → seen = false → s.dzf.dedup.length < 131072 →
      s.unitBad m = false → m.atype ≤ 2 →
      ∃ t, exec (.atomic port m) s = .next t ∧ Answered t 0 [] ∧ t.dzf.dedup = s.dzf.dedup ++ [d] ∧
        (∀ g, pktDoor m = some g → t.mem = s.mem ∧ t.tok 0 (0x81 + g) = (s.tok 0 (0x81 + g)).add (pktElem m 4 0)) ∧
        (pktDoor m = none →
          (m.atype = 0 → ∀ i, i < 16 → bit m.ben i = true →
            t.rdN (a + 4 * i) 4 = (s.rdN (a + 4 * i) 4 + leNat ((m.payload.drop (4 * i)).take 4)) % 2 ^ 32) ∧
          (m.atype = 1 → ∀ i, i < 16 → bit m.ben i = true →
            t.rdN (a + 4 * i) 4 = (f32add (BitVec.ofNat 32 (s.rdN (a + 4 * i) 4))
              (BitVec.ofNat 32 (leNat ((m.payload.drop (4 * i)).take 4)))).toNat) ∧
          (m.atype = 2 → ∀ i, i < 8 → bit m.ben i = true →
            let x := leNat ((m.payload.drop (8 * i)).take 8)
            let y := s.rdN (a + 8 * i) 8
            let z := cp64Atomic (BitVec.ofNat 32 y, BitVec.ofNat 32 (y / 2 ^ 32)) (BitVec.ofNat 32 x, BitVec.ofNat 32 (x / 2 ^ 32))
            t.rdN (a + 8 * i) 8 = z.1.toNat + z.2.toNat * 2 ^ 32) ∧
          (∀ b, b < a ∨ a + 64 ≤ b → t.rdB b = s.rdB b))) ∧
    (m.type = 4 → (s.dzf.acceptCfg m.cfg).isSome = true → ∃ t, exec (.skip port m) s = .next t ∧ Answered t 0 [] ∧ t.mem = s.mem)

/-- An answer for one of the node's own units: a good one puts a READ's bytes where the unit sends them and ends its part; BUSY
asks for a resend after 1 µs, NO_ROUTE changes nothing, and any other makes the part of its step fail (07, R253, R254; 11,
R358, Table 11-7). Here nothing waits for a place among the outstanding units.

The timers of a unit: a resend under its first TAG, SEQ, INC and CFG with a new STIME; at 1.9 ms without an answer the part
fails, and a SKIP takes over the SEQ of an ORD unit; 50 µs after the last transmission an answered unit's tag is released,
unless a retry may still send it (log entry 115, DEDUCED); an entry of the deduplication store goes 2 ms after it was made, or
once its source has released the tag (07, R253 to R255; 11, R358, R363).

A packet for another node goes on by its route with HOPS one lower; with HOPS used up a unit is answered NO_ROUTE and goes
no further; one that stands 100 µs in a port's queue is dropped and counted (11, R357, R360, R361). -/
def Obligations.UnitsAreAnsweredAndPassedOn : Prop :=
  -- AnswersSettleTheirUnits
  (∀ (s : State) (port : Nat) (m : Packet) (u : FUnit) (uid h : Nat) (r : StepRec),
    let Ends (t : State) (ok : Bool) : Prop := ∃ x, x ∈ (t.bsk h).inflight ∧ x.uid = uid ∧ x.units = r.units - 1 ∧
      x.done = decide (r.units ≤ 1) ∧ x.failed = (if ok then r.failed else setBit r.failed u.part true)
    let gone := s.dzf.units.filter (fun x => x.pkt.tag != u.pkt.tag)
    let Put (v : FUnit) := s.dzf.units.map (fun x => if x.pkt.tag = v.pkt.tag then v else x)
    portOk port = true → s.clocked = true → s.carries port = true → s.isMine m = true → s.unitOf m = some u →
    s.dzf.backlog = [] → u.who = .step uid h → (s.bsk h).inflight.find? (fun x => x.uid = uid) = some r →
    (m.type = 6 → m.status ≤ 1 → ∃ t, exec (.rdrsp port m) s = .next t ∧ Ends t true ∧ t.dzf.units = gone ∧
      t.mem = (s.wr u.local_ ((m.payload.drop u.off).take u.len)).mem) ∧
    (m.type = 5 → m.status ≤ 1 → ∃ t, exec (.compl port m) s = .next t ∧ Ends t true ∧ t.mem = s.mem ∧
      t.dzf.units = Put { u with good := true, goodAt := s.time }) ∧
    (m.type = 5 ∨ m.type = 6 →
      let c : Instr := if m.type = 5 then .compl port m else .rdrsp port m
      (m.status = 2 → ∃ t, exec c s = .next t ∧ t = { s with dzf := t.dzf } ∧
        t.dzf = { s.dzf with units := Put { u with busyAt := some (s.time + 1000) } }) ∧
      (m.status = 5 → exec c s = .next s) ∧
      (m.status = 3 ∨ m.status = 4 ∨ m.status = 6 ∨ m.status = 7 → ∃ t, exec c s = .next t ∧ Ends t false ∧
        t.dzf.units = gone ∧ t.mem = s.mem ∧ t.dzf.refused = (if m.status = 4 then min 65535 (s.dzf.refused + 1) else s.dzf.refused)))) ∧
  -- UnitTimersRun
  (∀ (s : State) (u : FUnit) (tag : Nat),
    let rest := s.dzf.units.filter (fun x => x.pkt.tag != u.pkt.tag)
    (∀ src k e,
      let mine (d : Dedup) : Bool := d.src = src && d.tag = k && d.epoch = e
      let less : Dzf := { s.dzf with dedup := s.dzf.dedup.filter (fun d => !mine d) }
      (∀ b, s.dzf.dedup.find? mine = none → exec (.dedupExpire src k ⟨e, b⟩) s = .next s) ∧
      (∀ d, s.dzf.dedup.find? mine = some d →
        exec (.dedupExpire src k ⟨e, false⟩) s = .next { s with time := max s.time (d.at_ + 2000000), dzf := less } ∧
        (src ≠ s.dzf.nodeId ∨ s.unitTag k = none → exec (.dedupExpire src k ⟨e, true⟩) s = .next { s with dzf := less }) ∧
        (src = s.dzf.nodeId → s.unitTag k ≠ none → exec (.dedupExpire src k ⟨e, true⟩) s = .next s))) ∧
    (s.unitTag tag = some u → s.clocked = true →
      (u.waiting = true → u.who ≠ .gone → max s.time (s.resendAt u) ≤ u.firstAt + 1900000 →
        let p := { u.pkt with stime := max s.time (s.resendAt u) % 2 ^ 32, hops := s.dzf.hops0 }
        ∃ t, exec (.resendTimer tag) s = .next t ∧ t.time = max s.time (s.resendAt u) ∧
          t.dzf.units = { u with pkt := p, lastAt := t.time, busyAt := none } :: rest ∧
          (∀ q, (s.at (s.resendAt u)).mayOriginate = true → (s.egress p false false).1 = some q → t.tx = s.tx ++ [(q, p, t.time)]) ∧
          ((s.at (s.resendAt u)).mayOriginate = false ∨ (s.egress p false false).1 = none → t.tx = s.tx)) ∧
      (∀ uid h r, u.waiting = true → u.who = .step uid h → s.dzf.backlog = [] →
        (s.bsk h).inflight.find? (fun x => x.uid = uid) = some r →
        ∃ t, exec (.unitGiveUp tag) s = .next t ∧ t.time = max s.time (u.firstAt + 1900000) ∧
          (∃ x, x ∈ (t.bsk h).inflight ∧ x.uid = uid ∧ x.units = r.units - 1 ∧ x.failed = setBit r.failed u.part true) ∧
          (u.pkt.cls ≠ 0 → t.dzf.units = rest) ∧
          (u.pkt.cls = 0 → ∃ k, k ∈ t.dzf.units ∧ k.pkt.type = 4 ∧ k.pkt.seq = u.pkt.seq ∧ k.pkt.dst = u.pkt.dst)) ∧
      (u.good = true → s.partOpen u = true → exec (.tagRelease tag) s = .next s) ∧
      (u.good = true → s.partOpen u = false → ∃ t, exec (.tagRelease tag) s = .next t ∧ t = { s with time := t.time, dzf := t.dzf } ∧
        t.time = max s.time (max u.goodAt (u.lastAt + 50000)) ∧ t.dzf.units = rest))) ∧
  -- PacketsForOthersGoOn
  (∀ (s : State) (port : Nat) (m : Packet),
    let v := s.port port
    let bs := if m.type = 2 then freeBytes s.freeCtr 16 else []
    (portOk port = true → s.clocked = true → s.carries port = true → s.isMine m = false → 1 ≤ m.type → m.type ≤ 7 →
      (∀ q, 2 ≤ m.hops → (s.egress { m with hops := m.hops - 1 } (m.type = 5 || m.type = 6) true).1 = some q →
        ∃ t, exec (.forward port m) s = .next t ∧ t.tx = s.tx ++ [(q, { m with hops := m.hops - 1 }, s.time)] ∧ t.mem = s.mem) ∧
      (∀ q, m.hops ≤ 1 → m.type ≤ 4 → (s.egress (s.reply m 5 bs) true true).1 = some q →
        ∃ t, exec (.forward port m) s = .next t ∧ t.tx = s.tx ++ [(q, s.reply m 5 bs, s.time)] ∧ t.mem = s.mem) ∧
      (m.hops ≤ 1 → 5 ≤ m.type → exec (.forward port m) s = .next s)) ∧
    (∀ e, port < 32 → s.tx.find? (fun e => e.1 = port && e.2.1 = m) = some e →
      ∃ t, exec (.creditStallDiscard port m) s = .next t ∧ t.time = max s.time (e.2.2 + 100000) ∧ t.tx = s.tx.erase e ∧
      t.port port = { v with stall := min 65535 (v.stall + 1) } ∧ (∀ k, k ≠ port → t.port k = s.port k)))

/-- A fabric port follows its link: light starts training where the Coil has locked, lanes bring HELLO, a training that takes
10 ms fails, a loss of signal takes it DOWN; EN, DRAIN, RETRAIN and UNRETIRE move it as Table 11-3 says; the third training
failure, the 16th fall and the tenth bad window within their times retire it. Replays are counted, and LINK_CRC tells those
of a millisecond at its end (log entry 145, DEDUCED). Nothing here changes another port (11, R343 to R348). -/
def Obligations.PortsFollowTheirLinks : Prop :=
  ∀ (s : State) (n : Nat),
    let v := s.port n
    let now := s.time
    let Only (t : State) : Prop := ∀ k, k ≠ n → t.port k = s.port k
    let To (c : Instr) (w : Port) : Prop := ∃ t, exec c s = .next t ∧ Only t ∧ t.port n = w
    let dark (w : Port) (st : PortState) : Port := { w with st := st, gen := 0, lanes := 0, stateAt := now }
    let downs := lastSecond now v.downAt ++ (if v.st = .up ∨ v.st = .drain then [now] else [])
    let bad := if bits v.cfg.toNat 15 0 < v.crcMs then v.badWins + 1 else 0
    n < 32 → s.clocked = true →
    (linked v.st = true → ∃ t, exec (.flitReplay n) s = .next t ∧ Only t ∧ (t.port n).crc = min 4294967295 (v.crc + 1) ∧
      (t.port n).crcMs = v.crcMs + 1 ∧ (t.port n).st = v.st ∧ t.evq = s.evq) ∧
    (∃ t, exec (.replayWindow n) s = .next t ∧ Only t ∧ (t.port n).crcMs = 0 ∧
      (v.crcMs ≠ 0 → ({ time := now, code := 0x0801, cls := 1, unit := 0x05, index := n, stream := none, step := 0
                        detail := shl (min 0xFFFF v.crcMs) 16 + n } : EventRec) ∈ t.evq) ∧
      (v.crcMs = 0 → bad < 10 → t.evq = s.evq) ∧
      (bad < 10 → (t.port n).badWins = bad ∧ (t.port n).st = v.st) ∧
      (10 ≤ bad → v.st = .hello ∨ v.st = .up ∨ v.st = .drain ∨ v.st = .down ∨ v.st = .training → (t.port n).st = .retired ∧
        ∃ e, e ∈ t.evq ∧ e.code = 0x0804 ∧ e.cls = 3 ∧ e.unit = 0x05 ∧ e.index = n ∧ e.detail = shl 1 28 + n)) ∧
    (v.st = .down → (s.coil (n / 8)).everLocked = true → ∃ t, exec (.lightDetect n) s = .next t ∧ Only t ∧
      (t.port n).st = .training ∧ (t.port n).stateAt = now) ∧
    (v.st = .training → To (.linkUp n) { dark v .hello with lanes := 0xFF }) ∧
    (v.st = .training →
      let τ := max now (v.stateAt + 10000000)
      let ts := lastSecond τ v.trainFailAt ++ [τ]
      ∃ t, exec (.trainingTimeout n) s = .next t ∧ Only t ∧ t.time = τ ∧ (t.port n).trainFail = min 65535 (v.trainFail + 1) ∧
        (t.port n).st = (if 3 ≤ ts.length then .retired else .down) ∧ (ts.length < 3 → (t.port n).trainFailAt = ts)) ∧
    (linked v.st = true → ∃ t, exec (.lossOfSignal n) s = .next t ∧ Only t ∧ (t.port n).downs = min 65535 (v.downs + 1) ∧
      (t.port n).st = (if 16 ≤ downs.length then .retired else .down)) ∧
    (v.st = .disabled → To (.portEnable n) (dark { v with en := true } .down)) ∧
    (v.st ≠ .disabled → exec (.portEnable n) s = .next (s.setPort n { v with en := true })) ∧
    (v.st ≠ .retired → v.st ≠ .pass → To (.portDisable n) (dark { v with en := false } .disabled)) ∧
    (v.st = .retired ∨ v.st = .pass → exec (.portDisable n) s = .next (s.setPort n { v with en := false })) ∧
    To (.portDrain n true) { v with drainBit := true, st := if v.st = .up then .drain else v.st } ∧
    To (.portDrain n false) { v with drainBit := false, st := if v.st = .drain then .up else v.st } ∧
    (v.st = .isolated ∨ v.st = .drain → To (.retrain n) (dark v .training)) ∧
    (v.st ≠ .isolated → v.st ≠ .drain → exec (.retrain n) s = .next s) ∧
    (v.st = .retired → To (.unretire n) (dark v .down)) ∧ (v.st ≠ .retired → exec (.unretire n) s = .next s)

/-- The doorbells of a queue pair move its indices, or tell of one out of range; a fetch takes the next entry where the queue
runs, has one and has room for its completion; EN starts a queue and clears it, or waits while the old commands end
(12, R381, R385 to R387).

The command that starts next in a queue (every earlier one has started, and with FENCE has gone) runs: NOP ends at once,
STRM answers as its stream command does, XFER moves its bytes between host and device memory and answers how many; each is
done with its status (12, R381, R383, R384, Table 12-8). -/
def Obligations.QueuesRunTheirCommands : Prop :=
  -- QueuesRunByTheirDoorbells
  (∀ (s : State) (q idx : Nat),
    let v := s.que q
    let bad := s.setQue q { v with err := true }
    let Told (c : Instr) : Prop := ∃ t, exec c s = .next t ∧ t = { bad with hq := t.hq, msix := t.msix } ∧ t.que q = { v with err := true } ∧
      bit t.hq.err.toNat 1 = true ∧ (bit s.hq.err.toNat 1 = false → t.msix = s.msix ++ [(0, 2)])
    q < 64 →
    (idx < v.sqSize → exec (.sqDoorbell q idx) s = .next (s.setQue q { v with sqTail := idx })) ∧
    (v.sqSize ≤ idx → Told (.sqDoorbell q idx)) ∧
    (idx < v.cqSize → exec (.cqDoorbell q idx) s = .next (s.setQue q { v with cqHead := idx })) ∧
    (v.cqSize ≤ idx → Told (.cqDoorbell q idx)) ∧
    (v.active = true → v.en = true → v.pendEn = false → v.sqHead ≠ v.sqTail → v.room = true → s.hq.linkUp = true →
      s.hostFail (v.sqBase.toNat + 64 * v.sqHead) 64 = none → s.clocked = true →
      let hd := (v.sqHead + 1) % v.sqSize
      exec (.commandFetch q) s = .next (s.setQue q { v with
        sqHead := hd, cmds := v.cmds ++ [fetched (s.hrd (v.sqBase.toNat + 64 * v.sqHead) 64) hd] })) ∧
    (v.active = false ∨ v.en = false ∨ v.sqHead = v.sqTail ∨ v.room = false ∨ s.clocked = false → exec (.commandFetch q) s = .next s) ∧
    (v.en = false → v.active = false → exec (.queueEnable q) s = .next (s.setQue q { v with
      cfg := v.cfg ||| 0x80000000#32, active := true, pendEn := false, err := false, sqHead := 0, sqTail := 0, cqHead := 0
      cqTail := 0, phase := true, cmds := [], irqCnt := 0 })) ∧
    (v.en = false → v.active = true → exec (.queueEnable q) s = .next (s.setQue q { v with
      cfg := v.cfg ||| 0x80000000#32, pendEn := true })) ∧
    (v.en = true → exec (.queueEnable q) s = .next s) ∧
    (v.en = true → exec (.queueDisable q) s = .next (s.setQue q { v with
      cfg := v.cfg &&& 0x7FFFFFFF#32, pendEn := false, active := v.active && !v.cmds.isEmpty
      cmds := v.cmds.map (fun c => if c.started then c else { c with started := true, done := some (5, 0, 0) }) })) ∧
    (v.en = false → exec (.queueDisable q) s = .next s) ∧
    (v.pendEn = true → v.active = false → exec (.queuePendingStart q) s = .next (s.setQue q { v with
      active := true, pendEn := false, err := false, sqHead := 0, sqTail := 0, cqHead := 0, cqTail := 0, phase := true
      cmds := [], irqCnt := 0 }))) ∧
  -- QueueCommandsRun
  (∀ (s : State) (q : Nat) (c : QCmd) (pre post : List QCmd),
    let v := s.que q
    let w := c.arg 8 4
    let i := bits w 17 0
    let h := c.arg 8 8
    let d := c.arg 0x10 8
    let n := c.arg 0x18 4
    let Ends (t : State) (st res det : Nat) : Prop :=
      t.que q = { v with cmds := pre ++ { c with started := true, done := some (st, res, det) } :: post }
    q < 64 → s.clocked = true → v.cmds = pre ++ c :: post → c.started = false → c.done = none →
    (∀ x, x ∈ pre → x.started = true ∧ x.cid ≠ c.cid) → (c.fence = true → pre = []) →
    (c.opc = 0 → ∃ t, exec (.queueNop q c.cid) s = .next t ∧ t = { s with hq := t.hq } ∧ Ends t (if rsvZero c 8 then 0 else 1) 0 0) ∧
    (c.opc = 1 → rsvZero c 12 = false → ∃ t, exec (.strm q c.cid) s = .next t ∧ t = { s with hq := t.hq } ∧ Ends t 1 0 0) ∧
    (c.opc = 1 → rsvZero c 12 = true → s.strmDenied v.func (bits w 31 28) i = true →
      ∃ t, exec (.strm q c.cid) s = .next t ∧ t = { s with hq := t.hq } ∧ Ends t 4 0 0) ∧
    (∀ r, c.opc = 1 → rsvZero c 12 = true → s.strmDenied v.func (bits w 31 28) i = false → (s.str i).migBy = none →
      let x := s.strmDo (bits w 31 28) (bits w 27 24) i
      x.2 = some r → ∃ t, exec (.strm q c.cid) s = .next t ∧ Ends t 0 r 0 ∧ (t.str i).st = (x.1.str i).st ∧
        (t.str i).bsk = (x.1.str i).bsk ∧ (t.str i).ptr = (x.1.str i).ptr ∧ (∀ j, j ≠ i → t.str j = s.str j)) ∧
    (∀ st, c.opc = 2 → s.xferBad v.func c = some st →
      ∃ t, exec (.xfer q c.cid) s = .next t ∧ t = { s with hq := t.hq } ∧ Ends t st 0 0) ∧
    (c.opc = 2 → s.xferBad v.func c = none → c.arg 0x1C 1 = 0 →
      let k := s.hostGood h n
      ∃ t, exec (.xfer q c.cid) s = .next t ∧ Ends t (if k = n then 0 else 3) 0 k ∧ t.host = s.host ∧
        (∀ b, b < k → t.rdB (d + b) = tget memDflt s.host (h + b)) ∧ (∀ b, b < d ∨ d + k ≤ b → t.rdB b = s.rdB b)) ∧
    (c.opc = 2 → s.xferBad v.func c = none → c.arg 0x1C 1 ≠ 0 →
      let k := s.devGood d n
      ∃ t, exec (.xfer q c.cid) s = .next t ∧ Ends t (if k = n then 0 else 6) 0 k ∧ t.mem = s.mem ∧
        (∀ b, b < k → tget memDflt t.host (h + b) = s.rdB (d + b)) ∧
        (∀ b, b < h ∨ h + k ≤ b → tget memDflt t.host b = tget memDflt s.host b)))

/-- A command that is done writes its 16-byte completion entry at the queue's tail with the phase of its pass, and leaves; with
NOIRQ off, interrupts on and no wait for others, the queue's vector is signalled, and after a wait the coalescing timer
signals it (12, R385, R387 to R389).

A token message that was held back is sent 1 µs after the last: its mark is cleared, its time kept, and the vector that
HQ_TIRQ names is signalled where the word is enabled and the vector legal (12, R390, R398). -/
def Obligations.CompletionsAndMessagesAreSignalled : Prop :=
  -- CompletionsAreWrittenAndSignalled
  (∀ (s : State) (q : Nat) (c : QCmd) (st res det : Nat),
    let v := s.que q
    let a := v.cqBase.toNat + 16 * v.cqTail
    let wrap := decide (v.cqTail + 1 = v.cqSize)
    let rest := v.cmds.erase c
    let vec := bits v.cfg.toNat 10 0
    let sent := if vec < (if v.func = 0 then 1056 else 32) then s.msix ++ [(v.func, vec)] else s.msix
    q < 64 →
    (s.clocked = true → v.cmds.find? (fun x => x.cid = c.cid && x.done.isSome) = some c → c.done = some (st, res, det) →
      let bs := leBytes 2 c.cid ++ leBytes 1 st ++ leBytes 1 (b2n v.phase) ++ leBytes 2 c.sqhd ++ leBytes 2 0 ++
        leBytes 4 res ++ leBytes 4 det
      ∃ t, exec (.queueCommandComplete q c.cid) s = .next t ∧ t = { s with host := t.host, hq := t.hq, msix := t.msix } ∧
        (∀ k, k < 16 → tget memDflt t.host (a + k) = bs.getD k 0) ∧
        (∀ k, k < a ∨ a + 16 ≤ k → tget memDflt t.host k = tget memDflt s.host k) ∧
        (t.que q).cmds = rest ∧ (t.que q).cqTail = (if wrap then 0 else v.cqTail + 1) ∧ (t.que q).phase = (v.phase != wrap) ∧
        (t.que q).active = (v.active && !(rest.isEmpty && (!v.en || v.pendEn))) ∧ (∀ k, k ≠ q → t.que k = s.que k) ∧
        (c.noirq = true ∨ bit v.cfg.toNat 30 = false → t.msix = s.msix ∧ (t.que q).irqCnt = v.irqCnt) ∧
        (c.noirq = false → bit v.cfg.toNat 30 = true →
          max 1 (bits v.icfg.toNat 15 8) ≤ v.irqCnt + 1 ∨ bits v.icfg.toNat 7 0 = 0 → t.msix = sent ∧ (t.que q).irqCnt = 0)) ∧
    (v.irqCnt ≠ 0 → ∃ t, exec (.irqCoalesceTimer q) s = .next t ∧ t.time = max s.time (v.irqAt + bits v.icfg.toNat 7 0 * 1000) ∧
      t.que q = { v with irqCnt := 0 } ∧ t.msix = sent) ∧
    (v.irqCnt = 0 → exec (.irqCoalesceTimer q) s = .next s)) ∧
  -- DeferredTokenMessageIsSent
  (∀ (s : State) (g : Nat),
    let c := (tget w32Dflt s.hq.tirq g).toNat
    g < 127 → tget falseDflt s.hq.tirqHeld g = true →
    ∃ t, exec (.tokenIrqDeferred g) s = .next t ∧ tget falseDflt t.hq.tirqHeld g = false ∧
      t.time = max s.time (tget natDflt s.hq.tirqAt g + 999) ∧ tget natDflt t.hq.tirqAt g = t.time + 1 ∧
      t.msix = (if bit c 31 = true ∧ 3 ≤ bits c 10 0 ∧ bits c 10 0 ≤ 1055 then s.msix ++ [(0, bits c 10 0)] else s.msix) ∧
      (∀ n, n ≠ g → tget falseDflt t.hq.tirqHeld n = tget falseDflt s.hq.tirqHeld n))

/-- An access to BAR2 within a page: HBM and the Crock are read and written where memory is ready, an enabled window turns it
into fabric units, and what goes nowhere is dropped, or read as zeros, and counted (12, R377 to R379, Tables 12-4, 12-16).

The host side's resets: a VF's reset disables its queues without completions and aborts the streams it was granted with
CAUSE 0xF004; the PF's puts the host registers back but for the status, error and count registers; a lost link does that and
reports; memory and the link come up as they are told (12, R380, R393, R394, R398). -/
def Obligations.HostSideAccessesAndResets : Prop :=
  -- Bar2ReachesMemoryAndWindows
  (∀ (s : State) (a n : Nat) (bs : List Byte),
    let Lost (t : State) : Prop := t.hq.reject = min 65535 (s.hq.reject + 1) ∧ t.mem = s.mem ∧ t.dzf = s.dzf
    (barOk a bs.length = true →
      (∃ t, exec (.bar2Write a bs true) s = .next t ∧ Lost t ∧ bit t.hq.err.toNat 3 = true) ∧
      (∀ l, barTo a bs.length = .mem l → s.memUp = true → exec (.bar2Write a bs false) s = .next (s.wr l bs)) ∧
      (barTo a bs.length = .rsv ∨ (s.memUp = false ∧ ∃ l, barTo a bs.length = .mem l) ∨
        (∃ k, barTo a bs.length = .win k ∧ s.apAddr k a = none) →
        ∃ t, exec (.bar2Write a bs false) s = .next t ∧ Lost t ∧ bit t.hq.err.toNat 2 = true) ∧
      (∀ k g, barTo a bs.length = .win k → s.apAddr k a = some g →
        ∃ t, exec (.bar2Write a bs false) s = .next t ∧ t.mem = s.mem ∧
          t.dzf.nextTag = (s.dzf.nextTag + (pieces g bs.length).length) % 2 ^ 32)) ∧
    (barOk a n = true →
      (∀ l, barTo a n = .mem l → s.memUp = true → s.badIn l n = [] → ∃ t, exec (.bar2Read a n) s = .next t ∧
        t.dev.barData = s.dev.barData ++ [(a, s.rd l n, false)] ∧ t.mem = s.mem ∧ t.hq = s.hq) ∧
      (barTo a n = .rsv ∨ (s.memUp = false ∧ ∃ l, barTo a n = .mem l) ∨ (∃ k, barTo a n = .win k ∧ s.apAddr k a = none) →
        ∃ t, exec (.bar2Read a n) s = .next t ∧ Lost t ∧ t.dev.barData = s.dev.barData ++ [(a, List.replicate n 0, false)]) ∧
      (∀ k g, barTo a n = .win k → s.apAddr k a = some g →
        ∃ t, exec (.bar2Read a n) s = .next t ∧ t.mem = s.mem ∧ t.dev.barData = s.dev.barData ∧
          t.dzf.nextTag = (s.dzf.nextTag + (pieces g n).length) % 2 ^ 32))) ∧
  -- HostSideResetsAndLinks
  (∀ (s : State) (v : Nat),
    let cleared : Hq := { s.hq with ap := [], tirq := [], tirqAt := [], tirqHeld := [], vfs := [], queues := [] }
    (1 ≤ v → v < 32 → ∃ t, exec (.vfFlr v) s = .next t ∧
      (∀ q, q < 64 → (s.que q).func = v → (t.que q).en = false ∧ (t.que q).active = false ∧ (t.que q).cmds = []) ∧
      (∀ i, s.vfHas v i = true →
        (s.str i).st = .pending ∨ (s.str i).st = .resident ∨ (s.str i).st = .suspended ∨ (s.str i).st = .migrating →
        (t.str i).st = .aborted ∧ (t.str i).cause = 0xF004)) ∧
    (∃ t, exec .pfFlr s = .next t ∧ t = { s with streams := t.streams, hq := cleared } ∧ ∀ i, (t.str i).st = (s.str i).st) ∧
    (s.hq.linkUp = true → ∃ t, exec .hostLinkLost s = .next t ∧
      t.hq = { cleared with linkUp := false, width := 0, speed := 0, flit := false, err := s.hq.err ||| 1#7 } ∧
      (bit s.hq.err.toNat 0 = false → (0, 2) ∈ t.msix)) ∧
    (s.dev.perst = false → s.clocked = true → s.dev.st ≠ 5 → exec .memReady s = .next { s with hq := { s.hq with memReady := true } }) ∧
    (∀ w g f, w ∈ [1, 2, 4, 8, 16] → 1 ≤ g → g ≤ 6 → s.dev.perst = false →
      exec (.hostLinkUp w g f) s = .next { s with hq := { s.hq with linkUp := true, width := w, speed := g, flit := f } }))

/-- An access to BAR0 of the wrong size, out of alignment or refused by the part's state is discarded, counted, and the first
of them recorded; a refused read still returns its bytes. A write that is accepted takes effect: a command register runs its
command, a scratch register keeps its word, the lower word of a 64-bit register is held until the same function writes the
upper. A 32-bit read of a lower word latches the upper one (15, R449, R450, R452, R455, R456, Table 15-8). -/
def Obligations.RegisterAccessesAreTakenOrRecorded : Prop :=
  ∀ (s : State) (fn off : Nat),
    let d := s.dev
    let Recorded (t : State) (k : Nat) : Prop := t = { s with dev := t.dev } ∧ t.dev.accCnt = min 65535 (d.accCnt + 1) ∧
      t.dev.accErr = true ∧ (d.accErr = false → t.dev.accFn = fn ∧ t.dev.accKind = k ∧ t.dev.accAddr = off) ∧
      (d.accErr = true → t.dev.accFn = d.accFn ∧ t.dev.accKind = d.accKind ∧ t.dev.accAddr = d.accAddr)
    let u (f : Nat) : State := s.unlatch f true
    s.reachable = true →
    (∀ k wide v, barSpan fn off (if wide then 8 else 4) = true → s.refusal fn off (if wide then 8 else 4) true = some k →
      ∃ t, exec (.registerWrite fn off wide v) s = .next t ∧ Recorded t k) ∧
    (∀ k n, barSpan fn off n = true → s.refusal fn off n true = some k →
      ∃ t, exec (.refusedAccess fn off n true) s = .next t ∧ Recorded t k ∧ t.dev.readData = d.readData) ∧
    (∀ k n, barSpan fn off n = true → s.refusal fn off n false = some k →
      ∃ t, exec (.refusedAccess fn off n false) s = .next t ∧ Recorded t k ∧
        t.dev.readData = d.readData ++ [(fn, s.readBytes fn off n)]) ∧
    (s.stateRefuses 0 0x500 = false → ∀ i (v : W64), i < 4 →
      exec (.registerWrite 0 (0x500 + 4 * i) false v) s =
        .next { u 0 with dev := { (u 0).dev with scratch := d.scratch.set i (BitVec.ofNat 32 v.toNat) } }) ∧
    (s.stateRefuses 0 off = false → off < 0x2000000 → off % 4 = 0 →
      (off = 0x20 → ∀ v : W64, exec (.registerWrite 0 off false v) s = exec (.scaleClassWrite (BitVec.ofNat 2 v.toNat)) (u 0)) ∧
      (off = 0x10 → exec (.registerWrite 0 off false 1) s = exec .warmReset (u 0)) ∧
      (off = 0x300 → exec (.registerWrite 0 off false 0x80000000) s = exec .accErrClear (u 0)) ∧
      (∀ h, h < 16 → off = 0x100000 + 0x10000 * h →
        exec (.registerWrite 0 off false 1) s = exec (.basketStop h) (u 0) ∧
        exec (.registerWrite 0 off false 2) s = exec (.basketCommit h) (u 0) ∧
        exec (.registerWrite 0 off false 4) s = exec (.basketReset h) (u 0) ∧
        exec (.registerWrite 0 off false 8) s = exec (.basketOff h) (u 0) ∧
        exec (.registerWrite 0 off false 16) s = exec (.basketOn h) (u 0))) ∧
    (∀ v : W64, barSpan fn off 4 = true → off % 4 = 0 → s.stateRefuses fn off = false → isLow fn off = true →
      exec (.registerWrite fn off false v) s = .next { u fn with dev := { (u fn).dev with
        heldLow := tset noneDflt (u fn).dev.heldLow fn (some (off, BitVec.ofNat 32 v.toNat)) } }) ∧
    (∀ (v : W64) w, barSpan fn (off + 4) 4 = true → off % 4 = 0 → s.stateRefuses fn (off + 4) = false → isLow fn off = true →
      isLow fn (off + 4) = false → tget noneDflt d.heldLow fn = some (off, w) →
      exec (.registerWrite fn (off + 4) false v) s = .next ((u fn).fnWrite64 fn off (w.toNat + v.toNat % 2 ^ 32 * 2 ^ 32))) ∧
    (barSpan fn off 4 = true → off % 4 = 0 → ∃ t, exec (.latchedLowerRead fn off) s = .next t ∧ t = { s with dev := t.dev } ∧
      t.dev.readData = d.readData ++ [(fn, leBytes 4 (s.read32 fn off))] ∧
      tget noneDflt t.dev.latch fn = (if fn = 0 ∧ lowWord off = true then some (off, BitVec.ofNat 32 (s.word fn (off + 4))) else none)) ∧
    exec .accErrClear s = .next { s with dev := { d with accErr := false, accFn := 0, accKind := 0, accCnt := 0, accAddr := 0 } }

/-- A warm reset, by GCTL_RESET or with PERST_N: every stream on the part is ABORTED with CAUSE 0xF005, each Basket goes through
its reset, Pots, scale entries, tokens and the host's registers are as after reset, and the fabric sends nothing of its own for
2 ms under a new incarnation; the Kettle, the scale class and the sticky scratch registers stand. PERST_N is released 100 µs
after it began at the earliest (11, R363, R371; 14, R432, R435, Table 14-4; 16, R472).

A lost clock, or a thermal trip, stops the part: streams are ABORTED with CAUSE 0xF005, Baskets are STOPPED, no port stays
linked, the TEC gates are off, FAULT_N is low, and the heaters' currents hold for 10 ms and then go to zero; a trip raises its
event of class X (14, R433, R444). -/
def Obligations.WarmResetsAndClockLosses : Prop :=
  -- WarmResetEmptiesTheCore
  (∀ (s : State),
    let Warm (t : State) : Prop :=
      (∀ i, (s.str i).st = .pending ∨ (s.str i).st = .resident ∨ (s.str i).st = .suspended ∨ (s.str i).st = .migrating →
        (t.str i).st = .aborted ∧ (t.str i).cause = 0xF005) ∧
      (∀ h, h < 16 → (t.bsk h).st = (if (s.bsk h).st = .off ∨ (s.bsk h).st = .retired then (s.bsk h).st else .warming) ∧
        (t.bsk h).inflight = [] ∧ (t.bsk h).mvms = []) ∧
      (∀ p, p < 272 → (t.pan p).a.valid = false ∧ (t.pan p).b.valid = false ∧ (t.pan p).computeQ = []) ∧
      t.pots = [] ∧ t.scales = [] ∧ t.tokens = [] ∧ t.globals = [] ∧ t.hq = {} ∧ t.ket = s.ket ∧
      t.dzf = s.dzf.warm s.time ∧ t.dev.cls = s.dev.cls ∧ t.dev.scratch = s.dev.scratch ∧ t.memCe = 0 ∧ t.memUe = 0
    (s.clocked = true → s.dev.cause ≠ 3 → ∃ t, exec .warmReset s = .next t ∧ Warm t ∧ t.time = s.time) ∧
    (s.clocked = false ∨ s.dev.cause = 3 → exec .warmReset s = .next s) ∧
    (s.dev.perst = false → s.clocked = true → s.dev.cause ≠ 3 → ∃ t, exec .perstAssert s = .next t ∧ Warm t ∧
      t.dev.perst = true ∧ t.dev.perstAt = s.time) ∧
    (s.dev.perst = true → exec .perstAssert s = .next s) ∧
    (s.dev.perst = true → s.clocked = true → s.dev.cause ≠ 3 → s.dev.vaux = true → ∃ t, exec .perstRelease s = .next t ∧
      t = { s with time := max s.time (s.dev.perstAt + 100000), dev := t.dev } ∧ t.dev.perst = false ∧
      t.dev.rootLock = true ∧ t.dev.testLock = true ∧ t.dev.st = (if s.dev.st = 5 then 5 else 1)) ∧
    (s.dev.perst = false → exec .perstRelease s = .next s)) ∧
  -- LosingTheClockStopsThePart
  (∀ (s : State),
    let Dead (t : State) : Prop :=
      (∀ i, (s.str i).st = .pending ∨ (s.str i).st = .resident ∨ (s.str i).st = .suspended ∨ (s.str i).st = .migrating →
        (t.str i).st = .aborted ∧ (t.str i).cause = 0xF005) ∧
      (∀ n, n < 32 → linked (t.port n).st = false) ∧ (∀ q, q < 4 → (t.coil q).dark = true ∧ (t.coil q).gates = 0) ∧
      (∀ h, h < 16 → (t.bsk h).st = .off ∨ (t.bsk h).st = .retired ∨ (t.bsk h).st = .stopped) ∧
      t.ket.heaterHold = some (s.time + 10000000) ∧ t.dev.faultClk = true ∧ t.faultN = true ∧ t.clocked = false ∧ t.time = s.time
    (s.clocked = true → ∀ pll, ∃ t, exec (.clockLoss pll) s = .next t ∧ Dead t ∧ t.dev.st = 4 ∧ t.dev.cause = (if pll then 2 else 1) ∧
      t.dev.thermTrip = s.dev.thermTrip) ∧
    (s.clocked = false → ∀ pll, exec (.clockLoss pll) s = .next s) ∧
    (s.clocked = true → ∀ ch, ch < 512 → ∃ t, exec (.thermtrip ch) s = .next t ∧ Dead t ∧ t.dev.st = 3 ∧ t.dev.cause = 4 ∧
      t.dev.thermTrip = true ∧ ∃ e, e ∈ t.evq ∧ e.code = 0x0B04 ∧ e.cls = 4 ∧ e.detail = ch) ∧
    (∀ τ, s.ket.heaterHold = some τ → ∃ t, exec .heaterHoldEnd s = .next t ∧ t.time = max s.time τ ∧ t.ket.heaterHold = none ∧
      t.ket.heatersOff = true ∧ (∀ n, n % 80 < 68 → (t.slot n).out = 0 ∧ (t.slot n).segs = [0, 0, 0, 0]) ∧ (∀ n, 68 ≤ n % 80 → t.slot n = s.slot n)))

/-- A cold reset leaves nothing of the core: memory, streams and every block are as after reset, sparing comes from the fuses
and the live sticky records, those that wait for their commit among them, and what those retired stays RETIRED. VAUX wakes
Trivet on its fuses and counts the incarnation on from the last BOOT record; as it fails one POWER_LOSS record says how many
records were lost (09, R303; 11, R348, R363; 13, R419 to R421; 14, R434, Table 14-4). -/
def Obligations.ColdResetStartsAnew : Prop :=
  ∀ (s : State) (c : ColdCause) (ok : Bool) (bad : List (Nat × Bool)),
    let rs := liveSticky s.trv.known
    (s.dev.vaux = true → s.dev.cause ≠ 3 → ∃ t, exec (.coldReset c ok) s = .next t ∧ t.time = 0 ∧ t.mem = [] ∧ t.streams = [] ∧
      t.pots = [] ∧ t.tokens = [] ∧ t.globals = [] ∧ t.hq = {} ∧ t.ket = {} ∧ t.cal = {} ∧ t.feu = {} ∧ t.pending = s.pending ∧
      t.dev.cause = (if ok then 0 else 3) ∧ t.dev.st = (if s.trv.recovery ∧ ok then 5 else 0) ∧
      t.dzf.inc = (if c = .vaux then s.dzf.inc else s.dzf.inc + 1) % 256 ∧
      (∀ p, p < 272 → (∀ r, r ∈ rs → ∀ a b d, r.kind ≠ .fieldRepair p a b d) →
        (t.pan p).rowSpare = BitVec.ofNat 32 (s.fuseData (0x10 + p))) ∧
      (∀ r p k, r ∈ rs → r.kind = .panRetire p k → (t.pan p).mode = .retired ∧ (t.pan p).slot = none) ∧
      (∀ r h k, r ∈ rs → r.kind = .basketRetire h k → (t.bsk h).st = .retired) ∧
      (∀ r n k, r ∈ rs → r.kind = .portRetire n k → (t.port n).st = .retired)) ∧
    (s.dev.vaux = false ∨ s.dev.cause = 3 → exec (.coldReset c ok) s = .next s) ∧
    (s.dev.vaux = false → (∀ e, e ∈ bad → e.1 < 512) → ∃ t, exec (.vauxApply bad) s = .next t ∧ t.dev.vaux = true ∧
      t.trv.badFuse = bad.map (fun e => e.1) ∧ t.trv.ready = false ∧ t.dzf.inc = (s.trv.lastInc + 1) % 256 ∧
      (∀ e, e ∈ bad → ∃ x, x ∈ t.evq ∧ x.code = 0x0A04 ∧ x.cls = 0 ∧ x.unit = 0x07 ∧ x.detail = shl (b2n e.2) 28 + e.1)) ∧
    (s.dev.vaux = true → ∃ t, exec .vauxPowerFail s = .next t ∧ t.dev.vaux = false ∧ t.trv.bbrQ = [] ∧ t.trv.ready = false ∧
      ∃ r, t.trv.records.getLast? = some r ∧ r.time = s.time ∧
        r.kind = .powerLoss s.trv.bbrQ.length (s.trv.queuedSeqs.headD 0) (s.trv.queuedSeqs.getLastD 0))

/-- The board's inputs, once Trivet is up: an edge 10 µs after the last changes the input's level, one within that time is
counted and coalesced; BOARD_ALERT_N reads every regulator's status; one asserted for more than 100 ms is masked and told, and
taken back 10 ms after it left (14, R430, R441, R442).

A driven output that contends is taken off the board and told, with its TEC bridge off and its wavelength slot in HOLD; a
re-enable clears the bits it names, and readings that then match let the bridge go on. The regulators' powers are read each
millisecond, a silent one leaves the sum after 10 ms and counts at its design power beside it, and both averages are of the last
ten (01, R24; 08, R278; 14, R430, R443, R445). -/
def Obligations.BoardSignalsAreHandled : Prop :=
  -- BoardInputsAreConditioned
  (∀ (s : State) (b : Bool),
    let Moved (t : State) (n : Nat) : Prop :=
      t.inp n = { s.inp n with pin := b, since := s.time, edgeAt := some s.time, level := b } ∧ (∀ k, k ≠ n → t.inp k = s.inp k)
    let fits (n : Nat) : Prop := (s.inp n).edgeAt = none ∧ (s.inp n).pin = !b ∧ (s.inp n).masked = false
    let Held (t : State) (n : Nat) : Prop := t.dev.inCnt = min 65535 (s.dev.inCnt + 1) ∧ (t.inp n).pin = b ∧
      (t.inp n).level = (s.inp n).level ∧ (t.inp n).edgeAt = (s.inp n).edgeAt
    let soon (n : Nat) : Prop := ∃ τ, (s.inp n).edgeAt = some τ ∧ s.time < τ + 10000 ∧ (s.inp n).pin = !b
    s.trv.up = true →
    (fits 0 → ∃ t, exec (.syncIn b) s = .next t ∧ Moved t 0) ∧
    (fits 1 → ∃ t, exec (.boardAlert b) s = .next t ∧ Moved t 1 ∧
      t.mgmt = (if b && !(s.inp 1).level then s.mgmt ++ (List.range 9).map MgmtMsg.regulator else s.mgmt)) ∧
    (fits 2 → ∃ t, exec (.hotIn b) s = .next t ∧ Moved t 2 ∧ t = { s with dev := t.dev }) ∧
    (soon 0 → ∃ t, exec (.syncIn b) s = .next t ∧ Held t 0) ∧ (soon 1 → ∃ t, exec (.boardAlert b) s = .next t ∧ Held t 1) ∧
    (soon 2 → ∃ t, exec (.hotIn b) s = .next t ∧ Held t 2) ∧
    (∀ n, n < 3 → (s.inp n).pin = true → (s.inp n).masked = false → ∃ t, exec (.inputStuck n) s = .next t ∧
      t.time = max s.time ((s.inp n).since + 100000001) ∧
      t.inp n = { s.inp n with masked := true, stuck := true, level := false, edgeAt := none } ∧
      (∃ e, t.evq = s.evq ++ [e] ∧ e.code = 0x0B01 ∧ e.cls = 0 ∧ e.unit = 0x08 ∧ e.index = n ∧ e.detail = 1) ∧
      (n = 2 → t.dev.hotLow = true)) ∧
    (∀ n, n < 3 → (s.inp n).masked = true → (s.inp n).pin = false → ∃ t, exec (.inputRearm n) s = .next t ∧
      t.time = max s.time ((s.inp n).since + 10000000) ∧ t.inp n = { s.inp n with masked := false } ∧
      (∃ e, t.evq = s.evq ++ [e] ∧ e.code = 0x0B01 ∧ e.cls = 0 ∧ e.unit = 0x08 ∧ e.index = n ∧ e.detail = 0) ∧
      (n = 2 → t.dev.hotLow = false))) ∧
  -- OutputsContendAndRegulatorsAreRead
  (∀ (s : State) (sg : Nat) (lv : Bool) (m : W32) (rs : List RailRead),
    let q := (sg - 16) / 4
    (∀ b, contBit sg = some b → s.isDriven sg = true → bit s.dev.outCont.toNat b = false →
      ∃ t, exec (.outContention sg lv) s = .next t ∧ t.dev = { s.dev with outCont := s.dev.outCont ||| BitVec.ofNat 32 (2 ^ b) } ∧
        (∃ e, t.evq = s.evq ++ [e] ∧ e.code = 0x0B03 ∧ e.cls = 0 ∧ e.unit = 0x08 ∧ e.index = sg ∧ e.detail = b2n lv) ∧
        (32 ≤ sg → t.ket = s.ket) ∧
        (sg < 32 → (t.coil q).contend = true ∧ (t.coil q).gates = 0 ∧ (t.coil q).duty = 0 ∧ (t.slot (80 * q + 69)).out = 0 ∧
          ((s.slot (80 * q + 68)).st = .run → (t.slot (80 * q + 68)).st = .hold))) ∧
    exec (.outputReenable m) s = .next { s with dev := { s.dev with outCont := s.dev.outCont &&& ~~~m } } ∧
    (∀ b, contBit sg = some b → sg < 32 → (s.coil q).contend = true →
      bits s.dev.outCont.toNat (11 + 4 * q) (8 + 4 * q) = 0 → bit s.dev.outCont.toNat b = false →
      ∃ t, exec (.contentionCleared sg) s = .next t ∧ t = { s with ket := t.ket } ∧ (t.coil q).contend = false) ∧
    ((∀ x, x ∈ rs → x.rail < 9) → s.trv.ready = true →
      let u := rs.foldl State.railRead s
      let x := (List.range 9).map u.railPower
      let l := takeLast 10 (s.dev.samples ++ [(sumNat (x.map (fun e => e.1)), sumNat (x.map (fun e => e.2)))])
      ∃ t, exec (.pmbusPoll rs) s = .next t ∧ t = { s with dev := t.dev } ∧ t.dev.samples = l ∧
        t.dev.avg = sumNat (l.map (fun e => e.1)) / l.length ∧ t.dev.avgMore = sumNat (l.map (fun e => e.2)) / l.length ∧
        (∀ r, (∀ x, x ∈ rs → x.rail ≠ r) → tget natDflt t.dev.silent r = tget natDflt s.dev.silent r) ∧
        (∀ r w, rs = [{ rail := r, pin := some w }] → u.railPower r = (1000 * w, 0) ∧ tget natDflt t.dev.silent r = 0) ∧
        (∀ r, rs = [{ rail := r, pin := none }] → tget natDflt t.dev.silent r = tget natDflt s.dev.silent r + 1 ∧
          (9 ≤ tget natDflt s.dev.silent r → u.railPower r = (0, designPower r)))))

/-- Trivet answers what a transport it listens to asks: its identity under a fresh nonce, a subscription, its records, its
monitor buffer, a signed fuse or erase command, and the MCTP, PLDM and SPDM requests; in the mailbox the answer sets DONE, the
status and the tag and signals vector 1. A subscriber's REPORT takes up to 16 of its records and its count of dropped ones
(13, R399 to R403, R410, R419, R422 to R426). -/
def Obligations.TrivetAnswersItsCommands : Prop :=
  ∀ (s : State) (via : Via) (tag : Nat),
    let v := s.trv
    let Says (t : State) (code st : Nat) (data : List Nat) : Prop :=
      t = { s with freeCtr := t.freeCtr, trv := t.trv, msix := t.msix, mgmt := t.mgmt } ∧
      t.mgmt = s.mgmt ++ [.response via code tag st data] ∧
      (via = .mailbox → t.trv.rspDone = true ∧ t.trv.rspStat = st ∧ t.trv.rspTag = tag % 2 ^ 16 ∧ t.trv.goBusy = false ∧
        t.msix = s.msix ++ [(0, 1)]) ∧ (via ≠ .mailbox → t.msix = s.msix)
    (s.hears via true = false → exec (.getInfo via tag) s = .next s) ∧
    (s.hears via true = true → ∃ t n, exec (.getInfo via tag) s = .next t ∧ t.trv.nonce = some n ∧
      Says t 1 0 [s.uid, v.fwVer, v.bank, s.svnCount, b2n s.locked, n]) ∧
    (s.hears via false = true →
      (∀ cls mask e, via = .management e →
        let u : Sub := { eid := e, cls := cls, mask := mask, queue := [], lost := 0 }
        (v.subs.any (fun x => x.eid = e) = true → ∃ t, exec (.subscribe via tag cls mask) s = .next t ∧ Says t 2 0 [] ∧
          t.trv.subs = lmod (fun x => x.eid = e) (fun _ => u) v.subs) ∧
        (v.subs.any (fun x => x.eid = e) = false → v.subs.length < 4 → ∃ t, exec (.subscribe via tag cls mask) s = .next t ∧
          Says t 2 0 [] ∧ t.trv.subs = v.subs ++ [u]) ∧
        (v.subs.any (fun x => x.eid = e) = false → 4 ≤ v.subs.length → ∃ t, exec (.subscribe via tag cls mask) s = .next t ∧
          Says t 2 2 [] ∧ t.trv.subs = v.subs)) ∧
      (∀ cls mask, managed via = false → ∃ t, exec (.subscribe via tag cls mask) s = .next t ∧ Says t 2 2 [] ∧ t.trv.subs = v.subs) ∧
      (∀ sq n, ∃ t, exec (.readBbr via tag sq n) s = .next t ∧
        Says t 8 0 (((v.records.filter (fun r => decide (sq ≤ r.seq))).take n).flatMap recData)) ∧
      (∀ i n, i < 16384 → n ≤ 16384 → ∃ t, exec (.readMon via tag i n) s = .next t ∧
        Says t 3 0 (((List.range n).flatMap (fun k => s.monAt ((i + k) % 16384))).map BitVec.toNat)) ∧
      (∀ i n, 16384 ≤ i ∨ 16384 < n → ∃ t, exec (.readMon via tag i n) s = .next t ∧ Says t 3 6 []) ∧
      (∀ rq nc k, managed via = true → v.nonce = some nc → s.fuseTarget rq = some k →
        ∃ t, exec (.fuseAdvance via tag rq nc true) s = .next t ∧ Says t 0xB 0 [] ∧ t.fuseValid k = true ∧
          (∀ j, j ≠ k → t.fuse j = s.fuse j)) ∧
      (∀ rq nc, managed via = true → v.nonce = some nc → s.fuseTarget rq = none →
        ∃ t, exec (.fuseAdvance via tag rq nc true) s = .next t ∧ Says t 0xB 6 [] ∧ t.trv.fuses = v.fuses) ∧
      (∀ rq nc ok, managed via = true → ok = false ∨ v.nonce ≠ some nc →
        ∃ t, exec (.fuseAdvance via tag rq nc ok) s = .next t ∧ Says t 0xB 5 [] ∧ t.trv.fuses = v.fuses) ∧
      (∀ nc, managed via = true → v.nonce = some nc → ∃ t, exec (.bbrErase via tag nc true) s = .next t ∧ Says t 0xC 0 [] ∧
        (∀ r, r ∈ t.trv.records → v.bbrSeq < r.seq) ∧
        ∃ r, t.trv.records.getLast? = some r ∧ r.time = s.time ∧ r.kind = .erased v.bbrSeq) ∧
      (∀ nc ok, managed via = true → ok = false ∨ v.nonce ≠ some nc →
        ∃ t, exec (.bbrErase via tag nc ok) s = .next t ∧ Says t 0xC 5 [] ∧ t.trv.bbr = v.bbr) ∧
      (managed via = false → ∀ rq nc ok,
        (∃ t, exec (.fuseAdvance via tag rq nc ok) s = .next t ∧ Says t 0xB 2 [] ∧ t.trv.fuses = v.fuses) ∧
        (∃ t, exec (.bbrErase via tag nc ok) s = .next t ∧ Says t 0xC 2 [] ∧ t.trv.bbr = v.bbr))) ∧
    (v.ready = true →
      exec (.mctpControl .getEid) s = .next { s with mgmt := s.mgmt ++ [.mctp (v.eid.getD 0)] } ∧
      (∀ e, exec (.mctpControl (.setEid e)) s = .next { s with trv := { v with eid := some e }, mgmt := s.mgmt ++ [.mctp e] }) ∧
      (v.eid.isSome = true → ∀ n, n < 512 → exec (.pldmMonitoring n) s = .next { s with mgmt := s.mgmt ++
        [.sensor n ((tget noneDflt v.chanLast n).getD 0) (tget noneDflt v.chanLast n).isSome] }) ∧
      (v.eid.isSome = true → (∃ x, exec (.spdm .certificates) s = .next { s with mgmt := s.mgmt ++ [.spdm 0 x] }) ∧
        (∀ n, ∃ x, exec (.spdm (.challenge n)) s = .next { s with mgmt := s.mgmt ++ [.spdm 0 x] }) ∧
        (∀ i, 1 ≤ i → i ≤ 6 → ∃ x, exec (.spdm (.measurements i)) s = .next { s with mgmt := s.mgmt ++ [.spdm i x] })) ∧
      (∀ i u, i < 4 → v.subs[i]? = some u → u.queue ≠ [] ∨ u.lost ≠ 0 → exec (.report i) s = .next { s with
        trv := { v with subs := v.subs.set i { u with queue := u.queue.drop 16, lost := 0 } }
        mgmt := s.mgmt ++ [.report u.eid (u.queue.take 16) u.lost] }))

/-- Flash: a read answers its bytes, a program of whole pages on blank bytes puts its bytes there and an erase of whole sectors
blanks them, each answered as it completes; what the checks refuse, or finds a byte that is not blank, changes nothing. Any
write of the pattern area but one of its commit word makes that word blank (13, R401, R411 to R414). -/
def Obligations.FlashIsReadProgrammedAndErased : Prop :=
  ∀ (s : State) (via : Via) (tag a n : Nat) (bs : List Byte),
    let v := s.trv
    let fl (t : State) (k : Nat) : Byte := tget flashDflt t.trv.flash k
    let Says (t : State) (code st : Nat) (data : List Nat) : Prop := t.mgmt = s.mgmt ++ [.response via code tag st data]
    let Runs (t : State) : Prop := t.mgmt = s.mgmt ∧ t.trv.flashOps = [{ bank := flashBank a, via := via, code := 0xA, tag := tag }]
    let away (len k : Nat) : Prop := (k < a ∨ a + len ≤ k) ∧ (k < patWord ∨ patWord + 4 ≤ k)
    (∀ o rest, v.flashOps = o :: rest → ∃ t, exec .flashOpComplete s = .next t ∧ t.trv.flashOps = rest ∧
      t.mgmt = s.mgmt ++ [.response o.via o.code o.tag 0 []] ∧ t.trv.flash = v.flash) ∧
    (s.hears via false = true → v.flashOps = [] →
      (a + n ≤ 0x8000000 → ∃ t data, exec (.flashRead via tag a n) s = .next t ∧ Says t 9 0 data ∧ data.length = n ∧
        t.trv.flash = v.flash ∧
        (∀ i, i < n → s.inImage (a + i) = false → a + i < 0x6F00000 → data[i]? = some (fl s (a + i)).toNat)) ∧
      (0x8000000 < a + n → ∃ t, exec (.flashRead via tag a n) s = .next t ∧ Says t 9 6 [] ∧ t.trv.flash = v.flash) ∧
      ((s.flashCheck via a bs.length 256).2 = none → s.inImage a = false → (∀ i, i < bs.length → fl s (a + i) = 0xFF) →
        ∃ t, exec (.flashProgram via tag a bs) s = .next t ∧ Runs t ∧ (∀ i, i < bs.length → fl t (a + i) = bs.getD i 0) ∧
          (∀ k, away bs.length k → fl t k = fl s k) ∧
          (inPattern a = true → patWord < a ∨ a + bs.length ≤ patWord → ∀ i, i < 4 → fl t (patWord + i) = 0xFF)) ∧
      (∀ i, (s.flashCheck via a bs.length 256).2 = none → i < bs.length → fl s (a + i) ≠ 0xFF →
        ∃ t, exec (.flashProgram via tag a bs) s = .next t ∧ Says t 0xA 4 [] ∧ t.trv.flash = v.flash ∧
          ∃ e, e ∈ t.evq ∧ e.code = 0x0A01 ∧ e.cls = 0 ∧ e.unit = 0x07) ∧
      (∀ st, (s.flashCheck via a bs.length 256).2 = some st →
        ∃ t, exec (.flashProgram via tag a bs) s = .next t ∧ Says t 0xA st [] ∧ t.trv.flash = v.flash) ∧
      ((s.flashCheck via a n 0x10000).2 = none → ∃ t, exec (.flashErase via tag a n) s = .next t ∧ Runs t ∧
        (∀ k, a ≤ k → k < a + n → fl t k = 0xFF) ∧ (∀ k, away n k → fl t k = fl s k) ∧
        (flashBank a < 2 → (t.fwBank (flashBank a)).img = none)) ∧
      (∀ st, (s.flashCheck via a n 0x10000).2 = some st →
        ∃ t, exec (.flashErase via tag a n) s = .next t ∧ Says t 0xA st [] ∧ t.trv.flash = v.flash))

/-- The monitor's settings: a legal scan table waits for the running one's end, a comparator set is not armed yet, a trigger
group powers its converters up, a trigger of its kind fires it, a pair's two converters start half a window apart. A setting
out of range is refused by its status and changes nothing of the monitor (13, R406, R408, R409).

The monitor at work: free converters are served lowest first, comparators before the scan; a conversion that ends writes its
record at the buffer's pointer and frees its converter, or starts its pair over; a comparator arms inside its window, reports
and converts as it leaves it, at most once in a holdoff; an armed group starts together; a path's calibration lasts 1 ms
(13, R405, R407 to R410). -/
def Obligations.MonitorIsSetUpAndConverts : Prop :=
  -- MonitorTakesItsSettings
  (∀ (s : State) (via : Via) (tag : Nat),
    let v := s.trv
    let Says (t : State) (code st : Nat) : Prop := t.mgmt = s.mgmt ++ [.response via code tag st []]
    s.hears via false = true →
    (∀ tb : List ScanEntry, tb.length ≤ 256 → (∀ e, e ∈ tb → e.rsv = 0 ∧ e.channel + e.span ≤ 0x1FF) →
      ∃ t, exec (.scanWrite via tag tb) s = .next t ∧ Says t 4 0 ∧ t.trv.scanNew = some tb ∧ t.trv.scan = v.scan) ∧
    (∀ tb : List ScanEntry, 256 < tb.length ∨ (∃ e, e ∈ tb ∧ e.rsv ≠ 0) →
      ∃ t, exec (.scanWrite via tag tb) s = .next t ∧ Says t 4 1 ∧ t.trv.scanNew = v.scanNew) ∧
    (∀ (pre post : List CompSet) (c : CompSet),
      (∀ x, x ∈ pre ++ c :: post → x.idx < 64 ∧ 1 ≤ x.frames ∧ x.frames ≤ 64 ∧ x.gain ≤ 3) → (∀ x, x ∈ post → x.idx ≠ c.idx) →
      ∃ t, exec (.compWrite via tag (pre ++ c :: post)) s = .next t ∧ Says t 5 0 ∧
        (let w := tget compDflt t.trv.comps c.idx
         w.lo = c.lo ∧ w.hi = c.hi ∧ w.hyst = c.hyst ∧ w.en = c.en ∧ w.gain = c.gain ∧ w.frames = c.frames ∧ w.armed = false) ∧
        (∀ k, (∀ x, x ∈ pre ++ c :: post → x.idx ≠ k) → tget compDflt t.trv.comps k = tget compDflt v.comps k)) ∧
    (∀ sets : List CompSet, (∃ x, x ∈ sets ∧ (64 ≤ x.idx ∨ x.frames = 0 ∨ 64 < x.frames ∨ 3 < x.gain)) →
      ∃ t, exec (.compWrite via tag sets) s = .next t ∧ Says t 5 6 ∧ t.trv.comps = v.comps) ∧
    (∀ (cs : List TrigConv) (k : TrigKind),
      (∀ c, c ∈ cs → c.conv < 16 ∧ c.channel < 512 ∧ 1 ≤ c.frames ∧ c.frames ≤ 64 ∧ c.gain ≤ 3 ∧ s.pairOf c.conv = none) →
      (∀ τ, k = .atTime τ → τ % 1000 = 0) →
      ∃ t, exec (.trigArm via tag cs k) s = .next t ∧ Says t 6 0 ∧ t.trv.group = some {
        convs := cs, kind := k, fired := false, readyAt := maxNat (cs.map (fun c => s.convFree c.conv)) + 12000 }) ∧
    (∀ g, v.group = some g → g.kind = .command →
      ∃ t, exec (.trig via tag) s = .next t ∧ Says t 6 0 ∧ t.trv.group = some { g with fired := true }) ∧
    (∀ pr ch fr, pr < 2 → 0x158 ≤ ch → ch ≤ 0x15B → 1 ≤ fr → fr ≤ 64 →
      let e := 12 + 2 * pr
      let τ := s.time + 12000 + 16000 * fr
      ∃ t, exec (.ilvSet via tag pr ch fr) s = .next t ∧ Says t 7 0 ∧ tget noneDflt t.trv.pairs pr = some (ch, fr) ∧
        (s.convAt e = none → s.convAt (e + 1) = none →
          ∃ x y, t.convAt e = some x ∧ t.convAt (e + 1) = some y ∧ x.endAt = τ ∧ y.endAt = τ + 8000 * fr ∧
            x.channel = ch ∧ y.channel = ch ∧ x.src = 3 ∧ y.src = 3)) ∧
    (∀ pr ch fr, 2 ≤ pr ∨ ch < 0x158 ∨ 0x15B < ch ∨ fr = 0 ∨ 64 < fr →
      ∃ t, exec (.ilvSet via tag pr ch fr) s = .next t ∧ Says t 7 6 ∧ t.trv.pairs = v.pairs)) ∧
  -- MonitorConverts
  (∀ (s : State) (c : Nat),
    let v := s.trv
    (v.ready = true → c < 16 →
      (s.convIdle c = false → ∃ t, exec .monitorDispatch s = .next t ∧ t.convAt c = s.convAt c) ∧
      (s.convIdle c = true → (∀ k, k < c → s.convIdle k = false) →
        (∀ n, argMin id v.compQ = some n → ∃ t, exec .monitorDispatch s = .next t ∧ t.convAt c = some {
          channel := compChan n, gain := (tget compDflt v.comps n).gain, frames := (tget compDflt v.comps n).frames, src := 1
          entry := n, stale := (tget noneDflt v.chanCal (compChan n)).isSome
          endAt := s.time + 12000 + 16000 * (tget compDflt v.comps n).frames }) ∧
        (∀ e, v.compQ = [] → v.scan[v.scanPos]? = some e → v.scanWait ≤ s.time → e.en = true →
          chanRsv (e.channel + v.scanOfs) = false →
          ∃ t, exec .monitorDispatch s = .next t ∧ t.convAt c = some {
            channel := e.channel + v.scanOfs, gain := e.gain, frames := e.frames + 1, src := 0, entry := v.scanPos
            stale := (tget noneDflt v.chanCal (e.channel + v.scanOfs)).isSome, endAt := s.time + 12000 + 16000 * (e.frames + 1) }))) ∧
    (∀ x value off, c < 16 → s.convAt c = some x →
      let r := clampVal x.channel x.gain value off
      ∃ t, exec (.conversionComplete c value off) s = .next t ∧ t.time = max s.time x.endAt ∧
        t.trv.wptr = (v.wptr + 1) % 16384 ∧
        tget noneDflt t.trv.mon v.wptr = some {
          time := t.time, value := if x.stale then (tget noneDflt v.chanLast x.channel).getD 0 else r.1, sat := !x.stale && r.2
          stale := x.stale, src := x.src, gain := x.gain, conv := c, channel := x.channel, frames := x.frames - 1
          entry := x.entry } ∧
        (∀ k, k ≠ v.wptr → tget noneDflt t.trv.mon k = tget noneDflt v.mon k) ∧
        (s.pairOf c = none → t.convAt c = none) ∧
        (∀ ch n, s.pairOf c = some (ch, n) → x.src = 3 → ∃ y, t.convAt c = some y ∧ y.src = 3 ∧ y.channel = ch ∧ y.frames = n ∧
          y.endAt = t.time + 16000 * n)) ∧
    (∀ n value, n < 64 → v.ready = true →
      let w := tget compDflt v.comps n
      let out := value < w.lo ∨ w.hi < value
      (w.en = true → w.lo + w.hyst ≤ value → value ≤ w.hi - w.hyst →
        exec (.monWindow n value) s = .next (s.setComp n { w with armed := true })) ∧
      (w.en = true → out → 0 ≤ w.hyst → w.armed = true → w.hold = none → ∃ t, exec (.monWindow n value) s = .next t ∧
        t.trv.compQ = v.compQ ++ [n] ∧
        tget compDflt t.trv.comps n = { w with armed := false, hold := some (s.time + 64000), cross := 0 }) ∧
      (w.en = true → out → 0 ≤ w.hyst → w.armed = true → w.hold.isSome = true →
        exec (.monWindow n value) s = .next (s.setComp n { w with armed := false, cross := w.cross + 1 })) ∧
      (w.en = false → exec (.monWindow n value) s = .next s)) ∧
    (∀ n value τ, n < 64 →
      let w := tget compDflt v.comps n
      let u := s.at τ
      w.hold = some τ →
      (w.cross = 0 ∨ (w.lo ≤ value ∧ value ≤ w.hi) → exec (.holdoffEnd n value) s = .next (u.setComp n { w with hold := none, cross := 0 })) ∧
      (w.cross ≠ 0 → value < w.lo ∨ w.hi < value → ∃ t, exec (.holdoffEnd n value) s = .next t ∧ t.time = max s.time τ ∧
        t.trv.compQ = v.compQ ++ [n] ∧ tget compDflt t.trv.comps n = { w with hold := some (t.time + 64000), cross := 0 })) ∧
    (∀ g, v.group = some g → (g.fired = true ∨ ∃ τ, g.kind = .atTime τ) →
      ∃ t, exec .commonTriggerStart s = .next t ∧ t.trv.group = none ∧
        t.time = max s.time (match g.kind with | .atTime τ => max τ g.readyAt | _ => g.readyAt) ∧
        (∀ pre post y, g.convs = pre ++ y :: post → (∀ z, z ∈ post → z.conv ≠ y.conv) →
          ∃ x, t.convAt y.conv = some x ∧ x.channel = y.channel ∧ x.gain = y.gain ∧ x.frames = y.frames ∧ x.src = 2 ∧
            x.endAt = t.time + 16000 * y.frames)) ∧
    (∀ ch, ch < 512 →
      (∃ t, exec (.monitorPathCal ch true) s = .next t ∧ t = { s with trv := t.trv } ∧ tget noneDflt t.trv.chanCal ch = some s.time) ∧
      (∀ b, tget noneDflt v.chanCal ch = some b → ∃ t, exec (.monitorPathCal ch false) s = .next t ∧
        t.time = max s.time (b + 1000000) ∧ tget noneDflt t.trv.chanCal ch = none)))

/-- Trivet boots the bank its ROM chooses, or stands in recovery where none may boot, and says which in a BOOT record; a restart
drops what its RAM held and keeps its flash, its record and what waits for a commit. A firmware update erases, writes and
verifies the other bank and commits it only where it verifies. The record at the front of the queue is committed next, and a
second's end tells what that second lost (13, R415 to R421). -/
def Obligations.TrivetBootsAndKeepsItsRecord : Prop :=
  ∀ (s : State),
    let v := s.trv
    let Boots (t : State) (b ver o : Nat) : Prop := t.trv.boots = v.boots + 1 ∧
      t.trv.bbrQ.getLast? = some (s.time, .boot b ver s.svnCount v.resetKind o s.dzf.inc)
    let Fresh (t : State) : Prop := t.trv.ready = false ∧ t.trv.recovery = false ∧ t.trv.eid = none ∧ t.trv.subs = [] ∧
      t.trv.scan = [] ∧ t.trv.comps = [] ∧ t.trv.notes = [] ∧ t.trv.rspDone = false ∧ t.trv.flash = v.flash ∧ t.trv.fw = v.fw ∧
      t.trv.bbr = v.bbr ∧ t.trv.bbrQ = v.bbrQ ∧ t.trv.fuses = v.fuses
    let Updated (t : State) (b ver o : Nat) : Prop := t.trv.fwUpd = none ∧ t.trv.bbrQ = v.bbrQ ++ [(s.time, .fwUpdate b ver o)]
    (s.dev.vaux = true → v.ready = false → v.recovery = false →
      (∀ b i, s.bootBank = some (b, i) → ∃ t, exec .trivetBoot s = .next t ∧ t.trv.ready = true ∧ t.trv.up = true ∧
        t.trv.bank = b ∧ t.trv.fwVer = i.version ∧ Boots t b i.version 0 ∧ t.feu.held = []) ∧
      (s.bootBank = none → ∃ t, exec .trivetBoot s = .next t ∧ t.trv.recovery = true ∧ t.trv.ready = false ∧ t.trv.fwVer = 0 ∧
        t.dev.st = 5 ∧ Boots t v.bank 0 1)) ∧
    (s.dev.vaux = false ∨ v.ready = true ∨ v.recovery = true → exec .trivetBoot s = .next s) ∧
    (v.ready = true ∨ v.recovery = true → ∀ tag, ∃ t, exec (.trivetRestart none tag) s = .next t ∧ Fresh t ∧ t.mgmt = s.mgmt) ∧
    (∀ via tag, s.hears via false = true → ∃ t, exec (.trivetRestart (some via) tag) s = .next t ∧ Fresh t ∧
      t.mgmt = s.mgmt ++ [.response via 0xD tag 0 []]) ∧
    (v.eid.isSome = true → v.ready = true ∨ v.recovery = true →
      (v.fwUpd = none → ∃ t, exec (.pldmFirmwareUpdate .begin) s = .next t ∧ t.trv.fwUpd = some (s.updBank, none) ∧
        t.fwBank s.updBank = {} ∧ (∀ b, b ≠ s.updBank → t.fwBank b = s.fwBank b)) ∧
      (∀ b x img, v.fwUpd = some (b, x) → ∃ t, exec (.pldmFirmwareUpdate (.transfer img)) s = .next t ∧
        t.trv.fwUpd = some (b, some img) ∧ t.fwBank b = { img := some img, commit := false }) ∧
      (∀ b img, v.fwUpd = some (b, some img) → ∃ t, exec (.pldmFirmwareUpdate (.activate false)) s = .next t ∧
        Updated t b img.version (b2n (!s.verifies img)) ∧ t.fwBank b = { img := some img, commit := s.verifies img }) ∧
      (∀ b img, v.fwUpd = some (b, some img) → s.verifies img = true → ∃ t, exec (.pldmFirmwareUpdate (.activate true)) s = .next t ∧
        Updated t b img.version 0 ∧ t.fwBank b = { img := some img, commit := true } ∧ t.trv.ready = false ∧ t.trv.recovery = false) ∧
      (∀ b img, v.fwUpd = some (b, some img) → ∃ t, exec (.pldmFirmwareUpdate .cancel) s = .next t ∧
        Updated t b img.version 2 ∧ t.trv.fw = v.fw)) ∧
    (∀ τ k rest, v.bbrQ = (τ, k) :: rest → ∃ t r, exec .bbrCommit s = .next t ∧ t = { s with trv := t.trv } ∧ t.trv.bbrQ = rest ∧
      t.trv.records.getLast? = some r ∧ r.time = τ ∧ r.kind = k ∧ r.seq = t.trv.bbrSeq ∧ r.carried = false ∧
      (∀ x, v.bbr.getLast? = some x → x.recs.length < 1024 → t.trv.records = v.records ++ [r] ∧ r.seq = v.bbrSeq + 1)) ∧
    (v.second ≤ s.time / 1000000000 → ∃ t, exec .bbrSecondEnd s = .next t ∧ t.time = (s.time / 1000000000 + 1) * 1000000000 ∧
      t.trv.second = s.time / 1000000000 + 1 ∧ t.trv.secCount = 0 ∧ t.trv.lostSec = [] ∧
      t.trv.bbrQ = (if v.lostSec = [] then v.bbrQ
        else v.bbrQ ++ [(t.time, .lost v.lostSec.length (v.lostSec.headD 0) (v.lostSec.getLastD 0))]))
end

