-- ==== Sys2Proof/Laws/Frame.lean ====
section
/-! SUPPORT. What every operation leaves as it was, field by field of State:
the shared operations, the sequencer and the Pots. -/

namespace Sys2Proof.Machine

set_option linter.unusedSimpArgs false
set_option linter.unusedTactic false
set_option linter.unusedVariables false
set_option linter.unreachableTactic false

/-- Every field of the first list is in the second. -/
def Within : List Field → List Field → Prop
  | [], _ => True
  | a :: l, W => a ∈ W ∧ Within l W
theorem within_nil (W) : Within [] W = True := propext ⟨fun _ => trivial, fun _ => trivial⟩
theorem within_cons (a l W) : Within (a :: l) W = (a ∈ W ∧ Within l W) := propext ⟨id, id⟩
theorem within_mem {l W : List Field} (w : Within l W) : ∀ a ∈ l, a ∈ W := by
  induction l with
  | nil => intro a h; cases h
  | cons b l ih => intro a h; rcases List.mem_cons.mp h with rfl | h
                   · exact w.1
                   · exact ih w.2 a h
theorem within_of {l W : List Field} (h : ∀ a ∈ l, a ∈ W) : Within l W := by
  induction l with
  | nil => trivial
  | cons b l ih => exact ⟨h b (by simp), ih fun a ha => h a (by simp [ha])⟩
theorem within_mono {l L W : List Field} (w : Within L W) (hs : (l.all fun a => decide (a ∈ L)) = true := by decide) : Within l W :=
  within_of fun a ha => within_mem w a (by simpa using List.all_eq_true.mp hs a ha)
/-- Outside W the state is as s0 was. -/
def Fr (W : List Field) (s0 s : State) : Prop := Unchanged W s0 s
/-- Every next state of an outcome. -/
def FrO (W : List Field) (s0 : State) (o : Out) : Prop := ∀ t, o = .next t → Fr W s0 t
/-- A state that is there. -/
def FrM (W : List Field) (s0 : State) (o : Option State) : Prop := ∀ t, o = some t → Fr W s0 t
/-- The state of a pair. -/
def FrL {α : Type} (W : List Field) (s0 : State) (p : State × α) : Prop := Fr W s0 p.1
/-- The state of a pair. -/
def FrR {α : Type} (W : List Field) (s0 : State) (p : α × State) : Prop := Fr W s0 p.2
theorem fr_refl (W s) : Fr W s s := fun f _ => by cases f <;> rfl
theorem fr_upd {W : List Field} {s0 s t : State} (h : Fr W s0 s) (hk : ∀ f, f ∉ W → f.same s t) : Fr W s0 t := by
  intro f hf
  have h1 := h f hf
  have h2 := hk f hf
  cases f <;> exact h2.trans h1
theorem frO_next (W s0) (s : State) : FrO W s0 (.next s) = Fr W s0 s :=
  propext ⟨fun h => h s rfl, fun h t e => by cases e; exact h⟩
theorem frO_fault (W s0) (r : Fault) : FrO W s0 (.fault r) = True := by simp [FrO]
theorem frM_some (W s0) (s : State) : FrM W s0 (some s) = Fr W s0 s :=
  propext ⟨fun h => h s rfl, fun h t e => by cases e; exact h⟩
theorem frM_none (W s0) : FrM W s0 none = True := by simp [FrM]
theorem frL_mk {α : Type} (W s0) (s : State) (a : α) : FrL W s0 (s, a) = Fr W s0 s := propext ⟨id, id⟩
theorem frR_mk {α : Type} (W s0) (s : State) (a : α) : FrR W s0 (a, s) = Fr W s0 s := propext ⟨id, id⟩
theorem frL_fold {α : Type} (W s0) (p : State × α) : Fr W s0 p.1 = FrL W s0 p := propext ⟨id, id⟩
theorem frR_fold {α : Type} (W s0) (p : α × State) : Fr W s0 p.2 = FrR W s0 p := propext ⟨id, id⟩
theorem fr_ite (W s0) (c : Prop) [Decidable c] (a b : State) : Fr W s0 (if c then a else b) = if c then Fr W s0 a else Fr W s0 b := by split <;> rfl
theorem frO_ite (W s0) (c : Prop) [Decidable c] (a b : Out) : FrO W s0 (if c then a else b) = if c then FrO W s0 a else FrO W s0 b := by split <;> rfl
theorem frM_ite (W s0) (c : Prop) [Decidable c] (a b : Option State) : FrM W s0 (if c then a else b) = if c then FrM W s0 a else FrM W s0 b := by split <;> rfl
theorem frL_ite {α : Type} (W s0) (c : Prop) [Decidable c] (a b : State × α) : FrL W s0 (if c then a else b) = if c then FrL W s0 a else FrL W s0 b := by split <;> rfl
theorem frR_ite {α : Type} (W s0) (c : Prop) [Decidable c] (a b : α × State) : FrR W s0 (if c then a else b) = if c then FrR W s0 a else FrR W s0 b := by split <;> rfl
theorem fr_dite {W s0} {c : Prop} [Decidable c] {a b : State} (ha : Fr W s0 a) (hb : Fr W s0 b) : Fr W s0 (if c then a else b) := by split <;> assumption
theorem fr_foldl {α : Type} (W s0) (f : State → α → State) (xs : List α) (s : State) (h : Fr W s0 s)
    (hf : ∀ s x, Fr W s0 s → Fr W s0 (f s x)) : Fr W s0 (xs.foldl f s) := by
  induction xs generalizing s with
  | nil => exact h
  | cons x xs ih => exact ih _ (hf _ _ h)
theorem frL_foldl {α β : Type} (W s0) (f : State × β → α → State × β) (xs : List α) (s : State × β) (h : FrL W s0 s)
    (hf : ∀ s x, FrL W s0 s → FrL W s0 (f s x)) : FrL W s0 (xs.foldl f s) := by
  induction xs generalizing s with
  | nil => exact h
  | cons x xs ih => exact ih _ (hf _ _ h)
theorem frR_foldl {α β : Type} (W s0) (f : β × State → α → β × State) (xs : List α) (s : β × State) (h : FrR W s0 s)
    (hf : ∀ s x, FrR W s0 s → FrR W s0 (f s x)) : FrR W s0 (xs.foldl f s) := by
  induction xs generalizing s with
  | nil => exact h
  | cons x xs ih => exact ih _ (hf _ _ h)
theorem frR_eq {α : Type} {W s0} {p : α × State} {a : α} {s : State} (hk : FrR W s0 p) (e : p = (a,
    s)) : Fr W s0 s := by subst e; exact hk
theorem frL_eq {α : Type} {W s0} {p : State × α} {a : α} {s : State} (hk : FrL W s0 p) (e : p = (s,
    a)) : Fr W s0 s := by subst e; exact hk
theorem frM_eq {W s0} {p : Option State} {s : State} (hk : FrM W s0 p) (e : p = some s) : Fr W s0 s := hk s e

theorem fr_mk_baskets {W s0} {x : State} (h : Fr W s0 x) (w12 : Field.baskets ∈ W) (v12) :
    Fr W s0 (State.mk x.pending x.time x.freeCtr x.mem x.memBad x.memCorr x.memCe x.memUe x.host x.hostBad x.streams x.waiting v12 x.pans x.pots x.scales x.tokens x.globals x.nextUid x.fastQ x.ket x.cal x.feu x.dzf x.hq x.trv x.dev x.evq x.tx x.hellos x.joins x.msix x.mgmt) := by
  refine fr_upd h fun f hf => ?_
  cases f <;> first | exact rfl | (exfalso; apply hf; assumption)

theorem fr_mk_cal {W s0} {x : State} (h : Fr W s0 x) (w21 : Field.cal ∈ W) (v21) :
    Fr W s0 (State.mk x.pending x.time x.freeCtr x.mem x.memBad x.memCorr x.memCe x.memUe x.host x.hostBad x.streams x.waiting x.baskets x.pans x.pots x.scales x.tokens x.globals x.nextUid x.fastQ x.ket v21 x.feu x.dzf x.hq x.trv x.dev x.evq x.tx x.hellos x.joins x.msix x.mgmt) := by
  refine fr_upd h fun f hf => ?_
  cases f <;> first | exact rfl | (exfalso; apply hf; assumption)

theorem fr_mk_dev {W s0} {x : State} (h : Fr W s0 x) (w26 : Field.dev ∈ W) (v26) :
    Fr W s0 (State.mk x.pending x.time x.freeCtr x.mem x.memBad x.memCorr x.memCe x.memUe x.host x.hostBad x.streams x.waiting x.baskets x.pans x.pots x.scales x.tokens x.globals x.nextUid x.fastQ x.ket x.cal x.feu x.dzf x.hq x.trv v26 x.evq x.tx x.hellos x.joins x.msix x.mgmt) := by
  refine fr_upd h fun f hf => ?_
  cases f <;> first | exact rfl | (exfalso; apply hf; assumption)

theorem fr_mk_dzf {W s0} {x : State} (h : Fr W s0 x) (w23 : Field.dzf ∈ W) (v23) :
    Fr W s0 (State.mk x.pending x.time x.freeCtr x.mem x.memBad x.memCorr x.memCe x.memUe x.host x.hostBad x.streams x.waiting x.baskets x.pans x.pots x.scales x.tokens x.globals x.nextUid x.fastQ x.ket x.cal x.feu v23 x.hq x.trv x.dev x.evq x.tx x.hellos x.joins x.msix x.mgmt) := by
  refine fr_upd h fun f hf => ?_
  cases f <;> first | exact rfl | (exfalso; apply hf; assumption)

theorem fr_mk_dzf_dev {W s0} {x : State} (h : Fr W s0 x) (w23 : Field.dzf ∈ W) (w26 : Field.dev ∈ W) (v23 v26) :
    Fr W s0 (State.mk x.pending x.time x.freeCtr x.mem x.memBad x.memCorr x.memCe x.memUe x.host x.hostBad x.streams x.waiting x.baskets x.pans x.pots x.scales x.tokens x.globals x.nextUid x.fastQ x.ket x.cal x.feu v23 x.hq x.trv v26 x.evq x.tx x.hellos x.joins x.msix x.mgmt) := by
  refine fr_upd h fun f hf => ?_
  cases f <;> first | exact rfl | (exfalso; apply hf; assumption)

theorem fr_mk_evq {W s0} {x : State} (h : Fr W s0 x) (w27 : Field.evq ∈ W) (v27) :
    Fr W s0 (State.mk x.pending x.time x.freeCtr x.mem x.memBad x.memCorr x.memCe x.memUe x.host x.hostBad x.streams x.waiting x.baskets x.pans x.pots x.scales x.tokens x.globals x.nextUid x.fastQ x.ket x.cal x.feu x.dzf x.hq x.trv x.dev v27 x.tx x.hellos x.joins x.msix x.mgmt) := by
  refine fr_upd h fun f hf => ?_
  cases f <;> first | exact rfl | (exfalso; apply hf; assumption)

theorem fr_mk_fastQ {W s0} {x : State} (h : Fr W s0 x) (w19 : Field.fastQ ∈ W) (v19) :
    Fr W s0 (State.mk x.pending x.time x.freeCtr x.mem x.memBad x.memCorr x.memCe x.memUe x.host x.hostBad x.streams x.waiting x.baskets x.pans x.pots x.scales x.tokens x.globals x.nextUid v19 x.ket x.cal x.feu x.dzf x.hq x.trv x.dev x.evq x.tx x.hellos x.joins x.msix x.mgmt) := by
  refine fr_upd h fun f hf => ?_
  cases f <;> first | exact rfl | (exfalso; apply hf; assumption)

theorem fr_mk_feu {W s0} {x : State} (h : Fr W s0 x) (w22 : Field.feu ∈ W) (v22) :
    Fr W s0 (State.mk x.pending x.time x.freeCtr x.mem x.memBad x.memCorr x.memCe x.memUe x.host x.hostBad x.streams x.waiting x.baskets x.pans x.pots x.scales x.tokens x.globals x.nextUid x.fastQ x.ket x.cal v22 x.dzf x.hq x.trv x.dev x.evq x.tx x.hellos x.joins x.msix x.mgmt) := by
  refine fr_upd h fun f hf => ?_
  cases f <;> first | exact rfl | (exfalso; apply hf; assumption)

theorem fr_mk_freeCtr {W s0} {x : State} (h : Fr W s0 x) (w2 : Field.freeCtr ∈ W) (v2) :
    Fr W s0 (State.mk x.pending x.time v2 x.mem x.memBad x.memCorr x.memCe x.memUe x.host x.hostBad x.streams x.waiting x.baskets x.pans x.pots x.scales x.tokens x.globals x.nextUid x.fastQ x.ket x.cal x.feu x.dzf x.hq x.trv x.dev x.evq x.tx x.hellos x.joins x.msix x.mgmt) := by
  refine fr_upd h fun f hf => ?_
  cases f <;> first | exact rfl | (exfalso; apply hf; assumption)

theorem fr_mk_freeCtr_trv {W s0} {x : State} (h : Fr W s0 x) (w2 : Field.freeCtr ∈ W) (w25 : Field.trv ∈ W) (v2 v25) :
    Fr W s0 (State.mk x.pending x.time v2 x.mem x.memBad x.memCorr x.memCe x.memUe x.host x.hostBad x.streams x.waiting x.baskets x.pans x.pots x.scales x.tokens x.globals x.nextUid x.fastQ x.ket x.cal x.feu x.dzf x.hq v25 x.dev x.evq x.tx x.hellos x.joins x.msix x.mgmt) := by
  refine fr_upd h fun f hf => ?_
  cases f <;> first | exact rfl | (exfalso; apply hf; assumption)

theorem fr_mk_freeCtr_tx {W s0} {x : State} (h : Fr W s0 x) (w2 : Field.freeCtr ∈ W) (w28 : Field.tx ∈ W) (v2 v28) :
    Fr W s0 (State.mk x.pending x.time v2 x.mem x.memBad x.memCorr x.memCe x.memUe x.host x.hostBad x.streams x.waiting x.baskets x.pans x.pots x.scales x.tokens x.globals x.nextUid x.fastQ x.ket x.cal x.feu x.dzf x.hq x.trv x.dev x.evq v28 x.hellos x.joins x.msix x.mgmt) := by
  refine fr_upd h fun f hf => ?_
  cases f <;> first | exact rfl | (exfalso; apply hf; assumption)

theorem fr_mk_globals {W s0} {x : State} (h : Fr W s0 x) (w17 : Field.globals ∈ W) (v17) :
    Fr W s0 (State.mk x.pending x.time x.freeCtr x.mem x.memBad x.memCorr x.memCe x.memUe x.host x.hostBad x.streams x.waiting x.baskets x.pans x.pots x.scales x.tokens v17 x.nextUid x.fastQ x.ket x.cal x.feu x.dzf x.hq x.trv x.dev x.evq x.tx x.hellos x.joins x.msix x.mgmt) := by
  refine fr_upd h fun f hf => ?_
  cases f <;> first | exact rfl | (exfalso; apply hf; assumption)

theorem fr_mk_hellos {W s0} {x : State} (h : Fr W s0 x) (w29 : Field.hellos ∈ W) (v29) :
    Fr W s0 (State.mk x.pending x.time x.freeCtr x.mem x.memBad x.memCorr x.memCe x.memUe x.host x.hostBad x.streams x.waiting x.baskets x.pans x.pots x.scales x.tokens x.globals x.nextUid x.fastQ x.ket x.cal x.feu x.dzf x.hq x.trv x.dev x.evq x.tx v29 x.joins x.msix x.mgmt) := by
  refine fr_upd h fun f hf => ?_
  cases f <;> first | exact rfl | (exfalso; apply hf; assumption)

theorem fr_mk_host {W s0} {x : State} (h : Fr W s0 x) (w8 : Field.host ∈ W) (v8) :
    Fr W s0 (State.mk x.pending x.time x.freeCtr x.mem x.memBad x.memCorr x.memCe x.memUe v8 x.hostBad x.streams x.waiting x.baskets x.pans x.pots x.scales x.tokens x.globals x.nextUid x.fastQ x.ket x.cal x.feu x.dzf x.hq x.trv x.dev x.evq x.tx x.hellos x.joins x.msix x.mgmt) := by
  refine fr_upd h fun f hf => ?_
  cases f <;> first | exact rfl | (exfalso; apply hf; assumption)

theorem fr_mk_hq {W s0} {x : State} (h : Fr W s0 x) (w24 : Field.hq ∈ W) (v24) :
    Fr W s0 (State.mk x.pending x.time x.freeCtr x.mem x.memBad x.memCorr x.memCe x.memUe x.host x.hostBad x.streams x.waiting x.baskets x.pans x.pots x.scales x.tokens x.globals x.nextUid x.fastQ x.ket x.cal x.feu x.dzf v24 x.trv x.dev x.evq x.tx x.hellos x.joins x.msix x.mgmt) := by
  refine fr_upd h fun f hf => ?_
  cases f <;> first | exact rfl | (exfalso; apply hf; assumption)

theorem fr_mk_joins {W s0} {x : State} (h : Fr W s0 x) (w30 : Field.joins ∈ W) (v30) :
    Fr W s0 (State.mk x.pending x.time x.freeCtr x.mem x.memBad x.memCorr x.memCe x.memUe x.host x.hostBad x.streams x.waiting x.baskets x.pans x.pots x.scales x.tokens x.globals x.nextUid x.fastQ x.ket x.cal x.feu x.dzf x.hq x.trv x.dev x.evq x.tx x.hellos v30 x.msix x.mgmt) := by
  refine fr_upd h fun f hf => ?_
  cases f <;> first | exact rfl | (exfalso; apply hf; assumption)

theorem fr_mk_ket {W s0} {x : State} (h : Fr W s0 x) (w20 : Field.ket ∈ W) (v20) :
    Fr W s0 (State.mk x.pending x.time x.freeCtr x.mem x.memBad x.memCorr x.memCe x.memUe x.host x.hostBad x.streams x.waiting x.baskets x.pans x.pots x.scales x.tokens x.globals x.nextUid x.fastQ v20 x.cal x.feu x.dzf x.hq x.trv x.dev x.evq x.tx x.hellos x.joins x.msix x.mgmt) := by
  refine fr_upd h fun f hf => ?_
  cases f <;> first | exact rfl | (exfalso; apply hf; assumption)

theorem fr_mk_ket_dev {W s0} {x : State} (h : Fr W s0 x) (w20 : Field.ket ∈ W) (w26 : Field.dev ∈ W) (v20 v26) :
    Fr W s0 (State.mk x.pending x.time x.freeCtr x.mem x.memBad x.memCorr x.memCe x.memUe x.host x.hostBad x.streams x.waiting x.baskets x.pans x.pots x.scales x.tokens x.globals x.nextUid x.fastQ v20 x.cal x.feu x.dzf x.hq x.trv v26 x.evq x.tx x.hellos x.joins x.msix x.mgmt) := by
  refine fr_upd h fun f hf => ?_
  cases f <;> first | exact rfl | (exfalso; apply hf; assumption)

theorem fr_mk_memCe11 {W s0} {x : State} (h : Fr W s0 x) (w6 : Field.memCe ∈ W) (w7 : Field.memUe ∈ W) (w11 : Field.waiting ∈ W) (w14 : Field.pots ∈ W) (w15 : Field.scales ∈ W) (w16 : Field.tokens ∈ W) (w17 : Field.globals ∈ W) (w19 : Field.fastQ ∈ W) (w23 : Field.dzf ∈ W) (w24 : Field.hq ∈ W) (w26 : Field.dev ∈ W) (v6 v7 v11 v14 v15 v16 v17 v19 v23 v24 v26) :
    Fr W s0 (State.mk x.pending x.time x.freeCtr x.mem x.memBad x.memCorr v6 v7 x.host x.hostBad x.streams v11 x.baskets x.pans v14 v15 v16 v17 x.nextUid v19 x.ket x.cal x.feu v23 v24 x.trv v26 x.evq x.tx x.hellos x.joins x.msix x.mgmt) := by
  refine fr_upd h fun f hf => ?_
  cases f <;> first | exact rfl | (exfalso; apply hf; assumption)

theorem fr_mk_memCe_memUe {W s0} {x : State} (h : Fr W s0 x) (w6 : Field.memCe ∈ W) (w7 : Field.memUe ∈ W) (v6 v7) :
    Fr W s0 (State.mk x.pending x.time x.freeCtr x.mem x.memBad x.memCorr v6 v7 x.host x.hostBad x.streams x.waiting x.baskets x.pans x.pots x.scales x.tokens x.globals x.nextUid x.fastQ x.ket x.cal x.feu x.dzf x.hq x.trv x.dev x.evq x.tx x.hellos x.joins x.msix x.mgmt) := by
  refine fr_upd h fun f hf => ?_
  cases f <;> first | exact rfl | (exfalso; apply hf; assumption)

theorem fr_mk_memCorr {W s0} {x : State} (h : Fr W s0 x) (w5 : Field.memCorr ∈ W) (v5) :
    Fr W s0 (State.mk x.pending x.time x.freeCtr x.mem x.memBad v5 x.memCe x.memUe x.host x.hostBad x.streams x.waiting x.baskets x.pans x.pots x.scales x.tokens x.globals x.nextUid x.fastQ x.ket x.cal x.feu x.dzf x.hq x.trv x.dev x.evq x.tx x.hellos x.joins x.msix x.mgmt) := by
  refine fr_upd h fun f hf => ?_
  cases f <;> first | exact rfl | (exfalso; apply hf; assumption)

theorem fr_mk_mem_memBad_memCorr {W s0} {x : State} (h : Fr W s0 x) (w3 : Field.mem ∈ W) (w4 : Field.memBad ∈ W) (w5 : Field.memCorr ∈ W) (v3 v4 v5) :
    Fr W s0 (State.mk x.pending x.time x.freeCtr v3 v4 v5 x.memCe x.memUe x.host x.hostBad x.streams x.waiting x.baskets x.pans x.pots x.scales x.tokens x.globals x.nextUid x.fastQ x.ket x.cal x.feu x.dzf x.hq x.trv x.dev x.evq x.tx x.hellos x.joins x.msix x.mgmt) := by
  refine fr_upd h fun f hf => ?_
  cases f <;> first | exact rfl | (exfalso; apply hf; assumption)

theorem fr_mk_mgmt {W s0} {x : State} (h : Fr W s0 x) (w32 : Field.mgmt ∈ W) (v32) :
    Fr W s0 (State.mk x.pending x.time x.freeCtr x.mem x.memBad x.memCorr x.memCe x.memUe x.host x.hostBad x.streams x.waiting x.baskets x.pans x.pots x.scales x.tokens x.globals x.nextUid x.fastQ x.ket x.cal x.feu x.dzf x.hq x.trv x.dev x.evq x.tx x.hellos x.joins x.msix v32) := by
  refine fr_upd h fun f hf => ?_
  cases f <;> first | exact rfl | (exfalso; apply hf; assumption)

theorem fr_mk_msix {W s0} {x : State} (h : Fr W s0 x) (w31 : Field.msix ∈ W) (v31) :
    Fr W s0 (State.mk x.pending x.time x.freeCtr x.mem x.memBad x.memCorr x.memCe x.memUe x.host x.hostBad x.streams x.waiting x.baskets x.pans x.pots x.scales x.tokens x.globals x.nextUid x.fastQ x.ket x.cal x.feu x.dzf x.hq x.trv x.dev x.evq x.tx x.hellos x.joins v31 x.mgmt) := by
  refine fr_upd h fun f hf => ?_
  cases f <;> first | exact rfl | (exfalso; apply hf; assumption)

theorem fr_mk_nextUid {W s0} {x : State} (h : Fr W s0 x) (w18 : Field.nextUid ∈ W) (v18) :
    Fr W s0 (State.mk x.pending x.time x.freeCtr x.mem x.memBad x.memCorr x.memCe x.memUe x.host x.hostBad x.streams x.waiting x.baskets x.pans x.pots x.scales x.tokens x.globals v18 x.fastQ x.ket x.cal x.feu x.dzf x.hq x.trv x.dev x.evq x.tx x.hellos x.joins x.msix x.mgmt) := by
  refine fr_upd h fun f hf => ?_
  cases f <;> first | exact rfl | (exfalso; apply hf; assumption)

theorem fr_mk_pans {W s0} {x : State} (h : Fr W s0 x) (w13 : Field.pans ∈ W) (v13) :
    Fr W s0 (State.mk x.pending x.time x.freeCtr x.mem x.memBad x.memCorr x.memCe x.memUe x.host x.hostBad x.streams x.waiting x.baskets v13 x.pots x.scales x.tokens x.globals x.nextUid x.fastQ x.ket x.cal x.feu x.dzf x.hq x.trv x.dev x.evq x.tx x.hellos x.joins x.msix x.mgmt) := by
  refine fr_upd h fun f hf => ?_
  cases f <;> first | exact rfl | (exfalso; apply hf; assumption)

theorem fr_mk_pots {W s0} {x : State} (h : Fr W s0 x) (w14 : Field.pots ∈ W) (v14) :
    Fr W s0 (State.mk x.pending x.time x.freeCtr x.mem x.memBad x.memCorr x.memCe x.memUe x.host x.hostBad x.streams x.waiting x.baskets x.pans v14 x.scales x.tokens x.globals x.nextUid x.fastQ x.ket x.cal x.feu x.dzf x.hq x.trv x.dev x.evq x.tx x.hellos x.joins x.msix x.mgmt) := by
  refine fr_upd h fun f hf => ?_
  cases f <;> first | exact rfl | (exfalso; apply hf; assumption)

theorem fr_mk_pots_scales_tokens_fastQ {W s0} {x : State} (h : Fr W s0 x) (w14 : Field.pots ∈ W) (w15 : Field.scales ∈ W) (w16 : Field.tokens ∈ W) (w19 : Field.fastQ ∈ W) (v14 v15 v16 v19) :
    Fr W s0 (State.mk x.pending x.time x.freeCtr x.mem x.memBad x.memCorr x.memCe x.memUe x.host x.hostBad x.streams x.waiting x.baskets x.pans v14 v15 v16 x.globals x.nextUid v19 x.ket x.cal x.feu x.dzf x.hq x.trv x.dev x.evq x.tx x.hellos x.joins x.msix x.mgmt) := by
  refine fr_upd h fun f hf => ?_
  cases f <;> first | exact rfl | (exfalso; apply hf; assumption)

theorem fr_mk_scales {W s0} {x : State} (h : Fr W s0 x) (w15 : Field.scales ∈ W) (v15) :
    Fr W s0 (State.mk x.pending x.time x.freeCtr x.mem x.memBad x.memCorr x.memCe x.memUe x.host x.hostBad x.streams x.waiting x.baskets x.pans x.pots v15 x.tokens x.globals x.nextUid x.fastQ x.ket x.cal x.feu x.dzf x.hq x.trv x.dev x.evq x.tx x.hellos x.joins x.msix x.mgmt) := by
  refine fr_upd h fun f hf => ?_
  cases f <;> first | exact rfl | (exfalso; apply hf; assumption)

theorem fr_mk_streams {W s0} {x : State} (h : Fr W s0 x) (w10 : Field.streams ∈ W) (v10) :
    Fr W s0 (State.mk x.pending x.time x.freeCtr x.mem x.memBad x.memCorr x.memCe x.memUe x.host x.hostBad v10 x.waiting x.baskets x.pans x.pots x.scales x.tokens x.globals x.nextUid x.fastQ x.ket x.cal x.feu x.dzf x.hq x.trv x.dev x.evq x.tx x.hellos x.joins x.msix x.mgmt) := by
  refine fr_upd h fun f hf => ?_
  cases f <;> first | exact rfl | (exfalso; apply hf; assumption)

theorem fr_mk_time {W s0} {x : State} (h : Fr W s0 x) (w1 : Field.time ∈ W) (v1) :
    Fr W s0 (State.mk x.pending v1 x.freeCtr x.mem x.memBad x.memCorr x.memCe x.memUe x.host x.hostBad x.streams x.waiting x.baskets x.pans x.pots x.scales x.tokens x.globals x.nextUid x.fastQ x.ket x.cal x.feu x.dzf x.hq x.trv x.dev x.evq x.tx x.hellos x.joins x.msix x.mgmt) := by
  refine fr_upd h fun f hf => ?_
  cases f <;> first | exact rfl | (exfalso; apply hf; assumption)

theorem fr_mk_time24 {W s0} {x : State} (h : Fr W s0 x) (w1 : Field.time ∈ W) (w3 : Field.mem ∈ W) (w4 : Field.memBad ∈ W) (w5 : Field.memCorr ∈ W) (w6 : Field.memCe ∈ W) (w7 : Field.memUe ∈ W) (w10 : Field.streams ∈ W) (w11 : Field.waiting ∈ W) (w12 : Field.baskets ∈ W) (w13 : Field.pans ∈ W) (w14 : Field.pots ∈ W) (w15 : Field.scales ∈ W) (w16 : Field.tokens ∈ W) (w17 : Field.globals ∈ W) (w18 : Field.nextUid ∈ W) (w19 : Field.fastQ ∈ W) (w20 : Field.ket ∈ W) (w21 : Field.cal ∈ W) (w22 : Field.feu ∈ W) (w23 : Field.dzf ∈ W) (w24 : Field.hq ∈ W) (w25 : Field.trv ∈ W) (w26 : Field.dev ∈ W) (w27 : Field.evq ∈ W) (v1 v3 v4 v5 v6 v7 v10 v11 v12 v13 v14 v15 v16 v17 v18 v19 v20 v21 v22 v23 v24 v25 v26 v27) :
    Fr W s0 (State.mk x.pending v1 x.freeCtr v3 v4 v5 v6 v7 x.host x.hostBad v10 v11 v12 v13 v14 v15 v16 v17 v18 v19 v20 v21 v22 v23 v24 v25 v26 v27 x.tx x.hellos x.joins x.msix x.mgmt) := by
  refine fr_upd h fun f hf => ?_
  cases f <;> first | exact rfl | (exfalso; apply hf; assumption)

theorem fr_mk_time_dzf {W s0} {x : State} (h : Fr W s0 x) (w1 : Field.time ∈ W) (w23 : Field.dzf ∈ W) (v1 v23) :
    Fr W s0 (State.mk x.pending v1 x.freeCtr x.mem x.memBad x.memCorr x.memCe x.memUe x.host x.hostBad x.streams x.waiting x.baskets x.pans x.pots x.scales x.tokens x.globals x.nextUid x.fastQ x.ket x.cal x.feu v23 x.hq x.trv x.dev x.evq x.tx x.hellos x.joins x.msix x.mgmt) := by
  refine fr_upd h fun f hf => ?_
  cases f <;> first | exact rfl | (exfalso; apply hf; assumption)

theorem fr_mk_tokens {W s0} {x : State} (h : Fr W s0 x) (w16 : Field.tokens ∈ W) (v16) :
    Fr W s0 (State.mk x.pending x.time x.freeCtr x.mem x.memBad x.memCorr x.memCe x.memUe x.host x.hostBad x.streams x.waiting x.baskets x.pans x.pots x.scales v16 x.globals x.nextUid x.fastQ x.ket x.cal x.feu x.dzf x.hq x.trv x.dev x.evq x.tx x.hellos x.joins x.msix x.mgmt) := by
  refine fr_upd h fun f hf => ?_
  cases f <;> first | exact rfl | (exfalso; apply hf; assumption)

theorem fr_mk_tokens_globals {W s0} {x : State} (h : Fr W s0 x) (w16 : Field.tokens ∈ W) (w17 : Field.globals ∈ W) (v16 v17) :
    Fr W s0 (State.mk x.pending x.time x.freeCtr x.mem x.memBad x.memCorr x.memCe x.memUe x.host x.hostBad x.streams x.waiting x.baskets x.pans x.pots x.scales v16 v17 x.nextUid x.fastQ x.ket x.cal x.feu x.dzf x.hq x.trv x.dev x.evq x.tx x.hellos x.joins x.msix x.mgmt) := by
  refine fr_upd h fun f hf => ?_
  cases f <;> first | exact rfl | (exfalso; apply hf; assumption)

theorem fr_mk_trv {W s0} {x : State} (h : Fr W s0 x) (w25 : Field.trv ∈ W) (v25) :
    Fr W s0 (State.mk x.pending x.time x.freeCtr x.mem x.memBad x.memCorr x.memCe x.memUe x.host x.hostBad x.streams x.waiting x.baskets x.pans x.pots x.scales x.tokens x.globals x.nextUid x.fastQ x.ket x.cal x.feu x.dzf x.hq v25 x.dev x.evq x.tx x.hellos x.joins x.msix x.mgmt) := by
  refine fr_upd h fun f hf => ?_
  cases f <;> first | exact rfl | (exfalso; apply hf; assumption)

theorem fr_mk_trv_dev {W s0} {x : State} (h : Fr W s0 x) (w25 : Field.trv ∈ W) (w26 : Field.dev ∈ W) (v25 v26) :
    Fr W s0 (State.mk x.pending x.time x.freeCtr x.mem x.memBad x.memCorr x.memCe x.memUe x.host x.hostBad x.streams x.waiting x.baskets x.pans x.pots x.scales x.tokens x.globals x.nextUid x.fastQ x.ket x.cal x.feu x.dzf x.hq v25 v26 x.evq x.tx x.hellos x.joins x.msix x.mgmt) := by
  refine fr_upd h fun f hf => ?_
  cases f <;> first | exact rfl | (exfalso; apply hf; assumption)

theorem fr_mk_tx {W s0} {x : State} (h : Fr W s0 x) (w28 : Field.tx ∈ W) (v28) :
    Fr W s0 (State.mk x.pending x.time x.freeCtr x.mem x.memBad x.memCorr x.memCe x.memUe x.host x.hostBad x.streams x.waiting x.baskets x.pans x.pots x.scales x.tokens x.globals x.nextUid x.fastQ x.ket x.cal x.feu x.dzf x.hq x.trv x.dev x.evq v28 x.hellos x.joins x.msix x.mgmt) := by
  refine fr_upd h fun f hf => ?_
  cases f <;> first | exact rfl | (exfalso; apply hf; assumption)

theorem fr_mk_waiting {W s0} {x : State} (h : Fr W s0 x) (w11 : Field.waiting ∈ W) (v11) :
    Fr W s0 (State.mk x.pending x.time x.freeCtr x.mem x.memBad x.memCorr x.memCe x.memUe x.host x.hostBad x.streams v11 x.baskets x.pans x.pots x.scales x.tokens x.globals x.nextUid x.fastQ x.ket x.cal x.feu x.dzf x.hq x.trv x.dev x.evq x.tx x.hellos x.joins x.msix x.mgmt) := by
  refine fr_upd h fun f hf => ?_
  cases f <;> first | exact rfl | (exfalso; apply hf; assumption)

theorem fr_mk_waiting_fastQ_dzf {W s0} {x : State} (h : Fr W s0 x) (w11 : Field.waiting ∈ W) (w19 : Field.fastQ ∈ W) (w23 : Field.dzf ∈ W) (v11 v19 v23) :
    Fr W s0 (State.mk x.pending x.time x.freeCtr x.mem x.memBad x.memCorr x.memCe x.memUe x.host x.hostBad x.streams v11 x.baskets x.pans x.pots x.scales x.tokens x.globals x.nextUid v19 x.ket x.cal x.feu v23 x.hq x.trv x.dev x.evq x.tx x.hellos x.joins x.msix x.mgmt) := by
  refine fr_upd h fun f hf => ?_
  cases f <;> first | exact rfl | (exfalso; apply hf; assumption)

/-! ## Operations (Ops) -/

theorem fr_guard {W s0} {s : State} (h : Fr W s0 s) (w : Within [] W) (x0) : FrO W s0 (guard x0 s) := by
  unfold guard
  simp only [within_nil] at w
  simp +contextual (maxDischargeDepth := 40) only [h, within_cons, within_nil, and_self, frO_next, frO_fault,
      frM_some, frM_none, frL_mk, frR_mk, frL_fold, frR_fold, fr_ite, frO_ite, frM_ite, frL_ite, frR_ite, ite_self,
      implies_true, fr_foldl, frL_foldl, frR_foldl]

theorem fr_setStr {W s0} {s : State} (h : Fr W s0 s) (w : Within [.streams] W) (x1 x2) : Fr W s0 (State.setStr s x1
    x2) := by
  unfold State.setStr
  simp only [within_cons, within_nil, and_true] at w
  simp +contextual (maxDischargeDepth := 40) only [h, w, within_cons, within_nil, and_self, frO_next, frO_fault,
      frM_some, frM_none, frL_mk, frR_mk, frL_fold, frR_fold, fr_ite, frO_ite, frM_ite, frL_ite, frR_ite, ite_self,
      implies_true, fr_foldl, frL_foldl, frR_foldl, fr_mk_streams]

theorem fr_setBsk {W s0} {s : State} (h : Fr W s0 s) (w : Within [.baskets] W) (x1 x2) : Fr W s0 (State.setBsk s x1
    x2) := by
  unfold State.setBsk
  simp only [within_cons, within_nil, and_true] at w
  simp +contextual (maxDischargeDepth := 40) only [h, w, within_cons, within_nil, and_self, frO_next, frO_fault,
      frM_some, frM_none, frL_mk, frR_mk, frL_fold, frR_fold, fr_ite, frO_ite, frM_ite, frL_ite, frR_ite, ite_self,
      implies_true, fr_foldl, frL_foldl, frR_foldl, fr_mk_baskets]

theorem fr_setPan {W s0} {s : State} (h : Fr W s0 s) (w : Within [.pans] W) (x1 x2) : Fr W s0 (State.setPan s x1
    x2) := by
  unfold State.setPan
  simp only [within_cons, within_nil, and_true] at w
  simp +contextual (maxDischargeDepth := 40) only [h, w, within_cons, within_nil, and_self, frO_next, frO_fault,
      frM_some, frM_none, frL_mk, frR_mk, frL_fold, frR_fold, fr_ite, frO_ite, frM_ite, frL_ite, frR_ite, ite_self,
      implies_true, fr_foldl, frL_foldl, frR_foldl, fr_mk_pans]

theorem fr_setPot {W s0} {s : State} (h : Fr W s0 s) (w : Within [.pots] W) (x1 x2 x3) : Fr W s0 (State.setPot s x1
    x2 x3) := by
  unfold State.setPot
  simp only [within_cons, within_nil, and_true] at w
  simp +contextual (maxDischargeDepth := 40) only [h, w, within_cons, within_nil, and_self, frO_next, frO_fault,
      frM_some, frM_none, frL_mk, frR_mk, frL_fold, frR_fold, fr_ite, frO_ite, frM_ite, frL_ite, frR_ite, ite_self,
      implies_true, fr_foldl, frL_foldl, frR_foldl, fr_mk_pots]

theorem fr_setScale {W s0} {s : State} (h : Fr W s0 s) (w : Within [.scales] W) (x1 x2 x3) : Fr W s0
    (State.setScale s x1 x2 x3) := by
  unfold State.setScale
  simp only [within_cons, within_nil, and_true] at w
  simp +contextual (maxDischargeDepth := 40) only [h, w, within_cons, within_nil, and_self, frO_next, frO_fault,
      frM_some, frM_none, frL_mk, frR_mk, frL_fold, frR_fold, fr_ite, frO_ite, frM_ite, frL_ite, frR_ite, ite_self,
      implies_true, fr_foldl, frL_foldl, frR_foldl, fr_mk_scales]

theorem fr_setSlot {W s0} {s : State} (h : Fr W s0 s) (w : Within [.ket] W) (x1 x2) : Fr W s0 (State.setSlot s x1
    x2) := by
  unfold State.setSlot
  simp only [within_cons, within_nil, and_true] at w
  simp +contextual (maxDischargeDepth := 40) only [h, w, within_cons, within_nil, and_self, frO_next, frO_fault,
      frM_some, frM_none, frL_mk, frR_mk, frL_fold, frR_fold, fr_ite, frO_ite, frM_ite, frL_ite, frR_ite, ite_self,
      implies_true, fr_foldl, frL_foldl, frR_foldl, fr_mk_ket]

theorem fr_setEng {W s0} {s : State} (h : Fr W s0 s) (w : Within [.ket] W) (x1 x2) : Fr W s0 (State.setEng s x1 x2) := by
  unfold State.setEng
  simp only [within_cons, within_nil, and_true] at w
  simp +contextual (maxDischargeDepth := 40) only [h, w, within_cons, within_nil, and_self, frO_next, frO_fault,
      frM_some, frM_none, frL_mk, frR_mk, frL_fold, frR_fold, fr_ite, frO_ite, frM_ite, frL_ite, frR_ite, ite_self,
      implies_true, fr_foldl, frL_foldl, frR_foldl, fr_mk_ket]

theorem fr_setCoil {W s0} {s : State} (h : Fr W s0 s) (w : Within [.ket] W) (x1 x2) : Fr W s0 (State.setCoil s x1
    x2) := by
  unfold State.setCoil
  simp only [within_cons, within_nil, and_true] at w
  simp +contextual (maxDischargeDepth := 40) only [h, w, within_cons, within_nil, and_self, frO_next, frO_fault,
      frM_some, frM_none, frL_mk, frR_mk, frL_fold, frR_fold, fr_ite, frO_ite, frM_ite, frL_ite, frR_ite, ite_self,
      implies_true, fr_foldl, frL_foldl, frR_foldl, fr_mk_ket]

theorem fr_setPort {W s0} {s : State} (h : Fr W s0 s) (w : Within [.dzf] W) (x1 x2) : Fr W s0 (State.setPort s x1
    x2) := by
  unfold State.setPort
  simp only [within_cons, within_nil, and_true] at w
  simp +contextual (maxDischargeDepth := 40) only [h, w, within_cons, within_nil, and_self, frO_next, frO_fault,
      frM_some, frM_none, frL_mk, frR_mk, frL_fold, frR_fold, fr_ite, frO_ite, frM_ite, frL_ite, frR_ite, ite_self,
      implies_true, fr_foldl, frL_foldl, frR_foldl, fr_mk_dzf]

theorem fr_setQue {W s0} {s : State} (h : Fr W s0 s) (w : Within [.hq] W) (x1 x2) : Fr W s0 (State.setQue s x1 x2) := by
  unfold State.setQue
  simp only [within_cons, within_nil, and_true] at w
  simp +contextual (maxDischargeDepth := 40) only [h, w, within_cons, within_nil, and_self, frO_next, frO_fault,
      frM_some, frM_none, frL_mk, frR_mk, frL_fold, frR_fold, fr_ite, frO_ite, frM_ite, frL_ite, frR_ite, ite_self,
      implies_true, fr_foldl, frL_foldl, frR_foldl, fr_mk_hq]

theorem fr_setInp {W s0} {s : State} (h : Fr W s0 s) (w : Within [.dev] W) (x1 x2) : Fr W s0 (State.setInp s x1 x2) := by
  unfold State.setInp
  simp only [within_cons, within_nil, and_true] at w
  simp +contextual (maxDischargeDepth := 40) only [h, w, within_cons, within_nil, and_self, frO_next, frO_fault,
      frM_some, frM_none, frL_mk, frR_mk, frL_fold, frR_fold, fr_ite, frO_ite, frM_ite, frL_ite, frR_ite, ite_self,
      implies_true, fr_foldl, frL_foldl, frR_foldl, fr_mk_dev]

theorem fr_at {W s0} {s : State} (h : Fr W s0 s) (w : Within [.time] W) (x1) : Fr W s0 (State.at s x1) := by
  unfold State.at
  simp only [within_cons, within_nil, and_true] at w
  simp +contextual (maxDischargeDepth := 40) only [h, w, within_cons, within_nil, and_self, frO_next, frO_fault,
      frM_some, frM_none, frL_mk, frR_mk, frL_fold, frR_fold, fr_ite, frO_ite, frM_ite, frL_ite, frR_ite, ite_self,
      implies_true, fr_foldl, frL_foldl, frR_foldl, fr_mk_time]

theorem fr_settleBsk {W s0} {s : State} (h : Fr W s0 s) (w : Within [.baskets] W) (x1) : Fr W s0 (State.settleBsk s
    x1) := by
  unfold State.settleBsk
  simp only [within_cons, within_nil, and_true] at w
  simp +contextual (maxDischargeDepth := 40) only [h, w, within_cons, within_nil, and_self, frO_next, frO_fault,
      frM_some, frM_none, frL_mk, frR_mk, frL_fold, frR_fold, fr_ite, frO_ite, frM_ite, frL_ite, frR_ite, ite_self,
      implies_true, fr_foldl, frL_foldl, frR_foldl, fr_setBsk]

theorem fr_eccCount {W s0} {s : State} (h : Fr W s0 s) (w : Within [.memCe, .memUe] W) (x1 x2) : Fr W s0
    (State.eccCount s x1 x2) := by
  unfold State.eccCount
  simp only [within_cons, within_nil, and_true] at w
  simp +contextual (maxDischargeDepth := 40) only [h, w, within_cons, within_nil, and_self, frO_next, frO_fault,
      frM_some, frM_none, frL_mk, frR_mk, frL_fold, frR_fold, fr_ite, frO_ite, frM_ite, frL_ite, frR_ite, ite_self,
      implies_true, fr_foldl, frL_foldl, frR_foldl, fr_mk_memCe_memUe]

theorem fr_wr {W s0} {s : State} (h : Fr W s0 s) (w : Within [.mem, .memBad, .memCorr, .memCe, .memUe] W) (x1 x2) :
    Fr W s0 (State.wr s x1 x2) := by
  unfold State.wr
  simp only [within_cons, within_nil, and_true] at w
  simp +contextual (maxDischargeDepth := 40) only [h, w, within_cons, within_nil, and_self, frO_next, frO_fault,
      frM_some, frM_none, frL_mk, frR_mk, frL_fold, frR_fold, fr_ite, frO_ite, frM_ite, frL_ite, frR_ite, ite_self,
      implies_true, fr_foldl, frL_foldl, frR_foldl, fr_mk_mem_memBad_memCorr, fr_eccCount]

theorem fr_wrN {W s0} {s : State} (h : Fr W s0 s) (w : Within [.mem, .memBad, .memCorr, .memCe, .memUe] W) (x1 x2
    x3) : Fr W s0 (State.wrN s x1 x2 x3) := by
  unfold State.wrN
  simp only [within_cons, within_nil, and_true] at w
  simp +contextual (maxDischargeDepth := 40) only [h, w, within_cons, within_nil, and_self, frO_next, frO_fault,
      frM_some, frM_none, frL_mk, frR_mk, frL_fold, frR_fold, fr_ite, frO_ite, frM_ite, frL_ite, frR_ite, ite_self,
      implies_true, fr_foldl, frL_foldl, frR_foldl, fr_wr]

theorem fr_scrub {W s0} {s : State} (h : Fr W s0 s) (w : Within [.memCorr, .memCe, .memUe] W) (x1 x2) : Fr W s0
    (State.scrub s x1 x2) := by
  unfold State.scrub
  simp only [within_cons, within_nil, and_true] at w
  simp +contextual (maxDischargeDepth := 40) only [h, w, within_cons, within_nil, and_self, frO_next, frO_fault,
      frM_some, frM_none, frL_mk, frR_mk, frL_fold, frR_fold, fr_ite, frO_ite, frM_ite, frL_ite, frR_ite, ite_self,
      implies_true, fr_foldl, frL_foldl, frR_foldl, fr_mk_memCorr, fr_eccCount]

theorem fr_hwr {W s0} {s : State} (h : Fr W s0 s) (w : Within [.host] W) (x1 x2) : Fr W s0 (State.hwr s x1 x2) := by
  unfold State.hwr
  simp only [within_cons, within_nil, and_true] at w
  simp +contextual (maxDischargeDepth := 40) only [h, w, within_cons, within_nil, and_self, frO_next, frO_fault,
      frM_some, frM_none, frL_mk, frR_mk, frL_fold, frR_fold, fr_ite, frO_ite, frM_ite, frL_ite, frR_ite, ite_self,
      implies_true, fr_foldl, frL_foldl, frR_foldl, fr_mk_host]

theorem fr_raise {W s0} {s : State} (h : Fr W s0 s) (w : Within [.evq] W) (x1 x2 x3 x4 x5) : Fr W s0 (State.raise s
    x1 x2 x3 x4 x5) := by
  unfold State.raise
  simp only [within_cons, within_nil, and_true] at w
  simp +contextual (maxDischargeDepth := 40) only [h, w, within_cons, within_nil, and_self, frO_next, frO_fault,
      frM_some, frM_none, frL_mk, frR_mk, frL_fold, frR_fold, fr_ite, frO_ite, frM_ite, frL_ite, frR_ite, ite_self,
      implies_true, fr_foldl, frL_foldl, frR_foldl, fr_mk_evq]

theorem fr_raiseS {W s0} {s : State} (h : Fr W s0 s) (w : Within [.evq] W) (x1 x2 x3 x4 x5 x6 x7 x8) : Fr W s0
    (State.raiseS s x1 x2 x3 x4 x5 x6 x7 x8) := by
  unfold State.raiseS
  simp only [within_cons, within_nil, and_true] at w
  simp +contextual (maxDischargeDepth := 40) only [h, w, within_cons, within_nil, and_self, frO_next, frO_fault,
      frM_some, frM_none, frL_mk, frR_mk, frL_fold, frR_fold, fr_ite, frO_ite, frM_ite, frL_ite, frR_ite, ite_self,
      implies_true, fr_foldl, frL_foldl, frR_foldl, fr_mk_evq]

theorem fr_msi {W s0} {s : State} (h : Fr W s0 s) (w : Within [.msix] W) (x1 x2) : Fr W s0 (State.msi s x1 x2) := by
  unfold State.msi
  simp only [within_cons, within_nil, and_true] at w
  simp +contextual (maxDischargeDepth := 40) only [h, w, within_cons, within_nil, and_self, frO_next, frO_fault,
      frM_some, frM_none, frL_mk, frR_mk, frL_fold, frR_fold, fr_ite, frO_ite, frM_ite, frL_ite, frR_ite, ite_self,
      implies_true, fr_foldl, frL_foldl, frR_foldl, fr_mk_msix]

theorem fr_fresh {W s0} {s : State} (h : Fr W s0 s) (w : Within [.freeCtr] W) : Fr W s0 (State.fresh s) := by
  unfold State.fresh
  simp only [within_cons, within_nil, and_true] at w
  simp +contextual (maxDischargeDepth := 40) only [h, w, within_cons, within_nil, and_self, frO_next, frO_fault,
      frM_some, frM_none, frL_mk, frR_mk, frL_fold, frR_fold, fr_ite, frO_ite, frM_ite, frL_ite, frR_ite, ite_self,
      implies_true, fr_foldl, frL_foldl, frR_foldl, fr_mk_freeCtr]

theorem fr_notice {W s0} {s : State} (h : Fr W s0 s) (w : Within [.trv, .msix] W) (x1 x2 x3) : Fr W s0
    (State.notice s x1 x2 x3) := by
  unfold State.notice
  simp only [within_cons, within_nil, and_true] at w
  simp +contextual (maxDischargeDepth := 40) only [h, w, within_cons, within_nil, and_self, frO_next, frO_fault,
      frM_some, frM_none, frL_mk, frR_mk, frL_fold, frR_fold, fr_ite, frO_ite, frM_ite, frL_ite, frR_ite, ite_self,
      implies_true, fr_foldl, frL_foldl, frR_foldl, fr_mk_trv, fr_msi]

theorem fr_bbrPut {W s0} {s : State} (h : Fr W s0 s) (w : Within [.trv] W) (x1) : Fr W s0 (State.bbrPut s x1) := by
  unfold State.bbrPut
  simp only [within_cons, within_nil, and_true] at w
  simp +contextual (maxDischargeDepth := 40) only [h, w, within_cons, within_nil, and_self, frO_next, frO_fault,
      frM_some, frM_none, frL_mk, frR_mk, frL_fold, frR_fold, fr_ite, frO_ite, frM_ite, frL_ite, frR_ite, ite_self,
      implies_true, fr_foldl, frL_foldl, frR_foldl, fr_mk_trv]

theorem fr_send {W s0} {s : State} (h : Fr W s0 s) (w : Within [.mgmt] W) (x1) : Fr W s0 (State.send s x1) := by
  unfold State.send
  simp only [within_cons, within_nil, and_true] at w
  simp +contextual (maxDischargeDepth := 40) only [h, w, within_cons, within_nil, and_self, frO_next, frO_fault,
      frM_some, frM_none, frL_mk, frR_mk, frL_fold, frR_fold, fr_ite, frO_ite, frM_ite, frL_ite, frR_ite, ite_self,
      implies_true, fr_foldl, frL_foldl, frR_foldl, fr_mk_mgmt]

theorem fr_setTok {W s0} {s : State} (h : Fr W s0 s) (w : Within [.tokens, .globals] W) (x1 x2 x3) : Fr W s0
    (State.setTok s x1 x2 x3) := by
  unfold State.setTok
  simp only [within_cons, within_nil, and_true] at w
  simp +contextual (maxDischargeDepth := 40) only [h, w, within_cons, within_nil, and_self, frO_next, frO_fault,
      frM_some, frM_none, frL_mk, frR_mk, frL_fold, frR_fold, fr_ite, frO_ite, frM_ite, frL_ite, frR_ite, ite_self,
      implies_true, fr_foldl, frL_foldl, frR_foldl, fr_mk_globals, fr_mk_tokens]

theorem fr_tirqMsi {W s0} {s : State} (h : Fr W s0 s) (w : Within [.msix] W) (x1) : Fr W s0 (State.tirqMsi s x1) := by
  unfold State.tirqMsi
  simp only [within_cons, within_nil, and_true] at w
  simp +contextual (maxDischargeDepth := 40) only [h, w, within_cons, within_nil, and_self, frO_next, frO_fault,
      frM_some, frM_none, frL_mk, frR_mk, frL_fold, frR_fold, fr_ite, frO_ite, frM_ite, frL_ite, frR_ite, ite_self,
      implies_true, fr_foldl, frL_foldl, frR_foldl, fr_msi]

theorem fr_tokIrq {W s0} {s : State} (h : Fr W s0 s) (w : Within [.hq, .msix] W) (x1) : Fr W s0 (State.tokIrq s x1) := by
  unfold State.tokIrq
  simp only [within_cons, within_nil, and_true] at w
  simp +contextual (maxDischargeDepth := 40) only [h, w, within_cons, within_nil, and_self, frO_next, frO_fault,
      frM_some, frM_none, frL_mk, frR_mk, frL_fold, frR_fold, fr_ite, frO_ite, frM_ite, frL_ite, frR_ite, ite_self,
      implies_true, fr_foldl, frL_foldl, frR_foldl, fr_mk_hq, fr_tirqMsi]

theorem fr_sigK {W s0} {s : State} (h : Fr W s0 s) (w : Within [.tokens, .globals, .hq, .msix] W) (x1 x2 x3) : Fr W
    s0 (State.sigK s x1 x2 x3) := by
  unfold State.sigK
  simp only [within_cons, within_nil, and_true] at w
  simp +contextual (maxDischargeDepth := 40) only [h, w, within_cons, within_nil, and_self, frO_next, frO_fault,
      frM_some, frM_none, frL_mk, frR_mk, frL_fold, frR_fold, fr_ite, frO_ite, frM_ite, frL_ite, frR_ite, ite_self,
      implies_true, fr_foldl, frL_foldl, frR_foldl, fr_setTok, fr_tokIrq]

theorem fr_sig {W s0} {s : State} (h : Fr W s0 s) (w : Within [.tokens, .globals, .hq, .msix] W) (x1 x2) : Fr W s0
    (State.sig s x1 x2) := by
  unfold State.sig
  simp only [within_cons, within_nil, and_true] at w
  simp +contextual (maxDischargeDepth := 40) only [h, w, within_cons, within_nil, and_self, frO_next, frO_fault,
      frM_some, frM_none, frL_mk, frR_mk, frL_fold, frR_fold, fr_ite, frO_ite, frM_ite, frL_ite, frR_ite, ite_self,
      implies_true, fr_foldl, frL_foldl, frR_foldl, fr_sigK]

theorem fr_takeTok {W s0} {s : State} (h : Fr W s0 s) (w : Within [.tokens, .globals] W) (x1 x2) : Fr W s0
    (State.takeTok s x1 x2) := by
  unfold State.takeTok
  simp only [within_cons, within_nil, and_true] at w
  simp +contextual (maxDischargeDepth := 40) only [h, w, within_cons, within_nil, and_self, frO_next, frO_fault,
      frM_some, frM_none, frL_mk, frR_mk, frL_fold, frR_fold, fr_ite, frO_ite, frM_ite, frL_ite, frR_ite, ite_self,
      implies_true, fr_foldl, frL_foldl, frR_foldl, fr_setTok]

theorem fr_wrDesc {W s0} {s : State} (h : Fr W s0 s) (w : Within [.mem, .memBad, .memCorr, .memCe, .memUe] W) (x1
    x2) : Fr W s0 (State.wrDesc s x1 x2) := by
  unfold State.wrDesc
  simp only [within_cons, within_nil, and_true] at w
  simp +contextual (maxDischargeDepth := 40) only [h, w, within_cons, within_nil, and_self, frO_next, frO_fault,
      frM_some, frM_none, frL_mk, frR_mk, frL_fold, frR_fold, fr_ite, frO_ite, frM_ite, frL_ite, frR_ite, ite_self,
      implies_true, fr_foldl, frL_foldl, frR_foldl, fr_wrN]

theorem fr_wrCtx {W s0} {s : State} (h : Fr W s0 s) (w : Within [.mem, .memBad, .memCorr, .memCe, .memUe] W) (x1) :
    Fr W s0 (State.wrCtx s x1) := by
  unfold State.wrCtx
  simp only [within_cons, within_nil, and_true] at w
  simp +contextual (maxDischargeDepth := 40) only [h, w, within_cons, within_nil, and_self, frO_next, frO_fault,
      frM_some, frM_none, frL_mk, frR_mk, frL_fold, frR_fold, fr_ite, frO_ite, frM_ite, frL_ite, frR_ite, ite_self,
      implies_true, fr_foldl, frL_foldl, frR_foldl, fr_wr]

theorem fr_putStr {W s0} {s : State} (h : Fr W s0 s) (w : Within [.mem, .memBad, .memCorr, .memCe, .memUe,
    .streams] W) (x1 x2) : Fr W s0 (State.putStr s x1 x2) := by
  unfold State.putStr
  simp only [within_cons, within_nil, and_true] at w
  simp +contextual (maxDischargeDepth := 40) only [h, w, within_cons, within_nil, and_self, frO_next, frO_fault,
      frM_some, frM_none, frL_mk, frR_mk, frL_fold, frR_fold, fr_ite, frO_ite, frM_ite, frL_ite, frR_ite, ite_self,
      implies_true, fr_foldl, frL_foldl, frR_foldl, fr_wrDesc, fr_setStr]

theorem fr_freePots {W s0} {s : State} (h : Fr W s0 s) (w : Within [.pots] W) (x1 x2 x3) : Fr W s0 (State.freePots
    s x1 x2 x3) := by
  unfold State.freePots
  simp only [within_cons, within_nil, and_true] at w
  simp +contextual (maxDischargeDepth := 40) only [h, w, within_cons, within_nil, and_self, frO_next, frO_fault,
      frM_some, frM_none, frL_mk, frR_mk, frL_fold, frR_fold, fr_ite, frO_ite, frM_ite, frL_ite, frR_ite, ite_self,
      implies_true, fr_foldl, frL_foldl, frR_foldl, fr_setPot]

theorem fr_dropStream {W s0} {s : State} (h : Fr W s0 s) (w : Within [.waiting, .baskets, .pans, .pots, .fastQ,
    .dzf] W) (x1) : Fr W s0 (State.dropStream s x1) := by
  unfold State.dropStream
  simp only [within_cons, within_nil, and_true] at w
  simp +contextual (maxDischargeDepth := 40) only [h, w, within_cons, within_nil, and_self, frO_next, frO_fault,
      frM_some, frM_none, frL_mk, frR_mk, frL_fold, frR_fold, fr_ite, frO_ite, frM_ite, frL_ite, frR_ite, ite_self,
      implies_true, fr_foldl, frL_foldl, frR_foldl, fr_mk_waiting_fastQ_dzf, fr_setBsk, fr_setPan, fr_freePots]

theorem fr_qDone {W s0} {s : State} (h : Fr W s0 s) (w : Within [.hq] W) (x1 x2 x3 x4 x5) : Fr W s0 (State.qDone s
    x1 x2 x3 x4 x5) := by
  unfold State.qDone
  simp only [within_cons, within_nil, and_true] at w
  simp +contextual (maxDischargeDepth := 40) only [h, w, within_cons, within_nil, and_self, frO_next, frO_fault,
      frM_some, frM_none, frL_mk, frR_mk, frL_fold, frR_fold, fr_ite, frO_ite, frM_ite, frL_ite, frR_ite, ite_self,
      implies_true, fr_foldl, frL_foldl, frR_foldl, fr_setQue]

theorem fr_migReport {W s0} {s : State} (h : Fr W s0 s) (w : Within [.streams, .hq, .dev] W) (x1 x2) : Fr W s0
    (State.migReport s x1 x2) := by
  unfold State.migReport
  simp only [within_cons, within_nil, and_true] at w
  try simp +contextual (maxDischargeDepth := 40) only [h, w, within_cons, within_nil, and_self, frO_next,
      frO_fault, frM_some, frM_none, frL_mk, frR_mk, frL_fold, frR_fold, fr_ite, frO_ite, frM_ite, frL_ite,
      frR_ite, ite_self, implies_true, fr_foldl, frL_foldl, frR_foldl, fr_mk_dev, fr_setStr, fr_qDone]
  all_goals repeat' (split <;> (try simp +contextual (maxDischargeDepth := 40) only [h, w, within_cons, within_nil,
      and_self, frO_next, frO_fault, frM_some, frM_none, frL_mk, frR_mk, frL_fold, frR_fold, fr_ite, frO_ite,
      frM_ite, frL_ite, frR_ite, ite_self, implies_true, fr_foldl, frL_foldl, frR_foldl, fr_mk_dev, fr_setStr,
      fr_qDone]))

theorem fr_abortStr {W s0} {s : State} (h : Fr W s0 s) (w : Within [.mem, .memBad, .memCorr, .memCe, .memUe,
    .streams, .waiting, .baskets, .pans, .pots, .fastQ, .dzf, .hq, .dev] W) (x1 x2) : Fr W s0 (State.abortStr s x1
    x2) := by
  unfold State.abortStr
  simp only [within_cons, within_nil, and_true] at w
  simp +contextual (maxDischargeDepth := 40) only [h, w, within_cons, within_nil, and_self, frO_next, frO_fault,
      frM_some, frM_none, frL_mk, frR_mk, frL_fold, frR_fold, fr_ite, frO_ite, frM_ite, frL_ite, frR_ite, ite_self,
      implies_true, fr_foldl, frL_foldl, frR_foldl, fr_dropStream, fr_migReport, fr_putStr, fr_wrCtx, fr_settleBsk]

theorem fr_migFail {W s0} {s : State} (h : Fr W s0 s) (w : Within [.mem, .memBad, .memCorr, .memCe, .memUe,
    .streams, .hq, .dev] W) (x1 x2) : Fr W s0 (State.migFail s x1 x2) := by
  unfold State.migFail
  simp only [within_cons, within_nil, and_true] at w
  simp +contextual (maxDischargeDepth := 40) only [h, w, within_cons, within_nil, and_self, frO_next, frO_fault,
      frM_some, frM_none, frL_mk, frR_mk, frL_fold, frR_fold, fr_ite, frO_ite, frM_ite, frL_ite, frR_ite, ite_self,
      implies_true, fr_foldl, frL_foldl, frR_foldl, fr_migReport, fr_putStr]

theorem fr_evict {W s0} {s : State} (h : Fr W s0 s) (w : Within [.mem, .memBad, .memCorr, .memCe, .memUe, .streams,
    .waiting, .baskets, .pans, .pots, .fastQ, .dzf, .hq, .dev] W) (x1) : Fr W s0 (State.evict s x1) := by
  unfold State.evict
  simp only [within_cons, within_nil, and_true] at w
  simp +contextual (maxDischargeDepth := 40) only [h, w, within_cons, within_nil, and_self, frO_next, frO_fault,
      frM_some, frM_none, frL_mk, frR_mk, frL_fold, frR_fold, fr_ite, frO_ite, frM_ite, frL_ite, frR_ite, ite_self,
      implies_true, fr_foldl, frL_foldl, frR_foldl, fr_migFail, fr_abortStr]

theorem fr_raiseX {W s0} {s : State} (h : Fr W s0 s) (w : Within [.mem, .memBad, .memCorr, .memCe, .memUe,
    .streams, .waiting, .baskets, .pans, .pots, .fastQ, .dzf, .hq, .dev, .evq] W) (x1 x2 x3 x4 x5 x6 x7) : Fr W s0
    (State.raiseX s x1 x2 x3 x4 x5 x6 x7) := by
  unfold State.raiseX
  simp only [within_cons, within_nil, and_true] at w
  simp +contextual (maxDischargeDepth := 40) only [h, w, within_cons, within_nil, and_self, frO_next, frO_fault,
      frM_some, frM_none, frL_mk, frR_mk, frL_fold, frR_fold, fr_ite, frO_ite, frM_ite, frL_ite, frR_ite, ite_self,
      implies_true, fr_foldl, frL_foldl, frR_foldl, fr_abortStr, fr_raiseS]

theorem fr_hostX {W s0} {s : State} (h : Fr W s0 s) (w : Within [.mem, .memBad, .memCorr, .memCe, .memUe, .streams,
    .waiting, .baskets, .pans, .pots, .fastQ, .dzf, .hq, .dev, .evq] W) (x1 x2 x3 x4) : Fr W s0 (State.hostX s x1
    x2 x3 x4) := by
  unfold State.hostX
  simp only [within_cons, within_nil, and_true] at w
  simp +contextual (maxDischargeDepth := 40) only [h, w, within_cons, within_nil, and_self, frO_next, frO_fault,
      frM_some, frM_none, frL_mk, frR_mk, frL_fold, frR_fold, fr_ite, frO_ite, frM_ite, frL_ite, frR_ite, ite_self,
      implies_true, fr_foldl, frL_foldl, frR_foldl, fr_raiseX]

theorem fr_memX {W s0} {s : State} (h : Fr W s0 s) (w : Within [.mem, .memBad, .memCorr, .memCe, .memUe, .streams,
    .waiting, .baskets, .pans, .pots, .fastQ, .dzf, .hq, .dev, .evq] W) (x1 x2 x3 x4) : Fr W s0 (State.memX s x1 x2
    x3 x4) := by
  unfold State.memX
  simp only [within_cons, within_nil, and_true] at w
  simp +contextual (maxDischargeDepth := 40) only [h, w, within_cons, within_nil, and_self, frO_next, frO_fault,
      frM_some, frM_none, frL_mk, frR_mk, frL_fold, frR_fold, fr_ite, frO_ite, frM_ite, frL_ite, frR_ite, ite_self,
      implies_true, fr_foldl, frL_foldl, frR_foldl, fr_raiseX]

/-! ## Operands -/

theorem fr_scrubRegions {W s0} {s : State} (h : Fr W s0 s) (w : Within [.memCorr, .memCe, .memUe] W) (x1 x2) : Fr W
    s0 (State.scrubRegions s x1 x2) := by
  unfold State.scrubRegions
  simp only [within_cons, within_nil, and_true] at w
  simp +contextual (maxDischargeDepth := 40) only [h, w, within_cons, within_nil, and_self, frO_next, frO_fault,
      frM_some, frM_none, frL_mk, frR_mk, frL_fold, frR_fold, fr_ite, frO_ite, frM_ite, frL_ite, frR_ite, ite_self,
      implies_true, fr_foldl, frL_foldl, frR_foldl, fr_scrub]

/-! ## Flags -/

theorem fr_putRec {W s0} {s : State} (h : Fr W s0 s) (w : Within [.mem, .memBad, .memCorr, .memCe, .memUe,
    .streams] W) (x1 x2) : Fr W s0 (State.putRec s x1 x2) := by
  unfold State.putRec
  simp only [within_cons, within_nil, and_true] at w
  simp +contextual (maxDischargeDepth := 40) only [h, w, within_cons, within_nil, and_self, frO_next, frO_fault,
      frM_some, frM_none, frL_mk, frR_mk, frL_fold, frR_fold, fr_ite, frO_ite, frM_ite, frL_ite, frR_ite, ite_self,
      implies_true, fr_foldl, frL_foldl, frR_foldl, fr_wr, fr_wrN, fr_setStr]

theorem fr_endStr {W s0} {s : State} (h : Fr W s0 s) (w : Within [.mem, .memBad, .memCorr, .memCe, .memUe,
    .streams, .baskets] W) (x1) : Fr W s0 (State.endStr s x1) := by
  unfold State.endStr
  simp only [within_cons, within_nil, and_true] at w
  simp +contextual (maxDischargeDepth := 40) only [h, w, within_cons, within_nil, and_self, frO_next, frO_fault,
      frM_some, frM_none, frL_mk, frR_mk, frL_fold, frR_fold, fr_ite, frO_ite, frM_ite, frL_ite, frR_ite, ite_self,
      implies_true, fr_foldl, frL_foldl, frR_foldl, fr_settleBsk, fr_wrCtx, fr_putStr]

theorem fr_finish {W s0} {s : State} (h : Fr W s0 s) (w : Within [.mem, .memBad, .memCorr, .memCe, .memUe,
    .streams, .baskets, .tokens, .globals, .hq, .evq, .msix] W) (x1) : Fr W s0 (State.finish s x1) := by
  unfold State.finish
  simp only [within_cons, within_nil, and_true] at w
  simp +contextual (maxDischargeDepth := 40) only [h, w, within_cons, within_nil, and_self, frO_next, frO_fault,
      frM_some, frM_none, frL_mk, frR_mk, frL_fold, frR_fold, fr_ite, frO_ite, frM_ite, frL_ite, frR_ite, ite_self,
      implies_true, fr_foldl, frL_foldl, frR_foldl, fr_setStr, fr_raiseS, fr_putRec, fr_setBsk, fr_sig, fr_endStr]

theorem fr_tryEnd {W s0} {s : State} (h : Fr W s0 s) (w : Within [.mem, .memBad, .memCorr, .memCe, .memUe,
    .streams, .baskets, .tokens, .globals, .hq, .evq, .msix] W) (x1) : Fr W s0 (State.tryEnd s x1) := by
  unfold State.tryEnd
  simp only [within_cons, within_nil, and_true] at w
  simp +contextual (maxDischargeDepth := 40) only [h, w, within_cons, within_nil, and_self, frO_next, frO_fault,
      frM_some, frM_none, frL_mk, frR_mk, frL_fold, frR_fold, fr_ite, frO_ite, frM_ite, frL_ite, frR_ite, ite_self,
      implies_true, fr_foldl, frL_foldl, frR_foldl, fr_setBsk, fr_finish]

theorem fr_modRec {W s0} {s : State} (h : Fr W s0 s) (w : Within [.baskets] W) (x1 x2 x3) : Fr W s0 (State.modRec s
    x1 x2 x3) := by
  unfold State.modRec
  simp only [within_cons, within_nil, and_true] at w
  simp +contextual (maxDischargeDepth := 40) only [h, w, within_cons, within_nil, and_self, frO_next, frO_fault,
      frM_some, frM_none, frL_mk, frR_mk, frL_fold, frR_fold, fr_ite, frO_ite, frM_ite, frL_ite, frR_ite, ite_self,
      implies_true, fr_foldl, frL_foldl, frR_foldl, fr_setBsk]

theorem fr_tryFinish {W s0} {s : State} (h : Fr W s0 s) (w : Within [.mem, .memBad, .memCorr, .memCe, .memUe,
    .streams, .baskets, .tokens, .globals, .hq, .evq, .msix] W) (x1) : Fr W s0 (State.tryFinish s x1) := by
  unfold State.tryFinish
  simp only [within_cons, within_nil, and_true] at w
  try simp +contextual (maxDischargeDepth := 40) only [h, w, within_cons, within_nil, and_self, frO_next,
      frO_fault, frM_some, frM_none, frL_mk, frR_mk, frL_fold, frR_fold, fr_ite, frO_ite, frM_ite, frL_ite,
      frR_ite, ite_self, implies_true, fr_foldl, frL_foldl, frR_foldl, fr_tryEnd, fr_modRec]
  all_goals repeat' (split <;> (try simp +contextual (maxDischargeDepth := 40) only [h, w, within_cons, within_nil,
      and_self, frO_next, frO_fault, frM_some, frM_none, frL_mk, frR_mk, frL_fold, frR_fold, fr_ite, frO_ite,
      frM_ite, frL_ite, frR_ite, ite_self, implies_true, fr_foldl, frL_foldl, frR_foldl, fr_tryEnd, fr_modRec]))

theorem fr_goTo {W s0} {s : State} (h : Fr W s0 s) (w : Within [.streams] W) (x1 x2) : Fr W s0 (State.goTo s x1 x2) := by
  unfold State.goTo
  simp only [within_cons, within_nil, and_true] at w
  simp +contextual (maxDischargeDepth := 40) only [h, w, within_cons, within_nil, and_self, frO_next, frO_fault,
      frM_some, frM_none, frL_mk, frR_mk, frL_fold, frR_fold, fr_ite, frO_ite, frM_ite, frL_ite, frR_ite, ite_self,
      implies_true, fr_foldl, frL_foldl, frR_foldl, fr_setStr]

theorem fr_enter {W s0} {s : State} (h : Fr W s0 s) (w : Within [.baskets, .nextUid] W) (x1) : Fr W s0 (State.enter
    s x1) := by
  unfold State.enter
  simp only [within_cons, within_nil, and_true] at w
  simp +contextual (maxDischargeDepth := 40) only [h, w, within_cons, within_nil, and_self, frO_next, frO_fault,
      frM_some, frM_none, frL_mk, frR_mk, frL_fold, frR_fold, fr_ite, frO_ite, frM_ite, frL_ite, frR_ite, ite_self,
      implies_true, fr_foldl, frL_foldl, frR_foldl, fr_mk_nextUid, fr_setBsk]

theorem fr_over {W s0} {s : State} (h : Fr W s0 s) (w : Within [.mem, .memBad, .memCorr, .memCe, .memUe, .streams,
    .baskets, .tokens, .globals, .nextUid, .hq, .evq, .msix] W) (x1) : Fr W s0 (State.over s x1) := by
  unfold State.over
  simp only [within_cons, within_nil, and_true] at w
  simp +contextual (maxDischargeDepth := 40) only [h, w, within_cons, within_nil, and_self, frO_next, frO_fault,
      frM_some, frM_none, frL_mk, frR_mk, frL_fold, frR_fold, fr_ite, frO_ite, frM_ite, frL_ite, frR_ite, ite_self,
      implies_true, fr_foldl, frL_foldl, frR_foldl, fr_tryFinish, fr_enter]

/-! ## Fabric units -/

theorem fr_routeTie {W s0} {s : State} (h : Fr W s0 s) (w : Within [.dzf, .evq] W) (x1 x2 x3) : Fr W s0
    (State.routeTie s x1 x2 x3) := by
  unfold State.routeTie
  simp only [within_cons, within_nil, and_true] at w
  simp +contextual (maxDischargeDepth := 40) only [h, w, within_cons, within_nil, and_self, frO_next, frO_fault,
      frM_some, frM_none, frL_mk, frR_mk, frL_fold, frR_fold, fr_ite, frO_ite, frM_ite, frL_ite, frR_ite, ite_self,
      implies_true, fr_foldl, frL_foldl, frR_foldl, fr_mk_dzf, fr_raise]

theorem fr_lookup {W s0} {s : State} (h : Fr W s0 s) (w : Within [.dzf, .evq] W) (x1 x2) : FrR W s0 (State.lookup s
    x1 x2) := by
  unfold State.lookup
  simp only [within_cons, within_nil, and_true] at w
  all_goals repeat' (split <;> (try simp +contextual (maxDischargeDepth := 40) only [h, w, within_cons, within_nil,
      and_self, frO_next, frO_fault, frM_some, frM_none, frL_mk, frR_mk, frL_fold, frR_fold, fr_ite, frO_ite,
      frM_ite, frL_ite, frR_ite, ite_self, implies_true, fr_foldl, frL_foldl, frR_foldl, fr_mk_dzf, fr_routeTie]))

theorem fr_egress {W s0} {s : State} (h : Fr W s0 s) (w : Within [.dzf, .evq] W) (x1 x2 x3) : FrR W s0
    (State.egress s x1 x2 x3) := by
  have hk := h
  unfold State.egress
  simp only [within_cons, within_nil, and_true] at w
  try simp +contextual (maxDischargeDepth := 40) only [h, w, within_cons, within_nil, and_self, frO_next,
      frO_fault, frM_some, frM_none, frL_mk, frR_mk, frL_fold, frR_fold, fr_ite, frO_ite, frM_ite, frL_ite,
      frR_ite, ite_self, implies_true, fr_foldl, frL_foldl, frR_foldl, fr_lookup]
  all_goals repeat' (split <;> (try (rename_i heq; first | have hk := frR_eq (W := W) (s0 := s0) (by simp +contextual (maxDischargeDepth := 40) only [hk, h, w, within_cons, within_nil, and_self, frO_next, frO_fault, frM_some, frM_none, frL_mk, frR_mk, frL_fold, frR_fold, fr_ite, frO_ite, frM_ite, frL_ite, frR_ite, ite_self, implies_true, fr_foldl, frL_foldl, frR_foldl, fr_lookup]) heq | have hk := frL_eq (W := W) (s0 := s0) (by simp +contextual (maxDischargeDepth := 40) only [hk, h, w, within_cons, within_nil, and_self, frO_next, frO_fault, frM_some, frM_none, frL_mk, frR_mk, frL_fold, frR_fold, fr_ite, frO_ite, frM_ite, frL_ite, frR_ite, ite_self, implies_true, fr_foldl, frL_foldl, frR_foldl, fr_lookup]) heq | have hk := frM_eq (W := W) (s0 := s0) (by simp +contextual (maxDischargeDepth := 40) only [hk, h, w, within_cons, within_nil, and_self, frO_next, frO_fault, frM_some, frM_none, frL_mk, frR_mk, frL_fold, frR_fold, fr_ite, frO_ite, frM_ite, frL_ite, frR_ite, ite_self, implies_true, fr_foldl, frL_foldl, frR_foldl, fr_lookup]) heq)) <;> (try simp +contextual (maxDischargeDepth := 40) only [hk, h, w, within_cons, within_nil, and_self, frO_next, frO_fault, frM_some, frM_none, frL_mk, frR_mk, frL_fold, frR_fold, fr_ite, frO_ite, frM_ite, frL_ite, frR_ite, ite_self, implies_true, fr_foldl, frL_foldl, frR_foldl, fr_lookup]))

theorem fr_putPort {W s0} {s : State} (h : Fr W s0 s) (w : Within [.tx] W) (x1 x2) : Fr W s0 (State.putPort s x1
    x2) := by
  unfold State.putPort
  simp only [within_cons, within_nil, and_true] at w
  simp +contextual (maxDischargeDepth := 40) only [h, w, within_cons, within_nil, and_self, frO_next, frO_fault,
      frM_some, frM_none, frL_mk, frR_mk, frL_fold, frR_fold, fr_ite, frO_ite, frM_ite, frL_ite, frR_ite, ite_self,
      implies_true, fr_foldl, frL_foldl, frR_foldl, fr_mk_tx]

theorem fr_sendReply {W s0} {s : State} (h : Fr W s0 s) (w : Within [.dzf, .evq, .tx] W) (x1 x2) : Fr W s0
    (State.sendReply s x1 x2) := by
  have hk := h
  unfold State.sendReply
  simp only [within_cons, within_nil, and_true] at w
  try simp +contextual (maxDischargeDepth := 40) only [h, w, within_cons, within_nil, and_self, frO_next,
      frO_fault, frM_some, frM_none, frL_mk, frR_mk, frL_fold, frR_fold, fr_ite, frO_ite, frM_ite, frL_ite,
      frR_ite, ite_self, implies_true, fr_foldl, frL_foldl, frR_foldl, fr_egress, fr_putPort]
  all_goals repeat' (split <;> (try (rename_i heq; first | have hk := frR_eq (W := W) (s0 := s0) (by simp +contextual (maxDischargeDepth := 40) only [hk, h, w, within_cons, within_nil, and_self, frO_next, frO_fault, frM_some, frM_none, frL_mk, frR_mk, frL_fold, frR_fold, fr_ite, frO_ite, frM_ite, frL_ite, frR_ite, ite_self, implies_true, fr_foldl, frL_foldl, frR_foldl, fr_egress, fr_putPort]) heq | have hk := frL_eq (W := W) (s0 := s0) (by simp +contextual (maxDischargeDepth := 40) only [hk, h, w, within_cons, within_nil, and_self, frO_next, frO_fault, frM_some, frM_none, frL_mk, frR_mk, frL_fold, frR_fold, fr_ite, frO_ite, frM_ite, frL_ite, frR_ite, ite_self, implies_true, fr_foldl, frL_foldl, frR_foldl, fr_egress, fr_putPort]) heq | have hk := frM_eq (W := W) (s0 := s0) (by simp +contextual (maxDischargeDepth := 40) only [hk, h, w, within_cons, within_nil, and_self, frO_next, frO_fault, frM_some, frM_none, frL_mk, frR_mk, frL_fold, frR_fold, fr_ite, frO_ite, frM_ite, frL_ite, frR_ite, ite_self, implies_true, fr_foldl, frL_foldl, frR_foldl, fr_egress, fr_putPort]) heq)) <;> (try simp +contextual (maxDischargeDepth := 40) only [hk, h, w, within_cons, within_nil, and_self, frO_next, frO_fault, frM_some, frM_none, frL_mk, frR_mk, frL_fold, frR_fold, fr_ite, frO_ite, frM_ite, frL_ite, frR_ite, ite_self, implies_true, fr_foldl, frL_foldl, frR_foldl, fr_egress, fr_putPort]))

theorem fr_noRoute {W s0} {s : State} (h : Fr W s0 s) (w : Within [.freeCtr, .dzf, .evq, .tx] W) (x1) : Fr W s0
    (State.noRoute s x1) := by
  unfold State.noRoute
  simp only [within_cons, within_nil, and_true] at w
  simp +contextual (maxDischargeDepth := 40) only [h, w, within_cons, within_nil, and_self, frO_next, frO_fault,
      frM_some, frM_none, frL_mk, frR_mk, frL_fold, frR_fold, fr_ite, frO_ite, frM_ite, frL_ite, frR_ite, ite_self,
      implies_true, fr_foldl, frL_foldl, frR_foldl, fr_mk_freeCtr, fr_sendReply]

theorem fr_rerouted {W s0} {s : State} (h : Fr W s0 s) (w : Within [.freeCtr, .dzf, .evq, .tx] W) (x1) : Fr W s0
    (State.rerouted s x1) := by
  have hk := h
  unfold State.rerouted
  simp only [within_cons, within_nil, and_true] at w
  try simp +contextual (maxDischargeDepth := 40) only [h, w, within_cons, within_nil, and_self, frO_next,
      frO_fault, frM_some, frM_none, frL_mk, frR_mk, frL_fold, frR_fold, fr_ite, frO_ite, frM_ite, frL_ite,
      frR_ite, ite_self, implies_true, fr_foldl, frL_foldl, frR_foldl, fr_egress, fr_putPort, fr_noRoute]
  all_goals repeat' (split <;> (try (rename_i heq; first | have hk := frR_eq (W := W) (s0 := s0) (by simp +contextual (maxDischargeDepth := 40) only [hk, h, w, within_cons, within_nil, and_self, frO_next, frO_fault, frM_some, frM_none, frL_mk, frR_mk, frL_fold, frR_fold, fr_ite, frO_ite, frM_ite, frL_ite, frR_ite, ite_self, implies_true, fr_foldl, frL_foldl, frR_foldl, fr_egress, fr_putPort, fr_noRoute]) heq | have hk := frL_eq (W := W) (s0 := s0) (by simp +contextual (maxDischargeDepth := 40) only [hk, h, w, within_cons, within_nil, and_self, frO_next, frO_fault, frM_some, frM_none, frL_mk, frR_mk, frL_fold, frR_fold, fr_ite, frO_ite, frM_ite, frL_ite, frR_ite, ite_self, implies_true, fr_foldl, frL_foldl, frR_foldl, fr_egress, fr_putPort, fr_noRoute]) heq | have hk := frM_eq (W := W) (s0 := s0) (by simp +contextual (maxDischargeDepth := 40) only [hk, h, w, within_cons, within_nil, and_self, frO_next, frO_fault, frM_some, frM_none, frL_mk, frR_mk, frL_fold, frR_fold, fr_ite, frO_ite, frM_ite, frL_ite, frR_ite, ite_self, implies_true, fr_foldl, frL_foldl, frR_foldl, fr_egress, fr_putPort, fr_noRoute]) heq)) <;> (try simp +contextual (maxDischargeDepth := 40) only [hk, h, w, within_cons, within_nil, and_self, frO_next, frO_fault, frM_some, frM_none, frL_mk, frR_mk, frL_fold, frR_fold, fr_ite, frO_ite, frM_ite, frL_ite, frR_ite, ite_self, implies_true, fr_foldl, frL_foldl, frR_foldl, fr_egress, fr_putPort, fr_noRoute]))

theorem fr_reroute {W s0} {s : State} (h : Fr W s0 s) (w : Within [.freeCtr, .dzf, .evq, .tx] W) (x1) : Fr W s0
    (State.reroute s x1) := by
  unfold State.reroute
  simp only [within_cons, within_nil, and_true] at w
  simp +contextual (maxDischargeDepth := 40) only [h, w, within_cons, within_nil, and_self, frO_next, frO_fault,
      frM_some, frM_none, frL_mk, frR_mk, frL_fold, frR_fold, fr_ite, frO_ite, frM_ite, frL_ite, frR_ite, ite_self,
      implies_true, fr_foldl, frL_foldl, frR_foldl, fr_mk_freeCtr_tx, fr_rerouted]

theorem fr_transmit {W s0} {s : State} (h : Fr W s0 s) (w : Within [.dzf, .evq, .tx] W) (x1) : Fr W s0
    (State.transmit s x1) := by
  have hk := h
  unfold State.transmit
  simp only [within_cons, within_nil, and_true] at w
  try simp +contextual (maxDischargeDepth := 40) only [h, w, within_cons, within_nil, and_self, frO_next,
      frO_fault, frM_some, frM_none, frL_mk, frR_mk, frL_fold, frR_fold, fr_ite, frO_ite, frM_ite, frL_ite,
      frR_ite, ite_self, implies_true, fr_foldl, frL_foldl, frR_foldl, fr_mk_dzf, fr_egress, fr_putPort]
  all_goals repeat' (split <;> (try (rename_i heq; first | have hk := frR_eq (W := W) (s0 := s0) (by simp +contextual (maxDischargeDepth := 40) only [hk, h, w, within_cons, within_nil, and_self, frO_next, frO_fault, frM_some, frM_none, frL_mk, frR_mk, frL_fold, frR_fold, fr_ite, frO_ite, frM_ite, frL_ite, frR_ite, ite_self, implies_true, fr_foldl, frL_foldl, frR_foldl, fr_mk_dzf, fr_egress, fr_putPort]) heq | have hk := frL_eq (W := W) (s0 := s0) (by simp +contextual (maxDischargeDepth := 40) only [hk, h, w, within_cons, within_nil, and_self, frO_next, frO_fault, frM_some, frM_none, frL_mk, frR_mk, frL_fold, frR_fold, fr_ite, frO_ite, frM_ite, frL_ite, frR_ite, ite_self, implies_true, fr_foldl, frL_foldl, frR_foldl, fr_mk_dzf, fr_egress, fr_putPort]) heq | have hk := frM_eq (W := W) (s0 := s0) (by simp +contextual (maxDischargeDepth := 40) only [hk, h, w, within_cons, within_nil, and_self, frO_next, frO_fault, frM_some, frM_none, frL_mk, frR_mk, frL_fold, frR_fold, fr_ite, frO_ite, frM_ite, frL_ite, frR_ite, ite_self, implies_true, fr_foldl, frL_foldl, frR_foldl, fr_mk_dzf, fr_egress, fr_putPort]) heq)) <;> (try simp +contextual (maxDischargeDepth := 40) only [hk, h, w, within_cons, within_nil, and_self, frO_next, frO_fault, frM_some, frM_none, frL_mk, frR_mk, frL_fold, frR_fold, fr_ite, frO_ite, frM_ite, frL_ite, frR_ite, ite_self, implies_true, fr_foldl, frL_foldl, frR_foldl, fr_mk_dzf, fr_egress, fr_putPort]))

theorem fr_ageUnit {W s0} {s : State} (h : Fr W s0 s) (w : Within [.dzf] W) (x1) : Fr W s0 (State.ageUnit s x1) := by
  unfold State.ageUnit
  simp only [within_cons, within_nil, and_true] at w
  simp +contextual (maxDischargeDepth := 40) only [h, w, within_cons, within_nil, and_self, frO_next, frO_fault,
      frM_some, frM_none, frL_mk, frR_mk, frL_fold, frR_fold, fr_ite, frO_ite, frM_ite, frL_ite, frR_ite, ite_self,
      implies_true, fr_foldl, frL_foldl, frR_foldl, fr_mk_dzf]

theorem fr_issueUnit {W s0} {s : State} (h : Fr W s0 s) (w : Within [.dzf, .evq, .tx] W) (x1) : Fr W s0
    (State.issueUnit s x1) := by
  unfold State.issueUnit
  simp only [within_cons, within_nil, and_true] at w
  simp +contextual (maxDischargeDepth := 40) only [h, w, within_cons, within_nil, and_self, frO_next, frO_fault,
      frM_some, frM_none, frL_mk, frR_mk, frL_fold, frR_fold, fr_ite, frO_ite, frM_ite, frL_ite, frR_ite, ite_self,
      implies_true, fr_foldl, frL_foldl, frR_foldl, fr_mk_dzf, fr_transmit]

theorem fr_pumpUnits {W s0} (w : Within [.dzf, .evq, .tx] W) : ∀ (n : Nat) {s : State},
    Fr W s0 s → Fr W s0 (pumpUnits n s)
  | 0, _, h => h
  | n + 1, s, h => by
    unfold pumpUnits
    split
    · exact h
    · split
      · exact h
      · have h1 := fr_mk_dzf h (within_mem w _ (by decide)) { s.dzf with backlog := ‹List FUnit› }
        exact fr_pumpUnits w n (fr_dite (fr_ageUnit (w := within_mono w) h1 _) (fr_issueUnit (w := within_mono w) h1 _))

theorem fr_sendUnits {W s0} {s : State} (h : Fr W s0 s) (w : Within [.dzf, .evq, .tx] W) (x1) : Fr W s0
    (State.sendUnits s x1) := by
  unfold State.sendUnits
  simp only [within_cons, within_nil, and_true] at w
  simp +contextual (maxDischargeDepth := 40) only [h, w, within_cons, within_nil, and_self, frO_next, frO_fault,
      frM_some, frM_none, frL_mk, frR_mk, frL_fold, frR_fold, fr_ite, frO_ite, frM_ite, frL_ite, frR_ite, ite_self,
      implies_true, fr_foldl, frL_foldl, frR_foldl, fr_mk_dzf, fr_pumpUnits]

theorem fr_takeTags {W s0} {s : State} (h : Fr W s0 s) (w : Within [.dzf] W) (x1) : FrR W s0 (State.takeTags s x1) := by
  unfold State.takeTags
  simp only [within_cons, within_nil, and_true] at w
  simp +contextual (maxDischargeDepth := 40) only [h, w, within_cons, within_nil, and_self, frO_next, frO_fault,
      frM_some, frM_none, frL_mk, frR_mk, frL_fold, frR_fold, fr_ite, frO_ite, frM_ite, frL_ite, frR_ite, ite_self,
      implies_true, fr_foldl, frL_foldl, frR_foldl, fr_mk_dzf]

/-! ## The Whisk -/

theorem fr_quantise {W s0} {s : State} (h : Fr W s0 s) (w : Within [.scales] W) (x1 x2 x3 x4 x5 x6) : FrL W s0
    (State.quantise s x1 x2 x3 x4 x5 x6) := by
  unfold State.quantise
  simp only [within_cons, within_nil, and_true] at w
  simp +contextual (maxDischargeDepth := 40) only [h, w, within_cons, within_nil, and_self, frO_next, frO_fault,
      frM_some, frM_none, frL_mk, frR_mk, frL_fold, frR_fold, fr_ite, frO_ite, frM_ite, frL_ite, frR_ite, ite_self,
      implies_true, fr_foldl, frL_foldl, frR_foldl, fr_setScale]

theorem fr_whiskEvents {W s0} {s : State} (h : Fr W s0 s) (w : Within [.baskets, .evq] W) (x1 x2 x3 x4 x5 x6) : Fr
    W s0 (State.whiskEvents s x1 x2 x3 x4 x5 x6) := by
  unfold State.whiskEvents
  simp only [within_cons, within_nil, and_true] at w
  all_goals repeat' (split <;> (try simp +contextual (maxDischargeDepth := 40) only [h, w, within_cons, within_nil,
      and_self, frO_next, frO_fault, frM_some, frM_none, frL_mk, frR_mk, frL_fold, frR_fold, fr_ite, frO_ite,
      frM_ite, frL_ite, frR_ite, ite_self, implies_true, fr_foldl, frL_foldl, frR_foldl, fr_raiseS, fr_setBsk]))

theorem fr_wrRows {W s0} {s : State} (h : Fr W s0 s) (w : Within [.mem, .memBad, .memCorr, .memCe, .memUe] W) (x1
    x2 x3) : Fr W s0 (State.wrRows s x1 x2 x3) := by
  unfold State.wrRows
  simp only [within_cons, within_nil, and_true] at w
  simp +contextual (maxDischargeDepth := 40) only [h, w, within_cons, within_nil, and_self, frO_next, frO_fault,
      frM_some, frM_none, frL_mk, frR_mk, frL_fold, frR_fold, fr_ite, frO_ite, frM_ite, frL_ite, frR_ite, ite_self,
      implies_true, fr_foldl, frL_foldl, frR_foldl, fr_wr]

/-! ## The sequencer and control steps -/

theorem fr_failStep {W s0} {s : State} (h : Fr W s0 s) (w : Within [.mem, .memBad, .memCorr, .memCe, .memUe,
    .streams, .evq] W) (x1 x2 x3) : Fr W s0 (State.failStep s x1 x2 x3) := by
  unfold State.failStep
  simp only [within_cons, within_nil, and_true] at w
  simp +contextual (maxDischargeDepth := 40) only [h, w, within_cons, within_nil, and_self, frO_next, frO_fault,
      frM_some, frM_none, frL_mk, frR_mk, frL_fold, frR_fold, fr_ite, frO_ite, frM_ite, frL_ite, frR_ite, ite_self,
      implies_true, fr_foldl, frL_foldl, frR_foldl, fr_raiseS, fr_putStr]

theorem fr_dropChain {W s0} {s : State} (h : Fr W s0 s) (w : Within [.streams, .baskets] W) (x1) : Fr W s0
    (State.dropChain s x1) := by
  unfold State.dropChain
  simp only [within_cons, within_nil, and_true] at w
  try simp +contextual (maxDischargeDepth := 40) only [h, w, within_cons, within_nil, and_self, frO_next,
      frO_fault, frM_some, frM_none, frL_mk, frR_mk, frL_fold, frR_fold, fr_ite, frO_ite, frM_ite, frL_ite,
      frR_ite, ite_self, implies_true, fr_foldl, frL_foldl, frR_foldl, fr_modRec, fr_setStr]
  all_goals repeat' (split <;> (try simp +contextual (maxDischargeDepth := 40) only [h, w, within_cons, within_nil,
      and_self, frO_next, frO_fault, frM_some, frM_none, frL_mk, frR_mk, frL_fold, frR_fold, fr_ite, frO_ite,
      frM_ite, frL_ite, frR_ite, ite_self, implies_true, fr_foldl, frL_foldl, frR_foldl, fr_modRec, fr_setStr]))

theorem fr_skipStep {W s0} {s : State} (h : Fr W s0 s) (w : Within [.mem, .memBad, .memCorr, .memCe, .memUe,
    .streams, .baskets, .tokens, .globals, .nextUid, .hq, .evq, .msix] W) (x1 x2) : Fr W s0 (State.skipStep s x1
    x2) := by
  unfold State.skipStep
  simp only [within_cons, within_nil, and_true] at w
  simp +contextual (maxDischargeDepth := 40) only [h, w, within_cons, within_nil, and_self, frO_next, frO_fault,
      frM_some, frM_none, frL_mk, frR_mk, frL_fold, frR_fold, fr_ite, frO_ite, frM_ite, frL_ite, frR_ite, ite_self,
      implies_true, fr_foldl, frL_foldl, frR_foldl, fr_takeTok, fr_dropChain, fr_over, fr_setStr]

theorem fr_issueStep {W s0} {s : State} (h : Fr W s0 s) (w : Within [.streams, .baskets, .tokens, .globals] W) (x1
    x2 x3) (hf3 : ∀ y0 y1 y2, Fr W s0 y0 → Fr W s0 (x3 y0 y1 y2)) : Fr W s0 (State.issueStep s x1 x2 x3) := by
  unfold State.issueStep
  simp only [within_cons, within_nil, and_true] at w
  simp +contextual (maxDischargeDepth := 40) only [h, w, hf3, within_cons, within_nil, and_self, frO_next,
      frO_fault, frM_some, frM_none, frL_mk, frR_mk, frL_fold, frR_fold, fr_ite, frO_ite, frM_ite, frL_ite,
      frR_ite, ite_self, implies_true, fr_foldl, frL_foldl, frR_foldl, fr_takeTok, fr_setStr, fr_setBsk]

theorem fr_headGo {W s0} {s : State} (h : Fr W s0 s) (w : Within [.mem, .memBad, .memCorr, .memCe, .memUe,
    .streams, .waiting, .baskets, .pans, .pots, .tokens, .globals, .nextUid, .fastQ, .dzf, .hq, .dev, .evq, .msix]
    W) (x1 x2 x3 x4) (hf4 : ∀ y0 y1 y2, Fr W s0 y0 → Fr W s0 (x4 y0 y1 y2)) : Fr W s0 (State.headGo s x1 x2 x3 x4) := by
  unfold State.headGo
  simp only [within_cons, within_nil, and_true] at w
  try simp +contextual (maxDischargeDepth := 40) only [h, w, hf4, within_cons, within_nil, and_self, frO_next,
      frO_fault, frM_some, frM_none, frL_mk, frR_mk, frL_fold, frR_fold, fr_ite, frO_ite, frM_ite, frL_ite,
      frR_ite, ite_self, implies_true, fr_foldl, frL_foldl, frR_foldl, fr_setStr, fr_skipStep, fr_failStep,
      fr_memX, fr_scrub, fr_issueStep]
  all_goals repeat' (split <;> (try simp +contextual (maxDischargeDepth := 40) only [h, w, hf4, within_cons,
      within_nil, and_self, frO_next, frO_fault, frM_some, frM_none, frL_mk, frR_mk, frL_fold, frR_fold, fr_ite,
      frO_ite, frM_ite, frL_ite, frR_ite, ite_self, implies_true, fr_foldl, frL_foldl, frR_foldl, fr_setStr,
      fr_skipStep, fr_failStep, fr_memX, fr_scrub, fr_issueStep]))

theorem fr_headStep {W s0} {s : State} (h : Fr W s0 s) (w : Within [.mem, .memBad, .memCorr, .memCe, .memUe,
    .streams, .waiting, .baskets, .pans, .pots, .tokens, .globals, .nextUid, .fastQ, .dzf, .hq, .dev, .evq, .msix]
    W) (x1 x2 x3 x4) (hf4 : ∀ y0 y1 y2, Fr W s0 y0 → Fr W s0 (x4 y0 y1 y2)) : Fr W s0 (State.headStep s x1 x2 x3
    x4) := by
  unfold State.headStep
  simp only [within_cons, within_nil, and_true] at w
  all_goals repeat' (split <;> (try simp +contextual (maxDischargeDepth := 40) only [h, w, hf4, within_cons,
      within_nil, and_self, frO_next, frO_fault, frM_some, frM_none, frL_mk, frR_mk, frL_fold, frR_fold, fr_ite,
      frO_ite, frM_ite, frL_ite, frR_ite, ite_self, implies_true, fr_foldl, frL_foldl, frR_foldl, fr_hostX,
      fr_headGo, fr_setStr]))

theorem fr_runHead {W s0} {s : State} (h : Fr W s0 s) (w : Within [.mem, .memBad, .memCorr, .memCe, .memUe,
    .streams, .waiting, .baskets, .pans, .pots, .tokens, .globals, .nextUid, .fastQ, .dzf, .hq, .dev, .evq, .msix]
    W) (x1 x2 x3 x4) (hf4 : ∀ y0 y1 y2, Fr W s0 y0 → Fr W s0 (x4 y0 y1 y2)) : Fr W s0 (State.runHead s x1 x2 x3 x4) := by
  unfold State.runHead
  simp only [within_cons, within_nil, and_true] at w
  all_goals repeat' (split <;> (try simp +contextual (maxDischargeDepth := 40) only [h, w, hf4, within_cons,
      within_nil, and_self, frO_next, frO_fault, frM_some, frM_none, frL_mk, frR_mk, frL_fold, frR_fold, fr_ite,
      frO_ite, frM_ite, frL_ite, frR_ite, ite_self, implies_true, fr_foldl, frL_foldl, frR_foldl, fr_failStep,
      fr_memX, fr_scrub, fr_headStep]))

theorem fr_runStep {W s0} {s : State} (h : Fr W s0 s) (w : Within [.mem, .memBad, .memCorr, .memCe, .memUe,
    .streams, .waiting, .baskets, .pans, .pots, .tokens, .globals, .nextUid, .fastQ, .dzf, .hq, .dev, .evq, .msix]
    W) (x0 x1 x2 x3) (hf2 : ∀ y0 y1 y2, Fr W s0 y0 → Fr W s0 (x2 y0 y1 y2)) : FrO W s0 (runStep x0 x1 x2 x3 s) := by
  unfold runStep
  simp only [within_cons, within_nil, and_true] at w
  simp +contextual (maxDischargeDepth := 40) only [h, w, hf2, within_cons, within_nil, and_self, frO_next,
      frO_fault, frM_some, frM_none, frL_mk, frR_mk, frL_fold, frR_fold, fr_ite, frO_ite, frM_ite, frL_ite,
      frR_ite, ite_self, implies_true, fr_foldl, frL_foldl, frR_foldl, fr_guard, fr_runHead]

theorem fr_ctlTo {W s0} {s : State} (h : Fr W s0 s) (w : Within [.mem, .memBad, .memCorr, .memCe, .memUe, .streams,
    .baskets, .tokens, .globals, .nextUid, .hq, .evq, .msix] W) (x1 x2 x3) : Fr W s0 (State.ctlTo s x1 x2 x3) := by
  unfold State.ctlTo
  simp only [within_cons, within_nil, and_true] at w
  simp +contextual (maxDischargeDepth := 40) only [h, w, within_cons, within_nil, and_self, frO_next, frO_fault,
      frM_some, frM_none, frL_mk, frR_mk, frL_fold, frR_fold, fr_ite, frO_ite, frM_ite, frL_ite, frR_ite, ite_self,
      implies_true, fr_foldl, frL_foldl, frR_foldl, fr_over, fr_goTo]

theorem fr_effNext {W s0} {s : State} (h : Fr W s0 s) (w : Within [.mem, .memBad, .memCorr, .memCe, .memUe,
    .streams, .baskets, .tokens, .globals, .nextUid, .hq, .evq, .msix] W) (x1 x2) : Fr W s0 (effNext s x1 x2) := by
  unfold effNext
  simp only [within_cons, within_nil, and_true] at w
  simp +contextual (maxDischargeDepth := 40) only [h, w, within_cons, within_nil, and_self, frO_next, frO_fault,
      frM_some, frM_none, frL_mk, frR_mk, frL_fold, frR_fold, fr_ite, frO_ite, frM_ite, frL_ite, frR_ite, ite_self,
      implies_true, fr_foldl, frL_foldl, frR_foldl, fr_ctlTo]

theorem fr_execNop {W s0} {s : State} (h : Fr W s0 s) (w : Within [.mem, .memBad, .memCorr, .memCe, .memUe,
    .streams, .waiting, .baskets, .pans, .pots, .tokens, .globals, .nextUid, .fastQ, .dzf, .hq, .dev, .evq, .msix]
    W) (x0) : FrO W s0 (execNop x0 s) := by
  unfold execNop
  simp only [within_cons, within_nil, and_true] at w
  simp +contextual (maxDischargeDepth := 40) only [h, w, within_cons, within_nil, and_self, frO_next, frO_fault,
      frM_some, frM_none, frL_mk, frR_mk, frL_fold, frR_fold, fr_ite, frO_ite, frM_ite, frL_ite, frR_ite, ite_self,
      implies_true, fr_foldl, frL_foldl, frR_foldl, fr_runStep, fr_effNext]

theorem fr_effLoop {W s0} {s : State} (h : Fr W s0 s) (w : Within [.mem, .memBad, .memCorr, .memCe, .memUe,
    .streams, .baskets, .tokens, .globals, .nextUid, .hq, .evq, .msix] W) (x1 x2) : Fr W s0 (effLoop s x1 x2) := by
  unfold effLoop
  simp only [within_cons, within_nil, and_true] at w
  simp +contextual (maxDischargeDepth := 40) only [h, w, within_cons, within_nil, and_self, frO_next, frO_fault,
      frM_some, frM_none, frL_mk, frR_mk, frL_fold, frR_fold, fr_ite, frO_ite, frM_ite, frL_ite, frR_ite, ite_self,
      implies_true, fr_foldl, frL_foldl, frR_foldl, fr_ctlTo, fr_setStr]

theorem fr_execLoop {W s0} {s : State} (h : Fr W s0 s) (w : Within [.mem, .memBad, .memCorr, .memCe, .memUe,
    .streams, .waiting, .baskets, .pans, .pots, .tokens, .globals, .nextUid, .fastQ, .dzf, .hq, .dev, .evq, .msix]
    W) (x0) : FrO W s0 (execLoop x0 s) := by
  unfold execLoop
  simp only [within_cons, within_nil, and_true] at w
  simp +contextual (maxDischargeDepth := 40) only [h, w, within_cons, within_nil, and_self, frO_next, frO_fault,
      frM_some, frM_none, frL_mk, frR_mk, frL_fold, frR_fold, fr_ite, frO_ite, frM_ite, frL_ite, frR_ite, ite_self,
      implies_true, fr_foldl, frL_foldl, frR_foldl, fr_runStep, fr_effLoop]

theorem fr_effEndl {W s0} {s : State} (h : Fr W s0 s) (w : Within [.mem, .memBad, .memCorr, .memCe, .memUe,
    .streams, .baskets, .tokens, .globals, .nextUid, .hq, .evq, .msix] W) (x1 x2) : Fr W s0 (effEndl s x1 x2) := by
  unfold effEndl
  simp only [within_cons, within_nil, and_true] at w
  try simp +contextual (maxDischargeDepth := 40) only [h, w, within_cons, within_nil, and_self, frO_next,
      frO_fault, frM_some, frM_none, frL_mk, frR_mk, frL_fold, frR_fold, fr_ite, frO_ite, frM_ite, frL_ite,
      frR_ite, ite_self, implies_true, fr_foldl, frL_foldl, frR_foldl, fr_ctlTo, fr_setStr]
  all_goals repeat' (split <;> (try simp +contextual (maxDischargeDepth := 40) only [h, w, within_cons, within_nil,
      and_self, frO_next, frO_fault, frM_some, frM_none, frL_mk, frR_mk, frL_fold, frR_fold, fr_ite, frO_ite,
      frM_ite, frL_ite, frR_ite, ite_self, implies_true, fr_foldl, frL_foldl, frR_foldl, fr_ctlTo, fr_setStr]))

theorem fr_execEndl {W s0} {s : State} (h : Fr W s0 s) (w : Within [.mem, .memBad, .memCorr, .memCe, .memUe,
    .streams, .waiting, .baskets, .pans, .pots, .tokens, .globals, .nextUid, .fastQ, .dzf, .hq, .dev, .evq, .msix]
    W) (x0) : FrO W s0 (execEndl x0 s) := by
  unfold execEndl
  simp only [within_cons, within_nil, and_true] at w
  simp +contextual (maxDischargeDepth := 40) only [h, w, within_cons, within_nil, and_self, frO_next, frO_fault,
      frM_some, frM_none, frL_mk, frR_mk, frL_fold, frR_fold, fr_ite, frO_ite, frM_ite, frL_ite, frR_ite, ite_self,
      implies_true, fr_foldl, frL_foldl, frR_foldl, fr_runStep, fr_effEndl]

theorem fr_brClear {W s0} {s : State} (h : Fr W s0 s) (w : Within [.streams] W) (x1 x2) : Fr W s0 (State.brClear s
    x1 x2) := by
  unfold State.brClear
  simp only [within_cons, within_nil, and_true] at w
  simp +contextual (maxDischargeDepth := 40) only [h, w, within_cons, within_nil, and_self, frO_next, frO_fault,
      frM_some, frM_none, frL_mk, frR_mk, frL_fold, frR_fold, fr_ite, frO_ite, frM_ite, frL_ite, frR_ite, ite_self,
      implies_true, fr_foldl, frL_foldl, frR_foldl, fr_setStr]

theorem fr_effBr {W s0} {s : State} (h : Fr W s0 s) (w : Within [.mem, .memBad, .memCorr, .memCe, .memUe, .streams,
    .baskets, .tokens, .globals, .nextUid, .hq, .evq, .msix] W) (x1 x2) : Fr W s0 (effBr s x1 x2) := by
  unfold effBr
  simp only [within_cons, within_nil, and_true] at w
  simp +contextual (maxDischargeDepth := 40) only [h, w, within_cons, within_nil, and_self, frO_next, frO_fault,
      frM_some, frM_none, frL_mk, frR_mk, frL_fold, frR_fold, fr_ite, frO_ite, frM_ite, frL_ite, frR_ite, ite_self,
      implies_true, fr_foldl, frL_foldl, frR_foldl, fr_ctlTo, fr_brClear]

theorem fr_execBr {W s0} {s : State} (h : Fr W s0 s) (w : Within [.mem, .memBad, .memCorr, .memCe, .memUe,
    .streams, .waiting, .baskets, .pans, .pots, .tokens, .globals, .nextUid, .fastQ, .dzf, .hq, .dev, .evq, .msix]
    W) (x0) : FrO W s0 (execBr x0 s) := by
  unfold execBr
  simp only [within_cons, within_nil, and_true] at w
  simp +contextual (maxDischargeDepth := 40) only [h, w, within_cons, within_nil, and_self, frO_next, frO_fault,
      frM_some, frM_none, frL_mk, frR_mk, frL_fold, frR_fold, fr_ite, frO_ite, frM_ite, frL_ite, frR_ite, ite_self,
      implies_true, fr_foldl, frL_foldl, frR_foldl, fr_runStep, fr_effBr]

theorem fr_effCall {W s0} {s : State} (h : Fr W s0 s) (w : Within [.mem, .memBad, .memCorr, .memCe, .memUe,
    .streams, .baskets, .tokens, .globals, .nextUid, .hq, .evq, .msix] W) (x1 x2) : Fr W s0 (effCall s x1 x2) := by
  unfold effCall
  simp only [within_cons, within_nil, and_true] at w
  simp +contextual (maxDischargeDepth := 40) only [h, w, within_cons, within_nil, and_self, frO_next, frO_fault,
      frM_some, frM_none, frL_mk, frR_mk, frL_fold, frR_fold, fr_ite, frO_ite, frM_ite, frL_ite, frR_ite, ite_self,
      implies_true, fr_foldl, frL_foldl, frR_foldl, fr_brClear, fr_ctlTo, fr_setStr]

theorem fr_execCall {W s0} {s : State} (h : Fr W s0 s) (w : Within [.mem, .memBad, .memCorr, .memCe, .memUe,
    .streams, .waiting, .baskets, .pans, .pots, .tokens, .globals, .nextUid, .fastQ, .dzf, .hq, .dev, .evq, .msix]
    W) (x0) : FrO W s0 (execCall x0 s) := by
  unfold execCall
  simp only [within_cons, within_nil, and_true] at w
  simp +contextual (maxDischargeDepth := 40) only [h, w, within_cons, within_nil, and_self, frO_next, frO_fault,
      frM_some, frM_none, frL_mk, frR_mk, frL_fold, frR_fold, fr_ite, frO_ite, frM_ite, frL_ite, frR_ite, ite_self,
      implies_true, fr_foldl, frL_foldl, frR_foldl, fr_runStep, fr_effCall]

theorem fr_effRet {W s0} {s : State} (h : Fr W s0 s) (w : Within [.mem, .memBad, .memCorr, .memCe, .memUe,
    .streams, .baskets, .tokens, .globals, .nextUid, .hq, .evq, .msix] W) (x1 x2) : Fr W s0 (effRet s x1 x2) := by
  unfold effRet
  simp only [within_cons, within_nil, and_true] at w
  try simp +contextual (maxDischargeDepth := 40) only [h, w, within_cons, within_nil, and_self, frO_next,
      frO_fault, frM_some, frM_none, frL_mk, frR_mk, frL_fold, frR_fold, fr_ite, frO_ite, frM_ite, frL_ite,
      frR_ite, ite_self, implies_true, fr_foldl, frL_foldl, frR_foldl, fr_ctlTo, fr_setStr]
  all_goals repeat' (split <;> (try simp +contextual (maxDischargeDepth := 40) only [h, w, within_cons, within_nil,
      and_self, frO_next, frO_fault, frM_some, frM_none, frL_mk, frR_mk, frL_fold, frR_fold, fr_ite, frO_ite,
      frM_ite, frL_ite, frR_ite, ite_self, implies_true, fr_foldl, frL_foldl, frR_foldl, fr_ctlTo, fr_setStr]))

theorem fr_execRet {W s0} {s : State} (h : Fr W s0 s) (w : Within [.mem, .memBad, .memCorr, .memCe, .memUe,
    .streams, .waiting, .baskets, .pans, .pots, .tokens, .globals, .nextUid, .fastQ, .dzf, .hq, .dev, .evq, .msix]
    W) (x0) : FrO W s0 (execRet x0 s) := by
  unfold execRet
  simp only [within_cons, within_nil, and_true] at w
  simp +contextual (maxDischargeDepth := 40) only [h, w, within_cons, within_nil, and_self, frO_next, frO_fault,
      frM_some, frM_none, frL_mk, frR_mk, frL_fold, frR_fold, fr_ite, frO_ite, frM_ite, frL_ite, frR_ite, ite_self,
      implies_true, fr_foldl, frL_foldl, frR_foldl, fr_runStep, fr_effRet]

theorem fr_execWait {W s0} {s : State} (h : Fr W s0 s) (w : Within [.mem, .memBad, .memCorr, .memCe, .memUe,
    .streams, .waiting, .baskets, .pans, .pots, .tokens, .globals, .nextUid, .fastQ, .dzf, .hq, .dev, .evq, .msix]
    W) (x0) : FrO W s0 (execWait x0 s) := by
  unfold execWait
  simp only [within_cons, within_nil, and_true] at w
  simp +contextual (maxDischargeDepth := 40) only [h, w, within_cons, within_nil, and_self, frO_next, frO_fault,
      frM_some, frM_none, frL_mk, frR_mk, frL_fold, frR_fold, fr_ite, frO_ite, frM_ite, frL_ite, frR_ite, ite_self,
      implies_true, fr_foldl, frL_foldl, frR_foldl, fr_runStep, fr_effNext]

theorem fr_execSig {W s0} {s : State} (h : Fr W s0 s) (w : Within [.mem, .memBad, .memCorr, .memCe, .memUe,
    .streams, .waiting, .baskets, .pans, .pots, .tokens, .globals, .nextUid, .fastQ, .dzf, .hq, .dev, .evq, .msix]
    W) (x0) : FrO W s0 (execSig x0 s) := by
  unfold execSig
  simp only [within_cons, within_nil, and_true] at w
  simp +contextual (maxDischargeDepth := 40) only [h, w, within_cons, within_nil, and_self, frO_next, frO_fault,
      frM_some, frM_none, frL_mk, frR_mk, frL_fold, frR_fold, fr_ite, frO_ite, frM_ite, frL_ite, frR_ite, ite_self,
      implies_true, fr_foldl, frL_foldl, frR_foldl, fr_runStep, fr_effNext]

theorem fr_execFence {W s0} {s : State} (h : Fr W s0 s) (w : Within [.mem, .memBad, .memCorr, .memCe, .memUe,
    .streams, .waiting, .baskets, .pans, .pots, .tokens, .globals, .nextUid, .fastQ, .dzf, .hq, .dev, .evq, .msix]
    W) (x0) : FrO W s0 (execFence x0 s) := by
  unfold execFence
  simp only [within_cons, within_nil, and_true] at w
  simp +contextual (maxDischargeDepth := 40) only [h, w, within_cons, within_nil, and_self, frO_next, frO_fault,
      frM_some, frM_none, frL_mk, frR_mk, frL_fold, frR_fold, fr_ite, frO_ite, frM_ite, frL_ite, frR_ite, ite_self,
      implies_true, fr_foldl, frL_foldl, frR_foldl, fr_runStep, fr_effNext]

theorem fr_execYield {W s0} {s : State} (h : Fr W s0 s) (w : Within [.mem, .memBad, .memCorr, .memCe, .memUe,
    .streams, .waiting, .baskets, .pans, .pots, .tokens, .globals, .nextUid, .fastQ, .dzf, .hq, .dev, .evq, .msix]
    W) (x0) : FrO W s0 (execYield x0 s) := by
  unfold execYield
  simp only [within_cons, within_nil, and_true] at w
  simp +contextual (maxDischargeDepth := 40) only [h, w, within_cons, within_nil, and_self, frO_next, frO_fault,
      frM_some, frM_none, frL_mk, frR_mk, frL_fold, frR_fold, fr_ite, frO_ite, frM_ite, frL_ite, frR_ite, ite_self,
      implies_true, fr_foldl, frL_foldl, frR_foldl, fr_runStep, fr_effNext]

theorem fr_effHalt {W s0} {s : State} (h : Fr W s0 s) (w : Within [.mem, .memBad, .memCorr, .memCe, .memUe,
    .streams, .baskets, .tokens, .globals, .nextUid, .hq, .evq, .msix] W) (x1 x2) : Fr W s0 (effHalt s x1 x2) := by
  unfold effHalt
  simp only [within_cons, within_nil, and_true] at w
  simp +contextual (maxDischargeDepth := 40) only [h, w, within_cons, within_nil, and_self, frO_next, frO_fault,
      frM_some, frM_none, frL_mk, frR_mk, frL_fold, frR_fold, fr_ite, frO_ite, frM_ite, frL_ite, frR_ite, ite_self,
      implies_true, fr_foldl, frL_foldl, frR_foldl, fr_over, fr_setStr]

theorem fr_execHalt {W s0} {s : State} (h : Fr W s0 s) (w : Within [.mem, .memBad, .memCorr, .memCe, .memUe,
    .streams, .waiting, .baskets, .pans, .pots, .tokens, .globals, .nextUid, .fastQ, .dzf, .hq, .dev, .evq, .msix]
    W) (x0) : FrO W s0 (execHalt x0 s) := by
  unfold execHalt
  simp only [within_cons, within_nil, and_true] at w
  simp +contextual (maxDischargeDepth := 40) only [h, w, within_cons, within_nil, and_self, frO_next, frO_fault,
      frM_some, frM_none, frL_mk, frR_mk, frL_fold, frR_fold, fr_ite, frO_ite, frM_ite, frL_ite, frR_ite, ite_self,
      implies_true, fr_foldl, frL_foldl, frR_foldl, fr_runStep, fr_effHalt]

theorem fr_effMark {W s0} {s : State} (h : Fr W s0 s) (w : Within [.mem, .memBad, .memCorr, .memCe, .memUe,
    .streams, .baskets, .tokens, .globals, .nextUid, .hq, .evq, .msix] W) (x1 x2) : Fr W s0 (effMark s x1 x2) := by
  unfold effMark
  simp only [within_cons, within_nil, and_true] at w
  simp +contextual (maxDischargeDepth := 40) only [h, w, within_cons, within_nil, and_self, frO_next, frO_fault,
      frM_some, frM_none, frL_mk, frR_mk, frL_fold, frR_fold, fr_ite, frO_ite, frM_ite, frL_ite, frR_ite, ite_self,
      implies_true, fr_foldl, frL_foldl, frR_foldl, fr_over, fr_goTo]

theorem fr_execMark {W s0} {s : State} (h : Fr W s0 s) (w : Within [.mem, .memBad, .memCorr, .memCe, .memUe,
    .streams, .waiting, .baskets, .pans, .pots, .tokens, .globals, .nextUid, .fastQ, .dzf, .hq, .dev, .evq, .msix]
    W) (x0) : FrO W s0 (execMark x0 s) := by
  unfold execMark
  simp only [within_cons, within_nil, and_true] at w
  simp +contextual (maxDischargeDepth := 40) only [h, w, within_cons, within_nil, and_self, frO_next, frO_fault,
      frM_some, frM_none, frL_mk, frR_mk, frL_fold, frR_fold, fr_ite, frO_ite, frM_ite, frL_ite, frR_ite, ite_self,
      implies_true, fr_foldl, frL_foldl, frR_foldl, fr_runStep, fr_effMark]

theorem fr_effDbrk {W s0} {s : State} (h : Fr W s0 s) (w : Within [.mem, .memBad, .memCorr, .memCe, .memUe,
    .streams, .baskets, .tokens, .globals, .nextUid, .hq, .trv, .evq, .msix] W) (x1 x2) : Fr W s0 (effDbrk s x1 x2) := by
  unfold effDbrk
  simp only [within_cons, within_nil, and_true] at w
  simp +contextual (maxDischargeDepth := 40) only [h, w, within_cons, within_nil, and_self, frO_next, frO_fault,
      frM_some, frM_none, frL_mk, frR_mk, frL_fold, frR_fold, fr_ite, frO_ite, frM_ite, frL_ite, frR_ite, ite_self,
      implies_true, fr_foldl, frL_foldl, frR_foldl, fr_ctlTo, fr_notice, fr_putStr]

theorem fr_execDbrk {W s0} {s : State} (h : Fr W s0 s) (w : Within [.mem, .memBad, .memCorr, .memCe, .memUe,
    .streams, .waiting, .baskets, .pans, .pots, .tokens, .globals, .nextUid, .fastQ, .dzf, .hq, .trv, .dev, .evq,
    .msix] W) (x0) : FrO W s0 (execDbrk x0 s) := by
  unfold execDbrk
  simp only [within_cons, within_nil, and_true] at w
  simp +contextual (maxDischargeDepth := 40) only [h, w, within_cons, within_nil, and_self, frO_next, frO_fault,
      frM_some, frM_none, frL_mk, frR_mk, frL_fold, frR_fold, fr_ite, frO_ite, frM_ite, frL_ite, frR_ite, ite_self,
      implies_true, fr_foldl, frL_foldl, frR_foldl, fr_runStep, fr_effDbrk]

theorem fr_effDsnap {W s0} {s : State} (h : Fr W s0 s) (w : Within [.mem, .memBad, .memCorr, .memCe, .memUe,
    .streams, .baskets, .tokens, .globals, .nextUid, .hq, .evq, .msix] W) (x1 x2) : Fr W s0 (effDsnap s x1 x2) := by
  unfold effDsnap
  simp only [within_cons, within_nil, and_true] at w
  simp +contextual (maxDischargeDepth := 40) only [h, w, within_cons, within_nil, and_self, frO_next, frO_fault,
      frM_some, frM_none, frL_mk, frR_mk, frL_fold, frR_fold, fr_ite, frO_ite, frM_ite, frL_ite, frR_ite, ite_self,
      implies_true, fr_foldl, frL_foldl, frR_foldl, fr_ctlTo, fr_wr]

theorem fr_execDsnap {W s0} {s : State} (h : Fr W s0 s) (w : Within [.mem, .memBad, .memCorr, .memCe, .memUe,
    .streams, .waiting, .baskets, .pans, .pots, .tokens, .globals, .nextUid, .fastQ, .dzf, .hq, .dev, .evq, .msix]
    W) (x0) : FrO W s0 (execDsnap x0 s) := by
  unfold execDsnap
  simp only [within_cons, within_nil, and_true] at w
  simp +contextual (maxDischargeDepth := 40) only [h, w, within_cons, within_nil, and_self, frO_next, frO_fault,
      frM_some, frM_none, frL_mk, frR_mk, frL_fold, frR_fold, fr_ite, frO_ite, frM_ite, frL_ite, frR_ite, ite_self,
      implies_true, fr_foldl, frL_foldl, frR_foldl, fr_runStep, fr_effDsnap]

theorem fr_execStepCompletion {W s0} {s : State} (h : Fr W s0 s) (w : Within [.mem, .memBad, .memCorr, .memCe,
    .memUe, .streams, .baskets, .tokens, .globals, .hq, .evq, .msix] W) (x0 x1) : FrO W s0 (execStepCompletion x0
    x1 s) := by
  unfold execStepCompletion
  simp only [within_cons, within_nil, and_true] at w
  all_goals repeat' (split <;> (try simp +contextual (maxDischargeDepth := 40) only [h, w, within_cons, within_nil,
      and_self, frO_next, frO_fault, frM_some, frM_none, frL_mk, frR_mk, frL_fold, frR_fold, fr_ite, frO_ite,
      frM_ite, frL_ite, frR_ite, ite_self, implies_true, fr_foldl, frL_foldl, frR_foldl, fr_guard, fr_tryFinish]))

theorem fr_execRingHeadPoll {W s0} {s : State} (h : Fr W s0 s) (w : Within [.time, .mem, .memBad, .memCorr, .memCe,
    .memUe, .streams, .baskets, .tokens, .globals, .hq, .evq, .msix] W) (x0) : FrO W s0 (execRingHeadPoll x0 s) := by
  unfold execRingHeadPoll
  simp only [within_cons, within_nil, and_true] at w
  try simp +contextual (maxDischargeDepth := 40) only [h, w, within_cons, within_nil, and_self, frO_next,
      frO_fault, frM_some, frM_none, frL_mk, frR_mk, frL_fold, frR_fold, fr_ite, frO_ite, frM_ite, frL_ite,
      frR_ite, ite_self, implies_true, fr_foldl, frL_foldl, frR_foldl, fr_guard, fr_at, fr_tryFinish]
  all_goals repeat' (split <;> (try simp +contextual (maxDischargeDepth := 40) only [h, w, within_cons, within_nil,
      and_self, frO_next, frO_fault, frM_some, frM_none, frL_mk, frR_mk, frL_fold, frR_fold, fr_ite, frO_ite,
      frM_ite, frL_ite, frR_ite, ite_self, implies_true, fr_foldl, frL_foldl, frR_foldl, fr_guard, fr_at,
      fr_tryFinish]))

theorem fr_execTokenTimeout {W s0} {s : State} (h : Fr W s0 s) (w : Within [.time, .mem, .memBad, .memCorr, .memCe,
    .memUe, .streams, .waiting, .baskets, .pans, .pots, .fastQ, .dzf, .hq, .dev, .evq] W) (x0) : FrO W s0
    (execTokenTimeout x0 s) := by
  unfold execTokenTimeout
  simp only [within_cons, within_nil, and_true] at w
  try simp +contextual (maxDischargeDepth := 40) only [h, w, within_cons, within_nil, and_self, frO_next,
      frO_fault, frM_some, frM_none, frL_mk, frR_mk, frL_fold, frR_fold, fr_ite, frO_ite, frM_ite, frL_ite,
      frR_ite, ite_self, implies_true, fr_foldl, frL_foldl, frR_foldl, fr_guard, fr_raiseX, fr_at]
  all_goals repeat' (split <;> (try simp +contextual (maxDischargeDepth := 40) only [h, w, within_cons, within_nil,
      and_self, frO_next, frO_fault, frM_some, frM_none, frL_mk, frR_mk, frL_fold, frR_fold, fr_ite, frO_ite,
      frM_ite, frL_ite, frR_ite, ite_self, implies_true, fr_foldl, frL_foldl, frR_foldl, fr_guard, fr_raiseX,
      fr_at]))

theorem fr_execTokenSignalWrite {W s0} {s : State} (h : Fr W s0 s) (w : Within [.tokens, .globals, .hq, .msix] W)
    (x0 x1) : FrO W s0 (execTokenSignalWrite x0 x1 s) := by
  unfold execTokenSignalWrite
  simp only [within_cons, within_nil, and_true] at w
  simp +contextual (maxDischargeDepth := 40) only [h, w, within_cons, within_nil, and_self, frO_next, frO_fault,
      frM_some, frM_none, frL_mk, frR_mk, frL_fold, frR_fold, fr_ite, frO_ite, frM_ite, frL_ite, frR_ite, ite_self,
      implies_true, fr_foldl, frL_foldl, frR_foldl, fr_guard, fr_sig]

theorem fr_execTokenIrqDeferred {W s0} {s : State} (h : Fr W s0 s) (w : Within [.time, .hq, .msix] W) (x0) : FrO W
    s0 (execTokenIrqDeferred x0 s) := by
  unfold execTokenIrqDeferred
  simp only [within_cons, within_nil, and_true] at w
  simp +contextual (maxDischargeDepth := 40) only [h, w, within_cons, within_nil, and_self, frO_next, frO_fault,
      frM_some, frM_none, frL_mk, frR_mk, frL_fold, frR_fold, fr_ite, frO_ite, frM_ite, frL_ite, frR_ite, ite_self,
      implies_true, fr_foldl, frL_foldl, frR_foldl, fr_mk_hq, fr_guard, fr_at, fr_tirqMsi]

/-! ## Pots -/

theorem fr_spillInto {W s0} {s : State} (h : Fr W s0 s) (w : Within [.mem, .memBad, .memCorr, .memCe, .memUe] W)
    (x1 x2) : FrL W s0 (State.spillInto s x1 x2) := by
  unfold State.spillInto
  simp only [within_cons, within_nil, and_true] at w
  simp +contextual (maxDischargeDepth := 40) only [h, w, within_cons, within_nil, and_self, frO_next, frO_fault,
      frM_some, frM_none, frL_mk, frR_mk, frL_fold, frR_fold, fr_ite, frO_ite, frM_ite, frL_ite, frR_ite, ite_self,
      implies_true, fr_foldl, frL_foldl, frR_foldl, fr_wr]

theorem fr_potOvf {W s0} {s : State} (h : Fr W s0 s) (w : Within [.baskets, .evq] W) (x1 x2) : Fr W s0
    (State.potOvf s x1 x2) := by
  unfold State.potOvf
  simp only [within_cons, within_nil, and_true] at w
  all_goals repeat' (split <;> (try simp +contextual (maxDischargeDepth := 40) only [h, w, within_cons, within_nil,
      and_self, frO_next, frO_fault, frM_some, frM_none, frL_mk, frR_mk, frL_fold, frR_fold, fr_ite, frO_ite,
      frM_ite, frL_ite, frR_ite, ite_self, implies_true, fr_foldl, frL_foldl, frR_foldl, fr_modRec, fr_raiseS,
      fr_setBsk]))

theorem fr_potDone {W s0} {s : State} (h : Fr W s0 s) (w : Within [.baskets] W) (x1 x2 x3) : Fr W s0 (State.potDone
    s x1 x2 x3) := by
  unfold State.potDone
  simp only [within_cons, within_nil, and_true] at w
  simp +contextual (maxDischargeDepth := 40) only [h, w, within_cons, within_nil, and_self, frO_next, frO_fault,
      frM_some, frM_none, frL_mk, frR_mk, frL_fold, frR_fold, fr_ite, frO_ite, frM_ite, frL_ite, frR_ite, ite_self,
      implies_true, fr_foldl, frL_foldl, frR_foldl, fr_modRec]

theorem fr_potEccIn {W s0} {s : State} (h : Fr W s0 s) (w : Within [.baskets, .pots] W) (x1 x2 x3) : FrM W s0
    (State.potEccIn s x1 x2 x3) := by
  unfold State.potEccIn
  simp only [within_cons, within_nil, and_true] at w
  simp +contextual (maxDischargeDepth := 40) only [h, w, within_cons, within_nil, and_self, frO_next, frO_fault,
      frM_some, frM_none, frL_mk, frR_mk, frL_fold, frR_fold, fr_ite, frO_ite, frM_ite, frL_ite, frR_ite, ite_self,
      implies_true, fr_foldl, frL_foldl, frR_foldl, fr_setPot, fr_setBsk]

theorem fr_potEcc {W s0} {s : State} (h : Fr W s0 s) (w : Within [.baskets, .pots] W) (x1 x2) : FrM W s0
    (State.potEcc s x1 x2) := by
  unfold State.potEcc
  simp only [within_cons, within_nil, and_true] at w
  simp +contextual (maxDischargeDepth := 40) only [h, w, within_cons, within_nil, and_self, frO_next, frO_fault,
      frM_some, frM_none, frL_mk, frR_mk, frL_fold, frR_fold, fr_ite, frO_ite, frM_ite, frL_ite, frR_ite, ite_self,
      implies_true, fr_foldl, frL_foldl, frR_foldl, fr_potEccIn]

theorem fr_potEccAt {W s0} {s : State} (h : Fr W s0 s) (w : Within [.mem, .memBad, .memCorr, .memCe, .memUe,
    .streams, .waiting, .baskets, .pans, .pots, .fastQ, .dzf, .hq, .dev, .evq] W) (x1 x2 x3 x4) : Fr W s0
    (State.potEccAt s x1 x2 x3 x4) := by
  unfold State.potEccAt
  simp only [within_cons, within_nil, and_true] at w
  simp +contextual (maxDischargeDepth := 40) only [h, w, within_cons, within_nil, and_self, frO_next, frO_fault,
      frM_some, frM_none, frL_mk, frR_mk, frL_fold, frR_fold, fr_ite, frO_ite, frM_ite, frL_ite, frR_ite, ite_self,
      implies_true, fr_foldl, frL_foldl, frR_foldl, fr_raiseX, fr_setBsk]

theorem fr_potEccX {W s0} {s : State} (h : Fr W s0 s) (w : Within [.mem, .memBad, .memCorr, .memCe, .memUe,
    .streams, .waiting, .baskets, .pans, .pots, .fastQ, .dzf, .hq, .dev, .evq] W) (x1 x2 x3) : Fr W s0
    (State.potEccX s x1 x2 x3) := by
  unfold State.potEccX
  simp only [within_cons, within_nil, and_true] at w
  simp +contextual (maxDischargeDepth := 40) only [h, w, within_cons, within_nil, and_self, frO_next, frO_fault,
      frM_some, frM_none, frL_mk, frR_mk, frL_fold, frR_fold, fr_ite, frO_ite, frM_ite, frL_ite, frR_ite, ite_self,
      implies_true, fr_foldl, frL_foldl, frR_foldl, fr_potEccAt]

theorem fr_runPopen {W s0} {s : State} (h : Fr W s0 s) (w : Within [.baskets, .pots] W) (x1 x2 x3 x4 x5) : Fr W s0
    (State.runPopen s x1 x2 x3 x4 x5) := by
  unfold State.runPopen
  simp only [within_cons, within_nil, and_true] at w
  simp +contextual (maxDischargeDepth := 40) only [h, w, within_cons, within_nil, and_self, frO_next, frO_fault,
      frM_some, frM_none, frL_mk, frR_mk, frL_fold, frR_fold, fr_ite, frO_ite, frM_ite, frL_ite, frR_ite, ite_self,
      implies_true, fr_foldl, frL_foldl, frR_foldl, fr_potDone, fr_setPot]

theorem fr_spillPot {W s0} {s : State} (h : Fr W s0 s) (w : Within [.mem, .memBad, .memCorr, .memCe, .memUe,
    .streams, .waiting, .baskets, .pans, .pots, .fastQ, .dzf, .hq, .dev, .evq] W) (x1 x2 x3 x4 x5) : FrL W s0
    (State.spillPot s x1 x2 x3 x4 x5) := by
  have hk := h
  unfold State.spillPot
  simp only [within_cons, within_nil, and_true] at w
  try simp +contextual (maxDischargeDepth := 40) only [h, w, within_cons, within_nil, and_self, frO_next,
      frO_fault, frM_some, frM_none, frL_mk, frR_mk, frL_fold, frR_fold, fr_ite, frO_ite, frM_ite, frL_ite,
      frR_ite, ite_self, implies_true, fr_foldl, frL_foldl, frR_foldl, fr_potEcc, fr_potEccAt, fr_memX,
      fr_scrubRegions, fr_spillInto, fr_setPot]
  all_goals repeat' (split <;> (try (rename_i heq; first | have hk := frR_eq (W := W) (s0 := s0) (by simp +contextual (maxDischargeDepth := 40) only [hk, h, w, within_cons, within_nil, and_self, frO_next, frO_fault, frM_some, frM_none, frL_mk, frR_mk, frL_fold, frR_fold, fr_ite, frO_ite, frM_ite, frL_ite, frR_ite, ite_self, implies_true, fr_foldl, frL_foldl, frR_foldl, fr_potEcc, fr_potEccAt, fr_memX, fr_scrubRegions, fr_spillInto, fr_setPot]) heq | have hk := frL_eq (W := W) (s0 := s0) (by simp +contextual (maxDischargeDepth := 40) only [hk, h, w, within_cons, within_nil, and_self, frO_next, frO_fault, frM_some, frM_none, frL_mk, frR_mk, frL_fold, frR_fold, fr_ite, frO_ite, frM_ite, frL_ite, frR_ite, ite_self, implies_true, fr_foldl, frL_foldl, frR_foldl, fr_potEcc, fr_potEccAt, fr_memX, fr_scrubRegions, fr_spillInto, fr_setPot]) heq | have hk := frM_eq (W := W) (s0 := s0) (by simp +contextual (maxDischargeDepth := 40) only [hk, h, w, within_cons, within_nil, and_self, frO_next, frO_fault, frM_some, frM_none, frL_mk, frR_mk, frL_fold, frR_fold, fr_ite, frO_ite, frM_ite, frL_ite, frR_ite, ite_self, implies_true, fr_foldl, frL_foldl, frR_foldl, fr_potEcc, fr_potEccAt, fr_memX, fr_scrubRegions, fr_spillInto, fr_setPot]) heq)) <;> (try simp +contextual (maxDischargeDepth := 40) only [hk, h, w, within_cons, within_nil, and_self, frO_next, frO_fault, frM_some, frM_none, frL_mk, frR_mk, frL_fold, frR_fold, fr_ite, frO_ite, frM_ite, frL_ite, frR_ite, ite_self, implies_true, fr_foldl, frL_foldl, frR_foldl, fr_potEcc, fr_potEccAt, fr_memX, fr_scrubRegions, fr_spillInto, fr_setPot]))

theorem fr_runSpill {W s0} {s : State} (h : Fr W s0 s) (w : Within [.mem, .memBad, .memCorr, .memCe, .memUe,
    .streams, .waiting, .baskets, .pans, .pots, .fastQ, .dzf, .hq, .dev, .evq] W) (x1 x2 x3 x4) : Fr W s0
    (State.runSpill s x1 x2 x3 x4) := by
  have hk := h
  unfold State.runSpill
  simp only [within_cons, within_nil, and_true] at w
  try simp +contextual (maxDischargeDepth := 40) only [h, w, within_cons, within_nil, and_self, frO_next,
      frO_fault, frM_some, frM_none, frL_mk, frR_mk, frL_fold, frR_fold, fr_ite, frO_ite, frM_ite, frL_ite,
      frR_ite, ite_self, implies_true, fr_foldl, frL_foldl, frR_foldl, fr_spillPot, fr_potDone, fr_potOvf]
  all_goals repeat' (split <;> (try (rename_i heq; first | have hk := frR_eq (W := W) (s0 := s0) (by simp +contextual (maxDischargeDepth := 40) only [hk, h, w, within_cons, within_nil, and_self, frO_next, frO_fault, frM_some, frM_none, frL_mk, frR_mk, frL_fold, frR_fold, fr_ite, frO_ite, frM_ite, frL_ite, frR_ite, ite_self, implies_true, fr_foldl, frL_foldl, frR_foldl, fr_spillPot, fr_potDone, fr_potOvf]) heq | have hk := frL_eq (W := W) (s0 := s0) (by simp +contextual (maxDischargeDepth := 40) only [hk, h, w, within_cons, within_nil, and_self, frO_next, frO_fault, frM_some, frM_none, frL_mk, frR_mk, frL_fold, frR_fold, fr_ite, frO_ite, frM_ite, frL_ite, frR_ite, ite_self, implies_true, fr_foldl, frL_foldl, frR_foldl, fr_spillPot, fr_potDone, fr_potOvf]) heq | have hk := frM_eq (W := W) (s0 := s0) (by simp +contextual (maxDischargeDepth := 40) only [hk, h, w, within_cons, within_nil, and_self, frO_next, frO_fault, frM_some, frM_none, frL_mk, frR_mk, frL_fold, frR_fold, fr_ite, frO_ite, frM_ite, frL_ite, frR_ite, ite_self, implies_true, fr_foldl, frL_foldl, frR_foldl, fr_spillPot, fr_potDone, fr_potOvf]) heq)) <;> (try simp +contextual (maxDischargeDepth := 40) only [hk, h, w, within_cons, within_nil, and_self, frO_next, frO_fault, frM_some, frM_none, frL_mk, frR_mk, frL_fold, frR_fold, fr_ite, frO_ite, frM_ite, frL_ite, frR_ite, ite_self, implies_true, fr_foldl, frL_foldl, frR_foldl, fr_spillPot, fr_potDone, fr_potOvf]))

theorem fr_putStats {W s0} {s : State} (h : Fr W s0 s) (w : Within [.mem, .memBad, .memCorr, .memCe, .memUe] W) (x1
    x2 x3) : Fr W s0 (State.putStats s x1 x2 x3) := by
  unfold State.putStats
  simp only [within_cons, within_nil, and_true] at w
  simp +contextual (maxDischargeDepth := 40) only [h, w, within_cons, within_nil, and_self, frO_next, frO_fault,
      frM_some, frM_none, frL_mk, frR_mk, frL_fold, frR_fold, fr_ite, frO_ite, frM_ite, frL_ite, frR_ite, ite_self,
      implies_true, fr_foldl, frL_foldl, frR_foldl, fr_wr]

theorem fr_statsFold {α : Type} {W s0} {s : State} (h : Fr W s0 s) (w : Within [.mem, .memBad, .memCorr, .memCe, .memUe] W) (xs : List α) (f : α → List W32) (a : Nat) (b : Bool) :
    Fr W s0 (xs.foldl (fun (acc : State × Nat) c => (acc.1.putStats acc.2 b (f c), acc.2 + 16)) (s, a)).1 :=
  frL_foldl W s0 _ _ _ h fun _ _ hs => fr_putStats (w := within_mono w) hs _ _ _

theorem fr_endClose {W s0} {s : State} (h : Fr W s0 s) (w : Within [.mem, .memBad, .memCorr, .memCe, .memUe,
    .baskets, .pots] W) (x1 x2) : Fr W s0 (State.endClose s x1 x2) := by
  unfold State.endClose
  simp only [within_cons, within_nil, and_true] at w
  try simp +contextual (maxDischargeDepth := 40) only [h, w, within_cons, within_nil, and_self, frO_next,
      frO_fault, frM_some, frM_none, frL_mk, frR_mk, frL_fold, frR_fold, fr_ite, frO_ite, frM_ite, frL_ite,
      frR_ite, ite_self, implies_true, fr_foldl, frL_foldl, frR_foldl, fr_wr, fr_modRec, fr_setPot]
  all_goals repeat' (split <;> (try simp +contextual (maxDischargeDepth := 40) only [h, w, within_cons, within_nil,
      and_self, frO_next, frO_fault, frM_some, frM_none, frL_mk, frR_mk, frL_fold, frR_fold, fr_ite, frO_ite,
      frM_ite, frL_ite, frR_ite, ite_self, implies_true, fr_foldl, frL_foldl, frR_foldl, fr_wr, fr_modRec,
      fr_setPot]))

theorem fr_runPclose {W s0} {s : State} (h : Fr W s0 s) (w : Within [.mem, .memBad, .memCorr, .memCe, .memUe, .streams, .waiting, .baskets, .pans, .pots, .scales, .fastQ, .dzf, .hq, .dev, .evq, .tx] W) (x1 x2 x3 x4) : Fr W s0 (State.runPclose s x1 x2 x3 x4) := by
  unfold State.runPclose
  (try extract_lets)
  split
  · exact fr_potEccX (w := within_mono w) h _ _ _
  · rename_i heq
    have h1 := frM_eq (fr_potEcc (w := within_mono w) h _ _) heq
    (try extract_lets)
    split
    · refine fr_memX (w := within_mono w) ?_ _ _ _ _
      exact fr_scrubRegions (w := within_mono w) h1 _ _
    · (try extract_lets)
      split; rename_i s2 _ heq
      have h2 : Fr W s0 s2 := by
        split at heq
        · refine frL_eq (fr_spillInto (w := within_mono w) ?_ _ _) heq
          exact fr_scrubRegions (w := within_mono w) h1 _ _
        · cases heq
          exact fr_scrubRegions (w := within_mono w) h1 _ _
      extract_lets sa pa hl cols vs sb nf bs zp q sat sc sd se
      have h3 : Fr W s0 sa := fr_dite (fr_potOvf (w := within_mono w) h2 _ _) h2
      have h4 : Fr W s0 sb := fr_dite (fr_statsFold h3 (within_mono w) _ _ _ _) h3
      have h6 : Fr W s0 se := fr_modRec (w := within_mono w) (fr_whiskEvents (w := within_mono w) (fr_wrRows (w := within_mono w) h4 _ _ _) _ _ _ _ _ _) _ _ _
      clear_value se sd sc sb sa
      split
      · split
        · split; rename_i heq
          have h5 := frL_eq (fr_quantise (w := within_mono w) h4 _ _ _ _ _ _) heq
          extract_lets sx sd os sy sf
          have h6 : Fr W s0 sd := fr_dite (fr_wrRows (w := within_mono w) (fr_wrRows (w := within_mono w) h5 _ _ _) _ _ _) (fr_wrRows (w := within_mono w) h5 _ _ _)
          clear_value sd
          exact fr_endClose (w := within_mono w) (fr_setPot (w := within_mono w) (fr_modRec (w := within_mono w) (fr_whiskEvents (w := within_mono w) h6 _ _ _ _ _ _) _ _ _) _ _ _) _ _
        · exact fr_endClose (w := within_mono w) (fr_setPot (w := within_mono w) h6 _ _ _) _ _
      · (try extract_lets)
        exact fr_sendUnits (w := within_mono w) (fr_modRec (w := within_mono w) (fr_setPot (w := within_mono w) h4 _ _ _) _ _ _) _

theorem fr_runWait {W s0} {s : State} (h : Fr W s0 s) (w : Within [.mem, .memBad, .memCorr, .memCe, .memUe, .streams, .waiting, .baskets, .pans, .pots, .scales, .fastQ, .dzf, .hq, .dev, .evq, .tx] W) (x1 x2) : Fr W s0 (State.runWait s x1 x2) := by
  have w1 := w
  simp only [within_cons, within_nil, and_true] at w1
  unfold State.runWait
  simp only []
  split
  · exact h
  · split
    · exact fr_setPot (w := within_mono w) h _ _ _
    · split
      · split
        · exact fr_runPopen (w := within_mono w) (fr_setPot (w := within_mono w) h _ _ _) _ _ _ _ _
        · exact fr_runSpill (w := within_mono w) (fr_setPot (w := within_mono w) h _ _ _) _ _ _ _
        · exact fr_runPclose (w := within_mono w) (fr_setPot (w := within_mono w) h _ _ _) _ _ _ _
      · exact h

theorem fr_addWait {W s0} {s : State} (h : Fr W s0 s) (w : Within [.mem, .memBad, .memCorr, .memCe, .memUe,
    .streams, .waiting, .baskets, .pans, .pots, .scales, .fastQ, .dzf, .hq, .dev, .evq, .tx] W) (x1 x2 x3) : Fr W
    s0 (State.addWait s x1 x2 x3) := by
  unfold State.addWait
  simp only [within_cons, within_nil, and_true] at w
  simp +contextual (maxDischargeDepth := 40) only [h, w, within_cons, within_nil, and_self, frO_next, frO_fault,
      frM_some, frM_none, frL_mk, frR_mk, frL_fold, frR_fold, fr_ite, frO_ite, frM_ite, frL_ite, frR_ite, ite_self,
      implies_true, fr_foldl, frL_foldl, frR_foldl, fr_setPot, fr_runWait]

theorem fr_execPotWaitEnd {W s0} {s : State} (h : Fr W s0 s) (w : Within [.mem, .memBad, .memCorr, .memCe, .memUe,
    .streams, .waiting, .baskets, .pans, .pots, .scales, .fastQ, .dzf, .hq, .dev, .evq, .tx] W) (x0 x1) : FrO W s0
    (execPotWaitEnd x0 x1 s) := by
  unfold execPotWaitEnd
  simp only [within_cons, within_nil, and_true] at w
  simp +contextual (maxDischargeDepth := 40) only [h, w, within_cons, within_nil, and_self, frO_next, frO_fault,
      frM_some, frM_none, frL_mk, frR_mk, frL_fold, frR_fold, fr_ite, frO_ite, frM_ite, frL_ite, frR_ite, ite_self,
      implies_true, fr_foldl, frL_foldl, frR_foldl, fr_guard, fr_runWait]

theorem fr_launch {W s0} {s : State} (h : Fr W s0 s) (w : Within [.streams, .baskets, .nextUid] W) (x1 x2) : Fr W
    s0 (State.launch s x1 x2) := by
  unfold State.launch
  simp only [within_cons, within_nil, and_true] at w
  simp +contextual (maxDischargeDepth := 40) only [h, w, within_cons, within_nil, and_self, frO_next, frO_fault,
      frM_some, frM_none, frL_mk, frR_mk, frL_fold, frR_fold, fr_ite, frO_ite, frM_ite, frL_ite, frR_ite, ite_self,
      implies_true, fr_foldl, frL_foldl, frR_foldl, fr_enter, fr_goTo]

theorem fr_effPopen {W s0} {s : State} (h : Fr W s0 s) (w : Within [.mem, .memBad, .memCorr, .memCe, .memUe,
    .streams, .waiting, .baskets, .pans, .pots, .scales, .nextUid, .fastQ, .dzf, .hq, .dev, .evq, .tx] W) (x1 x2) :
    Fr W s0 (effPopen s x1 x2) := by
  unfold effPopen
  simp only [within_cons, within_nil, and_true] at w
  simp +contextual (maxDischargeDepth := 40) only [h, w, within_cons, within_nil, and_self, frO_next, frO_fault,
      frM_some, frM_none, frL_mk, frR_mk, frL_fold, frR_fold, fr_ite, frO_ite, frM_ite, frL_ite, frR_ite, ite_self,
      implies_true, fr_foldl, frL_foldl, frR_foldl, fr_launch, fr_setPot, fr_addWait]

theorem fr_execPopen {W s0} {s : State} (h : Fr W s0 s) (w : Within [.mem, .memBad, .memCorr, .memCe, .memUe,
    .streams, .waiting, .baskets, .pans, .pots, .scales, .tokens, .globals, .nextUid, .fastQ, .dzf, .hq, .dev,
    .evq, .tx, .msix] W) (x0) : FrO W s0 (execPopen x0 s) := by
  unfold execPopen
  simp only [within_cons, within_nil, and_true] at w
  simp +contextual (maxDischargeDepth := 40) only [h, w, within_cons, within_nil, and_self, frO_next, frO_fault,
      frM_some, frM_none, frL_mk, frR_mk, frL_fold, frR_fold, fr_ite, frO_ite, frM_ite, frL_ite, frR_ite, ite_self,
      implies_true, fr_foldl, frL_foldl, frR_foldl, fr_runStep, fr_effPopen]

theorem fr_effSpill {W s0} {s : State} (h : Fr W s0 s) (w : Within [.mem, .memBad, .memCorr, .memCe, .memUe,
    .streams, .waiting, .baskets, .pans, .pots, .scales, .nextUid, .fastQ, .dzf, .hq, .dev, .evq, .tx] W) (x1 x2) :
    Fr W s0 (effSpill s x1 x2) := by
  unfold effSpill
  simp only [within_cons, within_nil, and_true] at w
  simp +contextual (maxDischargeDepth := 40) only [h, w, within_cons, within_nil, and_self, frO_next, frO_fault,
      frM_some, frM_none, frL_mk, frR_mk, frL_fold, frR_fold, fr_ite, frO_ite, frM_ite, frL_ite, frR_ite, ite_self,
      implies_true, fr_foldl, frL_foldl, frR_foldl, fr_launch, fr_setPot, fr_addWait]

theorem fr_execSpill {W s0} {s : State} (h : Fr W s0 s) (w : Within [.mem, .memBad, .memCorr, .memCe, .memUe,
    .streams, .waiting, .baskets, .pans, .pots, .scales, .tokens, .globals, .nextUid, .fastQ, .dzf, .hq, .dev,
    .evq, .tx, .msix] W) (x0) : FrO W s0 (execSpill x0 s) := by
  unfold execSpill
  simp only [within_cons, within_nil, and_true] at w
  simp +contextual (maxDischargeDepth := 40) only [h, w, within_cons, within_nil, and_self, frO_next, frO_fault,
      frM_some, frM_none, frL_mk, frR_mk, frL_fold, frR_fold, fr_ite, frO_ite, frM_ite, frL_ite, frR_ite, ite_self,
      implies_true, fr_foldl, frL_foldl, frR_foldl, fr_runStep, fr_effSpill]

theorem fr_effResume {W s0} {s : State} (h : Fr W s0 s) (w : Within [.streams, .baskets, .pots, .nextUid] W) (x1
    x2) : Fr W s0 (effResume s x1 x2) := by
  unfold effResume
  simp only [within_cons, within_nil, and_true] at w
  simp +contextual (maxDischargeDepth := 40) only [h, w, within_cons, within_nil, and_self, frO_next, frO_fault,
      frM_some, frM_none, frL_mk, frR_mk, frL_fold, frR_fold, fr_ite, frO_ite, frM_ite, frL_ite, frR_ite, ite_self,
      implies_true, fr_foldl, frL_foldl, frR_foldl, fr_launch, fr_setPot]

theorem fr_execResume {W s0} {s : State} (h : Fr W s0 s) (w : Within [.mem, .memBad, .memCorr, .memCe, .memUe,
    .streams, .waiting, .baskets, .pans, .pots, .tokens, .globals, .nextUid, .fastQ, .dzf, .hq, .dev, .evq, .msix]
    W) (x0) : FrO W s0 (execResume x0 s) := by
  unfold execResume
  simp only [within_cons, within_nil, and_true] at w
  simp +contextual (maxDischargeDepth := 40) only [h, w, within_cons, within_nil, and_self, frO_next, frO_fault,
      frM_some, frM_none, frL_mk, frR_mk, frL_fold, frR_fold, fr_ite, frO_ite, frM_ite, frL_ite, frR_ite, ite_self,
      implies_true, fr_foldl, frL_foldl, frR_foldl, fr_runStep, fr_effResume]

theorem fr_retryClose {W s0} {s : State} (h : Fr W s0 s) (w : Within [.mem, .memBad, .memCorr, .memCe, .memUe,
    .streams, .waiting, .baskets, .pans, .pots, .nextUid, .fastQ, .dzf, .hq, .dev, .evq, .tx] W) (x1 x2 x3) : Fr W
    s0 (State.retryClose s x1 x2 x3) := by
  have hk := h
  unfold State.retryClose
  simp only [within_cons, within_nil, and_true] at w
  try simp +contextual (maxDischargeDepth := 40) only [h, w, within_cons, within_nil, and_self, frO_next,
      frO_fault, frM_some, frM_none, frL_mk, frR_mk, frL_fold, frR_fold, fr_ite, frO_ite, frM_ite, frL_ite,
      frR_ite, ite_self, implies_true, fr_foldl, frL_foldl, frR_foldl, fr_launch, fr_potEcc, fr_potEccX,
      fr_endClose, fr_modRec, fr_setPot, fr_sendUnits]
  all_goals repeat' (split <;> (try (rename_i heq; first | have hk := frR_eq (W := W) (s0 := s0) (by simp +contextual (maxDischargeDepth := 40) only [hk, h, w, within_cons, within_nil, and_self, frO_next, frO_fault, frM_some, frM_none, frL_mk, frR_mk, frL_fold, frR_fold, fr_ite, frO_ite, frM_ite, frL_ite, frR_ite, ite_self, implies_true, fr_foldl, frL_foldl, frR_foldl, fr_launch, fr_potEcc, fr_potEccX, fr_endClose, fr_modRec, fr_setPot, fr_sendUnits]) heq | have hk := frL_eq (W := W) (s0 := s0) (by simp +contextual (maxDischargeDepth := 40) only [hk, h, w, within_cons, within_nil, and_self, frO_next, frO_fault, frM_some, frM_none, frL_mk, frR_mk, frL_fold, frR_fold, fr_ite, frO_ite, frM_ite, frL_ite, frR_ite, ite_self, implies_true, fr_foldl, frL_foldl, frR_foldl, fr_launch, fr_potEcc, fr_potEccX, fr_endClose, fr_modRec, fr_setPot, fr_sendUnits]) heq | have hk := frM_eq (W := W) (s0 := s0) (by simp +contextual (maxDischargeDepth := 40) only [hk, h, w, within_cons, within_nil, and_self, frO_next, frO_fault, frM_some, frM_none, frL_mk, frR_mk, frL_fold, frR_fold, fr_ite, frO_ite, frM_ite, frL_ite, frR_ite, ite_self, implies_true, fr_foldl, frL_foldl, frR_foldl, fr_launch, fr_potEcc, fr_potEccX, fr_endClose, fr_modRec, fr_setPot, fr_sendUnits]) heq)) <;> (try simp +contextual (maxDischargeDepth := 40) only [hk, h, w, within_cons, within_nil, and_self, frO_next, frO_fault, frM_some, frM_none, frL_mk, frR_mk, frL_fold, frR_fold, fr_ite, frO_ite, frM_ite, frL_ite, frR_ite, ite_self, implies_true, fr_foldl, frL_foldl, frR_foldl, fr_launch, fr_potEcc, fr_potEccX, fr_endClose, fr_modRec, fr_setPot, fr_sendUnits]))

theorem fr_effPclose {W s0} {s : State} (h : Fr W s0 s) (w : Within [.mem, .memBad, .memCorr, .memCe, .memUe,
    .streams, .waiting, .baskets, .pans, .pots, .scales, .nextUid, .fastQ, .dzf, .hq, .dev, .evq, .tx] W) (x1 x2) :
    Fr W s0 (effPclose s x1 x2) := by
  unfold effPclose
  simp only [within_cons, within_nil, and_true] at w
  simp +contextual (maxDischargeDepth := 40) only [h, w, within_cons, within_nil, and_self, frO_next, frO_fault,
      frM_some, frM_none, frL_mk, frR_mk, frL_fold, frR_fold, fr_ite, frO_ite, frM_ite, frL_ite, frR_ite, ite_self,
      implies_true, fr_foldl, frL_foldl, frR_foldl, fr_retryClose, fr_takeTags, fr_launch, fr_setPot, fr_addWait]

theorem fr_execPclose {W s0} {s : State} (h : Fr W s0 s) (w : Within [.mem, .memBad, .memCorr, .memCe, .memUe,
    .streams, .waiting, .baskets, .pans, .pots, .scales, .tokens, .globals, .nextUid, .fastQ, .dzf, .hq, .dev,
    .evq, .tx, .msix] W) (x0) : FrO W s0 (execPclose x0 s) := by
  unfold execPclose
  simp only [within_cons, within_nil, and_true] at w
  simp +contextual (maxDischargeDepth := 40) only [h, w, within_cons, within_nil, and_self, frO_next, frO_fault,
      frM_some, frM_none, frL_mk, frR_mk, frL_fold, frR_fold, fr_ite, frO_ite, frM_ite, frL_ite, frR_ite, ite_self,
      implies_true, fr_foldl, frL_foldl, frR_foldl, fr_runStep, fr_effPclose]

end Sys2Proof.Machine
end

