-- ==== Sys2Proof/Laws/FramePans.lean ====
section
/-! SUPPORT. What every operation leaves as it was, field by field of State:
the Pans, replays, vector and memory steps. -/

namespace Sys2Proof.Machine

set_option linter.unusedSimpArgs false
set_option linter.unusedTactic false
set_option linter.unusedVariables false
set_option linter.unreachableTactic false

/-! ## Pan service -/

theorem fr_condition {W s0} {s : State} (h : Fr W s0 s) (w : Within [.trv, .msix, .mgmt] W) (x1 x2 x3) : Fr W s0
    (State.condition s x1 x2 x3) := by
  unfold State.condition
  simp only [within_cons, within_nil, and_true] at w
  simp +contextual (maxDischargeDepth := 40) only [h, w, within_cons, within_nil, and_self, frO_next, frO_fault,
      frM_some, frM_none, frL_mk, frR_mk, frL_fold, frR_fold, fr_ite, frO_ite, frM_ite, frL_ite, frR_ite, ite_self,
      implies_true, fr_foldl, frL_foldl, frR_foldl, fr_send, fr_notice]

theorem fr_tellSpares {W s0} {s : State} (h : Fr W s0 s) (w : Within [.baskets, .trv, .msix, .mgmt] W) (x1) : Fr W
    s0 (State.tellSpares s x1) := by
  unfold State.tellSpares
  simp only [within_cons, within_nil, and_true] at w
  simp +contextual (maxDischargeDepth := 40) only [h, w, within_cons, within_nil, and_self, frO_next, frO_fault,
      frM_some, frM_none, frL_mk, frR_mk, frL_fold, frR_fold, fr_ite, frO_ite, frM_ite, frL_ite, frR_ite, ite_self,
      implies_true, fr_foldl, frL_foldl, frR_foldl, fr_condition, fr_setBsk]

theorem fr_remargin {W s0} {s : State} (h : Fr W s0 s) (w : Within [.pans] W) (x1) : Fr W s0 (State.remargin s x1) := by
  unfold State.remargin
  simp only [within_cons, within_nil, and_true] at w
  simp +contextual (maxDischargeDepth := 40) only [h, w, within_cons, within_nil, and_self, frO_next, frO_fault,
      frM_some, frM_none, frL_mk, frR_mk, frL_fold, frR_fold, fr_ite, frO_ite, frM_ite, frL_ite, frR_ite, ite_self,
      implies_true, fr_foldl, frL_foldl, frR_foldl, fr_setPan]

theorem fr_toSuspect {W s0} {s : State} (h : Fr W s0 s) (w : Within [.pans, .evq] W) (x1 x2) : Fr W s0
    (State.toSuspect s x1 x2) := by
  unfold State.toSuspect
  simp only [within_cons, within_nil, and_true] at w
  simp +contextual (maxDischargeDepth := 40) only [h, w, within_cons, within_nil, and_self, frO_next, frO_fault,
      frM_some, frM_none, frL_mk, frR_mk, frL_fold, frR_fold, fr_ite, frO_ite, frM_ite, frL_ite, frR_ite, ite_self,
      implies_true, fr_foldl, frL_foldl, frR_foldl, fr_setPan, fr_raise]

theorem fr_notApplied {W s0} {s : State} (h : Fr W s0 s) (w : Within [.baskets, .pans] W) (x1) : Fr W s0
    (State.notApplied s x1) := by
  unfold State.notApplied
  simp only [within_cons, within_nil, and_true] at w
  simp +contextual (maxDischargeDepth := 40) only [h, w, within_cons, within_nil, and_self, frO_next, frO_fault,
      frM_some, frM_none, frL_mk, frR_mk, frL_fold, frR_fold, fr_ite, frO_ite, frM_ite, frL_ite, frR_ite, ite_self,
      implies_true, fr_foldl, frL_foldl, frR_foldl, fr_setPan, fr_modRec]

theorem fr_passSlot {W s0} {s : State} (h : Fr W s0 s) (w : Within [.pans] W) (x1 x2 x3) : Fr W s0 (State.passSlot
    s x1 x2 x3) := by
  unfold State.passSlot
  simp only [within_cons, within_nil, and_true] at w
  simp +contextual (maxDischargeDepth := 40) only [h, w, within_cons, within_nil, and_self, frO_next, frO_fault,
      frM_some, frM_none, frL_mk, frR_mk, frL_fold, frR_fold, fr_ite, frO_ite, frM_ite, frL_ite, frR_ite, ite_self,
      implies_true, fr_foldl, frL_foldl, frR_foldl, fr_setPan]

theorem fr_toCalibrating {W s0} {s : State} (h : Fr W s0 s) (w : Within [.baskets, .pans, .trv, .msix, .mgmt] W)
    (x1 x2 x3) : Fr W s0 (State.toCalibrating s x1 x2 x3) := by
  unfold State.toCalibrating
  simp only [within_cons, within_nil, and_true] at w
  all_goals repeat' (split <;> (try simp +contextual (maxDischargeDepth := 40) only [h, w, within_cons, within_nil,
      and_self, frO_next, frO_fault, frM_some, frM_none, frL_mk, frR_mk, frL_fold, frR_fold, fr_ite, frO_ite,
      frM_ite, frL_ite, frR_ite, ite_self, implies_true, fr_foldl, frL_foldl, frR_foldl, fr_passSlot, fr_setPan,
      fr_tellSpares, fr_notApplied]))

theorem fr_calTimeout {W s0} {s : State} (h : Fr W s0 s) (w : Within [.evq] W) (x1 x2 x3 x4) : Fr W s0
    (State.calTimeout s x1 x2 x3 x4) := by
  unfold State.calTimeout
  simp only [within_cons, within_nil, and_true] at w
  simp +contextual (maxDischargeDepth := 40) only [h, w, within_cons, within_nil, and_self, frO_next, frO_fault,
      frM_some, frM_none, frL_mk, frR_mk, frL_fold, frR_fold, fr_ite, frO_ite, frM_ite, frL_ite, frR_ite, ite_self,
      implies_true, fr_foldl, frL_foldl, frR_foldl, fr_raise]

theorem fr_abandonSweep {W s0} {s : State} (h : Fr W s0 s) (w : Within [.baskets, .pans, .cal, .trv, .evq, .msix,
    .mgmt] W) : Fr W s0 (State.abandonSweep s) := by
  unfold State.abandonSweep
  simp only [within_cons, within_nil, and_true] at w
  all_goals repeat' (split <;> (try simp +contextual (maxDischargeDepth := 40) only [h, w, within_cons, within_nil,
      and_self, frO_next, frO_fault, frM_some, frM_none, frL_mk, frR_mk, frL_fold, frR_fold, fr_ite, frO_ite,
      frM_ite, frL_ite, frR_ite, ite_self, implies_true, fr_foldl, frL_foldl, frR_foldl, fr_mk_cal, fr_calTimeout,
      fr_setPan, fr_tellSpares]))

theorem fr_abandonIn {W s0} {s : State} (h : Fr W s0 s) (w : Within [.baskets, .pans, .cal, .trv, .evq, .msix,
    .mgmt] W) (x1) : Fr W s0 (State.abandonIn s x1) := by
  unfold State.abandonIn
  simp only [within_cons, within_nil, and_true] at w
  all_goals repeat' (split <;> (try simp +contextual (maxDischargeDepth := 40) only [h, w, within_cons, within_nil,
      and_self, frO_next, frO_fault, frM_some, frM_none, frL_mk, frR_mk, frL_fold, frR_fold, fr_ite, frO_ite,
      frM_ite, frL_ite, frR_ite, ite_self, implies_true, fr_foldl, frL_foldl, frR_foldl, fr_abandonSweep]))

theorem fr_ladderSpare {W s0} {s : State} (h : Fr W s0 s) (w : Within [.time, .baskets, .pans, .cal, .trv, .evq,
    .msix, .mgmt] W) (x1) : FrR W s0 (State.ladderSpare s x1) := by
  unfold State.ladderSpare
  simp only [within_cons, within_nil, and_true] at w
  all_goals repeat' (split <;> (try simp +contextual (maxDischargeDepth := 40) only [h, w, within_cons, within_nil,
      and_self, frO_next, frO_fault, frM_some, frM_none, frL_mk, frR_mk, frL_fold, frR_fold, fr_ite, frO_ite,
      frM_ite, frL_ite, frR_ite, ite_self, implies_true, fr_foldl, frL_foldl, frR_foldl, fr_at, fr_abandonSweep]))

theorem fr_testTurn {W s0} {s : State} (h : Fr W s0 s) (w : Within [.baskets] W) : Fr W s0 (State.testTurn s) := by
  unfold State.testTurn
  simp only [within_cons, within_nil, and_true] at w
  all_goals repeat' (split <;> (try simp +contextual (maxDischargeDepth := 40) only [h, w, within_cons, within_nil,
      and_self, frO_next, frO_fault, frM_some, frM_none, frL_mk, frR_mk, frL_fold, frR_fold, fr_ite, frO_ite,
      frM_ite, frL_ite, frR_ite, ite_self, implies_true, fr_foldl, frL_foldl, frR_foldl, fr_setBsk]))

theorem fr_retireBasket {W s0} {s : State} (h : Fr W s0 s) (w : Within [.mem, .memBad, .memCorr, .memCe, .memUe,
    .streams, .waiting, .baskets, .pans, .pots, .fastQ, .cal, .dzf, .hq, .trv, .dev, .evq, .msix, .mgmt] W) (x1 x2)
    : Fr W s0 (State.retireBasket s x1 x2) := by
  unfold State.retireBasket
  simp only [within_cons, within_nil, and_true] at w
  simp +contextual (maxDischargeDepth := 40) only [h, w, within_cons, within_nil, and_self, frO_next, frO_fault,
      frM_some, frM_none, frL_mk, frR_mk, frL_fold, frR_fold, fr_ite, frO_ite, frM_ite, frL_ite, frR_ite, ite_self,
      implies_true, fr_foldl, frL_foldl, frR_foldl, fr_abandonIn, fr_evict, fr_setBsk, fr_bbrPut, fr_testTurn,
      fr_raise]

theorem fr_retirePan {W s0} {s : State} (h : Fr W s0 s) (w : Within [.mem, .memBad, .memCorr, .memCe, .memUe,
    .streams, .waiting, .baskets, .pans, .pots, .fastQ, .cal, .dzf, .hq, .trv, .dev, .evq, .msix, .mgmt] W) (x1 x2)
    : Fr W s0 (State.retirePan s x1 x2) := by
  unfold State.retirePan
  simp only [within_cons, within_nil, and_true] at w
  all_goals repeat' (split <;> (try simp +contextual (maxDischargeDepth := 40) only [h, w, within_cons, within_nil,
      and_self, frO_next, frO_fault, frM_some, frM_none, frL_mk, frR_mk, frL_fold, frR_fold, fr_ite, frO_ite,
      frM_ite, frL_ite, frR_ite, ite_self, implies_true, fr_foldl, frL_foldl, frR_foldl, fr_passSlot, fr_setPan,
      fr_bbrPut, fr_raise, fr_tellSpares, fr_notApplied, fr_retireBasket]))

/-! ## Pans and the Pan steps -/

theorem fr_settleMvm {W s0} {s : State} (h : Fr W s0 s) (w : Within [.baskets, .pans, .fastQ] W) (x1 x2) : Fr W s0
    (State.settleMvm s x1 x2) := by
  unfold State.settleMvm
  simp only [within_cons, within_nil, and_true] at w
  all_goals repeat' (split <;> (try simp +contextual (maxDischargeDepth := 40) only [h, w, within_cons, within_nil,
      and_self, frO_next, frO_fault, frM_some, frM_none, frL_mk, frR_mk, frL_fold, frR_fold, fr_ite, frO_ite,
      frM_ite, frL_ite, frR_ite, ite_self, implies_true, fr_foldl, frL_foldl, frR_foldl, fr_mk_fastQ, fr_setBsk,
      fr_setPan]))

theorem fr_loadX {W s0} {s : State} (h : Fr W s0 s) (w : Within [.mem, .memBad, .memCorr, .memCe, .memUe, .streams,
    .waiting, .baskets, .pans, .pots, .fastQ, .dzf, .hq, .dev, .evq] W) (x1 x2) : Fr W s0 (State.loadX s x1 x2) := by
  unfold State.loadX
  simp only [within_cons, within_nil, and_true] at w
  all_goals repeat' (split <;> (try simp +contextual (maxDischargeDepth := 40) only [h, w, within_cons, within_nil,
      and_self, frO_next, frO_fault, frM_some, frM_none, frL_mk, frR_mk, frL_fold, frR_fold, fr_ite, frO_ite,
      frM_ite, frL_ite, frR_ite, ite_self, implies_true, fr_foldl, frL_foldl, frR_foldl, fr_memX, fr_raise]))

theorem fr_fetchTile {W s0} {s : State} (h : Fr W s0 s) (w : Within [.pans, .dzf, .evq, .tx] W) (x1 x2 x3) : FrL W
    s0 (State.fetchTile s x1 x2 x3) := by
  unfold State.fetchTile
  simp only [within_cons, within_nil, and_true] at w
  simp +contextual (maxDischargeDepth := 40) only [h, w, within_cons, within_nil, and_self, frO_next, frO_fault,
      frM_some, frM_none, frL_mk, frR_mk, frL_fold, frR_fold, fr_ite, frO_ite, frM_ite, frL_ite, frR_ite, ite_self,
      implies_true, fr_foldl, frL_foldl, frR_foldl, fr_mk_dzf, fr_setPan, fr_takeTags, fr_sendUnits]

theorem fr_loadTile {W s0} {s : State} (h : Fr W s0 s) (w : Within [.mem, .memBad, .memCorr, .memCe, .memUe,
    .streams, .waiting, .baskets, .pans, .pots, .fastQ, .dzf, .hq, .dev, .evq, .tx] W) (x1 x2 x3 x4 x5) : FrL W s0
    (State.loadTile s x1 x2 x3 x4 x5) := by
  unfold State.loadTile
  simp only [within_cons, within_nil, and_true] at w
  all_goals repeat' (split <;> (try simp +contextual (maxDischargeDepth := 40) only [h, w, within_cons, within_nil,
      and_self, frO_next, frO_fault, frM_some, frM_none, frL_mk, frR_mk, frL_fold, frR_fold, fr_ite, frO_ite,
      frM_ite, frL_ite, frR_ite, ite_self, implies_true, fr_foldl, frL_foldl, frR_foldl, fr_loadX, fr_scrubRegions,
      fr_hostX, fr_raise, fr_fetchTile, fr_setPan, fr_setBsk]))

theorem fr_popWrite {W s0} {s : State} (h : Fr W s0 s) (w : Within [.pans] W) (x1) : Fr W s0 (State.popWrite s x1) := by
  unfold State.popWrite
  simp only [within_cons, within_nil, and_true] at w
  simp +contextual (maxDischargeDepth := 40) only [h, w, within_cons, within_nil, and_self, frO_next, frO_fault,
      frM_some, frM_none, frL_mk, frR_mk, frL_fold, frR_fold, fr_ite, frO_ite, frM_ite, frL_ite, frR_ite, ite_self,
      implies_true, fr_foldl, frL_foldl, frR_foldl, fr_setPan]

theorem fr_copyError {W s0} {s : State} (h : Fr W s0 s) (w : Within [.pans, .evq] W) (x1 x2) : Fr W s0
    (State.copyError s x1 x2) := by
  unfold State.copyError
  simp only [within_cons, within_nil, and_true] at w
  simp +contextual (maxDischargeDepth := 40) only [h, w, within_cons, within_nil, and_self, frO_next, frO_fault,
      frM_some, frM_none, frL_mk, frR_mk, frL_fold, frR_fold, fr_ite, frO_ite, frM_ite, frL_ite, frR_ite, ite_self,
      implies_true, fr_foldl, frL_foldl, frR_foldl, fr_raise, fr_setPan]

theorem fr_wrefBank {W s0} {s : State} (h : Fr W s0 s) (w : Within [.pans, .evq] W) (x1 x2 x3) : FrL W s0
    (State.wrefBank s x1 x2 x3) := by
  unfold State.wrefBank
  simp only [within_cons, within_nil, and_true] at w
  simp +contextual (maxDischargeDepth := 40) only [h, w, within_cons, within_nil, and_self, frO_next, frO_fault,
      frM_some, frM_none, frL_mk, frR_mk, frL_fold, frR_fold, fr_ite, frO_ite, frM_ite, frL_ite, frR_ite, ite_self,
      implies_true, fr_foldl, frL_foldl, frR_foldl, fr_copyError, fr_setPan]

theorem fr_writeNext {W s0} {s : State} (h : Fr W s0 s) (w : Within [.mem, .memBad, .memCorr, .memCe, .memUe,
    .streams, .waiting, .baskets, .pans, .pots, .fastQ, .dzf, .hq, .dev, .evq, .tx] W) (x1) : Fr W s0
    (State.writeNext s x1) := by
  unfold State.writeNext
  simp only [within_cons, within_nil, and_true] at w
  all_goals repeat' (split <;> (try simp +contextual (maxDischargeDepth := 40) only [h, w, within_cons, within_nil,
      and_self, frO_next, frO_fault, frM_some, frM_none, frL_mk, frR_mk, frL_fold, frR_fold, fr_ite, frO_ite,
      frM_ite, frL_ite, frR_ite, ite_self, implies_true, fr_foldl, frL_foldl, frR_foldl, fr_loadTile, fr_modRec,
      fr_popWrite, fr_wrefBank]))

theorem fr_execTileLoad {W s0} {s : State} (h : Fr W s0 s) (w : Within [.mem, .memBad, .memCorr, .memCe, .memUe,
    .streams, .waiting, .baskets, .pans, .pots, .fastQ, .dzf, .hq, .dev, .evq, .tx] W) (x0) : FrO W s0
    (execTileLoad x0 s) := by
  unfold execTileLoad
  simp only [within_cons, within_nil, and_true] at w
  simp +contextual (maxDischargeDepth := 40) only [h, w, within_cons, within_nil, and_self, frO_next, frO_fault,
      frM_some, frM_none, frL_mk, frR_mk, frL_fold, frR_fold, fr_ite, frO_ite, frM_ite, frL_ite, frR_ite, ite_self,
      implies_true, fr_foldl, frL_foldl, frR_foldl, fr_guard, fr_writeNext]

theorem fr_bankStall {W s0} {s : State} (h : Fr W s0 s) (w : Within [.freeCtr, .baskets, .pans] W) (x1) : Fr W s0
    (State.bankStall s x1) := by
  unfold State.bankStall
  simp only [within_cons, within_nil, and_true] at w
  simp +contextual (maxDischargeDepth := 40) only [h, w, within_cons, within_nil, and_self, frO_next, frO_fault,
      frM_some, frM_none, frL_mk, frR_mk, frL_fold, frR_fold, fr_ite, frO_ite, frM_ite, frL_ite, frR_ite, ite_self,
      implies_true, fr_foldl, frL_foldl, frR_foldl, fr_setPan, fr_fresh, fr_setBsk]

theorem fr_bankWait {W s0} {s : State} (h : Fr W s0 s) (w : Within [.freeCtr, .baskets, .pans] W) (x1) : Fr W s0
    (State.bankWait s x1) := by
  unfold State.bankWait
  simp only [within_cons, within_nil, and_true] at w
  simp +contextual (maxDischargeDepth := 40) only [h, w, within_cons, within_nil, and_self, frO_next, frO_fault,
      frM_some, frM_none, frL_mk, frR_mk, frL_fold, frR_fold, fr_ite, frO_ite, frM_ite, frL_ite, frR_ite, ite_self,
      implies_true, fr_foldl, frL_foldl, frR_foldl, fr_bankStall, fr_setPan]

theorem fr_swapNext {W s0} {s : State} (h : Fr W s0 s) (w : Within [.freeCtr, .baskets, .pans] W) (x1) : Fr W s0
    (State.swapNext s x1) := by
  unfold State.swapNext
  simp only [within_cons, within_nil, and_true] at w
  try simp +contextual (maxDischargeDepth := 40) only [h, w, within_cons, within_nil, and_self, frO_next,
      frO_fault, frM_some, frM_none, frL_mk, frR_mk, frL_fold, frR_fold, fr_ite, frO_ite, frM_ite, frL_ite,
      frR_ite, ite_self, implies_true, fr_foldl, frL_foldl, frR_foldl, fr_bankWait, fr_modRec, fr_setPan,
      fr_bankStall]
  all_goals repeat' (split <;> (try simp +contextual (maxDischargeDepth := 40) only [h, w, within_cons, within_nil,
      and_self, frO_next, frO_fault, frM_some, frM_none, frL_mk, frR_mk, frL_fold, frR_fold, fr_ite, frO_ite,
      frM_ite, frL_ite, frR_ite, ite_self, implies_true, fr_foldl, frL_foldl, frR_foldl, fr_bankWait, fr_modRec,
      fr_setPan, fr_bankStall]))

theorem fr_execBankSwap {W s0} {s : State} (h : Fr W s0 s) (w : Within [.freeCtr, .baskets, .pans] W) (x0) : FrO W
    s0 (execBankSwap x0 s) := by
  unfold execBankSwap
  simp only [within_cons, within_nil, and_true] at w
  simp +contextual (maxDischargeDepth := 40) only [h, w, within_cons, within_nil, and_self, frO_next, frO_fault,
      frM_some, frM_none, frL_mk, frR_mk, frL_fold, frR_fold, fr_ite, frO_ite, frM_ite, frL_ite, frR_ite, ite_self,
      implies_true, fr_foldl, frL_foldl, frR_foldl, fr_guard, fr_swapNext]

theorem fr_refresh {W s0} {s : State} (h : Fr W s0 s) (w : Within [.time, .pans, .evq] W) (x1 x2 x3) : Fr W s0
    (State.refresh s x1 x2 x3) := by
  unfold State.refresh
  simp only [within_cons, within_nil, and_true] at w
  simp +contextual (maxDischargeDepth := 40) only [h, w, within_cons, within_nil, and_self, frO_next, frO_fault,
      frM_some, frM_none, frL_mk, frR_mk, frL_fold, frR_fold, fr_ite, frO_ite, frM_ite, frL_ite, frR_ite, ite_self,
      implies_true, fr_foldl, frL_foldl, frR_foldl, fr_at, fr_copyError, fr_setPan, fr_raise]

theorem fr_execBankRefresh {W s0} {s : State} (h : Fr W s0 s) (w : Within [.time, .pans, .evq] W) (x0 x1 x2) : FrO
    W s0 (execBankRefresh x0 x1 x2 s) := by
  unfold execBankRefresh
  simp only [within_cons, within_nil, and_true] at w
  simp +contextual (maxDischargeDepth := 40) only [h, w, within_cons, within_nil, and_self, frO_next, frO_fault,
      frM_some, frM_none, frL_mk, frR_mk, frL_fold, frR_fold, fr_ite, frO_ite, frM_ite, frL_ite, frR_ite, ite_self,
      implies_true, fr_foldl, frL_foldl, frR_foldl, fr_guard, fr_refresh]

theorem fr_panStep {W s0} {s : State} (h : Fr W s0 s) (w : Within [.streams, .baskets, .pans, .nextUid] W) (x1 x2
    x3 x4 x5) (hf5 : ∀ y0 y1, Fr W s0 y0 → Fr W s0 (x5 y0 y1)) : Fr W s0 (State.panStep s x1 x2 x3 x4 x5) := by
  unfold State.panStep
  simp only [within_cons, within_nil, and_true] at w
  simp +contextual (maxDischargeDepth := 40) only [h, w, hf5, within_cons, within_nil, and_self, frO_next,
      frO_fault, frM_some, frM_none, frL_mk, frR_mk, frL_fold, frR_fold, fr_ite, frO_ite, frM_ite, frL_ite,
      frR_ite, ite_self, implies_true, fr_foldl, frL_foldl, frR_foldl, fr_setPan, fr_launch]

theorem fr_effWld {W s0} {s : State} (h : Fr W s0 s) (w : Within [.mem, .memBad, .memCorr, .memCe, .memUe,
    .streams, .waiting, .baskets, .pans, .pots, .nextUid, .fastQ, .dzf, .hq, .dev, .evq, .tx] W) (x1 x2) : Fr W s0
    (effWld s x1 x2) := by
  unfold effWld
  simp only [within_cons, within_nil, and_true] at w
  simp +contextual (maxDischargeDepth := 40) only [h, w, within_cons, within_nil, and_self, frO_next, frO_fault,
      frM_some, frM_none, frL_mk, frR_mk, frL_fold, frR_fold, fr_ite, frO_ite, frM_ite, frL_ite, frR_ite, ite_self,
      implies_true, fr_foldl, frL_foldl, frR_foldl, fr_panStep, fr_writeNext]

theorem fr_execWld {W s0} {s : State} (h : Fr W s0 s) (w : Within [.mem, .memBad, .memCorr, .memCe, .memUe,
    .streams, .waiting, .baskets, .pans, .pots, .tokens, .globals, .nextUid, .fastQ, .dzf, .hq, .dev, .evq, .tx,
    .msix] W) (x0) : FrO W s0 (execWld x0 s) := by
  unfold execWld
  simp only [within_cons, within_nil, and_true] at w
  simp +contextual (maxDischargeDepth := 40) only [h, w, within_cons, within_nil, and_self, frO_next, frO_fault,
      frM_some, frM_none, frL_mk, frR_mk, frL_fold, frR_fold, fr_ite, frO_ite, frM_ite, frL_ite, frR_ite, ite_self,
      implies_true, fr_foldl, frL_foldl, frR_foldl, fr_runStep, fr_effWld]

theorem fr_effWsw {W s0} {s : State} (h : Fr W s0 s) (w : Within [.freeCtr, .streams, .baskets, .pans, .nextUid] W)
    (x1 x2) : Fr W s0 (effWsw s x1 x2) := by
  unfold effWsw
  simp only [within_cons, within_nil, and_true] at w
  simp +contextual (maxDischargeDepth := 40) only [h, w, within_cons, within_nil, and_self, frO_next, frO_fault,
      frM_some, frM_none, frL_mk, frR_mk, frL_fold, frR_fold, fr_ite, frO_ite, frM_ite, frL_ite, frR_ite, ite_self,
      implies_true, fr_foldl, frL_foldl, frR_foldl, fr_panStep, fr_swapNext]

theorem fr_execWsw {W s0} {s : State} (h : Fr W s0 s) (w : Within [.freeCtr, .mem, .memBad, .memCorr, .memCe,
    .memUe, .streams, .waiting, .baskets, .pans, .pots, .tokens, .globals, .nextUid, .fastQ, .dzf, .hq, .dev, .evq,
    .msix] W) (x0) : FrO W s0 (execWsw x0 s) := by
  unfold execWsw
  simp only [within_cons, within_nil, and_true] at w
  simp +contextual (maxDischargeDepth := 40) only [h, w, within_cons, within_nil, and_self, frO_next, frO_fault,
      frM_some, frM_none, frL_mk, frR_mk, frL_fold, frR_fold, fr_ite, frO_ite, frM_ite, frL_ite, frR_ite, ite_self,
      implies_true, fr_foldl, frL_foldl, frR_foldl, fr_runStep, fr_effWsw]

theorem fr_effWref {W s0} {s : State} (h : Fr W s0 s) (w : Within [.mem, .memBad, .memCorr, .memCe, .memUe,
    .streams, .waiting, .baskets, .pans, .pots, .nextUid, .fastQ, .dzf, .hq, .dev, .evq, .tx] W) (x1 x2) : Fr W s0
    (effWref s x1 x2) := by
  unfold effWref
  simp only [within_cons, within_nil, and_true] at w
  simp +contextual (maxDischargeDepth := 40) only [h, w, within_cons, within_nil, and_self, frO_next, frO_fault,
      frM_some, frM_none, frL_mk, frR_mk, frL_fold, frR_fold, fr_ite, frO_ite, frM_ite, frL_ite, frR_ite, ite_self,
      implies_true, fr_foldl, frL_foldl, frR_foldl, fr_panStep, fr_writeNext]

theorem fr_execWref {W s0} {s : State} (h : Fr W s0 s) (w : Within [.mem, .memBad, .memCorr, .memCe, .memUe,
    .streams, .waiting, .baskets, .pans, .pots, .tokens, .globals, .nextUid, .fastQ, .dzf, .hq, .dev, .evq, .tx,
    .msix] W) (x0) : FrO W s0 (execWref x0 s) := by
  unfold execWref
  simp only [within_cons, within_nil, and_true] at w
  simp +contextual (maxDischargeDepth := 40) only [h, w, within_cons, within_nil, and_self, frO_next, frO_fault,
      frM_some, frM_none, frL_mk, frR_mk, frL_fold, frR_fold, fr_ite, frO_ite, frM_ite, frL_ite, frR_ite, ite_self,
      implies_true, fr_foldl, frL_foldl, frR_foldl, fr_runStep, fr_effWref]

theorem fr_mvmIssue {W s0} {s : State} (h : Fr W s0 s) (w : Within [.streams, .baskets, .pans, .pots, .nextUid, .evq] W) (x1 x2 x3) : Fr W s0 (State.mvmIssue s x1 x2 x3) := by
  have w1 := w
  simp only [within_cons, within_nil, and_true] at w1
  unfold State.mvmIssue
  refine fr_foldl W s0 _ _ _ ?_ ?_
  · simp +contextual (maxDischargeDepth := 40) only [within_cons, within_nil, w1, and_self, h, fr_setBsk, fr_foldl,
      fr_setPot, implies_true, fr_ite, fr_whiskEvents, fr_launch, ite_self]
  · intro s i hs
    (try extract_lets)
    split
    · exact fr_setPan (w := within_mono w) hs _ _
    · exact hs

theorem fr_execMvm {W s0} {s : State} (h : Fr W s0 s) (w : Within [.mem, .memBad, .memCorr, .memCe, .memUe,
    .streams, .waiting, .baskets, .pans, .pots, .tokens, .globals, .nextUid, .fastQ, .dzf, .hq, .dev, .evq, .msix]
    W) (x0) : FrO W s0 (execMvm x0 s) := by
  unfold execMvm
  simp only [within_cons, within_nil, and_true] at w
  simp +contextual (maxDischargeDepth := 40) only [h, w, within_cons, within_nil, and_self, frO_next, frO_fault,
      frM_some, frM_none, frL_mk, frR_mk, frL_fold, frR_fold, fr_ite, frO_ite, frM_ite, frL_ite, frR_ite, ite_self,
      implies_true, fr_foldl, frL_foldl, frR_foldl, fr_runStep, fr_mvmIssue]

theorem fr_execMvmw {W s0} {s : State} (h : Fr W s0 s) (w : Within [.mem, .memBad, .memCorr, .memCe, .memUe,
    .streams, .waiting, .baskets, .pans, .pots, .tokens, .globals, .nextUid, .fastQ, .dzf, .hq, .dev, .evq, .msix]
    W) (x0) : FrO W s0 (execMvmw x0 s) := by
  unfold execMvmw
  simp only [within_cons, within_nil, and_true] at w
  simp +contextual (maxDischargeDepth := 40) only [h, w, within_cons, within_nil, and_self, frO_next, frO_fault,
      frM_some, frM_none, frL_mk, frR_mk, frL_fold, frR_fold, fr_ite, frO_ite, frM_ite, frL_ite, frR_ite, ite_self,
      implies_true, fr_foldl, frL_foldl, frR_foldl, fr_runStep, fr_mvmIssue]

theorem fr_runOn {W s0} {s : State} (h : Fr W s0 s) (w : Within [.freeCtr, .pans] W) (x1 x2 x3 x4) : FrL W s0
    (State.runOn s x1 x2 x3 x4) := by
  unfold State.runOn
  simp only [within_cons, within_nil, and_true] at w
  simp +contextual (maxDischargeDepth := 40) only [h, w, within_cons, within_nil, and_self, frO_next, frO_fault,
      frM_some, frM_none, frL_mk, frR_mk, frL_fold, frR_fold, fr_ite, frO_ite, frM_ite, frL_ite, frR_ite, ite_self,
      implies_true, fr_foldl, frL_foldl, frR_foldl, fr_mk_freeCtr, fr_setPan]

theorem fr_modWin {W s0} {s : State} (h : Fr W s0 s) (w : Within [.pans] W) (x1 x2 x3) : Fr W s0 (State.modWin s x1
    x2 x3) := by
  unfold State.modWin
  simp only [within_cons, within_nil, and_true] at w
  simp +contextual (maxDischargeDepth := 40) only [h, w, within_cons, within_nil, and_self, frO_next, frO_fault,
      frM_some, frM_none, frL_mk, frR_mk, frL_fold, frR_fold, fr_ite, frO_ite, frM_ite, frL_ite, frR_ite, ite_self,
      implies_true, fr_foldl, frL_foldl, frR_foldl, fr_setPan]

theorem fr_addSums {W s0} {s : State} (h : Fr W s0 s) (w : Within [.pans] W) (x1) : Fr W s0 (State.addSums s x1) := by
  unfold State.addSums
  simp only [within_cons, within_nil, and_true] at w
  simp +contextual (maxDischargeDepth := 40) only [h, w, within_cons, within_nil, and_self, frO_next, frO_fault,
      frM_some, frM_none, frL_mk, frR_mk, frL_fold, frR_fold, fr_ite, frO_ite, frM_ite, frL_ite, frR_ite, ite_self,
      implies_true, fr_foldl, frL_foldl, frR_foldl, fr_setPan]

theorem fr_commit {W s0} {s : State} (h : Fr W s0 s) (w : Within [.baskets, .pans, .evq] W) (x1 x2) : Fr W s0
    (State.commit s x1 x2) := by
  unfold State.commit
  simp only [within_cons, within_nil, and_true] at w
  all_goals repeat' (split <;> (try simp +contextual (maxDischargeDepth := 40) only [h, w, within_cons, within_nil,
      and_self, frO_next, frO_fault, frM_some, frM_none, frL_mk, frR_mk, frL_fold, frR_fold, fr_ite, frO_ite,
      frM_ite, frL_ite, frR_ite, ite_self, implies_true, fr_foldl, frL_foldl, frR_foldl, fr_addSums, fr_setBsk,
      fr_modWin, fr_raiseS, fr_modRec, fr_setPan]))

theorem fr_draw {W s0} {s : State} (h : Fr W s0 s) (w : Within [.baskets, .pans, .feu] W) (x1 x2) : FrL W s0
    (State.draw s x1 x2) := by
  unfold State.draw
  simp only [within_cons, within_nil, and_true] at w
  try simp +contextual (maxDischargeDepth := 40) only [h, w, within_cons, within_nil, and_self, frO_next,
      frO_fault, frM_some, frM_none, frL_mk, frR_mk, frL_fold, frR_fold, fr_ite, frO_ite, frM_ite, frL_ite,
      frR_ite, ite_self, implies_true, fr_foldl, frL_foldl, frR_foldl, fr_mk_feu, fr_setBsk, fr_setPan]
  all_goals repeat' (split <;> (try simp +contextual (maxDischargeDepth := 40) only [h, w, within_cons, within_nil,
      and_self, frO_next, frO_fault, frM_some, frM_none, frL_mk, frR_mk, frL_fold, frR_fold, fr_ite, frO_ite,
      frM_ite, frL_ite, frR_ite, ite_self, implies_true, fr_foldl, frL_foldl, frR_foldl, fr_mk_feu, fr_setBsk,
      fr_setPan]))

theorem fr_grantFast {W s0} {s : State} (h : Fr W s0 s) (w : Within [.baskets, .fastQ] W) (x1 x2) : FrL W s0
    (State.grantFast s x1 x2) := by
  unfold State.grantFast
  simp only [within_cons, within_nil, and_true] at w
  simp +contextual (maxDischargeDepth := 40) only [h, w, within_cons, within_nil, and_self, frO_next, frO_fault,
      frM_some, frM_none, frL_mk, frR_mk, frL_fold, frR_fold, fr_ite, frO_ite, frM_ite, frL_ite, frR_ite, ite_self,
      implies_true, fr_foldl, frL_foldl, frR_foldl, fr_mk_fastQ, fr_setBsk]

theorem fr_holdPan {W s0} {s : State} (h : Fr W s0 s) (w : Within [.pans] W) (x1 x2) : Fr W s0 (State.holdPan s x1
    x2) := by
  unfold State.holdPan
  simp only [within_cons, within_nil, and_true] at w
  simp +contextual (maxDischargeDepth := 40) only [h, w, within_cons, within_nil, and_self, frO_next, frO_fault,
      frM_some, frM_none, frL_mk, frR_mk, frL_fold, frR_fold, fr_ite, frO_ite, frM_ite, frL_ite, frR_ite, ite_self,
      implies_true, fr_foldl, frL_foldl, frR_foldl, fr_setPan]

theorem fr_blockEnd {W s0} {s : State} (h : Fr W s0 s) (w : Within [.freeCtr, .mem, .memBad, .memCorr, .memCe, .memUe, .streams, .waiting, .baskets, .pans, .pots, .fastQ, .feu, .dzf, .hq, .dev, .evq] W) (x1 x2 x3 x4 x5 x6) : Fr W s0 (State.blockEnd s x1 x2 x3 x4 x5 x6) := by
  unfold State.blockEnd
  (try extract_lets)
  split
  · exact fr_memX (w := within_mono w) (fr_scrubRegions (w := within_mono w) h _ _) _ _ _ _
  · exact h
  · split
    · exact fr_holdPan (w := within_mono w) h _ _
    · split
      · exact fr_holdPan (w := within_mono w) (fr_fresh (w := within_mono w) (fr_setBsk (w := within_mono w) h _ _)) _ _
      · split
        · exact fr_holdPan (w := within_mono w) h _ _
        · (try extract_lets)
          split; rename_i heq
          have h1 := frL_eq (fr_grantFast (w := within_mono w) (fr_scrubRegions (w := within_mono w) h _ _) _ _) heq
          (try extract_lets)
          split
          (try extract_lets)
          split
          (try extract_lets)
          split
          (try extract_lets)
          split; rename_i heq
          have h2 := frL_eq (fr_draw (w := within_mono w) (fr_dite (fr_modWin (w := within_mono w) (fr_setPan (w := within_mono w) (fr_setBsk (w := within_mono w) h1 _ _) _ _) _ _ _) (fr_setPan (w := within_mono w) (fr_setBsk (w := within_mono w) h1 _ _) _ _)) _ _) heq
          split; rename_i heq
          have h3 := fr_setPan (w := within_mono w) (frL_eq (fr_runOn (w := within_mono w) h2 _ _ _ _) heq)
          (try extract_lets)
          split
          · split
            · exact fr_setPan (w := within_mono w) (h3 _ _) _ _
            · exact fr_setPan (w := within_mono w) (fr_commit (w := within_mono w) (h3 _ _) _ _) _ _
          · exact fr_setPan (w := within_mono w) (h3 _ _) _ _

theorem fr_groupBlock {W s0} {s : State} (h : Fr W s0 s) (w : Within [.freeCtr, .mem, .memBad, .memCorr, .memCe,
    .memUe, .streams, .waiting, .baskets, .pans, .pots, .fastQ, .feu, .dzf, .hq, .dev, .evq] W) (x1 x2) : Fr W s0
    (State.groupBlock s x1 x2) := by
  unfold State.groupBlock
  simp only [within_cons, within_nil, and_true] at w
  try simp +contextual (maxDischargeDepth := 40) only [h, w, within_cons, within_nil, and_self, frO_next,
      frO_fault, frM_some, frM_none, frL_mk, frR_mk, frL_fold, frR_fold, fr_ite, frO_ite, frM_ite, frL_ite,
      frR_ite, ite_self, implies_true, fr_foldl, frL_foldl, frR_foldl, fr_settleMvm, fr_blockEnd]
  all_goals repeat' (split <;> (try simp +contextual (maxDischargeDepth := 40) only [h, w, within_cons, within_nil,
      and_self, frO_next, frO_fault, frM_some, frM_none, frL_mk, frR_mk, frL_fold, frR_fold, fr_ite, frO_ite,
      frM_ite, frL_ite, frR_ite, ite_self, implies_true, fr_foldl, frL_foldl, frR_foldl, fr_settleMvm,
      fr_blockEnd]))

theorem fr_execGroupBlockEnd {W s0} {s : State} (h : Fr W s0 s) (w : Within [.freeCtr, .mem, .memBad, .memCorr,
    .memCe, .memUe, .streams, .waiting, .baskets, .pans, .pots, .fastQ, .feu, .dzf, .hq, .dev, .evq] W) (x0 x1) :
    FrO W s0 (execGroupBlockEnd x0 x1 s) := by
  unfold execGroupBlockEnd
  simp only [within_cons, within_nil, and_true] at w
  simp +contextual (maxDischargeDepth := 40) only [h, w, within_cons, within_nil, and_self, frO_next, frO_fault,
      frM_some, frM_none, frL_mk, frR_mk, frL_fold, frR_fold, fr_ite, frO_ite, frM_ite, frL_ite, frR_ite, ite_self,
      implies_true, fr_foldl, frL_foldl, frR_foldl, fr_guard, fr_groupBlock]

theorem fr_windowParity {W s0} {s : State} (h : Fr W s0 s) (w : Within [.mem, .memBad, .memCorr, .memCe, .memUe,
    .streams, .waiting, .baskets, .pans, .pots, .fastQ, .dzf, .hq, .dev, .evq] W) (x1 x2 x3 x4 x5) : Fr W s0
    (State.windowParity s x1 x2 x3 x4 x5) := by
  unfold State.windowParity
  simp only [within_cons, within_nil, and_true] at w
  simp +contextual (maxDischargeDepth := 40) only [h, w, within_cons, within_nil, and_self, frO_next, frO_fault,
      frM_some, frM_none, frL_mk, frR_mk, frL_fold, frR_fold, fr_ite, frO_ite, frM_ite, frL_ite, frR_ite, ite_self,
      implies_true, fr_foldl, frL_foldl, frR_foldl, fr_raiseS, fr_modWin, fr_setPan, fr_raiseX]

theorem fr_promote {W s0} {s : State} (h : Fr W s0 s) (w : Within [.mem, .memBad, .memCorr, .memCe, .memUe,
    .streams, .waiting, .baskets, .pans, .pots, .fastQ, .dzf, .hq, .dev, .evq] W) (x1 x2 x3 x4 x5 x6) : Fr W s0
    (State.promote s x1 x2 x3 x4 x5 x6) := by
  have hk := h
  unfold State.promote
  simp only [within_cons, within_nil, and_true] at w
  try simp +contextual (maxDischargeDepth := 40) only [h, w, within_cons, within_nil, and_self, frO_next,
      frO_fault, frM_some, frM_none, frL_mk, frR_mk, frL_fold, frR_fold, fr_ite, frO_ite, frM_ite, frL_ite,
      frR_ite, ite_self, implies_true, fr_foldl, frL_foldl, frR_foldl, fr_potEccIn, fr_potEccX, fr_setPot,
      fr_potOvf, fr_setPan, fr_modWin, fr_settleMvm]
  all_goals repeat' (split <;> (try (rename_i heq; first | have hk := frR_eq (W := W) (s0 := s0) (by simp +contextual (maxDischargeDepth := 40) only [hk, h, w, within_cons, within_nil, and_self, frO_next, frO_fault, frM_some, frM_none, frL_mk, frR_mk, frL_fold, frR_fold, fr_ite, frO_ite, frM_ite, frL_ite, frR_ite, ite_self, implies_true, fr_foldl, frL_foldl, frR_foldl, fr_potEccIn, fr_potEccX, fr_setPot, fr_potOvf, fr_setPan, fr_modWin, fr_settleMvm]) heq | have hk := frL_eq (W := W) (s0 := s0) (by simp +contextual (maxDischargeDepth := 40) only [hk, h, w, within_cons, within_nil, and_self, frO_next, frO_fault, frM_some, frM_none, frL_mk, frR_mk, frL_fold, frR_fold, fr_ite, frO_ite, frM_ite, frL_ite, frR_ite, ite_self, implies_true, fr_foldl, frL_foldl, frR_foldl, fr_potEccIn, fr_potEccX, fr_setPot, fr_potOvf, fr_setPan, fr_modWin, fr_settleMvm]) heq | have hk := frM_eq (W := W) (s0 := s0) (by simp +contextual (maxDischargeDepth := 40) only [hk, h, w, within_cons, within_nil, and_self, frO_next, frO_fault, frM_some, frM_none, frL_mk, frR_mk, frL_fold, frR_fold, fr_ite, frO_ite, frM_ite, frL_ite, frR_ite, ite_self, implies_true, fr_foldl, frL_foldl, frR_foldl, fr_potEccIn, fr_potEccX, fr_setPot, fr_potOvf, fr_setPan, fr_modWin, fr_settleMvm]) heq)) <;> (try simp +contextual (maxDischargeDepth := 40) only [hk, h, w, within_cons, within_nil, and_self, frO_next, frO_fault, frM_some, frM_none, frL_mk, frR_mk, frL_fold, frR_fold, fr_ite, frO_ite, frM_ite, frL_ite, frR_ite, ite_self, implies_true, fr_foldl, frL_foldl, frR_foldl, fr_potEccIn, fr_potEccX, fr_setPot, fr_potOvf, fr_setPan, fr_modWin, fr_settleMvm]))

theorem fr_execPromotion {W s0} {s : State} (h : Fr W s0 s) (w : Within [.mem, .memBad, .memCorr, .memCe, .memUe,
    .streams, .waiting, .baskets, .pans, .pots, .fastQ, .dzf, .hq, .dev, .evq] W) (x0 x1 x2 x3) : FrO W s0
    (execPromotion x0 x1 x2 x3 s) := by
  unfold execPromotion
  simp only [within_cons, within_nil, and_true] at w
  all_goals repeat' (split <;> (try simp +contextual (maxDischargeDepth := 40) only [h, w, within_cons, within_nil,
      and_self, frO_next, frO_fault, frM_some, frM_none, frL_mk, frR_mk, frL_fold, frR_fold, fr_ite, frO_ite,
      frM_ite, frL_ite, frR_ite, ite_self, implies_true, fr_foldl, frL_foldl, frR_foldl, fr_guard, fr_windowParity,
      fr_promote]))

theorem fr_panClear {W s0} {s : State} (h : Fr W s0 s) (w : Within [.pans] W) (x1) : Fr W s0 (State.panClear s x1) := by
  unfold State.panClear
  simp only [within_cons, within_nil, and_true] at w
  simp +contextual (maxDischargeDepth := 40) only [h, w, within_cons, within_nil, and_self, frO_next, frO_fault,
      frM_some, frM_none, frL_mk, frR_mk, frL_fold, frR_fold, fr_ite, frO_ite, frM_ite, frL_ite, frR_ite, ite_self,
      implies_true, fr_foldl, frL_foldl, frR_foldl, fr_setPan]

theorem fr_execPanCntClr {W s0} {s : State} (h : Fr W s0 s) (w : Within [.pans] W) (x0) : FrO W s0 (execPanCntClr
    x0 s) := by
  unfold execPanCntClr
  simp only [within_cons, within_nil, and_true] at w
  simp +contextual (maxDischargeDepth := 40) only [h, w, within_cons, within_nil, and_self, frO_next, frO_fault,
      frM_some, frM_none, frL_mk, frR_mk, frL_fold, frR_fold, fr_ite, frO_ite, frM_ite, frL_ite, frR_ite, ite_self,
      implies_true, fr_foldl, frL_foldl, frR_foldl, fr_guard, fr_panClear]

/-! ## Replays -/

theorem fr_chk {W s0} {s : State} (h : Fr W s0 s) (w : Within [.evq] W) (x1 x2 x3 x4) : Fr W s0 (State.chk s x1 x2
    x3 x4) := by
  unfold State.chk
  simp only [within_cons, within_nil, and_true] at w
  all_goals repeat' (split <;> (try simp +contextual (maxDischargeDepth := 40) only [h, w, within_cons, within_nil,
      and_self, frO_next, frO_fault, frM_some, frM_none, frL_mk, frR_mk, frL_fold, frR_fold, fr_ite, frO_ite,
      frM_ite, frL_ite, frR_ite, ite_self, implies_true, fr_foldl, frL_foldl, frR_foldl, fr_raiseS]))

theorem fr_chkX {W s0} {s : State} (h : Fr W s0 s) (w : Within [.mem, .memBad, .memCorr, .memCe, .memUe, .streams,
    .waiting, .baskets, .pans, .pots, .fastQ, .dzf, .hq, .dev, .evq] W) (x1 x2 x3) : Fr W s0 (State.chkX s x1 x2
    x3) := by
  unfold State.chkX
  simp only [within_cons, within_nil, and_true] at w
  all_goals repeat' (split <;> (try simp +contextual (maxDischargeDepth := 40) only [h, w, within_cons, within_nil,
      and_self, frO_next, frO_fault, frM_some, frM_none, frL_mk, frR_mk, frL_fold, frR_fold, fr_ite, frO_ite,
      frM_ite, frL_ite, frR_ite, ite_self, implies_true, fr_foldl, frL_foldl, frR_foldl, fr_raiseX]))

theorem fr_dropLadder {W s0} {s : State} (h : Fr W s0 s) (w : Within [.pans] W) (x1 x2) : Fr W s0 (State.dropLadder
    s x1 x2) := by
  unfold State.dropLadder
  simp only [within_cons, within_nil, and_true] at w
  simp +contextual (maxDischargeDepth := 40) only [h, w, within_cons, within_nil, and_self, frO_next, frO_fault,
      frM_some, frM_none, frL_mk, frR_mk, frL_fold, frR_fold, fr_ite, frO_ite, frM_ite, frL_ite, frR_ite, ite_self,
      implies_true, fr_foldl, frL_foldl, frR_foldl, fr_setPan]

theorem fr_replayed {W s0} {s : State} (h : Fr W s0 s) (w : Within [.baskets] W) (x1 x2) : Fr W s0 (State.replayed
    s x1 x2) := by
  unfold State.replayed
  simp only [within_cons, within_nil, and_true] at w
  simp +contextual (maxDischargeDepth := 40) only [h, w, within_cons, within_nil, and_self, frO_next, frO_fault,
      frM_some, frM_none, frL_mk, frR_mk, frL_fold, frR_fold, fr_ite, frO_ite, frM_ite, frL_ite, frR_ite, ite_self,
      implies_true, fr_foldl, frL_foldl, frR_foldl, fr_modRec]

theorem fr_cntSame {W s0} {s : State} (h : Fr W s0 s) (w : Within [.feu] W) : Fr W s0 (State.cntSame s) := by
  unfold State.cntSame
  simp only [within_cons, within_nil, and_true] at w
  simp +contextual (maxDischargeDepth := 40) only [h, w, within_cons, within_nil, and_self, frO_next, frO_fault,
      frM_some, frM_none, frL_mk, frR_mk, frL_fold, frR_fold, fr_ite, frO_ite, frM_ite, frL_ite, frR_ite, ite_self,
      implies_true, fr_foldl, frL_foldl, frR_foldl, fr_mk_feu]

theorem fr_cntSpare {W s0} {s : State} (h : Fr W s0 s) (w : Within [.feu] W) : Fr W s0 (State.cntSpare s) := by
  unfold State.cntSpare
  simp only [within_cons, within_nil, and_true] at w
  simp +contextual (maxDischargeDepth := 40) only [h, w, within_cons, within_nil, and_self, frO_next, frO_fault,
      frM_some, frM_none, frL_mk, frR_mk, frL_fold, frR_fold, fr_ite, frO_ite, frM_ite, frL_ite, frR_ite, ite_self,
      implies_true, fr_foldl, frL_foldl, frR_foldl, fr_mk_feu]

theorem fr_replayBank {W s0} {s : State} (h : Fr W s0 s) (w : Within [.mem, .memBad, .memCorr, .memCe, .memUe,
    .streams, .waiting, .baskets, .pans, .pots, .fastQ, .dzf, .hq, .dev, .evq, .tx] W) (x1 x2 x3) : FrL W s0
    (State.replayBank s x1 x2 x3) := by
  unfold State.replayBank
  simp only [within_cons, within_nil, and_true] at w
  simp +contextual (maxDischargeDepth := 40) only [h, w, within_cons, within_nil, and_self, frO_next, frO_fault,
      frM_some, frM_none, frL_mk, frR_mk, frL_fold, frR_fold, fr_ite, frO_ite, frM_ite, frL_ite, frR_ite, ite_self,
      implies_true, fr_foldl, frL_foldl, frR_foldl, fr_loadTile, fr_setPan]

theorem fr_spareBank {W s0} {s : State} (h : Fr W s0 s) (w : Within [.mem, .memBad, .memCorr, .memCe, .memUe,
    .streams, .waiting, .baskets, .pans, .pots, .fastQ, .dzf, .hq, .dev, .evq, .tx] W) (x1 x2 x3) : FrL W s0
    (State.spareBank s x1 x2 x3) := by
  unfold State.spareBank
  simp only [within_cons, within_nil, and_true] at w
  simp +contextual (maxDischargeDepth := 40) only [h, w, within_cons, within_nil, and_self, frO_next, frO_fault,
      frM_some, frM_none, frL_mk, frR_mk, frL_fold, frR_fold, fr_ite, frO_ite, frM_ite, frL_ite, frR_ite, ite_self,
      implies_true, fr_foldl, frL_foldl, frR_foldl, fr_loadTile]

theorem fr_replaySame {W s0} {s : State} (h : Fr W s0 s) (w : Within [.freeCtr, .mem, .memBad, .memCorr, .memCe,
    .memUe, .streams, .waiting, .baskets, .pans, .pots, .fastQ, .feu, .dzf, .hq, .dev, .evq, .tx] W) (x1 x2) : Fr W
    s0 (State.replaySame s x1 x2) := by
  have hk := h
  unfold State.replaySame
  simp only [within_cons, within_nil, and_true] at w
  try simp +contextual (maxDischargeDepth := 40) only [h, w, within_cons, within_nil, and_self, frO_next,
      frO_fault, frM_some, frM_none, frL_mk, frR_mk, frL_fold, frR_fold, fr_ite, frO_ite, frM_ite, frL_ite,
      frR_ite, ite_self, implies_true, fr_foldl, frL_foldl, frR_foldl, fr_chkX, fr_cntSame, fr_replayBank,
      fr_runOn, fr_replayed, fr_commit, fr_dropLadder, fr_chk, fr_settleMvm, fr_setPan]
  all_goals repeat' (split <;> (try (rename_i heq; first | have hk := frR_eq (W := W) (s0 := s0) (by simp +contextual (maxDischargeDepth := 40) only [hk, h, w, within_cons, within_nil, and_self, frO_next, frO_fault, frM_some, frM_none, frL_mk, frR_mk, frL_fold, frR_fold, fr_ite, frO_ite, frM_ite, frL_ite, frR_ite, ite_self, implies_true, fr_foldl, frL_foldl, frR_foldl, fr_chkX, fr_cntSame, fr_replayBank, fr_runOn, fr_replayed, fr_commit, fr_dropLadder, fr_chk, fr_settleMvm, fr_setPan]) heq | have hk := frL_eq (W := W) (s0 := s0) (by simp +contextual (maxDischargeDepth := 40) only [hk, h, w, within_cons, within_nil, and_self, frO_next, frO_fault, frM_some, frM_none, frL_mk, frR_mk, frL_fold, frR_fold, fr_ite, frO_ite, frM_ite, frL_ite, frR_ite, ite_self, implies_true, fr_foldl, frL_foldl, frR_foldl, fr_chkX, fr_cntSame, fr_replayBank, fr_runOn, fr_replayed, fr_commit, fr_dropLadder, fr_chk, fr_settleMvm, fr_setPan]) heq | have hk := frM_eq (W := W) (s0 := s0) (by simp +contextual (maxDischargeDepth := 40) only [hk, h, w, within_cons, within_nil, and_self, frO_next, frO_fault, frM_some, frM_none, frL_mk, frR_mk, frL_fold, frR_fold, fr_ite, frO_ite, frM_ite, frL_ite, frR_ite, ite_self, implies_true, fr_foldl, frL_foldl, frR_foldl, fr_chkX, fr_cntSame, fr_replayBank, fr_runOn, fr_replayed, fr_commit, fr_dropLadder, fr_chk, fr_settleMvm, fr_setPan]) heq)) <;> (try simp +contextual (maxDischargeDepth := 40) only [hk, h, w, within_cons, within_nil, and_self, frO_next, frO_fault, frM_some, frM_none, frL_mk, frR_mk, frL_fold, frR_fold, fr_ite, frO_ite, frM_ite, frL_ite, frR_ite, ite_self, implies_true, fr_foldl, frL_foldl, frR_foldl, fr_chkX, fr_cntSame, fr_replayBank, fr_runOn, fr_replayed, fr_commit, fr_dropLadder, fr_chk, fr_settleMvm, fr_setPan]))

theorem fr_execReplaySamePan {W s0} {s : State} (h : Fr W s0 s) (w : Within [.freeCtr, .mem, .memBad, .memCorr,
    .memCe, .memUe, .streams, .waiting, .baskets, .pans, .pots, .fastQ, .feu, .dzf, .hq, .dev, .evq, .tx] W) (x0
    x1) : FrO W s0 (execReplaySamePan x0 x1 s) := by
  unfold execReplaySamePan
  simp only [within_cons, within_nil, and_true] at w
  simp +contextual (maxDischargeDepth := 40) only [h, w, within_cons, within_nil, and_self, frO_next, frO_fault,
      frM_some, frM_none, frL_mk, frR_mk, frL_fold, frR_fold, fr_ite, frO_ite, frM_ite, frL_ite, frR_ite, ite_self,
      implies_true, fr_foldl, frL_foldl, frR_foldl, fr_guard, fr_replaySame]

theorem fr_rung3 {W s0} {s : State} (h : Fr W s0 s) (w : Within [.mem, .memBad, .memCorr, .memCe, .memUe, .streams,
    .waiting, .baskets, .pans, .pots, .fastQ, .dzf, .hq, .dev, .evq] W) (x1 x2 x3 x4) : Fr W s0 (State.rung3 s x1
    x2 x3 x4) := by
  unfold State.rung3
  simp only [within_cons, within_nil, and_true] at w
  simp +contextual (maxDischargeDepth := 40) only [h, w, within_cons, within_nil, and_self, frO_next, frO_fault,
      frM_some, frM_none, frL_mk, frR_mk, frL_fold, frR_fold, fr_ite, frO_ite, frM_ite, frL_ite, frR_ite, ite_self,
      implies_true, fr_foldl, frL_foldl, frR_foldl, fr_settleMvm, fr_chk, fr_commit, fr_dropLadder, fr_chkX]

theorem fr_sparePassed {W s0} {s : State} (h : Fr W s0 s) (w : Within [.mem, .memBad, .memCorr, .memCe, .memUe,
    .streams, .waiting, .baskets, .pans, .pots, .fastQ, .cal, .dzf, .hq, .trv, .dev, .evq, .msix, .mgmt] W) (x1 x2
    x3) : Fr W s0 (State.sparePassed s x1 x2 x3) := by
  unfold State.sparePassed
  simp only [within_cons, within_nil, and_true] at w
  simp +contextual (maxDischargeDepth := 40) only [h, w, within_cons, within_nil, and_self, frO_next, frO_fault,
      frM_some, frM_none, frL_mk, frR_mk, frL_fold, frR_fold, fr_ite, frO_ite, frM_ite, frL_ite, frR_ite, ite_self,
      implies_true, fr_foldl, frL_foldl, frR_foldl, fr_retirePan, fr_chk, fr_toSuspect]

theorem fr_replaySpare {W s0} {s : State} (h : Fr W s0 s) (w : Within [.time, .freeCtr, .mem, .memBad, .memCorr,
    .memCe, .memUe, .streams, .waiting, .baskets, .pans, .pots, .fastQ, .cal, .feu, .dzf, .hq, .trv, .dev, .evq,
    .tx, .msix, .mgmt] W) (x1 x2) : Fr W s0 (State.replaySpare s x1 x2) := by
  have hk := h
  unfold State.replaySpare
  simp only [within_cons, within_nil, and_true] at w
  try simp +contextual (maxDischargeDepth := 40) only [h, w, within_cons, within_nil, and_self, frO_next,
      frO_fault, frM_some, frM_none, frL_mk, frR_mk, frL_fold, frR_fold, fr_ite, frO_ite, frM_ite, frL_ite,
      frR_ite, ite_self, implies_true, fr_foldl, frL_foldl, frR_foldl, fr_ladderSpare, fr_chkX, fr_cntSpare,
      fr_spareBank, fr_runOn, fr_replayed, fr_setPan, fr_settleMvm, fr_sparePassed, fr_commit, fr_dropLadder,
      fr_rung3]
  all_goals repeat' (split <;> (try (rename_i heq; first | have hk := frR_eq (W := W) (s0 := s0) (by simp +contextual (maxDischargeDepth := 40) only [hk, h, w, within_cons, within_nil, and_self, frO_next, frO_fault, frM_some, frM_none, frL_mk, frR_mk, frL_fold, frR_fold, fr_ite, frO_ite, frM_ite, frL_ite, frR_ite, ite_self, implies_true, fr_foldl, frL_foldl, frR_foldl, fr_ladderSpare, fr_chkX, fr_cntSpare, fr_spareBank, fr_runOn, fr_replayed, fr_setPan, fr_settleMvm, fr_sparePassed, fr_commit, fr_dropLadder, fr_rung3]) heq | have hk := frL_eq (W := W) (s0 := s0) (by simp +contextual (maxDischargeDepth := 40) only [hk, h, w, within_cons, within_nil, and_self, frO_next, frO_fault, frM_some, frM_none, frL_mk, frR_mk, frL_fold, frR_fold, fr_ite, frO_ite, frM_ite, frL_ite, frR_ite, ite_self, implies_true, fr_foldl, frL_foldl, frR_foldl, fr_ladderSpare, fr_chkX, fr_cntSpare, fr_spareBank, fr_runOn, fr_replayed, fr_setPan, fr_settleMvm, fr_sparePassed, fr_commit, fr_dropLadder, fr_rung3]) heq | have hk := frM_eq (W := W) (s0 := s0) (by simp +contextual (maxDischargeDepth := 40) only [hk, h, w, within_cons, within_nil, and_self, frO_next, frO_fault, frM_some, frM_none, frL_mk, frR_mk, frL_fold, frR_fold, fr_ite, frO_ite, frM_ite, frL_ite, frR_ite, ite_self, implies_true, fr_foldl, frL_foldl, frR_foldl, fr_ladderSpare, fr_chkX, fr_cntSpare, fr_spareBank, fr_runOn, fr_replayed, fr_setPan, fr_settleMvm, fr_sparePassed, fr_commit, fr_dropLadder, fr_rung3]) heq)) <;> (try simp +contextual (maxDischargeDepth := 40) only [hk, h, w, within_cons, within_nil, and_self, frO_next, frO_fault, frM_some, frM_none, frL_mk, frR_mk, frL_fold, frR_fold, fr_ite, frO_ite, frM_ite, frL_ite, frR_ite, ite_self, implies_true, fr_foldl, frL_foldl, frR_foldl, fr_ladderSpare, fr_chkX, fr_cntSpare, fr_spareBank, fr_runOn, fr_replayed, fr_setPan, fr_settleMvm, fr_sparePassed, fr_commit, fr_dropLadder, fr_rung3]))

theorem fr_execReplaySpare {W s0} {s : State} (h : Fr W s0 s) (w : Within [.time, .freeCtr, .mem, .memBad,
    .memCorr, .memCe, .memUe, .streams, .waiting, .baskets, .pans, .pots, .fastQ, .cal, .feu, .dzf, .hq, .trv,
    .dev, .evq, .tx, .msix, .mgmt] W) (x0 x1) : FrO W s0 (execReplaySpare x0 x1 s) := by
  unfold execReplaySpare
  simp only [within_cons, within_nil, and_true] at w
  simp +contextual (maxDischargeDepth := 40) only [h, w, within_cons, within_nil, and_self, frO_next, frO_fault,
      frM_some, frM_none, frL_mk, frR_mk, frL_fold, frR_fold, fr_ite, frO_ite, frM_ite, frL_ite, frR_ite, ite_self,
      implies_true, fr_foldl, frL_foldl, frR_foldl, fr_guard, fr_replaySpare]

theorem fr_noSpare {W s0} {s : State} (h : Fr W s0 s) (w : Within [.time, .freeCtr, .mem, .memBad, .memCorr,
    .memCe, .memUe, .streams, .waiting, .baskets, .pans, .pots, .fastQ, .cal, .feu, .dzf, .hq, .trv, .dev, .evq,
    .tx, .msix, .mgmt] W) (x1 x2) : Fr W s0 (State.noSpare s x1 x2) := by
  have hk := h
  unfold State.noSpare
  simp only [within_cons, within_nil, and_true] at w
  try simp +contextual (maxDischargeDepth := 40) only [h, w, within_cons, within_nil, and_self, frO_next,
      frO_fault, frM_some, frM_none, frL_mk, frR_mk, frL_fold, frR_fold, fr_ite, frO_ite, frM_ite, frL_ite,
      frR_ite, ite_self, implies_true, fr_foldl, frL_foldl, frR_foldl, fr_ladderSpare, fr_chkX, fr_cntSpare,
      fr_retirePan, fr_replayBank, fr_runOn, fr_replayed, fr_commit, fr_dropLadder, fr_chk, fr_settleMvm,
      fr_toSuspect, fr_rung3]
  all_goals repeat' (split <;> (try (rename_i heq; first | have hk := frR_eq (W := W) (s0 := s0) (by simp +contextual (maxDischargeDepth := 40) only [hk, h, w, within_cons, within_nil, and_self, frO_next, frO_fault, frM_some, frM_none, frL_mk, frR_mk, frL_fold, frR_fold, fr_ite, frO_ite, frM_ite, frL_ite, frR_ite, ite_self, implies_true, fr_foldl, frL_foldl, frR_foldl, fr_ladderSpare, fr_chkX, fr_cntSpare, fr_retirePan, fr_replayBank, fr_runOn, fr_replayed, fr_commit, fr_dropLadder, fr_chk, fr_settleMvm, fr_toSuspect, fr_rung3]) heq | have hk := frL_eq (W := W) (s0 := s0) (by simp +contextual (maxDischargeDepth := 40) only [hk, h, w, within_cons, within_nil, and_self, frO_next, frO_fault, frM_some, frM_none, frL_mk, frR_mk, frL_fold, frR_fold, fr_ite, frO_ite, frM_ite, frL_ite, frR_ite, ite_self, implies_true, fr_foldl, frL_foldl, frR_foldl, fr_ladderSpare, fr_chkX, fr_cntSpare, fr_retirePan, fr_replayBank, fr_runOn, fr_replayed, fr_commit, fr_dropLadder, fr_chk, fr_settleMvm, fr_toSuspect, fr_rung3]) heq | have hk := frM_eq (W := W) (s0 := s0) (by simp +contextual (maxDischargeDepth := 40) only [hk, h, w, within_cons, within_nil, and_self, frO_next, frO_fault, frM_some, frM_none, frL_mk, frR_mk, frL_fold, frR_fold, fr_ite, frO_ite, frM_ite, frL_ite, frR_ite, ite_self, implies_true, fr_foldl, frL_foldl, frR_foldl, fr_ladderSpare, fr_chkX, fr_cntSpare, fr_retirePan, fr_replayBank, fr_runOn, fr_replayed, fr_commit, fr_dropLadder, fr_chk, fr_settleMvm, fr_toSuspect, fr_rung3]) heq)) <;> (try simp +contextual (maxDischargeDepth := 40) only [hk, h, w, within_cons, within_nil, and_self, frO_next, frO_fault, frM_some, frM_none, frL_mk, frR_mk, frL_fold, frR_fold, fr_ite, frO_ite, frM_ite, frL_ite, frR_ite, ite_self, implies_true, fr_foldl, frL_foldl, frR_foldl, fr_ladderSpare, fr_chkX, fr_cntSpare, fr_retirePan, fr_replayBank, fr_runOn, fr_replayed, fr_commit, fr_dropLadder, fr_chk, fr_settleMvm, fr_toSuspect, fr_rung3]))

theorem fr_execNoSpareReplay {W s0} {s : State} (h : Fr W s0 s) (w : Within [.time, .freeCtr, .mem, .memBad,
    .memCorr, .memCe, .memUe, .streams, .waiting, .baskets, .pans, .pots, .fastQ, .cal, .feu, .dzf, .hq, .trv,
    .dev, .evq, .tx, .msix, .mgmt] W) (x0 x1) : FrO W s0 (execNoSpareReplay x0 x1 s) := by
  unfold execNoSpareReplay
  simp only [within_cons, within_nil, and_true] at w
  simp +contextual (maxDischargeDepth := 40) only [h, w, within_cons, within_nil, and_self, frO_next, frO_fault,
      frM_some, frM_none, frL_mk, frR_mk, frL_fold, frR_fold, fr_ite, frO_ite, frM_ite, frL_ite, frR_ite, ite_self,
      implies_true, fr_foldl, frL_foldl, frR_foldl, fr_guard, fr_noSpare]

theorem fr_dropSample {W s0} {s : State} (h : Fr W s0 s) (w : Within [.pans] W) (x1 x2) : Fr W s0 (State.dropSample
    s x1 x2) := by
  unfold State.dropSample
  simp only [within_cons, within_nil, and_true] at w
  simp +contextual (maxDischargeDepth := 40) only [h, w, within_cons, within_nil, and_self, frO_next, frO_fault,
      frM_some, frM_none, frL_mk, frR_mk, frL_fold, frR_fold, fr_ite, frO_ite, frM_ite, frL_ite, frR_ite, ite_self,
      implies_true, fr_foldl, frL_foldl, frR_foldl, fr_setPan]

theorem fr_smpCompare {W s0} {s : State} (h : Fr W s0 s) (w : Within [.freeCtr, .mem, .memBad, .memCorr, .memCe,
    .memUe, .streams, .waiting, .baskets, .pans, .pots, .fastQ, .feu, .dzf, .hq, .dev, .evq, .tx] W) (x1 x2) : Fr W
    s0 (State.smpCompare s x1 x2) := by
  have hk := h
  unfold State.smpCompare
  simp only [within_cons, within_nil, and_true] at w
  try simp +contextual (maxDischargeDepth := 40) only [h, w, within_cons, within_nil, and_self, frO_next,
      frO_fault, frM_some, frM_none, frL_mk, frR_mk, frL_fold, frR_fold, fr_ite, frO_ite, frM_ite, frL_ite,
      frR_ite, ite_self, implies_true, fr_foldl, frL_foldl, frR_foldl, fr_mk_feu, fr_settleMvm, fr_commit,
      fr_dropSample, fr_chkX, fr_spareBank, fr_runOn, fr_setPan]
  all_goals repeat' (split <;> (try (rename_i heq; first | have hk := frR_eq (W := W) (s0 := s0) (by simp +contextual (maxDischargeDepth := 40) only [hk, h, w, within_cons, within_nil, and_self, frO_next, frO_fault, frM_some, frM_none, frL_mk, frR_mk, frL_fold, frR_fold, fr_ite, frO_ite, frM_ite, frL_ite, frR_ite, ite_self, implies_true, fr_foldl, frL_foldl, frR_foldl, fr_mk_feu, fr_settleMvm, fr_commit, fr_dropSample, fr_chkX, fr_spareBank, fr_runOn, fr_setPan]) heq | have hk := frL_eq (W := W) (s0 := s0) (by simp +contextual (maxDischargeDepth := 40) only [hk, h, w, within_cons, within_nil, and_self, frO_next, frO_fault, frM_some, frM_none, frL_mk, frR_mk, frL_fold, frR_fold, fr_ite, frO_ite, frM_ite, frL_ite, frR_ite, ite_self, implies_true, fr_foldl, frL_foldl, frR_foldl, fr_mk_feu, fr_settleMvm, fr_commit, fr_dropSample, fr_chkX, fr_spareBank, fr_runOn, fr_setPan]) heq | have hk := frM_eq (W := W) (s0 := s0) (by simp +contextual (maxDischargeDepth := 40) only [hk, h, w, within_cons, within_nil, and_self, frO_next, frO_fault, frM_some, frM_none, frL_mk, frR_mk, frL_fold, frR_fold, fr_ite, frO_ite, frM_ite, frL_ite, frR_ite, ite_self, implies_true, fr_foldl, frL_foldl, frR_foldl, fr_mk_feu, fr_settleMvm, fr_commit, fr_dropSample, fr_chkX, fr_spareBank, fr_runOn, fr_setPan]) heq)) <;> (try simp +contextual (maxDischargeDepth := 40) only [hk, h, w, within_cons, within_nil, and_self, frO_next, frO_fault, frM_some, frM_none, frL_mk, frR_mk, frL_fold, frR_fold, fr_ite, frO_ite, frM_ite, frL_ite, frR_ite, ite_self, implies_true, fr_foldl, frL_foldl, frR_foldl, fr_mk_feu, fr_settleMvm, fr_commit, fr_dropSample, fr_chkX, fr_spareBank, fr_runOn, fr_setPan]))

theorem fr_execSampledReplayCompare {W s0} {s : State} (h : Fr W s0 s) (w : Within [.freeCtr, .mem, .memBad,
    .memCorr, .memCe, .memUe, .streams, .waiting, .baskets, .pans, .pots, .fastQ, .feu, .dzf, .hq, .dev, .evq, .tx]
    W) (x0) : FrO W s0 (execSampledReplayCompare x0 s) := by
  unfold execSampledReplayCompare
  simp only [within_cons, within_nil, and_true] at w
  simp +contextual (maxDischargeDepth := 40) only [h, w, within_cons, within_nil, and_self, frO_next, frO_fault,
      frM_some, frM_none, frL_mk, frR_mk, frL_fold, frR_fold, fr_ite, frO_ite, frM_ite, frL_ite, frR_ite, ite_self,
      implies_true, fr_foldl, frL_foldl, frR_foldl, fr_guard, fr_smpCompare]

theorem fr_earlyCal {W s0} {s : State} (h : Fr W s0 s) (w : Within [.pans] W) (x1) : Fr W s0 (State.earlyCal s x1) := by
  unfold State.earlyCal
  simp only [within_cons, within_nil, and_true] at w
  simp +contextual (maxDischargeDepth := 40) only [h, w, within_cons, within_nil, and_self, frO_next, frO_fault,
      frM_some, frM_none, frL_mk, frR_mk, frL_fold, frR_fold, fr_ite, frO_ite, frM_ite, frL_ite, frR_ite, ite_self,
      implies_true, fr_foldl, frL_foldl, frR_foldl, fr_setPan]

theorem fr_smpSpare {W s0} {s : State} (h : Fr W s0 s) (w : Within [.mem, .memBad, .memCorr, .memCe, .memUe,
    .streams, .waiting, .baskets, .pans, .pots, .fastQ, .cal, .dzf, .hq, .trv, .dev, .evq, .msix, .mgmt] W) (x1 x2
    x3 x4) : Fr W s0 (State.smpSpare s x1 x2 x3 x4) := by
  unfold State.smpSpare
  simp only [within_cons, within_nil, and_true] at w
  try simp +contextual (maxDischargeDepth := 40) only [h, w, within_cons, within_nil, and_self, frO_next,
      frO_fault, frM_some, frM_none, frL_mk, frR_mk, frL_fold, frR_fold, fr_ite, frO_ite, frM_ite, frL_ite,
      frR_ite, ite_self, implies_true, fr_foldl, frL_foldl, frR_foldl, fr_commit, fr_retirePan, fr_chk,
      fr_toSuspect]
  all_goals repeat' (split <;> (try simp +contextual (maxDischargeDepth := 40) only [h, w, within_cons, within_nil,
      and_self, frO_next, frO_fault, frM_some, frM_none, frL_mk, frR_mk, frL_fold, frR_fold, fr_ite, frO_ite,
      frM_ite, frL_ite, frR_ite, ite_self, implies_true, fr_foldl, frL_foldl, frR_foldl, fr_commit, fr_retirePan,
      fr_chk, fr_toSuspect]))

theorem fr_smpResolve {W s0} {s : State} (h : Fr W s0 s) (w : Within [.freeCtr, .mem, .memBad, .memCorr, .memCe,
    .memUe, .streams, .waiting, .baskets, .pans, .pots, .fastQ, .cal, .dzf, .hq, .trv, .dev, .evq, .tx, .msix,
    .mgmt] W) (x1 x2) : Fr W s0 (State.smpResolve s x1 x2) := by
  have hk := h
  unfold State.smpResolve
  simp only [within_cons, within_nil, and_true] at w
  try simp +contextual (maxDischargeDepth := 40) only [h, w, within_cons, within_nil, and_self, frO_next,
      frO_fault, frM_some, frM_none, frL_mk, frR_mk, frL_fold, frR_fold, fr_ite, frO_ite, frM_ite, frL_ite,
      frR_ite, ite_self, implies_true, fr_foldl, frL_foldl, frR_foldl, fr_chkX, fr_replayBank, fr_runOn,
      fr_replayed, fr_dropSample, fr_chk, fr_commit, fr_earlyCal, fr_smpSpare, fr_settleMvm]
  all_goals repeat' (split <;> (try (rename_i heq; first | have hk := frR_eq (W := W) (s0 := s0) (by simp +contextual (maxDischargeDepth := 40) only [hk, h, w, within_cons, within_nil, and_self, frO_next, frO_fault, frM_some, frM_none, frL_mk, frR_mk, frL_fold, frR_fold, fr_ite, frO_ite, frM_ite, frL_ite, frR_ite, ite_self, implies_true, fr_foldl, frL_foldl, frR_foldl, fr_chkX, fr_replayBank, fr_runOn, fr_replayed, fr_dropSample, fr_chk, fr_commit, fr_earlyCal, fr_smpSpare, fr_settleMvm]) heq | have hk := frL_eq (W := W) (s0 := s0) (by simp +contextual (maxDischargeDepth := 40) only [hk, h, w, within_cons, within_nil, and_self, frO_next, frO_fault, frM_some, frM_none, frL_mk, frR_mk, frL_fold, frR_fold, fr_ite, frO_ite, frM_ite, frL_ite, frR_ite, ite_self, implies_true, fr_foldl, frL_foldl, frR_foldl, fr_chkX, fr_replayBank, fr_runOn, fr_replayed, fr_dropSample, fr_chk, fr_commit, fr_earlyCal, fr_smpSpare, fr_settleMvm]) heq | have hk := frM_eq (W := W) (s0 := s0) (by simp +contextual (maxDischargeDepth := 40) only [hk, h, w, within_cons, within_nil, and_self, frO_next, frO_fault, frM_some, frM_none, frL_mk, frR_mk, frL_fold, frR_fold, fr_ite, frO_ite, frM_ite, frL_ite, frR_ite, ite_self, implies_true, fr_foldl, frL_foldl, frR_foldl, fr_chkX, fr_replayBank, fr_runOn, fr_replayed, fr_dropSample, fr_chk, fr_commit, fr_earlyCal, fr_smpSpare, fr_settleMvm]) heq)) <;> (try simp +contextual (maxDischargeDepth := 40) only [hk, h, w, within_cons, within_nil, and_self, frO_next, frO_fault, frM_some, frM_none, frL_mk, frR_mk, frL_fold, frR_fold, fr_ite, frO_ite, frM_ite, frL_ite, frR_ite, ite_self, implies_true, fr_foldl, frL_foldl, frR_foldl, fr_chkX, fr_replayBank, fr_runOn, fr_replayed, fr_dropSample, fr_chk, fr_commit, fr_earlyCal, fr_smpSpare, fr_settleMvm]))

theorem fr_execSampledReplayResolve {W s0} {s : State} (h : Fr W s0 s) (w : Within [.freeCtr, .mem, .memBad,
    .memCorr, .memCe, .memUe, .streams, .waiting, .baskets, .pans, .pots, .fastQ, .cal, .dzf, .hq, .trv, .dev,
    .evq, .tx, .msix, .mgmt] W) (x0) : FrO W s0 (execSampledReplayResolve x0 s) := by
  unfold execSampledReplayResolve
  simp only [within_cons, within_nil, and_true] at w
  simp +contextual (maxDischargeDepth := 40) only [h, w, within_cons, within_nil, and_self, frO_next, frO_fault,
      frM_some, frM_none, frL_mk, frR_mk, frL_fold, frR_fold, fr_ite, frO_ite, frM_ite, frL_ite, frR_ite, ite_self,
      implies_true, fr_foldl, frL_foldl, frR_foldl, fr_guard, fr_smpResolve]

/-! ## Vector steps -/

theorem fr_withInputs {W s0} {s : State} (h : Fr W s0 s) (w : Within [.mem, .memBad, .memCorr, .memCe, .memUe,
    .streams, .waiting, .baskets, .pans, .pots, .fastQ, .dzf, .hq, .dev, .evq] W) (x1 x2 x3 x4) (hf4 : ∀ y0, Fr W
    s0 y0 → Fr W s0 (x4 y0)) : Fr W s0 (State.withInputs s x1 x2 x3 x4) := by
  unfold State.withInputs
  simp only [within_cons, within_nil, and_true] at w
  all_goals repeat' (split <;> (try simp +contextual (maxDischargeDepth := 40) only [h, w, hf4, within_cons,
      within_nil, and_self, frO_next, frO_fault, frM_some, frM_none, frL_mk, frR_mk, frL_fold, frR_fold, fr_ite,
      frO_ite, frM_ite, frL_ite, frR_ite, ite_self, implies_true, fr_foldl, frL_foldl, frR_foldl, fr_scrubRegions,
      fr_memX]))

theorem fr_stepDone {W s0} {s : State} (h : Fr W s0 s) (w : Within [.baskets] W) (x1 x2) : Fr W s0 (State.stepDone
    s x1 x2) := by
  unfold State.stepDone
  simp only [within_cons, within_nil, and_true] at w
  simp +contextual (maxDischargeDepth := 40) only [h, w, within_cons, within_nil, and_self, frO_next, frO_fault,
      frM_some, frM_none, frL_mk, frR_mk, frL_fold, frR_fold, fr_ite, frO_ite, frM_ite, frL_ite, frR_ite, ite_self,
      implies_true, fr_foldl, frL_foldl, frR_foldl, fr_modRec]

theorem fr_effRot {W s0} {s : State} (h : Fr W s0 s) (w : Within [.mem, .memBad, .memCorr, .memCe, .memUe,
    .streams, .waiting, .baskets, .pans, .pots, .nextUid, .fastQ, .dzf, .hq, .dev, .evq] W) (x1 x2) : Fr W s0
    (effRot s x1 x2) := by
  unfold effRot
  simp only [within_cons, within_nil, and_true] at w
  simp +contextual (maxDischargeDepth := 40) only [h, w, within_cons, within_nil, and_self, frO_next, frO_fault,
      frM_some, frM_none, frL_mk, frR_mk, frL_fold, frR_fold, fr_ite, frO_ite, frM_ite, frL_ite, frR_ite, ite_self,
      implies_true, fr_foldl, frL_foldl, frR_foldl, fr_withInputs, fr_launch, fr_setStr, fr_stepDone, fr_wrRows]

theorem fr_execRot {W s0} {s : State} (h : Fr W s0 s) (w : Within [.mem, .memBad, .memCorr, .memCe, .memUe,
    .streams, .waiting, .baskets, .pans, .pots, .tokens, .globals, .nextUid, .fastQ, .dzf, .hq, .dev, .evq, .msix]
    W) (x0) : FrO W s0 (execRot x0 s) := by
  unfold execRot
  simp only [within_cons, within_nil, and_true] at w
  simp +contextual (maxDischargeDepth := 40) only [h, w, within_cons, within_nil, and_self, frO_next, frO_fault,
      frM_some, frM_none, frL_mk, frR_mk, frL_fold, frR_fold, fr_ite, frO_ite, frM_ite, frL_ite, frR_ite, ite_self,
      implies_true, fr_foldl, frL_foldl, frR_foldl, fr_runStep, fr_effRot]

theorem fr_effQnt {W s0} {s : State} (h : Fr W s0 s) (w : Within [.mem, .memBad, .memCorr, .memCe, .memUe,
    .streams, .waiting, .baskets, .pans, .pots, .scales, .nextUid, .fastQ, .dzf, .hq, .dev, .evq] W) (x1 x2) : Fr W
    s0 (effQnt s x1 x2) := by
  unfold effQnt
  simp only [within_cons, within_nil, and_true] at w
  simp +contextual (maxDischargeDepth := 40) only [h, w, within_cons, within_nil, and_self, frO_next, frO_fault,
      frM_some, frM_none, frL_mk, frR_mk, frL_fold, frR_fold, fr_ite, frO_ite, frM_ite, frL_ite, frR_ite, ite_self,
      implies_true, fr_foldl, frL_foldl, frR_foldl, fr_launch, fr_setStr, fr_withInputs, fr_quantise, fr_wrRows,
      fr_whiskEvents, fr_modRec, fr_stepDone]

theorem fr_execQnt {W s0} {s : State} (h : Fr W s0 s) (w : Within [.mem, .memBad, .memCorr, .memCe, .memUe,
    .streams, .waiting, .baskets, .pans, .pots, .scales, .tokens, .globals, .nextUid, .fastQ, .dzf, .hq, .dev,
    .evq, .msix] W) (x0) : FrO W s0 (execQnt x0 s) := by
  unfold execQnt
  simp only [within_cons, within_nil, and_true] at w
  simp +contextual (maxDischargeDepth := 40) only [h, w, within_cons, within_nil, and_self, frO_next, frO_fault,
      frM_some, frM_none, frL_mk, frR_mk, frL_fold, frR_fold, fr_ite, frO_ite, frM_ite, frL_ite, frR_ite, ite_self,
      implies_true, fr_foldl, frL_foldl, frR_foldl, fr_runStep, fr_effQnt]

theorem fr_effScup {W s0} {s : State} (h : Fr W s0 s) (w : Within [.mem, .memBad, .memCorr, .memCe, .memUe,
    .streams, .waiting, .baskets, .pans, .pots, .scales, .nextUid, .fastQ, .dzf, .hq, .dev, .evq] W) (x1 x2) : Fr W
    s0 (effScup s x1 x2) := by
  unfold effScup
  simp only [within_cons, within_nil, and_true] at w
  simp +contextual (maxDischargeDepth := 40) only [h, w, within_cons, within_nil, and_self, frO_next, frO_fault,
      frM_some, frM_none, frL_mk, frR_mk, frL_fold, frR_fold, fr_ite, frO_ite, frM_ite, frL_ite, frR_ite, ite_self,
      implies_true, fr_foldl, frL_foldl, frR_foldl, fr_launch, fr_withInputs, fr_setScale, fr_stepDone]

theorem fr_execScup {W s0} {s : State} (h : Fr W s0 s) (w : Within [.mem, .memBad, .memCorr, .memCe, .memUe,
    .streams, .waiting, .baskets, .pans, .pots, .scales, .tokens, .globals, .nextUid, .fastQ, .dzf, .hq, .dev,
    .evq, .msix] W) (x0) : FrO W s0 (execScup x0 s) := by
  unfold execScup
  simp only [within_cons, within_nil, and_true] at w
  simp +contextual (maxDischargeDepth := 40) only [h, w, within_cons, within_nil, and_self, frO_next, frO_fault,
      frM_some, frM_none, frL_mk, frR_mk, frL_fold, frR_fold, fr_ite, frO_ite, frM_ite, frL_ite, frR_ite, ite_self,
      implies_true, fr_foldl, frL_foldl, frR_foldl, fr_runStep, fr_effScup]

theorem fr_effStat {W s0} {s : State} (h : Fr W s0 s) (w : Within [.mem, .memBad, .memCorr, .memCe, .memUe,
    .streams, .baskets, .nextUid] W) (x1 x2) : Fr W s0 (effStat s x1 x2) := by
  unfold effStat
  simp only [within_cons, within_nil, and_true] at w
  simp +contextual (maxDischargeDepth := 40) only [h, w, within_cons, within_nil, and_self, frO_next, frO_fault,
      frM_some, frM_none, frL_mk, frR_mk, frL_fold, frR_fold, fr_ite, frO_ite, frM_ite, frL_ite, frR_ite, ite_self,
      implies_true, fr_foldl, frL_foldl, frR_foldl, fr_launch, fr_stepDone, fr_wr]

theorem fr_execStat {W s0} {s : State} (h : Fr W s0 s) (w : Within [.mem, .memBad, .memCorr, .memCe, .memUe,
    .streams, .waiting, .baskets, .pans, .pots, .tokens, .globals, .nextUid, .fastQ, .dzf, .hq, .dev, .evq, .msix]
    W) (x0) : FrO W s0 (execStat x0 s) := by
  unfold execStat
  simp only [within_cons, within_nil, and_true] at w
  simp +contextual (maxDischargeDepth := 40) only [h, w, within_cons, within_nil, and_self, frO_next, frO_fault,
      frM_some, frM_none, frL_mk, frR_mk, frL_fold, frR_fold, fr_ite, frO_ite, frM_ite, frL_ite, frR_ite, ite_self,
      implies_true, fr_foldl, frL_foldl, frR_foldl, fr_runStep, fr_effStat]

theorem fr_effVop {W s0} {s : State} (h : Fr W s0 s) (w : Within [.mem, .memBad, .memCorr, .memCe, .memUe,
    .streams, .waiting, .baskets, .pans, .pots, .nextUid, .fastQ, .dzf, .hq, .dev, .evq] W) (x1 x2) : Fr W s0
    (effVop s x1 x2) := by
  unfold effVop
  simp only [within_cons, within_nil, and_true] at w
  simp +contextual (maxDischargeDepth := 40) only [h, w, within_cons, within_nil, and_self, frO_next, frO_fault,
      frM_some, frM_none, frL_mk, frR_mk, frL_fold, frR_fold, fr_ite, frO_ite, frM_ite, frL_ite, frR_ite, ite_self,
      implies_true, fr_foldl, frL_foldl, frR_foldl, fr_withInputs, fr_launch, fr_stepDone, fr_wrRows]

theorem fr_execVop {W s0} {s : State} (h : Fr W s0 s) (w : Within [.mem, .memBad, .memCorr, .memCe, .memUe,
    .streams, .waiting, .baskets, .pans, .pots, .tokens, .globals, .nextUid, .fastQ, .dzf, .hq, .dev, .evq, .msix]
    W) (x0) : FrO W s0 (execVop x0 s) := by
  unfold execVop
  simp only [within_cons, within_nil, and_true] at w
  simp +contextual (maxDischargeDepth := 40) only [h, w, within_cons, within_nil, and_self, frO_next, frO_fault,
      frM_some, frM_none, frL_mk, frR_mk, frL_fold, frR_fold, fr_ite, frO_ite, frM_ite, frL_ite, frR_ite, ite_self,
      implies_true, fr_foldl, frL_foldl, frR_foldl, fr_runStep, fr_effVop]

theorem fr_effAtt {W s0} {s : State} (h : Fr W s0 s) (w : Within [.mem, .memBad, .memCorr, .memCe, .memUe,
    .streams, .waiting, .baskets, .pans, .pots, .nextUid, .fastQ, .dzf, .hq, .dev, .evq] W) (x1 x2) : Fr W s0
    (effAtt s x1 x2) := by
  unfold effAtt
  simp only [within_cons, within_nil, and_true] at w
  simp +contextual (maxDischargeDepth := 40) only [h, w, within_cons, within_nil, and_self, frO_next, frO_fault,
      frM_some, frM_none, frL_mk, frR_mk, frL_fold, frR_fold, fr_ite, frO_ite, frM_ite, frL_ite, frR_ite, ite_self,
      implies_true, fr_foldl, frL_foldl, frR_foldl, fr_withInputs, fr_launch, fr_raiseX, fr_wr, fr_stepDone]

theorem fr_execAtt {W s0} {s : State} (h : Fr W s0 s) (w : Within [.mem, .memBad, .memCorr, .memCe, .memUe,
    .streams, .waiting, .baskets, .pans, .pots, .tokens, .globals, .nextUid, .fastQ, .dzf, .hq, .dev, .evq, .msix]
    W) (x0) : FrO W s0 (execAtt x0 s) := by
  unfold execAtt
  simp only [within_cons, within_nil, and_true] at w
  simp +contextual (maxDischargeDepth := 40) only [h, w, within_cons, within_nil, and_self, frO_next, frO_fault,
      frM_some, frM_none, frL_mk, frR_mk, frL_fold, frR_fold, fr_ite, frO_ite, frM_ite, frL_ite, frR_ite, ite_self,
      implies_true, fr_foldl, frL_foldl, frR_foldl, fr_runStep, fr_effAtt]

/-! ## DMA and fabric steps -/

theorem fr_dmaRow {W s0} {s : State} (h : Fr W s0 s) (w : Within [.mem, .memBad, .memCorr, .memCe, .memUe, .host]
    W) (x1 x2 x3) : FrL W s0 (State.dmaRow s x1 x2 x3) := by
  unfold State.dmaRow
  simp only [within_cons, within_nil, and_true] at w
  all_goals repeat' (split <;> (try simp +contextual (maxDischargeDepth := 40) only [h, w, within_cons, within_nil,
      and_self, frO_next, frO_fault, frM_some, frM_none, frL_mk, frR_mk, frL_fold, frR_fold, fr_ite, frO_ite,
      frM_ite, frL_ite, frR_ite, ite_self, implies_true, fr_foldl, frL_foldl, frR_foldl, fr_hwr, fr_wr]))

theorem fr_dmaRows {W s0 t b} (w : Within [.mem, .memBad, .memCorr, .memCe, .memUe, .host] W) : ∀ (n i : Nat) {s : State},
    Fr W s0 s → FrL W s0 (s.dmaRows t b n i)
  | 0, _, _, h => h
  | n + 1, i, s, h => by
    unfold State.dmaRows
    split <;> rename_i heq
    · exact frL_eq (fr_dmaRow (w := within_mono w) h _ _ _) heq
    · exact fr_dmaRows w n _ (frL_eq (fr_dmaRow (w := within_mono w) h _ _ _) heq)

theorem fr_effDma {W s0} {s : State} (h : Fr W s0 s) (w : Within [.mem, .memBad, .memCorr, .memCe, .memUe, .host, .streams, .waiting, .baskets, .pans, .pots, .nextUid, .fastQ, .dzf, .hq, .dev, .evq] W) (x1 x2) : Fr W s0 (effDma s x1 x2) := by
  have w1 := w
  simp only [within_cons, within_nil, and_true] at w1
  unfold effDma
  (try extract_lets)
  refine fr_withInputs (w := within_mono w) (fr_launch (w := within_mono w) h _ _) _ _ _ _ ?_
  intro s hs
  extract_lets _ s1
  have hs1 : Fr W s0 s1 := fr_dite (fr_setStr (w := within_mono w) hs _ _) hs
  clear_value s1
  split <;> rename_i heq
  · exact fr_hostX (w := within_mono w) (frL_eq (fr_dmaRows (w := within_mono w) _ _ hs1) heq) _ _ _ _
  · exact fr_stepDone (w := within_mono w) (frL_eq (fr_dmaRows (w := within_mono w) _ _ hs1) heq) _ _

theorem fr_execDma {W s0} {s : State} (h : Fr W s0 s) (w : Within [.mem, .memBad, .memCorr, .memCe, .memUe, .host,
    .streams, .waiting, .baskets, .pans, .pots, .tokens, .globals, .nextUid, .fastQ, .dzf, .hq, .dev, .evq, .msix]
    W) (x0) : FrO W s0 (execDma x0 s) := by
  unfold execDma
  simp only [within_cons, within_nil, and_true] at w
  simp +contextual (maxDischargeDepth := 40) only [h, w, within_cons, within_nil, and_self, frO_next, frO_fault,
      frM_some, frM_none, frL_mk, frR_mk, frL_fold, frR_fold, fr_ite, frO_ite, frM_ite, frL_ite, frR_ite, ite_self,
      implies_true, fr_foldl, frL_foldl, frR_foldl, fr_runStep, fr_effDma]

theorem fr_sendStep {W s0} {s : State} (h : Fr W s0 s) (w : Within [.streams, .baskets, .nextUid, .dzf, .evq, .tx]
    W) (x1 x2 x3 x4) : Fr W s0 (State.sendStep s x1 x2 x3 x4) := by
  unfold State.sendStep
  simp only [within_cons, within_nil, and_true] at w
  all_goals repeat' (split <;> (try simp +contextual (maxDischargeDepth := 40) only [h, w, within_cons, within_nil,
      and_self, frO_next, frO_fault, frM_some, frM_none, frL_mk, frR_mk, frL_fold, frR_fold, fr_ite, frO_ite,
      frM_ite, frL_ite, frR_ite, ite_self, implies_true, fr_foldl, frL_foldl, frR_foldl, fr_takeTags, fr_sendUnits,
      fr_launch]))

theorem fr_effGet {W s0} {s : State} (h : Fr W s0 s) (w : Within [.streams, .baskets, .nextUid, .dzf, .evq, .tx] W)
    (x1 x2) : Fr W s0 (effGet s x1 x2) := by
  unfold effGet
  simp only [within_cons, within_nil, and_true] at w
  simp +contextual (maxDischargeDepth := 40) only [h, w, within_cons, within_nil, and_self, frO_next, frO_fault,
      frM_some, frM_none, frL_mk, frR_mk, frL_fold, frR_fold, fr_ite, frO_ite, frM_ite, frL_ite, frR_ite, ite_self,
      implies_true, fr_foldl, frL_foldl, frR_foldl, fr_sendStep]

theorem fr_execGet {W s0} {s : State} (h : Fr W s0 s) (w : Within [.mem, .memBad, .memCorr, .memCe, .memUe,
    .streams, .waiting, .baskets, .pans, .pots, .tokens, .globals, .nextUid, .fastQ, .dzf, .hq, .dev, .evq, .tx,
    .msix] W) (x0) : FrO W s0 (execGet x0 s) := by
  unfold execGet
  simp only [within_cons, within_nil, and_true] at w
  simp +contextual (maxDischargeDepth := 40) only [h, w, within_cons, within_nil, and_self, frO_next, frO_fault,
      frM_some, frM_none, frL_mk, frR_mk, frL_fold, frR_fold, fr_ite, frO_ite, frM_ite, frL_ite, frR_ite, ite_self,
      implies_true, fr_foldl, frL_foldl, frR_foldl, fr_runStep, fr_effGet]

theorem fr_effPut {W s0} {s : State} (h : Fr W s0 s) (w : Within [.mem, .memBad, .memCorr, .memCe, .memUe,
    .streams, .waiting, .baskets, .pans, .pots, .nextUid, .fastQ, .dzf, .hq, .dev, .evq, .tx] W) (x1 x2) : Fr W s0
    (effPut s x1 x2) := by
  unfold effPut
  simp only [within_cons, within_nil, and_true] at w
  simp +contextual (maxDischargeDepth := 40) only [h, w, within_cons, within_nil, and_self, frO_next, frO_fault,
      frM_some, frM_none, frL_mk, frR_mk, frL_fold, frR_fold, fr_ite, frO_ite, frM_ite, frL_ite, frR_ite, ite_self,
      implies_true, fr_foldl, frL_foldl, frR_foldl, fr_withInputs, fr_sendStep]

theorem fr_execPut {W s0} {s : State} (h : Fr W s0 s) (w : Within [.mem, .memBad, .memCorr, .memCe, .memUe,
    .streams, .waiting, .baskets, .pans, .pots, .tokens, .globals, .nextUid, .fastQ, .dzf, .hq, .dev, .evq, .tx,
    .msix] W) (x0) : FrO W s0 (execPut x0 s) := by
  unfold execPut
  simp only [within_cons, within_nil, and_true] at w
  simp +contextual (maxDischargeDepth := 40) only [h, w, within_cons, within_nil, and_self, frO_next, frO_fault,
      frM_some, frM_none, frL_mk, frR_mk, frL_fold, frR_fold, fr_ite, frO_ite, frM_ite, frL_ite, frR_ite, ite_self,
      implies_true, fr_foldl, frL_foldl, frR_foldl, fr_runStep, fr_effPut]

theorem fr_effAadd {W s0} {s : State} (h : Fr W s0 s) (w : Within [.mem, .memBad, .memCorr, .memCe, .memUe,
    .streams, .waiting, .baskets, .pans, .pots, .nextUid, .fastQ, .dzf, .hq, .dev, .evq, .tx] W) (x1 x2) : Fr W s0
    (effAadd s x1 x2) := by
  unfold effAadd
  simp only [within_cons, within_nil, and_true] at w
  simp +contextual (maxDischargeDepth := 40) only [h, w, within_cons, within_nil, and_self, frO_next, frO_fault,
      frM_some, frM_none, frL_mk, frR_mk, frL_fold, frR_fold, fr_ite, frO_ite, frM_ite, frL_ite, frR_ite, ite_self,
      implies_true, fr_foldl, frL_foldl, frR_foldl, fr_withInputs, fr_sendStep]

theorem fr_execAadd {W s0} {s : State} (h : Fr W s0 s) (w : Within [.mem, .memBad, .memCorr, .memCe, .memUe,
    .streams, .waiting, .baskets, .pans, .pots, .tokens, .globals, .nextUid, .fastQ, .dzf, .hq, .dev, .evq, .tx,
    .msix] W) (x0) : FrO W s0 (execAadd x0 s) := by
  unfold execAadd
  simp only [within_cons, within_nil, and_true] at w
  simp +contextual (maxDischargeDepth := 40) only [h, w, within_cons, within_nil, and_self, frO_next, frO_fault,
      frM_some, frM_none, frL_mk, frR_mk, frL_fold, frR_fold, fr_ite, frO_ite, frM_ite, frL_ite, frR_ite, ite_self,
      implies_true, fr_foldl, frL_foldl, frR_foldl, fr_runStep, fr_effAadd]

theorem fr_gathRows {W s0} {s : State} (h : Fr W s0 s) (w : Within [.mem, .memBad, .memCorr, .memCe, .memUe] W) (x1
    x2 x3) : Fr W s0 (State.gathRows s x1 x2 x3) := by
  unfold State.gathRows
  simp only [within_cons, within_nil, and_true] at w
  simp +contextual (maxDischargeDepth := 40) only [h, w, within_cons, within_nil, and_self, frO_next, frO_fault,
      frM_some, frM_none, frL_mk, frR_mk, frL_fold, frR_fold, fr_ite, frO_ite, frM_ite, frL_ite, frR_ite, ite_self,
      implies_true, fr_foldl, frL_foldl, frR_foldl, fr_wr]

theorem fr_effGath {W s0} {s : State} (h : Fr W s0 s) (w : Within [.mem, .memBad, .memCorr, .memCe, .memUe,
    .streams, .waiting, .baskets, .pans, .pots, .nextUid, .fastQ, .dzf, .hq, .dev, .evq, .tx] W) (x1 x2) : Fr W s0
    (effGath s x1 x2) := by
  unfold effGath
  simp only [within_cons, within_nil, and_true] at w
  simp +contextual (maxDischargeDepth := 40) only [h, w, within_cons, within_nil, and_self, frO_next, frO_fault,
      frM_some, frM_none, frL_mk, frR_mk, frL_fold, frR_fold, fr_ite, frO_ite, frM_ite, frL_ite, frR_ite, ite_self,
      implies_true, fr_foldl, frL_foldl, frR_foldl, fr_withInputs, fr_launch, fr_stepDone, fr_gathRows,
      fr_takeTags, fr_sendUnits]

theorem fr_execGath {W s0} {s : State} (h : Fr W s0 s) (w : Within [.mem, .memBad, .memCorr, .memCe, .memUe,
    .streams, .waiting, .baskets, .pans, .pots, .tokens, .globals, .nextUid, .fastQ, .dzf, .hq, .dev, .evq, .tx,
    .msix] W) (x0) : FrO W s0 (execGath x0 s) := by
  unfold execGath
  simp only [within_cons, within_nil, and_true] at w
  simp +contextual (maxDischargeDepth := 40) only [h, w, within_cons, within_nil, and_self, frO_next, frO_fault,
      frM_some, frM_none, frL_mk, frR_mk, frL_fold, frR_fold, fr_ite, frO_ite, frM_ite, frL_ite, frR_ite, ite_self,
      implies_true, fr_foldl, frL_foldl, frR_foldl, fr_runStep, fr_effGath]

end Sys2Proof.Machine
end

