-- ==== Sys2Proof/Laws/FrameBlocks.lean ====
section
/-! SUPPORT. What every operation leaves as it was, field by field of State:
streams, Baskets, the Kettle, calibration, the FEU and the fabric. -/

namespace Sys2Proof.Machine

set_option linter.unusedSimpArgs false
set_option linter.unusedTactic false
set_option linter.unusedVariables false
set_option linter.unreachableTactic false

/-! ## Streams -/

theorem fr_settleOn {W s0} {s : State} (h : Fr W s0 s) (w : Within [.mem, .memBad, .memCorr, .memCe, .memUe,
    .streams, .baskets] W) (x1 x2 x3) : Fr W s0 (State.settleOn s x1 x2 x3) := by
  unfold State.settleOn
  simp only [within_cons, within_nil, and_true] at w
  simp +contextual (maxDischargeDepth := 40) only [h, w, within_cons, within_nil, and_self, frO_next, frO_fault,
      frM_some, frM_none, frL_mk, frR_mk, frL_fold, frR_fold, fr_ite, frO_ite, frM_ite, frL_ite, frR_ite, ite_self,
      implies_true, fr_foldl, frL_foldl, frR_foldl, fr_settleBsk, fr_putStr]

theorem fr_execStreamPlacement {W s0} {s : State} (h : Fr W s0 s) (w : Within [.mem, .memBad, .memCorr, .memCe,
    .memUe, .streams, .waiting, .baskets] W) : FrO W s0 (execStreamPlacement s) := by
  unfold execStreamPlacement
  simp only [within_cons, within_nil, and_true] at w
  all_goals repeat' (split <;> (try simp +contextual (maxDischargeDepth := 40) only [h, w, within_cons, within_nil,
      and_self, frO_next, frO_fault, frM_some, frM_none, frL_mk, frR_mk, frL_fold, frR_fold, fr_ite, frO_ite,
      frM_ite, frL_ite, frR_ite, ite_self, implies_true, fr_foldl, frL_foldl, frR_foldl, fr_mk_waiting,
      fr_settleOn]))

theorem fr_cmdStart {W s0} {s : State} (h : Fr W s0 s) (w : Within [.mem, .memBad, .memCorr, .memCe, .memUe,
    .streams, .waiting, .baskets, .evq] W) (x1) : FrL W s0 (State.cmdStart s x1) := by
  unfold State.cmdStart
  simp only [within_cons, within_nil, and_true] at w
  try simp +contextual (maxDischargeDepth := 40) only [h, w, within_cons, within_nil, and_self, frO_next,
      frO_fault, frM_some, frM_none, frL_mk, frR_mk, frL_fold, frR_fold, fr_ite, frO_ite, frM_ite, frL_ite,
      frR_ite, ite_self, implies_true, fr_foldl, frL_foldl, frR_foldl, fr_mk_waiting, fr_raiseS, fr_wrCtx,
      fr_setStr, fr_settleOn, fr_putStr]
  all_goals repeat' (split <;> (try simp +contextual (maxDischargeDepth := 40) only [h, w, within_cons, within_nil,
      and_self, frO_next, frO_fault, frM_some, frM_none, frL_mk, frR_mk, frL_fold, frR_fold, fr_ite, frO_ite,
      frM_ite, frL_ite, frR_ite, ite_self, implies_true, fr_foldl, frL_foldl, frR_foldl, fr_mk_waiting, fr_raiseS,
      fr_wrCtx, fr_setStr, fr_settleOn, fr_putStr]))

theorem fr_migLoad {W s0} {s : State} (h : Fr W s0 s) (w : Within [.memCorr, .memCe, .memUe, .pots, .scales] W) (x1
    x2) : Fr W s0 (State.migLoad s x1 x2) := by
  unfold State.migLoad
  simp only [within_cons, within_nil, and_true] at w
  simp +contextual (maxDischargeDepth := 40) only [h, w, within_cons, within_nil, and_self, frO_next, frO_fault,
      frM_some, frM_none, frL_mk, frR_mk, frL_fold, frR_fold, fr_ite, frO_ite, frM_ite, frL_ite, frR_ite, ite_self,
      implies_true, fr_foldl, frL_foldl, frR_foldl, fr_scrub, fr_setScale, fr_setPot]

theorem fr_reopen {W s0} {s : State} (h : Fr W s0 s) (w : Within [.mem, .memBad, .memCorr, .memCe, .memUe,
    .streams, .waiting, .baskets, .pans, .pots, .scales, .fastQ, .dzf, .hq, .dev, .evq] W) (x1 x2 x3) : Fr W s0
    (State.reopen s x1 x2 x3) := by
  unfold State.reopen
  simp only [within_cons, within_nil, and_true] at w
  all_goals repeat' (split <;> (try simp +contextual (maxDischargeDepth := 40) only [h, w, within_cons, within_nil,
      and_self, frO_next, frO_fault, frM_some, frM_none, frL_mk, frR_mk, frL_fold, frR_fold, fr_ite, frO_ite,
      frM_ite, frL_ite, frR_ite, ite_self, implies_true, fr_foldl, frL_foldl, frR_foldl, fr_memX, fr_scrub,
      fr_migLoad, fr_settleBsk, fr_putStr]))

theorem fr_cmdResume {W s0} {s : State} (h : Fr W s0 s) (w : Within [.mem, .memBad, .memCorr, .memCe, .memUe,
    .streams, .waiting, .baskets, .pans, .pots, .scales, .fastQ, .dzf, .hq, .dev, .evq] W) (x1) : FrL W s0
    (State.cmdResume s x1) := by
  unfold State.cmdResume
  simp only [within_cons, within_nil, and_true] at w
  try simp +contextual (maxDischargeDepth := 40) only [h, w, within_cons, within_nil, and_self, frO_next,
      frO_fault, frM_some, frM_none, frL_mk, frR_mk, frL_fold, frR_fold, fr_ite, frO_ite, frM_ite, frL_ite,
      frR_ite, ite_self, implies_true, fr_foldl, frL_foldl, frR_foldl, fr_settleBsk, fr_reopen, fr_setStr,
      fr_settleOn]
  all_goals repeat' (split <;> (try simp +contextual (maxDischargeDepth := 40) only [h, w, within_cons, within_nil,
      and_self, frO_next, frO_fault, frM_some, frM_none, frL_mk, frR_mk, frL_fold, frR_fold, fr_ite, frO_ite,
      frM_ite, frL_ite, frR_ite, ite_self, implies_true, fr_foldl, frL_foldl, frR_foldl, fr_settleBsk, fr_reopen,
      fr_setStr, fr_settleOn]))

theorem fr_cmdAbort {W s0} {s : State} (h : Fr W s0 s) (w : Within [.mem, .memBad, .memCorr, .memCe, .memUe,
    .streams, .waiting, .baskets, .pans, .pots, .fastQ, .dzf, .hq, .dev] W) (x1) : FrL W s0 (State.cmdAbort s x1) := by
  unfold State.cmdAbort
  simp only [within_cons, within_nil, and_true] at w
  simp +contextual (maxDischargeDepth := 40) only [h, w, within_cons, within_nil, and_self, frO_next, frO_fault,
      frM_some, frM_none, frL_mk, frR_mk, frL_fold, frR_fold, fr_ite, frO_ite, frM_ite, frL_ite, frR_ite, ite_self,
      implies_true, fr_foldl, frL_foldl, frR_foldl, fr_abortStr]

theorem fr_cmdReset {W s0} {s : State} (h : Fr W s0 s) (w : Within [.mem, .memBad, .memCorr, .memCe, .memUe,
    .streams] W) (x1) : FrL W s0 (State.cmdReset s x1) := by
  unfold State.cmdReset
  simp only [within_cons, within_nil, and_true] at w
  simp +contextual (maxDischargeDepth := 40) only [h, w, within_cons, within_nil, and_self, frO_next, frO_fault,
      frM_some, frM_none, frL_mk, frR_mk, frL_fold, frR_fold, fr_ite, frO_ite, frM_ite, frL_ite, frR_ite, ite_self,
      implies_true, fr_foldl, frL_foldl, frR_foldl, fr_putStr]

theorem fr_cmdMigrate {W s0} {s : State} (h : Fr W s0 s) (w : Within [.mem, .memBad, .memCorr, .memCe, .memUe,
    .streams, .baskets] W) (x1 x2) : FrL W s0 (State.cmdMigrate s x1 x2) := by
  unfold State.cmdMigrate
  simp only [within_cons, within_nil, and_true] at w
  all_goals repeat' (split <;> (try simp +contextual (maxDischargeDepth := 40) only [h, w, within_cons, within_nil,
      and_self, frO_next, frO_fault, frM_some, frM_none, frL_mk, frR_mk, frL_fold, frR_fold, fr_ite, frO_ite,
      frM_ite, frL_ite, frR_ite, ite_self, implies_true, fr_foldl, frL_foldl, frR_foldl, fr_settleBsk, fr_putStr]))

theorem fr_strmDo {W s0} {s : State} (h : Fr W s0 s) (w : Within [.mem, .memBad, .memCorr, .memCe, .memUe,
    .streams, .waiting, .baskets, .pans, .pots, .scales, .fastQ, .dzf, .hq, .dev, .evq] W) (x1 x2 x3) : FrL W s0
    (State.strmDo s x1 x2 x3) := by
  unfold State.strmDo
  simp only [within_cons, within_nil, and_true] at w
  simp +contextual (maxDischargeDepth := 40) only [h, w, within_cons, within_nil, and_self, frO_next, frO_fault,
      frM_some, frM_none, frL_mk, frR_mk, frL_fold, frR_fold, fr_ite, frO_ite, frM_ite, frL_ite, frR_ite, ite_self,
      implies_true, fr_foldl, frL_foldl, frR_foldl, fr_cmdStart, fr_cmdResume, fr_cmdAbort, fr_cmdMigrate,
      fr_cmdReset]

theorem fr_strmReg {W s0} {s : State} (h : Fr W s0 s) (w : Within [.mem, .memBad, .memCorr, .memCe, .memUe,
    .streams, .waiting, .baskets, .pans, .pots, .scales, .fastQ, .dzf, .hq, .dev, .evq] W) (x1 x2 x3) : Fr W s0
    (State.strmReg s x1 x2 x3) := by
  have hk := h
  unfold State.strmReg
  simp only [within_cons, within_nil, and_true] at w
  try simp +contextual (maxDischargeDepth := 40) only [h, w, within_cons, within_nil, and_self, frO_next,
      frO_fault, frM_some, frM_none, frL_mk, frR_mk, frL_fold, frR_fold, fr_ite, frO_ite, frM_ite, frL_ite,
      frR_ite, ite_self, implies_true, fr_foldl, frL_foldl, frR_foldl, fr_mk_dev, fr_strmDo, fr_setStr]
  all_goals repeat' (split <;> (try (rename_i heq; first | have hk := frR_eq (W := W) (s0 := s0) (by simp +contextual (maxDischargeDepth := 40) only [hk, h, w, within_cons, within_nil, and_self, frO_next, frO_fault, frM_some, frM_none, frL_mk, frR_mk, frL_fold, frR_fold, fr_ite, frO_ite, frM_ite, frL_ite, frR_ite, ite_self, implies_true, fr_foldl, frL_foldl, frR_foldl, fr_mk_dev, fr_strmDo, fr_setStr]) heq | have hk := frL_eq (W := W) (s0 := s0) (by simp +contextual (maxDischargeDepth := 40) only [hk, h, w, within_cons, within_nil, and_self, frO_next, frO_fault, frM_some, frM_none, frL_mk, frR_mk, frL_fold, frR_fold, fr_ite, frO_ite, frM_ite, frL_ite, frR_ite, ite_self, implies_true, fr_foldl, frL_foldl, frR_foldl, fr_mk_dev, fr_strmDo, fr_setStr]) heq | have hk := frM_eq (W := W) (s0 := s0) (by simp +contextual (maxDischargeDepth := 40) only [hk, h, w, within_cons, within_nil, and_self, frO_next, frO_fault, frM_some, frM_none, frL_mk, frR_mk, frL_fold, frR_fold, fr_ite, frO_ite, frM_ite, frL_ite, frR_ite, ite_self, implies_true, fr_foldl, frL_foldl, frR_foldl, fr_mk_dev, fr_strmDo, fr_setStr]) heq)) <;> (try simp +contextual (maxDischargeDepth := 40) only [hk, h, w, within_cons, within_nil, and_self, frO_next, frO_fault, frM_some, frM_none, frL_mk, frR_mk, frL_fold, frR_fold, fr_ite, frO_ite, frM_ite, frL_ite, frR_ite, ite_self, implies_true, fr_foldl, frL_foldl, frR_foldl, fr_mk_dev, fr_strmDo, fr_setStr]))

theorem fr_execStart {W s0} {s : State} (h : Fr W s0 s) (w : Within [.mem, .memBad, .memCorr, .memCe, .memUe,
    .streams, .waiting, .baskets, .pans, .pots, .scales, .fastQ, .dzf, .hq, .dev, .evq] W) (x0 x1) : FrO W s0
    (execStart x0 x1 s) := by
  unfold execStart
  simp only [within_cons, within_nil, and_true] at w
  simp +contextual (maxDischargeDepth := 40) only [h, w, within_cons, within_nil, and_self, frO_next, frO_fault,
      frM_some, frM_none, frL_mk, frR_mk, frL_fold, frR_fold, fr_ite, frO_ite, frM_ite, frL_ite, frR_ite, ite_self,
      implies_true, fr_foldl, frL_foldl, frR_foldl, fr_guard, fr_strmReg]

theorem fr_execStreamResume {W s0} {s : State} (h : Fr W s0 s) (w : Within [.mem, .memBad, .memCorr, .memCe,
    .memUe, .streams, .waiting, .baskets, .pans, .pots, .scales, .fastQ, .dzf, .hq, .dev, .evq] W) (x0 x1) : FrO W
    s0 (execStreamResume x0 x1 s) := by
  unfold execStreamResume
  simp only [within_cons, within_nil, and_true] at w
  simp +contextual (maxDischargeDepth := 40) only [h, w, within_cons, within_nil, and_self, frO_next, frO_fault,
      frM_some, frM_none, frL_mk, frR_mk, frL_fold, frR_fold, fr_ite, frO_ite, frM_ite, frL_ite, frR_ite, ite_self,
      implies_true, fr_foldl, frL_foldl, frR_foldl, fr_guard, fr_strmReg]

theorem fr_execAbort {W s0} {s : State} (h : Fr W s0 s) (w : Within [.mem, .memBad, .memCorr, .memCe, .memUe,
    .streams, .waiting, .baskets, .pans, .pots, .scales, .fastQ, .dzf, .hq, .dev, .evq] W) (x0 x1) : FrO W s0
    (execAbort x0 x1 s) := by
  unfold execAbort
  simp only [within_cons, within_nil, and_true] at w
  simp +contextual (maxDischargeDepth := 40) only [h, w, within_cons, within_nil, and_self, frO_next, frO_fault,
      frM_some, frM_none, frL_mk, frR_mk, frL_fold, frR_fold, fr_ite, frO_ite, frM_ite, frL_ite, frR_ite, ite_self,
      implies_true, fr_foldl, frL_foldl, frR_foldl, fr_guard, fr_strmReg]

theorem fr_execMigrate {W s0} {s : State} (h : Fr W s0 s) (w : Within [.mem, .memBad, .memCorr, .memCe, .memUe,
    .streams, .waiting, .baskets, .pans, .pots, .scales, .fastQ, .dzf, .hq, .dev, .evq] W) (x0 x1) : FrO W s0
    (execMigrate x0 x1 s) := by
  unfold execMigrate
  simp only [within_cons, within_nil, and_true] at w
  simp +contextual (maxDischargeDepth := 40) only [h, w, within_cons, within_nil, and_self, frO_next, frO_fault,
      frM_some, frM_none, frL_mk, frR_mk, frL_fold, frR_fold, fr_ite, frO_ite, frM_ite, frL_ite, frR_ite, ite_self,
      implies_true, fr_foldl, frL_foldl, frR_foldl, fr_guard, fr_strmReg]

theorem fr_execStreamReset {W s0} {s : State} (h : Fr W s0 s) (w : Within [.mem, .memBad, .memCorr, .memCe, .memUe,
    .streams, .waiting, .baskets, .pans, .pots, .scales, .fastQ, .dzf, .hq, .dev, .evq] W) (x0 x1) : FrO W s0
    (execStreamReset x0 x1 s) := by
  unfold execStreamReset
  simp only [within_cons, within_nil, and_true] at w
  simp +contextual (maxDischargeDepth := 40) only [h, w, within_cons, within_nil, and_self, frO_next, frO_fault,
      frM_some, frM_none, frL_mk, frR_mk, frL_fold, frR_fold, fr_ite, frO_ite, frM_ite, frL_ite, frR_ite, ite_self,
      implies_true, fr_foldl, frL_foldl, frR_foldl, fr_guard, fr_strmReg]

theorem fr_migRefuse {W s0} {s : State} (h : Fr W s0 s) (w : Within [.mem, .memBad, .memCorr, .memCe, .memUe,
    .streams, .hq, .dev] W) (x1 x2) : Fr W s0 (State.migRefuse s x1 x2) := by
  unfold State.migRefuse
  simp only [within_cons, within_nil, and_true] at w
  simp +contextual (maxDischargeDepth := 40) only [h, w, within_cons, within_nil, and_self, frO_next, frO_fault,
      frM_some, frM_none, frL_mk, frR_mk, frL_fold, frR_fold, fr_ite, frO_ite, frM_ite, frL_ite, frR_ite, ite_self,
      implies_true, fr_foldl, frL_foldl, frR_foldl, fr_migReport, fr_putStr]

theorem fr_migImages {W s0} {s : State} (h : Fr W s0 s) (w : Within [.mem, .memBad, .memCorr, .memCe, .memUe] W)
    (x1) : Fr W s0 (State.migImages s x1) := by
  unfold State.migImages
  simp only [within_cons, within_nil, and_true] at w
  simp +contextual (maxDischargeDepth := 40) only [h, w, within_cons, within_nil, and_self, frO_next, frO_fault,
      frM_some, frM_none, frL_mk, frR_mk, frL_fold, frR_fold, fr_ite, frO_ite, frM_ite, frL_ite, frR_ite, ite_self,
      implies_true, fr_foldl, frL_foldl, frR_foldl, fr_wr]

theorem fr_migPot {W s0} {s : State} (h : Fr W s0 s) (w : Within [.mem, .memBad, .memCorr, .memCe, .memUe,
    .streams, .waiting, .baskets, .pans, .pots, .fastQ, .dzf, .hq, .dev, .evq] W) (x1 x2 x3 x4) : FrL W s0
    (State.migPot s x1 x2 x3 x4) := by
  have hk := h
  unfold State.migPot
  simp only [within_cons, within_nil, and_true] at w
  try simp +contextual (maxDischargeDepth := 40) only [h, w, within_cons, within_nil, and_self, frO_next,
      frO_fault, frM_some, frM_none, frL_mk, frR_mk, frL_fold, frR_fold, fr_ite, frO_ite, frM_ite, frL_ite,
      frR_ite, ite_self, implies_true, fr_foldl, frL_foldl, frR_foldl, fr_wr, fr_spillPot, fr_setStr, fr_setPot]
  all_goals repeat' ((try extract_lets) <;> split <;> (try (rename_i heq; first | have hk := frR_eq (W := W) (s0 := s0) (by simp +contextual (maxDischargeDepth := 40) only [hk, h, w, within_cons, within_nil, and_self, frO_next, frO_fault, frM_some, frM_none, frL_mk, frR_mk, frL_fold, frR_fold, fr_ite, frO_ite, frM_ite, frL_ite, frR_ite, ite_self, implies_true, fr_foldl, frL_foldl, frR_foldl, fr_wr, fr_spillPot, fr_setStr, fr_setPot]) heq | have hk := frL_eq (W := W) (s0 := s0) (by simp +contextual (maxDischargeDepth := 40) only [hk, h, w, within_cons, within_nil, and_self, frO_next, frO_fault, frM_some, frM_none, frL_mk, frR_mk, frL_fold, frR_fold, fr_ite, frO_ite, frM_ite, frL_ite, frR_ite, ite_self, implies_true, fr_foldl, frL_foldl, frR_foldl, fr_wr, fr_spillPot, fr_setStr, fr_setPot]) heq | have hk := frM_eq (W := W) (s0 := s0) (by simp +contextual (maxDischargeDepth := 40) only [hk, h, w, within_cons, within_nil, and_self, frO_next, frO_fault, frM_some, frM_none, frL_mk, frR_mk, frL_fold, frR_fold, fr_ite, frO_ite, frM_ite, frL_ite, frR_ite, ite_self, implies_true, fr_foldl, frL_foldl, frR_foldl, fr_wr, fr_spillPot, fr_setStr, fr_setPot]) heq)) <;> (try simp +contextual (maxDischargeDepth := 40) only [hk, h, w, within_cons, within_nil, and_self, frO_next, frO_fault, frM_some, frM_none, frL_mk, frR_mk, frL_fold, frR_fold, fr_ite, frO_ite, frM_ite, frL_ite, frR_ite, ite_self, implies_true, fr_foldl, frL_foldl, frR_foldl, fr_wr, fr_spillPot, fr_setStr, fr_setPot]))

theorem fr_migSave {W s0} {s : State} (h : Fr W s0 s) (w : Within [.mem, .memBad, .memCorr, .memCe, .memUe,
    .streams, .waiting, .baskets, .pans, .pots, .fastQ, .dzf, .hq, .dev, .evq] W) (x1 x2) : Fr W s0 (State.migSave
    s x1 x2) := by
  unfold State.migSave
  simp only [within_cons, within_nil, and_true] at w
  simp +contextual (maxDischargeDepth := 40) only [h, w, within_cons, within_nil, and_self, frO_next, frO_fault,
      frM_some, frM_none, frL_mk, frR_mk, frL_fold, frR_fold, fr_ite, frO_ite, frM_ite, frL_ite, frR_ite, ite_self,
      implies_true, fr_foldl, frL_foldl, frR_foldl, fr_migRefuse, fr_migImages, fr_setStr, fr_migPot, fr_raiseS,
      fr_setBsk, fr_settleBsk, fr_putStr, fr_wrCtx]

theorem fr_migOpen {W s0} {s : State} (h : Fr W s0 s) (w : Within [.mem, .memBad, .memCorr, .memCe, .memUe,
    .streams, .waiting, .baskets, .pans, .pots, .scales, .fastQ, .dzf, .hq, .dev, .evq] W) (x1 x2) : Fr W s0
    (State.migOpen s x1 x2) := by
  unfold State.migOpen
  simp only [within_cons, within_nil, and_true] at w
  simp +contextual (maxDischargeDepth := 40) only [h, w, within_cons, within_nil, and_self, frO_next, frO_fault,
      frM_some, frM_none, frL_mk, frR_mk, frL_fold, frR_fold, fr_ite, frO_ite, frM_ite, frL_ite, frR_ite, ite_self,
      implies_true, fr_foldl, frL_foldl, frR_foldl, fr_migFail, fr_reopen, fr_migReport]

theorem fr_migMove {W s0} {s : State} (h : Fr W s0 s) (w : Within [.mem, .memBad, .memCorr, .memCe, .memUe,
    .streams, .waiting, .baskets, .pans, .pots, .scales, .fastQ, .dzf, .hq, .dev, .evq] W) (x1) : Fr W s0
    (State.migMove s x1) := by
  unfold State.migMove
  simp only [within_cons, within_nil, and_true] at w
  try simp +contextual (maxDischargeDepth := 40) only [h, w, within_cons, within_nil, and_self, frO_next,
      frO_fault, frM_some, frM_none, frL_mk, frR_mk, frL_fold, frR_fold, fr_ite, frO_ite, frM_ite, frL_ite,
      frR_ite, ite_self, implies_true, fr_foldl, frL_foldl, frR_foldl, fr_migOpen, fr_migSave]
  all_goals repeat' (split <;> (try simp +contextual (maxDischargeDepth := 40) only [h, w, within_cons, within_nil,
      and_self, frO_next, frO_fault, frM_some, frM_none, frL_mk, frR_mk, frL_fold, frR_fold, fr_ite, frO_ite,
      frM_ite, frL_ite, frR_ite, ite_self, implies_true, fr_foldl, frL_foldl, frR_foldl, fr_migOpen, fr_migSave]))

theorem fr_execMigrationMove {W s0} {s : State} (h : Fr W s0 s) (w : Within [.mem, .memBad, .memCorr, .memCe,
    .memUe, .streams, .waiting, .baskets, .pans, .pots, .scales, .fastQ, .dzf, .hq, .dev, .evq] W) (x0) : FrO W s0
    (execMigrationMove x0 s) := by
  unfold execMigrationMove
  simp only [within_cons, within_nil, and_true] at w
  simp +contextual (maxDischargeDepth := 40) only [h, w, within_cons, within_nil, and_self, frO_next, frO_fault,
      frM_some, frM_none, frL_mk, frR_mk, frL_fold, frR_fold, fr_ite, frO_ite, frM_ite, frL_ite, frR_ite, ite_self,
      implies_true, fr_foldl, frL_foldl, frR_foldl, fr_guard, fr_migMove]

/-! ## Links -/

theorem fr_putJoin {W s0} {s : State} (h : Fr W s0 s) (w : Within [.joins] W) (x1 x2 x3 x4) : Fr W s0
    (State.putJoin s x1 x2 x3 x4) := by
  unfold State.putJoin
  simp only [within_cons, within_nil, and_true] at w
  simp +contextual (maxDischargeDepth := 40) only [h, w, within_cons, within_nil, and_self, frO_next, frO_fault,
      frM_some, frM_none, frL_mk, frR_mk, frL_fold, frR_fold, fr_ite, frO_ite, frM_ite, frL_ite, frR_ite, ite_self,
      implies_true, fr_foldl, frL_foldl, frR_foldl, fr_mk_joins]

theorem fr_greet {W s0} {s : State} (h : Fr W s0 s) (w : Within [.joins] W) (x1) : Fr W s0 (State.greet s x1) := by
  unfold State.greet
  simp only [within_cons, within_nil, and_true] at w
  simp +contextual (maxDischargeDepth := 40) only [h, w, within_cons, within_nil, and_self, frO_next, frO_fault,
      frM_some, frM_none, frL_mk, frR_mk, frL_fold, frR_fold, fr_ite, frO_ite, frM_ite, frL_ite, frR_ite, ite_self,
      implies_true, fr_foldl, frL_foldl, frR_foldl, fr_putJoin]

theorem fr_follow {W s0} {s : State} (h : Fr W s0 s) (w : Within [.dzf, .joins] W) (x1 x2 x3) : Fr W s0
    (State.follow s x1 x2 x3) := by
  unfold State.follow
  simp only [within_cons, within_nil, and_true] at w
  simp +contextual (maxDischargeDepth := 40) only [h, w, within_cons, within_nil, and_self, frO_next, frO_fault,
      frM_some, frM_none, frL_mk, frR_mk, frL_fold, frR_fold, fr_ite, frO_ite, frM_ite, frL_ite, frR_ite, ite_self,
      implies_true, fr_foldl, frL_foldl, frR_foldl, fr_mk_dzf, fr_greet]

theorem fr_adopt {W s0} {s : State} (h : Fr W s0 s) (w : Within [.dzf, .joins] W) : Fr W s0 (State.adopt s) := by
  unfold State.adopt
  simp only [within_cons, within_nil, and_true] at w
  all_goals repeat' (split <;> (try simp +contextual (maxDischargeDepth := 40) only [h, w, within_cons, within_nil,
      and_self, frO_next, frO_fault, frM_some, frM_none, frL_mk, frR_mk, frL_fold, frR_fold, fr_ite, frO_ite,
      frM_ite, frL_ite, frR_ite, ite_self, implies_true, fr_foldl, frL_foldl, frR_foldl, fr_mk_dzf, fr_follow]))

theorem fr_portTo {W s0} {s : State} (h : Fr W s0 s) (w : Within [.freeCtr, .dzf, .evq, .tx, .joins] W) (x1 x2) :
    Fr W s0 (State.portTo s x1 x2) := by
  unfold State.portTo
  simp only [within_cons, within_nil, and_true] at w
  simp +contextual (maxDischargeDepth := 40) only [h, w, within_cons, within_nil, and_self, frO_next, frO_fault,
      frM_some, frM_none, frL_mk, frR_mk, frL_fold, frR_fold, fr_ite, frO_ite, frM_ite, frL_ite, frR_ite, ite_self,
      implies_true, fr_foldl, frL_foldl, frR_foldl, fr_adopt, fr_setPort, fr_reroute]

theorem fr_retirePort {W s0} {s : State} (h : Fr W s0 s) (w : Within [.freeCtr, .dzf, .trv, .evq, .tx, .joins] W)
    (x1 x2) : Fr W s0 (State.retirePort s x1 x2) := by
  unfold State.retirePort
  simp only [within_cons, within_nil, and_true] at w
  simp +contextual (maxDischargeDepth := 40) only [h, w, within_cons, within_nil, and_self, frO_next, frO_fault,
      frM_some, frM_none, frL_mk, frR_mk, frL_fold, frR_fold, fr_ite, frO_ite, frM_ite, frL_ite, frR_ite, ite_self,
      implies_true, fr_foldl, frL_foldl, frR_foldl, fr_setPort, fr_bbrPut, fr_raise, fr_portTo]

theorem fr_portDown {W s0} {s : State} (h : Fr W s0 s) (w : Within [.freeCtr, .dzf, .trv, .evq, .tx, .joins] W)
    (x1) : Fr W s0 (State.portDown s x1) := by
  unfold State.portDown
  simp only [within_cons, within_nil, and_true] at w
  simp +contextual (maxDischargeDepth := 40) only [h, w, within_cons, within_nil, and_self, frO_next, frO_fault,
      frM_some, frM_none, frL_mk, frR_mk, frL_fold, frR_fold, fr_ite, frO_ite, frM_ite, frL_ite, frR_ite, ite_self,
      implies_true, fr_foldl, frL_foldl, frR_foldl, fr_portTo, fr_setPort, fr_retirePort]

theorem fr_portDark {W s0} {s : State} (h : Fr W s0 s) (w : Within [.freeCtr, .dzf, .trv, .evq, .tx, .joins] W)
    (x1) : Fr W s0 (State.portDark s x1) := by
  unfold State.portDark
  simp only [within_cons, within_nil, and_true] at w
  simp +contextual (maxDischargeDepth := 40) only [h, w, within_cons, within_nil, and_self, frO_next, frO_fault,
      frM_some, frM_none, frL_mk, frR_mk, frL_fold, frR_fold, fr_ite, frO_ite, frM_ite, frL_ite, frR_ite, ite_self,
      implies_true, fr_foldl, frL_foldl, frR_foldl, fr_portTo, fr_portDown]

theorem fr_quadPortsDown {W s0} {s : State} (h : Fr W s0 s) (w : Within [.freeCtr, .dzf, .trv, .evq, .tx, .joins]
    W) (x1) : Fr W s0 (State.quadPortsDown s x1) := by
  unfold State.quadPortsDown
  simp only [within_cons, within_nil, and_true] at w
  simp +contextual (maxDischargeDepth := 40) only [h, w, within_cons, within_nil, and_self, frO_next, frO_fault,
      frM_some, frM_none, frL_mk, frR_mk, frL_fold, frR_fold, fr_ite, frO_ite, frM_ite, frL_ite, frR_ite, ite_self,
      implies_true, fr_foldl, frL_foldl, frR_foldl, fr_portDark]

/-! ## Basket control -/

theorem fr_takeStaged {W s0} {s : State} (h : Fr W s0 s) (w : Within [.baskets, .pans] W) (x1 x2) : Fr W s0
    (takeStaged s x1 x2) := by
  unfold takeStaged
  simp only [within_cons, within_nil, and_true] at w
  all_goals repeat' (split <;> (try simp +contextual (maxDischargeDepth := 40) only [h, w, within_cons, within_nil,
      and_self, frO_next, frO_fault, frM_some, frM_none, frL_mk, frR_mk, frL_fold, frR_fold, fr_ite, frO_ite,
      frM_ite, frL_ite, frR_ite, ite_self, implies_true, fr_foldl, frL_foldl, frR_foldl, fr_setBsk, fr_setPan]))

theorem fr_takeClass {W s0} {s : State} (h : Fr W s0 s) (w : Within [.mem, .memBad, .memCorr, .memCe, .memUe,
    .streams, .waiting, .baskets, .pans, .pots, .fastQ, .cal, .dzf, .hq, .trv, .dev, .evq, .msix, .mgmt] W) (x1) :
    Fr W s0 (State.takeClass s x1) := by
  unfold State.takeClass
  simp only [within_cons, within_nil, and_true] at w
  try simp +contextual (maxDischargeDepth := 40) only [h, w, within_cons, within_nil, and_self, frO_next,
      frO_fault, frM_some, frM_none, frL_mk, frR_mk, frL_fold, frR_fold, fr_ite, frO_ite, frM_ite, frL_ite,
      frR_ite, ite_self, implies_true, fr_foldl, frL_foldl, frR_foldl, fr_setBsk, fr_tellSpares, fr_setPan,
      fr_retireBasket]
  all_goals repeat' (split <;> (try simp +contextual (maxDischargeDepth := 40) only [h, w, within_cons, within_nil,
      and_self, frO_next, frO_fault, frM_some, frM_none, frL_mk, frR_mk, frL_fold, frR_fold, fr_ite, frO_ite,
      frM_ite, frL_ite, frR_ite, ite_self, implies_true, fr_foldl, frL_foldl, frR_foldl, fr_setBsk, fr_tellSpares,
      fr_setPan, fr_retireBasket]))

theorem fr_makeDue {W s0} {s : State} (h : Fr W s0 s) (w : Within [.baskets] W) (x1) : Fr W s0 (State.makeDue s x1) := by
  unfold State.makeDue
  simp only [within_cons, within_nil, and_true] at w
  simp +contextual (maxDischargeDepth := 40) only [h, w, within_cons, within_nil, and_self, frO_next, frO_fault,
      frM_some, frM_none, frL_mk, frR_mk, frL_fold, frR_fold, fr_ite, frO_ite, frM_ite, frL_ite, frR_ite, ite_self,
      implies_true, fr_foldl, frL_foldl, frR_foldl, fr_setBsk]

theorem fr_commitBsk {W s0} {s : State} (h : Fr W s0 s) (w : Within [.mem, .memBad, .memCorr, .memCe, .memUe,
    .streams, .waiting, .baskets, .pans, .pots, .fastQ, .cal, .dzf, .hq, .trv, .dev, .evq, .msix, .mgmt] W) (x1) :
    Fr W s0 (State.commitBsk s x1) := by
  unfold State.commitBsk
  simp only [within_cons, within_nil, and_true] at w
  simp +contextual (maxDischargeDepth := 40) only [h, w, within_cons, within_nil, and_self, frO_next, frO_fault,
      frM_some, frM_none, frL_mk, frR_mk, frL_fold, frR_fold, fr_ite, frO_ite, frM_ite, frL_ite, frR_ite, ite_self,
      implies_true, fr_foldl, frL_foldl, frR_foldl, fr_takeStaged, fr_setBsk, fr_testTurn, fr_settleBsk,
      fr_remargin, fr_takeClass]

theorem fr_toWarming {W s0} {s : State} (h : Fr W s0 s) (w : Within [.baskets] W) (x1) : Fr W s0 (State.toWarming s
    x1) := by
  unfold State.toWarming
  simp only [within_cons, within_nil, and_true] at w
  simp +contextual (maxDischargeDepth := 40) only [h, w, within_cons, within_nil, and_self, frO_next, frO_fault,
      frM_some, frM_none, frL_mk, frR_mk, frL_fold, frR_fold, fr_ite, frO_ite, frM_ite, frL_ite, frR_ite, ite_self,
      implies_true, fr_foldl, frL_foldl, frR_foldl, fr_setBsk]

theorem fr_ignBsk {W s0} {s : State} (h : Fr W s0 s) (w : Within [.baskets] W) (x1) : Fr W s0 (State.ignBsk s x1) := by
  unfold State.ignBsk
  simp only [within_cons, within_nil, and_true] at w
  simp +contextual (maxDischargeDepth := 40) only [h, w, within_cons, within_nil, and_self, frO_next, frO_fault,
      frM_some, frM_none, frL_mk, frR_mk, frL_fold, frR_fold, fr_ite, frO_ite, frM_ite, frL_ite, frR_ite, ite_self,
      implies_true, fr_foldl, frL_foldl, frR_foldl, fr_setBsk]

theorem fr_drainBsk {W s0} {s : State} (h : Fr W s0 s) (w : Within [.baskets, .pans, .cal, .trv, .evq, .msix,
    .mgmt] W) (x1 x2) : Fr W s0 (State.drainBsk s x1 x2) := by
  unfold State.drainBsk
  simp only [within_cons, within_nil, and_true] at w
  simp +contextual (maxDischargeDepth := 40) only [h, w, within_cons, within_nil, and_self, frO_next, frO_fault,
      frM_some, frM_none, frL_mk, frR_mk, frL_fold, frR_fold, fr_ite, frO_ite, frM_ite, frL_ite, frR_ite, ite_self,
      implies_true, fr_foldl, frL_foldl, frR_foldl, fr_abandonIn, fr_testTurn, fr_setBsk]

theorem fr_cmdStop {W s0} {s : State} (h : Fr W s0 s) (w : Within [.baskets, .pans, .cal, .trv, .evq, .msix, .mgmt]
    W) (x1) : Fr W s0 (State.cmdStop s x1) := by
  unfold State.cmdStop
  simp only [within_cons, within_nil, and_true] at w
  try simp +contextual (maxDischargeDepth := 40) only [h, w, within_cons, within_nil, and_self, frO_next,
      frO_fault, frM_some, frM_none, frL_mk, frR_mk, frL_fold, frR_fold, fr_ite, frO_ite, frM_ite, frL_ite,
      frR_ite, ite_self, implies_true, fr_foldl, frL_foldl, frR_foldl, fr_drainBsk, fr_setBsk, fr_ignBsk]
  all_goals repeat' (split <;> (try simp +contextual (maxDischargeDepth := 40) only [h, w, within_cons, within_nil,
      and_self, frO_next, frO_fault, frM_some, frM_none, frL_mk, frR_mk, frL_fold, frR_fold, fr_ite, frO_ite,
      frM_ite, frL_ite, frR_ite, ite_self, implies_true, fr_foldl, frL_foldl, frR_foldl, fr_drainBsk, fr_setBsk,
      fr_ignBsk]))

theorem fr_cmdCommit {W s0} {s : State} (h : Fr W s0 s) (w : Within [.mem, .memBad, .memCorr, .memCe, .memUe,
    .streams, .waiting, .baskets, .pans, .pots, .fastQ, .cal, .dzf, .hq, .trv, .dev, .evq, .msix, .mgmt] W) (x1) :
    Fr W s0 (State.cmdCommit s x1) := by
  unfold State.cmdCommit
  simp only [within_cons, within_nil, and_true] at w
  try simp +contextual (maxDischargeDepth := 40) only [h, w, within_cons, within_nil, and_self, frO_next,
      frO_fault, frM_some, frM_none, frL_mk, frR_mk, frL_fold, frR_fold, fr_ite, frO_ite, frM_ite, frL_ite,
      frR_ite, ite_self, implies_true, fr_foldl, frL_foldl, frR_foldl, fr_commitBsk, fr_setBsk, fr_ignBsk]
  all_goals repeat' (split <;> (try simp +contextual (maxDischargeDepth := 40) only [h, w, within_cons, within_nil,
      and_self, frO_next, frO_fault, frM_some, frM_none, frL_mk, frR_mk, frL_fold, frR_fold, fr_ite, frO_ite,
      frM_ite, frL_ite, frR_ite, ite_self, implies_true, fr_foldl, frL_foldl, frR_foldl, fr_commitBsk, fr_setBsk,
      fr_ignBsk]))

theorem fr_cmdOff {W s0} {s : State} (h : Fr W s0 s) (w : Within [.baskets, .pans, .cal, .trv, .evq, .msix, .mgmt]
    W) (x1) : Fr W s0 (State.cmdOff s x1) := by
  unfold State.cmdOff
  simp only [within_cons, within_nil, and_true] at w
  all_goals repeat' (split <;> (try simp +contextual (maxDischargeDepth := 40) only [h, w, within_cons, within_nil,
      and_self, frO_next, frO_fault, frM_some, frM_none, frL_mk, frR_mk, frL_fold, frR_fold, fr_ite, frO_ite,
      frM_ite, frL_ite, frR_ite, ite_self, implies_true, fr_foldl, frL_foldl, frR_foldl, fr_ignBsk, fr_drainBsk,
      fr_setBsk]))

theorem fr_cmdOn {W s0} {s : State} (h : Fr W s0 s) (w : Within [.baskets] W) (x1) : Fr W s0 (State.cmdOn s x1) := by
  unfold State.cmdOn
  simp only [within_cons, within_nil, and_true] at w
  try simp +contextual (maxDischargeDepth := 40) only [h, w, within_cons, within_nil, and_self, frO_next,
      frO_fault, frM_some, frM_none, frL_mk, frR_mk, frL_fold, frR_fold, fr_ite, frO_ite, frM_ite, frL_ite,
      frR_ite, ite_self, implies_true, fr_foldl, frL_foldl, frR_foldl, fr_toWarming, fr_setBsk, fr_ignBsk]
  all_goals repeat' (split <;> (try simp +contextual (maxDischargeDepth := 40) only [h, w, within_cons, within_nil,
      and_self, frO_next, frO_fault, frM_some, frM_none, frL_mk, frR_mk, frL_fold, frR_fold, fr_ite, frO_ite,
      frM_ite, frL_ite, frR_ite, ite_self, implies_true, fr_foldl, frL_foldl, frR_foldl, fr_toWarming, fr_setBsk,
      fr_ignBsk]))

theorem fr_resetBsk {W s0} {s : State} (h : Fr W s0 s) (w : Within [.mem, .memBad, .memCorr, .memCe, .memUe,
    .streams, .waiting, .baskets, .pans, .pots, .scales, .tokens, .fastQ, .cal, .dzf, .hq, .trv, .dev, .evq, .msix,
    .mgmt] W) (x1) : Fr W s0 (State.resetBsk s x1) := by
  unfold State.resetBsk
  simp only [within_cons, within_nil, and_true] at w
  simp +contextual (maxDischargeDepth := 40) only [h, w, within_cons, within_nil, and_self, frO_next, frO_fault,
      frM_some, frM_none, frL_mk, frR_mk, frL_fold, frR_fold, fr_ite, frO_ite, frM_ite, frL_ite, frR_ite, ite_self,
      implies_true, fr_foldl, frL_foldl, frR_foldl, fr_mk_pots_scales_tokens_fastQ, fr_abandonIn, fr_evict,
      fr_setBsk, fr_setPan, fr_testTurn, fr_remargin]

theorem fr_cmdReset' {W s0} {s : State} (h : Fr W s0 s) (w : Within [.mem, .memBad, .memCorr, .memCe, .memUe,
    .streams, .waiting, .baskets, .pans, .pots, .scales, .tokens, .fastQ, .cal, .dzf, .hq, .trv, .dev, .evq, .msix,
    .mgmt] W) (x1) : Fr W s0 (State.cmdReset' s x1) := by
  unfold State.cmdReset'
  simp only [within_cons, within_nil, and_true] at w
  all_goals repeat' (split <;> (try simp +contextual (maxDischargeDepth := 40) only [h, w, within_cons, within_nil,
      and_self, frO_next, frO_fault, frM_some, frM_none, frL_mk, frR_mk, frL_fold, frR_fold, fr_ite, frO_ite,
      frM_ite, frL_ite, frR_ite, ite_self, implies_true, fr_foldl, frL_foldl, frR_foldl, fr_ignBsk, fr_resetBsk]))

theorem fr_bskCtl {W s0} {s : State} (h : Fr W s0 s) (w : Within [.mem, .memBad, .memCorr, .memCe, .memUe,
    .streams, .waiting, .baskets, .pans, .pots, .scales, .tokens, .fastQ, .cal, .dzf, .hq, .trv, .dev, .evq, .msix,
    .mgmt] W) (x1 x2) : Fr W s0 (State.bskCtl s x1 x2) := by
  unfold State.bskCtl
  simp only [within_cons, within_nil, and_true] at w
  all_goals repeat' (split <;> (try simp +contextual (maxDischargeDepth := 40) only [h, w, within_cons, within_nil,
      and_self, frO_next, frO_fault, frM_some, frM_none, frL_mk, frR_mk, frL_fold, frR_fold, fr_ite, frO_ite,
      frM_ite, frL_ite, frR_ite, ite_self, implies_true, fr_foldl, frL_foldl, frR_foldl, fr_cmdStop, fr_cmdCommit,
      fr_cmdReset', fr_cmdOff, fr_cmdOn, fr_ignBsk]))

theorem fr_execBasketStop {W s0} {s : State} (h : Fr W s0 s) (w : Within [.baskets, .pans, .cal, .trv, .evq, .msix,
    .mgmt] W) (x0) : FrO W s0 (execBasketStop x0 s) := by
  unfold execBasketStop
  simp only [within_cons, within_nil, and_true] at w
  simp +contextual (maxDischargeDepth := 40) only [h, w, within_cons, within_nil, and_self, frO_next, frO_fault,
      frM_some, frM_none, frL_mk, frR_mk, frL_fold, frR_fold, fr_ite, frO_ite, frM_ite, frL_ite, frR_ite, ite_self,
      implies_true, fr_foldl, frL_foldl, frR_foldl, fr_guard, fr_cmdStop]

theorem fr_execBasketCommit {W s0} {s : State} (h : Fr W s0 s) (w : Within [.mem, .memBad, .memCorr, .memCe,
    .memUe, .streams, .waiting, .baskets, .pans, .pots, .fastQ, .cal, .dzf, .hq, .trv, .dev, .evq, .msix, .mgmt] W)
    (x0) : FrO W s0 (execBasketCommit x0 s) := by
  unfold execBasketCommit
  simp only [within_cons, within_nil, and_true] at w
  simp +contextual (maxDischargeDepth := 40) only [h, w, within_cons, within_nil, and_self, frO_next, frO_fault,
      frM_some, frM_none, frL_mk, frR_mk, frL_fold, frR_fold, fr_ite, frO_ite, frM_ite, frL_ite, frR_ite, ite_self,
      implies_true, fr_foldl, frL_foldl, frR_foldl, fr_guard, fr_cmdCommit]

theorem fr_execBasketOff {W s0} {s : State} (h : Fr W s0 s) (w : Within [.baskets, .pans, .cal, .trv, .evq, .msix,
    .mgmt] W) (x0) : FrO W s0 (execBasketOff x0 s) := by
  unfold execBasketOff
  simp only [within_cons, within_nil, and_true] at w
  simp +contextual (maxDischargeDepth := 40) only [h, w, within_cons, within_nil, and_self, frO_next, frO_fault,
      frM_some, frM_none, frL_mk, frR_mk, frL_fold, frR_fold, fr_ite, frO_ite, frM_ite, frL_ite, frR_ite, ite_self,
      implies_true, fr_foldl, frL_foldl, frR_foldl, fr_guard, fr_cmdOff]

theorem fr_execBasketOn {W s0} {s : State} (h : Fr W s0 s) (w : Within [.baskets] W) (x0) : FrO W s0 (execBasketOn
    x0 s) := by
  unfold execBasketOn
  simp only [within_cons, within_nil, and_true] at w
  simp +contextual (maxDischargeDepth := 40) only [h, w, within_cons, within_nil, and_self, frO_next, frO_fault,
      frM_some, frM_none, frL_mk, frR_mk, frL_fold, frR_fold, fr_ite, frO_ite, frM_ite, frL_ite, frR_ite, ite_self,
      implies_true, fr_foldl, frL_foldl, frR_foldl, fr_guard, fr_cmdOn]

theorem fr_execBasketReset {W s0} {s : State} (h : Fr W s0 s) (w : Within [.mem, .memBad, .memCorr, .memCe, .memUe,
    .streams, .waiting, .baskets, .pans, .pots, .scales, .tokens, .fastQ, .cal, .dzf, .hq, .trv, .dev, .evq, .msix,
    .mgmt] W) (x0) : FrO W s0 (execBasketReset x0 s) := by
  unfold execBasketReset
  simp only [within_cons, within_nil, and_true] at w
  simp +contextual (maxDischargeDepth := 40) only [h, w, within_cons, within_nil, and_self, frO_next, frO_fault,
      frM_some, frM_none, frL_mk, frR_mk, frL_fold, frR_fold, fr_ite, frO_ite, frM_ite, frL_ite, frR_ite, ite_self,
      implies_true, fr_foldl, frL_foldl, frR_foldl, fr_guard, fr_cmdReset']

theorem fr_drained {W s0} {s : State} (h : Fr W s0 s) (w : Within [.mem, .memBad, .memCorr, .memCe, .memUe,
    .streams, .waiting, .baskets, .pans, .pots, .fastQ, .cal, .dzf, .hq, .trv, .dev, .evq, .msix, .mgmt] W) (x1) :
    Fr W s0 (State.drained s x1) := by
  unfold State.drained
  simp only [within_cons, within_nil, and_true] at w
  try simp +contextual (maxDischargeDepth := 40) only [h, w, within_cons, within_nil, and_self, frO_next,
      frO_fault, frM_some, frM_none, frL_mk, frR_mk, frL_fold, frR_fold, fr_ite, frO_ite, frM_ite, frL_ite,
      frR_ite, ite_self, implies_true, fr_foldl, frL_foldl, frR_foldl, fr_setBsk, fr_commitBsk, fr_toWarming]
  all_goals repeat' (split <;> (try simp +contextual (maxDischargeDepth := 40) only [h, w, within_cons, within_nil,
      and_self, frO_next, frO_fault, frM_some, frM_none, frL_mk, frR_mk, frL_fold, frR_fold, fr_ite, frO_ite,
      frM_ite, frL_ite, frR_ite, ite_self, implies_true, fr_foldl, frL_foldl, frR_foldl, fr_setBsk, fr_commitBsk,
      fr_toWarming]))

theorem fr_execBasketDrained {W s0} {s : State} (h : Fr W s0 s) (w : Within [.mem, .memBad, .memCorr, .memCe,
    .memUe, .streams, .waiting, .baskets, .pans, .pots, .fastQ, .cal, .dzf, .hq, .trv, .dev, .evq, .msix, .mgmt] W)
    (x0) : FrO W s0 (execBasketDrained x0 s) := by
  unfold execBasketDrained
  simp only [within_cons, within_nil, and_true] at w
  simp +contextual (maxDischargeDepth := 40) only [h, w, within_cons, within_nil, and_self, frO_next, frO_fault,
      frM_some, frM_none, frL_mk, frR_mk, frL_fold, frR_fold, fr_ite, frO_ite, frM_ite, frL_ite, frR_ite, ite_self,
      implies_true, fr_foldl, frL_foldl, frR_foldl, fr_guard, fr_drained]

theorem fr_warmed {W s0} {s : State} (h : Fr W s0 s) (w : Within [.baskets] W) (x1) : Fr W s0 (State.warmed s x1) := by
  unfold State.warmed
  simp only [within_cons, within_nil, and_true] at w
  simp +contextual (maxDischargeDepth := 40) only [h, w, within_cons, within_nil, and_self, frO_next, frO_fault,
      frM_some, frM_none, frL_mk, frR_mk, frL_fold, frR_fold, fr_ite, frO_ite, frM_ite, frL_ite, frR_ite, ite_self,
      implies_true, fr_foldl, frL_foldl, frR_foldl, fr_setBsk, fr_testTurn, fr_settleBsk]

theorem fr_execWarmingEnd {W s0} {s : State} (h : Fr W s0 s) (w : Within [.mem, .memBad, .memCorr, .memCe, .memUe,
    .streams, .waiting, .baskets, .pans, .pots, .fastQ, .cal, .dzf, .hq, .trv, .dev, .evq, .msix, .mgmt] W) (x0) :
    FrO W s0 (execWarmingEnd x0 s) := by
  unfold execWarmingEnd
  simp only [within_cons, within_nil, and_true] at w
  simp +contextual (maxDischargeDepth := 40) only [h, w, within_cons, within_nil, and_self, frO_next, frO_fault,
      frM_some, frM_none, frL_mk, frR_mk, frL_fold, frR_fold, fr_ite, frO_ite, frM_ite, frL_ite, frR_ite, ite_self,
      implies_true, fr_foldl, frL_foldl, frR_foldl, fr_guard, fr_warmed, fr_retireBasket]

theorem fr_scaleClass {W s0} {s : State} (h : Fr W s0 s) (w : Within [.baskets, .dev] W) (x1) : Fr W s0
    (State.scaleClass s x1) := by
  unfold State.scaleClass
  simp only [within_cons, within_nil, and_true] at w
  simp +contextual (maxDischargeDepth := 40) only [h, w, within_cons, within_nil, and_self, frO_next, frO_fault,
      frM_some, frM_none, frL_mk, frR_mk, frL_fold, frR_fold, fr_ite, frO_ite, frM_ite, frL_ite, frR_ite, ite_self,
      implies_true, fr_foldl, frL_foldl, frR_foldl, fr_mk_dev, fr_setBsk]

theorem fr_execScaleClassWrite {W s0} {s : State} (h : Fr W s0 s) (w : Within [.baskets, .dev] W) (x0) : FrO W s0
    (execScaleClassWrite x0 s) := by
  unfold execScaleClassWrite
  simp only [within_cons, within_nil, and_true] at w
  simp +contextual (maxDischargeDepth := 40) only [h, w, within_cons, within_nil, and_self, frO_next, frO_fault,
      frM_some, frM_none, frL_mk, frR_mk, frL_fold, frR_fold, fr_ite, frO_ite, frM_ite, frL_ite, frR_ite, ite_self,
      implies_true, fr_foldl, frL_foldl, frR_foldl, fr_scaleClass]

theorem fr_seqClear {W s0} {s : State} (h : Fr W s0 s) (w : Within [.baskets, .tokens, .globals] W) (x1) : Fr W s0
    (State.seqClear s x1) := by
  unfold State.seqClear
  simp only [within_cons, within_nil, and_true] at w
  simp +contextual (maxDischargeDepth := 40) only [h, w, within_cons, within_nil, and_self, frO_next, frO_fault,
      frM_some, frM_none, frL_mk, frR_mk, frL_fold, frR_fold, fr_ite, frO_ite, frM_ite, frL_ite, frR_ite, ite_self,
      implies_true, fr_foldl, frL_foldl, frR_foldl, fr_mk_tokens_globals, fr_setBsk]

theorem fr_wskClear {W s0} {s : State} (h : Fr W s0 s) (w : Within [.baskets] W) (x1) : Fr W s0 (State.wskClear s
    x1) := by
  unfold State.wskClear
  simp only [within_cons, within_nil, and_true] at w
  simp +contextual (maxDischargeDepth := 40) only [h, w, within_cons, within_nil, and_self, frO_next, frO_fault,
      frM_some, frM_none, frL_mk, frR_mk, frL_fold, frR_fold, fr_ite, frO_ite, frM_ite, frL_ite, frR_ite, ite_self,
      implies_true, fr_foldl, frL_foldl, frR_foldl, fr_setBsk]

theorem fr_rdoClear {W s0} {s : State} (h : Fr W s0 s) (w : Within [.baskets] W) (x1) : Fr W s0 (State.rdoClear s
    x1) := by
  unfold State.rdoClear
  simp only [within_cons, within_nil, and_true] at w
  simp +contextual (maxDischargeDepth := 40) only [h, w, within_cons, within_nil, and_self, frO_next, frO_fault,
      frM_some, frM_none, frL_mk, frR_mk, frL_fold, frR_fold, fr_ite, frO_ite, frM_ite, frL_ite, frR_ite, ite_self,
      implies_true, fr_foldl, frL_foldl, frR_foldl, fr_setBsk]

theorem fr_execSeqCntClr {W s0} {s : State} (h : Fr W s0 s) (w : Within [.baskets, .tokens, .globals] W) (x0) : FrO
    W s0 (execSeqCntClr x0 s) := by
  unfold execSeqCntClr
  simp only [within_cons, within_nil, and_true] at w
  simp +contextual (maxDischargeDepth := 40) only [h, w, within_cons, within_nil, and_self, frO_next, frO_fault,
      frM_some, frM_none, frL_mk, frR_mk, frL_fold, frR_fold, fr_ite, frO_ite, frM_ite, frL_ite, frR_ite, ite_self,
      implies_true, fr_foldl, frL_foldl, frR_foldl, fr_guard, fr_seqClear]

theorem fr_execWskCntClr {W s0} {s : State} (h : Fr W s0 s) (w : Within [.baskets] W) (x0) : FrO W s0
    (execWskCntClr x0 s) := by
  unfold execWskCntClr
  simp only [within_cons, within_nil, and_true] at w
  simp +contextual (maxDischargeDepth := 40) only [h, w, within_cons, within_nil, and_self, frO_next, frO_fault,
      frM_some, frM_none, frL_mk, frR_mk, frL_fold, frR_fold, fr_ite, frO_ite, frM_ite, frL_ite, frR_ite, ite_self,
      implies_true, fr_foldl, frL_foldl, frR_foldl, fr_guard, fr_wskClear]

theorem fr_execRdoCntClr {W s0} {s : State} (h : Fr W s0 s) (w : Within [.baskets] W) (x0) : FrO W s0
    (execRdoCntClr x0 s) := by
  unfold execRdoCntClr
  simp only [within_cons, within_nil, and_true] at w
  simp +contextual (maxDischargeDepth := 40) only [h, w, within_cons, within_nil, and_self, frO_next, frO_fault,
      frM_some, frM_none, frL_mk, frR_mk, frL_fold, frR_fold, fr_ite, frO_ite, frM_ite, frL_ite, frR_ite, ite_self,
      implies_true, fr_foldl, frL_foldl, frR_foldl, fr_guard, fr_rdoClear]

theorem fr_rampBsk {W s0} {s : State} (h : Fr W s0 s) (w : Within [.baskets, .pans] W) (x1 x2 x3) : Fr W s0
    (State.rampBsk s x1 x2 x3) := by
  unfold State.rampBsk
  simp only [within_cons, within_nil, and_true] at w
  simp +contextual (maxDischargeDepth := 40) only [h, w, within_cons, within_nil, and_self, frO_next, frO_fault,
      frM_some, frM_none, frL_mk, frR_mk, frL_fold, frR_fold, fr_ite, frO_ite, frM_ite, frL_ite, frR_ite, ite_self,
      implies_true, fr_foldl, frL_foldl, frR_foldl, fr_setBsk, fr_setPan]

theorem fr_startMeasure {W s0} {s : State} (h : Fr W s0 s) (w : Within [.pans, .cal] W) : Fr W s0
    (State.startMeasure s) := by
  unfold State.startMeasure
  simp only [within_cons, within_nil, and_true] at w
  all_goals repeat' (split <;> (try simp +contextual (maxDischargeDepth := 40) only [h, w, within_cons, within_nil,
      and_self, frO_next, frO_fault, frM_some, frM_none, frL_mk, frR_mk, frL_fold, frR_fold, fr_ite, frO_ite,
      frM_ite, frL_ite, frR_ite, ite_self, implies_true, fr_foldl, frL_foldl, frR_foldl, fr_mk_cal, fr_setPan]))

theorem fr_ramp {W s0} {s : State} (h : Fr W s0 s) (w : Within [.time, .baskets, .pans, .cal, .dev] W) (x1 x2) :
    Fr W s0 (State.ramp s x1 x2) := by
  unfold State.ramp
  simp only [within_cons, within_nil, and_true] at w
  simp +contextual (maxDischargeDepth := 40) only [h, w, within_cons, within_nil, and_self, frO_next, frO_fault,
      frM_some, frM_none, frL_mk, frR_mk, frL_fold, frR_fold, fr_ite, frO_ite, frM_ite, frL_ite, frR_ite, ite_self,
      implies_true, fr_foldl, frL_foldl, frR_foldl, fr_mk_cal, fr_mk_dev, fr_at, fr_startMeasure, fr_rampBsk]

theorem fr_execRampInterval {W s0} {s : State} (h : Fr W s0 s) (w : Within [.time, .baskets, .pans, .cal,
    .dev] W) (x0 x1) : FrO W s0 (execRampInterval x0 x1 s) := by
  unfold execRampInterval
  simp only [within_cons, within_nil, and_true] at w
  simp +contextual (maxDischargeDepth := 40) only [h, w, within_cons, within_nil, and_self, frO_next, frO_fault,
      frM_some, frM_none, frL_mk, frR_mk, frL_fold, frR_fold, fr_ite, frO_ite, frM_ite, frL_ite, frR_ite, ite_self,
      implies_true, fr_foldl, frL_foldl, frR_foldl, fr_ramp]

theorem fr_stepDown {W s0} {s : State} (h : Fr W s0 s) (w : Within [.baskets, .trv, .msix, .mgmt] W) (x1) : Fr W s0
    (State.stepDown s x1) := by
  unfold State.stepDown
  simp only [within_cons, within_nil, and_true] at w
  try simp +contextual (maxDischargeDepth := 40) only [h, w, within_cons, within_nil, and_self, frO_next,
      frO_fault, frM_some, frM_none, frL_mk, frR_mk, frL_fold, frR_fold, fr_ite, frO_ite, frM_ite, frL_ite,
      frR_ite, ite_self, implies_true, fr_foldl, frL_foldl, frR_foldl, fr_setBsk, fr_condition]
  all_goals repeat' (split <;> (try simp +contextual (maxDischargeDepth := 40) only [h, w, within_cons, within_nil,
      and_self, frO_next, frO_fault, frM_some, frM_none, frL_mk, frR_mk, frL_fold, frR_fold, fr_ite, frO_ite,
      frM_ite, frL_ite, frR_ite, ite_self, implies_true, fr_foldl, frL_foldl, frR_foldl, fr_setBsk, fr_condition]))

theorem fr_stepUp {W s0} {s : State} (h : Fr W s0 s) (w : Within [.baskets] W) : Fr W s0 (State.stepUp s) := by
  unfold State.stepUp
  simp only [within_cons, within_nil, and_true] at w
  try simp +contextual (maxDischargeDepth := 40) only [h, w, within_cons, within_nil, and_self, frO_next,
      frO_fault, frM_some, frM_none, frL_mk, frR_mk, frL_fold, frR_fold, fr_ite, frO_ite, frM_ite, frL_ite,
      frR_ite, ite_self, implies_true, fr_foldl, frL_foldl, frR_foldl, fr_setBsk]
  all_goals repeat' (split <;> (try simp +contextual (maxDischargeDepth := 40) only [h, w, within_cons, within_nil,
      and_self, frO_next, frO_fault, frM_some, frM_none, frL_mk, frR_mk, frL_fold, frR_fold, fr_ite, frO_ite,
      frM_ite, frL_ite, frR_ite, ite_self, implies_true, fr_foldl, frL_foldl, frR_foldl, fr_setBsk]))

theorem fr_govern {W s0} {s : State} (h : Fr W s0 s) (w : Within [.time, .baskets, .trv, .dev, .msix, .mgmt] W) : Fr W s0 (State.govern s) := by
  unfold State.govern
  extract_lets k u d s1 lim p
  have hd : ∀ {u : State} (d : Dev), Fr W s0 u → Fr W s0 { u with dev := d } := fun d hu => fr_mk_dev hu (within_mem w _ (by decide)) d
  have h1 : Fr W s0 s1 := hd _ (fr_at (w := within_mono w) h _)
  clear_value s1
  split
  · exact fr_stepDown (w := within_mono w) (hd _ h1) _
  · split
    · exact fr_dite (fr_stepUp (w := within_mono w) (hd _ h1)) (hd _ h1)
    · exact hd _ h1

theorem fr_execGovernorEval {W s0} {s : State} (h : Fr W s0 s) (w : Within [.time, .baskets, .trv, .dev, .msix,
    .mgmt] W) : FrO W s0 (execGovernorEval s) := by
  unfold execGovernorEval
  simp only [within_cons, within_nil, and_true] at w
  simp +contextual (maxDischargeDepth := 40) only [h, w, within_cons, within_nil, and_self, frO_next, frO_fault,
      frM_some, frM_none, frL_mk, frR_mk, frL_fold, frR_fold, fr_ite, frO_ite, frM_ite, frL_ite, frR_ite, ite_self,
      implies_true, fr_foldl, frL_foldl, frR_foldl, fr_govern]

theorem fr_rateChange {W s0} {s : State} (h : Fr W s0 s) (w : Within [.baskets, .pans] W) (x1) : Fr W s0
    (State.rateChange s x1) := by
  unfold State.rateChange
  simp only [within_cons, within_nil, and_true] at w
  try simp +contextual (maxDischargeDepth := 40) only [h, w, within_cons, within_nil, and_self, frO_next,
      frO_fault, frM_some, frM_none, frL_mk, frR_mk, frL_fold, frR_fold, fr_ite, frO_ite, frM_ite, frL_ite,
      frR_ite, ite_self, implies_true, fr_foldl, frL_foldl, frR_foldl, fr_remargin, fr_setBsk]
  all_goals repeat' (split <;> (try simp +contextual (maxDischargeDepth := 40) only [h, w, within_cons, within_nil,
      and_self, frO_next, frO_fault, frM_some, frM_none, frL_mk, frR_mk, frL_fold, frR_fold, fr_ite, frO_ite,
      frM_ite, frL_ite, frR_ite, ite_self, implies_true, fr_foldl, frL_foldl, frR_foldl, fr_remargin, fr_setBsk]))

theorem fr_execRateChange {W s0} {s : State} (h : Fr W s0 s) (w : Within [.baskets, .pans] W) (x0) : FrO W s0
    (execRateChange x0 s) := by
  unfold execRateChange
  simp only [within_cons, within_nil, and_true] at w
  simp +contextual (maxDischargeDepth := 40) only [h, w, within_cons, within_nil, and_self, frO_next, frO_fault,
      frM_some, frM_none, frL_mk, frR_mk, frL_fold, frR_fold, fr_ite, frO_ite, frM_ite, frL_ite, frR_ite, ite_self,
      implies_true, fr_foldl, frL_foldl, frR_foldl, fr_guard, fr_rateChange]

theorem fr_tapIn {W s0} {s : State} (h : Fr W s0 s) (w : Within [.pans] W) (x1) : Fr W s0 (State.tapIn s x1) := by
  unfold State.tapIn
  simp only [within_cons, within_nil, and_true] at w
  simp +contextual (maxDischargeDepth := 40) only [h, w, within_cons, within_nil, and_self, frO_next, frO_fault,
      frM_some, frM_none, frL_mk, frR_mk, frL_fold, frR_fold, fr_ite, frO_ite, frM_ite, frL_ite, frR_ite, ite_self,
      implies_true, fr_foldl, frL_foldl, frR_foldl, fr_setPan]

theorem fr_loseBlock {W s0} {s : State} (h : Fr W s0 s) (w : Within [.mem, .memBad, .memCorr, .memCe, .memUe,
    .streams, .waiting, .baskets, .pans, .pots, .fastQ, .dzf, .hq, .dev, .evq] W) (x1 x2 x3 x4) : Fr W s0
    (State.loseBlock s x1 x2 x3 x4) := by
  unfold State.loseBlock
  simp only [within_cons, within_nil, and_true] at w
  all_goals repeat' (split <;> (try simp +contextual (maxDischargeDepth := 40) only [h, w, within_cons, within_nil,
      and_self, frO_next, frO_fault, frM_some, frM_none, frL_mk, frR_mk, frL_fold, frR_fold, fr_ite, frO_ite,
      frM_ite, frL_ite, frR_ite, ite_self, implies_true, fr_foldl, frL_foldl, frR_foldl, fr_raiseX]))

theorem fr_coilBsk {W s0} {s : State} (h : Fr W s0 s) (w : Within [.mem, .memBad, .memCorr, .memCe, .memUe,
    .streams, .waiting, .baskets, .pans, .pots, .fastQ, .cal, .dzf, .hq, .trv, .dev, .evq, .msix, .mgmt] W) (x1 x2)
    : Fr W s0 (State.coilBsk s x1 x2) := by
  have hk := h
  unfold State.coilBsk
  simp only [within_cons, within_nil, and_true] at w
  try simp +contextual (maxDischargeDepth := 40) only [h, w, within_cons, within_nil, and_self, frO_next,
      frO_fault, frM_some, frM_none, frL_mk, frR_mk, frL_fold, frR_fold, fr_ite, frO_ite, frM_ite, frL_ite,
      frR_ite, ite_self, implies_true, fr_foldl, frL_foldl, frR_foldl, fr_loseBlock, fr_toWarming, fr_abandonIn,
      fr_setBsk, fr_setPan, fr_testTurn]
  all_goals repeat' ((try extract_lets) <;> split <;> (try (rename_i heq; first | have hk := frR_eq (W := W) (s0 := s0) (by simp +contextual (maxDischargeDepth := 40) only [hk, h, w, within_cons, within_nil, and_self, frO_next, frO_fault, frM_some, frM_none, frL_mk, frR_mk, frL_fold, frR_fold, fr_ite, frO_ite, frM_ite, frL_ite, frR_ite, ite_self, implies_true, fr_foldl, frL_foldl, frR_foldl, fr_loseBlock, fr_toWarming, fr_abandonIn, fr_setBsk, fr_setPan, fr_testTurn]) heq | have hk := frL_eq (W := W) (s0 := s0) (by simp +contextual (maxDischargeDepth := 40) only [hk, h, w, within_cons, within_nil, and_self, frO_next, frO_fault, frM_some, frM_none, frL_mk, frR_mk, frL_fold, frR_fold, fr_ite, frO_ite, frM_ite, frL_ite, frR_ite, ite_self, implies_true, fr_foldl, frL_foldl, frR_foldl, fr_loseBlock, fr_toWarming, fr_abandonIn, fr_setBsk, fr_setPan, fr_testTurn]) heq | have hk := frM_eq (W := W) (s0 := s0) (by simp +contextual (maxDischargeDepth := 40) only [hk, h, w, within_cons, within_nil, and_self, frO_next, frO_fault, frM_some, frM_none, frL_mk, frR_mk, frL_fold, frR_fold, fr_ite, frO_ite, frM_ite, frL_ite, frR_ite, ite_self, implies_true, fr_foldl, frL_foldl, frR_foldl, fr_loseBlock, fr_toWarming, fr_abandonIn, fr_setBsk, fr_setPan, fr_testTurn]) heq)) <;> (try simp +contextual (maxDischargeDepth := 40) only [hk, h, w, within_cons, within_nil, and_self, frO_next, frO_fault, frM_some, frM_none, frL_mk, frR_mk, frL_fold, frR_fold, fr_ite, frO_ite, frM_ite, frL_ite, frR_ite, ite_self, implies_true, fr_foldl, frL_foldl, frR_foldl, fr_loseBlock, fr_toWarming, fr_abandonIn, fr_setBsk, fr_setPan, fr_testTurn]))

theorem fr_coilFault {W s0} {s : State} (h : Fr W s0 s) (w : Within [.freeCtr, .mem, .memBad, .memCorr, .memCe,
    .memUe, .streams, .waiting, .baskets, .pans, .pots, .fastQ, .cal, .dzf, .hq, .trv, .dev, .evq, .tx, .joins,
    .msix, .mgmt] W) (x1) : Fr W s0 (State.coilFault s x1) := by
  unfold State.coilFault
  simp only [within_cons, within_nil, and_true] at w
  all_goals repeat' (split <;> (try simp +contextual (maxDischargeDepth := 40) only [h, w, within_cons, within_nil,
      and_self, frO_next, frO_fault, frM_some, frM_none, frL_mk, frR_mk, frL_fold, frR_fold, fr_ite, frO_ite,
      frM_ite, frL_ite, frR_ite, ite_self, implies_true, fr_foldl, frL_foldl, frR_foldl, fr_quadPortsDown,
      fr_coilBsk]))

theorem fr_execTapRead {W s0} {s : State} (h : Fr W s0 s) (w : Within [.time, .freeCtr, .mem, .memBad, .memCorr,
    .memCe, .memUe, .streams, .waiting, .baskets, .pans, .pots, .fastQ, .cal, .dzf, .hq, .trv, .dev, .evq, .tx,
    .joins, .msix, .mgmt] W) (x0) : FrO W s0 (execTapRead x0 s) := by
  unfold execTapRead
  simp only [within_cons, within_nil, and_true] at w
  simp +contextual (maxDischargeDepth := 40) only [h, w, within_cons, within_nil, and_self, frO_next, frO_fault,
      frM_some, frM_none, frL_mk, frR_mk, frL_fold, frR_fold, fr_ite, frO_ite, frM_ite, frL_ite, frR_ite, ite_self,
      implies_true, fr_foldl, frL_foldl, frR_foldl, fr_mk_dev, fr_guard, fr_at, fr_coilFault, fr_tapIn]

/-! ## The Kettle -/

theorem fr_ketEvent {W s0} {s : State} (h : Fr W s0 s) (w : Within [.ket, .evq] W) (x1 x2 x3 x4 x5) : Fr W s0
    (State.ketEvent s x1 x2 x3 x4 x5) := by
  unfold State.ketEvent
  simp only [within_cons, within_nil, and_true] at w
  simp +contextual (maxDischargeDepth := 40) only [h, w, within_cons, within_nil, and_self, frO_next, frO_fault,
      frM_some, frM_none, frL_mk, frR_mk, frL_fold, frR_fold, fr_ite, frO_ite, frM_ite, frL_ite, frR_ite, ite_self,
      implies_true, fr_foldl, frL_foldl, frR_foldl, fr_raise, fr_setSlot]

theorem fr_discardSweep {W s0} {s : State} (h : Fr W s0 s) (w : Within [.cal] W) (x1) : Fr W s0 (State.discardSweep
    s x1) := by
  unfold State.discardSweep
  simp only [within_cons, within_nil, and_true] at w
  all_goals repeat' (split <;> (try simp +contextual (maxDischargeDepth := 40) only [h, w, within_cons, within_nil,
      and_self, frO_next, frO_fault, frM_some, frM_none, frL_mk, frR_mk, frL_fold, frR_fold, fr_ite, frO_ite,
      frM_ite, frL_ite, frR_ite, ite_self, implies_true, fr_foldl, frL_foldl, frR_foldl, fr_mk_cal]))

theorem fr_thermalLimit {W s0} {s : State} (h : Fr W s0 s) (w : Within [.baskets, .pans, .ket, .cal, .trv, .evq,
    .msix, .mgmt] W) (x1 x2) : Fr W s0 (State.thermalLimit s x1 x2) := by
  unfold State.thermalLimit
  simp only [within_cons, within_nil, and_true] at w
  try simp +contextual (maxDischargeDepth := 40) only [h, w, within_cons, within_nil, and_self, frO_next,
      frO_fault, frM_some, frM_none, frL_mk, frR_mk, frL_fold, frR_fold, fr_ite, frO_ite, frM_ite, frL_ite,
      frR_ite, ite_self, implies_true, fr_foldl, frL_foldl, frR_foldl, fr_setSlot, fr_setPan, fr_ketEvent,
      fr_toCalibrating, fr_discardSweep]
  all_goals repeat' (split <;> (try simp +contextual (maxDischargeDepth := 40) only [h, w, within_cons, within_nil,
      and_self, frO_next, frO_fault, frM_some, frM_none, frL_mk, frR_mk, frL_fold, frR_fold, fr_ite, frO_ite,
      frM_ite, frL_ite, frR_ite, ite_self, implies_true, fr_foldl, frL_foldl, frR_foldl, fr_setSlot, fr_setPan,
      fr_ketEvent, fr_toCalibrating, fr_discardSweep]))

theorem fr_heat {W s0} {s : State} (h : Fr W s0 s) (w : Within [.baskets, .pans, .ket, .cal, .trv, .evq, .msix,
    .mgmt] W) (x1 x2) : FrL W s0 (State.heat s x1 x2) := by
  unfold State.heat
  simp only [within_cons, within_nil, and_true] at w
  simp +contextual (maxDischargeDepth := 40) only [h, w, within_cons, within_nil, and_self, frO_next, frO_fault,
      frM_some, frM_none, frL_mk, frR_mk, frL_fold, frR_fold, fr_ite, frO_ite, frM_ite, frL_ite, frR_ite, ite_self,
      implies_true, fr_foldl, frL_foldl, frR_foldl, fr_setSlot, fr_ketEvent, fr_thermalLimit]

theorem fr_clampMark {W s0} {s : State} (h : Fr W s0 s) (w : Within [.ket, .evq] W) (x1 x2 x3 x4) : Fr W s0
    (State.clampMark s x1 x2 x3 x4) := by
  unfold State.clampMark
  simp only [within_cons, within_nil, and_true] at w
  simp +contextual (maxDischargeDepth := 40) only [h, w, within_cons, within_nil, and_self, frO_next, frO_fault,
      frM_some, frM_none, frL_mk, frR_mk, frL_fold, frR_fold, fr_ite, frO_ite, frM_ite, frL_ite, frR_ite, ite_self,
      implies_true, fr_foldl, frL_foldl, frR_foldl, fr_setSlot, fr_ketEvent]

theorem fr_outerStep {W s0} {s : State} (h : Fr W s0 s) (w : Within [.ket, .evq] W) (x1 x2) : Fr W s0
    (State.outerStep s x1 x2) := by
  unfold State.outerStep
  simp only [within_cons, within_nil, and_true] at w
  simp +contextual (maxDischargeDepth := 40) only [h, w, within_cons, within_nil, and_self, frO_next, frO_fault,
      frM_some, frM_none, frL_mk, frR_mk, frL_fold, frR_fold, fr_ite, frO_ite, frM_ite, frL_ite, frR_ite, ite_self,
      implies_true, fr_foldl, frL_foldl, frR_foldl, fr_setSlot, fr_clampMark]

theorem fr_slotStep {W s0} {s : State} (h : Fr W s0 s) (w : Within [.baskets, .pans, .ket, .cal, .trv, .evq, .msix,
    .mgmt] W) (x1 x2 x3) : Fr W s0 (State.slotStep s x1 x2 x3) := by
  unfold State.slotStep
  simp only [within_cons, within_nil, and_true] at w
  all_goals repeat' (split <;> (try simp +contextual (maxDischargeDepth := 40) only [h, w, within_cons, within_nil,
      and_self, frO_next, frO_fault, frM_some, frM_none, frL_mk, frR_mk, frL_fold, frR_fold, fr_ite, frO_ite,
      frM_ite, frL_ite, frR_ite, ite_self, implies_true, fr_foldl, frL_foldl, frR_foldl, fr_outerStep, fr_setSlot,
      fr_clampMark, fr_heat]))

theorem fr_missSlot {W s0} {s : State} (h : Fr W s0 s) (w : Within [.ket, .evq] W) (x1 x2) : Fr W s0
    (State.missSlot s x1 x2) := by
  unfold State.missSlot
  simp only [within_cons, within_nil, and_true] at w
  simp +contextual (maxDischargeDepth := 40) only [h, w, within_cons, within_nil, and_self, frO_next, frO_fault,
      frM_some, frM_none, frL_mk, frR_mk, frL_fold, frR_fold, fr_ite, frO_ite, frM_ite, frL_ite, frR_ite, ite_self,
      implies_true, fr_foldl, frL_foldl, frR_foldl, fr_ketEvent, fr_setSlot]

theorem fr_execSlotStop {W s0} {s : State} (h : Fr W s0 s) (w : Within [.ket] W) (x0) : FrO W s0 (execSlotStop x0
    s) := by
  unfold execSlotStop
  simp only [within_cons, within_nil, and_true] at w
  simp +contextual (maxDischargeDepth := 40) only [h, w, within_cons, within_nil, and_self, frO_next, frO_fault,
      frM_some, frM_none, frL_mk, frR_mk, frL_fold, frR_fold, fr_ite, frO_ite, frM_ite, frL_ite, frR_ite, ite_self,
      implies_true, fr_foldl, frL_foldl, frR_foldl, fr_guard, fr_setSlot]

theorem fr_execSlotCommit {W s0} {s : State} (h : Fr W s0 s) (w : Within [.ket] W) (x0) : FrO W s0 (execSlotCommit
    x0 s) := by
  unfold execSlotCommit
  simp only [within_cons, within_nil, and_true] at w
  simp +contextual (maxDischargeDepth := 40) only [h, w, within_cons, within_nil, and_self, frO_next, frO_fault,
      frM_some, frM_none, frL_mk, frR_mk, frL_fold, frR_fold, fr_ite, frO_ite, frM_ite, frL_ite, frR_ite, ite_self,
      implies_true, fr_foldl, frL_foldl, frR_foldl, fr_guard, fr_setSlot]

theorem fr_execSlotCntClr {W s0} {s : State} (h : Fr W s0 s) (w : Within [.ket] W) (x0) : FrO W s0 (execSlotCntClr
    x0 s) := by
  unfold execSlotCntClr
  simp only [within_cons, within_nil, and_true] at w
  simp +contextual (maxDischargeDepth := 40) only [h, w, within_cons, within_nil, and_self, frO_next, frO_fault,
      frM_some, frM_none, frL_mk, frR_mk, frL_fold, frR_fold, fr_ite, frO_ite, frM_ite, frL_ite, frR_ite, ite_self,
      implies_true, fr_foldl, frL_foldl, frR_foldl, fr_guard, fr_setSlot]

theorem fr_ketClear {W s0} {s : State} (h : Fr W s0 s) (w : Within [.ket] W) : Fr W s0 (State.ketClear s) := by
  unfold State.ketClear
  simp only [within_cons, within_nil, and_true] at w
  simp +contextual (maxDischargeDepth := 40) only [h, w, within_cons, within_nil, and_self, frO_next, frO_fault,
      frM_some, frM_none, frL_mk, frR_mk, frL_fold, frR_fold, fr_ite, frO_ite, frM_ite, frL_ite, frR_ite, ite_self,
      implies_true, fr_foldl, frL_foldl, frR_foldl, fr_setEng]

theorem fr_execKetCntClr {W s0} {s : State} (h : Fr W s0 s) (w : Within [.ket] W) : FrO W s0 (execKetCntClr s) := by
  unfold execKetCntClr
  simp only [within_cons, within_nil, and_true] at w
  simp +contextual (maxDischargeDepth := 40) only [h, w, within_cons, within_nil, and_self, frO_next, frO_fault,
      frM_some, frM_none, frL_mk, frR_mk, frL_fold, frR_fold, fr_ite, frO_ite, frM_ite, frL_ite, frR_ite, ite_self,
      implies_true, fr_foldl, frL_foldl, frR_foldl, fr_ketClear]

theorem fr_spWrite {W s0} {s : State} (h : Fr W s0 s) (w : Within [.ket] W) (x1 x2) : Fr W s0 (State.spWrite s x1
    x2) := by
  unfold State.spWrite
  simp only [within_cons, within_nil, and_true] at w
  simp +contextual (maxDischargeDepth := 40) only [h, w, within_cons, within_nil, and_self, frO_next, frO_fault,
      frM_some, frM_none, frL_mk, frR_mk, frL_fold, frR_fold, fr_ite, frO_ite, frM_ite, frL_ite, frR_ite, ite_self,
      implies_true, fr_foldl, frL_foldl, frR_foldl, fr_setSlot]

theorem fr_execSpWrite {W s0} {s : State} (h : Fr W s0 s) (w : Within [.ket] W) (x0 x1) : FrO W s0 (execSpWrite x0
    x1 s) := by
  unfold execSpWrite
  simp only [within_cons, within_nil, and_true] at w
  simp +contextual (maxDischargeDepth := 40) only [h, w, within_cons, within_nil, and_self, frO_next, frO_fault,
      frM_some, frM_none, frL_mk, frR_mk, frL_fold, frR_fold, fr_ite, frO_ite, frM_ite, frL_ite, frR_ite, ite_self,
      implies_true, fr_foldl, frL_foldl, frR_foldl, fr_guard, fr_spWrite]

theorem fr_slotStart {W s0} {s : State} (h : Fr W s0 s) (w : Within [.ket, .evq] W) (x1) : Fr W s0 (State.slotStart
    s x1) := by
  unfold State.slotStart
  simp only [within_cons, within_nil, and_true] at w
  simp +contextual (maxDischargeDepth := 40) only [h, w, within_cons, within_nil, and_self, frO_next, frO_fault,
      frM_some, frM_none, frL_mk, frR_mk, frL_fold, frR_fold, fr_ite, frO_ite, frM_ite, frL_ite, frR_ite, ite_self,
      implies_true, fr_foldl, frL_foldl, frR_foldl, fr_setSlot, fr_ketEvent]

theorem fr_latchIn {W s0} {s : State} (h : Fr W s0 s) (w : Within [.pans, .ket] W) (x0 x2) : Fr W s0 (State.latchIn
    x0 s x2) := by
  unfold State.latchIn
  simp only [within_cons, within_nil, and_true] at w
  all_goals repeat' (split <;> (try simp +contextual (maxDischargeDepth := 40) only [h, w, within_cons, within_nil,
      and_self, frO_next, frO_fault, frM_some, frM_none, frL_mk, frR_mk, frL_fold, frR_fold, fr_ite, frO_ite,
      frM_ite, frL_ite, frR_ite, ite_self, implies_true, fr_foldl, frL_foldl, frR_foldl, fr_setSlot, fr_setPan]))

theorem fr_outerStart {W s0} {s : State} (h : Fr W s0 s) (w : Within [.pans] W) : Fr W s0 (State.outerStart s) := by
  unfold State.outerStart
  simp only [within_cons, within_nil, and_true] at w
  simp +contextual (maxDischargeDepth := 40) only [h, w, within_cons, within_nil, and_self, frO_next, frO_fault,
      frM_some, frM_none, frL_mk, frR_mk, frL_fold, frR_fold, fr_ite, frO_ite, frM_ite, frL_ite, frR_ite, ite_self,
      implies_true, fr_foldl, frL_foldl, frR_foldl, fr_setPan]

theorem fr_lockStep {W s0} {s : State} (h : Fr W s0 s) (w : Within [.ket, .trv, .msix, .mgmt] W) (x1) : Fr W s0
    (State.lockStep s x1) := by
  unfold State.lockStep
  simp only [within_cons, within_nil, and_true] at w
  simp +contextual (maxDischargeDepth := 40) only [h, w, within_cons, within_nil, and_self, frO_next, frO_fault,
      frM_some, frM_none, frL_mk, frR_mk, frL_fold, frR_fold, fr_ite, frO_ite, frM_ite, frL_ite, frR_ite, ite_self,
      implies_true, fr_foldl, frL_foldl, frR_foldl, fr_setCoil, fr_condition]

theorem fr_engineFrame {W s0} {s : State} (h : Fr W s0 s) (w : Within [.baskets, .pans, .ket, .cal, .trv, .evq,
    .msix, .mgmt] W) (x1 x2) : Fr W s0 (State.engineFrame s x1 x2) := by
  unfold State.engineFrame
  simp only [within_cons, within_nil, and_true] at w
  simp +contextual (maxDischargeDepth := 40) only [h, w, within_cons, within_nil, and_self, frO_next, frO_fault,
      frM_some, frM_none, frL_mk, frR_mk, frL_fold, frR_fold, fr_ite, frO_ite, frM_ite, frL_ite, frR_ite, ite_self,
      implies_true, fr_foldl, frL_foldl, frR_foldl, fr_slotStep, fr_missSlot, fr_setEng]

theorem fr_frame {W s0} {s : State} (h : Fr W s0 s) (w : Within [.time, .baskets, .pans, .ket, .cal, .trv, .evq,
    .msix, .mgmt] W) (x1) : Fr W s0 (State.frame s x1) := by
  unfold State.frame
  simp only [within_cons, within_nil, and_true] at w
  simp +contextual (maxDischargeDepth := 40) only [h, w, within_cons, within_nil, and_self, frO_next, frO_fault,
      frM_some, frM_none, frL_mk, frR_mk, frL_fold, frR_fold, fr_ite, frO_ite, frM_ite, frL_ite, frR_ite, ite_self,
      implies_true, fr_foldl, frL_foldl, frR_foldl, fr_mk_ket, fr_at, fr_slotStart, fr_outerStart, fr_latchIn,
      fr_engineFrame, fr_lockStep]

theorem fr_execKettleFrame {W s0} {s : State} (h : Fr W s0 s) (w : Within [.time, .baskets, .pans, .ket, .cal,
    .trv, .evq, .msix, .mgmt] W) (x0) : FrO W s0 (execKettleFrame x0 s) := by
  unfold execKettleFrame
  simp only [within_cons, within_nil, and_true] at w
  simp +contextual (maxDischargeDepth := 40) only [h, w, within_cons, within_nil, and_self, frO_next, frO_fault,
      frM_some, frM_none, frL_mk, frR_mk, frL_fold, frR_fold, fr_ite, frO_ite, frM_ite, frL_ite, frR_ite, ite_self,
      implies_true, fr_foldl, frL_foldl, frR_foldl, fr_guard, fr_frame]

theorem fr_crossCond {W s0} {s : State} (h : Fr W s0 s) (w : Within [.ket, .evq] W) (x1 x2) : Fr W s0
    (State.crossCond s x1 x2) := by
  unfold State.crossCond
  simp only [within_cons, within_nil, and_true] at w
  simp +contextual (maxDischargeDepth := 40) only [h, w, within_cons, within_nil, and_self, frO_next, frO_fault,
      frM_some, frM_none, frL_mk, frR_mk, frL_fold, frR_fold, fr_ite, frO_ite, frM_ite, frL_ite, frR_ite, ite_self,
      implies_true, fr_foldl, frL_foldl, frR_foldl, fr_setCoil, fr_setSlot, fr_ketEvent]

theorem fr_period {W s0} {s : State} (h : Fr W s0 s) (w : Within [.ket, .evq] W) (x1) : Fr W s0 (State.period s x1) := by
  unfold State.period
  simp only [within_cons, within_nil, and_true] at w
  all_goals repeat' (split <;> (try simp +contextual (maxDischargeDepth := 40) only [h, w, within_cons, within_nil,
      and_self, frO_next, frO_fault, frM_some, frM_none, frL_mk, frR_mk, frL_fold, frR_fold, fr_ite, frO_ite,
      frM_ite, frL_ite, frR_ite, ite_self, implies_true, fr_foldl, frL_foldl, frR_foldl, fr_setCoil,
      fr_crossCond]))

theorem fr_execPwmPeriod {W s0} {s : State} (h : Fr W s0 s) (w : Within [.time, .ket, .evq] W) (x0) : FrO W s0
    (execPwmPeriod x0 s) := by
  unfold execPwmPeriod
  simp only [within_cons, within_nil, and_true] at w
  simp +contextual (maxDischargeDepth := 40) only [h, w, within_cons, within_nil, and_self, frO_next, frO_fault,
      frM_some, frM_none, frL_mk, frR_mk, frL_fold, frR_fold, fr_ite, frO_ite, frM_ite, frL_ite, frR_ite, ite_self,
      implies_true, fr_foldl, frL_foldl, frR_foldl, fr_mk_ket, fr_guard, fr_at, fr_period, fr_crossCond]

theorem fr_releaseCoil {W s0} {s : State} (h : Fr W s0 s) (w : Within [.ket] W) (x1) : Fr W s0 (State.releaseCoil s
    x1) := by
  unfold State.releaseCoil
  simp only [within_cons, within_nil, and_true] at w
  simp +contextual (maxDischargeDepth := 40) only [h, w, within_cons, within_nil, and_self, frO_next, frO_fault,
      frM_some, frM_none, frL_mk, frR_mk, frL_fold, frR_fold, fr_ite, frO_ite, frM_ite, frL_ite, frR_ite, ite_self,
      implies_true, fr_foldl, frL_foldl, frR_foldl, fr_setSlot]

theorem fr_xcondClear {W s0} {s : State} (h : Fr W s0 s) (w : Within [.ket, .evq] W) (x1) : Fr W s0
    (State.xcondClear s x1) := by
  unfold State.xcondClear
  simp only [within_cons, within_nil, and_true] at w
  try simp +contextual (maxDischargeDepth := 40) only [h, w, within_cons, within_nil, and_self, frO_next,
      frO_fault, frM_some, frM_none, frL_mk, frR_mk, frL_fold, frR_fold, fr_ite, frO_ite, frM_ite, frL_ite,
      frR_ite, ite_self, implies_true, fr_foldl, frL_foldl, frR_foldl, fr_releaseCoil, fr_setCoil, fr_crossCond]
  all_goals repeat' (split <;> (try simp +contextual (maxDischargeDepth := 40) only [h, w, within_cons, within_nil,
      and_self, frO_next, frO_fault, frM_some, frM_none, frL_mk, frR_mk, frL_fold, frR_fold, fr_ite, frO_ite,
      frM_ite, frL_ite, frR_ite, ite_self, implies_true, fr_foldl, frL_foldl, frR_foldl, fr_releaseCoil,
      fr_setCoil, fr_crossCond]))

theorem fr_execXcondClear {W s0} {s : State} (h : Fr W s0 s) (w : Within [.ket, .evq] W) (x0) : FrO W s0
    (execXcondClear x0 s) := by
  unfold execXcondClear
  simp only [within_cons, within_nil, and_true] at w
  simp +contextual (maxDischargeDepth := 40) only [h, w, within_cons, within_nil, and_self, frO_next, frO_fault,
      frM_some, frM_none, frL_mk, frR_mk, frL_fold, frR_fold, fr_ite, frO_ite, frM_ite, frL_ite, frR_ite, ite_self,
      implies_true, fr_foldl, frL_foldl, frR_foldl, fr_guard, fr_xcondClear]

theorem fr_injStart {W s0} {s : State} (h : Fr W s0 s) (w : Within [.ket] W) (x1) : Fr W s0 (State.injStart s x1) := by
  unfold State.injStart
  simp only [within_cons, within_nil, and_true] at w
  simp +contextual (maxDischargeDepth := 40) only [h, w, within_cons, within_nil, and_self, frO_next, frO_fault,
      frM_some, frM_none, frL_mk, frR_mk, frL_fold, frR_fold, fr_ite, frO_ite, frM_ite, frL_ite, frR_ite, ite_self,
      implies_true, fr_foldl, frL_foldl, frR_foldl, fr_setEng]

theorem fr_execInjStart {W s0} {s : State} (h : Fr W s0 s) (w : Within [.ket] W) (x0) : FrO W s0 (execInjStart x0
    s) := by
  unfold execInjStart
  simp only [within_cons, within_nil, and_true] at w
  simp +contextual (maxDischargeDepth := 40) only [h, w, within_cons, within_nil, and_self, frO_next, frO_fault,
      frM_some, frM_none, frL_mk, frR_mk, frL_fold, frR_fold, fr_ite, frO_ite, frM_ite, frL_ite, frR_ite, ite_self,
      implies_true, fr_foldl, frL_foldl, frR_foldl, fr_injStart]

theorem fr_injStop {W s0} {s : State} (h : Fr W s0 s) (w : Within [.ket] W) (x1) : Fr W s0 (State.injStop s x1) := by
  unfold State.injStop
  simp only [within_cons, within_nil, and_true] at w
  simp +contextual (maxDischargeDepth := 40) only [h, w, within_cons, within_nil, and_self, frO_next, frO_fault,
      frM_some, frM_none, frL_mk, frR_mk, frL_fold, frR_fold, fr_ite, frO_ite, frM_ite, frL_ite, frR_ite, ite_self,
      implies_true, fr_foldl, frL_foldl, frR_foldl, fr_setEng]

theorem fr_execInjStop {W s0} {s : State} (h : Fr W s0 s) (w : Within [.ket] W) (x0) : FrO W s0 (execInjStop x0 s) := by
  unfold execInjStop
  simp only [within_cons, within_nil, and_true] at w
  simp +contextual (maxDischargeDepth := 40) only [h, w, within_cons, within_nil, and_self, frO_next, frO_fault,
      frM_some, frM_none, frL_mk, frR_mk, frL_fold, frR_fold, fr_ite, frO_ite, frM_ite, frL_ite, frR_ite, ite_self,
      implies_true, fr_foldl, frL_foldl, frR_foldl, fr_injStop]

theorem fr_capArm {W s0} {s : State} (h : Fr W s0 s) (w : Within [.ket] W) (x1) : Fr W s0 (State.capArm s x1) := by
  unfold State.capArm
  simp only [within_cons, within_nil, and_true] at w
  simp +contextual (maxDischargeDepth := 40) only [h, w, within_cons, within_nil, and_self, frO_next, frO_fault,
      frM_some, frM_none, frL_mk, frR_mk, frL_fold, frR_fold, fr_ite, frO_ite, frM_ite, frL_ite, frR_ite, ite_self,
      implies_true, fr_foldl, frL_foldl, frR_foldl, fr_setEng]

theorem fr_execCapArm {W s0} {s : State} (h : Fr W s0 s) (w : Within [.ket] W) (x0) : FrO W s0 (execCapArm x0 s) := by
  unfold execCapArm
  simp only [within_cons, within_nil, and_true] at w
  simp +contextual (maxDischargeDepth := 40) only [h, w, within_cons, within_nil, and_self, frO_next, frO_fault,
      frM_some, frM_none, frL_mk, frR_mk, frL_fold, frR_fold, fr_ite, frO_ite, frM_ite, frL_ite, frR_ite, ite_self,
      implies_true, fr_foldl, frL_foldl, frR_foldl, fr_capArm]

theorem fr_retest {W s0} {s : State} (h : Fr W s0 s) (w : Within [.time, .baskets, .pans, .ket, .trv, .msix, .mgmt]
    W) (x1) : Fr W s0 (State.retest s x1) := by
  unfold State.retest
  simp only [within_cons, within_nil, and_true] at w
  simp +contextual (maxDischargeDepth := 40) only [h, w, within_cons, within_nil, and_self, frO_next, frO_fault,
      frM_some, frM_none, frL_mk, frR_mk, frL_fold, frR_fold, fr_ite, frO_ite, frM_ite, frL_ite, frR_ite, ite_self,
      implies_true, fr_foldl, frL_foldl, frR_foldl, fr_at, fr_setPan, fr_setSlot, fr_tellSpares]

theorem fr_execThermalRetest {W s0} {s : State} (h : Fr W s0 s) (w : Within [.time, .baskets, .pans, .ket, .trv,
    .msix, .mgmt] W) (x0) : FrO W s0 (execThermalRetest x0 s) := by
  unfold execThermalRetest
  simp only [within_cons, within_nil, and_true] at w
  simp +contextual (maxDischargeDepth := 40) only [h, w, within_cons, within_nil, and_self, frO_next, frO_fault,
      frM_some, frM_none, frL_mk, frR_mk, frL_fold, frR_fold, fr_ite, frO_ite, frM_ite, frL_ite, frR_ite, ite_self,
      implies_true, fr_foldl, frL_foldl, frR_foldl, fr_guard, fr_retest]

/-! ## The structural test -/

theorem fr_sendAway {W s0} {s : State} (h : Fr W s0 s) (w : Within [.mem, .memBad, .memCorr, .memCe, .memUe,
    .streams] W) (x1 x2 x3) : Fr W s0 (State.sendAway s x1 x2 x3) := by
  unfold State.sendAway
  simp only [within_cons, within_nil, and_true] at w
  simp +contextual (maxDischargeDepth := 40) only [h, w, within_cons, within_nil, and_self, frO_next, frO_fault,
      frM_some, frM_none, frL_mk, frR_mk, frL_fold, frR_fold, fr_ite, frO_ite, frM_ite, frL_ite, frR_ite, ite_self,
      implies_true, fr_foldl, frL_foldl, frR_foldl, fr_putStr]

theorem fr_execYieldSuspend {W s0} {s : State} (h : Fr W s0 s) (w : Within [.mem, .memBad, .memCorr, .memCe,
    .memUe, .streams] W) (x0) : FrO W s0 (execYieldSuspend x0 s) := by
  unfold execYieldSuspend
  simp only [within_cons, within_nil, and_true] at w
  try simp +contextual (maxDischargeDepth := 40) only [h, w, within_cons, within_nil, and_self, frO_next,
      frO_fault, frM_some, frM_none, frL_mk, frR_mk, frL_fold, frR_fold, fr_ite, frO_ite, frM_ite, frL_ite,
      frR_ite, ite_self, implies_true, fr_foldl, frL_foldl, frR_foldl, fr_guard, fr_sendAway, fr_putStr]
  all_goals repeat' (split <;> (try simp +contextual (maxDischargeDepth := 40) only [h, w, within_cons, within_nil,
      and_self, frO_next, frO_fault, frM_some, frM_none, frL_mk, frR_mk, frL_fold, frR_fold, fr_ite, frO_ite,
      frM_ite, frL_ite, frR_ite, ite_self, implies_true, fr_foldl, frL_foldl, frR_foldl, fr_guard, fr_sendAway,
      fr_putStr]))

theorem fr_execTestDue {W s0} {s : State} (h : Fr W s0 s) (w : Within [.time, .baskets] W) (x0) : FrO W s0
    (execTestDue x0 s) := by
  unfold execTestDue
  simp only [within_cons, within_nil, and_true] at w
  simp +contextual (maxDischargeDepth := 40) only [h, w, within_cons, within_nil, and_self, frO_next, frO_fault,
      frM_some, frM_none, frL_mk, frR_mk, frL_fold, frR_fold, fr_ite, frO_ite, frM_ite, frL_ite, frR_ite, ite_self,
      implies_true, fr_foldl, frL_foldl, frR_foldl, fr_guard, fr_testTurn, fr_makeDue, fr_at]

theorem fr_testReq {W s0} {s : State} (h : Fr W s0 s) (w : Within [.baskets] W) (x1) : Fr W s0 (State.testReq s x1) := by
  unfold State.testReq
  simp only [within_cons, within_nil, and_true] at w
  simp +contextual (maxDischargeDepth := 40) only [h, w, within_cons, within_nil, and_self, frO_next, frO_fault,
      frM_some, frM_none, frL_mk, frR_mk, frL_fold, frR_fold, fr_ite, frO_ite, frM_ite, frL_ite, frR_ite, ite_self,
      implies_true, fr_foldl, frL_foldl, frR_foldl, fr_testTurn, fr_makeDue]

theorem fr_execTestReq {W s0} {s : State} (h : Fr W s0 s) (w : Within [.baskets] W) (x0) : FrO W s0 (execTestReq x0
    s) := by
  unfold execTestReq
  simp only [within_cons, within_nil, and_true] at w
  simp +contextual (maxDischargeDepth := 40) only [h, w, within_cons, within_nil, and_self, frO_next, frO_fault,
      frM_some, frM_none, frL_mk, frR_mk, frL_fold, frR_fold, fr_ite, frO_ite, frM_ite, frL_ite, frR_ite, ite_self,
      implies_true, fr_foldl, frL_foldl, frR_foldl, fr_testReq]

theorem fr_execTestDeferEnd {W s0} {s : State} (h : Fr W s0 s) (w : Within [.time, .baskets, .pans, .cal, .trv,
    .evq, .msix, .mgmt] W) (x0) : FrO W s0 (execTestDeferEnd x0 s) := by
  unfold execTestDeferEnd
  simp only [within_cons, within_nil, and_true] at w
  all_goals repeat' (split <;> (try simp +contextual (maxDischargeDepth := 40) only [h, w, within_cons, within_nil,
      and_self, frO_next, frO_fault, frM_some, frM_none, frL_mk, frR_mk, frL_fold, frR_fold, fr_ite, frO_ite,
      frM_ite, frL_ite, frR_ite, ite_self, implies_true, fr_foldl, frL_foldl, frR_foldl, fr_guard, fr_drainBsk,
      fr_at]))

theorem fr_moveOff {W s0} {s : State} (h : Fr W s0 s) (w : Within [.mem, .memBad, .memCorr, .memCe, .memUe,
    .streams, .waiting, .baskets, .pans, .pots, .scales, .fastQ, .dzf, .hq, .dev, .evq] W) (x1 x2) : Fr W s0
    (State.moveOff s x1 x2) := by
  unfold State.moveOff
  simp only [within_cons, within_nil, and_true] at w
  all_goals repeat' (split <;> (try simp +contextual (maxDischargeDepth := 40) only [h, w, within_cons, within_nil,
      and_self, frO_next, frO_fault, frM_some, frM_none, frL_mk, frR_mk, frL_fold, frR_fold, fr_ite, frO_ite,
      frM_ite, frL_ite, frR_ite, ite_self, implies_true, fr_foldl, frL_foldl, frR_foldl, fr_migMove, fr_sendAway]))

theorem fr_execTestEntry {W s0} {s : State} (h : Fr W s0 s) (w : Within [.mem, .memBad, .memCorr, .memCe, .memUe,
    .streams, .waiting, .baskets, .pans, .pots, .scales, .fastQ, .cal, .dzf, .hq, .trv, .dev, .evq, .msix, .mgmt]
    W) (x0) : FrO W s0 (execTestEntry x0 s) := by
  unfold execTestEntry
  simp only [within_cons, within_nil, and_true] at w
  simp +contextual (maxDischargeDepth := 40) only [h, w, within_cons, within_nil, and_self, frO_next, frO_fault,
      frM_some, frM_none, frL_mk, frR_mk, frL_fold, frR_fold, fr_ite, frO_ite, frM_ite, frL_ite, frR_ite, ite_self,
      implies_true, fr_foldl, frL_foldl, frR_foldl, fr_guard, fr_moveOff, fr_abandonIn, fr_setBsk]

theorem fr_testOver {W s0} {s : State} (h : Fr W s0 s) (w : Within [.mem, .memBad, .memCorr, .memCe, .memUe,
    .streams, .baskets] W) (x1 x2 x3 x4) : Fr W s0 (State.testOver s x1 x2 x3 x4) := by
  unfold State.testOver
  simp only [within_cons, within_nil, and_true] at w
  simp +contextual (maxDischargeDepth := 40) only [h, w, within_cons, within_nil, and_self, frO_next, frO_fault,
      frM_some, frM_none, frL_mk, frR_mk, frL_fold, frR_fold, fr_ite, frO_ite, frM_ite, frL_ite, frR_ite, ite_self,
      implies_true, fr_foldl, frL_foldl, frR_foldl, fr_setBsk, fr_putStr, fr_testTurn, fr_settleBsk]

theorem fr_execTestResult {W s0} {s : State} (h : Fr W s0 s) (w : Within [.time, .mem, .memBad, .memCorr, .memCe,
    .memUe, .streams, .waiting, .baskets, .pans, .pots, .fastQ, .cal, .dzf, .hq, .trv, .dev, .evq, .msix, .mgmt] W)
    (x0 x1) : FrO W s0 (execTestResult x0 x1 s) := by
  unfold execTestResult
  simp only [within_cons, within_nil, and_true] at w
  all_goals repeat' (split <;> (try simp +contextual (maxDischargeDepth := 40) only [h, w, within_cons, within_nil,
      and_self, frO_next, frO_fault, frM_some, frM_none, frL_mk, frR_mk, frL_fold, frR_fold, fr_ite, frO_ite,
      frM_ite, frL_ite, frR_ite, ite_self, implies_true, fr_foldl, frL_foldl, frR_foldl, fr_guard, fr_testTurn,
      fr_retireBasket, fr_setBsk, fr_at, fr_testOver, fr_raise]))

/-! ## Calibration -/

theorem fr_calCfgTake {W s0} {s : State} (h : Fr W s0 s) (w : Within [.pans, .cal] W) : Fr W s0 (State.calCfgTake
    s) := by
  unfold State.calCfgTake
  simp only [within_cons, within_nil, and_true] at w
  simp +contextual (maxDischargeDepth := 40) only [h, w, within_cons, within_nil, and_self, frO_next, frO_fault,
      frM_some, frM_none, frL_mk, frR_mk, frL_fold, frR_fold, fr_ite, frO_ite, frM_ite, frL_ite, frR_ite, ite_self,
      implies_true, fr_foldl, frL_foldl, frR_foldl, fr_mk_cal, fr_remargin]

theorem fr_sweepStart {W s0} {s : State} (h : Fr W s0 s) (w : Within [.pans, .cal] W) (x1 x2 x3) : Fr W s0
    (State.sweepStart s x1 x2 x3) := by
  unfold State.sweepStart
  simp only [within_cons, within_nil, and_true] at w
  simp +contextual (maxDischargeDepth := 40) only [h, w, within_cons, within_nil, and_self, frO_next, frO_fault,
      frM_some, frM_none, frL_mk, frR_mk, frL_fold, frR_fold, fr_ite, frO_ite, frM_ite, frL_ite, frR_ite, ite_self,
      implies_true, fr_foldl, frL_foldl, frR_foldl, fr_mk_cal, fr_setPan]

theorem fr_turn {W s0} {s : State} (h : Fr W s0 s) (w : Within [.pans, .cal] W) : Fr W s0 (State.turn s) := by
  unfold State.turn
  simp only [within_cons, within_nil, and_true] at w
  all_goals repeat' (split <;> (try simp +contextual (maxDischargeDepth := 40) only [h, w, within_cons, within_nil,
      and_self, frO_next, frO_fault, frM_some, frM_none, frL_mk, frR_mk, frL_fold, frR_fold, fr_ite, frO_ite,
      frM_ite, frL_ite, frR_ite, ite_self, implies_true, fr_foldl, frL_foldl, frR_foldl, fr_calCfgTake,
      fr_sweepStart]))

theorem fr_execCalTurn {W s0} {s : State} (h : Fr W s0 s) (w : Within [.pans, .cal] W) : FrO W s0 (execCalTurn s) := by
  unfold execCalTurn
  simp only [within_cons, within_nil, and_true] at w
  simp +contextual (maxDischargeDepth := 40) only [h, w, within_cons, within_nil, and_self, frO_next, frO_fault,
      frM_some, frM_none, frL_mk, frR_mk, frL_fold, frR_fold, fr_ite, frO_ite, frM_ite, frL_ite, frR_ite, ite_self,
      implies_true, fr_foldl, frL_foldl, frR_foldl, fr_turn]

theorem fr_preload {W s0} {s : State} (h : Fr W s0 s) (w : Within [.mem, .memBad, .memCorr, .memCe, .memUe,
    .streams, .waiting, .baskets, .pans, .pots, .fastQ, .dzf, .hq, .dev, .evq, .tx] W) (x1 x2) : FrL W s0
    (State.preload s x1 x2) := by
  unfold State.preload
  simp only [within_cons, within_nil, and_true] at w
  all_goals repeat' (split <;> (try simp +contextual (maxDischargeDepth := 40) only [h, w, within_cons, within_nil,
      and_self, frO_next, frO_fault, frM_some, frM_none, frL_mk, frR_mk, frL_fold, frR_fold, fr_ite, frO_ite,
      frM_ite, frL_ite, frR_ite, ite_self, implies_true, fr_foldl, frL_foldl, frR_foldl, fr_loadTile]))

theorem fr_handOver {W s0} {s : State} (h : Fr W s0 s) (w : Within [.mem, .memBad, .memCorr, .memCe, .memUe,
    .streams, .waiting, .baskets, .pans, .pots, .fastQ, .cal, .dzf, .hq, .trv, .dev, .evq, .tx, .msix, .mgmt] W)
    (x1 x2) : Fr W s0 (State.handOver s x1 x2) := by
  have hk := h
  unfold State.handOver
  simp only [within_cons, within_nil, and_true] at w
  try simp +contextual (maxDischargeDepth := 40) only [h, w, within_cons, within_nil, and_self, frO_next,
      frO_fault, frM_some, frM_none, frL_mk, frR_mk, frL_fold, frR_fold, fr_ite, frO_ite, frM_ite, frL_ite,
      frR_ite, ite_self, implies_true, fr_foldl, frL_foldl, frR_foldl, fr_mk_cal, fr_abandonSweep, fr_preload,
      fr_toCalibrating, fr_startMeasure]
  all_goals repeat' (split <;> (try (rename_i heq; first | have hk := frR_eq (W := W) (s0 := s0) (by simp +contextual (maxDischargeDepth := 40) only [hk, h, w, within_cons, within_nil, and_self, frO_next, frO_fault, frM_some, frM_none, frL_mk, frR_mk, frL_fold, frR_fold, fr_ite, frO_ite, frM_ite, frL_ite, frR_ite, ite_self, implies_true, fr_foldl, frL_foldl, frR_foldl, fr_mk_cal, fr_abandonSweep, fr_preload, fr_toCalibrating, fr_startMeasure]) heq | have hk := frL_eq (W := W) (s0 := s0) (by simp +contextual (maxDischargeDepth := 40) only [hk, h, w, within_cons, within_nil, and_self, frO_next, frO_fault, frM_some, frM_none, frL_mk, frR_mk, frL_fold, frR_fold, fr_ite, frO_ite, frM_ite, frL_ite, frR_ite, ite_self, implies_true, fr_foldl, frL_foldl, frR_foldl, fr_mk_cal, fr_abandonSweep, fr_preload, fr_toCalibrating, fr_startMeasure]) heq | have hk := frM_eq (W := W) (s0 := s0) (by simp +contextual (maxDischargeDepth := 40) only [hk, h, w, within_cons, within_nil, and_self, frO_next, frO_fault, frM_some, frM_none, frL_mk, frR_mk, frL_fold, frR_fold, fr_ite, frO_ite, frM_ite, frL_ite, frR_ite, ite_self, implies_true, fr_foldl, frL_foldl, frR_foldl, fr_mk_cal, fr_abandonSweep, fr_preload, fr_toCalibrating, fr_startMeasure]) heq)) <;> (try simp +contextual (maxDischargeDepth := 40) only [hk, h, w, within_cons, within_nil, and_self, frO_next, frO_fault, frM_some, frM_none, frL_mk, frR_mk, frL_fold, frR_fold, fr_ite, frO_ite, frM_ite, frL_ite, frR_ite, ite_self, implies_true, fr_foldl, frL_foldl, frR_foldl, fr_mk_cal, fr_abandonSweep, fr_preload, fr_toCalibrating, fr_startMeasure]))

theorem fr_execHandover {W s0} {s : State} (h : Fr W s0 s) (w : Within [.mem, .memBad, .memCorr, .memCe, .memUe,
    .streams, .waiting, .baskets, .pans, .pots, .fastQ, .cal, .dzf, .hq, .trv, .dev, .evq, .tx, .msix, .mgmt] W) :
    FrO W s0 (execHandover s) := by
  unfold execHandover
  simp only [within_cons, within_nil, and_true] at w
  all_goals repeat' (split <;> (try simp +contextual (maxDischargeDepth := 40) only [h, w, within_cons, within_nil,
      and_self, frO_next, frO_fault, frM_some, frM_none, frL_mk, frR_mk, frL_fold, frR_fold, fr_ite, frO_ite,
      frM_ite, frL_ite, frR_ite, ite_self, implies_true, fr_foldl, frL_foldl, frR_foldl, fr_handOver]))

theorem fr_commitCal {W s0} {s : State} (h : Fr W s0 s) (w : Within [.pans, .ket, .cal, .trv] W) (x1 x2 x3) : Fr W
    s0 (State.commitCal s x1 x2 x3) := by
  unfold State.commitCal
  simp only [within_cons, within_nil, and_true] at w
  simp +contextual (maxDischargeDepth := 40) only [h, w, within_cons, within_nil, and_self, frO_next, frO_fault,
      frM_some, frM_none, frL_mk, frR_mk, frL_fold, frR_fold, fr_ite, frO_ite, frM_ite, frL_ite, frR_ite, ite_self,
      implies_true, fr_foldl, frL_foldl, frR_foldl, fr_mk_cal, fr_setPan, fr_bbrPut, fr_spWrite]

theorem fr_notConverged {W s0} {s : State} (h : Fr W s0 s) (w : Within [.pans, .cal, .evq] W) (x1 x2 x3) : Fr W s0
    (State.notConverged s x1 x2 x3) := by
  unfold State.notConverged
  simp only [within_cons, within_nil, and_true] at w
  simp +contextual (maxDischargeDepth := 40) only [h, w, within_cons, within_nil, and_self, frO_next, frO_fault,
      frM_some, frM_none, frL_mk, frR_mk, frL_fold, frR_fold, fr_ite, frO_ite, frM_ite, frL_ite, frR_ite, ite_self,
      implies_true, fr_foldl, frL_foldl, frR_foldl, fr_mk_cal, fr_calTimeout, fr_setPan]

theorem fr_sweepFailed {W s0} {s : State} (h : Fr W s0 s) (w : Within [.time, .baskets, .pans, .cal, .trv, .evq,
    .msix, .mgmt] W) (x1 x2 x3) : Fr W s0 (State.sweepFailed s x1 x2 x3) := by
  unfold State.sweepFailed
  simp only [within_cons, within_nil, and_true] at w
  all_goals repeat' (split <;> (try simp +contextual (maxDischargeDepth := 40) only [h, w, within_cons, within_nil,
      and_self, frO_next, frO_fault, frM_some, frM_none, frL_mk, frR_mk, frL_fold, frR_fold, fr_ite, frO_ite,
      frM_ite, frL_ite, frR_ite, ite_self, implies_true, fr_foldl, frL_foldl, frR_foldl, fr_mk_cal, fr_at,
      fr_notConverged, fr_tellSpares, fr_setPan, fr_passSlot, fr_toSuspect]))

theorem fr_sweepDone {W s0} {s : State} (h : Fr W s0 s) (w : Within [.time, .baskets, .pans, .ket, .cal, .trv,
    .evq, .msix, .mgmt] W) (x1 x2) : Fr W s0 (State.sweepDone s x1 x2) := by
  unfold State.sweepDone
  simp only [within_cons, within_nil, and_true] at w
  all_goals repeat' (split <;> (try simp +contextual (maxDischargeDepth := 40) only [h, w, within_cons, within_nil,
      and_self, frO_next, frO_fault, frM_some, frM_none, frL_mk, frR_mk, frL_fold, frR_fold, fr_ite, frO_ite,
      frM_ite, frL_ite, frR_ite, ite_self, implies_true, fr_foldl, frL_foldl, frR_foldl, fr_mk_cal, fr_commitCal,
      fr_tellSpares, fr_setPan, fr_sweepFailed]))

theorem fr_execSweepCommit {W s0} {s : State} (h : Fr W s0 s) (w : Within [.time, .baskets, .pans, .ket, .cal,
    .trv, .evq, .msix, .mgmt] W) (x0) : FrO W s0 (execSweepCommit x0 s) := by
  unfold execSweepCommit
  simp only [within_cons, within_nil, and_true] at w
  all_goals repeat' (split <;> (try simp +contextual (maxDischargeDepth := 40) only [h, w, within_cons, within_nil,
      and_self, frO_next, frO_fault, frM_some, frM_none, frL_mk, frR_mk, frL_fold, frR_fold, fr_ite, frO_ite,
      frM_ite, frL_ite, frR_ite, ite_self, implies_true, fr_foldl, frL_foldl, frR_foldl, fr_sweepDone]))

theorem fr_execCalTimeout {W s0} {s : State} (h : Fr W s0 s) (w : Within [.time, .baskets, .pans, .cal, .trv, .evq,
    .msix, .mgmt] W) (x0) : FrO W s0 (execCalTimeout x0 s) := by
  unfold execCalTimeout
  simp only [within_cons, within_nil, and_true] at w
  all_goals repeat' (split <;> (try simp +contextual (maxDischargeDepth := 40) only [h, w, within_cons, within_nil,
      and_self, frO_next, frO_fault, frM_some, frM_none, frL_mk, frR_mk, frL_fold, frR_fold, fr_ite, frO_ite,
      frM_ite, frL_ite, frR_ite, ite_self, implies_true, fr_foldl, frL_foldl, frR_foldl, fr_sweepFailed]))

theorem fr_execCalAbandon {W s0} {s : State} (h : Fr W s0 s) (w : Within [.baskets, .pans, .cal, .trv, .evq, .msix,
    .mgmt] W) : FrO W s0 (execCalAbandon s) := by
  unfold execCalAbandon
  simp only [within_cons, within_nil, and_true] at w
  simp +contextual (maxDischargeDepth := 40) only [h, w, within_cons, within_nil, and_self, frO_next, frO_fault,
      frM_some, frM_none, frL_mk, frR_mk, frL_fold, frR_fold, fr_ite, frO_ite, frM_ite, frL_ite, frR_ite, ite_self,
      implies_true, fr_foldl, frL_foldl, frR_foldl, fr_abandonSweep]

theorem fr_calReq {W s0} {s : State} (h : Fr W s0 s) (w : Within [.pans] W) (x1) : Fr W s0 (State.calReq s x1) := by
  unfold State.calReq
  simp only [within_cons, within_nil, and_true] at w
  simp +contextual (maxDischargeDepth := 40) only [h, w, within_cons, within_nil, and_self, frO_next, frO_fault,
      frM_some, frM_none, frL_mk, frR_mk, frL_fold, frR_fold, fr_ite, frO_ite, frM_ite, frL_ite, frR_ite, ite_self,
      implies_true, fr_foldl, frL_foldl, frR_foldl, fr_earlyCal]

theorem fr_execCalReq {W s0} {s : State} (h : Fr W s0 s) (w : Within [.pans] W) (x0) : FrO W s0 (execCalReq x0 s) := by
  unfold execCalReq
  simp only [within_cons, within_nil, and_true] at w
  simp +contextual (maxDischargeDepth := 40) only [h, w, within_cons, within_nil, and_self, frO_next, frO_fault,
      frM_some, frM_none, frL_mk, frR_mk, frL_fold, frR_fold, fr_ite, frO_ite, frM_ite, frL_ite, frR_ite, ite_self,
      implies_true, fr_foldl, frL_foldl, frR_foldl, fr_calReq]

theorem fr_calClear {W s0} {s : State} (h : Fr W s0 s) (w : Within [.cal] W) : Fr W s0 (State.calClear s) := by
  unfold State.calClear
  simp only [within_cons, within_nil, and_true] at w
  simp +contextual (maxDischargeDepth := 40) only [h, w, within_cons, within_nil, and_self, frO_next, frO_fault,
      frM_some, frM_none, frL_mk, frR_mk, frL_fold, frR_fold, fr_ite, frO_ite, frM_ite, frL_ite, frR_ite, ite_self,
      implies_true, fr_foldl, frL_foldl, frR_foldl, fr_mk_cal]

theorem fr_execCalCntClr {W s0} {s : State} (h : Fr W s0 s) (w : Within [.cal] W) : FrO W s0 (execCalCntClr s) := by
  unfold execCalCntClr
  simp only [within_cons, within_nil, and_true] at w
  simp +contextual (maxDischargeDepth := 40) only [h, w, within_cons, within_nil, and_self, frO_next, frO_fault,
      frM_some, frM_none, frL_mk, frR_mk, frL_fold, frR_fold, fr_ite, frO_ite, frM_ite, frL_ite, frR_ite, ite_self,
      implies_true, fr_foldl, frL_foldl, frR_foldl, fr_calClear]

theorem fr_blindWin {W s0} {s : State} (h : Fr W s0 s) (w : Within [.time, .freeCtr, .pans] W) (x1) : Fr W s0
    (State.blindWin s x1) := by
  unfold State.blindWin
  simp only [within_cons, within_nil, and_true] at w
  simp +contextual (maxDischargeDepth := 40) only [h, w, within_cons, within_nil, and_self, frO_next, frO_fault,
      frM_some, frM_none, frL_mk, frR_mk, frL_fold, frR_fold, fr_ite, frO_ite, frM_ite, frL_ite, frR_ite, ite_self,
      implies_true, fr_foldl, frL_foldl, frR_foldl, fr_at, fr_setPan, fr_fresh, fr_calReq]

theorem fr_execBlindWindow {W s0} {s : State} (h : Fr W s0 s) (w : Within [.time, .freeCtr, .pans] W) (x0 x1) : FrO W
    s0 (execBlindWindow x0 x1 s) := by
  unfold execBlindWindow
  simp only [within_cons, within_nil, and_true] at w
  simp +contextual (maxDischargeDepth := 40) only [h, w, within_cons, within_nil, and_self, frO_next, frO_fault,
      frM_some, frM_none, frL_mk, frR_mk, frL_fold, frR_fold, fr_ite, frO_ite, frM_ite, frL_ite, frR_ite, ite_self,
      implies_true, fr_foldl, frL_foldl, frR_foldl, fr_guard, fr_blindWin]

theorem fr_staleEvent {W s0} {s : State} (h : Fr W s0 s) (w : Within [.time, .evq] W) (x1 x2 x3 x4) : Fr W s0
    (State.staleEvent s x1 x2 x3 x4) := by
  unfold State.staleEvent
  simp only [within_cons, within_nil, and_true] at w
  simp +contextual (maxDischargeDepth := 40) only [h, w, within_cons, within_nil, and_self, frO_next, frO_fault,
      frM_some, frM_none, frL_mk, frR_mk, frL_fold, frR_fold, fr_ite, frO_ite, frM_ite, frL_ite, frR_ite, ite_self,
      implies_true, fr_foldl, frL_foldl, frR_foldl, fr_raise, fr_at]

theorem fr_stale {W s0} {s : State} (h : Fr W s0 s) (w : Within [.time, .pans, .trv, .evq] W) (x1 x2) : Fr W s0
    (State.stale s x1 x2) := by
  unfold State.stale
  simp only [within_cons, within_nil, and_true] at w
  all_goals repeat' (split <;> (try simp +contextual (maxDischargeDepth := 40) only [h, w, within_cons, within_nil,
      and_self, frO_next, frO_fault, frM_some, frM_none, frL_mk, frR_mk, frL_fold, frR_fold, fr_ite, frO_ite,
      frM_ite, frL_ite, frR_ite, ite_self, implies_true, fr_foldl, frL_foldl, frR_foldl, fr_mk_trv, fr_staleEvent,
      fr_setPan]))

theorem fr_execCalStale {W s0} {s : State} (h : Fr W s0 s) (w : Within [.time, .pans, .trv, .evq] W) (x0 x1) : FrO
    W s0 (execCalStale x0 x1 s) := by
  unfold execCalStale
  simp only [within_cons, within_nil, and_true] at w
  simp +contextual (maxDischargeDepth := 40) only [h, w, within_cons, within_nil, and_self, frO_next, frO_fault,
      frM_some, frM_none, frL_mk, frR_mk, frL_fold, frR_fold, fr_ite, frO_ite, frM_ite, frL_ite, frR_ite, ite_self,
      implies_true, fr_foldl, frL_foldl, frR_foldl, fr_guard, fr_stale]

theorem fr_leaveOut {W s0} {s : State} (h : Fr W s0 s) (w : Within [.pans] W) (x1) : Fr W s0 (State.leaveOut s x1) := by
  unfold State.leaveOut
  simp only [within_cons, within_nil, and_true] at w
  simp +contextual (maxDischargeDepth := 40) only [h, w, within_cons, within_nil, and_self, frO_next, frO_fault,
      frM_some, frM_none, frL_mk, frR_mk, frL_fold, frR_fold, fr_ite, frO_ite, frM_ite, frL_ite, frR_ite, ite_self,
      implies_true, fr_foldl, frL_foldl, frR_foldl, fr_setPan]

theorem fr_layPans {W s0} {s : State} (h : Fr W s0 s) (w : Within [.pans] W) (x1) : Fr W s0 (State.layPans s x1) := by
  unfold State.layPans
  simp only [within_cons, within_nil, and_true] at w
  simp +contextual (maxDischargeDepth := 40) only [h, w, within_cons, within_nil, and_self, frO_next, frO_fault,
      frM_some, frM_none, frL_mk, frR_mk, frL_fold, frR_fold, fr_ite, frO_ite, frM_ite, frL_ite, frR_ite, ite_self,
      implies_true, fr_foldl, frL_foldl, frR_foldl, fr_setPan]

theorem fr_refill {W s0} {s : State} (h : Fr W s0 s) (w : Within [.pans] W) (x1 x2) : Fr W s0 (State.refill s x1
    x2) := by
  unfold State.refill
  simp only [within_cons, within_nil, and_true] at w
  all_goals repeat' (split <;> (try simp +contextual (maxDischargeDepth := 40) only [h, w, within_cons, within_nil,
      and_self, frO_next, frO_fault, frM_some, frM_none, frL_mk, frR_mk, frL_fold, frR_fold, fr_ite, frO_ite,
      frM_ite, frL_ite, frR_ite, ite_self, implies_true, fr_foldl, frL_foldl, frR_foldl, fr_leaveOut,
      fr_passSlot]))

theorem fr_tryPan {W s0} {s : State} (h : Fr W s0 s) (w : Within [.pans, .ket, .cal, .trv, .evq] W) (x1 x2) : FrL W s0 (State.tryPan s x1 x2) := by
  refine frL_foldl W s0 _ _ _ h fun a t hs => ?_
  unfold State.tryOne
  split
  · exact hs
  · split
    · exact fr_notConverged (w := within_mono w) hs _ _ _
    · split
      · exact fr_commitCal (w := within_mono w) hs _ _ _
      · exact fr_notConverged (w := within_mono w) hs _ _ _

theorem fr_tryPans {W s0} {s : State} (h : Fr W s0 s) (w : Within [.pans, .ket, .cal, .trv, .evq] W) (x1 x2) : FrL W s0 (State.tryPans s x1 x2) :=
  frL_foldl W s0 _ _ _ h fun _ _ hs => fr_tryPan hs (within_mono w) _ _

theorem fr_letIn {W s0} {s : State} (h : Fr W s0 s) (w : Within [.pans] W) (x1) : Fr W s0 (State.letIn s x1) := by
  unfold State.letIn
  simp only [within_cons, within_nil, and_true] at w
  simp +contextual (maxDischargeDepth := 40) only [h, w, within_cons, within_nil, and_self, frO_next, frO_fault,
      frM_some, frM_none, frL_mk, frR_mk, frL_fold, frR_fold, fr_ite, frO_ite, frM_ite, frL_ite, frR_ite, ite_self,
      implies_true, fr_foldl, frL_foldl, frR_foldl, fr_setPan]

theorem fr_putOut {W s0} {s : State} (h : Fr W s0 s) (w : Within [.pans] W) (x1 x2 x3) : Fr W s0 (State.putOut s x1
    x2 x3) := by
  unfold State.putOut
  simp only [within_cons, within_nil, and_true] at w
  simp +contextual (maxDischargeDepth := 40) only [h, w, within_cons, within_nil, and_self, frO_next, frO_fault,
      frM_some, frM_none, frL_mk, frR_mk, frL_fold, frR_fold, fr_ite, frO_ite, frM_ite, frL_ite, frR_ite, ite_self,
      implies_true, fr_foldl, frL_foldl, frR_foldl, fr_layPans, fr_leaveOut, fr_refill]

theorem fr_startup {W s0} {s : State} (h : Fr W s0 s) (w : Within [.mem, .memBad, .memCorr, .memCe, .memUe,
    .streams, .waiting, .baskets, .pans, .pots, .fastQ, .ket, .cal, .dzf, .hq, .trv, .dev, .evq, .msix, .mgmt] W)
    (x1 x2) : Fr W s0 (State.startup s x1 x2) := by
  unfold State.startup
  simp only [within_cons, within_nil, and_true] at w
  simp +contextual (maxDischargeDepth := 40) only [h, w, within_cons, within_nil, and_self, frO_next, frO_fault,
      frM_some, frM_none, frL_mk, frR_mk, frL_fold, frR_fold, fr_ite, frO_ite, frM_ite, frL_ite, frR_ite, ite_self,
      implies_true, fr_foldl, frL_foldl, frR_foldl, fr_mk_cal, fr_setPan, fr_tryPans, fr_tellSpares, fr_putOut,
      fr_letIn, fr_warmed, fr_retireBasket]

theorem fr_execStartupSweep {W s0} {s : State} (h : Fr W s0 s) (w : Within [.mem, .memBad, .memCorr, .memCe,
    .memUe, .streams, .waiting, .baskets, .pans, .pots, .fastQ, .ket, .cal, .dzf, .hq, .trv, .dev, .evq, .msix,
    .mgmt] W) (x0 x1) : FrO W s0 (execStartupSweep x0 x1 s) := by
  unfold execStartupSweep
  simp only [within_cons, within_nil, and_true] at w
  simp +contextual (maxDischargeDepth := 40) only [h, w, within_cons, within_nil, and_self, frO_next, frO_fault,
      frM_some, frM_none, frL_mk, frR_mk, frL_fold, frR_fold, fr_ite, frO_ite, frM_ite, frL_ite, frR_ite, ite_self,
      implies_true, fr_foldl, frL_foldl, frR_foldl, fr_guard, fr_startup]

/-! ## FEU reporting -/

theorem fr_bbrRoll {W s0} {s : State} (h : Fr W s0 s) (w : Within [.trv] W) : Fr W s0 (State.bbrRoll s) := by
  unfold State.bbrRoll
  simp only [within_cons, within_nil, and_true] at w
  simp +contextual (maxDischargeDepth := 40) only [h, w, within_cons, within_nil, and_self, frO_next, frO_fault,
      frM_some, frM_none, frL_mk, frR_mk, frL_fold, frR_fold, fr_ite, frO_ite, frM_ite, frL_ite, frR_ite, ite_self,
      implies_true, fr_foldl, frL_foldl, frR_foldl, fr_mk_trv, fr_bbrPut]

theorem fr_bbrEvent {W s0} {s : State} (h : Fr W s0 s) (w : Within [.trv] W) (x1) : Fr W s0 (State.bbrEvent s x1) := by
  unfold State.bbrEvent
  simp only [within_cons, within_nil, and_true] at w
  simp +contextual (maxDischargeDepth := 40) only [h, w, within_cons, within_nil, and_self, frO_next, frO_fault,
      frM_some, frM_none, frL_mk, frR_mk, frL_fold, frR_fold, fr_ite, frO_ite, frM_ite, frL_ite, frR_ite, ite_self,
      implies_true, fr_foldl, frL_foldl, frR_foldl, fr_mk_trv, fr_bbrRoll, fr_bbrPut]

theorem fr_subPut {W s0} {s : State} (h : Fr W s0 s) (w : Within [.trv, .msix, .mgmt] W) (x1 x2) : Fr W s0
    (State.subPut s x1 x2) := by
  unfold State.subPut
  simp only [within_cons, within_nil, and_true] at w
  all_goals repeat' (split <;> (try simp +contextual (maxDischargeDepth := 40) only [h, w, within_cons, within_nil,
      and_self, frO_next, frO_fault, frM_some, frM_none, frL_mk, frR_mk, frL_fold, frR_fold, fr_ite, frO_ite,
      frM_ite, frL_ite, frR_ite, ite_self, implies_true, fr_foldl, frL_foldl, frR_foldl, fr_mk_trv, fr_condition]))

theorem fr_trivetTake {W s0} {s : State} (h : Fr W s0 s) (w : Within [.trv, .msix, .mgmt] W) (x1) : Fr W s0
    (State.trivetTake s x1) := by
  unfold State.trivetTake
  simp only [within_cons, within_nil, and_true] at w
  simp +contextual (maxDischargeDepth := 40) only [h, w, within_cons, within_nil, and_self, frO_next, frO_fault,
      frM_some, frM_none, frL_mk, frR_mk, frL_fold, frR_fold, fr_ite, frO_ite, frM_ite, frL_ite, frR_ite, ite_self,
      implies_true, fr_foldl, frL_foldl, frR_foldl, fr_subPut, fr_bbrEvent]

theorem fr_toTrivet {W s0} {s : State} (h : Fr W s0 s) (w : Within [.feu, .trv, .msix, .mgmt] W) (x1) : Fr W s0
    (State.toTrivet s x1) := by
  unfold State.toTrivet
  simp only [within_cons, within_nil, and_true] at w
  simp +contextual (maxDischargeDepth := 40) only [h, w, within_cons, within_nil, and_self, frO_next, frO_fault,
      frM_some, frM_none, frL_mk, frR_mk, frL_fold, frR_fold, fr_ite, frO_ite, frM_ite, frL_ite, frR_ite, ite_self,
      implies_true, fr_foldl, frL_foldl, frR_foldl, fr_mk_feu, fr_trivetTake]

theorem fr_feuLost {W s0} {s : State} (h : Fr W s0 s) (w : Within [.feu] W) : Fr W s0 (State.feuLost s) := by
  unfold State.feuLost
  simp only [within_cons, within_nil, and_true] at w
  simp +contextual (maxDischargeDepth := 40) only [h, w, within_cons, within_nil, and_self, frO_next, frO_fault,
      frM_some, frM_none, frL_mk, frR_mk, frL_fold, frR_fold, fr_ite, frO_ite, frM_ite, frL_ite, frR_ite, ite_self,
      implies_true, fr_foldl, frL_foldl, frR_foldl, fr_mk_feu]

theorem fr_feuRing {W s0} {s : State} (h : Fr W s0 s) (w : Within [.mem, .memBad, .memCorr, .memCe, .memUe, .host,
    .feu] W) (x1) : Fr W s0 (State.feuRing s x1) := by
  unfold State.feuRing
  simp only [within_cons, within_nil, and_true] at w
  simp +contextual (maxDischargeDepth := 40) only [h, w, within_cons, within_nil, and_self, frO_next, frO_fault,
      frM_some, frM_none, frL_mk, frR_mk, frL_fold, frR_fold, fr_ite, frO_ite, frM_ite, frL_ite, frR_ite, ite_self,
      implies_true, fr_foldl, frL_foldl, frR_foldl, fr_mk_feu, fr_feuLost, fr_hwr, fr_wr]

theorem fr_feuTake {W s0} {s : State} (h : Fr W s0 s) (w : Within [.mem, .memBad, .memCorr, .memCe, .memUe, .host,
    .feu, .trv, .msix, .mgmt] W) (x1) : Fr W s0 (State.feuTake s x1) := by
  unfold State.feuTake
  simp only [within_cons, within_nil, and_true] at w
  simp +contextual (maxDischargeDepth := 40) only [h, w, within_cons, within_nil, and_self, frO_next, frO_fault,
      frM_some, frM_none, frL_mk, frR_mk, frL_fold, frR_fold, fr_ite, frO_ite, frM_ite, frL_ite, frR_ite, ite_self,
      implies_true, fr_foldl, frL_foldl, frR_foldl, fr_mk_feu, fr_feuRing, fr_msi, fr_toTrivet]

theorem fr_execEventRecord {W s0} {s : State} (h : Fr W s0 s) (w : Within [.mem, .memBad, .memCorr, .memCe, .memUe,
    .host, .feu, .trv, .evq, .msix, .mgmt] W) : FrO W s0 (execEventRecord s) := by
  unfold execEventRecord
  simp only [within_cons, within_nil, and_true] at w
  all_goals repeat' (split <;> (try simp +contextual (maxDischargeDepth := 40) only [h, w, within_cons, within_nil,
      and_self, frO_next, frO_fault, frM_some, frM_none, frL_mk, frR_mk, frL_fold, frR_fold, fr_ite, frO_ite,
      frM_ite, frL_ite, frR_ite, ite_self, implies_true, fr_foldl, frL_foldl, frR_foldl, fr_mk_evq, fr_feuTake]))

theorem fr_pendClear {W s0} {s : State} (h : Fr W s0 s) (w : Within [.feu] W) (x1) : Fr W s0 (State.pendClear s x1) := by
  unfold State.pendClear
  simp only [within_cons, within_nil, and_true] at w
  simp +contextual (maxDischargeDepth := 40) only [h, w, within_cons, within_nil, and_self, frO_next, frO_fault,
      frM_some, frM_none, frL_mk, frR_mk, frL_fold, frR_fold, fr_ite, frO_ite, frM_ite, frL_ite, frR_ite, ite_self,
      implies_true, fr_foldl, frL_foldl, frR_foldl, fr_mk_feu]

theorem fr_ringReset {W s0} {s : State} (h : Fr W s0 s) (w : Within [.feu] W) : Fr W s0 (State.ringReset s) := by
  unfold State.ringReset
  simp only [within_cons, within_nil, and_true] at w
  simp +contextual (maxDischargeDepth := 40) only [h, w, within_cons, within_nil, and_self, frO_next, frO_fault,
      frM_some, frM_none, frL_mk, frR_mk, frL_fold, frR_fold, fr_ite, frO_ite, frM_ite, frL_ite, frR_ite, ite_self,
      implies_true, fr_foldl, frL_foldl, frR_foldl, fr_mk_feu]

theorem fr_feuClear {W s0} {s : State} (h : Fr W s0 s) (w : Within [.feu] W) : Fr W s0 (State.feuClear s) := by
  unfold State.feuClear
  simp only [within_cons, within_nil, and_true] at w
  simp +contextual (maxDischargeDepth := 40) only [h, w, within_cons, within_nil, and_self, frO_next, frO_fault,
      frM_some, frM_none, frL_mk, frR_mk, frL_fold, frR_fold, fr_ite, frO_ite, frM_ite, frL_ite, frR_ite, ite_self,
      implies_true, fr_foldl, frL_foldl, frR_foldl, fr_mk_feu]

theorem fr_execFeuPendClear {W s0} {s : State} (h : Fr W s0 s) (w : Within [.feu] W) (x0) : FrO W s0
    (execFeuPendClear x0 s) := by
  unfold execFeuPendClear
  simp only [within_cons, within_nil, and_true] at w
  simp +contextual (maxDischargeDepth := 40) only [h, w, within_cons, within_nil, and_self, frO_next, frO_fault,
      frM_some, frM_none, frL_mk, frR_mk, frL_fold, frR_fold, fr_ite, frO_ite, frM_ite, frL_ite, frR_ite, ite_self,
      implies_true, fr_foldl, frL_foldl, frR_foldl, fr_pendClear]

theorem fr_execRingRst {W s0} {s : State} (h : Fr W s0 s) (w : Within [.feu] W) : FrO W s0 (execRingRst s) := by
  unfold execRingRst
  simp only [within_cons, within_nil, and_true] at w
  simp +contextual (maxDischargeDepth := 40) only [h, w, within_cons, within_nil, and_self, frO_next, frO_fault,
      frM_some, frM_none, frL_mk, frR_mk, frL_fold, frR_fold, fr_ite, frO_ite, frM_ite, frL_ite, frR_ite, ite_self,
      implies_true, fr_foldl, frL_foldl, frR_foldl, fr_ringReset]

theorem fr_execFeuCntClr {W s0} {s : State} (h : Fr W s0 s) (w : Within [.feu] W) : FrO W s0 (execFeuCntClr s) := by
  unfold execFeuCntClr
  simp only [within_cons, within_nil, and_true] at w
  simp +contextual (maxDischargeDepth := 40) only [h, w, within_cons, within_nil, and_self, frO_next, frO_fault,
      frM_some, frM_none, frL_mk, frR_mk, frL_fold, frR_fold, fr_ite, frO_ite, frM_ite, frL_ite, frR_ite, ite_self,
      implies_true, fr_foldl, frL_foldl, frR_foldl, fr_feuClear]

/-! ## The fabric -/

theorem fr_hqErr {W s0} {s : State} (h : Fr W s0 s) (w : Within [.hq, .msix] W) (x1) : Fr W s0 (State.hqErr s x1) := by
  unfold State.hqErr
  simp only [within_cons, within_nil, and_true] at w
  simp +contextual (maxDischargeDepth := 40) only [h, w, within_cons, within_nil, and_self, frO_next, frO_fault,
      frM_some, frM_none, frL_mk, frR_mk, frL_fold, frR_fold, fr_ite, frO_ite, frM_ite, frL_ite, frR_ite, ite_self,
      implies_true, fr_foldl, frL_foldl, frR_foldl, fr_mk_hq, fr_msi]

theorem fr_apFailed {W s0} {s : State} (h : Fr W s0 s) (w : Within [.hq, .msix] W) (x1) : Fr W s0 (State.apFailed s
    x1) := by
  unfold State.apFailed
  simp only [within_cons, within_nil, and_true] at w
  simp +contextual (maxDischargeDepth := 40) only [h, w, within_cons, within_nil, and_self, frO_next, frO_fault,
      frM_some, frM_none, frL_mk, frR_mk, frL_fold, frR_fold, fr_ite, frO_ite, frM_ite, frL_ite, frR_ite, ite_self,
      implies_true, fr_foldl, frL_foldl, frR_foldl, fr_mk_hq, fr_hqErr]

theorem fr_mismatch {W s0} {s : State} (h : Fr W s0 s) (w : Within [.dzf, .evq] W) (x1 x2 x3 x4) : Fr W s0
    (State.mismatch s x1 x2 x3 x4) := by
  unfold State.mismatch
  simp only [within_cons, within_nil, and_true] at w
  simp +contextual (maxDischargeDepth := 40) only [h, w, within_cons, within_nil, and_self, frO_next, frO_fault,
      frM_some, frM_none, frL_mk, frR_mk, frL_fold, frR_fold, fr_ite, frO_ite, frM_ite, frL_ite, frR_ite, ite_self,
      implies_true, fr_foldl, frL_foldl, frR_foldl, fr_mk_dzf, fr_raise]

theorem fr_countMis {W s0} {s : State} (h : Fr W s0 s) (w : Within [.dzf, .evq] W) (x1 x2) : Fr W s0
    (State.countMis s x1 x2) := by
  unfold State.countMis
  simp only [within_cons, within_nil, and_true] at w
  simp +contextual (maxDischargeDepth := 40) only [h, w, within_cons, within_nil, and_self, frO_next, frO_fault,
      frM_some, frM_none, frL_mk, frR_mk, frL_fold, frR_fold, fr_ite, frO_ite, frM_ite, frL_ite, frR_ite, ite_self,
      implies_true, fr_foldl, frL_foldl, frR_foldl, fr_mk_dzf, fr_mismatch]

theorem fr_answer {W s0} {s : State} (h : Fr W s0 s) (w : Within [.freeCtr, .dzf, .evq, .tx] W) (x1 x2 x3) : Fr W
    s0 (State.answer s x1 x2 x3) := by
  unfold State.answer
  simp only [within_cons, within_nil, and_true] at w
  simp +contextual (maxDischargeDepth := 40) only [h, w, within_cons, within_nil, and_self, frO_next, frO_fault,
      frM_some, frM_none, frL_mk, frR_mk, frL_fold, frR_fold, fr_ite, frO_ite, frM_ite, frL_ite, frR_ite, ite_self,
      implies_true, fr_foldl, frL_foldl, frR_foldl, fr_mk_freeCtr, fr_sendReply]

theorem fr_writeWord {W s0} {s : State} (h : Fr W s0 s) (w : Within [.mem, .memBad, .memCorr, .memCe, .memUe] W)
    (x1 x2) : Fr W s0 (State.writeWord s x1 x2) := by
  unfold State.writeWord
  simp only [within_cons, within_nil, and_true] at w
  simp +contextual (maxDischargeDepth := 40) only [h, w, within_cons, within_nil, and_self, frO_next, frO_fault,
      frM_some, frM_none, frL_mk, frR_mk, frL_fold, frR_fold, fr_ite, frO_ite, frM_ite, frL_ite, frR_ite, ite_self,
      implies_true, fr_foldl, frL_foldl, frR_foldl, fr_wr]

theorem fr_addElem {W s0} {s : State} (h : Fr W s0 s) (w : Within [.mem, .memBad, .memCorr, .memCe, .memUe] W) (x1
    x2) : Fr W s0 (State.addElem s x1 x2) := by
  unfold State.addElem
  simp only [within_cons, within_nil, and_true] at w
  simp +contextual (maxDischargeDepth := 40) only [h, w, within_cons, within_nil, and_self, frO_next, frO_fault,
      frM_some, frM_none, frL_mk, frR_mk, frL_fold, frR_fold, fr_ite, frO_ite, frM_ite, frL_ite, frR_ite, ite_self,
      implies_true, fr_foldl, frL_foldl, frR_foldl, fr_wrN]

theorem fr_applyUnit {W s0} {s : State} (h : Fr W s0 s) (w : Within [.mem, .memBad, .memCorr, .memCe, .memUe,
    .tokens, .globals, .hq, .msix] W) (x1) : Fr W s0 (State.applyUnit s x1) := by
  unfold State.applyUnit
  simp only [within_cons, within_nil, and_true] at w
  all_goals repeat' (split <;> (try simp +contextual (maxDischargeDepth := 40) only [h, w, within_cons, within_nil,
      and_self, frO_next, frO_fault, frM_some, frM_none, frL_mk, frR_mk, frL_fold, frR_fold, fr_ite, frO_ite,
      frM_ite, frL_ite, frR_ite, ite_self, implies_true, fr_foldl, frL_foldl, frR_foldl, fr_writeWord, fr_sigK,
      fr_scrub, fr_addElem]))

theorem fr_tagDup {W s0} {s : State} (h : Fr W s0 s) (w : Within [.dzf, .evq] W) (x1 x2) : Fr W s0 (State.tagDup s
    x1 x2) := by
  unfold State.tagDup
  simp only [within_cons, within_nil, and_true] at w
  simp +contextual (maxDischargeDepth := 40) only [h, w, within_cons, within_nil, and_self, frO_next, frO_fault,
      frM_some, frM_none, frL_mk, frR_mk, frL_fold, frR_fold, fr_ite, frO_ite, frM_ite, frL_ite, frR_ite, ite_self,
      implies_true, fr_foldl, frL_foldl, frR_foldl, fr_mk_dzf, fr_raise]

theorem fr_handle {W s0} {s : State} (h : Fr W s0 s) (w : Within [.freeCtr, .mem, .memBad, .memCorr, .memCe,
    .memUe, .tokens, .globals, .dzf, .hq, .evq, .tx, .msix] W) (x1 x2) : FrL W s0 (State.handle s x1 x2) := by
  unfold State.handle
  simp only [within_cons, within_nil, and_true] at w
  all_goals repeat' (split <;> (try simp +contextual (maxDischargeDepth := 40) only [h, w, within_cons, within_nil,
      and_self, frO_next, frO_fault, frM_some, frM_none, frL_mk, frR_mk, frL_fold, frR_fold, fr_ite, frO_ite,
      frM_ite, frL_ite, frR_ite, ite_self, implies_true, fr_foldl, frL_foldl, frR_foldl, fr_mk_dzf, fr_answer,
      fr_countMis, fr_scrub, fr_tagDup, fr_applyUnit]))

theorem fr_newInc {W s0} {s : State} (h : Fr W s0 s) (w : Within [.dzf] W) (x1) : Fr W s0 (State.newInc s x1) := by
  unfold State.newInc
  simp only [within_cons, within_nil, and_true] at w
  simp +contextual (maxDischargeDepth := 40) only [h, w, within_cons, within_nil, and_self, frO_next, frO_fault,
      frM_some, frM_none, frL_mk, frR_mk, frL_fold, frR_fold, fr_ite, frO_ite, frM_ite, frL_ite, frR_ite, ite_self,
      implies_true, fr_foldl, frL_foldl, frR_foldl, fr_mk_dzf]

theorem fr_advance {W s0} {s : State} (h : Fr W s0 s) (w : Within [.dzf] W) (x1) : Fr W s0 (State.advance s x1) := by
  unfold State.advance
  simp only [within_cons, within_nil, and_true] at w
  simp +contextual (maxDischargeDepth := 40) only [h, w, within_cons, within_nil, and_self, frO_next, frO_fault,
      frM_some, frM_none, frL_mk, frR_mk, frL_fold, frR_fold, fr_ite, frO_ite, frM_ite, frL_ite, frR_ite, ite_self,
      implies_true, fr_foldl, frL_foldl, frR_foldl, fr_mk_dzf]

theorem fr_followers {W s0} (w : Within [.freeCtr, .mem, .memBad, .memCorr, .memCe, .memUe, .tokens, .globals, .dzf, .hq, .evq, .tx, .msix] W) (src : Nat) : ∀ (n : Nat) {s : State}, Fr W s0 s → Fr W s0 (s.followers src n)
  | 0, _, h => h
  | n + 1, s, h => by
    unfold State.followers
    split
    · exact h
    · simp only []
      split <;> rename_i heq
      · refine fr_followers w src n (fr_advance (w := within_mono w) (frL_eq (fr_handle (w := within_mono w) ?_ _ _) heq) _)
        exact fr_mk_dzf h (within_mem w _ (by decide)) _
      · refine frL_eq (fr_handle (w := within_mono w) ?_ _ _) heq
        exact fr_mk_dzf h (within_mem w _ (by decide)) _

theorem fr_ordered {W s0} {s : State} (h : Fr W s0 s) (w : Within [.freeCtr, .mem, .memBad, .memCorr, .memCe,
    .memUe, .tokens, .globals, .dzf, .hq, .evq, .tx, .msix] W) (x1 x2) : Fr W s0 (State.ordered s x1 x2) := by
  have hk := h
  unfold State.ordered
  simp only [within_cons, within_nil, and_true] at w
  try simp +contextual (maxDischargeDepth := 40) only [h, w, within_cons, within_nil, and_self, frO_next,
      frO_fault, frM_some, frM_none, frL_mk, frR_mk, frL_fold, frR_fold, fr_ite, frO_ite, frM_ite, frL_ite,
      frR_ite, ite_self, implies_true, fr_foldl, frL_foldl, frR_foldl, fr_mk_dzf, fr_handle, fr_followers,
      fr_advance, fr_answer]
  all_goals repeat' (split <;> (try (rename_i heq; first | have hk := frR_eq (W := W) (s0 := s0) (by simp +contextual (maxDischargeDepth := 40) only [hk, h, w, within_cons, within_nil, and_self, frO_next, frO_fault, frM_some, frM_none, frL_mk, frR_mk, frL_fold, frR_fold, fr_ite, frO_ite, frM_ite, frL_ite, frR_ite, ite_self, implies_true, fr_foldl, frL_foldl, frR_foldl, fr_mk_dzf, fr_handle, fr_followers, fr_advance, fr_answer]) heq | have hk := frL_eq (W := W) (s0 := s0) (by simp +contextual (maxDischargeDepth := 40) only [hk, h, w, within_cons, within_nil, and_self, frO_next, frO_fault, frM_some, frM_none, frL_mk, frR_mk, frL_fold, frR_fold, fr_ite, frO_ite, frM_ite, frL_ite, frR_ite, ite_self, implies_true, fr_foldl, frL_foldl, frR_foldl, fr_mk_dzf, fr_handle, fr_followers, fr_advance, fr_answer]) heq | have hk := frM_eq (W := W) (s0 := s0) (by simp +contextual (maxDischargeDepth := 40) only [hk, h, w, within_cons, within_nil, and_self, frO_next, frO_fault, frM_some, frM_none, frL_mk, frR_mk, frL_fold, frR_fold, fr_ite, frO_ite, frM_ite, frL_ite, frR_ite, ite_self, implies_true, fr_foldl, frL_foldl, frR_foldl, fr_mk_dzf, fr_handle, fr_followers, fr_advance, fr_answer]) heq)) <;> (try simp +contextual (maxDischargeDepth := 40) only [hk, h, w, within_cons, within_nil, and_self, frO_next, frO_fault, frM_some, frM_none, frL_mk, frR_mk, frL_fold, frR_fold, fr_ite, frO_ite, frM_ite, frL_ite, frR_ite, ite_self, implies_true, fr_foldl, frL_foldl, frR_foldl, fr_mk_dzf, fr_handle, fr_followers, fr_advance, fr_answer]))

theorem fr_arrive {W s0} {s : State} (h : Fr W s0 s) (w : Within [.freeCtr, .mem, .memBad, .memCorr, .memCe,
    .memUe, .tokens, .globals, .dzf, .hq, .evq, .tx, .msix] W) (x1 x2) : Fr W s0 (State.arrive s x1 x2) := by
  unfold State.arrive
  simp only [within_cons, within_nil, and_true] at w
  simp +contextual (maxDischargeDepth := 40) only [h, w, within_cons, within_nil, and_self, frO_next, frO_fault,
      frM_some, frM_none, frL_mk, frR_mk, frL_fold, frR_fold, fr_ite, frO_ite, frM_ite, frL_ite, frR_ite, ite_self,
      implies_true, fr_foldl, frL_foldl, frR_foldl, fr_newInc, fr_ordered, fr_handle]

theorem fr_forwardPkt {W s0} {s : State} (h : Fr W s0 s) (w : Within [.freeCtr, .dzf, .evq, .tx] W) (x1) : Fr W s0
    (State.forwardPkt s x1) := by
  have hk := h
  unfold State.forwardPkt
  simp only [within_cons, within_nil, and_true] at w
  try simp +contextual (maxDischargeDepth := 40) only [h, w, within_cons, within_nil, and_self, frO_next,
      frO_fault, frM_some, frM_none, frL_mk, frR_mk, frL_fold, frR_fold, fr_ite, frO_ite, frM_ite, frL_ite,
      frR_ite, ite_self, implies_true, fr_foldl, frL_foldl, frR_foldl, fr_noRoute, fr_egress, fr_putPort]
  all_goals repeat' (split <;> (try (rename_i heq; first | have hk := frR_eq (W := W) (s0 := s0) (by simp +contextual (maxDischargeDepth := 40) only [hk, h, w, within_cons, within_nil, and_self, frO_next, frO_fault, frM_some, frM_none, frL_mk, frR_mk, frL_fold, frR_fold, fr_ite, frO_ite, frM_ite, frL_ite, frR_ite, ite_self, implies_true, fr_foldl, frL_foldl, frR_foldl, fr_noRoute, fr_egress, fr_putPort]) heq | have hk := frL_eq (W := W) (s0 := s0) (by simp +contextual (maxDischargeDepth := 40) only [hk, h, w, within_cons, within_nil, and_self, frO_next, frO_fault, frM_some, frM_none, frL_mk, frR_mk, frL_fold, frR_fold, fr_ite, frO_ite, frM_ite, frL_ite, frR_ite, ite_self, implies_true, fr_foldl, frL_foldl, frR_foldl, fr_noRoute, fr_egress, fr_putPort]) heq | have hk := frM_eq (W := W) (s0 := s0) (by simp +contextual (maxDischargeDepth := 40) only [hk, h, w, within_cons, within_nil, and_self, frO_next, frO_fault, frM_some, frM_none, frL_mk, frR_mk, frL_fold, frR_fold, fr_ite, frO_ite, frM_ite, frL_ite, frR_ite, ite_self, implies_true, fr_foldl, frL_foldl, frR_foldl, fr_noRoute, fr_egress, fr_putPort]) heq)) <;> (try simp +contextual (maxDischargeDepth := 40) only [hk, h, w, within_cons, within_nil, and_self, frO_next, frO_fault, frM_some, frM_none, frL_mk, frR_mk, frL_fold, frR_fold, fr_ite, frO_ite, frM_ite, frL_ite, frR_ite, ite_self, implies_true, fr_foldl, frL_foldl, frR_foldl, fr_noRoute, fr_egress, fr_putPort]))

theorem fr_countBad {W s0} {s : State} (h : Fr W s0 s) (w : Within [.dzf] W) (x1) : Fr W s0 (State.countBad s x1) := by
  unfold State.countBad
  simp only [within_cons, within_nil, and_true] at w
  simp +contextual (maxDischargeDepth := 40) only [h, w, within_cons, within_nil, and_self, frO_next, frO_fault,
      frM_some, frM_none, frL_mk, frR_mk, frL_fold, frR_fold, fr_ite, frO_ite, frM_ite, frL_ite, frR_ite, ite_self,
      implies_true, fr_foldl, frL_foldl, frR_foldl, fr_setPort]

theorem fr_arrival {W s0} {s : State} (h : Fr W s0 s) (w : Within [.freeCtr, .dzf, .evq, .tx] W) (x1 x2 x3 x4) (hf4
    : ∀ y0, Fr W s0 y0 → Fr W s0 (x4 y0)) : Fr W s0 (State.arrival s x1 x2 x3 x4) := by
  unfold State.arrival
  simp only [within_cons, within_nil, and_true] at w
  simp +contextual (maxDischargeDepth := 40) only [h, w, hf4, within_cons, within_nil, and_self, frO_next,
      frO_fault, frM_some, frM_none, frL_mk, frR_mk, frL_fold, frR_fold, fr_ite, frO_ite, frM_ite, frL_ite,
      frR_ite, ite_self, implies_true, fr_foldl, frL_foldl, frR_foldl, fr_countBad, fr_forwardPkt]

theorem fr_execWrite {W s0} {s : State} (h : Fr W s0 s) (w : Within [.freeCtr, .mem, .memBad, .memCorr, .memCe,
    .memUe, .tokens, .globals, .dzf, .hq, .evq, .tx, .msix] W) (x0 x1) : FrO W s0 (execWrite x0 x1 s) := by
  unfold execWrite
  simp only [within_cons, within_nil, and_true] at w
  simp +contextual (maxDischargeDepth := 40) only [h, w, within_cons, within_nil, and_self, frO_next, frO_fault,
      frM_some, frM_none, frL_mk, frR_mk, frL_fold, frR_fold, fr_ite, frO_ite, frM_ite, frL_ite, frR_ite, ite_self,
      implies_true, fr_foldl, frL_foldl, frR_foldl, fr_guard, fr_arrival, fr_arrive]

theorem fr_execRead {W s0} {s : State} (h : Fr W s0 s) (w : Within [.freeCtr, .mem, .memBad, .memCorr, .memCe,
    .memUe, .tokens, .globals, .dzf, .hq, .evq, .tx, .msix] W) (x0 x1) : FrO W s0 (execRead x0 x1 s) := by
  unfold execRead
  simp only [within_cons, within_nil, and_true] at w
  simp +contextual (maxDischargeDepth := 40) only [h, w, within_cons, within_nil, and_self, frO_next, frO_fault,
      frM_some, frM_none, frL_mk, frR_mk, frL_fold, frR_fold, fr_ite, frO_ite, frM_ite, frL_ite, frR_ite, ite_self,
      implies_true, fr_foldl, frL_foldl, frR_foldl, fr_guard, fr_arrival, fr_arrive]

theorem fr_execAtomic {W s0} {s : State} (h : Fr W s0 s) (w : Within [.freeCtr, .mem, .memBad, .memCorr, .memCe,
    .memUe, .tokens, .globals, .dzf, .hq, .evq, .tx, .msix] W) (x0 x1) : FrO W s0 (execAtomic x0 x1 s) := by
  unfold execAtomic
  simp only [within_cons, within_nil, and_true] at w
  simp +contextual (maxDischargeDepth := 40) only [h, w, within_cons, within_nil, and_self, frO_next, frO_fault,
      frM_some, frM_none, frL_mk, frR_mk, frL_fold, frR_fold, fr_ite, frO_ite, frM_ite, frL_ite, frR_ite, ite_self,
      implies_true, fr_foldl, frL_foldl, frR_foldl, fr_guard, fr_arrival, fr_arrive]

theorem fr_execSkip {W s0} {s : State} (h : Fr W s0 s) (w : Within [.freeCtr, .mem, .memBad, .memCorr, .memCe,
    .memUe, .tokens, .globals, .dzf, .hq, .evq, .tx, .msix] W) (x0 x1) : FrO W s0 (execSkip x0 x1 s) := by
  unfold execSkip
  simp only [within_cons, within_nil, and_true] at w
  simp +contextual (maxDischargeDepth := 40) only [h, w, within_cons, within_nil, and_self, frO_next, frO_fault,
      frM_some, frM_none, frL_mk, frR_mk, frL_fold, frR_fold, fr_ite, frO_ite, frM_ite, frL_ite, frR_ite, ite_self,
      implies_true, fr_foldl, frL_foldl, frR_foldl, fr_guard, fr_arrival, fr_arrive]

theorem fr_execForward {W s0} {s : State} (h : Fr W s0 s) (w : Within [.freeCtr, .dzf, .evq, .tx] W) (x0 x1) : FrO W s0 (execForward x0 x1 s) := by
  have w1 := w
  simp only [within_cons, within_nil, and_true] at w1
  unfold execForward
  refine fr_guard (w := within_mono w) ?_ _
  exact fr_dite h (fr_arrival (w := within_mono w) h _ _ _ _ fun _ hs => hs)

theorem fr_apTell {W s0} {s : State} (h : Fr W s0 s) (w : Within [.dzf] W) (x1) : Fr W s0 (State.apTell s x1) := by
  unfold State.apTell
  simp only [within_cons, within_nil, and_true] at w
  simp +contextual (maxDischargeDepth := 40) only [h, w, within_cons, within_nil, and_self, frO_next, frO_fault,
      frM_some, frM_none, frL_mk, frR_mk, frL_fold, frR_fold, fr_ite, frO_ite, frM_ite, frL_ite, frR_ite, ite_self,
      implies_true, fr_foldl, frL_foldl, frR_foldl, fr_mk_dzf]

theorem fr_settle {W s0} {s : State} (h : Fr W s0 s) (w : Within [.mem, .memBad, .memCorr, .memCe, .memUe,
    .baskets, .pots, .dzf, .hq, .dev, .evq, .tx, .msix] W) (x1 x2 x3) : Fr W s0 (State.settle s x1 x2 x3) := by
  unfold State.settle
  simp only [within_cons, within_nil, and_true] at w
  all_goals repeat' (split <;> (try simp +contextual (maxDischargeDepth := 40) only [h, w, within_cons, within_nil,
      and_self, frO_next, frO_fault, frM_some, frM_none, frL_mk, frR_mk, frL_fold, frR_fold, fr_ite, frO_ite,
      frM_ite, frL_ite, frR_ite, ite_self, implies_true, fr_foldl, frL_foldl, frR_foldl, fr_mk_dev, fr_modRec,
      fr_setPot, fr_endClose, fr_takeTags, fr_sendUnits, fr_apFailed, fr_apTell]))

theorem fr_deposit {W s0} {s : State} (h : Fr W s0 s) (w : Within [.mem, .memBad, .memCorr, .memCe, .memUe, .pans,
    .dev] W) (x1 x2) : Fr W s0 (State.deposit s x1 x2) := by
  unfold State.deposit
  simp only [within_cons, within_nil, and_true] at w
  all_goals repeat' (split <;> (try simp +contextual (maxDischargeDepth := 40) only [h, w, within_cons, within_nil,
      and_self, frO_next, frO_fault, frM_some, frM_none, frL_mk, frR_mk, frL_fold, frR_fold, fr_ite, frO_ite,
      frM_ite, frL_ite, frR_ite, ite_self, implies_true, fr_foldl, frL_foldl, frR_foldl, fr_mk_dev, fr_wr,
      fr_setPan]))

theorem fr_dropUnit {W s0} {s : State} (h : Fr W s0 s) (w : Within [.dzf] W) (x1) : Fr W s0 (State.dropUnit s x1) := by
  unfold State.dropUnit
  simp only [within_cons, within_nil, and_true] at w
  simp +contextual (maxDischargeDepth := 40) only [h, w, within_cons, within_nil, and_self, frO_next, frO_fault,
      frM_some, frM_none, frL_mk, frR_mk, frL_fold, frR_fold, fr_ite, frO_ite, frM_ite, frL_ite, frR_ite, ite_self,
      implies_true, fr_foldl, frL_foldl, frR_foldl, fr_mk_dzf]

theorem fr_putUnit {W s0} {s : State} (h : Fr W s0 s) (w : Within [.dzf] W) (x1) : Fr W s0 (State.putUnit s x1) := by
  unfold State.putUnit
  simp only [within_cons, within_nil, and_true] at w
  simp +contextual (maxDischargeDepth := 40) only [h, w, within_cons, within_nil, and_self, frO_next, frO_fault,
      frM_some, frM_none, frL_mk, frR_mk, frL_fold, frR_fold, fr_ite, frO_ite, frM_ite, frL_ite, frR_ite, ite_self,
      implies_true, fr_foldl, frL_foldl, frR_foldl, fr_mk_dzf]

theorem fr_pump {W s0} {s : State} (h : Fr W s0 s) (w : Within [.dzf, .evq, .tx] W) : Fr W s0 (State.pump s) := by
  unfold State.pump
  simp only [within_cons, within_nil, and_true] at w
  simp +contextual (maxDischargeDepth := 40) only [h, w, within_cons, within_nil, and_self, frO_next, frO_fault,
      frM_some, frM_none, frL_mk, frR_mk, frL_fold, frR_fold, fr_ite, frO_ite, frM_ite, frL_ite, frR_ite, ite_self,
      implies_true, fr_foldl, frL_foldl, frR_foldl, fr_pumpUnits]

theorem fr_answered {W s0} {s : State} (h : Fr W s0 s) (w : Within [.mem, .memBad, .memCorr, .memCe, .memUe,
    .baskets, .pans, .pots, .dzf, .hq, .dev, .evq, .tx, .msix] W) (x1 x2 x3) : Fr W s0 (State.answered s x1 x2 x3) := by
  unfold State.answered
  simp only [within_cons, within_nil, and_true] at w
  simp +contextual (maxDischargeDepth := 40) only [h, w, within_cons, within_nil, and_self, frO_next, frO_fault,
      frM_some, frM_none, frL_mk, frR_mk, frL_fold, frR_fold, fr_ite, frO_ite, frM_ite, frL_ite, frR_ite, ite_self,
      implies_true, fr_foldl, frL_foldl, frR_foldl, fr_mk_dzf, fr_deposit, fr_dropUnit, fr_putUnit, fr_pump,
      fr_settle, fr_mismatch]

theorem fr_sink {W s0} {s : State} (h : Fr W s0 s) (w : Within [.mem, .memBad, .memCorr, .memCe, .memUe, .baskets,
    .pans, .pots, .dzf, .hq, .dev, .evq, .tx, .msix] W) (x1 x2) : Fr W s0 (State.sink s x1 x2) := by
  unfold State.sink
  simp only [within_cons, within_nil, and_true] at w
  all_goals repeat' (split <;> (try simp +contextual (maxDischargeDepth := 40) only [h, w, within_cons, within_nil,
      and_self, frO_next, frO_fault, frM_some, frM_none, frL_mk, frR_mk, frL_fold, frR_fold, fr_ite, frO_ite,
      frM_ite, frL_ite, frR_ite, ite_self, implies_true, fr_foldl, frL_foldl, frR_foldl, fr_answered]))

theorem fr_execCompl {W s0} {s : State} (h : Fr W s0 s) (w : Within [.freeCtr, .mem, .memBad, .memCorr, .memCe,
    .memUe, .baskets, .pans, .pots, .dzf, .hq, .dev, .evq, .tx, .msix] W) (x0 x1) : FrO W s0 (execCompl x0 x1 s) := by
  unfold execCompl
  simp only [within_cons, within_nil, and_true] at w
  simp +contextual (maxDischargeDepth := 40) only [h, w, within_cons, within_nil, and_self, frO_next, frO_fault,
      frM_some, frM_none, frL_mk, frR_mk, frL_fold, frR_fold, fr_ite, frO_ite, frM_ite, frL_ite, frR_ite, ite_self,
      implies_true, fr_foldl, frL_foldl, frR_foldl, fr_guard, fr_arrival, fr_sink]

theorem fr_execRdrsp {W s0} {s : State} (h : Fr W s0 s) (w : Within [.freeCtr, .mem, .memBad, .memCorr, .memCe,
    .memUe, .baskets, .pans, .pots, .dzf, .hq, .dev, .evq, .tx, .msix] W) (x0 x1) : FrO W s0 (execRdrsp x0 x1 s) := by
  unfold execRdrsp
  simp only [within_cons, within_nil, and_true] at w
  simp +contextual (maxDischargeDepth := 40) only [h, w, within_cons, within_nil, and_self, frO_next, frO_fault,
      frM_some, frM_none, frL_mk, frR_mk, frL_fold, frR_fold, fr_ite, frO_ite, frM_ite, frL_ite, frR_ite, ite_self,
      implies_true, fr_foldl, frL_foldl, frR_foldl, fr_guard, fr_arrival, fr_sink]

theorem fr_execResendTimer {W s0} {s : State} (h : Fr W s0 s) (w : Within [.time, .dzf, .evq, .tx] W) (x0) : FrO W
    s0 (execResendTimer x0 s) := by
  unfold execResendTimer
  simp only [within_cons, within_nil, and_true] at w
  all_goals repeat' (split <;> (try simp +contextual (maxDischargeDepth := 40) only [h, w, within_cons, within_nil,
      and_self, frO_next, frO_fault, frM_some, frM_none, frL_mk, frR_mk, frL_fold, frR_fold, fr_ite, frO_ite,
      frM_ite, frL_ite, frR_ite, ite_self, implies_true, fr_foldl, frL_foldl, frR_foldl, fr_transmit, fr_at]))

theorem fr_sendSkip {W s0} {s : State} (h : Fr W s0 s) (w : Within [.dzf, .evq, .tx] W) (x1) : Fr W s0
    (State.sendSkip s x1) := by
  unfold State.sendSkip
  simp only [within_cons, within_nil, and_true] at w
  simp +contextual (maxDischargeDepth := 40) only [h, w, within_cons, within_nil, and_self, frO_next, frO_fault,
      frM_some, frM_none, frL_mk, frR_mk, frL_fold, frR_fold, fr_ite, frO_ite, frM_ite, frL_ite, frR_ite, ite_self,
      implies_true, fr_foldl, frL_foldl, frR_foldl, fr_takeTags, fr_transmit]

theorem fr_execUnitGiveUp {W s0} {s : State} (h : Fr W s0 s) (w : Within [.time, .mem, .memBad, .memCorr, .memCe,
    .memUe, .baskets, .pots, .dzf, .hq, .dev, .evq, .tx, .msix] W) (x0) : FrO W s0 (execUnitGiveUp x0 s) := by
  unfold execUnitGiveUp
  simp only [within_cons, within_nil, and_true] at w
  all_goals repeat' (split <;> (try simp +contextual (maxDischargeDepth := 40) only [h, w, within_cons, within_nil,
      and_self, frO_next, frO_fault, frM_some, frM_none, frL_mk, frR_mk, frL_fold, frR_fold, fr_ite, frO_ite,
      frM_ite, frL_ite, frR_ite, ite_self, implies_true, fr_foldl, frL_foldl, frR_foldl, fr_dropUnit, fr_at,
      fr_sendSkip, fr_pump, fr_settle]))

theorem fr_execTagRelease {W s0} {s : State} (h : Fr W s0 s) (w : Within [.time, .dzf] W) (x0) : FrO W s0
    (execTagRelease x0 s) := by
  unfold execTagRelease
  simp only [within_cons, within_nil, and_true] at w
  all_goals repeat' (split <;> (try simp +contextual (maxDischargeDepth := 40) only [h, w, within_cons, within_nil,
      and_self, frO_next, frO_fault, frM_some, frM_none, frL_mk, frR_mk, frL_fold, frR_fold, fr_ite, frO_ite,
      frM_ite, frL_ite, frR_ite, ite_self, implies_true, fr_foldl, frL_foldl, frR_foldl, fr_mk_dzf, fr_dropUnit,
      fr_at]))

theorem fr_dedupExpire {W s0} {s : State} (h : Fr W s0 s) (w : Within [.time, .dzf] W) (x1 x2 x3 x4) : Fr W s0
    (State.dedupExpire s x1 x2 x3 x4) := by
  unfold State.dedupExpire
  simp only [within_cons, within_nil, and_true] at w
  all_goals repeat' (split <;> (try simp +contextual (maxDischargeDepth := 40) only [h, w, within_cons, within_nil,
      and_self, frO_next, frO_fault, frM_some, frM_none, frL_mk, frR_mk, frL_fold, frR_fold, fr_ite, frO_ite,
      frM_ite, frL_ite, frR_ite, ite_self, implies_true, fr_foldl, frL_foldl, frR_foldl, fr_mk_dzf, fr_at]))

theorem fr_execDedupExpire {W s0} {s : State} (h : Fr W s0 s) (w : Within [.time, .dzf] W) (x0 x1 x2) : FrO W s0
    (execDedupExpire x0 x1 x2 s) := by
  unfold execDedupExpire
  simp only [within_cons, within_nil, and_true] at w
  simp +contextual (maxDischargeDepth := 40) only [h, w, within_cons, within_nil, and_self, frO_next, frO_fault,
      frM_some, frM_none, frL_mk, frR_mk, frL_fold, frR_fold, fr_ite, frO_ite, frM_ite, frL_ite, frR_ite, ite_self,
      implies_true, fr_foldl, frL_foldl, frR_foldl, fr_dedupExpire]

theorem fr_execCreditStallDiscard {W s0} {s : State} (h : Fr W s0 s) (w : Within [.time, .dzf, .tx] W) (x0 x1) :
    FrO W s0 (execCreditStallDiscard x0 x1 s) := by
  unfold execCreditStallDiscard
  simp only [within_cons, within_nil, and_true] at w
  all_goals repeat' (split <;> (try simp +contextual (maxDischargeDepth := 40) only [h, w, within_cons, within_nil,
      and_self, frO_next, frO_fault, frM_some, frM_none, frL_mk, frR_mk, frL_fold, frR_fold, fr_ite, frO_ite,
      frM_ite, frL_ite, frR_ite, ite_self, implies_true, fr_foldl, frL_foldl, frR_foldl, fr_mk_tx, fr_guard, fr_at,
      fr_setPort]))

/-! ## Ports -/

theorem fr_onPort {W s0} {s : State} (h : Fr W s0 s) (w : Within [] W) (x1 x2) (hf2 : ∀ y0, Fr W s0 y0 → Fr W s0
    (x2 y0)) : FrO W s0 (State.onPort s x1 x2) := by
  unfold State.onPort
  simp only [within_nil] at w
  simp +contextual (maxDischargeDepth := 40) only [h, hf2, within_cons, within_nil, and_self, frO_next, frO_fault,
      frM_some, frM_none, frL_mk, frR_mk, frL_fold, frR_fold, fr_ite, frO_ite, frM_ite, frL_ite, frR_ite, ite_self,
      implies_true, fr_foldl, frL_foldl, frR_foldl, fr_guard]

theorem fr_execFlitReplay {W s0} {s : State} (h : Fr W s0 s) (w : Within [.freeCtr, .dzf] W) (x0) : FrO W s0
    (execFlitReplay x0 s) := by
  unfold execFlitReplay
  simp only [within_cons, within_nil, and_true] at w
  simp +contextual (maxDischargeDepth := 40) only [h, w, within_cons, within_nil, and_self, frO_next, frO_fault,
      frM_some, frM_none, frL_mk, frR_mk, frL_fold, frR_fold, fr_ite, frO_ite, frM_ite, frL_ite, frR_ite, ite_self,
      implies_true, fr_foldl, frL_foldl, frR_foldl, fr_onPort, fr_setPort, fr_fresh]

theorem fr_execReplayWindow {W s0} {s : State} (h : Fr W s0 s) (w : Within [.freeCtr, .dzf, .trv, .evq, .tx,
    .joins] W) (x0) : FrO W s0 (execReplayWindow x0 s) := by
  unfold execReplayWindow
  simp only [within_cons, within_nil, and_true] at w
  simp +contextual (maxDischargeDepth := 40) only [h, w, within_cons, within_nil, and_self, frO_next, frO_fault,
      frM_some, frM_none, frL_mk, frR_mk, frL_fold, frR_fold, fr_ite, frO_ite, frM_ite, frL_ite, frR_ite, ite_self,
      implies_true, fr_foldl, frL_foldl, frR_foldl, fr_onPort, fr_setPort, fr_fresh, fr_raise, fr_retirePort]

theorem fr_execLightDetect {W s0} {s : State} (h : Fr W s0 s) (w : Within [.freeCtr, .dzf, .evq, .tx, .joins] W)
    (x0) : FrO W s0 (execLightDetect x0 s) := by
  unfold execLightDetect
  simp only [within_cons, within_nil, and_true] at w
  simp +contextual (maxDischargeDepth := 40) only [h, w, within_cons, within_nil, and_self, frO_next, frO_fault,
      frM_some, frM_none, frL_mk, frR_mk, frL_fold, frR_fold, fr_ite, frO_ite, frM_ite, frL_ite, frR_ite, ite_self,
      implies_true, fr_foldl, frL_foldl, frR_foldl, fr_mk_freeCtr, fr_onPort, fr_portTo, fr_setPort]

theorem fr_execLinkUp {W s0} {s : State} (h : Fr W s0 s) (w : Within [.freeCtr, .dzf, .evq, .tx, .joins] W) (x0) :
    FrO W s0 (execLinkUp x0 s) := by
  unfold execLinkUp
  simp only [within_cons, within_nil, and_true] at w
  simp +contextual (maxDischargeDepth := 40) only [h, w, within_cons, within_nil, and_self, frO_next, frO_fault,
      frM_some, frM_none, frL_mk, frR_mk, frL_fold, frR_fold, fr_ite, frO_ite, frM_ite, frL_ite, frR_ite, ite_self,
      implies_true, fr_foldl, frL_foldl, frR_foldl, fr_onPort, fr_portTo, fr_setPort]

theorem fr_execTrainingTimeout {W s0} {s : State} (h : Fr W s0 s) (w : Within [.time, .freeCtr, .dzf, .trv, .evq,
    .tx, .joins] W) (x0) : FrO W s0 (execTrainingTimeout x0 s) := by
  unfold execTrainingTimeout
  simp only [within_cons, within_nil, and_true] at w
  simp +contextual (maxDischargeDepth := 40) only [h, w, within_cons, within_nil, and_self, frO_next, frO_fault,
      frM_some, frM_none, frL_mk, frR_mk, frL_fold, frR_fold, fr_ite, frO_ite, frM_ite, frL_ite, frR_ite, ite_self,
      implies_true, fr_foldl, frL_foldl, frR_foldl, fr_onPort, fr_at, fr_portTo, fr_setPort, fr_retirePort]

theorem fr_execLossOfSignal {W s0} {s : State} (h : Fr W s0 s) (w : Within [.freeCtr, .dzf, .trv, .evq, .tx,
    .joins] W) (x0) : FrO W s0 (execLossOfSignal x0 s) := by
  unfold execLossOfSignal
  simp only [within_cons, within_nil, and_true] at w
  simp +contextual (maxDischargeDepth := 40) only [h, w, within_cons, within_nil, and_self, frO_next, frO_fault,
      frM_some, frM_none, frL_mk, frR_mk, frL_fold, frR_fold, fr_ite, frO_ite, frM_ite, frL_ite, frR_ite, ite_self,
      implies_true, fr_foldl, frL_foldl, frR_foldl, fr_onPort, fr_portDown]

theorem fr_portOn {W s0} {s : State} (h : Fr W s0 s) (w : Within [.freeCtr, .dzf, .evq, .tx, .joins] W) (x1) : Fr W
    s0 (State.portOn s x1) := by
  unfold State.portOn
  simp only [within_cons, within_nil, and_true] at w
  simp +contextual (maxDischargeDepth := 40) only [h, w, within_cons, within_nil, and_self, frO_next, frO_fault,
      frM_some, frM_none, frL_mk, frR_mk, frL_fold, frR_fold, fr_ite, frO_ite, frM_ite, frL_ite, frR_ite, ite_self,
      implies_true, fr_foldl, frL_foldl, frR_foldl, fr_setPort, fr_portTo]

theorem fr_portOff {W s0} {s : State} (h : Fr W s0 s) (w : Within [.freeCtr, .dzf, .evq, .tx, .joins] W) (x1) : Fr
    W s0 (State.portOff s x1) := by
  unfold State.portOff
  simp only [within_cons, within_nil, and_true] at w
  simp +contextual (maxDischargeDepth := 40) only [h, w, within_cons, within_nil, and_self, frO_next, frO_fault,
      frM_some, frM_none, frL_mk, frR_mk, frL_fold, frR_fold, fr_ite, frO_ite, frM_ite, frL_ite, frR_ite, ite_self,
      implies_true, fr_foldl, frL_foldl, frR_foldl, fr_setPort, fr_portTo]

theorem fr_portDrain {W s0} {s : State} (h : Fr W s0 s) (w : Within [.dzf, .joins] W) (x1 x2) : Fr W s0
    (State.portDrain s x1 x2) := by
  unfold State.portDrain
  simp only [within_cons, within_nil, and_true] at w
  simp +contextual (maxDischargeDepth := 40) only [h, w, within_cons, within_nil, and_self, frO_next, frO_fault,
      frM_some, frM_none, frL_mk, frR_mk, frL_fold, frR_fold, fr_ite, frO_ite, frM_ite, frL_ite, frR_ite, ite_self,
      implies_true, fr_foldl, frL_foldl, frR_foldl, fr_adopt, fr_setPort]

theorem fr_portRetrain {W s0} {s : State} (h : Fr W s0 s) (w : Within [.freeCtr, .dzf, .evq, .tx, .joins] W) (x1) :
    Fr W s0 (State.portRetrain s x1) := by
  unfold State.portRetrain
  simp only [within_cons, within_nil, and_true] at w
  simp +contextual (maxDischargeDepth := 40) only [h, w, within_cons, within_nil, and_self, frO_next, frO_fault,
      frM_some, frM_none, frL_mk, frR_mk, frL_fold, frR_fold, fr_ite, frO_ite, frM_ite, frL_ite, frR_ite, ite_self,
      implies_true, fr_foldl, frL_foldl, frR_foldl, fr_portTo]

theorem fr_portBack {W s0} {s : State} (h : Fr W s0 s) (w : Within [.freeCtr, .dzf, .trv, .evq, .tx, .joins] W)
    (x1) : Fr W s0 (State.portBack s x1) := by
  unfold State.portBack
  simp only [within_cons, within_nil, and_true] at w
  simp +contextual (maxDischargeDepth := 40) only [h, w, within_cons, within_nil, and_self, frO_next, frO_fault,
      frM_some, frM_none, frL_mk, frR_mk, frL_fold, frR_fold, fr_ite, frO_ite, frM_ite, frL_ite, frR_ite, ite_self,
      implies_true, fr_foldl, frL_foldl, frR_foldl, fr_bbrPut, fr_portTo]

theorem fr_execPortEnable {W s0} {s : State} (h : Fr W s0 s) (w : Within [.freeCtr, .dzf, .evq, .tx, .joins] W)
    (x0) : FrO W s0 (execPortEnable x0 s) := by
  unfold execPortEnable
  simp only [within_cons, within_nil, and_true] at w
  simp +contextual (maxDischargeDepth := 40) only [h, w, within_cons, within_nil, and_self, frO_next, frO_fault,
      frM_some, frM_none, frL_mk, frR_mk, frL_fold, frR_fold, fr_ite, frO_ite, frM_ite, frL_ite, frR_ite, ite_self,
      implies_true, fr_foldl, frL_foldl, frR_foldl, fr_onPort, fr_portOn]

theorem fr_execPortDisable {W s0} {s : State} (h : Fr W s0 s) (w : Within [.freeCtr, .dzf, .evq, .tx, .joins] W)
    (x0) : FrO W s0 (execPortDisable x0 s) := by
  unfold execPortDisable
  simp only [within_cons, within_nil, and_true] at w
  simp +contextual (maxDischargeDepth := 40) only [h, w, within_cons, within_nil, and_self, frO_next, frO_fault,
      frM_some, frM_none, frL_mk, frR_mk, frL_fold, frR_fold, fr_ite, frO_ite, frM_ite, frL_ite, frR_ite, ite_self,
      implies_true, fr_foldl, frL_foldl, frR_foldl, fr_onPort, fr_portOff]

theorem fr_execPortDrain {W s0} {s : State} (h : Fr W s0 s) (w : Within [.dzf, .joins] W) (x0 x1) : FrO W s0
    (execPortDrain x0 x1 s) := by
  unfold execPortDrain
  simp only [within_cons, within_nil, and_true] at w
  simp +contextual (maxDischargeDepth := 40) only [h, w, within_cons, within_nil, and_self, frO_next, frO_fault,
      frM_some, frM_none, frL_mk, frR_mk, frL_fold, frR_fold, fr_ite, frO_ite, frM_ite, frL_ite, frR_ite, ite_self,
      implies_true, fr_foldl, frL_foldl, frR_foldl, fr_onPort, fr_portDrain]

theorem fr_execRetrain {W s0} {s : State} (h : Fr W s0 s) (w : Within [.freeCtr, .dzf, .evq, .tx, .joins] W) (x0) :
    FrO W s0 (execRetrain x0 s) := by
  unfold execRetrain
  simp only [within_cons, within_nil, and_true] at w
  simp +contextual (maxDischargeDepth := 40) only [h, w, within_cons, within_nil, and_self, frO_next, frO_fault,
      frM_some, frM_none, frL_mk, frR_mk, frL_fold, frR_fold, fr_ite, frO_ite, frM_ite, frL_ite, frR_ite, ite_self,
      implies_true, fr_foldl, frL_foldl, frR_foldl, fr_onPort, fr_portRetrain]

theorem fr_execUnretire {W s0} {s : State} (h : Fr W s0 s) (w : Within [.freeCtr, .dzf, .trv, .evq, .tx, .joins] W)
    (x0) : FrO W s0 (execUnretire x0 s) := by
  unfold execUnretire
  simp only [within_cons, within_nil, and_true] at w
  simp +contextual (maxDischargeDepth := 40) only [h, w, within_cons, within_nil, and_self, frO_next, frO_fault,
      frM_some, frM_none, frL_mk, frR_mk, frL_fold, frR_fold, fr_ite, frO_ite, frM_ite, frL_ite, frR_ite, ite_self,
      implies_true, fr_foldl, frL_foldl, frR_foldl, fr_onPort, fr_portBack]

theorem fr_plaitPort {W s0} {s : State} (h : Fr W s0 s) (w : Within [.freeCtr, .dzf, .evq, .tx, .joins] W) (x1) :
    Fr W s0 (State.plaitPort s x1) := by
  unfold State.plaitPort
  simp only [within_cons, within_nil, and_true] at w
  simp +contextual (maxDischargeDepth := 40) only [h, w, within_cons, within_nil, and_self, frO_next, frO_fault,
      frM_some, frM_none, frL_mk, frR_mk, frL_fold, frR_fold, fr_ite, frO_ite, frM_ite, frL_ite, frR_ite, ite_self,
      implies_true, fr_foldl, frL_foldl, frR_foldl, fr_setPort, fr_portTo]

theorem fr_plaitApply {W s0} {s : State} (h : Fr W s0 s) (w : Within [.freeCtr, .dzf, .evq, .tx, .joins] W) : Fr W
    s0 (State.plaitApply s) := by
  unfold State.plaitApply
  simp only [within_cons, within_nil, and_true] at w
  all_goals repeat' (split <;> (try simp +contextual (maxDischargeDepth := 40) only [h, w, within_cons, within_nil,
      and_self, frO_next, frO_fault, frM_some, frM_none, frL_mk, frR_mk, frL_fold, frR_fold, fr_ite, frO_ite,
      frM_ite, frL_ite, frR_ite, ite_self, implies_true, fr_foldl, frL_foldl, frR_foldl, fr_mk_dzf, fr_plaitPort]))

theorem fr_execPlaitApply {W s0} {s : State} (h : Fr W s0 s) (w : Within [.freeCtr, .dzf, .evq, .tx, .joins] W) :
    FrO W s0 (execPlaitApply s) := by
  unfold execPlaitApply
  simp only [within_cons, within_nil, and_true] at w
  simp +contextual (maxDischargeDepth := 40) only [h, w, within_cons, within_nil, and_self, frO_next, frO_fault,
      frM_some, frM_none, frL_mk, frR_mk, frL_fold, frR_fold, fr_ite, frO_ite, frM_ite, frL_ite, frR_ite, ite_self,
      implies_true, fr_foldl, frL_foldl, frR_foldl, fr_plaitApply]

theorem fr_execPlaitSettled {W s0} {s : State} (h : Fr W s0 s) (w : Within [.time, .freeCtr, .dzf, .evq, .tx,
    .joins] W) : FrO W s0 (execPlaitSettled s) := by
  unfold execPlaitSettled
  simp only [within_cons, within_nil, and_true] at w
  simp +contextual (maxDischargeDepth := 40) only [h, w, within_cons, within_nil, and_self, frO_next, frO_fault,
      frM_some, frM_none, frL_mk, frR_mk, frL_fold, frR_fold, fr_ite, frO_ite, frM_ite, frL_ite, frR_ite, ite_self,
      implies_true, fr_foldl, frL_foldl, frR_foldl, fr_mk_dzf, fr_at, fr_portTo, fr_setPort]

end Sys2Proof.Machine
end

