-- ==== Sys2Proof/Laws/FrameSystem.lean ====
section
/-! SUPPORT. What every operation leaves as it was, field by field of State:
joining, the host port, Trivet, power, resets and register writes. -/

namespace Sys2Proof.Machine

set_option linter.unusedSimpArgs false
set_option linter.unusedTactic false
set_option linter.unusedVariables false
set_option linter.unreachableTactic false

/-! ## Joining and configuration -/

theorem fr_execHelloSend {W s0} {s : State} (h : Fr W s0 s) (w : Within [.hellos] W) (x0) : FrO W s0 (execHelloSend
    x0 s) := by
  unfold execHelloSend
  simp only [within_cons, within_nil, and_true] at w
  simp +contextual (maxDischargeDepth := 40) only [h, w, within_cons, within_nil, and_self, frO_next, frO_fault,
      frM_some, frM_none, frL_mk, frR_mk, frL_fold, frR_fold, fr_ite, frO_ite, frM_ite, frL_ite, frR_ite, ite_self,
      implies_true, fr_foldl, frL_foldl, frR_foldl, fr_mk_hellos, fr_onPort]

theorem fr_keepHello {W s0} {s : State} (h : Fr W s0 s) (w : Within [.dzf] W) (x1 x2) : Fr W s0 (State.keepHello s
    x1 x2) := by
  unfold State.keepHello
  simp only [within_cons, within_nil, and_true] at w
  simp +contextual (maxDischargeDepth := 40) only [h, w, within_cons, within_nil, and_self, frO_next, frO_fault,
      frM_some, frM_none, frL_mk, frR_mk, frL_fold, frR_fold, fr_ite, frO_ite, frM_ite, frL_ite, frR_ite, ite_self,
      implies_true, fr_foldl, frL_foldl, frR_foldl, fr_setPort]

theorem fr_meetSolo {W s0} {s : State} (h : Fr W s0 s) (w : Within [.dzf, .joins] W) (x1 x2) : Fr W s0
    (State.meetSolo s x1 x2) := by
  unfold State.meetSolo
  simp only [within_cons, within_nil, and_true] at w
  simp +contextual (maxDischargeDepth := 40) only [h, w, within_cons, within_nil, and_self, frO_next, frO_fault,
      frM_some, frM_none, frL_mk, frR_mk, frL_fold, frR_fold, fr_ite, frO_ite, frM_ite, frL_ite, frR_ite, ite_self,
      implies_true, fr_foldl, frL_foldl, frR_foldl, fr_mk_dzf, fr_setPort, fr_follow]

theorem fr_settlePort {W s0} {s : State} (h : Fr W s0 s) (w : Within [.dzf, .evq, .joins] W) (x1 x2) : Fr W s0
    (State.settlePort s x1 x2) := by
  unfold State.settlePort
  simp only [within_cons, within_nil, and_true] at w
  simp +contextual (maxDischargeDepth := 40) only [h, w, within_cons, within_nil, and_self, frO_next, frO_fault,
      frM_some, frM_none, frL_mk, frR_mk, frL_fold, frR_fold, fr_ite, frO_ite, frM_ite, frL_ite, frR_ite, ite_self,
      implies_true, fr_foldl, frL_foldl, frR_foldl, fr_setPort, fr_meetSolo, fr_raise]

theorem fr_helloCfg {W s0} {s : State} (h : Fr W s0 s) (w : Within [.dzf, .evq] W) (x1 x2) : Fr W s0
    (State.helloCfg s x1 x2) := by
  unfold State.helloCfg
  simp only [within_cons, within_nil, and_true] at w
  simp +contextual (maxDischargeDepth := 40) only [h, w, within_cons, within_nil, and_self, frO_next, frO_fault,
      frM_some, frM_none, frL_mk, frR_mk, frL_fold, frR_fold, fr_ite, frO_ite, frM_ite, frL_ite, frR_ite, ite_self,
      implies_true, fr_foldl, frL_foldl, frR_foldl, fr_mismatch]

theorem fr_steer {W s0} {s : State} (h : Fr W s0 s) (w : Within [.time, .dzf, .trv, .msix, .mgmt] W) (x1 x2) : Fr W
    s0 (State.steer s x1 x2) := by
  unfold State.steer
  simp only [within_cons, within_nil, and_true] at w
  simp +contextual (maxDischargeDepth := 40) only [h, w, within_cons, within_nil, and_self, frO_next, frO_fault,
      frM_some, frM_none, frL_mk, frR_mk, frL_fold, frR_fold, fr_ite, frO_ite, frM_ite, frL_ite, frR_ite, ite_self,
      implies_true, fr_foldl, frL_foldl, frR_foldl, fr_mk_time_dzf, fr_condition]

theorem fr_takeHb {W s0} {s : State} (h : Fr W s0 s) (w : Within [.dzf] W) (x1 x2) : Fr W s0 (State.takeHb s x1 x2) := by
  unfold State.takeHb
  simp only [within_cons, within_nil, and_true] at w
  simp +contextual (maxDischargeDepth := 40) only [h, w, within_cons, within_nil, and_self, frO_next, frO_fault,
      frM_some, frM_none, frL_mk, frR_mk, frL_fold, frR_fold, fr_ite, frO_ite, frM_ite, frL_ite, frR_ite, ite_self,
      implies_true, fr_foldl, frL_foldl, frR_foldl, fr_mk_dzf]

theorem fr_execHello {W s0} {s : State} (h : Fr W s0 s) (w : Within [.time, .dzf, .trv, .evq, .joins, .msix, .mgmt]
    W) (x0 x1) : FrO W s0 (execHello x0 x1 s) := by
  unfold execHello
  simp only [within_cons, within_nil, and_true] at w
  simp +contextual (maxDischargeDepth := 40) only [h, w, within_cons, within_nil, and_self, frO_next, frO_fault,
      frM_some, frM_none, frL_mk, frR_mk, frL_fold, frR_fold, fr_ite, frO_ite, frM_ite, frL_ite, frR_ite, ite_self,
      implies_true, fr_foldl, frL_foldl, frR_foldl, fr_onPort, fr_steer, fr_takeHb, fr_adopt, fr_helloCfg,
      fr_settlePort, fr_keepHello]

theorem fr_noteAssigned {W s0} {s : State} (h : Fr W s0 s) (w : Within [.dzf] W) (x1 x2) : Fr W s0
    (State.noteAssigned s x1 x2) := by
  unfold State.noteAssigned
  simp only [within_cons, within_nil, and_true] at w
  simp +contextual (maxDischargeDepth := 40) only [h, w, within_cons, within_nil, and_self, frO_next, frO_fault,
      frM_some, frM_none, frL_mk, frR_mk, frL_fold, frR_fold, fr_ite, frO_ite, frM_ite, frL_ite, frR_ite, ite_self,
      implies_true, fr_foldl, frL_foldl, frR_foldl, fr_mk_dzf]

theorem fr_loseId {W s0} {s : State} (h : Fr W s0 s) (w : Within [.dzf, .trv, .msix, .mgmt] W) : Fr W s0
    (State.loseId s) := by
  unfold State.loseId
  simp only [within_cons, within_nil, and_true] at w
  simp +contextual (maxDischargeDepth := 40) only [h, w, within_cons, within_nil, and_self, frO_next, frO_fault,
      frM_some, frM_none, frL_mk, frR_mk, frL_fold, frR_fold, fr_ite, frO_ite, frM_ite, frL_ite, frR_ite, ite_self,
      implies_true, fr_foldl, frL_foldl, frR_foldl, fr_mk_dzf, fr_condition]

theorem fr_selfId {W s0} {s : State} (h : Fr W s0 s) (w : Within [.dzf, .trv, .msix, .mgmt] W) : Fr W s0
    (State.selfId s) := by
  unfold State.selfId
  simp only [within_cons, within_nil, and_true] at w
  all_goals repeat' (split <;> (try simp +contextual (maxDischargeDepth := 40) only [h, w, within_cons, within_nil,
      and_self, frO_next, frO_fault, frM_some, frM_none, frL_mk, frR_mk, frL_fold, frR_fold, fr_ite, frO_ite,
      frM_ite, frL_ite, frR_ite, ite_self, implies_true, fr_foldl, frL_foldl, frR_foldl, fr_mk_dzf, fr_loseId,
      fr_noteAssigned]))

theorem fr_execCoordTimeout {W s0} {s : State} (h : Fr W s0 s) (w : Within [.time, .dzf, .trv, .joins, .msix,
    .mgmt] W) : FrO W s0 (execCoordTimeout s) := by
  unfold execCoordTimeout
  simp only [within_cons, within_nil, and_true] at w
  all_goals repeat' (split <;> (try simp +contextual (maxDischargeDepth := 40) only [h, w, within_cons, within_nil,
      and_self, frO_next, frO_fault, frM_some, frM_none, frL_mk, frR_mk, frL_fold, frR_fold, fr_ite, frO_ite,
      frM_ite, frL_ite, frR_ite, ite_self, implies_true, fr_foldl, frL_foldl, frR_foldl, fr_mk_dzf, fr_adopt,
      fr_at, fr_selfId]))

theorem fr_execHeartbeat {W s0} {s : State} (h : Fr W s0 s) (w : Within [.dzf] W) : FrO W s0 (execHeartbeat s) := by
  unfold execHeartbeat
  simp only [within_cons, within_nil, and_true] at w
  simp +contextual (maxDischargeDepth := 40) only [h, w, within_cons, within_nil, and_self, frO_next, frO_fault,
      frM_some, frM_none, frL_mk, frR_mk, frL_fold, frR_fold, fr_ite, frO_ite, frM_ite, frL_ite, frR_ite, ite_self,
      implies_true, fr_foldl, frL_foldl, frR_foldl, fr_mk_dzf]

theorem fr_execSoloStart {W s0} {s : State} (h : Fr W s0 s) (w : Within [.dzf] W) : FrO W s0 (execSoloStart s) := by
  unfold execSoloStart
  simp only [within_cons, within_nil, and_true] at w
  simp +contextual (maxDischargeDepth := 40) only [h, w, within_cons, within_nil, and_self, frO_next, frO_fault,
      frM_some, frM_none, frL_mk, frR_mk, frL_fold, frR_fold, fr_ite, frO_ite, frM_ite, frL_ite, frR_ite, ite_self,
      implies_true, fr_foldl, frL_foldl, frR_foldl, fr_mk_dzf]

theorem fr_noteUp {W s0} {s : State} (h : Fr W s0 s) (w : Within [.dzf] W) (x1 x2) : Fr W s0 (State.noteUp s x1 x2) := by
  unfold State.noteUp
  simp only [within_cons, within_nil, and_true] at w
  simp +contextual (maxDischargeDepth := 40) only [h, w, within_cons, within_nil, and_self, frO_next, frO_fault,
      frM_some, frM_none, frL_mk, frR_mk, frL_fold, frR_fold, fr_ite, frO_ite, frM_ite, frL_ite, frR_ite, ite_self,
      implies_true, fr_foldl, frL_foldl, frR_foldl, fr_mk_dzf]

theorem fr_noteDown {W s0} {s : State} (h : Fr W s0 s) (w : Within [.dzf] W) (x1 x2) : Fr W s0 (State.noteDown s x1
    x2) := by
  unfold State.noteDown
  simp only [within_cons, within_nil, and_true] at w
  simp +contextual (maxDischargeDepth := 40) only [h, w, within_cons, within_nil, and_self, frO_next, frO_fault,
      frM_some, frM_none, frL_mk, frR_mk, frL_fold, frR_fold, fr_ite, frO_ite, frM_ite, frL_ite, frR_ite, ite_self,
      implies_true, fr_foldl, frL_foldl, frR_foldl, fr_mk_dzf]

theorem fr_passUp {W s0} {s : State} (h : Fr W s0 s) (w : Within [.dzf, .joins] W) (x1 x2 x3 x4) : Fr W s0
    (State.passUp s x1 x2 x3 x4) := by
  unfold State.passUp
  simp only [within_cons, within_nil, and_true] at w
  try simp +contextual (maxDischargeDepth := 40) only [h, w, within_cons, within_nil, and_self, frO_next,
      frO_fault, frM_some, frM_none, frL_mk, frR_mk, frL_fold, frR_fold, fr_ite, frO_ite, frM_ite, frL_ite,
      frR_ite, ite_self, implies_true, fr_foldl, frL_foldl, frR_foldl, fr_noteUp, fr_putJoin]
  all_goals repeat' (split <;> (try simp +contextual (maxDischargeDepth := 40) only [h, w, within_cons, within_nil,
      and_self, frO_next, frO_fault, frM_some, frM_none, frL_mk, frR_mk, frL_fold, frR_fold, fr_ite, frO_ite,
      frM_ite, frL_ite, frR_ite, ite_self, implies_true, fr_foldl, frL_foldl, frR_foldl, fr_noteUp, fr_putJoin]))

theorem fr_passDown {W s0} {s : State} (h : Fr W s0 s) (w : Within [.dzf, .joins] W) (x1 x2 x3 x4) : Fr W s0
    (State.passDown s x1 x2 x3 x4) := by
  unfold State.passDown
  simp only [within_cons, within_nil, and_true] at w
  all_goals repeat' (split <;> (try simp +contextual (maxDischargeDepth := 40) only [h, w, within_cons, within_nil,
      and_self, frO_next, frO_fault, frM_some, frM_none, frL_mk, frR_mk, frL_fold, frR_fold, fr_ite, frO_ite,
      frM_ite, frL_ite, frR_ite, ite_self, implies_true, fr_foldl, frL_foldl, frR_foldl, fr_putJoin, fr_noteDown]))

theorem fr_join {W s0} {s : State} (h : Fr W s0 s) (w : Within [.dzf, .joins] W) (x1 x2) : Fr W s0 (State.join s x1
    x2) := by
  unfold State.join
  simp only [within_cons, within_nil, and_true] at w
  all_goals repeat' (split <;> (try simp +contextual (maxDischargeDepth := 40) only [h, w, within_cons, within_nil,
      and_self, frO_next, frO_fault, frM_some, frM_none, frL_mk, frR_mk, frL_fold, frR_fold, fr_ite, frO_ite,
      frM_ite, frL_ite, frR_ite, ite_self, implies_true, fr_foldl, frL_foldl, frR_foldl, fr_putJoin, fr_noteDown,
      fr_noteUp, fr_noteAssigned, fr_passUp]))

theorem fr_assign {W s0} {s : State} (h : Fr W s0 s) (w : Within [.dzf, .joins] W) (x1 x2) : Fr W s0 (State.assign
    s x1 x2) := by
  unfold State.assign
  simp only [within_cons, within_nil, and_true] at w
  simp +contextual (maxDischargeDepth := 40) only [h, w, within_cons, within_nil, and_self, frO_next, frO_fault,
      frM_some, frM_none, frL_mk, frR_mk, frL_fold, frR_fold, fr_ite, frO_ite, frM_ite, frL_ite, frR_ite, ite_self,
      implies_true, fr_foldl, frL_foldl, frR_foldl, fr_mk_dzf, fr_passDown]

theorem fr_claim {W s0} {s : State} (h : Fr W s0 s) (w : Within [.dzf, .joins] W) (x1 x2 x3) : Fr W s0 (State.claim
    s x1 x2 x3) := by
  unfold State.claim
  simp only [within_cons, within_nil, and_true] at w
  simp +contextual (maxDischargeDepth := 40) only [h, w, within_cons, within_nil, and_self, frO_next, frO_fault,
      frM_some, frM_none, frL_mk, frR_mk, frL_fold, frR_fold, fr_ite, frO_ite, frM_ite, frL_ite, frR_ite, ite_self,
      implies_true, fr_foldl, frL_foldl, frR_foldl, fr_putJoin, fr_noteDown, fr_noteUp, fr_noteAssigned,
      fr_passDown, fr_passUp]

theorem fr_deny {W s0} {s : State} (h : Fr W s0 s) (w : Within [.dzf, .trv, .joins, .msix, .mgmt] W) (x1 x2) : Fr W
    s0 (State.deny s x1 x2) := by
  unfold State.deny
  simp only [within_cons, within_nil, and_true] at w
  all_goals repeat' (split <;> (try simp +contextual (maxDischargeDepth := 40) only [h, w, within_cons, within_nil,
      and_self, frO_next, frO_fault, frM_some, frM_none, frL_mk, frR_mk, frL_fold, frR_fold, fr_ite, frO_ite,
      frM_ite, frL_ite, frR_ite, ite_self, implies_true, fr_foldl, frL_foldl, frR_foldl, fr_loseId, fr_putJoin,
      fr_passDown]))

theorem fr_onTree {W s0} {s : State} (h : Fr W s0 s) (w : Within [] W) (x1 x2) (hf2 : ∀ y0, Fr W s0 y0 → Fr W s0
    (x2 y0)) : FrO W s0 (State.onTree s x1 x2) := by
  unfold State.onTree
  simp only [within_nil] at w
  simp +contextual (maxDischargeDepth := 40) only [h, hf2, within_cons, within_nil, and_self, frO_next, frO_fault,
      frM_some, frM_none, frL_mk, frR_mk, frL_fold, frR_fold, fr_ite, frO_ite, frM_ite, frL_ite, frR_ite, ite_self,
      implies_true, fr_foldl, frL_foldl, frR_foldl, fr_onPort]

theorem fr_execJoin {W s0} {s : State} (h : Fr W s0 s) (w : Within [.dzf, .joins] W) (x0 x1) : FrO W s0 (execJoin
    x0 x1 s) := by
  unfold execJoin
  simp only [within_cons, within_nil, and_true] at w
  simp +contextual (maxDischargeDepth := 40) only [h, w, within_cons, within_nil, and_self, frO_next, frO_fault,
      frM_some, frM_none, frL_mk, frR_mk, frL_fold, frR_fold, fr_ite, frO_ite, frM_ite, frL_ite, frR_ite, ite_self,
      implies_true, fr_foldl, frL_foldl, frR_foldl, fr_onTree, fr_join]

theorem fr_execAssign {W s0} {s : State} (h : Fr W s0 s) (w : Within [.dzf, .joins] W) (x0 x1 x2) : FrO W s0
    (execAssign x0 x1 x2 s) := by
  unfold execAssign
  simp only [within_cons, within_nil, and_true] at w
  simp +contextual (maxDischargeDepth := 40) only [h, w, within_cons, within_nil, and_self, frO_next, frO_fault,
      frM_some, frM_none, frL_mk, frR_mk, frL_fold, frR_fold, fr_ite, frO_ite, frM_ite, frL_ite, frR_ite, ite_self,
      implies_true, fr_foldl, frL_foldl, frR_foldl, fr_onTree, fr_assign]

theorem fr_execClaim {W s0} {s : State} (h : Fr W s0 s) (w : Within [.dzf, .joins] W) (x0 x1 x2) : FrO W s0
    (execClaim x0 x1 x2 s) := by
  unfold execClaim
  simp only [within_cons, within_nil, and_true] at w
  simp +contextual (maxDischargeDepth := 40) only [h, w, within_cons, within_nil, and_self, frO_next, frO_fault,
      frM_some, frM_none, frL_mk, frR_mk, frL_fold, frR_fold, fr_ite, frO_ite, frM_ite, frL_ite, frR_ite, ite_self,
      implies_true, fr_foldl, frL_foldl, frR_foldl, fr_onTree, fr_claim]

theorem fr_execDeny {W s0} {s : State} (h : Fr W s0 s) (w : Within [.dzf, .trv, .joins, .msix, .mgmt] W) (x0 x1 x2)
    : FrO W s0 (execDeny x0 x1 x2 s) := by
  unfold execDeny
  simp only [within_cons, within_nil, and_true] at w
  simp +contextual (maxDischargeDepth := 40) only [h, w, within_cons, within_nil, and_self, frO_next, frO_fault,
      frM_some, frM_none, frL_mk, frR_mk, frL_fold, frR_fold, fr_ite, frO_ite, frM_ite, frL_ite, frR_ite, ite_self,
      implies_true, fr_foldl, frL_foldl, frR_foldl, fr_onTree, fr_deny]

theorem fr_execJoinResend {W s0} {s : State} (h : Fr W s0 s) (w : Within [.joins] W) : FrO W s0 (execJoinResend s) := by
  unfold execJoinResend
  simp only [within_cons, within_nil, and_true] at w
  all_goals repeat' (split <;> (try simp +contextual (maxDischargeDepth := 40) only [h, w, within_cons, within_nil,
      and_self, frO_next, frO_fault, frM_some, frM_none, frL_mk, frR_mk, frL_fold, frR_fold, fr_ite, frO_ite,
      frM_ite, frL_ite, frR_ite, ite_self, implies_true, fr_foldl, frL_foldl, frR_foldl, fr_putJoin]))

theorem fr_idmapWr {W s0} {s : State} (h : Fr W s0 s) (w : Within [.dzf] W) (x1) : Fr W s0 (State.idmapWr s x1) := by
  unfold State.idmapWr
  simp only [within_cons, within_nil, and_true] at w
  simp +contextual (maxDischargeDepth := 40) only [h, w, within_cons, within_nil, and_self, frO_next, frO_fault,
      frM_some, frM_none, frL_mk, frR_mk, frL_fold, frR_fold, fr_ite, frO_ite, frM_ite, frL_ite, frR_ite, ite_self,
      implies_true, fr_foldl, frL_foldl, frR_foldl, fr_mk_dzf]

theorem fr_idmapDel {W s0} {s : State} (h : Fr W s0 s) (w : Within [.dzf] W) : Fr W s0 (State.idmapDel s) := by
  unfold State.idmapDel
  simp only [within_cons, within_nil, and_true] at w
  simp +contextual (maxDischargeDepth := 40) only [h, w, within_cons, within_nil, and_self, frO_next, frO_fault,
      frM_some, frM_none, frL_mk, frR_mk, frL_fold, frR_fold, fr_ite, frO_ite, frM_ite, frL_ite, frR_ite, ite_self,
      implies_true, fr_foldl, frL_foldl, frR_foldl, fr_mk_dzf]

theorem fr_execIdmapWr {W s0} {s : State} (h : Fr W s0 s) (w : Within [.dzf] W) (x0) : FrO W s0 (execIdmapWr x0 s) := by
  unfold execIdmapWr
  simp only [within_cons, within_nil, and_true] at w
  simp +contextual (maxDischargeDepth := 40) only [h, w, within_cons, within_nil, and_self, frO_next, frO_fault,
      frM_some, frM_none, frL_mk, frR_mk, frL_fold, frR_fold, fr_ite, frO_ite, frM_ite, frL_ite, frR_ite, ite_self,
      implies_true, fr_foldl, frL_foldl, frR_foldl, fr_idmapWr]

theorem fr_execIdmapDel {W s0} {s : State} (h : Fr W s0 s) (w : Within [.dzf] W) : FrO W s0 (execIdmapDel s) := by
  unfold execIdmapDel
  simp only [within_cons, within_nil, and_true] at w
  simp +contextual (maxDischargeDepth := 40) only [h, w, within_cons, within_nil, and_self, frO_next, frO_fault,
      frM_some, frM_none, frL_mk, frR_mk, frL_fold, frR_fold, fr_ite, frO_ite, frM_ite, frL_ite, frR_ite, ite_self,
      implies_true, fr_foldl, frL_foldl, frR_foldl, fr_idmapDel]

theorem fr_mgtIn {W s0} {s : State} (h : Fr W s0 s) (w : Within [.dzf, .trv, .evq, .joins, .msix, .mgmt] W) (x1 x2)
    : Fr W s0 (State.mgtIn s x1 x2) := by
  unfold State.mgtIn
  simp only [within_cons, within_nil, and_true] at w
  simp +contextual (maxDischargeDepth := 40) only [h, w, within_cons, within_nil, and_self, frO_next, frO_fault,
      frM_some, frM_none, frL_mk, frR_mk, frL_fold, frR_fold, fr_ite, frO_ite, frM_ite, frL_ite, frR_ite, ite_self,
      implies_true, fr_foldl, frL_foldl, frR_foldl, fr_mk_trv, fr_countMis, fr_join, fr_assign, fr_claim, fr_deny]

theorem fr_execMgt {W s0} {s : State} (h : Fr W s0 s) (w : Within [.freeCtr, .dzf, .trv, .evq, .tx, .joins, .msix,
    .mgmt] W) (x0 x1) : FrO W s0 (execMgt x0 x1 s) := by
  unfold execMgt
  simp only [within_cons, within_nil, and_true] at w
  simp +contextual (maxDischargeDepth := 40) only [h, w, within_cons, within_nil, and_self, frO_next, frO_fault,
      frM_some, frM_none, frL_mk, frR_mk, frL_fold, frR_fold, fr_ite, frO_ite, frM_ite, frL_ite, frR_ite, ite_self,
      implies_true, fr_foldl, frL_foldl, frR_foldl, fr_guard, fr_arrival, fr_mgtIn]

theorem fr_cfgResult {W s0} {s : State} (h : Fr W s0 s) (w : Within [.dzf] W) (x1) : Fr W s0 (State.cfgResult s x1) := by
  unfold State.cfgResult
  simp only [within_cons, within_nil, and_true] at w
  simp +contextual (maxDischargeDepth := 40) only [h, w, within_cons, within_nil, and_self, frO_next, frO_fault,
      frM_some, frM_none, frL_mk, frR_mk, frL_fold, frR_fold, fr_ite, frO_ite, frM_ite, frL_ite, frR_ite, ite_self,
      implies_true, fr_foldl, frL_foldl, frR_foldl, fr_mk_dzf]

theorem fr_cfgCommit {W s0} {s : State} (h : Fr W s0 s) (w : Within [.dzf] W) : Fr W s0 (State.cfgCommit s) := by
  unfold State.cfgCommit
  simp only [within_cons, within_nil, and_true] at w
  simp +contextual (maxDischargeDepth := 40) only [h, w, within_cons, within_nil, and_self, frO_next, frO_fault,
      frM_some, frM_none, frL_mk, frR_mk, frL_fold, frR_fold, fr_ite, frO_ite, frM_ite, frL_ite, frR_ite, ite_self,
      implies_true, fr_foldl, frL_foldl, frR_foldl, fr_mk_dzf, fr_cfgResult]

theorem fr_cfgAdvance {W s0} {s : State} (h : Fr W s0 s) (w : Within [.dzf] W) : Fr W s0 (State.cfgAdvance s) := by
  unfold State.cfgAdvance
  simp only [within_cons, within_nil, and_true] at w
  simp +contextual (maxDischargeDepth := 40) only [h, w, within_cons, within_nil, and_self, frO_next, frO_fault,
      frM_some, frM_none, frL_mk, frR_mk, frL_fold, frR_fold, fr_ite, frO_ite, frM_ite, frL_ite, frR_ite, ite_self,
      implies_true, fr_foldl, frL_foldl, frR_foldl, fr_mk_dzf, fr_cfgResult]

theorem fr_cfgClose {W s0} {s : State} (h : Fr W s0 s) (w : Within [.dzf] W) : Fr W s0 (State.cfgClose s) := by
  unfold State.cfgClose
  simp only [within_cons, within_nil, and_true] at w
  simp +contextual (maxDischargeDepth := 40) only [h, w, within_cons, within_nil, and_self, frO_next, frO_fault,
      frM_some, frM_none, frL_mk, frR_mk, frL_fold, frR_fold, fr_ite, frO_ite, frM_ite, frL_ite, frR_ite, ite_self,
      implies_true, fr_foldl, frL_foldl, frR_foldl, fr_mk_dzf, fr_cfgResult]

theorem fr_execCfgCommit {W s0} {s : State} (h : Fr W s0 s) (w : Within [.dzf] W) : FrO W s0 (execCfgCommit s) := by
  unfold execCfgCommit
  simp only [within_cons, within_nil, and_true] at w
  simp +contextual (maxDischargeDepth := 40) only [h, w, within_cons, within_nil, and_self, frO_next, frO_fault,
      frM_some, frM_none, frL_mk, frR_mk, frL_fold, frR_fold, fr_ite, frO_ite, frM_ite, frL_ite, frR_ite, ite_self,
      implies_true, fr_foldl, frL_foldl, frR_foldl, fr_cfgCommit]

theorem fr_execCfgAdvance {W s0} {s : State} (h : Fr W s0 s) (w : Within [.dzf] W) : FrO W s0 (execCfgAdvance s) := by
  unfold execCfgAdvance
  simp only [within_cons, within_nil, and_true] at w
  simp +contextual (maxDischargeDepth := 40) only [h, w, within_cons, within_nil, and_self, frO_next, frO_fault,
      frM_some, frM_none, frL_mk, frR_mk, frL_fold, frR_fold, fr_ite, frO_ite, frM_ite, frL_ite, frR_ite, ite_self,
      implies_true, fr_foldl, frL_foldl, frR_foldl, fr_cfgAdvance]

theorem fr_execCfgClose {W s0} {s : State} (h : Fr W s0 s) (w : Within [.dzf] W) : FrO W s0 (execCfgClose s) := by
  unfold execCfgClose
  simp only [within_cons, within_nil, and_true] at w
  simp +contextual (maxDischargeDepth := 40) only [h, w, within_cons, within_nil, and_self, frO_next, frO_fault,
      frM_some, frM_none, frL_mk, frR_mk, frL_fold, frR_fold, fr_ite, frO_ite, frM_ite, frL_ite, frR_ite, ite_self,
      implies_true, fr_foldl, frL_foldl, frR_foldl, fr_cfgClose]

theorem fr_execCfgCloseEffect {W s0} {s : State} (h : Fr W s0 s) (w : Within [.time, .dzf] W) : FrO W s0
    (execCfgCloseEffect s) := by
  unfold execCfgCloseEffect
  simp only [within_cons, within_nil, and_true] at w
  simp +contextual (maxDischargeDepth := 40) only [h, w, within_cons, within_nil, and_self, frO_next, frO_fault,
      frM_some, frM_none, frL_mk, frR_mk, frL_fold, frR_fold, fr_ite, frO_ite, frM_ite, frL_ite, frR_ite, ite_self,
      implies_true, fr_foldl, frL_foldl, frR_foldl, fr_mk_dzf, fr_at]

theorem fr_dzfClear {W s0} {s : State} (h : Fr W s0 s) (w : Within [.dzf] W) : Fr W s0 (State.dzfClear s) := by
  unfold State.dzfClear
  simp only [within_cons, within_nil, and_true] at w
  simp +contextual (maxDischargeDepth := 40) only [h, w, within_cons, within_nil, and_self, frO_next, frO_fault,
      frM_some, frM_none, frL_mk, frR_mk, frL_fold, frR_fold, fr_ite, frO_ite, frM_ite, frL_ite, frR_ite, ite_self,
      implies_true, fr_foldl, frL_foldl, frR_foldl, fr_mk_dzf, fr_setPort]

theorem fr_execDzfCntClr {W s0} {s : State} (h : Fr W s0 s) (w : Within [.dzf] W) : FrO W s0 (execDzfCntClr s) := by
  unfold execDzfCntClr
  simp only [within_cons, within_nil, and_true] at w
  simp +contextual (maxDischargeDepth := 40) only [h, w, within_cons, within_nil, and_self, frO_next, frO_fault,
      frM_some, frM_none, frL_mk, frR_mk, frL_fold, frR_fold, fr_ite, frO_ite, frM_ite, frL_ite, frR_ite, ite_self,
      implies_true, fr_foldl, frL_foldl, frR_foldl, fr_dzfClear]

/-! ## Host queues -/

theorem fr_barReject {W s0} {s : State} (h : Fr W s0 s) (w : Within [.hq, .msix] W) (x1) : Fr W s0 (State.barReject
    s x1) := by
  unfold State.barReject
  simp only [within_cons, within_nil, and_true] at w
  simp +contextual (maxDischargeDepth := 40) only [h, w, within_cons, within_nil, and_self, frO_next, frO_fault,
      frM_some, frM_none, frL_mk, frR_mk, frL_fold, frR_fold, fr_ite, frO_ite, frM_ite, frL_ite, frR_ite, ite_self,
      implies_true, fr_foldl, frL_foldl, frR_foldl, fr_mk_hq, fr_hqErr]

theorem fr_barReturn {W s0} {s : State} (h : Fr W s0 s) (w : Within [.dev] W) (x1 x2 x3) : Fr W s0 (State.barReturn
    s x1 x2 x3) := by
  unfold State.barReturn
  simp only [within_cons, within_nil, and_true] at w
  simp +contextual (maxDischargeDepth := 40) only [h, w, within_cons, within_nil, and_self, frO_next, frO_fault,
      frM_some, frM_none, frL_mk, frR_mk, frL_fold, frR_fold, fr_ite, frO_ite, frM_ite, frL_ite, frR_ite, ite_self,
      implies_true, fr_foldl, frL_foldl, frR_foldl, fr_mk_dev]

theorem fr_execBar2Write {W s0} {s : State} (h : Fr W s0 s) (w : Within [.mem, .memBad, .memCorr, .memCe, .memUe,
    .dzf, .hq, .evq, .tx, .msix] W) (x0 x1 x2) : FrO W s0 (execBar2Write x0 x1 x2 s) := by
  unfold execBar2Write
  simp only [within_cons, within_nil, and_true] at w
  all_goals repeat' (split <;> (try simp +contextual (maxDischargeDepth := 40) only [h, w, within_cons, within_nil,
      and_self, frO_next, frO_fault, frM_some, frM_none, frL_mk, frR_mk, frL_fold, frR_fold, fr_ite, frO_ite,
      frM_ite, frL_ite, frR_ite, ite_self, implies_true, fr_foldl, frL_foldl, frR_foldl, fr_guard, fr_barReject,
      fr_wr, fr_takeTags, fr_sendUnits]))

theorem fr_execBar2Read {W s0} {s : State} (h : Fr W s0 s) (w : Within [.memCorr, .memCe, .memUe, .dzf, .hq, .dev,
    .evq, .tx, .msix] W) (x0 x1) : FrO W s0 (execBar2Read x0 x1 s) := by
  unfold execBar2Read
  simp only [within_cons, within_nil, and_true] at w
  all_goals repeat' (split <;> (try simp +contextual (maxDischargeDepth := 40) only [h, w, within_cons, within_nil,
      and_self, frO_next, frO_fault, frM_some, frM_none, frL_mk, frR_mk, frL_fold, frR_fold, fr_ite, frO_ite,
      frM_ite, frL_ite, frR_ite, ite_self, implies_true, fr_foldl, frL_foldl, frR_foldl, fr_guard, fr_barReject,
      fr_barReturn, fr_scrub, fr_takeTags, fr_sendUnits]))

theorem fr_badBell {W s0} {s : State} (h : Fr W s0 s) (w : Within [.hq, .msix] W) (x1) : Fr W s0 (State.badBell s
    x1) := by
  unfold State.badBell
  simp only [within_cons, within_nil, and_true] at w
  simp +contextual (maxDischargeDepth := 40) only [h, w, within_cons, within_nil, and_self, frO_next, frO_fault,
      frM_some, frM_none, frL_mk, frR_mk, frL_fold, frR_fold, fr_ite, frO_ite, frM_ite, frL_ite, frR_ite, ite_self,
      implies_true, fr_foldl, frL_foldl, frR_foldl, fr_hqErr, fr_setQue]

theorem fr_sqBell {W s0} {s : State} (h : Fr W s0 s) (w : Within [.hq, .msix] W) (x1 x2) : Fr W s0 (State.sqBell s
    x1 x2) := by
  unfold State.sqBell
  simp only [within_cons, within_nil, and_true] at w
  simp +contextual (maxDischargeDepth := 40) only [h, w, within_cons, within_nil, and_self, frO_next, frO_fault,
      frM_some, frM_none, frL_mk, frR_mk, frL_fold, frR_fold, fr_ite, frO_ite, frM_ite, frL_ite, frR_ite, ite_self,
      implies_true, fr_foldl, frL_foldl, frR_foldl, fr_badBell, fr_setQue]

theorem fr_cqBell {W s0} {s : State} (h : Fr W s0 s) (w : Within [.hq, .msix] W) (x1 x2) : Fr W s0 (State.cqBell s
    x1 x2) := by
  unfold State.cqBell
  simp only [within_cons, within_nil, and_true] at w
  simp +contextual (maxDischargeDepth := 40) only [h, w, within_cons, within_nil, and_self, frO_next, frO_fault,
      frM_some, frM_none, frL_mk, frR_mk, frL_fold, frR_fold, fr_ite, frO_ite, frM_ite, frL_ite, frR_ite, ite_self,
      implies_true, fr_foldl, frL_foldl, frR_foldl, fr_badBell, fr_setQue]

theorem fr_execSqDoorbell {W s0} {s : State} (h : Fr W s0 s) (w : Within [.hq, .msix] W) (x0 x1) : FrO W s0
    (execSqDoorbell x0 x1 s) := by
  unfold execSqDoorbell
  simp only [within_cons, within_nil, and_true] at w
  simp +contextual (maxDischargeDepth := 40) only [h, w, within_cons, within_nil, and_self, frO_next, frO_fault,
      frM_some, frM_none, frL_mk, frR_mk, frL_fold, frR_fold, fr_ite, frO_ite, frM_ite, frL_ite, frR_ite, ite_self,
      implies_true, fr_foldl, frL_foldl, frR_foldl, fr_guard, fr_sqBell]

theorem fr_execCqDoorbell {W s0} {s : State} (h : Fr W s0 s) (w : Within [.hq, .msix] W) (x0 x1) : FrO W s0
    (execCqDoorbell x0 x1 s) := by
  unfold execCqDoorbell
  simp only [within_cons, within_nil, and_true] at w
  simp +contextual (maxDischargeDepth := 40) only [h, w, within_cons, within_nil, and_self, frO_next, frO_fault,
      frM_some, frM_none, frL_mk, frR_mk, frL_fold, frR_fold, fr_ite, frO_ite, frM_ite, frL_ite, frR_ite, ite_self,
      implies_true, fr_foldl, frL_foldl, frR_foldl, fr_guard, fr_cqBell]

theorem fr_execCommandFetch {W s0} {s : State} (h : Fr W s0 s) (w : Within [.freeCtr, .hq] W) (x0) : FrO W s0
    (execCommandFetch x0 s) := by
  unfold execCommandFetch
  simp only [within_cons, within_nil, and_true] at w
  try simp +contextual (maxDischargeDepth := 40) only [h, w, within_cons, within_nil, and_self, frO_next,
      frO_fault, frM_some, frM_none, frL_mk, frR_mk, frL_fold, frR_fold, fr_ite, frO_ite, frM_ite, frL_ite,
      frR_ite, ite_self, implies_true, fr_foldl, frL_foldl, frR_foldl, fr_guard, fr_setQue, fr_fresh]
  all_goals repeat' (split <;> (try simp +contextual (maxDischargeDepth := 40) only [h, w, within_cons, within_nil,
      and_self, frO_next, frO_fault, frM_some, frM_none, frL_mk, frR_mk, frL_fold, frR_fold, fr_ite, frO_ite,
      frM_ite, frL_ite, frR_ite, ite_self, implies_true, fr_foldl, frL_foldl, frR_foldl, fr_guard, fr_setQue,
      fr_fresh]))

theorem fr_startCmd {W s0} {s : State} (h : Fr W s0 s) (w : Within [.hq] W) (x1 x2 x3 x4) (hf4 : ∀ y0 y1, Fr W s0
    y1 → Fr W s0 (x4 y0 y1)) : FrO W s0 (State.startCmd s x1 x2 x3 x4) := by
  unfold State.startCmd
  simp only [within_cons, within_nil, and_true] at w
  all_goals repeat' (split <;> (try simp +contextual (maxDischargeDepth := 40) only [h, w, hf4, within_cons,
      within_nil, and_self, frO_next, frO_fault, frM_some, frM_none, frL_mk, frR_mk, frL_fold, frR_fold, fr_ite,
      frO_ite, frM_ite, frL_ite, frR_ite, ite_self, implies_true, fr_foldl, frL_foldl, frR_foldl, fr_guard,
      fr_setQue]))

theorem fr_execQueueNop {W s0} {s : State} (h : Fr W s0 s) (w : Within [.hq] W) (x0 x1) : FrO W s0 (execQueueNop x0
    x1 s) := by
  unfold execQueueNop
  simp only [within_cons, within_nil, and_true] at w
  simp +contextual (maxDischargeDepth := 40) only [h, w, within_cons, within_nil, and_self, frO_next, frO_fault,
      frM_some, frM_none, frL_mk, frR_mk, frL_fold, frR_fold, fr_ite, frO_ite, frM_ite, frL_ite, frR_ite, ite_self,
      implies_true, fr_foldl, frL_foldl, frR_foldl, fr_startCmd, fr_qDone]

theorem fr_execStrm {W s0} {s : State} (h : Fr W s0 s) (w : Within [.mem, .memBad, .memCorr, .memCe, .memUe, .streams, .waiting, .baskets, .pans, .pots, .scales, .fastQ, .dzf, .hq, .dev, .evq] W) (x0 x1) : FrO W s0 (execStrm x0 x1 s) := by
  have w1 := w
  simp only [within_cons, within_nil, and_true] at w1
  unfold execStrm
  refine fr_startCmd (w := within_mono w) h _ _ _ _ fun c s h => ?_
  simp only [within_cons, within_nil, w1, and_self, fr_ite, fr_qDone, h]
  split
  · trivial
  · split
    · trivial
    · split <;> rename_i heq <;> have hk := frL_eq (fr_strmDo (w := within_mono w) h _ _ _) heq
      · simp only [within_cons, within_nil, w1, and_self, fr_qDone, fr_ite, fr_setStr, hk, ite_self]
      · exact fr_setStr (w := within_mono w) hk _ _

theorem fr_execXfer {W s0} {s : State} (h : Fr W s0 s) (w : Within [.mem, .memBad, .memCorr, .memCe, .memUe, .host, .hq] W) (x0 x1) : FrO W s0 (execXfer x0 x1 s) := by
  have w1 := w
  simp only [within_cons, within_nil, and_true] at w1
  unfold execXfer
  refine fr_startCmd (w := within_mono w) h _ _ _ _ fun c s h => ?_
  split
  · exact fr_qDone (w := within_mono w) h _ _ _ _ _
  · simp (maxDischargeDepth := 10) only [within_cons, within_nil, w1, and_self, fr_ite, fr_qDone, fr_wr, fr_hwr,
      fr_scrub, h, ite_self]

theorem fr_queueMsi {W s0} {s : State} (h : Fr W s0 s) (w : Within [.hq, .msix] W) (x1) : Fr W s0 (State.queueMsi s
    x1) := by
  unfold State.queueMsi
  simp only [within_cons, within_nil, and_true] at w
  simp +contextual (maxDischargeDepth := 40) only [h, w, within_cons, within_nil, and_self, frO_next, frO_fault,
      frM_some, frM_none, frL_mk, frR_mk, frL_fold, frR_fold, fr_ite, frO_ite, frM_ite, frL_ite, frR_ite, ite_self,
      implies_true, fr_foldl, frL_foldl, frR_foldl, fr_setQue, fr_msi]

theorem fr_queueIrq {W s0} {s : State} (h : Fr W s0 s) (w : Within [.hq, .msix] W) (x1) : Fr W s0 (State.queueIrq s
    x1) := by
  unfold State.queueIrq
  simp only [within_cons, within_nil, and_true] at w
  simp +contextual (maxDischargeDepth := 40) only [h, w, within_cons, within_nil, and_self, frO_next, frO_fault,
      frM_some, frM_none, frL_mk, frR_mk, frL_fold, frR_fold, fr_ite, frO_ite, frM_ite, frL_ite, frR_ite, ite_self,
      implies_true, fr_foldl, frL_foldl, frR_foldl, fr_setQue, fr_queueMsi]

theorem fr_execQueueCommandComplete {W s0} {s : State} (h : Fr W s0 s) (w : Within [.host, .hq, .msix] W) (x0 x1) :
    FrO W s0 (execQueueCommandComplete x0 x1 s) := by
  unfold execQueueCommandComplete
  simp only [within_cons, within_nil, and_true] at w
  try simp +contextual (maxDischargeDepth := 40) only [h, w, within_cons, within_nil, and_self, frO_next,
      frO_fault, frM_some, frM_none, frL_mk, frR_mk, frL_fold, frR_fold, fr_ite, frO_ite, frM_ite, frL_ite,
      frR_ite, ite_self, implies_true, fr_foldl, frL_foldl, frR_foldl, fr_guard, fr_hwr, fr_setQue, fr_queueIrq]
  all_goals repeat' (split <;> (try simp +contextual (maxDischargeDepth := 40) only [h, w, within_cons, within_nil,
      and_self, frO_next, frO_fault, frM_some, frM_none, frL_mk, frR_mk, frL_fold, frR_fold, fr_ite, frO_ite,
      frM_ite, frL_ite, frR_ite, ite_self, implies_true, fr_foldl, frL_foldl, frR_foldl, fr_guard, fr_hwr,
      fr_setQue, fr_queueIrq]))

theorem fr_execIrqCoalesceTimer {W s0} {s : State} (h : Fr W s0 s) (w : Within [.time, .hq, .msix] W) (x0) : FrO W
    s0 (execIrqCoalesceTimer x0 s) := by
  unfold execIrqCoalesceTimer
  simp only [within_cons, within_nil, and_true] at w
  simp +contextual (maxDischargeDepth := 40) only [h, w, within_cons, within_nil, and_self, frO_next, frO_fault,
      frM_some, frM_none, frL_mk, frR_mk, frL_fold, frR_fold, fr_ite, frO_ite, frM_ite, frL_ite, frR_ite, ite_self,
      implies_true, fr_foldl, frL_foldl, frR_foldl, fr_guard, fr_queueMsi, fr_at]

theorem fr_queOn {W s0} {s : State} (h : Fr W s0 s) (w : Within [.hq] W) (x1) : Fr W s0 (State.queOn s x1) := by
  unfold State.queOn
  simp only [within_cons, within_nil, and_true] at w
  simp +contextual (maxDischargeDepth := 40) only [h, w, within_cons, within_nil, and_self, frO_next, frO_fault,
      frM_some, frM_none, frL_mk, frR_mk, frL_fold, frR_fold, fr_ite, frO_ite, frM_ite, frL_ite, frR_ite, ite_self,
      implies_true, fr_foldl, frL_foldl, frR_foldl, fr_setQue]

theorem fr_queOff {W s0} {s : State} (h : Fr W s0 s) (w : Within [.hq] W) (x1) : Fr W s0 (State.queOff s x1) := by
  unfold State.queOff
  simp only [within_cons, within_nil, and_true] at w
  simp +contextual (maxDischargeDepth := 40) only [h, w, within_cons, within_nil, and_self, frO_next, frO_fault,
      frM_some, frM_none, frL_mk, frR_mk, frL_fold, frR_fold, fr_ite, frO_ite, frM_ite, frL_ite, frR_ite, ite_self,
      implies_true, fr_foldl, frL_foldl, frR_foldl, fr_setQue]

theorem fr_execQueueEnable {W s0} {s : State} (h : Fr W s0 s) (w : Within [.hq] W) (x0) : FrO W s0 (execQueueEnable
    x0 s) := by
  unfold execQueueEnable
  simp only [within_cons, within_nil, and_true] at w
  simp +contextual (maxDischargeDepth := 40) only [h, w, within_cons, within_nil, and_self, frO_next, frO_fault,
      frM_some, frM_none, frL_mk, frR_mk, frL_fold, frR_fold, fr_ite, frO_ite, frM_ite, frL_ite, frR_ite, ite_self,
      implies_true, fr_foldl, frL_foldl, frR_foldl, fr_guard, fr_queOn]

theorem fr_execQueueDisable {W s0} {s : State} (h : Fr W s0 s) (w : Within [.hq] W) (x0) : FrO W s0
    (execQueueDisable x0 s) := by
  unfold execQueueDisable
  simp only [within_cons, within_nil, and_true] at w
  simp +contextual (maxDischargeDepth := 40) only [h, w, within_cons, within_nil, and_self, frO_next, frO_fault,
      frM_some, frM_none, frL_mk, frR_mk, frL_fold, frR_fold, fr_ite, frO_ite, frM_ite, frL_ite, frR_ite, ite_self,
      implies_true, fr_foldl, frL_foldl, frR_foldl, fr_guard, fr_queOff]

theorem fr_execQueuePendingStart {W s0} {s : State} (h : Fr W s0 s) (w : Within [.hq] W) (x0) : FrO W s0
    (execQueuePendingStart x0 s) := by
  unfold execQueuePendingStart
  simp only [within_cons, within_nil, and_true] at w
  simp +contextual (maxDischargeDepth := 40) only [h, w, within_cons, within_nil, and_self, frO_next, frO_fault,
      frM_some, frM_none, frL_mk, frR_mk, frL_fold, frR_fold, fr_ite, frO_ite, frM_ite, frL_ite, frR_ite, ite_self,
      implies_true, fr_foldl, frL_foldl, frR_foldl, fr_guard, fr_setQue]

theorem fr_dropMigBy {W s0} {s : State} (h : Fr W s0 s) (w : Within [.streams] W) (x1) : Fr W s0 (State.dropMigBy s
    x1) := by
  unfold State.dropMigBy
  simp only [within_cons, within_nil, and_true] at w
  simp +contextual (maxDischargeDepth := 40) only [h, w, within_cons, within_nil, and_self, frO_next, frO_fault,
      frM_some, frM_none, frL_mk, frR_mk, frL_fold, frR_fold, fr_ite, frO_ite, frM_ite, frL_ite, frR_ite, ite_self,
      implies_true, fr_foldl, frL_foldl, frR_foldl, fr_setStr]

theorem fr_killQue {W s0} {s : State} (h : Fr W s0 s) (w : Within [.hq] W) (x1) : Fr W s0 (State.killQue s x1) := by
  unfold State.killQue
  simp only [within_cons, within_nil, and_true] at w
  simp +contextual (maxDischargeDepth := 40) only [h, w, within_cons, within_nil, and_self, frO_next, frO_fault,
      frM_some, frM_none, frL_mk, frR_mk, frL_fold, frR_fold, fr_ite, frO_ite, frM_ite, frL_ite, frR_ite, ite_self,
      implies_true, fr_foldl, frL_foldl, frR_foldl, fr_setQue]

theorem fr_execVfFlr {W s0} {s : State} (h : Fr W s0 s) (w : Within [.mem, .memBad, .memCorr, .memCe, .memUe,
    .streams, .waiting, .baskets, .pans, .pots, .fastQ, .dzf, .hq, .dev] W) (x0) : FrO W s0 (execVfFlr x0 s) := by
  unfold execVfFlr
  simp only [within_cons, within_nil, and_true] at w
  simp +contextual (maxDischargeDepth := 40) only [h, w, within_cons, within_nil, and_self, frO_next, frO_fault,
      frM_some, frM_none, frL_mk, frR_mk, frL_fold, frR_fold, fr_ite, frO_ite, frM_ite, frL_ite, frR_ite, ite_self,
      implies_true, fr_foldl, frL_foldl, frR_foldl, fr_guard, fr_killQue, fr_dropMigBy, fr_abortStr]

theorem fr_pfReset {W s0} {s : State} (h : Fr W s0 s) (w : Within [.streams, .hq] W) : Fr W s0 (State.pfReset s) := by
  unfold State.pfReset
  simp only [within_cons, within_nil, and_true] at w
  simp +contextual (maxDischargeDepth := 40) only [h, w, within_cons, within_nil, and_self, frO_next, frO_fault,
      frM_some, frM_none, frL_mk, frR_mk, frL_fold, frR_fold, fr_ite, frO_ite, frM_ite, frL_ite, frR_ite, ite_self,
      implies_true, fr_foldl, frL_foldl, frR_foldl, fr_mk_hq, fr_dropMigBy]

theorem fr_execPfFlr {W s0} {s : State} (h : Fr W s0 s) (w : Within [.streams, .hq] W) : FrO W s0 (execPfFlr s) := by
  unfold execPfFlr
  simp only [within_cons, within_nil, and_true] at w
  simp +contextual (maxDischargeDepth := 40) only [h, w, within_cons, within_nil, and_self, frO_next, frO_fault,
      frM_some, frM_none, frL_mk, frR_mk, frL_fold, frR_fold, fr_ite, frO_ite, frM_ite, frL_ite, frR_ite, ite_self,
      implies_true, fr_foldl, frL_foldl, frR_foldl, fr_pfReset]

theorem fr_execHostLinkLost {W s0} {s : State} (h : Fr W s0 s) (w : Within [.streams, .hq, .trv, .msix, .mgmt] W) :
    FrO W s0 (execHostLinkLost s) := by
  unfold execHostLinkLost
  simp only [within_cons, within_nil, and_true] at w
  simp +contextual (maxDischargeDepth := 40) only [h, w, within_cons, within_nil, and_self, frO_next, frO_fault,
      frM_some, frM_none, frL_mk, frR_mk, frL_fold, frR_fold, fr_ite, frO_ite, frM_ite, frL_ite, frR_ite, ite_self,
      implies_true, fr_foldl, frL_foldl, frR_foldl, fr_mk_hq, fr_pfReset, fr_condition, fr_hqErr]

theorem fr_execMemReady {W s0} {s : State} (h : Fr W s0 s) (w : Within [.hq] W) : FrO W s0 (execMemReady s) := by
  unfold execMemReady
  simp only [within_cons, within_nil, and_true] at w
  simp +contextual (maxDischargeDepth := 40) only [h, w, within_cons, within_nil, and_self, frO_next, frO_fault,
      frM_some, frM_none, frL_mk, frR_mk, frL_fold, frR_fold, fr_ite, frO_ite, frM_ite, frL_ite, frR_ite, ite_self,
      implies_true, fr_foldl, frL_foldl, frR_foldl, fr_mk_hq]

theorem fr_execHostLinkUp {W s0} {s : State} (h : Fr W s0 s) (w : Within [.hq] W) (x0 x1 x2) : FrO W s0
    (execHostLinkUp x0 x1 x2 s) := by
  unfold execHostLinkUp
  simp only [within_cons, within_nil, and_true] at w
  simp +contextual (maxDischargeDepth := 40) only [h, w, within_cons, within_nil, and_self, frO_next, frO_fault,
      frM_some, frM_none, frL_mk, frR_mk, frL_fold, frR_fold, fr_ite, frO_ite, frM_ite, frL_ite, frR_ite, ite_self,
      implies_true, fr_foldl, frL_foldl, frR_foldl, fr_mk_hq, fr_guard]

/-! ## The black-box record -/

theorem fr_execBbrCommit {W s0} {s : State} (h : Fr W s0 s) (w : Within [.trv] W) : FrO W s0 (execBbrCommit s) := by
  unfold execBbrCommit
  simp only [within_cons, within_nil, and_true] at w
  all_goals repeat' (split <;> (try simp +contextual (maxDischargeDepth := 40) only [h, w, within_cons, within_nil,
      and_self, frO_next, frO_fault, frM_some, frM_none, frL_mk, frR_mk, frL_fold, frR_fold, fr_ite, frO_ite,
      frM_ite, frL_ite, frR_ite, ite_self, implies_true, fr_foldl, frL_foldl, frR_foldl, fr_mk_trv]))

theorem fr_execBbrSecondEnd {W s0} {s : State} (h : Fr W s0 s) (w : Within [.time, .trv] W) : FrO W s0
    (execBbrSecondEnd s) := by
  unfold execBbrSecondEnd
  simp only [within_cons, within_nil, and_true] at w
  simp +contextual (maxDischargeDepth := 40) only [h, w, within_cons, within_nil, and_self, frO_next, frO_fault,
      frM_some, frM_none, frL_mk, frR_mk, frL_fold, frR_fold, fr_ite, frO_ite, frM_ite, frL_ite, frR_ite, ite_self,
      implies_true, fr_foldl, frL_foldl, frR_foldl, fr_bbrRoll, fr_at]

theorem fr_bootRec {W s0} {s : State} (h : Fr W s0 s) (w : Within [.trv] W) (x1) : Fr W s0 (State.bootRec s x1) := by
  unfold State.bootRec
  simp only [within_cons, within_nil, and_true] at w
  simp +contextual (maxDischargeDepth := 40) only [h, w, within_cons, within_nil, and_self, frO_next, frO_fault,
      frM_some, frM_none, frL_mk, frR_mk, frL_fold, frR_fold, fr_ite, frO_ite, frM_ite, frL_ite, frR_ite, ite_self,
      implies_true, fr_foldl, frL_foldl, frR_foldl, fr_bbrPut]

theorem fr_tellTorn {W s0} {s : State} (h : Fr W s0 s) (w : Within [.evq] W) : Fr W s0 (State.tellTorn s) := by
  unfold State.tellTorn
  simp only [within_cons, within_nil, and_true] at w
  simp +contextual (maxDischargeDepth := 40) only [h, w, within_cons, within_nil, and_self, frO_next, frO_fault,
      frM_some, frM_none, frL_mk, frR_mk, frL_fold, frR_fold, fr_ite, frO_ite, frM_ite, frL_ite, frR_ite, ite_self,
      implies_true, fr_foldl, frL_foldl, frR_foldl, fr_raise]

theorem fr_takeHeld {W s0} {s : State} (h : Fr W s0 s) (w : Within [.feu, .trv, .msix, .mgmt] W) : Fr W s0
    (State.takeHeld s) := by
  unfold State.takeHeld
  simp only [within_cons, within_nil, and_true] at w
  simp +contextual (maxDischargeDepth := 40) only [h, w, within_cons, within_nil, and_self, frO_next, frO_fault,
      frM_some, frM_none, frL_mk, frR_mk, frL_fold, frR_fold, fr_ite, frO_ite, frM_ite, frL_ite, frR_ite, ite_self,
      implies_true, fr_foldl, frL_foldl, frR_foldl, fr_mk_feu, fr_trivetTake, fr_bbrPut]

theorem fr_execTrivetBoot {W s0} {s : State} (h : Fr W s0 s) (w : Within [.freeCtr, .feu, .trv, .dev, .evq, .msix,
    .mgmt] W) : FrO W s0 (execTrivetBoot s) := by
  unfold execTrivetBoot
  simp only [within_cons, within_nil, and_true] at w
  all_goals repeat' (split <;> (try simp +contextual (maxDischargeDepth := 40) only [h, w, within_cons, within_nil,
      and_self, frO_next, frO_fault, frM_some, frM_none, frL_mk, frR_mk, frL_fold, frR_fold, fr_ite, frO_ite,
      frM_ite, frL_ite, frR_ite, ite_self, implies_true, fr_foldl, frL_foldl, frR_foldl, fr_mk_trv, fr_mk_trv_dev,
      fr_bootRec, fr_tellTorn, fr_takeHeld, fr_condition, fr_fresh]))

theorem fr_restartTrivet {W s0} {s : State} (h : Fr W s0 s) (w : Within [.trv, .dev] W) : Fr W s0
    (State.restartTrivet s) := by
  unfold State.restartTrivet
  simp only [within_cons, within_nil, and_true] at w
  simp +contextual (maxDischargeDepth := 40) only [h, w, within_cons, within_nil, and_self, frO_next, frO_fault,
      frM_some, frM_none, frL_mk, frR_mk, frL_fold, frR_fold, fr_ite, frO_ite, frM_ite, frL_ite, frR_ite, ite_self,
      implies_true, fr_foldl, frL_foldl, frR_foldl, fr_mk_trv_dev]

/-! ## Management -/

theorem fr_respond {W s0} {s : State} (h : Fr W s0 s) (w : Within [.freeCtr, .trv, .msix, .mgmt] W) (x1 x2 x3 x4 x5
    x6) : Fr W s0 (State.respond s x1 x2 x3 x4 x5 x6) := by
  unfold State.respond
  simp only [within_cons, within_nil, and_true] at w
  all_goals repeat' (split <;> (try simp +contextual (maxDischargeDepth := 40) only [h, w, within_cons, within_nil,
      and_self, frO_next, frO_fault, frM_some, frM_none, frL_mk, frR_mk, frL_fold, frR_fold, fr_ite, frO_ite,
      frM_ite, frL_ite, frR_ite, ite_self, implies_true, fr_foldl, frL_foldl, frR_foldl, fr_mk_freeCtr_trv,
      fr_send, fr_msi]))

theorem fr_status {W s0} {s : State} (h : Fr W s0 s) (w : Within [.freeCtr, .trv, .msix, .mgmt] W) (x1 x2 x3 x4) :
    Fr W s0 (State.status s x1 x2 x3 x4) := by
  unfold State.status
  simp only [within_cons, within_nil, and_true] at w
  simp +contextual (maxDischargeDepth := 40) only [h, w, within_cons, within_nil, and_self, frO_next, frO_fault,
      frM_some, frM_none, frL_mk, frR_mk, frL_fold, frR_fold, fr_ite, frO_ite, frM_ite, frL_ite, frR_ite, ite_self,
      implies_true, fr_foldl, frL_foldl, frR_foldl, fr_respond]

theorem fr_execGetInfo {W s0} {s : State} (h : Fr W s0 s) (w : Within [.freeCtr, .trv, .msix, .mgmt] W) (x0 x1) :
    FrO W s0 (execGetInfo x0 x1 s) := by
  unfold execGetInfo
  simp only [within_cons, within_nil, and_true] at w
  simp +contextual (maxDischargeDepth := 40) only [h, w, within_cons, within_nil, and_self, frO_next, frO_fault,
      frM_some, frM_none, frL_mk, frR_mk, frL_fold, frR_fold, fr_ite, frO_ite, frM_ite, frL_ite, frR_ite, ite_self,
      implies_true, fr_foldl, frL_foldl, frR_foldl, fr_mk_trv, fr_fresh, fr_respond]

theorem fr_execSubscribe {W s0} {s : State} (h : Fr W s0 s) (w : Within [.freeCtr, .trv, .msix, .mgmt] W) (x0 x1 x2
    x3) : FrO W s0 (execSubscribe x0 x1 x2 x3 s) := by
  unfold execSubscribe
  simp only [within_cons, within_nil, and_true] at w
  all_goals repeat' (split <;> (try simp +contextual (maxDischargeDepth := 40) only [h, w, within_cons, within_nil,
      and_self, frO_next, frO_fault, frM_some, frM_none, frL_mk, frR_mk, frL_fold, frR_fold, fr_ite, frO_ite,
      frM_ite, frL_ite, frR_ite, ite_self, implies_true, fr_foldl, frL_foldl, frR_foldl, fr_mk_trv, fr_status]))

theorem fr_execReport {W s0} {s : State} (h : Fr W s0 s) (w : Within [.trv, .mgmt] W) (x0) : FrO W s0 (execReport
    x0 s) := by
  unfold execReport
  simp only [within_cons, within_nil, and_true] at w
  all_goals repeat' (split <;> (try simp +contextual (maxDischargeDepth := 40) only [h, w, within_cons, within_nil,
      and_self, frO_next, frO_fault, frM_some, frM_none, frL_mk, frR_mk, frL_fold, frR_fold, fr_ite, frO_ite,
      frM_ite, frL_ite, frR_ite, ite_self, implies_true, fr_foldl, frL_foldl, frR_foldl, fr_mk_trv, fr_guard,
      fr_send]))

theorem fr_execReadBbr {W s0} {s : State} (h : Fr W s0 s) (w : Within [.freeCtr, .trv, .msix, .mgmt] W) (x0 x1 x2
    x3) : FrO W s0 (execReadBbr x0 x1 x2 x3 s) := by
  unfold execReadBbr
  simp only [within_cons, within_nil, and_true] at w
  simp +contextual (maxDischargeDepth := 40) only [h, w, within_cons, within_nil, and_self, frO_next, frO_fault,
      frM_some, frM_none, frL_mk, frR_mk, frL_fold, frR_fold, fr_ite, frO_ite, frM_ite, frL_ite, frR_ite, ite_self,
      implies_true, fr_foldl, frL_foldl, frR_foldl, fr_respond]

theorem fr_execBbrErase {W s0} {s : State} (h : Fr W s0 s) (w : Within [.freeCtr, .trv, .msix, .mgmt] W) (x0 x1 x2
    x3) : FrO W s0 (execBbrErase x0 x1 x2 x3 s) := by
  unfold execBbrErase
  simp only [within_cons, within_nil, and_true] at w
  simp +contextual (maxDischargeDepth := 40) only [h, w, within_cons, within_nil, and_self, frO_next, frO_fault,
      frM_some, frM_none, frL_mk, frR_mk, frL_fold, frR_fold, fr_ite, frO_ite, frM_ite, frL_ite, frR_ite, ite_self,
      implies_true, fr_foldl, frL_foldl, frR_foldl, fr_mk_trv, fr_status]

theorem fr_flashDone {W s0} {s : State} (h : Fr W s0 s) (w : Within [.freeCtr, .trv, .msix, .mgmt] W) : Fr W s0
    (State.flashDone s) := by
  unfold State.flashDone
  simp only [within_cons, within_nil, and_true] at w
  all_goals repeat' (split <;> (try simp +contextual (maxDischargeDepth := 40) only [h, w, within_cons, within_nil,
      and_self, frO_next, frO_fault, frM_some, frM_none, frL_mk, frR_mk, frL_fold, frR_fold, fr_ite, frO_ite,
      frM_ite, frL_ite, frR_ite, ite_self, implies_true, fr_foldl, frL_foldl, frR_foldl, fr_mk_trv, fr_status]))

theorem fr_execFlashOpComplete {W s0} {s : State} (h : Fr W s0 s) (w : Within [.freeCtr, .trv, .msix, .mgmt] W) :
    FrO W s0 (execFlashOpComplete s) := by
  unfold execFlashOpComplete
  simp only [within_cons, within_nil, and_true] at w
  simp +contextual (maxDischargeDepth := 40) only [h, w, within_cons, within_nil, and_self, frO_next, frO_fault,
      frM_some, frM_none, frL_mk, frR_mk, frL_fold, frR_fold, fr_ite, frO_ite, frM_ite, frL_ite, frR_ite, ite_self,
      implies_true, fr_foldl, frL_foldl, frR_foldl, fr_flashDone]

theorem fr_execFlashRead {W s0} {s : State} (h : Fr W s0 s) (w : Within [.freeCtr, .trv, .msix, .mgmt] W) (x0 x1 x2
    x3) : FrO W s0 (execFlashRead x0 x1 x2 x3 s) := by
  unfold execFlashRead
  simp only [within_cons, within_nil, and_true] at w
  simp +contextual (maxDischargeDepth := 40) only [h, w, within_cons, within_nil, and_self, frO_next, frO_fault,
      frM_some, frM_none, frL_mk, frR_mk, frL_fold, frR_fold, fr_ite, frO_ite, frM_ite, frL_ite, frR_ite, ite_self,
      implies_true, fr_foldl, frL_foldl, frR_foldl, fr_mk_freeCtr, fr_flashDone, fr_status, fr_respond]

theorem fr_flashCheck {W s0} {s : State} (h : Fr W s0 s) (w : Within [.evq] W) (x1 x2 x3 x4) : FrL W s0
    (State.flashCheck s x1 x2 x3 x4) := by
  unfold State.flashCheck
  simp only [within_cons, within_nil, and_true] at w
  try simp +contextual (maxDischargeDepth := 40) only [h, w, within_cons, within_nil, and_self, frO_next,
      frO_fault, frM_some, frM_none, frL_mk, frR_mk, frL_fold, frR_fold, fr_ite, frO_ite, frM_ite, frL_ite,
      frR_ite, ite_self, implies_true, fr_foldl, frL_foldl, frR_foldl, fr_raise]
  all_goals repeat' (split <;> (try simp +contextual (maxDischargeDepth := 40) only [h, w, within_cons, within_nil,
      and_self, frO_next, frO_fault, frM_some, frM_none, frL_mk, frR_mk, frL_fold, frR_fold, fr_ite, frO_ite,
      frM_ite, frL_ite, frR_ite, ite_self, implies_true, fr_foldl, frL_foldl, frR_foldl, fr_raise]))

theorem fr_flashRun {W s0} {s : State} (h : Fr W s0 s) (w : Within [.trv] W) (x1 x2 x3 x4 x5) : Fr W s0
    (State.flashRun s x1 x2 x3 x4 x5) := by
  unfold State.flashRun
  simp only [within_cons, within_nil, and_true] at w
  simp +contextual (maxDischargeDepth := 40) only [h, w, within_cons, within_nil, and_self, frO_next, frO_fault,
      frM_some, frM_none, frL_mk, frR_mk, frL_fold, frR_fold, fr_ite, frO_ite, frM_ite, frL_ite, frR_ite, ite_self,
      implies_true, fr_foldl, frL_foldl, frR_foldl, fr_mk_trv]

theorem fr_execFlashProgram {W s0} {s : State} (h : Fr W s0 s) (w : Within [.freeCtr, .trv, .evq, .msix, .mgmt] W) (x0 x1 x2 x3) : FrO W s0 (execFlashProgram x0 x1 x2 x3 s) := by
  have w1 := w
  simp only [within_cons, within_nil, and_true] at w1
  unfold execFlashProgram
  rw [frO_next]
  split
  · exact h
  · split <;> rename_i heq <;> have hk := frL_eq (fr_flashCheck (w := within_mono w) (fr_flashDone (w := within_mono w) h) _ _ _ _) heq
    · exact fr_status (w := within_mono w) hk _ _ _ _
    · split
      · simp only [within_cons, within_nil, w1, and_self, fr_status, fr_raise, hk]
      · exact fr_flashRun (w := within_mono w) hk _ _ _ _ _

theorem fr_execFlashErase {W s0} {s : State} (h : Fr W s0 s) (w : Within [.freeCtr, .trv, .evq, .msix, .mgmt] W) (x0 x1 x2 x3) : FrO W s0 (execFlashErase x0 x1 x2 x3 s) := by
  have w1 := w
  simp only [within_cons, within_nil, and_true] at w1
  unfold execFlashErase
  rw [frO_next]
  split
  · exact h
  · split <;> rename_i heq <;> have hk := frL_eq (fr_flashCheck (w := within_mono w) (fr_flashDone (w := within_mono w) h) _ _ _ _) heq
    · exact fr_status (w := within_mono w) hk _ _ _ _
    · refine fr_flashRun (w := within_mono w) (fr_dite ?_ hk) _ _ _ _ _
      exact fr_mk_trv hk (within_mem w _ (by decide)) _

theorem fr_blow {W s0} {s : State} (h : Fr W s0 s) (w : Within [.freeCtr, .trv] W) (x1) : Fr W s0 (State.blow s x1) := by
  unfold State.blow
  simp only [within_cons, within_nil, and_true] at w
  simp +contextual (maxDischargeDepth := 40) only [h, w, within_cons, within_nil, and_self, frO_next, frO_fault,
      frM_some, frM_none, frL_mk, frR_mk, frL_fold, frR_fold, fr_ite, frO_ite, frM_ite, frL_ite, frR_ite, ite_self,
      implies_true, fr_foldl, frL_foldl, frR_foldl, fr_mk_freeCtr_trv]

theorem fr_execFuseAdvance {W s0} {s : State} (h : Fr W s0 s) (w : Within [.freeCtr, .trv, .msix, .mgmt] W) (x0 x1
    x2 x3 x4) : FrO W s0 (execFuseAdvance x0 x1 x2 x3 x4 s) := by
  unfold execFuseAdvance
  simp only [within_cons, within_nil, and_true] at w
  all_goals repeat' (split <;> (try simp +contextual (maxDischargeDepth := 40) only [h, w, within_cons, within_nil,
      and_self, frO_next, frO_fault, frM_some, frM_none, frL_mk, frR_mk, frL_fold, frR_fold, fr_ite, frO_ite,
      frM_ite, frL_ite, frR_ite, ite_self, implies_true, fr_foldl, frL_foldl, frR_foldl, fr_status, fr_blow]))

theorem fr_execTrivetRestart {W s0} {s : State} (h : Fr W s0 s) (w : Within [.freeCtr, .trv, .dev, .msix, .mgmt] W)
    (x0 x1) : FrO W s0 (execTrivetRestart x0 x1 s) := by
  unfold execTrivetRestart
  simp only [within_cons, within_nil, and_true] at w
  all_goals repeat' (split <;> (try simp +contextual (maxDischargeDepth := 40) only [h, w, within_cons, within_nil,
      and_self, frO_next, frO_fault, frM_some, frM_none, frL_mk, frR_mk, frL_fold, frR_fold, fr_ite, frO_ite,
      frM_ite, frL_ite, frR_ite, ite_self, implies_true, fr_foldl, frL_foldl, frR_foldl, fr_restartTrivet,
      fr_status]))

theorem fr_setFw {W s0} {s : State} (h : Fr W s0 s) (w : Within [.trv] W) (x1 x2) : Fr W s0 (State.setFw s x1 x2) := by
  unfold State.setFw
  simp only [within_cons, within_nil, and_true] at w
  simp +contextual (maxDischargeDepth := 40) only [h, w, within_cons, within_nil, and_self, frO_next, frO_fault,
      frM_some, frM_none, frL_mk, frR_mk, frL_fold, frR_fold, fr_ite, frO_ite, frM_ite, frL_ite, frR_ite, ite_self,
      implies_true, fr_foldl, frL_foldl, frR_foldl, fr_mk_trv]

theorem fr_fwOp {W s0} {s : State} (h : Fr W s0 s) (w : Within [.trv, .dev] W) (x1) : Fr W s0 (State.fwOp s x1) := by
  unfold State.fwOp
  simp only [within_cons, within_nil, and_true] at w
  all_goals repeat' (split <;> (try simp +contextual (maxDischargeDepth := 40) only [h, w, within_cons, within_nil,
      and_self, frO_next, frO_fault, frM_some, frM_none, frL_mk, frR_mk, frL_fold, frR_fold, fr_ite, frO_ite,
      frM_ite, frL_ite, frR_ite, ite_self, implies_true, fr_foldl, frL_foldl, frR_foldl, fr_mk_trv, fr_setFw,
      fr_bbrPut, fr_restartTrivet]))

theorem fr_execPldmFirmwareUpdate {W s0} {s : State} (h : Fr W s0 s) (w : Within [.trv, .dev] W) (x0) : FrO W s0
    (execPldmFirmwareUpdate x0 s) := by
  unfold execPldmFirmwareUpdate
  simp only [within_cons, within_nil, and_true] at w
  simp +contextual (maxDischargeDepth := 40) only [h, w, within_cons, within_nil, and_self, frO_next, frO_fault,
      frM_some, frM_none, frL_mk, frR_mk, frL_fold, frR_fold, fr_ite, frO_ite, frM_ite, frL_ite, frR_ite, ite_self,
      implies_true, fr_foldl, frL_foldl, frR_foldl, fr_fwOp]

theorem fr_execMctpControl {W s0} {s : State} (h : Fr W s0 s) (w : Within [.trv, .mgmt] W) (x0) : FrO W s0
    (execMctpControl x0 s) := by
  unfold execMctpControl
  simp only [within_cons, within_nil, and_true] at w
  all_goals repeat' (split <;> (try simp +contextual (maxDischargeDepth := 40) only [h, w, within_cons, within_nil,
      and_self, frO_next, frO_fault, frM_some, frM_none, frL_mk, frR_mk, frL_fold, frR_fold, fr_ite, frO_ite,
      frM_ite, frL_ite, frR_ite, ite_self, implies_true, fr_foldl, frL_foldl, frR_foldl, fr_mk_trv, fr_send]))

theorem fr_execPldmMonitoring {W s0} {s : State} (h : Fr W s0 s) (w : Within [.mgmt] W) (x0) : FrO W s0
    (execPldmMonitoring x0 s) := by
  unfold execPldmMonitoring
  simp only [within_cons, within_nil, and_true] at w
  all_goals repeat' (split <;> (try simp +contextual (maxDischargeDepth := 40) only [h, w, within_cons, within_nil,
      and_self, frO_next, frO_fault, frM_some, frM_none, frL_mk, frR_mk, frL_fold, frR_fold, fr_ite, frO_ite,
      frM_ite, frL_ite, frR_ite, ite_self, implies_true, fr_foldl, frL_foldl, frR_foldl, fr_guard, fr_send]))

theorem fr_execSpdm {W s0} {s : State} (h : Fr W s0 s) (w : Within [.mgmt] W) (x0) : FrO W s0 (execSpdm x0 s) := by
  unfold execSpdm
  simp only [within_cons, within_nil, and_true] at w
  all_goals repeat' (split <;> (try simp +contextual (maxDischargeDepth := 40) only [h, w, within_cons, within_nil,
      and_self, frO_next, frO_fault, frM_some, frM_none, frL_mk, frR_mk, frL_fold, frR_fold, fr_ite, frO_ite,
      frM_ite, frL_ite, frR_ite, ite_self, implies_true, fr_foldl, frL_foldl, frR_foldl, fr_send]))

/-! ## The monitor -/

theorem fr_putMon {W s0} {s : State} (h : Fr W s0 s) (w : Within [.trv] W) (x1) : Fr W s0 (State.putMon s x1) := by
  unfold State.putMon
  simp only [within_cons, within_nil, and_true] at w
  simp +contextual (maxDischargeDepth := 40) only [h, w, within_cons, within_nil, and_self, frO_next, frO_fault,
      frM_some, frM_none, frL_mk, frR_mk, frL_fold, frR_fold, fr_ite, frO_ite, frM_ite, frL_ite, frR_ite, ite_self,
      implies_true, fr_foldl, frL_foldl, frR_foldl, fr_mk_trv]

theorem fr_execReadMon {W s0} {s : State} (h : Fr W s0 s) (w : Within [.freeCtr, .trv, .msix, .mgmt] W) (x0 x1 x2
    x3) : FrO W s0 (execReadMon x0 x1 x2 x3 s) := by
  unfold execReadMon
  simp only [within_cons, within_nil, and_true] at w
  simp +contextual (maxDischargeDepth := 40) only [h, w, within_cons, within_nil, and_self, frO_next, frO_fault,
      frM_some, frM_none, frL_mk, frR_mk, frL_fold, frR_fold, fr_ite, frO_ite, frM_ite, frL_ite, frR_ite, ite_self,
      implies_true, fr_foldl, frL_foldl, frR_foldl, fr_mk_freeCtr, fr_status, fr_respond]

theorem fr_execScanWrite {W s0} {s : State} (h : Fr W s0 s) (w : Within [.freeCtr, .trv, .msix, .mgmt] W) (x0 x1
    x2) : FrO W s0 (execScanWrite x0 x1 x2 s) := by
  unfold execScanWrite
  simp only [within_cons, within_nil, and_true] at w
  simp +contextual (maxDischargeDepth := 40) only [h, w, within_cons, within_nil, and_self, frO_next, frO_fault,
      frM_some, frM_none, frL_mk, frR_mk, frL_fold, frR_fold, fr_ite, frO_ite, frM_ite, frL_ite, frR_ite, ite_self,
      implies_true, fr_foldl, frL_foldl, frR_foldl, fr_mk_trv, fr_status]

theorem fr_execCompWrite {W s0} {s : State} (h : Fr W s0 s) (w : Within [.freeCtr, .trv, .msix, .mgmt] W) (x0 x1
    x2) : FrO W s0 (execCompWrite x0 x1 x2 s) := by
  unfold execCompWrite
  simp only [within_cons, within_nil, and_true] at w
  simp +contextual (maxDischargeDepth := 40) only [h, w, within_cons, within_nil, and_self, frO_next, frO_fault,
      frM_some, frM_none, frL_mk, frR_mk, frL_fold, frR_fold, fr_ite, frO_ite, frM_ite, frL_ite, frR_ite, ite_self,
      implies_true, fr_foldl, frL_foldl, frR_foldl, fr_mk_trv, fr_status]

theorem fr_setConv {W s0} {s : State} (h : Fr W s0 s) (w : Within [.trv] W) (x1 x2) : Fr W s0 (State.setConv s x1
    x2) := by
  unfold State.setConv
  simp only [within_cons, within_nil, and_true] at w
  simp +contextual (maxDischargeDepth := 40) only [h, w, within_cons, within_nil, and_self, frO_next, frO_fault,
      frM_some, frM_none, frL_mk, frR_mk, frL_fold, frR_fold, fr_ite, frO_ite, frM_ite, frL_ite, frR_ite, ite_self,
      implies_true, fr_foldl, frL_foldl, frR_foldl, fr_mk_trv]

theorem fr_execTrigArm {W s0} {s : State} (h : Fr W s0 s) (w : Within [.freeCtr, .trv, .msix, .mgmt] W) (x0 x1 x2
    x3) : FrO W s0 (execTrigArm x0 x1 x2 x3 s) := by
  unfold execTrigArm
  simp only [within_cons, within_nil, and_true] at w
  simp +contextual (maxDischargeDepth := 40) only [h, w, within_cons, within_nil, and_self, frO_next, frO_fault,
      frM_some, frM_none, frL_mk, frR_mk, frL_fold, frR_fold, fr_ite, frO_ite, frM_ite, frL_ite, frR_ite, ite_self,
      implies_true, fr_foldl, frL_foldl, frR_foldl, fr_mk_trv, fr_status]

theorem fr_fire {W s0} {s : State} (h : Fr W s0 s) (w : Within [.trv] W) (x1) : Fr W s0 (State.fire s x1) := by
  unfold State.fire
  simp only [within_cons, within_nil, and_true] at w
  all_goals repeat' (split <;> (try simp +contextual (maxDischargeDepth := 40) only [h, w, within_cons, within_nil,
      and_self, frO_next, frO_fault, frM_some, frM_none, frL_mk, frR_mk, frL_fold, frR_fold, fr_ite, frO_ite,
      frM_ite, frL_ite, frR_ite, ite_self, implies_true, fr_foldl, frL_foldl, frR_foldl, fr_mk_trv]))

theorem fr_execTrig {W s0} {s : State} (h : Fr W s0 s) (w : Within [.freeCtr, .trv, .msix, .mgmt] W) (x0 x1) : FrO
    W s0 (execTrig x0 x1 s) := by
  unfold execTrig
  simp only [within_cons, within_nil, and_true] at w
  simp +contextual (maxDischargeDepth := 40) only [h, w, within_cons, within_nil, and_self, frO_next, frO_fault,
      frM_some, frM_none, frL_mk, frR_mk, frL_fold, frR_fold, fr_ite, frO_ite, frM_ite, frL_ite, frR_ite, ite_self,
      implies_true, fr_foldl, frL_foldl, frR_foldl, fr_status, fr_fire]

theorem fr_execCommonTriggerStart {W s0} {s : State} (h : Fr W s0 s) (w : Within [.time, .trv] W) : FrO W s0
    (execCommonTriggerStart s) := by
  unfold execCommonTriggerStart
  simp only [within_cons, within_nil, and_true] at w
  all_goals repeat' (split <;> (try simp +contextual (maxDischargeDepth := 40) only [h, w, within_cons, within_nil,
      and_self, frO_next, frO_fault, frM_some, frM_none, frL_mk, frR_mk, frL_fold, frR_fold, fr_ite, frO_ite,
      frM_ite, frL_ite, frR_ite, ite_self, implies_true, fr_foldl, frL_foldl, frR_foldl, fr_mk_trv, fr_at,
      fr_setConv]))

theorem fr_pairConv {W s0} {s : State} (h : Fr W s0 s) (w : Within [.trv] W) (x1 x2 x3 x4 x5) : Fr W s0
    (State.pairConv s x1 x2 x3 x4 x5) := by
  unfold State.pairConv
  simp only [within_cons, within_nil, and_true] at w
  simp +contextual (maxDischargeDepth := 40) only [h, w, within_cons, within_nil, and_self, frO_next, frO_fault,
      frM_some, frM_none, frL_mk, frR_mk, frL_fold, frR_fold, fr_ite, frO_ite, frM_ite, frL_ite, frR_ite, ite_self,
      implies_true, fr_foldl, frL_foldl, frR_foldl, fr_setConv]

theorem fr_execIlvSet {W s0} {s : State} (h : Fr W s0 s) (w : Within [.freeCtr, .trv, .msix, .mgmt] W) (x0 x1 x2 x3
    x4) : FrO W s0 (execIlvSet x0 x1 x2 x3 x4 s) := by
  unfold execIlvSet
  simp only [within_cons, within_nil, and_true] at w
  simp +contextual (maxDischargeDepth := 40) only [h, w, within_cons, within_nil, and_self, frO_next, frO_fault,
      frM_some, frM_none, frL_mk, frR_mk, frL_fold, frR_fold, fr_ite, frO_ite, frM_ite, frL_ite, frR_ite, ite_self,
      implies_true, fr_foldl, frL_foldl, frR_foldl, fr_mk_trv, fr_status, fr_pairConv]

theorem fr_scanNext {W s0} {s : State} (h : Fr W s0 s) (w : Within [.trv] W) : Fr W s0 (State.scanNext s) := by
  unfold State.scanNext
  simp only [within_cons, within_nil, and_true] at w
  simp +contextual (maxDischargeDepth := 40) only [h, w, within_cons, within_nil, and_self, frO_next, frO_fault,
      frM_some, frM_none, frL_mk, frR_mk, frL_fold, frR_fold, fr_ite, frO_ite, frM_ite, frL_ite, frR_ite, ite_self,
      implies_true, fr_foldl, frL_foldl, frR_foldl, fr_mk_trv]

theorem fr_scanStep {W s0} {s : State} (h : Fr W s0 s) (w : Within [.trv] W) (x1) : Fr W s0 (State.scanStep s x1) := by
  unfold State.scanStep
  simp only [within_cons, within_nil, and_true] at w
  simp +contextual (maxDischargeDepth := 40) only [h, w, within_cons, within_nil, and_self, frO_next, frO_fault,
      frM_some, frM_none, frL_mk, frR_mk, frL_fold, frR_fold, fr_ite, frO_ite, frM_ite, frL_ite, frR_ite, ite_self,
      implies_true, fr_foldl, frL_foldl, frR_foldl, fr_mk_trv, fr_scanNext]

theorem fr_scanTake {W s0} (w : Within [.trv] W) : ∀ (n : Nat) {s : State}, Fr W s0 s → FrL W s0 (s.scanTake n)
  | 0, _, h => h
  | n + 1, s, h => by
    unfold State.scanTake
    split
    · exact h
    · split
      · exact h
      · split
        · exact fr_scanTake w n (fr_scanNext (w := within_mono w) h)
        · simp only []
          split
          · refine fr_scanTake w n (fr_scanStep (w := within_mono w) ?_ _)
            exact fr_mk_trv h (within_mem w _ (by decide)) _
          · exact fr_scanStep (w := within_mono w) h _

theorem fr_startConv {W s0} {s : State} (h : Fr W s0 s) (w : Within [.trv] W) (x1 x2 x3 x4 x5 x6) : Fr W s0
    (State.startConv s x1 x2 x3 x4 x5 x6) := by
  unfold State.startConv
  simp only [within_cons, within_nil, and_true] at w
  simp +contextual (maxDischargeDepth := 40) only [h, w, within_cons, within_nil, and_self, frO_next, frO_fault,
      frM_some, frM_none, frL_mk, frR_mk, frL_fold, frR_fold, fr_ite, frO_ite, frM_ite, frL_ite, frR_ite, ite_self,
      implies_true, fr_foldl, frL_foldl, frR_foldl, fr_setConv]

theorem fr_serveConv {W s0} {s : State} (h : Fr W s0 s) (w : Within [.trv] W) (x1) : Fr W s0 (State.serveConv s x1) := by
  have hk := h
  unfold State.serveConv
  simp only [within_cons, within_nil, and_true] at w
  try simp +contextual (maxDischargeDepth := 40) only [h, w, within_cons, within_nil, and_self, frO_next,
      frO_fault, frM_some, frM_none, frL_mk, frR_mk, frL_fold, frR_fold, fr_ite, frO_ite, frM_ite, frL_ite,
      frR_ite, ite_self, implies_true, fr_foldl, frL_foldl, frR_foldl, fr_mk_trv, fr_startConv, fr_scanTake]
  all_goals repeat' (split <;> (try (rename_i heq; first | have hk := frR_eq (W := W) (s0 := s0) (by simp +contextual (maxDischargeDepth := 40) only [hk, h, w, within_cons, within_nil, and_self, frO_next, frO_fault, frM_some, frM_none, frL_mk, frR_mk, frL_fold, frR_fold, fr_ite, frO_ite, frM_ite, frL_ite, frR_ite, ite_self, implies_true, fr_foldl, frL_foldl, frR_foldl, fr_mk_trv, fr_startConv, fr_scanTake]) heq | have hk := frL_eq (W := W) (s0 := s0) (by simp +contextual (maxDischargeDepth := 40) only [hk, h, w, within_cons, within_nil, and_self, frO_next, frO_fault, frM_some, frM_none, frL_mk, frR_mk, frL_fold, frR_fold, fr_ite, frO_ite, frM_ite, frL_ite, frR_ite, ite_self, implies_true, fr_foldl, frL_foldl, frR_foldl, fr_mk_trv, fr_startConv, fr_scanTake]) heq | have hk := frM_eq (W := W) (s0 := s0) (by simp +contextual (maxDischargeDepth := 40) only [hk, h, w, within_cons, within_nil, and_self, frO_next, frO_fault, frM_some, frM_none, frL_mk, frR_mk, frL_fold, frR_fold, fr_ite, frO_ite, frM_ite, frL_ite, frR_ite, ite_self, implies_true, fr_foldl, frL_foldl, frR_foldl, fr_mk_trv, fr_startConv, fr_scanTake]) heq)) <;> (try simp +contextual (maxDischargeDepth := 40) only [hk, h, w, within_cons, within_nil, and_self, frO_next, frO_fault, frM_some, frM_none, frL_mk, frR_mk, frL_fold, frR_fold, fr_ite, frO_ite, frM_ite, frL_ite, frR_ite, ite_self, implies_true, fr_foldl, frL_foldl, frR_foldl, fr_mk_trv, fr_startConv, fr_scanTake]))

theorem fr_execMonitorDispatch {W s0} {s : State} (h : Fr W s0 s) (w : Within [.trv] W) : FrO W s0
    (execMonitorDispatch s) := by
  unfold execMonitorDispatch
  simp only [within_cons, within_nil, and_true] at w
  simp +contextual (maxDischargeDepth := 40) only [h, w, within_cons, within_nil, and_self, frO_next, frO_fault,
      frM_some, frM_none, frL_mk, frR_mk, frL_fold, frR_fold, fr_ite, frO_ite, frM_ite, frL_ite, frR_ite, ite_self,
      implies_true, fr_foldl, frL_foldl, frR_foldl, fr_scanNext, fr_serveConv]

theorem fr_execConversionComplete {W s0} {s : State} (h : Fr W s0 s) (w : Within [.time, .trv] W) (x0 x1 x2) : FrO
    W s0 (execConversionComplete x0 x1 x2 s) := by
  unfold execConversionComplete
  simp only [within_cons, within_nil, and_true] at w
  all_goals repeat' (split <;> (try simp +contextual (maxDischargeDepth := 40) only [h, w, within_cons, within_nil,
      and_self, frO_next, frO_fault, frM_some, frM_none, frL_mk, frR_mk, frL_fold, frR_fold, fr_ite, frO_ite,
      frM_ite, frL_ite, frR_ite, ite_self, implies_true, fr_foldl, frL_foldl, frR_foldl, fr_guard, fr_at,
      fr_putMon, fr_pairConv, fr_setConv]))

theorem fr_setComp {W s0} {s : State} (h : Fr W s0 s) (w : Within [.trv] W) (x1 x2) : Fr W s0 (State.setComp s x1
    x2) := by
  unfold State.setComp
  simp only [within_cons, within_nil, and_true] at w
  simp +contextual (maxDischargeDepth := 40) only [h, w, within_cons, within_nil, and_self, frO_next, frO_fault,
      frM_some, frM_none, frL_mk, frR_mk, frL_fold, frR_fold, fr_ite, frO_ite, frM_ite, frL_ite, frR_ite, ite_self,
      implies_true, fr_foldl, frL_foldl, frR_foldl, fr_mk_trv]

theorem fr_compStart {W s0} {s : State} (h : Fr W s0 s) (w : Within [.trv] W) (x1 x2) : Fr W s0 (State.compStart s
    x1 x2) := by
  unfold State.compStart
  simp only [within_cons, within_nil, and_true] at w
  simp +contextual (maxDischargeDepth := 40) only [h, w, within_cons, within_nil, and_self, frO_next, frO_fault,
      frM_some, frM_none, frL_mk, frR_mk, frL_fold, frR_fold, fr_ite, frO_ite, frM_ite, frL_ite, frR_ite, ite_self,
      implies_true, fr_foldl, frL_foldl, frR_foldl, fr_mk_trv, fr_setComp]

theorem fr_execMonWindow {W s0} {s : State} (h : Fr W s0 s) (w : Within [.trv, .msix, .mgmt] W) (x0 x1) : FrO W s0
    (execMonWindow x0 x1 s) := by
  unfold execMonWindow
  simp only [within_cons, within_nil, and_true] at w
  simp +contextual (maxDischargeDepth := 40) only [h, w, within_cons, within_nil, and_self, frO_next, frO_fault,
      frM_some, frM_none, frL_mk, frR_mk, frL_fold, frR_fold, fr_ite, frO_ite, frM_ite, frL_ite, frR_ite, ite_self,
      implies_true, fr_foldl, frL_foldl, frR_foldl, fr_guard, fr_setComp, fr_compStart, fr_condition]

theorem fr_execHoldoffEnd {W s0} {s : State} (h : Fr W s0 s) (w : Within [.time, .trv] W) (x0 x1) : FrO W s0
    (execHoldoffEnd x0 x1 s) := by
  unfold execHoldoffEnd
  simp only [within_cons, within_nil, and_true] at w
  try simp +contextual (maxDischargeDepth := 40) only [h, w, within_cons, within_nil, and_self, frO_next,
      frO_fault, frM_some, frM_none, frL_mk, frR_mk, frL_fold, frR_fold, fr_ite, frO_ite, frM_ite, frL_ite,
      frR_ite, ite_self, implies_true, fr_foldl, frL_foldl, frR_foldl, fr_guard, fr_at, fr_compStart, fr_setComp]
  all_goals repeat' (split <;> (try simp +contextual (maxDischargeDepth := 40) only [h, w, within_cons, within_nil,
      and_self, frO_next, frO_fault, frM_some, frM_none, frL_mk, frR_mk, frL_fold, frR_fold, fr_ite, frO_ite,
      frM_ite, frL_ite, frR_ite, ite_self, implies_true, fr_foldl, frL_foldl, frR_foldl, fr_guard, fr_at,
      fr_compStart, fr_setComp]))

theorem fr_execMonitorPathCal {W s0} {s : State} (h : Fr W s0 s) (w : Within [.time, .trv] W) (x0 x1) : FrO W s0
    (execMonitorPathCal x0 x1 s) := by
  unfold execMonitorPathCal
  simp only [within_cons, within_nil, and_true] at w
  all_goals repeat' (split <;> (try simp +contextual (maxDischargeDepth := 40) only [h, w, within_cons, within_nil,
      and_self, frO_next, frO_fault, frM_some, frM_none, frL_mk, frR_mk, frL_fold, frR_fold, fr_ite, frO_ite,
      frM_ite, frL_ite, frR_ite, ite_self, implies_true, fr_foldl, frL_foldl, frR_foldl, fr_mk_trv, fr_guard,
      fr_at]))

/-! ## Power -/

theorem fr_abortAll {W s0} {s : State} (h : Fr W s0 s) (w : Within [.mem, .memBad, .memCorr, .memCe, .memUe,
    .streams, .waiting, .baskets, .pans, .pots, .fastQ, .dzf, .hq, .dev] W) (x1) : Fr W s0 (State.abortAll s x1) := by
  unfold State.abortAll
  simp only [within_cons, within_nil, and_true] at w
  simp +contextual (maxDischargeDepth := 40) only [h, w, within_cons, within_nil, and_self, frO_next, frO_fault,
      frM_some, frM_none, frL_mk, frR_mk, frL_fold, frR_fold, fr_ite, frO_ite, frM_ite, frL_ite, frR_ite, ite_self,
      implies_true, fr_foldl, frL_foldl, frR_foldl, fr_abortStr]

theorem fr_coilDark {W s0} {s : State} (h : Fr W s0 s) (w : Within [.ket] W) (x1) : Fr W s0 (State.coilDark s x1) := by
  unfold State.coilDark
  simp only [within_cons, within_nil, and_true] at w
  simp +contextual (maxDischargeDepth := 40) only [h, w, within_cons, within_nil, and_self, frO_next, frO_fault,
      frM_some, frM_none, frL_mk, frR_mk, frL_fold, frR_fold, fr_ite, frO_ite, frM_ite, frL_ite, frR_ite, ite_self,
      implies_true, fr_foldl, frL_foldl, frR_foldl, fr_setCoil]

theorem fr_haltBsk {W s0} {s : State} (h : Fr W s0 s) (w : Within [.baskets] W) (x1) : Fr W s0 (State.haltBsk s x1) := by
  unfold State.haltBsk
  simp only [within_cons, within_nil, and_true] at w
  simp +contextual (maxDischargeDepth := 40) only [h, w, within_cons, within_nil, and_self, frO_next, frO_fault,
      frM_some, frM_none, frL_mk, frR_mk, frL_fold, frR_fold, fr_ite, frO_ite, frM_ite, frL_ite, frR_ite, ite_self,
      implies_true, fr_foldl, frL_foldl, frR_foldl, fr_setBsk]

theorem fr_stopClock {W s0} {s : State} (h : Fr W s0 s) (w : Within [.freeCtr, .mem, .memBad, .memCorr, .memCe,
    .memUe, .streams, .waiting, .baskets, .pans, .pots, .fastQ, .ket, .cal, .dzf, .hq, .trv, .dev, .evq, .tx,
    .joins, .msix, .mgmt] W) (x1 x2) : Fr W s0 (State.stopClock s x1 x2) := by
  unfold State.stopClock
  simp only [within_cons, within_nil, and_true] at w
  simp +contextual (maxDischargeDepth := 40) only [h, w, within_cons, within_nil, and_self, frO_next, frO_fault,
      frM_some, frM_none, frL_mk, frR_mk, frL_fold, frR_fold, fr_ite, frO_ite, frM_ite, frL_ite, frR_ite, ite_self,
      implies_true, fr_foldl, frL_foldl, frR_foldl, fr_mk_ket_dev, fr_abortAll, fr_abandonSweep, fr_haltBsk,
      fr_coilDark, fr_portDark]

theorem fr_execClockLoss {W s0} {s : State} (h : Fr W s0 s) (w : Within [.freeCtr, .mem, .memBad, .memCorr, .memCe,
    .memUe, .streams, .waiting, .baskets, .pans, .pots, .fastQ, .ket, .cal, .dzf, .hq, .trv, .dev, .evq, .tx,
    .joins, .msix, .mgmt] W) (x0) : FrO W s0 (execClockLoss x0 s) := by
  unfold execClockLoss
  simp only [within_cons, within_nil, and_true] at w
  simp +contextual (maxDischargeDepth := 40) only [h, w, within_cons, within_nil, and_self, frO_next, frO_fault,
      frM_some, frM_none, frL_mk, frR_mk, frL_fold, frR_fold, fr_ite, frO_ite, frM_ite, frL_ite, frR_ite, ite_self,
      implies_true, fr_foldl, frL_foldl, frR_foldl, fr_mk_dev, fr_stopClock]

theorem fr_execThermtrip {W s0} {s : State} (h : Fr W s0 s) (w : Within [.freeCtr, .mem, .memBad, .memCorr, .memCe,
    .memUe, .streams, .waiting, .baskets, .pans, .pots, .fastQ, .ket, .cal, .dzf, .hq, .trv, .dev, .evq, .tx,
    .joins, .msix, .mgmt] W) (x0) : FrO W s0 (execThermtrip x0 s) := by
  unfold execThermtrip
  simp only [within_cons, within_nil, and_true] at w
  simp +contextual (maxDischargeDepth := 40) only [h, w, within_cons, within_nil, and_self, frO_next, frO_fault,
      frM_some, frM_none, frL_mk, frR_mk, frL_fold, frR_fold, fr_ite, frO_ite, frM_ite, frL_ite, frR_ite, ite_self,
      implies_true, fr_foldl, frL_foldl, frR_foldl, fr_mk_dev, fr_guard, fr_raise, fr_stopClock]

theorem fr_execHeaterHoldEnd {W s0} {s : State} (h : Fr W s0 s) (w : Within [.time, .ket] W) : FrO W s0
    (execHeaterHoldEnd s) := by
  unfold execHeaterHoldEnd
  simp only [within_cons, within_nil, and_true] at w
  all_goals repeat' (split <;> (try simp +contextual (maxDischargeDepth := 40) only [h, w, within_cons, within_nil,
      and_self, frO_next, frO_fault, frM_some, frM_none, frL_mk, frR_mk, frL_fold, frR_fold, fr_ite, frO_ite,
      frM_ite, frL_ite, frR_ite, ite_self, implies_true, fr_foldl, frL_foldl, frR_foldl, fr_mk_ket, fr_at,
      fr_setSlot]))

theorem fr_statusReads {W s0} {s : State} (h : Fr W s0 s) (w : Within [.mgmt] W) : Fr W s0 (State.statusReads s) := by
  unfold State.statusReads
  simp only [within_cons, within_nil, and_true] at w
  simp +contextual (maxDischargeDepth := 40) only [h, w, within_cons, within_nil, and_self, frO_next, frO_fault,
      frM_some, frM_none, frL_mk, frR_mk, frL_fold, frR_fold, fr_ite, frO_ite, frM_ite, frL_ite, frR_ite, ite_self,
      implies_true, fr_foldl, frL_foldl, frR_foldl, fr_send]

theorem fr_inputLevel {W s0} {s : State} (h : Fr W s0 s) (w : Within [.trv, .dev, .mgmt] W) (x1 x2) : Fr W s0
    (State.inputLevel s x1 x2) := by
  unfold State.inputLevel
  simp only [within_cons, within_nil, and_true] at w
  simp +contextual (maxDischargeDepth := 40) only [h, w, within_cons, within_nil, and_self, frO_next, frO_fault,
      frM_some, frM_none, frL_mk, frR_mk, frL_fold, frR_fold, fr_ite, frO_ite, frM_ite, frL_ite, frR_ite, ite_self,
      implies_true, fr_foldl, frL_foldl, frR_foldl, fr_setInp, fr_fire, fr_statusReads]

theorem fr_settleInput {W s0} {s : State} (h : Fr W s0 s) (w : Within [.trv, .dev, .mgmt] W) (x1) : Fr W s0
    (State.settleInput s x1) := by
  unfold State.settleInput
  simp only [within_cons, within_nil, and_true] at w
  all_goals repeat' (split <;> (try simp +contextual (maxDischargeDepth := 40) only [h, w, within_cons, within_nil,
      and_self, frO_next, frO_fault, frM_some, frM_none, frL_mk, frR_mk, frL_fold, frR_fold, fr_ite, frO_ite,
      frM_ite, frL_ite, frR_ite, ite_self, implies_true, fr_foldl, frL_foldl, frR_foldl, fr_inputLevel,
      fr_setInp]))

theorem fr_settleInputs {W s0} {s : State} (h : Fr W s0 s) (w : Within [.trv, .dev, .mgmt] W) : Fr W s0
    (State.settleInputs s) := by
  unfold State.settleInputs
  simp only [within_cons, within_nil, and_true] at w
  simp +contextual (maxDischargeDepth := 40) only [h, w, within_cons, within_nil, and_self, frO_next, frO_fault,
      frM_some, frM_none, frL_mk, frR_mk, frL_fold, frR_fold, fr_ite, frO_ite, frM_ite, frL_ite, frR_ite, ite_self,
      implies_true, fr_foldl, frL_foldl, frR_foldl, fr_settleInput]

theorem fr_idleTick {W s0} {s : State} (h : Fr W s0 s) (w : Within [.time, .dzf, .trv, .dev, .mgmt] W) : Fr W s0
    (State.idleTick s) := by
  unfold State.idleTick
  simp only [within_cons, within_nil, and_true] at w
  simp +contextual (maxDischargeDepth := 40) only [h, w, within_cons, within_nil, and_self, frO_next, frO_fault,
      frM_some, frM_none, frL_mk, frR_mk, frL_fold, frR_fold, fr_ite, frO_ite, frM_ite, frL_ite, frR_ite, ite_self,
      implies_true, fr_foldl, frL_foldl, frR_foldl, fr_mk_dzf, fr_mk_time, fr_settleInputs]

theorem fr_inputEdge {W s0} {s : State} (h : Fr W s0 s) (w : Within [.trv, .dev, .evq, .mgmt] W) (x1 x2) : Fr W s0
    (State.inputEdge s x1 x2) := by
  unfold State.inputEdge
  simp only [within_cons, within_nil, and_true] at w
  try simp +contextual (maxDischargeDepth := 40) only [h, w, within_cons, within_nil, and_self, frO_next,
      frO_fault, frM_some, frM_none, frL_mk, frR_mk, frL_fold, frR_fold, fr_ite, frO_ite, frM_ite, frL_ite,
      frR_ite, ite_self, implies_true, fr_foldl, frL_foldl, frR_foldl, fr_mk_dev, fr_settleInput, fr_setInp,
      fr_raise, fr_inputLevel]
  all_goals repeat' (split <;> (try simp +contextual (maxDischargeDepth := 40) only [h, w, within_cons, within_nil,
      and_self, frO_next, frO_fault, frM_some, frM_none, frL_mk, frR_mk, frL_fold, frR_fold, fr_ite, frO_ite,
      frM_ite, frL_ite, frR_ite, ite_self, implies_true, fr_foldl, frL_foldl, frR_foldl, fr_mk_dev, fr_settleInput,
      fr_setInp, fr_raise, fr_inputLevel]))

theorem fr_execSyncIn {W s0} {s : State} (h : Fr W s0 s) (w : Within [.trv, .dev, .evq, .mgmt] W) (x0) : FrO W s0
    (execSyncIn x0 s) := by
  unfold execSyncIn
  simp only [within_cons, within_nil, and_true] at w
  simp +contextual (maxDischargeDepth := 40) only [h, w, within_cons, within_nil, and_self, frO_next, frO_fault,
      frM_some, frM_none, frL_mk, frR_mk, frL_fold, frR_fold, fr_ite, frO_ite, frM_ite, frL_ite, frR_ite, ite_self,
      implies_true, fr_foldl, frL_foldl, frR_foldl, fr_inputEdge]

theorem fr_execBoardAlert {W s0} {s : State} (h : Fr W s0 s) (w : Within [.trv, .dev, .evq, .mgmt] W) (x0) : FrO W
    s0 (execBoardAlert x0 s) := by
  unfold execBoardAlert
  simp only [within_cons, within_nil, and_true] at w
  simp +contextual (maxDischargeDepth := 40) only [h, w, within_cons, within_nil, and_self, frO_next, frO_fault,
      frM_some, frM_none, frL_mk, frR_mk, frL_fold, frR_fold, fr_ite, frO_ite, frM_ite, frL_ite, frR_ite, ite_self,
      implies_true, fr_foldl, frL_foldl, frR_foldl, fr_inputEdge]

theorem fr_execHotIn {W s0} {s : State} (h : Fr W s0 s) (w : Within [.trv, .dev, .evq, .mgmt] W) (x0) : FrO W s0
    (execHotIn x0 s) := by
  unfold execHotIn
  simp only [within_cons, within_nil, and_true] at w
  simp +contextual (maxDischargeDepth := 40) only [h, w, within_cons, within_nil, and_self, frO_next, frO_fault,
      frM_some, frM_none, frL_mk, frR_mk, frL_fold, frR_fold, fr_ite, frO_ite, frM_ite, frL_ite, frR_ite, ite_self,
      implies_true, fr_foldl, frL_foldl, frR_foldl, fr_inputEdge]

theorem fr_execInputStuck {W s0} {s : State} (h : Fr W s0 s) (w : Within [.time, .dev, .evq] W) (x0) : FrO W s0
    (execInputStuck x0 s) := by
  unfold execInputStuck
  simp only [within_cons, within_nil, and_true] at w
  simp +contextual (maxDischargeDepth := 40) only [h, w, within_cons, within_nil, and_self, frO_next, frO_fault,
      frM_some, frM_none, frL_mk, frR_mk, frL_fold, frR_fold, fr_ite, frO_ite, frM_ite, frL_ite, frR_ite, ite_self,
      implies_true, fr_foldl, frL_foldl, frR_foldl, fr_mk_dev, fr_guard, fr_at, fr_setInp, fr_raise]

theorem fr_execInputRearm {W s0} {s : State} (h : Fr W s0 s) (w : Within [.time, .dev, .evq] W) (x0) : FrO W s0
    (execInputRearm x0 s) := by
  unfold execInputRearm
  simp only [within_cons, within_nil, and_true] at w
  simp +contextual (maxDischargeDepth := 40) only [h, w, within_cons, within_nil, and_self, frO_next, frO_fault,
      frM_some, frM_none, frL_mk, frR_mk, frL_fold, frR_fold, fr_ite, frO_ite, frM_ite, frL_ite, frR_ite, ite_self,
      implies_true, fr_foldl, frL_foldl, frR_foldl, fr_mk_dev, fr_guard, fr_at, fr_setInp, fr_raise]

theorem fr_bridgeOff {W s0} {s : State} (h : Fr W s0 s) (w : Within [.ket] W) (x1) : Fr W s0 (State.bridgeOff s x1) := by
  unfold State.bridgeOff
  simp only [within_cons, within_nil, and_true] at w
  simp +contextual (maxDischargeDepth := 40) only [h, w, within_cons, within_nil, and_self, frO_next, frO_fault,
      frM_some, frM_none, frL_mk, frR_mk, frL_fold, frR_fold, fr_ite, frO_ite, frM_ite, frL_ite, frR_ite, ite_self,
      implies_true, fr_foldl, frL_foldl, frR_foldl, fr_setCoil, fr_setSlot]

theorem fr_execOutContention {W s0} {s : State} (h : Fr W s0 s) (w : Within [.ket, .dev, .evq] W) (x0 x1) : FrO W
    s0 (execOutContention x0 x1 s) := by
  unfold execOutContention
  simp only [within_cons, within_nil, and_true] at w
  all_goals repeat' (split <;> (try simp +contextual (maxDischargeDepth := 40) only [h, w, within_cons, within_nil,
      and_self, frO_next, frO_fault, frM_some, frM_none, frL_mk, frR_mk, frL_fold, frR_fold, fr_ite, frO_ite,
      frM_ite, frL_ite, frR_ite, ite_self, implies_true, fr_foldl, frL_foldl, frR_foldl, fr_mk_dev, fr_bridgeOff,
      fr_raise]))

theorem fr_reenable {W s0} {s : State} (h : Fr W s0 s) (w : Within [.dev] W) (x1) : Fr W s0 (State.reenable s x1) := by
  unfold State.reenable
  simp only [within_cons, within_nil, and_true] at w
  simp +contextual (maxDischargeDepth := 40) only [h, w, within_cons, within_nil, and_self, frO_next, frO_fault,
      frM_some, frM_none, frL_mk, frR_mk, frL_fold, frR_fold, fr_ite, frO_ite, frM_ite, frL_ite, frR_ite, ite_self,
      implies_true, fr_foldl, frL_foldl, frR_foldl, fr_mk_dev]

theorem fr_execOutputReenable {W s0} {s : State} (h : Fr W s0 s) (w : Within [.dev] W) (x0) : FrO W s0
    (execOutputReenable x0 s) := by
  unfold execOutputReenable
  simp only [within_cons, within_nil, and_true] at w
  simp +contextual (maxDischargeDepth := 40) only [h, w, within_cons, within_nil, and_self, frO_next, frO_fault,
      frM_some, frM_none, frL_mk, frR_mk, frL_fold, frR_fold, fr_ite, frO_ite, frM_ite, frL_ite, frR_ite, ite_self,
      implies_true, fr_foldl, frL_foldl, frR_foldl, fr_reenable]

theorem fr_execContentionCleared {W s0} {s : State} (h : Fr W s0 s) (w : Within [.ket] W) (x0) : FrO W s0
    (execContentionCleared x0 s) := by
  unfold execContentionCleared
  simp only [within_cons, within_nil, and_true] at w
  all_goals repeat' (split <;> (try simp +contextual (maxDischargeDepth := 40) only [h, w, within_cons, within_nil,
      and_self, frO_next, frO_fault, frM_some, frM_none, frL_mk, frR_mk, frL_fold, frR_fold, fr_ite, frO_ite,
      frM_ite, frL_ite, frR_ite, ite_self, implies_true, fr_foldl, frL_foldl, frR_foldl, fr_releaseCoil,
      fr_setCoil]))

theorem fr_railRead {W s0} {s : State} (h : Fr W s0 s) (w : Within [.dev] W) (x1) : Fr W s0 (State.railRead s x1) := by
  unfold State.railRead
  simp only [within_cons, within_nil, and_true] at w
  all_goals repeat' (split <;> (try simp +contextual (maxDischargeDepth := 40) only [h, w, within_cons, within_nil,
      and_self, frO_next, frO_fault, frM_some, frM_none, frL_mk, frR_mk, frL_fold, frR_fold, fr_ite, frO_ite,
      frM_ite, frL_ite, frR_ite, ite_self, implies_true, fr_foldl, frL_foldl, frR_foldl, fr_mk_dev]))

theorem fr_execPmbusPoll {W s0} {s : State} (h : Fr W s0 s) (w : Within [.dev] W) (x0) : FrO W s0 (execPmbusPoll x0
    s) := by
  unfold execPmbusPoll
  simp only [within_cons, within_nil, and_true] at w
  simp +contextual (maxDischargeDepth := 40) only [h, w, within_cons, within_nil, and_self, frO_next, frO_fault,
      frM_some, frM_none, frL_mk, frR_mk, frL_fold, frR_fold, fr_ite, frO_ite, frM_ite, frL_ite, frR_ite, ite_self,
      implies_true, fr_foldl, frL_foldl, frR_foldl, fr_mk_dev, fr_guard, fr_railRead]

/-! ## Resets -/

theorem fr_warmBsk {W s0} {s : State} (h : Fr W s0 s) (w : Within [.mem, .memBad, .memCorr, .memCe, .memUe,
    .streams, .waiting, .baskets, .pans, .pots, .scales, .tokens, .fastQ, .cal, .dzf, .hq, .trv, .dev, .evq, .msix,
    .mgmt] W) (x1) : Fr W s0 (State.warmBsk s x1) := by
  unfold State.warmBsk
  simp only [within_cons, within_nil, and_true] at w
  simp +contextual (maxDischargeDepth := 40) only [h, w, within_cons, within_nil, and_self, frO_next, frO_fault,
      frM_some, frM_none, frL_mk, frR_mk, frL_fold, frR_fold, fr_ite, frO_ite, frM_ite, frL_ite, frR_ite, ite_self,
      implies_true, fr_foldl, frL_foldl, frR_foldl, fr_resetBsk, fr_setBsk]

theorem fr_warmReset {W s0} {s : State} (h : Fr W s0 s) (w : Within [.mem, .memBad, .memCorr, .memCe, .memUe,
    .streams, .waiting, .baskets, .pans, .pots, .scales, .tokens, .globals, .fastQ, .cal, .dzf, .hq, .trv, .dev,
    .evq, .msix, .mgmt] W) : Fr W s0 (State.warmReset s) := by
  unfold State.warmReset
  simp only [within_cons, within_nil, and_true] at w
  simp +contextual (maxDischargeDepth := 40) only [h, w, within_cons, within_nil, and_self, frO_next, frO_fault,
      frM_some, frM_none, frL_mk, frR_mk, frL_fold, frR_fold, fr_ite, frO_ite, frM_ite, frL_ite, frR_ite, ite_self,
      implies_true, fr_foldl, frL_foldl, frR_foldl, fr_mk_memCe11, fr_abortAll, fr_abandonSweep, fr_warmBsk,
      fr_bootRec]

theorem fr_execWarmReset {W s0} {s : State} (h : Fr W s0 s) (w : Within [.mem, .memBad, .memCorr, .memCe, .memUe,
    .streams, .waiting, .baskets, .pans, .pots, .scales, .tokens, .globals, .fastQ, .cal, .dzf, .hq, .trv, .dev,
    .evq, .msix, .mgmt] W) : FrO W s0 (execWarmReset s) := by
  unfold execWarmReset
  simp only [within_cons, within_nil, and_true] at w
  simp +contextual (maxDischargeDepth := 40) only [h, w, within_cons, within_nil, and_self, frO_next, frO_fault,
      frM_some, frM_none, frL_mk, frR_mk, frL_fold, frR_fold, fr_ite, frO_ite, frM_ite, frL_ite, frR_ite, ite_self,
      implies_true, fr_foldl, frL_foldl, frR_foldl, fr_warmReset]

theorem fr_execPerstAssert {W s0} {s : State} (h : Fr W s0 s) (w : Within [.mem, .memBad, .memCorr, .memCe, .memUe,
    .streams, .waiting, .baskets, .pans, .pots, .scales, .tokens, .globals, .fastQ, .cal, .dzf, .hq, .trv, .dev,
    .evq, .msix, .mgmt] W) : FrO W s0 (execPerstAssert s) := by
  unfold execPerstAssert
  simp only [within_cons, within_nil, and_true] at w
  simp +contextual (maxDischargeDepth := 40) only [h, w, within_cons, within_nil, and_self, frO_next, frO_fault,
      frM_some, frM_none, frL_mk, frR_mk, frL_fold, frR_fold, fr_ite, frO_ite, frM_ite, frL_ite, frR_ite, ite_self,
      implies_true, fr_foldl, frL_foldl, frR_foldl, fr_mk_dev, fr_warmReset]

theorem fr_execPerstRelease {W s0} {s : State} (h : Fr W s0 s) (w : Within [.time, .dev] W) : FrO W s0
    (execPerstRelease s) := by
  unfold execPerstRelease
  simp only [within_cons, within_nil, and_true] at w
  simp +contextual (maxDischargeDepth := 40) only [h, w, within_cons, within_nil, and_self, frO_next, frO_fault,
      frM_some, frM_none, frL_mk, frR_mk, frL_fold, frR_fold, fr_ite, frO_ite, frM_ite, frL_ite, frR_ite, ite_self,
      implies_true, fr_foldl, frL_foldl, frR_foldl, fr_mk_dev, fr_at]

theorem fr_fromRecord {W s0} {s : State} (h : Fr W s0 s) (w : Within [.baskets, .pans, .dzf, .evq] W) (x1) : Fr W
    s0 (State.fromRecord s x1) := by
  unfold State.fromRecord
  simp only [within_cons, within_nil, and_true] at w
  all_goals repeat' (split <;> (try simp +contextual (maxDischargeDepth := 40) only [h, w, within_cons, within_nil,
      and_self, frO_next, frO_fault, frM_some, frM_none, frL_mk, frR_mk, frL_fold, frR_fold, fr_ite, frO_ite,
      frM_ite, frL_ite, frR_ite, ite_self, implies_true, fr_foldl, frL_foldl, frR_foldl, fr_setPan, fr_setBsk,
      fr_raise, fr_setPort]))

theorem fr_bare {W s0} {s : State} (h : Fr W s0 s) (w : Within [.time, .mem, .memBad, .memCorr, .memCe, .memUe,
    .streams, .waiting, .baskets, .pans, .pots, .scales, .tokens, .globals, .nextUid, .fastQ, .ket, .cal, .feu,
    .dzf, .hq, .trv, .dev, .evq] W) (x1 x2) : Fr W s0 (State.bare s x1 x2) := by
  unfold State.bare
  simp only [within_cons, within_nil, and_true] at w
  simp +contextual (maxDischargeDepth := 40) only [h, w, within_cons, within_nil, and_self, frO_next, frO_fault,
      frM_some, frM_none, frL_mk, frR_mk, frL_fold, frR_fold, fr_ite, frO_ite, frM_ite, frL_ite, frR_ite, ite_self,
      implies_true, fr_foldl, frL_foldl, frR_foldl, fr_mk_time24]

theorem fr_coldReset {W s0} {s : State} (h : Fr W s0 s) (w : Within [.time, .mem, .memBad, .memCorr, .memCe,
    .memUe, .streams, .waiting, .baskets, .pans, .pots, .scales, .tokens, .globals, .nextUid, .fastQ, .ket, .cal,
    .feu, .dzf, .hq, .trv, .dev, .evq] W) (x1 x2) : Fr W s0 (State.coldReset s x1 x2) := by
  unfold State.coldReset
  simp only [within_cons, within_nil, and_true] at w
  simp +contextual (maxDischargeDepth := 40) only [h, w, within_cons, within_nil, and_self, frO_next, frO_fault,
      frM_some, frM_none, frL_mk, frR_mk, frL_fold, frR_fold, fr_ite, frO_ite, frM_ite, frL_ite, frR_ite, ite_self,
      implies_true, fr_foldl, frL_foldl, frR_foldl, fr_mk_dzf_dev, fr_bare, fr_setPan, fr_setBsk, fr_fromRecord,
      fr_layPans, fr_bootRec]

theorem fr_execColdReset {W s0} {s : State} (h : Fr W s0 s) (w : Within [.time, .mem, .memBad, .memCorr, .memCe,
    .memUe, .streams, .waiting, .baskets, .pans, .pots, .scales, .tokens, .globals, .nextUid, .fastQ, .ket, .cal,
    .feu, .dzf, .hq, .trv, .dev, .evq] W) (x0 x1) : FrO W s0 (execColdReset x0 x1 s) := by
  unfold execColdReset
  simp only [within_cons, within_nil, and_true] at w
  simp +contextual (maxDischargeDepth := 40) only [h, w, within_cons, within_nil, and_self, frO_next, frO_fault,
      frM_some, frM_none, frL_mk, frR_mk, frL_fold, frR_fold, fr_ite, frO_ite, frM_ite, frL_ite, frR_ite, ite_self,
      implies_true, fr_foldl, frL_foldl, frR_foldl, fr_coldReset]

theorem fr_execVauxApply {W s0} {s : State} (h : Fr W s0 s) (w : Within [.time, .mem, .memBad, .memCorr, .memCe,
    .memUe, .streams, .waiting, .baskets, .pans, .pots, .scales, .tokens, .globals, .nextUid, .fastQ, .ket, .cal,
    .feu, .dzf, .hq, .trv, .dev, .evq] W) (x0) : FrO W s0 (execVauxApply x0 s) := by
  unfold execVauxApply
  simp only [within_cons, within_nil, and_true] at w
  simp +contextual (maxDischargeDepth := 40) only [h, w, within_cons, within_nil, and_self, frO_next, frO_fault,
      frM_some, frM_none, frL_mk, frR_mk, frL_fold, frR_fold, fr_ite, frO_ite, frM_ite, frL_ite, frR_ite, ite_self,
      implies_true, fr_foldl, frL_foldl, frR_foldl, fr_mk_dev, fr_guard, fr_bare, fr_raise]

theorem fr_execVauxPowerFail {W s0} {s : State} (h : Fr W s0 s) (w : Within [.time, .mem, .memBad, .memCorr,
    .memCe, .memUe, .streams, .waiting, .baskets, .pans, .pots, .scales, .tokens, .globals, .nextUid, .fastQ, .ket,
    .cal, .feu, .dzf, .hq, .trv, .dev, .evq] W) : FrO W s0 (execVauxPowerFail s) := by
  unfold execVauxPowerFail
  simp only [within_cons, within_nil, and_true] at w
  simp +contextual (maxDischargeDepth := 40) only [h, w, within_cons, within_nil, and_self, frO_next, frO_fault,
      frM_some, frM_none, frL_mk, frR_mk, frL_fold, frR_fold, fr_ite, frO_ite, frM_ite, frL_ite, frR_ite, ite_self,
      implies_true, fr_foldl, frL_foldl, frR_foldl, fr_mk_dev, fr_bare]

/-! ## Register writes -/

theorem fr_accRefuse {W s0} {s : State} (h : Fr W s0 s) (w : Within [.dev] W) (x1 x2 x3) : Fr W s0 (State.accRefuse
    s x1 x2 x3) := by
  unfold State.accRefuse
  simp only [within_cons, within_nil, and_true] at w
  simp +contextual (maxDischargeDepth := 40) only [h, w, within_cons, within_nil, and_self, frO_next, frO_fault,
      frM_some, frM_none, frL_mk, frR_mk, frL_fold, frR_fold, fr_ite, frO_ite, frM_ite, frL_ite, frR_ite, ite_self,
      implies_true, fr_foldl, frL_foldl, frR_foldl, fr_mk_dev]

theorem fr_accClear {W s0} {s : State} (h : Fr W s0 s) (w : Within [.dev] W) : Fr W s0 (State.accClear s) := by
  unfold State.accClear
  simp only [within_cons, within_nil, and_true] at w
  simp +contextual (maxDischargeDepth := 40) only [h, w, within_cons, within_nil, and_self, frO_next, frO_fault,
      frM_some, frM_none, frL_mk, frR_mk, frL_fold, frR_fold, fr_ite, frO_ite, frM_ite, frL_ite, frR_ite, ite_self,
      implies_true, fr_foldl, frL_foldl, frR_foldl, fr_mk_dev]

theorem fr_execAccErrClear {W s0} {s : State} (h : Fr W s0 s) (w : Within [.dev] W) : FrO W s0 (execAccErrClear s) := by
  unfold execAccErrClear
  simp only [within_cons, within_nil, and_true] at w
  simp +contextual (maxDischargeDepth := 40) only [h, w, within_cons, within_nil, and_self, frO_next, frO_fault,
      frM_some, frM_none, frL_mk, frR_mk, frL_fold, frR_fold, fr_ite, frO_ite, frM_ite, frL_ite, frR_ite, ite_self,
      implies_true, fr_foldl, frL_foldl, frR_foldl, fr_accClear]

theorem fr_unlatch {W s0} {s : State} (h : Fr W s0 s) (w : Within [.dev] W) (x1 x2) : Fr W s0 (State.unlatch s x1
    x2) := by
  unfold State.unlatch
  simp only [within_cons, within_nil, and_true] at w
  simp +contextual (maxDischargeDepth := 40) only [h, w, within_cons, within_nil, and_self, frO_next, frO_fault,
      frM_some, frM_none, frL_mk, frR_mk, frL_fold, frR_fold, fr_ite, frO_ite, frM_ite, frL_ite, frR_ite, ite_self,
      implies_true, fr_foldl, frL_foldl, frR_foldl, fr_mk_dev]

theorem fr_readReturn {W s0} {s : State} (h : Fr W s0 s) (w : Within [.dev] W) (x1 x2) : Fr W s0 (State.readReturn
    s x1 x2) := by
  unfold State.readReturn
  simp only [within_cons, within_nil, and_true] at w
  simp +contextual (maxDischargeDepth := 40) only [h, w, within_cons, within_nil, and_self, frO_next, frO_fault,
      frM_some, frM_none, frL_mk, frR_mk, frL_fold, frR_fold, fr_ite, frO_ite, frM_ite, frL_ite, frR_ite, ite_self,
      implies_true, fr_foldl, frL_foldl, frR_foldl, fr_mk_dev]

theorem fr_execRefusedAccess {W s0} {s : State} (h : Fr W s0 s) (w : Within [.dev] W) (x0 x1 x2 x3) : FrO W s0
    (execRefusedAccess x0 x1 x2 x3 s) := by
  unfold execRefusedAccess
  simp only [within_cons, within_nil, and_true] at w
  all_goals repeat' (split <;> (try simp +contextual (maxDischargeDepth := 40) only [h, w, within_cons, within_nil,
      and_self, frO_next, frO_fault, frM_some, frM_none, frL_mk, frR_mk, frL_fold, frR_fold, fr_ite, frO_ite,
      frM_ite, frL_ite, frR_ite, ite_self, implies_true, fr_foldl, frL_foldl, frR_foldl, fr_guard, fr_accRefuse,
      fr_unlatch, fr_readReturn]))

theorem fr_execLatchedLowerRead {W s0} {s : State} (h : Fr W s0 s) (w : Within [.dev] W) (x0 x1) : FrO W s0
    (execLatchedLowerRead x0 x1 s) := by
  unfold execLatchedLowerRead
  simp only [within_cons, within_nil, and_true] at w
  simp +contextual (maxDischargeDepth := 40) only [h, w, within_cons, within_nil, and_self, frO_next, frO_fault,
      frM_some, frM_none, frL_mk, frR_mk, frL_fold, frR_fold, fr_ite, frO_ite, frM_ite, frL_ite, frR_ite, ite_self,
      implies_true, fr_foldl, frL_foldl, frR_foldl, fr_mk_dev, fr_guard, fr_unlatch, fr_readReturn]

theorem fr_gctlWrite {W s0} {s : State} (h : Fr W s0 s) (w : Within [.mem, .memBad, .memCorr, .memCe, .memUe,
    .streams, .waiting, .baskets, .pans, .pots, .scales, .tokens, .globals, .fastQ, .cal, .dzf, .hq, .trv, .dev,
    .evq, .msix, .mgmt] W) (x1 x2) : Fr W s0 (State.gctlWrite s x1 x2) := by
  unfold State.gctlWrite
  simp only [within_cons, within_nil, and_true] at w
  all_goals repeat' (split <;> (try simp +contextual (maxDischargeDepth := 40) only [h, w, within_cons, within_nil,
      and_self, frO_next, frO_fault, frM_some, frM_none, frL_mk, frR_mk, frL_fold, frR_fold, fr_ite, frO_ite,
      frM_ite, frL_ite, frR_ite, ite_self, implies_true, fr_foldl, frL_foldl, frR_foldl, fr_mk_dev, fr_warmReset,
      fr_scaleClass, fr_accClear, fr_strmReg]))

theorem fr_stuckClear {W s0} {s : State} (h : Fr W s0 s) (w : Within [.dev] W) (x1) : Fr W s0 (State.stuckClear s
    x1) := by
  unfold State.stuckClear
  simp only [within_cons, within_nil, and_true] at w
  simp +contextual (maxDischargeDepth := 40) only [h, w, within_cons, within_nil, and_self, frO_next, frO_fault,
      frM_some, frM_none, frL_mk, frR_mk, frL_fold, frR_fold, fr_ite, frO_ite, frM_ite, frL_ite, frR_ite, ite_self,
      implies_true, fr_foldl, frL_foldl, frR_foldl, fr_setInp]

theorem fr_clkWrite {W s0} {s : State} (h : Fr W s0 s) (w : Within [.dev] W) (x1 x2) : Fr W s0 (State.clkWrite s x1
    x2) := by
  unfold State.clkWrite
  simp only [within_cons, within_nil, and_true] at w
  all_goals repeat' (split <;> (try simp +contextual (maxDischargeDepth := 40) only [h, w, within_cons, within_nil,
      and_self, frO_next, frO_fault, frM_some, frM_none, frL_mk, frR_mk, frL_fold, frR_fold, fr_ite, frO_ite,
      frM_ite, frL_ite, frR_ite, ite_self, implies_true, fr_foldl, frL_foldl, frR_foldl, fr_mk_dev, fr_stuckClear,
      fr_reenable]))

theorem fr_feuSet {W s0} {s : State} (h : Fr W s0 s) (w : Within [.feu] W) (x1) : Fr W s0 (State.feuSet s x1) := by
  unfold State.feuSet
  simp only [within_cons, within_nil, and_true] at w
  simp +contextual (maxDischargeDepth := 40) only [h, w, within_cons, within_nil, and_self, frO_next, frO_fault,
      frM_some, frM_none, frL_mk, frR_mk, frL_fold, frR_fold, fr_ite, frO_ite, frM_ite, frL_ite, frR_ite, ite_self,
      implies_true, fr_foldl, frL_foldl, frR_foldl, fr_mk_feu]

theorem fr_feuWrite {W s0} {s : State} (h : Fr W s0 s) (w : Within [.baskets, .feu] W) (x1 x2) : Fr W s0
    (State.feuWrite s x1 x2) := by
  unfold State.feuWrite
  simp only [within_cons, within_nil, and_true] at w
  all_goals repeat' (split <;> (try simp +contextual (maxDischargeDepth := 40) only [h, w, within_cons, within_nil,
      and_self, frO_next, frO_fault, frM_some, frM_none, frL_mk, frR_mk, frL_fold, frR_fold, fr_ite, frO_ite,
      frM_ite, frL_ite, frR_ite, ite_self, implies_true, fr_foldl, frL_foldl, frR_foldl, fr_pendClear, fr_feuClear,
      fr_ringReset, fr_feuSet, fr_testReq]))

theorem fr_slotRwl {W s0} {s : State} (h : Fr W s0 s) (w : Within [.ket] W) (x1 x2) : Fr W s0 (State.slotRwl s x1
    x2) := by
  unfold State.slotRwl
  simp only [within_cons, within_nil, and_true] at w
  simp +contextual (maxDischargeDepth := 40) only [h, w, within_cons, within_nil, and_self, frO_next, frO_fault,
      frM_some, frM_none, frL_mk, frR_mk, frL_fold, frR_fold, fr_ite, frO_ite, frM_ite, frL_ite, frR_ite, ite_self,
      implies_true, fr_foldl, frL_foldl, frR_foldl, fr_setSlot]

theorem fr_slotWrite {W s0} {s : State} (h : Fr W s0 s) (w : Within [.ket] W) (x1 x2 x3) : Fr W s0 (State.slotWrite
    s x1 x2 x3) := by
  unfold State.slotWrite
  simp only [within_cons, within_nil, and_true] at w
  all_goals repeat' (split <;> (try simp +contextual (maxDischargeDepth := 40) only [h, w, within_cons, within_nil,
      and_self, frO_next, frO_fault, frM_some, frM_none, frL_mk, frR_mk, frL_fold, frR_fold, fr_ite, frO_ite,
      frM_ite, frL_ite, frR_ite, ite_self, implies_true, fr_foldl, frL_foldl, frR_foldl, fr_setSlot, fr_slotRwl,
      fr_spWrite]))

theorem fr_tecCfgWrite {W s0} {s : State} (h : Fr W s0 s) (w : Within [.ket] W) (x1 x2) : Fr W s0
    (State.tecCfgWrite s x1 x2) := by
  unfold State.tecCfgWrite
  simp only [within_cons, within_nil, and_true] at w
  simp +contextual (maxDischargeDepth := 40) only [h, w, within_cons, within_nil, and_self, frO_next, frO_fault,
      frM_some, frM_none, frL_mk, frR_mk, frL_fold, frR_fold, fr_ite, frO_ite, frM_ite, frL_ite, frR_ite, ite_self,
      implies_true, fr_foldl, frL_foldl, frR_foldl, fr_setCoil, fr_setSlot]

theorem fr_tecOvrWrite {W s0} {s : State} (h : Fr W s0 s) (w : Within [.ket, .evq] W) (x1 x2) : Fr W s0
    (State.tecOvrWrite s x1 x2) := by
  unfold State.tecOvrWrite
  simp only [within_cons, within_nil, and_true] at w
  all_goals repeat' (split <;> (try simp +contextual (maxDischargeDepth := 40) only [h, w, within_cons, within_nil,
      and_self, frO_next, frO_fault, frM_some, frM_none, frL_mk, frR_mk, frL_fold, frR_fold, fr_ite, frO_ite,
      frM_ite, frL_ite, frR_ite, ite_self, implies_true, fr_foldl, frL_foldl, frR_foldl, fr_setCoil,
      fr_crossCond]))

theorem fr_coilWinWrite {W s0} {s : State} (h : Fr W s0 s) (w : Within [.ket] W) (x1 x2) : Fr W s0
    (State.coilWinWrite s x1 x2) := by
  unfold State.coilWinWrite
  simp only [within_cons, within_nil, and_true] at w
  simp +contextual (maxDischargeDepth := 40) only [h, w, within_cons, within_nil, and_self, frO_next, frO_fault,
      frM_some, frM_none, frL_mk, frR_mk, frL_fold, frR_fold, fr_ite, frO_ite, frM_ite, frL_ite, frR_ite, ite_self,
      implies_true, fr_foldl, frL_foldl, frR_foldl, fr_setCoil]

theorem fr_engSet {W s0} {s : State} (h : Fr W s0 s) (w : Within [.ket] W) (x1) : Fr W s0 (State.engSet s x1) := by
  unfold State.engSet
  simp only [within_cons, within_nil, and_true] at w
  simp +contextual (maxDischargeDepth := 40) only [h, w, within_cons, within_nil, and_self, frO_next, frO_fault,
      frM_some, frM_none, frL_mk, frR_mk, frL_fold, frR_fold, fr_ite, frO_ite, frM_ite, frL_ite, frR_ite, ite_self,
      implies_true, fr_foldl, frL_foldl, frR_foldl, fr_setEng]

theorem fr_ketWrite {W s0} {s : State} (h : Fr W s0 s) (w : Within [.ket, .evq] W) (x1 x2) : Fr W s0
    (State.ketWrite s x1 x2) := by
  unfold State.ketWrite
  simp only [within_cons, within_nil, and_true] at w
  all_goals repeat' (split <;> (try simp +contextual (maxDischargeDepth := 40) only [h, w, within_cons, within_nil,
      and_self, frO_next, frO_fault, frM_some, frM_none, frL_mk, frR_mk, frL_fold, frR_fold, fr_ite, frO_ite,
      frM_ite, frL_ite, frR_ite, ite_self, implies_true, fr_foldl, frL_foldl, frR_foldl, fr_mk_ket, fr_slotWrite,
      fr_slotRwl, fr_tecCfgWrite, fr_tecOvrWrite, fr_coilWinWrite, fr_xcondClear, fr_ketClear, fr_injStart,
      fr_injStop, fr_engSet, fr_capArm]))

theorem fr_calSet {W s0} {s : State} (h : Fr W s0 s) (w : Within [.cal] W) (x1) : Fr W s0 (State.calSet s x1) := by
  unfold State.calSet
  simp only [within_cons, within_nil, and_true] at w
  simp +contextual (maxDischargeDepth := 40) only [h, w, within_cons, within_nil, and_self, frO_next, frO_fault,
      frM_some, frM_none, frL_mk, frR_mk, frL_fold, frR_fold, fr_ite, frO_ite, frM_ite, frL_ite, frR_ite, ite_self,
      implies_true, fr_foldl, frL_foldl, frR_foldl, fr_mk_cal]

theorem fr_calCfgWrite {W s0} {s : State} (h : Fr W s0 s) (w : Within [.pans, .cal] W) (x1) : Fr W s0
    (State.calCfgWrite s x1) := by
  unfold State.calCfgWrite
  simp only [within_cons, within_nil, and_true] at w
  simp +contextual (maxDischargeDepth := 40) only [h, w, within_cons, within_nil, and_self, frO_next, frO_fault,
      frM_some, frM_none, frL_mk, frR_mk, frL_fold, frR_fold, fr_ite, frO_ite, frM_ite, frL_ite, frR_ite, ite_self,
      implies_true, fr_foldl, frL_foldl, frR_foldl, fr_calSet, fr_calCfgTake]

theorem fr_calWrite {W s0} {s : State} (h : Fr W s0 s) (w : Within [.baskets, .pans, .cal, .trv, .evq, .msix,
    .mgmt] W) (x1 x2) : Fr W s0 (State.calWrite s x1 x2) := by
  unfold State.calWrite
  simp only [within_cons, within_nil, and_true] at w
  all_goals repeat' (split <;> (try simp +contextual (maxDischargeDepth := 40) only [h, w, within_cons, within_nil,
      and_self, frO_next, frO_fault, frM_some, frM_none, frL_mk, frR_mk, frL_fold, frR_fold, fr_ite, frO_ite,
      frM_ite, frL_ite, frR_ite, ite_self, implies_true, fr_foldl, frL_foldl, frR_foldl, fr_calClear,
      fr_abandonSweep, fr_calCfgWrite, fr_calSet, fr_calReq]))

theorem fr_bskRwl {W s0} {s : State} (h : Fr W s0 s) (w : Within [.baskets] W) (x1 x2 x3) : Fr W s0 (State.bskRwl s
    x1 x2 x3) := by
  unfold State.bskRwl
  simp only [within_cons, within_nil, and_true] at w
  simp +contextual (maxDischargeDepth := 40) only [h, w, within_cons, within_nil, and_self, frO_next, frO_fault,
      frM_some, frM_none, frL_mk, frR_mk, frL_fold, frR_fold, fr_ite, frO_ite, frM_ite, frL_ite, frR_ite, ite_self,
      implies_true, fr_foldl, frL_foldl, frR_foldl, fr_setBsk]

theorem fr_bskSet {W s0} {s : State} (h : Fr W s0 s) (w : Within [.baskets] W) (x1 x2) : Fr W s0 (State.bskSet s x1
    x2) := by
  unfold State.bskSet
  simp only [within_cons, within_nil, and_true] at w
  simp +contextual (maxDischargeDepth := 40) only [h, w, within_cons, within_nil, and_self, frO_next, frO_fault,
      frM_some, frM_none, frL_mk, frR_mk, frL_fold, frR_fold, fr_ite, frO_ite, frM_ite, frL_ite, frR_ite, ite_self,
      implies_true, fr_foldl, frL_foldl, frR_foldl, fr_setBsk]

theorem fr_bskWrite {W s0} {s : State} (h : Fr W s0 s) (w : Within [.mem, .memBad, .memCorr, .memCe, .memUe,
    .streams, .waiting, .baskets, .pans, .pots, .scales, .tokens, .globals, .fastQ, .cal, .dzf, .hq, .trv, .dev,
    .evq, .msix, .mgmt] W) (x1 x2 x3) : Fr W s0 (State.bskWrite s x1 x2 x3) := by
  unfold State.bskWrite
  simp only [within_cons, within_nil, and_true] at w
  all_goals repeat' (split <;> (try simp +contextual (maxDischargeDepth := 40) only [h, w, within_cons, within_nil,
      and_self, frO_next, frO_fault, frM_some, frM_none, frL_mk, frR_mk, frL_fold, frR_fold, fr_ite, frO_ite,
      frM_ite, frL_ite, frR_ite, ite_self, implies_true, fr_foldl, frL_foldl, frR_foldl, fr_bskCtl, fr_bskRwl,
      fr_bskSet, fr_sig, fr_seqClear, fr_wskClear, fr_rdoClear]))

theorem fr_panRwl {W s0} {s : State} (h : Fr W s0 s) (w : Within [.baskets, .pans] W) (x1 x2) : Fr W s0
    (State.panRwl s x1 x2) := by
  unfold State.panRwl
  simp only [within_cons, within_nil, and_true] at w
  simp +contextual (maxDischargeDepth := 40) only [h, w, within_cons, within_nil, and_self, frO_next, frO_fault,
      frM_some, frM_none, frL_mk, frR_mk, frL_fold, frR_fold, fr_ite, frO_ite, frM_ite, frL_ite, frR_ite, ite_self,
      implies_true, fr_foldl, frL_foldl, frR_foldl, fr_setPan, fr_setBsk]

theorem fr_panWrite {W s0} {s : State} (h : Fr W s0 s) (w : Within [.baskets, .pans] W) (x1 x2 x3) : Fr W s0
    (State.panWrite s x1 x2 x3) := by
  unfold State.panWrite
  simp only [within_cons, within_nil, and_true] at w
  all_goals repeat' (split <;> (try simp +contextual (maxDischargeDepth := 40) only [h, w, within_cons, within_nil,
      and_self, frO_next, frO_fault, frM_some, frM_none, frL_mk, frR_mk, frL_fold, frR_fold, fr_ite, frO_ite,
      frM_ite, frL_ite, frR_ite, ite_self, implies_true, fr_foldl, frL_foldl, frR_foldl, fr_panClear, fr_panRwl,
      fr_bskRwl, fr_setPan]))

theorem fr_portCtl {W s0} {s : State} (h : Fr W s0 s) (w : Within [.freeCtr, .dzf, .trv, .evq, .tx, .joins] W) (x1
    x2) : Fr W s0 (State.portCtl s x1 x2) := by
  unfold State.portCtl
  simp only [within_cons, within_nil, and_true] at w
  simp +contextual (maxDischargeDepth := 40) only [h, w, within_cons, within_nil, and_self, frO_next, frO_fault,
      frM_some, frM_none, frL_mk, frR_mk, frL_fold, frR_fold, fr_ite, frO_ite, frM_ite, frL_ite, frR_ite, ite_self,
      implies_true, fr_foldl, frL_foldl, frR_foldl, fr_portOn, fr_portOff, fr_portDrain, fr_portBack,
      fr_portRetrain]

theorem fr_portWrite {W s0} {s : State} (h : Fr W s0 s) (w : Within [.freeCtr, .dzf, .trv, .evq, .tx, .joins] W)
    (x1 x2 x3) : Fr W s0 (State.portWrite s x1 x2 x3) := by
  unfold State.portWrite
  simp only [within_cons, within_nil, and_true] at w
  all_goals repeat' (split <;> (try simp +contextual (maxDischargeDepth := 40) only [h, w, within_cons, within_nil,
      and_self, frO_next, frO_fault, frM_some, frM_none, frL_mk, frR_mk, frL_fold, frR_fold, fr_ite, frO_ite,
      frM_ite, frL_ite, frR_ite, ite_self, implies_true, fr_foldl, frL_foldl, frR_foldl, fr_portCtl, fr_setPort]))

theorem fr_dzfCtl {W s0} {s : State} (h : Fr W s0 s) (w : Within [.dzf] W) (x1) : Fr W s0 (State.dzfCtl s x1) := by
  unfold State.dzfCtl
  simp only [within_cons, within_nil, and_true] at w
  simp +contextual (maxDischargeDepth := 40) only [h, w, within_cons, within_nil, and_self, frO_next, frO_fault,
      frM_some, frM_none, frL_mk, frR_mk, frL_fold, frR_fold, fr_ite, frO_ite, frM_ite, frL_ite, frR_ite, ite_self,
      implies_true, fr_foldl, frL_foldl, frR_foldl, fr_dzfClear, fr_cfgCommit, fr_cfgAdvance, fr_cfgClose]

theorem fr_idmapCtl {W s0} {s : State} (h : Fr W s0 s) (w : Within [.dzf] W) (x1) : Fr W s0 (State.idmapCtl s x1) := by
  unfold State.idmapCtl
  simp only [within_cons, within_nil, and_true] at w
  simp +contextual (maxDischargeDepth := 40) only [h, w, within_cons, within_nil, and_self, frO_next, frO_fault,
      frM_some, frM_none, frL_mk, frR_mk, frL_fold, frR_fold, fr_ite, frO_ite, frM_ite, frL_ite, frR_ite, ite_self,
      implies_true, fr_foldl, frL_foldl, frR_foldl, fr_mk_dzf, fr_idmapWr, fr_idmapDel]

theorem fr_dzfSet {W s0} {s : State} (h : Fr W s0 s) (w : Within [.dzf] W) (x1) : Fr W s0 (State.dzfSet s x1) := by
  unfold State.dzfSet
  simp only [within_cons, within_nil, and_true] at w
  simp +contextual (maxDischargeDepth := 40) only [h, w, within_cons, within_nil, and_self, frO_next, frO_fault,
      frM_some, frM_none, frL_mk, frR_mk, frL_fold, frR_fold, fr_ite, frO_ite, frM_ite, frL_ite, frR_ite, ite_self,
      implies_true, fr_foldl, frL_foldl, frR_foldl, fr_mk_dzf]

theorem fr_dzfWrite {W s0} {s : State} (h : Fr W s0 s) (w : Within [.freeCtr, .dzf, .trv, .evq, .tx, .joins] W) (x1
    x2) : Fr W s0 (State.dzfWrite s x1 x2) := by
  unfold State.dzfWrite
  simp only [within_cons, within_nil, and_true] at w
  all_goals repeat' (split <;> (try simp +contextual (maxDischargeDepth := 40) only [h, w, within_cons, within_nil,
      and_self, frO_next, frO_fault, frM_some, frM_none, frL_mk, frR_mk, frL_fold, frR_fold, fr_ite, frO_ite,
      frM_ite, frL_ite, frR_ite, ite_self, implies_true, fr_foldl, frL_foldl, frR_foldl, fr_portWrite, fr_dzfSet,
      fr_setPort, fr_dzfCtl, fr_idmapCtl, fr_plaitApply]))

theorem fr_qCfgWrite {W s0} {s : State} (h : Fr W s0 s) (w : Within [.hq] W) (x1 x2 x3) : Fr W s0 (State.qCfgWrite
    s x1 x2 x3) := by
  unfold State.qCfgWrite
  simp only [within_cons, within_nil, and_true] at w
  simp +contextual (maxDischargeDepth := 40) only [h, w, within_cons, within_nil, and_self, frO_next, frO_fault,
      frM_some, frM_none, frL_mk, frR_mk, frL_fold, frR_fold, fr_ite, frO_ite, frM_ite, frL_ite, frR_ite, ite_self,
      implies_true, fr_foldl, frL_foldl, frR_foldl, fr_setQue, fr_queOn, fr_queOff]

theorem fr_queWrite {W s0} {s : State} (h : Fr W s0 s) (w : Within [.hq, .msix] W) (x1 x2 x3 x4) : Fr W s0
    (State.queWrite s x1 x2 x3 x4) := by
  unfold State.queWrite
  simp only [within_cons, within_nil, and_true] at w
  all_goals repeat' (split <;> (try simp +contextual (maxDischargeDepth := 40) only [h, w, within_cons, within_nil,
      and_self, frO_next, frO_fault, frM_some, frM_none, frL_mk, frR_mk, frL_fold, frR_fold, fr_ite, frO_ite,
      frM_ite, frL_ite, frR_ite, ite_self, implies_true, fr_foldl, frL_foldl, frR_foldl, fr_qCfgWrite, fr_sqBell,
      fr_cqBell, fr_setQue]))

theorem fr_queBase {W s0} {s : State} (h : Fr W s0 s) (w : Within [.hq] W) (x1 x2 x3) : Fr W s0 (State.queBase s x1
    x2 x3) := by
  unfold State.queBase
  simp only [within_cons, within_nil, and_true] at w
  simp +contextual (maxDischargeDepth := 40) only [h, w, within_cons, within_nil, and_self, frO_next, frO_fault,
      frM_some, frM_none, frL_mk, frR_mk, frL_fold, frR_fold, fr_ite, frO_ite, frM_ite, frL_ite, frR_ite, ite_self,
      implies_true, fr_foldl, frL_foldl, frR_foldl, fr_setQue]

theorem fr_hqSet {W s0} {s : State} (h : Fr W s0 s) (w : Within [.hq] W) (x1) : Fr W s0 (State.hqSet s x1) := by
  unfold State.hqSet
  simp only [within_cons, within_nil, and_true] at w
  simp +contextual (maxDischargeDepth := 40) only [h, w, within_cons, within_nil, and_self, frO_next, frO_fault,
      frM_some, frM_none, frL_mk, frR_mk, frL_fold, frR_fold, fr_ite, frO_ite, frM_ite, frL_ite, frR_ite, ite_self,
      implies_true, fr_foldl, frL_foldl, frR_foldl, fr_mk_hq]

theorem fr_grantSet {W s0} {s : State} (h : Fr W s0 s) (w : Within [.hq] W) (x1 x2) : Fr W s0 (State.grantSet s x1
    x2) := by
  unfold State.grantSet
  simp only [within_cons, within_nil, and_true] at w
  simp +contextual (maxDischargeDepth := 40) only [h, w, within_cons, within_nil, and_self, frO_next, frO_fault,
      frM_some, frM_none, frL_mk, frR_mk, frL_fold, frR_fold, fr_ite, frO_ite, frM_ite, frL_ite, frR_ite, ite_self,
      implies_true, fr_foldl, frL_foldl, frR_foldl, fr_hqSet]

theorem fr_hqWrite {W s0} {s : State} (h : Fr W s0 s) (w : Within [.hq, .msix] W) (x1 x2) : Fr W s0 (State.hqWrite
    s x1 x2) := by
  unfold State.hqWrite
  simp only [within_cons, within_nil, and_true] at w
  all_goals repeat' (split <;> (try simp +contextual (maxDischargeDepth := 40) only [h, w, within_cons, within_nil,
      and_self, frO_next, frO_fault, frM_some, frM_none, frL_mk, frR_mk, frL_fold, frR_fold, fr_ite, frO_ite,
      frM_ite, frL_ite, frR_ite, ite_self, implies_true, fr_foldl, frL_foldl, frR_foldl, fr_queWrite, fr_hqSet,
      fr_grantSet]))

theorem fr_mbxGo {W s0} {s : State} (h : Fr W s0 s) (w : Within [.freeCtr, .trv, .msix, .mgmt] W) : Fr W s0
    (State.mbxGo s) := by
  unfold State.mbxGo
  simp only [within_cons, within_nil, and_true] at w
  try simp +contextual (maxDischargeDepth := 40) only [h, w, within_cons, within_nil, and_self, frO_next,
      frO_fault, frM_some, frM_none, frL_mk, frR_mk, frL_fold, frR_fold, fr_ite, frO_ite, frM_ite, frL_ite,
      frR_ite, ite_self, implies_true, fr_foldl, frL_foldl, frR_foldl, fr_mk_trv, fr_status]
  all_goals repeat' (split <;> (try simp +contextual (maxDischargeDepth := 40) only [h, w, within_cons, within_nil,
      and_self, frO_next, frO_fault, frM_some, frM_none, frL_mk, frR_mk, frL_fold, frR_fold, fr_ite, frO_ite,
      frM_ite, frL_ite, frR_ite, ite_self, implies_true, fr_foldl, frL_foldl, frR_foldl, fr_mk_trv, fr_status]))

theorem fr_mbxWrite {W s0} {s : State} (h : Fr W s0 s) (w : Within [.freeCtr, .trv, .msix, .mgmt] W) (x1 x2) : Fr W
    s0 (State.mbxWrite s x1 x2) := by
  unfold State.mbxWrite
  simp only [within_cons, within_nil, and_true] at w
  simp +contextual (maxDischargeDepth := 40) only [h, w, within_cons, within_nil, and_self, frO_next, frO_fault,
      frM_some, frM_none, frL_mk, frR_mk, frL_fold, frR_fold, fr_ite, frO_ite, frM_ite, frL_ite, frR_ite, ite_self,
      implies_true, fr_foldl, frL_foldl, frR_foldl, fr_mk_trv, fr_mbxGo]

theorem fr_pfWrite {W s0} {s : State} (h : Fr W s0 s) (w : Within [.freeCtr, .mem, .memBad, .memCorr, .memCe,
    .memUe, .streams, .waiting, .baskets, .pans, .pots, .scales, .tokens, .globals, .fastQ, .ket, .cal, .feu, .dzf,
    .hq, .trv, .dev, .evq, .tx, .joins, .msix, .mgmt] W) (x1 x2) : Fr W s0 (State.pfWrite s x1 x2) := by
  unfold State.pfWrite
  simp only [within_cons, within_nil, and_true] at w
  all_goals repeat' (split <;> (try simp +contextual (maxDischargeDepth := 40) only [h, w, within_cons, within_nil,
      and_self, frO_next, frO_fault, frM_some, frM_none, frL_mk, frR_mk, frL_fold, frR_fold, fr_ite, frO_ite,
      frM_ite, frL_ite, frR_ite, ite_self, implies_true, fr_foldl, frL_foldl, frR_foldl, fr_gctlWrite, fr_clkWrite,
      fr_feuWrite, fr_ketWrite, fr_calWrite, fr_bskWrite, fr_panWrite, fr_dzfWrite, fr_hqWrite, fr_mbxWrite]))

theorem fr_pfWrite64 {W s0} {s : State} (h : Fr W s0 s) (w : Within [.feu, .dzf, .hq] W) (x1 x2) : Fr W s0
    (State.pfWrite64 s x1 x2) := by
  unfold State.pfWrite64
  simp only [within_cons, within_nil, and_true] at w
  all_goals repeat' (split <;> (try simp +contextual (maxDischargeDepth := 40) only [h, w, within_cons, within_nil,
      and_self, frO_next, frO_fault, frM_some, frM_none, frL_mk, frR_mk, frL_fold, frR_fold, fr_ite, frO_ite,
      frM_ite, frL_ite, frR_ite, ite_self, implies_true, fr_foldl, frL_foldl, frR_foldl, fr_feuSet, fr_dzfSet,
      fr_queBase, fr_hqSet, fr_grantSet]))

theorem fr_fnWrite {W s0} {s : State} (h : Fr W s0 s) (w : Within [.freeCtr, .mem, .memBad, .memCorr, .memCe,
    .memUe, .streams, .waiting, .baskets, .pans, .pots, .scales, .tokens, .globals, .fastQ, .ket, .cal, .feu, .dzf,
    .hq, .trv, .dev, .evq, .tx, .joins, .msix, .mgmt] W) (x1 x2 x3) : Fr W s0 (State.fnWrite s x1 x2 x3) := by
  unfold State.fnWrite
  simp only [within_cons, within_nil, and_true] at w
  all_goals repeat' (split <;> (try simp +contextual (maxDischargeDepth := 40) only [h, w, within_cons, within_nil,
      and_self, frO_next, frO_fault, frM_some, frM_none, frL_mk, frR_mk, frL_fold, frR_fold, fr_ite, frO_ite,
      frM_ite, frL_ite, frR_ite, ite_self, implies_true, fr_foldl, frL_foldl, frR_foldl, fr_pfWrite, fr_queWrite]))

theorem fr_fnWrite64 {W s0} {s : State} (h : Fr W s0 s) (w : Within [.feu, .dzf, .hq] W) (x1 x2 x3) : Fr W s0
    (State.fnWrite64 s x1 x2 x3) := by
  unfold State.fnWrite64
  simp only [within_cons, within_nil, and_true] at w
  all_goals repeat' (split <;> (try simp +contextual (maxDischargeDepth := 40) only [h, w, within_cons, within_nil,
      and_self, frO_next, frO_fault, frM_some, frM_none, frL_mk, frR_mk, frL_fold, frR_fold, fr_ite, frO_ite,
      frM_ite, frL_ite, frR_ite, ite_self, implies_true, fr_foldl, frL_foldl, frR_foldl, fr_pfWrite64,
      fr_queBase]))

theorem fr_write32 {W s0} {s : State} (h : Fr W s0 s) (w : Within [.freeCtr, .mem, .memBad, .memCorr, .memCe,
    .memUe, .streams, .waiting, .baskets, .pans, .pots, .scales, .tokens, .globals, .fastQ, .ket, .cal, .feu, .dzf,
    .hq, .trv, .dev, .evq, .tx, .joins, .msix, .mgmt] W) (x1 x2 x3) : Fr W s0 (State.write32 s x1 x2 x3) := by
  unfold State.write32
  simp only [within_cons, within_nil, and_true] at w
  simp +contextual (maxDischargeDepth := 40) only [h, w, within_cons, within_nil, and_self, frO_next, frO_fault,
      frM_some, frM_none, frL_mk, frR_mk, frL_fold, frR_fold, fr_ite, frO_ite, frM_ite, frL_ite, frR_ite, ite_self,
      implies_true, fr_foldl, frL_foldl, frR_foldl, fr_mk_dev, fr_unlatch, fr_fnWrite64, fr_fnWrite]

theorem fr_write64 {W s0} {s : State} (h : Fr W s0 s) (w : Within [.freeCtr, .mem, .memBad, .memCorr, .memCe,
    .memUe, .streams, .waiting, .baskets, .pans, .pots, .scales, .tokens, .globals, .fastQ, .ket, .cal, .feu, .dzf,
    .hq, .trv, .dev, .evq, .tx, .joins, .msix, .mgmt] W) (x1 x2 x3) : Fr W s0 (State.write64 s x1 x2 x3) := by
  unfold State.write64
  simp only [within_cons, within_nil, and_true] at w
  simp +contextual (maxDischargeDepth := 40) only [h, w, within_cons, within_nil, and_self, frO_next, frO_fault,
      frM_some, frM_none, frL_mk, frR_mk, frL_fold, frR_fold, fr_ite, frO_ite, frM_ite, frL_ite, frR_ite, ite_self,
      implies_true, fr_foldl, frL_foldl, frR_foldl, fr_fnWrite64, fr_unlatch, fr_write32]

theorem fr_execRegisterWrite {W s0} {s : State} (h : Fr W s0 s) (w : Within [.freeCtr, .mem, .memBad, .memCorr,
    .memCe, .memUe, .streams, .waiting, .baskets, .pans, .pots, .scales, .tokens, .globals, .fastQ, .ket, .cal,
    .feu, .dzf, .hq, .trv, .dev, .evq, .tx, .joins, .msix, .mgmt] W) (x0 x1 x2 x3) : FrO W s0 (execRegisterWrite x0
    x1 x2 x3 s) := by
  unfold execRegisterWrite
  simp only [within_cons, within_nil, and_true] at w
  all_goals repeat' (split <;> (try simp +contextual (maxDischargeDepth := 40) only [h, w, within_cons, within_nil,
      and_self, frO_next, frO_fault, frM_some, frM_none, frL_mk, frR_mk, frL_fold, frR_fold, fr_ite, frO_ite,
      frM_ite, frL_ite, frR_ite, ite_self, implies_true, fr_foldl, frL_foldl, frR_foldl, fr_guard, fr_accRefuse,
      fr_unlatch, fr_write64, fr_write32]))

end Sys2Proof.Machine
end

