-- ==== Sys2Proof/Laws/Tab.lean ====
section
/-! SUPPORT. Sparse tables: reading what was set, and that every operation keeps the canonical form; the memory's laws. -/

namespace Sys2Proof.Machine

variable {α : Type}

/-- An index put in reads as what was put. -/
theorem tget_tins (d : Nat → α) (t : Tab α) (k j : Nat) (v : α) :
    tget d (tins k v t) j = if j = k then v else tget d t j := by
  induction t with
  | nil => by_cases h : j = k <;> simp [tins, tget, h]
  | cons e t ih =>
    obtain ⟨i, w⟩ := e
    unfold tins
    split
    · by_cases h : j = k <;> simp [tget, h]
    · split
      · rename_i _ e; subst e
        by_cases h : j = k <;> simp [tget, h]
      · by_cases h : j = i
        · subst h
          have : ¬ j = k := fun e => by omega
          simp [tget, this]
        · simp [tget, h, ih]

/-- An index taken out reads as its default. -/
theorem tget_tdel (d : Nat → α) (t : Tab α) (k j : Nat) :
    tget d (tdel k t) j = if j = k then d k else tget d t j := by
  induction t with
  | nil => by_cases h : j = k <;> simp [tdel, tget, h]
  | cons e t ih =>
    obtain ⟨i, w⟩ := e
    unfold tdel
    split
    · rename_i e; subst e
      rw [ih]
      by_cases h : j = k <;> simp [tget, h]
    · by_cases h : j = i
      · subst h
        have : ¬ j = k := fun e => by omega
        simp [tget, this]
      · simp [tget, h, ih]

/-- Reading after setting. -/
theorem tget_tset [DecidableEq α] (d : Nat → α) (t : Tab α) (k j : Nat) (v : α) :
    tget d (tset d t k v) j = if j = k then v else tget d t j := by
  unfold tset
  split
  · rw [tget_tdel]; subst_vars; rfl
  · exact tget_tins d t k j v

/-- Reading after a change. -/
theorem tget_tmod [DecidableEq α] (d : Nat → α) (t : Tab α) (k j : Nat) (f : α → α) :
    tget d (tmod d t k f) j = if j = k then f (tget d t k) else tget d t j := tget_tset d t k j _

/-- A table from lo on is one from any lower index. -/
theorem twfFrom_mono [DecidableEq α] (d : Nat → α) {lo lo' : Nat} (h : lo' ≤ lo) :
    ∀ {t : Tab α}, twfFrom d lo t = true → twfFrom d lo' t = true
  | [], _ => rfl
  | (i, v) :: t, hw => by
    simp only [twfFrom, Bool.and_eq_true, decide_eq_true_eq] at hw ⊢
    exact ⟨⟨by omega, hw.1.2⟩, hw.2⟩

/-- Putting a value that is not the default keeps the form. -/
theorem twfFrom_tins [DecidableEq α] (d : Nat → α) (k : Nat) (v : α) (hv : v ≠ d k) :
    ∀ {t : Tab α} {lo : Nat}, lo ≤ k → twfFrom d lo t = true → twfFrom d lo (tins k v t) = true
  | [], lo, hlo, _ => by simp [tins, twfFrom, hv, hlo]
  | (i, w) :: t, lo, hlo, hw => by
    simp only [twfFrom, Bool.and_eq_true, decide_eq_true_eq] at hw
    unfold tins
    split
    · simp only [twfFrom, Bool.and_eq_true, decide_eq_true_eq]
      exact ⟨⟨hlo, hv⟩, ⟨by omega, hw.1.2⟩, hw.2⟩
    · split
      · subst_vars
        simp only [twfFrom, Bool.and_eq_true, decide_eq_true_eq]
        exact ⟨⟨hlo, hv⟩, hw.2⟩
      · simp only [twfFrom, Bool.and_eq_true, decide_eq_true_eq]
        exact ⟨hw.1, twfFrom_tins d k v hv (by omega) hw.2⟩

/-- Taking an index out keeps the form. -/
theorem twfFrom_tdel [DecidableEq α] (d : Nat → α) (k : Nat) :
    ∀ {t : Tab α} {lo : Nat}, twfFrom d lo t = true → twfFrom d lo (tdel k t) = true
  | [], _, _ => rfl
  | (i, w) :: t, lo, hw => by
    simp only [twfFrom, Bool.and_eq_true, decide_eq_true_eq] at hw
    unfold tdel
    split
    · exact twfFrom_tdel d k (twfFrom_mono d (by omega) hw.2)
    · simp only [twfFrom, Bool.and_eq_true, decide_eq_true_eq]
      exact ⟨hw.1, twfFrom_tdel d k hw.2⟩

/-- Setting an index keeps the canonical form. -/
theorem twf_tset [DecidableEq α] (d : Nat → α) (t : Tab α) (k : Nat) (v : α) (h : twf d t = true) :
    twf d (tset d t k v) = true := by
  unfold tset
  split
  · exact twfFrom_tdel d k h
  · exact twfFrom_tins d k v ‹_› (Nat.zero_le _) h

/-- Equal readings of two canonical tables from lo on make them equal. -/
theorem twfFrom_head [DecidableEq α] (d : Nat → α) : ∀ {t : Tab α} {lo j : Nat}, twfFrom d lo t = true → j < lo → tget d t j = d j
  | [], _, _, _, _ => rfl
  | (i, w) :: t, lo, j, hw, hj => by
    simp only [twfFrom, Bool.and_eq_true, decide_eq_true_eq] at hw
    have hi : j ≠ i := by omega
    simp only [tget, hi, if_false]
    exact twfFrom_head d hw.2 (by omega)

/-- Bytes written keep the canonical form. -/
theorem wrTab_wf (bs : List Byte) : ∀ (m : Tab Byte) (a : Nat), Memory.wf m = true → Memory.wf (wrTab m a bs) = true := by
  induction bs with
  | nil => intro m a h; simpa [wrTab] using h
  | cons b bs ih => intro m a h; exact ih _ _ (twf_tset memDflt m a b h)

/-- A byte after a write: the byte written inside the span, as before outside it. -/
theorem tget_wrTab (bs : List Byte) : ∀ (m : Tab Byte) (a j : Nat),
    tget memDflt (wrTab m a bs) j = if a ≤ j ∧ j < a + bs.length then bs.getD (j - a) 0 else tget memDflt m j := by
  induction bs with
  | nil =>
    intro m a j
    have : ¬ (a ≤ j ∧ j < a) := by omega
    simp [wrTab, this]
  | cons b bs ih =>
    intro m a j
    show tget memDflt (wrTab (tset memDflt m a b) (a + 1) bs) j = _
    rw [ih, tget_tset]
    by_cases h1 : j = a
    · subst h1; simp
    · by_cases h2 : a + 1 ≤ j ∧ j < a + 1 + bs.length
      · have h3 : a ≤ j ∧ j < a + (b :: bs).length := by simp; omega
        rw [if_pos h2, if_pos h3]
        have : j - a = (j - (a + 1)) + 1 := by omega
        rw [this]; simp
      · have h3 : ¬ (a ≤ j ∧ j < a + (b :: bs).length) := by simp; omega
        rw [if_neg h2, if_neg h3, if_neg h1]

/-- Counting corrections changes the two counts alone. -/
theorem State.eccCount_eq (s : State) (ce ue : Nat) :
    s.eccCount ce ue = { s with memCe := (s.eccCount ce ue).memCe, memUe := (s.eccCount ce ue).memUe } := by
  unfold State.eccCount; split <;> rfl

/-- A store to local memory writes its bytes. -/
theorem State.wr_mem (s : State) (a : Nat) (bs : List Byte) : (s.wr a bs).mem = wrTab s.mem a bs := by
  simp only [State.wr]; rw [State.eccCount_eq]

/-- A store to local memory: the bytes stored read back, every other byte reads as before. -/
theorem State.wr_rdB (s : State) (a : Nat) (bs : List Byte) (j : Nat) :
    (s.wr a bs).rdB j = if a ≤ j ∧ j < a + bs.length then bs.getD (j - a) 0 else s.rdB j :=
  by unfold State.rdB; rw [State.wr_mem]; exact tget_wrTab bs s.mem a j

/-- A store to local memory keeps the memory's canonical form. -/
theorem State.wr_wf (s : State) (a : Nat) (bs : List Byte) (h : Memory.wf s.mem = true) : Memory.wf (s.wr a bs).mem = true :=
  by rw [State.wr_mem]; exact wrTab_wf bs s.mem a h

/-- A store to host memory keeps its canonical form. -/
theorem State.hwr_wf (s : State) (a : Nat) (bs : List Byte) (h : Memory.wf s.host = true) : Memory.wf (s.hwr a bs).host = true :=
  wrTab_wf bs s.host a h

end Sys2Proof.Machine
end

