-- ==== Sys2Proof/Laws/Keeps.lean ====
section
/-! SUPPORT. Every operation keeps the queue, the canonical form of both memories and the bound of the tokens:
the shared operations, the sequencer and the Pots. -/

namespace Sys2Proof.Machine

set_option linter.unusedSimpArgs false
set_option linter.unusedTactic false
set_option linter.unusedVariables false
set_option linter.unreachableTactic false

/-- Every token counts to at most 65,535 (05, R155). -/
def TokOk (t : Tab Token) : Prop := ∀ k, (tget tokDflt t k).count ≤ 0xFFFF

/-- The queue is l, both memories are in canonical form, and every token is within its count. -/
def KeepsP (l : List Instr) (p : List Instr) (m h : Tab Byte) (t g : Tab Token) : Prop :=
  p = l ∧ Memory.wf m = true ∧ Memory.wf h = true ∧ TokOk t ∧ TokOk g

/-- A state with queue l whose memories are canonical and whose tokens are within their counts. -/
def Keeps (l : List Instr) (s : State) : Prop := KeepsP l s.pending s.mem s.host s.tokens s.globals

/-- Every next state of an outcome keeps it. -/
def KeepsO (l : List Instr) (o : Out) : Prop := ∀ t, o = .next t → Keeps l t
/-- A state that is there keeps it. -/
def KeepsM (l : List Instr) (o : Option State) : Prop := ∀ t, o = some t → Keeps l t
/-- The state of a pair keeps it. -/
def KeepsL {α : Type} (l : List Instr) (p : State × α) : Prop := Keeps l p.1
/-- The state of a pair keeps it. -/
def KeepsR {α : Type} (l : List Instr) (p : α × State) : Prop := Keeps l p.2

theorem keeps_mk (l a0 a1 a2 a3 a4 a5 a6 a7 a8 a9 a10 a11 a12 a13 a14 a15 a16 a17 a18 a19 a20 a21 a22 a23 a24 a25 a26 a27 a28 a29 a30 a31 a32) :
  Keeps l (State.mk a0 a1 a2 a3 a4 a5 a6 a7 a8 a9 a10 a11 a12 a13 a14 a15 a16 a17 a18 a19 a20 a21 a22 a23 a24 a25 a26 a27 a28 a29 a30 a31 a32) =
    KeepsP l a0 a3 a8 a16 a17 := propext ⟨id, id⟩
theorem keeps_fold (l) (s : State) : KeepsP l s.pending s.mem s.host s.tokens s.globals = Keeps l s := propext ⟨id,
    id⟩
theorem keepsO_next (l) (s : State) : KeepsO l (.next s) = Keeps l s :=
  propext ⟨fun h => h s rfl, fun h t e => by cases e; exact h⟩
theorem keepsO_fault (l) (r : Fault) : KeepsO l (.fault r) = True := by simp [KeepsO]
theorem keepsM_some (l) (s : State) : KeepsM l (some s) = Keeps l s :=
  propext ⟨fun h => h s rfl, fun h t e => by cases e; exact h⟩
theorem keepsM_none (l) : KeepsM l none = True := by simp [KeepsM]
theorem keepsL_mk {α : Type} (l) (s : State) (a : α) : KeepsL l (s, a) = Keeps l s := propext ⟨id, id⟩
theorem keepsR_mk {α : Type} (l) (s : State) (a : α) : KeepsR l (a, s) = Keeps l s := propext ⟨id, id⟩
theorem keepsL_fold {α : Type} (l) (p : State × α) : Keeps l p.1 = KeepsL l p := propext ⟨id, id⟩
theorem keepsR_fold {α : Type} (l) (p : α × State) : Keeps l p.2 = KeepsR l p := propext ⟨id, id⟩
theorem keeps_ite (l) (c : Prop) [Decidable c] (a b : State) : Keeps l (if c then a else b) = if c then Keeps l a else Keeps l b := by split <;> rfl
theorem keepsO_ite (l) (c : Prop) [Decidable c] (a b : Out) : KeepsO l (if c then a else b) = if c then KeepsO l a else KeepsO l b := by split <;> rfl
theorem keepsM_ite (l) (c : Prop) [Decidable c] (a b : Option State) : KeepsM l (if c then a else b) = if c then KeepsM l a else KeepsM l b := by split <;> rfl
theorem keepsL_ite {α : Type} (l) (c : Prop) [Decidable c] (a b : State × α) : KeepsL l (if c then a else b) = if c then KeepsL l a else KeepsL l b := by split <;> rfl
theorem keepsR_ite {α : Type} (l) (c : Prop) [Decidable c] (a b : α × State) : KeepsR l (if c then a else b) = if c then KeepsR l a else KeepsR l b := by split <;> rfl
theorem keeps_foldl {α : Type} (l) (f : State → α → State) (xs : List α) (s : State) (h : Keeps l s)
    (hf : ∀ s x, Keeps l s → Keeps l (f s x)) : Keeps l (xs.foldl f s) := by
  induction xs generalizing s with
  | nil => exact h
  | cons x xs ih => exact ih _ (hf _ _ h)
theorem keepsL_foldl {α β : Type} (l) (f : State × β → α → State × β) (xs : List α) (s : State × β) (h : KeepsL l s)
    (hf : ∀ s x, KeepsL l s → KeepsL l (f s x)) : KeepsL l (xs.foldl f s) := by
  induction xs generalizing s with
  | nil => exact h
  | cons x xs ih => exact ih _ (hf _ _ h)
theorem keepsR_foldl {α β : Type} (l) (f : β × State → α → β × State) (xs : List α) (s : β × State) (h : KeepsR l s)
    (hf : ∀ s x, KeepsR l s → KeepsR l (f s x)) : KeepsR l (xs.foldl f s) := by
  induction xs generalizing s with
  | nil => exact h
  | cons x xs ih => exact ih _ (hf _ _ h)

theorem tokOk_tset (t : Tab Token) (k : Nat) (v : Token) (h : TokOk t) (hv : v.count ≤ 0xFFFF) : TokOk (tset tokDflt t k v) := by
  intro j; rw [tget_tset]; split
  · exact hv
  · exact h j

/-! ## The three primitives that write memory or a token -/

theorem keeps_eccCount {l} {s : State} (h : Keeps l s) (a b) : Keeps l (s.eccCount a b) := by
  rw [State.eccCount_eq]; exact h
theorem keeps_wr {l} {s : State} (h : Keeps l s) (a bs) : Keeps l (s.wr a bs) := by
  have h1 := keeps_eccCount h ((partWords a bs.length).filter s.memCorr.contains).length ((partWords a bs.length).filter s.memBad.contains).length
  exact ⟨h1.1, State.wr_wf s a bs h.2.1, h1.2.2⟩
theorem keeps_hwr {l} {s : State} (h : Keeps l s) (a bs) : Keeps l (s.hwr a bs) :=
  ⟨h.1, h.2.1, wrTab_wf _ _ _ h.2.2.1, h.2.2.2⟩
theorem keeps_setTok {l} {s : State} (h : Keeps l s) (b c v) (hv : v.count ≤ 0xFFFF) : Keeps l (s.setTok b c v) := by
  unfold State.setTok; split
  · exact ⟨h.1, h.2.1, h.2.2.1, tokOk_tset _ _ _ h.2.2.2.1 hv, h.2.2.2.2⟩
  · exact ⟨h.1, h.2.1, h.2.2.1, h.2.2.2.1, tokOk_tset _ _ _ h.2.2.2.2 hv⟩
theorem keeps_tok {l} {s : State} (h : Keeps l s) (b c) : (s.tok b c).count ≤ 0xFFFF := by
  unfold State.tok; split
  · exact h.2.2.2.1 _
  · exact h.2.2.2.2 _
theorem add_count (t : Token) (k : Nat) : (t.add k).count ≤ 0xFFFF := by simp [Token.add, sat16, sat]
theorem keepsR_eq {α : Type} {l} {p : α × State} {a : α} {s : State} (hk : KeepsR l p) (e : p = (a,
    s)) : Keeps l s := by subst e; exact hk
theorem keepsL_eq {α : Type} {l} {p : State × α} {a : α} {s : State} (hk : KeepsL l p) (e : p = (s,
    a)) : Keeps l s := by subst e; exact hk
theorem keepsM_eq {l} {p : Option State} {s : State} (hk : KeepsM l p) (e : p = some s) : Keeps l s := hk s e
theorem keeps_dite {l} {c : Prop} [Decidable c] {a b : State} (ha : Keeps l a) (hb : Keeps l b) : Keeps l (if c then a else b) := by split <;> assumption

theorem tokOk_nil : TokOk [] := fun k => by simp [tget, tokDflt]
theorem tokOk_filter (t : Tab Token) (q : Nat → Bool) (h : TokOk t) : TokOk (t.filter (fun e => q e.1)) := by
  intro k
  by_cases hq : q k = true
  · have : tget tokDflt (t.filter (fun e => q e.1)) k = tget tokDflt t k := by
      clear h
      induction t with
      | nil => rfl
      | cons e t ih =>
        by_cases he : q e.1 = true
        · rw [List.filter_cons_of_pos (by exact he)]; simp only [tget, ih]
        · rw [List.filter_cons_of_neg (by exact he)]; simp only [tget]
          split
          · subst_vars; exact absurd hq he
          · exact ih
    rw [this]; exact h k
  · have : tget tokDflt (t.filter (fun e => q e.1)) k = tokDflt k := by
      clear h
      induction t with
      | nil => rfl
      | cons e t ih =>
        by_cases he : q e.1 = true
        · rw [List.filter_cons_of_pos (by exact he)]; simp only [tget]
          split
          · subst_vars; exact absurd he hq
          · exact ih
        · rw [List.filter_cons_of_neg (by exact he)]; exact ih
    rw [this]; simp [tokDflt]
theorem tokOk_foldl {α : Type} (f : Tab Token → α → Tab Token) (xs : List α) (t : Tab Token) (h : TokOk t)
    (hf : ∀ t x, TokOk t → TokOk (f t x)) : TokOk (xs.foldl f t) := by
  induction xs generalizing t with
  | nil => exact h
  | cons x xs ih => exact ih _ (hf _ _ h)

/-! ## Operations (Ops) -/

theorem keeps_guard {l} {s : State} (h : Keeps l s) (x0) : KeepsO l (guard x0 s) := by
  unfold guard
  simp +contextual (maxDischargeDepth := 40) only [h, keepsO_next, keepsO_fault, keepsM_some, keepsM_none,
      keepsL_mk, keepsR_mk, keepsL_fold, keepsR_fold, keeps_ite, keepsO_ite, keepsM_ite, keepsL_ite, keepsR_ite,
      ite_self, implies_true, keeps_foldl, keepsL_foldl, keepsR_foldl]

theorem keeps_setStr {l} {s : State} (h : Keeps l s) (x1 x2) : Keeps l (State.setStr s x1 x2) := h

theorem keeps_setBsk {l} {s : State} (h : Keeps l s) (x1 x2) : Keeps l (State.setBsk s x1 x2) := h

theorem keeps_setPan {l} {s : State} (h : Keeps l s) (x1 x2) : Keeps l (State.setPan s x1 x2) := h

theorem keeps_setPot {l} {s : State} (h : Keeps l s) (x1 x2 x3) : Keeps l (State.setPot s x1 x2 x3) := h

theorem keeps_setScale {l} {s : State} (h : Keeps l s) (x1 x2 x3) : Keeps l (State.setScale s x1 x2 x3) := h

theorem keeps_setSlot {l} {s : State} (h : Keeps l s) (x1 x2) : Keeps l (State.setSlot s x1 x2) := h

theorem keeps_setEng {l} {s : State} (h : Keeps l s) (x1 x2) : Keeps l (State.setEng s x1 x2) := h

theorem keeps_setCoil {l} {s : State} (h : Keeps l s) (x1 x2) : Keeps l (State.setCoil s x1 x2) := h

theorem keeps_setPort {l} {s : State} (h : Keeps l s) (x1 x2) : Keeps l (State.setPort s x1 x2) := h

theorem keeps_setQue {l} {s : State} (h : Keeps l s) (x1 x2) : Keeps l (State.setQue s x1 x2) := h

theorem keeps_setInp {l} {s : State} (h : Keeps l s) (x1 x2) : Keeps l (State.setInp s x1 x2) := h

theorem keeps_at {l} {s : State} (h : Keeps l s) (x1) : Keeps l (State.at s x1) := h

theorem keeps_settleBsk {l} {s : State} (h : Keeps l s) (x1) : Keeps l (State.settleBsk s x1) := by
  unfold State.settleBsk
  simp +contextual (maxDischargeDepth := 40) only [h, keepsO_next, keepsO_fault, keepsM_some, keepsM_none,
      keepsL_mk, keepsR_mk, keepsL_fold, keepsR_fold, keeps_ite, keepsO_ite, keepsM_ite, keepsL_ite, keepsR_ite,
      ite_self, implies_true, keeps_foldl, keepsL_foldl, keepsR_foldl, keeps_setBsk]

theorem keeps_wrN {l} {s : State} (h : Keeps l s) (x1 x2 x3) : Keeps l (State.wrN s x1 x2 x3) := by
  unfold State.wrN
  simp +contextual (maxDischargeDepth := 40) only [h, keepsO_next, keepsO_fault, keepsM_some, keepsM_none,
      keepsL_mk, keepsR_mk, keepsL_fold, keepsR_fold, keeps_ite, keepsO_ite, keepsM_ite, keepsL_ite, keepsR_ite,
      ite_self, implies_true, keeps_foldl, keepsL_foldl, keepsR_foldl, keeps_wr]

theorem keeps_scrub {l} {s : State} (h : Keeps l s) (x1 x2) : Keeps l (State.scrub s x1 x2) := by
  unfold State.scrub
  simp +contextual (maxDischargeDepth := 40) only [h, keeps_mk, keeps_fold, keepsO_next, keepsO_fault, keepsM_some,
      keepsM_none, keepsL_mk, keepsR_mk, keepsL_fold, keepsR_fold, keeps_ite, keepsO_ite, keepsM_ite, keepsL_ite,
      keepsR_ite, ite_self, implies_true, keeps_foldl, keepsL_foldl, keepsR_foldl, keeps_eccCount]

theorem keeps_raise {l} {s : State} (h : Keeps l s) (x1 x2 x3 x4 x5) : Keeps l (State.raise s x1 x2 x3 x4 x5) := h

theorem keeps_raiseS {l} {s : State} (h : Keeps l s) (x1 x2 x3 x4 x5 x6 x7 x8) : Keeps l (State.raiseS s x1 x2 x3
    x4 x5 x6 x7 x8) := h

theorem keeps_msi {l} {s : State} (h : Keeps l s) (x1 x2) : Keeps l (State.msi s x1 x2) := h

theorem keeps_fresh {l} {s : State} (h : Keeps l s) : Keeps l (State.fresh s) := h

theorem keeps_notice {l} {s : State} (h : Keeps l s) (x1 x2 x3) : Keeps l (State.notice s x1 x2 x3) := by
  unfold State.notice
  simp +contextual (maxDischargeDepth := 40) only [h, keeps_mk, keeps_fold, keepsO_next, keepsO_fault, keepsM_some,
      keepsM_none, keepsL_mk, keepsR_mk, keepsL_fold, keepsR_fold, keeps_ite, keepsO_ite, keepsM_ite, keepsL_ite,
      keepsR_ite, ite_self, implies_true, keeps_foldl, keepsL_foldl, keepsR_foldl, keeps_msi]

theorem keeps_bbrPut {l} {s : State} (h : Keeps l s) (x1) : Keeps l (State.bbrPut s x1) := h

theorem keeps_send {l} {s : State} (h : Keeps l s) (x1) : Keeps l (State.send s x1) := h

theorem keeps_tirqMsi {l} {s : State} (h : Keeps l s) (x1) : Keeps l (State.tirqMsi s x1) := by
  unfold State.tirqMsi
  simp +contextual (maxDischargeDepth := 40) only [h, keepsO_next, keepsO_fault, keepsM_some, keepsM_none,
      keepsL_mk, keepsR_mk, keepsL_fold, keepsR_fold, keeps_ite, keepsO_ite, keepsM_ite, keepsL_ite, keepsR_ite,
      ite_self, implies_true, keeps_foldl, keepsL_foldl, keepsR_foldl, keeps_msi]

theorem keeps_tokIrq {l} {s : State} (h : Keeps l s) (x1) : Keeps l (State.tokIrq s x1) := by
  unfold State.tokIrq
  simp +contextual (maxDischargeDepth := 40) only [h, keeps_mk, keeps_fold, keepsO_next, keepsO_fault, keepsM_some,
      keepsM_none, keepsL_mk, keepsR_mk, keepsL_fold, keepsR_fold, keeps_ite, keepsO_ite, keepsM_ite, keepsL_ite,
      keepsR_ite, ite_self, implies_true, keeps_foldl, keepsL_foldl, keepsR_foldl, keeps_tirqMsi]

theorem keeps_sigK {l} {s : State} (h : Keeps l s) (x1 x2 x3) : Keeps l (State.sigK s x1 x2 x3) := by
  unfold State.sigK
  simp only []
  split
  · exact h
  · split
    · split
      · exact keeps_tokIrq (keeps_setTok h _ _ _ (add_count _ _)) _
      · exact keeps_setTok h _ _ _ (add_count _ _)
    · exact h

theorem keeps_sig {l} {s : State} (h : Keeps l s) (x1 x2) : Keeps l (State.sig s x1 x2) := by
  unfold State.sig
  simp +contextual (maxDischargeDepth := 40) only [h, keepsO_next, keepsO_fault, keepsM_some, keepsM_none,
      keepsL_mk, keepsR_mk, keepsL_fold, keepsR_fold, keeps_ite, keepsO_ite, keepsM_ite, keepsL_ite, keepsR_ite,
      ite_self, implies_true, keeps_foldl, keepsL_foldl, keepsR_foldl, keeps_sigK]

theorem keeps_takeTok {l} {s : State} (h : Keeps l s) (x1 x2) : Keeps l (State.takeTok s x1 x2) := by
  unfold State.takeTok
  simp only []
  split
  · exact h
  · refine keeps_setTok h _ _ _ ?_
    have := keeps_tok h x1 x2
    simp only []; omega

theorem keeps_wrDesc {l} {s : State} (h : Keeps l s) (x1 x2) : Keeps l (State.wrDesc s x1 x2) := by
  unfold State.wrDesc
  simp +contextual (maxDischargeDepth := 40) only [h, keepsO_next, keepsO_fault, keepsM_some, keepsM_none,
      keepsL_mk, keepsR_mk, keepsL_fold, keepsR_fold, keeps_ite, keepsO_ite, keepsM_ite, keepsL_ite, keepsR_ite,
      ite_self, implies_true, keeps_foldl, keepsL_foldl, keepsR_foldl, keeps_wrN]

theorem keeps_wrCtx {l} {s : State} (h : Keeps l s) (x1) : Keeps l (State.wrCtx s x1) := by
  unfold State.wrCtx
  simp +contextual (maxDischargeDepth := 40) only [h, keepsO_next, keepsO_fault, keepsM_some, keepsM_none,
      keepsL_mk, keepsR_mk, keepsL_fold, keepsR_fold, keeps_ite, keepsO_ite, keepsM_ite, keepsL_ite, keepsR_ite,
      ite_self, implies_true, keeps_foldl, keepsL_foldl, keepsR_foldl, keeps_wr]

theorem keeps_putStr {l} {s : State} (h : Keeps l s) (x1 x2) : Keeps l (State.putStr s x1 x2) := by
  unfold State.putStr
  simp +contextual (maxDischargeDepth := 40) only [h, keepsO_next, keepsO_fault, keepsM_some, keepsM_none,
      keepsL_mk, keepsR_mk, keepsL_fold, keepsR_fold, keeps_ite, keepsO_ite, keepsM_ite, keepsL_ite, keepsR_ite,
      ite_self, implies_true, keeps_foldl, keepsL_foldl, keepsR_foldl, keeps_wrDesc, keeps_setStr]

theorem keeps_freePots {l} {s : State} (h : Keeps l s) (x1 x2 x3) : Keeps l (State.freePots s x1 x2 x3) := by
  unfold State.freePots
  simp +contextual (maxDischargeDepth := 40) only [h, keepsO_next, keepsO_fault, keepsM_some, keepsM_none,
      keepsL_mk, keepsR_mk, keepsL_fold, keepsR_fold, keeps_ite, keepsO_ite, keepsM_ite, keepsL_ite, keepsR_ite,
      ite_self, implies_true, keeps_foldl, keepsL_foldl, keepsR_foldl, keeps_setPot]

theorem keeps_dropStream {l} {s : State} (h : Keeps l s) (x1) : Keeps l (State.dropStream s x1) := by
  unfold State.dropStream
  simp +contextual (maxDischargeDepth := 40) only [h, keeps_mk, keeps_fold, keepsO_next, keepsO_fault, keepsM_some,
      keepsM_none, keepsL_mk, keepsR_mk, keepsL_fold, keepsR_fold, keeps_ite, keepsO_ite, keepsM_ite, keepsL_ite,
      keepsR_ite, ite_self, implies_true, keeps_foldl, keepsL_foldl, keepsR_foldl, keeps_setBsk, keeps_setPan,
      keeps_freePots]

theorem keeps_qDone {l} {s : State} (h : Keeps l s) (x1 x2 x3 x4 x5) : Keeps l (State.qDone s x1 x2 x3 x4 x5) := by
  unfold State.qDone
  simp +contextual (maxDischargeDepth := 40) only [h, keepsO_next, keepsO_fault, keepsM_some, keepsM_none,
      keepsL_mk, keepsR_mk, keepsL_fold, keepsR_fold, keeps_ite, keepsO_ite, keepsM_ite, keepsL_ite, keepsR_ite,
      ite_self, implies_true, keeps_foldl, keepsL_foldl, keepsR_foldl, keeps_setQue]

theorem keeps_migReport {l} {s : State} (h : Keeps l s) (x1 x2) : Keeps l (State.migReport s x1 x2) := by
  unfold State.migReport
  try simp +contextual (maxDischargeDepth := 40) only [h, keeps_mk, keeps_fold, keepsO_next, keepsO_fault,
      keepsM_some, keepsM_none, keepsL_mk, keepsR_mk, keepsL_fold, keepsR_fold, keeps_ite, keepsO_ite, keepsM_ite,
      keepsL_ite, keepsR_ite, ite_self, implies_true, keeps_foldl, keepsL_foldl, keepsR_foldl, keeps_setStr,
      keeps_qDone]
  all_goals repeat' (split <;> (try simp +contextual (maxDischargeDepth := 40) only [h, keeps_mk, keeps_fold,
      keepsO_next, keepsO_fault, keepsM_some, keepsM_none, keepsL_mk, keepsR_mk, keepsL_fold, keepsR_fold,
      keeps_ite, keepsO_ite, keepsM_ite, keepsL_ite, keepsR_ite, ite_self, implies_true, keeps_foldl, keepsL_foldl,
      keepsR_foldl, keeps_setStr, keeps_qDone]))

theorem keeps_abortStr {l} {s : State} (h : Keeps l s) (x1 x2) : Keeps l (State.abortStr s x1 x2) := by
  unfold State.abortStr
  simp +contextual (maxDischargeDepth := 40) only [h, keepsO_next, keepsO_fault, keepsM_some, keepsM_none,
      keepsL_mk, keepsR_mk, keepsL_fold, keepsR_fold, keeps_ite, keepsO_ite, keepsM_ite, keepsL_ite, keepsR_ite,
      ite_self, implies_true, keeps_foldl, keepsL_foldl, keepsR_foldl, keeps_dropStream, keeps_migReport,
      keeps_putStr, keeps_wrCtx, keeps_settleBsk]

theorem keeps_migFail {l} {s : State} (h : Keeps l s) (x1 x2) : Keeps l (State.migFail s x1 x2) := by
  unfold State.migFail
  simp +contextual (maxDischargeDepth := 40) only [h, keepsO_next, keepsO_fault, keepsM_some, keepsM_none,
      keepsL_mk, keepsR_mk, keepsL_fold, keepsR_fold, keeps_ite, keepsO_ite, keepsM_ite, keepsL_ite, keepsR_ite,
      ite_self, implies_true, keeps_foldl, keepsL_foldl, keepsR_foldl, keeps_migReport, keeps_putStr]

theorem keeps_evict {l} {s : State} (h : Keeps l s) (x1) : Keeps l (State.evict s x1) := by
  unfold State.evict
  simp +contextual (maxDischargeDepth := 40) only [h, keepsO_next, keepsO_fault, keepsM_some, keepsM_none,
      keepsL_mk, keepsR_mk, keepsL_fold, keepsR_fold, keeps_ite, keepsO_ite, keepsM_ite, keepsL_ite, keepsR_ite,
      ite_self, implies_true, keeps_foldl, keepsL_foldl, keepsR_foldl, keeps_migFail, keeps_abortStr]

theorem keeps_raiseX {l} {s : State} (h : Keeps l s) (x1 x2 x3 x4 x5 x6 x7) : Keeps l (State.raiseX s x1 x2 x3 x4
    x5 x6 x7) := by
  unfold State.raiseX
  simp +contextual (maxDischargeDepth := 40) only [h, keepsO_next, keepsO_fault, keepsM_some, keepsM_none,
      keepsL_mk, keepsR_mk, keepsL_fold, keepsR_fold, keeps_ite, keepsO_ite, keepsM_ite, keepsL_ite, keepsR_ite,
      ite_self, implies_true, keeps_foldl, keepsL_foldl, keepsR_foldl, keeps_abortStr, keeps_raiseS]

theorem keeps_hostX {l} {s : State} (h : Keeps l s) (x1 x2 x3 x4) : Keeps l (State.hostX s x1 x2 x3 x4) := by
  unfold State.hostX
  simp +contextual (maxDischargeDepth := 40) only [h, keepsO_next, keepsO_fault, keepsM_some, keepsM_none,
      keepsL_mk, keepsR_mk, keepsL_fold, keepsR_fold, keeps_ite, keepsO_ite, keepsM_ite, keepsL_ite, keepsR_ite,
      ite_self, implies_true, keeps_foldl, keepsL_foldl, keepsR_foldl, keeps_raiseX]

theorem keeps_memX {l} {s : State} (h : Keeps l s) (x1 x2 x3 x4) : Keeps l (State.memX s x1 x2 x3 x4) := by
  unfold State.memX
  simp +contextual (maxDischargeDepth := 40) only [h, keepsO_next, keepsO_fault, keepsM_some, keepsM_none,
      keepsL_mk, keepsR_mk, keepsL_fold, keepsR_fold, keeps_ite, keepsO_ite, keepsM_ite, keepsL_ite, keepsR_ite,
      ite_self, implies_true, keeps_foldl, keepsL_foldl, keepsR_foldl, keeps_raiseX]

/-! ## Operands -/

theorem keeps_scrubRegions {l} {s : State} (h : Keeps l s) (x1 x2) : Keeps l (State.scrubRegions s x1 x2) := by
  unfold State.scrubRegions
  simp +contextual (maxDischargeDepth := 40) only [h, keepsO_next, keepsO_fault, keepsM_some, keepsM_none,
      keepsL_mk, keepsR_mk, keepsL_fold, keepsR_fold, keeps_ite, keepsO_ite, keepsM_ite, keepsL_ite, keepsR_ite,
      ite_self, implies_true, keeps_foldl, keepsL_foldl, keepsR_foldl, keeps_scrub]

/-! ## Flags -/

theorem keeps_putRec {l} {s : State} (h : Keeps l s) (x1 x2) : Keeps l (State.putRec s x1 x2) := by
  unfold State.putRec
  simp +contextual (maxDischargeDepth := 40) only [h, keepsO_next, keepsO_fault, keepsM_some, keepsM_none,
      keepsL_mk, keepsR_mk, keepsL_fold, keepsR_fold, keeps_ite, keepsO_ite, keepsM_ite, keepsL_ite, keepsR_ite,
      ite_self, implies_true, keeps_foldl, keepsL_foldl, keepsR_foldl, keeps_wr, keeps_wrN, keeps_setStr]

theorem keeps_endStr {l} {s : State} (h : Keeps l s) (x1) : Keeps l (State.endStr s x1) := by
  unfold State.endStr
  simp +contextual (maxDischargeDepth := 40) only [h, keepsO_next, keepsO_fault, keepsM_some, keepsM_none,
      keepsL_mk, keepsR_mk, keepsL_fold, keepsR_fold, keeps_ite, keepsO_ite, keepsM_ite, keepsL_ite, keepsR_ite,
      ite_self, implies_true, keeps_foldl, keepsL_foldl, keepsR_foldl, keeps_settleBsk, keeps_wrCtx, keeps_putStr]

theorem keeps_finish {l} {s : State} (h : Keeps l s) (x1) : Keeps l (State.finish s x1) := by
  unfold State.finish
  simp +contextual (maxDischargeDepth := 40) only [h, keepsO_next, keepsO_fault, keepsM_some, keepsM_none,
      keepsL_mk, keepsR_mk, keepsL_fold, keepsR_fold, keeps_ite, keepsO_ite, keepsM_ite, keepsL_ite, keepsR_ite,
      ite_self, implies_true, keeps_foldl, keepsL_foldl, keepsR_foldl, keeps_setStr, keeps_raiseS, keeps_putRec,
      keeps_setBsk, keeps_sig, keeps_endStr]

theorem keeps_tryEnd {l} {s : State} (h : Keeps l s) (x1) : Keeps l (State.tryEnd s x1) := by
  unfold State.tryEnd
  simp +contextual (maxDischargeDepth := 40) only [h, keepsO_next, keepsO_fault, keepsM_some, keepsM_none,
      keepsL_mk, keepsR_mk, keepsL_fold, keepsR_fold, keeps_ite, keepsO_ite, keepsM_ite, keepsL_ite, keepsR_ite,
      ite_self, implies_true, keeps_foldl, keepsL_foldl, keepsR_foldl, keeps_setBsk, keeps_finish]

theorem keeps_modRec {l} {s : State} (h : Keeps l s) (x1 x2 x3) : Keeps l (State.modRec s x1 x2 x3) := by
  unfold State.modRec
  simp +contextual (maxDischargeDepth := 40) only [h, keepsO_next, keepsO_fault, keepsM_some, keepsM_none,
      keepsL_mk, keepsR_mk, keepsL_fold, keepsR_fold, keeps_ite, keepsO_ite, keepsM_ite, keepsL_ite, keepsR_ite,
      ite_self, implies_true, keeps_foldl, keepsL_foldl, keepsR_foldl, keeps_setBsk]

theorem keeps_tryFinish {l} {s : State} (h : Keeps l s) (x1) : Keeps l (State.tryFinish s x1) := by
  unfold State.tryFinish
  try simp +contextual (maxDischargeDepth := 40) only [h, keepsO_next, keepsO_fault, keepsM_some, keepsM_none,
      keepsL_mk, keepsR_mk, keepsL_fold, keepsR_fold, keeps_ite, keepsO_ite, keepsM_ite, keepsL_ite, keepsR_ite,
      ite_self, implies_true, keeps_foldl, keepsL_foldl, keepsR_foldl, keeps_tryEnd, keeps_modRec]
  all_goals repeat' (split <;> (try simp +contextual (maxDischargeDepth := 40) only [h, keepsO_next, keepsO_fault,
      keepsM_some, keepsM_none, keepsL_mk, keepsR_mk, keepsL_fold, keepsR_fold, keeps_ite, keepsO_ite, keepsM_ite,
      keepsL_ite, keepsR_ite, ite_self, implies_true, keeps_foldl, keepsL_foldl, keepsR_foldl, keeps_tryEnd,
      keeps_modRec]))

theorem keeps_goTo {l} {s : State} (h : Keeps l s) (x1 x2) : Keeps l (State.goTo s x1 x2) := by
  unfold State.goTo
  simp +contextual (maxDischargeDepth := 40) only [h, keepsO_next, keepsO_fault, keepsM_some, keepsM_none,
      keepsL_mk, keepsR_mk, keepsL_fold, keepsR_fold, keeps_ite, keepsO_ite, keepsM_ite, keepsL_ite, keepsR_ite,
      ite_self, implies_true, keeps_foldl, keepsL_foldl, keepsR_foldl, keeps_setStr]

theorem keeps_enter {l} {s : State} (h : Keeps l s) (x1) : Keeps l (State.enter s x1) := by
  unfold State.enter
  simp +contextual (maxDischargeDepth := 40) only [h, keeps_mk, keeps_fold, keepsO_next, keepsO_fault, keepsM_some,
      keepsM_none, keepsL_mk, keepsR_mk, keepsL_fold, keepsR_fold, keeps_ite, keepsO_ite, keepsM_ite, keepsL_ite,
      keepsR_ite, ite_self, implies_true, keeps_foldl, keepsL_foldl, keepsR_foldl, keeps_setBsk]

theorem keeps_over {l} {s : State} (h : Keeps l s) (x1) : Keeps l (State.over s x1) := by
  unfold State.over
  simp +contextual (maxDischargeDepth := 40) only [h, keepsO_next, keepsO_fault, keepsM_some, keepsM_none,
      keepsL_mk, keepsR_mk, keepsL_fold, keepsR_fold, keeps_ite, keepsO_ite, keepsM_ite, keepsL_ite, keepsR_ite,
      ite_self, implies_true, keeps_foldl, keepsL_foldl, keepsR_foldl, keeps_tryFinish, keeps_enter]

/-! ## Fabric units -/

theorem keeps_routeTie {l} {s : State} (h : Keeps l s) (x1 x2 x3) : Keeps l (State.routeTie s x1 x2 x3) := by
  unfold State.routeTie
  simp +contextual (maxDischargeDepth := 40) only [h, keeps_mk, keeps_fold, keepsO_next, keepsO_fault, keepsM_some,
      keepsM_none, keepsL_mk, keepsR_mk, keepsL_fold, keepsR_fold, keeps_ite, keepsO_ite, keepsM_ite, keepsL_ite,
      keepsR_ite, ite_self, implies_true, keeps_foldl, keepsL_foldl, keepsR_foldl, keeps_raise]

theorem keeps_lookup {l} {s : State} (h : Keeps l s) (x1 x2) : KeepsR l (State.lookup s x1 x2) := by
  unfold State.lookup
  all_goals repeat' (split <;> (try simp +contextual (maxDischargeDepth := 40) only [h, keeps_mk, keeps_fold,
      keepsO_next, keepsO_fault, keepsM_some, keepsM_none, keepsL_mk, keepsR_mk, keepsL_fold, keepsR_fold,
      keeps_ite, keepsO_ite, keepsM_ite, keepsL_ite, keepsR_ite, ite_self, implies_true, keeps_foldl, keepsL_foldl,
      keepsR_foldl, keeps_routeTie]))

theorem keeps_egress {l} {s : State} (h : Keeps l s) (x1 x2 x3) : KeepsR l (State.egress s x1 x2 x3) := by
  have hk := h
  unfold State.egress
  try simp +contextual (maxDischargeDepth := 40) only [h, keepsO_next, keepsO_fault, keepsM_some, keepsM_none,
      keepsL_mk, keepsR_mk, keepsL_fold, keepsR_fold, keeps_ite, keepsO_ite, keepsM_ite, keepsL_ite, keepsR_ite,
      ite_self, implies_true, keeps_foldl, keepsL_foldl, keepsR_foldl, keeps_lookup]
  all_goals repeat' (split <;> (try (rename_i heq; first | have hk := keepsR_eq (l := l) (by simp +contextual (maxDischargeDepth := 40) only [hk, h, keepsO_next, keepsO_fault, keepsM_some, keepsM_none, keepsL_mk, keepsR_mk, keepsL_fold, keepsR_fold, keeps_ite, keepsO_ite, keepsM_ite, keepsL_ite, keepsR_ite, ite_self, implies_true, keeps_foldl, keepsL_foldl, keepsR_foldl, keeps_lookup]) heq | have hk := keepsL_eq (l := l) (by simp +contextual (maxDischargeDepth := 40) only [hk, h, keepsO_next, keepsO_fault, keepsM_some, keepsM_none, keepsL_mk, keepsR_mk, keepsL_fold, keepsR_fold, keeps_ite, keepsO_ite, keepsM_ite, keepsL_ite, keepsR_ite, ite_self, implies_true, keeps_foldl, keepsL_foldl, keepsR_foldl, keeps_lookup]) heq | have hk := keepsM_eq (l := l) (by simp +contextual (maxDischargeDepth := 40) only [hk, h, keepsO_next, keepsO_fault, keepsM_some, keepsM_none, keepsL_mk, keepsR_mk, keepsL_fold, keepsR_fold, keeps_ite, keepsO_ite, keepsM_ite, keepsL_ite, keepsR_ite, ite_self, implies_true, keeps_foldl, keepsL_foldl, keepsR_foldl, keeps_lookup]) heq)) <;> (try simp +contextual (maxDischargeDepth := 40) only [hk, h, keepsO_next, keepsO_fault, keepsM_some, keepsM_none, keepsL_mk, keepsR_mk, keepsL_fold, keepsR_fold, keeps_ite, keepsO_ite, keepsM_ite, keepsL_ite, keepsR_ite, ite_self, implies_true, keeps_foldl, keepsL_foldl, keepsR_foldl, keeps_lookup]))

theorem keeps_putPort {l} {s : State} (h : Keeps l s) (x1 x2) : Keeps l (State.putPort s x1 x2) := h

theorem keeps_sendReply {l} {s : State} (h : Keeps l s) (x1 x2) : Keeps l (State.sendReply s x1 x2) := by
  have hk := h
  unfold State.sendReply
  try simp +contextual (maxDischargeDepth := 40) only [h, keepsO_next, keepsO_fault, keepsM_some, keepsM_none,
      keepsL_mk, keepsR_mk, keepsL_fold, keepsR_fold, keeps_ite, keepsO_ite, keepsM_ite, keepsL_ite, keepsR_ite,
      ite_self, implies_true, keeps_foldl, keepsL_foldl, keepsR_foldl, keeps_egress, keeps_putPort]
  all_goals repeat' (split <;> (try (rename_i heq; first | have hk := keepsR_eq (l := l) (by simp +contextual (maxDischargeDepth := 40) only [hk, h, keepsO_next, keepsO_fault, keepsM_some, keepsM_none, keepsL_mk, keepsR_mk, keepsL_fold, keepsR_fold, keeps_ite, keepsO_ite, keepsM_ite, keepsL_ite, keepsR_ite, ite_self, implies_true, keeps_foldl, keepsL_foldl, keepsR_foldl, keeps_egress, keeps_putPort]) heq | have hk := keepsL_eq (l := l) (by simp +contextual (maxDischargeDepth := 40) only [hk, h, keepsO_next, keepsO_fault, keepsM_some, keepsM_none, keepsL_mk, keepsR_mk, keepsL_fold, keepsR_fold, keeps_ite, keepsO_ite, keepsM_ite, keepsL_ite, keepsR_ite, ite_self, implies_true, keeps_foldl, keepsL_foldl, keepsR_foldl, keeps_egress, keeps_putPort]) heq | have hk := keepsM_eq (l := l) (by simp +contextual (maxDischargeDepth := 40) only [hk, h, keepsO_next, keepsO_fault, keepsM_some, keepsM_none, keepsL_mk, keepsR_mk, keepsL_fold, keepsR_fold, keeps_ite, keepsO_ite, keepsM_ite, keepsL_ite, keepsR_ite, ite_self, implies_true, keeps_foldl, keepsL_foldl, keepsR_foldl, keeps_egress, keeps_putPort]) heq)) <;> (try simp +contextual (maxDischargeDepth := 40) only [hk, h, keepsO_next, keepsO_fault, keepsM_some, keepsM_none, keepsL_mk, keepsR_mk, keepsL_fold, keepsR_fold, keeps_ite, keepsO_ite, keepsM_ite, keepsL_ite, keepsR_ite, ite_self, implies_true, keeps_foldl, keepsL_foldl, keepsR_foldl, keeps_egress, keeps_putPort]))

theorem keeps_noRoute {l} {s : State} (h : Keeps l s) (x1) : Keeps l (State.noRoute s x1) := by
  unfold State.noRoute
  simp +contextual (maxDischargeDepth := 40) only [h, keeps_mk, keeps_fold, keepsO_next, keepsO_fault, keepsM_some,
      keepsM_none, keepsL_mk, keepsR_mk, keepsL_fold, keepsR_fold, keeps_ite, keepsO_ite, keepsM_ite, keepsL_ite,
      keepsR_ite, ite_self, implies_true, keeps_foldl, keepsL_foldl, keepsR_foldl, keeps_sendReply]

theorem keeps_rerouted {l} {s : State} (h : Keeps l s) (x1) : Keeps l (State.rerouted s x1) := by
  have hk := h
  unfold State.rerouted
  try simp +contextual (maxDischargeDepth := 40) only [h, keepsO_next, keepsO_fault, keepsM_some, keepsM_none,
      keepsL_mk, keepsR_mk, keepsL_fold, keepsR_fold, keeps_ite, keepsO_ite, keepsM_ite, keepsL_ite, keepsR_ite,
      ite_self, implies_true, keeps_foldl, keepsL_foldl, keepsR_foldl, keeps_egress, keeps_putPort, keeps_noRoute]
  all_goals repeat' (split <;> (try (rename_i heq; first | have hk := keepsR_eq (l := l) (by simp +contextual (maxDischargeDepth := 40) only [hk, h, keepsO_next, keepsO_fault, keepsM_some, keepsM_none, keepsL_mk, keepsR_mk, keepsL_fold, keepsR_fold, keeps_ite, keepsO_ite, keepsM_ite, keepsL_ite, keepsR_ite, ite_self, implies_true, keeps_foldl, keepsL_foldl, keepsR_foldl, keeps_egress, keeps_putPort, keeps_noRoute]) heq | have hk := keepsL_eq (l := l) (by simp +contextual (maxDischargeDepth := 40) only [hk, h, keepsO_next, keepsO_fault, keepsM_some, keepsM_none, keepsL_mk, keepsR_mk, keepsL_fold, keepsR_fold, keeps_ite, keepsO_ite, keepsM_ite, keepsL_ite, keepsR_ite, ite_self, implies_true, keeps_foldl, keepsL_foldl, keepsR_foldl, keeps_egress, keeps_putPort, keeps_noRoute]) heq | have hk := keepsM_eq (l := l) (by simp +contextual (maxDischargeDepth := 40) only [hk, h, keepsO_next, keepsO_fault, keepsM_some, keepsM_none, keepsL_mk, keepsR_mk, keepsL_fold, keepsR_fold, keeps_ite, keepsO_ite, keepsM_ite, keepsL_ite, keepsR_ite, ite_self, implies_true, keeps_foldl, keepsL_foldl, keepsR_foldl, keeps_egress, keeps_putPort, keeps_noRoute]) heq)) <;> (try simp +contextual (maxDischargeDepth := 40) only [hk, h, keepsO_next, keepsO_fault, keepsM_some, keepsM_none, keepsL_mk, keepsR_mk, keepsL_fold, keepsR_fold, keeps_ite, keepsO_ite, keepsM_ite, keepsL_ite, keepsR_ite, ite_self, implies_true, keeps_foldl, keepsL_foldl, keepsR_foldl, keeps_egress, keeps_putPort, keeps_noRoute]))

theorem keeps_reroute {l} {s : State} (h : Keeps l s) (x1) : Keeps l (State.reroute s x1) := by
  unfold State.reroute
  simp +contextual (maxDischargeDepth := 40) only [h, keeps_mk, keeps_fold, keepsO_next, keepsO_fault, keepsM_some,
      keepsM_none, keepsL_mk, keepsR_mk, keepsL_fold, keepsR_fold, keeps_ite, keepsO_ite, keepsM_ite, keepsL_ite,
      keepsR_ite, ite_self, implies_true, keeps_foldl, keepsL_foldl, keepsR_foldl, keeps_rerouted]

theorem keeps_transmit {l} {s : State} (h : Keeps l s) (x1) : Keeps l (State.transmit s x1) := by
  have hk := h
  unfold State.transmit
  try simp +contextual (maxDischargeDepth := 40) only [h, keeps_mk, keeps_fold, keepsO_next, keepsO_fault,
      keepsM_some, keepsM_none, keepsL_mk, keepsR_mk, keepsL_fold, keepsR_fold, keeps_ite, keepsO_ite, keepsM_ite,
      keepsL_ite, keepsR_ite, ite_self, implies_true, keeps_foldl, keepsL_foldl, keepsR_foldl, keeps_egress,
      keeps_putPort]
  all_goals repeat' (split <;> (try (rename_i heq; first | have hk := keepsR_eq (l := l) (by simp +contextual (maxDischargeDepth := 40) only [hk, h, keeps_mk, keeps_fold, keepsO_next, keepsO_fault, keepsM_some, keepsM_none, keepsL_mk, keepsR_mk, keepsL_fold, keepsR_fold, keeps_ite, keepsO_ite, keepsM_ite, keepsL_ite, keepsR_ite, ite_self, implies_true, keeps_foldl, keepsL_foldl, keepsR_foldl, keeps_egress, keeps_putPort]) heq | have hk := keepsL_eq (l := l) (by simp +contextual (maxDischargeDepth := 40) only [hk, h, keeps_mk, keeps_fold, keepsO_next, keepsO_fault, keepsM_some, keepsM_none, keepsL_mk, keepsR_mk, keepsL_fold, keepsR_fold, keeps_ite, keepsO_ite, keepsM_ite, keepsL_ite, keepsR_ite, ite_self, implies_true, keeps_foldl, keepsL_foldl, keepsR_foldl, keeps_egress, keeps_putPort]) heq | have hk := keepsM_eq (l := l) (by simp +contextual (maxDischargeDepth := 40) only [hk, h, keeps_mk, keeps_fold, keepsO_next, keepsO_fault, keepsM_some, keepsM_none, keepsL_mk, keepsR_mk, keepsL_fold, keepsR_fold, keeps_ite, keepsO_ite, keepsM_ite, keepsL_ite, keepsR_ite, ite_self, implies_true, keeps_foldl, keepsL_foldl, keepsR_foldl, keeps_egress, keeps_putPort]) heq)) <;> (try simp +contextual (maxDischargeDepth := 40) only [hk, h, keeps_mk, keeps_fold, keepsO_next, keepsO_fault, keepsM_some, keepsM_none, keepsL_mk, keepsR_mk, keepsL_fold, keepsR_fold, keeps_ite, keepsO_ite, keepsM_ite, keepsL_ite, keepsR_ite, ite_self, implies_true, keeps_foldl, keepsL_foldl, keepsR_foldl, keeps_egress, keeps_putPort]))

theorem keeps_ageUnit {l} {s : State} (h : Keeps l s) (x1) : Keeps l (State.ageUnit s x1) := h

theorem keeps_issueUnit {l} {s : State} (h : Keeps l s) (x1) : Keeps l (State.issueUnit s x1) := by
  unfold State.issueUnit
  simp +contextual (maxDischargeDepth := 40) only [h, keeps_mk, keeps_fold, keepsO_next, keepsO_fault, keepsM_some,
      keepsM_none, keepsL_mk, keepsR_mk, keepsL_fold, keepsR_fold, keeps_ite, keepsO_ite, keepsM_ite, keepsL_ite,
      keepsR_ite, ite_self, implies_true, keeps_foldl, keepsL_foldl, keepsR_foldl, keeps_transmit]

theorem keeps_pumpUnits {l} : ∀ (n : Nat) {s : State}, Keeps l s → Keeps l (pumpUnits n s)
  | 0, _, h => h
  | n + 1, s, h => by
    unfold pumpUnits
    split
    · exact h
    · split
      · exact h
      · have h1 : Keeps l { s with dzf := { s.dzf with backlog := ‹List FUnit› } } := h
        exact keeps_pumpUnits n (keeps_dite (keeps_ageUnit h1 _) (keeps_issueUnit h1 _))

theorem keeps_sendUnits {l} {s : State} (h : Keeps l s) (x1) : Keeps l (State.sendUnits s x1) := by
  unfold State.sendUnits
  simp +contextual (maxDischargeDepth := 40) only [h, keeps_mk, keeps_fold, keepsO_next, keepsO_fault, keepsM_some,
      keepsM_none, keepsL_mk, keepsR_mk, keepsL_fold, keepsR_fold, keeps_ite, keepsO_ite, keepsM_ite, keepsL_ite,
      keepsR_ite, ite_self, implies_true, keeps_foldl, keepsL_foldl, keepsR_foldl, keeps_pumpUnits]

theorem keeps_takeTags {l} {s : State} (h : Keeps l s) (x1) : KeepsR l (State.takeTags s x1) := h

/-! ## The Whisk -/

theorem keeps_quantise {l} {s : State} (h : Keeps l s) (x1 x2 x3 x4 x5 x6) : KeepsL l (State.quantise s x1 x2 x3 x4
    x5 x6) := by
  unfold State.quantise
  simp +contextual (maxDischargeDepth := 40) only [h, keepsO_next, keepsO_fault, keepsM_some, keepsM_none,
      keepsL_mk, keepsR_mk, keepsL_fold, keepsR_fold, keeps_ite, keepsO_ite, keepsM_ite, keepsL_ite, keepsR_ite,
      ite_self, implies_true, keeps_foldl, keepsL_foldl, keepsR_foldl, keeps_setScale]

theorem keeps_whiskEvents {l} {s : State} (h : Keeps l s) (x1 x2 x3 x4 x5 x6) : Keeps l (State.whiskEvents s x1 x2
    x3 x4 x5 x6) := by
  unfold State.whiskEvents
  all_goals repeat' (split <;> (try simp +contextual (maxDischargeDepth := 40) only [h, keepsO_next, keepsO_fault,
      keepsM_some, keepsM_none, keepsL_mk, keepsR_mk, keepsL_fold, keepsR_fold, keeps_ite, keepsO_ite, keepsM_ite,
      keepsL_ite, keepsR_ite, ite_self, implies_true, keeps_foldl, keepsL_foldl, keepsR_foldl, keeps_raiseS,
      keeps_setBsk]))

theorem keeps_wrRows {l} {s : State} (h : Keeps l s) (x1 x2 x3) : Keeps l (State.wrRows s x1 x2 x3) := by
  unfold State.wrRows
  simp +contextual (maxDischargeDepth := 40) only [h, keepsO_next, keepsO_fault, keepsM_some, keepsM_none,
      keepsL_mk, keepsR_mk, keepsL_fold, keepsR_fold, keeps_ite, keepsO_ite, keepsM_ite, keepsL_ite, keepsR_ite,
      ite_self, implies_true, keeps_foldl, keepsL_foldl, keepsR_foldl, keeps_wr]

/-! ## The sequencer and control steps -/

theorem keeps_failStep {l} {s : State} (h : Keeps l s) (x1 x2 x3) : Keeps l (State.failStep s x1 x2 x3) := by
  unfold State.failStep
  simp +contextual (maxDischargeDepth := 40) only [h, keepsO_next, keepsO_fault, keepsM_some, keepsM_none,
      keepsL_mk, keepsR_mk, keepsL_fold, keepsR_fold, keeps_ite, keepsO_ite, keepsM_ite, keepsL_ite, keepsR_ite,
      ite_self, implies_true, keeps_foldl, keepsL_foldl, keepsR_foldl, keeps_raiseS, keeps_putStr]

theorem keeps_dropChain {l} {s : State} (h : Keeps l s) (x1) : Keeps l (State.dropChain s x1) := by
  unfold State.dropChain
  try simp +contextual (maxDischargeDepth := 40) only [h, keepsO_next, keepsO_fault, keepsM_some, keepsM_none,
      keepsL_mk, keepsR_mk, keepsL_fold, keepsR_fold, keeps_ite, keepsO_ite, keepsM_ite, keepsL_ite, keepsR_ite,
      ite_self, implies_true, keeps_foldl, keepsL_foldl, keepsR_foldl, keeps_modRec, keeps_setStr]
  all_goals repeat' (split <;> (try simp +contextual (maxDischargeDepth := 40) only [h, keepsO_next, keepsO_fault,
      keepsM_some, keepsM_none, keepsL_mk, keepsR_mk, keepsL_fold, keepsR_fold, keeps_ite, keepsO_ite, keepsM_ite,
      keepsL_ite, keepsR_ite, ite_self, implies_true, keeps_foldl, keepsL_foldl, keepsR_foldl, keeps_modRec,
      keeps_setStr]))

theorem keeps_skipStep {l} {s : State} (h : Keeps l s) (x1 x2) : Keeps l (State.skipStep s x1 x2) := by
  unfold State.skipStep
  simp +contextual (maxDischargeDepth := 40) only [h, keepsO_next, keepsO_fault, keepsM_some, keepsM_none,
      keepsL_mk, keepsR_mk, keepsL_fold, keepsR_fold, keeps_ite, keepsO_ite, keepsM_ite, keepsL_ite, keepsR_ite,
      ite_self, implies_true, keeps_foldl, keepsL_foldl, keepsR_foldl, keeps_takeTok, keeps_dropChain, keeps_over,
      keeps_setStr]

theorem keeps_issueStep {l} {s : State} (h : Keeps l s) (x1 x2 x3) (hf3 : ∀ y0 y1 y2, Keeps l y0 → Keeps l (x3 y0
    y1 y2)) : Keeps l (State.issueStep s x1 x2 x3) := by
  unfold State.issueStep
  simp +contextual (maxDischargeDepth := 40) only [h, hf3, keepsO_next, keepsO_fault, keepsM_some, keepsM_none,
      keepsL_mk, keepsR_mk, keepsL_fold, keepsR_fold, keeps_ite, keepsO_ite, keepsM_ite, keepsL_ite, keepsR_ite,
      ite_self, implies_true, keeps_foldl, keepsL_foldl, keepsR_foldl, keeps_takeTok, keeps_setStr, keeps_setBsk]

theorem keeps_headGo {l} {s : State} (h : Keeps l s) (x1 x2 x3 x4) (hf4 : ∀ y0 y1 y2, Keeps l y0 → Keeps l (x4 y0
    y1 y2)) : Keeps l (State.headGo s x1 x2 x3 x4) := by
  unfold State.headGo
  try simp +contextual (maxDischargeDepth := 40) only [h, hf4, keepsO_next, keepsO_fault, keepsM_some, keepsM_none,
      keepsL_mk, keepsR_mk, keepsL_fold, keepsR_fold, keeps_ite, keepsO_ite, keepsM_ite, keepsL_ite, keepsR_ite,
      ite_self, implies_true, keeps_foldl, keepsL_foldl, keepsR_foldl, keeps_setStr, keeps_skipStep,
      keeps_failStep, keeps_memX, keeps_scrub, keeps_issueStep]
  all_goals repeat' (split <;> (try simp +contextual (maxDischargeDepth := 40) only [h, hf4, keepsO_next,
      keepsO_fault, keepsM_some, keepsM_none, keepsL_mk, keepsR_mk, keepsL_fold, keepsR_fold, keeps_ite,
      keepsO_ite, keepsM_ite, keepsL_ite, keepsR_ite, ite_self, implies_true, keeps_foldl, keepsL_foldl,
      keepsR_foldl, keeps_setStr, keeps_skipStep, keeps_failStep, keeps_memX, keeps_scrub, keeps_issueStep]))

theorem keeps_headStep {l} {s : State} (h : Keeps l s) (x1 x2 x3 x4) (hf4 : ∀ y0 y1 y2, Keeps l y0 → Keeps l (x4 y0
    y1 y2)) : Keeps l (State.headStep s x1 x2 x3 x4) := by
  unfold State.headStep
  all_goals repeat' (split <;> (try simp +contextual (maxDischargeDepth := 40) only [h, hf4, keepsO_next,
      keepsO_fault, keepsM_some, keepsM_none, keepsL_mk, keepsR_mk, keepsL_fold, keepsR_fold, keeps_ite,
      keepsO_ite, keepsM_ite, keepsL_ite, keepsR_ite, ite_self, implies_true, keeps_foldl, keepsL_foldl,
      keepsR_foldl, keeps_hostX, keeps_headGo, keeps_setStr]))

theorem keeps_runHead {l} {s : State} (h : Keeps l s) (x1 x2 x3 x4) (hf4 : ∀ y0 y1 y2, Keeps l y0 → Keeps l (x4 y0
    y1 y2)) : Keeps l (State.runHead s x1 x2 x3 x4) := by
  unfold State.runHead
  all_goals repeat' (split <;> (try simp +contextual (maxDischargeDepth := 40) only [h, hf4, keepsO_next,
      keepsO_fault, keepsM_some, keepsM_none, keepsL_mk, keepsR_mk, keepsL_fold, keepsR_fold, keeps_ite,
      keepsO_ite, keepsM_ite, keepsL_ite, keepsR_ite, ite_self, implies_true, keeps_foldl, keepsL_foldl,
      keepsR_foldl, keeps_failStep, keeps_memX, keeps_scrub, keeps_headStep]))

theorem keeps_runStep {l} {s : State} (h : Keeps l s) (x0 x1 x2 x3) (hf2 : ∀ y0 y1 y2, Keeps l y0 → Keeps l (x2 y0
    y1 y2)) : KeepsO l (runStep x0 x1 x2 x3 s) := by
  unfold runStep
  simp +contextual (maxDischargeDepth := 40) only [h, hf2, keepsO_next, keepsO_fault, keepsM_some, keepsM_none,
      keepsL_mk, keepsR_mk, keepsL_fold, keepsR_fold, keeps_ite, keepsO_ite, keepsM_ite, keepsL_ite, keepsR_ite,
      ite_self, implies_true, keeps_foldl, keepsL_foldl, keepsR_foldl, keeps_guard, keeps_runHead]

theorem keeps_ctlTo {l} {s : State} (h : Keeps l s) (x1 x2 x3) : Keeps l (State.ctlTo s x1 x2 x3) := by
  unfold State.ctlTo
  simp +contextual (maxDischargeDepth := 40) only [h, keepsO_next, keepsO_fault, keepsM_some, keepsM_none,
      keepsL_mk, keepsR_mk, keepsL_fold, keepsR_fold, keeps_ite, keepsO_ite, keepsM_ite, keepsL_ite, keepsR_ite,
      ite_self, implies_true, keeps_foldl, keepsL_foldl, keepsR_foldl, keeps_over, keeps_goTo]

theorem keeps_effNext {l} {s : State} (h : Keeps l s) (x1 x2) : Keeps l (effNext s x1 x2) := by
  unfold effNext
  simp +contextual (maxDischargeDepth := 40) only [h, keepsO_next, keepsO_fault, keepsM_some, keepsM_none,
      keepsL_mk, keepsR_mk, keepsL_fold, keepsR_fold, keeps_ite, keepsO_ite, keepsM_ite, keepsL_ite, keepsR_ite,
      ite_self, implies_true, keeps_foldl, keepsL_foldl, keepsR_foldl, keeps_ctlTo]

theorem keeps_execNop {l} {s : State} (h : Keeps l s) (x0) : KeepsO l (execNop x0 s) := by
  unfold execNop
  simp +contextual (maxDischargeDepth := 40) only [h, keepsO_next, keepsO_fault, keepsM_some, keepsM_none,
      keepsL_mk, keepsR_mk, keepsL_fold, keepsR_fold, keeps_ite, keepsO_ite, keepsM_ite, keepsL_ite, keepsR_ite,
      ite_self, implies_true, keeps_foldl, keepsL_foldl, keepsR_foldl, keeps_runStep, keeps_effNext]

theorem keeps_effLoop {l} {s : State} (h : Keeps l s) (x1 x2) : Keeps l (effLoop s x1 x2) := by
  unfold effLoop
  simp +contextual (maxDischargeDepth := 40) only [h, keepsO_next, keepsO_fault, keepsM_some, keepsM_none,
      keepsL_mk, keepsR_mk, keepsL_fold, keepsR_fold, keeps_ite, keepsO_ite, keepsM_ite, keepsL_ite, keepsR_ite,
      ite_self, implies_true, keeps_foldl, keepsL_foldl, keepsR_foldl, keeps_ctlTo, keeps_setStr]

theorem keeps_execLoop {l} {s : State} (h : Keeps l s) (x0) : KeepsO l (execLoop x0 s) := by
  unfold execLoop
  simp +contextual (maxDischargeDepth := 40) only [h, keepsO_next, keepsO_fault, keepsM_some, keepsM_none,
      keepsL_mk, keepsR_mk, keepsL_fold, keepsR_fold, keeps_ite, keepsO_ite, keepsM_ite, keepsL_ite, keepsR_ite,
      ite_self, implies_true, keeps_foldl, keepsL_foldl, keepsR_foldl, keeps_runStep, keeps_effLoop]

theorem keeps_effEndl {l} {s : State} (h : Keeps l s) (x1 x2) : Keeps l (effEndl s x1 x2) := by
  unfold effEndl
  try simp +contextual (maxDischargeDepth := 40) only [h, keepsO_next, keepsO_fault, keepsM_some, keepsM_none,
      keepsL_mk, keepsR_mk, keepsL_fold, keepsR_fold, keeps_ite, keepsO_ite, keepsM_ite, keepsL_ite, keepsR_ite,
      ite_self, implies_true, keeps_foldl, keepsL_foldl, keepsR_foldl, keeps_ctlTo, keeps_setStr]
  all_goals repeat' (split <;> (try simp +contextual (maxDischargeDepth := 40) only [h, keepsO_next, keepsO_fault,
      keepsM_some, keepsM_none, keepsL_mk, keepsR_mk, keepsL_fold, keepsR_fold, keeps_ite, keepsO_ite, keepsM_ite,
      keepsL_ite, keepsR_ite, ite_self, implies_true, keeps_foldl, keepsL_foldl, keepsR_foldl, keeps_ctlTo,
      keeps_setStr]))

theorem keeps_execEndl {l} {s : State} (h : Keeps l s) (x0) : KeepsO l (execEndl x0 s) := by
  unfold execEndl
  simp +contextual (maxDischargeDepth := 40) only [h, keepsO_next, keepsO_fault, keepsM_some, keepsM_none,
      keepsL_mk, keepsR_mk, keepsL_fold, keepsR_fold, keeps_ite, keepsO_ite, keepsM_ite, keepsL_ite, keepsR_ite,
      ite_self, implies_true, keeps_foldl, keepsL_foldl, keepsR_foldl, keeps_runStep, keeps_effEndl]

theorem keeps_brClear {l} {s : State} (h : Keeps l s) (x1 x2) : Keeps l (State.brClear s x1 x2) := by
  unfold State.brClear
  simp +contextual (maxDischargeDepth := 40) only [h, keepsO_next, keepsO_fault, keepsM_some, keepsM_none,
      keepsL_mk, keepsR_mk, keepsL_fold, keepsR_fold, keeps_ite, keepsO_ite, keepsM_ite, keepsL_ite, keepsR_ite,
      ite_self, implies_true, keeps_foldl, keepsL_foldl, keepsR_foldl, keeps_setStr]

theorem keeps_effBr {l} {s : State} (h : Keeps l s) (x1 x2) : Keeps l (effBr s x1 x2) := by
  unfold effBr
  simp +contextual (maxDischargeDepth := 40) only [h, keepsO_next, keepsO_fault, keepsM_some, keepsM_none,
      keepsL_mk, keepsR_mk, keepsL_fold, keepsR_fold, keeps_ite, keepsO_ite, keepsM_ite, keepsL_ite, keepsR_ite,
      ite_self, implies_true, keeps_foldl, keepsL_foldl, keepsR_foldl, keeps_ctlTo, keeps_brClear]

theorem keeps_execBr {l} {s : State} (h : Keeps l s) (x0) : KeepsO l (execBr x0 s) := by
  unfold execBr
  simp +contextual (maxDischargeDepth := 40) only [h, keepsO_next, keepsO_fault, keepsM_some, keepsM_none,
      keepsL_mk, keepsR_mk, keepsL_fold, keepsR_fold, keeps_ite, keepsO_ite, keepsM_ite, keepsL_ite, keepsR_ite,
      ite_self, implies_true, keeps_foldl, keepsL_foldl, keepsR_foldl, keeps_runStep, keeps_effBr]

theorem keeps_effCall {l} {s : State} (h : Keeps l s) (x1 x2) : Keeps l (effCall s x1 x2) := by
  unfold effCall
  simp +contextual (maxDischargeDepth := 40) only [h, keepsO_next, keepsO_fault, keepsM_some, keepsM_none,
      keepsL_mk, keepsR_mk, keepsL_fold, keepsR_fold, keeps_ite, keepsO_ite, keepsM_ite, keepsL_ite, keepsR_ite,
      ite_self, implies_true, keeps_foldl, keepsL_foldl, keepsR_foldl, keeps_brClear, keeps_ctlTo, keeps_setStr]

theorem keeps_execCall {l} {s : State} (h : Keeps l s) (x0) : KeepsO l (execCall x0 s) := by
  unfold execCall
  simp +contextual (maxDischargeDepth := 40) only [h, keepsO_next, keepsO_fault, keepsM_some, keepsM_none,
      keepsL_mk, keepsR_mk, keepsL_fold, keepsR_fold, keeps_ite, keepsO_ite, keepsM_ite, keepsL_ite, keepsR_ite,
      ite_self, implies_true, keeps_foldl, keepsL_foldl, keepsR_foldl, keeps_runStep, keeps_effCall]

theorem keeps_effRet {l} {s : State} (h : Keeps l s) (x1 x2) : Keeps l (effRet s x1 x2) := by
  unfold effRet
  try simp +contextual (maxDischargeDepth := 40) only [h, keepsO_next, keepsO_fault, keepsM_some, keepsM_none,
      keepsL_mk, keepsR_mk, keepsL_fold, keepsR_fold, keeps_ite, keepsO_ite, keepsM_ite, keepsL_ite, keepsR_ite,
      ite_self, implies_true, keeps_foldl, keepsL_foldl, keepsR_foldl, keeps_ctlTo, keeps_setStr]
  all_goals repeat' (split <;> (try simp +contextual (maxDischargeDepth := 40) only [h, keepsO_next, keepsO_fault,
      keepsM_some, keepsM_none, keepsL_mk, keepsR_mk, keepsL_fold, keepsR_fold, keeps_ite, keepsO_ite, keepsM_ite,
      keepsL_ite, keepsR_ite, ite_self, implies_true, keeps_foldl, keepsL_foldl, keepsR_foldl, keeps_ctlTo,
      keeps_setStr]))

theorem keeps_execRet {l} {s : State} (h : Keeps l s) (x0) : KeepsO l (execRet x0 s) := by
  unfold execRet
  simp +contextual (maxDischargeDepth := 40) only [h, keepsO_next, keepsO_fault, keepsM_some, keepsM_none,
      keepsL_mk, keepsR_mk, keepsL_fold, keepsR_fold, keeps_ite, keepsO_ite, keepsM_ite, keepsL_ite, keepsR_ite,
      ite_self, implies_true, keeps_foldl, keepsL_foldl, keepsR_foldl, keeps_runStep, keeps_effRet]

theorem keeps_execWait {l} {s : State} (h : Keeps l s) (x0) : KeepsO l (execWait x0 s) := by
  unfold execWait
  simp +contextual (maxDischargeDepth := 40) only [h, keepsO_next, keepsO_fault, keepsM_some, keepsM_none,
      keepsL_mk, keepsR_mk, keepsL_fold, keepsR_fold, keeps_ite, keepsO_ite, keepsM_ite, keepsL_ite, keepsR_ite,
      ite_self, implies_true, keeps_foldl, keepsL_foldl, keepsR_foldl, keeps_runStep, keeps_effNext]

theorem keeps_execSig {l} {s : State} (h : Keeps l s) (x0) : KeepsO l (execSig x0 s) := by
  unfold execSig
  simp +contextual (maxDischargeDepth := 40) only [h, keepsO_next, keepsO_fault, keepsM_some, keepsM_none,
      keepsL_mk, keepsR_mk, keepsL_fold, keepsR_fold, keeps_ite, keepsO_ite, keepsM_ite, keepsL_ite, keepsR_ite,
      ite_self, implies_true, keeps_foldl, keepsL_foldl, keepsR_foldl, keeps_runStep, keeps_effNext]

theorem keeps_execFence {l} {s : State} (h : Keeps l s) (x0) : KeepsO l (execFence x0 s) := by
  unfold execFence
  simp +contextual (maxDischargeDepth := 40) only [h, keepsO_next, keepsO_fault, keepsM_some, keepsM_none,
      keepsL_mk, keepsR_mk, keepsL_fold, keepsR_fold, keeps_ite, keepsO_ite, keepsM_ite, keepsL_ite, keepsR_ite,
      ite_self, implies_true, keeps_foldl, keepsL_foldl, keepsR_foldl, keeps_runStep, keeps_effNext]

theorem keeps_execYield {l} {s : State} (h : Keeps l s) (x0) : KeepsO l (execYield x0 s) := by
  unfold execYield
  simp +contextual (maxDischargeDepth := 40) only [h, keepsO_next, keepsO_fault, keepsM_some, keepsM_none,
      keepsL_mk, keepsR_mk, keepsL_fold, keepsR_fold, keeps_ite, keepsO_ite, keepsM_ite, keepsL_ite, keepsR_ite,
      ite_self, implies_true, keeps_foldl, keepsL_foldl, keepsR_foldl, keeps_runStep, keeps_effNext]

theorem keeps_effHalt {l} {s : State} (h : Keeps l s) (x1 x2) : Keeps l (effHalt s x1 x2) := by
  unfold effHalt
  simp +contextual (maxDischargeDepth := 40) only [h, keepsO_next, keepsO_fault, keepsM_some, keepsM_none,
      keepsL_mk, keepsR_mk, keepsL_fold, keepsR_fold, keeps_ite, keepsO_ite, keepsM_ite, keepsL_ite, keepsR_ite,
      ite_self, implies_true, keeps_foldl, keepsL_foldl, keepsR_foldl, keeps_over, keeps_setStr]

theorem keeps_execHalt {l} {s : State} (h : Keeps l s) (x0) : KeepsO l (execHalt x0 s) := by
  unfold execHalt
  simp +contextual (maxDischargeDepth := 40) only [h, keepsO_next, keepsO_fault, keepsM_some, keepsM_none,
      keepsL_mk, keepsR_mk, keepsL_fold, keepsR_fold, keeps_ite, keepsO_ite, keepsM_ite, keepsL_ite, keepsR_ite,
      ite_self, implies_true, keeps_foldl, keepsL_foldl, keepsR_foldl, keeps_runStep, keeps_effHalt]

theorem keeps_effMark {l} {s : State} (h : Keeps l s) (x1 x2) : Keeps l (effMark s x1 x2) := by
  unfold effMark
  simp +contextual (maxDischargeDepth := 40) only [h, keepsO_next, keepsO_fault, keepsM_some, keepsM_none,
      keepsL_mk, keepsR_mk, keepsL_fold, keepsR_fold, keeps_ite, keepsO_ite, keepsM_ite, keepsL_ite, keepsR_ite,
      ite_self, implies_true, keeps_foldl, keepsL_foldl, keepsR_foldl, keeps_over, keeps_goTo]

theorem keeps_execMark {l} {s : State} (h : Keeps l s) (x0) : KeepsO l (execMark x0 s) := by
  unfold execMark
  simp +contextual (maxDischargeDepth := 40) only [h, keepsO_next, keepsO_fault, keepsM_some, keepsM_none,
      keepsL_mk, keepsR_mk, keepsL_fold, keepsR_fold, keeps_ite, keepsO_ite, keepsM_ite, keepsL_ite, keepsR_ite,
      ite_self, implies_true, keeps_foldl, keepsL_foldl, keepsR_foldl, keeps_runStep, keeps_effMark]

theorem keeps_effDbrk {l} {s : State} (h : Keeps l s) (x1 x2) : Keeps l (effDbrk s x1 x2) := by
  unfold effDbrk
  simp +contextual (maxDischargeDepth := 40) only [h, keepsO_next, keepsO_fault, keepsM_some, keepsM_none,
      keepsL_mk, keepsR_mk, keepsL_fold, keepsR_fold, keeps_ite, keepsO_ite, keepsM_ite, keepsL_ite, keepsR_ite,
      ite_self, implies_true, keeps_foldl, keepsL_foldl, keepsR_foldl, keeps_ctlTo, keeps_notice, keeps_putStr]

theorem keeps_execDbrk {l} {s : State} (h : Keeps l s) (x0) : KeepsO l (execDbrk x0 s) := by
  unfold execDbrk
  simp +contextual (maxDischargeDepth := 40) only [h, keepsO_next, keepsO_fault, keepsM_some, keepsM_none,
      keepsL_mk, keepsR_mk, keepsL_fold, keepsR_fold, keeps_ite, keepsO_ite, keepsM_ite, keepsL_ite, keepsR_ite,
      ite_self, implies_true, keeps_foldl, keepsL_foldl, keepsR_foldl, keeps_runStep, keeps_effDbrk]

theorem keeps_effDsnap {l} {s : State} (h : Keeps l s) (x1 x2) : Keeps l (effDsnap s x1 x2) := by
  unfold effDsnap
  simp +contextual (maxDischargeDepth := 40) only [h, keepsO_next, keepsO_fault, keepsM_some, keepsM_none,
      keepsL_mk, keepsR_mk, keepsL_fold, keepsR_fold, keeps_ite, keepsO_ite, keepsM_ite, keepsL_ite, keepsR_ite,
      ite_self, implies_true, keeps_foldl, keepsL_foldl, keepsR_foldl, keeps_ctlTo, keeps_wr]

theorem keeps_execDsnap {l} {s : State} (h : Keeps l s) (x0) : KeepsO l (execDsnap x0 s) := by
  unfold execDsnap
  simp +contextual (maxDischargeDepth := 40) only [h, keepsO_next, keepsO_fault, keepsM_some, keepsM_none,
      keepsL_mk, keepsR_mk, keepsL_fold, keepsR_fold, keeps_ite, keepsO_ite, keepsM_ite, keepsL_ite, keepsR_ite,
      ite_self, implies_true, keeps_foldl, keepsL_foldl, keepsR_foldl, keeps_runStep, keeps_effDsnap]

theorem keeps_execStepCompletion {l} {s : State} (h : Keeps l s) (x0 x1) : KeepsO l (execStepCompletion x0 x1 s) := by
  unfold execStepCompletion
  all_goals repeat' (split <;> (try simp +contextual (maxDischargeDepth := 40) only [h, keepsO_next, keepsO_fault,
      keepsM_some, keepsM_none, keepsL_mk, keepsR_mk, keepsL_fold, keepsR_fold, keeps_ite, keepsO_ite, keepsM_ite,
      keepsL_ite, keepsR_ite, ite_self, implies_true, keeps_foldl, keepsL_foldl, keepsR_foldl, keeps_guard,
      keeps_tryFinish]))

theorem keeps_execRingHeadPoll {l} {s : State} (h : Keeps l s) (x0) : KeepsO l (execRingHeadPoll x0 s) := by
  unfold execRingHeadPoll
  try simp +contextual (maxDischargeDepth := 40) only [h, keepsO_next, keepsO_fault, keepsM_some, keepsM_none,
      keepsL_mk, keepsR_mk, keepsL_fold, keepsR_fold, keeps_ite, keepsO_ite, keepsM_ite, keepsL_ite, keepsR_ite,
      ite_self, implies_true, keeps_foldl, keepsL_foldl, keepsR_foldl, keeps_guard, keeps_at, keeps_tryFinish]
  all_goals repeat' (split <;> (try simp +contextual (maxDischargeDepth := 40) only [h, keepsO_next, keepsO_fault,
      keepsM_some, keepsM_none, keepsL_mk, keepsR_mk, keepsL_fold, keepsR_fold, keeps_ite, keepsO_ite, keepsM_ite,
      keepsL_ite, keepsR_ite, ite_self, implies_true, keeps_foldl, keepsL_foldl, keepsR_foldl, keeps_guard,
      keeps_at, keeps_tryFinish]))

theorem keeps_execTokenTimeout {l} {s : State} (h : Keeps l s) (x0) : KeepsO l (execTokenTimeout x0 s) := by
  unfold execTokenTimeout
  try simp +contextual (maxDischargeDepth := 40) only [h, keepsO_next, keepsO_fault, keepsM_some, keepsM_none,
      keepsL_mk, keepsR_mk, keepsL_fold, keepsR_fold, keeps_ite, keepsO_ite, keepsM_ite, keepsL_ite, keepsR_ite,
      ite_self, implies_true, keeps_foldl, keepsL_foldl, keepsR_foldl, keeps_guard, keeps_raiseX, keeps_at]
  all_goals repeat' (split <;> (try simp +contextual (maxDischargeDepth := 40) only [h, keepsO_next, keepsO_fault,
      keepsM_some, keepsM_none, keepsL_mk, keepsR_mk, keepsL_fold, keepsR_fold, keeps_ite, keepsO_ite, keepsM_ite,
      keepsL_ite, keepsR_ite, ite_self, implies_true, keeps_foldl, keepsL_foldl, keepsR_foldl, keeps_guard,
      keeps_raiseX, keeps_at]))

theorem keeps_execTokenSignalWrite {l} {s : State} (h : Keeps l s) (x0 x1) : KeepsO l (execTokenSignalWrite x0 x1
    s) := by
  unfold execTokenSignalWrite
  simp +contextual (maxDischargeDepth := 40) only [h, keepsO_next, keepsO_fault, keepsM_some, keepsM_none,
      keepsL_mk, keepsR_mk, keepsL_fold, keepsR_fold, keeps_ite, keepsO_ite, keepsM_ite, keepsL_ite, keepsR_ite,
      ite_self, implies_true, keeps_foldl, keepsL_foldl, keepsR_foldl, keeps_guard, keeps_sig]

theorem keeps_execTokenIrqDeferred {l} {s : State} (h : Keeps l s) (x0) : KeepsO l (execTokenIrqDeferred x0 s) := by
  unfold execTokenIrqDeferred
  simp +contextual (maxDischargeDepth := 40) only [h, keeps_mk, keeps_fold, keepsO_next, keepsO_fault, keepsM_some,
      keepsM_none, keepsL_mk, keepsR_mk, keepsL_fold, keepsR_fold, keeps_ite, keepsO_ite, keepsM_ite, keepsL_ite,
      keepsR_ite, ite_self, implies_true, keeps_foldl, keepsL_foldl, keepsR_foldl, keeps_guard, keeps_at,
      keeps_tirqMsi]

/-! ## Pots -/

theorem keeps_spillInto {l} {s : State} (h : Keeps l s) (x1 x2) : KeepsL l (State.spillInto s x1 x2) := by
  unfold State.spillInto
  simp +contextual (maxDischargeDepth := 40) only [h, keepsO_next, keepsO_fault, keepsM_some, keepsM_none,
      keepsL_mk, keepsR_mk, keepsL_fold, keepsR_fold, keeps_ite, keepsO_ite, keepsM_ite, keepsL_ite, keepsR_ite,
      ite_self, implies_true, keeps_foldl, keepsL_foldl, keepsR_foldl, keeps_wr]

theorem keeps_potOvf {l} {s : State} (h : Keeps l s) (x1 x2) : Keeps l (State.potOvf s x1 x2) := by
  unfold State.potOvf
  all_goals repeat' (split <;> (try simp +contextual (maxDischargeDepth := 40) only [h, keepsO_next, keepsO_fault,
      keepsM_some, keepsM_none, keepsL_mk, keepsR_mk, keepsL_fold, keepsR_fold, keeps_ite, keepsO_ite, keepsM_ite,
      keepsL_ite, keepsR_ite, ite_self, implies_true, keeps_foldl, keepsL_foldl, keepsR_foldl, keeps_modRec,
      keeps_raiseS, keeps_setBsk]))

theorem keeps_potDone {l} {s : State} (h : Keeps l s) (x1 x2 x3) : Keeps l (State.potDone s x1 x2 x3) := by
  unfold State.potDone
  simp +contextual (maxDischargeDepth := 40) only [h, keepsO_next, keepsO_fault, keepsM_some, keepsM_none,
      keepsL_mk, keepsR_mk, keepsL_fold, keepsR_fold, keeps_ite, keepsO_ite, keepsM_ite, keepsL_ite, keepsR_ite,
      ite_self, implies_true, keeps_foldl, keepsL_foldl, keepsR_foldl, keeps_modRec]

theorem keeps_potEccIn {l} {s : State} (h : Keeps l s) (x1 x2 x3) : KeepsM l (State.potEccIn s x1 x2 x3) := by
  unfold State.potEccIn
  simp +contextual (maxDischargeDepth := 40) only [h, keepsO_next, keepsO_fault, keepsM_some, keepsM_none,
      keepsL_mk, keepsR_mk, keepsL_fold, keepsR_fold, keeps_ite, keepsO_ite, keepsM_ite, keepsL_ite, keepsR_ite,
      ite_self, implies_true, keeps_foldl, keepsL_foldl, keepsR_foldl, keeps_setPot, keeps_setBsk]

theorem keeps_potEcc {l} {s : State} (h : Keeps l s) (x1 x2) : KeepsM l (State.potEcc s x1 x2) := by
  unfold State.potEcc
  simp +contextual (maxDischargeDepth := 40) only [h, keepsO_next, keepsO_fault, keepsM_some, keepsM_none,
      keepsL_mk, keepsR_mk, keepsL_fold, keepsR_fold, keeps_ite, keepsO_ite, keepsM_ite, keepsL_ite, keepsR_ite,
      ite_self, implies_true, keeps_foldl, keepsL_foldl, keepsR_foldl, keeps_potEccIn]

theorem keeps_potEccAt {l} {s : State} (h : Keeps l s) (x1 x2 x3 x4) : Keeps l (State.potEccAt s x1 x2 x3 x4) := by
  unfold State.potEccAt
  simp +contextual (maxDischargeDepth := 40) only [h, keepsO_next, keepsO_fault, keepsM_some, keepsM_none,
      keepsL_mk, keepsR_mk, keepsL_fold, keepsR_fold, keeps_ite, keepsO_ite, keepsM_ite, keepsL_ite, keepsR_ite,
      ite_self, implies_true, keeps_foldl, keepsL_foldl, keepsR_foldl, keeps_raiseX, keeps_setBsk]

theorem keeps_potEccX {l} {s : State} (h : Keeps l s) (x1 x2 x3) : Keeps l (State.potEccX s x1 x2 x3) := by
  unfold State.potEccX
  simp +contextual (maxDischargeDepth := 40) only [h, keepsO_next, keepsO_fault, keepsM_some, keepsM_none,
      keepsL_mk, keepsR_mk, keepsL_fold, keepsR_fold, keeps_ite, keepsO_ite, keepsM_ite, keepsL_ite, keepsR_ite,
      ite_self, implies_true, keeps_foldl, keepsL_foldl, keepsR_foldl, keeps_potEccAt]

theorem keeps_runPopen {l} {s : State} (h : Keeps l s) (x1 x2 x3 x4 x5) : Keeps l (State.runPopen s x1 x2 x3 x4 x5) := by
  unfold State.runPopen
  simp +contextual (maxDischargeDepth := 40) only [h, keepsO_next, keepsO_fault, keepsM_some, keepsM_none,
      keepsL_mk, keepsR_mk, keepsL_fold, keepsR_fold, keeps_ite, keepsO_ite, keepsM_ite, keepsL_ite, keepsR_ite,
      ite_self, implies_true, keeps_foldl, keepsL_foldl, keepsR_foldl, keeps_potDone, keeps_setPot]

theorem keeps_spillPot {l} {s : State} (h : Keeps l s) (x1 x2 x3 x4 x5) : KeepsL l (State.spillPot s x1 x2 x3 x4
    x5) := by
  have hk := h
  unfold State.spillPot
  try simp +contextual (maxDischargeDepth := 40) only [h, keepsO_next, keepsO_fault, keepsM_some, keepsM_none,
      keepsL_mk, keepsR_mk, keepsL_fold, keepsR_fold, keeps_ite, keepsO_ite, keepsM_ite, keepsL_ite, keepsR_ite,
      ite_self, implies_true, keeps_foldl, keepsL_foldl, keepsR_foldl, keeps_potEcc, keeps_potEccAt, keeps_memX,
      keeps_scrubRegions, keeps_spillInto, keeps_setPot]
  all_goals repeat' (split <;> (try (rename_i heq; first | have hk := keepsR_eq (l := l) (by simp +contextual (maxDischargeDepth := 40) only [hk, h, keepsO_next, keepsO_fault, keepsM_some, keepsM_none, keepsL_mk, keepsR_mk, keepsL_fold, keepsR_fold, keeps_ite, keepsO_ite, keepsM_ite, keepsL_ite, keepsR_ite, ite_self, implies_true, keeps_foldl, keepsL_foldl, keepsR_foldl, keeps_potEcc, keeps_potEccAt, keeps_memX, keeps_scrubRegions, keeps_spillInto, keeps_setPot]) heq | have hk := keepsL_eq (l := l) (by simp +contextual (maxDischargeDepth := 40) only [hk, h, keepsO_next, keepsO_fault, keepsM_some, keepsM_none, keepsL_mk, keepsR_mk, keepsL_fold, keepsR_fold, keeps_ite, keepsO_ite, keepsM_ite, keepsL_ite, keepsR_ite, ite_self, implies_true, keeps_foldl, keepsL_foldl, keepsR_foldl, keeps_potEcc, keeps_potEccAt, keeps_memX, keeps_scrubRegions, keeps_spillInto, keeps_setPot]) heq | have hk := keepsM_eq (l := l) (by simp +contextual (maxDischargeDepth := 40) only [hk, h, keepsO_next, keepsO_fault, keepsM_some, keepsM_none, keepsL_mk, keepsR_mk, keepsL_fold, keepsR_fold, keeps_ite, keepsO_ite, keepsM_ite, keepsL_ite, keepsR_ite, ite_self, implies_true, keeps_foldl, keepsL_foldl, keepsR_foldl, keeps_potEcc, keeps_potEccAt, keeps_memX, keeps_scrubRegions, keeps_spillInto, keeps_setPot]) heq)) <;> (try simp +contextual (maxDischargeDepth := 40) only [hk, h, keepsO_next, keepsO_fault, keepsM_some, keepsM_none, keepsL_mk, keepsR_mk, keepsL_fold, keepsR_fold, keeps_ite, keepsO_ite, keepsM_ite, keepsL_ite, keepsR_ite, ite_self, implies_true, keeps_foldl, keepsL_foldl, keepsR_foldl, keeps_potEcc, keeps_potEccAt, keeps_memX, keeps_scrubRegions, keeps_spillInto, keeps_setPot]))

theorem keeps_runSpill {l} {s : State} (h : Keeps l s) (x1 x2 x3 x4) : Keeps l (State.runSpill s x1 x2 x3 x4) := by
  have hk := h
  unfold State.runSpill
  try simp +contextual (maxDischargeDepth := 40) only [h, keepsO_next, keepsO_fault, keepsM_some, keepsM_none,
      keepsL_mk, keepsR_mk, keepsL_fold, keepsR_fold, keeps_ite, keepsO_ite, keepsM_ite, keepsL_ite, keepsR_ite,
      ite_self, implies_true, keeps_foldl, keepsL_foldl, keepsR_foldl, keeps_spillPot, keeps_potDone, keeps_potOvf]
  all_goals repeat' (split <;> (try (rename_i heq; first | have hk := keepsR_eq (l := l) (by simp +contextual (maxDischargeDepth := 40) only [hk, h, keepsO_next, keepsO_fault, keepsM_some, keepsM_none, keepsL_mk, keepsR_mk, keepsL_fold, keepsR_fold, keeps_ite, keepsO_ite, keepsM_ite, keepsL_ite, keepsR_ite, ite_self, implies_true, keeps_foldl, keepsL_foldl, keepsR_foldl, keeps_spillPot, keeps_potDone, keeps_potOvf]) heq | have hk := keepsL_eq (l := l) (by simp +contextual (maxDischargeDepth := 40) only [hk, h, keepsO_next, keepsO_fault, keepsM_some, keepsM_none, keepsL_mk, keepsR_mk, keepsL_fold, keepsR_fold, keeps_ite, keepsO_ite, keepsM_ite, keepsL_ite, keepsR_ite, ite_self, implies_true, keeps_foldl, keepsL_foldl, keepsR_foldl, keeps_spillPot, keeps_potDone, keeps_potOvf]) heq | have hk := keepsM_eq (l := l) (by simp +contextual (maxDischargeDepth := 40) only [hk, h, keepsO_next, keepsO_fault, keepsM_some, keepsM_none, keepsL_mk, keepsR_mk, keepsL_fold, keepsR_fold, keeps_ite, keepsO_ite, keepsM_ite, keepsL_ite, keepsR_ite, ite_self, implies_true, keeps_foldl, keepsL_foldl, keepsR_foldl, keeps_spillPot, keeps_potDone, keeps_potOvf]) heq)) <;> (try simp +contextual (maxDischargeDepth := 40) only [hk, h, keepsO_next, keepsO_fault, keepsM_some, keepsM_none, keepsL_mk, keepsR_mk, keepsL_fold, keepsR_fold, keeps_ite, keepsO_ite, keepsM_ite, keepsL_ite, keepsR_ite, ite_self, implies_true, keeps_foldl, keepsL_foldl, keepsR_foldl, keeps_spillPot, keeps_potDone, keeps_potOvf]))

theorem keeps_putStats {l} {s : State} (h : Keeps l s) (x1 x2 x3) : Keeps l (State.putStats s x1 x2 x3) := by
  unfold State.putStats
  simp +contextual (maxDischargeDepth := 40) only [h, keepsO_next, keepsO_fault, keepsM_some, keepsM_none,
      keepsL_mk, keepsR_mk, keepsL_fold, keepsR_fold, keeps_ite, keepsO_ite, keepsM_ite, keepsL_ite, keepsR_ite,
      ite_self, implies_true, keeps_foldl, keepsL_foldl, keepsR_foldl, keeps_wr]

theorem keeps_statsFold {α : Type} {l} {s : State} (h : Keeps l s) (xs : List α) (f : α → List W32) (a : Nat) (b : Bool) :
    Keeps l (xs.foldl (fun (acc : State × Nat) c => (acc.1.putStats acc.2 b (f c), acc.2 + 16)) (s, a)).1 :=
  keepsL_foldl l _ _ _ h fun _ _ hs => keeps_putStats hs _ _ _

theorem keeps_endClose {l} {s : State} (h : Keeps l s) (x1 x2) : Keeps l (State.endClose s x1 x2) := by
  unfold State.endClose
  try simp +contextual (maxDischargeDepth := 40) only [h, keepsO_next, keepsO_fault, keepsM_some, keepsM_none,
      keepsL_mk, keepsR_mk, keepsL_fold, keepsR_fold, keeps_ite, keepsO_ite, keepsM_ite, keepsL_ite, keepsR_ite,
      ite_self, implies_true, keeps_foldl, keepsL_foldl, keepsR_foldl, keeps_wr, keeps_modRec, keeps_setPot]
  all_goals repeat' (split <;> (try simp +contextual (maxDischargeDepth := 40) only [h, keepsO_next, keepsO_fault,
      keepsM_some, keepsM_none, keepsL_mk, keepsR_mk, keepsL_fold, keepsR_fold, keeps_ite, keepsO_ite, keepsM_ite,
      keepsL_ite, keepsR_ite, ite_self, implies_true, keeps_foldl, keepsL_foldl, keepsR_foldl, keeps_wr,
      keeps_modRec, keeps_setPot]))

theorem keeps_runPclose {l} {s : State} (h : Keeps l s) (x1 x2 x3 x4) : Keeps l (State.runPclose s x1 x2 x3 x4) := by
  unfold State.runPclose
  (try extract_lets)
  split
  · exact keeps_potEccX h _ _ _
  · rename_i heq
    have h1 := keepsM_eq (keeps_potEcc h _ _) heq
    (try extract_lets)
    split
    · refine keeps_memX ?_ _ _ _ _
      exact keeps_scrubRegions h1 _ _
    · (try extract_lets)
      split; rename_i s2 _ heq
      have h2 : Keeps l s2 := by
        split at heq
        · refine keepsL_eq (keeps_spillInto ?_ _ _) heq
          exact keeps_scrubRegions h1 _ _
        · cases heq
          exact keeps_scrubRegions h1 _ _
      extract_lets sa pa hl cols vs sb nf bs zp q sat sc sd se
      have h3 : Keeps l sa := keeps_dite (keeps_potOvf h2 _ _) h2
      have h4 : Keeps l sb := keeps_dite (keeps_statsFold h3 _ _ _ _) h3
      have h6 : Keeps l se := keeps_modRec (keeps_whiskEvents (keeps_wrRows h4 _ _ _) _ _ _ _ _ _) _ _ _
      clear_value se sd sc sb sa
      split
      · split
        · split; rename_i heq
          have h5 := keepsL_eq (keeps_quantise h4 _ _ _ _ _ _) heq
          extract_lets sx sd os sy sf
          have h6 : Keeps l sd := keeps_dite (keeps_wrRows (keeps_wrRows h5 _ _ _) _ _ _) (keeps_wrRows h5 _ _ _)
          clear_value sd
          exact keeps_endClose (keeps_setPot (keeps_modRec (keeps_whiskEvents h6 _ _ _ _ _ _) _ _ _) _ _ _) _ _
        · exact keeps_endClose (keeps_setPot h6 _ _ _) _ _
      · (try extract_lets)
        exact keeps_sendUnits (keeps_modRec (keeps_setPot h4 _ _ _) _ _ _) _

theorem keeps_runWait {l} {s : State} (h : Keeps l s) (x1 x2) : Keeps l (State.runWait s x1 x2) := by
  unfold State.runWait
  simp only []
  split
  · exact h
  · split
    · exact keeps_setPot h _ _ _
    · split
      · split
        · exact keeps_runPopen (keeps_setPot h _ _ _) _ _ _ _ _
        · exact keeps_runSpill (keeps_setPot h _ _ _) _ _ _ _
        · exact keeps_runPclose (keeps_setPot h _ _ _) _ _ _ _
      · exact h

theorem keeps_addWait {l} {s : State} (h : Keeps l s) (x1 x2 x3) : Keeps l (State.addWait s x1 x2 x3) := by
  unfold State.addWait
  simp +contextual (maxDischargeDepth := 40) only [h, keepsO_next, keepsO_fault, keepsM_some, keepsM_none,
      keepsL_mk, keepsR_mk, keepsL_fold, keepsR_fold, keeps_ite, keepsO_ite, keepsM_ite, keepsL_ite, keepsR_ite,
      ite_self, implies_true, keeps_foldl, keepsL_foldl, keepsR_foldl, keeps_setPot, keeps_runWait]

theorem keeps_execPotWaitEnd {l} {s : State} (h : Keeps l s) (x0 x1) : KeepsO l (execPotWaitEnd x0 x1 s) := by
  unfold execPotWaitEnd
  simp +contextual (maxDischargeDepth := 40) only [h, keepsO_next, keepsO_fault, keepsM_some, keepsM_none,
      keepsL_mk, keepsR_mk, keepsL_fold, keepsR_fold, keeps_ite, keepsO_ite, keepsM_ite, keepsL_ite, keepsR_ite,
      ite_self, implies_true, keeps_foldl, keepsL_foldl, keepsR_foldl, keeps_guard, keeps_runWait]

theorem keeps_launch {l} {s : State} (h : Keeps l s) (x1 x2) : Keeps l (State.launch s x1 x2) := by
  unfold State.launch
  simp +contextual (maxDischargeDepth := 40) only [h, keepsO_next, keepsO_fault, keepsM_some, keepsM_none,
      keepsL_mk, keepsR_mk, keepsL_fold, keepsR_fold, keeps_ite, keepsO_ite, keepsM_ite, keepsL_ite, keepsR_ite,
      ite_self, implies_true, keeps_foldl, keepsL_foldl, keepsR_foldl, keeps_enter, keeps_goTo]

theorem keeps_effPopen {l} {s : State} (h : Keeps l s) (x1 x2) : Keeps l (effPopen s x1 x2) := by
  unfold effPopen
  simp +contextual (maxDischargeDepth := 40) only [h, keepsO_next, keepsO_fault, keepsM_some, keepsM_none,
      keepsL_mk, keepsR_mk, keepsL_fold, keepsR_fold, keeps_ite, keepsO_ite, keepsM_ite, keepsL_ite, keepsR_ite,
      ite_self, implies_true, keeps_foldl, keepsL_foldl, keepsR_foldl, keeps_launch, keeps_setPot, keeps_addWait]

theorem keeps_execPopen {l} {s : State} (h : Keeps l s) (x0) : KeepsO l (execPopen x0 s) := by
  unfold execPopen
  simp +contextual (maxDischargeDepth := 40) only [h, keepsO_next, keepsO_fault, keepsM_some, keepsM_none,
      keepsL_mk, keepsR_mk, keepsL_fold, keepsR_fold, keeps_ite, keepsO_ite, keepsM_ite, keepsL_ite, keepsR_ite,
      ite_self, implies_true, keeps_foldl, keepsL_foldl, keepsR_foldl, keeps_runStep, keeps_effPopen]

theorem keeps_effSpill {l} {s : State} (h : Keeps l s) (x1 x2) : Keeps l (effSpill s x1 x2) := by
  unfold effSpill
  simp +contextual (maxDischargeDepth := 40) only [h, keepsO_next, keepsO_fault, keepsM_some, keepsM_none,
      keepsL_mk, keepsR_mk, keepsL_fold, keepsR_fold, keeps_ite, keepsO_ite, keepsM_ite, keepsL_ite, keepsR_ite,
      ite_self, implies_true, keeps_foldl, keepsL_foldl, keepsR_foldl, keeps_launch, keeps_setPot, keeps_addWait]

theorem keeps_execSpill {l} {s : State} (h : Keeps l s) (x0) : KeepsO l (execSpill x0 s) := by
  unfold execSpill
  simp +contextual (maxDischargeDepth := 40) only [h, keepsO_next, keepsO_fault, keepsM_some, keepsM_none,
      keepsL_mk, keepsR_mk, keepsL_fold, keepsR_fold, keeps_ite, keepsO_ite, keepsM_ite, keepsL_ite, keepsR_ite,
      ite_self, implies_true, keeps_foldl, keepsL_foldl, keepsR_foldl, keeps_runStep, keeps_effSpill]

theorem keeps_effResume {l} {s : State} (h : Keeps l s) (x1 x2) : Keeps l (effResume s x1 x2) := by
  unfold effResume
  simp +contextual (maxDischargeDepth := 40) only [h, keepsO_next, keepsO_fault, keepsM_some, keepsM_none,
      keepsL_mk, keepsR_mk, keepsL_fold, keepsR_fold, keeps_ite, keepsO_ite, keepsM_ite, keepsL_ite, keepsR_ite,
      ite_self, implies_true, keeps_foldl, keepsL_foldl, keepsR_foldl, keeps_launch, keeps_setPot]

theorem keeps_execResume {l} {s : State} (h : Keeps l s) (x0) : KeepsO l (execResume x0 s) := by
  unfold execResume
  simp +contextual (maxDischargeDepth := 40) only [h, keepsO_next, keepsO_fault, keepsM_some, keepsM_none,
      keepsL_mk, keepsR_mk, keepsL_fold, keepsR_fold, keeps_ite, keepsO_ite, keepsM_ite, keepsL_ite, keepsR_ite,
      ite_self, implies_true, keeps_foldl, keepsL_foldl, keepsR_foldl, keeps_runStep, keeps_effResume]

theorem keeps_retryClose {l} {s : State} (h : Keeps l s) (x1 x2 x3) : Keeps l (State.retryClose s x1 x2 x3) := by
  have hk := h
  unfold State.retryClose
  try simp +contextual (maxDischargeDepth := 40) only [h, keepsO_next, keepsO_fault, keepsM_some, keepsM_none,
      keepsL_mk, keepsR_mk, keepsL_fold, keepsR_fold, keeps_ite, keepsO_ite, keepsM_ite, keepsL_ite, keepsR_ite,
      ite_self, implies_true, keeps_foldl, keepsL_foldl, keepsR_foldl, keeps_launch, keeps_potEcc, keeps_potEccX,
      keeps_endClose, keeps_modRec, keeps_setPot, keeps_sendUnits]
  all_goals repeat' (split <;> (try (rename_i heq; first | have hk := keepsR_eq (l := l) (by simp +contextual (maxDischargeDepth := 40) only [hk, h, keepsO_next, keepsO_fault, keepsM_some, keepsM_none, keepsL_mk, keepsR_mk, keepsL_fold, keepsR_fold, keeps_ite, keepsO_ite, keepsM_ite, keepsL_ite, keepsR_ite, ite_self, implies_true, keeps_foldl, keepsL_foldl, keepsR_foldl, keeps_launch, keeps_potEcc, keeps_potEccX, keeps_endClose, keeps_modRec, keeps_setPot, keeps_sendUnits]) heq | have hk := keepsL_eq (l := l) (by simp +contextual (maxDischargeDepth := 40) only [hk, h, keepsO_next, keepsO_fault, keepsM_some, keepsM_none, keepsL_mk, keepsR_mk, keepsL_fold, keepsR_fold, keeps_ite, keepsO_ite, keepsM_ite, keepsL_ite, keepsR_ite, ite_self, implies_true, keeps_foldl, keepsL_foldl, keepsR_foldl, keeps_launch, keeps_potEcc, keeps_potEccX, keeps_endClose, keeps_modRec, keeps_setPot, keeps_sendUnits]) heq | have hk := keepsM_eq (l := l) (by simp +contextual (maxDischargeDepth := 40) only [hk, h, keepsO_next, keepsO_fault, keepsM_some, keepsM_none, keepsL_mk, keepsR_mk, keepsL_fold, keepsR_fold, keeps_ite, keepsO_ite, keepsM_ite, keepsL_ite, keepsR_ite, ite_self, implies_true, keeps_foldl, keepsL_foldl, keepsR_foldl, keeps_launch, keeps_potEcc, keeps_potEccX, keeps_endClose, keeps_modRec, keeps_setPot, keeps_sendUnits]) heq)) <;> (try simp +contextual (maxDischargeDepth := 40) only [hk, h, keepsO_next, keepsO_fault, keepsM_some, keepsM_none, keepsL_mk, keepsR_mk, keepsL_fold, keepsR_fold, keeps_ite, keepsO_ite, keepsM_ite, keepsL_ite, keepsR_ite, ite_self, implies_true, keeps_foldl, keepsL_foldl, keepsR_foldl, keeps_launch, keeps_potEcc, keeps_potEccX, keeps_endClose, keeps_modRec, keeps_setPot, keeps_sendUnits]))

theorem keeps_effPclose {l} {s : State} (h : Keeps l s) (x1 x2) : Keeps l (effPclose s x1 x2) := by
  unfold effPclose
  simp +contextual (maxDischargeDepth := 40) only [h, keepsO_next, keepsO_fault, keepsM_some, keepsM_none,
      keepsL_mk, keepsR_mk, keepsL_fold, keepsR_fold, keeps_ite, keepsO_ite, keepsM_ite, keepsL_ite, keepsR_ite,
      ite_self, implies_true, keeps_foldl, keepsL_foldl, keepsR_foldl, keeps_retryClose, keeps_takeTags,
      keeps_launch, keeps_setPot, keeps_addWait]

theorem keeps_execPclose {l} {s : State} (h : Keeps l s) (x0) : KeepsO l (execPclose x0 s) := by
  unfold execPclose
  simp +contextual (maxDischargeDepth := 40) only [h, keepsO_next, keepsO_fault, keepsM_some, keepsM_none,
      keepsL_mk, keepsR_mk, keepsL_fold, keepsR_fold, keeps_ite, keepsO_ite, keepsM_ite, keepsL_ite, keepsR_ite,
      ite_self, implies_true, keeps_foldl, keepsL_foldl, keepsR_foldl, keeps_runStep, keeps_effPclose]

end Sys2Proof.Machine
end

