-- ==== Sys2Proof/Laws/KeepsPans.lean ====
section
/-! SUPPORT. Every operation keeps the queue, the canonical form of both memories and the bound of the tokens:
the Pans, replays, vector and memory steps. -/

namespace Sys2Proof.Machine

set_option linter.unusedSimpArgs false
set_option linter.unusedTactic false
set_option linter.unusedVariables false
set_option linter.unreachableTactic false

/-! ## Pan service -/

theorem keeps_condition {l} {s : State} (h : Keeps l s) (x1 x2 x3) : Keeps l (State.condition s x1 x2 x3) := by
  unfold State.condition
  simp +contextual (maxDischargeDepth := 40) only [h, keepsO_next, keepsO_fault, keepsM_some, keepsM_none,
      keepsL_mk, keepsR_mk, keepsL_fold, keepsR_fold, keeps_ite, keepsO_ite, keepsM_ite, keepsL_ite, keepsR_ite,
      ite_self, implies_true, keeps_foldl, keepsL_foldl, keepsR_foldl, keeps_send, keeps_notice]

theorem keeps_tellSpares {l} {s : State} (h : Keeps l s) (x1) : Keeps l (State.tellSpares s x1) := by
  unfold State.tellSpares
  simp +contextual (maxDischargeDepth := 40) only [h, keepsO_next, keepsO_fault, keepsM_some, keepsM_none,
      keepsL_mk, keepsR_mk, keepsL_fold, keepsR_fold, keeps_ite, keepsO_ite, keepsM_ite, keepsL_ite, keepsR_ite,
      ite_self, implies_true, keeps_foldl, keepsL_foldl, keepsR_foldl, keeps_condition, keeps_setBsk]

theorem keeps_remargin {l} {s : State} (h : Keeps l s) (x1) : Keeps l (State.remargin s x1) := by
  unfold State.remargin
  simp +contextual (maxDischargeDepth := 40) only [h, keepsO_next, keepsO_fault, keepsM_some, keepsM_none,
      keepsL_mk, keepsR_mk, keepsL_fold, keepsR_fold, keeps_ite, keepsO_ite, keepsM_ite, keepsL_ite, keepsR_ite,
      ite_self, implies_true, keeps_foldl, keepsL_foldl, keepsR_foldl, keeps_setPan]

theorem keeps_toSuspect {l} {s : State} (h : Keeps l s) (x1 x2) : Keeps l (State.toSuspect s x1 x2) := by
  unfold State.toSuspect
  simp +contextual (maxDischargeDepth := 40) only [h, keepsO_next, keepsO_fault, keepsM_some, keepsM_none,
      keepsL_mk, keepsR_mk, keepsL_fold, keepsR_fold, keeps_ite, keepsO_ite, keepsM_ite, keepsL_ite, keepsR_ite,
      ite_self, implies_true, keeps_foldl, keepsL_foldl, keepsR_foldl, keeps_setPan, keeps_raise]

theorem keeps_notApplied {l} {s : State} (h : Keeps l s) (x1) : Keeps l (State.notApplied s x1) := by
  unfold State.notApplied
  simp +contextual (maxDischargeDepth := 40) only [h, keepsO_next, keepsO_fault, keepsM_some, keepsM_none,
      keepsL_mk, keepsR_mk, keepsL_fold, keepsR_fold, keeps_ite, keepsO_ite, keepsM_ite, keepsL_ite, keepsR_ite,
      ite_self, implies_true, keeps_foldl, keepsL_foldl, keepsR_foldl, keeps_setPan, keeps_modRec]

theorem keeps_passSlot {l} {s : State} (h : Keeps l s) (x1 x2 x3) : Keeps l (State.passSlot s x1 x2 x3) := by
  unfold State.passSlot
  simp +contextual (maxDischargeDepth := 40) only [h, keepsO_next, keepsO_fault, keepsM_some, keepsM_none,
      keepsL_mk, keepsR_mk, keepsL_fold, keepsR_fold, keeps_ite, keepsO_ite, keepsM_ite, keepsL_ite, keepsR_ite,
      ite_self, implies_true, keeps_foldl, keepsL_foldl, keepsR_foldl, keeps_setPan]

theorem keeps_toCalibrating {l} {s : State} (h : Keeps l s) (x1 x2 x3) : Keeps l (State.toCalibrating s x1 x2 x3) := by
  unfold State.toCalibrating
  all_goals repeat' (split <;> (try simp +contextual (maxDischargeDepth := 40) only [h, keepsO_next, keepsO_fault,
      keepsM_some, keepsM_none, keepsL_mk, keepsR_mk, keepsL_fold, keepsR_fold, keeps_ite, keepsO_ite, keepsM_ite,
      keepsL_ite, keepsR_ite, ite_self, implies_true, keeps_foldl, keepsL_foldl, keepsR_foldl, keeps_passSlot,
      keeps_setPan, keeps_tellSpares, keeps_notApplied]))

theorem keeps_calTimeout {l} {s : State} (h : Keeps l s) (x1 x2 x3 x4) : Keeps l (State.calTimeout s x1 x2 x3 x4) := by
  unfold State.calTimeout
  simp +contextual (maxDischargeDepth := 40) only [h, keepsO_next, keepsO_fault, keepsM_some, keepsM_none,
      keepsL_mk, keepsR_mk, keepsL_fold, keepsR_fold, keeps_ite, keepsO_ite, keepsM_ite, keepsL_ite, keepsR_ite,
      ite_self, implies_true, keeps_foldl, keepsL_foldl, keepsR_foldl, keeps_raise]

theorem keeps_abandonSweep {l} {s : State} (h : Keeps l s) : Keeps l (State.abandonSweep s) := by
  unfold State.abandonSweep
  all_goals repeat' (split <;> (try simp +contextual (maxDischargeDepth := 40) only [h, keeps_mk, keeps_fold,
      keepsO_next, keepsO_fault, keepsM_some, keepsM_none, keepsL_mk, keepsR_mk, keepsL_fold, keepsR_fold,
      keeps_ite, keepsO_ite, keepsM_ite, keepsL_ite, keepsR_ite, ite_self, implies_true, keeps_foldl, keepsL_foldl,
      keepsR_foldl, keeps_calTimeout, keeps_setPan, keeps_tellSpares]))

theorem keeps_abandonIn {l} {s : State} (h : Keeps l s) (x1) : Keeps l (State.abandonIn s x1) := by
  unfold State.abandonIn
  all_goals repeat' (split <;> (try simp +contextual (maxDischargeDepth := 40) only [h, keepsO_next, keepsO_fault,
      keepsM_some, keepsM_none, keepsL_mk, keepsR_mk, keepsL_fold, keepsR_fold, keeps_ite, keepsO_ite, keepsM_ite,
      keepsL_ite, keepsR_ite, ite_self, implies_true, keeps_foldl, keepsL_foldl, keepsR_foldl,
      keeps_abandonSweep]))

theorem keeps_ladderSpare {l} {s : State} (h : Keeps l s) (x1) : KeepsR l (State.ladderSpare s x1) := by
  unfold State.ladderSpare
  all_goals repeat' (split <;> (try simp +contextual (maxDischargeDepth := 40) only [h, keepsO_next, keepsO_fault,
      keepsM_some, keepsM_none, keepsL_mk, keepsR_mk, keepsL_fold, keepsR_fold, keeps_ite, keepsO_ite, keepsM_ite,
      keepsL_ite, keepsR_ite, ite_self, implies_true, keeps_foldl, keepsL_foldl, keepsR_foldl, keeps_at,
      keeps_abandonSweep]))

theorem keeps_testTurn {l} {s : State} (h : Keeps l s) : Keeps l (State.testTurn s) := by
  unfold State.testTurn
  all_goals repeat' (split <;> (try simp +contextual (maxDischargeDepth := 40) only [h, keepsO_next, keepsO_fault,
      keepsM_some, keepsM_none, keepsL_mk, keepsR_mk, keepsL_fold, keepsR_fold, keeps_ite, keepsO_ite, keepsM_ite,
      keepsL_ite, keepsR_ite, ite_self, implies_true, keeps_foldl, keepsL_foldl, keepsR_foldl, keeps_setBsk]))

theorem keeps_retireBasket {l} {s : State} (h : Keeps l s) (x1 x2) : Keeps l (State.retireBasket s x1 x2) := by
  unfold State.retireBasket
  simp +contextual (maxDischargeDepth := 40) only [h, keepsO_next, keepsO_fault, keepsM_some, keepsM_none,
      keepsL_mk, keepsR_mk, keepsL_fold, keepsR_fold, keeps_ite, keepsO_ite, keepsM_ite, keepsL_ite, keepsR_ite,
      ite_self, implies_true, keeps_foldl, keepsL_foldl, keepsR_foldl, keeps_abandonIn, keeps_evict, keeps_setBsk,
      keeps_bbrPut, keeps_testTurn, keeps_raise]

theorem keeps_retirePan {l} {s : State} (h : Keeps l s) (x1 x2) : Keeps l (State.retirePan s x1 x2) := by
  unfold State.retirePan
  all_goals repeat' (split <;> (try simp +contextual (maxDischargeDepth := 40) only [h, keepsO_next, keepsO_fault,
      keepsM_some, keepsM_none, keepsL_mk, keepsR_mk, keepsL_fold, keepsR_fold, keeps_ite, keepsO_ite, keepsM_ite,
      keepsL_ite, keepsR_ite, ite_self, implies_true, keeps_foldl, keepsL_foldl, keepsR_foldl, keeps_passSlot,
      keeps_setPan, keeps_bbrPut, keeps_raise, keeps_tellSpares, keeps_notApplied, keeps_retireBasket]))

/-! ## Pans and the Pan steps -/

theorem keeps_settleMvm {l} {s : State} (h : Keeps l s) (x1 x2) : Keeps l (State.settleMvm s x1 x2) := by
  unfold State.settleMvm
  all_goals repeat' (split <;> (try simp +contextual (maxDischargeDepth := 40) only [h, keeps_mk, keeps_fold,
      keepsO_next, keepsO_fault, keepsM_some, keepsM_none, keepsL_mk, keepsR_mk, keepsL_fold, keepsR_fold,
      keeps_ite, keepsO_ite, keepsM_ite, keepsL_ite, keepsR_ite, ite_self, implies_true, keeps_foldl, keepsL_foldl,
      keepsR_foldl, keeps_setBsk, keeps_setPan]))

theorem keeps_loadX {l} {s : State} (h : Keeps l s) (x1 x2) : Keeps l (State.loadX s x1 x2) := by
  unfold State.loadX
  all_goals repeat' (split <;> (try simp +contextual (maxDischargeDepth := 40) only [h, keepsO_next, keepsO_fault,
      keepsM_some, keepsM_none, keepsL_mk, keepsR_mk, keepsL_fold, keepsR_fold, keeps_ite, keepsO_ite, keepsM_ite,
      keepsL_ite, keepsR_ite, ite_self, implies_true, keeps_foldl, keepsL_foldl, keepsR_foldl, keeps_memX,
      keeps_raise]))

theorem keeps_fetchTile {l} {s : State} (h : Keeps l s) (x1 x2 x3) : KeepsL l (State.fetchTile s x1 x2 x3) := by
  unfold State.fetchTile
  simp +contextual (maxDischargeDepth := 40) only [h, keeps_mk, keeps_fold, keepsO_next, keepsO_fault, keepsM_some,
      keepsM_none, keepsL_mk, keepsR_mk, keepsL_fold, keepsR_fold, keeps_ite, keepsO_ite, keepsM_ite, keepsL_ite,
      keepsR_ite, ite_self, implies_true, keeps_foldl, keepsL_foldl, keepsR_foldl, keeps_setPan, keeps_takeTags,
      keeps_sendUnits]

theorem keeps_loadTile {l} {s : State} (h : Keeps l s) (x1 x2 x3 x4 x5) : KeepsL l (State.loadTile s x1 x2 x3 x4
    x5) := by
  unfold State.loadTile
  all_goals repeat' (split <;> (try simp +contextual (maxDischargeDepth := 40) only [h, keepsO_next, keepsO_fault,
      keepsM_some, keepsM_none, keepsL_mk, keepsR_mk, keepsL_fold, keepsR_fold, keeps_ite, keepsO_ite, keepsM_ite,
      keepsL_ite, keepsR_ite, ite_self, implies_true, keeps_foldl, keepsL_foldl, keepsR_foldl, keeps_loadX,
      keeps_scrubRegions, keeps_hostX, keeps_raise, keeps_fetchTile, keeps_setPan, keeps_setBsk]))

theorem keeps_popWrite {l} {s : State} (h : Keeps l s) (x1) : Keeps l (State.popWrite s x1) := by
  unfold State.popWrite
  simp +contextual (maxDischargeDepth := 40) only [h, keepsO_next, keepsO_fault, keepsM_some, keepsM_none,
      keepsL_mk, keepsR_mk, keepsL_fold, keepsR_fold, keeps_ite, keepsO_ite, keepsM_ite, keepsL_ite, keepsR_ite,
      ite_self, implies_true, keeps_foldl, keepsL_foldl, keepsR_foldl, keeps_setPan]

theorem keeps_copyError {l} {s : State} (h : Keeps l s) (x1 x2) : Keeps l (State.copyError s x1 x2) := by
  unfold State.copyError
  simp +contextual (maxDischargeDepth := 40) only [h, keepsO_next, keepsO_fault, keepsM_some, keepsM_none,
      keepsL_mk, keepsR_mk, keepsL_fold, keepsR_fold, keeps_ite, keepsO_ite, keepsM_ite, keepsL_ite, keepsR_ite,
      ite_self, implies_true, keeps_foldl, keepsL_foldl, keepsR_foldl, keeps_raise, keeps_setPan]

theorem keeps_wrefBank {l} {s : State} (h : Keeps l s) (x1 x2 x3) : KeepsL l (State.wrefBank s x1 x2 x3) := by
  unfold State.wrefBank
  simp +contextual (maxDischargeDepth := 40) only [h, keepsO_next, keepsO_fault, keepsM_some, keepsM_none,
      keepsL_mk, keepsR_mk, keepsL_fold, keepsR_fold, keeps_ite, keepsO_ite, keepsM_ite, keepsL_ite, keepsR_ite,
      ite_self, implies_true, keeps_foldl, keepsL_foldl, keepsR_foldl, keeps_copyError, keeps_setPan]

theorem keeps_writeNext {l} {s : State} (h : Keeps l s) (x1) : Keeps l (State.writeNext s x1) := by
  unfold State.writeNext
  all_goals repeat' (split <;> (try simp +contextual (maxDischargeDepth := 40) only [h, keepsO_next, keepsO_fault,
      keepsM_some, keepsM_none, keepsL_mk, keepsR_mk, keepsL_fold, keepsR_fold, keeps_ite, keepsO_ite, keepsM_ite,
      keepsL_ite, keepsR_ite, ite_self, implies_true, keeps_foldl, keepsL_foldl, keepsR_foldl, keeps_loadTile,
      keeps_modRec, keeps_popWrite, keeps_wrefBank]))

theorem keeps_execTileLoad {l} {s : State} (h : Keeps l s) (x0) : KeepsO l (execTileLoad x0 s) := by
  unfold execTileLoad
  simp +contextual (maxDischargeDepth := 40) only [h, keepsO_next, keepsO_fault, keepsM_some, keepsM_none,
      keepsL_mk, keepsR_mk, keepsL_fold, keepsR_fold, keeps_ite, keepsO_ite, keepsM_ite, keepsL_ite, keepsR_ite,
      ite_self, implies_true, keeps_foldl, keepsL_foldl, keepsR_foldl, keeps_guard, keeps_writeNext]

theorem keeps_bankStall {l} {s : State} (h : Keeps l s) (x1) : Keeps l (State.bankStall s x1) := by
  unfold State.bankStall
  simp +contextual (maxDischargeDepth := 40) only [h, keepsO_next, keepsO_fault, keepsM_some, keepsM_none,
      keepsL_mk, keepsR_mk, keepsL_fold, keepsR_fold, keeps_ite, keepsO_ite, keepsM_ite, keepsL_ite, keepsR_ite,
      ite_self, implies_true, keeps_foldl, keepsL_foldl, keepsR_foldl, keeps_setPan, keeps_fresh, keeps_setBsk]

theorem keeps_bankWait {l} {s : State} (h : Keeps l s) (x1) : Keeps l (State.bankWait s x1) := by
  unfold State.bankWait
  simp +contextual (maxDischargeDepth := 40) only [h, keepsO_next, keepsO_fault, keepsM_some, keepsM_none,
      keepsL_mk, keepsR_mk, keepsL_fold, keepsR_fold, keeps_ite, keepsO_ite, keepsM_ite, keepsL_ite, keepsR_ite,
      ite_self, implies_true, keeps_foldl, keepsL_foldl, keepsR_foldl, keeps_bankStall, keeps_setPan]

theorem keeps_swapNext {l} {s : State} (h : Keeps l s) (x1) : Keeps l (State.swapNext s x1) := by
  unfold State.swapNext
  try simp +contextual (maxDischargeDepth := 40) only [h, keepsO_next, keepsO_fault, keepsM_some, keepsM_none,
      keepsL_mk, keepsR_mk, keepsL_fold, keepsR_fold, keeps_ite, keepsO_ite, keepsM_ite, keepsL_ite, keepsR_ite,
      ite_self, implies_true, keeps_foldl, keepsL_foldl, keepsR_foldl, keeps_bankWait, keeps_modRec, keeps_setPan,
      keeps_bankStall]
  all_goals repeat' (split <;> (try simp +contextual (maxDischargeDepth := 40) only [h, keepsO_next, keepsO_fault,
      keepsM_some, keepsM_none, keepsL_mk, keepsR_mk, keepsL_fold, keepsR_fold, keeps_ite, keepsO_ite, keepsM_ite,
      keepsL_ite, keepsR_ite, ite_self, implies_true, keeps_foldl, keepsL_foldl, keepsR_foldl, keeps_bankWait,
      keeps_modRec, keeps_setPan, keeps_bankStall]))

theorem keeps_execBankSwap {l} {s : State} (h : Keeps l s) (x0) : KeepsO l (execBankSwap x0 s) := by
  unfold execBankSwap
  simp +contextual (maxDischargeDepth := 40) only [h, keepsO_next, keepsO_fault, keepsM_some, keepsM_none,
      keepsL_mk, keepsR_mk, keepsL_fold, keepsR_fold, keeps_ite, keepsO_ite, keepsM_ite, keepsL_ite, keepsR_ite,
      ite_self, implies_true, keeps_foldl, keepsL_foldl, keepsR_foldl, keeps_guard, keeps_swapNext]

theorem keeps_refresh {l} {s : State} (h : Keeps l s) (x1 x2 x3) : Keeps l (State.refresh s x1 x2 x3) := by
  unfold State.refresh
  simp +contextual (maxDischargeDepth := 40) only [h, keepsO_next, keepsO_fault, keepsM_some, keepsM_none,
      keepsL_mk, keepsR_mk, keepsL_fold, keepsR_fold, keeps_ite, keepsO_ite, keepsM_ite, keepsL_ite, keepsR_ite,
      ite_self, implies_true, keeps_foldl, keepsL_foldl, keepsR_foldl, keeps_at, keeps_copyError, keeps_setPan,
      keeps_raise]

theorem keeps_execBankRefresh {l} {s : State} (h : Keeps l s) (x0 x1 x2) : KeepsO l (execBankRefresh x0 x1 x2 s) := by
  unfold execBankRefresh
  simp +contextual (maxDischargeDepth := 40) only [h, keepsO_next, keepsO_fault, keepsM_some, keepsM_none,
      keepsL_mk, keepsR_mk, keepsL_fold, keepsR_fold, keeps_ite, keepsO_ite, keepsM_ite, keepsL_ite, keepsR_ite,
      ite_self, implies_true, keeps_foldl, keepsL_foldl, keepsR_foldl, keeps_guard, keeps_refresh]

theorem keeps_panStep {l} {s : State} (h : Keeps l s) (x1 x2 x3 x4 x5) (hf5 : ∀ y0 y1, Keeps l y0 → Keeps l (x5 y0
    y1)) : Keeps l (State.panStep s x1 x2 x3 x4 x5) := by
  unfold State.panStep
  simp +contextual (maxDischargeDepth := 40) only [h, hf5, keepsO_next, keepsO_fault, keepsM_some, keepsM_none,
      keepsL_mk, keepsR_mk, keepsL_fold, keepsR_fold, keeps_ite, keepsO_ite, keepsM_ite, keepsL_ite, keepsR_ite,
      ite_self, implies_true, keeps_foldl, keepsL_foldl, keepsR_foldl, keeps_setPan, keeps_launch]

theorem keeps_effWld {l} {s : State} (h : Keeps l s) (x1 x2) : Keeps l (effWld s x1 x2) := by
  unfold effWld
  simp +contextual (maxDischargeDepth := 40) only [h, keepsO_next, keepsO_fault, keepsM_some, keepsM_none,
      keepsL_mk, keepsR_mk, keepsL_fold, keepsR_fold, keeps_ite, keepsO_ite, keepsM_ite, keepsL_ite, keepsR_ite,
      ite_self, implies_true, keeps_foldl, keepsL_foldl, keepsR_foldl, keeps_panStep, keeps_writeNext]

theorem keeps_execWld {l} {s : State} (h : Keeps l s) (x0) : KeepsO l (execWld x0 s) := by
  unfold execWld
  simp +contextual (maxDischargeDepth := 40) only [h, keepsO_next, keepsO_fault, keepsM_some, keepsM_none,
      keepsL_mk, keepsR_mk, keepsL_fold, keepsR_fold, keeps_ite, keepsO_ite, keepsM_ite, keepsL_ite, keepsR_ite,
      ite_self, implies_true, keeps_foldl, keepsL_foldl, keepsR_foldl, keeps_runStep, keeps_effWld]

theorem keeps_effWsw {l} {s : State} (h : Keeps l s) (x1 x2) : Keeps l (effWsw s x1 x2) := by
  unfold effWsw
  simp +contextual (maxDischargeDepth := 40) only [h, keepsO_next, keepsO_fault, keepsM_some, keepsM_none,
      keepsL_mk, keepsR_mk, keepsL_fold, keepsR_fold, keeps_ite, keepsO_ite, keepsM_ite, keepsL_ite, keepsR_ite,
      ite_self, implies_true, keeps_foldl, keepsL_foldl, keepsR_foldl, keeps_panStep, keeps_swapNext]

theorem keeps_execWsw {l} {s : State} (h : Keeps l s) (x0) : KeepsO l (execWsw x0 s) := by
  unfold execWsw
  simp +contextual (maxDischargeDepth := 40) only [h, keepsO_next, keepsO_fault, keepsM_some, keepsM_none,
      keepsL_mk, keepsR_mk, keepsL_fold, keepsR_fold, keeps_ite, keepsO_ite, keepsM_ite, keepsL_ite, keepsR_ite,
      ite_self, implies_true, keeps_foldl, keepsL_foldl, keepsR_foldl, keeps_runStep, keeps_effWsw]

theorem keeps_effWref {l} {s : State} (h : Keeps l s) (x1 x2) : Keeps l (effWref s x1 x2) := by
  unfold effWref
  simp +contextual (maxDischargeDepth := 40) only [h, keepsO_next, keepsO_fault, keepsM_some, keepsM_none,
      keepsL_mk, keepsR_mk, keepsL_fold, keepsR_fold, keeps_ite, keepsO_ite, keepsM_ite, keepsL_ite, keepsR_ite,
      ite_self, implies_true, keeps_foldl, keepsL_foldl, keepsR_foldl, keeps_panStep, keeps_writeNext]

theorem keeps_execWref {l} {s : State} (h : Keeps l s) (x0) : KeepsO l (execWref x0 s) := by
  unfold execWref
  simp +contextual (maxDischargeDepth := 40) only [h, keepsO_next, keepsO_fault, keepsM_some, keepsM_none,
      keepsL_mk, keepsR_mk, keepsL_fold, keepsR_fold, keeps_ite, keepsO_ite, keepsM_ite, keepsL_ite, keepsR_ite,
      ite_self, implies_true, keeps_foldl, keepsL_foldl, keepsR_foldl, keeps_runStep, keeps_effWref]

theorem keeps_mvmIssue {l} {s : State} (h : Keeps l s) (x1 x2 x3) : Keeps l (State.mvmIssue s x1 x2 x3) := by
  unfold State.mvmIssue
  refine keeps_foldl l _ _ _ ?_ ?_
  · simp +contextual (maxDischargeDepth := 40) only [h, keeps_setBsk, keeps_foldl, keeps_setPot, implies_true,
      keeps_ite, keeps_whiskEvents, keeps_launch, ite_self]
  · intro s i hs
    split
    · exact keeps_setPan hs _ _
    · exact hs

theorem keeps_execMvm {l} {s : State} (h : Keeps l s) (x0) : KeepsO l (execMvm x0 s) := by
  unfold execMvm
  simp +contextual (maxDischargeDepth := 40) only [h, keepsO_next, keepsO_fault, keepsM_some, keepsM_none,
      keepsL_mk, keepsR_mk, keepsL_fold, keepsR_fold, keeps_ite, keepsO_ite, keepsM_ite, keepsL_ite, keepsR_ite,
      ite_self, implies_true, keeps_foldl, keepsL_foldl, keepsR_foldl, keeps_runStep, keeps_mvmIssue]

theorem keeps_execMvmw {l} {s : State} (h : Keeps l s) (x0) : KeepsO l (execMvmw x0 s) := by
  unfold execMvmw
  simp +contextual (maxDischargeDepth := 40) only [h, keepsO_next, keepsO_fault, keepsM_some, keepsM_none,
      keepsL_mk, keepsR_mk, keepsL_fold, keepsR_fold, keeps_ite, keepsO_ite, keepsM_ite, keepsL_ite, keepsR_ite,
      ite_self, implies_true, keeps_foldl, keepsL_foldl, keepsR_foldl, keeps_runStep, keeps_mvmIssue]

theorem keeps_runOn {l} {s : State} (h : Keeps l s) (x1 x2 x3 x4) : KeepsL l (State.runOn s x1 x2 x3 x4) := by
  unfold State.runOn
  simp +contextual (maxDischargeDepth := 40) only [h, keeps_mk, keeps_fold, keepsO_next, keepsO_fault, keepsM_some,
      keepsM_none, keepsL_mk, keepsR_mk, keepsL_fold, keepsR_fold, keeps_ite, keepsO_ite, keepsM_ite, keepsL_ite,
      keepsR_ite, ite_self, implies_true, keeps_foldl, keepsL_foldl, keepsR_foldl, keeps_setPan]

theorem keeps_modWin {l} {s : State} (h : Keeps l s) (x1 x2 x3) : Keeps l (State.modWin s x1 x2 x3) := by
  unfold State.modWin
  simp +contextual (maxDischargeDepth := 40) only [h, keepsO_next, keepsO_fault, keepsM_some, keepsM_none,
      keepsL_mk, keepsR_mk, keepsL_fold, keepsR_fold, keeps_ite, keepsO_ite, keepsM_ite, keepsL_ite, keepsR_ite,
      ite_self, implies_true, keeps_foldl, keepsL_foldl, keepsR_foldl, keeps_setPan]

theorem keeps_addSums {l} {s : State} (h : Keeps l s) (x1) : Keeps l (State.addSums s x1) := by
  unfold State.addSums
  simp +contextual (maxDischargeDepth := 40) only [h, keepsO_next, keepsO_fault, keepsM_some, keepsM_none,
      keepsL_mk, keepsR_mk, keepsL_fold, keepsR_fold, keeps_ite, keepsO_ite, keepsM_ite, keepsL_ite, keepsR_ite,
      ite_self, implies_true, keeps_foldl, keepsL_foldl, keepsR_foldl, keeps_setPan]

theorem keeps_commit {l} {s : State} (h : Keeps l s) (x1 x2) : Keeps l (State.commit s x1 x2) := by
  unfold State.commit
  all_goals repeat' (split <;> (try simp +contextual (maxDischargeDepth := 40) only [h, keepsO_next, keepsO_fault,
      keepsM_some, keepsM_none, keepsL_mk, keepsR_mk, keepsL_fold, keepsR_fold, keeps_ite, keepsO_ite, keepsM_ite,
      keepsL_ite, keepsR_ite, ite_self, implies_true, keeps_foldl, keepsL_foldl, keepsR_foldl, keeps_addSums,
      keeps_setBsk, keeps_modWin, keeps_raiseS, keeps_modRec, keeps_setPan]))

theorem keeps_draw {l} {s : State} (h : Keeps l s) (x1 x2) : KeepsL l (State.draw s x1 x2) := by
  unfold State.draw
  try simp +contextual (maxDischargeDepth := 40) only [h, keeps_mk, keeps_fold, keepsO_next, keepsO_fault,
      keepsM_some, keepsM_none, keepsL_mk, keepsR_mk, keepsL_fold, keepsR_fold, keeps_ite, keepsO_ite, keepsM_ite,
      keepsL_ite, keepsR_ite, ite_self, implies_true, keeps_foldl, keepsL_foldl, keepsR_foldl, keeps_setBsk,
      keeps_setPan]
  all_goals repeat' (split <;> (try simp +contextual (maxDischargeDepth := 40) only [h, keeps_mk, keeps_fold,
      keepsO_next, keepsO_fault, keepsM_some, keepsM_none, keepsL_mk, keepsR_mk, keepsL_fold, keepsR_fold,
      keeps_ite, keepsO_ite, keepsM_ite, keepsL_ite, keepsR_ite, ite_self, implies_true, keeps_foldl, keepsL_foldl,
      keepsR_foldl, keeps_setBsk, keeps_setPan]))

theorem keeps_grantFast {l} {s : State} (h : Keeps l s) (x1 x2) : KeepsL l (State.grantFast s x1 x2) := by
  unfold State.grantFast
  simp +contextual (maxDischargeDepth := 40) only [h, keeps_mk, keeps_fold, keepsO_next, keepsO_fault, keepsM_some,
      keepsM_none, keepsL_mk, keepsR_mk, keepsL_fold, keepsR_fold, keeps_ite, keepsO_ite, keepsM_ite, keepsL_ite,
      keepsR_ite, ite_self, implies_true, keeps_foldl, keepsL_foldl, keepsR_foldl, keeps_setBsk]

theorem keeps_holdPan {l} {s : State} (h : Keeps l s) (x1 x2) : Keeps l (State.holdPan s x1 x2) := by
  unfold State.holdPan
  simp +contextual (maxDischargeDepth := 40) only [h, keepsO_next, keepsO_fault, keepsM_some, keepsM_none,
      keepsL_mk, keepsR_mk, keepsL_fold, keepsR_fold, keeps_ite, keepsO_ite, keepsM_ite, keepsL_ite, keepsR_ite,
      ite_self, implies_true, keeps_foldl, keepsL_foldl, keepsR_foldl, keeps_setPan]

theorem keeps_blockEnd {l} {s : State} (h : Keeps l s) (x1 x2 x3 x4 x5 x6) : Keeps l (State.blockEnd s x1 x2 x3 x4 x5 x6) := by
  unfold State.blockEnd
  (try extract_lets)
  split
  · exact keeps_memX (keeps_scrubRegions h _ _) _ _ _ _
  · exact h
  · split
    · exact keeps_holdPan h _ _
    · split
      · exact keeps_holdPan (keeps_fresh (keeps_setBsk h _ _)) _ _
      · split
        · exact keeps_holdPan h _ _
        · (try extract_lets)
          split; rename_i heq
          have h1 := keepsL_eq (keeps_grantFast (keeps_scrubRegions h _ _) _ _) heq
          (try extract_lets)
          split
          (try extract_lets)
          split
          (try extract_lets)
          split
          (try extract_lets)
          split; rename_i heq
          have h2 := keepsL_eq (keeps_draw (keeps_dite (keeps_modWin (keeps_setPan (keeps_setBsk h1 _ _) _ _) _ _ _) (keeps_setPan (keeps_setBsk h1 _ _) _ _)) _ _) heq
          split; rename_i heq
          have h3 := keeps_setPan (keepsL_eq (keeps_runOn h2 _ _ _ _) heq)
          (try extract_lets)
          split
          · split
            · exact keeps_setPan (h3 _ _) _ _
            · exact keeps_setPan (keeps_commit (h3 _ _) _ _) _ _
          · exact keeps_setPan (h3 _ _) _ _

theorem keeps_groupBlock {l} {s : State} (h : Keeps l s) (x1 x2) : Keeps l (State.groupBlock s x1 x2) := by
  unfold State.groupBlock
  try simp +contextual (maxDischargeDepth := 40) only [h, keepsO_next, keepsO_fault, keepsM_some, keepsM_none,
      keepsL_mk, keepsR_mk, keepsL_fold, keepsR_fold, keeps_ite, keepsO_ite, keepsM_ite, keepsL_ite, keepsR_ite,
      ite_self, implies_true, keeps_foldl, keepsL_foldl, keepsR_foldl, keeps_settleMvm, keeps_blockEnd]
  all_goals repeat' (split <;> (try simp +contextual (maxDischargeDepth := 40) only [h, keepsO_next, keepsO_fault,
      keepsM_some, keepsM_none, keepsL_mk, keepsR_mk, keepsL_fold, keepsR_fold, keeps_ite, keepsO_ite, keepsM_ite,
      keepsL_ite, keepsR_ite, ite_self, implies_true, keeps_foldl, keepsL_foldl, keepsR_foldl, keeps_settleMvm,
      keeps_blockEnd]))

theorem keeps_execGroupBlockEnd {l} {s : State} (h : Keeps l s) (x0 x1) : KeepsO l (execGroupBlockEnd x0 x1 s) := by
  unfold execGroupBlockEnd
  simp +contextual (maxDischargeDepth := 40) only [h, keepsO_next, keepsO_fault, keepsM_some, keepsM_none,
      keepsL_mk, keepsR_mk, keepsL_fold, keepsR_fold, keeps_ite, keepsO_ite, keepsM_ite, keepsL_ite, keepsR_ite,
      ite_self, implies_true, keeps_foldl, keepsL_foldl, keepsR_foldl, keeps_guard, keeps_groupBlock]

theorem keeps_windowParity {l} {s : State} (h : Keeps l s) (x1 x2 x3 x4 x5) : Keeps l (State.windowParity s x1 x2
    x3 x4 x5) := by
  unfold State.windowParity
  simp +contextual (maxDischargeDepth := 40) only [h, keepsO_next, keepsO_fault, keepsM_some, keepsM_none,
      keepsL_mk, keepsR_mk, keepsL_fold, keepsR_fold, keeps_ite, keepsO_ite, keepsM_ite, keepsL_ite, keepsR_ite,
      ite_self, implies_true, keeps_foldl, keepsL_foldl, keepsR_foldl, keeps_raiseS, keeps_modWin, keeps_setPan,
      keeps_raiseX]

theorem keeps_promote {l} {s : State} (h : Keeps l s) (x1 x2 x3 x4 x5 x6) : Keeps l (State.promote s x1 x2 x3 x4 x5
    x6) := by
  have hk := h
  unfold State.promote
  try simp +contextual (maxDischargeDepth := 40) only [h, keepsO_next, keepsO_fault, keepsM_some, keepsM_none,
      keepsL_mk, keepsR_mk, keepsL_fold, keepsR_fold, keeps_ite, keepsO_ite, keepsM_ite, keepsL_ite, keepsR_ite,
      ite_self, implies_true, keeps_foldl, keepsL_foldl, keepsR_foldl, keeps_potEccIn, keeps_potEccX, keeps_setPot,
      keeps_potOvf, keeps_setPan, keeps_modWin, keeps_settleMvm]
  all_goals repeat' (split <;> (try (rename_i heq; first | have hk := keepsR_eq (l := l) (by simp +contextual (maxDischargeDepth := 40) only [hk, h, keepsO_next, keepsO_fault, keepsM_some, keepsM_none, keepsL_mk, keepsR_mk, keepsL_fold, keepsR_fold, keeps_ite, keepsO_ite, keepsM_ite, keepsL_ite, keepsR_ite, ite_self, implies_true, keeps_foldl, keepsL_foldl, keepsR_foldl, keeps_potEccIn, keeps_potEccX, keeps_setPot, keeps_potOvf, keeps_setPan, keeps_modWin, keeps_settleMvm]) heq | have hk := keepsL_eq (l := l) (by simp +contextual (maxDischargeDepth := 40) only [hk, h, keepsO_next, keepsO_fault, keepsM_some, keepsM_none, keepsL_mk, keepsR_mk, keepsL_fold, keepsR_fold, keeps_ite, keepsO_ite, keepsM_ite, keepsL_ite, keepsR_ite, ite_self, implies_true, keeps_foldl, keepsL_foldl, keepsR_foldl, keeps_potEccIn, keeps_potEccX, keeps_setPot, keeps_potOvf, keeps_setPan, keeps_modWin, keeps_settleMvm]) heq | have hk := keepsM_eq (l := l) (by simp +contextual (maxDischargeDepth := 40) only [hk, h, keepsO_next, keepsO_fault, keepsM_some, keepsM_none, keepsL_mk, keepsR_mk, keepsL_fold, keepsR_fold, keeps_ite, keepsO_ite, keepsM_ite, keepsL_ite, keepsR_ite, ite_self, implies_true, keeps_foldl, keepsL_foldl, keepsR_foldl, keeps_potEccIn, keeps_potEccX, keeps_setPot, keeps_potOvf, keeps_setPan, keeps_modWin, keeps_settleMvm]) heq)) <;> (try simp +contextual (maxDischargeDepth := 40) only [hk, h, keepsO_next, keepsO_fault, keepsM_some, keepsM_none, keepsL_mk, keepsR_mk, keepsL_fold, keepsR_fold, keeps_ite, keepsO_ite, keepsM_ite, keepsL_ite, keepsR_ite, ite_self, implies_true, keeps_foldl, keepsL_foldl, keepsR_foldl, keeps_potEccIn, keeps_potEccX, keeps_setPot, keeps_potOvf, keeps_setPan, keeps_modWin, keeps_settleMvm]))

theorem keeps_execPromotion {l} {s : State} (h : Keeps l s) (x0 x1 x2 x3) : KeepsO l (execPromotion x0 x1 x2 x3 s) := by
  unfold execPromotion
  all_goals repeat' (split <;> (try simp +contextual (maxDischargeDepth := 40) only [h, keepsO_next, keepsO_fault,
      keepsM_some, keepsM_none, keepsL_mk, keepsR_mk, keepsL_fold, keepsR_fold, keeps_ite, keepsO_ite, keepsM_ite,
      keepsL_ite, keepsR_ite, ite_self, implies_true, keeps_foldl, keepsL_foldl, keepsR_foldl, keeps_guard,
      keeps_windowParity, keeps_promote]))

theorem keeps_panClear {l} {s : State} (h : Keeps l s) (x1) : Keeps l (State.panClear s x1) := by
  unfold State.panClear
  simp +contextual (maxDischargeDepth := 40) only [h, keepsO_next, keepsO_fault, keepsM_some, keepsM_none,
      keepsL_mk, keepsR_mk, keepsL_fold, keepsR_fold, keeps_ite, keepsO_ite, keepsM_ite, keepsL_ite, keepsR_ite,
      ite_self, implies_true, keeps_foldl, keepsL_foldl, keepsR_foldl, keeps_setPan]

theorem keeps_execPanCntClr {l} {s : State} (h : Keeps l s) (x0) : KeepsO l (execPanCntClr x0 s) := by
  unfold execPanCntClr
  simp +contextual (maxDischargeDepth := 40) only [h, keepsO_next, keepsO_fault, keepsM_some, keepsM_none,
      keepsL_mk, keepsR_mk, keepsL_fold, keepsR_fold, keeps_ite, keepsO_ite, keepsM_ite, keepsL_ite, keepsR_ite,
      ite_self, implies_true, keeps_foldl, keepsL_foldl, keepsR_foldl, keeps_guard, keeps_panClear]

/-! ## Replays -/

theorem keeps_chk {l} {s : State} (h : Keeps l s) (x1 x2 x3 x4) : Keeps l (State.chk s x1 x2 x3 x4) := by
  unfold State.chk
  all_goals repeat' (split <;> (try simp +contextual (maxDischargeDepth := 40) only [h, keepsO_next, keepsO_fault,
      keepsM_some, keepsM_none, keepsL_mk, keepsR_mk, keepsL_fold, keepsR_fold, keeps_ite, keepsO_ite, keepsM_ite,
      keepsL_ite, keepsR_ite, ite_self, implies_true, keeps_foldl, keepsL_foldl, keepsR_foldl, keeps_raiseS]))

theorem keeps_chkX {l} {s : State} (h : Keeps l s) (x1 x2 x3) : Keeps l (State.chkX s x1 x2 x3) := by
  unfold State.chkX
  all_goals repeat' (split <;> (try simp +contextual (maxDischargeDepth := 40) only [h, keepsO_next, keepsO_fault,
      keepsM_some, keepsM_none, keepsL_mk, keepsR_mk, keepsL_fold, keepsR_fold, keeps_ite, keepsO_ite, keepsM_ite,
      keepsL_ite, keepsR_ite, ite_self, implies_true, keeps_foldl, keepsL_foldl, keepsR_foldl, keeps_raiseX]))

theorem keeps_dropLadder {l} {s : State} (h : Keeps l s) (x1 x2) : Keeps l (State.dropLadder s x1 x2) := by
  unfold State.dropLadder
  simp +contextual (maxDischargeDepth := 40) only [h, keepsO_next, keepsO_fault, keepsM_some, keepsM_none,
      keepsL_mk, keepsR_mk, keepsL_fold, keepsR_fold, keeps_ite, keepsO_ite, keepsM_ite, keepsL_ite, keepsR_ite,
      ite_self, implies_true, keeps_foldl, keepsL_foldl, keepsR_foldl, keeps_setPan]

theorem keeps_replayed {l} {s : State} (h : Keeps l s) (x1 x2) : Keeps l (State.replayed s x1 x2) := by
  unfold State.replayed
  simp +contextual (maxDischargeDepth := 40) only [h, keepsO_next, keepsO_fault, keepsM_some, keepsM_none,
      keepsL_mk, keepsR_mk, keepsL_fold, keepsR_fold, keeps_ite, keepsO_ite, keepsM_ite, keepsL_ite, keepsR_ite,
      ite_self, implies_true, keeps_foldl, keepsL_foldl, keepsR_foldl, keeps_modRec]

theorem keeps_cntSame {l} {s : State} (h : Keeps l s) : Keeps l (State.cntSame s) := h

theorem keeps_cntSpare {l} {s : State} (h : Keeps l s) : Keeps l (State.cntSpare s) := h

theorem keeps_replayBank {l} {s : State} (h : Keeps l s) (x1 x2 x3) : KeepsL l (State.replayBank s x1 x2 x3) := by
  unfold State.replayBank
  simp +contextual (maxDischargeDepth := 40) only [h, keepsO_next, keepsO_fault, keepsM_some, keepsM_none,
      keepsL_mk, keepsR_mk, keepsL_fold, keepsR_fold, keeps_ite, keepsO_ite, keepsM_ite, keepsL_ite, keepsR_ite,
      ite_self, implies_true, keeps_foldl, keepsL_foldl, keepsR_foldl, keeps_loadTile, keeps_setPan]

theorem keeps_spareBank {l} {s : State} (h : Keeps l s) (x1 x2 x3) : KeepsL l (State.spareBank s x1 x2 x3) := by
  unfold State.spareBank
  simp +contextual (maxDischargeDepth := 40) only [h, keepsO_next, keepsO_fault, keepsM_some, keepsM_none,
      keepsL_mk, keepsR_mk, keepsL_fold, keepsR_fold, keeps_ite, keepsO_ite, keepsM_ite, keepsL_ite, keepsR_ite,
      ite_self, implies_true, keeps_foldl, keepsL_foldl, keepsR_foldl, keeps_loadTile]

theorem keeps_replaySame {l} {s : State} (h : Keeps l s) (x1 x2) : Keeps l (State.replaySame s x1 x2) := by
  have hk := h
  unfold State.replaySame
  try simp +contextual (maxDischargeDepth := 40) only [h, keepsO_next, keepsO_fault, keepsM_some, keepsM_none,
      keepsL_mk, keepsR_mk, keepsL_fold, keepsR_fold, keeps_ite, keepsO_ite, keepsM_ite, keepsL_ite, keepsR_ite,
      ite_self, implies_true, keeps_foldl, keepsL_foldl, keepsR_foldl, keeps_chkX, keeps_cntSame, keeps_replayBank,
      keeps_runOn, keeps_replayed, keeps_commit, keeps_dropLadder, keeps_chk, keeps_settleMvm, keeps_setPan]
  all_goals repeat' (split <;> (try (rename_i heq; first | have hk := keepsR_eq (l := l) (by simp +contextual (maxDischargeDepth := 40) only [hk, h, keepsO_next, keepsO_fault, keepsM_some, keepsM_none, keepsL_mk, keepsR_mk, keepsL_fold, keepsR_fold, keeps_ite, keepsO_ite, keepsM_ite, keepsL_ite, keepsR_ite, ite_self, implies_true, keeps_foldl, keepsL_foldl, keepsR_foldl, keeps_chkX, keeps_cntSame, keeps_replayBank, keeps_runOn, keeps_replayed, keeps_commit, keeps_dropLadder, keeps_chk, keeps_settleMvm, keeps_setPan]) heq | have hk := keepsL_eq (l := l) (by simp +contextual (maxDischargeDepth := 40) only [hk, h, keepsO_next, keepsO_fault, keepsM_some, keepsM_none, keepsL_mk, keepsR_mk, keepsL_fold, keepsR_fold, keeps_ite, keepsO_ite, keepsM_ite, keepsL_ite, keepsR_ite, ite_self, implies_true, keeps_foldl, keepsL_foldl, keepsR_foldl, keeps_chkX, keeps_cntSame, keeps_replayBank, keeps_runOn, keeps_replayed, keeps_commit, keeps_dropLadder, keeps_chk, keeps_settleMvm, keeps_setPan]) heq | have hk := keepsM_eq (l := l) (by simp +contextual (maxDischargeDepth := 40) only [hk, h, keepsO_next, keepsO_fault, keepsM_some, keepsM_none, keepsL_mk, keepsR_mk, keepsL_fold, keepsR_fold, keeps_ite, keepsO_ite, keepsM_ite, keepsL_ite, keepsR_ite, ite_self, implies_true, keeps_foldl, keepsL_foldl, keepsR_foldl, keeps_chkX, keeps_cntSame, keeps_replayBank, keeps_runOn, keeps_replayed, keeps_commit, keeps_dropLadder, keeps_chk, keeps_settleMvm, keeps_setPan]) heq)) <;> (try simp +contextual (maxDischargeDepth := 40) only [hk, h, keepsO_next, keepsO_fault, keepsM_some, keepsM_none, keepsL_mk, keepsR_mk, keepsL_fold, keepsR_fold, keeps_ite, keepsO_ite, keepsM_ite, keepsL_ite, keepsR_ite, ite_self, implies_true, keeps_foldl, keepsL_foldl, keepsR_foldl, keeps_chkX, keeps_cntSame, keeps_replayBank, keeps_runOn, keeps_replayed, keeps_commit, keeps_dropLadder, keeps_chk, keeps_settleMvm, keeps_setPan]))

theorem keeps_execReplaySamePan {l} {s : State} (h : Keeps l s) (x0 x1) : KeepsO l (execReplaySamePan x0 x1 s) := by
  unfold execReplaySamePan
  simp +contextual (maxDischargeDepth := 40) only [h, keepsO_next, keepsO_fault, keepsM_some, keepsM_none,
      keepsL_mk, keepsR_mk, keepsL_fold, keepsR_fold, keeps_ite, keepsO_ite, keepsM_ite, keepsL_ite, keepsR_ite,
      ite_self, implies_true, keeps_foldl, keepsL_foldl, keepsR_foldl, keeps_guard, keeps_replaySame]

theorem keeps_rung3 {l} {s : State} (h : Keeps l s) (x1 x2 x3 x4) : Keeps l (State.rung3 s x1 x2 x3 x4) := by
  unfold State.rung3
  simp +contextual (maxDischargeDepth := 40) only [h, keepsO_next, keepsO_fault, keepsM_some, keepsM_none,
      keepsL_mk, keepsR_mk, keepsL_fold, keepsR_fold, keeps_ite, keepsO_ite, keepsM_ite, keepsL_ite, keepsR_ite,
      ite_self, implies_true, keeps_foldl, keepsL_foldl, keepsR_foldl, keeps_settleMvm, keeps_chk, keeps_commit,
      keeps_dropLadder, keeps_chkX]

theorem keeps_sparePassed {l} {s : State} (h : Keeps l s) (x1 x2 x3) : Keeps l (State.sparePassed s x1 x2 x3) := by
  unfold State.sparePassed
  simp +contextual (maxDischargeDepth := 40) only [h, keepsO_next, keepsO_fault, keepsM_some, keepsM_none,
      keepsL_mk, keepsR_mk, keepsL_fold, keepsR_fold, keeps_ite, keepsO_ite, keepsM_ite, keepsL_ite, keepsR_ite,
      ite_self, implies_true, keeps_foldl, keepsL_foldl, keepsR_foldl, keeps_retirePan, keeps_chk, keeps_toSuspect]

theorem keeps_replaySpare {l} {s : State} (h : Keeps l s) (x1 x2) : Keeps l (State.replaySpare s x1 x2) := by
  have hk := h
  unfold State.replaySpare
  try simp +contextual (maxDischargeDepth := 40) only [h, keepsO_next, keepsO_fault, keepsM_some, keepsM_none,
      keepsL_mk, keepsR_mk, keepsL_fold, keepsR_fold, keeps_ite, keepsO_ite, keepsM_ite, keepsL_ite, keepsR_ite,
      ite_self, implies_true, keeps_foldl, keepsL_foldl, keepsR_foldl, keeps_ladderSpare, keeps_chkX,
      keeps_cntSpare, keeps_spareBank, keeps_runOn, keeps_replayed, keeps_setPan, keeps_settleMvm,
      keeps_sparePassed, keeps_commit, keeps_dropLadder, keeps_rung3]
  all_goals repeat' (split <;> (try (rename_i heq; first | have hk := keepsR_eq (l := l) (by simp +contextual (maxDischargeDepth := 40) only [hk, h, keepsO_next, keepsO_fault, keepsM_some, keepsM_none, keepsL_mk, keepsR_mk, keepsL_fold, keepsR_fold, keeps_ite, keepsO_ite, keepsM_ite, keepsL_ite, keepsR_ite, ite_self, implies_true, keeps_foldl, keepsL_foldl, keepsR_foldl, keeps_ladderSpare, keeps_chkX, keeps_cntSpare, keeps_spareBank, keeps_runOn, keeps_replayed, keeps_setPan, keeps_settleMvm, keeps_sparePassed, keeps_commit, keeps_dropLadder, keeps_rung3]) heq | have hk := keepsL_eq (l := l) (by simp +contextual (maxDischargeDepth := 40) only [hk, h, keepsO_next, keepsO_fault, keepsM_some, keepsM_none, keepsL_mk, keepsR_mk, keepsL_fold, keepsR_fold, keeps_ite, keepsO_ite, keepsM_ite, keepsL_ite, keepsR_ite, ite_self, implies_true, keeps_foldl, keepsL_foldl, keepsR_foldl, keeps_ladderSpare, keeps_chkX, keeps_cntSpare, keeps_spareBank, keeps_runOn, keeps_replayed, keeps_setPan, keeps_settleMvm, keeps_sparePassed, keeps_commit, keeps_dropLadder, keeps_rung3]) heq | have hk := keepsM_eq (l := l) (by simp +contextual (maxDischargeDepth := 40) only [hk, h, keepsO_next, keepsO_fault, keepsM_some, keepsM_none, keepsL_mk, keepsR_mk, keepsL_fold, keepsR_fold, keeps_ite, keepsO_ite, keepsM_ite, keepsL_ite, keepsR_ite, ite_self, implies_true, keeps_foldl, keepsL_foldl, keepsR_foldl, keeps_ladderSpare, keeps_chkX, keeps_cntSpare, keeps_spareBank, keeps_runOn, keeps_replayed, keeps_setPan, keeps_settleMvm, keeps_sparePassed, keeps_commit, keeps_dropLadder, keeps_rung3]) heq)) <;> (try simp +contextual (maxDischargeDepth := 40) only [hk, h, keepsO_next, keepsO_fault, keepsM_some, keepsM_none, keepsL_mk, keepsR_mk, keepsL_fold, keepsR_fold, keeps_ite, keepsO_ite, keepsM_ite, keepsL_ite, keepsR_ite, ite_self, implies_true, keeps_foldl, keepsL_foldl, keepsR_foldl, keeps_ladderSpare, keeps_chkX, keeps_cntSpare, keeps_spareBank, keeps_runOn, keeps_replayed, keeps_setPan, keeps_settleMvm, keeps_sparePassed, keeps_commit, keeps_dropLadder, keeps_rung3]))

theorem keeps_execReplaySpare {l} {s : State} (h : Keeps l s) (x0 x1) : KeepsO l (execReplaySpare x0 x1 s) := by
  unfold execReplaySpare
  simp +contextual (maxDischargeDepth := 40) only [h, keepsO_next, keepsO_fault, keepsM_some, keepsM_none,
      keepsL_mk, keepsR_mk, keepsL_fold, keepsR_fold, keeps_ite, keepsO_ite, keepsM_ite, keepsL_ite, keepsR_ite,
      ite_self, implies_true, keeps_foldl, keepsL_foldl, keepsR_foldl, keeps_guard, keeps_replaySpare]

theorem keeps_noSpare {l} {s : State} (h : Keeps l s) (x1 x2) : Keeps l (State.noSpare s x1 x2) := by
  have hk := h
  unfold State.noSpare
  try simp +contextual (maxDischargeDepth := 40) only [h, keepsO_next, keepsO_fault, keepsM_some, keepsM_none,
      keepsL_mk, keepsR_mk, keepsL_fold, keepsR_fold, keeps_ite, keepsO_ite, keepsM_ite, keepsL_ite, keepsR_ite,
      ite_self, implies_true, keeps_foldl, keepsL_foldl, keepsR_foldl, keeps_ladderSpare, keeps_chkX,
      keeps_cntSpare, keeps_retirePan, keeps_replayBank, keeps_runOn, keeps_replayed, keeps_commit,
      keeps_dropLadder, keeps_chk, keeps_settleMvm, keeps_toSuspect, keeps_rung3]
  all_goals repeat' (split <;> (try (rename_i heq; first | have hk := keepsR_eq (l := l) (by simp +contextual (maxDischargeDepth := 40) only [hk, h, keepsO_next, keepsO_fault, keepsM_some, keepsM_none, keepsL_mk, keepsR_mk, keepsL_fold, keepsR_fold, keeps_ite, keepsO_ite, keepsM_ite, keepsL_ite, keepsR_ite, ite_self, implies_true, keeps_foldl, keepsL_foldl, keepsR_foldl, keeps_ladderSpare, keeps_chkX, keeps_cntSpare, keeps_retirePan, keeps_replayBank, keeps_runOn, keeps_replayed, keeps_commit, keeps_dropLadder, keeps_chk, keeps_settleMvm, keeps_toSuspect, keeps_rung3]) heq | have hk := keepsL_eq (l := l) (by simp +contextual (maxDischargeDepth := 40) only [hk, h, keepsO_next, keepsO_fault, keepsM_some, keepsM_none, keepsL_mk, keepsR_mk, keepsL_fold, keepsR_fold, keeps_ite, keepsO_ite, keepsM_ite, keepsL_ite, keepsR_ite, ite_self, implies_true, keeps_foldl, keepsL_foldl, keepsR_foldl, keeps_ladderSpare, keeps_chkX, keeps_cntSpare, keeps_retirePan, keeps_replayBank, keeps_runOn, keeps_replayed, keeps_commit, keeps_dropLadder, keeps_chk, keeps_settleMvm, keeps_toSuspect, keeps_rung3]) heq | have hk := keepsM_eq (l := l) (by simp +contextual (maxDischargeDepth := 40) only [hk, h, keepsO_next, keepsO_fault, keepsM_some, keepsM_none, keepsL_mk, keepsR_mk, keepsL_fold, keepsR_fold, keeps_ite, keepsO_ite, keepsM_ite, keepsL_ite, keepsR_ite, ite_self, implies_true, keeps_foldl, keepsL_foldl, keepsR_foldl, keeps_ladderSpare, keeps_chkX, keeps_cntSpare, keeps_retirePan, keeps_replayBank, keeps_runOn, keeps_replayed, keeps_commit, keeps_dropLadder, keeps_chk, keeps_settleMvm, keeps_toSuspect, keeps_rung3]) heq)) <;> (try simp +contextual (maxDischargeDepth := 40) only [hk, h, keepsO_next, keepsO_fault, keepsM_some, keepsM_none, keepsL_mk, keepsR_mk, keepsL_fold, keepsR_fold, keeps_ite, keepsO_ite, keepsM_ite, keepsL_ite, keepsR_ite, ite_self, implies_true, keeps_foldl, keepsL_foldl, keepsR_foldl, keeps_ladderSpare, keeps_chkX, keeps_cntSpare, keeps_retirePan, keeps_replayBank, keeps_runOn, keeps_replayed, keeps_commit, keeps_dropLadder, keeps_chk, keeps_settleMvm, keeps_toSuspect, keeps_rung3]))

theorem keeps_execNoSpareReplay {l} {s : State} (h : Keeps l s) (x0 x1) : KeepsO l (execNoSpareReplay x0 x1 s) := by
  unfold execNoSpareReplay
  simp +contextual (maxDischargeDepth := 40) only [h, keepsO_next, keepsO_fault, keepsM_some, keepsM_none,
      keepsL_mk, keepsR_mk, keepsL_fold, keepsR_fold, keeps_ite, keepsO_ite, keepsM_ite, keepsL_ite, keepsR_ite,
      ite_self, implies_true, keeps_foldl, keepsL_foldl, keepsR_foldl, keeps_guard, keeps_noSpare]

theorem keeps_dropSample {l} {s : State} (h : Keeps l s) (x1 x2) : Keeps l (State.dropSample s x1 x2) := by
  unfold State.dropSample
  simp +contextual (maxDischargeDepth := 40) only [h, keepsO_next, keepsO_fault, keepsM_some, keepsM_none,
      keepsL_mk, keepsR_mk, keepsL_fold, keepsR_fold, keeps_ite, keepsO_ite, keepsM_ite, keepsL_ite, keepsR_ite,
      ite_self, implies_true, keeps_foldl, keepsL_foldl, keepsR_foldl, keeps_setPan]

theorem keeps_smpCompare {l} {s : State} (h : Keeps l s) (x1 x2) : Keeps l (State.smpCompare s x1 x2) := by
  have hk := h
  unfold State.smpCompare
  try simp +contextual (maxDischargeDepth := 40) only [h, keeps_mk, keeps_fold, keepsO_next, keepsO_fault,
      keepsM_some, keepsM_none, keepsL_mk, keepsR_mk, keepsL_fold, keepsR_fold, keeps_ite, keepsO_ite, keepsM_ite,
      keepsL_ite, keepsR_ite, ite_self, implies_true, keeps_foldl, keepsL_foldl, keepsR_foldl, keeps_settleMvm,
      keeps_commit, keeps_dropSample, keeps_chkX, keeps_spareBank, keeps_runOn, keeps_setPan]
  all_goals repeat' (split <;> (try (rename_i heq; first | have hk := keepsR_eq (l := l) (by simp +contextual (maxDischargeDepth := 40) only [hk, h, keeps_mk, keeps_fold, keepsO_next, keepsO_fault, keepsM_some, keepsM_none, keepsL_mk, keepsR_mk, keepsL_fold, keepsR_fold, keeps_ite, keepsO_ite, keepsM_ite, keepsL_ite, keepsR_ite, ite_self, implies_true, keeps_foldl, keepsL_foldl, keepsR_foldl, keeps_settleMvm, keeps_commit, keeps_dropSample, keeps_chkX, keeps_spareBank, keeps_runOn, keeps_setPan]) heq | have hk := keepsL_eq (l := l) (by simp +contextual (maxDischargeDepth := 40) only [hk, h, keeps_mk, keeps_fold, keepsO_next, keepsO_fault, keepsM_some, keepsM_none, keepsL_mk, keepsR_mk, keepsL_fold, keepsR_fold, keeps_ite, keepsO_ite, keepsM_ite, keepsL_ite, keepsR_ite, ite_self, implies_true, keeps_foldl, keepsL_foldl, keepsR_foldl, keeps_settleMvm, keeps_commit, keeps_dropSample, keeps_chkX, keeps_spareBank, keeps_runOn, keeps_setPan]) heq | have hk := keepsM_eq (l := l) (by simp +contextual (maxDischargeDepth := 40) only [hk, h, keeps_mk, keeps_fold, keepsO_next, keepsO_fault, keepsM_some, keepsM_none, keepsL_mk, keepsR_mk, keepsL_fold, keepsR_fold, keeps_ite, keepsO_ite, keepsM_ite, keepsL_ite, keepsR_ite, ite_self, implies_true, keeps_foldl, keepsL_foldl, keepsR_foldl, keeps_settleMvm, keeps_commit, keeps_dropSample, keeps_chkX, keeps_spareBank, keeps_runOn, keeps_setPan]) heq)) <;> (try simp +contextual (maxDischargeDepth := 40) only [hk, h, keeps_mk, keeps_fold, keepsO_next, keepsO_fault, keepsM_some, keepsM_none, keepsL_mk, keepsR_mk, keepsL_fold, keepsR_fold, keeps_ite, keepsO_ite, keepsM_ite, keepsL_ite, keepsR_ite, ite_self, implies_true, keeps_foldl, keepsL_foldl, keepsR_foldl, keeps_settleMvm, keeps_commit, keeps_dropSample, keeps_chkX, keeps_spareBank, keeps_runOn, keeps_setPan]))

theorem keeps_execSampledReplayCompare {l} {s : State} (h : Keeps l s) (x0) : KeepsO l (execSampledReplayCompare x0 s) := by
  unfold execSampledReplayCompare
  simp +contextual (maxDischargeDepth := 40) only [h, keepsO_next, keepsO_fault, keepsM_some, keepsM_none,
      keepsL_mk, keepsR_mk, keepsL_fold, keepsR_fold, keeps_ite, keepsO_ite, keepsM_ite, keepsL_ite, keepsR_ite,
      ite_self, implies_true, keeps_foldl, keepsL_foldl, keepsR_foldl, keeps_guard, keeps_smpCompare]

theorem keeps_earlyCal {l} {s : State} (h : Keeps l s) (x1) : Keeps l (State.earlyCal s x1) := by
  unfold State.earlyCal
  simp +contextual (maxDischargeDepth := 40) only [h, keepsO_next, keepsO_fault, keepsM_some, keepsM_none,
      keepsL_mk, keepsR_mk, keepsL_fold, keepsR_fold, keeps_ite, keepsO_ite, keepsM_ite, keepsL_ite, keepsR_ite,
      ite_self, implies_true, keeps_foldl, keepsL_foldl, keepsR_foldl, keeps_setPan]

theorem keeps_smpSpare {l} {s : State} (h : Keeps l s) (x1 x2 x3 x4) : Keeps l (State.smpSpare s x1 x2 x3 x4) := by
  unfold State.smpSpare
  try simp +contextual (maxDischargeDepth := 40) only [h, keepsO_next, keepsO_fault, keepsM_some, keepsM_none,
      keepsL_mk, keepsR_mk, keepsL_fold, keepsR_fold, keeps_ite, keepsO_ite, keepsM_ite, keepsL_ite, keepsR_ite,
      ite_self, implies_true, keeps_foldl, keepsL_foldl, keepsR_foldl, keeps_commit, keeps_retirePan, keeps_chk,
      keeps_toSuspect]
  all_goals repeat' (split <;> (try simp +contextual (maxDischargeDepth := 40) only [h, keepsO_next, keepsO_fault,
      keepsM_some, keepsM_none, keepsL_mk, keepsR_mk, keepsL_fold, keepsR_fold, keeps_ite, keepsO_ite, keepsM_ite,
      keepsL_ite, keepsR_ite, ite_self, implies_true, keeps_foldl, keepsL_foldl, keepsR_foldl, keeps_commit,
      keeps_retirePan, keeps_chk, keeps_toSuspect]))

theorem keeps_smpResolve {l} {s : State} (h : Keeps l s) (x1 x2) : Keeps l (State.smpResolve s x1 x2) := by
  have hk := h
  unfold State.smpResolve
  try simp +contextual (maxDischargeDepth := 40) only [h, keepsO_next, keepsO_fault, keepsM_some, keepsM_none,
      keepsL_mk, keepsR_mk, keepsL_fold, keepsR_fold, keeps_ite, keepsO_ite, keepsM_ite, keepsL_ite, keepsR_ite,
      ite_self, implies_true, keeps_foldl, keepsL_foldl, keepsR_foldl, keeps_chkX, keeps_replayBank, keeps_runOn,
      keeps_replayed, keeps_dropSample, keeps_chk, keeps_commit, keeps_earlyCal, keeps_smpSpare, keeps_settleMvm]
  all_goals repeat' (split <;> (try (rename_i heq; first | have hk := keepsR_eq (l := l) (by simp +contextual (maxDischargeDepth := 40) only [hk, h, keepsO_next, keepsO_fault, keepsM_some, keepsM_none, keepsL_mk, keepsR_mk, keepsL_fold, keepsR_fold, keeps_ite, keepsO_ite, keepsM_ite, keepsL_ite, keepsR_ite, ite_self, implies_true, keeps_foldl, keepsL_foldl, keepsR_foldl, keeps_chkX, keeps_replayBank, keeps_runOn, keeps_replayed, keeps_dropSample, keeps_chk, keeps_commit, keeps_earlyCal, keeps_smpSpare, keeps_settleMvm]) heq | have hk := keepsL_eq (l := l) (by simp +contextual (maxDischargeDepth := 40) only [hk, h, keepsO_next, keepsO_fault, keepsM_some, keepsM_none, keepsL_mk, keepsR_mk, keepsL_fold, keepsR_fold, keeps_ite, keepsO_ite, keepsM_ite, keepsL_ite, keepsR_ite, ite_self, implies_true, keeps_foldl, keepsL_foldl, keepsR_foldl, keeps_chkX, keeps_replayBank, keeps_runOn, keeps_replayed, keeps_dropSample, keeps_chk, keeps_commit, keeps_earlyCal, keeps_smpSpare, keeps_settleMvm]) heq | have hk := keepsM_eq (l := l) (by simp +contextual (maxDischargeDepth := 40) only [hk, h, keepsO_next, keepsO_fault, keepsM_some, keepsM_none, keepsL_mk, keepsR_mk, keepsL_fold, keepsR_fold, keeps_ite, keepsO_ite, keepsM_ite, keepsL_ite, keepsR_ite, ite_self, implies_true, keeps_foldl, keepsL_foldl, keepsR_foldl, keeps_chkX, keeps_replayBank, keeps_runOn, keeps_replayed, keeps_dropSample, keeps_chk, keeps_commit, keeps_earlyCal, keeps_smpSpare, keeps_settleMvm]) heq)) <;> (try simp +contextual (maxDischargeDepth := 40) only [hk, h, keepsO_next, keepsO_fault, keepsM_some, keepsM_none, keepsL_mk, keepsR_mk, keepsL_fold, keepsR_fold, keeps_ite, keepsO_ite, keepsM_ite, keepsL_ite, keepsR_ite, ite_self, implies_true, keeps_foldl, keepsL_foldl, keepsR_foldl, keeps_chkX, keeps_replayBank, keeps_runOn, keeps_replayed, keeps_dropSample, keeps_chk, keeps_commit, keeps_earlyCal, keeps_smpSpare, keeps_settleMvm]))

theorem keeps_execSampledReplayResolve {l} {s : State} (h : Keeps l s) (x0) : KeepsO l (execSampledReplayResolve x0 s) := by
  unfold execSampledReplayResolve
  simp +contextual (maxDischargeDepth := 40) only [h, keepsO_next, keepsO_fault, keepsM_some, keepsM_none,
      keepsL_mk, keepsR_mk, keepsL_fold, keepsR_fold, keeps_ite, keepsO_ite, keepsM_ite, keepsL_ite, keepsR_ite,
      ite_self, implies_true, keeps_foldl, keepsL_foldl, keepsR_foldl, keeps_guard, keeps_smpResolve]

/-! ## Vector steps -/

theorem keeps_withInputs {l} {s : State} (h : Keeps l s) (x1 x2 x3 x4) (hf4 : ∀ y0, Keeps l y0 → Keeps l (x4 y0)) :
    Keeps l (State.withInputs s x1 x2 x3 x4) := by
  unfold State.withInputs
  all_goals repeat' (split <;> (try simp +contextual (maxDischargeDepth := 40) only [h, hf4, keepsO_next,
      keepsO_fault, keepsM_some, keepsM_none, keepsL_mk, keepsR_mk, keepsL_fold, keepsR_fold, keeps_ite,
      keepsO_ite, keepsM_ite, keepsL_ite, keepsR_ite, ite_self, implies_true, keeps_foldl, keepsL_foldl,
      keepsR_foldl, keeps_scrubRegions, keeps_memX]))

theorem keeps_stepDone {l} {s : State} (h : Keeps l s) (x1 x2) : Keeps l (State.stepDone s x1 x2) := by
  unfold State.stepDone
  simp +contextual (maxDischargeDepth := 40) only [h, keepsO_next, keepsO_fault, keepsM_some, keepsM_none,
      keepsL_mk, keepsR_mk, keepsL_fold, keepsR_fold, keeps_ite, keepsO_ite, keepsM_ite, keepsL_ite, keepsR_ite,
      ite_self, implies_true, keeps_foldl, keepsL_foldl, keepsR_foldl, keeps_modRec]

theorem keeps_effRot {l} {s : State} (h : Keeps l s) (x1 x2) : Keeps l (effRot s x1 x2) := by
  unfold effRot
  simp +contextual (maxDischargeDepth := 40) only [h, keepsO_next, keepsO_fault, keepsM_some, keepsM_none,
      keepsL_mk, keepsR_mk, keepsL_fold, keepsR_fold, keeps_ite, keepsO_ite, keepsM_ite, keepsL_ite, keepsR_ite,
      ite_self, implies_true, keeps_foldl, keepsL_foldl, keepsR_foldl, keeps_withInputs, keeps_launch,
      keeps_setStr, keeps_stepDone, keeps_wrRows]

theorem keeps_execRot {l} {s : State} (h : Keeps l s) (x0) : KeepsO l (execRot x0 s) := by
  unfold execRot
  simp +contextual (maxDischargeDepth := 40) only [h, keepsO_next, keepsO_fault, keepsM_some, keepsM_none,
      keepsL_mk, keepsR_mk, keepsL_fold, keepsR_fold, keeps_ite, keepsO_ite, keepsM_ite, keepsL_ite, keepsR_ite,
      ite_self, implies_true, keeps_foldl, keepsL_foldl, keepsR_foldl, keeps_runStep, keeps_effRot]

theorem keeps_effQnt {l} {s : State} (h : Keeps l s) (x1 x2) : Keeps l (effQnt s x1 x2) := by
  unfold effQnt
  simp +contextual (maxDischargeDepth := 40) only [h, keepsO_next, keepsO_fault, keepsM_some, keepsM_none,
      keepsL_mk, keepsR_mk, keepsL_fold, keepsR_fold, keeps_ite, keepsO_ite, keepsM_ite, keepsL_ite, keepsR_ite,
      ite_self, implies_true, keeps_foldl, keepsL_foldl, keepsR_foldl, keeps_launch, keeps_setStr,
      keeps_withInputs, keeps_quantise, keeps_wrRows, keeps_whiskEvents, keeps_modRec, keeps_stepDone]

theorem keeps_execQnt {l} {s : State} (h : Keeps l s) (x0) : KeepsO l (execQnt x0 s) := by
  unfold execQnt
  simp +contextual (maxDischargeDepth := 40) only [h, keepsO_next, keepsO_fault, keepsM_some, keepsM_none,
      keepsL_mk, keepsR_mk, keepsL_fold, keepsR_fold, keeps_ite, keepsO_ite, keepsM_ite, keepsL_ite, keepsR_ite,
      ite_self, implies_true, keeps_foldl, keepsL_foldl, keepsR_foldl, keeps_runStep, keeps_effQnt]

theorem keeps_effScup {l} {s : State} (h : Keeps l s) (x1 x2) : Keeps l (effScup s x1 x2) := by
  unfold effScup
  simp +contextual (maxDischargeDepth := 40) only [h, keepsO_next, keepsO_fault, keepsM_some, keepsM_none,
      keepsL_mk, keepsR_mk, keepsL_fold, keepsR_fold, keeps_ite, keepsO_ite, keepsM_ite, keepsL_ite, keepsR_ite,
      ite_self, implies_true, keeps_foldl, keepsL_foldl, keepsR_foldl, keeps_launch, keeps_withInputs,
      keeps_setScale, keeps_stepDone]

theorem keeps_execScup {l} {s : State} (h : Keeps l s) (x0) : KeepsO l (execScup x0 s) := by
  unfold execScup
  simp +contextual (maxDischargeDepth := 40) only [h, keepsO_next, keepsO_fault, keepsM_some, keepsM_none,
      keepsL_mk, keepsR_mk, keepsL_fold, keepsR_fold, keeps_ite, keepsO_ite, keepsM_ite, keepsL_ite, keepsR_ite,
      ite_self, implies_true, keeps_foldl, keepsL_foldl, keepsR_foldl, keeps_runStep, keeps_effScup]

theorem keeps_effStat {l} {s : State} (h : Keeps l s) (x1 x2) : Keeps l (effStat s x1 x2) := by
  unfold effStat
  simp +contextual (maxDischargeDepth := 40) only [h, keepsO_next, keepsO_fault, keepsM_some, keepsM_none,
      keepsL_mk, keepsR_mk, keepsL_fold, keepsR_fold, keeps_ite, keepsO_ite, keepsM_ite, keepsL_ite, keepsR_ite,
      ite_self, implies_true, keeps_foldl, keepsL_foldl, keepsR_foldl, keeps_launch, keeps_stepDone, keeps_wr]

theorem keeps_execStat {l} {s : State} (h : Keeps l s) (x0) : KeepsO l (execStat x0 s) := by
  unfold execStat
  simp +contextual (maxDischargeDepth := 40) only [h, keepsO_next, keepsO_fault, keepsM_some, keepsM_none,
      keepsL_mk, keepsR_mk, keepsL_fold, keepsR_fold, keeps_ite, keepsO_ite, keepsM_ite, keepsL_ite, keepsR_ite,
      ite_self, implies_true, keeps_foldl, keepsL_foldl, keepsR_foldl, keeps_runStep, keeps_effStat]

theorem keeps_effVop {l} {s : State} (h : Keeps l s) (x1 x2) : Keeps l (effVop s x1 x2) := by
  unfold effVop
  simp +contextual (maxDischargeDepth := 40) only [h, keepsO_next, keepsO_fault, keepsM_some, keepsM_none,
      keepsL_mk, keepsR_mk, keepsL_fold, keepsR_fold, keeps_ite, keepsO_ite, keepsM_ite, keepsL_ite, keepsR_ite,
      ite_self, implies_true, keeps_foldl, keepsL_foldl, keepsR_foldl, keeps_withInputs, keeps_launch,
      keeps_stepDone, keeps_wrRows]

theorem keeps_execVop {l} {s : State} (h : Keeps l s) (x0) : KeepsO l (execVop x0 s) := by
  unfold execVop
  simp +contextual (maxDischargeDepth := 40) only [h, keepsO_next, keepsO_fault, keepsM_some, keepsM_none,
      keepsL_mk, keepsR_mk, keepsL_fold, keepsR_fold, keeps_ite, keepsO_ite, keepsM_ite, keepsL_ite, keepsR_ite,
      ite_self, implies_true, keeps_foldl, keepsL_foldl, keepsR_foldl, keeps_runStep, keeps_effVop]

theorem keeps_effAtt {l} {s : State} (h : Keeps l s) (x1 x2) : Keeps l (effAtt s x1 x2) := by
  unfold effAtt
  simp +contextual (maxDischargeDepth := 40) only [h, keepsO_next, keepsO_fault, keepsM_some, keepsM_none,
      keepsL_mk, keepsR_mk, keepsL_fold, keepsR_fold, keeps_ite, keepsO_ite, keepsM_ite, keepsL_ite, keepsR_ite,
      ite_self, implies_true, keeps_foldl, keepsL_foldl, keepsR_foldl, keeps_withInputs, keeps_launch,
      keeps_raiseX, keeps_wr, keeps_stepDone]

theorem keeps_execAtt {l} {s : State} (h : Keeps l s) (x0) : KeepsO l (execAtt x0 s) := by
  unfold execAtt
  simp +contextual (maxDischargeDepth := 40) only [h, keepsO_next, keepsO_fault, keepsM_some, keepsM_none,
      keepsL_mk, keepsR_mk, keepsL_fold, keepsR_fold, keeps_ite, keepsO_ite, keepsM_ite, keepsL_ite, keepsR_ite,
      ite_self, implies_true, keeps_foldl, keepsL_foldl, keepsR_foldl, keeps_runStep, keeps_effAtt]

/-! ## DMA and fabric steps -/

theorem keeps_dmaRow {l} {s : State} (h : Keeps l s) (x1 x2 x3) : KeepsL l (State.dmaRow s x1 x2 x3) := by
  unfold State.dmaRow
  all_goals repeat' (split <;> (try simp +contextual (maxDischargeDepth := 40) only [h, keepsO_next, keepsO_fault,
      keepsM_some, keepsM_none, keepsL_mk, keepsR_mk, keepsL_fold, keepsR_fold, keeps_ite, keepsO_ite, keepsM_ite,
      keepsL_ite, keepsR_ite, ite_self, implies_true, keeps_foldl, keepsL_foldl, keepsR_foldl, keeps_hwr,
      keeps_wr]))

theorem keeps_dmaRows {l t b} : ∀ (n i : Nat) {s : State}, Keeps l s → KeepsL l (s.dmaRows t b n i)
  | 0, _, _, h => h
  | n + 1, i, s, h => by
    unfold State.dmaRows
    split <;> rename_i heq
    · exact keepsL_eq (keeps_dmaRow h _ _ _) heq
    · exact keeps_dmaRows n _ (keepsL_eq (keeps_dmaRow h _ _ _) heq)

theorem keeps_effDma {l} {s : State} (h : Keeps l s) (x1 x2) : Keeps l (effDma s x1 x2) := by
  unfold effDma
  (try extract_lets)
  refine keeps_withInputs (keeps_launch h _ _) _ _ _ _ ?_
  intro s hs
  extract_lets _ s1
  have hs1 : Keeps l s1 := keeps_dite (keeps_setStr hs _ _) hs
  clear_value s1
  split <;> rename_i heq
  · exact keeps_hostX (keepsL_eq (keeps_dmaRows _ _ hs1) heq) _ _ _ _
  · exact keeps_stepDone (keepsL_eq (keeps_dmaRows _ _ hs1) heq) _ _

theorem keeps_execDma {l} {s : State} (h : Keeps l s) (x0) : KeepsO l (execDma x0 s) := by
  unfold execDma
  simp +contextual (maxDischargeDepth := 40) only [h, keepsO_next, keepsO_fault, keepsM_some, keepsM_none,
      keepsL_mk, keepsR_mk, keepsL_fold, keepsR_fold, keeps_ite, keepsO_ite, keepsM_ite, keepsL_ite, keepsR_ite,
      ite_self, implies_true, keeps_foldl, keepsL_foldl, keepsR_foldl, keeps_runStep, keeps_effDma]

theorem keeps_sendStep {l} {s : State} (h : Keeps l s) (x1 x2 x3 x4) : Keeps l (State.sendStep s x1 x2 x3 x4) := by
  unfold State.sendStep
  all_goals repeat' (split <;> (try simp +contextual (maxDischargeDepth := 40) only [h, keepsO_next, keepsO_fault,
      keepsM_some, keepsM_none, keepsL_mk, keepsR_mk, keepsL_fold, keepsR_fold, keeps_ite, keepsO_ite, keepsM_ite,
      keepsL_ite, keepsR_ite, ite_self, implies_true, keeps_foldl, keepsL_foldl, keepsR_foldl, keeps_takeTags,
      keeps_sendUnits, keeps_launch]))

theorem keeps_effGet {l} {s : State} (h : Keeps l s) (x1 x2) : Keeps l (effGet s x1 x2) := by
  unfold effGet
  simp +contextual (maxDischargeDepth := 40) only [h, keepsO_next, keepsO_fault, keepsM_some, keepsM_none,
      keepsL_mk, keepsR_mk, keepsL_fold, keepsR_fold, keeps_ite, keepsO_ite, keepsM_ite, keepsL_ite, keepsR_ite,
      ite_self, implies_true, keeps_foldl, keepsL_foldl, keepsR_foldl, keeps_sendStep]

theorem keeps_execGet {l} {s : State} (h : Keeps l s) (x0) : KeepsO l (execGet x0 s) := by
  unfold execGet
  simp +contextual (maxDischargeDepth := 40) only [h, keepsO_next, keepsO_fault, keepsM_some, keepsM_none,
      keepsL_mk, keepsR_mk, keepsL_fold, keepsR_fold, keeps_ite, keepsO_ite, keepsM_ite, keepsL_ite, keepsR_ite,
      ite_self, implies_true, keeps_foldl, keepsL_foldl, keepsR_foldl, keeps_runStep, keeps_effGet]

theorem keeps_effPut {l} {s : State} (h : Keeps l s) (x1 x2) : Keeps l (effPut s x1 x2) := by
  unfold effPut
  simp +contextual (maxDischargeDepth := 40) only [h, keepsO_next, keepsO_fault, keepsM_some, keepsM_none,
      keepsL_mk, keepsR_mk, keepsL_fold, keepsR_fold, keeps_ite, keepsO_ite, keepsM_ite, keepsL_ite, keepsR_ite,
      ite_self, implies_true, keeps_foldl, keepsL_foldl, keepsR_foldl, keeps_withInputs, keeps_sendStep]

theorem keeps_execPut {l} {s : State} (h : Keeps l s) (x0) : KeepsO l (execPut x0 s) := by
  unfold execPut
  simp +contextual (maxDischargeDepth := 40) only [h, keepsO_next, keepsO_fault, keepsM_some, keepsM_none,
      keepsL_mk, keepsR_mk, keepsL_fold, keepsR_fold, keeps_ite, keepsO_ite, keepsM_ite, keepsL_ite, keepsR_ite,
      ite_self, implies_true, keeps_foldl, keepsL_foldl, keepsR_foldl, keeps_runStep, keeps_effPut]

theorem keeps_effAadd {l} {s : State} (h : Keeps l s) (x1 x2) : Keeps l (effAadd s x1 x2) := by
  unfold effAadd
  simp +contextual (maxDischargeDepth := 40) only [h, keepsO_next, keepsO_fault, keepsM_some, keepsM_none,
      keepsL_mk, keepsR_mk, keepsL_fold, keepsR_fold, keeps_ite, keepsO_ite, keepsM_ite, keepsL_ite, keepsR_ite,
      ite_self, implies_true, keeps_foldl, keepsL_foldl, keepsR_foldl, keeps_withInputs, keeps_sendStep]

theorem keeps_execAadd {l} {s : State} (h : Keeps l s) (x0) : KeepsO l (execAadd x0 s) := by
  unfold execAadd
  simp +contextual (maxDischargeDepth := 40) only [h, keepsO_next, keepsO_fault, keepsM_some, keepsM_none,
      keepsL_mk, keepsR_mk, keepsL_fold, keepsR_fold, keeps_ite, keepsO_ite, keepsM_ite, keepsL_ite, keepsR_ite,
      ite_self, implies_true, keeps_foldl, keepsL_foldl, keepsR_foldl, keeps_runStep, keeps_effAadd]

theorem keeps_gathRows {l} {s : State} (h : Keeps l s) (x1 x2 x3) : Keeps l (State.gathRows s x1 x2 x3) := by
  unfold State.gathRows
  simp +contextual (maxDischargeDepth := 40) only [h, keepsO_next, keepsO_fault, keepsM_some, keepsM_none,
      keepsL_mk, keepsR_mk, keepsL_fold, keepsR_fold, keeps_ite, keepsO_ite, keepsM_ite, keepsL_ite, keepsR_ite,
      ite_self, implies_true, keeps_foldl, keepsL_foldl, keepsR_foldl, keeps_wr]

theorem keeps_effGath {l} {s : State} (h : Keeps l s) (x1 x2) : Keeps l (effGath s x1 x2) := by
  unfold effGath
  simp +contextual (maxDischargeDepth := 40) only [h, keepsO_next, keepsO_fault, keepsM_some, keepsM_none,
      keepsL_mk, keepsR_mk, keepsL_fold, keepsR_fold, keeps_ite, keepsO_ite, keepsM_ite, keepsL_ite, keepsR_ite,
      ite_self, implies_true, keeps_foldl, keepsL_foldl, keepsR_foldl, keeps_withInputs, keeps_launch,
      keeps_stepDone, keeps_gathRows, keeps_takeTags, keeps_sendUnits]

theorem keeps_execGath {l} {s : State} (h : Keeps l s) (x0) : KeepsO l (execGath x0 s) := by
  unfold execGath
  simp +contextual (maxDischargeDepth := 40) only [h, keepsO_next, keepsO_fault, keepsM_some, keepsM_none,
      keepsL_mk, keepsR_mk, keepsL_fold, keepsR_fold, keeps_ite, keepsO_ite, keepsM_ite, keepsL_ite, keepsR_ite,
      ite_self, implies_true, keeps_foldl, keepsL_foldl, keepsR_foldl, keeps_runStep, keeps_effGath]

end Sys2Proof.Machine
end

