-- ==== Sys2Proof/Laws/KeepsBlocks.lean ====
section
/-! SUPPORT. Every operation keeps the queue, the canonical form of both memories and the bound of the tokens:
streams, Baskets, the Kettle, calibration, the FEU and the fabric. -/

namespace Sys2Proof.Machine

set_option linter.unusedSimpArgs false
set_option linter.unusedTactic false
set_option linter.unusedVariables false
set_option linter.unreachableTactic false

/-! ## Streams -/

theorem keeps_settleOn {l} {s : State} (h : Keeps l s) (x1 x2 x3) : Keeps l (State.settleOn s x1 x2 x3) := by
  unfold State.settleOn
  simp +contextual (maxDischargeDepth := 40) only [h, keepsO_next, keepsO_fault, keepsM_some, keepsM_none,
      keepsL_mk, keepsR_mk, keepsL_fold, keepsR_fold, keeps_ite, keepsO_ite, keepsM_ite, keepsL_ite, keepsR_ite,
      ite_self, implies_true, keeps_foldl, keepsL_foldl, keepsR_foldl, keeps_settleBsk, keeps_putStr]

theorem keeps_execStreamPlacement {l} {s : State} (h : Keeps l s) : KeepsO l (execStreamPlacement s) := by
  unfold execStreamPlacement
  all_goals repeat' (split <;> (try simp +contextual (maxDischargeDepth := 40) only [h, keeps_mk, keeps_fold,
      keepsO_next, keepsO_fault, keepsM_some, keepsM_none, keepsL_mk, keepsR_mk, keepsL_fold, keepsR_fold,
      keeps_ite, keepsO_ite, keepsM_ite, keepsL_ite, keepsR_ite, ite_self, implies_true, keeps_foldl, keepsL_foldl,
      keepsR_foldl, keeps_settleOn]))

theorem keeps_cmdStart {l} {s : State} (h : Keeps l s) (x1) : KeepsL l (State.cmdStart s x1) := by
  unfold State.cmdStart
  try simp +contextual (maxDischargeDepth := 40) only [h, keeps_mk, keeps_fold, keepsO_next, keepsO_fault,
      keepsM_some, keepsM_none, keepsL_mk, keepsR_mk, keepsL_fold, keepsR_fold, keeps_ite, keepsO_ite, keepsM_ite,
      keepsL_ite, keepsR_ite, ite_self, implies_true, keeps_foldl, keepsL_foldl, keepsR_foldl, keeps_raiseS,
      keeps_wrCtx, keeps_setStr, keeps_settleOn, keeps_putStr]
  all_goals repeat' (split <;> (try simp +contextual (maxDischargeDepth := 40) only [h, keeps_mk, keeps_fold,
      keepsO_next, keepsO_fault, keepsM_some, keepsM_none, keepsL_mk, keepsR_mk, keepsL_fold, keepsR_fold,
      keeps_ite, keepsO_ite, keepsM_ite, keepsL_ite, keepsR_ite, ite_self, implies_true, keeps_foldl, keepsL_foldl,
      keepsR_foldl, keeps_raiseS, keeps_wrCtx, keeps_setStr, keeps_settleOn, keeps_putStr]))

theorem keeps_migLoad {l} {s : State} (h : Keeps l s) (x1 x2) : Keeps l (State.migLoad s x1 x2) := by
  unfold State.migLoad
  simp +contextual (maxDischargeDepth := 40) only [h, keepsO_next, keepsO_fault, keepsM_some, keepsM_none,
      keepsL_mk, keepsR_mk, keepsL_fold, keepsR_fold, keeps_ite, keepsO_ite, keepsM_ite, keepsL_ite, keepsR_ite,
      ite_self, implies_true, keeps_foldl, keepsL_foldl, keepsR_foldl, keeps_scrub, keeps_setScale, keeps_setPot]

theorem keeps_reopen {l} {s : State} (h : Keeps l s) (x1 x2 x3) : Keeps l (State.reopen s x1 x2 x3) := by
  unfold State.reopen
  all_goals repeat' (split <;> (try simp +contextual (maxDischargeDepth := 40) only [h, keepsO_next, keepsO_fault,
      keepsM_some, keepsM_none, keepsL_mk, keepsR_mk, keepsL_fold, keepsR_fold, keeps_ite, keepsO_ite, keepsM_ite,
      keepsL_ite, keepsR_ite, ite_self, implies_true, keeps_foldl, keepsL_foldl, keepsR_foldl, keeps_memX,
      keeps_scrub, keeps_migLoad, keeps_settleBsk, keeps_putStr]))

theorem keeps_cmdResume {l} {s : State} (h : Keeps l s) (x1) : KeepsL l (State.cmdResume s x1) := by
  unfold State.cmdResume
  try simp +contextual (maxDischargeDepth := 40) only [h, keepsO_next, keepsO_fault, keepsM_some, keepsM_none,
      keepsL_mk, keepsR_mk, keepsL_fold, keepsR_fold, keeps_ite, keepsO_ite, keepsM_ite, keepsL_ite, keepsR_ite,
      ite_self, implies_true, keeps_foldl, keepsL_foldl, keepsR_foldl, keeps_settleBsk, keeps_reopen, keeps_setStr,
      keeps_settleOn]
  all_goals repeat' (split <;> (try simp +contextual (maxDischargeDepth := 40) only [h, keepsO_next, keepsO_fault,
      keepsM_some, keepsM_none, keepsL_mk, keepsR_mk, keepsL_fold, keepsR_fold, keeps_ite, keepsO_ite, keepsM_ite,
      keepsL_ite, keepsR_ite, ite_self, implies_true, keeps_foldl, keepsL_foldl, keepsR_foldl, keeps_settleBsk,
      keeps_reopen, keeps_setStr, keeps_settleOn]))

theorem keeps_cmdAbort {l} {s : State} (h : Keeps l s) (x1) : KeepsL l (State.cmdAbort s x1) := by
  unfold State.cmdAbort
  simp +contextual (maxDischargeDepth := 40) only [h, keepsO_next, keepsO_fault, keepsM_some, keepsM_none,
      keepsL_mk, keepsR_mk, keepsL_fold, keepsR_fold, keeps_ite, keepsO_ite, keepsM_ite, keepsL_ite, keepsR_ite,
      ite_self, implies_true, keeps_foldl, keepsL_foldl, keepsR_foldl, keeps_abortStr]

theorem keeps_cmdReset {l} {s : State} (h : Keeps l s) (x1) : KeepsL l (State.cmdReset s x1) := by
  unfold State.cmdReset
  simp +contextual (maxDischargeDepth := 40) only [h, keepsO_next, keepsO_fault, keepsM_some, keepsM_none,
      keepsL_mk, keepsR_mk, keepsL_fold, keepsR_fold, keeps_ite, keepsO_ite, keepsM_ite, keepsL_ite, keepsR_ite,
      ite_self, implies_true, keeps_foldl, keepsL_foldl, keepsR_foldl, keeps_putStr]

theorem keeps_cmdMigrate {l} {s : State} (h : Keeps l s) (x1 x2) : KeepsL l (State.cmdMigrate s x1 x2) := by
  unfold State.cmdMigrate
  all_goals repeat' (split <;> (try simp +contextual (maxDischargeDepth := 40) only [h, keepsO_next, keepsO_fault,
      keepsM_some, keepsM_none, keepsL_mk, keepsR_mk, keepsL_fold, keepsR_fold, keeps_ite, keepsO_ite, keepsM_ite,
      keepsL_ite, keepsR_ite, ite_self, implies_true, keeps_foldl, keepsL_foldl, keepsR_foldl, keeps_settleBsk,
      keeps_putStr]))

theorem keeps_strmDo {l} {s : State} (h : Keeps l s) (x1 x2 x3) : KeepsL l (State.strmDo s x1 x2 x3) := by
  unfold State.strmDo
  simp +contextual (maxDischargeDepth := 40) only [h, keepsO_next, keepsO_fault, keepsM_some, keepsM_none,
      keepsL_mk, keepsR_mk, keepsL_fold, keepsR_fold, keeps_ite, keepsO_ite, keepsM_ite, keepsL_ite, keepsR_ite,
      ite_self, implies_true, keeps_foldl, keepsL_foldl, keepsR_foldl, keeps_cmdStart, keeps_cmdResume,
      keeps_cmdAbort, keeps_cmdMigrate, keeps_cmdReset]

theorem keeps_strmReg {l} {s : State} (h : Keeps l s) (x1 x2 x3) : Keeps l (State.strmReg s x1 x2 x3) := by
  have hk := h
  unfold State.strmReg
  try simp +contextual (maxDischargeDepth := 40) only [h, keeps_mk, keeps_fold, keepsO_next, keepsO_fault,
      keepsM_some, keepsM_none, keepsL_mk, keepsR_mk, keepsL_fold, keepsR_fold, keeps_ite, keepsO_ite, keepsM_ite,
      keepsL_ite, keepsR_ite, ite_self, implies_true, keeps_foldl, keepsL_foldl, keepsR_foldl, keeps_strmDo,
      keeps_setStr]
  all_goals repeat' (split <;> (try (rename_i heq; first | have hk := keepsR_eq (l := l) (by simp +contextual (maxDischargeDepth := 40) only [hk, h, keeps_mk, keeps_fold, keepsO_next, keepsO_fault, keepsM_some, keepsM_none, keepsL_mk, keepsR_mk, keepsL_fold, keepsR_fold, keeps_ite, keepsO_ite, keepsM_ite, keepsL_ite, keepsR_ite, ite_self, implies_true, keeps_foldl, keepsL_foldl, keepsR_foldl, keeps_strmDo, keeps_setStr]) heq | have hk := keepsL_eq (l := l) (by simp +contextual (maxDischargeDepth := 40) only [hk, h, keeps_mk, keeps_fold, keepsO_next, keepsO_fault, keepsM_some, keepsM_none, keepsL_mk, keepsR_mk, keepsL_fold, keepsR_fold, keeps_ite, keepsO_ite, keepsM_ite, keepsL_ite, keepsR_ite, ite_self, implies_true, keeps_foldl, keepsL_foldl, keepsR_foldl, keeps_strmDo, keeps_setStr]) heq | have hk := keepsM_eq (l := l) (by simp +contextual (maxDischargeDepth := 40) only [hk, h, keeps_mk, keeps_fold, keepsO_next, keepsO_fault, keepsM_some, keepsM_none, keepsL_mk, keepsR_mk, keepsL_fold, keepsR_fold, keeps_ite, keepsO_ite, keepsM_ite, keepsL_ite, keepsR_ite, ite_self, implies_true, keeps_foldl, keepsL_foldl, keepsR_foldl, keeps_strmDo, keeps_setStr]) heq)) <;> (try simp +contextual (maxDischargeDepth := 40) only [hk, h, keeps_mk, keeps_fold, keepsO_next, keepsO_fault, keepsM_some, keepsM_none, keepsL_mk, keepsR_mk, keepsL_fold, keepsR_fold, keeps_ite, keepsO_ite, keepsM_ite, keepsL_ite, keepsR_ite, ite_self, implies_true, keeps_foldl, keepsL_foldl, keepsR_foldl, keeps_strmDo, keeps_setStr]))

theorem keeps_execStart {l} {s : State} (h : Keeps l s) (x0 x1) : KeepsO l (execStart x0 x1 s) := by
  unfold execStart
  simp +contextual (maxDischargeDepth := 40) only [h, keepsO_next, keepsO_fault, keepsM_some, keepsM_none,
      keepsL_mk, keepsR_mk, keepsL_fold, keepsR_fold, keeps_ite, keepsO_ite, keepsM_ite, keepsL_ite, keepsR_ite,
      ite_self, implies_true, keeps_foldl, keepsL_foldl, keepsR_foldl, keeps_guard, keeps_strmReg]

theorem keeps_execStreamResume {l} {s : State} (h : Keeps l s) (x0 x1) : KeepsO l (execStreamResume x0 x1 s) := by
  unfold execStreamResume
  simp +contextual (maxDischargeDepth := 40) only [h, keepsO_next, keepsO_fault, keepsM_some, keepsM_none,
      keepsL_mk, keepsR_mk, keepsL_fold, keepsR_fold, keeps_ite, keepsO_ite, keepsM_ite, keepsL_ite, keepsR_ite,
      ite_self, implies_true, keeps_foldl, keepsL_foldl, keepsR_foldl, keeps_guard, keeps_strmReg]

theorem keeps_execAbort {l} {s : State} (h : Keeps l s) (x0 x1) : KeepsO l (execAbort x0 x1 s) := by
  unfold execAbort
  simp +contextual (maxDischargeDepth := 40) only [h, keepsO_next, keepsO_fault, keepsM_some, keepsM_none,
      keepsL_mk, keepsR_mk, keepsL_fold, keepsR_fold, keeps_ite, keepsO_ite, keepsM_ite, keepsL_ite, keepsR_ite,
      ite_self, implies_true, keeps_foldl, keepsL_foldl, keepsR_foldl, keeps_guard, keeps_strmReg]

theorem keeps_execMigrate {l} {s : State} (h : Keeps l s) (x0 x1) : KeepsO l (execMigrate x0 x1 s) := by
  unfold execMigrate
  simp +contextual (maxDischargeDepth := 40) only [h, keepsO_next, keepsO_fault, keepsM_some, keepsM_none,
      keepsL_mk, keepsR_mk, keepsL_fold, keepsR_fold, keeps_ite, keepsO_ite, keepsM_ite, keepsL_ite, keepsR_ite,
      ite_self, implies_true, keeps_foldl, keepsL_foldl, keepsR_foldl, keeps_guard, keeps_strmReg]

theorem keeps_execStreamReset {l} {s : State} (h : Keeps l s) (x0 x1) : KeepsO l (execStreamReset x0 x1 s) := by
  unfold execStreamReset
  simp +contextual (maxDischargeDepth := 40) only [h, keepsO_next, keepsO_fault, keepsM_some, keepsM_none,
      keepsL_mk, keepsR_mk, keepsL_fold, keepsR_fold, keeps_ite, keepsO_ite, keepsM_ite, keepsL_ite, keepsR_ite,
      ite_self, implies_true, keeps_foldl, keepsL_foldl, keepsR_foldl, keeps_guard, keeps_strmReg]

theorem keeps_migRefuse {l} {s : State} (h : Keeps l s) (x1 x2) : Keeps l (State.migRefuse s x1 x2) := by
  unfold State.migRefuse
  simp +contextual (maxDischargeDepth := 40) only [h, keepsO_next, keepsO_fault, keepsM_some, keepsM_none,
      keepsL_mk, keepsR_mk, keepsL_fold, keepsR_fold, keeps_ite, keepsO_ite, keepsM_ite, keepsL_ite, keepsR_ite,
      ite_self, implies_true, keeps_foldl, keepsL_foldl, keepsR_foldl, keeps_migReport, keeps_putStr]

theorem keeps_migImages {l} {s : State} (h : Keeps l s) (x1) : Keeps l (State.migImages s x1) := by
  unfold State.migImages
  simp +contextual (maxDischargeDepth := 40) only [h, keepsO_next, keepsO_fault, keepsM_some, keepsM_none,
      keepsL_mk, keepsR_mk, keepsL_fold, keepsR_fold, keeps_ite, keepsO_ite, keepsM_ite, keepsL_ite, keepsR_ite,
      ite_self, implies_true, keeps_foldl, keepsL_foldl, keepsR_foldl, keeps_wr]

theorem keeps_migPot {l} {s : State} (h : Keeps l s) (x1 x2 x3 x4) : KeepsL l (State.migPot s x1 x2 x3 x4) := by
  have hk := h
  unfold State.migPot
  try simp +contextual (maxDischargeDepth := 40) only [h, keepsO_next, keepsO_fault, keepsM_some, keepsM_none,
      keepsL_mk, keepsR_mk, keepsL_fold, keepsR_fold, keeps_ite, keepsO_ite, keepsM_ite, keepsL_ite, keepsR_ite,
      ite_self, implies_true, keeps_foldl, keepsL_foldl, keepsR_foldl, keeps_wr, keeps_spillPot, keeps_setStr,
      keeps_setPot]
  all_goals repeat' ((try extract_lets) <;> split <;> (try (rename_i heq; first | have hk := keepsR_eq (l := l) (by simp +contextual (maxDischargeDepth := 40) only [hk, h, keepsO_next, keepsO_fault, keepsM_some, keepsM_none, keepsL_mk, keepsR_mk, keepsL_fold, keepsR_fold, keeps_ite, keepsO_ite, keepsM_ite, keepsL_ite, keepsR_ite, ite_self, implies_true, keeps_foldl, keepsL_foldl, keepsR_foldl, keeps_wr, keeps_spillPot, keeps_setStr, keeps_setPot]) heq | have hk := keepsL_eq (l := l) (by simp +contextual (maxDischargeDepth := 40) only [hk, h, keepsO_next, keepsO_fault, keepsM_some, keepsM_none, keepsL_mk, keepsR_mk, keepsL_fold, keepsR_fold, keeps_ite, keepsO_ite, keepsM_ite, keepsL_ite, keepsR_ite, ite_self, implies_true, keeps_foldl, keepsL_foldl, keepsR_foldl, keeps_wr, keeps_spillPot, keeps_setStr, keeps_setPot]) heq | have hk := keepsM_eq (l := l) (by simp +contextual (maxDischargeDepth := 40) only [hk, h, keepsO_next, keepsO_fault, keepsM_some, keepsM_none, keepsL_mk, keepsR_mk, keepsL_fold, keepsR_fold, keeps_ite, keepsO_ite, keepsM_ite, keepsL_ite, keepsR_ite, ite_self, implies_true, keeps_foldl, keepsL_foldl, keepsR_foldl, keeps_wr, keeps_spillPot, keeps_setStr, keeps_setPot]) heq)) <;> (try simp +contextual (maxDischargeDepth := 40) only [hk, h, keepsO_next, keepsO_fault, keepsM_some, keepsM_none, keepsL_mk, keepsR_mk, keepsL_fold, keepsR_fold, keeps_ite, keepsO_ite, keepsM_ite, keepsL_ite, keepsR_ite, ite_self, implies_true, keeps_foldl, keepsL_foldl, keepsR_foldl, keeps_wr, keeps_spillPot, keeps_setStr, keeps_setPot]))

theorem keeps_migSave {l} {s : State} (h : Keeps l s) (x1 x2) : Keeps l (State.migSave s x1 x2) := by
  unfold State.migSave
  simp +contextual (maxDischargeDepth := 40) only [h, keepsO_next, keepsO_fault, keepsM_some, keepsM_none,
      keepsL_mk, keepsR_mk, keepsL_fold, keepsR_fold, keeps_ite, keepsO_ite, keepsM_ite, keepsL_ite, keepsR_ite,
      ite_self, implies_true, keeps_foldl, keepsL_foldl, keepsR_foldl, keeps_migRefuse, keeps_migImages,
      keeps_setStr, keeps_migPot, keeps_raiseS, keeps_setBsk, keeps_settleBsk, keeps_putStr, keeps_wrCtx]

theorem keeps_migOpen {l} {s : State} (h : Keeps l s) (x1 x2) : Keeps l (State.migOpen s x1 x2) := by
  unfold State.migOpen
  simp +contextual (maxDischargeDepth := 40) only [h, keepsO_next, keepsO_fault, keepsM_some, keepsM_none,
      keepsL_mk, keepsR_mk, keepsL_fold, keepsR_fold, keeps_ite, keepsO_ite, keepsM_ite, keepsL_ite, keepsR_ite,
      ite_self, implies_true, keeps_foldl, keepsL_foldl, keepsR_foldl, keeps_migFail, keeps_reopen,
      keeps_migReport]

theorem keeps_migMove {l} {s : State} (h : Keeps l s) (x1) : Keeps l (State.migMove s x1) := by
  unfold State.migMove
  try simp +contextual (maxDischargeDepth := 40) only [h, keepsO_next, keepsO_fault, keepsM_some, keepsM_none,
      keepsL_mk, keepsR_mk, keepsL_fold, keepsR_fold, keeps_ite, keepsO_ite, keepsM_ite, keepsL_ite, keepsR_ite,
      ite_self, implies_true, keeps_foldl, keepsL_foldl, keepsR_foldl, keeps_migOpen, keeps_migSave]
  all_goals repeat' (split <;> (try simp +contextual (maxDischargeDepth := 40) only [h, keepsO_next, keepsO_fault,
      keepsM_some, keepsM_none, keepsL_mk, keepsR_mk, keepsL_fold, keepsR_fold, keeps_ite, keepsO_ite, keepsM_ite,
      keepsL_ite, keepsR_ite, ite_self, implies_true, keeps_foldl, keepsL_foldl, keepsR_foldl, keeps_migOpen,
      keeps_migSave]))

theorem keeps_execMigrationMove {l} {s : State} (h : Keeps l s) (x0) : KeepsO l (execMigrationMove x0 s) := by
  unfold execMigrationMove
  simp +contextual (maxDischargeDepth := 40) only [h, keepsO_next, keepsO_fault, keepsM_some, keepsM_none,
      keepsL_mk, keepsR_mk, keepsL_fold, keepsR_fold, keeps_ite, keepsO_ite, keepsM_ite, keepsL_ite, keepsR_ite,
      ite_self, implies_true, keeps_foldl, keepsL_foldl, keepsR_foldl, keeps_guard, keeps_migMove]

/-! ## Links -/

theorem keeps_putJoin {l} {s : State} (h : Keeps l s) (x1 x2 x3 x4) : Keeps l (State.putJoin s x1 x2 x3 x4) := h

theorem keeps_greet {l} {s : State} (h : Keeps l s) (x1) : Keeps l (State.greet s x1) := by
  unfold State.greet
  simp +contextual (maxDischargeDepth := 40) only [h, keepsO_next, keepsO_fault, keepsM_some, keepsM_none,
      keepsL_mk, keepsR_mk, keepsL_fold, keepsR_fold, keeps_ite, keepsO_ite, keepsM_ite, keepsL_ite, keepsR_ite,
      ite_self, implies_true, keeps_foldl, keepsL_foldl, keepsR_foldl, keeps_putJoin]

theorem keeps_follow {l} {s : State} (h : Keeps l s) (x1 x2 x3) : Keeps l (State.follow s x1 x2 x3) := by
  unfold State.follow
  simp +contextual (maxDischargeDepth := 40) only [h, keeps_mk, keeps_fold, keepsO_next, keepsO_fault, keepsM_some,
      keepsM_none, keepsL_mk, keepsR_mk, keepsL_fold, keepsR_fold, keeps_ite, keepsO_ite, keepsM_ite, keepsL_ite,
      keepsR_ite, ite_self, implies_true, keeps_foldl, keepsL_foldl, keepsR_foldl, keeps_greet]

theorem keeps_adopt {l} {s : State} (h : Keeps l s) : Keeps l (State.adopt s) := by
  unfold State.adopt
  all_goals repeat' (split <;> (try simp +contextual (maxDischargeDepth := 40) only [h, keeps_mk, keeps_fold,
      keepsO_next, keepsO_fault, keepsM_some, keepsM_none, keepsL_mk, keepsR_mk, keepsL_fold, keepsR_fold,
      keeps_ite, keepsO_ite, keepsM_ite, keepsL_ite, keepsR_ite, ite_self, implies_true, keeps_foldl, keepsL_foldl,
      keepsR_foldl, keeps_follow]))

theorem keeps_portTo {l} {s : State} (h : Keeps l s) (x1 x2) : Keeps l (State.portTo s x1 x2) := by
  unfold State.portTo
  simp +contextual (maxDischargeDepth := 40) only [h, keepsO_next, keepsO_fault, keepsM_some, keepsM_none,
      keepsL_mk, keepsR_mk, keepsL_fold, keepsR_fold, keeps_ite, keepsO_ite, keepsM_ite, keepsL_ite, keepsR_ite,
      ite_self, implies_true, keeps_foldl, keepsL_foldl, keepsR_foldl, keeps_adopt, keeps_setPort, keeps_reroute]

theorem keeps_retirePort {l} {s : State} (h : Keeps l s) (x1 x2) : Keeps l (State.retirePort s x1 x2) := by
  unfold State.retirePort
  simp +contextual (maxDischargeDepth := 40) only [h, keepsO_next, keepsO_fault, keepsM_some, keepsM_none,
      keepsL_mk, keepsR_mk, keepsL_fold, keepsR_fold, keeps_ite, keepsO_ite, keepsM_ite, keepsL_ite, keepsR_ite,
      ite_self, implies_true, keeps_foldl, keepsL_foldl, keepsR_foldl, keeps_setPort, keeps_bbrPut, keeps_raise,
      keeps_portTo]

theorem keeps_portDown {l} {s : State} (h : Keeps l s) (x1) : Keeps l (State.portDown s x1) := by
  unfold State.portDown
  simp +contextual (maxDischargeDepth := 40) only [h, keepsO_next, keepsO_fault, keepsM_some, keepsM_none,
      keepsL_mk, keepsR_mk, keepsL_fold, keepsR_fold, keeps_ite, keepsO_ite, keepsM_ite, keepsL_ite, keepsR_ite,
      ite_self, implies_true, keeps_foldl, keepsL_foldl, keepsR_foldl, keeps_portTo, keeps_setPort,
      keeps_retirePort]

theorem keeps_portDark {l} {s : State} (h : Keeps l s) (x1) : Keeps l (State.portDark s x1) := by
  unfold State.portDark
  simp +contextual (maxDischargeDepth := 40) only [h, keepsO_next, keepsO_fault, keepsM_some, keepsM_none,
      keepsL_mk, keepsR_mk, keepsL_fold, keepsR_fold, keeps_ite, keepsO_ite, keepsM_ite, keepsL_ite, keepsR_ite,
      ite_self, implies_true, keeps_foldl, keepsL_foldl, keepsR_foldl, keeps_portTo, keeps_portDown]

theorem keeps_quadPortsDown {l} {s : State} (h : Keeps l s) (x1) : Keeps l (State.quadPortsDown s x1) := by
  unfold State.quadPortsDown
  simp +contextual (maxDischargeDepth := 40) only [h, keepsO_next, keepsO_fault, keepsM_some, keepsM_none,
      keepsL_mk, keepsR_mk, keepsL_fold, keepsR_fold, keeps_ite, keepsO_ite, keepsM_ite, keepsL_ite, keepsR_ite,
      ite_self, implies_true, keeps_foldl, keepsL_foldl, keepsR_foldl, keeps_portDark]

/-! ## Basket control -/

theorem keeps_takeStaged {l} {s : State} (h : Keeps l s) (x1 x2) : Keeps l (takeStaged s x1 x2) := by
  unfold takeStaged
  all_goals repeat' (split <;> (try simp +contextual (maxDischargeDepth := 40) only [h, keepsO_next, keepsO_fault,
      keepsM_some, keepsM_none, keepsL_mk, keepsR_mk, keepsL_fold, keepsR_fold, keeps_ite, keepsO_ite, keepsM_ite,
      keepsL_ite, keepsR_ite, ite_self, implies_true, keeps_foldl, keepsL_foldl, keepsR_foldl, keeps_setBsk,
      keeps_setPan]))

theorem keeps_takeClass {l} {s : State} (h : Keeps l s) (x1) : Keeps l (State.takeClass s x1) := by
  unfold State.takeClass
  try simp +contextual (maxDischargeDepth := 40) only [h, keepsO_next, keepsO_fault, keepsM_some, keepsM_none,
      keepsL_mk, keepsR_mk, keepsL_fold, keepsR_fold, keeps_ite, keepsO_ite, keepsM_ite, keepsL_ite, keepsR_ite,
      ite_self, implies_true, keeps_foldl, keepsL_foldl, keepsR_foldl, keeps_setBsk, keeps_tellSpares,
      keeps_setPan, keeps_retireBasket]
  all_goals repeat' (split <;> (try simp +contextual (maxDischargeDepth := 40) only [h, keepsO_next, keepsO_fault,
      keepsM_some, keepsM_none, keepsL_mk, keepsR_mk, keepsL_fold, keepsR_fold, keeps_ite, keepsO_ite, keepsM_ite,
      keepsL_ite, keepsR_ite, ite_self, implies_true, keeps_foldl, keepsL_foldl, keepsR_foldl, keeps_setBsk,
      keeps_tellSpares, keeps_setPan, keeps_retireBasket]))

theorem keeps_makeDue {l} {s : State} (h : Keeps l s) (x1) : Keeps l (State.makeDue s x1) := by
  unfold State.makeDue
  simp +contextual (maxDischargeDepth := 40) only [h, keepsO_next, keepsO_fault, keepsM_some, keepsM_none,
      keepsL_mk, keepsR_mk, keepsL_fold, keepsR_fold, keeps_ite, keepsO_ite, keepsM_ite, keepsL_ite, keepsR_ite,
      ite_self, implies_true, keeps_foldl, keepsL_foldl, keepsR_foldl, keeps_setBsk]

theorem keeps_commitBsk {l} {s : State} (h : Keeps l s) (x1) : Keeps l (State.commitBsk s x1) := by
  unfold State.commitBsk
  simp +contextual (maxDischargeDepth := 40) only [h, keepsO_next, keepsO_fault, keepsM_some, keepsM_none,
      keepsL_mk, keepsR_mk, keepsL_fold, keepsR_fold, keeps_ite, keepsO_ite, keepsM_ite, keepsL_ite, keepsR_ite,
      ite_self, implies_true, keeps_foldl, keepsL_foldl, keepsR_foldl, keeps_takeStaged, keeps_setBsk,
      keeps_testTurn, keeps_settleBsk, keeps_remargin, keeps_takeClass]

theorem keeps_toWarming {l} {s : State} (h : Keeps l s) (x1) : Keeps l (State.toWarming s x1) := by
  unfold State.toWarming
  simp +contextual (maxDischargeDepth := 40) only [h, keepsO_next, keepsO_fault, keepsM_some, keepsM_none,
      keepsL_mk, keepsR_mk, keepsL_fold, keepsR_fold, keeps_ite, keepsO_ite, keepsM_ite, keepsL_ite, keepsR_ite,
      ite_self, implies_true, keeps_foldl, keepsL_foldl, keepsR_foldl, keeps_setBsk]

theorem keeps_ignBsk {l} {s : State} (h : Keeps l s) (x1) : Keeps l (State.ignBsk s x1) := by
  unfold State.ignBsk
  simp +contextual (maxDischargeDepth := 40) only [h, keepsO_next, keepsO_fault, keepsM_some, keepsM_none,
      keepsL_mk, keepsR_mk, keepsL_fold, keepsR_fold, keeps_ite, keepsO_ite, keepsM_ite, keepsL_ite, keepsR_ite,
      ite_self, implies_true, keeps_foldl, keepsL_foldl, keepsR_foldl, keeps_setBsk]

theorem keeps_drainBsk {l} {s : State} (h : Keeps l s) (x1 x2) : Keeps l (State.drainBsk s x1 x2) := by
  unfold State.drainBsk
  simp +contextual (maxDischargeDepth := 40) only [h, keepsO_next, keepsO_fault, keepsM_some, keepsM_none,
      keepsL_mk, keepsR_mk, keepsL_fold, keepsR_fold, keeps_ite, keepsO_ite, keepsM_ite, keepsL_ite, keepsR_ite,
      ite_self, implies_true, keeps_foldl, keepsL_foldl, keepsR_foldl, keeps_abandonIn, keeps_testTurn,
      keeps_setBsk]

theorem keeps_cmdStop {l} {s : State} (h : Keeps l s) (x1) : Keeps l (State.cmdStop s x1) := by
  unfold State.cmdStop
  try simp +contextual (maxDischargeDepth := 40) only [h, keepsO_next, keepsO_fault, keepsM_some, keepsM_none,
      keepsL_mk, keepsR_mk, keepsL_fold, keepsR_fold, keeps_ite, keepsO_ite, keepsM_ite, keepsL_ite, keepsR_ite,
      ite_self, implies_true, keeps_foldl, keepsL_foldl, keepsR_foldl, keeps_drainBsk, keeps_setBsk, keeps_ignBsk]
  all_goals repeat' (split <;> (try simp +contextual (maxDischargeDepth := 40) only [h, keepsO_next, keepsO_fault,
      keepsM_some, keepsM_none, keepsL_mk, keepsR_mk, keepsL_fold, keepsR_fold, keeps_ite, keepsO_ite, keepsM_ite,
      keepsL_ite, keepsR_ite, ite_self, implies_true, keeps_foldl, keepsL_foldl, keepsR_foldl, keeps_drainBsk,
      keeps_setBsk, keeps_ignBsk]))

theorem keeps_cmdCommit {l} {s : State} (h : Keeps l s) (x1) : Keeps l (State.cmdCommit s x1) := by
  unfold State.cmdCommit
  try simp +contextual (maxDischargeDepth := 40) only [h, keepsO_next, keepsO_fault, keepsM_some, keepsM_none,
      keepsL_mk, keepsR_mk, keepsL_fold, keepsR_fold, keeps_ite, keepsO_ite, keepsM_ite, keepsL_ite, keepsR_ite,
      ite_self, implies_true, keeps_foldl, keepsL_foldl, keepsR_foldl, keeps_commitBsk, keeps_setBsk, keeps_ignBsk]
  all_goals repeat' (split <;> (try simp +contextual (maxDischargeDepth := 40) only [h, keepsO_next, keepsO_fault,
      keepsM_some, keepsM_none, keepsL_mk, keepsR_mk, keepsL_fold, keepsR_fold, keeps_ite, keepsO_ite, keepsM_ite,
      keepsL_ite, keepsR_ite, ite_self, implies_true, keeps_foldl, keepsL_foldl, keepsR_foldl, keeps_commitBsk,
      keeps_setBsk, keeps_ignBsk]))

theorem keeps_cmdOff {l} {s : State} (h : Keeps l s) (x1) : Keeps l (State.cmdOff s x1) := by
  unfold State.cmdOff
  all_goals repeat' (split <;> (try simp +contextual (maxDischargeDepth := 40) only [h, keepsO_next, keepsO_fault,
      keepsM_some, keepsM_none, keepsL_mk, keepsR_mk, keepsL_fold, keepsR_fold, keeps_ite, keepsO_ite, keepsM_ite,
      keepsL_ite, keepsR_ite, ite_self, implies_true, keeps_foldl, keepsL_foldl, keepsR_foldl, keeps_ignBsk,
      keeps_drainBsk, keeps_setBsk]))

theorem keeps_cmdOn {l} {s : State} (h : Keeps l s) (x1) : Keeps l (State.cmdOn s x1) := by
  unfold State.cmdOn
  try simp +contextual (maxDischargeDepth := 40) only [h, keepsO_next, keepsO_fault, keepsM_some, keepsM_none,
      keepsL_mk, keepsR_mk, keepsL_fold, keepsR_fold, keeps_ite, keepsO_ite, keepsM_ite, keepsL_ite, keepsR_ite,
      ite_self, implies_true, keeps_foldl, keepsL_foldl, keepsR_foldl, keeps_toWarming, keeps_setBsk, keeps_ignBsk]
  all_goals repeat' (split <;> (try simp +contextual (maxDischargeDepth := 40) only [h, keepsO_next, keepsO_fault,
      keepsM_some, keepsM_none, keepsL_mk, keepsR_mk, keepsL_fold, keepsR_fold, keeps_ite, keepsO_ite, keepsM_ite,
      keepsL_ite, keepsR_ite, ite_self, implies_true, keeps_foldl, keepsL_foldl, keepsR_foldl, keeps_toWarming,
      keeps_setBsk, keeps_ignBsk]))

theorem keeps_resetBsk {l} {s : State} (h : Keeps l s) (x1) : Keeps l (State.resetBsk s x1) := by
  have hf : ∀ s : State, Keeps l s → Keeps l { s with
      pots := s.pots.filter (fun e => e.1 / 64 != x1)
      scales := s.scales.filter (fun e => e.1 / 16384 != x1)
      tokens := s.tokens.filter (fun e => e.1 / 32 != x1)
      fastQ := s.fastQ.filter (· != x1) } := fun s hs =>
    ⟨hs.1, hs.2.1, hs.2.2.1, tokOk_filter _ (fun k => k / 32 != x1) hs.2.2.2.1, hs.2.2.2.2⟩
  unfold State.resetBsk
  exact keeps_testTurn (keeps_remargin (keeps_foldl l _ _ _ (keeps_setBsk (hf _ (keeps_evict (keeps_abandonIn h _) _)) _ _)
    fun s p hs => keeps_setPan hs _ _) _)

theorem keeps_cmdReset' {l} {s : State} (h : Keeps l s) (x1) : Keeps l (State.cmdReset' s x1) := by
  have hk := h
  unfold State.cmdReset'
  try simp +contextual (maxDischargeDepth := 40) only [h, keepsO_next, keepsO_fault, keepsM_some, keepsM_none,
      keepsL_mk, keepsR_mk, keepsL_fold, keepsR_fold, keeps_ite, keepsO_ite, keepsM_ite, keepsL_ite, keepsR_ite,
      ite_self, implies_true, keeps_foldl, keepsL_foldl, keepsR_foldl, keeps_ignBsk, keeps_resetBsk]
  all_goals repeat' ((try extract_lets) <;> split <;> (try (rename_i heq; first | have hk := keepsR_eq (l := l) (by simp +contextual (maxDischargeDepth := 40) only [hk, h, keepsO_next, keepsO_fault, keepsM_some, keepsM_none, keepsL_mk, keepsR_mk, keepsL_fold, keepsR_fold, keeps_ite, keepsO_ite, keepsM_ite, keepsL_ite, keepsR_ite, ite_self, implies_true, keeps_foldl, keepsL_foldl, keepsR_foldl, keeps_ignBsk, keeps_resetBsk]) heq | have hk := keepsL_eq (l := l) (by simp +contextual (maxDischargeDepth := 40) only [hk, h, keepsO_next, keepsO_fault, keepsM_some, keepsM_none, keepsL_mk, keepsR_mk, keepsL_fold, keepsR_fold, keeps_ite, keepsO_ite, keepsM_ite, keepsL_ite, keepsR_ite, ite_self, implies_true, keeps_foldl, keepsL_foldl, keepsR_foldl, keeps_ignBsk, keeps_resetBsk]) heq | have hk := keepsM_eq (l := l) (by simp +contextual (maxDischargeDepth := 40) only [hk, h, keepsO_next, keepsO_fault, keepsM_some, keepsM_none, keepsL_mk, keepsR_mk, keepsL_fold, keepsR_fold, keeps_ite, keepsO_ite, keepsM_ite, keepsL_ite, keepsR_ite, ite_self, implies_true, keeps_foldl, keepsL_foldl, keepsR_foldl, keeps_ignBsk, keeps_resetBsk]) heq)) <;> (try simp +contextual (maxDischargeDepth := 40) only [hk, h, keepsO_next, keepsO_fault, keepsM_some, keepsM_none, keepsL_mk, keepsR_mk, keepsL_fold, keepsR_fold, keeps_ite, keepsO_ite, keepsM_ite, keepsL_ite, keepsR_ite, ite_self, implies_true, keeps_foldl, keepsL_foldl, keepsR_foldl, keeps_ignBsk, keeps_resetBsk]))

theorem keeps_bskCtl {l} {s : State} (h : Keeps l s) (x1 x2) : Keeps l (State.bskCtl s x1 x2) := by
  unfold State.bskCtl
  all_goals repeat' (split <;> (try simp +contextual (maxDischargeDepth := 40) only [h, keepsO_next, keepsO_fault,
      keepsM_some, keepsM_none, keepsL_mk, keepsR_mk, keepsL_fold, keepsR_fold, keeps_ite, keepsO_ite, keepsM_ite,
      keepsL_ite, keepsR_ite, ite_self, implies_true, keeps_foldl, keepsL_foldl, keepsR_foldl, keeps_cmdStop,
      keeps_cmdCommit, keeps_cmdReset', keeps_cmdOff, keeps_cmdOn, keeps_ignBsk]))

theorem keeps_execBasketStop {l} {s : State} (h : Keeps l s) (x0) : KeepsO l (execBasketStop x0 s) := by
  unfold execBasketStop
  simp +contextual (maxDischargeDepth := 40) only [h, keepsO_next, keepsO_fault, keepsM_some, keepsM_none,
      keepsL_mk, keepsR_mk, keepsL_fold, keepsR_fold, keeps_ite, keepsO_ite, keepsM_ite, keepsL_ite, keepsR_ite,
      ite_self, implies_true, keeps_foldl, keepsL_foldl, keepsR_foldl, keeps_guard, keeps_cmdStop]

theorem keeps_execBasketCommit {l} {s : State} (h : Keeps l s) (x0) : KeepsO l (execBasketCommit x0 s) := by
  unfold execBasketCommit
  simp +contextual (maxDischargeDepth := 40) only [h, keepsO_next, keepsO_fault, keepsM_some, keepsM_none,
      keepsL_mk, keepsR_mk, keepsL_fold, keepsR_fold, keeps_ite, keepsO_ite, keepsM_ite, keepsL_ite, keepsR_ite,
      ite_self, implies_true, keeps_foldl, keepsL_foldl, keepsR_foldl, keeps_guard, keeps_cmdCommit]

theorem keeps_execBasketOff {l} {s : State} (h : Keeps l s) (x0) : KeepsO l (execBasketOff x0 s) := by
  unfold execBasketOff
  simp +contextual (maxDischargeDepth := 40) only [h, keepsO_next, keepsO_fault, keepsM_some, keepsM_none,
      keepsL_mk, keepsR_mk, keepsL_fold, keepsR_fold, keeps_ite, keepsO_ite, keepsM_ite, keepsL_ite, keepsR_ite,
      ite_self, implies_true, keeps_foldl, keepsL_foldl, keepsR_foldl, keeps_guard, keeps_cmdOff]

theorem keeps_execBasketOn {l} {s : State} (h : Keeps l s) (x0) : KeepsO l (execBasketOn x0 s) := by
  unfold execBasketOn
  simp +contextual (maxDischargeDepth := 40) only [h, keepsO_next, keepsO_fault, keepsM_some, keepsM_none,
      keepsL_mk, keepsR_mk, keepsL_fold, keepsR_fold, keeps_ite, keepsO_ite, keepsM_ite, keepsL_ite, keepsR_ite,
      ite_self, implies_true, keeps_foldl, keepsL_foldl, keepsR_foldl, keeps_guard, keeps_cmdOn]

theorem keeps_execBasketReset {l} {s : State} (h : Keeps l s) (x0) : KeepsO l (execBasketReset x0 s) := by
  unfold execBasketReset
  simp +contextual (maxDischargeDepth := 40) only [h, keepsO_next, keepsO_fault, keepsM_some, keepsM_none,
      keepsL_mk, keepsR_mk, keepsL_fold, keepsR_fold, keeps_ite, keepsO_ite, keepsM_ite, keepsL_ite, keepsR_ite,
      ite_self, implies_true, keeps_foldl, keepsL_foldl, keepsR_foldl, keeps_guard, keeps_cmdReset']

theorem keeps_drained {l} {s : State} (h : Keeps l s) (x1) : Keeps l (State.drained s x1) := by
  unfold State.drained
  try simp +contextual (maxDischargeDepth := 40) only [h, keepsO_next, keepsO_fault, keepsM_some, keepsM_none,
      keepsL_mk, keepsR_mk, keepsL_fold, keepsR_fold, keeps_ite, keepsO_ite, keepsM_ite, keepsL_ite, keepsR_ite,
      ite_self, implies_true, keeps_foldl, keepsL_foldl, keepsR_foldl, keeps_setBsk, keeps_commitBsk,
      keeps_toWarming]
  all_goals repeat' (split <;> (try simp +contextual (maxDischargeDepth := 40) only [h, keepsO_next, keepsO_fault,
      keepsM_some, keepsM_none, keepsL_mk, keepsR_mk, keepsL_fold, keepsR_fold, keeps_ite, keepsO_ite, keepsM_ite,
      keepsL_ite, keepsR_ite, ite_self, implies_true, keeps_foldl, keepsL_foldl, keepsR_foldl, keeps_setBsk,
      keeps_commitBsk, keeps_toWarming]))

theorem keeps_execBasketDrained {l} {s : State} (h : Keeps l s) (x0) : KeepsO l (execBasketDrained x0 s) := by
  unfold execBasketDrained
  simp +contextual (maxDischargeDepth := 40) only [h, keepsO_next, keepsO_fault, keepsM_some, keepsM_none,
      keepsL_mk, keepsR_mk, keepsL_fold, keepsR_fold, keeps_ite, keepsO_ite, keepsM_ite, keepsL_ite, keepsR_ite,
      ite_self, implies_true, keeps_foldl, keepsL_foldl, keepsR_foldl, keeps_guard, keeps_drained]

theorem keeps_warmed {l} {s : State} (h : Keeps l s) (x1) : Keeps l (State.warmed s x1) := by
  unfold State.warmed
  simp +contextual (maxDischargeDepth := 40) only [h, keepsO_next, keepsO_fault, keepsM_some, keepsM_none,
      keepsL_mk, keepsR_mk, keepsL_fold, keepsR_fold, keeps_ite, keepsO_ite, keepsM_ite, keepsL_ite, keepsR_ite,
      ite_self, implies_true, keeps_foldl, keepsL_foldl, keepsR_foldl, keeps_setBsk, keeps_testTurn,
      keeps_settleBsk]

theorem keeps_execWarmingEnd {l} {s : State} (h : Keeps l s) (x0) : KeepsO l (execWarmingEnd x0 s) := by
  unfold execWarmingEnd
  simp +contextual (maxDischargeDepth := 40) only [h, keepsO_next, keepsO_fault, keepsM_some, keepsM_none,
      keepsL_mk, keepsR_mk, keepsL_fold, keepsR_fold, keeps_ite, keepsO_ite, keepsM_ite, keepsL_ite, keepsR_ite,
      ite_self, implies_true, keeps_foldl, keepsL_foldl, keepsR_foldl, keeps_guard, keeps_warmed,
      keeps_retireBasket]

theorem keeps_scaleClass {l} {s : State} (h : Keeps l s) (x1) : Keeps l (State.scaleClass s x1) := by
  unfold State.scaleClass
  simp +contextual (maxDischargeDepth := 40) only [h, keeps_mk, keeps_fold, keepsO_next, keepsO_fault, keepsM_some,
      keepsM_none, keepsL_mk, keepsR_mk, keepsL_fold, keepsR_fold, keeps_ite, keepsO_ite, keepsM_ite, keepsL_ite,
      keepsR_ite, ite_self, implies_true, keeps_foldl, keepsL_foldl, keepsR_foldl, keeps_setBsk]

theorem keeps_execScaleClassWrite {l} {s : State} (h : Keeps l s) (x0) : KeepsO l (execScaleClassWrite x0 s) := by
  unfold execScaleClassWrite
  simp +contextual (maxDischargeDepth := 40) only [h, keepsO_next, keepsO_fault, keepsM_some, keepsM_none,
      keepsL_mk, keepsR_mk, keepsL_fold, keepsR_fold, keeps_ite, keepsO_ite, keepsM_ite, keepsL_ite, keepsR_ite,
      ite_self, implies_true, keeps_foldl, keepsL_foldl, keepsR_foldl, keeps_scaleClass]

theorem keeps_seqClear {l} {s : State} (h : Keeps l s) (x1) : Keeps l (State.seqClear s x1) := by
  have hc : ∀ (m : Tab Token) (k : Nat), TokOk m → TokOk (tmod tokDflt m k (fun t => { t with ovf := false })) :=
    fun m k hm => tokOk_tset _ _ _ hm (hm k)
  unfold State.seqClear
  extract_lets _ s1 clr
  have hs : Keeps l s1 := keeps_setBsk h _ _
  rw [keeps_mk]
  exact ⟨hs.1, hs.2.1, hs.2.2.1, tokOk_foldl _ _ _ hs.2.2.2.1 fun m i hm => hc _ _ hm,
      tokOk_foldl _ _ _ hs.2.2.2.2 hc⟩

theorem keeps_wskClear {l} {s : State} (h : Keeps l s) (x1) : Keeps l (State.wskClear s x1) := by
  unfold State.wskClear
  simp +contextual (maxDischargeDepth := 40) only [h, keepsO_next, keepsO_fault, keepsM_some, keepsM_none,
      keepsL_mk, keepsR_mk, keepsL_fold, keepsR_fold, keeps_ite, keepsO_ite, keepsM_ite, keepsL_ite, keepsR_ite,
      ite_self, implies_true, keeps_foldl, keepsL_foldl, keepsR_foldl, keeps_setBsk]

theorem keeps_rdoClear {l} {s : State} (h : Keeps l s) (x1) : Keeps l (State.rdoClear s x1) := by
  unfold State.rdoClear
  simp +contextual (maxDischargeDepth := 40) only [h, keepsO_next, keepsO_fault, keepsM_some, keepsM_none,
      keepsL_mk, keepsR_mk, keepsL_fold, keepsR_fold, keeps_ite, keepsO_ite, keepsM_ite, keepsL_ite, keepsR_ite,
      ite_self, implies_true, keeps_foldl, keepsL_foldl, keepsR_foldl, keeps_setBsk]

theorem keeps_execSeqCntClr {l} {s : State} (h : Keeps l s) (x0) : KeepsO l (execSeqCntClr x0 s) := by
  unfold execSeqCntClr
  simp +contextual (maxDischargeDepth := 40) only [h, keepsO_next, keepsO_fault, keepsM_some, keepsM_none,
      keepsL_mk, keepsR_mk, keepsL_fold, keepsR_fold, keeps_ite, keepsO_ite, keepsM_ite, keepsL_ite, keepsR_ite,
      ite_self, implies_true, keeps_foldl, keepsL_foldl, keepsR_foldl, keeps_guard, keeps_seqClear]

theorem keeps_execWskCntClr {l} {s : State} (h : Keeps l s) (x0) : KeepsO l (execWskCntClr x0 s) := by
  unfold execWskCntClr
  simp +contextual (maxDischargeDepth := 40) only [h, keepsO_next, keepsO_fault, keepsM_some, keepsM_none,
      keepsL_mk, keepsR_mk, keepsL_fold, keepsR_fold, keeps_ite, keepsO_ite, keepsM_ite, keepsL_ite, keepsR_ite,
      ite_self, implies_true, keeps_foldl, keepsL_foldl, keepsR_foldl, keeps_guard, keeps_wskClear]

theorem keeps_execRdoCntClr {l} {s : State} (h : Keeps l s) (x0) : KeepsO l (execRdoCntClr x0 s) := by
  unfold execRdoCntClr
  simp +contextual (maxDischargeDepth := 40) only [h, keepsO_next, keepsO_fault, keepsM_some, keepsM_none,
      keepsL_mk, keepsR_mk, keepsL_fold, keepsR_fold, keeps_ite, keepsO_ite, keepsM_ite, keepsL_ite, keepsR_ite,
      ite_self, implies_true, keeps_foldl, keepsL_foldl, keepsR_foldl, keeps_guard, keeps_rdoClear]

theorem keeps_rampBsk {l} {s : State} (h : Keeps l s) (x1 x2 x3) : Keeps l (State.rampBsk s x1 x2 x3) := by
  unfold State.rampBsk
  simp +contextual (maxDischargeDepth := 40) only [h, keeps_mk, keeps_fold, keepsO_next, keepsO_fault, keepsM_some,
      keepsM_none, keepsL_mk, keepsR_mk, keepsL_fold, keepsR_fold, keeps_ite, keepsO_ite, keepsM_ite, keepsL_ite,
      keepsR_ite, ite_self, implies_true, keeps_foldl, keepsL_foldl, keepsR_foldl, keeps_setBsk, keeps_setPan]

theorem keeps_startMeasure {l} {s : State} (h : Keeps l s) : Keeps l (State.startMeasure s) := by
  unfold State.startMeasure
  all_goals repeat' (split <;> (try simp +contextual (maxDischargeDepth := 40) only [h, keeps_mk, keeps_fold,
      keepsO_next, keepsO_fault, keepsM_some, keepsM_none, keepsL_mk, keepsR_mk, keepsL_fold, keepsR_fold,
      keeps_ite, keepsO_ite, keepsM_ite, keepsL_ite, keepsR_ite, ite_self, implies_true, keeps_foldl, keepsL_foldl,
      keepsR_foldl, keeps_setPan]))

theorem keeps_ramp {l} {s : State} (h : Keeps l s) (x1 x2) : Keeps l (State.ramp s x1 x2) := by
  unfold State.ramp
  simp +contextual (maxDischargeDepth := 40) only [h, keeps_mk, keeps_fold, keepsO_next, keepsO_fault, keepsM_some,
      keepsM_none, keepsL_mk, keepsR_mk, keepsL_fold, keepsR_fold, keeps_ite, keepsO_ite, keepsM_ite, keepsL_ite,
      keepsR_ite, ite_self, implies_true, keeps_foldl, keepsL_foldl, keepsR_foldl, keeps_at, keeps_startMeasure,
      keeps_rampBsk]

theorem keeps_execRampInterval {l} {s : State} (h : Keeps l s) (x0 x1) : KeepsO l (execRampInterval x0 x1 s) := by
  unfold execRampInterval
  simp +contextual (maxDischargeDepth := 40) only [h, keepsO_next, keepsO_fault, keepsM_some, keepsM_none,
      keepsL_mk, keepsR_mk, keepsL_fold, keepsR_fold, keeps_ite, keepsO_ite, keepsM_ite, keepsL_ite, keepsR_ite,
      ite_self, implies_true, keeps_foldl, keepsL_foldl, keepsR_foldl, keeps_ramp]

theorem keeps_stepDown {l} {s : State} (h : Keeps l s) (x1) : Keeps l (State.stepDown s x1) := by
  unfold State.stepDown
  try simp +contextual (maxDischargeDepth := 40) only [h, keepsO_next, keepsO_fault, keepsM_some, keepsM_none,
      keepsL_mk, keepsR_mk, keepsL_fold, keepsR_fold, keeps_ite, keepsO_ite, keepsM_ite, keepsL_ite, keepsR_ite,
      ite_self, implies_true, keeps_foldl, keepsL_foldl, keepsR_foldl, keeps_setBsk, keeps_condition]
  all_goals repeat' (split <;> (try simp +contextual (maxDischargeDepth := 40) only [h, keepsO_next, keepsO_fault,
      keepsM_some, keepsM_none, keepsL_mk, keepsR_mk, keepsL_fold, keepsR_fold, keeps_ite, keepsO_ite, keepsM_ite,
      keepsL_ite, keepsR_ite, ite_self, implies_true, keeps_foldl, keepsL_foldl, keepsR_foldl, keeps_setBsk,
      keeps_condition]))

theorem keeps_stepUp {l} {s : State} (h : Keeps l s) : Keeps l (State.stepUp s) := by
  unfold State.stepUp
  try simp +contextual (maxDischargeDepth := 40) only [h, keepsO_next, keepsO_fault, keepsM_some, keepsM_none,
      keepsL_mk, keepsR_mk, keepsL_fold, keepsR_fold, keeps_ite, keepsO_ite, keepsM_ite, keepsL_ite, keepsR_ite,
      ite_self, implies_true, keeps_foldl, keepsL_foldl, keepsR_foldl, keeps_setBsk]
  all_goals repeat' (split <;> (try simp +contextual (maxDischargeDepth := 40) only [h, keepsO_next, keepsO_fault,
      keepsM_some, keepsM_none, keepsL_mk, keepsR_mk, keepsL_fold, keepsR_fold, keeps_ite, keepsO_ite, keepsM_ite,
      keepsL_ite, keepsR_ite, ite_self, implies_true, keeps_foldl, keepsL_foldl, keepsR_foldl, keeps_setBsk]))

theorem keeps_govern {l} {s : State} (h : Keeps l s) : Keeps l (State.govern s) := by
  unfold State.govern
  extract_lets k u d s1 lim p
  have hd : ∀ {u : State} (d : Dev), Keeps l u → Keeps l { u with dev := d } := fun d hu => hu
  have h1 : Keeps l s1 := hd _ (keeps_at h _)
  clear_value s1
  split
  · exact keeps_stepDown (hd _ h1) _
  · split
    · exact keeps_dite (keeps_stepUp (hd _ h1)) (hd _ h1)
    · exact hd _ h1

theorem keeps_execGovernorEval {l} {s : State} (h : Keeps l s) : KeepsO l (execGovernorEval s) := by
  unfold execGovernorEval
  simp +contextual (maxDischargeDepth := 40) only [h, keepsO_next, keepsO_fault, keepsM_some, keepsM_none,
      keepsL_mk, keepsR_mk, keepsL_fold, keepsR_fold, keeps_ite, keepsO_ite, keepsM_ite, keepsL_ite, keepsR_ite,
      ite_self, implies_true, keeps_foldl, keepsL_foldl, keepsR_foldl, keeps_govern]

theorem keeps_rateChange {l} {s : State} (h : Keeps l s) (x1) : Keeps l (State.rateChange s x1) := by
  unfold State.rateChange
  try simp +contextual (maxDischargeDepth := 40) only [h, keepsO_next, keepsO_fault, keepsM_some, keepsM_none,
      keepsL_mk, keepsR_mk, keepsL_fold, keepsR_fold, keeps_ite, keepsO_ite, keepsM_ite, keepsL_ite, keepsR_ite,
      ite_self, implies_true, keeps_foldl, keepsL_foldl, keepsR_foldl, keeps_remargin, keeps_setBsk]
  all_goals repeat' (split <;> (try simp +contextual (maxDischargeDepth := 40) only [h, keepsO_next, keepsO_fault,
      keepsM_some, keepsM_none, keepsL_mk, keepsR_mk, keepsL_fold, keepsR_fold, keeps_ite, keepsO_ite, keepsM_ite,
      keepsL_ite, keepsR_ite, ite_self, implies_true, keeps_foldl, keepsL_foldl, keepsR_foldl, keeps_remargin,
      keeps_setBsk]))

theorem keeps_execRateChange {l} {s : State} (h : Keeps l s) (x0) : KeepsO l (execRateChange x0 s) := by
  unfold execRateChange
  simp +contextual (maxDischargeDepth := 40) only [h, keepsO_next, keepsO_fault, keepsM_some, keepsM_none,
      keepsL_mk, keepsR_mk, keepsL_fold, keepsR_fold, keeps_ite, keepsO_ite, keepsM_ite, keepsL_ite, keepsR_ite,
      ite_self, implies_true, keeps_foldl, keepsL_foldl, keepsR_foldl, keeps_guard, keeps_rateChange]

theorem keeps_tapIn {l} {s : State} (h : Keeps l s) (x1) : Keeps l (State.tapIn s x1) := by
  unfold State.tapIn
  simp +contextual (maxDischargeDepth := 40) only [h, keepsO_next, keepsO_fault, keepsM_some, keepsM_none,
      keepsL_mk, keepsR_mk, keepsL_fold, keepsR_fold, keeps_ite, keepsO_ite, keepsM_ite, keepsL_ite, keepsR_ite,
      ite_self, implies_true, keeps_foldl, keepsL_foldl, keepsR_foldl, keeps_setPan]

theorem keeps_loseBlock {l} {s : State} (h : Keeps l s) (x1 x2 x3 x4) : Keeps l (State.loseBlock s x1 x2 x3 x4) := by
  unfold State.loseBlock
  all_goals repeat' (split <;> (try simp +contextual (maxDischargeDepth := 40) only [h, keepsO_next, keepsO_fault,
      keepsM_some, keepsM_none, keepsL_mk, keepsR_mk, keepsL_fold, keepsR_fold, keeps_ite, keepsO_ite, keepsM_ite,
      keepsL_ite, keepsR_ite, ite_self, implies_true, keeps_foldl, keepsL_foldl, keepsR_foldl, keeps_raiseX]))

theorem keeps_coilBsk {l} {s : State} (h : Keeps l s) (x1 x2) : Keeps l (State.coilBsk s x1 x2) := by
  have hk := h
  unfold State.coilBsk
  try simp +contextual (maxDischargeDepth := 40) only [h, keepsO_next, keepsO_fault, keepsM_some, keepsM_none,
      keepsL_mk, keepsR_mk, keepsL_fold, keepsR_fold, keeps_ite, keepsO_ite, keepsM_ite, keepsL_ite, keepsR_ite,
      ite_self, implies_true, keeps_foldl, keepsL_foldl, keepsR_foldl, keeps_loseBlock, keeps_toWarming,
      keeps_abandonIn, keeps_setBsk, keeps_setPan, keeps_testTurn]
  all_goals repeat' ((try extract_lets) <;> split <;> (try (rename_i heq; first | have hk := keepsR_eq (l := l) (by simp +contextual (maxDischargeDepth := 40) only [hk, h, keepsO_next, keepsO_fault, keepsM_some, keepsM_none, keepsL_mk, keepsR_mk, keepsL_fold, keepsR_fold, keeps_ite, keepsO_ite, keepsM_ite, keepsL_ite, keepsR_ite, ite_self, implies_true, keeps_foldl, keepsL_foldl, keepsR_foldl, keeps_loseBlock, keeps_toWarming, keeps_abandonIn, keeps_setBsk, keeps_setPan, keeps_testTurn]) heq | have hk := keepsL_eq (l := l) (by simp +contextual (maxDischargeDepth := 40) only [hk, h, keepsO_next, keepsO_fault, keepsM_some, keepsM_none, keepsL_mk, keepsR_mk, keepsL_fold, keepsR_fold, keeps_ite, keepsO_ite, keepsM_ite, keepsL_ite, keepsR_ite, ite_self, implies_true, keeps_foldl, keepsL_foldl, keepsR_foldl, keeps_loseBlock, keeps_toWarming, keeps_abandonIn, keeps_setBsk, keeps_setPan, keeps_testTurn]) heq | have hk := keepsM_eq (l := l) (by simp +contextual (maxDischargeDepth := 40) only [hk, h, keepsO_next, keepsO_fault, keepsM_some, keepsM_none, keepsL_mk, keepsR_mk, keepsL_fold, keepsR_fold, keeps_ite, keepsO_ite, keepsM_ite, keepsL_ite, keepsR_ite, ite_self, implies_true, keeps_foldl, keepsL_foldl, keepsR_foldl, keeps_loseBlock, keeps_toWarming, keeps_abandonIn, keeps_setBsk, keeps_setPan, keeps_testTurn]) heq)) <;> (try simp +contextual (maxDischargeDepth := 40) only [hk, h, keepsO_next, keepsO_fault, keepsM_some, keepsM_none, keepsL_mk, keepsR_mk, keepsL_fold, keepsR_fold, keeps_ite, keepsO_ite, keepsM_ite, keepsL_ite, keepsR_ite, ite_self, implies_true, keeps_foldl, keepsL_foldl, keepsR_foldl, keeps_loseBlock, keeps_toWarming, keeps_abandonIn, keeps_setBsk, keeps_setPan, keeps_testTurn]))

theorem keeps_coilFault {l} {s : State} (h : Keeps l s) (x1) : Keeps l (State.coilFault s x1) := by
  unfold State.coilFault
  all_goals repeat' (split <;> (try simp +contextual (maxDischargeDepth := 40) only [h, keepsO_next, keepsO_fault,
      keepsM_some, keepsM_none, keepsL_mk, keepsR_mk, keepsL_fold, keepsR_fold, keeps_ite, keepsO_ite, keepsM_ite,
      keepsL_ite, keepsR_ite, ite_self, implies_true, keeps_foldl, keepsL_foldl, keepsR_foldl, keeps_quadPortsDown,
      keeps_coilBsk]))

theorem keeps_execTapRead {l} {s : State} (h : Keeps l s) (x0) : KeepsO l (execTapRead x0 s) := by
  unfold execTapRead
  simp +contextual (maxDischargeDepth := 40) only [h, keeps_mk, keeps_fold, keepsO_next, keepsO_fault, keepsM_some,
      keepsM_none, keepsL_mk, keepsR_mk, keepsL_fold, keepsR_fold, keeps_ite, keepsO_ite, keepsM_ite, keepsL_ite,
      keepsR_ite, ite_self, implies_true, keeps_foldl, keepsL_foldl, keepsR_foldl, keeps_guard, keeps_at,
      keeps_coilFault, keeps_tapIn]

/-! ## The Kettle -/

theorem keeps_ketEvent {l} {s : State} (h : Keeps l s) (x1 x2 x3 x4 x5) : Keeps l (State.ketEvent s x1 x2 x3 x4 x5) := by
  unfold State.ketEvent
  simp +contextual (maxDischargeDepth := 40) only [h, keepsO_next, keepsO_fault, keepsM_some, keepsM_none,
      keepsL_mk, keepsR_mk, keepsL_fold, keepsR_fold, keeps_ite, keepsO_ite, keepsM_ite, keepsL_ite, keepsR_ite,
      ite_self, implies_true, keeps_foldl, keepsL_foldl, keepsR_foldl, keeps_raise, keeps_setSlot]

theorem keeps_discardSweep {l} {s : State} (h : Keeps l s) (x1) : Keeps l (State.discardSweep s x1) := by
  unfold State.discardSweep
  all_goals repeat' (split <;> (try simp +contextual (maxDischargeDepth := 40) only [h, keeps_mk, keeps_fold,
      keepsO_next, keepsO_fault, keepsM_some, keepsM_none, keepsL_mk, keepsR_mk, keepsL_fold, keepsR_fold,
      keeps_ite, keepsO_ite, keepsM_ite, keepsL_ite, keepsR_ite, ite_self, implies_true, keeps_foldl, keepsL_foldl,
      keepsR_foldl]))

theorem keeps_thermalLimit {l} {s : State} (h : Keeps l s) (x1 x2) : Keeps l (State.thermalLimit s x1 x2) := by
  unfold State.thermalLimit
  try simp +contextual (maxDischargeDepth := 40) only [h, keepsO_next, keepsO_fault, keepsM_some, keepsM_none,
      keepsL_mk, keepsR_mk, keepsL_fold, keepsR_fold, keeps_ite, keepsO_ite, keepsM_ite, keepsL_ite, keepsR_ite,
      ite_self, implies_true, keeps_foldl, keepsL_foldl, keepsR_foldl, keeps_setSlot, keeps_setPan, keeps_ketEvent,
      keeps_toCalibrating, keeps_discardSweep]
  all_goals repeat' (split <;> (try simp +contextual (maxDischargeDepth := 40) only [h, keepsO_next, keepsO_fault,
      keepsM_some, keepsM_none, keepsL_mk, keepsR_mk, keepsL_fold, keepsR_fold, keeps_ite, keepsO_ite, keepsM_ite,
      keepsL_ite, keepsR_ite, ite_self, implies_true, keeps_foldl, keepsL_foldl, keepsR_foldl, keeps_setSlot,
      keeps_setPan, keeps_ketEvent, keeps_toCalibrating, keeps_discardSweep]))

theorem keeps_heat {l} {s : State} (h : Keeps l s) (x1 x2) : KeepsL l (State.heat s x1 x2) := by
  unfold State.heat
  simp +contextual (maxDischargeDepth := 40) only [h, keepsO_next, keepsO_fault, keepsM_some, keepsM_none,
      keepsL_mk, keepsR_mk, keepsL_fold, keepsR_fold, keeps_ite, keepsO_ite, keepsM_ite, keepsL_ite, keepsR_ite,
      ite_self, implies_true, keeps_foldl, keepsL_foldl, keepsR_foldl, keeps_setSlot, keeps_ketEvent,
      keeps_thermalLimit]

theorem keeps_clampMark {l} {s : State} (h : Keeps l s) (x1 x2 x3 x4) : Keeps l (State.clampMark s x1 x2 x3 x4) := by
  unfold State.clampMark
  simp +contextual (maxDischargeDepth := 40) only [h, keepsO_next, keepsO_fault, keepsM_some, keepsM_none,
      keepsL_mk, keepsR_mk, keepsL_fold, keepsR_fold, keeps_ite, keepsO_ite, keepsM_ite, keepsL_ite, keepsR_ite,
      ite_self, implies_true, keeps_foldl, keepsL_foldl, keepsR_foldl, keeps_setSlot, keeps_ketEvent]

theorem keeps_outerStep {l} {s : State} (h : Keeps l s) (x1 x2) : Keeps l (State.outerStep s x1 x2) := by
  unfold State.outerStep
  simp +contextual (maxDischargeDepth := 40) only [h, keepsO_next, keepsO_fault, keepsM_some, keepsM_none,
      keepsL_mk, keepsR_mk, keepsL_fold, keepsR_fold, keeps_ite, keepsO_ite, keepsM_ite, keepsL_ite, keepsR_ite,
      ite_self, implies_true, keeps_foldl, keepsL_foldl, keepsR_foldl, keeps_setSlot, keeps_clampMark]

theorem keeps_slotStep {l} {s : State} (h : Keeps l s) (x1 x2 x3) : Keeps l (State.slotStep s x1 x2 x3) := by
  unfold State.slotStep
  all_goals repeat' (split <;> (try simp +contextual (maxDischargeDepth := 40) only [h, keepsO_next, keepsO_fault,
      keepsM_some, keepsM_none, keepsL_mk, keepsR_mk, keepsL_fold, keepsR_fold, keeps_ite, keepsO_ite, keepsM_ite,
      keepsL_ite, keepsR_ite, ite_self, implies_true, keeps_foldl, keepsL_foldl, keepsR_foldl, keeps_outerStep,
      keeps_setSlot, keeps_clampMark, keeps_heat]))

theorem keeps_missSlot {l} {s : State} (h : Keeps l s) (x1 x2) : Keeps l (State.missSlot s x1 x2) := by
  unfold State.missSlot
  simp +contextual (maxDischargeDepth := 40) only [h, keepsO_next, keepsO_fault, keepsM_some, keepsM_none,
      keepsL_mk, keepsR_mk, keepsL_fold, keepsR_fold, keeps_ite, keepsO_ite, keepsM_ite, keepsL_ite, keepsR_ite,
      ite_self, implies_true, keeps_foldl, keepsL_foldl, keepsR_foldl, keeps_ketEvent, keeps_setSlot]

theorem keeps_execSlotStop {l} {s : State} (h : Keeps l s) (x0) : KeepsO l (execSlotStop x0 s) := by
  unfold execSlotStop
  simp +contextual (maxDischargeDepth := 40) only [h, keepsO_next, keepsO_fault, keepsM_some, keepsM_none,
      keepsL_mk, keepsR_mk, keepsL_fold, keepsR_fold, keeps_ite, keepsO_ite, keepsM_ite, keepsL_ite, keepsR_ite,
      ite_self, implies_true, keeps_foldl, keepsL_foldl, keepsR_foldl, keeps_guard, keeps_setSlot]

theorem keeps_execSlotCommit {l} {s : State} (h : Keeps l s) (x0) : KeepsO l (execSlotCommit x0 s) := by
  unfold execSlotCommit
  simp +contextual (maxDischargeDepth := 40) only [h, keepsO_next, keepsO_fault, keepsM_some, keepsM_none,
      keepsL_mk, keepsR_mk, keepsL_fold, keepsR_fold, keeps_ite, keepsO_ite, keepsM_ite, keepsL_ite, keepsR_ite,
      ite_self, implies_true, keeps_foldl, keepsL_foldl, keepsR_foldl, keeps_guard, keeps_setSlot]

theorem keeps_execSlotCntClr {l} {s : State} (h : Keeps l s) (x0) : KeepsO l (execSlotCntClr x0 s) := by
  unfold execSlotCntClr
  simp +contextual (maxDischargeDepth := 40) only [h, keepsO_next, keepsO_fault, keepsM_some, keepsM_none,
      keepsL_mk, keepsR_mk, keepsL_fold, keepsR_fold, keeps_ite, keepsO_ite, keepsM_ite, keepsL_ite, keepsR_ite,
      ite_self, implies_true, keeps_foldl, keepsL_foldl, keepsR_foldl, keeps_guard, keeps_setSlot]

theorem keeps_ketClear {l} {s : State} (h : Keeps l s) : Keeps l (State.ketClear s) := by
  unfold State.ketClear
  simp +contextual (maxDischargeDepth := 40) only [h, keepsO_next, keepsO_fault, keepsM_some, keepsM_none,
      keepsL_mk, keepsR_mk, keepsL_fold, keepsR_fold, keeps_ite, keepsO_ite, keepsM_ite, keepsL_ite, keepsR_ite,
      ite_self, implies_true, keeps_foldl, keepsL_foldl, keepsR_foldl, keeps_setEng]

theorem keeps_execKetCntClr {l} {s : State} (h : Keeps l s) : KeepsO l (execKetCntClr s) := by
  unfold execKetCntClr
  simp +contextual (maxDischargeDepth := 40) only [h, keepsO_next, keepsO_fault, keepsM_some, keepsM_none,
      keepsL_mk, keepsR_mk, keepsL_fold, keepsR_fold, keeps_ite, keepsO_ite, keepsM_ite, keepsL_ite, keepsR_ite,
      ite_self, implies_true, keeps_foldl, keepsL_foldl, keepsR_foldl, keeps_ketClear]

theorem keeps_spWrite {l} {s : State} (h : Keeps l s) (x1 x2) : Keeps l (State.spWrite s x1 x2) := by
  unfold State.spWrite
  simp +contextual (maxDischargeDepth := 40) only [h, keepsO_next, keepsO_fault, keepsM_some, keepsM_none,
      keepsL_mk, keepsR_mk, keepsL_fold, keepsR_fold, keeps_ite, keepsO_ite, keepsM_ite, keepsL_ite, keepsR_ite,
      ite_self, implies_true, keeps_foldl, keepsL_foldl, keepsR_foldl, keeps_setSlot]

theorem keeps_execSpWrite {l} {s : State} (h : Keeps l s) (x0 x1) : KeepsO l (execSpWrite x0 x1 s) := by
  unfold execSpWrite
  simp +contextual (maxDischargeDepth := 40) only [h, keepsO_next, keepsO_fault, keepsM_some, keepsM_none,
      keepsL_mk, keepsR_mk, keepsL_fold, keepsR_fold, keeps_ite, keepsO_ite, keepsM_ite, keepsL_ite, keepsR_ite,
      ite_self, implies_true, keeps_foldl, keepsL_foldl, keepsR_foldl, keeps_guard, keeps_spWrite]

theorem keeps_slotStart {l} {s : State} (h : Keeps l s) (x1) : Keeps l (State.slotStart s x1) := by
  unfold State.slotStart
  simp +contextual (maxDischargeDepth := 40) only [h, keepsO_next, keepsO_fault, keepsM_some, keepsM_none,
      keepsL_mk, keepsR_mk, keepsL_fold, keepsR_fold, keeps_ite, keepsO_ite, keepsM_ite, keepsL_ite, keepsR_ite,
      ite_self, implies_true, keeps_foldl, keepsL_foldl, keepsR_foldl, keeps_setSlot, keeps_ketEvent]

theorem keeps_latchIn {l} {s : State} (h : Keeps l s) (x0 x2) : Keeps l (State.latchIn x0 s x2) := by
  unfold State.latchIn
  all_goals repeat' (split <;> (try simp +contextual (maxDischargeDepth := 40) only [h, keepsO_next, keepsO_fault,
      keepsM_some, keepsM_none, keepsL_mk, keepsR_mk, keepsL_fold, keepsR_fold, keeps_ite, keepsO_ite, keepsM_ite,
      keepsL_ite, keepsR_ite, ite_self, implies_true, keeps_foldl, keepsL_foldl, keepsR_foldl, keeps_setSlot,
      keeps_setPan]))

theorem keeps_outerStart {l} {s : State} (h : Keeps l s) : Keeps l (State.outerStart s) := by
  unfold State.outerStart
  simp +contextual (maxDischargeDepth := 40) only [h, keepsO_next, keepsO_fault, keepsM_some, keepsM_none,
      keepsL_mk, keepsR_mk, keepsL_fold, keepsR_fold, keeps_ite, keepsO_ite, keepsM_ite, keepsL_ite, keepsR_ite,
      ite_self, implies_true, keeps_foldl, keepsL_foldl, keepsR_foldl, keeps_setPan]

theorem keeps_lockStep {l} {s : State} (h : Keeps l s) (x1) : Keeps l (State.lockStep s x1) := by
  unfold State.lockStep
  simp +contextual (maxDischargeDepth := 40) only [h, keepsO_next, keepsO_fault, keepsM_some, keepsM_none,
      keepsL_mk, keepsR_mk, keepsL_fold, keepsR_fold, keeps_ite, keepsO_ite, keepsM_ite, keepsL_ite, keepsR_ite,
      ite_self, implies_true, keeps_foldl, keepsL_foldl, keepsR_foldl, keeps_setCoil, keeps_condition]

theorem keeps_engineFrame {l} {s : State} (h : Keeps l s) (x1 x2) : Keeps l (State.engineFrame s x1 x2) := by
  unfold State.engineFrame
  simp +contextual (maxDischargeDepth := 40) only [h, keepsO_next, keepsO_fault, keepsM_some, keepsM_none,
      keepsL_mk, keepsR_mk, keepsL_fold, keepsR_fold, keeps_ite, keepsO_ite, keepsM_ite, keepsL_ite, keepsR_ite,
      ite_self, implies_true, keeps_foldl, keepsL_foldl, keepsR_foldl, keeps_slotStep, keeps_missSlot,
      keeps_setEng]

theorem keeps_frame {l} {s : State} (h : Keeps l s) (x1) : Keeps l (State.frame s x1) := by
  unfold State.frame
  simp +contextual (maxDischargeDepth := 40) only [h, keeps_mk, keeps_fold, keepsO_next, keepsO_fault, keepsM_some,
      keepsM_none, keepsL_mk, keepsR_mk, keepsL_fold, keepsR_fold, keeps_ite, keepsO_ite, keepsM_ite, keepsL_ite,
      keepsR_ite, ite_self, implies_true, keeps_foldl, keepsL_foldl, keepsR_foldl, keeps_at, keeps_slotStart,
      keeps_outerStart, keeps_latchIn, keeps_engineFrame, keeps_lockStep]

theorem keeps_execKettleFrame {l} {s : State} (h : Keeps l s) (x0) : KeepsO l (execKettleFrame x0 s) := by
  unfold execKettleFrame
  simp +contextual (maxDischargeDepth := 40) only [h, keepsO_next, keepsO_fault, keepsM_some, keepsM_none,
      keepsL_mk, keepsR_mk, keepsL_fold, keepsR_fold, keeps_ite, keepsO_ite, keepsM_ite, keepsL_ite, keepsR_ite,
      ite_self, implies_true, keeps_foldl, keepsL_foldl, keepsR_foldl, keeps_guard, keeps_frame]

theorem keeps_crossCond {l} {s : State} (h : Keeps l s) (x1 x2) : Keeps l (State.crossCond s x1 x2) := by
  unfold State.crossCond
  simp +contextual (maxDischargeDepth := 40) only [h, keepsO_next, keepsO_fault, keepsM_some, keepsM_none,
      keepsL_mk, keepsR_mk, keepsL_fold, keepsR_fold, keeps_ite, keepsO_ite, keepsM_ite, keepsL_ite, keepsR_ite,
      ite_self, implies_true, keeps_foldl, keepsL_foldl, keepsR_foldl, keeps_setCoil, keeps_setSlot,
      keeps_ketEvent]

theorem keeps_period {l} {s : State} (h : Keeps l s) (x1) : Keeps l (State.period s x1) := by
  unfold State.period
  all_goals repeat' (split <;> (try simp +contextual (maxDischargeDepth := 40) only [h, keepsO_next, keepsO_fault,
      keepsM_some, keepsM_none, keepsL_mk, keepsR_mk, keepsL_fold, keepsR_fold, keeps_ite, keepsO_ite, keepsM_ite,
      keepsL_ite, keepsR_ite, ite_self, implies_true, keeps_foldl, keepsL_foldl, keepsR_foldl, keeps_setCoil,
      keeps_crossCond]))

theorem keeps_execPwmPeriod {l} {s : State} (h : Keeps l s) (x0) : KeepsO l (execPwmPeriod x0 s) := by
  unfold execPwmPeriod
  simp +contextual (maxDischargeDepth := 40) only [h, keeps_mk, keeps_fold, keepsO_next, keepsO_fault, keepsM_some,
      keepsM_none, keepsL_mk, keepsR_mk, keepsL_fold, keepsR_fold, keeps_ite, keepsO_ite, keepsM_ite, keepsL_ite,
      keepsR_ite, ite_self, implies_true, keeps_foldl, keepsL_foldl, keepsR_foldl, keeps_guard, keeps_at,
      keeps_period, keeps_crossCond]

theorem keeps_releaseCoil {l} {s : State} (h : Keeps l s) (x1) : Keeps l (State.releaseCoil s x1) := by
  unfold State.releaseCoil
  simp +contextual (maxDischargeDepth := 40) only [h, keepsO_next, keepsO_fault, keepsM_some, keepsM_none,
      keepsL_mk, keepsR_mk, keepsL_fold, keepsR_fold, keeps_ite, keepsO_ite, keepsM_ite, keepsL_ite, keepsR_ite,
      ite_self, implies_true, keeps_foldl, keepsL_foldl, keepsR_foldl, keeps_setSlot]

theorem keeps_xcondClear {l} {s : State} (h : Keeps l s) (x1) : Keeps l (State.xcondClear s x1) := by
  unfold State.xcondClear
  try simp +contextual (maxDischargeDepth := 40) only [h, keepsO_next, keepsO_fault, keepsM_some, keepsM_none,
      keepsL_mk, keepsR_mk, keepsL_fold, keepsR_fold, keeps_ite, keepsO_ite, keepsM_ite, keepsL_ite, keepsR_ite,
      ite_self, implies_true, keeps_foldl, keepsL_foldl, keepsR_foldl, keeps_releaseCoil, keeps_setCoil,
      keeps_crossCond]
  all_goals repeat' (split <;> (try simp +contextual (maxDischargeDepth := 40) only [h, keepsO_next, keepsO_fault,
      keepsM_some, keepsM_none, keepsL_mk, keepsR_mk, keepsL_fold, keepsR_fold, keeps_ite, keepsO_ite, keepsM_ite,
      keepsL_ite, keepsR_ite, ite_self, implies_true, keeps_foldl, keepsL_foldl, keepsR_foldl, keeps_releaseCoil,
      keeps_setCoil, keeps_crossCond]))

theorem keeps_execXcondClear {l} {s : State} (h : Keeps l s) (x0) : KeepsO l (execXcondClear x0 s) := by
  unfold execXcondClear
  simp +contextual (maxDischargeDepth := 40) only [h, keepsO_next, keepsO_fault, keepsM_some, keepsM_none,
      keepsL_mk, keepsR_mk, keepsL_fold, keepsR_fold, keeps_ite, keepsO_ite, keepsM_ite, keepsL_ite, keepsR_ite,
      ite_self, implies_true, keeps_foldl, keepsL_foldl, keepsR_foldl, keeps_guard, keeps_xcondClear]

theorem keeps_injStart {l} {s : State} (h : Keeps l s) (x1) : Keeps l (State.injStart s x1) := by
  unfold State.injStart
  simp +contextual (maxDischargeDepth := 40) only [h, keepsO_next, keepsO_fault, keepsM_some, keepsM_none,
      keepsL_mk, keepsR_mk, keepsL_fold, keepsR_fold, keeps_ite, keepsO_ite, keepsM_ite, keepsL_ite, keepsR_ite,
      ite_self, implies_true, keeps_foldl, keepsL_foldl, keepsR_foldl, keeps_setEng]

theorem keeps_execInjStart {l} {s : State} (h : Keeps l s) (x0) : KeepsO l (execInjStart x0 s) := by
  unfold execInjStart
  simp +contextual (maxDischargeDepth := 40) only [h, keepsO_next, keepsO_fault, keepsM_some, keepsM_none,
      keepsL_mk, keepsR_mk, keepsL_fold, keepsR_fold, keeps_ite, keepsO_ite, keepsM_ite, keepsL_ite, keepsR_ite,
      ite_self, implies_true, keeps_foldl, keepsL_foldl, keepsR_foldl, keeps_injStart]

theorem keeps_injStop {l} {s : State} (h : Keeps l s) (x1) : Keeps l (State.injStop s x1) := by
  unfold State.injStop
  simp +contextual (maxDischargeDepth := 40) only [h, keepsO_next, keepsO_fault, keepsM_some, keepsM_none,
      keepsL_mk, keepsR_mk, keepsL_fold, keepsR_fold, keeps_ite, keepsO_ite, keepsM_ite, keepsL_ite, keepsR_ite,
      ite_self, implies_true, keeps_foldl, keepsL_foldl, keepsR_foldl, keeps_setEng]

theorem keeps_execInjStop {l} {s : State} (h : Keeps l s) (x0) : KeepsO l (execInjStop x0 s) := by
  unfold execInjStop
  simp +contextual (maxDischargeDepth := 40) only [h, keepsO_next, keepsO_fault, keepsM_some, keepsM_none,
      keepsL_mk, keepsR_mk, keepsL_fold, keepsR_fold, keeps_ite, keepsO_ite, keepsM_ite, keepsL_ite, keepsR_ite,
      ite_self, implies_true, keeps_foldl, keepsL_foldl, keepsR_foldl, keeps_injStop]

theorem keeps_capArm {l} {s : State} (h : Keeps l s) (x1) : Keeps l (State.capArm s x1) := by
  unfold State.capArm
  simp +contextual (maxDischargeDepth := 40) only [h, keepsO_next, keepsO_fault, keepsM_some, keepsM_none,
      keepsL_mk, keepsR_mk, keepsL_fold, keepsR_fold, keeps_ite, keepsO_ite, keepsM_ite, keepsL_ite, keepsR_ite,
      ite_self, implies_true, keeps_foldl, keepsL_foldl, keepsR_foldl, keeps_setEng]

theorem keeps_execCapArm {l} {s : State} (h : Keeps l s) (x0) : KeepsO l (execCapArm x0 s) := by
  unfold execCapArm
  simp +contextual (maxDischargeDepth := 40) only [h, keepsO_next, keepsO_fault, keepsM_some, keepsM_none,
      keepsL_mk, keepsR_mk, keepsL_fold, keepsR_fold, keeps_ite, keepsO_ite, keepsM_ite, keepsL_ite, keepsR_ite,
      ite_self, implies_true, keeps_foldl, keepsL_foldl, keepsR_foldl, keeps_capArm]

theorem keeps_retest {l} {s : State} (h : Keeps l s) (x1) : Keeps l (State.retest s x1) := by
  unfold State.retest
  simp +contextual (maxDischargeDepth := 40) only [h, keepsO_next, keepsO_fault, keepsM_some, keepsM_none,
      keepsL_mk, keepsR_mk, keepsL_fold, keepsR_fold, keeps_ite, keepsO_ite, keepsM_ite, keepsL_ite, keepsR_ite,
      ite_self, implies_true, keeps_foldl, keepsL_foldl, keepsR_foldl, keeps_at, keeps_setPan, keeps_setSlot,
      keeps_tellSpares]

theorem keeps_execThermalRetest {l} {s : State} (h : Keeps l s) (x0) : KeepsO l (execThermalRetest x0 s) := by
  unfold execThermalRetest
  simp +contextual (maxDischargeDepth := 40) only [h, keepsO_next, keepsO_fault, keepsM_some, keepsM_none,
      keepsL_mk, keepsR_mk, keepsL_fold, keepsR_fold, keeps_ite, keepsO_ite, keepsM_ite, keepsL_ite, keepsR_ite,
      ite_self, implies_true, keeps_foldl, keepsL_foldl, keepsR_foldl, keeps_guard, keeps_retest]

/-! ## The structural test -/

theorem keeps_sendAway {l} {s : State} (h : Keeps l s) (x1 x2 x3) : Keeps l (State.sendAway s x1 x2 x3) := by
  unfold State.sendAway
  simp +contextual (maxDischargeDepth := 40) only [h, keepsO_next, keepsO_fault, keepsM_some, keepsM_none,
      keepsL_mk, keepsR_mk, keepsL_fold, keepsR_fold, keeps_ite, keepsO_ite, keepsM_ite, keepsL_ite, keepsR_ite,
      ite_self, implies_true, keeps_foldl, keepsL_foldl, keepsR_foldl, keeps_putStr]

theorem keeps_execYieldSuspend {l} {s : State} (h : Keeps l s) (x0) : KeepsO l (execYieldSuspend x0 s) := by
  unfold execYieldSuspend
  try simp +contextual (maxDischargeDepth := 40) only [h, keepsO_next, keepsO_fault, keepsM_some, keepsM_none,
      keepsL_mk, keepsR_mk, keepsL_fold, keepsR_fold, keeps_ite, keepsO_ite, keepsM_ite, keepsL_ite, keepsR_ite,
      ite_self, implies_true, keeps_foldl, keepsL_foldl, keepsR_foldl, keeps_guard, keeps_sendAway, keeps_putStr]
  all_goals repeat' (split <;> (try simp +contextual (maxDischargeDepth := 40) only [h, keepsO_next, keepsO_fault,
      keepsM_some, keepsM_none, keepsL_mk, keepsR_mk, keepsL_fold, keepsR_fold, keeps_ite, keepsO_ite, keepsM_ite,
      keepsL_ite, keepsR_ite, ite_self, implies_true, keeps_foldl, keepsL_foldl, keepsR_foldl, keeps_guard,
      keeps_sendAway, keeps_putStr]))

theorem keeps_execTestDue {l} {s : State} (h : Keeps l s) (x0) : KeepsO l (execTestDue x0 s) := by
  unfold execTestDue
  simp +contextual (maxDischargeDepth := 40) only [h, keepsO_next, keepsO_fault, keepsM_some, keepsM_none,
      keepsL_mk, keepsR_mk, keepsL_fold, keepsR_fold, keeps_ite, keepsO_ite, keepsM_ite, keepsL_ite, keepsR_ite,
      ite_self, implies_true, keeps_foldl, keepsL_foldl, keepsR_foldl, keeps_guard, keeps_testTurn, keeps_makeDue,
      keeps_at]

theorem keeps_testReq {l} {s : State} (h : Keeps l s) (x1) : Keeps l (State.testReq s x1) := by
  unfold State.testReq
  simp +contextual (maxDischargeDepth := 40) only [h, keepsO_next, keepsO_fault, keepsM_some, keepsM_none,
      keepsL_mk, keepsR_mk, keepsL_fold, keepsR_fold, keeps_ite, keepsO_ite, keepsM_ite, keepsL_ite, keepsR_ite,
      ite_self, implies_true, keeps_foldl, keepsL_foldl, keepsR_foldl, keeps_testTurn, keeps_makeDue]

theorem keeps_execTestReq {l} {s : State} (h : Keeps l s) (x0) : KeepsO l (execTestReq x0 s) := by
  unfold execTestReq
  simp +contextual (maxDischargeDepth := 40) only [h, keepsO_next, keepsO_fault, keepsM_some, keepsM_none,
      keepsL_mk, keepsR_mk, keepsL_fold, keepsR_fold, keeps_ite, keepsO_ite, keepsM_ite, keepsL_ite, keepsR_ite,
      ite_self, implies_true, keeps_foldl, keepsL_foldl, keepsR_foldl, keeps_testReq]

theorem keeps_execTestDeferEnd {l} {s : State} (h : Keeps l s) (x0) : KeepsO l (execTestDeferEnd x0 s) := by
  unfold execTestDeferEnd
  all_goals repeat' (split <;> (try simp +contextual (maxDischargeDepth := 40) only [h, keepsO_next, keepsO_fault,
      keepsM_some, keepsM_none, keepsL_mk, keepsR_mk, keepsL_fold, keepsR_fold, keeps_ite, keepsO_ite, keepsM_ite,
      keepsL_ite, keepsR_ite, ite_self, implies_true, keeps_foldl, keepsL_foldl, keepsR_foldl, keeps_guard,
      keeps_drainBsk, keeps_at]))

theorem keeps_moveOff {l} {s : State} (h : Keeps l s) (x1 x2) : Keeps l (State.moveOff s x1 x2) := by
  unfold State.moveOff
  all_goals repeat' (split <;> (try simp +contextual (maxDischargeDepth := 40) only [h, keepsO_next, keepsO_fault,
      keepsM_some, keepsM_none, keepsL_mk, keepsR_mk, keepsL_fold, keepsR_fold, keeps_ite, keepsO_ite, keepsM_ite,
      keepsL_ite, keepsR_ite, ite_self, implies_true, keeps_foldl, keepsL_foldl, keepsR_foldl, keeps_migMove,
      keeps_sendAway]))

theorem keeps_execTestEntry {l} {s : State} (h : Keeps l s) (x0) : KeepsO l (execTestEntry x0 s) := by
  unfold execTestEntry
  simp +contextual (maxDischargeDepth := 40) only [h, keepsO_next, keepsO_fault, keepsM_some, keepsM_none,
      keepsL_mk, keepsR_mk, keepsL_fold, keepsR_fold, keeps_ite, keepsO_ite, keepsM_ite, keepsL_ite, keepsR_ite,
      ite_self, implies_true, keeps_foldl, keepsL_foldl, keepsR_foldl, keeps_guard, keeps_moveOff, keeps_abandonIn,
      keeps_setBsk]

theorem keeps_testOver {l} {s : State} (h : Keeps l s) (x1 x2 x3 x4) : Keeps l (State.testOver s x1 x2 x3 x4) := by
  unfold State.testOver
  simp +contextual (maxDischargeDepth := 40) only [h, keepsO_next, keepsO_fault, keepsM_some, keepsM_none,
      keepsL_mk, keepsR_mk, keepsL_fold, keepsR_fold, keeps_ite, keepsO_ite, keepsM_ite, keepsL_ite, keepsR_ite,
      ite_self, implies_true, keeps_foldl, keepsL_foldl, keepsR_foldl, keeps_setBsk, keeps_putStr, keeps_testTurn,
      keeps_settleBsk]

theorem keeps_execTestResult {l} {s : State} (h : Keeps l s) (x0 x1) : KeepsO l (execTestResult x0 x1 s) := by
  unfold execTestResult
  all_goals repeat' (split <;> (try simp +contextual (maxDischargeDepth := 40) only [h, keepsO_next, keepsO_fault,
      keepsM_some, keepsM_none, keepsL_mk, keepsR_mk, keepsL_fold, keepsR_fold, keeps_ite, keepsO_ite, keepsM_ite,
      keepsL_ite, keepsR_ite, ite_self, implies_true, keeps_foldl, keepsL_foldl, keepsR_foldl, keeps_guard,
      keeps_testTurn, keeps_retireBasket, keeps_setBsk, keeps_at, keeps_testOver, keeps_raise]))

/-! ## Calibration -/

theorem keeps_calCfgTake {l} {s : State} (h : Keeps l s) : Keeps l (State.calCfgTake s) := by
  unfold State.calCfgTake
  simp +contextual (maxDischargeDepth := 40) only [h, keeps_mk, keeps_fold, keepsO_next, keepsO_fault, keepsM_some,
      keepsM_none, keepsL_mk, keepsR_mk, keepsL_fold, keepsR_fold, keeps_ite, keepsO_ite, keepsM_ite, keepsL_ite,
      keepsR_ite, ite_self, implies_true, keeps_foldl, keepsL_foldl, keepsR_foldl, keeps_remargin]

theorem keeps_sweepStart {l} {s : State} (h : Keeps l s) (x1 x2 x3) : Keeps l (State.sweepStart s x1 x2 x3) := by
  unfold State.sweepStart
  simp +contextual (maxDischargeDepth := 40) only [h, keeps_mk, keeps_fold, keepsO_next, keepsO_fault, keepsM_some,
      keepsM_none, keepsL_mk, keepsR_mk, keepsL_fold, keepsR_fold, keeps_ite, keepsO_ite, keepsM_ite, keepsL_ite,
      keepsR_ite, ite_self, implies_true, keeps_foldl, keepsL_foldl, keepsR_foldl, keeps_setPan]

theorem keeps_turn {l} {s : State} (h : Keeps l s) : Keeps l (State.turn s) := by
  unfold State.turn
  all_goals repeat' (split <;> (try simp +contextual (maxDischargeDepth := 40) only [h, keepsO_next, keepsO_fault,
      keepsM_some, keepsM_none, keepsL_mk, keepsR_mk, keepsL_fold, keepsR_fold, keeps_ite, keepsO_ite, keepsM_ite,
      keepsL_ite, keepsR_ite, ite_self, implies_true, keeps_foldl, keepsL_foldl, keepsR_foldl, keeps_calCfgTake,
      keeps_sweepStart]))

theorem keeps_execCalTurn {l} {s : State} (h : Keeps l s) : KeepsO l (execCalTurn s) := by
  unfold execCalTurn
  simp +contextual (maxDischargeDepth := 40) only [h, keepsO_next, keepsO_fault, keepsM_some, keepsM_none,
      keepsL_mk, keepsR_mk, keepsL_fold, keepsR_fold, keeps_ite, keepsO_ite, keepsM_ite, keepsL_ite, keepsR_ite,
      ite_self, implies_true, keeps_foldl, keepsL_foldl, keepsR_foldl, keeps_turn]

theorem keeps_preload {l} {s : State} (h : Keeps l s) (x1 x2) : KeepsL l (State.preload s x1 x2) := by
  unfold State.preload
  all_goals repeat' (split <;> (try simp +contextual (maxDischargeDepth := 40) only [h, keepsO_next, keepsO_fault,
      keepsM_some, keepsM_none, keepsL_mk, keepsR_mk, keepsL_fold, keepsR_fold, keeps_ite, keepsO_ite, keepsM_ite,
      keepsL_ite, keepsR_ite, ite_self, implies_true, keeps_foldl, keepsL_foldl, keepsR_foldl, keeps_loadTile]))

theorem keeps_handOver {l} {s : State} (h : Keeps l s) (x1 x2) : Keeps l (State.handOver s x1 x2) := by
  have hk := h
  unfold State.handOver
  try simp +contextual (maxDischargeDepth := 40) only [h, keeps_mk, keeps_fold, keepsO_next, keepsO_fault,
      keepsM_some, keepsM_none, keepsL_mk, keepsR_mk, keepsL_fold, keepsR_fold, keeps_ite, keepsO_ite, keepsM_ite,
      keepsL_ite, keepsR_ite, ite_self, implies_true, keeps_foldl, keepsL_foldl, keepsR_foldl, keeps_abandonSweep,
      keeps_preload, keeps_toCalibrating, keeps_startMeasure]
  all_goals repeat' (split <;> (try (rename_i heq; first | have hk := keepsR_eq (l := l) (by simp +contextual (maxDischargeDepth := 40) only [hk, h, keeps_mk, keeps_fold, keepsO_next, keepsO_fault, keepsM_some, keepsM_none, keepsL_mk, keepsR_mk, keepsL_fold, keepsR_fold, keeps_ite, keepsO_ite, keepsM_ite, keepsL_ite, keepsR_ite, ite_self, implies_true, keeps_foldl, keepsL_foldl, keepsR_foldl, keeps_abandonSweep, keeps_preload, keeps_toCalibrating, keeps_startMeasure]) heq | have hk := keepsL_eq (l := l) (by simp +contextual (maxDischargeDepth := 40) only [hk, h, keeps_mk, keeps_fold, keepsO_next, keepsO_fault, keepsM_some, keepsM_none, keepsL_mk, keepsR_mk, keepsL_fold, keepsR_fold, keeps_ite, keepsO_ite, keepsM_ite, keepsL_ite, keepsR_ite, ite_self, implies_true, keeps_foldl, keepsL_foldl, keepsR_foldl, keeps_abandonSweep, keeps_preload, keeps_toCalibrating, keeps_startMeasure]) heq | have hk := keepsM_eq (l := l) (by simp +contextual (maxDischargeDepth := 40) only [hk, h, keeps_mk, keeps_fold, keepsO_next, keepsO_fault, keepsM_some, keepsM_none, keepsL_mk, keepsR_mk, keepsL_fold, keepsR_fold, keeps_ite, keepsO_ite, keepsM_ite, keepsL_ite, keepsR_ite, ite_self, implies_true, keeps_foldl, keepsL_foldl, keepsR_foldl, keeps_abandonSweep, keeps_preload, keeps_toCalibrating, keeps_startMeasure]) heq)) <;> (try simp +contextual (maxDischargeDepth := 40) only [hk, h, keeps_mk, keeps_fold, keepsO_next, keepsO_fault, keepsM_some, keepsM_none, keepsL_mk, keepsR_mk, keepsL_fold, keepsR_fold, keeps_ite, keepsO_ite, keepsM_ite, keepsL_ite, keepsR_ite, ite_self, implies_true, keeps_foldl, keepsL_foldl, keepsR_foldl, keeps_abandonSweep, keeps_preload, keeps_toCalibrating, keeps_startMeasure]))

theorem keeps_execHandover {l} {s : State} (h : Keeps l s) : KeepsO l (execHandover s) := by
  unfold execHandover
  all_goals repeat' (split <;> (try simp +contextual (maxDischargeDepth := 40) only [h, keepsO_next, keepsO_fault,
      keepsM_some, keepsM_none, keepsL_mk, keepsR_mk, keepsL_fold, keepsR_fold, keeps_ite, keepsO_ite, keepsM_ite,
      keepsL_ite, keepsR_ite, ite_self, implies_true, keeps_foldl, keepsL_foldl, keepsR_foldl, keeps_handOver]))

theorem keeps_commitCal {l} {s : State} (h : Keeps l s) (x1 x2 x3) : Keeps l (State.commitCal s x1 x2 x3) := by
  unfold State.commitCal
  simp +contextual (maxDischargeDepth := 40) only [h, keeps_mk, keeps_fold, keepsO_next, keepsO_fault, keepsM_some,
      keepsM_none, keepsL_mk, keepsR_mk, keepsL_fold, keepsR_fold, keeps_ite, keepsO_ite, keepsM_ite, keepsL_ite,
      keepsR_ite, ite_self, implies_true, keeps_foldl, keepsL_foldl, keepsR_foldl, keeps_setPan, keeps_bbrPut,
      keeps_spWrite]

theorem keeps_notConverged {l} {s : State} (h : Keeps l s) (x1 x2 x3) : Keeps l (State.notConverged s x1 x2 x3) := by
  unfold State.notConverged
  simp +contextual (maxDischargeDepth := 40) only [h, keeps_mk, keeps_fold, keepsO_next, keepsO_fault, keepsM_some,
      keepsM_none, keepsL_mk, keepsR_mk, keepsL_fold, keepsR_fold, keeps_ite, keepsO_ite, keepsM_ite, keepsL_ite,
      keepsR_ite, ite_self, implies_true, keeps_foldl, keepsL_foldl, keepsR_foldl, keeps_calTimeout, keeps_setPan]

theorem keeps_sweepFailed {l} {s : State} (h : Keeps l s) (x1 x2 x3) : Keeps l (State.sweepFailed s x1 x2 x3) := by
  unfold State.sweepFailed
  all_goals repeat' (split <;> (try simp +contextual (maxDischargeDepth := 40) only [h, keeps_mk, keeps_fold,
      keepsO_next, keepsO_fault, keepsM_some, keepsM_none, keepsL_mk, keepsR_mk, keepsL_fold, keepsR_fold,
      keeps_ite, keepsO_ite, keepsM_ite, keepsL_ite, keepsR_ite, ite_self, implies_true, keeps_foldl, keepsL_foldl,
      keepsR_foldl, keeps_at, keeps_notConverged, keeps_tellSpares, keeps_setPan, keeps_passSlot,
      keeps_toSuspect]))

theorem keeps_sweepDone {l} {s : State} (h : Keeps l s) (x1 x2) : Keeps l (State.sweepDone s x1 x2) := by
  unfold State.sweepDone
  all_goals repeat' (split <;> (try simp +contextual (maxDischargeDepth := 40) only [h, keeps_mk, keeps_fold,
      keepsO_next, keepsO_fault, keepsM_some, keepsM_none, keepsL_mk, keepsR_mk, keepsL_fold, keepsR_fold,
      keeps_ite, keepsO_ite, keepsM_ite, keepsL_ite, keepsR_ite, ite_self, implies_true, keeps_foldl, keepsL_foldl,
      keepsR_foldl, keeps_commitCal, keeps_tellSpares, keeps_setPan, keeps_sweepFailed]))

theorem keeps_execSweepCommit {l} {s : State} (h : Keeps l s) (x0) : KeepsO l (execSweepCommit x0 s) := by
  unfold execSweepCommit
  all_goals repeat' (split <;> (try simp +contextual (maxDischargeDepth := 40) only [h, keepsO_next, keepsO_fault,
      keepsM_some, keepsM_none, keepsL_mk, keepsR_mk, keepsL_fold, keepsR_fold, keeps_ite, keepsO_ite, keepsM_ite,
      keepsL_ite, keepsR_ite, ite_self, implies_true, keeps_foldl, keepsL_foldl, keepsR_foldl, keeps_sweepDone]))

theorem keeps_execCalTimeout {l} {s : State} (h : Keeps l s) (x0) : KeepsO l (execCalTimeout x0 s) := by
  unfold execCalTimeout
  all_goals repeat' (split <;> (try simp +contextual (maxDischargeDepth := 40) only [h, keepsO_next, keepsO_fault,
      keepsM_some, keepsM_none, keepsL_mk, keepsR_mk, keepsL_fold, keepsR_fold, keeps_ite, keepsO_ite, keepsM_ite,
      keepsL_ite, keepsR_ite, ite_self, implies_true, keeps_foldl, keepsL_foldl, keepsR_foldl, keeps_sweepFailed]))

theorem keeps_execCalAbandon {l} {s : State} (h : Keeps l s) : KeepsO l (execCalAbandon s) := by
  unfold execCalAbandon
  simp +contextual (maxDischargeDepth := 40) only [h, keepsO_next, keepsO_fault, keepsM_some, keepsM_none,
      keepsL_mk, keepsR_mk, keepsL_fold, keepsR_fold, keeps_ite, keepsO_ite, keepsM_ite, keepsL_ite, keepsR_ite,
      ite_self, implies_true, keeps_foldl, keepsL_foldl, keepsR_foldl, keeps_abandonSweep]

theorem keeps_calReq {l} {s : State} (h : Keeps l s) (x1) : Keeps l (State.calReq s x1) := by
  unfold State.calReq
  simp +contextual (maxDischargeDepth := 40) only [h, keepsO_next, keepsO_fault, keepsM_some, keepsM_none,
      keepsL_mk, keepsR_mk, keepsL_fold, keepsR_fold, keeps_ite, keepsO_ite, keepsM_ite, keepsL_ite, keepsR_ite,
      ite_self, implies_true, keeps_foldl, keepsL_foldl, keepsR_foldl, keeps_earlyCal]

theorem keeps_execCalReq {l} {s : State} (h : Keeps l s) (x0) : KeepsO l (execCalReq x0 s) := by
  unfold execCalReq
  simp +contextual (maxDischargeDepth := 40) only [h, keepsO_next, keepsO_fault, keepsM_some, keepsM_none,
      keepsL_mk, keepsR_mk, keepsL_fold, keepsR_fold, keeps_ite, keepsO_ite, keepsM_ite, keepsL_ite, keepsR_ite,
      ite_self, implies_true, keeps_foldl, keepsL_foldl, keepsR_foldl, keeps_calReq]

theorem keeps_calClear {l} {s : State} (h : Keeps l s) : Keeps l (State.calClear s) := h

theorem keeps_execCalCntClr {l} {s : State} (h : Keeps l s) : KeepsO l (execCalCntClr s) := by
  unfold execCalCntClr
  simp +contextual (maxDischargeDepth := 40) only [h, keepsO_next, keepsO_fault, keepsM_some, keepsM_none,
      keepsL_mk, keepsR_mk, keepsL_fold, keepsR_fold, keeps_ite, keepsO_ite, keepsM_ite, keepsL_ite, keepsR_ite,
      ite_self, implies_true, keeps_foldl, keepsL_foldl, keepsR_foldl, keeps_calClear]

theorem keeps_blindWin {l} {s : State} (h : Keeps l s) (x1) : Keeps l (State.blindWin s x1) := by
  unfold State.blindWin
  simp +contextual (maxDischargeDepth := 40) only [h, keepsO_next, keepsO_fault, keepsM_some, keepsM_none,
      keepsL_mk, keepsR_mk, keepsL_fold, keepsR_fold, keeps_ite, keepsO_ite, keepsM_ite, keepsL_ite, keepsR_ite,
      ite_self, implies_true, keeps_foldl, keepsL_foldl, keepsR_foldl, keeps_at, keeps_setPan, keeps_fresh,
      keeps_calReq]

theorem keeps_execBlindWindow {l} {s : State} (h : Keeps l s) (x0 x1) : KeepsO l (execBlindWindow x0 x1 s) := by
  unfold execBlindWindow
  simp +contextual (maxDischargeDepth := 40) only [h, keepsO_next, keepsO_fault, keepsM_some, keepsM_none,
      keepsL_mk, keepsR_mk, keepsL_fold, keepsR_fold, keeps_ite, keepsO_ite, keepsM_ite, keepsL_ite, keepsR_ite,
      ite_self, implies_true, keeps_foldl, keepsL_foldl, keepsR_foldl, keeps_guard, keeps_blindWin]

theorem keeps_staleEvent {l} {s : State} (h : Keeps l s) (x1 x2 x3 x4) : Keeps l (State.staleEvent s x1 x2 x3 x4) := by
  unfold State.staleEvent
  simp +contextual (maxDischargeDepth := 40) only [h, keepsO_next, keepsO_fault, keepsM_some, keepsM_none,
      keepsL_mk, keepsR_mk, keepsL_fold, keepsR_fold, keeps_ite, keepsO_ite, keepsM_ite, keepsL_ite, keepsR_ite,
      ite_self, implies_true, keeps_foldl, keepsL_foldl, keepsR_foldl, keeps_raise, keeps_at]

theorem keeps_stale {l} {s : State} (h : Keeps l s) (x1 x2) : Keeps l (State.stale s x1 x2) := by
  unfold State.stale
  all_goals repeat' (split <;> (try simp +contextual (maxDischargeDepth := 40) only [h, keeps_mk, keeps_fold,
      keepsO_next, keepsO_fault, keepsM_some, keepsM_none, keepsL_mk, keepsR_mk, keepsL_fold, keepsR_fold,
      keeps_ite, keepsO_ite, keepsM_ite, keepsL_ite, keepsR_ite, ite_self, implies_true, keeps_foldl, keepsL_foldl,
      keepsR_foldl, keeps_staleEvent, keeps_setPan]))

theorem keeps_execCalStale {l} {s : State} (h : Keeps l s) (x0 x1) : KeepsO l (execCalStale x0 x1 s) := by
  unfold execCalStale
  simp +contextual (maxDischargeDepth := 40) only [h, keepsO_next, keepsO_fault, keepsM_some, keepsM_none,
      keepsL_mk, keepsR_mk, keepsL_fold, keepsR_fold, keeps_ite, keepsO_ite, keepsM_ite, keepsL_ite, keepsR_ite,
      ite_self, implies_true, keeps_foldl, keepsL_foldl, keepsR_foldl, keeps_guard, keeps_stale]

theorem keeps_leaveOut {l} {s : State} (h : Keeps l s) (x1) : Keeps l (State.leaveOut s x1) := by
  unfold State.leaveOut
  simp +contextual (maxDischargeDepth := 40) only [h, keepsO_next, keepsO_fault, keepsM_some, keepsM_none,
      keepsL_mk, keepsR_mk, keepsL_fold, keepsR_fold, keeps_ite, keepsO_ite, keepsM_ite, keepsL_ite, keepsR_ite,
      ite_self, implies_true, keeps_foldl, keepsL_foldl, keepsR_foldl, keeps_setPan]

theorem keeps_layPans {l} {s : State} (h : Keeps l s) (x1) : Keeps l (State.layPans s x1) := by
  unfold State.layPans
  simp +contextual (maxDischargeDepth := 40) only [h, keepsO_next, keepsO_fault, keepsM_some, keepsM_none,
      keepsL_mk, keepsR_mk, keepsL_fold, keepsR_fold, keeps_ite, keepsO_ite, keepsM_ite, keepsL_ite, keepsR_ite,
      ite_self, implies_true, keeps_foldl, keepsL_foldl, keepsR_foldl, keeps_setPan]

theorem keeps_refill {l} {s : State} (h : Keeps l s) (x1 x2) : Keeps l (State.refill s x1 x2) := by
  unfold State.refill
  all_goals repeat' (split <;> (try simp +contextual (maxDischargeDepth := 40) only [h, keepsO_next, keepsO_fault,
      keepsM_some, keepsM_none, keepsL_mk, keepsR_mk, keepsL_fold, keepsR_fold, keeps_ite, keepsO_ite, keepsM_ite,
      keepsL_ite, keepsR_ite, ite_self, implies_true, keeps_foldl, keepsL_foldl, keepsR_foldl, keeps_leaveOut,
      keeps_passSlot]))

theorem keeps_tryPan {l} {s : State} (h : Keeps l s) (x1 x2) : KeepsL l (State.tryPan s x1 x2) := by
  refine keepsL_foldl l _ _ _ h fun a t hs => ?_
  unfold State.tryOne
  split
  · exact hs
  · split
    · exact keeps_notConverged hs _ _ _
    · split
      · exact keeps_commitCal hs _ _ _
      · exact keeps_notConverged hs _ _ _

theorem keeps_tryPans {l} {s : State} (h : Keeps l s) (x1 x2) : KeepsL l (State.tryPans s x1 x2) :=
  keepsL_foldl l _ _ _ h fun _ _ hs => keeps_tryPan hs _ _

theorem keeps_letIn {l} {s : State} (h : Keeps l s) (x1) : Keeps l (State.letIn s x1) := by
  unfold State.letIn
  simp +contextual (maxDischargeDepth := 40) only [h, keepsO_next, keepsO_fault, keepsM_some, keepsM_none,
      keepsL_mk, keepsR_mk, keepsL_fold, keepsR_fold, keeps_ite, keepsO_ite, keepsM_ite, keepsL_ite, keepsR_ite,
      ite_self, implies_true, keeps_foldl, keepsL_foldl, keepsR_foldl, keeps_setPan]

theorem keeps_putOut {l} {s : State} (h : Keeps l s) (x1 x2 x3) : Keeps l (State.putOut s x1 x2 x3) := by
  unfold State.putOut
  simp +contextual (maxDischargeDepth := 40) only [h, keepsO_next, keepsO_fault, keepsM_some, keepsM_none,
      keepsL_mk, keepsR_mk, keepsL_fold, keepsR_fold, keeps_ite, keepsO_ite, keepsM_ite, keepsL_ite, keepsR_ite,
      ite_self, implies_true, keeps_foldl, keepsL_foldl, keepsR_foldl, keeps_layPans, keeps_leaveOut, keeps_refill]

theorem keeps_startup {l} {s : State} (h : Keeps l s) (x1 x2) : Keeps l (State.startup s x1 x2) := by
  unfold State.startup
  simp +contextual (maxDischargeDepth := 40) only [h, keeps_mk, keeps_fold, keepsO_next, keepsO_fault, keepsM_some,
      keepsM_none, keepsL_mk, keepsR_mk, keepsL_fold, keepsR_fold, keeps_ite, keepsO_ite, keepsM_ite, keepsL_ite,
      keepsR_ite, ite_self, implies_true, keeps_foldl, keepsL_foldl, keepsR_foldl, keeps_setPan, keeps_tryPans,
      keeps_tellSpares, keeps_putOut, keeps_letIn, keeps_warmed, keeps_retireBasket]

theorem keeps_execStartupSweep {l} {s : State} (h : Keeps l s) (x0 x1) : KeepsO l (execStartupSweep x0 x1 s) := by
  unfold execStartupSweep
  simp +contextual (maxDischargeDepth := 40) only [h, keepsO_next, keepsO_fault, keepsM_some, keepsM_none,
      keepsL_mk, keepsR_mk, keepsL_fold, keepsR_fold, keeps_ite, keepsO_ite, keepsM_ite, keepsL_ite, keepsR_ite,
      ite_self, implies_true, keeps_foldl, keepsL_foldl, keepsR_foldl, keeps_guard, keeps_startup]

/-! ## FEU reporting -/

theorem keeps_bbrRoll {l} {s : State} (h : Keeps l s) : Keeps l (State.bbrRoll s) := by
  unfold State.bbrRoll
  simp +contextual (maxDischargeDepth := 40) only [h, keeps_mk, keeps_fold, keepsO_next, keepsO_fault, keepsM_some,
      keepsM_none, keepsL_mk, keepsR_mk, keepsL_fold, keepsR_fold, keeps_ite, keepsO_ite, keepsM_ite, keepsL_ite,
      keepsR_ite, ite_self, implies_true, keeps_foldl, keepsL_foldl, keepsR_foldl, keeps_bbrPut]

theorem keeps_bbrEvent {l} {s : State} (h : Keeps l s) (x1) : Keeps l (State.bbrEvent s x1) := by
  unfold State.bbrEvent
  simp +contextual (maxDischargeDepth := 40) only [h, keeps_mk, keeps_fold, keepsO_next, keepsO_fault, keepsM_some,
      keepsM_none, keepsL_mk, keepsR_mk, keepsL_fold, keepsR_fold, keeps_ite, keepsO_ite, keepsM_ite, keepsL_ite,
      keepsR_ite, ite_self, implies_true, keeps_foldl, keepsL_foldl, keepsR_foldl, keeps_bbrRoll, keeps_bbrPut]

theorem keeps_subPut {l} {s : State} (h : Keeps l s) (x1 x2) : Keeps l (State.subPut s x1 x2) := by
  unfold State.subPut
  all_goals repeat' (split <;> (try simp +contextual (maxDischargeDepth := 40) only [h, keeps_mk, keeps_fold,
      keepsO_next, keepsO_fault, keepsM_some, keepsM_none, keepsL_mk, keepsR_mk, keepsL_fold, keepsR_fold,
      keeps_ite, keepsO_ite, keepsM_ite, keepsL_ite, keepsR_ite, ite_self, implies_true, keeps_foldl, keepsL_foldl,
      keepsR_foldl, keeps_condition]))

theorem keeps_trivetTake {l} {s : State} (h : Keeps l s) (x1) : Keeps l (State.trivetTake s x1) := by
  unfold State.trivetTake
  simp +contextual (maxDischargeDepth := 40) only [h, keepsO_next, keepsO_fault, keepsM_some, keepsM_none,
      keepsL_mk, keepsR_mk, keepsL_fold, keepsR_fold, keeps_ite, keepsO_ite, keepsM_ite, keepsL_ite, keepsR_ite,
      ite_self, implies_true, keeps_foldl, keepsL_foldl, keepsR_foldl, keeps_subPut, keeps_bbrEvent]

theorem keeps_toTrivet {l} {s : State} (h : Keeps l s) (x1) : Keeps l (State.toTrivet s x1) := by
  unfold State.toTrivet
  simp +contextual (maxDischargeDepth := 40) only [h, keeps_mk, keeps_fold, keepsO_next, keepsO_fault, keepsM_some,
      keepsM_none, keepsL_mk, keepsR_mk, keepsL_fold, keepsR_fold, keeps_ite, keepsO_ite, keepsM_ite, keepsL_ite,
      keepsR_ite, ite_self, implies_true, keeps_foldl, keepsL_foldl, keepsR_foldl, keeps_trivetTake]

theorem keeps_feuLost {l} {s : State} (h : Keeps l s) : Keeps l (State.feuLost s) := h

theorem keeps_feuRing {l} {s : State} (h : Keeps l s) (x1) : Keeps l (State.feuRing s x1) := by
  unfold State.feuRing
  simp +contextual (maxDischargeDepth := 40) only [h, keeps_mk, keeps_fold, keepsO_next, keepsO_fault, keepsM_some,
      keepsM_none, keepsL_mk, keepsR_mk, keepsL_fold, keepsR_fold, keeps_ite, keepsO_ite, keepsM_ite, keepsL_ite,
      keepsR_ite, ite_self, implies_true, keeps_foldl, keepsL_foldl, keepsR_foldl, keeps_feuLost, keeps_hwr,
      keeps_wr]

theorem keeps_feuTake {l} {s : State} (h : Keeps l s) (x1) : Keeps l (State.feuTake s x1) := by
  unfold State.feuTake
  simp +contextual (maxDischargeDepth := 40) only [h, keeps_mk, keeps_fold, keepsO_next, keepsO_fault, keepsM_some,
      keepsM_none, keepsL_mk, keepsR_mk, keepsL_fold, keepsR_fold, keeps_ite, keepsO_ite, keepsM_ite, keepsL_ite,
      keepsR_ite, ite_self, implies_true, keeps_foldl, keepsL_foldl, keepsR_foldl, keeps_feuRing, keeps_msi,
      keeps_toTrivet]

theorem keeps_execEventRecord {l} {s : State} (h : Keeps l s) : KeepsO l (execEventRecord s) := by
  unfold execEventRecord
  all_goals repeat' (split <;> (try simp +contextual (maxDischargeDepth := 40) only [h, keeps_mk, keeps_fold,
      keepsO_next, keepsO_fault, keepsM_some, keepsM_none, keepsL_mk, keepsR_mk, keepsL_fold, keepsR_fold,
      keeps_ite, keepsO_ite, keepsM_ite, keepsL_ite, keepsR_ite, ite_self, implies_true, keeps_foldl, keepsL_foldl,
      keepsR_foldl, keeps_feuTake]))

theorem keeps_pendClear {l} {s : State} (h : Keeps l s) (x1) : Keeps l (State.pendClear s x1) := h

theorem keeps_ringReset {l} {s : State} (h : Keeps l s) : Keeps l (State.ringReset s) := h

theorem keeps_feuClear {l} {s : State} (h : Keeps l s) : Keeps l (State.feuClear s) := h

theorem keeps_execFeuPendClear {l} {s : State} (h : Keeps l s) (x0) : KeepsO l (execFeuPendClear x0 s) := by
  unfold execFeuPendClear
  simp +contextual (maxDischargeDepth := 40) only [h, keepsO_next, keepsO_fault, keepsM_some, keepsM_none,
      keepsL_mk, keepsR_mk, keepsL_fold, keepsR_fold, keeps_ite, keepsO_ite, keepsM_ite, keepsL_ite, keepsR_ite,
      ite_self, implies_true, keeps_foldl, keepsL_foldl, keepsR_foldl, keeps_pendClear]

theorem keeps_execRingRst {l} {s : State} (h : Keeps l s) : KeepsO l (execRingRst s) := by
  unfold execRingRst
  simp +contextual (maxDischargeDepth := 40) only [h, keepsO_next, keepsO_fault, keepsM_some, keepsM_none,
      keepsL_mk, keepsR_mk, keepsL_fold, keepsR_fold, keeps_ite, keepsO_ite, keepsM_ite, keepsL_ite, keepsR_ite,
      ite_self, implies_true, keeps_foldl, keepsL_foldl, keepsR_foldl, keeps_ringReset]

theorem keeps_execFeuCntClr {l} {s : State} (h : Keeps l s) : KeepsO l (execFeuCntClr s) := by
  unfold execFeuCntClr
  simp +contextual (maxDischargeDepth := 40) only [h, keepsO_next, keepsO_fault, keepsM_some, keepsM_none,
      keepsL_mk, keepsR_mk, keepsL_fold, keepsR_fold, keeps_ite, keepsO_ite, keepsM_ite, keepsL_ite, keepsR_ite,
      ite_self, implies_true, keeps_foldl, keepsL_foldl, keepsR_foldl, keeps_feuClear]

/-! ## The fabric -/

theorem keeps_hqErr {l} {s : State} (h : Keeps l s) (x1) : Keeps l (State.hqErr s x1) := by
  unfold State.hqErr
  simp +contextual (maxDischargeDepth := 40) only [h, keeps_mk, keeps_fold, keepsO_next, keepsO_fault, keepsM_some,
      keepsM_none, keepsL_mk, keepsR_mk, keepsL_fold, keepsR_fold, keeps_ite, keepsO_ite, keepsM_ite, keepsL_ite,
      keepsR_ite, ite_self, implies_true, keeps_foldl, keepsL_foldl, keepsR_foldl, keeps_msi]

theorem keeps_apFailed {l} {s : State} (h : Keeps l s) (x1) : Keeps l (State.apFailed s x1) := by
  unfold State.apFailed
  simp +contextual (maxDischargeDepth := 40) only [h, keeps_mk, keeps_fold, keepsO_next, keepsO_fault, keepsM_some,
      keepsM_none, keepsL_mk, keepsR_mk, keepsL_fold, keepsR_fold, keeps_ite, keepsO_ite, keepsM_ite, keepsL_ite,
      keepsR_ite, ite_self, implies_true, keeps_foldl, keepsL_foldl, keepsR_foldl, keeps_hqErr]

theorem keeps_mismatch {l} {s : State} (h : Keeps l s) (x1 x2 x3 x4) : Keeps l (State.mismatch s x1 x2 x3 x4) := by
  unfold State.mismatch
  simp +contextual (maxDischargeDepth := 40) only [h, keeps_mk, keeps_fold, keepsO_next, keepsO_fault, keepsM_some,
      keepsM_none, keepsL_mk, keepsR_mk, keepsL_fold, keepsR_fold, keeps_ite, keepsO_ite, keepsM_ite, keepsL_ite,
      keepsR_ite, ite_self, implies_true, keeps_foldl, keepsL_foldl, keepsR_foldl, keeps_raise]

theorem keeps_countMis {l} {s : State} (h : Keeps l s) (x1 x2) : Keeps l (State.countMis s x1 x2) := by
  unfold State.countMis
  simp +contextual (maxDischargeDepth := 40) only [h, keeps_mk, keeps_fold, keepsO_next, keepsO_fault, keepsM_some,
      keepsM_none, keepsL_mk, keepsR_mk, keepsL_fold, keepsR_fold, keeps_ite, keepsO_ite, keepsM_ite, keepsL_ite,
      keepsR_ite, ite_self, implies_true, keeps_foldl, keepsL_foldl, keepsR_foldl, keeps_mismatch]

theorem keeps_answer {l} {s : State} (h : Keeps l s) (x1 x2 x3) : Keeps l (State.answer s x1 x2 x3) := by
  unfold State.answer
  simp +contextual (maxDischargeDepth := 40) only [h, keeps_mk, keeps_fold, keepsO_next, keepsO_fault, keepsM_some,
      keepsM_none, keepsL_mk, keepsR_mk, keepsL_fold, keepsR_fold, keeps_ite, keepsO_ite, keepsM_ite, keepsL_ite,
      keepsR_ite, ite_self, implies_true, keeps_foldl, keepsL_foldl, keepsR_foldl, keeps_sendReply]

theorem keeps_writeWord {l} {s : State} (h : Keeps l s) (x1 x2) : Keeps l (State.writeWord s x1 x2) := by
  unfold State.writeWord
  simp +contextual (maxDischargeDepth := 40) only [h, keepsO_next, keepsO_fault, keepsM_some, keepsM_none,
      keepsL_mk, keepsR_mk, keepsL_fold, keepsR_fold, keeps_ite, keepsO_ite, keepsM_ite, keepsL_ite, keepsR_ite,
      ite_self, implies_true, keeps_foldl, keepsL_foldl, keepsR_foldl, keeps_wr]

theorem keeps_addElem {l} {s : State} (h : Keeps l s) (x1 x2) : Keeps l (State.addElem s x1 x2) := by
  unfold State.addElem
  simp +contextual (maxDischargeDepth := 40) only [h, keepsO_next, keepsO_fault, keepsM_some, keepsM_none,
      keepsL_mk, keepsR_mk, keepsL_fold, keepsR_fold, keeps_ite, keepsO_ite, keepsM_ite, keepsL_ite, keepsR_ite,
      ite_self, implies_true, keeps_foldl, keepsL_foldl, keepsR_foldl, keeps_wrN]

theorem keeps_applyUnit {l} {s : State} (h : Keeps l s) (x1) : Keeps l (State.applyUnit s x1) := by
  unfold State.applyUnit
  all_goals repeat' (split <;> (try simp +contextual (maxDischargeDepth := 40) only [h, keepsO_next, keepsO_fault,
      keepsM_some, keepsM_none, keepsL_mk, keepsR_mk, keepsL_fold, keepsR_fold, keeps_ite, keepsO_ite, keepsM_ite,
      keepsL_ite, keepsR_ite, ite_self, implies_true, keeps_foldl, keepsL_foldl, keepsR_foldl, keeps_writeWord,
      keeps_sigK, keeps_scrub, keeps_addElem]))

theorem keeps_tagDup {l} {s : State} (h : Keeps l s) (x1 x2) : Keeps l (State.tagDup s x1 x2) := by
  unfold State.tagDup
  simp +contextual (maxDischargeDepth := 40) only [h, keeps_mk, keeps_fold, keepsO_next, keepsO_fault, keepsM_some,
      keepsM_none, keepsL_mk, keepsR_mk, keepsL_fold, keepsR_fold, keeps_ite, keepsO_ite, keepsM_ite, keepsL_ite,
      keepsR_ite, ite_self, implies_true, keeps_foldl, keepsL_foldl, keepsR_foldl, keeps_raise]

theorem keeps_handle {l} {s : State} (h : Keeps l s) (x1 x2) : KeepsL l (State.handle s x1 x2) := by
  unfold State.handle
  all_goals repeat' (split <;> (try simp +contextual (maxDischargeDepth := 40) only [h, keeps_mk, keeps_fold,
      keepsO_next, keepsO_fault, keepsM_some, keepsM_none, keepsL_mk, keepsR_mk, keepsL_fold, keepsR_fold,
      keeps_ite, keepsO_ite, keepsM_ite, keepsL_ite, keepsR_ite, ite_self, implies_true, keeps_foldl, keepsL_foldl,
      keepsR_foldl, keeps_answer, keeps_countMis, keeps_scrub, keeps_tagDup, keeps_applyUnit]))

theorem keeps_newInc {l} {s : State} (h : Keeps l s) (x1) : Keeps l (State.newInc s x1) := by
  unfold State.newInc
  simp +contextual (maxDischargeDepth := 40) only [h, keeps_mk, keeps_fold, keepsO_next, keepsO_fault, keepsM_some,
      keepsM_none, keepsL_mk, keepsR_mk, keepsL_fold, keepsR_fold, keeps_ite, keepsO_ite, keepsM_ite, keepsL_ite,
      keepsR_ite, ite_self, implies_true, keeps_foldl, keepsL_foldl, keepsR_foldl]

theorem keeps_advance {l} {s : State} (h : Keeps l s) (x1) : Keeps l (State.advance s x1) := h

theorem keeps_followers {l} (src : Nat) : ∀ (n : Nat) {s : State}, Keeps l s → Keeps l (s.followers src n)
  | 0, _, h => h
  | n + 1, s, h => by
    unfold State.followers
    split
    · exact h
    · simp only []
      split <;> rename_i heq
      · refine keeps_followers src n (keeps_advance (keepsL_eq (keeps_handle ?_ _ _) heq) _)
        exact h
      · refine keepsL_eq (keeps_handle ?_ _ _) heq
        exact h

theorem keeps_ordered {l} {s : State} (h : Keeps l s) (x1 x2) : Keeps l (State.ordered s x1 x2) := by
  have hk := h
  unfold State.ordered
  try simp +contextual (maxDischargeDepth := 40) only [h, keeps_mk, keeps_fold, keepsO_next, keepsO_fault,
      keepsM_some, keepsM_none, keepsL_mk, keepsR_mk, keepsL_fold, keepsR_fold, keeps_ite, keepsO_ite, keepsM_ite,
      keepsL_ite, keepsR_ite, ite_self, implies_true, keeps_foldl, keepsL_foldl, keepsR_foldl, keeps_handle,
      keeps_followers, keeps_advance, keeps_answer]
  all_goals repeat' (split <;> (try (rename_i heq; first | have hk := keepsR_eq (l := l) (by simp +contextual (maxDischargeDepth := 40) only [hk, h, keeps_mk, keeps_fold, keepsO_next, keepsO_fault, keepsM_some, keepsM_none, keepsL_mk, keepsR_mk, keepsL_fold, keepsR_fold, keeps_ite, keepsO_ite, keepsM_ite, keepsL_ite, keepsR_ite, ite_self, implies_true, keeps_foldl, keepsL_foldl, keepsR_foldl, keeps_handle, keeps_followers, keeps_advance, keeps_answer]) heq | have hk := keepsL_eq (l := l) (by simp +contextual (maxDischargeDepth := 40) only [hk, h, keeps_mk, keeps_fold, keepsO_next, keepsO_fault, keepsM_some, keepsM_none, keepsL_mk, keepsR_mk, keepsL_fold, keepsR_fold, keeps_ite, keepsO_ite, keepsM_ite, keepsL_ite, keepsR_ite, ite_self, implies_true, keeps_foldl, keepsL_foldl, keepsR_foldl, keeps_handle, keeps_followers, keeps_advance, keeps_answer]) heq | have hk := keepsM_eq (l := l) (by simp +contextual (maxDischargeDepth := 40) only [hk, h, keeps_mk, keeps_fold, keepsO_next, keepsO_fault, keepsM_some, keepsM_none, keepsL_mk, keepsR_mk, keepsL_fold, keepsR_fold, keeps_ite, keepsO_ite, keepsM_ite, keepsL_ite, keepsR_ite, ite_self, implies_true, keeps_foldl, keepsL_foldl, keepsR_foldl, keeps_handle, keeps_followers, keeps_advance, keeps_answer]) heq)) <;> (try simp +contextual (maxDischargeDepth := 40) only [hk, h, keeps_mk, keeps_fold, keepsO_next, keepsO_fault, keepsM_some, keepsM_none, keepsL_mk, keepsR_mk, keepsL_fold, keepsR_fold, keeps_ite, keepsO_ite, keepsM_ite, keepsL_ite, keepsR_ite, ite_self, implies_true, keeps_foldl, keepsL_foldl, keepsR_foldl, keeps_handle, keeps_followers, keeps_advance, keeps_answer]))

theorem keeps_arrive {l} {s : State} (h : Keeps l s) (x1 x2) : Keeps l (State.arrive s x1 x2) := by
  unfold State.arrive
  simp +contextual (maxDischargeDepth := 40) only [h, keepsO_next, keepsO_fault, keepsM_some, keepsM_none,
      keepsL_mk, keepsR_mk, keepsL_fold, keepsR_fold, keeps_ite, keepsO_ite, keepsM_ite, keepsL_ite, keepsR_ite,
      ite_self, implies_true, keeps_foldl, keepsL_foldl, keepsR_foldl, keeps_newInc, keeps_ordered, keeps_handle]

theorem keeps_forwardPkt {l} {s : State} (h : Keeps l s) (x1) : Keeps l (State.forwardPkt s x1) := by
  have hk := h
  unfold State.forwardPkt
  try simp +contextual (maxDischargeDepth := 40) only [h, keepsO_next, keepsO_fault, keepsM_some, keepsM_none,
      keepsL_mk, keepsR_mk, keepsL_fold, keepsR_fold, keeps_ite, keepsO_ite, keepsM_ite, keepsL_ite, keepsR_ite,
      ite_self, implies_true, keeps_foldl, keepsL_foldl, keepsR_foldl, keeps_noRoute, keeps_egress, keeps_putPort]
  all_goals repeat' (split <;> (try (rename_i heq; first | have hk := keepsR_eq (l := l) (by simp +contextual (maxDischargeDepth := 40) only [hk, h, keepsO_next, keepsO_fault, keepsM_some, keepsM_none, keepsL_mk, keepsR_mk, keepsL_fold, keepsR_fold, keeps_ite, keepsO_ite, keepsM_ite, keepsL_ite, keepsR_ite, ite_self, implies_true, keeps_foldl, keepsL_foldl, keepsR_foldl, keeps_noRoute, keeps_egress, keeps_putPort]) heq | have hk := keepsL_eq (l := l) (by simp +contextual (maxDischargeDepth := 40) only [hk, h, keepsO_next, keepsO_fault, keepsM_some, keepsM_none, keepsL_mk, keepsR_mk, keepsL_fold, keepsR_fold, keeps_ite, keepsO_ite, keepsM_ite, keepsL_ite, keepsR_ite, ite_self, implies_true, keeps_foldl, keepsL_foldl, keepsR_foldl, keeps_noRoute, keeps_egress, keeps_putPort]) heq | have hk := keepsM_eq (l := l) (by simp +contextual (maxDischargeDepth := 40) only [hk, h, keepsO_next, keepsO_fault, keepsM_some, keepsM_none, keepsL_mk, keepsR_mk, keepsL_fold, keepsR_fold, keeps_ite, keepsO_ite, keepsM_ite, keepsL_ite, keepsR_ite, ite_self, implies_true, keeps_foldl, keepsL_foldl, keepsR_foldl, keeps_noRoute, keeps_egress, keeps_putPort]) heq)) <;> (try simp +contextual (maxDischargeDepth := 40) only [hk, h, keepsO_next, keepsO_fault, keepsM_some, keepsM_none, keepsL_mk, keepsR_mk, keepsL_fold, keepsR_fold, keeps_ite, keepsO_ite, keepsM_ite, keepsL_ite, keepsR_ite, ite_self, implies_true, keeps_foldl, keepsL_foldl, keepsR_foldl, keeps_noRoute, keeps_egress, keeps_putPort]))

theorem keeps_countBad {l} {s : State} (h : Keeps l s) (x1) : Keeps l (State.countBad s x1) := by
  unfold State.countBad
  simp +contextual (maxDischargeDepth := 40) only [h, keepsO_next, keepsO_fault, keepsM_some, keepsM_none,
      keepsL_mk, keepsR_mk, keepsL_fold, keepsR_fold, keeps_ite, keepsO_ite, keepsM_ite, keepsL_ite, keepsR_ite,
      ite_self, implies_true, keeps_foldl, keepsL_foldl, keepsR_foldl, keeps_setPort]

theorem keeps_arrival {l} {s : State} (h : Keeps l s) (x1 x2 x3 x4) (hf4 : ∀ y0, Keeps l y0 → Keeps l (x4 y0)) :
    Keeps l (State.arrival s x1 x2 x3 x4) := by
  unfold State.arrival
  simp +contextual (maxDischargeDepth := 40) only [h, hf4, keepsO_next, keepsO_fault, keepsM_some, keepsM_none,
      keepsL_mk, keepsR_mk, keepsL_fold, keepsR_fold, keeps_ite, keepsO_ite, keepsM_ite, keepsL_ite, keepsR_ite,
      ite_self, implies_true, keeps_foldl, keepsL_foldl, keepsR_foldl, keeps_countBad, keeps_forwardPkt]

theorem keeps_execWrite {l} {s : State} (h : Keeps l s) (x0 x1) : KeepsO l (execWrite x0 x1 s) := by
  unfold execWrite
  simp +contextual (maxDischargeDepth := 40) only [h, keepsO_next, keepsO_fault, keepsM_some, keepsM_none,
      keepsL_mk, keepsR_mk, keepsL_fold, keepsR_fold, keeps_ite, keepsO_ite, keepsM_ite, keepsL_ite, keepsR_ite,
      ite_self, implies_true, keeps_foldl, keepsL_foldl, keepsR_foldl, keeps_guard, keeps_arrival, keeps_arrive]

theorem keeps_execRead {l} {s : State} (h : Keeps l s) (x0 x1) : KeepsO l (execRead x0 x1 s) := by
  unfold execRead
  simp +contextual (maxDischargeDepth := 40) only [h, keepsO_next, keepsO_fault, keepsM_some, keepsM_none,
      keepsL_mk, keepsR_mk, keepsL_fold, keepsR_fold, keeps_ite, keepsO_ite, keepsM_ite, keepsL_ite, keepsR_ite,
      ite_self, implies_true, keeps_foldl, keepsL_foldl, keepsR_foldl, keeps_guard, keeps_arrival, keeps_arrive]

theorem keeps_execAtomic {l} {s : State} (h : Keeps l s) (x0 x1) : KeepsO l (execAtomic x0 x1 s) := by
  unfold execAtomic
  simp +contextual (maxDischargeDepth := 40) only [h, keepsO_next, keepsO_fault, keepsM_some, keepsM_none,
      keepsL_mk, keepsR_mk, keepsL_fold, keepsR_fold, keeps_ite, keepsO_ite, keepsM_ite, keepsL_ite, keepsR_ite,
      ite_self, implies_true, keeps_foldl, keepsL_foldl, keepsR_foldl, keeps_guard, keeps_arrival, keeps_arrive]

theorem keeps_execSkip {l} {s : State} (h : Keeps l s) (x0 x1) : KeepsO l (execSkip x0 x1 s) := by
  unfold execSkip
  simp +contextual (maxDischargeDepth := 40) only [h, keepsO_next, keepsO_fault, keepsM_some, keepsM_none,
      keepsL_mk, keepsR_mk, keepsL_fold, keepsR_fold, keeps_ite, keepsO_ite, keepsM_ite, keepsL_ite, keepsR_ite,
      ite_self, implies_true, keeps_foldl, keepsL_foldl, keepsR_foldl, keeps_guard, keeps_arrival, keeps_arrive]

theorem keeps_execForward {l} {s : State} (h : Keeps l s) (x0 x1) : KeepsO l (execForward x0 x1 s) := by
  unfold execForward
  refine keeps_guard ?_ _
  exact keeps_dite h (keeps_arrival h _ _ _ _ fun _ hs => hs)

theorem keeps_apTell {l} {s : State} (h : Keeps l s) (x1) : Keeps l (State.apTell s x1) := h

theorem keeps_settle {l} {s : State} (h : Keeps l s) (x1 x2 x3) : Keeps l (State.settle s x1 x2 x3) := by
  unfold State.settle
  all_goals repeat' (split <;> (try simp +contextual (maxDischargeDepth := 40) only [h, keeps_mk, keeps_fold,
      keepsO_next, keepsO_fault, keepsM_some, keepsM_none, keepsL_mk, keepsR_mk, keepsL_fold, keepsR_fold,
      keeps_ite, keepsO_ite, keepsM_ite, keepsL_ite, keepsR_ite, ite_self, implies_true, keeps_foldl, keepsL_foldl,
      keepsR_foldl, keeps_modRec, keeps_setPot, keeps_endClose, keeps_takeTags, keeps_sendUnits, keeps_apFailed,
      keeps_apTell]))

theorem keeps_deposit {l} {s : State} (h : Keeps l s) (x1 x2) : Keeps l (State.deposit s x1 x2) := by
  unfold State.deposit
  all_goals repeat' (split <;> (try simp +contextual (maxDischargeDepth := 40) only [h, keeps_mk, keeps_fold,
      keepsO_next, keepsO_fault, keepsM_some, keepsM_none, keepsL_mk, keepsR_mk, keepsL_fold, keepsR_fold,
      keeps_ite, keepsO_ite, keepsM_ite, keepsL_ite, keepsR_ite, ite_self, implies_true, keeps_foldl, keepsL_foldl,
      keepsR_foldl, keeps_wr, keeps_setPan]))

theorem keeps_dropUnit {l} {s : State} (h : Keeps l s) (x1) : Keeps l (State.dropUnit s x1) := h

theorem keeps_putUnit {l} {s : State} (h : Keeps l s) (x1) : Keeps l (State.putUnit s x1) := h

theorem keeps_pump {l} {s : State} (h : Keeps l s) : Keeps l (State.pump s) := by
  unfold State.pump
  simp +contextual (maxDischargeDepth := 40) only [h, keepsO_next, keepsO_fault, keepsM_some, keepsM_none,
      keepsL_mk, keepsR_mk, keepsL_fold, keepsR_fold, keeps_ite, keepsO_ite, keepsM_ite, keepsL_ite, keepsR_ite,
      ite_self, implies_true, keeps_foldl, keepsL_foldl, keepsR_foldl, keeps_pumpUnits]

theorem keeps_answered {l} {s : State} (h : Keeps l s) (x1 x2 x3) : Keeps l (State.answered s x1 x2 x3) := by
  unfold State.answered
  simp +contextual (maxDischargeDepth := 40) only [h, keeps_mk, keeps_fold, keepsO_next, keepsO_fault, keepsM_some,
      keepsM_none, keepsL_mk, keepsR_mk, keepsL_fold, keepsR_fold, keeps_ite, keepsO_ite, keepsM_ite, keepsL_ite,
      keepsR_ite, ite_self, implies_true, keeps_foldl, keepsL_foldl, keepsR_foldl, keeps_deposit, keeps_dropUnit,
      keeps_putUnit, keeps_pump, keeps_settle, keeps_mismatch]

theorem keeps_sink {l} {s : State} (h : Keeps l s) (x1 x2) : Keeps l (State.sink s x1 x2) := by
  unfold State.sink
  all_goals repeat' (split <;> (try simp +contextual (maxDischargeDepth := 40) only [h, keepsO_next, keepsO_fault,
      keepsM_some, keepsM_none, keepsL_mk, keepsR_mk, keepsL_fold, keepsR_fold, keeps_ite, keepsO_ite, keepsM_ite,
      keepsL_ite, keepsR_ite, ite_self, implies_true, keeps_foldl, keepsL_foldl, keepsR_foldl, keeps_answered]))

theorem keeps_execCompl {l} {s : State} (h : Keeps l s) (x0 x1) : KeepsO l (execCompl x0 x1 s) := by
  unfold execCompl
  simp +contextual (maxDischargeDepth := 40) only [h, keepsO_next, keepsO_fault, keepsM_some, keepsM_none,
      keepsL_mk, keepsR_mk, keepsL_fold, keepsR_fold, keeps_ite, keepsO_ite, keepsM_ite, keepsL_ite, keepsR_ite,
      ite_self, implies_true, keeps_foldl, keepsL_foldl, keepsR_foldl, keeps_guard, keeps_arrival, keeps_sink]

theorem keeps_execRdrsp {l} {s : State} (h : Keeps l s) (x0 x1) : KeepsO l (execRdrsp x0 x1 s) := by
  unfold execRdrsp
  simp +contextual (maxDischargeDepth := 40) only [h, keepsO_next, keepsO_fault, keepsM_some, keepsM_none,
      keepsL_mk, keepsR_mk, keepsL_fold, keepsR_fold, keeps_ite, keepsO_ite, keepsM_ite, keepsL_ite, keepsR_ite,
      ite_self, implies_true, keeps_foldl, keepsL_foldl, keepsR_foldl, keeps_guard, keeps_arrival, keeps_sink]

theorem keeps_execResendTimer {l} {s : State} (h : Keeps l s) (x0) : KeepsO l (execResendTimer x0 s) := by
  unfold execResendTimer
  all_goals repeat' (split <;> (try simp +contextual (maxDischargeDepth := 40) only [h, keepsO_next, keepsO_fault,
      keepsM_some, keepsM_none, keepsL_mk, keepsR_mk, keepsL_fold, keepsR_fold, keeps_ite, keepsO_ite, keepsM_ite,
      keepsL_ite, keepsR_ite, ite_self, implies_true, keeps_foldl, keepsL_foldl, keepsR_foldl, keeps_transmit,
      keeps_at]))

theorem keeps_sendSkip {l} {s : State} (h : Keeps l s) (x1) : Keeps l (State.sendSkip s x1) := by
  unfold State.sendSkip
  simp +contextual (maxDischargeDepth := 40) only [h, keepsO_next, keepsO_fault, keepsM_some, keepsM_none,
      keepsL_mk, keepsR_mk, keepsL_fold, keepsR_fold, keeps_ite, keepsO_ite, keepsM_ite, keepsL_ite, keepsR_ite,
      ite_self, implies_true, keeps_foldl, keepsL_foldl, keepsR_foldl, keeps_takeTags, keeps_transmit]

theorem keeps_execUnitGiveUp {l} {s : State} (h : Keeps l s) (x0) : KeepsO l (execUnitGiveUp x0 s) := by
  unfold execUnitGiveUp
  all_goals repeat' (split <;> (try simp +contextual (maxDischargeDepth := 40) only [h, keepsO_next, keepsO_fault,
      keepsM_some, keepsM_none, keepsL_mk, keepsR_mk, keepsL_fold, keepsR_fold, keeps_ite, keepsO_ite, keepsM_ite,
      keepsL_ite, keepsR_ite, ite_self, implies_true, keeps_foldl, keepsL_foldl, keepsR_foldl, keeps_dropUnit,
      keeps_at, keeps_sendSkip, keeps_pump, keeps_settle]))

theorem keeps_execTagRelease {l} {s : State} (h : Keeps l s) (x0) : KeepsO l (execTagRelease x0 s) := by
  unfold execTagRelease
  all_goals repeat' (split <;> (try simp +contextual (maxDischargeDepth := 40) only [h, keeps_mk, keeps_fold,
      keepsO_next, keepsO_fault, keepsM_some, keepsM_none, keepsL_mk, keepsR_mk, keepsL_fold, keepsR_fold,
      keeps_ite, keepsO_ite, keepsM_ite, keepsL_ite, keepsR_ite, ite_self, implies_true, keeps_foldl, keepsL_foldl,
      keepsR_foldl, keeps_dropUnit, keeps_at]))

theorem keeps_dedupExpire {l} {s : State} (h : Keeps l s) (x1 x2 x3 x4) : Keeps l (State.dedupExpire s x1 x2 x3 x4) := by
  unfold State.dedupExpire
  all_goals repeat' (split <;> (try simp +contextual (maxDischargeDepth := 40) only [h, keeps_mk, keeps_fold,
      keepsO_next, keepsO_fault, keepsM_some, keepsM_none, keepsL_mk, keepsR_mk, keepsL_fold, keepsR_fold,
      keeps_ite, keepsO_ite, keepsM_ite, keepsL_ite, keepsR_ite, ite_self, implies_true, keeps_foldl, keepsL_foldl,
      keepsR_foldl, keeps_at]))

theorem keeps_execDedupExpire {l} {s : State} (h : Keeps l s) (x0 x1 x2) : KeepsO l (execDedupExpire x0 x1 x2 s) := by
  unfold execDedupExpire
  simp +contextual (maxDischargeDepth := 40) only [h, keepsO_next, keepsO_fault, keepsM_some, keepsM_none,
      keepsL_mk, keepsR_mk, keepsL_fold, keepsR_fold, keeps_ite, keepsO_ite, keepsM_ite, keepsL_ite, keepsR_ite,
      ite_self, implies_true, keeps_foldl, keepsL_foldl, keepsR_foldl, keeps_dedupExpire]

theorem keeps_execCreditStallDiscard {l} {s : State} (h : Keeps l s) (x0 x1) : KeepsO l (execCreditStallDiscard x0
    x1 s) := by
  unfold execCreditStallDiscard
  all_goals repeat' (split <;> (try simp +contextual (maxDischargeDepth := 40) only [h, keeps_mk, keeps_fold,
      keepsO_next, keepsO_fault, keepsM_some, keepsM_none, keepsL_mk, keepsR_mk, keepsL_fold, keepsR_fold,
      keeps_ite, keepsO_ite, keepsM_ite, keepsL_ite, keepsR_ite, ite_self, implies_true, keeps_foldl, keepsL_foldl,
      keepsR_foldl, keeps_guard, keeps_at, keeps_setPort]))

/-! ## Ports -/

theorem keeps_onPort {l} {s : State} (h : Keeps l s) (x1 x2) (hf2 : ∀ y0, Keeps l y0 → Keeps l (x2 y0)) : KeepsO l
    (State.onPort s x1 x2) := by
  unfold State.onPort
  simp +contextual (maxDischargeDepth := 40) only [h, hf2, keepsO_next, keepsO_fault, keepsM_some, keepsM_none,
      keepsL_mk, keepsR_mk, keepsL_fold, keepsR_fold, keeps_ite, keepsO_ite, keepsM_ite, keepsL_ite, keepsR_ite,
      ite_self, implies_true, keeps_foldl, keepsL_foldl, keepsR_foldl, keeps_guard]

theorem keeps_execFlitReplay {l} {s : State} (h : Keeps l s) (x0) : KeepsO l (execFlitReplay x0 s) := by
  unfold execFlitReplay
  simp +contextual (maxDischargeDepth := 40) only [h, keepsO_next, keepsO_fault, keepsM_some, keepsM_none,
      keepsL_mk, keepsR_mk, keepsL_fold, keepsR_fold, keeps_ite, keepsO_ite, keepsM_ite, keepsL_ite, keepsR_ite,
      ite_self, implies_true, keeps_foldl, keepsL_foldl, keepsR_foldl, keeps_onPort, keeps_setPort, keeps_fresh]

theorem keeps_execReplayWindow {l} {s : State} (h : Keeps l s) (x0) : KeepsO l (execReplayWindow x0 s) := by
  unfold execReplayWindow
  simp +contextual (maxDischargeDepth := 40) only [h, keepsO_next, keepsO_fault, keepsM_some, keepsM_none,
      keepsL_mk, keepsR_mk, keepsL_fold, keepsR_fold, keeps_ite, keepsO_ite, keepsM_ite, keepsL_ite, keepsR_ite,
      ite_self, implies_true, keeps_foldl, keepsL_foldl, keepsR_foldl, keeps_onPort, keeps_setPort, keeps_fresh,
      keeps_raise, keeps_retirePort]

theorem keeps_execLightDetect {l} {s : State} (h : Keeps l s) (x0) : KeepsO l (execLightDetect x0 s) := by
  unfold execLightDetect
  simp +contextual (maxDischargeDepth := 40) only [h, keeps_mk, keeps_fold, keepsO_next, keepsO_fault, keepsM_some,
      keepsM_none, keepsL_mk, keepsR_mk, keepsL_fold, keepsR_fold, keeps_ite, keepsO_ite, keepsM_ite, keepsL_ite,
      keepsR_ite, ite_self, implies_true, keeps_foldl, keepsL_foldl, keepsR_foldl, keeps_onPort, keeps_portTo,
      keeps_setPort]

theorem keeps_execLinkUp {l} {s : State} (h : Keeps l s) (x0) : KeepsO l (execLinkUp x0 s) := by
  unfold execLinkUp
  simp +contextual (maxDischargeDepth := 40) only [h, keepsO_next, keepsO_fault, keepsM_some, keepsM_none,
      keepsL_mk, keepsR_mk, keepsL_fold, keepsR_fold, keeps_ite, keepsO_ite, keepsM_ite, keepsL_ite, keepsR_ite,
      ite_self, implies_true, keeps_foldl, keepsL_foldl, keepsR_foldl, keeps_onPort, keeps_portTo, keeps_setPort]

theorem keeps_execTrainingTimeout {l} {s : State} (h : Keeps l s) (x0) : KeepsO l (execTrainingTimeout x0 s) := by
  unfold execTrainingTimeout
  simp +contextual (maxDischargeDepth := 40) only [h, keepsO_next, keepsO_fault, keepsM_some, keepsM_none,
      keepsL_mk, keepsR_mk, keepsL_fold, keepsR_fold, keeps_ite, keepsO_ite, keepsM_ite, keepsL_ite, keepsR_ite,
      ite_self, implies_true, keeps_foldl, keepsL_foldl, keepsR_foldl, keeps_onPort, keeps_at, keeps_portTo,
      keeps_setPort, keeps_retirePort]

theorem keeps_execLossOfSignal {l} {s : State} (h : Keeps l s) (x0) : KeepsO l (execLossOfSignal x0 s) := by
  unfold execLossOfSignal
  simp +contextual (maxDischargeDepth := 40) only [h, keepsO_next, keepsO_fault, keepsM_some, keepsM_none,
      keepsL_mk, keepsR_mk, keepsL_fold, keepsR_fold, keeps_ite, keepsO_ite, keepsM_ite, keepsL_ite, keepsR_ite,
      ite_self, implies_true, keeps_foldl, keepsL_foldl, keepsR_foldl, keeps_onPort, keeps_portDown]

theorem keeps_portOn {l} {s : State} (h : Keeps l s) (x1) : Keeps l (State.portOn s x1) := by
  unfold State.portOn
  simp +contextual (maxDischargeDepth := 40) only [h, keepsO_next, keepsO_fault, keepsM_some, keepsM_none,
      keepsL_mk, keepsR_mk, keepsL_fold, keepsR_fold, keeps_ite, keepsO_ite, keepsM_ite, keepsL_ite, keepsR_ite,
      ite_self, implies_true, keeps_foldl, keepsL_foldl, keepsR_foldl, keeps_setPort, keeps_portTo]

theorem keeps_portOff {l} {s : State} (h : Keeps l s) (x1) : Keeps l (State.portOff s x1) := by
  unfold State.portOff
  simp +contextual (maxDischargeDepth := 40) only [h, keepsO_next, keepsO_fault, keepsM_some, keepsM_none,
      keepsL_mk, keepsR_mk, keepsL_fold, keepsR_fold, keeps_ite, keepsO_ite, keepsM_ite, keepsL_ite, keepsR_ite,
      ite_self, implies_true, keeps_foldl, keepsL_foldl, keepsR_foldl, keeps_setPort, keeps_portTo]

theorem keeps_portDrain {l} {s : State} (h : Keeps l s) (x1 x2) : Keeps l (State.portDrain s x1 x2) := by
  unfold State.portDrain
  simp +contextual (maxDischargeDepth := 40) only [h, keepsO_next, keepsO_fault, keepsM_some, keepsM_none,
      keepsL_mk, keepsR_mk, keepsL_fold, keepsR_fold, keeps_ite, keepsO_ite, keepsM_ite, keepsL_ite, keepsR_ite,
      ite_self, implies_true, keeps_foldl, keepsL_foldl, keepsR_foldl, keeps_adopt, keeps_setPort]

theorem keeps_portRetrain {l} {s : State} (h : Keeps l s) (x1) : Keeps l (State.portRetrain s x1) := by
  unfold State.portRetrain
  simp +contextual (maxDischargeDepth := 40) only [h, keepsO_next, keepsO_fault, keepsM_some, keepsM_none,
      keepsL_mk, keepsR_mk, keepsL_fold, keepsR_fold, keeps_ite, keepsO_ite, keepsM_ite, keepsL_ite, keepsR_ite,
      ite_self, implies_true, keeps_foldl, keepsL_foldl, keepsR_foldl, keeps_portTo]

theorem keeps_portBack {l} {s : State} (h : Keeps l s) (x1) : Keeps l (State.portBack s x1) := by
  unfold State.portBack
  simp +contextual (maxDischargeDepth := 40) only [h, keepsO_next, keepsO_fault, keepsM_some, keepsM_none,
      keepsL_mk, keepsR_mk, keepsL_fold, keepsR_fold, keeps_ite, keepsO_ite, keepsM_ite, keepsL_ite, keepsR_ite,
      ite_self, implies_true, keeps_foldl, keepsL_foldl, keepsR_foldl, keeps_bbrPut, keeps_portTo]

theorem keeps_execPortEnable {l} {s : State} (h : Keeps l s) (x0) : KeepsO l (execPortEnable x0 s) := by
  unfold execPortEnable
  simp +contextual (maxDischargeDepth := 40) only [h, keepsO_next, keepsO_fault, keepsM_some, keepsM_none,
      keepsL_mk, keepsR_mk, keepsL_fold, keepsR_fold, keeps_ite, keepsO_ite, keepsM_ite, keepsL_ite, keepsR_ite,
      ite_self, implies_true, keeps_foldl, keepsL_foldl, keepsR_foldl, keeps_onPort, keeps_portOn]

theorem keeps_execPortDisable {l} {s : State} (h : Keeps l s) (x0) : KeepsO l (execPortDisable x0 s) := by
  unfold execPortDisable
  simp +contextual (maxDischargeDepth := 40) only [h, keepsO_next, keepsO_fault, keepsM_some, keepsM_none,
      keepsL_mk, keepsR_mk, keepsL_fold, keepsR_fold, keeps_ite, keepsO_ite, keepsM_ite, keepsL_ite, keepsR_ite,
      ite_self, implies_true, keeps_foldl, keepsL_foldl, keepsR_foldl, keeps_onPort, keeps_portOff]

theorem keeps_execPortDrain {l} {s : State} (h : Keeps l s) (x0 x1) : KeepsO l (execPortDrain x0 x1 s) := by
  unfold execPortDrain
  simp +contextual (maxDischargeDepth := 40) only [h, keepsO_next, keepsO_fault, keepsM_some, keepsM_none,
      keepsL_mk, keepsR_mk, keepsL_fold, keepsR_fold, keeps_ite, keepsO_ite, keepsM_ite, keepsL_ite, keepsR_ite,
      ite_self, implies_true, keeps_foldl, keepsL_foldl, keepsR_foldl, keeps_onPort, keeps_portDrain]

theorem keeps_execRetrain {l} {s : State} (h : Keeps l s) (x0) : KeepsO l (execRetrain x0 s) := by
  unfold execRetrain
  simp +contextual (maxDischargeDepth := 40) only [h, keepsO_next, keepsO_fault, keepsM_some, keepsM_none,
      keepsL_mk, keepsR_mk, keepsL_fold, keepsR_fold, keeps_ite, keepsO_ite, keepsM_ite, keepsL_ite, keepsR_ite,
      ite_self, implies_true, keeps_foldl, keepsL_foldl, keepsR_foldl, keeps_onPort, keeps_portRetrain]

theorem keeps_execUnretire {l} {s : State} (h : Keeps l s) (x0) : KeepsO l (execUnretire x0 s) := by
  unfold execUnretire
  simp +contextual (maxDischargeDepth := 40) only [h, keepsO_next, keepsO_fault, keepsM_some, keepsM_none,
      keepsL_mk, keepsR_mk, keepsL_fold, keepsR_fold, keeps_ite, keepsO_ite, keepsM_ite, keepsL_ite, keepsR_ite,
      ite_self, implies_true, keeps_foldl, keepsL_foldl, keepsR_foldl, keeps_onPort, keeps_portBack]

theorem keeps_plaitPort {l} {s : State} (h : Keeps l s) (x1) : Keeps l (State.plaitPort s x1) := by
  unfold State.plaitPort
  simp +contextual (maxDischargeDepth := 40) only [h, keepsO_next, keepsO_fault, keepsM_some, keepsM_none,
      keepsL_mk, keepsR_mk, keepsL_fold, keepsR_fold, keeps_ite, keepsO_ite, keepsM_ite, keepsL_ite, keepsR_ite,
      ite_self, implies_true, keeps_foldl, keepsL_foldl, keepsR_foldl, keeps_setPort, keeps_portTo]

theorem keeps_plaitApply {l} {s : State} (h : Keeps l s) : Keeps l (State.plaitApply s) := by
  unfold State.plaitApply
  all_goals repeat' (split <;> (try simp +contextual (maxDischargeDepth := 40) only [h, keeps_mk, keeps_fold,
      keepsO_next, keepsO_fault, keepsM_some, keepsM_none, keepsL_mk, keepsR_mk, keepsL_fold, keepsR_fold,
      keeps_ite, keepsO_ite, keepsM_ite, keepsL_ite, keepsR_ite, ite_self, implies_true, keeps_foldl, keepsL_foldl,
      keepsR_foldl, keeps_plaitPort]))

theorem keeps_execPlaitApply {l} {s : State} (h : Keeps l s) : KeepsO l (execPlaitApply s) := by
  unfold execPlaitApply
  simp +contextual (maxDischargeDepth := 40) only [h, keepsO_next, keepsO_fault, keepsM_some, keepsM_none,
      keepsL_mk, keepsR_mk, keepsL_fold, keepsR_fold, keeps_ite, keepsO_ite, keepsM_ite, keepsL_ite, keepsR_ite,
      ite_self, implies_true, keeps_foldl, keepsL_foldl, keepsR_foldl, keeps_plaitApply]

theorem keeps_execPlaitSettled {l} {s : State} (h : Keeps l s) : KeepsO l (execPlaitSettled s) := by
  unfold execPlaitSettled
  simp +contextual (maxDischargeDepth := 40) only [h, keeps_mk, keeps_fold, keepsO_next, keepsO_fault, keepsM_some,
      keepsM_none, keepsL_mk, keepsR_mk, keepsL_fold, keepsR_fold, keeps_ite, keepsO_ite, keepsM_ite, keepsL_ite,
      keepsR_ite, ite_self, implies_true, keeps_foldl, keepsL_foldl, keepsR_foldl, keeps_at, keeps_portTo,
      keeps_setPort]

end Sys2Proof.Machine
end

