-- ==== Sys2Proof/Laws/KeepsSystem.lean ====
section
/-! SUPPORT. Every operation keeps the queue, the canonical form of both memories and the bound of the tokens:
joining, the host port, Trivet, power, resets and register writes. -/

namespace Sys2Proof.Machine

set_option linter.unusedSimpArgs false
set_option linter.unusedTactic false
set_option linter.unusedVariables false
set_option linter.unreachableTactic false

/-! ## Joining and configuration -/

theorem keeps_execHelloSend {l} {s : State} (h : Keeps l s) (x0) : KeepsO l (execHelloSend x0 s) := by
  unfold execHelloSend
  simp +contextual (maxDischargeDepth := 40) only [h, keeps_mk, keeps_fold, keepsO_next, keepsO_fault, keepsM_some,
      keepsM_none, keepsL_mk, keepsR_mk, keepsL_fold, keepsR_fold, keeps_ite, keepsO_ite, keepsM_ite, keepsL_ite,
      keepsR_ite, ite_self, implies_true, keeps_foldl, keepsL_foldl, keepsR_foldl, keeps_onPort]

theorem keeps_keepHello {l} {s : State} (h : Keeps l s) (x1 x2) : Keeps l (State.keepHello s x1 x2) := by
  unfold State.keepHello
  simp +contextual (maxDischargeDepth := 40) only [h, keepsO_next, keepsO_fault, keepsM_some, keepsM_none,
      keepsL_mk, keepsR_mk, keepsL_fold, keepsR_fold, keeps_ite, keepsO_ite, keepsM_ite, keepsL_ite, keepsR_ite,
      ite_self, implies_true, keeps_foldl, keepsL_foldl, keepsR_foldl, keeps_setPort]

theorem keeps_meetSolo {l} {s : State} (h : Keeps l s) (x1 x2) : Keeps l (State.meetSolo s x1 x2) := by
  unfold State.meetSolo
  simp +contextual (maxDischargeDepth := 40) only [h, keeps_mk, keeps_fold, keepsO_next, keepsO_fault, keepsM_some,
      keepsM_none, keepsL_mk, keepsR_mk, keepsL_fold, keepsR_fold, keeps_ite, keepsO_ite, keepsM_ite, keepsL_ite,
      keepsR_ite, ite_self, implies_true, keeps_foldl, keepsL_foldl, keepsR_foldl, keeps_setPort, keeps_follow]

theorem keeps_settlePort {l} {s : State} (h : Keeps l s) (x1 x2) : Keeps l (State.settlePort s x1 x2) := by
  unfold State.settlePort
  simp +contextual (maxDischargeDepth := 40) only [h, keepsO_next, keepsO_fault, keepsM_some, keepsM_none,
      keepsL_mk, keepsR_mk, keepsL_fold, keepsR_fold, keeps_ite, keepsO_ite, keepsM_ite, keepsL_ite, keepsR_ite,
      ite_self, implies_true, keeps_foldl, keepsL_foldl, keepsR_foldl, keeps_setPort, keeps_meetSolo, keeps_raise]

theorem keeps_helloCfg {l} {s : State} (h : Keeps l s) (x1 x2) : Keeps l (State.helloCfg s x1 x2) := by
  unfold State.helloCfg
  simp +contextual (maxDischargeDepth := 40) only [h, keepsO_next, keepsO_fault, keepsM_some, keepsM_none,
      keepsL_mk, keepsR_mk, keepsL_fold, keepsR_fold, keeps_ite, keepsO_ite, keepsM_ite, keepsL_ite, keepsR_ite,
      ite_self, implies_true, keeps_foldl, keepsL_foldl, keepsR_foldl, keeps_mismatch]

theorem keeps_steer {l} {s : State} (h : Keeps l s) (x1 x2) : Keeps l (State.steer s x1 x2) := by
  unfold State.steer
  simp +contextual (maxDischargeDepth := 40) only [h, keeps_mk, keeps_fold, keepsO_next, keepsO_fault, keepsM_some,
      keepsM_none, keepsL_mk, keepsR_mk, keepsL_fold, keepsR_fold, keeps_ite, keepsO_ite, keepsM_ite, keepsL_ite,
      keepsR_ite, ite_self, implies_true, keeps_foldl, keepsL_foldl, keepsR_foldl, keeps_condition]

theorem keeps_takeHb {l} {s : State} (h : Keeps l s) (x1 x2) : Keeps l (State.takeHb s x1 x2) := by
  unfold State.takeHb
  simp +contextual (maxDischargeDepth := 40) only [h, keeps_mk, keeps_fold, keepsO_next, keepsO_fault, keepsM_some,
      keepsM_none, keepsL_mk, keepsR_mk, keepsL_fold, keepsR_fold, keeps_ite, keepsO_ite, keepsM_ite, keepsL_ite,
      keepsR_ite, ite_self, implies_true, keeps_foldl, keepsL_foldl, keepsR_foldl]

theorem keeps_execHello {l} {s : State} (h : Keeps l s) (x0 x1) : KeepsO l (execHello x0 x1 s) := by
  unfold execHello
  simp +contextual (maxDischargeDepth := 40) only [h, keepsO_next, keepsO_fault, keepsM_some, keepsM_none,
      keepsL_mk, keepsR_mk, keepsL_fold, keepsR_fold, keeps_ite, keepsO_ite, keepsM_ite, keepsL_ite, keepsR_ite,
      ite_self, implies_true, keeps_foldl, keepsL_foldl, keepsR_foldl, keeps_onPort, keeps_steer, keeps_takeHb,
      keeps_adopt, keeps_helloCfg, keeps_settlePort, keeps_keepHello]

theorem keeps_noteAssigned {l} {s : State} (h : Keeps l s) (x1 x2) : Keeps l (State.noteAssigned s x1 x2) := h

theorem keeps_loseId {l} {s : State} (h : Keeps l s) : Keeps l (State.loseId s) := by
  unfold State.loseId
  simp +contextual (maxDischargeDepth := 40) only [h, keeps_mk, keeps_fold, keepsO_next, keepsO_fault, keepsM_some,
      keepsM_none, keepsL_mk, keepsR_mk, keepsL_fold, keepsR_fold, keeps_ite, keepsO_ite, keepsM_ite, keepsL_ite,
      keepsR_ite, ite_self, implies_true, keeps_foldl, keepsL_foldl, keepsR_foldl, keeps_condition]

theorem keeps_selfId {l} {s : State} (h : Keeps l s) : Keeps l (State.selfId s) := by
  unfold State.selfId
  all_goals repeat' (split <;> (try simp +contextual (maxDischargeDepth := 40) only [h, keeps_mk, keeps_fold,
      keepsO_next, keepsO_fault, keepsM_some, keepsM_none, keepsL_mk, keepsR_mk, keepsL_fold, keepsR_fold,
      keeps_ite, keepsO_ite, keepsM_ite, keepsL_ite, keepsR_ite, ite_self, implies_true, keeps_foldl, keepsL_foldl,
      keepsR_foldl, keeps_loseId, keeps_noteAssigned]))

theorem keeps_execCoordTimeout {l} {s : State} (h : Keeps l s) : KeepsO l (execCoordTimeout s) := by
  unfold execCoordTimeout
  all_goals repeat' (split <;> (try simp +contextual (maxDischargeDepth := 40) only [h, keeps_mk, keeps_fold,
      keepsO_next, keepsO_fault, keepsM_some, keepsM_none, keepsL_mk, keepsR_mk, keepsL_fold, keepsR_fold,
      keeps_ite, keepsO_ite, keepsM_ite, keepsL_ite, keepsR_ite, ite_self, implies_true, keeps_foldl, keepsL_foldl,
      keepsR_foldl, keeps_adopt, keeps_at, keeps_selfId]))

theorem keeps_execHeartbeat {l} {s : State} (h : Keeps l s) : KeepsO l (execHeartbeat s) := by
  unfold execHeartbeat
  simp +contextual (maxDischargeDepth := 40) only [h, keeps_mk, keeps_fold, keepsO_next, keepsO_fault, keepsM_some,
      keepsM_none, keepsL_mk, keepsR_mk, keepsL_fold, keepsR_fold, keeps_ite, keepsO_ite, keepsM_ite, keepsL_ite,
      keepsR_ite, ite_self, implies_true, keeps_foldl, keepsL_foldl, keepsR_foldl]

theorem keeps_execSoloStart {l} {s : State} (h : Keeps l s) : KeepsO l (execSoloStart s) := by
  unfold execSoloStart
  simp +contextual (maxDischargeDepth := 40) only [h, keeps_mk, keeps_fold, keepsO_next, keepsO_fault, keepsM_some,
      keepsM_none, keepsL_mk, keepsR_mk, keepsL_fold, keepsR_fold, keeps_ite, keepsO_ite, keepsM_ite, keepsL_ite,
      keepsR_ite, ite_self, implies_true, keeps_foldl, keepsL_foldl, keepsR_foldl]

theorem keeps_noteUp {l} {s : State} (h : Keeps l s) (x1 x2) : Keeps l (State.noteUp s x1 x2) := h

theorem keeps_noteDown {l} {s : State} (h : Keeps l s) (x1 x2) : Keeps l (State.noteDown s x1 x2) := h

theorem keeps_passUp {l} {s : State} (h : Keeps l s) (x1 x2 x3 x4) : Keeps l (State.passUp s x1 x2 x3 x4) := by
  unfold State.passUp
  try simp +contextual (maxDischargeDepth := 40) only [h, keepsO_next, keepsO_fault, keepsM_some, keepsM_none,
      keepsL_mk, keepsR_mk, keepsL_fold, keepsR_fold, keeps_ite, keepsO_ite, keepsM_ite, keepsL_ite, keepsR_ite,
      ite_self, implies_true, keeps_foldl, keepsL_foldl, keepsR_foldl, keeps_noteUp, keeps_putJoin]
  all_goals repeat' (split <;> (try simp +contextual (maxDischargeDepth := 40) only [h, keepsO_next, keepsO_fault,
      keepsM_some, keepsM_none, keepsL_mk, keepsR_mk, keepsL_fold, keepsR_fold, keeps_ite, keepsO_ite, keepsM_ite,
      keepsL_ite, keepsR_ite, ite_self, implies_true, keeps_foldl, keepsL_foldl, keepsR_foldl, keeps_noteUp,
      keeps_putJoin]))

theorem keeps_passDown {l} {s : State} (h : Keeps l s) (x1 x2 x3 x4) : Keeps l (State.passDown s x1 x2 x3 x4) := by
  unfold State.passDown
  all_goals repeat' (split <;> (try simp +contextual (maxDischargeDepth := 40) only [h, keepsO_next, keepsO_fault,
      keepsM_some, keepsM_none, keepsL_mk, keepsR_mk, keepsL_fold, keepsR_fold, keeps_ite, keepsO_ite, keepsM_ite,
      keepsL_ite, keepsR_ite, ite_self, implies_true, keeps_foldl, keepsL_foldl, keepsR_foldl, keeps_putJoin,
      keeps_noteDown]))

theorem keeps_join {l} {s : State} (h : Keeps l s) (x1 x2) : Keeps l (State.join s x1 x2) := by
  unfold State.join
  all_goals repeat' (split <;> (try simp +contextual (maxDischargeDepth := 40) only [h, keepsO_next, keepsO_fault,
      keepsM_some, keepsM_none, keepsL_mk, keepsR_mk, keepsL_fold, keepsR_fold, keeps_ite, keepsO_ite, keepsM_ite,
      keepsL_ite, keepsR_ite, ite_self, implies_true, keeps_foldl, keepsL_foldl, keepsR_foldl, keeps_putJoin,
      keeps_noteDown, keeps_noteUp, keeps_noteAssigned, keeps_passUp]))

theorem keeps_assign {l} {s : State} (h : Keeps l s) (x1 x2) : Keeps l (State.assign s x1 x2) := by
  unfold State.assign
  simp +contextual (maxDischargeDepth := 40) only [h, keeps_mk, keeps_fold, keepsO_next, keepsO_fault, keepsM_some,
      keepsM_none, keepsL_mk, keepsR_mk, keepsL_fold, keepsR_fold, keeps_ite, keepsO_ite, keepsM_ite, keepsL_ite,
      keepsR_ite, ite_self, implies_true, keeps_foldl, keepsL_foldl, keepsR_foldl, keeps_passDown]

theorem keeps_claim {l} {s : State} (h : Keeps l s) (x1 x2 x3) : Keeps l (State.claim s x1 x2 x3) := by
  unfold State.claim
  simp +contextual (maxDischargeDepth := 40) only [h, keepsO_next, keepsO_fault, keepsM_some, keepsM_none,
      keepsL_mk, keepsR_mk, keepsL_fold, keepsR_fold, keeps_ite, keepsO_ite, keepsM_ite, keepsL_ite, keepsR_ite,
      ite_self, implies_true, keeps_foldl, keepsL_foldl, keepsR_foldl, keeps_putJoin, keeps_noteDown, keeps_noteUp,
      keeps_noteAssigned, keeps_passDown, keeps_passUp]

theorem keeps_deny {l} {s : State} (h : Keeps l s) (x1 x2) : Keeps l (State.deny s x1 x2) := by
  unfold State.deny
  all_goals repeat' (split <;> (try simp +contextual (maxDischargeDepth := 40) only [h, keepsO_next, keepsO_fault,
      keepsM_some, keepsM_none, keepsL_mk, keepsR_mk, keepsL_fold, keepsR_fold, keeps_ite, keepsO_ite, keepsM_ite,
      keepsL_ite, keepsR_ite, ite_self, implies_true, keeps_foldl, keepsL_foldl, keepsR_foldl, keeps_loseId,
      keeps_putJoin, keeps_passDown]))

theorem keeps_onTree {l} {s : State} (h : Keeps l s) (x1 x2) (hf2 : ∀ y0, Keeps l y0 → Keeps l (x2 y0)) : KeepsO l
    (State.onTree s x1 x2) := by
  unfold State.onTree
  simp +contextual (maxDischargeDepth := 40) only [h, hf2, keepsO_next, keepsO_fault, keepsM_some, keepsM_none,
      keepsL_mk, keepsR_mk, keepsL_fold, keepsR_fold, keeps_ite, keepsO_ite, keepsM_ite, keepsL_ite, keepsR_ite,
      ite_self, implies_true, keeps_foldl, keepsL_foldl, keepsR_foldl, keeps_onPort]

theorem keeps_execJoin {l} {s : State} (h : Keeps l s) (x0 x1) : KeepsO l (execJoin x0 x1 s) := by
  unfold execJoin
  simp +contextual (maxDischargeDepth := 40) only [h, keepsO_next, keepsO_fault, keepsM_some, keepsM_none,
      keepsL_mk, keepsR_mk, keepsL_fold, keepsR_fold, keeps_ite, keepsO_ite, keepsM_ite, keepsL_ite, keepsR_ite,
      ite_self, implies_true, keeps_foldl, keepsL_foldl, keepsR_foldl, keeps_onTree, keeps_join]

theorem keeps_execAssign {l} {s : State} (h : Keeps l s) (x0 x1 x2) : KeepsO l (execAssign x0 x1 x2 s) := by
  unfold execAssign
  simp +contextual (maxDischargeDepth := 40) only [h, keepsO_next, keepsO_fault, keepsM_some, keepsM_none,
      keepsL_mk, keepsR_mk, keepsL_fold, keepsR_fold, keeps_ite, keepsO_ite, keepsM_ite, keepsL_ite, keepsR_ite,
      ite_self, implies_true, keeps_foldl, keepsL_foldl, keepsR_foldl, keeps_onTree, keeps_assign]

theorem keeps_execClaim {l} {s : State} (h : Keeps l s) (x0 x1 x2) : KeepsO l (execClaim x0 x1 x2 s) := by
  unfold execClaim
  simp +contextual (maxDischargeDepth := 40) only [h, keepsO_next, keepsO_fault, keepsM_some, keepsM_none,
      keepsL_mk, keepsR_mk, keepsL_fold, keepsR_fold, keeps_ite, keepsO_ite, keepsM_ite, keepsL_ite, keepsR_ite,
      ite_self, implies_true, keeps_foldl, keepsL_foldl, keepsR_foldl, keeps_onTree, keeps_claim]

theorem keeps_execDeny {l} {s : State} (h : Keeps l s) (x0 x1 x2) : KeepsO l (execDeny x0 x1 x2 s) := by
  unfold execDeny
  simp +contextual (maxDischargeDepth := 40) only [h, keepsO_next, keepsO_fault, keepsM_some, keepsM_none,
      keepsL_mk, keepsR_mk, keepsL_fold, keepsR_fold, keeps_ite, keepsO_ite, keepsM_ite, keepsL_ite, keepsR_ite,
      ite_self, implies_true, keeps_foldl, keepsL_foldl, keepsR_foldl, keeps_onTree, keeps_deny]

theorem keeps_execJoinResend {l} {s : State} (h : Keeps l s) : KeepsO l (execJoinResend s) := by
  unfold execJoinResend
  all_goals repeat' (split <;> (try simp +contextual (maxDischargeDepth := 40) only [h, keepsO_next, keepsO_fault,
      keepsM_some, keepsM_none, keepsL_mk, keepsR_mk, keepsL_fold, keepsR_fold, keeps_ite, keepsO_ite, keepsM_ite,
      keepsL_ite, keepsR_ite, ite_self, implies_true, keeps_foldl, keepsL_foldl, keepsR_foldl, keeps_putJoin]))

theorem keeps_idmapWr {l} {s : State} (h : Keeps l s) (x1) : Keeps l (State.idmapWr s x1) := h

theorem keeps_idmapDel {l} {s : State} (h : Keeps l s) : Keeps l (State.idmapDel s) := h

theorem keeps_execIdmapWr {l} {s : State} (h : Keeps l s) (x0) : KeepsO l (execIdmapWr x0 s) := by
  unfold execIdmapWr
  simp +contextual (maxDischargeDepth := 40) only [h, keepsO_next, keepsO_fault, keepsM_some, keepsM_none,
      keepsL_mk, keepsR_mk, keepsL_fold, keepsR_fold, keeps_ite, keepsO_ite, keepsM_ite, keepsL_ite, keepsR_ite,
      ite_self, implies_true, keeps_foldl, keepsL_foldl, keepsR_foldl, keeps_idmapWr]

theorem keeps_execIdmapDel {l} {s : State} (h : Keeps l s) : KeepsO l (execIdmapDel s) := by
  unfold execIdmapDel
  simp +contextual (maxDischargeDepth := 40) only [h, keepsO_next, keepsO_fault, keepsM_some, keepsM_none,
      keepsL_mk, keepsR_mk, keepsL_fold, keepsR_fold, keeps_ite, keepsO_ite, keepsM_ite, keepsL_ite, keepsR_ite,
      ite_self, implies_true, keeps_foldl, keepsL_foldl, keepsR_foldl, keeps_idmapDel]

theorem keeps_mgtIn {l} {s : State} (h : Keeps l s) (x1 x2) : Keeps l (State.mgtIn s x1 x2) := by
  unfold State.mgtIn
  simp +contextual (maxDischargeDepth := 40) only [h, keeps_mk, keeps_fold, keepsO_next, keepsO_fault, keepsM_some,
      keepsM_none, keepsL_mk, keepsR_mk, keepsL_fold, keepsR_fold, keeps_ite, keepsO_ite, keepsM_ite, keepsL_ite,
      keepsR_ite, ite_self, implies_true, keeps_foldl, keepsL_foldl, keepsR_foldl, keeps_countMis, keeps_join,
      keeps_assign, keeps_claim, keeps_deny]

theorem keeps_execMgt {l} {s : State} (h : Keeps l s) (x0 x1) : KeepsO l (execMgt x0 x1 s) := by
  unfold execMgt
  simp +contextual (maxDischargeDepth := 40) only [h, keepsO_next, keepsO_fault, keepsM_some, keepsM_none,
      keepsL_mk, keepsR_mk, keepsL_fold, keepsR_fold, keeps_ite, keepsO_ite, keepsM_ite, keepsL_ite, keepsR_ite,
      ite_self, implies_true, keeps_foldl, keepsL_foldl, keepsR_foldl, keeps_guard, keeps_arrival, keeps_mgtIn]

theorem keeps_cfgResult {l} {s : State} (h : Keeps l s) (x1) : Keeps l (State.cfgResult s x1) := h

theorem keeps_cfgCommit {l} {s : State} (h : Keeps l s) : Keeps l (State.cfgCommit s) := by
  unfold State.cfgCommit
  simp +contextual (maxDischargeDepth := 40) only [h, keeps_mk, keeps_fold, keepsO_next, keepsO_fault, keepsM_some,
      keepsM_none, keepsL_mk, keepsR_mk, keepsL_fold, keepsR_fold, keeps_ite, keepsO_ite, keepsM_ite, keepsL_ite,
      keepsR_ite, ite_self, implies_true, keeps_foldl, keepsL_foldl, keepsR_foldl, keeps_cfgResult]

theorem keeps_cfgAdvance {l} {s : State} (h : Keeps l s) : Keeps l (State.cfgAdvance s) := by
  unfold State.cfgAdvance
  simp +contextual (maxDischargeDepth := 40) only [h, keeps_mk, keeps_fold, keepsO_next, keepsO_fault, keepsM_some,
      keepsM_none, keepsL_mk, keepsR_mk, keepsL_fold, keepsR_fold, keeps_ite, keepsO_ite, keepsM_ite, keepsL_ite,
      keepsR_ite, ite_self, implies_true, keeps_foldl, keepsL_foldl, keepsR_foldl, keeps_cfgResult]

theorem keeps_cfgClose {l} {s : State} (h : Keeps l s) : Keeps l (State.cfgClose s) := by
  unfold State.cfgClose
  simp +contextual (maxDischargeDepth := 40) only [h, keeps_mk, keeps_fold, keepsO_next, keepsO_fault, keepsM_some,
      keepsM_none, keepsL_mk, keepsR_mk, keepsL_fold, keepsR_fold, keeps_ite, keepsO_ite, keepsM_ite, keepsL_ite,
      keepsR_ite, ite_self, implies_true, keeps_foldl, keepsL_foldl, keepsR_foldl, keeps_cfgResult]

theorem keeps_execCfgCommit {l} {s : State} (h : Keeps l s) : KeepsO l (execCfgCommit s) := by
  unfold execCfgCommit
  simp +contextual (maxDischargeDepth := 40) only [h, keepsO_next, keepsO_fault, keepsM_some, keepsM_none,
      keepsL_mk, keepsR_mk, keepsL_fold, keepsR_fold, keeps_ite, keepsO_ite, keepsM_ite, keepsL_ite, keepsR_ite,
      ite_self, implies_true, keeps_foldl, keepsL_foldl, keepsR_foldl, keeps_cfgCommit]

theorem keeps_execCfgAdvance {l} {s : State} (h : Keeps l s) : KeepsO l (execCfgAdvance s) := by
  unfold execCfgAdvance
  simp +contextual (maxDischargeDepth := 40) only [h, keepsO_next, keepsO_fault, keepsM_some, keepsM_none,
      keepsL_mk, keepsR_mk, keepsL_fold, keepsR_fold, keeps_ite, keepsO_ite, keepsM_ite, keepsL_ite, keepsR_ite,
      ite_self, implies_true, keeps_foldl, keepsL_foldl, keepsR_foldl, keeps_cfgAdvance]

theorem keeps_execCfgClose {l} {s : State} (h : Keeps l s) : KeepsO l (execCfgClose s) := by
  unfold execCfgClose
  simp +contextual (maxDischargeDepth := 40) only [h, keepsO_next, keepsO_fault, keepsM_some, keepsM_none,
      keepsL_mk, keepsR_mk, keepsL_fold, keepsR_fold, keeps_ite, keepsO_ite, keepsM_ite, keepsL_ite, keepsR_ite,
      ite_self, implies_true, keeps_foldl, keepsL_foldl, keepsR_foldl, keeps_cfgClose]

theorem keeps_execCfgCloseEffect {l} {s : State} (h : Keeps l s) : KeepsO l (execCfgCloseEffect s) := by
  unfold execCfgCloseEffect
  simp +contextual (maxDischargeDepth := 40) only [h, keeps_mk, keeps_fold, keepsO_next, keepsO_fault, keepsM_some,
      keepsM_none, keepsL_mk, keepsR_mk, keepsL_fold, keepsR_fold, keeps_ite, keepsO_ite, keepsM_ite, keepsL_ite,
      keepsR_ite, ite_self, implies_true, keeps_foldl, keepsL_foldl, keepsR_foldl, keeps_at]

theorem keeps_dzfClear {l} {s : State} (h : Keeps l s) : Keeps l (State.dzfClear s) := by
  unfold State.dzfClear
  simp +contextual (maxDischargeDepth := 40) only [h, keeps_mk, keeps_fold, keepsO_next, keepsO_fault, keepsM_some,
      keepsM_none, keepsL_mk, keepsR_mk, keepsL_fold, keepsR_fold, keeps_ite, keepsO_ite, keepsM_ite, keepsL_ite,
      keepsR_ite, ite_self, implies_true, keeps_foldl, keepsL_foldl, keepsR_foldl, keeps_setPort]

theorem keeps_execDzfCntClr {l} {s : State} (h : Keeps l s) : KeepsO l (execDzfCntClr s) := by
  unfold execDzfCntClr
  simp +contextual (maxDischargeDepth := 40) only [h, keepsO_next, keepsO_fault, keepsM_some, keepsM_none,
      keepsL_mk, keepsR_mk, keepsL_fold, keepsR_fold, keeps_ite, keepsO_ite, keepsM_ite, keepsL_ite, keepsR_ite,
      ite_self, implies_true, keeps_foldl, keepsL_foldl, keepsR_foldl, keeps_dzfClear]

/-! ## Host queues -/

theorem keeps_barReject {l} {s : State} (h : Keeps l s) (x1) : Keeps l (State.barReject s x1) := by
  unfold State.barReject
  simp +contextual (maxDischargeDepth := 40) only [h, keeps_mk, keeps_fold, keepsO_next, keepsO_fault, keepsM_some,
      keepsM_none, keepsL_mk, keepsR_mk, keepsL_fold, keepsR_fold, keeps_ite, keepsO_ite, keepsM_ite, keepsL_ite,
      keepsR_ite, ite_self, implies_true, keeps_foldl, keepsL_foldl, keepsR_foldl, keeps_hqErr]

theorem keeps_barReturn {l} {s : State} (h : Keeps l s) (x1 x2 x3) : Keeps l (State.barReturn s x1 x2 x3) := h

theorem keeps_execBar2Write {l} {s : State} (h : Keeps l s) (x0 x1 x2) : KeepsO l (execBar2Write x0 x1 x2 s) := by
  unfold execBar2Write
  all_goals repeat' (split <;> (try simp +contextual (maxDischargeDepth := 40) only [h, keepsO_next, keepsO_fault,
      keepsM_some, keepsM_none, keepsL_mk, keepsR_mk, keepsL_fold, keepsR_fold, keeps_ite, keepsO_ite, keepsM_ite,
      keepsL_ite, keepsR_ite, ite_self, implies_true, keeps_foldl, keepsL_foldl, keepsR_foldl, keeps_guard,
      keeps_barReject, keeps_wr, keeps_takeTags, keeps_sendUnits]))

theorem keeps_execBar2Read {l} {s : State} (h : Keeps l s) (x0 x1) : KeepsO l (execBar2Read x0 x1 s) := by
  unfold execBar2Read
  all_goals repeat' (split <;> (try simp +contextual (maxDischargeDepth := 40) only [h, keepsO_next, keepsO_fault,
      keepsM_some, keepsM_none, keepsL_mk, keepsR_mk, keepsL_fold, keepsR_fold, keeps_ite, keepsO_ite, keepsM_ite,
      keepsL_ite, keepsR_ite, ite_self, implies_true, keeps_foldl, keepsL_foldl, keepsR_foldl, keeps_guard,
      keeps_barReject, keeps_barReturn, keeps_scrub, keeps_takeTags, keeps_sendUnits]))

theorem keeps_badBell {l} {s : State} (h : Keeps l s) (x1) : Keeps l (State.badBell s x1) := by
  unfold State.badBell
  simp +contextual (maxDischargeDepth := 40) only [h, keepsO_next, keepsO_fault, keepsM_some, keepsM_none,
      keepsL_mk, keepsR_mk, keepsL_fold, keepsR_fold, keeps_ite, keepsO_ite, keepsM_ite, keepsL_ite, keepsR_ite,
      ite_self, implies_true, keeps_foldl, keepsL_foldl, keepsR_foldl, keeps_hqErr, keeps_setQue]

theorem keeps_sqBell {l} {s : State} (h : Keeps l s) (x1 x2) : Keeps l (State.sqBell s x1 x2) := by
  unfold State.sqBell
  simp +contextual (maxDischargeDepth := 40) only [h, keepsO_next, keepsO_fault, keepsM_some, keepsM_none,
      keepsL_mk, keepsR_mk, keepsL_fold, keepsR_fold, keeps_ite, keepsO_ite, keepsM_ite, keepsL_ite, keepsR_ite,
      ite_self, implies_true, keeps_foldl, keepsL_foldl, keepsR_foldl, keeps_badBell, keeps_setQue]

theorem keeps_cqBell {l} {s : State} (h : Keeps l s) (x1 x2) : Keeps l (State.cqBell s x1 x2) := by
  unfold State.cqBell
  simp +contextual (maxDischargeDepth := 40) only [h, keepsO_next, keepsO_fault, keepsM_some, keepsM_none,
      keepsL_mk, keepsR_mk, keepsL_fold, keepsR_fold, keeps_ite, keepsO_ite, keepsM_ite, keepsL_ite, keepsR_ite,
      ite_self, implies_true, keeps_foldl, keepsL_foldl, keepsR_foldl, keeps_badBell, keeps_setQue]

theorem keeps_execSqDoorbell {l} {s : State} (h : Keeps l s) (x0 x1) : KeepsO l (execSqDoorbell x0 x1 s) := by
  unfold execSqDoorbell
  simp +contextual (maxDischargeDepth := 40) only [h, keepsO_next, keepsO_fault, keepsM_some, keepsM_none,
      keepsL_mk, keepsR_mk, keepsL_fold, keepsR_fold, keeps_ite, keepsO_ite, keepsM_ite, keepsL_ite, keepsR_ite,
      ite_self, implies_true, keeps_foldl, keepsL_foldl, keepsR_foldl, keeps_guard, keeps_sqBell]

theorem keeps_execCqDoorbell {l} {s : State} (h : Keeps l s) (x0 x1) : KeepsO l (execCqDoorbell x0 x1 s) := by
  unfold execCqDoorbell
  simp +contextual (maxDischargeDepth := 40) only [h, keepsO_next, keepsO_fault, keepsM_some, keepsM_none,
      keepsL_mk, keepsR_mk, keepsL_fold, keepsR_fold, keeps_ite, keepsO_ite, keepsM_ite, keepsL_ite, keepsR_ite,
      ite_self, implies_true, keeps_foldl, keepsL_foldl, keepsR_foldl, keeps_guard, keeps_cqBell]

theorem keeps_execCommandFetch {l} {s : State} (h : Keeps l s) (x0) : KeepsO l (execCommandFetch x0 s) := by
  unfold execCommandFetch
  try simp +contextual (maxDischargeDepth := 40) only [h, keepsO_next, keepsO_fault, keepsM_some, keepsM_none,
      keepsL_mk, keepsR_mk, keepsL_fold, keepsR_fold, keeps_ite, keepsO_ite, keepsM_ite, keepsL_ite, keepsR_ite,
      ite_self, implies_true, keeps_foldl, keepsL_foldl, keepsR_foldl, keeps_guard, keeps_setQue, keeps_fresh]
  all_goals repeat' (split <;> (try simp +contextual (maxDischargeDepth := 40) only [h, keepsO_next, keepsO_fault,
      keepsM_some, keepsM_none, keepsL_mk, keepsR_mk, keepsL_fold, keepsR_fold, keeps_ite, keepsO_ite, keepsM_ite,
      keepsL_ite, keepsR_ite, ite_self, implies_true, keeps_foldl, keepsL_foldl, keepsR_foldl, keeps_guard,
      keeps_setQue, keeps_fresh]))

theorem keeps_startCmd {l} {s : State} (h : Keeps l s) (x1 x2 x3 x4) (hf4 : ∀ y0 y1, Keeps l y1 → Keeps l (x4 y0
    y1)) : KeepsO l (State.startCmd s x1 x2 x3 x4) := by
  unfold State.startCmd
  all_goals repeat' (split <;> (try simp +contextual (maxDischargeDepth := 40) only [h, hf4, keepsO_next,
      keepsO_fault, keepsM_some, keepsM_none, keepsL_mk, keepsR_mk, keepsL_fold, keepsR_fold, keeps_ite,
      keepsO_ite, keepsM_ite, keepsL_ite, keepsR_ite, ite_self, implies_true, keeps_foldl, keepsL_foldl,
      keepsR_foldl, keeps_guard, keeps_setQue]))

theorem keeps_execQueueNop {l} {s : State} (h : Keeps l s) (x0 x1) : KeepsO l (execQueueNop x0 x1 s) := by
  unfold execQueueNop
  simp +contextual (maxDischargeDepth := 40) only [h, keepsO_next, keepsO_fault, keepsM_some, keepsM_none,
      keepsL_mk, keepsR_mk, keepsL_fold, keepsR_fold, keeps_ite, keepsO_ite, keepsM_ite, keepsL_ite, keepsR_ite,
      ite_self, implies_true, keeps_foldl, keepsL_foldl, keepsR_foldl, keeps_startCmd, keeps_qDone]

theorem keeps_execStrm {l} {s : State} (h : Keeps l s) (x0 x1) : KeepsO l (execStrm x0 x1 s) := by
  unfold execStrm
  refine keeps_startCmd h _ _ _ _ fun c s h => ?_
  simp only [keeps_ite, keeps_qDone, h]
  split
  · trivial
  · split
    · trivial
    · split <;> rename_i heq <;> have hk := keepsL_eq (keeps_strmDo h _ _ _) heq
      · simp only [keeps_qDone, keeps_ite, keeps_setStr, hk, ite_self]
      · exact keeps_setStr hk _ _

theorem keeps_execXfer {l} {s : State} (h : Keeps l s) (x0 x1) : KeepsO l (execXfer x0 x1 s) := by
  unfold execXfer
  refine keeps_startCmd h _ _ _ _ fun c s h => ?_
  split
  · exact keeps_qDone h _ _ _ _ _
  · simp (maxDischargeDepth := 10) only [keeps_ite, keeps_qDone, keeps_wr, keeps_hwr, keeps_scrub, h, ite_self]

theorem keeps_queueMsi {l} {s : State} (h : Keeps l s) (x1) : Keeps l (State.queueMsi s x1) := by
  unfold State.queueMsi
  simp +contextual (maxDischargeDepth := 40) only [h, keepsO_next, keepsO_fault, keepsM_some, keepsM_none,
      keepsL_mk, keepsR_mk, keepsL_fold, keepsR_fold, keeps_ite, keepsO_ite, keepsM_ite, keepsL_ite, keepsR_ite,
      ite_self, implies_true, keeps_foldl, keepsL_foldl, keepsR_foldl, keeps_setQue, keeps_msi]

theorem keeps_queueIrq {l} {s : State} (h : Keeps l s) (x1) : Keeps l (State.queueIrq s x1) := by
  unfold State.queueIrq
  simp +contextual (maxDischargeDepth := 40) only [h, keepsO_next, keepsO_fault, keepsM_some, keepsM_none,
      keepsL_mk, keepsR_mk, keepsL_fold, keepsR_fold, keeps_ite, keepsO_ite, keepsM_ite, keepsL_ite, keepsR_ite,
      ite_self, implies_true, keeps_foldl, keepsL_foldl, keepsR_foldl, keeps_setQue, keeps_queueMsi]

theorem keeps_execQueueCommandComplete {l} {s : State} (h : Keeps l s) (x0 x1) : KeepsO l (execQueueCommandComplete
    x0 x1 s) := by
  unfold execQueueCommandComplete
  try simp +contextual (maxDischargeDepth := 40) only [h, keepsO_next, keepsO_fault, keepsM_some, keepsM_none,
      keepsL_mk, keepsR_mk, keepsL_fold, keepsR_fold, keeps_ite, keepsO_ite, keepsM_ite, keepsL_ite, keepsR_ite,
      ite_self, implies_true, keeps_foldl, keepsL_foldl, keepsR_foldl, keeps_guard, keeps_hwr, keeps_setQue,
      keeps_queueIrq]
  all_goals repeat' (split <;> (try simp +contextual (maxDischargeDepth := 40) only [h, keepsO_next, keepsO_fault,
      keepsM_some, keepsM_none, keepsL_mk, keepsR_mk, keepsL_fold, keepsR_fold, keeps_ite, keepsO_ite, keepsM_ite,
      keepsL_ite, keepsR_ite, ite_self, implies_true, keeps_foldl, keepsL_foldl, keepsR_foldl, keeps_guard,
      keeps_hwr, keeps_setQue, keeps_queueIrq]))

theorem keeps_execIrqCoalesceTimer {l} {s : State} (h : Keeps l s) (x0) : KeepsO l (execIrqCoalesceTimer x0 s) := by
  unfold execIrqCoalesceTimer
  simp +contextual (maxDischargeDepth := 40) only [h, keepsO_next, keepsO_fault, keepsM_some, keepsM_none,
      keepsL_mk, keepsR_mk, keepsL_fold, keepsR_fold, keeps_ite, keepsO_ite, keepsM_ite, keepsL_ite, keepsR_ite,
      ite_self, implies_true, keeps_foldl, keepsL_foldl, keepsR_foldl, keeps_guard, keeps_queueMsi, keeps_at]

theorem keeps_queOn {l} {s : State} (h : Keeps l s) (x1) : Keeps l (State.queOn s x1) := by
  unfold State.queOn
  simp +contextual (maxDischargeDepth := 40) only [h, keepsO_next, keepsO_fault, keepsM_some, keepsM_none,
      keepsL_mk, keepsR_mk, keepsL_fold, keepsR_fold, keeps_ite, keepsO_ite, keepsM_ite, keepsL_ite, keepsR_ite,
      ite_self, implies_true, keeps_foldl, keepsL_foldl, keepsR_foldl, keeps_setQue]

theorem keeps_queOff {l} {s : State} (h : Keeps l s) (x1) : Keeps l (State.queOff s x1) := by
  unfold State.queOff
  simp +contextual (maxDischargeDepth := 40) only [h, keepsO_next, keepsO_fault, keepsM_some, keepsM_none,
      keepsL_mk, keepsR_mk, keepsL_fold, keepsR_fold, keeps_ite, keepsO_ite, keepsM_ite, keepsL_ite, keepsR_ite,
      ite_self, implies_true, keeps_foldl, keepsL_foldl, keepsR_foldl, keeps_setQue]

theorem keeps_execQueueEnable {l} {s : State} (h : Keeps l s) (x0) : KeepsO l (execQueueEnable x0 s) := by
  unfold execQueueEnable
  simp +contextual (maxDischargeDepth := 40) only [h, keepsO_next, keepsO_fault, keepsM_some, keepsM_none,
      keepsL_mk, keepsR_mk, keepsL_fold, keepsR_fold, keeps_ite, keepsO_ite, keepsM_ite, keepsL_ite, keepsR_ite,
      ite_self, implies_true, keeps_foldl, keepsL_foldl, keepsR_foldl, keeps_guard, keeps_queOn]

theorem keeps_execQueueDisable {l} {s : State} (h : Keeps l s) (x0) : KeepsO l (execQueueDisable x0 s) := by
  unfold execQueueDisable
  simp +contextual (maxDischargeDepth := 40) only [h, keepsO_next, keepsO_fault, keepsM_some, keepsM_none,
      keepsL_mk, keepsR_mk, keepsL_fold, keepsR_fold, keeps_ite, keepsO_ite, keepsM_ite, keepsL_ite, keepsR_ite,
      ite_self, implies_true, keeps_foldl, keepsL_foldl, keepsR_foldl, keeps_guard, keeps_queOff]

theorem keeps_execQueuePendingStart {l} {s : State} (h : Keeps l s) (x0) : KeepsO l (execQueuePendingStart x0 s) := by
  unfold execQueuePendingStart
  simp +contextual (maxDischargeDepth := 40) only [h, keepsO_next, keepsO_fault, keepsM_some, keepsM_none,
      keepsL_mk, keepsR_mk, keepsL_fold, keepsR_fold, keeps_ite, keepsO_ite, keepsM_ite, keepsL_ite, keepsR_ite,
      ite_self, implies_true, keeps_foldl, keepsL_foldl, keepsR_foldl, keeps_guard, keeps_setQue]

theorem keeps_dropMigBy {l} {s : State} (h : Keeps l s) (x1) : Keeps l (State.dropMigBy s x1) := by
  unfold State.dropMigBy
  simp +contextual (maxDischargeDepth := 40) only [h, keepsO_next, keepsO_fault, keepsM_some, keepsM_none,
      keepsL_mk, keepsR_mk, keepsL_fold, keepsR_fold, keeps_ite, keepsO_ite, keepsM_ite, keepsL_ite, keepsR_ite,
      ite_self, implies_true, keeps_foldl, keepsL_foldl, keepsR_foldl, keeps_setStr]

theorem keeps_killQue {l} {s : State} (h : Keeps l s) (x1) : Keeps l (State.killQue s x1) := by
  unfold State.killQue
  simp +contextual (maxDischargeDepth := 40) only [h, keepsO_next, keepsO_fault, keepsM_some, keepsM_none,
      keepsL_mk, keepsR_mk, keepsL_fold, keepsR_fold, keeps_ite, keepsO_ite, keepsM_ite, keepsL_ite, keepsR_ite,
      ite_self, implies_true, keeps_foldl, keepsL_foldl, keepsR_foldl, keeps_setQue]

theorem keeps_execVfFlr {l} {s : State} (h : Keeps l s) (x0) : KeepsO l (execVfFlr x0 s) := by
  unfold execVfFlr
  simp +contextual (maxDischargeDepth := 40) only [h, keepsO_next, keepsO_fault, keepsM_some, keepsM_none,
      keepsL_mk, keepsR_mk, keepsL_fold, keepsR_fold, keeps_ite, keepsO_ite, keepsM_ite, keepsL_ite, keepsR_ite,
      ite_self, implies_true, keeps_foldl, keepsL_foldl, keepsR_foldl, keeps_guard, keeps_killQue, keeps_dropMigBy,
      keeps_abortStr]

theorem keeps_pfReset {l} {s : State} (h : Keeps l s) : Keeps l (State.pfReset s) := by
  unfold State.pfReset
  simp +contextual (maxDischargeDepth := 40) only [h, keeps_mk, keeps_fold, keepsO_next, keepsO_fault, keepsM_some,
      keepsM_none, keepsL_mk, keepsR_mk, keepsL_fold, keepsR_fold, keeps_ite, keepsO_ite, keepsM_ite, keepsL_ite,
      keepsR_ite, ite_self, implies_true, keeps_foldl, keepsL_foldl, keepsR_foldl, keeps_dropMigBy]

theorem keeps_execPfFlr {l} {s : State} (h : Keeps l s) : KeepsO l (execPfFlr s) := by
  unfold execPfFlr
  simp +contextual (maxDischargeDepth := 40) only [h, keepsO_next, keepsO_fault, keepsM_some, keepsM_none,
      keepsL_mk, keepsR_mk, keepsL_fold, keepsR_fold, keeps_ite, keepsO_ite, keepsM_ite, keepsL_ite, keepsR_ite,
      ite_self, implies_true, keeps_foldl, keepsL_foldl, keepsR_foldl, keeps_pfReset]

theorem keeps_execHostLinkLost {l} {s : State} (h : Keeps l s) : KeepsO l (execHostLinkLost s) := by
  unfold execHostLinkLost
  simp +contextual (maxDischargeDepth := 40) only [h, keeps_mk, keeps_fold, keepsO_next, keepsO_fault, keepsM_some,
      keepsM_none, keepsL_mk, keepsR_mk, keepsL_fold, keepsR_fold, keeps_ite, keepsO_ite, keepsM_ite, keepsL_ite,
      keepsR_ite, ite_self, implies_true, keeps_foldl, keepsL_foldl, keepsR_foldl, keeps_pfReset, keeps_condition,
      keeps_hqErr]

theorem keeps_execMemReady {l} {s : State} (h : Keeps l s) : KeepsO l (execMemReady s) := by
  unfold execMemReady
  simp +contextual (maxDischargeDepth := 40) only [h, keeps_mk, keeps_fold, keepsO_next, keepsO_fault, keepsM_some,
      keepsM_none, keepsL_mk, keepsR_mk, keepsL_fold, keepsR_fold, keeps_ite, keepsO_ite, keepsM_ite, keepsL_ite,
      keepsR_ite, ite_self, implies_true, keeps_foldl, keepsL_foldl, keepsR_foldl]

theorem keeps_execHostLinkUp {l} {s : State} (h : Keeps l s) (x0 x1 x2) : KeepsO l (execHostLinkUp x0 x1 x2 s) := by
  unfold execHostLinkUp
  simp +contextual (maxDischargeDepth := 40) only [h, keeps_mk, keeps_fold, keepsO_next, keepsO_fault, keepsM_some,
      keepsM_none, keepsL_mk, keepsR_mk, keepsL_fold, keepsR_fold, keeps_ite, keepsO_ite, keepsM_ite, keepsL_ite,
      keepsR_ite, ite_self, implies_true, keeps_foldl, keepsL_foldl, keepsR_foldl, keeps_guard]

/-! ## The black-box record -/

theorem keeps_execBbrCommit {l} {s : State} (h : Keeps l s) : KeepsO l (execBbrCommit s) := by
  unfold execBbrCommit
  all_goals repeat' (split <;> (try simp +contextual (maxDischargeDepth := 40) only [h, keeps_mk, keeps_fold,
      keepsO_next, keepsO_fault, keepsM_some, keepsM_none, keepsL_mk, keepsR_mk, keepsL_fold, keepsR_fold,
      keeps_ite, keepsO_ite, keepsM_ite, keepsL_ite, keepsR_ite, ite_self, implies_true, keeps_foldl, keepsL_foldl,
      keepsR_foldl]))

theorem keeps_execBbrSecondEnd {l} {s : State} (h : Keeps l s) : KeepsO l (execBbrSecondEnd s) := by
  unfold execBbrSecondEnd
  simp +contextual (maxDischargeDepth := 40) only [h, keepsO_next, keepsO_fault, keepsM_some, keepsM_none,
      keepsL_mk, keepsR_mk, keepsL_fold, keepsR_fold, keeps_ite, keepsO_ite, keepsM_ite, keepsL_ite, keepsR_ite,
      ite_self, implies_true, keeps_foldl, keepsL_foldl, keepsR_foldl, keeps_bbrRoll, keeps_at]

theorem keeps_bootRec {l} {s : State} (h : Keeps l s) (x1) : Keeps l (State.bootRec s x1) := by
  unfold State.bootRec
  simp +contextual (maxDischargeDepth := 40) only [h, keepsO_next, keepsO_fault, keepsM_some, keepsM_none,
      keepsL_mk, keepsR_mk, keepsL_fold, keepsR_fold, keeps_ite, keepsO_ite, keepsM_ite, keepsL_ite, keepsR_ite,
      ite_self, implies_true, keeps_foldl, keepsL_foldl, keepsR_foldl, keeps_bbrPut]

theorem keeps_tellTorn {l} {s : State} (h : Keeps l s) : Keeps l (State.tellTorn s) := by
  unfold State.tellTorn
  simp +contextual (maxDischargeDepth := 40) only [h, keepsO_next, keepsO_fault, keepsM_some, keepsM_none,
      keepsL_mk, keepsR_mk, keepsL_fold, keepsR_fold, keeps_ite, keepsO_ite, keepsM_ite, keepsL_ite, keepsR_ite,
      ite_self, implies_true, keeps_foldl, keepsL_foldl, keepsR_foldl, keeps_raise]

theorem keeps_takeHeld {l} {s : State} (h : Keeps l s) : Keeps l (State.takeHeld s) := by
  unfold State.takeHeld
  simp +contextual (maxDischargeDepth := 40) only [h, keeps_mk, keeps_fold, keepsO_next, keepsO_fault, keepsM_some,
      keepsM_none, keepsL_mk, keepsR_mk, keepsL_fold, keepsR_fold, keeps_ite, keepsO_ite, keepsM_ite, keepsL_ite,
      keepsR_ite, ite_self, implies_true, keeps_foldl, keepsL_foldl, keepsR_foldl, keeps_trivetTake, keeps_bbrPut]

theorem keeps_execTrivetBoot {l} {s : State} (h : Keeps l s) : KeepsO l (execTrivetBoot s) := by
  unfold execTrivetBoot
  all_goals repeat' (split <;> (try simp +contextual (maxDischargeDepth := 40) only [h, keeps_mk, keeps_fold,
      keepsO_next, keepsO_fault, keepsM_some, keepsM_none, keepsL_mk, keepsR_mk, keepsL_fold, keepsR_fold,
      keeps_ite, keepsO_ite, keepsM_ite, keepsL_ite, keepsR_ite, ite_self, implies_true, keeps_foldl, keepsL_foldl,
      keepsR_foldl, keeps_bootRec, keeps_tellTorn, keeps_takeHeld, keeps_condition, keeps_fresh]))

theorem keeps_restartTrivet {l} {s : State} (h : Keeps l s) : Keeps l (State.restartTrivet s) := h

/-! ## Management -/

theorem keeps_respond {l} {s : State} (h : Keeps l s) (x1 x2 x3 x4 x5 x6) : Keeps l (State.respond s x1 x2 x3 x4 x5
    x6) := by
  unfold State.respond
  all_goals repeat' (split <;> (try simp +contextual (maxDischargeDepth := 40) only [h, keeps_mk, keeps_fold,
      keepsO_next, keepsO_fault, keepsM_some, keepsM_none, keepsL_mk, keepsR_mk, keepsL_fold, keepsR_fold,
      keeps_ite, keepsO_ite, keepsM_ite, keepsL_ite, keepsR_ite, ite_self, implies_true, keeps_foldl, keepsL_foldl,
      keepsR_foldl, keeps_send, keeps_msi]))

theorem keeps_status {l} {s : State} (h : Keeps l s) (x1 x2 x3 x4) : Keeps l (State.status s x1 x2 x3 x4) := by
  unfold State.status
  simp +contextual (maxDischargeDepth := 40) only [h, keepsO_next, keepsO_fault, keepsM_some, keepsM_none,
      keepsL_mk, keepsR_mk, keepsL_fold, keepsR_fold, keeps_ite, keepsO_ite, keepsM_ite, keepsL_ite, keepsR_ite,
      ite_self, implies_true, keeps_foldl, keepsL_foldl, keepsR_foldl, keeps_respond]

theorem keeps_execGetInfo {l} {s : State} (h : Keeps l s) (x0 x1) : KeepsO l (execGetInfo x0 x1 s) := by
  unfold execGetInfo
  simp +contextual (maxDischargeDepth := 40) only [h, keeps_mk, keeps_fold, keepsO_next, keepsO_fault, keepsM_some,
      keepsM_none, keepsL_mk, keepsR_mk, keepsL_fold, keepsR_fold, keeps_ite, keepsO_ite, keepsM_ite, keepsL_ite,
      keepsR_ite, ite_self, implies_true, keeps_foldl, keepsL_foldl, keepsR_foldl, keeps_fresh, keeps_respond]

theorem keeps_execSubscribe {l} {s : State} (h : Keeps l s) (x0 x1 x2 x3) : KeepsO l (execSubscribe x0 x1 x2 x3 s) := by
  unfold execSubscribe
  all_goals repeat' (split <;> (try simp +contextual (maxDischargeDepth := 40) only [h, keeps_mk, keeps_fold,
      keepsO_next, keepsO_fault, keepsM_some, keepsM_none, keepsL_mk, keepsR_mk, keepsL_fold, keepsR_fold,
      keeps_ite, keepsO_ite, keepsM_ite, keepsL_ite, keepsR_ite, ite_self, implies_true, keeps_foldl, keepsL_foldl,
      keepsR_foldl, keeps_status]))

theorem keeps_execReport {l} {s : State} (h : Keeps l s) (x0) : KeepsO l (execReport x0 s) := by
  unfold execReport
  all_goals repeat' (split <;> (try simp +contextual (maxDischargeDepth := 40) only [h, keeps_mk, keeps_fold,
      keepsO_next, keepsO_fault, keepsM_some, keepsM_none, keepsL_mk, keepsR_mk, keepsL_fold, keepsR_fold,
      keeps_ite, keepsO_ite, keepsM_ite, keepsL_ite, keepsR_ite, ite_self, implies_true, keeps_foldl, keepsL_foldl,
      keepsR_foldl, keeps_guard, keeps_send]))

theorem keeps_execReadBbr {l} {s : State} (h : Keeps l s) (x0 x1 x2 x3) : KeepsO l (execReadBbr x0 x1 x2 x3 s) := by
  unfold execReadBbr
  simp +contextual (maxDischargeDepth := 40) only [h, keepsO_next, keepsO_fault, keepsM_some, keepsM_none,
      keepsL_mk, keepsR_mk, keepsL_fold, keepsR_fold, keeps_ite, keepsO_ite, keepsM_ite, keepsL_ite, keepsR_ite,
      ite_self, implies_true, keeps_foldl, keepsL_foldl, keepsR_foldl, keeps_respond]

theorem keeps_execBbrErase {l} {s : State} (h : Keeps l s) (x0 x1 x2 x3) : KeepsO l (execBbrErase x0 x1 x2 x3 s) := by
  unfold execBbrErase
  simp +contextual (maxDischargeDepth := 40) only [h, keeps_mk, keeps_fold, keepsO_next, keepsO_fault, keepsM_some,
      keepsM_none, keepsL_mk, keepsR_mk, keepsL_fold, keepsR_fold, keeps_ite, keepsO_ite, keepsM_ite, keepsL_ite,
      keepsR_ite, ite_self, implies_true, keeps_foldl, keepsL_foldl, keepsR_foldl, keeps_status]

theorem keeps_flashDone {l} {s : State} (h : Keeps l s) : Keeps l (State.flashDone s) := by
  unfold State.flashDone
  all_goals repeat' (split <;> (try simp +contextual (maxDischargeDepth := 40) only [h, keeps_mk, keeps_fold,
      keepsO_next, keepsO_fault, keepsM_some, keepsM_none, keepsL_mk, keepsR_mk, keepsL_fold, keepsR_fold,
      keeps_ite, keepsO_ite, keepsM_ite, keepsL_ite, keepsR_ite, ite_self, implies_true, keeps_foldl, keepsL_foldl,
      keepsR_foldl, keeps_status]))

theorem keeps_execFlashOpComplete {l} {s : State} (h : Keeps l s) : KeepsO l (execFlashOpComplete s) := by
  unfold execFlashOpComplete
  simp +contextual (maxDischargeDepth := 40) only [h, keepsO_next, keepsO_fault, keepsM_some, keepsM_none,
      keepsL_mk, keepsR_mk, keepsL_fold, keepsR_fold, keeps_ite, keepsO_ite, keepsM_ite, keepsL_ite, keepsR_ite,
      ite_self, implies_true, keeps_foldl, keepsL_foldl, keepsR_foldl, keeps_flashDone]

theorem keeps_execFlashRead {l} {s : State} (h : Keeps l s) (x0 x1 x2 x3) : KeepsO l (execFlashRead x0 x1 x2 x3 s) := by
  unfold execFlashRead
  simp +contextual (maxDischargeDepth := 40) only [h, keeps_mk, keeps_fold, keepsO_next, keepsO_fault, keepsM_some,
      keepsM_none, keepsL_mk, keepsR_mk, keepsL_fold, keepsR_fold, keeps_ite, keepsO_ite, keepsM_ite, keepsL_ite,
      keepsR_ite, ite_self, implies_true, keeps_foldl, keepsL_foldl, keepsR_foldl, keeps_flashDone, keeps_status,
      keeps_respond]

theorem keeps_flashCheck {l} {s : State} (h : Keeps l s) (x1 x2 x3 x4) : KeepsL l (State.flashCheck s x1 x2 x3 x4) := by
  unfold State.flashCheck
  try simp +contextual (maxDischargeDepth := 40) only [h, keepsO_next, keepsO_fault, keepsM_some, keepsM_none,
      keepsL_mk, keepsR_mk, keepsL_fold, keepsR_fold, keeps_ite, keepsO_ite, keepsM_ite, keepsL_ite, keepsR_ite,
      ite_self, implies_true, keeps_foldl, keepsL_foldl, keepsR_foldl, keeps_raise]
  all_goals repeat' (split <;> (try simp +contextual (maxDischargeDepth := 40) only [h, keepsO_next, keepsO_fault,
      keepsM_some, keepsM_none, keepsL_mk, keepsR_mk, keepsL_fold, keepsR_fold, keeps_ite, keepsO_ite, keepsM_ite,
      keepsL_ite, keepsR_ite, ite_self, implies_true, keeps_foldl, keepsL_foldl, keepsR_foldl, keeps_raise]))

theorem keeps_flashRun {l} {s : State} (h : Keeps l s) (x1 x2 x3 x4 x5) : Keeps l (State.flashRun s x1 x2 x3 x4 x5) := h

theorem keeps_execFlashProgram {l} {s : State} (h : Keeps l s) (x0 x1 x2 x3) : KeepsO l (execFlashProgram x0 x1 x2 x3 s) := by
  unfold execFlashProgram
  rw [keepsO_next]
  split
  · exact h
  · split <;> rename_i heq <;> have hk := keepsL_eq (keeps_flashCheck (keeps_flashDone h) _ _ _ _) heq
    · exact keeps_status hk _ _ _ _
    · split
      · simp only [keeps_status, keeps_raise, hk]
      · exact keeps_flashRun hk _ _ _ _ _

theorem keeps_execFlashErase {l} {s : State} (h : Keeps l s) (x0 x1 x2 x3) : KeepsO l (execFlashErase x0 x1 x2 x3 s) := by
  unfold execFlashErase
  rw [keepsO_next]
  split
  · exact h
  · split <;> rename_i heq <;> have hk := keepsL_eq (keeps_flashCheck (keeps_flashDone h) _ _ _ _) heq
    · exact keeps_status hk _ _ _ _
    · refine keeps_flashRun (keeps_dite ?_ hk) _ _ _ _ _
      exact hk

theorem keeps_blow {l} {s : State} (h : Keeps l s) (x1) : Keeps l (State.blow s x1) := h

theorem keeps_execFuseAdvance {l} {s : State} (h : Keeps l s) (x0 x1 x2 x3 x4) : KeepsO l (execFuseAdvance x0 x1 x2
    x3 x4 s) := by
  unfold execFuseAdvance
  all_goals repeat' (split <;> (try simp +contextual (maxDischargeDepth := 40) only [h, keepsO_next, keepsO_fault,
      keepsM_some, keepsM_none, keepsL_mk, keepsR_mk, keepsL_fold, keepsR_fold, keeps_ite, keepsO_ite, keepsM_ite,
      keepsL_ite, keepsR_ite, ite_self, implies_true, keeps_foldl, keepsL_foldl, keepsR_foldl, keeps_status,
      keeps_blow]))

theorem keeps_execTrivetRestart {l} {s : State} (h : Keeps l s) (x0 x1) : KeepsO l (execTrivetRestart x0 x1 s) := by
  unfold execTrivetRestart
  all_goals repeat' (split <;> (try simp +contextual (maxDischargeDepth := 40) only [h, keepsO_next, keepsO_fault,
      keepsM_some, keepsM_none, keepsL_mk, keepsR_mk, keepsL_fold, keepsR_fold, keeps_ite, keepsO_ite, keepsM_ite,
      keepsL_ite, keepsR_ite, ite_self, implies_true, keeps_foldl, keepsL_foldl, keepsR_foldl, keeps_restartTrivet,
      keeps_status]))

theorem keeps_setFw {l} {s : State} (h : Keeps l s) (x1 x2) : Keeps l (State.setFw s x1 x2) := h

theorem keeps_fwOp {l} {s : State} (h : Keeps l s) (x1) : Keeps l (State.fwOp s x1) := by
  unfold State.fwOp
  all_goals repeat' (split <;> (try simp +contextual (maxDischargeDepth := 40) only [h, keeps_mk, keeps_fold,
      keepsO_next, keepsO_fault, keepsM_some, keepsM_none, keepsL_mk, keepsR_mk, keepsL_fold, keepsR_fold,
      keeps_ite, keepsO_ite, keepsM_ite, keepsL_ite, keepsR_ite, ite_self, implies_true, keeps_foldl, keepsL_foldl,
      keepsR_foldl, keeps_setFw, keeps_bbrPut, keeps_restartTrivet]))

theorem keeps_execPldmFirmwareUpdate {l} {s : State} (h : Keeps l s) (x0) : KeepsO l (execPldmFirmwareUpdate x0 s) := by
  unfold execPldmFirmwareUpdate
  simp +contextual (maxDischargeDepth := 40) only [h, keepsO_next, keepsO_fault, keepsM_some, keepsM_none,
      keepsL_mk, keepsR_mk, keepsL_fold, keepsR_fold, keeps_ite, keepsO_ite, keepsM_ite, keepsL_ite, keepsR_ite,
      ite_self, implies_true, keeps_foldl, keepsL_foldl, keepsR_foldl, keeps_fwOp]

theorem keeps_execMctpControl {l} {s : State} (h : Keeps l s) (x0) : KeepsO l (execMctpControl x0 s) := by
  unfold execMctpControl
  all_goals repeat' (split <;> (try simp +contextual (maxDischargeDepth := 40) only [h, keeps_mk, keeps_fold,
      keepsO_next, keepsO_fault, keepsM_some, keepsM_none, keepsL_mk, keepsR_mk, keepsL_fold, keepsR_fold,
      keeps_ite, keepsO_ite, keepsM_ite, keepsL_ite, keepsR_ite, ite_self, implies_true, keeps_foldl, keepsL_foldl,
      keepsR_foldl, keeps_send]))

theorem keeps_execPldmMonitoring {l} {s : State} (h : Keeps l s) (x0) : KeepsO l (execPldmMonitoring x0 s) := by
  unfold execPldmMonitoring
  all_goals repeat' (split <;> (try simp +contextual (maxDischargeDepth := 40) only [h, keepsO_next, keepsO_fault,
      keepsM_some, keepsM_none, keepsL_mk, keepsR_mk, keepsL_fold, keepsR_fold, keeps_ite, keepsO_ite, keepsM_ite,
      keepsL_ite, keepsR_ite, ite_self, implies_true, keeps_foldl, keepsL_foldl, keepsR_foldl, keeps_guard,
      keeps_send]))

theorem keeps_execSpdm {l} {s : State} (h : Keeps l s) (x0) : KeepsO l (execSpdm x0 s) := by
  unfold execSpdm
  all_goals repeat' (split <;> (try simp +contextual (maxDischargeDepth := 40) only [h, keepsO_next, keepsO_fault,
      keepsM_some, keepsM_none, keepsL_mk, keepsR_mk, keepsL_fold, keepsR_fold, keeps_ite, keepsO_ite, keepsM_ite,
      keepsL_ite, keepsR_ite, ite_self, implies_true, keeps_foldl, keepsL_foldl, keepsR_foldl, keeps_send]))

/-! ## The monitor -/

theorem keeps_putMon {l} {s : State} (h : Keeps l s) (x1) : Keeps l (State.putMon s x1) := h

theorem keeps_execReadMon {l} {s : State} (h : Keeps l s) (x0 x1 x2 x3) : KeepsO l (execReadMon x0 x1 x2 x3 s) := by
  unfold execReadMon
  simp +contextual (maxDischargeDepth := 40) only [h, keeps_mk, keeps_fold, keepsO_next, keepsO_fault, keepsM_some,
      keepsM_none, keepsL_mk, keepsR_mk, keepsL_fold, keepsR_fold, keeps_ite, keepsO_ite, keepsM_ite, keepsL_ite,
      keepsR_ite, ite_self, implies_true, keeps_foldl, keepsL_foldl, keepsR_foldl, keeps_status, keeps_respond]

theorem keeps_execScanWrite {l} {s : State} (h : Keeps l s) (x0 x1 x2) : KeepsO l (execScanWrite x0 x1 x2 s) := by
  unfold execScanWrite
  simp +contextual (maxDischargeDepth := 40) only [h, keeps_mk, keeps_fold, keepsO_next, keepsO_fault, keepsM_some,
      keepsM_none, keepsL_mk, keepsR_mk, keepsL_fold, keepsR_fold, keeps_ite, keepsO_ite, keepsM_ite, keepsL_ite,
      keepsR_ite, ite_self, implies_true, keeps_foldl, keepsL_foldl, keepsR_foldl, keeps_status]

theorem keeps_execCompWrite {l} {s : State} (h : Keeps l s) (x0 x1 x2) : KeepsO l (execCompWrite x0 x1 x2 s) := by
  unfold execCompWrite
  simp +contextual (maxDischargeDepth := 40) only [h, keeps_mk, keeps_fold, keepsO_next, keepsO_fault, keepsM_some,
      keepsM_none, keepsL_mk, keepsR_mk, keepsL_fold, keepsR_fold, keeps_ite, keepsO_ite, keepsM_ite, keepsL_ite,
      keepsR_ite, ite_self, implies_true, keeps_foldl, keepsL_foldl, keepsR_foldl, keeps_status]

theorem keeps_setConv {l} {s : State} (h : Keeps l s) (x1 x2) : Keeps l (State.setConv s x1 x2) := h

theorem keeps_execTrigArm {l} {s : State} (h : Keeps l s) (x0 x1 x2 x3) : KeepsO l (execTrigArm x0 x1 x2 x3 s) := by
  unfold execTrigArm
  simp +contextual (maxDischargeDepth := 40) only [h, keeps_mk, keeps_fold, keepsO_next, keepsO_fault, keepsM_some,
      keepsM_none, keepsL_mk, keepsR_mk, keepsL_fold, keepsR_fold, keeps_ite, keepsO_ite, keepsM_ite, keepsL_ite,
      keepsR_ite, ite_self, implies_true, keeps_foldl, keepsL_foldl, keepsR_foldl, keeps_status]

theorem keeps_fire {l} {s : State} (h : Keeps l s) (x1) : Keeps l (State.fire s x1) := by
  unfold State.fire
  all_goals repeat' (split <;> (try simp +contextual (maxDischargeDepth := 40) only [h, keeps_mk, keeps_fold,
      keepsO_next, keepsO_fault, keepsM_some, keepsM_none, keepsL_mk, keepsR_mk, keepsL_fold, keepsR_fold,
      keeps_ite, keepsO_ite, keepsM_ite, keepsL_ite, keepsR_ite, ite_self, implies_true, keeps_foldl, keepsL_foldl,
      keepsR_foldl]))

theorem keeps_execTrig {l} {s : State} (h : Keeps l s) (x0 x1) : KeepsO l (execTrig x0 x1 s) := by
  unfold execTrig
  simp +contextual (maxDischargeDepth := 40) only [h, keepsO_next, keepsO_fault, keepsM_some, keepsM_none,
      keepsL_mk, keepsR_mk, keepsL_fold, keepsR_fold, keeps_ite, keepsO_ite, keepsM_ite, keepsL_ite, keepsR_ite,
      ite_self, implies_true, keeps_foldl, keepsL_foldl, keepsR_foldl, keeps_status, keeps_fire]

theorem keeps_execCommonTriggerStart {l} {s : State} (h : Keeps l s) : KeepsO l (execCommonTriggerStart s) := by
  unfold execCommonTriggerStart
  all_goals repeat' (split <;> (try simp +contextual (maxDischargeDepth := 40) only [h, keeps_mk, keeps_fold,
      keepsO_next, keepsO_fault, keepsM_some, keepsM_none, keepsL_mk, keepsR_mk, keepsL_fold, keepsR_fold,
      keeps_ite, keepsO_ite, keepsM_ite, keepsL_ite, keepsR_ite, ite_self, implies_true, keeps_foldl, keepsL_foldl,
      keepsR_foldl, keeps_at, keeps_setConv]))

theorem keeps_pairConv {l} {s : State} (h : Keeps l s) (x1 x2 x3 x4 x5) : Keeps l (State.pairConv s x1 x2 x3 x4 x5) := by
  unfold State.pairConv
  simp +contextual (maxDischargeDepth := 40) only [h, keepsO_next, keepsO_fault, keepsM_some, keepsM_none,
      keepsL_mk, keepsR_mk, keepsL_fold, keepsR_fold, keeps_ite, keepsO_ite, keepsM_ite, keepsL_ite, keepsR_ite,
      ite_self, implies_true, keeps_foldl, keepsL_foldl, keepsR_foldl, keeps_setConv]

theorem keeps_execIlvSet {l} {s : State} (h : Keeps l s) (x0 x1 x2 x3 x4) : KeepsO l (execIlvSet x0 x1 x2 x3 x4 s) := by
  unfold execIlvSet
  simp +contextual (maxDischargeDepth := 40) only [h, keeps_mk, keeps_fold, keepsO_next, keepsO_fault, keepsM_some,
      keepsM_none, keepsL_mk, keepsR_mk, keepsL_fold, keepsR_fold, keeps_ite, keepsO_ite, keepsM_ite, keepsL_ite,
      keepsR_ite, ite_self, implies_true, keeps_foldl, keepsL_foldl, keepsR_foldl, keeps_status, keeps_pairConv]

theorem keeps_scanNext {l} {s : State} (h : Keeps l s) : Keeps l (State.scanNext s) := by
  unfold State.scanNext
  simp +contextual (maxDischargeDepth := 40) only [h, keeps_mk, keeps_fold, keepsO_next, keepsO_fault, keepsM_some,
      keepsM_none, keepsL_mk, keepsR_mk, keepsL_fold, keepsR_fold, keeps_ite, keepsO_ite, keepsM_ite, keepsL_ite,
      keepsR_ite, ite_self, implies_true, keeps_foldl, keepsL_foldl, keepsR_foldl]

theorem keeps_scanStep {l} {s : State} (h : Keeps l s) (x1) : Keeps l (State.scanStep s x1) := by
  unfold State.scanStep
  simp +contextual (maxDischargeDepth := 40) only [h, keeps_mk, keeps_fold, keepsO_next, keepsO_fault, keepsM_some,
      keepsM_none, keepsL_mk, keepsR_mk, keepsL_fold, keepsR_fold, keeps_ite, keepsO_ite, keepsM_ite, keepsL_ite,
      keepsR_ite, ite_self, implies_true, keeps_foldl, keepsL_foldl, keepsR_foldl, keeps_scanNext]

theorem keeps_scanTake {l} : ∀ (n : Nat) {s : State}, Keeps l s → KeepsL l (s.scanTake n)
  | 0, _, h => h
  | n + 1, s, h => by
    unfold State.scanTake
    split
    · exact h
    · split
      · exact h
      · split
        · exact keeps_scanTake n (keeps_scanNext h)
        · simp only []
          split
          · refine keeps_scanTake n (keeps_scanStep ?_ _)
            exact h
          · exact keeps_scanStep h _

theorem keeps_startConv {l} {s : State} (h : Keeps l s) (x1 x2 x3 x4 x5 x6) : Keeps l (State.startConv s x1 x2 x3
    x4 x5 x6) := by
  unfold State.startConv
  simp +contextual (maxDischargeDepth := 40) only [h, keepsO_next, keepsO_fault, keepsM_some, keepsM_none,
      keepsL_mk, keepsR_mk, keepsL_fold, keepsR_fold, keeps_ite, keepsO_ite, keepsM_ite, keepsL_ite, keepsR_ite,
      ite_self, implies_true, keeps_foldl, keepsL_foldl, keepsR_foldl, keeps_setConv]

theorem keeps_serveConv {l} {s : State} (h : Keeps l s) (x1) : Keeps l (State.serveConv s x1) := by
  have hk := h
  unfold State.serveConv
  try simp +contextual (maxDischargeDepth := 40) only [h, keeps_mk, keeps_fold, keepsO_next, keepsO_fault,
      keepsM_some, keepsM_none, keepsL_mk, keepsR_mk, keepsL_fold, keepsR_fold, keeps_ite, keepsO_ite, keepsM_ite,
      keepsL_ite, keepsR_ite, ite_self, implies_true, keeps_foldl, keepsL_foldl, keepsR_foldl, keeps_startConv,
      keeps_scanTake]
  all_goals repeat' (split <;> (try (rename_i heq; first | have hk := keepsR_eq (l := l) (by simp +contextual (maxDischargeDepth := 40) only [hk, h, keeps_mk, keeps_fold, keepsO_next, keepsO_fault, keepsM_some, keepsM_none, keepsL_mk, keepsR_mk, keepsL_fold, keepsR_fold, keeps_ite, keepsO_ite, keepsM_ite, keepsL_ite, keepsR_ite, ite_self, implies_true, keeps_foldl, keepsL_foldl, keepsR_foldl, keeps_startConv, keeps_scanTake]) heq | have hk := keepsL_eq (l := l) (by simp +contextual (maxDischargeDepth := 40) only [hk, h, keeps_mk, keeps_fold, keepsO_next, keepsO_fault, keepsM_some, keepsM_none, keepsL_mk, keepsR_mk, keepsL_fold, keepsR_fold, keeps_ite, keepsO_ite, keepsM_ite, keepsL_ite, keepsR_ite, ite_self, implies_true, keeps_foldl, keepsL_foldl, keepsR_foldl, keeps_startConv, keeps_scanTake]) heq | have hk := keepsM_eq (l := l) (by simp +contextual (maxDischargeDepth := 40) only [hk, h, keeps_mk, keeps_fold, keepsO_next, keepsO_fault, keepsM_some, keepsM_none, keepsL_mk, keepsR_mk, keepsL_fold, keepsR_fold, keeps_ite, keepsO_ite, keepsM_ite, keepsL_ite, keepsR_ite, ite_self, implies_true, keeps_foldl, keepsL_foldl, keepsR_foldl, keeps_startConv, keeps_scanTake]) heq)) <;> (try simp +contextual (maxDischargeDepth := 40) only [hk, h, keeps_mk, keeps_fold, keepsO_next, keepsO_fault, keepsM_some, keepsM_none, keepsL_mk, keepsR_mk, keepsL_fold, keepsR_fold, keeps_ite, keepsO_ite, keepsM_ite, keepsL_ite, keepsR_ite, ite_self, implies_true, keeps_foldl, keepsL_foldl, keepsR_foldl, keeps_startConv, keeps_scanTake]))

theorem keeps_execMonitorDispatch {l} {s : State} (h : Keeps l s) : KeepsO l (execMonitorDispatch s) := by
  unfold execMonitorDispatch
  simp +contextual (maxDischargeDepth := 40) only [h, keepsO_next, keepsO_fault, keepsM_some, keepsM_none,
      keepsL_mk, keepsR_mk, keepsL_fold, keepsR_fold, keeps_ite, keepsO_ite, keepsM_ite, keepsL_ite, keepsR_ite,
      ite_self, implies_true, keeps_foldl, keepsL_foldl, keepsR_foldl, keeps_scanNext, keeps_serveConv]

theorem keeps_execConversionComplete {l} {s : State} (h : Keeps l s) (x0 x1 x2) : KeepsO l (execConversionComplete
    x0 x1 x2 s) := by
  unfold execConversionComplete
  all_goals repeat' (split <;> (try simp +contextual (maxDischargeDepth := 40) only [h, keepsO_next, keepsO_fault,
      keepsM_some, keepsM_none, keepsL_mk, keepsR_mk, keepsL_fold, keepsR_fold, keeps_ite, keepsO_ite, keepsM_ite,
      keepsL_ite, keepsR_ite, ite_self, implies_true, keeps_foldl, keepsL_foldl, keepsR_foldl, keeps_guard,
      keeps_at, keeps_putMon, keeps_pairConv, keeps_setConv]))

theorem keeps_setComp {l} {s : State} (h : Keeps l s) (x1 x2) : Keeps l (State.setComp s x1 x2) := h

theorem keeps_compStart {l} {s : State} (h : Keeps l s) (x1 x2) : Keeps l (State.compStart s x1 x2) := by
  unfold State.compStart
  simp +contextual (maxDischargeDepth := 40) only [h, keeps_mk, keeps_fold, keepsO_next, keepsO_fault, keepsM_some,
      keepsM_none, keepsL_mk, keepsR_mk, keepsL_fold, keepsR_fold, keeps_ite, keepsO_ite, keepsM_ite, keepsL_ite,
      keepsR_ite, ite_self, implies_true, keeps_foldl, keepsL_foldl, keepsR_foldl, keeps_setComp]

theorem keeps_execMonWindow {l} {s : State} (h : Keeps l s) (x0 x1) : KeepsO l (execMonWindow x0 x1 s) := by
  unfold execMonWindow
  simp +contextual (maxDischargeDepth := 40) only [h, keepsO_next, keepsO_fault, keepsM_some, keepsM_none,
      keepsL_mk, keepsR_mk, keepsL_fold, keepsR_fold, keeps_ite, keepsO_ite, keepsM_ite, keepsL_ite, keepsR_ite,
      ite_self, implies_true, keeps_foldl, keepsL_foldl, keepsR_foldl, keeps_guard, keeps_setComp, keeps_compStart,
      keeps_condition]

theorem keeps_execHoldoffEnd {l} {s : State} (h : Keeps l s) (x0 x1) : KeepsO l (execHoldoffEnd x0 x1 s) := by
  unfold execHoldoffEnd
  try simp +contextual (maxDischargeDepth := 40) only [h, keepsO_next, keepsO_fault, keepsM_some, keepsM_none,
      keepsL_mk, keepsR_mk, keepsL_fold, keepsR_fold, keeps_ite, keepsO_ite, keepsM_ite, keepsL_ite, keepsR_ite,
      ite_self, implies_true, keeps_foldl, keepsL_foldl, keepsR_foldl, keeps_guard, keeps_at, keeps_compStart,
      keeps_setComp]
  all_goals repeat' (split <;> (try simp +contextual (maxDischargeDepth := 40) only [h, keepsO_next, keepsO_fault,
      keepsM_some, keepsM_none, keepsL_mk, keepsR_mk, keepsL_fold, keepsR_fold, keeps_ite, keepsO_ite, keepsM_ite,
      keepsL_ite, keepsR_ite, ite_self, implies_true, keeps_foldl, keepsL_foldl, keepsR_foldl, keeps_guard,
      keeps_at, keeps_compStart, keeps_setComp]))

theorem keeps_execMonitorPathCal {l} {s : State} (h : Keeps l s) (x0 x1) : KeepsO l (execMonitorPathCal x0 x1 s) := by
  unfold execMonitorPathCal
  all_goals repeat' (split <;> (try simp +contextual (maxDischargeDepth := 40) only [h, keeps_mk, keeps_fold,
      keepsO_next, keepsO_fault, keepsM_some, keepsM_none, keepsL_mk, keepsR_mk, keepsL_fold, keepsR_fold,
      keeps_ite, keepsO_ite, keepsM_ite, keepsL_ite, keepsR_ite, ite_self, implies_true, keeps_foldl, keepsL_foldl,
      keepsR_foldl, keeps_guard, keeps_at]))

/-! ## Power -/

theorem keeps_abortAll {l} {s : State} (h : Keeps l s) (x1) : Keeps l (State.abortAll s x1) := by
  unfold State.abortAll
  simp +contextual (maxDischargeDepth := 40) only [h, keepsO_next, keepsO_fault, keepsM_some, keepsM_none,
      keepsL_mk, keepsR_mk, keepsL_fold, keepsR_fold, keeps_ite, keepsO_ite, keepsM_ite, keepsL_ite, keepsR_ite,
      ite_self, implies_true, keeps_foldl, keepsL_foldl, keepsR_foldl, keeps_abortStr]

theorem keeps_coilDark {l} {s : State} (h : Keeps l s) (x1) : Keeps l (State.coilDark s x1) := by
  unfold State.coilDark
  simp +contextual (maxDischargeDepth := 40) only [h, keepsO_next, keepsO_fault, keepsM_some, keepsM_none,
      keepsL_mk, keepsR_mk, keepsL_fold, keepsR_fold, keeps_ite, keepsO_ite, keepsM_ite, keepsL_ite, keepsR_ite,
      ite_self, implies_true, keeps_foldl, keepsL_foldl, keepsR_foldl, keeps_setCoil]

theorem keeps_haltBsk {l} {s : State} (h : Keeps l s) (x1) : Keeps l (State.haltBsk s x1) := by
  unfold State.haltBsk
  simp +contextual (maxDischargeDepth := 40) only [h, keepsO_next, keepsO_fault, keepsM_some, keepsM_none,
      keepsL_mk, keepsR_mk, keepsL_fold, keepsR_fold, keeps_ite, keepsO_ite, keepsM_ite, keepsL_ite, keepsR_ite,
      ite_self, implies_true, keeps_foldl, keepsL_foldl, keepsR_foldl, keeps_setBsk]

theorem keeps_stopClock {l} {s : State} (h : Keeps l s) (x1 x2) : Keeps l (State.stopClock s x1 x2) := by
  unfold State.stopClock
  simp +contextual (maxDischargeDepth := 40) only [h, keeps_mk, keeps_fold, keepsO_next, keepsO_fault, keepsM_some,
      keepsM_none, keepsL_mk, keepsR_mk, keepsL_fold, keepsR_fold, keeps_ite, keepsO_ite, keepsM_ite, keepsL_ite,
      keepsR_ite, ite_self, implies_true, keeps_foldl, keepsL_foldl, keepsR_foldl, keeps_abortAll,
      keeps_abandonSweep, keeps_haltBsk, keeps_coilDark, keeps_portDark]

theorem keeps_execClockLoss {l} {s : State} (h : Keeps l s) (x0) : KeepsO l (execClockLoss x0 s) := by
  unfold execClockLoss
  simp +contextual (maxDischargeDepth := 40) only [h, keeps_mk, keeps_fold, keepsO_next, keepsO_fault, keepsM_some,
      keepsM_none, keepsL_mk, keepsR_mk, keepsL_fold, keepsR_fold, keeps_ite, keepsO_ite, keepsM_ite, keepsL_ite,
      keepsR_ite, ite_self, implies_true, keeps_foldl, keepsL_foldl, keepsR_foldl, keeps_stopClock]

theorem keeps_execThermtrip {l} {s : State} (h : Keeps l s) (x0) : KeepsO l (execThermtrip x0 s) := by
  unfold execThermtrip
  simp +contextual (maxDischargeDepth := 40) only [h, keeps_mk, keeps_fold, keepsO_next, keepsO_fault, keepsM_some,
      keepsM_none, keepsL_mk, keepsR_mk, keepsL_fold, keepsR_fold, keeps_ite, keepsO_ite, keepsM_ite, keepsL_ite,
      keepsR_ite, ite_self, implies_true, keeps_foldl, keepsL_foldl, keepsR_foldl, keeps_guard, keeps_raise,
      keeps_stopClock]

theorem keeps_execHeaterHoldEnd {l} {s : State} (h : Keeps l s) : KeepsO l (execHeaterHoldEnd s) := by
  unfold execHeaterHoldEnd
  all_goals repeat' (split <;> (try simp +contextual (maxDischargeDepth := 40) only [h, keeps_mk, keeps_fold,
      keepsO_next, keepsO_fault, keepsM_some, keepsM_none, keepsL_mk, keepsR_mk, keepsL_fold, keepsR_fold,
      keeps_ite, keepsO_ite, keepsM_ite, keepsL_ite, keepsR_ite, ite_self, implies_true, keeps_foldl, keepsL_foldl,
      keepsR_foldl, keeps_at, keeps_setSlot]))

theorem keeps_statusReads {l} {s : State} (h : Keeps l s) : Keeps l (State.statusReads s) := by
  unfold State.statusReads
  simp +contextual (maxDischargeDepth := 40) only [h, keepsO_next, keepsO_fault, keepsM_some, keepsM_none,
      keepsL_mk, keepsR_mk, keepsL_fold, keepsR_fold, keeps_ite, keepsO_ite, keepsM_ite, keepsL_ite, keepsR_ite,
      ite_self, implies_true, keeps_foldl, keepsL_foldl, keepsR_foldl, keeps_send]

theorem keeps_inputLevel {l} {s : State} (h : Keeps l s) (x1 x2) : Keeps l (State.inputLevel s x1 x2) := by
  unfold State.inputLevel
  simp +contextual (maxDischargeDepth := 40) only [h, keepsO_next, keepsO_fault, keepsM_some, keepsM_none,
      keepsL_mk, keepsR_mk, keepsL_fold, keepsR_fold, keeps_ite, keepsO_ite, keepsM_ite, keepsL_ite, keepsR_ite,
      ite_self, implies_true, keeps_foldl, keepsL_foldl, keepsR_foldl, keeps_setInp, keeps_fire, keeps_statusReads]

theorem keeps_settleInput {l} {s : State} (h : Keeps l s) (x1) : Keeps l (State.settleInput s x1) := by
  unfold State.settleInput
  all_goals repeat' (split <;> (try simp +contextual (maxDischargeDepth := 40) only [h, keepsO_next, keepsO_fault,
      keepsM_some, keepsM_none, keepsL_mk, keepsR_mk, keepsL_fold, keepsR_fold, keeps_ite, keepsO_ite, keepsM_ite,
      keepsL_ite, keepsR_ite, ite_self, implies_true, keeps_foldl, keepsL_foldl, keepsR_foldl, keeps_inputLevel,
      keeps_setInp]))

theorem keeps_settleInputs {l} {s : State} (h : Keeps l s) : Keeps l (State.settleInputs s) := by
  unfold State.settleInputs
  simp +contextual (maxDischargeDepth := 40) only [h, keepsO_next, keepsO_fault, keepsM_some, keepsM_none,
      keepsL_mk, keepsR_mk, keepsL_fold, keepsR_fold, keeps_ite, keepsO_ite, keepsM_ite, keepsL_ite, keepsR_ite,
      ite_self, implies_true, keeps_foldl, keepsL_foldl, keepsR_foldl, keeps_settleInput]

theorem keeps_idleTick {l} {s : State} (h : Keeps l s) : Keeps l (State.idleTick s) := by
  unfold State.idleTick
  simp +contextual (maxDischargeDepth := 40) only [h, keeps_mk, keeps_fold, keepsO_next, keepsO_fault, keepsM_some,
      keepsM_none, keepsL_mk, keepsR_mk, keepsL_fold, keepsR_fold, keeps_ite, keepsO_ite, keepsM_ite, keepsL_ite,
      keepsR_ite, ite_self, implies_true, keeps_foldl, keepsL_foldl, keepsR_foldl, keeps_settleInputs]

theorem keeps_inputEdge {l} {s : State} (h : Keeps l s) (x1 x2) : Keeps l (State.inputEdge s x1 x2) := by
  unfold State.inputEdge
  try simp +contextual (maxDischargeDepth := 40) only [h, keeps_mk, keeps_fold, keepsO_next, keepsO_fault,
      keepsM_some, keepsM_none, keepsL_mk, keepsR_mk, keepsL_fold, keepsR_fold, keeps_ite, keepsO_ite, keepsM_ite,
      keepsL_ite, keepsR_ite, ite_self, implies_true, keeps_foldl, keepsL_foldl, keepsR_foldl, keeps_settleInput,
      keeps_setInp, keeps_raise, keeps_inputLevel]
  all_goals repeat' (split <;> (try simp +contextual (maxDischargeDepth := 40) only [h, keeps_mk, keeps_fold,
      keepsO_next, keepsO_fault, keepsM_some, keepsM_none, keepsL_mk, keepsR_mk, keepsL_fold, keepsR_fold,
      keeps_ite, keepsO_ite, keepsM_ite, keepsL_ite, keepsR_ite, ite_self, implies_true, keeps_foldl, keepsL_foldl,
      keepsR_foldl, keeps_settleInput, keeps_setInp, keeps_raise, keeps_inputLevel]))

theorem keeps_execSyncIn {l} {s : State} (h : Keeps l s) (x0) : KeepsO l (execSyncIn x0 s) := by
  unfold execSyncIn
  simp +contextual (maxDischargeDepth := 40) only [h, keepsO_next, keepsO_fault, keepsM_some, keepsM_none,
      keepsL_mk, keepsR_mk, keepsL_fold, keepsR_fold, keeps_ite, keepsO_ite, keepsM_ite, keepsL_ite, keepsR_ite,
      ite_self, implies_true, keeps_foldl, keepsL_foldl, keepsR_foldl, keeps_inputEdge]

theorem keeps_execBoardAlert {l} {s : State} (h : Keeps l s) (x0) : KeepsO l (execBoardAlert x0 s) := by
  unfold execBoardAlert
  simp +contextual (maxDischargeDepth := 40) only [h, keepsO_next, keepsO_fault, keepsM_some, keepsM_none,
      keepsL_mk, keepsR_mk, keepsL_fold, keepsR_fold, keeps_ite, keepsO_ite, keepsM_ite, keepsL_ite, keepsR_ite,
      ite_self, implies_true, keeps_foldl, keepsL_foldl, keepsR_foldl, keeps_inputEdge]

theorem keeps_execHotIn {l} {s : State} (h : Keeps l s) (x0) : KeepsO l (execHotIn x0 s) := by
  unfold execHotIn
  simp +contextual (maxDischargeDepth := 40) only [h, keepsO_next, keepsO_fault, keepsM_some, keepsM_none,
      keepsL_mk, keepsR_mk, keepsL_fold, keepsR_fold, keeps_ite, keepsO_ite, keepsM_ite, keepsL_ite, keepsR_ite,
      ite_self, implies_true, keeps_foldl, keepsL_foldl, keepsR_foldl, keeps_inputEdge]

theorem keeps_execInputStuck {l} {s : State} (h : Keeps l s) (x0) : KeepsO l (execInputStuck x0 s) := by
  unfold execInputStuck
  simp +contextual (maxDischargeDepth := 40) only [h, keeps_mk, keeps_fold, keepsO_next, keepsO_fault, keepsM_some,
      keepsM_none, keepsL_mk, keepsR_mk, keepsL_fold, keepsR_fold, keeps_ite, keepsO_ite, keepsM_ite, keepsL_ite,
      keepsR_ite, ite_self, implies_true, keeps_foldl, keepsL_foldl, keepsR_foldl, keeps_guard, keeps_at,
      keeps_setInp, keeps_raise]

theorem keeps_execInputRearm {l} {s : State} (h : Keeps l s) (x0) : KeepsO l (execInputRearm x0 s) := by
  unfold execInputRearm
  simp +contextual (maxDischargeDepth := 40) only [h, keeps_mk, keeps_fold, keepsO_next, keepsO_fault, keepsM_some,
      keepsM_none, keepsL_mk, keepsR_mk, keepsL_fold, keepsR_fold, keeps_ite, keepsO_ite, keepsM_ite, keepsL_ite,
      keepsR_ite, ite_self, implies_true, keeps_foldl, keepsL_foldl, keepsR_foldl, keeps_guard, keeps_at,
      keeps_setInp, keeps_raise]

theorem keeps_bridgeOff {l} {s : State} (h : Keeps l s) (x1) : Keeps l (State.bridgeOff s x1) := by
  unfold State.bridgeOff
  simp +contextual (maxDischargeDepth := 40) only [h, keepsO_next, keepsO_fault, keepsM_some, keepsM_none,
      keepsL_mk, keepsR_mk, keepsL_fold, keepsR_fold, keeps_ite, keepsO_ite, keepsM_ite, keepsL_ite, keepsR_ite,
      ite_self, implies_true, keeps_foldl, keepsL_foldl, keepsR_foldl, keeps_setCoil, keeps_setSlot]

theorem keeps_execOutContention {l} {s : State} (h : Keeps l s) (x0 x1) : KeepsO l (execOutContention x0 x1 s) := by
  unfold execOutContention
  all_goals repeat' (split <;> (try simp +contextual (maxDischargeDepth := 40) only [h, keeps_mk, keeps_fold,
      keepsO_next, keepsO_fault, keepsM_some, keepsM_none, keepsL_mk, keepsR_mk, keepsL_fold, keepsR_fold,
      keeps_ite, keepsO_ite, keepsM_ite, keepsL_ite, keepsR_ite, ite_self, implies_true, keeps_foldl, keepsL_foldl,
      keepsR_foldl, keeps_bridgeOff, keeps_raise]))

theorem keeps_reenable {l} {s : State} (h : Keeps l s) (x1) : Keeps l (State.reenable s x1) := h

theorem keeps_execOutputReenable {l} {s : State} (h : Keeps l s) (x0) : KeepsO l (execOutputReenable x0 s) := by
  unfold execOutputReenable
  simp +contextual (maxDischargeDepth := 40) only [h, keepsO_next, keepsO_fault, keepsM_some, keepsM_none,
      keepsL_mk, keepsR_mk, keepsL_fold, keepsR_fold, keeps_ite, keepsO_ite, keepsM_ite, keepsL_ite, keepsR_ite,
      ite_self, implies_true, keeps_foldl, keepsL_foldl, keepsR_foldl, keeps_reenable]

theorem keeps_execContentionCleared {l} {s : State} (h : Keeps l s) (x0) : KeepsO l (execContentionCleared x0 s) := by
  unfold execContentionCleared
  all_goals repeat' (split <;> (try simp +contextual (maxDischargeDepth := 40) only [h, keepsO_next, keepsO_fault,
      keepsM_some, keepsM_none, keepsL_mk, keepsR_mk, keepsL_fold, keepsR_fold, keeps_ite, keepsO_ite, keepsM_ite,
      keepsL_ite, keepsR_ite, ite_self, implies_true, keeps_foldl, keepsL_foldl, keepsR_foldl, keeps_releaseCoil,
      keeps_setCoil]))

theorem keeps_railRead {l} {s : State} (h : Keeps l s) (x1) : Keeps l (State.railRead s x1) := by
  unfold State.railRead
  all_goals repeat' (split <;> (try simp +contextual (maxDischargeDepth := 40) only [h, keeps_mk, keeps_fold,
      keepsO_next, keepsO_fault, keepsM_some, keepsM_none, keepsL_mk, keepsR_mk, keepsL_fold, keepsR_fold,
      keeps_ite, keepsO_ite, keepsM_ite, keepsL_ite, keepsR_ite, ite_self, implies_true, keeps_foldl, keepsL_foldl,
      keepsR_foldl]))

theorem keeps_execPmbusPoll {l} {s : State} (h : Keeps l s) (x0) : KeepsO l (execPmbusPoll x0 s) := by
  unfold execPmbusPoll
  simp +contextual (maxDischargeDepth := 40) only [h, keeps_mk, keeps_fold, keepsO_next, keepsO_fault, keepsM_some,
      keepsM_none, keepsL_mk, keepsR_mk, keepsL_fold, keepsR_fold, keeps_ite, keepsO_ite, keepsM_ite, keepsL_ite,
      keepsR_ite, ite_self, implies_true, keeps_foldl, keepsL_foldl, keepsR_foldl, keeps_guard, keeps_railRead]

/-! ## Resets -/

theorem keeps_warmBsk {l} {s : State} (h : Keeps l s) (x1) : Keeps l (State.warmBsk s x1) := by
  unfold State.warmBsk
  simp +contextual (maxDischargeDepth := 40) only [h, keepsO_next, keepsO_fault, keepsM_some, keepsM_none,
      keepsL_mk, keepsR_mk, keepsL_fold, keepsR_fold, keeps_ite, keepsO_ite, keepsM_ite, keepsL_ite, keepsR_ite,
      ite_self, implies_true, keeps_foldl, keepsL_foldl, keepsR_foldl, keeps_resetBsk, keeps_setBsk]

theorem keeps_warmReset {l} {s : State} (h : Keeps l s) : Keeps l (State.warmReset s) := by
  unfold State.warmReset
  split
  · exact h
  · extract_lets s1 s2 s3 s4
    have hk : Keeps l s3 := keeps_foldl l State.warmBsk _ _ (keeps_abandonSweep (keeps_abortAll h _)) fun s x hs => keeps_warmBsk hs x
    clear_value s3
    exact keeps_bootRec (s := s4) ⟨hk.1, hk.2.1, hk.2.2.1, tokOk_nil, tokOk_nil⟩ _

theorem keeps_execWarmReset {l} {s : State} (h : Keeps l s) : KeepsO l (execWarmReset s) := by
  unfold execWarmReset
  simp +contextual (maxDischargeDepth := 40) only [h, keepsO_next, keepsO_fault, keepsM_some, keepsM_none,
      keepsL_mk, keepsR_mk, keepsL_fold, keepsR_fold, keeps_ite, keepsO_ite, keepsM_ite, keepsL_ite, keepsR_ite,
      ite_self, implies_true, keeps_foldl, keepsL_foldl, keepsR_foldl, keeps_warmReset]

theorem keeps_execPerstAssert {l} {s : State} (h : Keeps l s) : KeepsO l (execPerstAssert s) := by
  unfold execPerstAssert
  simp +contextual (maxDischargeDepth := 40) only [h, keeps_mk, keeps_fold, keepsO_next, keepsO_fault, keepsM_some,
      keepsM_none, keepsL_mk, keepsR_mk, keepsL_fold, keepsR_fold, keeps_ite, keepsO_ite, keepsM_ite, keepsL_ite,
      keepsR_ite, ite_self, implies_true, keeps_foldl, keepsL_foldl, keepsR_foldl, keeps_warmReset]

theorem keeps_execPerstRelease {l} {s : State} (h : Keeps l s) : KeepsO l (execPerstRelease s) := by
  unfold execPerstRelease
  simp +contextual (maxDischargeDepth := 40) only [h, keeps_mk, keeps_fold, keepsO_next, keepsO_fault, keepsM_some,
      keepsM_none, keepsL_mk, keepsR_mk, keepsL_fold, keepsR_fold, keeps_ite, keepsO_ite, keepsM_ite, keepsL_ite,
      keepsR_ite, ite_self, implies_true, keeps_foldl, keepsL_foldl, keepsR_foldl, keeps_at]

theorem keeps_fromRecord {l} {s : State} (h : Keeps l s) (x1) : Keeps l (State.fromRecord s x1) := by
  unfold State.fromRecord
  all_goals repeat' (split <;> (try simp +contextual (maxDischargeDepth := 40) only [h, keepsO_next, keepsO_fault,
      keepsM_some, keepsM_none, keepsL_mk, keepsR_mk, keepsL_fold, keepsR_fold, keeps_ite, keepsO_ite, keepsM_ite,
      keepsL_ite, keepsR_ite, ite_self, implies_true, keeps_foldl, keepsL_foldl, keepsR_foldl, keeps_setPan,
      keeps_setBsk, keeps_raise, keeps_setPort]))

theorem keeps_bare {l} {s : State} (h : Keeps l s) (x1 x2) : Keeps l (State.bare s x1 x2) := by
  unfold State.bare
  rw [keeps_mk]
  exact ⟨h.1, rfl, h.2.2.1, tokOk_nil, tokOk_nil⟩

theorem keeps_coldReset {l} {s : State} (h : Keeps l s) (x1 x2) : Keeps l (State.coldReset s x1 x2) := by
  unfold State.coldReset
  simp +contextual (maxDischargeDepth := 40) only [h, keeps_mk, keeps_fold, keepsO_next, keepsO_fault, keepsM_some,
      keepsM_none, keepsL_mk, keepsR_mk, keepsL_fold, keepsR_fold, keeps_ite, keepsO_ite, keepsM_ite, keepsL_ite,
      keepsR_ite, ite_self, implies_true, keeps_foldl, keepsL_foldl, keepsR_foldl, keeps_bare, keeps_setPan,
      keeps_setBsk, keeps_fromRecord, keeps_layPans, keeps_bootRec]

theorem keeps_execColdReset {l} {s : State} (h : Keeps l s) (x0 x1) : KeepsO l (execColdReset x0 x1 s) := by
  unfold execColdReset
  simp +contextual (maxDischargeDepth := 40) only [h, keepsO_next, keepsO_fault, keepsM_some, keepsM_none,
      keepsL_mk, keepsR_mk, keepsL_fold, keepsR_fold, keeps_ite, keepsO_ite, keepsM_ite, keepsL_ite, keepsR_ite,
      ite_self, implies_true, keeps_foldl, keepsL_foldl, keepsR_foldl, keeps_coldReset]

theorem keeps_execVauxApply {l} {s : State} (h : Keeps l s) (x0) : KeepsO l (execVauxApply x0 s) := by
  unfold execVauxApply
  simp +contextual (maxDischargeDepth := 40) only [h, keeps_mk, keeps_fold, keepsO_next, keepsO_fault, keepsM_some,
      keepsM_none, keepsL_mk, keepsR_mk, keepsL_fold, keepsR_fold, keeps_ite, keepsO_ite, keepsM_ite, keepsL_ite,
      keepsR_ite, ite_self, implies_true, keeps_foldl, keepsL_foldl, keepsR_foldl, keeps_guard, keeps_bare,
      keeps_raise]

theorem keeps_execVauxPowerFail {l} {s : State} (h : Keeps l s) : KeepsO l (execVauxPowerFail s) := by
  unfold execVauxPowerFail
  simp +contextual (maxDischargeDepth := 40) only [h, keeps_mk, keeps_fold, keepsO_next, keepsO_fault, keepsM_some,
      keepsM_none, keepsL_mk, keepsR_mk, keepsL_fold, keepsR_fold, keeps_ite, keepsO_ite, keepsM_ite, keepsL_ite,
      keepsR_ite, ite_self, implies_true, keeps_foldl, keepsL_foldl, keepsR_foldl, keeps_bare]

/-! ## Register writes -/

theorem keeps_accRefuse {l} {s : State} (h : Keeps l s) (x1 x2 x3) : Keeps l (State.accRefuse s x1 x2 x3) := h

theorem keeps_accClear {l} {s : State} (h : Keeps l s) : Keeps l (State.accClear s) := h

theorem keeps_execAccErrClear {l} {s : State} (h : Keeps l s) : KeepsO l (execAccErrClear s) := by
  unfold execAccErrClear
  simp +contextual (maxDischargeDepth := 40) only [h, keepsO_next, keepsO_fault, keepsM_some, keepsM_none,
      keepsL_mk, keepsR_mk, keepsL_fold, keepsR_fold, keeps_ite, keepsO_ite, keepsM_ite, keepsL_ite, keepsR_ite,
      ite_self, implies_true, keeps_foldl, keepsL_foldl, keepsR_foldl, keeps_accClear]

theorem keeps_unlatch {l} {s : State} (h : Keeps l s) (x1 x2) : Keeps l (State.unlatch s x1 x2) := h

theorem keeps_readReturn {l} {s : State} (h : Keeps l s) (x1 x2) : Keeps l (State.readReturn s x1 x2) := h

theorem keeps_execRefusedAccess {l} {s : State} (h : Keeps l s) (x0 x1 x2 x3) : KeepsO l (execRefusedAccess x0 x1
    x2 x3 s) := by
  unfold execRefusedAccess
  all_goals repeat' (split <;> (try simp +contextual (maxDischargeDepth := 40) only [h, keepsO_next, keepsO_fault,
      keepsM_some, keepsM_none, keepsL_mk, keepsR_mk, keepsL_fold, keepsR_fold, keeps_ite, keepsO_ite, keepsM_ite,
      keepsL_ite, keepsR_ite, ite_self, implies_true, keeps_foldl, keepsL_foldl, keepsR_foldl, keeps_guard,
      keeps_accRefuse, keeps_unlatch, keeps_readReturn]))

theorem keeps_execLatchedLowerRead {l} {s : State} (h : Keeps l s) (x0 x1) : KeepsO l (execLatchedLowerRead x0 x1
    s) := by
  unfold execLatchedLowerRead
  simp +contextual (maxDischargeDepth := 40) only [h, keeps_mk, keeps_fold, keepsO_next, keepsO_fault, keepsM_some,
      keepsM_none, keepsL_mk, keepsR_mk, keepsL_fold, keepsR_fold, keeps_ite, keepsO_ite, keepsM_ite, keepsL_ite,
      keepsR_ite, ite_self, implies_true, keeps_foldl, keepsL_foldl, keepsR_foldl, keeps_guard, keeps_unlatch,
      keeps_readReturn]

theorem keeps_gctlWrite {l} {s : State} (h : Keeps l s) (x1 x2) : Keeps l (State.gctlWrite s x1 x2) := by
  unfold State.gctlWrite
  all_goals repeat' (split <;> (try simp +contextual (maxDischargeDepth := 40) only [h, keeps_mk, keeps_fold,
      keepsO_next, keepsO_fault, keepsM_some, keepsM_none, keepsL_mk, keepsR_mk, keepsL_fold, keepsR_fold,
      keeps_ite, keepsO_ite, keepsM_ite, keepsL_ite, keepsR_ite, ite_self, implies_true, keeps_foldl, keepsL_foldl,
      keepsR_foldl, keeps_warmReset, keeps_scaleClass, keeps_accClear, keeps_strmReg]))

theorem keeps_stuckClear {l} {s : State} (h : Keeps l s) (x1) : Keeps l (State.stuckClear s x1) := by
  unfold State.stuckClear
  simp +contextual (maxDischargeDepth := 40) only [h, keepsO_next, keepsO_fault, keepsM_some, keepsM_none,
      keepsL_mk, keepsR_mk, keepsL_fold, keepsR_fold, keeps_ite, keepsO_ite, keepsM_ite, keepsL_ite, keepsR_ite,
      ite_self, implies_true, keeps_foldl, keepsL_foldl, keepsR_foldl, keeps_setInp]

theorem keeps_clkWrite {l} {s : State} (h : Keeps l s) (x1 x2) : Keeps l (State.clkWrite s x1 x2) := by
  unfold State.clkWrite
  all_goals repeat' (split <;> (try simp +contextual (maxDischargeDepth := 40) only [h, keeps_mk, keeps_fold,
      keepsO_next, keepsO_fault, keepsM_some, keepsM_none, keepsL_mk, keepsR_mk, keepsL_fold, keepsR_fold,
      keeps_ite, keepsO_ite, keepsM_ite, keepsL_ite, keepsR_ite, ite_self, implies_true, keeps_foldl, keepsL_foldl,
      keepsR_foldl, keeps_stuckClear, keeps_reenable]))

theorem keeps_feuSet {l} {s : State} (h : Keeps l s) (x1) : Keeps l (State.feuSet s x1) := h

theorem keeps_feuWrite {l} {s : State} (h : Keeps l s) (x1 x2) : Keeps l (State.feuWrite s x1 x2) := by
  unfold State.feuWrite
  all_goals repeat' (split <;> (try simp +contextual (maxDischargeDepth := 40) only [h, keepsO_next, keepsO_fault,
      keepsM_some, keepsM_none, keepsL_mk, keepsR_mk, keepsL_fold, keepsR_fold, keeps_ite, keepsO_ite, keepsM_ite,
      keepsL_ite, keepsR_ite, ite_self, implies_true, keeps_foldl, keepsL_foldl, keepsR_foldl, keeps_pendClear,
      keeps_feuClear, keeps_ringReset, keeps_feuSet, keeps_testReq]))

theorem keeps_slotRwl {l} {s : State} (h : Keeps l s) (x1 x2) : Keeps l (State.slotRwl s x1 x2) := by
  unfold State.slotRwl
  simp +contextual (maxDischargeDepth := 40) only [h, keepsO_next, keepsO_fault, keepsM_some, keepsM_none,
      keepsL_mk, keepsR_mk, keepsL_fold, keepsR_fold, keeps_ite, keepsO_ite, keepsM_ite, keepsL_ite, keepsR_ite,
      ite_self, implies_true, keeps_foldl, keepsL_foldl, keepsR_foldl, keeps_setSlot]

theorem keeps_slotWrite {l} {s : State} (h : Keeps l s) (x1 x2 x3) : Keeps l (State.slotWrite s x1 x2 x3) := by
  unfold State.slotWrite
  all_goals repeat' (split <;> (try simp +contextual (maxDischargeDepth := 40) only [h, keepsO_next, keepsO_fault,
      keepsM_some, keepsM_none, keepsL_mk, keepsR_mk, keepsL_fold, keepsR_fold, keeps_ite, keepsO_ite, keepsM_ite,
      keepsL_ite, keepsR_ite, ite_self, implies_true, keeps_foldl, keepsL_foldl, keepsR_foldl, keeps_setSlot,
      keeps_slotRwl, keeps_spWrite]))

theorem keeps_tecCfgWrite {l} {s : State} (h : Keeps l s) (x1 x2) : Keeps l (State.tecCfgWrite s x1 x2) := by
  unfold State.tecCfgWrite
  simp +contextual (maxDischargeDepth := 40) only [h, keepsO_next, keepsO_fault, keepsM_some, keepsM_none,
      keepsL_mk, keepsR_mk, keepsL_fold, keepsR_fold, keeps_ite, keepsO_ite, keepsM_ite, keepsL_ite, keepsR_ite,
      ite_self, implies_true, keeps_foldl, keepsL_foldl, keepsR_foldl, keeps_setCoil, keeps_setSlot]

theorem keeps_tecOvrWrite {l} {s : State} (h : Keeps l s) (x1 x2) : Keeps l (State.tecOvrWrite s x1 x2) := by
  unfold State.tecOvrWrite
  all_goals repeat' (split <;> (try simp +contextual (maxDischargeDepth := 40) only [h, keepsO_next, keepsO_fault,
      keepsM_some, keepsM_none, keepsL_mk, keepsR_mk, keepsL_fold, keepsR_fold, keeps_ite, keepsO_ite, keepsM_ite,
      keepsL_ite, keepsR_ite, ite_self, implies_true, keeps_foldl, keepsL_foldl, keepsR_foldl, keeps_setCoil,
      keeps_crossCond]))

theorem keeps_coilWinWrite {l} {s : State} (h : Keeps l s) (x1 x2) : Keeps l (State.coilWinWrite s x1 x2) := by
  unfold State.coilWinWrite
  simp +contextual (maxDischargeDepth := 40) only [h, keepsO_next, keepsO_fault, keepsM_some, keepsM_none,
      keepsL_mk, keepsR_mk, keepsL_fold, keepsR_fold, keeps_ite, keepsO_ite, keepsM_ite, keepsL_ite, keepsR_ite,
      ite_self, implies_true, keeps_foldl, keepsL_foldl, keepsR_foldl, keeps_setCoil]

theorem keeps_engSet {l} {s : State} (h : Keeps l s) (x1) : Keeps l (State.engSet s x1) := by
  unfold State.engSet
  simp +contextual (maxDischargeDepth := 40) only [h, keepsO_next, keepsO_fault, keepsM_some, keepsM_none,
      keepsL_mk, keepsR_mk, keepsL_fold, keepsR_fold, keeps_ite, keepsO_ite, keepsM_ite, keepsL_ite, keepsR_ite,
      ite_self, implies_true, keeps_foldl, keepsL_foldl, keepsR_foldl, keeps_setEng]

theorem keeps_ketWrite {l} {s : State} (h : Keeps l s) (x1 x2) : Keeps l (State.ketWrite s x1 x2) := by
  unfold State.ketWrite
  all_goals repeat' (split <;> (try simp +contextual (maxDischargeDepth := 40) only [h, keeps_mk, keeps_fold,
      keepsO_next, keepsO_fault, keepsM_some, keepsM_none, keepsL_mk, keepsR_mk, keepsL_fold, keepsR_fold,
      keeps_ite, keepsO_ite, keepsM_ite, keepsL_ite, keepsR_ite, ite_self, implies_true, keeps_foldl, keepsL_foldl,
      keepsR_foldl, keeps_slotWrite, keeps_slotRwl, keeps_tecCfgWrite, keeps_tecOvrWrite, keeps_coilWinWrite,
      keeps_xcondClear, keeps_ketClear, keeps_injStart, keeps_injStop, keeps_engSet, keeps_capArm]))

theorem keeps_calSet {l} {s : State} (h : Keeps l s) (x1) : Keeps l (State.calSet s x1) := h

theorem keeps_calCfgWrite {l} {s : State} (h : Keeps l s) (x1) : Keeps l (State.calCfgWrite s x1) := by
  unfold State.calCfgWrite
  simp +contextual (maxDischargeDepth := 40) only [h, keepsO_next, keepsO_fault, keepsM_some, keepsM_none,
      keepsL_mk, keepsR_mk, keepsL_fold, keepsR_fold, keeps_ite, keepsO_ite, keepsM_ite, keepsL_ite, keepsR_ite,
      ite_self, implies_true, keeps_foldl, keepsL_foldl, keepsR_foldl, keeps_calSet, keeps_calCfgTake]

theorem keeps_calWrite {l} {s : State} (h : Keeps l s) (x1 x2) : Keeps l (State.calWrite s x1 x2) := by
  unfold State.calWrite
  all_goals repeat' (split <;> (try simp +contextual (maxDischargeDepth := 40) only [h, keepsO_next, keepsO_fault,
      keepsM_some, keepsM_none, keepsL_mk, keepsR_mk, keepsL_fold, keepsR_fold, keeps_ite, keepsO_ite, keepsM_ite,
      keepsL_ite, keepsR_ite, ite_self, implies_true, keeps_foldl, keepsL_foldl, keepsR_foldl, keeps_calClear,
      keeps_abandonSweep, keeps_calCfgWrite, keeps_calSet, keeps_calReq]))

theorem keeps_bskRwl {l} {s : State} (h : Keeps l s) (x1 x2 x3) : Keeps l (State.bskRwl s x1 x2 x3) := by
  unfold State.bskRwl
  simp +contextual (maxDischargeDepth := 40) only [h, keepsO_next, keepsO_fault, keepsM_some, keepsM_none,
      keepsL_mk, keepsR_mk, keepsL_fold, keepsR_fold, keeps_ite, keepsO_ite, keepsM_ite, keepsL_ite, keepsR_ite,
      ite_self, implies_true, keeps_foldl, keepsL_foldl, keepsR_foldl, keeps_setBsk]

theorem keeps_bskSet {l} {s : State} (h : Keeps l s) (x1 x2) : Keeps l (State.bskSet s x1 x2) := by
  unfold State.bskSet
  simp +contextual (maxDischargeDepth := 40) only [h, keepsO_next, keepsO_fault, keepsM_some, keepsM_none,
      keepsL_mk, keepsR_mk, keepsL_fold, keepsR_fold, keeps_ite, keepsO_ite, keepsM_ite, keepsL_ite, keepsR_ite,
      ite_self, implies_true, keeps_foldl, keepsL_foldl, keepsR_foldl, keeps_setBsk]

theorem keeps_bskWrite {l} {s : State} (h : Keeps l s) (x1 x2 x3) : Keeps l (State.bskWrite s x1 x2 x3) := by
  unfold State.bskWrite
  all_goals repeat' (split <;> (try simp +contextual (maxDischargeDepth := 40) only [h, keepsO_next, keepsO_fault,
      keepsM_some, keepsM_none, keepsL_mk, keepsR_mk, keepsL_fold, keepsR_fold, keeps_ite, keepsO_ite, keepsM_ite,
      keepsL_ite, keepsR_ite, ite_self, implies_true, keeps_foldl, keepsL_foldl, keepsR_foldl, keeps_bskCtl,
      keeps_bskRwl, keeps_bskSet, keeps_sig, keeps_seqClear, keeps_wskClear, keeps_rdoClear]))

theorem keeps_panRwl {l} {s : State} (h : Keeps l s) (x1 x2) : Keeps l (State.panRwl s x1 x2) := by
  unfold State.panRwl
  simp +contextual (maxDischargeDepth := 40) only [h, keepsO_next, keepsO_fault, keepsM_some, keepsM_none,
      keepsL_mk, keepsR_mk, keepsL_fold, keepsR_fold, keeps_ite, keepsO_ite, keepsM_ite, keepsL_ite, keepsR_ite,
      ite_self, implies_true, keeps_foldl, keepsL_foldl, keepsR_foldl, keeps_setPan, keeps_setBsk]

theorem keeps_panWrite {l} {s : State} (h : Keeps l s) (x1 x2 x3) : Keeps l (State.panWrite s x1 x2 x3) := by
  unfold State.panWrite
  all_goals repeat' (split <;> (try simp +contextual (maxDischargeDepth := 40) only [h, keepsO_next, keepsO_fault,
      keepsM_some, keepsM_none, keepsL_mk, keepsR_mk, keepsL_fold, keepsR_fold, keeps_ite, keepsO_ite, keepsM_ite,
      keepsL_ite, keepsR_ite, ite_self, implies_true, keeps_foldl, keepsL_foldl, keepsR_foldl, keeps_panClear,
      keeps_panRwl, keeps_bskRwl, keeps_setPan]))

theorem keeps_portCtl {l} {s : State} (h : Keeps l s) (x1 x2) : Keeps l (State.portCtl s x1 x2) := by
  unfold State.portCtl
  simp +contextual (maxDischargeDepth := 40) only [h, keepsO_next, keepsO_fault, keepsM_some, keepsM_none,
      keepsL_mk, keepsR_mk, keepsL_fold, keepsR_fold, keeps_ite, keepsO_ite, keepsM_ite, keepsL_ite, keepsR_ite,
      ite_self, implies_true, keeps_foldl, keepsL_foldl, keepsR_foldl, keeps_portOn, keeps_portOff,
      keeps_portDrain, keeps_portBack, keeps_portRetrain]

theorem keeps_portWrite {l} {s : State} (h : Keeps l s) (x1 x2 x3) : Keeps l (State.portWrite s x1 x2 x3) := by
  unfold State.portWrite
  all_goals repeat' (split <;> (try simp +contextual (maxDischargeDepth := 40) only [h, keepsO_next, keepsO_fault,
      keepsM_some, keepsM_none, keepsL_mk, keepsR_mk, keepsL_fold, keepsR_fold, keeps_ite, keepsO_ite, keepsM_ite,
      keepsL_ite, keepsR_ite, ite_self, implies_true, keeps_foldl, keepsL_foldl, keepsR_foldl, keeps_portCtl,
      keeps_setPort]))

theorem keeps_dzfCtl {l} {s : State} (h : Keeps l s) (x1) : Keeps l (State.dzfCtl s x1) := by
  unfold State.dzfCtl
  simp +contextual (maxDischargeDepth := 40) only [h, keepsO_next, keepsO_fault, keepsM_some, keepsM_none,
      keepsL_mk, keepsR_mk, keepsL_fold, keepsR_fold, keeps_ite, keepsO_ite, keepsM_ite, keepsL_ite, keepsR_ite,
      ite_self, implies_true, keeps_foldl, keepsL_foldl, keepsR_foldl, keeps_dzfClear, keeps_cfgCommit,
      keeps_cfgAdvance, keeps_cfgClose]

theorem keeps_idmapCtl {l} {s : State} (h : Keeps l s) (x1) : Keeps l (State.idmapCtl s x1) := by
  unfold State.idmapCtl
  simp +contextual (maxDischargeDepth := 40) only [h, keeps_mk, keeps_fold, keepsO_next, keepsO_fault, keepsM_some,
      keepsM_none, keepsL_mk, keepsR_mk, keepsL_fold, keepsR_fold, keeps_ite, keepsO_ite, keepsM_ite, keepsL_ite,
      keepsR_ite, ite_self, implies_true, keeps_foldl, keepsL_foldl, keepsR_foldl, keeps_idmapWr, keeps_idmapDel]

theorem keeps_dzfSet {l} {s : State} (h : Keeps l s) (x1) : Keeps l (State.dzfSet s x1) := h

theorem keeps_dzfWrite {l} {s : State} (h : Keeps l s) (x1 x2) : Keeps l (State.dzfWrite s x1 x2) := by
  unfold State.dzfWrite
  all_goals repeat' (split <;> (try simp +contextual (maxDischargeDepth := 40) only [h, keepsO_next, keepsO_fault,
      keepsM_some, keepsM_none, keepsL_mk, keepsR_mk, keepsL_fold, keepsR_fold, keeps_ite, keepsO_ite, keepsM_ite,
      keepsL_ite, keepsR_ite, ite_self, implies_true, keeps_foldl, keepsL_foldl, keepsR_foldl, keeps_portWrite,
      keeps_dzfSet, keeps_setPort, keeps_dzfCtl, keeps_idmapCtl, keeps_plaitApply]))

theorem keeps_qCfgWrite {l} {s : State} (h : Keeps l s) (x1 x2 x3) : Keeps l (State.qCfgWrite s x1 x2 x3) := by
  unfold State.qCfgWrite
  simp +contextual (maxDischargeDepth := 40) only [h, keepsO_next, keepsO_fault, keepsM_some, keepsM_none,
      keepsL_mk, keepsR_mk, keepsL_fold, keepsR_fold, keeps_ite, keepsO_ite, keepsM_ite, keepsL_ite, keepsR_ite,
      ite_self, implies_true, keeps_foldl, keepsL_foldl, keepsR_foldl, keeps_setQue, keeps_queOn, keeps_queOff]

theorem keeps_queWrite {l} {s : State} (h : Keeps l s) (x1 x2 x3 x4) : Keeps l (State.queWrite s x1 x2 x3 x4) := by
  unfold State.queWrite
  all_goals repeat' (split <;> (try simp +contextual (maxDischargeDepth := 40) only [h, keepsO_next, keepsO_fault,
      keepsM_some, keepsM_none, keepsL_mk, keepsR_mk, keepsL_fold, keepsR_fold, keeps_ite, keepsO_ite, keepsM_ite,
      keepsL_ite, keepsR_ite, ite_self, implies_true, keeps_foldl, keepsL_foldl, keepsR_foldl, keeps_qCfgWrite,
      keeps_sqBell, keeps_cqBell, keeps_setQue]))

theorem keeps_queBase {l} {s : State} (h : Keeps l s) (x1 x2 x3) : Keeps l (State.queBase s x1 x2 x3) := by
  unfold State.queBase
  simp +contextual (maxDischargeDepth := 40) only [h, keepsO_next, keepsO_fault, keepsM_some, keepsM_none,
      keepsL_mk, keepsR_mk, keepsL_fold, keepsR_fold, keeps_ite, keepsO_ite, keepsM_ite, keepsL_ite, keepsR_ite,
      ite_self, implies_true, keeps_foldl, keepsL_foldl, keepsR_foldl, keeps_setQue]

theorem keeps_hqSet {l} {s : State} (h : Keeps l s) (x1) : Keeps l (State.hqSet s x1) := h

theorem keeps_grantSet {l} {s : State} (h : Keeps l s) (x1 x2) : Keeps l (State.grantSet s x1 x2) := by
  unfold State.grantSet
  simp +contextual (maxDischargeDepth := 40) only [h, keepsO_next, keepsO_fault, keepsM_some, keepsM_none,
      keepsL_mk, keepsR_mk, keepsL_fold, keepsR_fold, keeps_ite, keepsO_ite, keepsM_ite, keepsL_ite, keepsR_ite,
      ite_self, implies_true, keeps_foldl, keepsL_foldl, keepsR_foldl, keeps_hqSet]

theorem keeps_hqWrite {l} {s : State} (h : Keeps l s) (x1 x2) : Keeps l (State.hqWrite s x1 x2) := by
  unfold State.hqWrite
  all_goals repeat' (split <;> (try simp +contextual (maxDischargeDepth := 40) only [h, keepsO_next, keepsO_fault,
      keepsM_some, keepsM_none, keepsL_mk, keepsR_mk, keepsL_fold, keepsR_fold, keeps_ite, keepsO_ite, keepsM_ite,
      keepsL_ite, keepsR_ite, ite_self, implies_true, keeps_foldl, keepsL_foldl, keepsR_foldl, keeps_queWrite,
      keeps_hqSet, keeps_grantSet]))

theorem keeps_mbxGo {l} {s : State} (h : Keeps l s) : Keeps l (State.mbxGo s) := by
  unfold State.mbxGo
  try simp +contextual (maxDischargeDepth := 40) only [h, keeps_mk, keeps_fold, keepsO_next, keepsO_fault,
      keepsM_some, keepsM_none, keepsL_mk, keepsR_mk, keepsL_fold, keepsR_fold, keeps_ite, keepsO_ite, keepsM_ite,
      keepsL_ite, keepsR_ite, ite_self, implies_true, keeps_foldl, keepsL_foldl, keepsR_foldl, keeps_status]
  all_goals repeat' (split <;> (try simp +contextual (maxDischargeDepth := 40) only [h, keeps_mk, keeps_fold,
      keepsO_next, keepsO_fault, keepsM_some, keepsM_none, keepsL_mk, keepsR_mk, keepsL_fold, keepsR_fold,
      keeps_ite, keepsO_ite, keepsM_ite, keepsL_ite, keepsR_ite, ite_self, implies_true, keeps_foldl, keepsL_foldl,
      keepsR_foldl, keeps_status]))

theorem keeps_mbxWrite {l} {s : State} (h : Keeps l s) (x1 x2) : Keeps l (State.mbxWrite s x1 x2) := by
  unfold State.mbxWrite
  simp +contextual (maxDischargeDepth := 40) only [h, keeps_mk, keeps_fold, keepsO_next, keepsO_fault, keepsM_some,
      keepsM_none, keepsL_mk, keepsR_mk, keepsL_fold, keepsR_fold, keeps_ite, keepsO_ite, keepsM_ite, keepsL_ite,
      keepsR_ite, ite_self, implies_true, keeps_foldl, keepsL_foldl, keepsR_foldl, keeps_mbxGo]

theorem keeps_pfWrite {l} {s : State} (h : Keeps l s) (x1 x2) : Keeps l (State.pfWrite s x1 x2) := by
  unfold State.pfWrite
  all_goals repeat' (split <;> (try simp +contextual (maxDischargeDepth := 40) only [h, keepsO_next, keepsO_fault,
      keepsM_some, keepsM_none, keepsL_mk, keepsR_mk, keepsL_fold, keepsR_fold, keeps_ite, keepsO_ite, keepsM_ite,
      keepsL_ite, keepsR_ite, ite_self, implies_true, keeps_foldl, keepsL_foldl, keepsR_foldl, keeps_gctlWrite,
      keeps_clkWrite, keeps_feuWrite, keeps_ketWrite, keeps_calWrite, keeps_bskWrite, keeps_panWrite,
      keeps_dzfWrite, keeps_hqWrite, keeps_mbxWrite]))

theorem keeps_pfWrite64 {l} {s : State} (h : Keeps l s) (x1 x2) : Keeps l (State.pfWrite64 s x1 x2) := by
  unfold State.pfWrite64
  all_goals repeat' (split <;> (try simp +contextual (maxDischargeDepth := 40) only [h, keepsO_next, keepsO_fault,
      keepsM_some, keepsM_none, keepsL_mk, keepsR_mk, keepsL_fold, keepsR_fold, keeps_ite, keepsO_ite, keepsM_ite,
      keepsL_ite, keepsR_ite, ite_self, implies_true, keeps_foldl, keepsL_foldl, keepsR_foldl, keeps_feuSet,
      keeps_dzfSet, keeps_queBase, keeps_hqSet, keeps_grantSet]))

theorem keeps_fnWrite {l} {s : State} (h : Keeps l s) (x1 x2 x3) : Keeps l (State.fnWrite s x1 x2 x3) := by
  unfold State.fnWrite
  all_goals repeat' (split <;> (try simp +contextual (maxDischargeDepth := 40) only [h, keepsO_next, keepsO_fault,
      keepsM_some, keepsM_none, keepsL_mk, keepsR_mk, keepsL_fold, keepsR_fold, keeps_ite, keepsO_ite, keepsM_ite,
      keepsL_ite, keepsR_ite, ite_self, implies_true, keeps_foldl, keepsL_foldl, keepsR_foldl, keeps_pfWrite,
      keeps_queWrite]))

theorem keeps_fnWrite64 {l} {s : State} (h : Keeps l s) (x1 x2 x3) : Keeps l (State.fnWrite64 s x1 x2 x3) := by
  unfold State.fnWrite64
  all_goals repeat' (split <;> (try simp +contextual (maxDischargeDepth := 40) only [h, keepsO_next, keepsO_fault,
      keepsM_some, keepsM_none, keepsL_mk, keepsR_mk, keepsL_fold, keepsR_fold, keeps_ite, keepsO_ite, keepsM_ite,
      keepsL_ite, keepsR_ite, ite_self, implies_true, keeps_foldl, keepsL_foldl, keepsR_foldl, keeps_pfWrite64,
      keeps_queBase]))

theorem keeps_write32 {l} {s : State} (h : Keeps l s) (x1 x2 x3) : Keeps l (State.write32 s x1 x2 x3) := by
  unfold State.write32
  simp +contextual (maxDischargeDepth := 40) only [h, keeps_mk, keeps_fold, keepsO_next, keepsO_fault, keepsM_some,
      keepsM_none, keepsL_mk, keepsR_mk, keepsL_fold, keepsR_fold, keeps_ite, keepsO_ite, keepsM_ite, keepsL_ite,
      keepsR_ite, ite_self, implies_true, keeps_foldl, keepsL_foldl, keepsR_foldl, keeps_unlatch, keeps_fnWrite64,
      keeps_fnWrite]

theorem keeps_write64 {l} {s : State} (h : Keeps l s) (x1 x2 x3) : Keeps l (State.write64 s x1 x2 x3) := by
  unfold State.write64
  simp +contextual (maxDischargeDepth := 40) only [h, keepsO_next, keepsO_fault, keepsM_some, keepsM_none,
      keepsL_mk, keepsR_mk, keepsL_fold, keepsR_fold, keeps_ite, keepsO_ite, keepsM_ite, keepsL_ite, keepsR_ite,
      ite_self, implies_true, keeps_foldl, keepsL_foldl, keepsR_foldl, keeps_fnWrite64, keeps_unlatch,
      keeps_write32]

theorem keeps_execRegisterWrite {l} {s : State} (h : Keeps l s) (x0 x1 x2 x3) : KeepsO l (execRegisterWrite x0 x1
    x2 x3 s) := by
  unfold execRegisterWrite
  all_goals repeat' (split <;> (try simp +contextual (maxDischargeDepth := 40) only [h, keepsO_next, keepsO_fault,
      keepsM_some, keepsM_none, keepsL_mk, keepsR_mk, keepsL_fold, keepsR_fold, keeps_ite, keepsO_ite, keepsM_ite,
      keepsL_ite, keepsR_ite, ite_self, implies_true, keeps_foldl, keepsL_foldl, keepsR_foldl, keeps_guard,
      keeps_accRefuse, keeps_unlatch, keeps_write64, keeps_write32]))

end Sys2Proof.Machine
end

