-- ==== Sys2Proof/Laws/State.lean ====
section
/-! SUPPORT. What each named update of State leaves as it was, and what reading an updated unit gives. -/

namespace Sys2Proof.Machine

/-- What `setStr` leaves as it was. -/
@[simp] theorem State.setStr_keeps (s : State) (i : Nat) (v : Stream) :
    (s.setStr i v).pending = s.pending ∧ (s.setStr i v).time = s.time ∧ (s.setStr i v).freeCtr = s.freeCtr ∧
    (s.setStr i v).mem = s.mem ∧ (s.setStr i v).memBad = s.memBad ∧ (s.setStr i v).memCorr = s.memCorr ∧
    (s.setStr i v).host = s.host ∧ (s.setStr i v).hostBad = s.hostBad ∧ (s.setStr i v).waiting = s.waiting ∧
    (s.setStr i v).baskets = s.baskets ∧ (s.setStr i v).pans = s.pans ∧ (s.setStr i v).pots = s.pots ∧
    (s.setStr i v).scales = s.scales ∧ (s.setStr i v).tokens = s.tokens ∧ (s.setStr i v).globals = s.globals ∧
    (s.setStr i v).nextUid = s.nextUid ∧ (s.setStr i v).fastQ = s.fastQ ∧ (s.setStr i v).ket = s.ket ∧
    (s.setStr i v).cal = s.cal ∧ (s.setStr i v).feu = s.feu ∧ (s.setStr i v).dzf = s.dzf ∧ (s.setStr i v).hq = s.hq ∧
    (s.setStr i v).trv = s.trv ∧ (s.setStr i v).dev = s.dev ∧ (s.setStr i v).evq = s.evq ∧ (s.setStr i v).tx = s.tx ∧
    (s.setStr i v).hellos = s.hellos ∧ (s.setStr i v).joins = s.joins ∧ (s.setStr i v).msix = s.msix ∧
    (s.setStr i v).mgmt = s.mgmt ∧ (∀ h', (s.setStr i v).bsk h' = s.bsk h') ∧ (∀ p', (s.setStr i v).pan p' = s.pan p') ∧
    (∀ h' i', (s.setStr i v).pot h' i' = s.pot h' i') ∧ (∀ h' i', (s.setStr i v).scale h' i' = s.scale h' i') ∧
    (∀ n', (s.setStr i v).slot n' = s.slot n') ∧ (∀ e', (s.setStr i v).eng e' = s.eng e') ∧
    (∀ q', (s.setStr i v).coil q' = s.coil q') ∧ (∀ n', (s.setStr i v).port n' = s.port n') ∧
    (∀ q', (s.setStr i v).que q' = s.que q') ∧ (∀ n', (s.setStr i v).inp n' = s.inp n') := by
  refine ⟨rfl, rfl, rfl, rfl, rfl, rfl, rfl, rfl, rfl, rfl, rfl, rfl, rfl, rfl, rfl, rfl, rfl, rfl, rfl, rfl, rfl, rfl, rfl, rfl, rfl, rfl, rfl, rfl, rfl, rfl, fun _ => rfl, fun _ => rfl, fun _ _ => rfl, fun _ _ => rfl, fun _ => rfl, fun _ => rfl, fun _ => rfl, fun _ => rfl, fun _ => rfl, fun _ => rfl⟩

/-- What `setBsk` leaves as it was. -/
@[simp] theorem State.setBsk_keeps (s : State) (h : Nat) (v : Basket) :
    (s.setBsk h v).pending = s.pending ∧ (s.setBsk h v).time = s.time ∧ (s.setBsk h v).freeCtr = s.freeCtr ∧
    (s.setBsk h v).mem = s.mem ∧ (s.setBsk h v).memBad = s.memBad ∧ (s.setBsk h v).memCorr = s.memCorr ∧
    (s.setBsk h v).host = s.host ∧ (s.setBsk h v).hostBad = s.hostBad ∧ (s.setBsk h v).streams = s.streams ∧
    (s.setBsk h v).waiting = s.waiting ∧ (s.setBsk h v).pans = s.pans ∧ (s.setBsk h v).pots = s.pots ∧
    (s.setBsk h v).scales = s.scales ∧ (s.setBsk h v).tokens = s.tokens ∧ (s.setBsk h v).globals = s.globals ∧
    (s.setBsk h v).nextUid = s.nextUid ∧ (s.setBsk h v).fastQ = s.fastQ ∧ (s.setBsk h v).ket = s.ket ∧
    (s.setBsk h v).cal = s.cal ∧ (s.setBsk h v).feu = s.feu ∧ (s.setBsk h v).dzf = s.dzf ∧ (s.setBsk h v).hq = s.hq ∧
    (s.setBsk h v).trv = s.trv ∧ (s.setBsk h v).dev = s.dev ∧ (s.setBsk h v).evq = s.evq ∧ (s.setBsk h v).tx = s.tx ∧
    (s.setBsk h v).hellos = s.hellos ∧ (s.setBsk h v).joins = s.joins ∧ (s.setBsk h v).msix = s.msix ∧
    (s.setBsk h v).mgmt = s.mgmt ∧ (∀ i', (s.setBsk h v).str i' = s.str i') ∧ (∀ p', (s.setBsk h v).pan p' = s.pan p') ∧
    (∀ h' i', (s.setBsk h v).pot h' i' = s.pot h' i') ∧ (∀ h' i', (s.setBsk h v).scale h' i' = s.scale h' i') ∧
    (∀ n', (s.setBsk h v).slot n' = s.slot n') ∧ (∀ e', (s.setBsk h v).eng e' = s.eng e') ∧
    (∀ q', (s.setBsk h v).coil q' = s.coil q') ∧ (∀ n', (s.setBsk h v).port n' = s.port n') ∧
    (∀ q', (s.setBsk h v).que q' = s.que q') ∧ (∀ n', (s.setBsk h v).inp n' = s.inp n') := by
  refine ⟨rfl, rfl, rfl, rfl, rfl, rfl, rfl, rfl, rfl, rfl, rfl, rfl, rfl, rfl, rfl, rfl, rfl, rfl, rfl, rfl, rfl, rfl, rfl, rfl, rfl, rfl, rfl, rfl, rfl, rfl, fun _ => rfl, fun _ => rfl, fun _ _ => rfl, fun _ _ => rfl, fun _ => rfl, fun _ => rfl, fun _ => rfl, fun _ => rfl, fun _ => rfl, fun _ => rfl⟩

/-- What `setPan` leaves as it was. -/
@[simp] theorem State.setPan_keeps (s : State) (p : Nat) (v : Pan) :
    (s.setPan p v).pending = s.pending ∧ (s.setPan p v).time = s.time ∧ (s.setPan p v).freeCtr = s.freeCtr ∧
    (s.setPan p v).mem = s.mem ∧ (s.setPan p v).memBad = s.memBad ∧ (s.setPan p v).memCorr = s.memCorr ∧
    (s.setPan p v).host = s.host ∧ (s.setPan p v).hostBad = s.hostBad ∧ (s.setPan p v).streams = s.streams ∧
    (s.setPan p v).waiting = s.waiting ∧ (s.setPan p v).baskets = s.baskets ∧ (s.setPan p v).pots = s.pots ∧
    (s.setPan p v).scales = s.scales ∧ (s.setPan p v).tokens = s.tokens ∧ (s.setPan p v).globals = s.globals ∧
    (s.setPan p v).nextUid = s.nextUid ∧ (s.setPan p v).fastQ = s.fastQ ∧ (s.setPan p v).ket = s.ket ∧
    (s.setPan p v).cal = s.cal ∧ (s.setPan p v).feu = s.feu ∧ (s.setPan p v).dzf = s.dzf ∧ (s.setPan p v).hq = s.hq ∧
    (s.setPan p v).trv = s.trv ∧ (s.setPan p v).dev = s.dev ∧ (s.setPan p v).evq = s.evq ∧ (s.setPan p v).tx = s.tx ∧
    (s.setPan p v).hellos = s.hellos ∧ (s.setPan p v).joins = s.joins ∧ (s.setPan p v).msix = s.msix ∧
    (s.setPan p v).mgmt = s.mgmt ∧ (∀ i', (s.setPan p v).str i' = s.str i') ∧ (∀ h', (s.setPan p v).bsk h' = s.bsk h') ∧
    (∀ h' i', (s.setPan p v).pot h' i' = s.pot h' i') ∧ (∀ h' i', (s.setPan p v).scale h' i' = s.scale h' i') ∧
    (∀ n', (s.setPan p v).slot n' = s.slot n') ∧ (∀ e', (s.setPan p v).eng e' = s.eng e') ∧
    (∀ q', (s.setPan p v).coil q' = s.coil q') ∧ (∀ n', (s.setPan p v).port n' = s.port n') ∧
    (∀ q', (s.setPan p v).que q' = s.que q') ∧ (∀ n', (s.setPan p v).inp n' = s.inp n') := by
  refine ⟨rfl, rfl, rfl, rfl, rfl, rfl, rfl, rfl, rfl, rfl, rfl, rfl, rfl, rfl, rfl, rfl, rfl, rfl, rfl, rfl, rfl, rfl, rfl, rfl, rfl, rfl, rfl, rfl, rfl, rfl, fun _ => rfl, fun _ => rfl, fun _ _ => rfl, fun _ _ => rfl, fun _ => rfl, fun _ => rfl, fun _ => rfl, fun _ => rfl, fun _ => rfl, fun _ => rfl⟩

/-- What `setPot` leaves as it was. -/
@[simp] theorem State.setPot_keeps (s : State) (h i : Nat) (v : Pot) :
    (s.setPot h i v).pending = s.pending ∧ (s.setPot h i v).time = s.time ∧ (s.setPot h i v).freeCtr = s.freeCtr ∧
    (s.setPot h i v).mem = s.mem ∧ (s.setPot h i v).memBad = s.memBad ∧ (s.setPot h i v).memCorr = s.memCorr ∧
    (s.setPot h i v).host = s.host ∧ (s.setPot h i v).hostBad = s.hostBad ∧ (s.setPot h i v).streams = s.streams ∧
    (s.setPot h i v).waiting = s.waiting ∧ (s.setPot h i v).baskets = s.baskets ∧ (s.setPot h i v).pans = s.pans ∧
    (s.setPot h i v).scales = s.scales ∧ (s.setPot h i v).tokens = s.tokens ∧ (s.setPot h i v).globals = s.globals ∧
    (s.setPot h i v).nextUid = s.nextUid ∧ (s.setPot h i v).fastQ = s.fastQ ∧ (s.setPot h i v).ket = s.ket ∧
    (s.setPot h i v).cal = s.cal ∧ (s.setPot h i v).feu = s.feu ∧ (s.setPot h i v).dzf = s.dzf ∧ (s.setPot h i v).hq = s.hq ∧
    (s.setPot h i v).trv = s.trv ∧ (s.setPot h i v).dev = s.dev ∧ (s.setPot h i v).evq = s.evq ∧ (s.setPot h i v).tx = s.tx ∧
    (s.setPot h i v).hellos = s.hellos ∧ (s.setPot h i v).joins = s.joins ∧ (s.setPot h i v).msix = s.msix ∧
    (s.setPot h i v).mgmt = s.mgmt ∧ (∀ i', (s.setPot h i v).str i' = s.str i') ∧ (∀ h', (s.setPot h i v).bsk h' = s.bsk h') ∧
    (∀ p', (s.setPot h i v).pan p' = s.pan p') ∧ (∀ h' i', (s.setPot h i v).scale h' i' = s.scale h' i') ∧
    (∀ n', (s.setPot h i v).slot n' = s.slot n') ∧ (∀ e', (s.setPot h i v).eng e' = s.eng e') ∧
    (∀ q', (s.setPot h i v).coil q' = s.coil q') ∧ (∀ n', (s.setPot h i v).port n' = s.port n') ∧
    (∀ q', (s.setPot h i v).que q' = s.que q') ∧ (∀ n', (s.setPot h i v).inp n' = s.inp n') := by
  refine ⟨rfl, rfl, rfl, rfl, rfl, rfl, rfl, rfl, rfl, rfl, rfl, rfl, rfl, rfl, rfl, rfl, rfl, rfl, rfl, rfl, rfl, rfl, rfl, rfl, rfl, rfl, rfl, rfl, rfl, rfl, fun _ => rfl, fun _ => rfl, fun _ => rfl, fun _ _ => rfl, fun _ => rfl, fun _ => rfl, fun _ => rfl, fun _ => rfl, fun _ => rfl, fun _ => rfl⟩

/-- What `setScale` leaves as it was. -/
@[simp] theorem State.setScale_keeps (s : State) (h i : Nat) (v : ScaleEntry) :
    (s.setScale h i v).pending = s.pending ∧ (s.setScale h i v).time = s.time ∧ (s.setScale h i v).freeCtr = s.freeCtr ∧
    (s.setScale h i v).mem = s.mem ∧ (s.setScale h i v).memBad = s.memBad ∧ (s.setScale h i v).memCorr = s.memCorr ∧
    (s.setScale h i v).host = s.host ∧ (s.setScale h i v).hostBad = s.hostBad ∧ (s.setScale h i v).streams = s.streams ∧
    (s.setScale h i v).waiting = s.waiting ∧ (s.setScale h i v).baskets = s.baskets ∧ (s.setScale h i v).pans = s.pans ∧
    (s.setScale h i v).pots = s.pots ∧ (s.setScale h i v).tokens = s.tokens ∧ (s.setScale h i v).globals = s.globals ∧
    (s.setScale h i v).nextUid = s.nextUid ∧ (s.setScale h i v).fastQ = s.fastQ ∧ (s.setScale h i v).ket = s.ket ∧
    (s.setScale h i v).cal = s.cal ∧ (s.setScale h i v).feu = s.feu ∧ (s.setScale h i v).dzf = s.dzf ∧
    (s.setScale h i v).hq = s.hq ∧ (s.setScale h i v).trv = s.trv ∧ (s.setScale h i v).dev = s.dev ∧
    (s.setScale h i v).evq = s.evq ∧ (s.setScale h i v).tx = s.tx ∧ (s.setScale h i v).hellos = s.hellos ∧
    (s.setScale h i v).joins = s.joins ∧ (s.setScale h i v).msix = s.msix ∧ (s.setScale h i v).mgmt = s.mgmt ∧
    (∀ i', (s.setScale h i v).str i' = s.str i') ∧ (∀ h', (s.setScale h i v).bsk h' = s.bsk h') ∧
    (∀ p', (s.setScale h i v).pan p' = s.pan p') ∧ (∀ h' i', (s.setScale h i v).pot h' i' = s.pot h' i') ∧
    (∀ n', (s.setScale h i v).slot n' = s.slot n') ∧ (∀ e', (s.setScale h i v).eng e' = s.eng e') ∧
    (∀ q', (s.setScale h i v).coil q' = s.coil q') ∧ (∀ n', (s.setScale h i v).port n' = s.port n') ∧
    (∀ q', (s.setScale h i v).que q' = s.que q') ∧ (∀ n', (s.setScale h i v).inp n' = s.inp n') := by
  refine ⟨rfl, rfl, rfl, rfl, rfl, rfl, rfl, rfl, rfl, rfl, rfl, rfl, rfl, rfl, rfl, rfl, rfl, rfl, rfl, rfl, rfl, rfl, rfl, rfl, rfl, rfl, rfl, rfl, rfl, rfl, fun _ => rfl, fun _ => rfl, fun _ => rfl, fun _ _ => rfl, fun _ => rfl, fun _ => rfl, fun _ => rfl, fun _ => rfl, fun _ => rfl, fun _ => rfl⟩

/-- What `setSlot` leaves as it was. -/
@[simp] theorem State.setSlot_keeps (s : State) (n : Nat) (v : Slot) :
    (s.setSlot n v).pending = s.pending ∧ (s.setSlot n v).time = s.time ∧ (s.setSlot n v).freeCtr = s.freeCtr ∧
    (s.setSlot n v).mem = s.mem ∧ (s.setSlot n v).memBad = s.memBad ∧ (s.setSlot n v).memCorr = s.memCorr ∧
    (s.setSlot n v).host = s.host ∧ (s.setSlot n v).hostBad = s.hostBad ∧ (s.setSlot n v).streams = s.streams ∧
    (s.setSlot n v).waiting = s.waiting ∧ (s.setSlot n v).baskets = s.baskets ∧ (s.setSlot n v).pans = s.pans ∧
    (s.setSlot n v).pots = s.pots ∧ (s.setSlot n v).scales = s.scales ∧ (s.setSlot n v).tokens = s.tokens ∧
    (s.setSlot n v).globals = s.globals ∧ (s.setSlot n v).nextUid = s.nextUid ∧ (s.setSlot n v).fastQ = s.fastQ ∧
    (s.setSlot n v).cal = s.cal ∧ (s.setSlot n v).feu = s.feu ∧ (s.setSlot n v).dzf = s.dzf ∧ (s.setSlot n v).hq = s.hq ∧
    (s.setSlot n v).trv = s.trv ∧ (s.setSlot n v).dev = s.dev ∧ (s.setSlot n v).evq = s.evq ∧ (s.setSlot n v).tx = s.tx ∧
    (s.setSlot n v).hellos = s.hellos ∧ (s.setSlot n v).joins = s.joins ∧ (s.setSlot n v).msix = s.msix ∧
    (s.setSlot n v).mgmt = s.mgmt ∧ (∀ i', (s.setSlot n v).str i' = s.str i') ∧ (∀ h', (s.setSlot n v).bsk h' = s.bsk h') ∧
    (∀ p', (s.setSlot n v).pan p' = s.pan p') ∧ (∀ h' i', (s.setSlot n v).pot h' i' = s.pot h' i') ∧
    (∀ h' i', (s.setSlot n v).scale h' i' = s.scale h' i') ∧ (∀ e', (s.setSlot n v).eng e' = s.eng e') ∧
    (∀ q', (s.setSlot n v).coil q' = s.coil q') ∧ (∀ n', (s.setSlot n v).port n' = s.port n') ∧
    (∀ q', (s.setSlot n v).que q' = s.que q') ∧ (∀ n', (s.setSlot n v).inp n' = s.inp n') := by
  refine ⟨rfl, rfl, rfl, rfl, rfl, rfl, rfl, rfl, rfl, rfl, rfl, rfl, rfl, rfl, rfl, rfl, rfl, rfl, rfl, rfl, rfl, rfl, rfl, rfl, rfl, rfl, rfl, rfl, rfl, rfl, fun _ => rfl, fun _ => rfl, fun _ => rfl, fun _ _ => rfl, fun _ _ => rfl, fun _ => rfl, fun _ => rfl, fun _ => rfl, fun _ => rfl, fun _ => rfl⟩

/-- What `setEng` leaves as it was. -/
@[simp] theorem State.setEng_keeps (s : State) (e : Nat) (v : Engine) :
    (s.setEng e v).pending = s.pending ∧ (s.setEng e v).time = s.time ∧ (s.setEng e v).freeCtr = s.freeCtr ∧
    (s.setEng e v).mem = s.mem ∧ (s.setEng e v).memBad = s.memBad ∧ (s.setEng e v).memCorr = s.memCorr ∧
    (s.setEng e v).host = s.host ∧ (s.setEng e v).hostBad = s.hostBad ∧ (s.setEng e v).streams = s.streams ∧
    (s.setEng e v).waiting = s.waiting ∧ (s.setEng e v).baskets = s.baskets ∧ (s.setEng e v).pans = s.pans ∧
    (s.setEng e v).pots = s.pots ∧ (s.setEng e v).scales = s.scales ∧ (s.setEng e v).tokens = s.tokens ∧
    (s.setEng e v).globals = s.globals ∧ (s.setEng e v).nextUid = s.nextUid ∧ (s.setEng e v).fastQ = s.fastQ ∧
    (s.setEng e v).cal = s.cal ∧ (s.setEng e v).feu = s.feu ∧ (s.setEng e v).dzf = s.dzf ∧ (s.setEng e v).hq = s.hq ∧
    (s.setEng e v).trv = s.trv ∧ (s.setEng e v).dev = s.dev ∧ (s.setEng e v).evq = s.evq ∧ (s.setEng e v).tx = s.tx ∧
    (s.setEng e v).hellos = s.hellos ∧ (s.setEng e v).joins = s.joins ∧ (s.setEng e v).msix = s.msix ∧
    (s.setEng e v).mgmt = s.mgmt ∧ (∀ i', (s.setEng e v).str i' = s.str i') ∧ (∀ h', (s.setEng e v).bsk h' = s.bsk h') ∧
    (∀ p', (s.setEng e v).pan p' = s.pan p') ∧ (∀ h' i', (s.setEng e v).pot h' i' = s.pot h' i') ∧
    (∀ h' i', (s.setEng e v).scale h' i' = s.scale h' i') ∧ (∀ n', (s.setEng e v).slot n' = s.slot n') ∧
    (∀ q', (s.setEng e v).coil q' = s.coil q') ∧ (∀ n', (s.setEng e v).port n' = s.port n') ∧
    (∀ q', (s.setEng e v).que q' = s.que q') ∧ (∀ n', (s.setEng e v).inp n' = s.inp n') := by
  refine ⟨rfl, rfl, rfl, rfl, rfl, rfl, rfl, rfl, rfl, rfl, rfl, rfl, rfl, rfl, rfl, rfl, rfl, rfl, rfl, rfl, rfl, rfl, rfl, rfl, rfl, rfl, rfl, rfl, rfl, rfl, fun _ => rfl, fun _ => rfl, fun _ => rfl, fun _ _ => rfl, fun _ _ => rfl, fun _ => rfl, fun _ => rfl, fun _ => rfl, fun _ => rfl, fun _ => rfl⟩

/-- What `setCoil` leaves as it was. -/
@[simp] theorem State.setCoil_keeps (s : State) (q : Nat) (v : Coil) :
    (s.setCoil q v).pending = s.pending ∧ (s.setCoil q v).time = s.time ∧ (s.setCoil q v).freeCtr = s.freeCtr ∧
    (s.setCoil q v).mem = s.mem ∧ (s.setCoil q v).memBad = s.memBad ∧ (s.setCoil q v).memCorr = s.memCorr ∧
    (s.setCoil q v).host = s.host ∧ (s.setCoil q v).hostBad = s.hostBad ∧ (s.setCoil q v).streams = s.streams ∧
    (s.setCoil q v).waiting = s.waiting ∧ (s.setCoil q v).baskets = s.baskets ∧ (s.setCoil q v).pans = s.pans ∧
    (s.setCoil q v).pots = s.pots ∧ (s.setCoil q v).scales = s.scales ∧ (s.setCoil q v).tokens = s.tokens ∧
    (s.setCoil q v).globals = s.globals ∧ (s.setCoil q v).nextUid = s.nextUid ∧ (s.setCoil q v).fastQ = s.fastQ ∧
    (s.setCoil q v).cal = s.cal ∧ (s.setCoil q v).feu = s.feu ∧ (s.setCoil q v).dzf = s.dzf ∧ (s.setCoil q v).hq = s.hq ∧
    (s.setCoil q v).trv = s.trv ∧ (s.setCoil q v).dev = s.dev ∧ (s.setCoil q v).evq = s.evq ∧ (s.setCoil q v).tx = s.tx ∧
    (s.setCoil q v).hellos = s.hellos ∧ (s.setCoil q v).joins = s.joins ∧ (s.setCoil q v).msix = s.msix ∧
    (s.setCoil q v).mgmt = s.mgmt ∧ (∀ i', (s.setCoil q v).str i' = s.str i') ∧ (∀ h', (s.setCoil q v).bsk h' = s.bsk h') ∧
    (∀ p', (s.setCoil q v).pan p' = s.pan p') ∧ (∀ h' i', (s.setCoil q v).pot h' i' = s.pot h' i') ∧
    (∀ h' i', (s.setCoil q v).scale h' i' = s.scale h' i') ∧ (∀ n', (s.setCoil q v).slot n' = s.slot n') ∧
    (∀ e', (s.setCoil q v).eng e' = s.eng e') ∧ (∀ n', (s.setCoil q v).port n' = s.port n') ∧
    (∀ q', (s.setCoil q v).que q' = s.que q') ∧ (∀ n', (s.setCoil q v).inp n' = s.inp n') := by
  refine ⟨rfl, rfl, rfl, rfl, rfl, rfl, rfl, rfl, rfl, rfl, rfl, rfl, rfl, rfl, rfl, rfl, rfl, rfl, rfl, rfl, rfl, rfl, rfl, rfl, rfl, rfl, rfl, rfl, rfl, rfl, fun _ => rfl, fun _ => rfl, fun _ => rfl, fun _ _ => rfl, fun _ _ => rfl, fun _ => rfl, fun _ => rfl, fun _ => rfl, fun _ => rfl, fun _ => rfl⟩

/-- What `setPort` leaves as it was. -/
@[simp] theorem State.setPort_keeps (s : State) (n : Nat) (v : Port) :
    (s.setPort n v).pending = s.pending ∧ (s.setPort n v).time = s.time ∧ (s.setPort n v).freeCtr = s.freeCtr ∧
    (s.setPort n v).mem = s.mem ∧ (s.setPort n v).memBad = s.memBad ∧ (s.setPort n v).memCorr = s.memCorr ∧
    (s.setPort n v).host = s.host ∧ (s.setPort n v).hostBad = s.hostBad ∧ (s.setPort n v).streams = s.streams ∧
    (s.setPort n v).waiting = s.waiting ∧ (s.setPort n v).baskets = s.baskets ∧ (s.setPort n v).pans = s.pans ∧
    (s.setPort n v).pots = s.pots ∧ (s.setPort n v).scales = s.scales ∧ (s.setPort n v).tokens = s.tokens ∧
    (s.setPort n v).globals = s.globals ∧ (s.setPort n v).nextUid = s.nextUid ∧ (s.setPort n v).fastQ = s.fastQ ∧
    (s.setPort n v).ket = s.ket ∧ (s.setPort n v).cal = s.cal ∧ (s.setPort n v).feu = s.feu ∧ (s.setPort n v).hq = s.hq ∧
    (s.setPort n v).trv = s.trv ∧ (s.setPort n v).dev = s.dev ∧ (s.setPort n v).evq = s.evq ∧ (s.setPort n v).tx = s.tx ∧
    (s.setPort n v).hellos = s.hellos ∧ (s.setPort n v).joins = s.joins ∧ (s.setPort n v).msix = s.msix ∧
    (s.setPort n v).mgmt = s.mgmt ∧ (∀ i', (s.setPort n v).str i' = s.str i') ∧ (∀ h', (s.setPort n v).bsk h' = s.bsk h') ∧
    (∀ p', (s.setPort n v).pan p' = s.pan p') ∧ (∀ h' i', (s.setPort n v).pot h' i' = s.pot h' i') ∧
    (∀ h' i', (s.setPort n v).scale h' i' = s.scale h' i') ∧ (∀ n', (s.setPort n v).slot n' = s.slot n') ∧
    (∀ e', (s.setPort n v).eng e' = s.eng e') ∧ (∀ q', (s.setPort n v).coil q' = s.coil q') ∧
    (∀ q', (s.setPort n v).que q' = s.que q') ∧ (∀ n', (s.setPort n v).inp n' = s.inp n') := by
  refine ⟨rfl, rfl, rfl, rfl, rfl, rfl, rfl, rfl, rfl, rfl, rfl, rfl, rfl, rfl, rfl, rfl, rfl, rfl, rfl, rfl, rfl, rfl, rfl, rfl, rfl, rfl, rfl, rfl, rfl, rfl, fun _ => rfl, fun _ => rfl, fun _ => rfl, fun _ _ => rfl, fun _ _ => rfl, fun _ => rfl, fun _ => rfl, fun _ => rfl, fun _ => rfl, fun _ => rfl⟩

/-- What `setQue` leaves as it was. -/
@[simp] theorem State.setQue_keeps (s : State) (q : Nat) (v : Queue) :
    (s.setQue q v).pending = s.pending ∧ (s.setQue q v).time = s.time ∧ (s.setQue q v).freeCtr = s.freeCtr ∧
    (s.setQue q v).mem = s.mem ∧ (s.setQue q v).memBad = s.memBad ∧ (s.setQue q v).memCorr = s.memCorr ∧
    (s.setQue q v).host = s.host ∧ (s.setQue q v).hostBad = s.hostBad ∧ (s.setQue q v).streams = s.streams ∧
    (s.setQue q v).waiting = s.waiting ∧ (s.setQue q v).baskets = s.baskets ∧ (s.setQue q v).pans = s.pans ∧
    (s.setQue q v).pots = s.pots ∧ (s.setQue q v).scales = s.scales ∧ (s.setQue q v).tokens = s.tokens ∧
    (s.setQue q v).globals = s.globals ∧ (s.setQue q v).nextUid = s.nextUid ∧ (s.setQue q v).fastQ = s.fastQ ∧
    (s.setQue q v).ket = s.ket ∧ (s.setQue q v).cal = s.cal ∧ (s.setQue q v).feu = s.feu ∧ (s.setQue q v).dzf = s.dzf ∧
    (s.setQue q v).trv = s.trv ∧ (s.setQue q v).dev = s.dev ∧ (s.setQue q v).evq = s.evq ∧ (s.setQue q v).tx = s.tx ∧
    (s.setQue q v).hellos = s.hellos ∧ (s.setQue q v).joins = s.joins ∧ (s.setQue q v).msix = s.msix ∧
    (s.setQue q v).mgmt = s.mgmt ∧ (∀ i', (s.setQue q v).str i' = s.str i') ∧ (∀ h', (s.setQue q v).bsk h' = s.bsk h') ∧
    (∀ p', (s.setQue q v).pan p' = s.pan p') ∧ (∀ h' i', (s.setQue q v).pot h' i' = s.pot h' i') ∧
    (∀ h' i', (s.setQue q v).scale h' i' = s.scale h' i') ∧ (∀ n', (s.setQue q v).slot n' = s.slot n') ∧
    (∀ e', (s.setQue q v).eng e' = s.eng e') ∧ (∀ q', (s.setQue q v).coil q' = s.coil q') ∧
    (∀ n', (s.setQue q v).port n' = s.port n') ∧ (∀ n', (s.setQue q v).inp n' = s.inp n') := by
  refine ⟨rfl, rfl, rfl, rfl, rfl, rfl, rfl, rfl, rfl, rfl, rfl, rfl, rfl, rfl, rfl, rfl, rfl, rfl, rfl, rfl, rfl, rfl, rfl, rfl, rfl, rfl, rfl, rfl, rfl, rfl, fun _ => rfl, fun _ => rfl, fun _ => rfl, fun _ _ => rfl, fun _ _ => rfl, fun _ => rfl, fun _ => rfl, fun _ => rfl, fun _ => rfl, fun _ => rfl⟩

/-- What `setInp` leaves as it was. -/
@[simp] theorem State.setInp_keeps (s : State) (n : Nat) (v : Input) :
    (s.setInp n v).pending = s.pending ∧ (s.setInp n v).time = s.time ∧ (s.setInp n v).freeCtr = s.freeCtr ∧
    (s.setInp n v).mem = s.mem ∧ (s.setInp n v).memBad = s.memBad ∧ (s.setInp n v).memCorr = s.memCorr ∧
    (s.setInp n v).host = s.host ∧ (s.setInp n v).hostBad = s.hostBad ∧ (s.setInp n v).streams = s.streams ∧
    (s.setInp n v).waiting = s.waiting ∧ (s.setInp n v).baskets = s.baskets ∧ (s.setInp n v).pans = s.pans ∧
    (s.setInp n v).pots = s.pots ∧ (s.setInp n v).scales = s.scales ∧ (s.setInp n v).tokens = s.tokens ∧
    (s.setInp n v).globals = s.globals ∧ (s.setInp n v).nextUid = s.nextUid ∧ (s.setInp n v).fastQ = s.fastQ ∧
    (s.setInp n v).ket = s.ket ∧ (s.setInp n v).cal = s.cal ∧ (s.setInp n v).feu = s.feu ∧ (s.setInp n v).dzf = s.dzf ∧
    (s.setInp n v).hq = s.hq ∧ (s.setInp n v).trv = s.trv ∧ (s.setInp n v).evq = s.evq ∧ (s.setInp n v).tx = s.tx ∧
    (s.setInp n v).hellos = s.hellos ∧ (s.setInp n v).joins = s.joins ∧ (s.setInp n v).msix = s.msix ∧
    (s.setInp n v).mgmt = s.mgmt ∧ (∀ i', (s.setInp n v).str i' = s.str i') ∧ (∀ h', (s.setInp n v).bsk h' = s.bsk h') ∧
    (∀ p', (s.setInp n v).pan p' = s.pan p') ∧ (∀ h' i', (s.setInp n v).pot h' i' = s.pot h' i') ∧
    (∀ h' i', (s.setInp n v).scale h' i' = s.scale h' i') ∧ (∀ n', (s.setInp n v).slot n' = s.slot n') ∧
    (∀ e', (s.setInp n v).eng e' = s.eng e') ∧ (∀ q', (s.setInp n v).coil q' = s.coil q') ∧
    (∀ n', (s.setInp n v).port n' = s.port n') ∧ (∀ q', (s.setInp n v).que q' = s.que q') := by
  refine ⟨rfl, rfl, rfl, rfl, rfl, rfl, rfl, rfl, rfl, rfl, rfl, rfl, rfl, rfl, rfl, rfl, rfl, rfl, rfl, rfl, rfl, rfl, rfl, rfl, rfl, rfl, rfl, rfl, rfl, rfl, fun _ => rfl, fun _ => rfl, fun _ => rfl, fun _ _ => rfl, fun _ _ => rfl, fun _ => rfl, fun _ => rfl, fun _ => rfl, fun _ => rfl, fun _ => rfl⟩

/-- What `hwr` leaves as it was. -/
@[simp] theorem State.hwr_keeps (s : State) (a : Nat) (bs : List Byte) :
    (s.hwr a bs).pending = s.pending ∧ (s.hwr a bs).time = s.time ∧ (s.hwr a bs).freeCtr = s.freeCtr ∧ (s.hwr a bs).mem = s.mem ∧
    (s.hwr a bs).memBad = s.memBad ∧ (s.hwr a bs).memCorr = s.memCorr ∧ (s.hwr a bs).hostBad = s.hostBad ∧
    (s.hwr a bs).streams = s.streams ∧ (s.hwr a bs).waiting = s.waiting ∧ (s.hwr a bs).baskets = s.baskets ∧
    (s.hwr a bs).pans = s.pans ∧ (s.hwr a bs).pots = s.pots ∧ (s.hwr a bs).scales = s.scales ∧ (s.hwr a bs).tokens = s.tokens ∧
    (s.hwr a bs).globals = s.globals ∧ (s.hwr a bs).nextUid = s.nextUid ∧ (s.hwr a bs).fastQ = s.fastQ ∧
    (s.hwr a bs).ket = s.ket ∧ (s.hwr a bs).cal = s.cal ∧ (s.hwr a bs).feu = s.feu ∧ (s.hwr a bs).dzf = s.dzf ∧
    (s.hwr a bs).hq = s.hq ∧ (s.hwr a bs).trv = s.trv ∧ (s.hwr a bs).dev = s.dev ∧ (s.hwr a bs).evq = s.evq ∧
    (s.hwr a bs).tx = s.tx ∧ (s.hwr a bs).hellos = s.hellos ∧ (s.hwr a bs).joins = s.joins ∧ (s.hwr a bs).msix = s.msix ∧
    (s.hwr a bs).mgmt = s.mgmt ∧ (∀ i', (s.hwr a bs).str i' = s.str i') ∧ (∀ h', (s.hwr a bs).bsk h' = s.bsk h') ∧
    (∀ p', (s.hwr a bs).pan p' = s.pan p') ∧ (∀ h' i', (s.hwr a bs).pot h' i' = s.pot h' i') ∧
    (∀ h' i', (s.hwr a bs).scale h' i' = s.scale h' i') ∧ (∀ n', (s.hwr a bs).slot n' = s.slot n') ∧
    (∀ e', (s.hwr a bs).eng e' = s.eng e') ∧ (∀ q', (s.hwr a bs).coil q' = s.coil q') ∧
    (∀ n', (s.hwr a bs).port n' = s.port n') ∧ (∀ q', (s.hwr a bs).que q' = s.que q') ∧ (∀ n', (s.hwr a bs).inp n' = s.inp n') := by
  refine ⟨rfl, rfl, rfl, rfl, rfl, rfl, rfl, rfl, rfl, rfl, rfl, rfl, rfl, rfl, rfl, rfl, rfl, rfl, rfl, rfl, rfl, rfl, rfl, rfl, rfl, rfl, rfl, rfl, rfl, rfl, fun _ => rfl, fun _ => rfl, fun _ => rfl, fun _ _ => rfl, fun _ _ => rfl, fun _ => rfl, fun _ => rfl, fun _ => rfl, fun _ => rfl, fun _ => rfl, fun _ => rfl⟩

/-- What `at` leaves as it was. -/
@[simp] theorem State.at_keeps (s : State) (t : Nat) :
    (s.at t).pending = s.pending ∧ (s.at t).freeCtr = s.freeCtr ∧ (s.at t).mem = s.mem ∧ (s.at t).memBad = s.memBad ∧
    (s.at t).memCorr = s.memCorr ∧ (s.at t).host = s.host ∧ (s.at t).hostBad = s.hostBad ∧ (s.at t).streams = s.streams ∧
    (s.at t).waiting = s.waiting ∧ (s.at t).baskets = s.baskets ∧ (s.at t).pans = s.pans ∧ (s.at t).pots = s.pots ∧
    (s.at t).scales = s.scales ∧ (s.at t).tokens = s.tokens ∧ (s.at t).globals = s.globals ∧ (s.at t).nextUid = s.nextUid ∧
    (s.at t).fastQ = s.fastQ ∧ (s.at t).ket = s.ket ∧ (s.at t).cal = s.cal ∧ (s.at t).feu = s.feu ∧ (s.at t).dzf = s.dzf ∧
    (s.at t).hq = s.hq ∧ (s.at t).trv = s.trv ∧ (s.at t).dev = s.dev ∧ (s.at t).evq = s.evq ∧ (s.at t).tx = s.tx ∧
    (s.at t).hellos = s.hellos ∧ (s.at t).joins = s.joins ∧ (s.at t).msix = s.msix ∧ (s.at t).mgmt = s.mgmt ∧
    (∀ i', (s.at t).str i' = s.str i') ∧ (∀ h', (s.at t).bsk h' = s.bsk h') ∧ (∀ p', (s.at t).pan p' = s.pan p') ∧
    (∀ h' i', (s.at t).pot h' i' = s.pot h' i') ∧ (∀ h' i', (s.at t).scale h' i' = s.scale h' i') ∧
    (∀ n', (s.at t).slot n' = s.slot n') ∧ (∀ e', (s.at t).eng e' = s.eng e') ∧ (∀ q', (s.at t).coil q' = s.coil q') ∧
    (∀ n', (s.at t).port n' = s.port n') ∧ (∀ q', (s.at t).que q' = s.que q') ∧ (∀ n', (s.at t).inp n' = s.inp n') := by
  refine ⟨rfl, rfl, rfl, rfl, rfl, rfl, rfl, rfl, rfl, rfl, rfl, rfl, rfl, rfl, rfl, rfl, rfl, rfl, rfl, rfl, rfl, rfl, rfl, rfl, rfl, rfl, rfl, rfl, rfl, rfl, fun _ => rfl, fun _ => rfl, fun _ => rfl, fun _ _ => rfl, fun _ _ => rfl, fun _ => rfl, fun _ => rfl, fun _ => rfl, fun _ => rfl, fun _ => rfl, fun _ => rfl⟩

/-- What `raise` leaves as it was. -/
@[simp] theorem State.raise_keeps (s : State) (code cls unit index detail : Nat) :
    (s.raise code cls unit index detail).pending = s.pending ∧ (s.raise code cls unit index detail).time = s.time ∧
    (s.raise code cls unit index detail).freeCtr = s.freeCtr ∧ (s.raise code cls unit index detail).mem = s.mem ∧
    (s.raise code cls unit index detail).memBad = s.memBad ∧ (s.raise code cls unit index detail).memCorr = s.memCorr ∧
    (s.raise code cls unit index detail).host = s.host ∧ (s.raise code cls unit index detail).hostBad = s.hostBad ∧
    (s.raise code cls unit index detail).streams = s.streams ∧ (s.raise code cls unit index detail).waiting = s.waiting ∧
    (s.raise code cls unit index detail).baskets = s.baskets ∧ (s.raise code cls unit index detail).pans = s.pans ∧
    (s.raise code cls unit index detail).pots = s.pots ∧ (s.raise code cls unit index detail).scales = s.scales ∧
    (s.raise code cls unit index detail).tokens = s.tokens ∧ (s.raise code cls unit index detail).globals = s.globals ∧
    (s.raise code cls unit index detail).nextUid = s.nextUid ∧ (s.raise code cls unit index detail).fastQ = s.fastQ ∧
    (s.raise code cls unit index detail).ket = s.ket ∧ (s.raise code cls unit index detail).cal = s.cal ∧
    (s.raise code cls unit index detail).feu = s.feu ∧ (s.raise code cls unit index detail).dzf = s.dzf ∧
    (s.raise code cls unit index detail).hq = s.hq ∧ (s.raise code cls unit index detail).trv = s.trv ∧
    (s.raise code cls unit index detail).dev = s.dev ∧ (s.raise code cls unit index detail).tx = s.tx ∧
    (s.raise code cls unit index detail).hellos = s.hellos ∧ (s.raise code cls unit index detail).joins = s.joins ∧
    (s.raise code cls unit index detail).msix = s.msix ∧ (s.raise code cls unit index detail).mgmt = s.mgmt ∧
    (∀ i', (s.raise code cls unit index detail).str i' = s.str i') ∧
    (∀ h', (s.raise code cls unit index detail).bsk h' = s.bsk h') ∧
    (∀ p', (s.raise code cls unit index detail).pan p' = s.pan p') ∧
    (∀ h' i', (s.raise code cls unit index detail).pot h' i' = s.pot h' i') ∧
    (∀ h' i', (s.raise code cls unit index detail).scale h' i' = s.scale h' i') ∧
    (∀ n', (s.raise code cls unit index detail).slot n' = s.slot n') ∧
    (∀ e', (s.raise code cls unit index detail).eng e' = s.eng e') ∧
    (∀ q', (s.raise code cls unit index detail).coil q' = s.coil q') ∧
    (∀ n', (s.raise code cls unit index detail).port n' = s.port n') ∧
    (∀ q', (s.raise code cls unit index detail).que q' = s.que q') ∧
    (∀ n', (s.raise code cls unit index detail).inp n' = s.inp n') := by
  refine ⟨rfl, rfl, rfl, rfl, rfl, rfl, rfl, rfl, rfl, rfl, rfl, rfl, rfl, rfl, rfl, rfl, rfl, rfl, rfl, rfl, rfl, rfl, rfl, rfl, rfl, rfl, rfl, rfl, rfl, rfl, fun _ => rfl, fun _ => rfl, fun _ => rfl, fun _ _ => rfl, fun _ _ => rfl, fun _ => rfl, fun _ => rfl, fun _ => rfl, fun _ => rfl, fun _ => rfl, fun _ => rfl⟩

/-- What `raiseS` leaves as it was. -/
@[simp] theorem State.raiseS_keeps (s : State) (code cls unit index sid h step detail : Nat) :
    (s.raiseS code cls unit index sid h step detail).pending = s.pending ∧
    (s.raiseS code cls unit index sid h step detail).time = s.time ∧
    (s.raiseS code cls unit index sid h step detail).freeCtr = s.freeCtr ∧
    (s.raiseS code cls unit index sid h step detail).mem = s.mem ∧
    (s.raiseS code cls unit index sid h step detail).memBad = s.memBad ∧
    (s.raiseS code cls unit index sid h step detail).memCorr = s.memCorr ∧
    (s.raiseS code cls unit index sid h step detail).host = s.host ∧
    (s.raiseS code cls unit index sid h step detail).hostBad = s.hostBad ∧
    (s.raiseS code cls unit index sid h step detail).streams = s.streams ∧
    (s.raiseS code cls unit index sid h step detail).waiting = s.waiting ∧
    (s.raiseS code cls unit index sid h step detail).baskets = s.baskets ∧
    (s.raiseS code cls unit index sid h step detail).pans = s.pans ∧
    (s.raiseS code cls unit index sid h step detail).pots = s.pots ∧
    (s.raiseS code cls unit index sid h step detail).scales = s.scales ∧
    (s.raiseS code cls unit index sid h step detail).tokens = s.tokens ∧
    (s.raiseS code cls unit index sid h step detail).globals = s.globals ∧
    (s.raiseS code cls unit index sid h step detail).nextUid = s.nextUid ∧
    (s.raiseS code cls unit index sid h step detail).fastQ = s.fastQ ∧
    (s.raiseS code cls unit index sid h step detail).ket = s.ket ∧ (s.raiseS code cls unit index sid h step detail).cal = s.cal ∧
    (s.raiseS code cls unit index sid h step detail).feu = s.feu ∧ (s.raiseS code cls unit index sid h step detail).dzf = s.dzf ∧
    (s.raiseS code cls unit index sid h step detail).hq = s.hq ∧ (s.raiseS code cls unit index sid h step detail).trv = s.trv ∧
    (s.raiseS code cls unit index sid h step detail).dev = s.dev ∧ (s.raiseS code cls unit index sid h step detail).tx = s.tx ∧
    (s.raiseS code cls unit index sid h step detail).hellos = s.hellos ∧
    (s.raiseS code cls unit index sid h step detail).joins = s.joins ∧
    (s.raiseS code cls unit index sid h step detail).msix = s.msix ∧
    (s.raiseS code cls unit index sid h step detail).mgmt = s.mgmt ∧
    (∀ i', (s.raiseS code cls unit index sid h step detail).str i' = s.str i') ∧
    (∀ h', (s.raiseS code cls unit index sid h step detail).bsk h' = s.bsk h') ∧
    (∀ p', (s.raiseS code cls unit index sid h step detail).pan p' = s.pan p') ∧
    (∀ h' i', (s.raiseS code cls unit index sid h step detail).pot h' i' = s.pot h' i') ∧
    (∀ h' i', (s.raiseS code cls unit index sid h step detail).scale h' i' = s.scale h' i') ∧
    (∀ n', (s.raiseS code cls unit index sid h step detail).slot n' = s.slot n') ∧
    (∀ e', (s.raiseS code cls unit index sid h step detail).eng e' = s.eng e') ∧
    (∀ q', (s.raiseS code cls unit index sid h step detail).coil q' = s.coil q') ∧
    (∀ n', (s.raiseS code cls unit index sid h step detail).port n' = s.port n') ∧
    (∀ q', (s.raiseS code cls unit index sid h step detail).que q' = s.que q') ∧
    (∀ n', (s.raiseS code cls unit index sid h step detail).inp n' = s.inp n') := by
  refine ⟨rfl, rfl, rfl, rfl, rfl, rfl, rfl, rfl, rfl, rfl, rfl, rfl, rfl, rfl, rfl, rfl, rfl, rfl, rfl, rfl, rfl, rfl, rfl, rfl, rfl, rfl, rfl, rfl, rfl, rfl, fun _ => rfl, fun _ => rfl, fun _ => rfl, fun _ _ => rfl, fun _ _ => rfl, fun _ => rfl, fun _ => rfl, fun _ => rfl, fun _ => rfl, fun _ => rfl, fun _ => rfl⟩

/-- What `msi` leaves as it was. -/
@[simp] theorem State.msi_keeps (s : State) (fn v : Nat) :
    (s.msi fn v).pending = s.pending ∧ (s.msi fn v).time = s.time ∧ (s.msi fn v).freeCtr = s.freeCtr ∧ (s.msi fn v).mem = s.mem ∧
    (s.msi fn v).memBad = s.memBad ∧ (s.msi fn v).memCorr = s.memCorr ∧ (s.msi fn v).host = s.host ∧
    (s.msi fn v).hostBad = s.hostBad ∧ (s.msi fn v).streams = s.streams ∧ (s.msi fn v).waiting = s.waiting ∧
    (s.msi fn v).baskets = s.baskets ∧ (s.msi fn v).pans = s.pans ∧ (s.msi fn v).pots = s.pots ∧ (s.msi fn v).scales = s.scales ∧
    (s.msi fn v).tokens = s.tokens ∧ (s.msi fn v).globals = s.globals ∧ (s.msi fn v).nextUid = s.nextUid ∧
    (s.msi fn v).fastQ = s.fastQ ∧ (s.msi fn v).ket = s.ket ∧ (s.msi fn v).cal = s.cal ∧ (s.msi fn v).feu = s.feu ∧
    (s.msi fn v).dzf = s.dzf ∧ (s.msi fn v).hq = s.hq ∧ (s.msi fn v).trv = s.trv ∧ (s.msi fn v).dev = s.dev ∧
    (s.msi fn v).evq = s.evq ∧ (s.msi fn v).tx = s.tx ∧ (s.msi fn v).hellos = s.hellos ∧ (s.msi fn v).joins = s.joins ∧
    (s.msi fn v).mgmt = s.mgmt ∧ (∀ i', (s.msi fn v).str i' = s.str i') ∧ (∀ h', (s.msi fn v).bsk h' = s.bsk h') ∧
    (∀ p', (s.msi fn v).pan p' = s.pan p') ∧ (∀ h' i', (s.msi fn v).pot h' i' = s.pot h' i') ∧
    (∀ h' i', (s.msi fn v).scale h' i' = s.scale h' i') ∧ (∀ n', (s.msi fn v).slot n' = s.slot n') ∧
    (∀ e', (s.msi fn v).eng e' = s.eng e') ∧ (∀ q', (s.msi fn v).coil q' = s.coil q') ∧
    (∀ n', (s.msi fn v).port n' = s.port n') ∧ (∀ q', (s.msi fn v).que q' = s.que q') ∧ (∀ n', (s.msi fn v).inp n' = s.inp n') := by
  refine ⟨rfl, rfl, rfl, rfl, rfl, rfl, rfl, rfl, rfl, rfl, rfl, rfl, rfl, rfl, rfl, rfl, rfl, rfl, rfl, rfl, rfl, rfl, rfl, rfl, rfl, rfl, rfl, rfl, rfl, rfl, fun _ => rfl, fun _ => rfl, fun _ => rfl, fun _ _ => rfl, fun _ _ => rfl, fun _ => rfl, fun _ => rfl, fun _ => rfl, fun _ => rfl, fun _ => rfl, fun _ => rfl⟩

/-- What `fresh` leaves as it was. -/
@[simp] theorem State.fresh_keeps (s : State) :
    (s.fresh).pending = s.pending ∧ (s.fresh).time = s.time ∧ (s.fresh).mem = s.mem ∧ (s.fresh).memBad = s.memBad ∧
    (s.fresh).memCorr = s.memCorr ∧ (s.fresh).host = s.host ∧ (s.fresh).hostBad = s.hostBad ∧ (s.fresh).streams = s.streams ∧
    (s.fresh).waiting = s.waiting ∧ (s.fresh).baskets = s.baskets ∧ (s.fresh).pans = s.pans ∧ (s.fresh).pots = s.pots ∧
    (s.fresh).scales = s.scales ∧ (s.fresh).tokens = s.tokens ∧ (s.fresh).globals = s.globals ∧ (s.fresh).nextUid = s.nextUid ∧
    (s.fresh).fastQ = s.fastQ ∧ (s.fresh).ket = s.ket ∧ (s.fresh).cal = s.cal ∧ (s.fresh).feu = s.feu ∧ (s.fresh).dzf = s.dzf ∧
    (s.fresh).hq = s.hq ∧ (s.fresh).trv = s.trv ∧ (s.fresh).dev = s.dev ∧ (s.fresh).evq = s.evq ∧ (s.fresh).tx = s.tx ∧
    (s.fresh).hellos = s.hellos ∧ (s.fresh).joins = s.joins ∧ (s.fresh).msix = s.msix ∧ (s.fresh).mgmt = s.mgmt ∧
    (∀ i', (s.fresh).str i' = s.str i') ∧ (∀ h', (s.fresh).bsk h' = s.bsk h') ∧ (∀ p', (s.fresh).pan p' = s.pan p') ∧
    (∀ h' i', (s.fresh).pot h' i' = s.pot h' i') ∧ (∀ h' i', (s.fresh).scale h' i' = s.scale h' i') ∧
    (∀ n', (s.fresh).slot n' = s.slot n') ∧ (∀ e', (s.fresh).eng e' = s.eng e') ∧ (∀ q', (s.fresh).coil q' = s.coil q') ∧
    (∀ n', (s.fresh).port n' = s.port n') ∧ (∀ q', (s.fresh).que q' = s.que q') ∧ (∀ n', (s.fresh).inp n' = s.inp n') := by
  refine ⟨rfl, rfl, rfl, rfl, rfl, rfl, rfl, rfl, rfl, rfl, rfl, rfl, rfl, rfl, rfl, rfl, rfl, rfl, rfl, rfl, rfl, rfl, rfl, rfl, rfl, rfl, rfl, rfl, rfl, rfl, fun _ => rfl, fun _ => rfl, fun _ => rfl, fun _ _ => rfl, fun _ _ => rfl, fun _ => rfl, fun _ => rfl, fun _ => rfl, fun _ => rfl, fun _ => rfl, fun _ => rfl⟩

/-- What `bbrPut` leaves as it was. -/
@[simp] theorem State.bbrPut_keeps (s : State) (k : BbrKind) :
    (s.bbrPut k).pending = s.pending ∧ (s.bbrPut k).time = s.time ∧ (s.bbrPut k).freeCtr = s.freeCtr ∧ (s.bbrPut k).mem = s.mem ∧
    (s.bbrPut k).memBad = s.memBad ∧ (s.bbrPut k).memCorr = s.memCorr ∧ (s.bbrPut k).host = s.host ∧
    (s.bbrPut k).hostBad = s.hostBad ∧ (s.bbrPut k).streams = s.streams ∧ (s.bbrPut k).waiting = s.waiting ∧
    (s.bbrPut k).baskets = s.baskets ∧ (s.bbrPut k).pans = s.pans ∧ (s.bbrPut k).pots = s.pots ∧ (s.bbrPut k).scales = s.scales ∧
    (s.bbrPut k).tokens = s.tokens ∧ (s.bbrPut k).globals = s.globals ∧ (s.bbrPut k).nextUid = s.nextUid ∧
    (s.bbrPut k).fastQ = s.fastQ ∧ (s.bbrPut k).ket = s.ket ∧ (s.bbrPut k).cal = s.cal ∧ (s.bbrPut k).feu = s.feu ∧
    (s.bbrPut k).dzf = s.dzf ∧ (s.bbrPut k).hq = s.hq ∧ (s.bbrPut k).dev = s.dev ∧ (s.bbrPut k).evq = s.evq ∧
    (s.bbrPut k).tx = s.tx ∧ (s.bbrPut k).hellos = s.hellos ∧ (s.bbrPut k).joins = s.joins ∧ (s.bbrPut k).msix = s.msix ∧
    (s.bbrPut k).mgmt = s.mgmt ∧ (∀ i', (s.bbrPut k).str i' = s.str i') ∧ (∀ h', (s.bbrPut k).bsk h' = s.bsk h') ∧
    (∀ p', (s.bbrPut k).pan p' = s.pan p') ∧ (∀ h' i', (s.bbrPut k).pot h' i' = s.pot h' i') ∧
    (∀ h' i', (s.bbrPut k).scale h' i' = s.scale h' i') ∧ (∀ n', (s.bbrPut k).slot n' = s.slot n') ∧
    (∀ e', (s.bbrPut k).eng e' = s.eng e') ∧ (∀ q', (s.bbrPut k).coil q' = s.coil q') ∧
    (∀ n', (s.bbrPut k).port n' = s.port n') ∧ (∀ q', (s.bbrPut k).que q' = s.que q') ∧ (∀ n', (s.bbrPut k).inp n' = s.inp n') := by
  refine ⟨rfl, rfl, rfl, rfl, rfl, rfl, rfl, rfl, rfl, rfl, rfl, rfl, rfl, rfl, rfl, rfl, rfl, rfl, rfl, rfl, rfl, rfl, rfl, rfl, rfl, rfl, rfl, rfl, rfl, rfl, fun _ => rfl, fun _ => rfl, fun _ => rfl, fun _ _ => rfl, fun _ _ => rfl, fun _ => rfl, fun _ => rfl, fun _ => rfl, fun _ => rfl, fun _ => rfl, fun _ => rfl⟩

/-- What `send` leaves as it was. -/
@[simp] theorem State.send_keeps (s : State) (m : MgmtMsg) :
    (s.send m).pending = s.pending ∧ (s.send m).time = s.time ∧ (s.send m).freeCtr = s.freeCtr ∧ (s.send m).mem = s.mem ∧
    (s.send m).memBad = s.memBad ∧ (s.send m).memCorr = s.memCorr ∧ (s.send m).host = s.host ∧ (s.send m).hostBad = s.hostBad ∧
    (s.send m).streams = s.streams ∧ (s.send m).waiting = s.waiting ∧ (s.send m).baskets = s.baskets ∧ (s.send m).pans = s.pans ∧
    (s.send m).pots = s.pots ∧ (s.send m).scales = s.scales ∧ (s.send m).tokens = s.tokens ∧ (s.send m).globals = s.globals ∧
    (s.send m).nextUid = s.nextUid ∧ (s.send m).fastQ = s.fastQ ∧ (s.send m).ket = s.ket ∧ (s.send m).cal = s.cal ∧
    (s.send m).feu = s.feu ∧ (s.send m).dzf = s.dzf ∧ (s.send m).hq = s.hq ∧ (s.send m).trv = s.trv ∧ (s.send m).dev = s.dev ∧
    (s.send m).evq = s.evq ∧ (s.send m).tx = s.tx ∧ (s.send m).hellos = s.hellos ∧ (s.send m).joins = s.joins ∧
    (s.send m).msix = s.msix ∧ (∀ i', (s.send m).str i' = s.str i') ∧ (∀ h', (s.send m).bsk h' = s.bsk h') ∧
    (∀ p', (s.send m).pan p' = s.pan p') ∧ (∀ h' i', (s.send m).pot h' i' = s.pot h' i') ∧
    (∀ h' i', (s.send m).scale h' i' = s.scale h' i') ∧ (∀ n', (s.send m).slot n' = s.slot n') ∧
    (∀ e', (s.send m).eng e' = s.eng e') ∧ (∀ q', (s.send m).coil q' = s.coil q') ∧ (∀ n', (s.send m).port n' = s.port n') ∧
    (∀ q', (s.send m).que q' = s.que q') ∧ (∀ n', (s.send m).inp n' = s.inp n') := by
  refine ⟨rfl, rfl, rfl, rfl, rfl, rfl, rfl, rfl, rfl, rfl, rfl, rfl, rfl, rfl, rfl, rfl, rfl, rfl, rfl, rfl, rfl, rfl, rfl, rfl, rfl, rfl, rfl, rfl, rfl, rfl, fun _ => rfl, fun _ => rfl, fun _ => rfl, fun _ _ => rfl, fun _ _ => rfl, fun _ => rfl, fun _ => rfl, fun _ => rfl, fun _ => rfl, fun _ => rfl, fun _ => rfl⟩

/-- What `putPort` leaves as it was. -/
@[simp] theorem State.putPort_keeps (s : State) (port : Nat) (p : Packet) :
    (s.putPort port p).pending = s.pending ∧ (s.putPort port p).time = s.time ∧ (s.putPort port p).freeCtr = s.freeCtr ∧
    (s.putPort port p).mem = s.mem ∧ (s.putPort port p).memBad = s.memBad ∧ (s.putPort port p).memCorr = s.memCorr ∧
    (s.putPort port p).host = s.host ∧ (s.putPort port p).hostBad = s.hostBad ∧ (s.putPort port p).streams = s.streams ∧
    (s.putPort port p).waiting = s.waiting ∧ (s.putPort port p).baskets = s.baskets ∧ (s.putPort port p).pans = s.pans ∧
    (s.putPort port p).pots = s.pots ∧ (s.putPort port p).scales = s.scales ∧ (s.putPort port p).tokens = s.tokens ∧
    (s.putPort port p).globals = s.globals ∧ (s.putPort port p).nextUid = s.nextUid ∧ (s.putPort port p).fastQ = s.fastQ ∧
    (s.putPort port p).ket = s.ket ∧ (s.putPort port p).cal = s.cal ∧ (s.putPort port p).feu = s.feu ∧
    (s.putPort port p).dzf = s.dzf ∧ (s.putPort port p).hq = s.hq ∧ (s.putPort port p).trv = s.trv ∧
    (s.putPort port p).dev = s.dev ∧ (s.putPort port p).evq = s.evq ∧ (s.putPort port p).hellos = s.hellos ∧
    (s.putPort port p).joins = s.joins ∧ (s.putPort port p).msix = s.msix ∧ (s.putPort port p).mgmt = s.mgmt ∧
    (∀ i', (s.putPort port p).str i' = s.str i') ∧ (∀ h', (s.putPort port p).bsk h' = s.bsk h') ∧
    (∀ p', (s.putPort port p).pan p' = s.pan p') ∧ (∀ h' i', (s.putPort port p).pot h' i' = s.pot h' i') ∧
    (∀ h' i', (s.putPort port p).scale h' i' = s.scale h' i') ∧ (∀ n', (s.putPort port p).slot n' = s.slot n') ∧
    (∀ e', (s.putPort port p).eng e' = s.eng e') ∧ (∀ q', (s.putPort port p).coil q' = s.coil q') ∧
    (∀ n', (s.putPort port p).port n' = s.port n') ∧ (∀ q', (s.putPort port p).que q' = s.que q') ∧
    (∀ n', (s.putPort port p).inp n' = s.inp n') := by
  refine ⟨rfl, rfl, rfl, rfl, rfl, rfl, rfl, rfl, rfl, rfl, rfl, rfl, rfl, rfl, rfl, rfl, rfl, rfl, rfl, rfl, rfl, rfl, rfl, rfl, rfl, rfl, rfl, rfl, rfl, rfl, fun _ => rfl, fun _ => rfl, fun _ => rfl, fun _ _ => rfl, fun _ _ => rfl, fun _ => rfl, fun _ => rfl, fun _ => rfl, fun _ => rfl, fun _ => rfl, fun _ => rfl⟩

/-- What `putJoin` leaves as it was. -/
@[simp] theorem State.putJoin_keeps (s : State) (sub port uid node : Nat) :
    (s.putJoin sub port uid node).pending = s.pending ∧ (s.putJoin sub port uid node).time = s.time ∧
    (s.putJoin sub port uid node).freeCtr = s.freeCtr ∧ (s.putJoin sub port uid node).mem = s.mem ∧
    (s.putJoin sub port uid node).memBad = s.memBad ∧ (s.putJoin sub port uid node).memCorr = s.memCorr ∧
    (s.putJoin sub port uid node).host = s.host ∧ (s.putJoin sub port uid node).hostBad = s.hostBad ∧
    (s.putJoin sub port uid node).streams = s.streams ∧ (s.putJoin sub port uid node).waiting = s.waiting ∧
    (s.putJoin sub port uid node).baskets = s.baskets ∧ (s.putJoin sub port uid node).pans = s.pans ∧
    (s.putJoin sub port uid node).pots = s.pots ∧ (s.putJoin sub port uid node).scales = s.scales ∧
    (s.putJoin sub port uid node).tokens = s.tokens ∧ (s.putJoin sub port uid node).globals = s.globals ∧
    (s.putJoin sub port uid node).nextUid = s.nextUid ∧ (s.putJoin sub port uid node).fastQ = s.fastQ ∧
    (s.putJoin sub port uid node).ket = s.ket ∧ (s.putJoin sub port uid node).cal = s.cal ∧
    (s.putJoin sub port uid node).feu = s.feu ∧ (s.putJoin sub port uid node).dzf = s.dzf ∧
    (s.putJoin sub port uid node).hq = s.hq ∧ (s.putJoin sub port uid node).trv = s.trv ∧
    (s.putJoin sub port uid node).dev = s.dev ∧ (s.putJoin sub port uid node).evq = s.evq ∧
    (s.putJoin sub port uid node).tx = s.tx ∧ (s.putJoin sub port uid node).hellos = s.hellos ∧
    (s.putJoin sub port uid node).msix = s.msix ∧ (s.putJoin sub port uid node).mgmt = s.mgmt ∧
    (∀ i', (s.putJoin sub port uid node).str i' = s.str i') ∧ (∀ h', (s.putJoin sub port uid node).bsk h' = s.bsk h') ∧
    (∀ p', (s.putJoin sub port uid node).pan p' = s.pan p') ∧ (∀ h' i', (s.putJoin sub port uid node).pot h' i' = s.pot h' i') ∧
    (∀ h' i', (s.putJoin sub port uid node).scale h' i' = s.scale h' i') ∧
    (∀ n', (s.putJoin sub port uid node).slot n' = s.slot n') ∧ (∀ e', (s.putJoin sub port uid node).eng e' = s.eng e') ∧
    (∀ q', (s.putJoin sub port uid node).coil q' = s.coil q') ∧ (∀ n', (s.putJoin sub port uid node).port n' = s.port n') ∧
    (∀ q', (s.putJoin sub port uid node).que q' = s.que q') ∧ (∀ n', (s.putJoin sub port uid node).inp n' = s.inp n') := by
  refine ⟨rfl, rfl, rfl, rfl, rfl, rfl, rfl, rfl, rfl, rfl, rfl, rfl, rfl, rfl, rfl, rfl, rfl, rfl, rfl, rfl, rfl, rfl, rfl, rfl, rfl, rfl, rfl, rfl, rfl, rfl, fun _ => rfl, fun _ => rfl, fun _ => rfl, fun _ _ => rfl, fun _ _ => rfl, fun _ => rfl, fun _ => rfl, fun _ => rfl, fun _ => rfl, fun _ => rfl, fun _ => rfl⟩

/-! ## Reading what was written -/

/-- Reading `str` after `setStr`. -/
@[simp] theorem State.setStr_str (s : State) (i j : Nat) (v : Stream) : (s.setStr i v).str j = if j = i then v else s.str j :=
  tget_tset _ _ _ _ _

/-- Reading `bsk` after `setBsk`. -/
@[simp] theorem State.setBsk_bsk (s : State) (h j : Nat) (v : Basket) : (s.setBsk h v).bsk j = if j = h then v else s.bsk j :=
  tget_tset _ _ _ _ _

/-- Reading `pan` after `setPan`. -/
@[simp] theorem State.setPan_pan (s : State) (p j : Nat) (v : Pan) : (s.setPan p v).pan j = if j = p then v else s.pan j :=
  tget_tset _ _ _ _ _

/-- Reading `slot` after `setSlot`. -/
@[simp] theorem State.setSlot_slot (s : State) (n j : Nat) (v : Slot) : (s.setSlot n v).slot j = if j = n then v else s.slot j :=
  tget_tset _ _ _ _ _

/-- Reading `eng` after `setEng`. -/
@[simp] theorem State.setEng_eng (s : State) (e j : Nat) (v : Engine) : (s.setEng e v).eng j = if j = e then v else s.eng j :=
  tget_tset _ _ _ _ _

/-- Reading `coil` after `setCoil`. -/
@[simp] theorem State.setCoil_coil (s : State) (q j : Nat) (v : Coil) : (s.setCoil q v).coil j = if j = q then v else s.coil j :=
  tget_tset _ _ _ _ _

/-- Reading `port` after `setPort`. -/
@[simp] theorem State.setPort_port (s : State) (n j : Nat) (v : Port) : (s.setPort n v).port j = if j = n then v else s.port j :=
  tget_tset _ _ _ _ _

/-- Reading `que` after `setQue`. -/
@[simp] theorem State.setQue_que (s : State) (q j : Nat) (v : Queue) : (s.setQue q v).que j = if j = q then v else s.que j :=
  tget_tset _ _ _ _ _

/-- Reading `inp` after `setInp`. -/
@[simp] theorem State.setInp_inp (s : State) (n j : Nat) (v : Input) : (s.setInp n v).inp j = if j = n then v else s.inp j :=
  tget_tset _ _ _ _ _

end Sys2Proof.Machine
end

