-- ==== Sys2Proof/Laws/Steps.lean ====
section
/-! SUPPORT. A head step that issues: what a step command answers, and what the end of a control step changes. -/

set_option linter.unusedVariables false
set_option linter.unusedSimpArgs false
set_option linter.unreachableTactic false
set_option linter.unusedTactic false

namespace Sys2Proof.Machine

theorem scrub_eq (s : State) (a n : Nat) :
    s.scrub a n = { s with memCorr := (s.scrub a n).memCorr, memCe := (s.scrub a n).memCe, memUe := (s.scrub a n).memUe } := by
  simp only [State.scrub]; rw [State.eccCount_eq]

theorem headGo_ready {u : State} {sid : Nat} {h : Hdr} (hold) (eff)
    (token : h.wait ≠ 0 → tokLegal h.wait = true →
      u.waitersAhead sid (u.str sid).bsk h.wait (u.waitFrom sid h.wait) < (u.tok (u.str sid).bsk h.wait).count)
    (pred : predHolds (u.str sid).flags h.pred = true)
    (block : blockLen h.opc = 0 ∨ u.badIn ((u.str sid).win (blockOff h (iterOf (u.str sid)))) (blockLen h.opc) = [])
    (room : isControl h.opc = true ∨ inflightCnt (u.bsk (u.str sid).bsk) < 512) :
    let f := if blockLen h.opc = 0 then u else u.scrub ((u.str sid).win (blockOff h (iterOf (u.str sid)))) (blockLen h.opc)
    f.potHold sid h = false → f.validate sid h = none → hold f sid h = false → validateHead (u.str sid) h = none →
    u.headGo sid h hold eff = eff (issueOf f sid h) sid h := by
  intro f hp hv hh hx
  have hw : ¬ ((h.wait ≠ 0 ∧ tokLegal h.wait = true) ∧ (u.tok (u.str sid).bsk h.wait).count ≤ u.waitersAhead sid (u.str sid).bsk h.wait (u.waitFrom sid h.wait)) := by
    rintro ⟨⟨h1, h2⟩, h3⟩
    have := token h1 h2
    omega
  have hb : (if blockLen h.opc = 0 then none else (u.badIn ((u.str sid).win (blockOff h (iterOf (u.str sid)))) (blockLen h.opc)).head?) = none := by
    rcases block with h1 | h1
    · simp [h1]
    · simp [h1]
  have hroom : ¬ ((!isControl h.opc && decide (512 ≤ inflightCnt (u.bsk (u.str sid).bsk))) = true) := by
    rcases room with h1 | h1
    · simp [h1]
    · simp; omega
  unfold State.headGo
  simp only [hw, if_false, pred, Bool.not_true, Bool.false_eq_true, hx, hb]
  rw [if_neg (by rw [show (if blockLen h.opc = 0 then u else _) = f from rfl, hp]; simp)]
  rw [show (if blockLen h.opc = 0 then u else _) = f from rfl, hv]
  simp only [hroom, if_false, Bool.false_eq_true, hh]
  rfl

theorem validateHead_of_validate {u : State} {sid : Nat} {h : Hdr} (hv : u.validate sid h = none) : validateHead (u.str sid) h = none := by
  unfold State.validate at hv
  simp only at hv
  split at hv
  · cases hv
  · assumption

theorem runStep_ready {s : State} {sid opc : Nat} {h : Hdr} (hr : HeadReady s sid opc h) (eff) (hold)
   (hh : hold (headRead s sid h) sid h = false) (ha : opcAssigned opc = true) :
    runStep opc hold eff sid s = .next (eff (issued s sid h) sid h) := by
  have hc := hr.code
  unfold runStep
  rw [guard, if_pos (by simpa using hr.range)]
  unfold State.runHead
  have hl := hr.live
  have ht := hr.table
  simp only [hl, hr.good, hr.word, Bool.not_true, Bool.false_eq_true, if_false, show ¬ ((s.str sid).tblSteps ≤ (s.str sid).ptr) by omega, List.head?_nil, hc, ne_eq, not_true_eq_false, and_false]
  congr 1
  have hx : validateHead ((flushed s sid h).str sid) h = none := by
    have := validateHead_of_validate hr.valid
    rwa [show (headRead s sid h).str sid = (flushed s sid h).str sid from by
      unfold headRead; simp only []; split
      · rfl
      · rw [scrub_eq]; rfl] at this
  have hg := headGo_ready (u := flushed s sid h) hold eff hr.token hr.pred (by rw [hc]; exact hr.block) (by rw [hc]; exact hr.room)
    hr.pot hr.valid hh hx
  have hi : ∀ u, flushed s sid h = u → issued s sid h = issueOf
      (if blockLen h.opc = 0 then u else u.scrub ((u.str sid).win (blockOff h (iterOf (u.str sid)))) (blockLen h.opc)) sid h := by
    rintro _ rfl; rfl
  have e0 := scrub_eq s (s.str sid).stepAddr 16
  have es : (s.scrub (s.str sid).stepAddr 16).str sid = s.str sid := by rw [e0]; rfl
  have eb : (s.scrub (s.str sid).stepAddr 16).bsk (s.str sid).bsk = s.bsk (s.str sid).bsk := by rw [e0]; rfl
  have ef : ∀ a n, (s.scrub (s.str sid).stepAddr 16).hostFail a n = s.hostFail a n := fun a n => by rw [e0]; rfl
  unfold State.headStep
  simp only [es, eb, ef]
  by_cases ho : ordOf h = 2
  · obtain ⟨f1, f2⟩ := hr.fence ho
    have hf : ((s.bsk (s.str sid).bsk).inflight.any fun r => decide (r.sid = sid)) = false := by
      simp only [List.all_eq_true, List.any_eq_false, decide_eq_true_eq, bne_iff_ne, ne_eq] at f1 ⊢
      exact f1
    simp only [ho, if_true, hf, Bool.false_eq_true, if_false]
    cases hw : (s.str sid).hostW with
    | none =>
      have : flushed s sid h = s.scrub (s.str sid).stepAddr 16 := by simp only [flushed, es, hw, Option.isSome_none, Bool.false_eq_true, and_false, if_false]
      rw [this] at hg
      rw [hi _ this]
      exact hg
    | some a =>
      simp only [f2 a hw]
      have : flushed s sid h = (s.scrub (s.str sid).stepAddr 16).setStr sid { s.str sid with hostW := none } := by
        simp only [flushed, es, hw, ho, Option.isSome_some, and_self, if_true]
      rw [this] at hg
      rw [hi _ this]
      exact hg
  · simp only [ho, if_false]
    have : flushed s sid h = s.scrub (s.str sid).stepAddr 16 := by simp only [flushed, ho, false_and, if_false]
    rw [this] at hg
    rw [hi _ this]
    exact hg

theorem takeTok_eq (s : State) (b c : Nat) : s.takeTok b c = { s with tokens := (s.takeTok b c).tokens, globals := (s.takeTok b c).globals } := by
  unfold State.takeTok State.setTok
  split
  · rfl
  · simp only []; split <;> rfl

theorem tirqMsi_eq (s : State) (c : Nat) : s.tirqMsi c = { s with msix := (s.tirqMsi c).msix } := by
  unfold State.tirqMsi; split <;> rfl

theorem tokIrq_eq (s : State) (c : Nat) : s.tokIrq c = { s with msix := (s.tokIrq c).msix, hq := (s.tokIrq c).hq } := by
  unfold State.tokIrq
  simp only []
  split
  · split
    · rw [tirqMsi_eq]
    · rfl
  · rfl

/-- What a signal depends on and changes. -/
theorem sig_congr (s u : State) (b c : Nat) (h1 : u.tokens = s.tokens) (h2 : u.globals = s.globals) (h3 : u.hq = s.hq) (h4 : u.msix = s.msix) (h5 : u.time = s.time) :
    u.sig b c = { u with tokens := (s.sig b c).tokens, globals := (s.sig b c).globals, hq := (s.sig b c).hq, msix := (s.sig b c).msix } := by
  obtain ⟨⟩ := s; obtain ⟨⟩ := u
  simp only at h1 h2 h3 h4 h5
  subst h1 h2 h3 h4 h5
  unfold State.sig State.sigK
  split
  · rfl
  · split
    · simp only [State.setTok, State.tok, State.tokIrq, State.tirqMsi, State.msi]
      split <;> split <;> (try split) <;> (try split) <;> (try split) <;> first | rfl | simp_all
    · rfl

theorem flagsAfter_none (f : Flags) (r : StepRec) (h1 : r.widen = false) (h2 : r.outSat = false) (h3 : r.potOvf = false) (h4 : r.status ≠ 2) : flagsAfter f r = f := by
  cases f; simp [flagsAfter, h1, h2, h3, h4]

theorem sig_reads (u : State) (b c : Nat) : (∀ j, (u.sig b c).str j = u.str j) ∧ (∀ j, (u.sig b c).bsk j = u.bsk j) := by
  rw [sig_congr u u b c rfl rfl rfl rfl rfl]
  exact ⟨fun _ => rfl, fun _ => rfl⟩

theorem tryFinish_plain (e : State) (r : StepRec) (hrec : hasRecord r.opc = false) (hd : r.done = true) (h4 : r.status ≠ 2)
    (h5 : r.chainOf = none) :
    e.tryFinish r = if ordClear (e.bsk r.h).inflight r then
        (((e.setStr r.sid { e.str r.sid with flags := flagsAfter (e.str r.sid).flags r, retry := retryAfter (e.str r.sid).retry r }).setBsk r.h { e.bsk r.h with inflight := (e.bsk r.h).inflight.filter (fun x => x.uid != r.uid) }).sig r.h r.sig)
      else e := by
  have hh : hasRecord 0x0A = true := by decide
  have h0A : r.opc ≠ 0x0A := fun e => by rw [e, hh] at hrec; cases hrec
  unfold State.tryFinish State.tryEnd
  simp only [hd, Bool.true_and, h5, Option.bind_none]
  by_cases he : ordClear (e.bsk r.h).inflight r = true
  · simp only [he, hrec, State.finish, h4, h0A, Bool.false_and, Bool.not_true, Bool.false_eq_true, if_false, if_true, false_and]
    rfl
  · simp [he]

theorem over_spec (u : State) (r : StepRec) (hrec : hasRecord r.opc = false) (hop : ¬(0x51 ≤ r.opc ∧ r.opc ≤ 0x54))
    (h1 : r.widen = false) (h2 : r.outSat = false) (h3 : r.potOvf = false) (h4 : r.status ≠ 2) (h5 : r.chainOf = none) :
    let fl := (u.bsk r.h).inflight ++ [{ r with done := true }]
    let ends := ordClear fl { r with done := true }
    let w := if ends then u.sig r.h r.sig else u
    (∀ j, (u.over r).str j = u.str j) ∧
    (∀ j, (u.over r).bsk j = if j = r.h then { u.bsk r.h with inflight := if ends then fl.filter (fun x => x.uid != r.uid) else fl } else u.bsk j) ∧
    u.over r = { u with streams := (u.over r).streams, baskets := (u.over r).baskets, tokens := w.tokens, globals := w.globals, hq := w.hq, msix := w.msix, nextUid := u.nextUid + 1 } := by
  intro fl ends w
  have ho : u.over r = (u.enter { r with done := true }).tryFinish { r with done := true } := rfl
  have hb : ∀ j, (u.enter { r with done := true }).bsk j = if j = r.h then { u.bsk r.h with inflight := fl } else u.bsk j := by
    intro j; simp [State.enter, State.bsk, State.setBsk, tget_tset, fl]
  have hst : ∀ j, (u.enter { r with done := true }).str j = u.str j := fun _ => rfl
  have he : u.enter { r with done := true } = { u with baskets := (u.enter { r with done := true }).baskets, nextUid := u.nextUid + 1 } := rfl
  generalize u.enter { r with done := true } = e at ho hb hst he
  rw [tryFinish_plain e { r with done := true } hrec rfl h4 h5] at ho
  have hfl : ∀ f o, flagsAfter f { r with done := true } = f ∧ retryAfter o { r with done := true } = o := by
    intro f o
    exact ⟨flagsAfter_none _ _ h1 h2 h3 h4, by simp [retryAfter, hop]⟩
  have hbi : (e.bsk r.h).inflight = fl := by rw [hb, if_pos rfl]
  simp only [(hfl _ none).1, fun o => (hfl {} o).2, hbi] at ho
  by_cases hc : ends = true
  · have hw : w = u.sig r.h r.sig := by simp [w, hc]
    rw [if_pos hc] at ho
    rw [ho]
    refine ⟨?_, ?_, ?_⟩
    · intro j; rw [(sig_reads _ _ _).1]
      rw [show ∀ (x : State) b v, (x.setBsk b v).str j = x.str j from fun _ _ _ => rfl, State.setStr_str, hst]
      split
      · rename_i hj; rw [hj]
      · exact hst j
    · intro j; rw [(sig_reads _ _ _).2]; simp only [State.setBsk_bsk, State.setStr_keeps, hb, if_true, hc]
      split <;> rfl
    · rw [hw, sig_congr u (State.setBsk _ _ _) r.h r.sig (by rw [he]; rfl) (by rw [he]; rfl) (by rw [he]; rfl) (by rw [he]; rfl) (by rw [he]; rfl)]
      rw [he]; rfl
  · have hw : w = u := by simp [w, hc]
    rw [if_neg hc] at ho
    rw [ho, hw]
    refine ⟨hst, fun j => ?_, ?_⟩
    · rw [hb, if_neg hc]
    · conv_lhs => rw [he]
      rw [he]

/-- u is s with the head step issued and its stream at v. -/
structure At (s u : State) (sid : Nat) (h : Hdr) (v : Stream) : Prop where
  str : ∀ j, u.str j = if j = sid then v else s.str j
  bsk : ∀ j, u.bsk j = if j = (s.str sid).bsk then { s.bsk (s.str sid).bsk with issueCnt := sat32 ((s.bsk (s.str sid).bsk).issueCnt + 1) } else s.bsk j
  rest : u = { s with tokens := (s.takeTok (s.str sid).bsk h.wait).tokens, globals := (s.takeTok (s.str sid).bsk h.wait).globals, streams := u.streams, baskets := u.baskets }

theorem issueOf_at (s : State) (sid : Nat) (h : Hdr) : At s (issueOf s sid h) sid h { s.str sid with waitSince := none } := by
  have hT := takeTok_eq s (s.str sid).bsk h.wait
  generalize hT1 : (s.takeTok (s.str sid).bsk h.wait).tokens = T at hT
  generalize hG1 : (s.takeTok (s.str sid).bsk h.wait).globals = G at hT
  refine ⟨?_, ?_, ?_⟩
  · intro j
    simp only [issueOf, hT]
    rw [show ∀ (x : State) b v, (x.setBsk b v).str j = x.str j from fun _ _ _ => rfl, State.setStr_str]
    split <;> rfl
  · intro j
    simp only [issueOf, hT, State.bsk, State.setStr, State.setBsk, tget_tset]
  · rw [hT1, hG1]; simp only [issueOf, hT]; rfl

theorem At.set {s u : State} {sid : Nat} {h : Hdr} {v : Stream} (hu : At s u sid h v) (v' : Stream) : At s (u.setStr sid v') sid h v' := by
  refine ⟨?_, ?_, ?_⟩
  · intro j; rw [State.setStr_str, hu.str]; split <;> rfl
  · exact hu.bsk
  · have := hu.rest
    generalize u.streams = a at this
    conv_lhs => rw [this]
    rw [this]; rfl

theorem ctl_done {s u : State} {sid : Nat} {h : Hdr} {v : Stream} (hu : At s u sid h v) (hw : v.waitSince = none)
    (hrec : hasRecord h.opc = false) (hop : ¬(0x51 ≤ h.opc ∧ h.opc ≤ 0x54)) :
    CtlDone s (u.over (recAt s sid h)) sid h v := by
  have hT := takeTok_eq s (s.str sid).bsk h.wait
  have e1 := hu.rest
  generalize hT1 : (s.takeTok (s.str sid).bsk h.wait).tokens = T at hT e1
  generalize hG1 : (s.takeTok (s.str sid).bsk h.wait).globals = G at hT e1
  obtain ⟨q1, q2, q3⟩ := over_spec u (recAt s sid h) hrec hop rfl rfl rfl (by simp [recAt]) rfl
  have e2 := hu.str
  have e3 := hu.bsk
  unfold CtlDone
  refine ⟨?_, ?_, ?_, ?_, ?_⟩
  · rw [q1, e2, if_pos rfl, ← hw]
  · intro j hj; rw [q1, e2, if_neg hj]
  · rw [q2, if_pos (show (s.str sid).bsk = (recAt s sid h).h from rfl), show (recAt s sid h).h = (s.str sid).bsk from rfl, e3, if_pos rfl]
    rfl
  · intro j hj; rw [q2, if_neg (show ¬ j = (recAt s sid h).h from hj), e3, if_neg hj]
  · rw [q3]
    have e4 : (u.bsk (recAt s sid h).h).inflight = (s.bsk (s.str sid).bsk).inflight := by
      rw [show (recAt s sid h).h = (s.str sid).bsk from rfl, e3, if_pos rfl]
    rw [e4]
    have ec : ordClear ((s.bsk (s.str sid).bsk).inflight ++ [{ recAt s sid h with done := true }]) { recAt s sid h with done := true } = ordClear ((s.bsk (s.str sid).bsk).inflight ++ [ctlRec s sid h]) (ctlRec s sid h) := rfl
    rw [ec]
    have es := sig_congr (s.takeTok (s.str sid).bsk h.wait) u (s.str sid).bsk h.sig (by rw [e1, hT]) (by rw [e1, hT]) (by rw [e1, hT]) (by rw [e1, hT]) (by rw [e1, hT])
    by_cases he : ordClear ((s.bsk (s.str sid).bsk).inflight ++ [ctlRec s sid h]) (ctlRec s sid h) = true
    · simp only [he, if_true]
      rw [show u.sig (recAt s sid h).h (recAt s sid h).sig = u.sig (s.str sid).bsk h.sig from rfl, es]
      conv_rhs => rw [q3]
      simp only []
      generalize u.over (recAt s sid h) = O
      rw [e1]
    · simp only [he, if_false]
      generalize u.over (recAt s sid h) = O
      rw [e1, hT]; rfl

theorem recAt_at {s u : State} {sid : Nat} {h : Hdr} {v : Stream} (hu : At s u sid h v) (hb : v.bsk = (s.str sid).bsk) (hp : v.ptr = (s.str sid).ptr) : recAt u sid h = recAt s sid h := by
  unfold recAt
  rw [hu.str, if_pos rfl, hb, hp]
  rw [show u.nextUid = s.nextUid from by rw [hu.rest], show u.time = s.time from by rw [hu.rest],
    show u.dzf = s.dzf from by rw [hu.rest]]

theorem issued_at (s : State) (sid : Nat) (h : Hdr) :
    At (headRead s sid h) (issued s sid h) sid h { (headRead s sid h).str sid with waitSince := none } := issueOf_at _ sid h

/-- A control step that goes on at p after its stream became v. -/
theorem ctlTo_done {s u : State} {sid : Nat} {h : Hdr} {p : Nat} (v : Stream) (hu : At s u sid h { v with waitSince := none })
    (hb : v.bsk = (s.str sid).bsk) (hp : v.ptr = (s.str sid).ptr)
    (hrec : hasRecord h.opc = false) (hop : ¬(0x51 ≤ h.opc ∧ h.opc ≤ 0x54)) :
    CtlDone s (u.ctlTo sid h p) sid h { v with ptr := p } := by
  have h0 : u.ctlTo sid h p = (u.setStr sid { v with waitSince := none, ptr := p }).over (recAt s sid h) := by
    unfold State.ctlTo State.goTo
    rw [recAt_at hu hb hp, hu.str, if_pos rfl]
  rw [h0]
  have h1 := hu.set { v with waitSince := none, ptr := p }
  have h2 := ctl_done h1 rfl hrec hop
  unfold CtlDone at h2 ⊢
  exact h2

theorem sig_rdB (u : State) (b c : Nat) (k : Nat) : (u.sig b c).rdB k = u.rdB k := by
  rw [sig_congr u u b c rfl rfl rfl rfl rfl]; rfl

theorem settle_str (u : State) (b j : Nat) : (u.settleBsk b).str j = u.str j := by
  unfold State.settleBsk; simp only []; split <;> rfl

theorem settle_rdB (u : State) (b j : Nat) : (u.settleBsk b).rdB j = u.rdB j := by
  unfold State.settleBsk; simp only []; split <;> rfl

theorem wr_str (u : State) (a b j) : (u.wr a b).str j = u.str j := by simp only [State.wr]; rw [State.eccCount_eq]; rfl

theorem wr_bsk (u : State) (a b j) : (u.wr a b).bsk j = u.bsk j := by simp only [State.wr]; rw [State.eccCount_eq]; rfl

theorem wrCtx_str (u : State) (i j : Nat) : (u.wrCtx i).str j = u.str j := wr_str _ _ _ _

theorem wrN_str (u : State) (a n v j : Nat) : (u.wrN a n v).str j = u.str j := wr_str _ _ _ _

theorem wrN_bsk (u : State) (a n v j : Nat) : (u.wrN a n v).bsk j = u.bsk j := wr_bsk _ _ _ _

theorem wrDesc_str (u : State) (i j : Nat) (b) : (u.wrDesc i b).str j = u.str j := by
  simp only [State.wrDesc, wrN_str]; split <;> simp only [wrN_str]

theorem wrDesc_bsk (u : State) (i j : Nat) (b) : (u.wrDesc i b).bsk j = u.bsk j := by
  simp only [State.wrDesc, wrN_bsk]; split <;> simp only [wrN_bsk]

theorem putStr_str (u : State) (i j : Nat) (v : Stream) : (u.putStr i v).str j = if j = i then v else u.str j := by
  unfold State.putStr; rw [wrDesc_str, State.setStr_str]

theorem putRec_str (u : State) (i j : Nat) (b) : (u.putRec i b).str j = if j = i then { u.str i with crTail := ((u.str i).crTail + 1) % 2 ^ 32 } else u.str j := by
  simp only [State.putRec, wrN_str, State.setStr_str, wr_str]

theorem endStr_str (u : State) (i j : Nat) : (u.endStr i).str j = if j = i then { u.str i with st := .ended, halting := false } else u.str j := by
  unfold State.endStr; rw [settle_str, wrCtx_str, putStr_str]

theorem finish_str (s : State) (r : StepRec) (j : Nat) (h1 : r.status ≠ 2) (hrec : hasRecord r.opc = true)
    (hf : flagsAfter (s.str r.sid).flags r = (s.str r.sid).flags) (hr : retryAfter (s.str r.sid).retry r = (s.str r.sid).retry) :
    (s.finish r).str j = if j = r.sid then
      (if r.opc = 0x0A ∧ r.status = 5 then { s.str r.sid with crTail := ((s.str r.sid).crTail + 1) % 2 ^ 32, st := .ended, halting := false }
       else { s.str r.sid with crTail := ((s.str r.sid).crTail + 1) % 2 ^ 32 })
    else s.str j := by
  have hbs : ∀ (x : State) b v j, (x.setBsk b v).str j = x.str j := fun _ _ _ _ => rfl
  have e : ({ s.str r.sid with flags := (s.str r.sid).flags, retry := (s.str r.sid).retry } : Stream) = s.str r.sid := rfl
  unfold State.finish
  simp only [h1, if_false, hrec, if_true, hf, hr, e]
  split
  · simp only [endStr_str, (sig_reads _ _ _).1, hbs, putRec_str, State.setStr_str, if_true]
    split <;> rfl
  · simp only [(sig_reads _ _ _).1, hbs, putRec_str, State.setStr_str, if_true]
    split
    · rfl
    · rfl

theorem enter_str (u : State) (r : StepRec) (j : Nat) : (u.enter r).str j = u.str j := rfl

theorem enter_bsk (u : State) (r : StepRec) (j : Nat) : (u.enter r).bsk j = if j = r.h then { u.bsk r.h with inflight := (u.bsk r.h).inflight ++ [r] } else u.bsk j := by
  simp only [State.enter, State.bsk, State.setBsk, tget_tset]

/-- A step with a record, over at issue, in three cases. -/
theorem over_rec {s u : State} {sid : Nat} {h : Hdr} {v : Stream} (hu : At s u sid h v) (status failed : Nat) (h1 : status ≠ 2) (hrec : hasRecord h.opc = true)
    (hop : ¬(0x51 ≤ h.opc ∧ h.opc ≤ 0x54))
    (ht : v.crTail = (s.str sid).crTail) (hl : v.crLog2 = (s.str sid).crLog2) :
    let r := endRec s sid h status failed
    let e := u.enter r
    (endsNow s sid r → u.over { recAt s sid h with status := status, failed := failed } = e.finish r) ∧
    (ordClear ((s.bsk (s.str sid).bsk).inflight ++ [r]) r = false → u.over { recAt s sid h with status := status, failed := failed } = e) ∧
    (¬ endsNow s sid r → (∀ j, (u.over { recAt s sid h with status := status, failed := failed }).str j = u.str j) ∧ (∀ k, (u.over { recAt s sid h with status := status, failed := failed }).rdB k = u.rdB k)) := by
  intro r e
  have ho : u.over { recAt s sid h with status := status, failed := failed } = e.tryFinish r := rfl
  have hb : (e.bsk r.h).inflight = (s.bsk (s.str sid).bsk).inflight ++ [r] := by
    rw [enter_bsk, if_pos rfl, show r.h = (s.str sid).bsk from rfl, hu.bsk, if_pos rfl]
  have hm : e.rdN (descAddr sid + 0x28) 4 = s.rdN (descAddr sid + 0x28) 4 := by
    have h5 : e.mem = s.mem := by rw [show e.mem = u.mem from rfl, hu.rest]
    unfold State.rdN State.rd
    rw [h5]
  have hr : e.ringFull r.sid = s.ringFull sid := by
    unfold State.ringFull
    simp only [show r.sid = sid from rfl, show e.str sid = v from by rw [enter_str, hu.str, if_pos rfl], ht, hl, hm]
  have hrr : hasRecord r.opc = true := hrec
  rw [ho]
  unfold State.tryFinish State.tryEnd
  simp only [show r.chainOf = none from rfl, Option.bind_none, hb, show r.done = true from rfl, Bool.true_and, hrr, hr]
  refine ⟨?_, ?_, ?_⟩
  · rintro ⟨q1, q2⟩
    simp only [q1, q2, Bool.not_true, Bool.false_eq_true, if_false]
  · intro q
    simp only [q, Bool.not_false, if_true]
  · intro q
    by_cases q1 : ordClear ((s.bsk (s.str sid).bsk).inflight ++ [r]) r = true
    · have q2 : s.ringFull sid = true := by
        by_contra hh; exact q ⟨q1, by simpa using hh⟩
      simp only [q1, q2, Bool.not_true, Bool.false_eq_true, if_false, if_true, show r.stalled = false from rfl]
      exact ⟨fun _ => rfl, fun _ => rfl⟩
    · have q1' : ordClear ((s.bsk (s.str sid).bsk).inflight ++ [r]) r = false := by simpa using q1
      simp only [q1', Bool.not_false, if_true]
      exact ⟨fun _ => rfl, fun _ => rfl⟩

end Sys2Proof.Machine
end

