-- ==== Sys2Proof/Tests/Slice0.lean ====
section
/-! SUPPORT. The model's own tests: the smoke test of WellFormed, values worked out from the spec by hand, and for each obligation
with hypotheses a state and operands that meet them together. -/

namespace Sys2Proof.Tests

-- One theorem at a time: each closed fact is checked by the kernel before the next is read.
set_option Elab.async false

open Sys2Proof Sys2Proof.Machine

/-! ## States to test on -/

/-- A step word of generation 1. -/
def word (opc : Nat) (ops : Nat := 0) (wait : Nat := 0) (ord : Nat := 0) (pred : Nat := 0) : Nat :=
  opc * 2 ^ 120 + 2 ^ 118 + ord * 2 ^ 116 + pred * 2 ^ 112 + wait * 2 ^ 104 + ops

/-- Stream 0, RESIDENT on Basket 0: a table of 8 steps at local offset 0x100, a window of 64 KiB at the Crock's offset 0x10000,
its completion ring at window offset 0x8000. -/
def str0 : Stream :=
  { st := .resident, img := 0x100, tblSteps := 8, winBase := 0x10000, winLen := 0x10000, cring := 0x8000, crLog2 := 4 }

/-- Step words carry their block pointer in units of 64 bytes (06, R186): this one is window offset 0x40. -/
def blkAt : Nat := 2 ^ 72

/-- A parameter block, by field: offset, bytes, value. -/
def block (fs : List (Nat × Nat × Nat)) : List Byte :=
  fs.foldl (fun b f => (b.take f.1) ++ leBytes f.2.1 f.2.2 ++ b.drop (f.1 + f.2.1)) (List.replicate 128 0)

/-- Stream 0 at a step word with a block at window offset 0x40, its Basket in RUN. -/
def at0 (w : Nat) (b : List Byte := []) (v : Stream := str0) : State :=
  { State.reset with
    mem := wrTab (wrTab [] 0x100 (leBytes 16 w)) (crockBase + 0x10040) b
    streams := [(0, v)]
    baskets := [(0, { bskDflt 0 with st := .run })] }

/-- What HeadReady asks, as one Bool. -/
def readyB (s : State) (opc : Nat) : Bool :=
  let v := s.str 0
  let h := hdrOf (s.rdN v.stepAddr 16)
  let u := flushed s 0 h
  let w := u.str 0
  s.issues 0 && decide (v.ptr < v.tblSteps) && decide (s.badIn v.stepAddr 16 = []) && decide (h.opc = opc) &&
  (decide (ordOf h ≠ 2) || ((s.bsk v.bsk).inflight.all (fun r => r.sid != 0) &&
    match v.hostW with
    | some a => decide (s.hostFail a 1 = none)
    | none => true)) &&
  decide (h.wait ≠ 0 → tokLegal h.wait = true →
    u.waitersAhead 0 w.bsk h.wait (u.waitFrom 0 h.wait) < (u.tok w.bsk h.wait).count) &&
  predHolds w.flags h.pred &&
  decide (blockLen opc = 0 ∨ u.badIn (w.win (blockOff h (iterOf w))) (blockLen opc) = []) && !(headRead s 0 h).potHold 0 h &&
  decide ((headRead s 0 h).validate 0 h = none) && (isControl opc || decide (inflightCnt (u.bsk w.bsk) < 512))

/-- The header of the step at the head of stream 0. -/
def hd (s : State) : Hdr := hdrOf (s.rdN (s.str 0).stepAddr 16)

/-- Stream 0's head step is ready. -/
abbrev Ready (s : State) (opc : Nat) : Prop := HeadReady s 0 opc (hd s)

theorem ready_of (s : State) (opc : Nat) (h : readyB s opc = true) : Ready s opc := by
  simp only [readyB, Bool.and_eq_true, decide_eq_true_eq, Bool.not_eq_true', Bool.or_eq_true] at h
  obtain ⟨⟨⟨⟨⟨⟨⟨⟨⟨⟨h1, h2⟩, h3⟩, h4⟩, h5⟩, h6⟩, h7⟩, h8⟩, h9⟩, h10⟩, h11⟩ := h
  refine ⟨by decide, h1, h2, h3, rfl, h4, fun ho => ?_, h6, h7, h8, h9, h10, h11⟩
  have h5 := h5.resolve_left (fun hn => hn ho)
  refine ⟨h5.1, fun a ha => ?_⟩
  have h5 := h5.2
  rw [ha] at h5
  exact of_decide_eq_true h5

theorem reads_of {s : State} {sid : Nat} {rs : List Region} (h : rs.findSome? (s.regionBad (s.str sid)) = none) : ReadsGood s sid rs := h

/-! ## Witnesses: control steps -/

/-- The last step of a table, waiting on a token that holds just one more than the streams ahead of it take. -/
def ctl (opc ops : Nat) (v : Stream := str0) : State :=
  { at0 0 [] { v with ptr := 7 } with
    mem := wrTab [] 0x170 (leBytes 16 (word opc ops 0x20)), tokens := [(0x1F, { count := 1 })] }

/-- Hypotheses of PlainControlStepsGoOn. -/
theorem test_ready_control : Ready (ctl 0x00 0) 0x00 ∧ Ready (ctl 0x06 0) 0x06 ∧ Ready (ctl 0x07 0) 0x07 ∧
    Ready (ctl 0x08 0) 0x08 ∧ Ready (ctl 0x09 0) 0x09 ∧ (ctl 0x09 0).movePending 0 = false :=
  ⟨ready_of _ _ (by decide), ready_of _ _ (by decide), ready_of _ _ (by decide), ready_of _ _ (by decide),
    ready_of _ _ (by decide), by decide⟩

/-- A FENCE behind a write to host memory, which a flushing read reaches. -/
def fenced : State := { ctl 0x08 0 { str0 with hostW := some 0x5000 } with hq := { linkUp := true } }

/-- Hypotheses of PlainControlStepsGoOn. -/
theorem test_ready_fence_after_host_write : Ready fenced 0x08 ∧ (fenced.str 0).hostW = some 0x5000 :=
  ⟨ready_of _ _ (by decide), by decide⟩

/-- A stream in the second pass of a loop of three around its head step, which its call stack came to. -/
def looping (rem : Nat) : Stream :=
  { str0 with ptr := 7, loops := [{ start := 3, endIdx := 7, count := 3, remaining := rem }], calls := [{ ret := 2, depth := 1 }] }

/-- Hypotheses of LoopsAndBranchesMoveThePointer. -/
theorem test_ready_loop_none : Ready (at0 (word 0x01 (7 * 2 ^ 64))) 0x01 ∧ bits (hd (at0 (word 0x01 (7 * 2 ^ 64)))).ops 63 32 = 0 :=
  ⟨ready_of _ _ (by decide), by decide⟩

/-- Hypotheses of LoopsAndBranchesMoveThePointer. -/
theorem test_ready_loop : Ready (at0 (word 0x01 (7 * 2 ^ 64 + 2 ^ 32))) 0x01 ∧
    bits (hd (at0 (word 0x01 (7 * 2 ^ 64 + 2 ^ 32)))).ops 63 32 ≠ 0 :=
  ⟨ready_of _ _ (by decide), by decide⟩

/-- Hypotheses of LoopsAndBranchesMoveThePointer. -/
theorem test_ready_endl : Ready (ctl 0x02 0 (looping 2)) 0x02 ∧ Ready (ctl 0x02 0 (looping 1)) 0x02 ∧
    (looping 2).loops.getLast?.isSome ∧ (∀ f, (looping 2).loops.getLast? = some f → 1 < f.remaining) ∧
    (∀ f, (looping 1).loops.getLast? = some f → f.remaining ≤ 1) :=
  ⟨ready_of _ _ (by decide), ready_of _ _ (by decide), by decide, by simp [looping], by simp [looping]⟩

/-- Hypotheses of LoopsAndBranchesMoveThePointer. -/
theorem test_ready_branches : Ready (ctl 0x03 4 (looping 2)) 0x03 ∧ Ready (ctl 0x04 7 (looping 2)) 0x04 ∧
    Ready (ctl 0x05 0 (looping 2)) 0x05 ∧ (looping 2).calls.getLast? = some { ret := 2, depth := 1 } :=
  ⟨ready_of _ _ (by decide), ready_of _ _ (by decide), ready_of _ _ (by decide), by decide⟩

/-- A step of stream 0 in flight before its head step. -/
def flying : StepRec :=
  { recAt (at0 0) 0 (hdrOf (word 0x40)) with uid := 0 }

/-- The state of a step word with a step in flight before it. -/
def behind (w : Nat) : State :=
  { at0 w with baskets := [(0, { bskDflt 0 with st := .run, inflight := [flying] })], nextUid := 1 }

/-- Hypotheses of HaltAndMarkEndWithRecords. -/
theorem test_ready_halt : Ready (at0 (word 0x0A)) 0x0A ∧ endsNow (at0 (word 0x0A)) 0 (endRec (at0 (word 0x0A)) 0 (hd (at0 (word 0x0A))) 5 0) :=
  ⟨ready_of _ _ (by decide), by decide, by decide⟩

/-- Hypotheses of HaltAndMarkEndWithRecords. -/
theorem test_ready_halt_behind : Ready (behind (word 0x0A (ord := 1))) 0x0A ∧
    ordClear (((behind (word 0x0A (ord := 1))).bsk 0).inflight ++ [endRec (behind (word 0x0A (ord := 1))) 0 (hd (behind (word 0x0A (ord := 1)))) 5 0])
      (endRec (behind (word 0x0A (ord := 1))) 0 (hd (behind (word 0x0A (ord := 1)))) 5 0) = false :=
  ⟨ready_of _ _ (by decide), by decide⟩

/-- Hypotheses of HaltAndMarkEndWithRecords. -/
theorem test_ready_mark : Ready (at0 (word 0x0B 5)) 0x0B ∧ endsNow (at0 (word 0x0B 5)) 0 (endRec (at0 (word 0x0B 5)) 0 (hd (at0 (word 0x0B 5))) 6 5) :=
  ⟨ready_of _ _ (by decide), by decide, by decide⟩

/-- The ring of stream 0 holds its last place. -/
def full : Stream := { str0 with crTail := 16 }

/-- Hypotheses of HaltAndMarkEndWithRecords. -/
theorem test_ready_mark_full : Ready (at0 (word 0x0B) [] full) 0x0B ∧
    ¬ endsNow (at0 (word 0x0B) [] full) 0 (endRec (at0 (word 0x0B) [] full) 0 (hd (at0 (word 0x0B) [] full)) 6 0) :=
  ⟨ready_of _ _ (by decide), fun h => by have h2 := h.2; revert h2; decide⟩

/-- Hypotheses of DebugStepsSuspendAndSnapshot. -/
theorem test_ready_debug : Ready (at0 (word 0xF0)) 0xF0 ∧ Ready (at0 (word 0xF1 0xFF00)) 0xF1 :=
  ⟨ready_of _ _ (by decide), ready_of _ _ (by decide)⟩

/-- Hypotheses of DebugStepsSuspendAndSnapshot. -/
theorem test_dbrk_notice_room : (at0 (word 0xF0)).trv.noteTail - (at0 (word 0xF0)).trv.noteHead ≠ 64 := by decide

/-! ## Witnesses: Pan steps -/

/-- A target field: the Pan of the Basket's slot n. -/
def slotOf (n : Nat) : Nat := n * 2 ^ 34

/-- A weight block of a local tile in W4I with groups of 128: one tile of 128 rows and columns, scale 1.0 at window offset 0x2000,
group scales behind it, source at 0x4000 of the window. -/
def weights : List Byte :=
  block [(0, 8, 0x4000), (0x0A, 1, 2), (0x10, 4, 128), (0x14, 4, 128), (0x18, 4, 0x2100), (0x1C, 4, 0x2000)]

/-- Stream 0 at a Pan step, its tensor scale in memory, and Pan p as given. -/
def panAt (w : Nat) (p : Nat) (v : Pan) : State :=
  let s := at0 w weights
  { s with mem := wrTab s.mem (crockBase + 0x12000) (leBytes 4 0x3F800000), pans := tset panDflt [] p v }

/-- Hypotheses of PanStepsJoinTheirQueues. -/
theorem test_ready_pan_steps :
    Ready (panAt (word 0x10 (blkAt + slotOf 15)) 15 (panDflt 15)) 0x10 ∧
    Ready (panAt (word 0x11 (slotOf 15)) 15 (panDflt 15)) 0x11 ∧ Ready (panAt (word 0x14 (slotOf 15)) 15 (panDflt 15)) 0x14 :=
  ⟨ready_of _ _ (by decide +kernel), ready_of _ _ (by decide +kernel), ready_of _ _ (by decide +kernel)⟩

/-- A Pan of the Basket by its number in it (06, R196). -/
def panNo (n : Nat) : Nat := 2 ^ 44 + n * 2 ^ 34

/-- Pan steps on the Basket's last Pan, which is RETIRED. -/
def retiredAt (opc ops : Nat) : State := panAt (word opc ops) 16 { panDflt 16 with mode := .retired }

/-- Hypotheses of PanStepsJoinTheirQueues. -/
theorem test_ready_pan_out_of_service :
    Ready (retiredAt 0x10 (blkAt + panNo 16)) 0x10 ∧ Ready (retiredAt 0x11 (panNo 16)) 0x11 ∧
    Ready (retiredAt 0x14 (panNo 16)) 0x14 ∧
    (let s := retiredAt 0x10 (blkAt + panNo 16); s.target 0 (hd s).ops = 16 ∧ (takesWork (s.pan 16) && decide (16 < 272)) = false) :=
  ⟨ready_of _ _ (by decide +kernel), ready_of _ _ (by decide +kernel), ready_of _ _ (by decide +kernel), by decide +kernel⟩

/-- The Pan of the last slot with a write and a swap before the head step. -/
def busyPan : Pan := { panDflt 15 with writeQ := [.wref 0 0], computeQ := [.wsw 0] }

/-- A Pan step behind other work of the Pan. -/
def busyAt (opc ops : Nat) : State := { panAt (word opc ops) 15 busyPan with nextUid := 1 }

/-- Hypotheses of PanStepsJoinTheirQueues. -/
theorem test_ready_pan_steps_queue :
    Ready (busyAt 0x10 (blkAt + slotOf 15)) 0x10 ∧ Ready (busyAt 0x11 (slotOf 15)) 0x11 ∧ Ready (busyAt 0x14 (slotOf 15)) 0x14 ∧
    (let s := busyAt 0x14 (slotOf 15); s.target 0 (hd s).ops = 15 ∧ (takesWork (s.pan 15) && decide (15 < 272)) = true ∧
      (s.pan 15).writeQ ≠ [] ∧ (s.pan 15).computeQ ≠ []) :=
  ⟨ready_of _ _ (by decide +kernel), ready_of _ _ (by decide +kernel), ready_of _ _ (by decide +kernel), by decide +kernel⟩

/-- Hypotheses of WldWritesTheIdleBank. -/
theorem test_wld_writes :
    let s := panAt (word 0x10 (blkAt + slotOf 15)) 15 (panDflt 15)
    let d := s.wdesc (s.str 0) (s.blkOf (s.str 0) (hd s)).2
    Ready s 0x10 ∧ s.target 0 (hd s).ops = 15 ∧ takesWork (s.pan 15) = true ∧ panBsk 15 = (s.str 0).bsk ∧ (s.pan 15).writeQ = [] ∧
    (s.pan 15).computeQ = [] ∧ d.space ≤ 1 ∧ ReadsGood s 0 (loadRegions d 0) :=
  ⟨ready_of _ _ (by decide +kernel), by decide +kernel, by decide +kernel, by decide +kernel, by decide +kernel, by decide +kernel,
    by decide +kernel, reads_of (by decide +kernel)⟩

/-- A Pan with an idle bank, valid or not, and its selected one. -/
def banked (ok : Bool) : Pan := { panDflt 15 with a := { valid := true }, b := { valid := ok } }

/-- Hypotheses of WswAndWrefWorkOnTheBanks. -/
theorem test_wsw_and_wref_work :
    (∀ ok : Bool, Ready (panAt (word 0x11 (slotOf 15)) 15 (banked ok)) 0x11) ∧
    Ready (panAt (word 0x14 (slotOf 15)) 15 (banked true)) 0x14 ∧
    (∀ ok : Bool, takesWork (banked ok) = true ∧ (banked ok).computeQ = [] ∧ (banked ok).writeQ = [] ∧
      writePending (banked ok) 0 = false ∧ overdue 0 (banked ok).idle = false ∧ (banked ok).idle.valid = ok ∧
      (banked ok).a.copyBad = false ∧ (banked ok).b.copyBad = false) ∧
    (let s := panAt (word 0x11 (slotOf 15)) 15 (banked true); s.target 0 (hd s).ops = 15 ∧ s.pan 15 = banked true) :=
  ⟨fun ok => ready_of _ _ (by cases ok <;> decide +kernel), ready_of _ _ (by decide +kernel), by decide +kernel, by decide +kernel⟩

/-- An MVM block of one tile and one vector, its activations at window offset 0x3000, its output to Pot p. -/
def mvmBlock (p af : Nat) : List Byte :=
  block [(0, 8, 0x4000), (0x0A, 1, 2), (0x10, 4, 128), (0x14, 4, 128), (0x18, 4, 0x2100), (0x1C, 4, 0x2000),
    (0x40, 4, 0x3000), (0x44, 4, 256), (0x4E, 1, af), (0x4F, 1, 8), (0x50, 4, 1), (0x54, 1, p)]

/-- Stream 0 at an MVM or MVMW into Pot 63, which it has opened. -/
def mvmAt (wide : Bool) : State :=
  let s := at0 (word (if wide then 0x13 else 0x12) blkAt) (mvmBlock 63 (if wide then 4 else 3))
  { s with
    mem := wrTab s.mem (crockBase + 0x12000) (leBytes 4 0x3F800000)
    pots := [(63, { st := .opened, rp := 128, cp := 1, pred := .opened, predRp := 128, predCp := 1 })] }

/-- Hypotheses of MvmWalksEverySlot. -/
theorem test_mvm_walks : ∀ wide : Bool,
    Ready (mvmAt wide) (if wide then 0x13 else 0x12) ∧ mvmHold (headRead (mvmAt wide) 0 (hd (mvmAt wide))) 0 (hd (mvmAt wide)) = false :=
  fun wide => ⟨ready_of _ _ (by cases wide <;> decide +kernel), by cases wide <;> decide +kernel⟩

/-! ## Witnesses: Pots -/

/-- POPEN of Pot 63 as 16 × 1. -/
def popenOps : Nat := 63 + 2 ^ 8 + 2 ^ 16 + 2 ^ 32

/-- Stream 0 at a Pot step, Pot 63 as given. -/
def potAt (opc ops : Nat) (q : Pot) (b : List Byte := []) : State :=
  { at0 (word opc ops) b with pots := tset potDflt [] 63 q, nextUid := 1 }

/-- Pot 63, opened by stream 0 as 16 × 1. -/
def pot63 : Pot := { st := .opened, rp := 16, cp := 1, pred := .opened, predRp := 16, predCp := 1 }

/-- Its stream has spilled it, and the spill waits. -/
def pot63w : Pot := { pot63 with waits := [.spill 0 0x100] }

/-- Hypotheses of PopenOpensItsPots. -/
theorem test_popen_opens :
    Ready (potAt 0x20 popenOps {}) 0x20 ∧ ((potAt 0x20 popenOps {}).pot 0 63).waits = [] ∧
    (potAt 0x20 popenOps {}).potClear 0 63 1 = true ∧ ((potAt 0x20 popenOps {}).pot 0 63).st ≠ .closing ∧
    Ready (potAt 0x20 popenOps { pot63w with pred := .free }) 0x20 ∧ { pot63w with pred := .free }.waits ≠ [] :=
  ⟨ready_of _ _ (by decide +kernel), by decide +kernel, by decide +kernel, by decide +kernel, ready_of _ _ (by decide +kernel),
    by decide⟩

/-- Hypotheses of PotsAreSpilledResumedAndClosed. -/
theorem test_spill_and_resume :
    let s := potAt 0x22 (63 + 0xFF00 * 2 ^ 64) pot63
    let r := potAt 0x23 (63 + 2 ^ 32 + 2 ^ 48 + 0xFF00 * 2 ^ 64) {}
    Ready (potAt 0x22 (63 + 0x100 * 2 ^ 64) pot63w) 0x22 ∧ pot63w.waits ≠ [] ∧
    Ready s 0x22 ∧ pot63.waits = [] ∧ s.potClear 0 63 1 = true ∧ pot63.st ≠ .closing ∧ pot63.ecc = [] ∧
    ReadsGood s 0 [{ sp := 0, start := 0xFF00, pitch := 0, width := 256, rows := 1 }] ∧
    Ready r 0x23 ∧ resumeHold (headRead r 0 (hd r)) 0 (hd r) = false :=
  ⟨ready_of _ _ (by decide +kernel), by decide, ready_of _ _ (by decide +kernel), by decide, by decide +kernel, by decide, by decide,
    reads_of (by decide +kernel), ready_of _ _ (by decide +kernel), by decide +kernel⟩

/-- A close of Pot 63 to BF16 rows at window offset 0x200, without statistics. -/
def closeBlock : List Byte := block [(0, 8, 0x200), (0x0A, 1, 3), (0x0C, 1, 63), (0x10, 4, 32), (0x20, 4, 0x3F800000), (0x2C, 4, 0x400)]

/-- Hypotheses of PotsAreSpilledResumedAndClosed. -/
theorem test_pclose_writes :
    let s := potAt 0x21 blkAt pot63 closeBlock
    let d := closeDesc (s.blkOf (s.str 0) (hd s)).2 (s.str 0) 0
    Ready s 0x21 ∧ bit (hd s).ops 0 = false ∧ pot63.waits = [] ∧ s.potClear 0 63 1 = true ∧ pot63.st ≠ .closing ∧
    pot63.ecc = [] ∧ pot63.bound = none ∧ d.omode = 0 ∧ d.ofmt = 3 ∧ d.flags = 0 ∧ d.outSp = 0 ∧
    Ready (potAt 0x21 blkAt { pot63 with waits := [.pclose 0 d] } closeBlock) 0x21 :=
  ⟨ready_of _ _ (by decide +kernel), by decide +kernel, by decide, by decide +kernel, by decide, by decide, by decide, by decide +kernel,
    by decide +kernel, by decide +kernel, by decide +kernel, ready_of _ _ (by decide +kernel)⟩

/-! ## Witnesses: Whisk, vector and memory steps -/

/-- A rotation of one vector of 32 values from window offset 0x1000 to 0x2000; with `chain` it keeps its result. -/
def rotBlock (chain : Bool) : List Byte :=
  block ([(0, 4, 0x1000), (0x14, 4, 32), (0x18, 2, 1), (0x1B, 1, if chain then 8 else 0)] ++ if chain then [] else [(8, 4, 0x2000)])

/-- Hypotheses of WhiskStepsMakeCodesAndEntries. -/
theorem test_rot_rotates : ∀ chain : Bool,
    let s := at0 (word 0x30 blkAt) (rotBlock chain)
    Ready s 0x30 ∧ ReadsGood s 0 (stepRegions s (s.str 0) 0x30 (s.blkOf (s.str 0) (hd s)).2).1 :=
  fun chain => ⟨ready_of _ _ (by cases chain <;> decide +kernel), reads_of (by cases chain <;> decide +kernel)⟩

/-- A quantisation of one vector of 32 values to A8 at scale entry 16383, from memory or from the ROT before it. -/
def qntBlock (chained : Bool) : List Byte :=
  block ([(8, 4, 0x2000), (0x1C, 4, 32), (0x20, 2, 1), (0x22, 2, 16383), (0x24, 1, if chained then 3 else 0), (0x25, 1, 1)] ++
    if chained then [] else [(0, 4, 0x1000)])

/-- Stream 0 at a QNT, with the results of a ROT where it takes those. -/
def qntAt (chained : Bool) : State :=
  at0 (word 0x31 blkAt) (qntBlock chained) { str0 with
    chained := chained, chain := if chained then some { uid := 0, c := 32, n := 1, vals := [List.replicate 32 0x3F800000] } else none }

/-- Hypotheses of WhiskStepsMakeCodesAndEntries. -/
theorem test_qnt_writes : ∀ chained : Bool,
    Ready (qntAt chained) 0x31 ∧ qntHold (headRead (qntAt chained) 0 (hd (qntAt chained))) 0 (hd (qntAt chained)) = false ∧
    ReadsGood (qntAt chained) 0 (stepRegions (qntAt chained) ((qntAt chained).str 0) 0x31
      ((qntAt chained).blkOf ((qntAt chained).str 0) (hd (qntAt chained))).2).1 :=
  fun chained => ⟨ready_of _ _ (by cases chained <;> decide +kernel), by cases chained <;> decide +kernel,
    reads_of (by cases chained <;> decide +kernel)⟩

/-- SCUP LOAD, SCUP SET and STAT of the last entry, by its window offset 0xFFC0. -/
def scaleAt (opc : Nat) (set : Bool) : State :=
  at0 (word opc (16383 + if set then 2 ^ 46 + 2 ^ 48 else 0xFFC0 * 2 ^ 64))

/-- Hypotheses of WhiskStepsMakeCodesAndEntries. -/
theorem test_scale_entries_move :
    Ready (scaleAt 0x32 false) 0x32 ∧ Ready (scaleAt 0x32 true) 0x32 ∧ Ready (scaleAt 0x33 false) 0x33 ∧
    scupHold (headRead (scaleAt 0x32 false) 0 (hd (scaleAt 0x32 false))) 0 (hd (scaleAt 0x32 false)) = false ∧
    scupHold (headRead (scaleAt 0x32 true) 0 (hd (scaleAt 0x32 true))) 0 (hd (scaleAt 0x32 true)) = false ∧
    scupHold (headRead (scaleAt 0x33 false) 0 (hd (scaleAt 0x33 false))) 0 (hd (scaleAt 0x33 false)) = false ∧
    bits (hd (scaleAt 0x32 false)).ops 47 46 = 0 ∧ bits (hd (scaleAt 0x32 true)).ops 47 46 ≠ 0 ∧
    ReadsGood (scaleAt 0x32 false) 0 [{ sp := 0, start := 0xFFC0, pitch := 0, width := 64, rows := 1 }] :=
  ⟨ready_of _ _ (by decide +kernel), ready_of _ _ (by decide +kernel), ready_of _ _ (by decide +kernel), by decide +kernel,
    by decide +kernel, by decide +kernel, by decide +kernel, by decide +kernel, reads_of (by decide +kernel)⟩

/-- An addition of two vectors of one value. -/
def vopBlock : List Byte := block [(0, 4, 0x1000), (8, 4, 0x1100), (0x10, 4, 0x2000), (0x18, 4, 1), (0x1C, 2, 1), (0x1E, 1, 1)]

/-- Hypotheses of VectorStepsWriteTheirResults. -/
theorem test_vop_writes :
    let s := at0 (word 0x40 blkAt) vopBlock
    Ready s 0x40 ∧ ReadsGood s 0 (stepRegions s (s.str 0) 0x40 (s.blkOf (s.str 0) (hd s)).2).1 :=
  ⟨ready_of _ _ (by decide +kernel), reads_of (by decide +kernel)⟩

/-- One query of one head over one position; its key and value pages are at local offset 0. -/
def attBlock : List Byte :=
  block [(0, 4, 0x1000), (4, 4, 0x2000), (8, 4, 0x3000), (0x0C, 4, 1), (0x10, 2, 1), (0x12, 2, 1), (0x16, 1, 1)]

/-- Hypotheses of VectorStepsWriteTheirResults. -/
theorem test_att_attends :
    let s := at0 (word 0x41 blkAt) attBlock
    let a := attArgs (s.blkOf (s.str 0) (hd s)).2
    let pages := s.attPages (s.str 0) 0x3000 a
    Ready s 0x41 ∧ ReadsGood s 0 (stepRegions s (s.str 0) 0x41 (s.blkOf (s.str 0) (hd s)).2).1 ∧ pages.any pageBad = false ∧
    ReadsGood s 0 (pages.map (fun p => { sp := 1, start := p, pitch := 0, width := 64 * a.d * a.kvB, rows := 1 })) :=
  ⟨ready_of _ _ (by decide +kernel), reads_of (by decide +kernel), by decide +kernel, reads_of (by decide +kernel)⟩

/-- A copy of one row of 4 bytes between spaces src and dst (06, Table 06-19). -/
def copyBlock (src dst : Nat) : List Byte :=
  block [(0, 8, 0x1000), (8, 8, 0x2000), (0x10, 4, 4), (0x14, 4, 1), (0x20, 1, src), (0x21, 1, dst)]

/-- Hypotheses of DataMoversAndFabricSteps. -/
theorem test_dma_moves :
    let s := at0 (word 0x50 blkAt) (copyBlock 0 0)
    let b := (s.blkOf (s.str 0) (hd s)).2
    Ready s 0x50 ∧ ReadsGood s 0 (stepRegions s (s.str 0) 0x50 b).1 ∧ (s.dmaRows (s.str 0) b 1 0).2 = none :=
  ⟨ready_of _ _ (by decide +kernel), reads_of (by decide +kernel), by decide +kernel⟩

/-- A gather of one row of 4 bytes, its index at window offset 0x1000, from a local (1) or a global (2) table. -/
def gathBlock (sp : Nat) : List Byte :=
  block [(0, 8, 0x100000), (8, 1, sp), (0x0C, 4, 0x1000), (0x10, 4, 1), (0x14, 4, 4), (0x18, 4, 4), (0x1C, 4, 0x2000), (0x20, 4, 4),
    (0x24, 4, 1)]

/-- Hypotheses of DataMoversAndFabricSteps. -/
theorem test_gath_gathers :
    let s := at0 (word 0x54 blkAt) (gathBlock 1)
    let g := at0 (word 0x54 blkAt) (gathBlock 2)
    let b := (s.blkOf (s.str 0) (hd s)).2
    Ready s 0x54 ∧ fld b 8 1 = 1 ∧
    ReadsGood s 0 ({ sp := 0, start := 0x1000, pitch := 0, width := 4, rows := 1 } :: gathRegions b (s.gathIdx (s.str 0) b)) ∧
    Ready g 0x54 ∧ fld (g.blkOf (g.str 0) (hd g)).2 8 1 ≠ 1 ∧
    ReadsGood g 0 [{ sp := 0, start := 0x1000, pitch := 0, width := 4, rows := 1 }] :=
  ⟨ready_of _ _ (by decide +kernel), by decide +kernel, reads_of (by decide +kernel), ready_of _ _ (by decide +kernel),
    by decide +kernel, reads_of (by decide +kernel)⟩

/-- An addition of 16 elements of U32 at window offset 0x1000 into another node's memory. -/
def aaddBlock : List Byte := block [(0, 8, 0x1000), (8, 4, 0x1000), (0x0C, 4, 16)]

/-- Hypotheses of DataMoversAndFabricSteps. -/
theorem test_fabric_steps_send :
    let p := at0 (word 0x52 blkAt) (copyBlock 0 2)
    let a := at0 (word 0x53 blkAt) aaddBlock
    Ready (at0 (word 0x51 blkAt) (copyBlock 2 0)) 0x51 ∧ bit (hd (at0 (word 0x51 blkAt) (copyBlock 2 0))).ops 0 = false ∧
    Ready p 0x52 ∧ bit (hd p).ops 0 = false ∧ ReadsGood p 0 (stepRegions p (p.str 0) 0x52 (p.blkOf (p.str 0) (hd p)).2).1 ∧
    Ready a 0x53 ∧ bit (hd a).ops 0 = false ∧ ReadsGood a 0 (stepRegions a (a.str 0) 0x53 (a.blkOf (a.str 0) (hd a)).2).1 :=
  ⟨ready_of _ _ (by decide +kernel), by decide +kernel, ready_of _ _ (by decide +kernel), by decide +kernel, reads_of (by decide +kernel),
    ready_of _ _ (by decide +kernel), by decide +kernel, reads_of (by decide +kernel)⟩

/-- The record of a step of an engine that is done and, with `full`, waits for the ring. -/
def doneRec (full : Bool) : StepRec := { flying with done := true, ord := 1, stalled := full }

/-- Stream 0 with that step in flight. -/
def doneAt (full : Bool) : State := { at0 0 with baskets := [(0, { bskDflt 0 with st := .run, inflight := [doneRec full] })] }

/-- Hypotheses of StepsThatAreDoneComplete. -/
theorem test_steps_complete : ∀ full : Bool,
    (doneRec full).sid = 0 ∧ (doneRec full).h = ((doneAt full).str 0).bsk ∧ ordClear ((doneAt full).bsk 0).inflight (doneRec full) = true ∧
    (doneRec full).chainOf.bind ((doneAt full).bsk 0).rec? = none ∧
    (doneRec full).status ≠ 2 ∧ (doneRec full).opc ≠ 0x0A ∧ hasRecord (doneRec full).opc = true ∧ (doneAt full).ringFull 0 = false ∧
    ((doneAt full).bsk 0).rec? (doneRec full).uid = some (doneRec full) ∧
    (full = true → ((doneAt full).bsk 0).inflight.find? (fun x => x.sid = 0 && x.stalled) = some (doneRec full)) := by
  decide +kernel

/-- Hypotheses of TokenTimeoutAbortsTheStream. -/
theorem test_token_timeout_aborts :
    let v := { str0 with waitSince := some (5, 0x20) }
    let s := at0 0 [] v
    s.str 0 = v ∧ v.st = .resident ∧ (s.bsk 0).seqCfg.toNat % 65536 ≠ 0 ∧
    (s.tok 0 0x20).count ≤ s.waitersAhead 0 0 0x20 5 ∧
    (let u := { s with tokens := [(0x1F, { count := 1 })] }; ¬ (u.tok 0 0x20).count ≤ u.waitersAhead 0 0 0x20 5) ∧
    ({ s with baskets := [(0, { bskDflt 0 with seqCfg := 0 })] }.bsk 0).seqCfg.toNat % 65536 = 0 := by
  decide +kernel

/-- Hypotheses of TokenSignalWriteAddsOne. -/
theorem test_token_codes_signal :
    tokLegal 0x21 = false ∧ tokLegal 0x80 = false ∧ tokLegal 0x01 = true ∧ tokLegal 0x20 = true ∧ tokLegal 0x81 = true ∧
    tokLegal 0xFF = true := by
  decide

/-! ## Witnesses: streams -/

/-- The last stream's number. -/
def last : Nat := 131071

/-- The least legal descriptor of stream 131071 (07, R231): image 0x1000, step table 0, affinity to Basket 15, a window of 256 KiB. -/
def descr : List Byte :=
  (block [(0, 8, 0x1000), (0x0A, 2, 0x8000), (0x10, 4, 0x1000), (0x14, 4, 0x40000), (0x18, 4, 0x3FC00), (0x20, 1, 6)]).take 64

/-- An image of one step table of one step (05, R139, Tables 05-1, 05-2). -/
def image : List Byte :=
  block [(0, 4, 0x31494B5A), (4, 2, 1), (6, 1, 1), (7, 1, 1), (8, 8, 0xB0), (0x10, 4, 1)] ++
  (block [(0, 2, 1), (8, 8, 0xA0), (0x10, 8, 16)]).take 32

/-- Stream 131071 in state v, its descriptor and image in memory, Basket 15 in state st. -/
def strAt (v : Stream) (st : BskState) : State :=
  { State.reset with
    mem := wrTab (wrTab [] 0x1000 image) (descAddr last) descr
    streams := tset strDflt [] last v
    baskets := [(15, { bskDflt 15 with st := st })] }

/-- Hypotheses of StreamCommandsMoveStreams. -/
theorem test_start_places : last < 131072 ∧ ∀ v, v ∈ [StrState.idle, .ended, .aborted] → ∀ b, b ∈ [BskState.run, .warming] →
    let s := strAt { st := v } b
    s.stateRsv last = false ∧ s.dev.stBusy = false ∧ descBad (s.descNum last) = false ∧
    s.imageBad (fld (s.descNum last) 0 8) = none ∧
    s.placeAt (fld (s.descNum last) 0x0A 2) (fun _ => true) = (if b = .run then some 15 else none) := by
  decide +kernel

/-- Hypotheses of StreamCommandsMoveStreams. -/
theorem test_stream_commands_move : ∀ v, v ∈ [StrState.pending, .resident, .suspended, .migrating, .ended, .aborted] →
    let s := strAt { st := v } .run
    s.stateRsv last = false ∧ s.dev.stBusy = false ∧ descBad (s.descNum last) = false ∧ (s.str last).migSaved = false := by
  decide +kernel

/-- Stream 0 at a YIELD on Basket 0 that a test waits for, Basket 1 ready to take it or not. -/
def yieldAt (room : Bool) : State :=
  { at0 (word 0x09) [] { str0 with aff := if room then 3 else 1 } with
    baskets := [(0, { bskDflt 0 with st := .run, testDefer := some 5 }), (1, { bskDflt 1 with st := .ready })] }

/-- Hypotheses of StreamsYieldMoveAndArePlaced. -/
theorem test_yield_suspends : ∀ room : Bool,
    let s := yieldAt room
    let h := hdrOf (s.rdN (s.str 0).stepAddr 16)
    s.issues 0 = true ∧ (s.str 0).ptr < (s.str 0).tblSteps ∧ h.opc = 0x09 ∧ predHolds (s.str 0).flags h.pred = true ∧
    s.validate 0 h = none ∧ s.movePending 0 = true ∧ (∀ r, r ∈ (s.bsk 0).inflight → r.sid ≠ 0) ∧
    s.moveTarget 0 0 = (if room then some 1 else none) ∧ (s.bsk 0).testDefer ≠ none := by
  decide +kernel

/-- The last stream on Basket 14, Basket 15 free to take it. -/
def moveAt (v : Stream) : State :=
  { strAt v .ready with baskets := [(14, { bskDflt 14 with st := .run }), (15, { bskDflt 15 with st := .ready })] }

/-- The last stream while it migrates. -/
def migrating : Stream := { st := .migrating, bsk := 14, migTo := some 15, wasRes := true, migReg := true }

/-- The same once it is saved: two scale entries' images, and a Pot it takes with it. -/
def saved : Stream :=
  { migrating with
    bsk := 15, migSaved := true, scnt := 2, shnd := 5, migb := 0x1000, winBase := 0x10000, winLen := 0x10000, migPots := [(63, 16, 1, 0)] }

/-- Hypotheses of StreamsYieldMoveAndArePlaced. -/
theorem test_migrate_and_place :
    (∀ v, v ∈ [StrState.resident, .suspended] →
      let s := moveAt { st := v, bsk := 14 }
      let u := s.readDesc last (s.str last)
      s.stateRsv last = false ∧ s.dev.stBusy = false ∧ descBad (s.descNum last) = false ∧ s.takesStream u.aff 15 = true ∧
        s.migBad last 15 u = none) ∧
    (let s := moveAt migrating;
      (s.str last).migTo = some 15 ∧ (s.str last).migSaved = false ∧ (∀ r, r ∈ (s.bsk 14).inflight → r.sid ≠ last) ∧
        s.ownPots 14 last .held = [] ∧
        (∀ n, n ∈ s.ownPots 14 last .opened → (s.pot 15 n).st = .free ∧ (s.pot 14 n).ecc = []) ∧
        s.entriesUsed 15 last 0 0 = false ∧ s.memBad = []) ∧
    (let s := moveAt saved;
      inService (s.bsk 15) = true ∧ s.entriesUsed 15 last 5 2 = false ∧ s.potsFit 15 saved = true ∧ s.imagesBad saved = none ∧
        (s.str last) = saved ∧ saved.migReg = true) ∧
    (let s := { strAt { st := .pending, aff := 0x8000 } .run with waiting := [last] };
      s.waiting.find? (fun k => (s.placeAt (s.str k).aff (fun _ => true)).isSome) = some last ∧
        s.placeAt (s.str last).aff (fun _ => true) = some 15) := by
  decide +kernel

/-! ## Witnesses: Pans at work -/

/-- A weight descriptor of one tile. -/
def wd : WDesc :=
  { src := 0, space := 1, wfmt := 0, sgrp := 2, rows := 128, cols := 128, gsc := 0x2100, tsc := 0x2000, cb := 0, st := 0x3F800000, win := 0 }

/-- The last Pan as given, its Basket in RUN. -/
def pan271 (v : Pan) : State :=
  { State.reset with pans := tset panDflt [] 271 v, baskets := [(15, { bskDflt 15 with st := .run })] }

/-- A Pan at work: the last Pan takes a service slot. -/
def workPan : Pan := { panDflt 271 with mode := .inService, slot := some 0 }

/-- Hypotheses of BanksAreWrittenSwappedAndRefreshed. -/
theorem test_bank_writes_run :
    let s := pan271 { workPan with writeQ := [.wld 0 wd 0] }
    takesWork (s.pan 271) = true ∧ s.clocked = true ∧ (s.pan 271).writeQ = [.wld 0 wd 0] ∧ (s.pan 271).computeQ = [] ∧ wd.space ≤ 1 ∧
    (loadRegions wd 0).findSome? (s.regionBad { winBase := wd.win }) = none := by
  decide +kernel

/-- Hypotheses of BanksAreWrittenSwappedAndRefreshed. -/
theorem test_bank_swaps_and_refreshes :
    let s := pan271 { workPan with computeQ := [.wsw 0], a := { valid := true }, b := { valid := true } }
    takesWork (s.pan 271) = true ∧ s.clocked = true ∧ (s.pan 271).computeQ = [.wsw 0] ∧ writePending (s.pan 271) 0 = false ∧
    overdue s.time (s.pan 271).idle = false ∧ (s.pan 271).idle.valid = true ∧
    ∀ isB, ((s.pan 271).bank isB).valid = true ∧ ((s.pan 271).bank isB).copyBad = false := by
  decide +kernel

/-- An MVM of one tile and one vector. -/
def mvm0 : MvmRun :=
  { uid := 0, sid := 0, desc := wd, r := 128, k := 128, n := 1, act := 0x3000, apitch := 256, afmt := 3, grp := 128, p := 8, p0 := 63
    fast := false, fastWant := false, wide := false, slots := 16, rp := 128, cp := 1, sa := [0x3F800000], zp := [], outSat := false
    interval := 0 }

/-- A bank that holds its tile. -/
def held0 : Bank := { valid := true, desc := some wd, tile := 0 }

/-- The last Pan as given, with that MVM in flight on its Basket. -/
def mvmPan (v : Pan) : State :=
  { pan271 v with baskets := [(15, { bskDflt 15 with st := .run, mvms := [mvm0], inflight := [{ flying with uid := 0, h := 15 }] })] }

/-- Hypotheses of GroupBlocksAndPromotionsGoOn. -/
theorem test_group_block_ends :
    let s := mvmPan { workPan with a := held0, computeQ := [.tile 0 0 0] }
    let v := s.pan 271
    (s.bsk 15).mvm? 0 = some mvm0 ∧ ((s.bsk 15).rec? 0).isSome = true ∧ v.mode = .inService ∧ (s.bsk 15).st = .run ∧ s.clocked = true ∧
    v.sel.holds mvm0.desc 0 = true ∧ overdue s.time v.sel = false ∧
    s.regionBad { winBase := mvm0.desc.win } (mvm0.actRegion (0 % mvm0.desc.kb) v.progress 0) = none ∧
    maxNat ((List.range 128).map v.entries) + mvm0.vecs 0 ≤ 4096 ∧
    mayDrive (bit (s.bsk 15).seqCfg.toNat 16) s.time v mvm0 (driveOf (mvm0.vecs 0) (mvm0.fast && (s.bsk 15).rate = 3)) = false := by
  decide +kernel

/-- The same MVM as an MVMW, at its low pass, in the fourth interval after it issued, at full level. -/
def lowAt : State :=
  let m := { mvm0 with wide := true, afmt := 4 }
  let s := mvmPan { workPan with a := held0, computeQ := [.tile 0 0 0], progress := 1, lvlNow := 16, lvlNext := 16 }
  { s with time := 16000, baskets := [(15, { s.bsk 15 with mvms := [m] })] }

/-- Hypotheses of GroupBlocksAndPromotionsGoOn. -/
theorem test_low_pass_ends :
    let s := lowAt
    let v := s.pan 271
    let m := { mvm0 with wide := true, afmt := 4 }
    (s.bsk 15).mvm? 0 = some m ∧ ((s.bsk 15).rec? 0).isSome = true ∧ s.clocked = true ∧ v.sel.holds m.desc 0 = true ∧
    overdue s.time v.sel = false ∧ s.regionBad { winBase := m.desc.win } (m.actRegion (0 % m.desc.kb) 0 0) = none ∧
    (s.pan 271).bufBusy = false ∧
    mayDrive (bit (s.bsk 15).seqCfg.toNat 16) s.time v m (driveOf (m.vecs 0) (m.fast && (s.bsk 15).rate = 3)) = true := by
  decide +kernel

/-- A closed window of one leaf and one vector, none of it promoted. -/
def win0 : Window :=
  { id := 0, step := 0, sid := 0, rb := 0, batch := 0, nvec := 1, leaves := [some { exps := [], mants := [], neg := [], low := true }]
    closed := true, ready := some 0, promoted := [], convSat := false }

/-- The block that the window's leaf came from. -/
def blk0 : Block :=
  { step := 0, sid := 0, tile := 0, kb := 0, rb := 0, group := 0, gsize := 128, batch := 0, pass := 0, ga := 1, fast := false, rate := 3
    vals := [], sa := 0x3F800000, leaf := 0, window := 0, c1Test := false, home := 271, satOnly := false }

/-- Hypotheses of GroupBlocksAndPromotionsGoOn. -/
theorem test_promotion_lands :
    let s := mvmPan { workPan with windows := [win0], ring := [blk0] }
    argMin (fun w => w.ready.getD 0) ((s.pan 271).windows.filter (s.mayLand 15 127 0)) = some win0 ∧
    (s.bsk 15).mvm? win0.step = some mvm0 ∧ ((s.bsk 15).rec? win0.step).isSome = true ∧
    (s.pot 15 (mvm0.place 127 0).1).ecc = [] ∧ mvm0.wide = false ∧
    ((s.pan 271).ring.filter (fun k => k.window = win0.id && k.home = 271 && k.step = win0.step)).length = win0.leaves.length := by
  decide +kernel

/-- Hypotheses of PotWaitsEndAndPanCountersClear. -/
theorem test_pot_wait_ends : ∀ w, w ∈ [PotWait.popen 0 16 1, .spill 0 0, .pclose 0 { closeDesc 0 str0 0 with ofmt := 3 }] →
    let s : State := { mvmPan workPan with pots := [(15 * 64 + 63, { pot63 with waits := [w] })] }
    (s.pot 15 63).waits = [w] ∧ ((s.bsk 15).rec? w.uid).isSome = true ∧ s.waitReady 15 63 w = true ∧ (s.pot 15 63).ecc = [] ∧
    (s.pot 15 63).bound = none ∧ s.regionBad (s.str 0) { sp := 0, start := 0, pitch := 0, width := 256, rows := 1 } = none ∧
    (∀ d, w = .pclose 0 d → d.omode = 0 ∧ d.ofmt = 3 ∧ d.flags = 0 ∧ d.outSp = 0) := by
  intro w hw
  simp only [List.mem_cons, List.not_mem_nil, or_false] at hw
  obtain rfl | rfl | rfl := hw
  · exact ⟨by decide +kernel, by decide +kernel, by decide +kernel, by decide +kernel, by decide +kernel, by decide +kernel, fun d h => by cases h⟩
  · exact ⟨by decide +kernel, by decide +kernel, by decide +kernel, by decide +kernel, by decide +kernel, by decide +kernel, fun d h => by cases h⟩
  · exact ⟨by decide +kernel, by decide +kernel, by decide +kernel, by decide +kernel, by decide +kernel, by decide +kernel,
      fun d h => by cases h; decide⟩

/-- Hypotheses of PotWaitsEndAndPanCountersClear: a wait behind a step that still owes the Pot an element. -/
theorem test_pot_wait_waits :
    let s : State := { pan271 workPan with
      baskets := [(15, { bskDflt 15 with st := .run, inflight := [{ flying with uid := 0, h := 15, opc := 0x12, pots := [63] }] })]
      pots := [(15 * 64 + 63, { pot63 with waits := [.spill 1 0] })] }
    (s.pot 15 63).waits = [.spill 1 0] ∧ s.waitReady 15 63 (.spill 1 0) = false := by
  decide +kernel

/-! ## Witnesses: replays -/

/-- A ladder at a rung. -/
def ladder (rung : Nat) : Ladder :=
  { blk := blk0, rung := rung, first := 0, band := 0, satOnly := false, spareRun := none, sparePan := 0, startAt := 0, quiet := false }

/-- The last Pan with a ladder at a rung; its taps show a loss or not. -/
def ladderAt (rung : Nat) (loss : Bool) : State :=
  mvmPan { workPan with a := held0, ladders := [ladder rung], tapFail := if loss then some 3 else none }

/-- Hypotheses of BlocksAreReplayed. -/
theorem test_replay_same_pan : ∀ loss : Bool,
    let s := ladderAt 1 loss
    let v := s.pan 271
    (s.bsk 15).mvm? (ladder 1).blk.step = some mvm0 ∧ s.ladderAt 271 1 = some (ladder 1) ∧
    s.replayBank 271 mvm0 (ladder 1).blk = (s, some v.sel) ∧
    ((s.runOn 271 (ladder 1).blk v.sel false).2.failCode = 0 ↔ loss = false) := by
  decide +kernel

/-- The Basket's Pan 270 is its spare, or none is. -/
def spareAt (spare : Bool) : State :=
  let s := ladderAt 2 false
  if spare then s.setPan 270 { panDflt 270 with mode := .spare, slot := none } else s

/-- Hypotheses of BlocksAreReplayed. -/
theorem test_replay_spare :
    let s := spareAt true
    s.ladderAt 271 2 = some (ladder 2) ∧ (s.pan 271).mode = .inService ∧ s.spareTurn 15 = some 271 ∧
    s.ladderSpare 15 = (some 270, s) ∧ (s.pan 270).allowance + (ladder 2).blk.vals.length ≤ 512 ∧
    ∃ u k, s.spareBank 270 mvm0 (ladder 2).blk = (u, some k) ∧ (u.runOn 270 (ladder 2).blk k false).2.failCode = 0 := by
  refine ⟨by decide +kernel, by decide +kernel, by decide +kernel, by decide +kernel, by decide +kernel, _, _, rfl, ?_⟩
  decide +kernel

/-- Hypotheses of BlocksAreReplayed. -/
theorem test_no_spare_replay :
    let s := spareAt false
    s.ladderAt 271 2 = some (ladder 2) ∧ (s.ladderSpare 15).1 = none ∧ (s.pan 271).mode = .inService ∧
    s.replayBank 271 mvm0 (ladder 2).blk = (s, some (s.pan 271).sel) ∧
    (s.runOn 271 { (ladder 2).blk with rate := max 1 ((ladder 2).blk.rate - 1), fast := false } (s.pan 271).sel false).2.failCode = 0 := by
  decide +kernel

/-- A run of no rows. -/
def run0 : Run :=
  { y := [], q := [], failCode := 0, vecFails := 0, blkFails := 0, sats := 0, tap := none, pan := 271, sums := [] }

/-- A sampled block that waits for its spare, or for its third run. -/
def sample (orig : Run) (spare : Option Run) : Sample := { blk := blk0, orig := orig, spare := spare, sparePan := 270, failed := 0 }

/-- The last Pan with a sampled block, Pan 270 the Basket's spare. -/
def sampleAt (x : Sample) : State :=
  (mvmPan { workPan with a := held0, samples := [x] }).setPan 270 { panDflt 270 with mode := .spare, slot := none }

/-- Hypotheses of BlocksAreReplayed. -/
theorem test_sampled_replay_agrees :
    let s := sampleAt (sample run0 none)
    (s.pan 271).samples.find? (fun y => y.spare.isNone) = some (sample run0 none) ∧ (s.pan 271).mode ≠ .spare ∧
    (s.pan 270).mode = .spare ∧ ∃ u k, s.spareBank 270 mvm0 blk0 = (u, some k) ∧
      (u.runOn 270 blk0 k false).2.failCode = 0 ∧
      compareRuns (s.pan 271).chkCfg (s.pan 271).loss 128 3 run0 (u.runOn 270 blk0 k false).2 = 0 := by
  refine ⟨by decide +kernel, by decide +kernel, by decide +kernel, _, _, rfl, ?_⟩
  decide +kernel

/-- Hypotheses of BlocksAreReplayed. -/
theorem test_sampled_replay_resolves :
    let x := sample run0 (some run0)
    let s := sampleAt x
    let run := (s.runOn 271 blk0 (s.pan 271).sel false).2
    (s.pan 271).samples.find? (fun y => y.spare.isSome) = some x ∧ x.spare = some run0 ∧ takesWork (s.pan 271) = true ∧
    s.replayBank 271 mvm0 blk0 = (s, some (s.pan 271).sel) ∧ run.failCode = 0 ∧ run0.failCode = 0 ∧
    compareRuns (s.pan 271).chkCfg (s.pan 271).loss 128 3 run run0 = 0 := by
  decide +kernel

/-- Hypotheses of BlocksAreReplayed: a third run that fails its tests agrees with no other. -/
theorem test_sampled_replay_agrees_with_neither :
    let s := (sampleAt (sample run0 (some run0))).setPan 271 { (sampleAt (sample run0 (some run0))).pan 271 with tapFail := some 3 }
    (s.runOn 271 blk0 (s.pan 271).sel false).2.failCode ≠ 0 ∧ run0.failCode = 0 ∧ (s.pan 271).mode = .inService ∧
    s.replayBank 271 mvm0 blk0 = (s, some (s.pan 271).sel) := by
  decide +kernel

/-! ## Witnesses: levels and rates -/

/-- Hypotheses of RampMovesLevelsOn. -/
theorem test_ramp_moves :
    State.reset.clocked = true ∧ bit ((pan271 workPan).bsk 15).seqCfg.toNat 16 = false ∧ (workPan).lvlSent ≤ 16 ∧
    levelCap 3 false ≤ 16 := by
  decide +kernel

/-- The part at an average power in mW and 1 W of silent rails beside it, Basket 15 alone powered, at a rate and with or without fast mode. -/
def powerAt (avg rate : Nat) (fast : Bool) (good : Nat := 0) : State :=
  { State.reset with
    dev := { State.reset.dev with avg := avg, avgMore := 1000, good := good }
    baskets := [(15, { bskDflt 15 with st := .run, rate := rate, fastGrant := fast })] }

/-- Hypotheses of GovernorStepsRates. -/
theorem test_governor_steps :
    (powerAt 1699001 3 true).clocked = true ∧ ((powerAt 0 3 false).trv.ready = true ∨ (powerAt 0 3 false).trv.up = false) ∧
    (let s := powerAt 1699001 3 true;
      s.powerLimit * 1000 = s.dev.avg + s.dev.avgMore - 1 ∧
        s.powered.reverse.find? (fun k => (s.bsk k).fastGrant && !(s.bsk k).noFast) = some 15) ∧
    (let s := powerAt 1699001 2 false;
      let hs := s.powered.reverse
      let top := maxNat (hs.map (fun j => tRate (s.bsk j)))
      (∀ k, k ∈ hs → ((s.bsk k).fastGrant && !(s.bsk k).noFast) = false) ∧
        hs.find? (fun k => tRate (s.bsk k) = top && decide (1 < top)) = some 14) ∧
    (∀ avg, avg ∈ [1649001, 1699000] →
      let s := powerAt avg 3 false
      s.dev.avg + s.dev.avgMore ≤ s.powerLimit * 1000 ∧ s.powerLimit * 1000 < s.dev.avg + s.dev.avgMore + 50000) ∧
    (∀ good, good ∈ [8, 9] →
      let s := powerAt 1649000 1 false good
      s.dev.avg + s.dev.avgMore + 50000 ≤ s.powerLimit * 1000 ∧ s.dev.good = good ∧
        s.powered.find? (fun k => tRate (s.bsk k) = 1 && decide (1 < 3)) = some 15 ∧
        3 - maxNat (s.powered.map (fun k => 3 - tRate (s.bsk k))) = 1) := by
  decide +kernel

/-- Hypotheses of GovernorStepsRates: a lower rate that waits for the last Pan's level, or does not. -/
theorem test_rate_change : ∀ lv, lv ∈ [2, 16] →
    let s := { pan271 { workPan with lvlNow := lv } with baskets := [(15, { bskDflt 15 with st := .run, rateNext := some 1 })] }
    (s.bsk 15).rateNext = some 1 ∧ s.clocked = true ∧ takesWork (s.pan 271) = true ∧
    ((s.pan 271).lvlNow ≤ levelCap 1 ((s.pan 271).margin = 2) ↔ lv = 2) := by
  decide +kernel

/-- Hypotheses of TapReadingsAreTaken. -/
theorem test_tap_readings :
    (∀ r, r ∈ [({ pan := 271, band := 3, level := some (-51) } : TapReading)] → r.pan < 272 ∧ r.band < 4) ∧
    (let u := [({ pan := 271, band := 3, level := some (-51) } : TapReading)].foldl State.tapIn
        { State.reset.at 16000 with dev := { State.reset.dev with tapK := 1 } }
      ∀ q, q < 4 → ∀ band, band < 4 → u.coilLoss q band = false) := by
  decide +kernel

/-! ## Witnesses: Baskets -/

/-- Basket 15 as given. -/
def bsk15 (b : Basket) : State := { State.reset with baskets := tset bskDflt [] 15 b }

/-- Hypotheses of BasketControlFollowsItsStates. -/
theorem test_basket_control_states : ∀ st, st ∈ [BskState.off, .warming, .ready, .run, .draining, .stopped, .test, .retired] →
    (∀ f, f ∈ [DrainFor.stop, .off] → ((bsk15 { bskDflt 15 with st := st, drainFor := f }).bsk 15).st = st ∧
      ((bsk15 { bskDflt 15 with st := st, drainFor := f }).bsk 15).drainFor = f) ∧
    (bsk15 { bskDflt 15 with st := st }).held 15 = [] ∧ ((bsk15 { bskDflt 15 with st := st }).bsk 15).cls = State.reset.dev.cls.toNat := by
  decide +kernel

/-- Hypotheses of BasketControlFollowsItsStates. -/
theorem test_basket_held : (strAt { st := .suspended, bsk := 15 } .run).held 15 ≠ [] ∧
    last ∈ (strAt { st := .suspended, bsk := 15 } .run).held 15 := by decide +kernel

/-- Hypotheses of BasketsResetDrainAndWarmUp. -/
theorem test_basket_reset_holds : ∀ v, v ∈ [{ saved with st := .resident }, { saved with migSaved := false }, saved] →
    (moveAt v).held 15 = [last] ∧ (moveAt v).str last = v ∧ [last].Nodup := by
  decide +kernel

/-- Hypotheses of BasketsResetDrainAndWarmUp. -/
theorem test_basket_drains_and_warms :
    (∀ f, f ∈ [DrainFor.stop, .off] → ∀ en : Bool,
      let s := bsk15 { bskDflt 15 with st := .draining, drainFor := f, pendEn := en }
      (s.bsk 15).st = .draining ∧ (s.bsk 15).inflight = [] ∧ s.quiet 15 = true ∧ (s.bsk 15).pendEn = en) ∧
    (let s := bsk15 { bskDflt 15 with coldSweep := false };
      (s.bsk 15).st = .warming ∧ (s.bsk 15).coldSweep = false ∧ s.slotsFull 15 = true) := by
  decide +kernel

/-! ## Witnesses: the Kettle -/

/-- The last Pan's Kettle slot as given. -/
def slot307 (v : Slot) : State := State.reset.setSlot 307 v

/-- A slot whose MODE, LINK and KEEP bits are as given (08, Table 08-19). -/
def cfgSlot (mode : Nat) (link keep : Bool) : Slot :=
  { slotDflt 307 with cfg := BitVec.ofNat 32 (mode + 2 ^ 18 * b2n link + 2 ^ 19 * b2n keep) }

/-- Hypotheses of KettleSlotsAreCommanded. -/
theorem test_slot_states : ∀ st, st ∈ [SlotState.run, .stopping, .stopped, .pendingEnable, .hold] →
    ((slot307 { slotDflt 307 with st := st }).slot 307).st = st := by decide +kernel

/-- Hypotheses of KettleSlotsAreCommanded. -/
theorem test_slot_commits :
    commitBad 307 (cfgSlot 0 false false) = false ∧ (cfgSlot 0 false false).cMode = 0 ∧ (cfgSlot 0 false false).st = .stopped ∧
    commitBad 307 (cfgSlot 1 false false) = false ∧ (cfgSlot 1 false false).cMode ≠ 0 ∧ bit (cfgSlot 1 false false).c 19 = false ∧
    commitBad 307 { cfgSlot 1 false true with mode := 1 } = false ∧ bit (cfgSlot 1 false true).c 19 = true ∧
    commitBad 307 (cfgSlot 1 false true) = true := by
  decide +kernel

/-- Hypotheses of KettleSlotsAreCommanded. -/
theorem test_set_points : (cfgSlot 1 true false).link = true ∧ (cfgSlot 1 false false).link = false ∧
    ({ cfgSlot 1 false false with spWrites := 1 } : Slot).spWrites ≠ 0 ∧ tget natDflt (cfgSlot 1 false false).told 0x0605 = 0 := by
  decide +kernel

/-- Hypotheses of KettleFramesAndTestSignals. -/
theorem test_kettle_frame :
    (∀ x, x ∈ [({ slot := 319, inner := 0, ref := 0, stale := false } : SlotInput)] → x.slot < 320) ∧ State.reset.clocked = true ∧
    (State.reset.slot 318).st = .stopped ∧
    (∀ x, x ∈ [({ slot := 319, inner := 0, ref := 0, stale := false } : SlotInput)] → x.slot ≠ 318) ∧ 318 % 80 ≠ 69 := by
  decide +kernel

/-- Hypotheses of KettleFramesAndTestSignals. -/
theorem test_generator_types : bits (0x20000000#32).toNat 30 29 ≤ 1 ∧ 1 < bits (0x40000000#32).toNat 30 29 := by decide

/-- Coil 3 as given, its TEC slot's output x. -/
def coil3 (c : Coil) (x : Int) : State := (State.reset.setSlot 309 { slotDflt 309 with out := x }).setCoil 3 c

/-- Hypotheses of TecBridgesAndThermalLimits. -/
theorem test_tec_bridges :
    (coil3 {} 0).clocked = true ∧
    (∀ x, x ∈ [(100000 : Int), 0] →
      let s := coil3 { duty := -5 } x
      let m : Int := 256 * bits (s.coil 3).tecCfg.toNat 7 0
      let u0 := clampI (-m) m (s.slot 309).out
      (s.coil 3).xcond = false ∧ (s.coil 3).contend = false ∧ (s.coil 3).dark = false ∧ s.ovrGates 3 = none ∧
        ((s.coil 3).duty < 0 ∧ 0 < (if tOn u0 < 20 then 0 else u0) ↔ x = 100000)) ∧
    crosses 0xA#4 = true ∧ crosses 0x5#4 = true ∧ (coil3 { xcond := true } 0).ovrGates 3 = none ∧
    ((coil3 { xcond := true } 0).coil 3).xcond = true := by
  decide +kernel

/-- Hypotheses of TecBridgesAndThermalLimits. -/
theorem test_thermal_retests :
    (∀ n, n ∈ [9999, 10000] →
      let s := State.reset.setSlot (panSlot 271) { slotDflt 307 with therm := true, coolRun := n }
      (s.slot (panSlot 271)).therm = true ∧ (s.slot (panSlot 271)).coolRun = n) ∧
    (State.reset.slot (panSlot 271)).therm = false ∧
    (({ panDflt 271 with mode := .calibrating, reason := 2 } : Pan).mode = .calibrating) := by
  decide +kernel

/-! ## Witnesses: calibration -/

/-- Basket 15 in RUN, its last Pan the spare that has been swept last. -/
def calState (c : Cal) : State := { bsk15 { bskDflt 15 with st := .run } with cal := c }

/-- Hypotheses of SweepsRunTheirCourse. -/
theorem test_cal_turn_begins :
    let s := calState { next := 15 }
    s.clocked = true ∧ s.cal.sweep = none ∧ bit s.cal.cfg.toNat 0 = false ∧
    ((List.range 16).map (fun i => (s.cal.next + i) % 16)).find? (fun k => (s.calCfgTake.calPick k).isSome) = some 15 ∧
    (s.calCfgTake.calPick 15).isSome = true := by
  decide +kernel

/-- A sweep of the Pan in Basket 15's last slot under its spare. -/
def sweep0 (handed : Bool) : Sweep :=
  { pan := 270, cover := some 271, handed := handed, startAt := 0, calAt := 0, measAt := if handed then some 0 else none, timeout := 6
    slot := some 15 }

/-- Measurements that find a failing ring, three of one column, and a failing modulator. -/
def found : SweepResult := { rings := [(5, 0), (0, 1), (1, 1), (127, 1)], mods := [2], kTh := -3, target := 1 }

/-- Hypotheses of SweepsRunTheirCourse. -/
theorem test_handover :
    let s := { calState { sweep := some (sweep0 false) } with pans := [(271, { panDflt 271 with lvlNow := 16 })] }
    s.cal.sweep = some (sweep0 false) ∧ (s.pan 270).mode = .inService ∧ (s.pan 271).mode = .spare ∧ (s.pan 271).lvlNow = 16 ∧
    s.clocked = true ∧ (sweep0 false).measAt = none ∧ (s.slot (panSlot 271)).therm = false ∧
    (s.pan 270).progress = 0 ∧ (s.pan 270).windows.any (fun y => !y.closed) = false ∧ s.coverBusy 15 271 = false ∧
    s.preload 270 271 = (s, true) ∧
    (let u := s.setPan 270 { s.pan 270 with lvlNow := 16 };
      (u.pan 270).lvlNow = 16 ∧ (u.pan 270).ladders = [] ∧
      (u.pan 270).samples = [] ∧ (u.pan 270).lowBuf = none ∧ u.preload 270 271 = (u, true)) := by
  decide +kernel

/-- Hypotheses of SweepsRunTheirCourse. -/
theorem test_sweep_ends :
    let s := calState { sweep := some (sweep0 true) }
    s.cal.sweep = some (sweep0 true) ∧ (sweep0 true).handed = true ∧ s.time ≤ (sweep0 true).calAt + (sweep0 true).timeout * 1000000 ∧
    s.clocked = true ∧ (sweep0 true).measAt.isSome = true ∧ (repairMap (s.pan 270).startMap found.rings found.mods).isSome = true ∧
    (s.pan 270).timeouts < 2 ∧ (sweep0 true).slot.isSome = true ∧
    (let w := { sweep0 true with measAt := none }; w.handed = true ∧ (calState { sweep := some w }).cal.sweep = some w) := by
  decide +kernel

/-- Hypotheses of SweepsRunTheirCourse. -/
theorem test_cal_requests :
    let s := calState { sweep := some (sweep0 true) }
    (∃ w, s.cal.sweep = some w ∧ w.pan = 270) ∧ (∀ w, s.cal.sweep = some w → w.pan ≠ 271) :=
  ⟨⟨_, rfl, rfl⟩, fun w h => by cases h; decide⟩

/-- A window's sums of a row that returns nothing of its drive. -/
def sum0 : BlindSum := { sq := 1, n := 65536 }

/-- Its gain estimate is 0, at any noise. -/
theorem sum0_gain (sg f : Nat) : sum0.gain sg f = 0 := by
  have h : (0 - (65536 : Nat) * mkRat (sg * sg) (2 ^ 32)) / 1 ≤ (0 : Rat) := by
    rw [div_one, zero_sub, neg_nonpos]
    exact mul_nonneg (Nat.cast_nonneg _) (by rw [Rat.mkRat_eq_div]; positivity)
  have n : ((0 - (65536 : Nat) * mkRat (sg * sg) (2 ^ 32)) / 1 : Rat).num.toNat = 0 := by
    rw [Int.toNat_eq_zero]
    exact Rat.num_nonpos.mpr h
  have z : isqrt 0 128 = 0 := by decide +kernel
  simp only [BlindSum.gain, sum0, one_ne_zero, if_false, n, Nat.zero_mul, Nat.zero_div, z]
  rfl

/-- The last Pan at the end of a window, its gain correction for that row at its upper limit. -/
def windowAt (sums : Tab BlindSum) : State :=
  pan271 { workPan with kTh := -1, blind := [(blindIx 133 1 2, { gain := 2 ^ 32 + 2 ^ 26 })], sums := sums }

/-- Hypotheses of BlindWindowsAndStaleFlags. -/
theorem test_blind_windows :
    (let s := windowAt [(blindIx 133 1 2, sum0)];
      (s.pan 271).mode = .inService ∧ bit s.cal.bskEn.toNat (16 + panBsk 271) = true ∧ s.clocked = true ∧
        s.blindFull 271 = [(blindIx 133 1 2, sum0)] ∧ bit s.cal.act.toNat 4 = false ∧ (s.pan 271).kTh ≠ 0) ∧
    (windowAt [(blindIx 133 1 2, { sum0 with n := 4095 })]).blindFull 271 = [] ∧
    commonMode (panDflt 271).map [(blindIx 127 1 0, { sum0 with sy := 65536 })] ≠ 0 := by
  decide +kernel

/-- Hypotheses of BlindWindowsAndStaleFlags. -/
theorem test_blind_limit (sg f : Nat) : (moveBlind sg 0 sum0.offset (sum0.gain sg f) { gain := 2 ^ 32 + 2 ^ 26 }).2 = true := by
  rw [sum0_gain]
  have h : clampI (2 ^ 32 - 2 ^ 26) (2 ^ 32 + 2 ^ 26) (2 ^ 32 + 2 ^ 26 - divAway ((2 ^ 32 + 2 ^ 26) *
        clampI (-(2 ^ 22)) (2 ^ 22) (divAway (0 - 2 ^ 32) 4)) (2 ^ 32)) ≠
      2 ^ 32 + 2 ^ 26 - divAway ((2 ^ 32 + 2 ^ 26) * clampI (-(2 ^ 22)) (2 ^ 22) (divAway (0 - 2 ^ 32) 4)) (2 ^ 32) := by
    decide +kernel
  simp only [moveBlind, Bool.or_eq_true]
  exact Or.inr (decide_eq_true h)

/-- Hypotheses of BlindWindowsAndStaleFlags. -/
theorem test_stale_flags :
    bits State.reset.cal.act.toNat 23 16 ≠ 0 ∧ State.reset.clocked = true ∧
    (let s := State.reset.setPan 271 { panDflt 271 with refStale := true };
      (s.pan 271).refStale = true ∧ (s.pan 271).refStaleTold = false) ∧
    (List.range 4).find? (fun b => (tget tapDflt (State.reset.pan 271).taps b).stale && !(tget tapDflt (State.reset.pan 271).taps b).staleTold) =
      some 0 ∧
    (let s := { State.reset with trv := { State.reset.trv with chanCal := [(511, some 5)] } };
      tget noneDflt s.trv.chanCal 511 = some 5 ∧ tget falseDflt s.trv.chanTold 511 = false) := by
  decide +kernel

/-- Basket 15 as its start-up sweep can run: the time set, every Coil locked, and its Pans' slots in RUN at their set-points. -/
def sweepReady : State :=
  let s := { State.reset with dzf := { State.reset.dzf with stepped := true } }
  let s := (List.range 4).foldl (fun s q => s.setCoil q { s.coil q with everLocked := true, unlock := false }) s
  (bskPans 15).foldl (fun s p => s.setSlot (panSlot p) { s.slot (panSlot p) with st := .run }) s

/-- Hypotheses of StartupSweepFillsTheSlots. -/
theorem test_startup_sweep :
    let s := sweepReady
    let l := (List.range 17).map (fun k => (k, [Attempt.measured found]))
    (s.bsk 15).st = .warming ∧ (s.bsk 15).coldSweep = true ∧ s.clocked = true ∧ s.timeSet = true ∧ s.startupRuns = true ∧
    (∀ p, p ∈ bskPans 15 → (s.pan p).mode ≠ .retired ∧ (s.pan p).mode ≠ .calibrating ∧ (s.pan p).calId = 0 ∧ s.panHeld p = true) ∧
    l.all (fun e => e.2.all Attempt.legal) = true ∧
    (∀ p, p ∈ bskPans 15 → attemptsOf l p = [.measured found] ∧ (repairMap (s.pan p).startMap found.rings found.mods).isSome = true) := by
  decide +kernel

/-! ## Witnesses: the FEU and structural tests -/

/-- Hypotheses of StructuralTestsRunTheirCourse. -/
theorem test_structural_tests :
    (let s := { bsk15 { bskDflt 15 with st := .run } with trv := { State.reset.trv with flash :=
        [(0x06EFFFFC, 0), (0x06EFFFFD, 0), (0x06EFFFFE, 0), (0x06EFFFFF, 0)] } };
      s.clocked = true ∧ s.patternsOk = true ∧ (s.bsk 15).testDefer = none ∧ (s.bsk 15).st ≠ .retired ∧ (s.bsk 15).st ≠ .test) ∧
    bits State.reset.feu.testCfg.toNat 31 16 ≠ 0 ∧ bit (0x8000#16).toNat 15 = true ∧
    (let s := bsk15 { bskDflt 15 with st := .run, testDefer := some 7 };
      (s.bsk 15).testDefer = some 7 ∧ inService (s.bsk 15) = true) ∧
    (let s := bsk15 { bskDflt 15 with st := .draining, drainFor := .test };
      (s.bsk 15).drainFor = .test ∧ (s.bsk 15).inflight = []) ∧
    (let s := bsk15 { bskDflt 15 with st := .test };
      (s.bsk 15).st = .test ∧ (s.bsk 15).pendStop = false) := by
  decide +kernel

/-- Hypotheses of FeuTakesAnEvent. -/
theorem test_feu_takes :
    let e : EventRec := { time := 0, code := 0x0104, cls := 4, unit := 0x01, index := 15, stream := none, step := 0, detail := 0 }
    let s := { State.reset with evq := [e], feu := { State.reset.feu with cfg := 0x00100104#32, tail := 0xFFFF#32 } }
    s.evq = [e] ∧ s.clocked = true ∧ e.cls ≤ 4 ∧ bit s.feu.cfg.toNat 8 = true ∧ bit s.feu.cfg.toNat 9 = false ∧
    (s.feu.tail - s.feu.head).toNat < ringSize s.feu ∧ s.feu.ringBase.toNat + 32 * ringSize s.feu ≤ hbmLen ∧
    bits s.feu.cfg.toNat 2 0 ≤ e.cls := by
  decide +kernel

/-- Hypotheses of FaultNFollowsThePendingBits. -/
theorem test_fault_n : State.reset.dev.faultClk = false ∧ bits State.reset.feu.cfg.toNat 6 4 ≤ 4 := by decide +kernel

/-! ## Witnesses: the fabric -/

/-- The part with UID 5 in its fuses, the last port as given, and the fabric's other registers as given. -/
def dzfAt (v : Port) (d : Dzf := State.reset.dzf) : State :=
  { State.reset with
    dzf := { d with ports := tset portDflt [] 31 v }
    trv := { State.reset.trv with fuses := [(0, BitVec.ofNat 128 (5 + 3 * 2 ^ 120))] } }

/-- A HELLO of node UID 4 that offers itself as coordinator. -/
def hello0 : Hello :=
  { uid := 4, coord := 4, epoch := 0, node := 0, port := 0, genMap := 1, cls := 0, solo := false, digest := 0, hb := 0, dist := 0, tTx := 0
    echoTx := 0, echoRx := 0 }

theorem port_other (v : Port) (d : Dzf) (k : Nat) (h : k ≠ 31) : (dzfAt v d).port k = {} := by
  have : ∀ w : Tab Port, w = tset portDflt [] 31 v → tget portDflt w k = {} := by
    rintro _ rfl
    unfold tset
    split <;> simp [tdel, tins, tget, h, portDflt]
  exact this _ rfl

/-- Hypotheses of HellosBuildTheTree. -/
theorem test_hellos :
    (∀ st, st ∈ [PortState.hello, .up] →
      (dzfAt { st := st }).clocked = true ∧ ((dzfAt { st := st }).port 31).st = st ∧ linked st = true ∧ (dzfAt { st := st }).dzf.solo = false) ∧
    bit hello0.genMap 0 = true ∧ bit { hello0 with genMap := 0xE }.genMap 0 = false := by
  decide +kernel

/-- Hypotheses of HellosBuildTheTree. -/
theorem test_heartbeat_is_adopted :
    let s := dzfAt { st := .up, nbr := some { hello0 with hb := 2 ^ 32 - 1 } }
    (s.port 31).nbr = some { hello0 with hb := 2 ^ 32 - 1 } ∧ hello0.hb = (2 ^ 32 - 1 + 1) % 2 ^ 32 ∧ 2 ^ 32 - 1 < 2 ^ 32 ∧
    hello0.solo = false ∧ hello0.coord < s.uid ∧ (∀ k, k ≠ 31 → (s.port k).nbr = none) ∧ s.dzf.coordUid ≠ hello0.coord :=
  ⟨by decide +kernel, by decide, by decide, by decide, by decide +kernel, fun k h => by rw [port_other _ _ k h], by decide⟩

/-- Hypotheses of NodeIdsAreAskedForAndGranted. -/
theorem test_coordinators :
    (let s := dzfAt {} { State.reset.dzf with dist := 0, coordUid := 5, idmap := [(5, 32767)] };
      s.dzf.solo = false ∧ s.dzf.coord = false ∧ s.dzf.dist ≠ 0xFF ∧ s.dzf.coordUid = s.uid ∧ (∀ k, (s.port k).nbr = none) ∧
        s.dzf.idValid = false ∧ idOf s.dzf.idmap s.uid = some 32767 ∧ s.upPorts = []) ∧
    (dzfAt {} { State.reset.dzf with coord := true }).dzf.coord = true := by
  refine ⟨⟨by decide +kernel, by decide +kernel, by decide +kernel, by decide +kernel, fun k => ?_, by decide +kernel, by decide +kernel,
    by decide +kernel⟩, rfl⟩
  by_cases h : k = 31
  · subst h; decide +kernel
  · rw [port_other _ _ k h]

/-- The last port UP, with the fabric's registers as given. -/
def upAt (d : Dzf) : State := dzfAt { st := .up } d

/-- An MGT packet for node 0 that carries a message of a type (11, Table 11-13). -/
def mgt0 (ty : Nat) : Packet :=
  { type := 7, cls := 3, atype := 0, ctlRsv := 0, dst := 0, src := 1, cfg := cfgField (0, State.reset.dzf.digest.toNat), inc := 0, status := 0
    hops := 1, rsv := 0, tag := 0, seq := 0, stime := 0, addr := 0, ben := 0, payload := leBytes 1 ty ++ leBytes 16 7 ++ leBytes 2 9 }

/-- Hypotheses of NodeIdsAreAskedForAndGranted. -/
theorem test_node_ids :
    (∀ c : Bool, let s := upAt { State.reset.dzf with coord := c, parent := some 3, idmap := [(6, 32767)], assigned := [(8, 9)], upFrom := [(7, 31)] }
      s.clocked = true ∧ (s.port 31).st = .up ∧ s.dzf.coord = c ∧ s.dzf.parent = some 3 ∧ s.chooseId 7 = some 0 ∧
        idOf s.dzf.idmap 6 = some 32767 ∧ idOf s.dzf.upFrom 7 = some 31 ∧ (7 : Nat) ≠ s.uid ∧ s.grantable 7 0 = true ∧
        s.grantable 7 9 = false ∧ s.dzf.idValid = false ∧ s.dzf.idmap.length < 32768) ∧
    (let s := upAt { State.reset.dzf with idValid := true, nodeId := 0, parent := some 3 };
      s.dzf.idValid = true ∧ s.dzf.nodeId = 0 ∧ ∀ ty, ty ∈ [1, 2, 3, 4] →
        s.isMine (mgt0 ty) = true ∧ (s.dzf.acceptCfg (mgt0 ty).cfg).isSome = true ∧ ((mgt0 ty).payload.getD 0 0).toNat = ty) := by
  decide +kernel

/-- The fabric with an epoch in force, one staged, and an image staged or not. -/
def rollAt (c e phase : Nat) (img : W64) : Dzf :=
  { State.reset.dzf with epoch := BitVec.ofNat 32 c, stgEpoch := BitVec.ofNat 32 e, phase := phase, stgImg := img }

/-- Hypotheses of RolloutsAndCircuitsChange. -/
theorem test_rollouts :
    (let d := rollAt 0xFFFFFFFF 14 0 0;
      d.phase = 0 ∧ d.stgEpoch.toNat ≠ 0 ∧ 1 ≤ (d.stgEpoch.toNat + 2 ^ 32 - d.epoch.toNat) % 2 ^ 32 ∧
        (d.stgEpoch.toNat + 2 ^ 32 - d.epoch.toNat) % 2 ^ 32 ≤ 15 ∧ (dzfAt {} d).imgBad = false ∧ d.epoch.toNat ≠ 0) ∧
    ¬ (20 + 2 ^ 32 - 4) % 2 ^ 32 ≤ 15 ∧ (dzfAt {} (rollAt 1 2 0 (2 ^ 63))).imgBad = true ∧
    (dzfAt {} (rollAt 0 1 0 0)).dzf.epoch.toNat = 0 ∧ (∀ p, p ∈ [1, 2, 3] → (dzfAt {} (rollAt 1 2 p 0)).dzf.phase = p) := by
  decide +kernel

/-- Ports 0 and 31 staged as a pair that pass light through. -/
def plait (p : Port) : State :=
  { State.reset with dzf := { State.reset.dzf with ports := [(0, { p with stgMode := 1, stgPeer := 31 }), (31, { stgMode := 1, stgPeer := 0 })] } }

/-- Hypotheses of RolloutsAndCircuitsChange. -/
theorem test_plait_maps :
    (∀ q, q < 32 → (plait {}).plaitBad q = false) ∧ (plait { st := .up }).plaitBad 0 = true ∧
    (let s := dzfAt { stgMode := 3 };
      s.plaitBad 31 = true ∧ ∀ q, q < 31 → s.plaitBad q = false) ∧
    (let s := dzfAt { toLocal := true } { State.reset.dzf with plaitBusy := true };
      s.dzf.plaitBusy = true ∧ (s.port 31).toLocal = true ∧ (s.port 30).toLocal = false) := by
  decide +kernel

/-- Node 0 with a valid ID and its entries of routing to node 1 by port 31. -/
def node0 : Dzf :=
  { State.reset.dzf with idValid := true, nodeId := 0, sync := true
                         member := [(0, { valid := true, prio := 1, mask := 0x7F, value := 1, ports := 2 ^ 31 })]
                         group := [(0, { valid := true, prio := 1, mask := 0xFF, value := 1, ports := 2 ^ 31 })] }

/-- A unit from node 1 to the last aligned unit of HBM of node 0. -/
def unit0 (type cls : Nat) : Packet :=
  { mgt0 0 with type := type, cls := cls, hops := 2, stime := 0, addr := 0x6000000000 - 64, ben := 1, payload := List.replicate 64 3 }

/-- Hypotheses of UnitsAreHandledAtTheirTarget. -/
theorem test_units_at_target :
    (∀ x, x ∈ [(1, 0), (1, 1), (2, 0), (2, 1), (3, 2), (4, 0)] →
      let s := upAt node0
      let m := unit0 x.1 x.2
      portOk 31 = true ∧ s.clocked = true ∧ s.carries 31 = true ∧ s.isMine m = true ∧ s.age m ≤ 50000 ∧
        s.dzf.reorder = [] ∧ m.seq < 2 ^ 32 ∧ m.seq = (s.newInc m).expected m.src ∧ pktTypeBad m = false ∧
        s.dzf.acceptCfg m.cfg = some 0 ∧ pktAddrBad m = false ∧ s.unitBad m = false ∧ m.payload.length = 64 ∧ s.dzf.dedup.length < 131072 ∧
        s.dzf.dedup.any (fun d => d.src = m.src && d.tag = m.tag && d.epoch = 0) = false ∧
        (s.egress (s.reply m 0 []) true false).1 = some 31) ∧
    (let s := { upAt node0 with time := 50000 }; s.age (unit0 1 0) ≤ 50000) ∧
    (let s := upAt { node0 with dedup := [{ src := 1, tag := 0, epoch := 0, at_ := 0 }] };
      s.dzf.dedup.any (fun d => d.src = 1 && d.tag = 0 && d.epoch = 0) = true) ∧
    (let m := { unit0 3 2 with addr := doorBase + 126 * 64, payload := leBytes 4 65535 ++ List.replicate 60 0 };
      pktDoor m = some 126 ∧ pktAddrBad m = false) ∧ (∀ a, a ∈ [0, 1, 2] → pktTypeBad { unit0 3 2 with atype := a } = false) ∧
    pktDoor (unit0 3 2) = none := by
  decide +kernel

/-- A unit of step 0 of Basket 15 that node 1 has not answered. -/
def sent0 (type cls : Nat) : FUnit :=
  { pkt := { unit0 type cls with src := 0, dst := 1 }, who := .step 0 15, part := 63, local_ := 0x100, off := 0, len := 64, firstAt := 0, lastAt := 0
    good := false, goodAt := 0, busyAt := none, failed := false, lazy := false, again := false }

/-- Node 0 with that unit outstanding. -/
def sourceAt (u : FUnit) : State :=
  { upAt { node0 with units := [u] } with baskets := [(15, { bskDflt 15 with inflight := [{ flying with uid := 0, h := 15, units := 1 }] })] }

/-- An answer of node 1. -/
def answer (type status : Nat) : Packet := { unit0 type 0 with status := status }

/-- Hypotheses of UnitsAreAnsweredAndPassedOn. -/
theorem test_answers :
    ∀ x, x ∈ [(6, 2), (5, 1)] → ∀ st, st ∈ [0, 1, 2, 3, 4, 5, 6, 7] →
      let s := sourceAt (sent0 x.2 0)
      let m := answer x.1 st
      s.carries 31 = true ∧ s.isMine m = true ∧ s.unitOf m = some (sent0 x.2 0) ∧ s.dzf.backlog = [] ∧
      ((s.bsk 15).inflight.find? (fun y => y.uid = 0)).isSome = true ∧ m.status = st := by
  decide +kernel

/-- Hypotheses of UnitsAreAnsweredAndPassedOn. -/
theorem test_unit_timers :
    (∀ cls, cls ∈ [0, 1] →
      let u := { sent0 1 cls with lastAt := 1880000 }
      let s := sourceAt u
      s.unitTag 0 = some u ∧ s.clocked = true ∧ u.waiting = true ∧ u.who = .step 0 15 ∧ max s.time (s.resendAt u) = u.firstAt + 1900000 ∧
        s.dzf.backlog = [] ∧ (s.at (s.resendAt u)).mayOriginate = true ∧ (s.egress u.pkt false false).1 = some 31) ∧
    (∀ more : Bool,
      let u := { sent0 3 2 with good := true }
      let x := { sent0 3 2 with pkt := { unit0 3 2 with tag := 1, src := 0, dst := 1 } }
      let s := upAt { node0 with units := if more then [u, x] else [u] }
      s.unitTag 0 = some u ∧ s.clocked = true ∧ u.good = true ∧ s.partOpen u = more) ∧
    (let d (n : Nat) : Dedup := { src := n, tag := 0, epoch := 5, at_ := 7 }
      let s := upAt { node0 with units := [sent0 1 0], dedup := [d 0, d 1] };
      (s.dzf.dedup.find? (fun d => d.src = 0 && d.tag = 0 && d.epoch = 5)).isSome = true ∧ s.unitTag 0 ≠ none ∧
        (s.dzf.dedup.find? (fun d => d.src = 1 && d.tag = 0 && d.epoch = 5)).isSome = true ∧ 1 ≠ s.dzf.nodeId) ∧
    ({ sourceAt (sent0 1 0) with dzf := { (sourceAt (sent0 1 0)).dzf with sync := false } }).mayOriginate = false := by
  decide +kernel

/-- Hypotheses of UnitsAreAnsweredAndPassedOn. -/
theorem test_packets_for_others :
    (∀ ty, ty ∈ [1, 4, 5, 7] → ∀ hops, hops ∈ [1, 2] →
      let s := upAt { node0 with nodeId := 2 }
      let m := { unit0 ty 1 with hops := hops, dst := 1, src := 1 }
      portOk 31 = true ∧ s.carries 31 = true ∧ s.isMine m = false ∧ 1 ≤ m.type ∧ m.type ≤ 7 ∧
        (s.egress { m with hops := m.hops - 1 } (m.type = 5 || m.type = 6) true).1 = some 31 ∧
        (s.egress (s.reply m 5 []) true true).1 = some 31) ∧
    (let s := { upAt node0 with tx := [(31, unit0 1 0, 7)] };
      s.tx.find? (fun e => e.1 = 31 && e.2.1 = unit0 1 0) = some (31, unit0 1 0, 7)) := by
  decide +kernel

/-! ## Witnesses: ports -/

/-- Hypotheses of PortsFollowTheirLinks. -/
theorem test_port_states : ∀ st, st ∈ [PortState.disabled, .down, .training, .hello, .up, .drain, .isolated, .pass, .retired] →
    ((dzfAt { st := st }).port 31).st = st ∧ (dzfAt { st := st }).clocked = true := by
  decide +kernel

/-- Hypotheses of PortsFollowTheirLinks. -/
theorem test_port_limits :
    (let v : Port := { st := .up, badWins := 9, crcMs := 1001, downAt := List.replicate 15 0 };
      bits v.cfg.toNat 15 0 < v.crcMs ∧ 10 ≤ v.badWins + 1 ∧ 16 ≤ (lastSecond 1000000000 v.downAt ++ [1000000000]).length) ∧
    (let v : Port := { st := .training, trainFailAt := [0, 0] };
      3 ≤ (lastSecond 10000000 v.trainFailAt ++ [10000000]).length ∧ (lastSecond 1010000000 v.trainFailAt ++ [1010000000]).length < 3) ∧
    (let s := (dzfAt { crcMs := 1 }).setCoil 3 { everLocked := true };
      (s.coil (31 / 8)).everLocked = true ∧ (s.port 31).crcMs ≠ 0) := by
  decide +kernel

/-! ## Witnesses: the host port -/

/-- The last queue pair as given, the link up and memory ready. -/
def que63 (v : Queue) : State :=
  { State.reset with hq := { State.reset.hq with linkUp := true, memReady := true, queues := tset queueDflt [] 63 v } }

/-- A queue that runs: the least sizes (12, Table 12-17). -/
def runQueue : Queue := { cfg := 0xC0000000#32, active := true, sqTail := 1 }

/-- Hypotheses of QueuesRunTheirCommands. -/
theorem test_queue_doorbells :
    let v := (que63 runQueue).que 63
    v.sqSize - 1 < v.sqSize ∧ 0 < v.sqSize ∧ v.cqSize - 1 < v.cqSize ∧ 0 < v.cqSize ∧ bit (que63 runQueue).hq.err.toNat 1 = false ∧
    (que63 runQueue).clocked = true ∧ v.active = true ∧ v.en = true ∧ v.pendEn = false ∧ v.sqHead ≠ v.sqTail ∧ v.room = true ∧ (que63 runQueue).hq.linkUp = true ∧
    (que63 runQueue).hostFail (v.sqBase.toNat + 64 * v.sqHead) 64 = none := by
  decide +kernel

/-- Hypotheses of QueuesRunTheirCommands. -/
theorem test_queue_states :
    ((que63 {}).que 63).en = false ∧ ((que63 {}).que 63).active = false ∧
    ((que63 { active := true, pendEn := true }).que 63).en = false ∧ ((que63 { active := true }).que 63).active = true ∧
    ((que63 { pendEn := true }).que 63).pendEn = true ∧ ((que63 { pendEn := true }).que 63).active = false := by
  decide +kernel

/-- An entry of 64 bytes: opcode, flags, CID 0xFFFF, then operands by offset, bytes and value. -/
def cmd (opc flags : Nat) (fs : List (Nat × Nat × Nat)) : QCmd :=
  { fetched ((block ([(0, 1, opc), (1, 1, flags), (2, 2, 0xFFFF)] ++ fs)).take 64) 1 with started := false, done := none }

/-- A queue with one command. -/
def cmdAt (c : QCmd) : State := que63 { runQueue with cmds := [c] }

/-- Hypotheses of QueuesRunTheirCommands. -/
theorem test_queue_commands :
    (∀ c, c ∈ [cmd 0 1 [], cmd 1 0 [(8, 4, 3 * 2 ^ 28 + last)], cmd 1 0 [(0x0C, 1, 1)], cmd 2 0 []] →
      (cmdAt c).clocked = true ∧ ((cmdAt c).que 63).cmds = [c] ∧ c.started = false ∧ c.done = none) ∧
    rsvZero (cmd 0 1 []) 8 = true ∧ rsvZero (cmd 1 0 [(0x0C, 1, 1)]) 12 = false ∧
    rsvZero (cmd 1 0 [(8, 4, 3 * 2 ^ 28 + last)]) 12 = true ∧
    (cmdAt (cmd 1 0 [])).strmDenied 0 3 last = false ∧ (cmdAt (cmd 1 0 [])).strmDenied 31 3 last = true ∧
    ((cmdAt (cmd 1 0 [])).str last).migBy = none ∧
    ((cmdAt (cmd 1 0 [])).strmDo 3 0 last).2.isSome = true ∧
    (cmdAt (cmd 2 0 [])).xferBad 0 (cmd 2 0 []) = some 1 ∧
    (∀ dir, dir ∈ [0, 1] → (cmdAt (cmd 2 0 [])).xferBad 0 (cmd 2 0 [(8, 8, 0x1000), (0x10, 8, 0x5FFFFFFFFC), (0x18, 4, 4), (0x1C, 1, dir)]) = none) := by
  decide +kernel

/-- A command that is done. -/
def doneCmd (noirq : Bool) : QCmd := { cmd 0 0 [] with started := true, done := some (0, 0, 0), noirq := noirq }

/-- Hypotheses of CompletionsAndMessagesAreSignalled. -/
theorem test_completions :
    (∀ n : Bool, let s := cmdAt (doneCmd n)
      s.clocked = true ∧ (s.que 63).cmds.find? (fun x => x.cid = (doneCmd n).cid && x.done.isSome) = some (doneCmd n) ∧ (doneCmd n).done = some (0, 0, 0) ∧
        bit (s.que 63).cfg.toNat 30 = true ∧ max 1 (bits (s.que 63).icfg.toNat 15 8) ≤ (s.que 63).irqCnt + 1) ∧
    ((que63 { runQueue with irqCnt := 1 }).que 63).irqCnt ≠ 0 ∧
    (let s := { que63 {} with hq := { State.reset.hq with tirqHeld := [(126, true)] } };
      tget falseDflt s.hq.tirqHeld 126 = true) := by
  decide +kernel

/-- Hypotheses of HostSideAccessesAndResets. -/
theorem test_bar2 :
    barOk (hbmLen - 1) 1 = true ∧ barTo (hbmLen - 1) 1 = .mem (hbmLen - 1) ∧ barOk hbmLen 1 = true ∧ barTo hbmLen 1 = .mem crockBase ∧
    (que63 {}).badIn crockBase 1 = [] ∧ State.reset.memUp = false ∧ (que63 {}).memUp = true ∧
    barOk (hbmLen + crockLen) 1 = true ∧ barTo (hbmLen + crockLen) 1 = .rsv ∧
    barOk 0x7FFFFFFFFF 1 = true ∧ barTo 0x7FFFFFFFFF 1 = .win 15 ∧ State.reset.apAddr 15 0x7FFFFFFFFF = none ∧
    (let s := { que63 {} with hq := { State.reset.hq with ap := [(15, BitVec.ofNat 64 (2 ^ 63 + 2 ^ 44))] } };
      (s.apAddr 15 0x7FFFFFFFFF).isSome = true) := by
  decide +kernel

/-- Hypotheses of HostSideAccessesAndResets. -/
theorem test_host_resets :
    (let s := { strAt { st := .resident } .run with hq := { State.reset.hq with vfs := [(31, { strm := BitVec.ofNat 32 (17 * 2 ^ 27) })] } };
      s.vfHas 31 last = true ∧ (s.str last).st = .resident) ∧
    ((que63 { cfg := 0x9F000000#32 }).que 63).func = 31 ∧ (que63 {}).hq.linkUp = true ∧ bit (que63 {}).hq.err.toNat 0 = false ∧
    ({ State.reset with dev := { State.reset.dev with perst := false } } : State).clocked = true ∧ State.reset.dev.st ≠ 5 := by
  decide +kernel

/-! ## Witnesses: registers and resets -/

/-- The part with PERST_N released, in a device state. -/
def run (st : Nat) : State := { State.reset with dev := { State.reset.dev with perst := false, st := st } }

/-- Hypotheses of RegisterAccessesAreTakenOrRecorded. -/
theorem test_register_accesses :
    (run 2).reachable = true ∧ barSpan 31 0x1FFFFFC 4 = true ∧
    (run 2).refusal 0 1 4 true = some 2 ∧ (run 2).refusal 0 0 2 true = some 1 ∧ (run 5).refusal 0 0x20 4 true = some 3 ∧
    (run 2).refusal 0 4 8 true = some 2 ∧ barSpan 0 4 8 = true ∧ (run 2).refusal 0 0x1FFFFFF 1 false = some 1 ∧
    barSpan 0 0x1FFFFFF 1 = true ∧ (run 2).stateRefuses 0 0x500 = false ∧ (run 2).stateRefuses 0 0x1F0000 = false ∧
    isLow 0 0x200 = true ∧ isLow 0 0x204 = false ∧ (run 2).stateRefuses 0 0x204 = false ∧ isLow 31 8 = true := by
  decide +kernel

/-- Hypotheses of RegisterAccessesAreTakenOrRecorded. -/
theorem test_held_word :
    let s := { run 2 with dev := { (run 2).dev with heldLow := [(0, some (0x200, 5))] } }
    s.reachable = true ∧ tget noneDflt s.dev.heldLow 0 = some (0x200, 5) ∧ barSpan 0 0x204 4 = true ∧ 0x200 % 4 = 0 := by
  decide +kernel

/-- Hypotheses of WarmResetsAndClockLosses and ColdResetStartsAnew. -/
theorem test_resets :
    (∀ st, st ∈ [0, 1, 2, 5] → (run st).clocked = true ∧ (run st).dev.cause ≠ 3 ∧ (run st).dev.perst = false) ∧
    (∀ st, st ∈ [3, 4] → (run st).clocked = false) ∧ State.reset.dev.perst = true ∧ State.reset.dev.vaux = true ∧
    ({ (run 2).dev with vaux := false } : Dev).vaux = false ∧
    (strAt { st := .migrating } .off).bsk 15 = { bskDflt 15 with st := .off } ∧ ((strAt { st := .migrating } .run).str last).st = .migrating ∧
    ({ State.reset.ket with heaterHold := some 5 } : Kettle).heaterHold = some 5 := by
  decide +kernel

/-- Sticky records of the black box. -/
def stickies : List BbrRec :=
  [{ seq := 1, time := 0, carried := false, kind := .panRetire 271 3 }, { seq := 2, time := 0, carried := false, kind := .basketRetire 15 1 },
    { seq := 3, time := 0, carried := false, kind := .portRetire 31 1 }]

/-- Hypotheses of ColdResetStartsAnew. -/
theorem test_sticky_records :
    let s := { State.reset with trv := { State.reset.trv with bbr := [{ num := 0, recs := stickies }] } }
    liveSticky s.trv.known = stickies ∧
    liveSticky { s.trv with bbrQ := [(0, .panRetire 3 0)] }.known ≠ stickies ∧ (∀ r, r ∈ stickies → (match r.kind with | .fieldRepair _ _ _ _ => false | _ => true) = true) ∧
    s.dev.vaux = true ∧ s.dev.cause ≠ 3 ∧ (∀ e, e ∈ [(511, true)] → e.1 < 512) := by
  decide +kernel

/-! ## Witnesses: the board -/

/-- A board input as given, Trivet up. -/
def inputAt (n : Nat) (v : Input) : State := { State.reset with trv := { State.reset.trv with up := true } }.setInp n v

/-- Hypotheses of BoardSignalsAreHandled. -/
theorem test_board_inputs : ∀ n, n ∈ [0, 1, 2] → ∀ b : Bool,
    ((inputAt n { pin := !b }).inp n).edgeAt = none ∧ ((inputAt n { pin := !b }).inp n).pin = !b ∧
    ((inputAt n { pin := !b }).inp n).masked = false ∧ (inputAt n {}).trv.up = true ∧
    (let s := { inputAt n { pin := !b, edgeAt := some 0 } with time := 9999 };
      (s.inp n).edgeAt = some 0 ∧ s.time < 0 + 10000 ∧ (s.inp n).pin = !b) ∧
    ((inputAt n { pin := true }).inp n).pin = true ∧ ((inputAt n { masked := true }).inp n).masked = true := by
  decide +kernel

/-- Hypotheses of BoardSignalsAreHandled. -/
theorem test_outputs_contend :
    (∀ x, x ∈ [(16, 8), (31, 23), (32, 0), (39, 7)] →
      let s := { run 2 with dev := { (run 2).dev with gpio := 0xFF00#32 } }
      contBit x.1 = some x.2 ∧ s.isDriven x.1 = true ∧ bit s.dev.outCont.toNat x.2 = false) ∧
    (let s := (run 2).setCoil 3 { contend := true };
      (s.coil ((31 - 16) / 4)).contend = true ∧ bits s.dev.outCont.toNat 23 20 = 0) ∧
    (let s := (run 2).setSlot 308 { slotDflt 308 with st := .run };
      (s.slot 308).st = .run) ∧
    (∀ x, x ∈ [({ rail := 8, pin := none } : RailRead)] → x.rail < 9) ∧ ({ State.reset.trv with ready := true } : Trivet).ready = true ∧
    9 ≤ tget natDflt ({ State.reset.dev with silent := [(8, 9)] } : Dev).silent 8 := by
  decide +kernel

/-! ## Witnesses: Trivet -/

/-- Trivet with its firmware running and an endpoint ID, as given. -/
def trvAt (v : Trivet) : State := { run 2 with trv := { v with ready := true, up := true, eid := some 9 } }

/-- Hypotheses of TrivetAnswersItsCommands. -/
theorem test_trivet_hears :
    (∀ via, via ∈ [Via.mailbox, .vdm, .management 3] →
      (trvAt { goBusy := true }).hears via false = true ∧ (trvAt { goBusy := true }).hears via true = true ∧
      (run 2).hears via true = false) ∧ managed (.management 3) = true ∧ managed .mailbox = false ∧
    ({ subs := [{ eid := 3, cls := 0, mask := 0, queue := [], lost := 1 }] } : Trivet).subs.any (fun x => x.eid = 3) = true ∧
    ({ subs := List.replicate 4 { eid := 3, cls := 0, mask := 0, queue := [], lost := 0 } } : Trivet).subs.any (fun x => x.eid = 4) = false ∧
    (trvAt { nonce := some 77 }).trv.nonce = some 77 ∧ ((trvAt {}).fuseTarget .debugLock).isSome = true ∧
    (trvAt { fuses := [(3, BitVec.ofNat 128 (3 * 2 ^ 120))] }).fuseTarget .debugLock = none := by
  decide +kernel

/-- Hypotheses of FlashIsReadProgrammedAndErased. -/
theorem test_flash_programs :
    let s := trvAt {}
    s.trv.flashOps = [] ∧ (s.flashCheck (.management 3) 0x06EFFF00 256 256).2 = none ∧ s.inImage 0x06EFFF00 = false ∧
    (s.flashCheck .mailbox 0x04000000 256 256).2 = none ∧ (∀ i, i < 256 → tget flashDflt s.trv.flash (0x04000000 + i) = 0xFF) ∧
    (s.flashCheck .mailbox 0 256 256).2 = some 2 ∧ (s.flashCheck (.management 3) 1 256 256).2 ≠ none ∧
    tget flashDflt (trvAt { flash := [(0x040000FF, 0)] }).trv.flash (0x04000000 + 255) ≠ 0xFF ∧
    (s.flashCheck (.management 3) 0x3FF0000 0x10000 0x10000).2 = none ∧ (s.flashCheck (.management 3) 0x1000 0x10000 0x10000).2 ≠ none := by
  decide +kernel

/-- A legal entry of the scan that names the last assigned channel, and the settings and converters of 13, R408 and R409. -/
def scan0 : ScanEntry := { en := true, channel := 0x1A7, span := 0, gain := 3, frames := 63, rep := 0, delay := 0, rsv := 0 }

/-- See `scan0`. -/
def comp0 : CompSet := { idx := 63, lo := -5, hi := 5, hyst := 1, en := true, gain := 3, frames := 64 }

/-- See `scan0`. -/
def conv0 : TrigConv := { conv := 15, channel := 511, gain := 3, frames := 64 }

/-- Hypotheses of MonitorIsSetUpAndConverts. -/
theorem test_monitor_settings :
    (List.replicate 256 scan0).length ≤ 256 ∧ (∀ e, e ∈ [scan0, { scan0 with channel := 0x1FF }] → e.rsv = 0 ∧ e.channel + e.span ≤ 0x1FF) ∧
    256 < (List.replicate 257 scan0).length ∧ ({ scan0 with rsv := 1 } : ScanEntry).rsv ≠ 0 ∧
    (comp0.idx < 64 ∧ 1 ≤ comp0.frames ∧ comp0.frames ≤ 64 ∧ comp0.gain ≤ 3) ∧
    (conv0.conv < 16 ∧ conv0.channel < 512 ∧ 1 ≤ conv0.frames ∧ conv0.frames ≤ 64 ∧ conv0.gain ≤ 3 ∧ (trvAt {}).pairOf conv0.conv = none) ∧
    (trvAt {}).convAt 14 = none ∧ (trvAt {}).convAt 15 = none := by
  decide +kernel

/-- A group of one converter that waits for its trigger. -/
def group0 (k : TrigKind) (fired : Bool) : TrigGroup := { convs := [conv0], kind := k, fired := fired, readyAt := 12000 }

/-- A conversion of the scan. -/
def busy0 (src : Nat) : Conv := { channel := 0x15B, gain := 0, frames := 1, src := src, entry := 0, stale := false, endAt := 28000 }

/-- Every converter busy but the last. -/
def busyConvs : Tab (Option Conv) := (List.range 15).map (fun c => (c, some (busy0 0)))

/-- Hypotheses of MonitorIsSetUpAndConverts. -/
theorem test_monitor_converts :
    (let s := trvAt { convs := busyConvs, compQ := [63] };
      s.convIdle 0 = false ∧ s.convIdle 15 = true ∧ (∀ k, k < 15 → s.convIdle k = false) ∧ argMin id s.trv.compQ = some 63) ∧
    (let s := trvAt { convs := busyConvs, scan := [scan0] };
      s.trv.compQ = [] ∧ s.trv.scan[s.trv.scanPos]? = some scan0 ∧ s.trv.scanWait ≤ s.time ∧ chanRsv (scan0.channel + s.trv.scanOfs) = false) ∧
    (let s := trvAt { convs := [(15, some (busy0 3))], pairs := [(1, some (0x15B, 64))] };
      s.convAt 15 = some (busy0 3) ∧ s.pairOf 15 = some (0x15B, 64)) ∧
    (let w : Comp := { lo := -5, hi := 5, hyst := 1, en := true, armed := true, hold := some 64000, cross := 1 };
      w.lo + w.hyst ≤ -4 ∧ (4 : Int) ≤ w.hi - w.hyst ∧ w.hi < 6 ∧ 0 ≤ w.hyst ∧ w.cross ≠ 0) ∧
    (group0 .command true).fired = true ∧ (group0 (.atTime 0) false).kind = .atTime 0 ∧
    tget noneDflt ({ chanCal := [(511, some 0)] } : Trivet).chanCal 511 = some 0 := by
  decide +kernel

/-- A firmware image that verifies against blank fuses. -/
def image0 : FwImage := { counter := 0, version := 1, svn := 0, keySlot := 0, sigOk := true }

/-- Trivet before its boot, with an image committed in bank 1 or none. -/
def bootAt (img : Bool) : State :=
  { run 0 with trv := { State.reset.trv with
      fw := if img then [(1, { img := some image0, commit := true })] else []
      fuses := (List.range 4).map (fun i => (0x130 + i, BitVec.ofNat 128 (3 * 2 ^ 120))) } }

/-- Hypotheses of TrivetBootsAndKeepsItsRecord. -/
theorem test_trivet_boots :
    (bootAt true).dev.vaux = true ∧ (bootAt true).trv.ready = false ∧ (bootAt true).trv.recovery = false ∧ (bootAt false).bootBank = none ∧
    (bootAt true).verifies image0 = true ∧ (bootAt true).bootBank = some (1, image0) ∧
    ({ (bootAt true).trv with bbrQ := [(5, .portUnretire 3)], bbr := [{ num := 0, recs := stickies }] } : Trivet).bbr.getLast?.isSome = true ∧
    stickies.length < 1024 ∧ (trvAt { fwUpd := some (0, some image0) }).trv.fwUpd = some (0, some image0) ∧
    (trvAt {}).trv.second ≤ (trvAt {}).time / 1000000000 := by
  decide +kernel

/-! ## The machine's own steps -/

/-- Hypotheses of StepRunsTheFrontCommand: a part that may idle. -/
theorem test_idles : (run 2).pending = [] ∧ (run 2).clocked = true ∧ (run 2).dzf.slew = 0 ∧
    ∀ n, n < 3 → ((run 2).inp n).edgeAt = none := by
  decide +kernel

/-- A state with memory, a token at its limit and commands that wait. -/
def waiting : State := { ctl 0x07 0 with pending := [.tokenSignalWrite 15 0x1F#32, .nop 0], tokens := [(0x1F, { count := 65535 })] }

/-- Hypotheses of StepsKeepMemoryCanonical, StepsKeepTokenCountsInRange and CommandsTouchOnlyTheirFields. -/
theorem test_steps_go_on : waiting.MemOk ∧ (∀ k, (tget tokDflt waiting.tokens k).count ≤ 65535) ∧
    (∀ k, (tget tokDflt waiting.globals k).count ≤ 65535) ∧ (∃ t, step waiting = .next t) ∧
    ∃ t, exec (.tokenSignalWrite 15 0x1F#32) waiting = .next t := by
  refine ⟨⟨by decide +kernel, by decide +kernel⟩, fun k => ?_, fun k => ?_, ⟨_, rfl⟩, ⟨_, rfl⟩⟩
  · by_cases h : k = 0x1F
    · subst h; decide
    · have : tget tokDflt waiting.tokens k = tokDflt k := by simp [waiting, tget]; intro h'; exact absurd h' h
      rw [this]; simp [tokDflt]
  · have : tget tokDflt waiting.globals k = tokDflt k := by simp [waiting, ctl, at0, State.reset, tget]
    rw [this]; simp [tokDflt]

/-! ## WellFormed refuses units the part does not have -/

/-- A packet of no content. -/
abbrev pk : Packet := unit0 1 0

theorem test_wf_steps : ([Instr.nop, .loop, .endl, .br, .call, .ret, .wait, .sig, .fence, .yield, .yieldSuspend, .halt, .mark, .dbrk,
    .dsnap, .wld, .wsw, .wref, .mvm, .mvmw, .popen, .pclose, .spill, .resume, .rot, .qnt, .scup, .stat, .vop, .att, .dma, .get, .put,
    .aadd, .gath, (.stepCompletion · 0), .ringHeadPoll, .tokenTimeout, (.start · 15), (.streamResume · 15), (.abort · 15),
    (.migrate · 15), (.streamReset · 15), .migrationMove].all
      (fun c => (c 131071).wf && !(c 131072).wf)) = true := by
  decide +kernel

theorem test_wf_baskets : ([(Instr.tokenSignalWrite · 0), (.start 0 ·), (.streamResume 0 ·), (.abort 0 ·), (.migrate 0 ·),
    (.streamReset 0 ·), (.potWaitEnd · 63), .rateChange, .basketStop, .basketCommit, .basketOff, .basketOn, .basketReset,
    .basketDrained, .seqCntClr, .wskCntClr, .rdoCntClr, (.startupSweep · []), .testDue, .testDeferEnd, .testEntry, (.testResult · .pass),
    .warmingEnd, (.conversionComplete · 0 0)].all (fun c => (c 15).wf && !(c 16).wf)) = true := by
  decide +kernel

theorem test_wf_pans : ([Instr.tileLoad, .bankSwap, (.bankRefresh · true .clean), (.groupBlockEnd · false), (.promotion · 0 0 false),
    (.replaySamePan · .clean), (.replaySpare · .clean), (.noSpareReplay · .clean), (fun p => .sampledReplayCompare ⟨p, .clean⟩),
    (fun p => .sampledReplayResolve ⟨p, .clean⟩), .panCntClr, .thermalRetest, (fun p => .blindWindow (p / 17) (p % 17)), (fun p => .tapRead [⟨p, 3, none⟩]), (.calStale 1 ·)].all (fun c => (c 271).wf && !(c 272).wf)) = true := by
  decide +kernel

theorem test_wf_tables : (Instr.potWaitEnd 15 64).wf = false ∧ (Instr.tapRead [⟨271, 4, none⟩]).wf = false ∧
    (Instr.tokenIrqDeferred 126).wf = true ∧ (Instr.tokenIrqDeferred 127).wf = false ∧
    (Instr.calStale 0 0).wf = false ∧ (Instr.calStale 3 511).wf = true ∧ (Instr.calStale 3 512).wf = false ∧ (Instr.calStale 4 0).wf = false := by
  decide

theorem test_wf_slots : ([Instr.slotStop, .slotCommit, .slotCntClr, (.spWrite · 0), (fun n => .kettleFrame ⟨[⟨n, 0, 0, false⟩], []⟩)].all
      (fun c => (c 319).wf && !(c 320).wf)) = true ∧
    ([Instr.xcondClear, (fun q => .pwmPeriod [(q, 0)])].all (fun c => (c 3).wf && !(c 4).wf)) = true := by
  decide +kernel

theorem test_wf_ports : ([Instr.helloSend, (.hello · hello0), (.join · 0), (.assign · 0 0), (.claim · 0 0), (.deny · 0 0), .flitReplay,
    .replayWindow, .lightDetect, .linkUp, .trainingTimeout, .lossOfSignal, .portEnable, .portDisable, (.portDrain · true), .retrain,
    .unretire, (.creditStallDiscard · pk)].all (fun c => (c 31).wf && !(c 32).wf)) = true ∧
    ([(Instr.mgt · pk), (.write · pk), (.read · pk), (.atomic · pk), (.skip · pk), (.compl · pk), (.rdrsp · pk), (.forward · pk)].all
      (fun c => (c 31).wf && !(c 32).wf && (c 0xFFFF).wf)) = true := by
  decide +kernel

theorem test_wf_host : ([(Instr.sqDoorbell · 0), (.cqDoorbell · 0), .commandFetch, (.queueNop · 0), (.strm · 0), (.xfer · 0),
    (.queueCommandComplete · 0), .irqCoalesceTimer, .queueEnable, .queueDisable, .queuePendingStart].all
      (fun c => (c 63).wf && !(c 64).wf)) = true ∧
    (Instr.vfFlr 0).wf = false ∧ (Instr.vfFlr 31).wf = true ∧ (Instr.vfFlr 32).wf = false ∧
    (Instr.hostLinkUp 3 6 0).wf = false ∧ (Instr.hostLinkUp 16 7 0).wf = false ∧ (Instr.hostLinkUp 16 0 0).wf = false ∧
    (Instr.hostLinkUp 16 6 0).wf = true := by
  decide +kernel

theorem test_wf_spans : (Instr.bar2Write 0 [] false).wf = false ∧ (Instr.bar2Read 4095 2).wf = false ∧
    (Instr.bar2Read (2 ^ 39 - 1) 1).wf = true ∧ (Instr.bar2Read (2 ^ 39) 1).wf = false ∧ (Instr.bar2Write (2 ^ 39) [0] false).wf = false ∧
    (Instr.registerWrite 32 0 false 0).wf = false ∧ (Instr.registerWrite 0 0x1FFFFFC true 0).wf = false ∧
    (Instr.registerWrite 31 0x1FFFFFC false 0).wf = true ∧ (Instr.refusedAccess 0 0x2000000 1 true).wf = false ∧
    (Instr.latchedLowerRead 0 2).wf = false ∧ (Instr.latchedLowerRead 0 0x2000000).wf = false ∧ (Instr.latchedLowerRead 32 0).wf = false := by
  decide +kernel

theorem test_wf_board : (Instr.vauxApply [(512, true)]).wf = false ∧ (Instr.thermtrip 512).wf = false ∧ (Instr.inputStuck 3).wf = false ∧
    (Instr.inputRearm 3).wf = false ∧ (Instr.outContention 15 true).wf = false ∧ (Instr.outContention 40 true).wf = false ∧
    (Instr.contentionCleared 15).wf = false ∧ (Instr.contentionCleared 40).wf = false ∧ (Instr.pmbusPoll [⟨9, none⟩]).wf = false ∧
    (Instr.pmbusPoll [⟨8, none⟩]).wf = true ∧ (Instr.outContention 39 true).wf = true := by
  decide +kernel

theorem test_wf_trivet : (Instr.pldmMonitoring 512).wf = false ∧ (Instr.report 4).wf = false ∧ (Instr.monWindow 64 0).wf = false ∧
    (Instr.holdoffEnd 64 0).wf = false ∧ (Instr.monitorPathCal 512 0).wf = false ∧ (Instr.monWindow 63 0).wf = true := by
  decide +kernel

/-- A command that names no unit of the part stops with the fault that says so, and changes nothing. -/
theorem test_no_such_unit : exec (.nop 131072) State.reset = .fault .noSuchUnit ∧ exec (.tileLoad 272) State.reset = .fault .noSuchUnit :=
  ⟨rfl, rfl⟩

/-! ## Values of the spec's worked examples -/

/-- 02, Table 02-28 and its steps 3 and 4: 1,824 u at group 128 convert to code 34, with a draw of -30 u to 33. -/
theorem test_convert : convert (2 * 1824) 1 14 2 0 = 34 ∧ convert (2 * 1824) 1 14 2 (-30 * 1024) = 33 := by decide +kernel

/-- 02, the same steps: the partials are 52.5 u and -1.75 u; 04, Table 04-17, group 1: -499.25 u from code -21 and Σw = -40. -/
theorem test_offset_removal : offsetOut 34 2 (2 * 112) 1 14 = 0x42520000#32 ∧ offsetOut 33 2 (2 * 112) 1 14 = 0xBFE00000#32 ∧
    offsetOut (-21) 2 (2 * -40) 1 14 = 0xC3F9A000#32 := by
  decide +kernel

/-- 03, the widen re-run: peaks of 5.0 and 6.0 under headroom 20/16 give the scale 0.9375. -/
theorem test_scale_choice : ({ fill := 1, peaks := [(0, (0x40A0, 0x40C0))] } : ScaleEntry).choose 15 [8] = (0x3F700000#32, false) := by
  decide +kernel

/-- 03, Table 03-14: 13.5 and -2.1 in A4 under 0.9375, and in A8 under 0.234375. -/
theorem test_quantise : (quantOne (f32div 0x3F800000#32 0x3F700000#32) 15 8 0x41580000#32).code = 15 ∧
    (quantOne (f32div 0x3F800000#32 0x3F700000#32) 15 8 0xC0066666#32).code = 6 ∧
    (quantOne (f32div 0x3F800000#32 0x3E700000#32) 255 128 0x41580000#32).code = 186 ∧
    (quantOne (f32div 0x3F800000#32 0x3E700000#32) 255 128 0xC0066666#32).code = 119 := by
  decide +kernel

/-- 04, Table 04-18: each group's partial of row 5 beside the largest of its set. -/
theorem test_bf20 : ((bfEncode [0x3E034000#32, 0x3F000000#32] []).1 = 21 ∧ (bfEncode [0x3E034000#32, 0x3F000000#32] []).2.1.headD 0 = 67200) ∧
    ((bfEncode [0xC21C0400#32, 0x451C4000#32] []).1 = 33 ∧ (bfEncode [0xC21C0400#32, 0x451C4000#32] []).2.1.headD 0 = -4993) ∧
    ((bfEncode [0xBF9C9000#32, 0x40000000#32] []).1 = 23 ∧ (bfEncode [0xBF9C9000#32, 0x40000000#32] []).2.1.headD 0 = -160320) ∧
    ((bfEncode [0x40A1B300#32, 0x411CCCCD#32] []).1 = 25 ∧ (bfEncode [0x40A1B300#32, 0x411CCCCD#32] []).2.1.headD 0 = 165580) := by
  decide +kernel

/-- 04, the promotion after Table 04-18: the tree gives t = -35.0496826171875, and 12.5 goes to -22.5496826171875 with C = 0. -/
theorem test_promotion_value :
    treeSum [bfDecode 21 67200 false, bfDecode 33 (-4993) false, bfDecode 23 (-160320) false, bfDecode 25 165580 false] = 0xC20C32E0#32 ∧
    cp64Promote (0x41480000#32, 0) 0xC20C32E0#32 = (0xC1B465C0#32, 0) := by
  decide +kernel

/-- 06, Table 06-24: MVM, POPEN, LOOP and BR. -/
theorem test_words : hdrOf 0x12400102000800000000000000000000 = ⟨0x12, 1, 0, 0, 1, 2, 0x800 * 2 ^ 72⟩ ∧
    hdrOf 0x20400000000000000000010000080400 = ⟨0x20, 1, 0, 0, 0, 0, 2 ^ 40 + 0x80400⟩ ∧
    hdrOf 0x01400000000001230000002000000000 = ⟨0x01, 1, 0, 0, 0, 0, 0x123 * 2 ^ 64 + 32 * 2 ^ 32⟩ ∧
    hdrOf 0x03410200000000000000000001000040 = ⟨0x03, 1, 0, 1, 2, 0, 2 ^ 24 + 0x40⟩ := by
  decide +kernel

/-- 06, Table 06-24: WSW, SPILL and PCLOSE retry. -/
theorem test_words_more : hdrOf 0x11400000000000000000001400000000 = ⟨0x11, 1, 0, 0, 0, 0, 5 * 2 ^ 34⟩ ∧
    hdrOf 0x22400005002000000000000000000002 = ⟨0x22, 1, 0, 0, 0, 5, 0x200000 * 2 ^ 64 + 2⟩ ∧
    hdrOf 0x21440607000C00000000000000000001 = ⟨0x21, 1, 0, 4, 6, 7, 0xC00 * 2 ^ 72 + 1⟩ := by
  decide +kernel

/-- 08, Table 08-4: the ramp at 32 LSB a frame. -/
theorem test_ramp : rampTo 0 320 32 = 32 ∧ rampTo 160 64 32 = 128 ∧ rampTo 128 64 32 = 96 ∧ rampTo 96 64 32 = 64 := by decide

/-- 11, the rollout example: the CFG fields of the old and the new image. -/
theorem test_cfg : cfgField (0x2F, 0x5C1E0B7A93D246A8) = 0xF6A8 ∧ cfgField (0x30, 0x0D94E3F127BCA51F) = 0x051F := by decide

/-- 15, Table 15-10: the lower word latches the upper one; without a latch the upper word is the one that stands. -/
theorem test_latched_time :
    (∃ t, exec (.latchedLowerRead 0 0x200) { run 0 with time := 0x1FFFFFE00 } = .next t ∧
      { t with time := 0x2000002B0 }.read32 0 0x204 = 1) ∧
    { run 0 with time := 0x200000760 }.read32 0 0x204 = 2 ∧ { run 0 with time := 0x200000C10 }.read32 0 0x200 = 0xC10 := by
  refine ⟨⟨_, rfl, ?_⟩, ?_, ?_⟩ <;> decide +kernel

end Sys2Proof.Tests
end

section
/-! PROOFS. Where a command's units exist it runs on, elsewhere it stops with `noSuchUnit` (log entry 15, DESIGN CHOICE): each
meaning is one `guard`, and its condition is the command's own `Instr.wf`. -/

namespace Sys2Proof.Machine

/-- The outcome is a guard on `ok` around some next state: `ok` alone decides between going on and `noSuchUnit`. -/
def Guarded (ok : Bool) (o : Out) : Prop := ∃ t, o = guard ok t

theorem Guarded.next_of_true {o : Out} : Guarded true o → ∃ t, o = .next t
  | ⟨t, ht⟩ => ⟨t, ht⟩

theorem Guarded.fault_of_false {o : Out} : Guarded false o → o = .fault .noSuchUnit
  | ⟨_, ht⟩ => ht

theorem guarded_guard (ok : Bool) (t : State) : Guarded ok (guard ok t) := ⟨t, rfl⟩

theorem guarded_next (t : State) : Guarded true (.next t) := ⟨t, rfl⟩

/-- The board signals with a bit in `CLK_OUT_CONT` are 16 to 39 (14, Tables 14-10, 14-12). -/
theorem contBit_isSome (signal : Nat) : (contBit signal).isSome = (decide (16 ≤ signal) && decide (signal < 40)) := by
  rw [Bool.eq_iff_iff]
  unfold contBit
  split_ifs <;> simp <;> omega

theorem guarded_execOutContention (signal : Nat) (level : Bool) (s : State) :
    Guarded (decide (16 ≤ signal) && decide (signal < 40)) (execOutContention signal level s) := by
  rw [← contBit_isSome]
  unfold execOutContention
  cases contBit signal with
  | none => exact ⟨s, rfl⟩
  | some b => exact guarded_next _

theorem guarded_execContentionCleared (signal : Nat) (s : State) :
    Guarded (decide (16 ≤ signal) && decide (signal < 40)) (execContentionCleared signal s) := by
  rw [← contBit_isSome]
  unfold execContentionCleared
  cases contBit signal with
  | none => exact ⟨s, rfl⟩
  | some b => exact guarded_next _

/-- Every command is guarded by its own well-formedness, one group of cases for each kind of unit. -/
theorem guarded_exec (c : Instr) (s : State) : Guarded c.wf (exec c s) := by
  cases c with
  -- steps of a stream: `runStep` is a guard on the stream (05)
  | nop | loop | endl | br | call | ret | wait | sig | fence | yield | halt | mark | dbrk | dsnap | wld | wsw | wref | mvm
  | mvmw | popen | pclose | spill | resume | rot | qnt | scup | stat | vop | att | dma | get | put | aadd | gath =>
    exact guarded_guard _ _
  -- streams
  | yieldSuspend | stepCompletion | ringHeadPoll | tokenTimeout | migrationMove | start | streamResume | abort | migrate
  | streamReset =>
    exact guarded_guard _ _
  -- Baskets and global tokens
  | tokenSignalWrite | rateChange | basketStop | basketCommit | basketOff | basketOn | basketReset | basketDrained
  | seqCntClr | wskCntClr | rdoCntClr | startupSweep | testDue | testDeferEnd | testEntry | testResult | warmingEnd
  | tokenIrqDeferred =>
    exact guarded_guard _ _
  -- Pans and Pots
  | tileLoad | bankSwap | bankRefresh | groupBlockEnd | promotion | replaySamePan | replaySpare | noSpareReplay | panCntClr
  | thermalRetest | potWaitEnd | sampledReplayCompare | sampledReplayResolve | tapRead =>
    exact guarded_guard _ _
  -- the Kettle's slots and Coils
  | kettleFrame | pwmPeriod | xcondClear | slotStop | slotCommit | slotCntClr | spWrite =>
    exact guarded_guard _ _
  -- positions and sources of the calibration
  | blindWindow | calStale =>
    exact guarded_guard _ _
  -- fabric ports: `State.onPort` and `State.onTree` are guards on the port (11)
  | helloSend | hello | flitReplay | replayWindow | lightDetect | linkUp | trainingTimeout | lossOfSignal | portEnable
  | portDisable | portDrain | retrain | unretire | join | assign | claim | deny | mgt | write | read | atomic | skip | compl
  | rdrsp | forward | creditStallDiscard =>
    exact guarded_guard _ _
  -- queue pairs and the host port: `State.startCmd` is a guard on the queue pair (12)
  | queueNop | strm | xfer | sqDoorbell | cqDoorbell | commandFetch | queueCommandComplete | irqCoalesceTimer | queueEnable
  | queueDisable | queuePendingStart | bar2Write | bar2Read | vfFlr | registerWrite | refusedAccess | latchedLowerRead
  | hostLinkUp =>
    exact guarded_guard _ _
  -- the Trivet, its inputs, channels and comparators
  | vauxApply | thermtrip | monitorPathCal | inputStuck | inputRearm | pmbusPoll | pldmMonitoring | report
  | conversionComplete | monWindow | holdoffEnd =>
    exact guarded_guard _ _
  -- driven outputs
  | outContention signal level => exact guarded_execOutContention signal level s
  | contentionCleared signal => exact guarded_execContentionCleared signal s
  -- commands that name no unit
  | streamPlacement | rampInterval | governorEval | scaleClassWrite | ketCntClr | injStart | injStop | capArm | calTurn
  | handover | sweepCommit | calTimeout | calAbandon | calReq | calCntClr | testReq | eventRecord | feuPendClear | ringRst
  | feuCntClr | coordTimeout | heartbeat | soloStart | joinResend | resendTimer | unitGiveUp | tagRelease | dedupExpire
  | plaitApply | plaitSettled | cfgCommit | cfgAdvance | cfgClose | cfgCloseEffect | dzfCntClr | idmapWr | idmapDel | pfFlr
  | hostLinkLost | accErrClear | warmReset | perstAssert | perstRelease | coldReset | vauxPowerFail | clockLoss | syncIn
  | boardAlert | hotIn | outputReenable | trivetBoot | getInfo | subscribe | readMon | scanWrite | compWrite | trigArm | trig
  | ilvSet | readBbr | flashRead | flashProgram | flashErase | flashOpComplete | fuseAdvance | bbrErase | trivetRestart
  | mctpControl | pldmFirmwareUpdate | spdm | monitorDispatch | commonTriggerStart | bbrCommit | bbrSecondEnd | memReady
  | heaterHoldEnd =>
    exact guarded_next _

/-- Settles O2: `guard` answers a next state where the command's units exist and `noSuchUnit` where one does not. -/
theorem commandsRunExactlyWhereTheirUnitsExist : Obligations.CommandsRunExactlyWhereTheirUnitsExist := by
  unfold Obligations.CommandsRunExactlyWhereTheirUnitsExist
  intro c s
  have hc := guarded_exec c s
  refine ⟨fun hwf => ?_, fun hwf => ?_⟩
  · rw [hwf] at hc
    exact hc.next_of_true
  · rw [hwf] at hc
    exact hc.fault_of_false

end Sys2Proof.Machine
end

section
/-! PROOFS. The governor's millisecond (01, R24) and the rate that waits for its Basket's group boundary (05, R177): one
equation for each verdict on the power and for each step of a rate. -/

namespace Sys2Proof.Machine

/-! ## The steps -/

/-- A step down takes fast mode first. -/
theorem State.stepDown_of_fast {s : State} {h : Nat} (excess : Nat)
    (hfast : s.powered.reverse.find? (fun k => (s.bsk k).fastGrant && !(s.bsk k).noFast) = some h) :
    s.stepDown excess = s.setBsk h { s.bsk h with noFast := true } := by
  simp only [State.stepDown, hfast]

/-- Without fast mode a step down lowers the highest rate. -/
theorem State.stepDown_of_rate {s : State} {h top : Nat} (excess : Nat)
    (hslow : ∀ k, k ∈ s.powered.reverse → ((s.bsk k).fastGrant && !(s.bsk k).noFast) = false)
    (htop : maxNat (s.powered.reverse.map (fun j => tRate (s.bsk j))) = top)
    (hrate : s.powered.reverse.find? (fun k => tRate (s.bsk k) = top && decide (1 < top)) = some h) :
    s.stepDown excess = s.setBsk h { s.bsk h with rateNext := some (top - 1) } := by
  have hnone : s.powered.reverse.find? (fun k => (s.bsk k).fastGrant && !(s.bsk k).noFast) = none :=
    List.find?_eq_none.mpr fun k hk => Bool.eq_false_iff.mp (hslow k hk)
  simp only [State.stepDown, hnone, htop, hrate]

/-- A step up raises the lowest rate. -/
theorem State.stepUp_of_rate {s : State} {h low : Nat}
    (hlow : 3 - maxNat (s.powered.map (fun k => 3 - tRate (s.bsk k))) = low)
    (hrate : s.powered.find? (fun k => tRate (s.bsk k) = low && decide (low < 3)) = some h) :
    s.stepUp = s.setBsk h { s.bsk h with rateNext := some (low + 1) } := by
  simp only [State.stepUp, hlow, hrate]

/-! ## The verdicts -/

/-- Millisecond `k` of the governor has come at `time`, and `good` good ones are counted. -/
def State.governed (s : State) (time k good : Nat) : State :=
  { s with time := time, dev := { s.dev with govK := k, good := good } }

@[simp] theorem State.governed_bsk (s : State) (time k good h : Nat) : (s.governed time k good).bsk h = s.bsk h := rfl

/-- What `govern` decides once its millisecond has come: apart from the clock, so that what follows holds at any time. -/
def State.verdict (s : State) : State :=
  let lim := s.powerLimit * 1000
  let p := s.dev.avg + s.dev.avgMore
  if lim < p then ({ s with dev := { s.dev with good := 0 } }).stepDown (ceilDiv (p - lim) 1000)
  else if p + 50000 ≤ lim then
    let s : State := { s with dev := { s.dev with good := min 10 (s.dev.good + 1) } }
    if s.dev.good = 10 then s.stepUp else s
  else { s with dev := { s.dev with good := 0 } }

/-- A next period never begins in the past, so moving on to it lands on it. -/
theorem max_nextDue (k now d : Nat) (hd : 0 < d) : max now (d * nextDue k now d) = d * nextDue k now d := by
  apply max_eq_right
  have hceil : now ≤ d * ceilDiv now d := by
    have := Nat.lt_mul_div_succ (now + d - 1) hd
    unfold ceilDiv
    rw [Nat.mul_add] at this
    omega
  exact hceil.trans (Nat.mul_le_mul_left d (Nat.le_max_right _ _))

/-- An evaluation is the verdict in the next millisecond, which is never in the past. -/
theorem State.govern_eq (s : State) :
    s.govern = (s.governed (1000000 * nextDue s.dev.govK s.time 1000000) (nextDue s.dev.govK s.time 1000000)
      s.dev.good).verdict := by
  rw [State.governed, ← max_nextDue s.dev.govK s.time 1000000 (by decide)]
  unfold State.govern State.verdict
  rfl

section
variable {s : State} {time k : Nat}

/-- Over the limit the good time starts over and a rate steps down. -/
theorem State.verdict_of_over (hover : s.powerLimit * 1000 < s.dev.avg + s.dev.avgMore) :
    (s.governed time k s.dev.good).verdict =
      (s.governed time k 0).stepDown (ceilDiv (s.dev.avg + s.dev.avgMore - s.powerLimit * 1000) 1000) :=
  if_pos hover

/-- Within 50 W of the limit the good time starts over. -/
theorem State.verdict_of_near (hle : s.dev.avg + s.dev.avgMore ≤ s.powerLimit * 1000)
    (hnear : s.powerLimit * 1000 < s.dev.avg + s.dev.avgMore + 50000) :
    (s.governed time k s.dev.good).verdict = s.governed time k 0 :=
  (if_neg hle.not_gt).trans (if_neg hnear.not_ge)

/-- 50 W below the limit the millisecond counts as good, and from the tenth on a rate steps up. -/
theorem State.verdict_of_below (hbelow : s.dev.avg + s.dev.avgMore + 50000 ≤ s.powerLimit * 1000) :
    (s.governed time k s.dev.good).verdict =
      let u := s.governed time k (min 10 (s.dev.good + 1))
      if min 10 (s.dev.good + 1) = 10 then u.stepUp else u :=
  (if_neg (show ¬ s.powerLimit * 1000 < s.dev.avg + s.dev.avgMore by omega)).trans (if_pos hbelow)

/-- Before the tenth good millisecond no rate changes. -/
theorem State.verdict_of_early (hbelow : s.dev.avg + s.dev.avgMore + 50000 ≤ s.powerLimit * 1000) (hgood : s.dev.good < 9) :
    (s.governed time k s.dev.good).verdict = s.governed time k (s.dev.good + 1) := by
  have hcount : min 10 (s.dev.good + 1) = s.dev.good + 1 := by omega
  rw [State.verdict_of_below hbelow, hcount]
  exact if_neg (by omega)

/-- The tenth good millisecond and every one after it step a rate up. -/
theorem State.verdict_of_settled (hbelow : s.dev.avg + s.dev.avgMore + 50000 ≤ s.powerLimit * 1000) (hgood : 9 ≤ s.dev.good) :
    (s.governed time k s.dev.good).verdict = (s.governed time k 10).stepUp := by
  have hcount : min 10 (s.dev.good + 1) = 10 := by omega
  rw [State.verdict_of_below hbelow, hcount]
  exact if_pos rfl

/-- Over the limit, fast mode goes first. -/
theorem State.verdict_of_fast {h : Nat} (hover : s.powerLimit * 1000 < s.dev.avg + s.dev.avgMore)
    (hfast : s.powered.reverse.find? (fun k => (s.bsk k).fastGrant && !(s.bsk k).noFast) = some h) :
    (s.governed time k s.dev.good).verdict = (s.governed time k 0).setBsk h { s.bsk h with noFast := true } :=
  (State.verdict_of_over hover).trans (State.stepDown_of_fast _ hfast)

/-- Over the limit without fast mode, the highest rate falls by one. -/
theorem State.verdict_of_highest {h top : Nat} (hover : s.powerLimit * 1000 < s.dev.avg + s.dev.avgMore)
    (hslow : ∀ k, k ∈ s.powered.reverse → ((s.bsk k).fastGrant && !(s.bsk k).noFast) = false)
    (htop : maxNat (s.powered.reverse.map (fun j => tRate (s.bsk j))) = top)
    (hrate : s.powered.reverse.find? (fun k => tRate (s.bsk k) = top && decide (1 < top)) = some h) :
    (s.governed time k s.dev.good).verdict = (s.governed time k 0).setBsk h { s.bsk h with rateNext := some (top - 1) } :=
  (State.verdict_of_over hover).trans (State.stepDown_of_rate _ hslow htop hrate)

/-- In the tenth good millisecond and every one after it, the lowest rate rises by one. -/
theorem State.verdict_of_lowest {h low : Nat} (hbelow : s.dev.avg + s.dev.avgMore + 50000 ≤ s.powerLimit * 1000)
    (hgood : 9 ≤ s.dev.good) (hlow : 3 - maxNat (s.powered.map (fun k => 3 - tRate (s.bsk k))) = low)
    (hrate : s.powered.find? (fun k => tRate (s.bsk k) = low && decide (low < 3)) = some h) :
    (s.governed time k s.dev.good).verdict = (s.governed time k 10).setBsk h { s.bsk h with rateNext := some (low + 1) } :=
  (State.verdict_of_settled hbelow hgood).trans (State.stepUp_of_rate hlow hrate)

end

/-! ## The command -/

/-- With the clock and no Trivet restart the command is the governor's verdict in its next millisecond. -/
theorem exec_governorEval {s t : State} (hc : s.clocked = true) (ht : s.trv.ready = true ∨ s.trv.up = false)
    (hv : (s.governed (1000000 * nextDue s.dev.govK s.time 1000000) (nextDue s.dev.govK s.time 1000000)
      s.dev.good).verdict = t) : exec .governorEval s = .next t := by
  have hon : (s.clocked && (s.trv.ready || !s.trv.up)) = true := by simpa [hc] using ht
  rw [← hv, ← s.govern_eq]
  exact congrArg Host.Outcome.next (if_pos hon)

/-- A millisecond that steps no Basket. -/
theorem State.governed_keeps (s : State) (time k good : Nat) :
    (s.governed time k good).time = time ∧ (s.governed time k good).dev.good = good ∧
    (s.governed time k good).baskets = s.baskets :=
  ⟨rfl, rfl, rfl⟩

/-- A millisecond that steps one Basket: the time, the good milliseconds, that Basket and no other. -/
theorem State.governed_setBsk (s : State) (time k good h : Nat) (v : Basket) :
    let t := (s.governed time k good).setBsk h v
    t.time = time ∧ t.dev.good = good ∧ t.bsk h = v ∧ ∀ j, j ≠ h → t.bsk j = s.bsk j :=
  ⟨rfl, rfl, by simp, fun j hj => by simp [hj]⟩

/-! ## A rate that waits -/

/-- Rate `r` may take effect on Basket `h`: it is no lower, ramps are off, or every working Pan's plan has come down to what
it fills (05, R177). -/
def State.RateFits (s : State) (h r : Nat) : Prop :=
  (s.bsk h).rate ≤ r ∨ bit (s.bsk h).seqCfg.toNat 16 = true ∨
    ∀ p, p ∈ bskPans h → takesWork (s.pan p) = true → (s.pan p).lvlNow ≤ levelCap r ((s.pan p).margin = 2)

/-- The condition `rateChange` evaluates is `RateFits`. -/
theorem State.rateFits_iff (s : State) (h r : Nat) :
    (decide ((s.bsk h).rate ≤ r) || bit (s.bsk h).seqCfg.toNat 16 ||
      (bskPans h).all (fun p => !takesWork (s.pan p) || decide ((s.pan p).lvlNow ≤ levelCap r ((s.pan p).margin = 2)))) = true ↔
    s.RateFits h r := by
  simp only [State.RateFits, Bool.or_eq_true, decide_eq_true_eq, List.all_eq_true, or_assoc, Bool.not_eq_true',
    ← Bool.not_eq_true, ← imp_iff_not_or]

/-- A rate that fits takes effect, and the margins follow. -/
theorem State.rateChange_of_fits {s : State} {h r : Nat} (hr : (s.bsk h).rateNext = some r) (hc : s.clocked = true)
    (hfit : s.RateFits h r) :
    s.rateChange h = (s.setBsk h { s.bsk h with rate := r, rateNext := none }).remargin h := by
  have hcond := (s.rateFits_iff h r).mpr hfit
  simp only [State.rateChange, hr, hc, Bool.true_and]
  exact if_pos hcond

/-- A rate that does not fit goes on waiting. -/
theorem State.rateChange_of_not_fits {s : State} {h r : Nat} (hr : (s.bsk h).rateNext = some r) (hc : s.clocked = true)
    (hfit : ¬ s.RateFits h r) : s.rateChange h = s := by
  have hcond := mt (s.rateFits_iff h r).mp hfit
  simp only [State.rateChange, hr, hc, Bool.true_and]
  exact if_neg hcond

/-- Margins are the Pans' own: no Basket changes as they follow a rate. -/
@[simp] theorem State.remargin_bsk (s : State) (h k : Nat) : (s.remargin h).bsk k = s.bsk k := by
  have hbaskets : (s.remargin h).baskets = s.baskets :=
    fr_remargin (W := [.pans]) (fr_refl _ s) (by simp [Within]) h .baskets (by decide)
  unfold State.bsk
  rw [hbaskets]

/-- A Basket that is there runs its rate change. -/
theorem exec_rateChange {s t : State} {h : Nat} (hh : h < 16) (ht : s.rateChange h = t) :
    exec (.rateChange h) s = .next t := by
  subst ht
  exact if_pos (decide_eq_true hh)

/-- Settles O30: each verdict of the governor has its equation, each step its one for the stepped Basket, and what becomes of
a waiting rate is decided by `RateFits`. -/
theorem governorStepsRates : Obligations.GovernorStepsRates := by
  unfold Obligations.GovernorStepsRates
  intro s hs lim pw low on time
  refine ⟨fun h hon hover hfast => ?fast, fun h hon hover hslow hrate => ?down, fun hon hle hnear => ?near,
    fun hon hbelow hgood => ?count, fun h hon hbelow hgood hrate => ?up, fun h r hh hr hc => ?change⟩
  case fast =>
    exact ⟨_, exec_governorEval hon.1 hon.2 (State.verdict_of_fast hover hfast), s.governed_setBsk _ _ _ _ _⟩
  case down =>
    exact ⟨_, exec_governorEval hon.1 hon.2 (State.verdict_of_highest hover hslow rfl hrate), s.governed_setBsk _ _ _ _ _⟩
  case near =>
    exact ⟨_, exec_governorEval hon.1 hon.2 (State.verdict_of_near hle hnear), s.governed_keeps _ _ _⟩
  case count =>
    exact ⟨_, exec_governorEval hon.1 hon.2 (State.verdict_of_early hbelow hgood), s.governed_keeps _ _ _⟩
  case up =>
    exact ⟨_, exec_governorEval hon.1 hon.2 (State.verdict_of_lowest hbelow hgood rfl hrate), s.governed_setBsk _ _ _ _ _⟩
  case change =>
    refine ⟨fun hfit => ⟨_, exec_rateChange hh (State.rateChange_of_fits hr hc hfit), ?_, fun k hk => ?_⟩,
      fun hfit => exec_rateChange hh (State.rateChange_of_not_fits hr hc hfit)⟩
    · simp
    · simp [hk]

end Sys2Proof.Machine
end

section
/-! PROOFS. The board's inputs (14, R430, R441, R442): what one edge, a stuck input and its way back change. -/

namespace Sys2Proof.Machine

/-! ## What an assertion sets going -/

/-- Messages sent one after the other stand in their order behind those already there. -/
theorem State.foldl_send {α : Type} (f : α → MgmtMsg) (xs : List α) (s : State) :
    xs.foldl (fun u x => u.send (f x)) s = { s with mgmt := s.mgmt ++ xs.map f } := by
  induction xs generalizing s with
  | nil => simp
  | cons x xs ih => rw [List.foldl_cons, ih]; simp [State.send]

/-- Reading every regulator's status sends nine messages and does no more. -/
theorem State.statusReads_eq (s : State) :
    s.statusReads = { s with mgmt := s.mgmt ++ (List.range 9).map MgmtMsg.regulator } :=
  s.foldl_send MgmtMsg.regulator (List.range 9)

/-- A trigger changes Trivet alone. -/
theorem State.fire_eq (s : State) (k : TrigKind) : s.fire k = { s with trv := (s.fire k).trv } := by
  unfold State.fire
  split
  · split <;> rfl
  · rfl

theorem State.statusReads_inp (s : State) (n : Nat) : s.statusReads.inp n = s.inp n := by
  rw [s.statusReads_eq]; rfl

theorem State.fire_inp (s : State) (k : TrigKind) (n : Nat) : (s.fire k).inp n = s.inp n := by
  rw [s.fire_eq]; rfl

/-! ## The conditioned level -/

/-- A level that is the input's already does nothing. -/
theorem State.inputLevel_of_same {s : State} {n : Nat} {lv : Bool} (hlv : (s.inp n).level = lv) : s.inputLevel n lv = s :=
  if_pos (by simp [hlv])

/-- A new level is taken, and SYNC_IN and BOARD_ALERT_N act as they are asserted. -/
theorem State.inputLevel_of_new {s : State} {n : Nat} {lv : Bool} (hmask : (s.inp n).masked = false)
    (hlv : (s.inp n).level ≠ lv) :
    s.inputLevel n lv =
      let u := s.setInp n { s.inp n with level := lv }
      if !lv then u else if n = 0 then u.fire .syncIn else if n = 1 then u.statusReads else u :=
  if_neg (by simp [hmask, hlv])

/-- An input that is not masked takes the level; the others keep theirs. -/
theorem State.inputLevel_inp (s : State) (n k : Nat) (lv : Bool) (hmask : (s.inp n).masked = false) :
    (s.inputLevel n lv).inp k = if k = n then { s.inp n with level := lv } else s.inp k := by
  by_cases hlv : (s.inp n).level = lv
  · rw [State.inputLevel_of_same hlv]
    subst hlv
    split_ifs with hk
    · rw [hk]
    · rfl
  · rw [State.inputLevel_of_new hmask hlv, ← State.setInp_inp]
    dsimp only
    split_ifs <;> simp only [State.fire_inp, State.statusReads_inp]

/-- A new assertion of BOARD_ALERT_N reads every regulator's status; no other change of its level sends anything. -/
theorem State.inputLevel_alert_mgmt (s : State) (lv : Bool) (hmask : (s.inp 1).masked = false) :
    (s.inputLevel 1 lv).mgmt =
      if lv && !(s.inp 1).level then s.mgmt ++ (List.range 9).map MgmtMsg.regulator else s.mgmt := by
  by_cases hlv : (s.inp 1).level = lv
  · rw [State.inputLevel_of_same hlv, hlv]
    simp
  · rw [State.inputLevel_of_new hmask hlv, Bool.eq_not_of_ne hlv]
    cases lv <;> simp [State.statusReads_eq]

/-- A level of HOT_IN is the input's own: the governor reads it when it next evaluates. -/
theorem State.inputLevel_hot_eq (s : State) (lv : Bool) (hmask : (s.inp 2).masked = false) :
    s.inputLevel 2 lv = { s with dev := (s.inputLevel 2 lv).dev } := by
  by_cases hlv : (s.inp 2).level = lv
  · rw [State.inputLevel_of_same hlv]
  · rw [State.inputLevel_of_new hmask hlv]
    cases lv <;> rfl

/-! ## An edge -/

/-- An input inside the 10 µs of its last edge, or with none, has nothing to settle. -/
theorem State.settleInput_eq_self {s : State} {n : Nat}
    (hedge : ∀ τ, (s.inp n).edgeAt = some τ → s.time < τ + 10000) : s.settleInput n = s := by
  unfold State.settleInput
  cases h : (s.inp n).edgeAt with
  | none => rfl
  | some τ => exact if_neg (hedge τ h).not_ge

/-- The pin of input `n` has moved and the edge is passed on: `inputEdge` before the level follows. -/
def State.edgePassed (s : State) (n : Nat) (b : Bool) : State :=
  let u := s.setInp n { s.inp n with pin := b, since := s.time }
  u.setInp n { u.inp n with edgeAt := some s.time }

theorem State.edgePassed_inp (s : State) (n k : Nat) (b : Bool) :
    (s.edgePassed n b).inp k = if k = n then { s.inp n with pin := b, since := s.time, edgeAt := some s.time } else s.inp k := by
  unfold State.edgePassed
  by_cases hk : k = n <;> simp [hk]

/-- The first edge for 10 µs is passed on and moves the level. -/
theorem State.inputEdge_of_first {s : State} {n : Nat} {b : Bool} (hup : s.trv.up = true)
    (hedge : (s.inp n).edgeAt = none) (hpin : (s.inp n).pin = !b) :
    s.inputEdge n b = (s.edgePassed n b).inputLevel n b := by
  have hsettle : s.settleInput n = s := State.settleInput_eq_self (by simp [hedge])
  have hmoved : ¬ (!b) = b := by cases b <;> decide
  unfold State.inputEdge State.edgePassed
  simp [hsettle, hpin, hmoved, hup, hedge]

/-- After the first edge for 10 µs the input has its new pin and level, and no other input has moved. -/
theorem State.inputEdge_of_first_inp {s : State} {n : Nat} {b : Bool} (hup : s.trv.up = true)
    (hedge : (s.inp n).edgeAt = none) (hpin : (s.inp n).pin = !b) (hmask : (s.inp n).masked = false) :
    (s.inputEdge n b).inp n = { s.inp n with pin := b, since := s.time, edgeAt := some s.time, level := b } ∧
    ∀ k, k ≠ n → (s.inputEdge n b).inp k = s.inp k := by
  have hinp (k : Nat) := (s.edgePassed n b).inputLevel_inp n k b (by simp [s.edgePassed_inp, hmask])
  rw [State.inputEdge_of_first hup hedge hpin]
  exact ⟨by simp [hinp, s.edgePassed_inp], fun k hk => by simp [hinp, s.edgePassed_inp, hk]⟩

/-- The pin of input `n` has moved and the edge is counted: `inputEdge` before it tells of edges held back. -/
def State.edgeHeld (s : State) (n : Nat) (b : Bool) : State :=
  let u := s.setInp n { s.inp n with pin := b, since := s.time }
  { u with dev := { u.dev with inCnt := sat16 (u.dev.inCnt + 1) } }

@[simp] theorem State.setInp_inCnt (s : State) (n : Nat) (v : Input) : (s.setInp n v).dev.inCnt = s.dev.inCnt := rfl

@[simp] theorem State.edgeHeld_inCnt (s : State) (n : Nat) (b : Bool) :
    (s.edgeHeld n b).dev.inCnt = min 65535 (s.dev.inCnt + 1) := rfl

@[simp] theorem State.edgeHeld_inp (s : State) (n : Nat) (b : Bool) :
    (s.edgeHeld n b).inp n = { s.inp n with pin := b, since := s.time } :=
  (State.setInp_inp s n n _).trans (if_pos rfl)

/-- A second edge within 10 µs is coalesced, and told of or not. -/
theorem State.inputEdge_of_soon {s : State} {n τ : Nat} {b : Bool} (hup : s.trv.up = true)
    (hedge : (s.inp n).edgeAt = some τ) (hsoon : s.time < τ + 10000) (hpin : (s.inp n).pin = !b) :
    ∃ coal rateAt told,
      let u := (s.edgeHeld n b).setInp n { (s.edgeHeld n b).inp n with coal := coal, rateAt := rateAt }
      s.inputEdge n b = u ∨ s.inputEdge n b = u.raise 0x0B02 0 0x08 n told := by
  have hsettle : s.settleInput n = s := State.settleInput_eq_self (by simp [hedge, hsoon])
  have hmoved : ¬ (s.inp n).pin = b := by rw [hpin]; cases b <;> decide
  have hdown (v : Input) : ¬ (!(s.setInp n v).trv.up) = true := by simp [hup]
  unfold State.inputEdge
  rw [hsettle]
  dsimp only
  rw [if_neg hmoved, if_neg (hdown _)]
  split
  case h_1 =>
    split_ifs
    · exact ⟨_, _, 0, .inl rfl⟩
    · exact ⟨_, _, _, .inr rfl⟩
  case h_2 hnone => exact absurd (hedge.symm.trans hnone) (by simp)

/-- A coalesced edge counts; it moves the pin and not the level. -/
theorem State.inputEdge_of_soon_inp {s : State} {n τ : Nat} {b : Bool} (hup : s.trv.up = true)
    (hedge : (s.inp n).edgeAt = some τ) (hsoon : s.time < τ + 10000) (hpin : (s.inp n).pin = !b) :
    (s.inputEdge n b).dev.inCnt = min 65535 (s.dev.inCnt + 1) ∧ ((s.inputEdge n b).inp n).pin = b ∧
    ((s.inputEdge n b).inp n).level = (s.inp n).level ∧ ((s.inputEdge n b).inp n).edgeAt = (s.inp n).edgeAt := by
  obtain ⟨coal, rateAt, told, heq | heq⟩ := State.inputEdge_of_soon hup hedge hsoon hpin <;> simp [heq]

/-! ## An input stuck, and its way back -/

/-- Input `n` becomes `v` no sooner than `τ`, HOT_IN's with the lower limit on or off, and it is told. -/
def State.tellInput (s : State) (n τ : Nat) (v : Input) (low : Bool) (detail : Nat) : State :=
  let u := (s.at τ).setInp n v
  (if n = 2 then { u with dev := { u.dev with hotLow := low } } else u).raise 0x0B01 0 0x08 n detail

theorem State.tellInput_spec (s : State) (n τ : Nat) (v : Input) (low : Bool) (detail : Nat) :
    let t := s.tellInput n τ v low detail
    t.time = max s.time τ ∧ t.inp n = v ∧
    (∃ e, t.evq = s.evq ++ [e] ∧ e.code = 0x0B01 ∧ e.cls = 0 ∧ e.unit = 0x08 ∧ e.index = n ∧ e.detail = detail) ∧
    (n = 2 → t.dev.hotLow = low) := by
  have hinp : ((s.at τ).setInp n v).inp n = v := (State.setInp_inp _ _ _ _).trans (if_pos rfl)
  unfold State.tellInput
  by_cases hn : n = 2
  · simp only [hn, if_true] at hinp ⊢
    exact ⟨rfl, hinp, ⟨_, rfl, rfl, rfl, rfl, rfl, rfl⟩, fun _ => rfl⟩
  · simp only [hn, if_false]
    exact ⟨rfl, hinp, ⟨_, rfl, rfl, rfl, rfl, rfl, rfl⟩, False.elim⟩

/-- An input held asserted for more than 100 ms is masked and told. -/
theorem exec_inputStuck {s : State} {n : Nat} (hn : n < 3) (hpin : (s.inp n).pin = true) (hmask : (s.inp n).masked = false)
    (hup : s.trv.up = true) :
    exec (.inputStuck n) s = .next (s.tellInput n ((s.inp n).since + 100000001)
      { s.inp n with masked := true, stuck := true, level := false, edgeAt := none } true 1) := by
  have hstuck : ((s.inp n).pin && !(s.inp n).masked && s.trv.up) = true := by simp [hpin, hmask, hup]
  exact (if_pos (decide_eq_true hn)).trans (congrArg Host.Outcome.next (if_pos hstuck))

/-- A masked input seen deasserted for 10 ms is taken back and told. -/
theorem exec_inputRearm {s : State} {n : Nat} (hn : n < 3) (hmask : (s.inp n).masked = true) (hpin : (s.inp n).pin = false) :
    exec (.inputRearm n) s = .next (s.tellInput n ((s.inp n).since + 10000000) { s.inp n with masked := false } false 0) := by
  have hleft : ((s.inp n).masked && !(s.inp n).pin) = true := by simp [hpin, hmask]
  exact (if_pos (decide_eq_true hn)).trans (congrArg Host.Outcome.next (if_pos hleft))

end Sys2Proof.Machine
end

section
/-! PROOFS. Driven outputs that contend (08, R278; 14, R443, R445) and the regulators' poll (01, R24; 14, R430). -/

namespace Sys2Proof.Machine

/-! ## Contention -/

/-- A bridge goes off within the Kettle. -/
theorem State.bridgeOff_eq (s : State) (q : Nat) : s.bridgeOff q = { s with ket := (s.bridgeOff q).ket } := by
  unfold State.bridgeOff
  dsimp only
  split <;> rfl

/-- A bridge off: its Coil contends with no gate commanded, its TEC output is 0 and a running wavelength slot holds. -/
theorem State.bridgeOff_spec (s : State) (q : Nat) :
    (s.bridgeOff q).coil q = { (s.coil q).gatesTo s.time 0 0 s.time with contend := true } ∧
    ((s.bridgeOff q).slot (80 * q + 69)).out = 0 ∧
    ((s.slot (80 * q + 68)).st = .run → ((s.bridgeOff q).slot (80 * q + 68)).st = .hold) := by
  unfold State.bridgeOff
  dsimp only
  split_ifs with hrun
  · simp
  · have hstays : (s.slot (80 * q + 68)).st ≠ .run := by simpa using hrun
    simp [hstays]

/-- The output of bit `b` has left the board, its bridge off where it is a TEC gate: `execOutContention` before it is told. -/
def State.outOff (s : State) (sg b : Nat) : State :=
  let u : State := { s with dev := { s.dev with outCont := s.dev.outCont ||| BitVec.ofNat 32 (2 ^ b) } }
  if sg < 32 then u.bridgeOff ((sg - 16) / 4) else u

/-- An output off the board has its bit set; nothing is told yet. -/
theorem State.outOff_keeps (s : State) (sg b : Nat) :
    (s.outOff sg b).dev = { s.dev with outCont := s.dev.outCont ||| BitVec.ofNat 32 (2 ^ b) } ∧
    (s.outOff sg b).evq = s.evq := by
  unfold State.outOff
  dsimp only
  split_ifs
  · rw [State.bridgeOff_eq]
    exact ⟨rfl, rfl⟩
  · exact ⟨rfl, rfl⟩

/-- A GPIO off the board leaves the Kettle alone. -/
theorem State.outOff_ket_of_gpio {s : State} {sg : Nat} (b : Nat) (hgpio : 32 ≤ sg) : (s.outOff sg b).ket = s.ket := by
  unfold State.outOff
  rw [if_neg hgpio.not_gt]

/-- A TEC gate off the board takes its bridge with it. -/
theorem State.outOff_of_gate {s : State} {sg : Nat} (b : Nat) (hgate : sg < 32) :
    let q := (sg - 16) / 4
    let t := s.outOff sg b
    (t.coil q).contend = true ∧ (t.coil q).gates = 0 ∧ (t.coil q).duty = 0 ∧ (t.slot (80 * q + 69)).out = 0 ∧
    ((s.slot (80 * q + 68)).st = .run → (t.slot (80 * q + 68)).st = .hold) := by
  unfold State.outOff
  simp only [hgate, if_true]
  obtain ⟨hcoil, htec, hwave⟩ := State.bridgeOff_spec
    { s with dev := { s.dev with outCont := s.dev.outCont ||| BitVec.ofNat 32 (2 ^ b) } } ((sg - 16) / 4)
  rw [hcoil]
  exact ⟨rfl, rfl, rfl, htec, hwave⟩

/-- A driven output that contends is taken off the board and told. -/
theorem exec_outContention {s : State} {sg b : Nat} (lv : Bool) (hb : contBit sg = some b) (hdriven : s.isDriven sg = true)
    (hclear : bit s.dev.outCont.toNat b = false) :
    exec (.outContention sg lv) s = .next ((s.outOff sg b).raise 0x0B03 0 0x08 sg (b2n lv)) := by
  show execOutContention sg lv s = _
  unfold execOutContention
  rw [hb]
  exact congrArg Host.Outcome.next (if_pos (by simp [hdriven, hclear]))

/-- A bridge with no gate left tri-stated goes on. -/
theorem exec_contentionCleared {s : State} {sg b : Nat} (hb : contBit sg = some b) (hgate : sg < 32)
    (hcont : (s.coil ((sg - 16) / 4)).contend = true)
    (hall : bits s.dev.outCont.toNat (11 + 4 * ((sg - 16) / 4)) (8 + 4 * ((sg - 16) / 4)) = 0)
    (hclear : bit s.dev.outCont.toNat b = false) :
    exec (.contentionCleared sg) s =
      .next ((s.setCoil ((sg - 16) / 4) { s.coil ((sg - 16) / 4) with contend := false }).releaseCoil ((sg - 16) / 4)) := by
  show execContentionCleared sg s = _
  unfold execContentionCleared
  rw [hb]
  exact congrArg Host.Outcome.next (if_pos (by simp [hgate, hcont, hall, hclear]))

/-- A bridge that goes on does so within the Kettle, and contends no more. -/
theorem State.releaseCoil_spec (s : State) (q : Nat) :
    let t := (s.setCoil q { s.coil q with contend := false }).releaseCoil q
    t = { s with ket := t.ket } ∧ (t.coil q).contend = false :=
  ⟨rfl, by simp [State.releaseCoil]⟩

/-! ## The regulators -/

/-- Reads of the regulators leave all but `rails` and `silent`. -/
theorem State.railReads_eq (rs : List RailRead) (s : State) :
    rs.foldl State.railRead s =
      { s with dev := { s.dev with
        rails := (rs.foldl State.railRead s).dev.rails, silent := (rs.foldl State.railRead s).dev.silent } } := by
  induction rs generalizing s with
  | nil => rfl
  | cons x rs ih =>
    rw [List.foldl_cons, ih]
    unfold State.railRead
    split <;> rfl

/-- A rail that no read names is as silent as it was. -/
theorem State.railReads_silent_of_unread {rs : List RailRead} {s : State} {r : Nat} (hr : ∀ x, x ∈ rs → x.rail ≠ r) :
    tget natDflt (rs.foldl State.railRead s).dev.silent r = tget natDflt s.dev.silent r := by
  induction rs generalizing s with
  | nil => rfl
  | cons x rs ih =>
    have hx : r ≠ x.rail := (hr x List.mem_cons_self).symm
    rw [List.foldl_cons, ih fun y hy => hr y (List.mem_cons_of_mem x hy)]
    unfold State.railRead
    split <;> simp [tget_tset, hx]

/-- A regulator that answers is not silent, and adds its answer to the sum. -/
theorem State.railRead_answer (s : State) (r w : Nat) :
    let u := s.railRead { rail := r, pin := some w }
    u.railPower r = (1000 * w, 0) ∧ tget natDflt u.dev.silent r = 0 := by
  simp [State.railRead, State.railPower, tget_tset]

/-- A regulator that does not answer is silent one millisecond longer, and from the tenth on counts at its design power. -/
theorem State.railRead_silent (s : State) (r : Nat) :
    let u := s.railRead { rail := r, pin := none }
    tget natDflt u.dev.silent r = tget natDflt s.dev.silent r + 1 ∧
    (9 ≤ tget natDflt s.dev.silent r → u.railPower r = (0, designPower r)) := by
  intro u
  have hsilent : tget natDflt u.dev.silent r = tget natDflt s.dev.silent r + 1 := by
    simp [u, State.railRead, tget_tset]
  exact ⟨hsilent, fun hlong => if_pos (by omega)⟩

/-- The mean of a quantity over a list. -/
theorem mean_map {α : Type} (f : α → Nat) (l : List α) : mean (l.map f) = sumNat (l.map f) / l.length := by
  rw [mean, List.length_map]

/-- The samples after a poll: the last ten, with the sum of this millisecond's. -/
def State.polled (s : State) (rs : List RailRead) : List (Nat × Nat) :=
  let x := (List.range 9).map (rs.foldl State.railRead s).railPower
  takeLast 10 (s.dev.samples ++ [(sumNat (x.map (·.1)), sumNat (x.map (·.2)))])

/-- The poll takes its reads in and both averages over the last ten samples. -/
theorem exec_pmbusPoll {s : State} {rs : List RailRead} (hrails : ∀ x, x ∈ rs → x.rail < 9) (hready : s.trv.ready = true) :
    exec (.pmbusPoll rs) s = .next { s with dev := { (rs.foldl State.railRead s).dev with
      samples := s.polled rs, avg := mean ((s.polled rs).map (·.1)), avgMore := mean ((s.polled rs).map (·.2)) } } := by
  have hok : rs.all (fun x => decide (x.rail < 9)) = true := by simpa using hrails
  have hon : (s.trv.ready || !s.trv.up) = true := by simp [hready]
  refine (if_pos hok).trans (congrArg Host.Outcome.next ((if_pos hon).trans ?_))
  unfold State.polled
  rw [State.railReads_eq]

/-! ## The statement -/

/-- Settles O56: each command of the board has its equation, and what the state it answers holds is read off that. -/
theorem boardSignalsAreHandled : Obligations.BoardSignalsAreHandled := by
  unfold Obligations.BoardSignalsAreHandled
  refine ⟨?inputs, ?outputs⟩
  case inputs =>
    intro s b Moved fits Held soon hup
    have moved (n : Nat) : fits n → Moved (s.inputEdge n b) n := fun ⟨hedge, hpin, hmask⟩ =>
      State.inputEdge_of_first_inp hup hedge hpin hmask
    have held (n : Nat) : soon n → Held (s.inputEdge n b) n := fun ⟨_, hedge, hsoon, hpin⟩ =>
      State.inputEdge_of_soon_inp hup hedge hsoon hpin
    refine ⟨fun h => ⟨_, rfl, moved 0 h⟩, fun h => ⟨_, rfl, moved 1 h, ?alert⟩, fun h => ⟨_, rfl, moved 2 h, ?hot⟩,
      fun h => ⟨_, rfl, held 0 h⟩, fun h => ⟨_, rfl, held 1 h⟩, fun h => ⟨_, rfl, held 2 h⟩,
      fun n hn hpin hmask => ⟨_, exec_inputStuck hn hpin hmask hup, State.tellInput_spec _ _ _ _ _ _⟩,
      fun n hn hmask hpin => ⟨_, exec_inputRearm hn hmask hpin, State.tellInput_spec _ _ _ _ _ _⟩⟩
    case alert =>
      obtain ⟨hedge, hpin, hmask⟩ := h
      rw [State.inputEdge_of_first hup hedge hpin, State.inputLevel_alert_mgmt _ _ (by simp [s.edgePassed_inp, hmask])]
      simp [State.edgePassed]
    case hot =>
      obtain ⟨hedge, hpin, hmask⟩ := h
      rw [State.inputEdge_of_first hup hedge hpin, State.inputLevel_hot_eq _ _ (by simp [s.edgePassed_inp, hmask])]
      rfl
  case outputs =>
    intro s sg lv m rs q
    refine ⟨fun b hb hdriven hclear => ⟨_, exec_outContention lv hb hdriven hclear, (s.outOff_keeps sg b).1, ?told,
        State.outOff_ket_of_gpio b, State.outOff_of_gate b⟩, rfl,
      fun b hb hgate hcont hall hclear => ⟨_, exec_contentionCleared hb hgate hcont hall hclear, State.releaseCoil_spec s q⟩,
      fun hrails hready => ⟨_, exec_pmbusPoll hrails hready, rfl, rfl, mean_map _ _, mean_map _ _,
        fun r => State.railReads_silent_of_unread, ?answer, ?silent⟩⟩
    case told => exact ⟨_, congrArg (· ++ _) (s.outOff_keeps sg b).2, rfl, rfl, rfl, rfl, rfl⟩
    case answer =>
      rintro r w rfl
      exact s.railRead_answer r w
    case silent =>
      rintro r rfl
      exact s.railRead_silent r

end Sys2Proof.Machine
end

section
/-! PROOFS. What `State.reset` holds (02, R67; 05, R155; 07, R230; 11, Tables 11-3, 11-18; 14, Table 14-4; empty memory is log
entry 13 and PERST_N asserted log entry 11, both DESIGN CHOICE): its tables list nothing, so each unit reads as its default. -/

namespace Sys2Proof.Machine

/-- Pans 0 to 15 of a Basket begin in the service slots of their positions. -/
theorem panDflt_of_position (h : Nat) {k : Nat} (hk : k < 16) :
    (panDflt (h * 17 + k)).mode = .inService ∧ (panDflt (h * 17 + k)).slot = some k := by
  have hpos : (h * 17 + k) % 17 = k := by omega
  simp [panDflt, hpos, hk.ne]

/-- Pan 16 of a Basket begins as its SPARE. -/
theorem panDflt_of_last (h : Nat) : (panDflt (h * 17 + 16)).mode = .spare ∧ (panDflt (h * 17 + 16)).slot = none := by
  have hpos : (h * 17 + 16) % 17 = 16 := by omega
  simp [panDflt, hpos]

/-- Every token code, of a Basket or global, names a token at zero. -/
theorem State.reset_tok (h c : Nat) : State.reset.tok h c = {} := by
  unfold State.tok
  split <;> rfl

/-- Settles O6: every table of `State.reset` is empty, so each unit is read off its default. -/
theorem resetStateIsAsTheTablesSay : Obligations.ResetStateIsAsTheTablesSay := by
  unfold Obligations.ResetStateIsAsTheTablesSay
  refine ⟨⟨rfl, rfl⟩, rfl, rfl, fun _ => rfl, fun _ _ => rfl, fun h c => ?tokens, fun _ => ⟨rfl, rfl, rfl⟩,
    fun h k hk => panDflt_of_position h hk, fun h => panDflt_of_last h, fun _ => ⟨rfl, rfl⟩, rfl, rfl, rfl⟩
  case tokens =>
    rw [State.reset_tok]
    exact ⟨rfl, rfl⟩

end Sys2Proof.Machine
end

section
/-! PROOFS. A Pan step marks its record done by its issue number, in the first record of that number (`State.modRec`). Numbers
are unique in a run of the part, and no hypothesis of O12 or O13 says so: where a step in flight already holds the number the
next step takes, that one is marked, and the step's own record never is. -/

namespace Sys2Proof.Machine

/-- The opcode of WLD or WSW. -/
def bankOpc (wld : Bool) : Nat := if wld then 0x10 else 0x11

/-- The weight block of one local tile of W4I codes with groups of 128, its tensor scale at window offset 0x400. -/
def oneTileBlock : List Byte :=
  leBytes 8 0x2000 ++ leBytes 8 0x20000 ++ leBytes 4 128 ++ leBytes 4 128 ++ leBytes 4 0x1000 ++ leBytes 4 0x400

/-- Stream 0 RESIDENT on Basket 0 at a WLD or WSW of slot 0, and a NOP in flight there under issue number 0, which is the next
one too. -/
def sharedUid (wld : Bool) : State :=
  { State.reset with
    mem := wrTab (wrTab (wrTab [] 0x100 (leBytes 16 (bankOpc wld * 2 ^ 120 + 2 ^ 118 + (if wld then 2 ^ 72 else 0))))
      (crockBase + 0x40) oneTileBlock) (crockBase + 0x400) (leBytes 4 0x3F800000)
    streams := [(0, { st := .resident, img := 0x100, tblSteps := 1, winLen := 0x10000, cring := 0x8000, crLog2 := 4 })]
    baskets := [(0, { bskDflt 0 with st := .run, inflight := [recAt State.reset 0 (hdrOf 0)] })] }

/-- The step at the head of stream 0. -/
def sharedUidHdr (wld : Bool) : Hdr := hdrOf ((sharedUid wld).rdN 0x100 16)

theorem sharedUid_ready (wld : Bool) : HeadReady (sharedUid wld) 0 (bankOpc wld) (sharedUidHdr wld) where
  range := by decide
  live := by cases wld <;> decide +kernel
  table := by cases wld <;> decide +kernel
  good := by cases wld <;> decide +kernel
  word := rfl
  code := by cases wld <;> decide +kernel
  fence h := absurd h (by cases wld <;> decide +kernel)
  token h := absurd h (by cases wld <;> decide +kernel)
  pred := by cases wld <;> decide +kernel
  block := by cases wld <;> decide +kernel
  pot := by cases wld <;> decide +kernel
  valid := by cases wld <;> decide +kernel
  room := by cases wld <;> decide +kernel

/-- The steps in flight on Basket 0 in a next state. -/
def Out.flight : Out → List StepRec
  | .next t => (t.bsk 0).inflight
  | _ => []

/-- The record of the WLD or WSW stays undone: the NOP's, which stands before it under the same number, took the mark. -/
theorem sharedUid_undone (wld : Bool) :
    (Out.flight (exec (if wld then .wld 0 else .wsw 0) (sharedUid wld))).all (fun r => r.opc != bankOpc wld || !r.done) = true := by
  cases wld <;> decide +kernel

/-- So no record of its opcode flies there done. -/
theorem sharedUid_not_flying_done {wld : Bool} {t : State} {r : StepRec}
    (ht : exec (if wld then .wld 0 else .wsw 0) (sharedUid wld) = .next t) (hopc : r.opc = bankOpc wld) (hdone : r.done = true) :
    r ∉ (t.bsk 0).inflight := by
  intro hr
  have hall := sharedUid_undone wld
  rw [ht] at hall
  simpa [hopc, hdone] using List.all_eq_true.mp hall r hr

/-- Refutes O12: a WLD whose issue number a NOP in flight already holds writes its bank, and its own record is never done. -/
theorem not_wldWritesTheIdleBank : ¬ Obligations.WldWritesTheIdleBank := by
  unfold Obligations.WldWritesTheIdleBank
  intro hall
  obtain ⟨t, ht, _, hfly, _⟩ := hall (sharedUid true) 0 (sharedUidHdr true) (sharedUid_ready true) (by decide +kernel)
    (by decide +kernel) (by decide +kernel) (by decide +kernel) (by decide +kernel) (by decide +kernel)
    (by unfold ReadsGood; decide +kernel)
  exact sharedUid_not_flying_done (wld := true) ht (by decide +kernel) rfl hfly

/-- Refutes O13: a WSW whose issue number a NOP in flight already holds finds no valid idle bank, and its own record is never
done. -/
theorem not_wswAndWrefWorkOnTheBanks : ¬ Obligations.WswAndWrefWorkOnTheBanks := by
  unfold Obligations.WswAndWrefWorkOnTheBanks
  rintro ⟨hall, _⟩
  obtain ⟨t, ht, _, _, _, hinvalid⟩ := hall (sharedUid false) 0 (sharedUidHdr false) (sharedUid_ready false) (by decide +kernel)
    (by decide +kernel) (by decide +kernel) (by decide +kernel) (by decide +kernel) (by decide +kernel)
  obtain ⟨_, hfly⟩ := hinvalid (by decide +kernel)
  exact sharedUid_not_flying_done (wld := false) ht (by decide +kernel) rfl hfly

end Sys2Proof.Machine
end

section
/-! PROOFS. What a bank's write, its swap and its refresh change on their Pan (02, R42, R45, R47 to R49; 06, R197, R200), one
equation each. -/

namespace Sys2Proof.Machine

/-! ## Banks of a Pan -/

/-- A bank put in place reads back, and the other one stands. -/
@[simp] theorem Pan.bank_setBank (v : Pan) (toB isB : Bool) (k : Bank) :
    (v.setBank toB k).bank isB = if isB = toB then k else v.bank isB := by
  cases toB <;> cases isB <;> rfl

@[simp] theorem Pan.writeQ_setBank (v : Pan) (toB : Bool) (k : Bank) : (v.setBank toB k).writeQ = v.writeQ := by
  cases toB <;> rfl

@[simp] theorem Pan.refreshCnt_setBank (v : Pan) (toB : Bool) (k : Bank) : (v.setBank toB k).refreshCnt = v.refreshCnt := by
  cases toB <;> rfl

/-! ## Records and reads -/

/-- Marking a record leaves every Pan. -/
@[simp] theorem State.modRec_pan (s : State) (h uid p : Nat) (f : StepRec → StepRec) : (s.modRec h uid f).pan p = s.pan p := rfl

/-- Reading regions changes the SECDED findings alone. -/
theorem State.scrubRegions_keeps (s : State) (x : Stream) (rs : List Region) :
    (s.scrubRegions x rs).mem = s.mem ∧ (s.scrubRegions x rs).pans = s.pans ∧ (s.scrubRegions x rs).time = s.time := by
  have hfr : Fr [.memCorr, .memCe, .memUe] s (s.scrubRegions x rs) :=
    fr_scrubRegions (fr_refl _ s) (by simp [Within]) x rs
  exact ⟨hfr .mem (by decide), hfr .pans (by decide), hfr .time (by decide)⟩

/-! ## Writing a tile -/

/-- The bank that a local tile's bytes, codebook and group scales make on Pan p when its write begins now. -/
def State.tileBank (s : State) (p : Nat) (d : WDesc) (tile : Nat) : Bank :=
  let x : Stream := { winBase := d.win }
  let n := 2048 * wBits d.wfmt
  (formBank d tile (s.rd (locOf x d.space (d.src + tile * n)) n) (s.rd (x.win d.cb) 16) (s.tileScales d tile)
    (s.pan p).calId (s.time + 130)).1

/-- A Pan as the write of a local tile into its bank leaves it. -/
def State.tilePan (s : State) (p : Nat) (toB : Bool) (d : WDesc) (tile : Nat) : Pan :=
  { (s.pan p).setBank toB (s.tileBank p d tile) with wrUntil := s.time + 130 }

/-- A local tile without uncorrectable words is written: its Pan takes the bank, no other Pan and no byte changes. -/
theorem State.loadTile_of_local {s : State} {d : WDesc} {tile : Nat} (p : Nat) (toB : Bool) (who : LoadFor) (hlocal : d.space ≤ 1)
    (hgood : (loadRegions d tile).findSome? (s.regionBad { winBase := d.win }) = none) :
    ∃ t, s.loadTile p toB d tile who = (t, true) ∧ (∀ q, t.pan q = if q = p then s.tilePan p toB d tile else s.pan q) ∧
      t.mem = s.mem := by
  have hhost : d.space ≠ 3 := by omega
  have hglobal : d.space ≠ 2 := by omega
  unfold State.loadTile
  simp only [hgood, hhost, hglobal, if_false]
  have hkeeps := s.scrubRegions_keeps { winBase := d.win } (loadRegions d tile)
  generalize s.scrubRegions { winBase := d.win } (loadRegions d tile) = u at hkeeps ⊢
  obtain ⟨hmem, hpans, htime⟩ := hkeeps
  have hpan (q : Nat) : u.pan q = s.pan q := by unfold State.pan; rw [hpans]
  have hrd (a n : Nat) : u.rd a n = s.rd a n := by unfold State.rd; rw [hmem]
  have hscales : u.tileScales d tile = s.tileScales d tile := by unfold State.tileScales State.rdB; rw [hmem]
  refine ⟨_, rfl, fun q => ?pans, hmem⟩
  case pans =>
    simp only [State.setBsk_keeps, State.setPan_pan, hpan, hrd, hscales, htime]
    rfl

/-- With nothing to compute, a WLD at the head of the write queue comes next. -/
theorem State.nextWrite_wld {s : State} {p u tile : Nat} {d : WDesc} {rest : List WItem}
    (hwrite : (s.pan p).writeQ = .wld u d tile :: rest) (hcompute : (s.pan p).computeQ = []) :
    s.nextWrite p = some (.item (.wld u d tile)) := by
  simp [State.nextWrite, State.walkLoad, State.swapsDone, hwrite, hcompute]

/-- The write at the head of an idle Pan's queue runs: the idle bank is written and the write leaves the queue. -/
theorem State.writeNext_wld {s : State} {p u tile : Nat} {d : WDesc} {rest : List WItem}
    (hwrite : (s.pan p).writeQ = .wld u d tile :: rest) (hcompute : (s.pan p).computeQ = []) (hlocal : d.space ≤ 1)
    (hgood : (loadRegions d tile).findSome? (s.regionBad { winBase := d.win }) = none) :
    (∀ q, (s.writeNext p).pan q =
      if q = p then { s.tilePan p (!(s.pan p).selB) d tile with writeQ := rest } else s.pan q) ∧
    (s.writeNext p).mem = s.mem := by
  obtain ⟨t, hload, hpan, hmem⟩ :=
    State.loadTile_of_local p (!(s.pan p).selB) ((s.bsk (panBsk p)).rec? u) hlocal hgood
  unfold State.writeNext
  simp only [State.nextWrite_wld hwrite hcompute, hload, if_true]
  refine ⟨fun q => ?_, hmem⟩
  have hqueue : (s.tilePan p (!(s.pan p).selB) d tile).writeQ = .wld u d tile :: rest := by
    rw [← hwrite]
    exact (s.pan p).writeQ_setBank _ _
  simp only [State.modRec_pan, State.popWrite, State.setPan_pan, hpan, if_true, hqueue, List.drop_one, List.tail_cons]
  split_ifs <;> rfl

/-! ## Swaps -/

/-- A swap whose idle bank is valid and due neither a write nor a refresh changes the banks over. -/
theorem State.swapNext_of_valid {s : State} {p u : Nat} {rest : List CItem} (hqueue : (s.pan p).computeQ = .wsw u :: rest)
    (hwrite : writePending (s.pan p) u = false) (hdue : overdue s.time (s.pan p).idle = false)
    (hvalid : (s.pan p).idle.valid = true) (q : Nat) :
    (s.swapNext p).pan q =
      if q = p then { s.pan p with selB := !(s.pan p).selB, computeQ := rest } else s.pan q := by
  unfold State.swapNext
  simp only [hqueue, hwrite, hdue, hvalid, Bool.or_self, Bool.false_eq_true, if_false, if_true, State.modRec_pan, State.setPan_pan]

/-! ## Refresh -/

/-- The moment a bank's refresh begins: it is due, and a write of the other bank has run to its end. -/
def State.atDue (s : State) (p : Nat) (isB : Bool) : State :=
  s.at (max (((s.pan p).bank isB).writtenAt + 20000) (s.pan p).wrUntil)

@[simp] theorem State.atDue_pan (s : State) (p q : Nat) (isB : Bool) : (s.atDue p isB).pan q = s.pan q := rfl

/-- WGT_REFRESH of Pan p (02, R47; 10). -/
def refreshEvent (time p : Nat) : EventRec :=
  { time := time, code := 0x0102, cls := 0, unit := 0x02, index := p, stream := none, step := 0, detail := 0 }

/-- A Pan whose bank is driven anew from its copy from `now` on, the refresh of the selected one counted. -/
def Pan.refreshed (v : Pan) (isB : Bool) (now : Nat) : Pan :=
  { v.setBank isB ((v.bank isB).drive (v.bank isB).wfmt v.calId (now + 130)) with
    wrUntil := now + 130, level0 := v.level0 || v.selB = isB
    refreshCnt := if v.selB = isB then sat32 (v.refreshCnt + 1) else v.refreshCnt }

theorem Pan.bank_refreshed (v : Pan) (isB j : Bool) (now : Nat) : (v.refreshed isB now).bank j =
    if j = isB then (v.bank isB).drive (v.bank isB).wfmt v.calId (now + 130) else v.bank j :=
  v.bank_setBank isB j _

/-- A valid bank with a sound copy is refreshed when it is due, the selected one with an event. -/
theorem State.refresh_of_sound {s : State} {p : Nat} {isB : Bool} (hclock : s.clocked = true)
    (hvalid : ((s.pan p).bank isB).valid = true) (hcopy : ((s.pan p).bank isB).copyBad = false) :
    let u := s.atDue p isB
    let t := s.refresh p isB false
    t.time = u.time ∧ t.evq = (if (s.pan p).selB = isB then s.evq ++ [refreshEvent u.time p] else s.evq) ∧
    ∀ q, t.pan q = if q = p then (s.pan p).refreshed isB u.time else s.pan q := by
  unfold State.refresh Pan.refreshed
  simp only [hclock, hvalid, hcopy, Bool.not_true, Bool.or_self, Bool.false_eq_true, if_false]
  by_cases hsel : (s.pan p).selB = isB
  · rw [if_pos hsel, if_pos hsel, if_pos hsel]
    refine ⟨rfl, rfl, fun q => ?_⟩
    simp only [State.raise_keeps, State.setPan_pan, if_true]
    split_ifs <;> rfl
  · rw [if_neg hsel, if_neg hsel, if_neg hsel, ← (s.pan p).refreshCnt_setBank isB]
    exact ⟨rfl, rfl, fun q => State.setPan_pan _ p q _⟩

/-- A bank whose copy is found bad is invalid, its WLD comes again first, and the event tells it. -/
theorem State.refresh_of_bad {s : State} {p : Nat} {isB : Bool} (hclock : s.clocked = true)
    (hvalid : ((s.pan p).bank isB).valid = true) :
    s.refresh p isB true = (s.atDue p isB).copyError p isB := by
  unfold State.refresh State.atDue
  simp [hclock, hvalid]

/-- What a bad copy changes: its bank is no longer valid, its WLD stands first in the write queue, and WGT_BANK_INVALID is told. -/
theorem State.copyError_spec (s : State) (p : Nat) (isB : Bool) :
    let t := s.copyError p isB
    ((t.pan p).bank isB).valid = false ∧ (t.pan p).writeQ = reloadOf isB ((s.pan p).bank isB) ++ (s.pan p).writeQ ∧
    t.evq = s.evq ++ [{ time := t.time, code := 0x0103, cls := 1, unit := 0x02, index := p, stream := none, step := 0
                        detail := 0 }] := by
  unfold State.copyError
  refine ⟨?valid, ?queue, rfl⟩
  all_goals simp only [State.raise_keeps, State.setPan_pan, if_true]
  case valid => cases isB <;> rfl

/-! ## The commands -/

/-- TILE_LOAD and BANK_SWAP act on a Pan that takes work while the clock runs. -/
theorem exec_of_working {s : State} {p : Nat} (hp : p < 272) (hwork : takesWork (s.pan p) = true) (hclock : s.clocked = true) :
    exec (.tileLoad p) s = .next (s.writeNext p) ∧ exec (.bankSwap p) s = .next (s.swapNext p) := by
  have hgo : (takesWork (s.pan p) && s.clocked) = true := by rw [hwork, hclock]; rfl
  exact ⟨(if_pos (decide_eq_true hp)).trans (congrArg Host.Outcome.next (if_pos hgo)),
    (if_pos (decide_eq_true hp)).trans (congrArg Host.Outcome.next (if_pos hgo))⟩

/-- BANK_REFRESH acts on a Pan that is there. -/
theorem exec_bankRefresh {s : State} {p : Nat} (hp : p < 272) (isB : Bool) (f : Finding) :
    exec (.bankRefresh p isB f) s = .next (s.refresh p isB (decide (f = .bad))) :=
  if_pos (decide_eq_true hp)

/-- Settles O25: each command is its operation, and what that changes is read off the operation's equation. -/
theorem banksAreWrittenSwappedAndRefreshed : Obligations.BanksAreWrittenSwappedAndRefreshed := by
  unfold Obligations.BanksAreWrittenSwappedAndRefreshed
  intro s p w
  refine ⟨fun u d tile rest hp hwork hclock hwrite hcompute hlocal hgood => ?write,
    fun u rest hp hwork hclock hqueue hwrite hdue hvalid => ?swap,
    fun isB f hp hclock hvalid hf hcopy => ?refresh, fun isB hp hclock hvalid => ?bad⟩
  case write =>
    obtain ⟨hpan, hmem⟩ := State.writeNext_wld hwrite hcompute hlocal hgood
    refine ⟨_, (exec_of_working hp hwork hclock).1, (hpan p).trans (if_pos rfl), fun q hq => (hpan q).trans (if_neg hq),
      fun a => ?_⟩
    unfold State.rdB
    rw [hmem]
  case swap =>
    have hpan := State.swapNext_of_valid hqueue hwrite hdue hvalid
    exact ⟨_, (exec_of_working hp hwork hclock).2, (hpan p).trans (if_pos rfl), fun q hq => (hpan q).trans (if_neg hq)⟩
  case refresh =>
    have hexec := exec_bankRefresh (s := s) hp isB f
    rw [decide_eq_false hf] at hexec
    obtain ⟨htime, hevq, hpan⟩ := State.refresh_of_sound hclock hvalid hcopy
    have hself := (hpan p).trans (if_pos rfl)
    refine ⟨_, hexec, htime, ?_⟩
    rw [hself, htime, Pan.bank_refreshed, Pan.bank_refreshed, if_pos rfl, if_neg (Bool.not_ne_self isB)]
    exact ⟨rfl, rfl, rfl, hevq, rfl, fun q hq => (hpan q).trans (if_neg hq)⟩
  case bad =>
    have hexec := exec_bankRefresh (s := s) hp isB .bad
    rw [decide_eq_true rfl, State.refresh_of_bad hclock hvalid] at hexec
    exact ⟨_, hexec, (s.atDue p isB).copyError_spec p isB⟩

end Sys2Proof.Machine
end

section
/-! PROOFS. The first start-up sweep of a Basket (09, R306; 02, R67): its Pans' attempts, the laying of the service slots, and
the end of WARMING. The repaired map is log entry 113 (DESIGN CHOICE), the 0.1 °C of `State.panHeld` log entry 139 and the
attempts operand log entry 138 (both DEDUCED). -/

namespace Sys2Proof.Machine

/-! ## Units outside a frame -/

section
variable {W : List Field} {s t : State}

theorem Fr.pan_eq (hfr : Fr W s t) (hpans : .pans ∉ W) (p : Nat) : t.pan p = s.pan p := by
  have hsame : t.pans = s.pans := hfr .pans hpans
  unfold State.pan
  rw [hsame]

theorem Fr.bsk_eq (hfr : Fr W s t) (hbaskets : .baskets ∉ W) (h : Nat) : t.bsk h = s.bsk h := by
  have hsame : t.baskets = s.baskets := hfr .baskets hbaskets
  unfold State.bsk
  rw [hsame]

theorem Fr.held_eq (hfr : Fr W s t) (hstreams : .streams ∉ W) (h : Nat) : t.held h = s.held h := by
  have hsame : t.streams = s.streams := hfr .streams hstreams
  unfold State.held
  rw [hsame]

end

/-! ## Changing Pans one after another -/

section
variable {α : Type} (key : α → Nat) (f : α → Pan → Pan)

/-- Change the Pan of each entry of a list in turn. -/
def State.eachPan (s : State) (xs : List α) : State := xs.foldl (fun s x => s.setPan (key x) (f x (s.pan (key x)))) s

/-- Only Pans change. -/
theorem State.eachPan_fr (s : State) (xs : List α) : Fr [.pans] s (s.eachPan key f xs) :=
  fr_foldl _ s _ xs s (fr_refl _ s) fun _ _ hs => fr_setPan hs (by simp [Within]) _ _

/-- A Pan no entry names stays as it was. -/
theorem State.eachPan_of_not_mem (s : State) (xs : List α) {q : Nat} (hq : q ∉ xs.map key) :
    (s.eachPan key f xs).pan q = s.pan q := by
  induction xs generalizing s with
  | nil => rfl
  | cons x xs ih =>
    simp only [List.map_cons, List.mem_cons, not_or] at hq
    exact (ih _ hq.2).trans ((State.setPan_pan _ _ _ _).trans (if_neg hq.1))

/-- Where no two entries name one Pan, each is changed once. -/
theorem State.eachPan_of_mem (s : State) {xs : List α} (hnd : (xs.map key).Nodup) {x : α} (hx : x ∈ xs) :
    (s.eachPan key f xs).pan (key x) = f x (s.pan (key x)) := by
  induction xs generalizing s with
  | nil => cases hx
  | cons y ys ih =>
    simp only [List.map_cons, List.nodup_cons] at hnd
    obtain ⟨hy, hys⟩ := hnd
    rcases List.mem_cons.mp hx with rfl | hx
    · refine (State.eachPan_of_not_mem key f _ ys hy).trans ((State.setPan_pan _ _ _ _).trans (if_pos rfl))
    · have hne : key x ≠ key y := fun h => hy (h ▸ List.mem_map_of_mem hx)
      refine (ih _ hys hx).trans ?_
      rw [State.setPan_pan, if_neg hne]

end

/-! ## The Pans of a Basket -/

theorem mem_bskPans {h p : Nat} : p ∈ bskPans h ↔ ∃ k, k < 17 ∧ p = h * 17 + k := by
  simp [bskPans, eq_comm]

theorem bskPans_nodup (h : Nat) : (bskPans h).Nodup :=
  List.nodup_range.map fun _ _ => Nat.add_left_cancel

/-- In position order: Pan k of a Basket stands at place k. -/
theorem mem_zipIdx_bskPans {h k : Nat} (hk : k < 17) : (h * 17 + k, k) ∈ (bskPans h).zipIdx := by
  rw [List.mem_zipIdx_iff_getElem?]
  simp [bskPans, hk]

/-! ## One Pan's attempt -/

/-- A Pan as a converged sweep that ends now leaves it (09, R294, R295, R305). -/
def Pan.calibrated (v : Pan) (m : PanMap) (r : SweepResult) (now : Nat) : Pan :=
  { v with
    rowSpare := m.row, colSpare0 := m.c0, colSpare1 := m.c1, mapRow := m.row, mapCol0 := m.c0, mapCol1 := m.c1
    calId := v.calId + 1, kTh := r.kTh, blind := [], sums := [], winAt := now, trimOfs := 0, ofsDrift := 0, gainDrift := 0
    lim := false, noCal := false, timeouts := 0, lastCal := now }

/-- A converged sweep changes its own Pan alone. -/
theorem State.commitCal_pan (s : State) (p q : Nat) (m : PanMap) (r : SweepResult) :
    (s.commitCal p m r).pan q = if q = p then (s.pan p).calibrated m r s.time else s.pan q := by
  have hspWrite (u : State) (n : Nat) (v : W32) : Fr [.ket] u (u.spWrite n v) := fr_spWrite (fr_refl _ u) (by simp [Within]) n v
  unfold State.commitCal
  rw [(hspWrite _ _ _).pan_eq (by decide)]
  dsimp only
  split <;> exact State.setPan_pan _ _ _ _

/-- One measured attempt whose map can be repaired converges. -/
theorem State.tryPan_of_measured {s : State} {p : Nat} {r : SweepResult} {m : PanMap}
    (hm : repairMap (s.pan p).startMap r.rings r.mods = some m) :
    s.tryPan p [.measured r] = (s.commitCal p m r, true, 2) := by
  simp [State.tryPan, State.tryOne, hm]

/-- It takes no time. -/
theorem State.commitCal_time (s : State) (p : Nat) (m : PanMap) (r : SweepResult) : (s.commitCal p m r).time = s.time :=
  fr_commitCal (W := [.pans, .ket, .cal, .trv]) (fr_refl _ s) (by simp [Within]) p m r .time (by decide)

/-! ## The attempts of all Pans -/

/-- The list l brings Pan p one measured attempt, from which its map can be repaired. -/
def State.Converges (s : State) (l : List (Nat × List Attempt)) (p : Nat) : Prop :=
  ∃ r m, attemptsOf l p = [.measured r] ∧ repairMap (s.pan p).startMap r.rings r.mods = some m

/-- What the attempts of the Pans ps make of the Pans of s where each converges at its first. -/
structure Swept (s t : State) (l : List (Nat × List Attempt)) (ps : List Nat) : Prop where
  each : ∀ p, p ∈ ps → ∀ r m, attemptsOf l p = [.measured r] → repairMap (s.pan p).startMap r.rings r.mods = some m →
    t.pan p = (s.pan p).calibrated m r s.time
  others : ∀ q, q ∉ ps → t.pan q = s.pan q

/-- `State.tryPans` from the sum of earlier attempts on. -/
def tryPansFrom (l : List (Nat × List Attempt)) (a : State × SweepSum) (ps : List Nat) : State × SweepSum :=
  ps.foldl (fun a p =>
    let r := a.1.tryPan p (attemptsOf l p)
    (r.1, a.2.tell p r.2.1 r.2.2)) a

/-- Where all converge each Pan is calibrated, and to the sum they add only that they did. -/
theorem tryPansFrom_of_converges {l : List (Nat × List Attempt)} {ps : List Nat} (hnd : ps.Nodup) {s : State} (a : SweepSum)
    (hconv : ∀ p, p ∈ ps → s.Converges l p) :
    Swept s (tryPansFrom l (s, a) ps).1 l ps ∧
    (tryPansFrom l (s, a) ps).2 = { ok := ps.reverse ++ a.ok, out := a.out, more := a.more } := by
  induction ps generalizing s a with
  | nil => exact ⟨⟨fun _ hp => (List.not_mem_nil hp).elim, fun _ _ => rfl⟩, rfl⟩
  | cons p ps ih =>
    obtain ⟨hp, hps⟩ := List.nodup_cons.mp hnd
    obtain ⟨r, m, hr, hm⟩ := hconv p List.mem_cons_self
    have hkeep (q : Nat) (hq : q ≠ p) : (s.commitCal p m r).pan q = s.pan q := (s.commitCal_pan p q m r).trans (if_neg hq)
    have hne (q : Nat) (hq : q ∈ ps) : q ≠ p := fun h => hp (h ▸ hq)
    have hstep : tryPansFrom l (s, a) (p :: ps) = tryPansFrom l (s.commitCal p m r, { a with ok := p :: a.ok }) ps := by
      simp [tryPansFrom, hr, State.tryPan_of_measured hm, SweepSum.tell]
    obtain ⟨⟨heach, hothers⟩, hsum⟩ := ih hps (s := s.commitCal p m r) { a with ok := p :: a.ok } fun q hq => by
      unfold State.Converges
      rw [hkeep q (hne q hq)]
      exact hconv q (List.mem_cons_of_mem p hq)
    rw [hstep]
    refine ⟨⟨fun q hq r' m' hr' hm' => ?each, fun q hq => ?others⟩, by simpa using hsum⟩
    case each =>
      rcases List.mem_cons.mp hq with rfl | hq
      · obtain rfl : r = r' := by simpa [hr] using hr'
        obtain rfl : m = m' := by simpa [hm] using hm'
        rw [hothers q hp, State.commitCal_pan, if_pos rfl]
      · rw [← hkeep q (hne q hq)] at hm'
        rw [heach q hq r' m' hr' hm', hkeep q (hne q hq), State.commitCal_time]
    case others =>
      obtain ⟨hqp, hqps⟩ := not_or.mp (mt List.mem_cons.mpr hq)
      exact (hothers q hqps).trans (hkeep q hqp)

/-- Letting in changes nothing where no Pan was left out. -/
theorem State.letIn_of_none_out {s : State} {ps : List Nat} (hin : ∀ p, p ∈ ps → leftOut (s.pan p) = false) : s.letIn ps = s := by
  induction ps with
  | nil => rfl
  | cons p ps ih =>
    have hp : ¬ leftOut (s.pan p) = true := by simp [hin p List.mem_cons_self]
    unfold State.letIn
    rw [List.foldl_cons, if_neg hp]
    exact ih fun q hq => hin q (List.mem_cons_of_mem p hq)

/-! ## Laying the slots -/

/-- The Pan at place x.2 takes that slot where it is one of n, else it becomes SPARE (02, R67). -/
def layPan (n : Nat) (x : Nat × Nat) (v : Pan) : Pan :=
  { v with mode := if x.2 < n then .inService else .spare, slot := if x.2 < n then some x.2 else none, reason := 0 }

/-- Where every Pan of the Basket is usable, each is laid by its position. -/
theorem State.layPans_pan {s : State} {h k : Nat}
    (husable : ∀ p, p ∈ bskPans h → (s.pan p).mode ≠ .retired ∧ (s.pan p).mode ≠ .calibrating) (hk : k < 17) :
    (s.layPans h).pan (h * 17 + k) = layPan (bskSlots (s.bsk h)) (h * 17 + k, k) (s.pan (h * 17 + k)) := by
  have hall : (bskPans h).filter (fun p => (s.pan p).mode ≠ .retired && (s.pan p).mode ≠ .calibrating) = bskPans h :=
    List.filter_eq_self.mpr fun p hp => by simp [husable p hp]
  have hlay : s.layPans h = s.eachPan Prod.fst (layPan (bskSlots (s.bsk h))) (bskPans h).zipIdx := by
    unfold State.layPans
    rw [hall]
    rfl
  have hnd : ((bskPans h).zipIdx.map Prod.fst).Nodup := by
    rw [List.zipIdx_map_fst]
    exact bskPans_nodup h
  rw [hlay]
  exact State.eachPan_of_mem Prod.fst _ s hnd (mem_zipIdx_bskPans hk)

theorem bskSlots_le (b : Basket) : bskSlots b ≤ 16 := by
  unfold bskSlots
  split <;> decide

/-- With its slots laid by position a Basket has them all held. -/
theorem State.slotsFull_of_laid {s : State} {h : Nat}
    (hlaid : ∀ k, k < bskSlots (s.bsk h) → (s.pan (h * 17 + k)).slot = some k) : s.slotsFull h = true := by
  unfold State.slotsFull State.slotPan
  rw [List.all_eq_true]
  intro k hk
  have hk := List.mem_range.mp hk
  have hle := bskSlots_le (s.bsk h)
  rw [List.find?_isSome]
  exact ⟨h * 17 + k, mem_bskPans.mpr ⟨k, by omega, rfl⟩, decide_eq_true (hlaid k hk)⟩

/-! ## The end of WARMING -/

/-- A report of SPAREs keeps all of a Basket but what it has told. -/
theorem State.tellSpares_bsk (s : State) (h k : Nat) : ∃ b, (s.tellSpares h).bsk k = { s.bsk k with spareTold := b } := by
  unfold State.tellSpares
  dsimp only
  split
  · exact ⟨_, rfl⟩
  · generalize hu : s.setBsk h _ = u
    have hfr : Fr [.trv, .msix, .mgmt] u (u.condition 0x01 h (s.spares h).length) :=
      fr_condition (fr_refl _ u) (by simp [Within]) _ _ _
    rw [hfr.bsk_eq (by decide), ← hu, State.setBsk_bsk]
    split_ifs with hk
    · subst hk
      exact ⟨_, rfl⟩
    · exact ⟨_, rfl⟩

/-- A turn of the structural test keeps all of a Basket but its deferral. -/
theorem State.testTurn_bsk (s : State) (k : Nat) : ∃ d, s.testTurn.bsk k = { s.bsk k with testDefer := d } := by
  unfold State.testTurn
  split_ifs
  · exact ⟨_, rfl⟩
  · split
    · rename_i h _
      rw [State.setBsk_bsk]
      split_ifs with hk
      · subst hk
        exact ⟨_, rfl⟩
      · exact ⟨_, rfl⟩
    · exact ⟨_, rfl⟩

/-- WARMING ends in READY, or in RUN with streams. -/
theorem State.warmed_bsk (s : State) (h : Nat) :
    ((s.warmed h).bsk h).st = (if s.held h = [] then .ready else .run) ∧ ((s.warmed h).bsk h).coldSweep = false := by
  unfold State.warmed
  dsimp only
  generalize hu : s.setBsk h _ = u
  obtain ⟨d, hd⟩ := (u.settleBsk h).testTurn_bsk h
  have hst : (u.bsk h).st = .ready := by simp [← hu]
  have hcold : (u.bsk h).coldSweep = false := by simp [← hu]
  have hheld : u.held h = s.held h := by rw [← hu]; rfl
  have hservice : inService (u.bsk h) = true := by simp [inService, hst]
  rw [hd]
  unfold State.settleBsk
  simp [hservice, hcold, hheld]

/-- Only Baskets change with it. -/
theorem State.warmed_pan (s : State) (h p : Nat) : (s.warmed h).pan p = s.pan p := by
  have hfr : Fr [.baskets] s (s.warmed h) := fr_warmed (fr_refl _ s) (by simp [Within]) h
  exact hfr.pan_eq (by decide) p

/-! ## The sweep -/

/-- The state in which the attempts begin: no Pan of the Basket has failed one yet. -/
def State.startupBegun (s : State) (h : Nat) : State := s.eachPan id (fun _ v => { v with timeouts := 0 }) (bskPans h)

/-- The state in which the attempts of a Basket's Pans end. -/
def State.startupTried (s : State) (h : Nat) (l : List (Nat × List Attempt)) : State :=
  ((s.startupBegun h).tryPans (bskPans h) l).1

/-- No start-up sweep runs any more. -/
def State.startupOver (s : State) : State := { s with cal := { s.cal with startAt := none } }

theorem State.startupOver_fr (s : State) : Fr [.cal] s s.startupOver := fr_mk_cal (fr_refl _ s) (by decide) _

/-- What follows the attempts, before the slots are counted: Pans come in and go out, and SPAREs are told. -/
def State.startupTold (r : State × SweepSum) (h : Nat) (first : Bool) : State :=
  (((r.1.letIn r.2.ok).putOut h first r.2.out).tellSpares h).startupOver

/-- The state in which every Pan has converged at its first attempt and the slots are laid. -/
def State.startupLaid (s : State) (h : Nat) (l : List (Nat × List Attempt)) : State :=
  (((s.startupTried h l).layPans h).tellSpares h).startupOver

/-- Whether the start-up sweep of a Basket whose Pans ps are not RETIRED may end with the attempts l. -/
def State.startupGoes (s : State) (h : Nat) (ps : List Nat) (l : List (Nat × List Attempt)) : Bool :=
  (s.bsk h).st = .warming && (s.bsk h).coldSweep && s.clocked && s.timeSet && s.startupRuns && ps.all s.panHeld &&
    l.all (fun e => e.2.all Attempt.legal)

section
variable {s : State} {h : Nat} {l : List (Nat × List Attempt)}

theorem State.startupBegun_pan {p : Nat} (hp : p ∈ bskPans h) : (s.startupBegun h).pan p = { s.pan p with timeouts := 0 } :=
  State.eachPan_of_mem id (fun _ v => { v with timeouts := 0 }) s (by simpa using bskPans_nodup h) hp

theorem State.startupBegun_time : (s.startupBegun h).time = s.time := s.eachPan_fr _ _ _ .time (by decide)

/-- The attempts leave streams, Baskets and the time. -/
theorem State.startupTried_fr : Fr [.pans, .ket, .cal, .trv, .evq] s (s.startupTried h l) := by
  have hstart : Fr [.pans, .ket, .cal, .trv, .evq] s (s.startupBegun h) := fun f hf =>
    s.eachPan_fr _ _ _ f fun hmem => hf (List.mem_cons.mpr (.inl (List.mem_singleton.mp hmem)))
  exact fr_tryPans hstart (by simp [Within]) _ _

theorem State.startupTried_bsk : (s.startupTried h l).bsk h = s.bsk h := State.startupTried_fr.bsk_eq (by decide) h

theorem State.layPans_fr (u : State) : Fr [.pans] u (u.layPans h) := fr_layPans (fr_refl _ _) (by simp [Within]) h

theorem State.tellSpares_fr (u : State) : Fr [.baskets, .trv, .msix, .mgmt] u (u.tellSpares h) :=
  fr_tellSpares (fr_refl _ _) (by simp [Within]) h

/-- The Basket keeps all but what it has told. -/
theorem State.startupLaid_bsk : ∃ b, (s.startupLaid h l).bsk h = { s.bsk h with spareTold := b } := by
  have hlaid : ((s.startupTried h l).layPans h).bsk h = s.bsk h :=
    ((State.layPans_fr _).bsk_eq (by decide) h).trans State.startupTried_bsk
  unfold State.startupLaid
  rw [(State.startupOver_fr _).bsk_eq (by decide) h, ← hlaid]
  exact State.tellSpares_bsk _ h h

theorem State.startupLaid_held : (s.startupLaid h l).held h = s.held h := by
  unfold State.startupLaid
  rw [(State.startupOver_fr _).held_eq (by decide), (State.tellSpares_fr _).held_eq (by decide),
    (State.layPans_fr _).held_eq (by decide), State.startupTried_fr.held_eq (by decide)]

variable (hconv : ∀ p, p ∈ bskPans h → s.Converges l p)
include hconv

/-- Setting the failures to none leaves the maps the attempts start from, and what they make of them. -/
theorem State.tryPans_startupBegun :
    (∀ p, p ∈ bskPans h → ∀ r m, attemptsOf l p = [.measured r] → repairMap (s.pan p).startMap r.rings r.mods = some m →
      (s.startupTried h l).pan p = (s.pan p).calibrated m r s.time) ∧
    ((s.startupBegun h).tryPans (bskPans h) l).2 = { ok := (bskPans h).reverse } := by
  have hconv0 (p : Nat) (hp : p ∈ bskPans h) : (s.startupBegun h).Converges l p := by
    unfold State.Converges
    rw [State.startupBegun_pan hp]
    exact hconv p hp
  obtain ⟨⟨heach, _⟩, hsum⟩ := tryPansFrom_of_converges (bskPans_nodup h) {} hconv0
  refine ⟨fun p hp r m hr hm => ?_, hsum.trans (by simp)⟩
  have hpan := heach p hp r m hr (by rw [State.startupBegun_pan hp]; exact hm)
  rw [State.startupBegun_pan hp, State.startupBegun_time] at hpan
  exact hpan

/-- Converging changes no Pan's place in service. -/
theorem State.startupTried_mode {p : Nat} (hp : p ∈ bskPans h) : ((s.startupTried h l).pan p).mode = (s.pan p).mode := by
  obtain ⟨r, m, hr, hm⟩ := hconv p hp
  rw [(State.tryPans_startupBegun hconv).1 p hp r m hr hm]
  rfl

omit hconv in
/-- A sweep that may end, stage by stage, where no Pan of the Basket is RETIRED. -/
theorem State.startup_of_goes (hall : (bskPans h).filter (fun p => (s.pan p).mode ≠ .retired) = bskPans h)
    (hgoes : s.startupGoes h (bskPans h) l = true) :
    s.startup h l =
      let r := (s.startupBegun h).tryPans (bskPans h) l
      let t := State.startupTold r h ((bskPans h).all (fun p => (s.pan p).calId = 0))
      if r.2.more then s else if t.slotsFull h then t.warmed h else t.retireBasket h false := by
  unfold State.startup
  rw [hall]
  exact if_neg (by simpa [State.startupGoes] using hgoes)

/-- Where every Pan converges at its first attempt and none was left out, the slots are laid for all. -/
theorem State.startupTold_of_converges (hin : ∀ p, p ∈ bskPans h → (s.pan p).mode ≠ .calibrating) :
    State.startupTold ((s.startupBegun h).tryPans (bskPans h) l) h true = s.startupLaid h l := by
  have htried : (s.startupBegun h).tryPans (bskPans h) l = (s.startupTried h l, { ok := (bskPans h).reverse }) :=
    Prod.ext rfl (State.tryPans_startupBegun hconv).2
  have hlet : (s.startupTried h l).letIn (bskPans h).reverse = s.startupTried h l :=
    State.letIn_of_none_out fun p hp => by
      have hp := List.mem_reverse.mp hp
      simp [leftOut, State.startupTried_mode hconv hp, hin p hp]
  rw [htried]
  simp only [State.startupTold, hlet, State.putOut, List.foldl_nil, if_true]
  rfl

/-- Where its Pans are usable and swept for the first time, the sweep of a waiting Basket ends at once. -/
theorem State.startup_of_converges (hgoes : s.startupGoes h (bskPans h) l = true)
    (husable : ∀ p, p ∈ bskPans h → (s.pan p).mode ≠ .retired ∧ (s.pan p).mode ≠ .calibrating)
    (hfirst : ∀ p, p ∈ bskPans h → (s.pan p).calId = 0) (hfull : (s.startupLaid h l).slotsFull h = true) :
    s.startup h l = (s.startupLaid h l).warmed h := by
  have hall : (bskPans h).filter (fun p => (s.pan p).mode ≠ .retired) = bskPans h :=
    List.filter_eq_self.mpr fun p hp => decide_eq_true (husable p hp).1
  have hfirst' : (bskPans h).all (fun p => (s.pan p).calId = 0) = true := by simpa using hfirst
  rw [State.startup_of_goes hall hgoes, hfirst']
  simp only [State.startupTold_of_converges hconv fun p hp => (husable p hp).2, (State.tryPans_startupBegun hconv).2, hfull,
    Bool.false_eq_true, if_false, if_true]

/-- Each Pan is laid by its position, calibrated. -/
theorem State.startupLaid_pan {k : Nat} {r : SweepResult} {m : PanMap} (hk : k < 17)
    (husable : ∀ p, p ∈ bskPans h → (s.pan p).mode ≠ .retired ∧ (s.pan p).mode ≠ .calibrating)
    (hr : attemptsOf l (h * 17 + k) = [.measured r])
    (hm : repairMap (s.pan (h * 17 + k)).startMap r.rings r.mods = some m) :
    (s.startupLaid h l).pan (h * 17 + k) =
      layPan (bskSlots (s.bsk h)) (h * 17 + k, k) ((s.pan (h * 17 + k)).calibrated m r s.time) := by
  have hlaid := State.layPans_pan (s := s.startupTried h l) (fun p hp => by
    rw [State.startupTried_mode hconv hp]
    exact husable p hp) hk
  rw [State.startupTried_bsk, (State.tryPans_startupBegun hconv).1 _ (mem_bskPans.mpr ⟨k, hk, rfl⟩) r m hr hm] at hlaid
  unfold State.startupLaid
  rw [(State.startupOver_fr _).pan_eq (by decide), (State.tellSpares_fr _).pan_eq (by decide)]
  exact hlaid

end

/-- Settles O40: every Pan converges, so the sweep ends with the slots laid by position and the Basket out of WARMING. -/
theorem startupSweepFillsTheSlots : Obligations.StartupSweepFillsTheSlots := by
  unfold Obligations.StartupSweepFillsTheSlots
  intro s h l b hh hst hcold hclock htime hruns hpans hlegal hconv
  have husable (p : Nat) (hp : p ∈ bskPans h) : (s.pan p).mode ≠ .retired ∧ (s.pan p).mode ≠ .calibrating := by
    obtain ⟨hretired, hcalibrating, _⟩ := hpans p hp
    exact ⟨hretired, hcalibrating⟩
  have hfirst (p : Nat) (hp : p ∈ bskPans h) : (s.pan p).calId = 0 := by
    obtain ⟨_, _, hid, _⟩ := hpans p hp
    exact hid
  have hheld : (bskPans h).all s.panHeld = true := List.all_eq_true.mpr fun p hp => by
    obtain ⟨_, _, _, hset⟩ := hpans p hp
    exact hset
  have hgoes : s.startupGoes h (bskPans h) l = true := by
    unfold State.startupGoes
    rw [show (s.bsk h).st = .warming from hst, show (s.bsk h).coldSweep = true from hcold, hclock, htime, hruns, hheld, hlegal]
    rfl
  obtain ⟨told, hbsk⟩ := State.startupLaid_bsk (s := s) (h := h) (l := l)
  have hlaid (k : Nat) (hk : k < 17) : ∃ r m, attemptsOf l (h * 17 + k) = [.measured r] ∧
      repairMap (s.pan (h * 17 + k)).startMap r.rings r.mods = some m ∧
      (s.startupLaid h l).pan (h * 17 + k) =
        layPan (bskSlots b) (h * 17 + k, k) ((s.pan (h * 17 + k)).calibrated m r s.time) := by
    obtain ⟨r, m, hr, hm⟩ := hconv _ (mem_bskPans.mpr ⟨k, hk, rfl⟩)
    exact ⟨r, m, hr, hm, State.startupLaid_pan hconv hk husable hr hm⟩
  have hslots : bskSlots ((s.startupLaid h l).bsk h) = bskSlots b := by rw [hbsk]; rfl
  have hfull : (s.startupLaid h l).slotsFull h = true := State.slotsFull_of_laid fun k hk => by
    rw [hslots] at hk
    have hle := bskSlots_le b
    obtain ⟨r, m, _, _, hpan⟩ := hlaid k (by omega)
    rw [hpan]
    exact if_pos hk
  obtain ⟨hend, hcoldEnd⟩ := (s.startupLaid h l).warmed_bsk h
  rw [State.startupLaid_held] at hend
  refine ⟨_, (if_pos (decide_eq_true hh)).trans
    (congrArg Host.Outcome.next (State.startup_of_converges hconv hgoes husable hfirst hfull)), hend, hcoldEnd, fun k hk => ?_⟩
  obtain ⟨r, m, hr, hm, hpan⟩ := hlaid k hk
  rw [State.warmed_pan, hpan]
  refine ⟨rfl, rfl, rfl, ?_, rfl, fun r' m' hr' hm' => ?_⟩
  · show (s.pan (h * 17 + k)).calId + 1 = 1
    rw [hfirst _ (mem_bskPans.mpr ⟨k, hk, rfl⟩)]
  · obtain rfl : r = r' := by simpa [hr] using hr'
    obtain rfl : m = m' := by simpa [hm] using hm'
    rfl

end Sys2Proof.Machine
end

section
/-! PROOFS. The Whisk's steps too are marked done by their issue number, in the first record of that number
(`State.stepDone`). As in O12 and O13, no hypothesis of O17 says that no step in flight holds that number already. -/

namespace Sys2Proof.Machine

/-- The state of `sharedUid`, its stream at a SCUP SET of the headroom of scale entry 0 to 0: the NOP in flight holds the issue
number that the SCUP takes. -/
def scupSharedUid : State :=
  { sharedUid true with mem := wrTab [] 0x100 (leBytes 16 (0x32 * 2 ^ 120 + 2 ^ 118 + 2 ^ 48 + 2 ^ 46)) }

/-- The SCUP SET at the head of stream 0. -/
def scupSharedUidHdr : Hdr := hdrOf (scupSharedUid.rdN 0x100 16)

theorem scupSharedUid_ready : HeadReady scupSharedUid 0 0x32 scupSharedUidHdr where
  range := by decide
  live := by decide +kernel
  table := by decide +kernel
  good := by decide +kernel
  word := rfl
  code := by decide +kernel
  fence h := absurd h (by decide +kernel)
  token h := absurd h (by decide +kernel)
  pred := by decide +kernel
  block := by decide +kernel
  pot := by decide +kernel
  valid := by decide +kernel
  room := by decide +kernel

/-- The NOP takes the mark: after the SCUP's command the NOP's record is done, and the SCUP's is not. -/
theorem scupSharedUid_marks_nop :
    (Out.flight (exec (.scup 0) scupSharedUid)).map (fun r => (r.opc, r.done)) = [(0x00, true), (0x32, false)] := by
  decide +kernel

/-- So no record of a SCUP flies done after it. -/
theorem scupSharedUid_not_flying_done {t : State} {r : StepRec} (ht : exec (.scup 0) scupSharedUid = .next t)
    (hopc : r.opc = 0x32) (hdone : r.done = true) : r ∉ (t.bsk 0).inflight := by
  intro hr
  have hmarks := scupSharedUid_marks_nop
  rw [ht] at hmarks
  have hmem : (r.opc, r.done) ∈ [((0x00 : Nat), true), (0x32, false)] := hmarks ▸ List.mem_map_of_mem hr
  simp [hopc, hdone] at hmem

/-- Refutes O17: a SCUP SET whose issue number a NOP in flight already holds sets its entry, and its own record is never done. -/
theorem not_whiskStepsMakeCodesAndEntries : ¬ Obligations.WhiskStepsMakeCodesAndEntries := by
  unfold Obligations.WhiskStepsMakeCodesAndEntries
  rintro ⟨_, _, hall⟩
  obtain ⟨_, hset, _⟩ := hall scupSharedUid 0 scupSharedUidHdr (by decide +kernel)
  obtain ⟨t, ht, _, _, hfly, _⟩ := hset scupSharedUid_ready (by decide +kernel)
  exact scupSharedUid_not_flying_done ht (by decide +kernel) rfl hfly

end Sys2Proof.Machine
end

section
/-! PROOFS. The operations on a Pot (04, R122 to R133; 06, R205 to R207): what each does once it starts, and when the first of a
Pot's waits does (04, R124). -/

namespace Sys2Proof.Machine

/-! ## Reading Pots and streams -/

/-- Reading `pot` after `setPot`, in one Basket. -/
@[simp] theorem State.setPot_pot (s : State) (h n m : Nat) (v : Pot) :
    (s.setPot h n v).pot h m = if m = n then v else s.pot h m := by
  have hix : potIx h m = potIx h n ↔ m = n := by unfold potIx; omega
  unfold State.pot State.setPot
  simp only [tget_tset, hix]

@[simp] theorem State.modRec_pot (s : State) (h uid k n : Nat) (f : StepRec → StepRec) :
    (s.modRec h uid f).pot k n = s.pot k n := rfl

@[simp] theorem State.modRec_mem (s : State) (h uid : Nat) (f : StepRec → StepRec) : (s.modRec h uid f).mem = s.mem := rfl

@[simp] theorem State.modRec_time (s : State) (h uid : Nat) (f : StepRec → StepRec) : (s.modRec h uid f).time = s.time := rfl

section
variable {W : List Field} {s t : State}

theorem Fr.pot_eq (hfr : Fr W s t) (hpots : .pots ∉ W) (h n : Nat) : t.pot h n = s.pot h n := by
  have hsame : t.pots = s.pots := hfr .pots hpots
  unfold State.pot
  rw [hsame]

/-- A frame may name more fields. -/
theorem Fr.mono {V : List Field} (hfr : Fr W s t) (hsub : Within W V) : Fr V s t :=
  fun f hf => hfr f fun hmem => hf (within_mem hsub f hmem)

theorem Fr.str_eq (hfr : Fr W s t) (hstreams : .streams ∉ W) (i : Nat) : t.str i = s.str i := by
  have hsame : t.streams = s.streams := hfr .streams hstreams
  unfold State.str
  rw [hsame]

end

/-! ## Records of steps in flight -/

/-- The last element that meets `p`, after `lmod` has changed the first that does. -/
theorem find?_reverse_lmod {α : Type} {p : α → Bool} {f : α → α} (hf : ∀ x, p (f x) = p x) {l : List α} {x : α}
    (hx : l.reverse.find? p = some x) :
    (lmod p f l).reverse.find? p = some x ∨ (lmod p f l).reverse.find? p = some (f x) := by
  induction l with
  | nil => cases hx
  | cons a l ih =>
    rw [List.reverse_cons, List.find?_append] at hx
    unfold lmod
    by_cases hp : p a = true
    · rw [if_pos hp, List.reverse_cons, List.find?_append]
      cases hl : l.reverse.find? p with
      | some y =>
        left
        simpa [hl] using hx
      | none =>
        obtain rfl : a = x := by simpa [hl, hp] using hx
        simp [hf, hp]
    · rw [if_neg hp, List.reverse_cons, List.find?_append]
      have hlast : l.reverse.find? p = some x := by simpa [hp] using hx
      rcases ih hlast with hsame | hchanged
      · simp [hsame]
      · simp [hchanged]

/-- A step's record after a change of the first of its issue number: the change has met it, or one before it. -/
theorem State.rec?_modRec {s : State} {h uid : Nat} {f : StepRec → StepRec} {r : StepRec} (hf : ∀ x, (f x).uid = x.uid)
    (hr : (s.bsk h).rec? uid = some r) :
    ((s.modRec h uid f).bsk h).rec? uid = some r ∨ ((s.modRec h uid f).bsk h).rec? uid = some (f r) := by
  have hbsk : (s.modRec h uid f).bsk h = { s.bsk h with inflight := lmod (fun x => x.uid = uid) f (s.bsk h).inflight } := by
    unfold State.modRec
    simp
  rw [hbsk]
  exact find?_reverse_lmod (fun x => by rw [hf]) hr

/-! ## SPILL -/

/-- Where an element's SRAM holds no error its read finds nothing. -/
theorem State.potEccIn_of_clean {s : State} {h n : Nat} (mine : Nat → Bool) (hecc : (s.pot h n).ecc = []) :
    s.potEccIn h n mine = some s := by
  unfold State.potEccIn
  simp [hecc]

theorem State.potEcc_of_clean {s : State} {h n : Nat} (hecc : (s.pot h n).ecc = []) : s.potEcc h n = some s :=
  State.potEccIn_of_clean _ hecc

/-- A spill reads and writes memory alone, and of its Pot reads the shape and the elements. -/
theorem State.spillInto_congr {s u : State} (hmem : u.mem = s.mem) (a : Nat) {p q : Pot} (hrp : q.rp = p.rp) (hcp : q.cp = p.cp)
    (helems : q.elems = p.elems) :
    (u.spillInto a q).1.mem = (s.spillInto a p).1.mem ∧ (u.spillInto a q).2 = (s.spillInto a p).2 := by
  have hbuf (n : Nat) : u.cp128 a n = s.cp128 a n := by unfold State.cp128 State.rdN State.rd; rw [hmem]
  unfold State.spillInto
  simp only [hbuf, State.wr_mem, hmem, hrp, hcp, helems, and_self]

/-- The buffer of a spill of Pot q. -/
def spillRegion (q : Pot) (buf : Nat) : Region := { sp := 0, start := buf, pitch := 0, width := 16 * q.rp * q.cp, rows := 1 }

/-- Pot n as it is added into its buffer, before it goes FREE, and whether some sum is not finite. -/
def State.spilled (s : State) (h n buf sid : Nat) : State × Bool :=
  (s.scrubRegions (s.str sid) [spillRegion (s.pot h n) buf]).spillInto ((s.str sid).win buf) (s.pot h n)

/-- The buffer alone changes, and that as the words read before their correction say. -/
theorem State.spilled_spec (s : State) (h n buf sid : Nat) :
    Fr [.mem, .memBad, .memCorr, .memCe, .memUe] s (s.spilled h n buf sid).1 ∧
    (s.spilled h n buf sid).1.mem = (s.spillInto ((s.str sid).win buf) (s.pot h n)).1.mem ∧
    (s.spilled h n buf sid).2 = (s.spillInto ((s.str sid).win buf) (s.pot h n)).2 := by
  have hscrub : Fr [.memCorr, .memCe, .memUe] s (s.scrubRegions (s.str sid) [spillRegion (s.pot h n) buf]) :=
    fr_scrubRegions (fr_refl _ s) (by simp [Within]) _ _
  exact ⟨fr_spillInto (hscrub.mono (by simp [Within])) (by simp [Within]) _ _,
    State.spillInto_congr (hscrub .mem (by decide)) _ rfl rfl rfl⟩

section
variable {s : State} {h n buf : Nat} {r : StepRec}

/-- A spill that reads no error adds its Pot into the buffer and frees it. -/
theorem State.spillPot_of_good {sid : Nat} (idx : Nat) (hecc : (s.pot h n).ecc = [])
    (hgood : s.regionBad (s.str sid) (spillRegion (s.pot h n) buf) = none) :
    s.spillPot h n buf sid idx =
      ((s.spilled h n buf sid).1.setPot h n { freedPot (s.pot h n) with ovf := (s.pot h n).ovf || (s.spilled h n buf sid).2 },
        some (s.spilled h n buf sid).2) := by
  unfold spillRegion at hgood
  unfold State.spillPot
  simp only [State.potEcc_of_clean hecc, hgood]
  rfl

/-- A SPILL's Pot has gone FREE with its overflow, no other Pot of the Basket changes, and memory is as the spill leaves it. -/
theorem State.runSpill_spec (hecc : (s.pot h n).ecc = [])
    (hgood : s.regionBad (s.str r.sid) (spillRegion (s.pot h n) buf) = none) :
    let q := s.pot h n
    let e := s.spillInto ((s.str r.sid).win buf) q
    (s.runSpill h n r buf).pot h n = { freedPot q with ovf := q.ovf || e.2 } ∧
    (∀ k, k ≠ n → (s.runSpill h n r buf).pot h k = s.pot h k) ∧ (s.runSpill h n r buf).mem = e.1.mem := by
  intro q e
  obtain ⟨hspilled, hmem, hovf⟩ := s.spilled_spec h n buf r.sid
  have hend : Fr [.baskets, .evq] (s.spillPot h n buf r.sid r.idx).1 (s.runSpill h n r buf) := by
    unfold State.runSpill
    simp only [State.spillPot_of_good r.idx hecc hgood]
    exact fr_potDone (fr_dite (fr_potOvf (fr_refl _ _) (by simp [Within]) _ _) (fr_refl _ _)) (by simp [Within]) _ _ _
  rw [State.spillPot_of_good r.idx hecc hgood] at hend
  refine ⟨?freed, fun k hk => ?others, (hend .mem (by decide)).trans hmem⟩
  case freed => rw [hend.pot_eq (by decide), State.setPot_pot, if_pos rfl, hovf]
  case others => rw [hend.pot_eq (by decide), State.setPot_pot, if_neg hk, hspilled.pot_eq (by decide)]

end

/-! ## PCLOSE to BF16 in local memory -/

/-- The values that an unbound Pot's close writes without an operand, column by column (04, R129). -/
def Pot.values (q : Pot) : List (List W32) :=
  (List.range q.cp).map (fun j => (List.range q.rp).map (fun i => cp64Val (q.elem i j)))

/-- Their BF16 codes through the output scale, and which saturated (03, R101). -/
def CloseDesc.narrowed (d : CloseDesc) (q : Pot) : List (List (Nat × Bool)) :=
  q.values.map (fun c => c.map (narrow true (outRecip d.oscale)))

/-- The saturations of a close to BF16. -/
def CloseDesc.clips (d : CloseDesc) (q : Pot) : Nat := countIf (·.2) (d.narrowed q)

/-- The columns of a close to BF16 are written. -/
def State.closeRows (s : State) (d : CloseDesc) (q : Pot) : State :=
  s.wrRows (d.at d.out) d.opitch ((d.narrowed q).map (fun c => c.flatMap (fun e => leBytes 2 e.1)))

/-- The flags of the close record that do not come from the Pot's SRAM (04, Table 04-6). -/
def CloseDesc.closeFlags (d : CloseDesc) (q : Pot) : Nat :=
  4 * b2n q.convSat + 2 * b2n q.ovf + b2n (q.outSat || decide (0 < d.clips q))

/-- A Pot whose columns a close to BF16 has written. -/
def Pot.closingAs (q : Pot) (uid : Nat) (d : CloseDesc) : Pot :=
  { q with st := .closing, failed := 0, close := some d, closeUid := uid
           closeRec := some (d.closeFlags q, d.clips q, countIf (fun x => !f32fin x) q.values) }

/-- A close to BF16 has written its columns and told their saturations. -/
def State.bf16Written (s : State) (h n : Nat) (r : StepRec) (d : CloseDesc) : State :=
  (s.closeRows d (s.pot h n)).whiskEvents h r.sid r.idx [] [] (decide (0 < d.clips (s.pot h n)))

/-- The state before the close record of a close to BF16 is written. -/
def State.bf16Closing (s : State) (h n : Nat) (r : StepRec) (d : CloseDesc) : State :=
  ((s.bf16Written h n r d).modRec h r.uid (fun r => { r with outSat := decide (0 < d.clips (s.pot h n)) })).setPot h n
    ((s.pot h n).closingAs r.uid d)

/-- Nothing read, nothing found. -/
@[simp] theorem State.scrubRegions_nil (s : State) (t : Stream) : s.scrubRegions t [] = s := by
  unfold State.scrubRegions
  simp

/-- What rows leave in memory depends on memory alone. -/
theorem State.wrRows_mem_congr {s u : State} (hmem : u.mem = s.mem) (a pitch : Nat) (rows : List (List Byte)) :
    (u.wrRows a pitch rows).mem = (s.wrRows a pitch rows).mem := by
  unfold State.wrRows
  induction rows generalizing s u a with
  | nil => exact hmem
  | cons row rows ih =>
    rw [List.foldl_cons, List.foldl_cons]
    exact ih (by rw [State.wr_mem, State.wr_mem, hmem]) _

section
variable {s : State} {h n : Nat} {r : StepRec} {d : CloseDesc}

/-- An element of an unbound Pot closes without an operand as its own value. -/
theorem State.closeElem_of_plain {p : Pot} (hl : List (W64 × W64)) (i j : Nat) (hbound : p.bound = none) (hflags : d.flags = 0) :
    s.closeElem d p hl i j = (cp64Val (p.elem i j), p.elem i j) := by
  simp [State.closeElem, hbound, hflags]

/-- An unbound Pot closes to BF16 in local memory, without operand or statistics, at once. -/
theorem State.runPclose_bf16 (hecc : (s.pot h n).ecc = []) (hbound : (s.pot h n).bound = none) (hmode : d.omode = 0)
    (hfmt : d.ofmt = 3) (hflags : d.flags = 0) (hspace : d.outSp = 0) :
    s.runPclose h n r d = (s.bf16Closing h n r d).endClose h n := by
  have hins : closeIns d (s.pot h n) = [] := by simp [closeIns, hflags, hfmt, hbound, bit]
  have hbit (k : Nat) : bit 0 k = false := by simp [bit]
  have hfp8 : ¬ (3 ≤ 1) := by decide
  have hnone (k : Nat) : 8 * b2n false + 32 * b2n false + k = k := by simp [b2n]
  unfold State.runPclose
  simp only [State.potEcc_of_clean hecc, hins, State.scrubRegions_nil, List.findSome?_nil, hbound, hmode, hfmt, hflags, hspace, hbit, hfp8,
    if_true, if_false, Bool.false_eq_true, State.closeElem_of_plain, Bool.or_false, Option.isSome_none, decide_true,
    State.bf16Closing, State.bf16Written, State.closeRows, CloseDesc.narrowed, CloseDesc.clips, CloseDesc.closeFlags, Pot.closingAs, Pot.values,
    hnone, List.map_map, Function.comp_def]
  rfl

/-- A close whose parts have all been written frees its Pot and writes its record. -/
theorem State.endClose_of_written {fl sat nonfin : Nat} (hclose : (s.pot h n).close = some d)
    (hrec : (s.bsk h).rec? (s.pot h n).closeUid = some r) (hcrec : (s.pot h n).closeRec = some (fl, sat, nonfin))
    (hfailed : (s.pot h n).failed = 0) :
    let t := s.endClose h n
    ((t.pot h n).st = .free ∧ (t.pot h n).elems = [] ∧ (t.pot h n).waits = (s.pot h n).waits) ∧
    (∀ k, k ≠ n → t.pot h k = s.pot h k) ∧
    t.mem = (s.wr (d.at d.crec) (closeRecord s.time n r d (fl + 64 * b2n (s.pot h n).eccCe) sat nonfin 0)).mem := by
  intro t
  have hwr (a : Nat) (bs : List Byte) : Fr [.mem, .memBad, .memCorr, .memCe, .memUe] s (s.wr a bs) :=
    fr_wr (fr_refl _ s) (by simp [Within]) a bs
  simp only [t, State.endClose, hclose, hrec, hcrec, hfailed, if_true, State.modRec_pot, State.modRec_mem, State.setPot_pot,
    State.setPot_keeps]
  refine ⟨?_, fun k hk => ?_, trivial⟩
  · split_ifs <;> exact ⟨rfl, rfl, rfl⟩
  · rw [if_neg hk, (hwr _ _).pot_eq (by decide)]

/-- Only the counters and the events follow a close's saturations; its record stays in flight. -/
theorem State.whiskEvents_inflight (s : State) (h sid idx k : Nat) (o : Bool) :
    ((s.whiskEvents h sid idx [] [] o).bsk k).inflight = (s.bsk k).inflight := by
  unfold State.whiskEvents
  cases o
  · rfl
  · by_cases hk : k = h <;> simp [hk]

/-- The columns are in memory and their saturations told; the Pot and the step's record are as they were. -/
theorem State.bf16Written_spec (s : State) (h n : Nat) (r : StepRec) (d : CloseDesc) :
    (∀ k, (s.bf16Written h n r d).pot h k = s.pot h k) ∧ (s.bf16Written h n r d).mem = (s.closeRows d (s.pot h n)).mem ∧
    (s.bf16Written h n r d).time = s.time ∧ ((s.bf16Written h n r d).bsk h).inflight = (s.bsk h).inflight := by
  have hrows : Fr [.mem, .memBad, .memCorr, .memCe, .memUe] s (s.closeRows d (s.pot h n)) :=
    fr_wrRows (fr_refl _ s) (by simp [Within]) _ _ _
  have hevents : Fr [.baskets, .evq] (s.closeRows d (s.pot h n)) (s.bf16Written h n r d) :=
    fr_whiskEvents (fr_refl _ _) (by simp [Within]) _ _ _ _ _ _
  refine ⟨fun k => ?_, hevents .mem (by decide), ?_, ?_⟩
  · rw [hevents.pot_eq (by decide), hrows.pot_eq (by decide)]
  · exact (hevents .time (by decide)).trans (hrows .time (by decide))
  · rw [State.bf16Written, State.whiskEvents_inflight, hrows.bsk_eq (by decide)]

/-- Before its close record is written the Pot is CLOSING, its columns stand in memory, and its step is still in flight. -/
theorem State.bf16Closing_spec (hrec : (s.bsk h).rec? r.uid = some r) :
    let q := s.pot h n
    let u := s.bf16Closing h n r d
    u.pot h n = q.closingAs r.uid d ∧ (∀ k, k ≠ n → u.pot h k = s.pot h k) ∧ u.mem = (s.closeRows d q).mem ∧ u.time = s.time ∧
    ∃ o, (u.bsk h).rec? r.uid = some { r with outSat := o } := by
  obtain ⟨hpots, hmem, htime, hflight⟩ := s.bf16Written_spec h n r d
  have hrec' : ((s.bf16Written h n r d).bsk h).rec? r.uid = some r := by rw [Basket.rec?, hflight]; exact hrec
  unfold State.bf16Closing
  generalize s.bf16Written h n r d = v at hpots hmem htime hrec' ⊢
  simp only [State.setPot_pot, State.modRec_pot, State.setPot_keeps, State.modRec_mem, State.modRec_time, if_true]
  refine ⟨trivial, fun k hk => (if_neg hk).trans (hpots k), hmem, htime, ?_⟩
  rcases State.rec?_modRec (f := fun r => { r with outSat := decide (0 < d.clips (s.pot h n)) }) (fun _ => rfl) hrec' with hsame | hset
  · exact ⟨r.outSat, hsame⟩
  · exact ⟨_, hset⟩

/-- An unbound Pot that closes to BF16 in local memory goes FREE; its columns and its close record are written. -/
theorem State.runPclose_bf16_spec (hecc : (s.pot h n).ecc = []) (hbound : (s.pot h n).bound = none) (hmode : d.omode = 0)
    (hfmt : d.ofmt = 3) (hflags : d.flags = 0) (hspace : d.outSp = 0) (hrec : (s.bsk h).rec? r.uid = some r) :
    let q := s.pot h n
    let t := s.runPclose h n r d
    ((t.pot h n).st = .free ∧ (t.pot h n).elems = [] ∧ (t.pot h n).waits = q.waits) ∧
    (∀ k, k ≠ n → t.pot h k = s.pot h k) ∧
    t.mem = ((s.closeRows d q).wr (d.at d.crec) (closeRecord s.time n r d (d.closeFlags q + 64 * b2n q.eccCe) (d.clips q)
      (countIf (fun x => !f32fin x) q.values) 0)).mem := by
  intro q t
  obtain ⟨hpot, hothers, hmem, htime, o, hflight⟩ := State.bf16Closing_spec (n := n) (d := d) hrec
  obtain ⟨⟨hst, helems, hwaits⟩, hrest, hwritten⟩ := State.endClose_of_written (s := s.bf16Closing h n r d) (h := h) (n := n)
    (by rw [hpot]; rfl) (by rw [hpot]; exact hflight) (by rw [hpot]; rfl) (by rw [hpot]; rfl)
  simp only [t, State.runPclose_bf16 hecc hbound hmode hfmt hflags hspace]
  refine ⟨⟨hst, helems, hwaits.trans (by rw [hpot]; rfl)⟩, fun k hk => (hrest k hk).trans (hothers k hk), hwritten.trans ?_⟩
  rw [State.wr_mem, State.wr_mem, hmem, htime, hpot]
  rfl

end

/-! ## The first of a Pot's waits -/

/-- An operation starts on its Pot. -/
def State.startWait (s : State) (h n : Nat) (r : StepRec) : PotWait → State
  | .popen _ rp cp => s.runPopen h n r rp cp
  | .spill _ buf => s.runSpill h n r buf
  | .pclose _ d => s.runPclose h n r d

/-- A POPEN's Pot is OPEN, no other Pot of the Basket changes, and no byte. -/
theorem State.runPopen_spec (s : State) (h n : Nat) (r : StepRec) (rp cp : Nat) :
    (s.runPopen h n r rp cp).pot h n = openedPot (s.pot h n) r.sid rp cp none ∧
    (∀ k, k ≠ n → (s.runPopen h n r rp cp).pot h k = s.pot h k) ∧ (s.runPopen h n r rp cp).mem = s.mem := by
  unfold State.runPopen State.potDone
  simp only [State.modRec_pot, State.modRec_mem, State.setPot_pot, State.setPot_keeps, if_true, true_and, and_true]
  exact fun k hk => if_neg hk

section
variable {s : State} {h n : Nat} {w : PotWait} {rest : List PotWait} {r : StepRec}

/-- A wait that may not start yet stands. -/
theorem State.runWait_of_not_ready (hwaits : (s.pot h n).waits = w :: rest) (hrec : (s.bsk h).rec? w.uid = some r)
    (hready : s.waitReady h n w = false) : s.runWait h n = s := by
  unfold State.runWait
  simp [hwaits, hrec, hready]

/-- A wait that may start leaves the queue and starts. -/
theorem State.runWait_of_ready (hwaits : (s.pot h n).waits = w :: rest) (hrec : (s.bsk h).rec? w.uid = some r)
    (hready : s.waitReady h n w = true) :
    s.runWait h n = (s.setPot h n { s.pot h n with waits := rest }).startWait h n r w := by
  unfold State.runWait
  simp only [hwaits, hrec, hready, if_true]
  cases w <;> rfl

theorem exec_potWaitEnd {t : State} (hh : h < 16) (hn : n < 64) (ht : s.runWait h n = t) :
    exec (.potWaitEnd h n) s = .next t := by
  subst ht
  exact if_pos (by simp [hh, hn])

end

/-- Settles O27: the first wait stands or leaves the queue, and then its operation's own lemma says what it does. -/
theorem potWaitsEndAndPanCountersClear : Obligations.PotWaitsEndAndPanCountersClear := by
  unfold Obligations.PotWaitsEndAndPanCountersClear
  refine ⟨?waits, fun s p hp => if_pos (decide_eq_true hp)⟩
  intro s h n w rest r q v hh hn hwaits hrec
  have start (hready : s.waitReady h n w = true) := exec_potWaitEnd hh hn (State.runWait_of_ready hwaits hrec hready)
  have hq : (s.setPot h n { q with waits := rest }).pot h n = { q with waits := rest } := by simp
  have hother (k : Nat) (hk : k ≠ n) : (s.setPot h n { q with waits := rest }).pot h k = s.pot h k := by simp [hk]
  refine ⟨fun hready => exec_potWaitEnd hh hn (State.runWait_of_not_ready hwaits hrec hready), ?popen, ?spill, ?pclose⟩
  case popen =>
    rintro i rp cp hready rfl
    obtain ⟨hpot, hrest, hmem⟩ := (s.setPot h n { q with waits := rest }).runPopen_spec h n r rp cp
    rw [hq] at hpot
    exact ⟨_, start hready, hpot, fun k hk => (hrest k hk).trans (hother k hk), hmem⟩
  case spill =>
    rintro i a hready rfl hecc hgood
    obtain ⟨hpot, hrest, hmem⟩ := State.runSpill_spec (s := s.setPot h n { q with waits := rest }) (h := h) (n := n) (r := r)
      (buf := a) (by rw [hq]; exact hecc) (by rw [hq]; exact hgood)
    obtain ⟨hsum, hovf⟩ := State.spillInto_congr (s := s) (u := s.setPot h n { q with waits := rest }) rfl (v.win a)
      (p := q) (q := { q with waits := rest }) rfl rfl rfl
    rw [hq] at hpot hmem
    exact ⟨_, start hready, hpot.trans (by rw [← hovf]; rfl), fun k hk => (hrest k hk).trans (hother k hk), hmem.trans hsum⟩
  case pclose =>
    rintro i d hready rfl rfl hecc hbound hmode hfmt hflags hspace e o sat fl
    obtain ⟨⟨hst, helems, hleft⟩, hrest, hmem⟩ := State.runPclose_bf16_spec (s := s.setPot h n { q with waits := rest }) (h := h)
      (n := n) (r := r) (by rw [hq]; exact hecc) (by rw [hq]; exact hbound) hmode hfmt hflags hspace hrec
    rw [hq] at hleft hmem
    have hrows : ((s.setPot h n { q with waits := rest }).closeRows d { q with waits := rest }).mem = (s.closeRows d q).mem :=
      State.wrRows_mem_congr (s := s) (u := s.setPot h n { q with waits := rest }) rfl _ _ _
    have hfl : d.closeFlags q + 64 * b2n q.eccCe = fl := by
      show 4 * b2n q.convSat + 2 * b2n q.ovf + b2n (q.outSat || decide (0 < sat)) + 64 * b2n q.eccCe = _
      omega
    refine ⟨_, start hready, hst, helems, hleft, fun k hk => (hrest k hk).trans (hother k hk), hmem.trans ?_⟩
    rw [State.wr_mem, State.wr_mem, hrows, ← hfl]
    rfl

end Sys2Proof.Machine
end

section
/-! PROOFS. POPEN (04, R122 to R125; 06, R205): its step goes in flight, its Pots are judged open, and each opens or waits. -/

namespace Sys2Proof.Machine

/-! ## A step that goes in flight -/

/-- One frame after another. -/
theorem Fr.trans {W : List Field} {s t u : State} (hst : Fr W s t) (htu : Fr W t u) : Fr W s u := fr_upd hst htu

/-- Reading the word and the block of the head step changes the SECDED findings and what its stream has to flush. -/
theorem headRead_spec (s : State) (sid : Nat) (h : Hdr) :
    Fr [.memCorr, .memCe, .memUe, .streams] s (headRead s sid h) ∧
    ∃ w, ∀ j, (headRead s sid h).str j = if j = sid then { s.str sid with hostW := w } else s.str j := by
  have hscrub (u : State) (a n : Nat) : Fr [.memCorr, .memCe, .memUe] u (u.scrub a n) := fr_scrub (fr_refl _ u) (by simp [Within]) a n
  have hflushed : Fr [.memCorr, .memCe, .memUe, .streams] s (flushed s sid h) ∧
      ∃ w, ∀ j, (flushed s sid h).str j = if j = sid then { s.str sid with hostW := w } else s.str j := by
    have hstr (j : Nat) := (hscrub s (s.str sid).stepAddr 16).str_eq (by decide) j
    unfold flushed
    dsimp only
    split_ifs
    · refine ⟨fr_setStr ((hscrub _ _ _).mono (by simp [Within])) (by simp [Within]) _ _, none, fun j => ?_⟩
      rw [State.setStr_str, hstr, hstr]
    · refine ⟨(hscrub _ _ _).mono (by simp [Within]), (s.str sid).hostW, fun j => ?_⟩
      rw [hstr]
      split_ifs with hj
      · rw [hj]
      · rfl
  obtain ⟨hfr, w, hstr⟩ := hflushed
  unfold headRead
  dsimp only
  split_ifs
  · exact ⟨hfr, w, hstr⟩
  · refine ⟨fr_scrub hfr (by simp [Within]) _ _, w, fun j => ?_⟩
    rw [(hscrub _ _ _).str_eq (by decide), hstr]

/-- A token taken depends on the tokens alone. -/
theorem takeTok_congr {s u : State} (htok : u.tokens = s.tokens) (hglob : u.globals = s.globals) (b c : Nat) :
    (u.takeTok b c).tokens = (s.takeTok b c).tokens ∧ (u.takeTok b c).globals = (s.takeTok b c).globals := by
  unfold State.takeTok State.setTok State.tok
  split_ifs <;> simp [htok, hglob]

/-- The head step as it issues: its stream waits no more, its Basket counts it and its token is taken. -/
theorem issued_spec (s : State) (sid : Nat) (h : Hdr) :
    let b := (s.str sid).bsk
    (∃ w, ∀ j, (issued s sid h).str j = if j = sid then { s.str sid with hostW := w, waitSince := none } else s.str j) ∧
    (∀ k, (issued s sid h).bsk k = if k = b then { s.bsk b with issueCnt := sat32 ((s.bsk b).issueCnt + 1) } else s.bsk k) ∧
    (issued s sid h).tokens = (s.takeTok b h.wait).tokens ∧ (issued s sid h).globals = (s.takeTok b h.wait).globals ∧
    Fr [.memCorr, .memCe, .memUe, .streams, .baskets, .tokens, .globals] s (issued s sid h) := by
  intro b
  obtain ⟨hfr, w, hstr⟩ := headRead_spec s sid h
  have hat := issued_at s sid h
  have hissue : Fr [.memCorr, .memCe, .memUe, .streams, .baskets, .tokens, .globals] (headRead s sid h)
      (issued s sid h) := by
    unfold issued issueOf
    exact fr_setBsk (fr_setStr (fr_takeTok (fr_refl _ _) (by simp [Within]) _ _) (by simp [Within]) _ _) (by simp [Within]) _ _
  generalize issued s sid h = v at *
  generalize headRead s sid h = g at *
  obtain ⟨hatStr, hatBsk, hrest⟩ := hat
  obtain ⟨htok, hglob⟩ := takeTok_congr (hfr .tokens (by decide)) (hfr .globals (by decide)) b h.wait
  have hbsk (k : Nat) := hfr.bsk_eq (by decide) k
  have hsid : g.str sid = { s.str sid with hostW := w } := (hstr sid).trans (if_pos rfl)
  rw [hsid] at hatStr hatBsk hrest
  refine ⟨⟨w, fun j => ?_⟩, fun k => ?_, ?_, ?_, (hfr.mono (by simp [Within])).trans hissue⟩
  · rw [hatStr, hstr]
    split_ifs <;> rfl
  · rw [hatBsk, hbsk, hbsk]
  · rw [← htok, hrest]
  · rw [← hglob, hrest]

/-- The record of the head step is the same once its word and block are read and its token is taken. -/
theorem recAt_issued (s : State) (sid : Nat) (h : Hdr) : recAt (issued s sid h) sid h = recAt s sid h := by
  obtain ⟨⟨w, hstr⟩, _, _, _, hfr⟩ := issued_spec s sid h
  unfold recAt
  rw [hstr, if_pos rfl, show (issued s sid h).nextUid = s.nextUid from hfr .nextUid (by decide),
    show (issued s sid h).time = s.time from hfr .time (by decide), show (issued s sid h).dzf = s.dzf from hfr .dzf (by decide)]

/-- A step that goes in flight: its stream goes on, and its record stands last. -/
theorem State.launch_spec (u : State) (sid : Nat) (r : StepRec) :
    (∀ j, (u.launch sid r).str j = if j = sid then { u.str sid with ptr := (u.str sid).ptr + 1 } else u.str j) ∧
    (u.launch sid r).bsk r.h = { u.bsk r.h with inflight := (u.bsk r.h).inflight ++ [r] } ∧
    (u.launch sid r).nextUid = u.nextUid + 1 ∧ Fr [.streams, .baskets, .nextUid] u (u.launch sid r) := by
  refine ⟨fun j => ?_, ?_, rfl, fr_launch (fr_refl _ u) (by simp [Within]) _ _⟩ <;> unfold State.launch State.goTo
  · rw [enter_str, State.setStr_str]
  · simp only [enter_bsk, State.setStr_keeps, if_true]

/-- The head step issues and goes in flight with the record r. -/
theorem launch_issued (s : State) (sid : Nat) (h : Hdr) {r : StepRec} (hr : r.h = (s.str sid).bsk) :
    StepGoes s ((issued s sid h).launch sid r) sid h ∧
    (((issued s sid h).launch sid r).bsk r.h).inflight = (s.bsk r.h).inflight ++ [r] ∧
    Fr [.memCorr, .memCe, .memUe, .streams, .baskets, .tokens, .globals, .nextUid] s ((issued s sid h).launch sid r) := by
  obtain ⟨⟨w, hstr⟩, hbsk, htok, hglob, hfr⟩ := issued_spec s sid h
  have huid : (issued s sid h).nextUid = s.nextUid := hfr .nextUid (by decide)
  have hspec := (issued s sid h).launch_spec sid r
  generalize (issued s sid h).launch sid r = u at hspec ⊢
  generalize issued s sid h = v at *
  obtain ⟨hustr, hubsk, huUid, hlaunch⟩ := hspec
  rw [hstr, if_pos rfl] at hustr
  rw [hbsk, if_pos hr] at hubsk
  refine ⟨⟨?ptr, ?wait, fun j hj => ?others, ?count, huUid.trans (by rw [huid]), (hlaunch .tokens (by decide)).trans htok,
    (hlaunch .globals (by decide)).trans hglob⟩, ?flight, (hfr.mono (by simp [Within])).trans (hlaunch.mono (by simp [Within]))⟩
  case ptr => rw [hustr, if_pos rfl]
  case wait => rw [hustr, if_pos rfl]
  case others => rw [hustr, if_neg hj, hstr, if_neg hj]
  case count => rw [← hr, hubsk, hr]
  case flight => rw [hubsk, hr]

/-- A step goes on too where what follows leaves streams, tokens and the count of its Basket alone. -/
theorem StepGoes.of_fr {s u t : State} {sid : Nat} {h : Hdr} {W : List Field} (hgo : StepGoes s u sid h) (hfr : Fr W u t)
    (hcount : (t.bsk (s.str sid).bsk).issueCnt = (u.bsk (s.str sid).bsk).issueCnt)
    (hW : ∀ f, f ∈ [Field.streams, .tokens, .globals, .nextUid] → f ∉ W) : StepGoes s t sid h := by
  have hstr (j : Nat) := hfr.str_eq (hW .streams (by simp)) j
  obtain ⟨hptr, hwait, hothers, hissue, huid, htok, hglob⟩ := hgo
  refine ⟨by rw [hstr, hptr], by rw [hstr, hwait], fun j hj => by rw [hstr, hothers j hj], hcount.trans hissue,
    (hfr .nextUid (hW _ (by simp))).trans huid, (hfr .tokens (hW _ (by simp))).trans htok,
    (hfr .globals (hW _ (by simp))).trans hglob⟩

/-! ## Records that are marked -/

/-- What holds of every element alike before and after its change holds of all after `lmod` as before. -/
theorem all_lmod {α : Type} {p q : α → Bool} {f : α → α} (hf : ∀ x, p x = true → q (f x) = q x) (l : List α) :
    (lmod p f l).all q = l.all q := by
  induction l with
  | nil => rfl
  | cons x l ih =>
    unfold lmod
    by_cases hx : p x = true
    · simp [hx, hf x hx]
    · simp [hx, ih]

theorem State.modRec_bsk (s : State) (h uid k : Nat) (f : StepRec → StepRec) :
    (s.modRec h uid f).bsk k =
      if k = h then { s.bsk h with inflight := lmod (fun x => x.uid = uid) f (s.bsk h).inflight } else s.bsk k :=
  State.setBsk_bsk _ _ _ _

/-- Marking a record of step uid leaves the producers issued before it. -/
theorem State.potClear_modRec (s : State) (h n uid : Nat) {f : StepRec → StepRec} (hf : ∀ x, (f x).uid = x.uid) :
    (s.modRec h uid f).potClear h n uid = s.potClear h n uid := by
  unfold State.potClear
  rw [State.modRec_bsk, if_pos rfl]
  refine all_lmod (fun x hx => ?_) _
  have hx : x.uid = uid := by simpa using hx
  simp [hf, hx]

/-! ## Judging Pots -/

/-- What POPEN makes of a Pot at issue (04, R123, R125). -/
def Pot.judgedOpen (sid rp cp : Nat) (q : Pot) : Pot :=
  { q with pred := .opened, predOwner := sid, predRp := rp, predCp := cp, predBound := none, bands := [], depth := 0 }

/-- Each Pot of a list without repetition changes once, and no other. -/
theorem State.foldl_setPot_pot (f : Pot → Pot) (s : State) (h : Nat) {ns : List Nat} (hnd : ns.Nodup) (m : Nat) :
    (ns.foldl (fun s n => s.setPot h n (f (s.pot h n))) s).pot h m = if m ∈ ns then f (s.pot h m) else s.pot h m := by
  induction ns generalizing s with
  | nil => rfl
  | cons n ns ih =>
    obtain ⟨hn, hnd⟩ := List.nodup_cons.mp hnd
    rw [List.foldl_cons, ih _ hnd, State.setPot_pot]
    by_cases hm : m = n
    · subst hm
      simp [hn]
    · simp [hm]

/-! ## Opening Pots -/

/-- The Pot as a POPEN leaves it: OPEN where nothing stands before it, else with the POPEN waiting. -/
def Pot.afterPopen (clear : Bool) (uid sid rp cp : Nat) (q : Pot) : Pot :=
  if q.waits = [] ∧ clear = true ∧ q.st ≠ .closing then openedPot q sid rp cp none
  else { q with waits := q.waits ++ [.popen uid rp cp] }

/-- Behind an operation a POPEN waits. -/
theorem Pot.afterPopen_of_waits {q : Pot} (clear : Bool) (uid sid rp cp : Nat) (hwaits : q.waits ≠ []) :
    q.afterPopen clear uid sid rp cp = { q with waits := q.waits ++ [.popen uid rp cp] } :=
  if_neg fun hopens => hwaits hopens.1

/-- With no operation before it a POPEN opens its Pot where the producers have landed. -/
theorem Pot.afterPopen_of_first {q : Pot} (clear : Bool) (uid sid rp cp : Nat) (hwaits : q.waits = []) :
    q.afterPopen clear uid sid rp cp = if clear = true ∧ q.st ≠ .closing then openedPot { q with waits := [] } sid rp cp none
      else { q with waits := [.popen uid rp cp] } := by
  obtain ⟨⟩ := q
  subst hwaits
  simp [Pot.afterPopen]

/-- What the opening of Pots keeps of the state in which step uid of stream sid went in flight: all but Pots and records,
its Basket's count, the step's record, and which producers have landed. -/
structure PopenKeeps (u v : State) (b uid sid : Nat) : Prop where
  frame : Fr [.baskets, .pots] u v
  count : (v.bsk b).issueCnt = (u.bsk b).issueCnt
  flies : ∃ r, (v.bsk b).rec? uid = some r ∧ r.sid = sid
  clear : ∀ n, v.potClear b n uid = u.potClear b n uid

section
variable {u v : State} {b uid sid : Nat}

theorem PopenKeeps.setPot (hk : PopenKeeps u v b uid sid) (n : Nat) (q : Pot) : PopenKeeps u (v.setPot b n q) b uid sid where
  frame := fr_setPot hk.frame (by simp [Within]) _ _ _
  count := hk.count
  flies := hk.flies
  clear := hk.clear

theorem PopenKeeps.modRec (hk : PopenKeeps u v b uid sid) {f : StepRec → StepRec}
    (hf : ∀ x, (f x).uid = x.uid ∧ (f x).sid = x.sid) : PopenKeeps u (v.modRec b uid f) b uid sid where
  frame := fr_modRec hk.frame (by simp [Within]) _ _ _
  count := by rw [State.modRec_bsk, if_pos rfl]; exact hk.count
  flies := by
    obtain ⟨r, hr, hsid⟩ := hk.flies
    rcases State.rec?_modRec (fun x => (hf x).1) hr with hsame | hchanged
    · exact ⟨r, hsame, hsid⟩
    · exact ⟨f r, hchanged, (hf r).2.trans hsid⟩
  clear n := (v.potClear_modRec b n uid fun x => (hf x).1).trans (hk.clear n)

theorem PopenKeeps.setPots (hk : PopenKeeps u v b uid sid) (f : Pot → Pot) (ns : List Nat) :
    PopenKeeps u (ns.foldl (fun s n => s.setPot b n (f (s.pot b n))) v) b uid sid := by
  induction ns generalizing v with
  | nil => exact hk
  | cons n ns ih => exact ih (hk.setPot n _)

/-- A POPEN that stands first on its Pot opens it where the producers have landed. -/
theorem PopenKeeps.runWait (hk : PopenKeeps u v b uid sid) {n rp cp : Nat} (hwaits : (v.pot b n).waits = [.popen uid rp cp]) :
    PopenKeeps u (v.runWait b n) b uid sid ∧ (∀ m, m ≠ n → (v.runWait b n).pot b m = v.pot b m) ∧
    (v.runWait b n).pot b n = if u.potClear b n uid = true ∧ (v.pot b n).st ≠ .closing then
      openedPot { v.pot b n with waits := [] } sid rp cp none else v.pot b n := by
  obtain ⟨r, hr, hsid⟩ := hk.flies
  have hready : v.waitReady b n (.popen uid rp cp) = decide (u.potClear b n uid = true ∧ (v.pot b n).st ≠ .closing) := by
    rw [← hk.clear, Bool.eq_iff_iff]
    simp [State.waitReady, PotWait.uid]
  by_cases hgo : u.potClear b n uid = true ∧ (v.pot b n).st ≠ .closing
  · rw [if_pos hgo, State.runWait_of_ready hwaits hr (hready.trans (decide_eq_true hgo))]
    obtain ⟨hpot, hothers, _⟩ := (v.setPot b n { v.pot b n with waits := [] }).runPopen_spec b n r rp cp
    have huid : r.uid = uid := by simpa using List.find?_some hr
    refine ⟨?_, fun m hm => (hothers m hm).trans (by simp [hm]), hpot.trans (by simp [hsid])⟩
    unfold State.startWait State.runPopen State.potDone
    rw [huid]
    exact ((hk.setPot n _).setPot n _).modRec fun _ => ⟨rfl, rfl⟩
  · rw [if_neg hgo, State.runWait_of_not_ready hwaits hr (hready.trans (decide_eq_false hgo))]
    exact ⟨hk, fun _ _ => rfl, rfl⟩

/-- One Pot of a POPEN opens or waits. -/
theorem PopenKeeps.addWait (hk : PopenKeeps u v b uid sid) (n rp cp : Nat) :
    PopenKeeps u (v.addWait b n (.popen uid rp cp)) b uid sid ∧
    ∀ m, (v.addWait b n (.popen uid rp cp)).pot b m =
      if m = n then (v.pot b m).afterPopen (u.potClear b m uid) uid sid rp cp else v.pot b m := by
  have hput := hk.setPot n { v.pot b n with waits := (v.pot b n).waits ++ [.popen uid rp cp] }
  have hpot (m : Nat) := v.setPot_pot b n m { v.pot b n with waits := (v.pot b n).waits ++ [.popen uid rp cp] }
  unfold State.addWait
  by_cases hwaits : (v.pot b n).waits = []
  · simp only [hwaits, List.nil_append, List.isEmpty_nil, if_true] at hput hpot ⊢
    obtain ⟨hkeeps, hothers, hopen⟩ := hput.runWait (rp := rp) (cp := cp) (n := n) (by rw [hpot, if_pos rfl])
    refine ⟨hkeeps, fun m => ?_⟩
    split_ifs with hm
    · rw [hm, hopen, Pot.afterPopen_of_first _ _ _ _ _ hwaits, hpot, if_pos rfl]
    · rw [hothers m hm, hpot, if_neg hm]
  · simp only [List.isEmpty_iff, hwaits, if_false]
    refine ⟨hput, fun m => (hpot m).trans ?_⟩
    split_ifs with hm
    · rw [hm, Pot.afterPopen_of_waits _ _ _ _ _ hwaits]
    · rfl

/-- The Pots of a POPEN open or wait, each once. -/
theorem PopenKeeps.addWaits (hk : PopenKeeps u v b uid sid) (rp cp : Nat) {ns : List Nat} (hnd : ns.Nodup) :
    PopenKeeps u (ns.foldl (fun s n => s.addWait b n (.popen uid rp cp)) v) b uid sid ∧
    ∀ m, (ns.foldl (fun s n => s.addWait b n (.popen uid rp cp)) v).pot b m =
      if m ∈ ns then (v.pot b m).afterPopen (u.potClear b m uid) uid sid rp cp else v.pot b m := by
  induction ns generalizing v with
  | nil => exact ⟨hk, fun m => rfl⟩
  | cons n ns ih =>
    obtain ⟨hn, hnd⟩ := List.nodup_cons.mp hnd
    obtain ⟨hk', hpot⟩ := hk.addWait n rp cp
    obtain ⟨hend, hpots⟩ := ih hk' hnd
    refine ⟨hend, fun m => ?_⟩
    rw [List.foldl_cons, hpots, hpot]
    by_cases hm : m = n
    · subst hm
      simp [hn]
    · simp [hm]

end

/-- Steps issued before the last one in flight are those issued before it went in flight. -/
theorem State.potClear_of_last {s u : State} {b : Nat} {r : StepRec} (hflight : (u.bsk b).inflight = (s.bsk b).inflight ++ [r])
    (n : Nat) : u.potClear b n r.uid = s.potClear b n r.uid := by
  unfold State.potClear
  simp [hflight]

/-! ## The step -/

/-- The Pots that a POPEN names. -/
def popenPots (h : Hdr) : List Nat := (List.range (bits h.ops 14 8)).map (· + bits h.ops 5 0)

theorem mem_popenPots {h : Hdr} {n : Nat} :
    n ∈ popenPots h ↔ bits h.ops 5 0 ≤ n ∧ n < bits h.ops 5 0 + bits h.ops 14 8 := by
  unfold popenPots
  simp only [List.mem_map, List.mem_range]
  constructor
  · rintro ⟨k, hk, rfl⟩
    omega
  · intro hn
    exact ⟨n - bits h.ops 5 0, by omega, by omega⟩

theorem popenPots_nodup (h : Hdr) : (popenPots h).Nodup :=
  List.nodup_range.map fun _ _ hab => Nat.add_right_cancel hab

/-- The last step in flight is the record of its issue number. -/
theorem rec?_of_last {v : Basket} {l : List StepRec} {r : StepRec} (hv : v.inflight = l ++ [r]) : v.rec? r.uid = some r := by
  unfold Basket.rec?
  simp [hv]

/-- POPEN goes in flight, judges its Pots, and then each opens or waits. -/
theorem effPopen_eq (u : State) (sid : Nat) (h : Hdr) {r : StepRec}
    (hr : r = { recAt u sid h with units := bits h.ops 14 8, detail := bits h.ops 14 8 }) :
    effPopen u sid h =
      (popenPots h).foldl (fun s n => s.addWait r.h n (.popen r.uid (16 * bits h.ops 26 16) (bits h.ops 44 32)))
        ((popenPots h).foldl
          (fun s n => s.setPot r.h n ((s.pot r.h n).judgedOpen sid (16 * bits h.ops 26 16) (bits h.ops 44 32))) (u.launch sid r)) := by
  subst hr
  rfl

/-- A Pot that POPEN names, once its command is over. -/
theorem Pot.afterPopen_judgedOpen (q : Pot) (clear : Bool) (uid sid rp cp : Nat) :
    let t := (q.judgedOpen sid rp cp).afterPopen clear uid sid rp cp
    (t.pred = .opened ∧ t.predOwner = sid ∧ t.predRp = rp ∧ t.predCp = cp ∧ t.predBound = none ∧ t.bands = [] ∧ t.depth = 0) ∧
    (q.waits ≠ [] → t.st = q.st ∧ t.elems = q.elems ∧ t.waits = q.waits ++ [.popen uid rp cp]) ∧
    (q.waits = [] → clear = true → q.st ≠ .closing → t.waits = [] ∧ t.st = .opened ∧ t.owner = sid ∧ t.rp = rp ∧ t.cp = cp ∧
      t.elems = [] ∧ t.bound = none ∧ t.ovf = false ∧ t.convSat = false ∧ t.outSat = false) := by
  refine ⟨?judged, fun hwaits => ?waits, fun hwaits hclear hst => ?opens⟩
  case judged =>
    unfold Pot.afterPopen
    split_ifs <;> exact ⟨rfl, rfl, rfl, rfl, rfl, rfl, rfl⟩
  case waits =>
    rw [Pot.afterPopen_of_waits (q := q.judgedOpen sid rp cp) _ _ _ _ _ hwaits]
    exact ⟨rfl, rfl, rfl⟩
  case opens =>
    rw [Pot.afterPopen_of_first (q := q.judgedOpen sid rp cp) _ _ _ _ _ hwaits, if_pos ⟨hclear, hst⟩]
    exact ⟨rfl, rfl, rfl, rfl, rfl, rfl, rfl, rfl, rfl, rfl⟩

/-- Settles O15: POPEN goes in flight and judges its Pots, and then each opens or waits as `Pot.afterPopen` says. -/
theorem popenOpensItsPots : Obligations.PopenOpensItsPots := by
  unfold Obligations.PopenOpensItsPots
  intro s sid h v np n0 rp cp hready
  let r : StepRec := { recAt s sid h with units := np, detail := np }
  obtain ⟨hgo, hflight, hfr⟩ := launch_issued s sid h (r := r) rfl
  have hrun : exec (.popen sid) s = .next _ := (runStep_ready hready effPopen noHold rfl (by decide)).trans
    (congrArg Host.Outcome.next (effPopen_eq (issued s sid h) sid h (r := r) (by rw [recAt_issued])))
  generalize (issued s sid h).launch sid r = u at hgo hflight hfr hrun
  have hstart : PopenKeeps u u v.bsk s.nextUid sid :=
    { frame := fr_refl _ u, count := rfl, flies := ⟨r, rec?_of_last hflight, rfl⟩, clear := fun _ => rfl }
  obtain ⟨hkeeps, hpots⟩ := (hstart.setPots (Pot.judgedOpen sid rp cp) (popenPots h)).addWaits rp cp (popenPots_nodup h)
  have hpot (n : Nat) : u.pot v.bsk n = s.pot v.bsk n := hfr.pot_eq (by decide) _ _
  have hclear (n : Nat) : u.potClear v.bsk n s.nextUid = s.potClear v.bsk n s.nextUid := State.potClear_of_last hflight n
  simp only [u.foldl_setPot_pot (Pot.judgedOpen sid rp cp) v.bsk (popenPots_nodup h), mem_popenPots, hpot, hclear] at hpots
  refine ⟨_, hrun, hgo.of_fr hkeeps.frame hkeeps.count (by decide), fun a => ?bytes, fun n hn => ?others, fun n hle hlt => ?named⟩
  case bytes =>
    unfold State.rdB
    exact congrArg (tget memDflt · a) ((hkeeps.frame .mem (by decide)).trans (hfr .mem (by decide)))
  case others =>
    have hout : ¬ (n0 ≤ n ∧ n < n0 + np) := by omega
    exact (hpots n).trans ((if_neg hout).trans (if_neg hout))
  case named =>
    have hin : n0 ≤ n ∧ n < n0 + np := ⟨hle, hlt⟩
    have hend := (hpots n).trans ((if_pos hin).trans (by rw [if_pos hin]))
    intro q
    rw [show q = _ from hend]
    exact Pot.afterPopen_judgedOpen _ _ _ _ _ _

end Sys2Proof.Machine
end

section
/-! PROOFS. A PCLOSE's record too is marked done by its issue number, in the first record of that number (`State.endClose`). As in
O12, O13 and O17, no hypothesis of O16 says that no step in flight holds that number already. -/

namespace Sys2Proof.Machine

/-- The state of `sharedUid`, its stream at a PCLOSE of Pot 0, which it holds open as 16 × 1, to BF16 at window offset 0x200: the
NOP in flight holds the issue number that the PCLOSE takes. -/
def pcloseSharedUid : State :=
  { sharedUid true with
    mem := wrTab (wrTab [] 0x100 (leBytes 16 (0x21 * 2 ^ 120 + 2 ^ 118 + 2 ^ 72)))
      (crockBase + 0x40) (leBytes 64 (0x200 + 3 * 2 ^ 80 + 32 * 2 ^ 128 + 0x400 * 2 ^ 352))
    pots := [(0, { st := .opened, rp := 16, cp := 1, pred := .opened, predRp := 16, predCp := 1 })] }

/-- The PCLOSE at the head of stream 0. -/
def pcloseSharedUidHdr : Hdr := hdrOf (pcloseSharedUid.rdN 0x100 16)

theorem pcloseSharedUid_ready : HeadReady pcloseSharedUid 0 0x21 pcloseSharedUidHdr where
  range := by decide
  live := by decide +kernel
  table := by decide +kernel
  good := by decide +kernel
  word := rfl
  code := by decide +kernel
  fence h := absurd h (by decide +kernel)
  token h := absurd h (by decide +kernel)
  pred := by decide +kernel
  block := by decide +kernel
  pot := by decide +kernel
  valid := by decide +kernel
  room := by decide +kernel

/-- The NOP takes the mark: after the PCLOSE's command the NOP's record is done, and the PCLOSE's is not. -/
theorem pcloseSharedUid_marks_nop :
    (Out.flight (exec (.pclose 0) pcloseSharedUid)).map (fun r => (r.opc, r.done)) = [(0x00, true), (0x21, false)] := by
  decide +kernel

/-- A record in flight shows among the marks of its outcome. -/
theorem Out.mem_flight_marks {o : Out} {t : State} {r : StepRec} (ht : o = .next t) (hr : r ∈ (t.bsk 0).inflight) :
    (r.opc, r.done) ∈ (Out.flight o).map (fun r => (r.opc, r.done)) := by
  subst ht
  exact List.mem_map_of_mem hr

/-- Refutes O16: a PCLOSE whose issue number a NOP in flight already holds writes its Pot out and frees it, and its own record is
never done. -/
theorem not_potsAreSpilledResumedAndClosed : ¬ Obligations.PotsAreSpilledResumedAndClosed := by
  unfold Obligations.PotsAreSpilledResumedAndClosed
  rintro ⟨_, hall⟩
  obtain ⟨_, hrun⟩ := hall pcloseSharedUid 0 pcloseSharedUidHdr pcloseSharedUid_ready (by decide +kernel)
  obtain ⟨t, ht, _, _, _, _, _, _, hfly⟩ := hrun (by decide +kernel) (by decide +kernel) (by decide +kernel) (by decide +kernel)
    (by decide +kernel) (by decide +kernel) (by decide +kernel) (by decide +kernel) (by decide +kernel)
  have hmark := Out.mem_flight_marks ht hfly
  rw [pcloseSharedUid_marks_nop] at hmark
  exact absurd hmark (by decide +kernel)

end Sys2Proof.Machine
end

section
/-! PROOFS. A Pan's walk, block by block, and the promotion of its windows into their Pots (04, R115 to R119, R483; 05, R169 to
R172, R177). -/

namespace Sys2Proof.Machine

/-! ## What a Pan's walk stands at -/

/-- How far a Pan's walk has come: its blocks counted, the place in its tile, the queue, and the ring of its last blocks. -/
def Pan.walk (v : Pan) : Nat × Nat × List CItem × List Block := (v.blockCnt, v.progress, v.computeQ, v.ring)

/-- No Pan's walk moves from s to t. -/
def WalksStay (s t : State) : Prop := ∀ q, (t.pan q).walk = (s.pan q).walk

theorem WalksStay.refl (s : State) : WalksStay s s := fun _ => rfl

theorem WalksStay.trans {s t u : State} (hst : WalksStay s t) (htu : WalksStay t u) : WalksStay s u :=
  fun q => (htu q).trans (hst q)

/-- What changes no Pan moves no walk. -/
theorem Fr.walksStay {W : List Field} {s t : State} (hfr : Fr W s t) (hpans : .pans ∉ W) : WalksStay s t :=
  fun q => by rw [hfr.pan_eq hpans]

/-- A stamp orders a Pan's windows and changes nothing else. -/
theorem Pan.stamp_eq (v : Pan) : ∃ k ws, v.stamp = { v with nextReady := k, windows := ws } := by
  unfold Pan.stamp
  refine List.foldlRecOn v.windows _ (motive := fun w : Pan => ∃ k ws, w = { v with nextReady := k, windows := ws })
    ⟨v.nextReady, v.windows, rfl⟩ ?_
  rintro _ ⟨k, ws, rfl⟩ w -
  split
  · exact ⟨_, _, rfl⟩
  · exact ⟨k, ws, rfl⟩

/-- A change of one window changes nothing else of its Pan. -/
theorem State.modWin_pan (s : State) (p w : Nat) (f : Window → Window) :
    ∃ k ws, (s.modWin p w f).pan p = { s.pan p with nextReady := k, windows := ws } := by
  obtain ⟨k, ws, hstamp⟩ := Pan.stamp_eq { s.pan p with windows := lmod (fun x => x.id = w) f (s.pan p).windows }
  refine ⟨k, ws, ?_⟩
  unfold State.modWin
  rw [State.setPan_pan, if_pos rfl, hstamp]

section
variable {s t : State} (hst : WalksStay s t)
include hst

/-- A Pan may change in all but its walk. -/
theorem WalksStay.setPan {p : Nat} {v : Pan} (hv : v.walk = (t.pan p).walk) : WalksStay s (t.setPan p v) := by
  refine hst.trans fun q => ?_
  by_cases hq : q = p
  · subst hq
    rw [State.setPan_pan, if_pos rfl, hv]
  · rw [State.setPan_pan, if_neg hq]

theorem WalksStay.setBsk (h : Nat) (x : Basket) : WalksStay s (t.setBsk h x) :=
  hst.trans ((fr_setBsk (W := [.baskets]) (fr_refl _ t) (by simp [Within]) h x).walksStay (by decide))

theorem WalksStay.modWin (p w : Nat) (f : Window → Window) : WalksStay s (t.modWin p w f) := by
  obtain ⟨k, ws, hstamp⟩ := Pan.stamp_eq { t.pan p with windows := lmod (fun x => x.id = w) f (t.pan p).windows }
  refine hst.setPan ?_
  rw [hstamp]
  rfl

theorem WalksStay.draw (h b : Nat) : WalksStay s (t.draw h b).1 := by
  have hlfsr := hst.setBsk h { t.bsk h with lfsr := lfsrNext (t.bsk h).lfsr }
  unfold State.draw
  dsimp only
  generalize t.setBsk h _ = u at hlfsr ⊢
  split_ifs
  · exact hlfsr
  · split
    · split_ifs
      · exact hlfsr.setPan rfl
      · exact hlfsr
    · exact hlfsr

theorem WalksStay.runOn (p : Nat) (blk : Block) (k : Bank) (parity : Bool) : WalksStay s (t.runOn p blk k parity).1 := by
  unfold State.runOn
  exact hst.setPan (p := p) rfl

theorem WalksStay.addSums (run : Run) : WalksStay s (t.addSums run) := by
  unfold State.addSums
  split
  · exact hst
  · exact hst.setPan rfl

end

theorem Pan.settleIdle_walk (v : Pan) : v.settleIdle.walk = v.walk := by
  unfold Pan.settleIdle
  split <;> rfl

theorem Pan.countSuspect_walk (v : Pan) : v.countSuspect.walk = v.walk := by
  unfold Pan.countSuspect
  split_ifs <;> rfl

/-- What a commit counts and marks before it forms the leaf: its saturated codes, at the Basket, the window and the step. -/
def State.commitSums (s : State) (blk : Block) (run : Run) : State :=
  let hb := panBsk blk.home
  let b := s.bsk hb
  let s := (s.setBsk hb { b with rdoSatCnt := sat32 (b.rdoSatCnt + run.sats) }).addSums run
  if run.sats = 0 then s else
    match b.rec? blk.step with
    | some r =>
      let s := s.modWin blk.home blk.window (fun w => { w with convSat := true })
      if r.convSat then s
      else (s.modRec hb r.uid (fun r => { r with convSat := true })).raiseS 0x0201 0 0x01 hb r.sid hb r.idx 0
    | none => s

/-- The leaf that a commit forms, in its window or in the low-pass buffer. -/
def State.commitLeaf (s : State) (blk : Block) (run : Run) : State :=
  let put (s : State) (f : Option Leaf) : State :=
    s.modWin blk.home blk.window (fun w => { w with leaves := w.leaves.set blk.leaf f })
  match s.win? blk.home blk.window with
  | none => s
  | some w =>
    if blk.pass = 2 then
      match (w.leaves.getD blk.leaf none) with
      | some l => put s (some (leafAddLow w.nvec l run.q))
      | none => s.setPan blk.home { s.pan blk.home with lowBuf := some (blk, run) }
    else
      let l := leafOf w.nvec run.q (blk.pass = 0)
      match (s.pan blk.home).lowBuf with
      | some (lb, lr) =>
        if blk.pass = 1 ∧ lb.window = blk.window ∧ lb.leaf = blk.leaf then
          put (s.setPan blk.home { s.pan blk.home with lowBuf := none }) (some (leafAddLow w.nvec l lr.q))
        else put s (some l)
      | none => put s (some l)

/-- A commit counts, then forms its leaf. -/
theorem State.commit_eq (s : State) (blk : Block) (run : Run) : s.commit blk run = (s.commitSums blk run).commitLeaf blk run := rfl

section
variable {s t : State} (hst : WalksStay s t)
include hst

theorem WalksStay.commitSums (blk : Block) (run : Run) : WalksStay s (t.commitSums blk run) := by
  have hcount (h : Nat) (x : Basket) : WalksStay s ((t.setBsk h x).addSums run) := (hst.setBsk h x).addSums run
  unfold State.commitSums
  dsimp only
  generalize hu : (t.setBsk _ _).addSums run = u
  have hsu : WalksStay s u := hu ▸ hcount _ _
  split_ifs
  · exact hsu
  · split
    · have hmark := hsu.modWin blk.home blk.window fun w => { w with convSat := true }
      split_ifs
      · exact hmark
      · exact hmark.trans ((fr_raiseS (W := [.baskets, .evq]) (fr_modRec (fr_refl _ _) (by simp [Within]) _ _ _) (by simp [Within])
          _ _ _ _ _ _ _ _).walksStay (by decide))
    · exact hsu

theorem WalksStay.commitLeaf (blk : Block) (run : Run) : WalksStay s (t.commitLeaf blk run) := by
  unfold State.commitLeaf
  dsimp only
  split
  · exact hst
  · split_ifs
    · split
      · exact hst.modWin _ _ _
      · exact hst.setPan rfl
    · split
      · split_ifs
        · refine WalksStay.modWin ?_ _ _ _
          exact hst.setPan rfl
        · exact hst.modWin _ _ _
      · exact hst.modWin _ _ _

theorem WalksStay.commit (blk : Block) (run : Run) : WalksStay s (t.commit blk run) := by
  rw [State.commit_eq]
  exact (hst.commitSums blk run).commitLeaf blk run

theorem WalksStay.settleMvm (h uid : Nat) : WalksStay s (t.settleMvm h uid) := by
  unfold State.settleMvm
  dsimp only
  split
  · exact hst
  · generalize hu : t.setBsk h _ = u
    have hsu : WalksStay s u := hu ▸ hst.setBsk h _
    split_ifs
    · exact hst
    · exact List.foldlRecOn (motive := WalksStay s) (bskPans h) _ hsu fun a ha q _ => ha.setPan rfl
    · exact hsu

end

/-! ## A group block ends -/

/-- What follows a group block's drive on Pan p: its window may close, a spare may be drawn for it, its run is tested, and it
commits, waits for its sampled comparison or begins its ladder (02, R51 to R55; 10, R313, R323). -/
def State.blockTail (s : State) (p nvec : Nat) (blk : Block) (lastOfWin parity : Bool) : State :=
  let s := if lastOfWin then s.modWin blk.home blk.window (fun w => { w with closed := true }) else s
  let (s, spare) := s.draw (panBsk p) nvec
  let (s, run) := s.runOn p blk (s.pan p).sel parity
  let s := s.setPan p (s.pan p).settleIdle
  if run.failCode = 0 then
    match spare with
    | some q => s.setPan p { (s.pan p).countSuspect with samples := (s.pan p).samples ++
        [{ blk := blk, orig := run, spare := none, sparePan := q, failed := 0 }] }
    | none =>
      let s := s.commit blk run
      s.setPan p (s.pan p).countSuspect
  else
    s.setPan p { s.pan p with ladders := (s.pan p).ladders ++
      [{ blk := blk, rung := if (s.pan p).mode = .suspect then 2 else 1, first := run.failCode
         band := if run.failCode = 6 then run.tap.getD 0 else 0, satOnly := satAlone run, spareRun := none
         sparePan := 0x3FF, startAt := s.time, quiet := false }] }

theorem State.blockTail_walksStay (s : State) (p nvec : Nat) (blk : Block) (lastOfWin parity : Bool) :
    WalksStay s (s.blockTail p nvec blk lastOfWin parity) := by
  have hclose : WalksStay s (if lastOfWin then s.modWin blk.home blk.window (fun w => { w with closed := true }) else s) := by
    split_ifs
    · exact (WalksStay.refl s).modWin _ _ _
    · exact .refl s
  unfold State.blockTail
  dsimp only
  generalize (if lastOfWin = true then s.modWin blk.home blk.window (fun w => { w with closed := true }) else s) = a at hclose ⊢
  have hdraw := hclose.draw (panBsk p) nvec
  generalize a.draw (panBsk p) nvec = d at hdraw ⊢
  have hrun := hdraw.runOn p blk (d.1.pan p).sel parity
  generalize d.1.runOn p blk (d.1.pan p).sel parity = e at hrun ⊢
  have hidle := hrun.setPan (e.1.pan p).settleIdle_walk
  generalize e.1.setPan p (e.1.pan p).settleIdle = u at hidle ⊢
  split
  · split
    · exact hidle.setPan (u.pan p).countSuspect_walk
    · exact (hidle.commit blk e.2).setPan (Pan.countSuspect_walk _)
  · exact hidle.setPan rfl

theorem Pan.openWin_walk (v : Pan) (uid sid rb batch nvec : Nat) : (v.openWin uid sid rb batch nvec).1.walk = v.walk := by
  unfold Pan.openWin
  split <;> rfl

/-- The pass of the block a Pan's walk stands at (03, R97). -/
def MvmRun.passAt (m : MvmRun) (v : Pan) : Nat := if m.wide then 1 + v.progress % 2 else 0

/-- The column group of the block a Pan's walk stands at. -/
def MvmRun.groupAt (m : MvmRun) (v : Pan) : Nat := if m.wide then v.progress / 2 else v.progress

/-- The Pan that holds a low pass's high pass, p where none is known. -/
def Pan.highHome (v : Pan) (p : Nat) : Nat :=
  match v.lastHigh with
  | some (hm, _, _) => hm
  | none => p

/-- Block k is the one that Pan p's walk stands at. -/
def Block.IsHead (k : Block) (m : MvmRun) (v : Pan) (p tile batch : Nat) : Prop :=
  k.step = m.uid ∧ k.tile = tile ∧ k.group = m.groupAt v ∧ k.batch = batch ∧ k.pass = m.passAt v ∧
    k.home = if m.passAt v = 2 then v.highHome p else p

/-- Latching the head block moves no walk. -/
theorem Pan.headBlock_spec (v : Pan) (p : Nat) (b : Basket) (m : MvmRun) (tile batch : Nat) (rest : List CItem) (fast : Bool)
    (vals : List (List Int)) :
    (v.headBlock p b m tile batch rest fast vals).1.walk = v.walk ∧
    (v.headBlock p b m tile batch rest fast vals).2.1.IsHead m v p tile batch := by
  unfold Pan.headBlock Block.IsHead Pan.highHome MvmRun.groupAt MvmRun.passAt
  dsimp only
  generalize (if m.wide then 1 + v.progress % 2 else 0) = pass
  by_cases hpass : pass = 2
  · simp only [hpass, if_true, true_and]
    cases v.lastHigh <;> exact ⟨rfl, rfl⟩
  · simp only [hpass, if_false, and_true, Pan.openWin_walk]

/-- The walk of a Pan after its head block blk has driven. -/
def Pan.walkPast (v : Pan) (m : MvmRun) (rest : List CItem) (blk : Block) : Nat × Nat × List CItem × List Block :=
  (v.blockCnt + 1, if v.progress + 1 = m.blocks then 0 else v.progress + 1,
    if v.progress + 1 = m.blocks then rest else v.computeQ, takeLast 8 (v.ring ++ [blk]))

theorem Pan.walkPast_congr {v w : Pan} {m : MvmRun} {rest : List CItem} {blk : Block} (hwalk : w.walk = v.walk) :
    w.walkPast m rest blk = v.walkPast m rest blk := by
  simp only [Pan.walk, Prod.mk.injEq] at hwalk
  obtain ⟨hcnt, hat, hqueue, hring⟩ := hwalk
  simp only [Pan.walkPast, hcnt, hat, hqueue, hring]

section
variable {s : State} {p tile batch : Nat} {m : MvmRun} {r : StepRec} {rest : List CItem}

/-- The Pan's plan lets its head block drive now (05, R177). -/
def State.blockMayDrive (s : State) (p : Nat) (m : MvmRun) (batch : Nat) : Bool :=
  let b := s.bsk (panBsk p)
  mayDrive (bit b.seqCfg.toNat 16) s.time (s.pan p) m (driveOf (m.vecs batch) (m.fast && b.rate = 3))

/-- Nothing but its plan keeps the Pan's head block, of step r, from its drive: it reads no bad word, its low-pass buffer is free
and its store has room (04, R115, R483). -/
structure State.HeadFree (s : State) (p : Nat) (m : MvmRun) (tile batch : Nat) (r : StepRec) : Prop where
  inFlight : (s.bsk (panBsk p)).rec? m.uid = some r
  readsGood : s.regionBad { winBase := m.desc.win } (m.actRegion (tile % m.desc.kb) (m.groupAt (s.pan p)) batch) = none
  bufFree : m.passAt (s.pan p) = 2 → (s.pan ((s.pan p).highHome p)).bufBusy = false
  hasRoom : m.passAt (s.pan p) ≠ 2 → maxNat ((List.range 128).map (s.pan p).entries) + m.vecs batch ≤ 4096

/-- A block that its plan lets drive drives, and its Pan's walk moves past it before anything is made of its run; otherwise the Pan
waits at level 0. -/
theorem State.blockEnd_spec (rest : List CItem) (parity : Bool) (hfree : s.HeadFree p m tile batch r) :
    (s.blockMayDrive p m batch = true →
      ∃ u v blk last, WalksStay s u ∧ v.walk = (s.pan p).walkPast m rest blk ∧ blk.IsHead m (s.pan p) p tile batch ∧
        s.blockEnd p m tile batch rest parity = (u.setPan p v).blockTail p (m.vecs batch) blk last parity) ∧
    (s.blockMayDrive p m batch = false →
      s.blockEnd p m tile batch rest parity = s.setPan p { s.pan p with level0 := true, paced := true }) := by
  obtain ⟨hrec, hgood, hbuf, hroom⟩ := hfree
  unfold MvmRun.groupAt at hgood
  unfold State.blockEnd
  simp only [hrec, hgood]
  rw [if_neg ?free, if_neg ?fits]
  case free =>
    rintro ⟨hlow, hbusy⟩
    exact absurd ((hbuf hlow).symm.trans hbusy) (by decide)
  case fits =>
    rintro ⟨hhigh, hfull⟩
    exact absurd (hroom hhigh) (Nat.not_le.mpr hfull)
  constructor
  · intro hgoes
    unfold State.blockMayDrive at hgoes
    rw [if_neg (by simp [hgoes])]
    have hread (rg : Region) : WalksStay s ((s.scrubRegions { winBase := m.desc.win } [rg]).grantFast (panBsk p) m).1 :=
      Fr.walksStay (W := [.memCorr, .memCe, .memUe, .baskets, .fastQ])
        (fr_grantFast (fr_scrubRegions (fr_refl _ s) (by simp [Within]) _ _) (by simp [Within]) _ _) (by decide)
    refine ⟨_, _, _, _, (hread _).setBsk _ _, ?walk, ?head, rfl⟩
    case walk => exact Pan.walkPast_congr (Pan.headBlock_spec _ _ _ _ _ _ _ _ _).1
    case head => exact (Pan.headBlock_spec _ _ _ _ _ _ _ _ _).2
  · intro hheld
    unfold State.blockMayDrive at hheld
    rw [if_pos (by simp [hheld])]
    simp [State.holdPan]

end

/-- An MVM with work left on one of its Basket's Pans goes on. -/
theorem State.settleMvm_of_works {s : State} {uid q : Nat} (hworks : (s.pan q).worksFor uid = true) :
    s.settleMvm (panBsk q) uid = s := by
  have hleft : (bskPans (panBsk q)).any (fun q => (s.pan q).worksFor uid) = true :=
    List.any_eq_true.mpr ⟨q, mem_bskPans.mpr ⟨q % 17, by omega, by unfold panBsk; omega⟩, hworks⟩
  unfold State.settleMvm
  simp only [hleft, if_true]
  split <;> rfl

section
variable {s : State} {p u tile n : Nat} {rest : List CItem} {m : MvmRun} {r : StepRec} {parity : Bool}

/-- GROUP_BLOCK_END runs the block at the head of the Pan's walk, its tile on the selected bank (05, R169, R170). -/
theorem exec_groupBlockEnd (hp : p < 272) (hqueue : (s.pan p).computeQ = .tile u tile n :: rest)
    (hm : (s.bsk (panBsk p)).mvm? u = some m) (hmode : (s.pan p).mode = .inService ∨ (s.pan p).mode = .suspect)
    (hst : (s.bsk (panBsk p)).st = .ready ∨ (s.bsk (panBsk p)).st = .run ∨ (s.bsk (panBsk p)).st = .draining)
    (hclk : s.clocked = true) (hholds : (s.pan p).sel.holds m.desc tile = true) (hdue : overdue s.time (s.pan p).sel = false) :
    exec (.groupBlockEnd p parity) s = .next ((s.blockEnd p m tile n rest parity).settleMvm (panBsk p) u) := by
  have hblock : s.groupBlock p parity = (s.blockEnd p m tile n rest parity).settleMvm (panBsk p) u := by
    unfold State.groupBlock
    simp only [hqueue, hm]
    exact if_pos ⟨hmode, hst, hclk, hholds, by simp [hdue]⟩
  rw [← hblock]
  exact if_pos (by simpa using hp)

/-- What stands at Pan p's walk after a block of it has driven. -/
theorem State.blockEnd_walk (hfree : s.HeadFree p m tile n r) (hgoes : s.blockMayDrive p m n = true) (h uid : Nat) :
    ∃ blk, blk.IsHead m (s.pan p) p tile n ∧
      (((s.blockEnd p m tile n rest parity).settleMvm h uid).pan p).walk = (s.pan p).walkPast m rest blk := by
  obtain ⟨u, v, blk, last, -, hwalk, hhead, hend⟩ := (State.blockEnd_spec rest parity hfree).1 hgoes
  refine ⟨blk, hhead, ?_⟩
  have hafter := ((u.setPan p v).blockTail_walksStay p (m.vecs n) blk last parity).settleMvm h uid p
  rw [hend, hafter, State.setPan_pan, if_pos rfl, hwalk]

/-- A Pan that its plan holds keeps its work, and its step goes on. -/
theorem State.blockEnd_held (hfree : s.HeadFree p m tile n r) (hheld : s.blockMayDrive p m n = false)
    (hqueue : (s.pan p).computeQ = .tile u tile n :: rest) :
    (s.blockEnd p m tile n rest parity).settleMvm (panBsk p) u = s.setPan p { s.pan p with level0 := true, paced := true } := by
  rw [(State.blockEnd_spec rest parity hfree).2 hheld]
  exact State.settleMvm_of_works (by simp [Pan.worksFor, hqueue])

end

/-! ## A promotion -/

section
variable {s : State} {p slot col : Nat} {w : Window} {m : MvmRun} {r : StepRec}

/-- PROMOTION takes the window that became ready first (01, R17; 04, R117). -/
theorem exec_promotion (parity : Bool) (hp : p < 272)
    (hw : argMin (fun w => w.ready.getD 0) ((s.pan p).windows.filter (s.mayLand (panBsk p) slot col)) = some w)
    (hm : (s.bsk (panBsk p)).mvm? w.step = some m) (hr : (s.bsk (panBsk p)).rec? w.step = some r) :
    exec (.promotion p slot col parity) s = .next (if parity then s.windowParity p w m r slot else s.promote p w m r slot col) := by
  refine (if_pos (by simpa using hp)).trans ?_
  simp only [hw, hm, hr]

/-- An element whose Pot word reads without error lands as the sum of its window's leaves (04, R118, R119). -/
theorem State.promote_pot
    (hecc : (s.pot (panBsk p) (m.place (128 * w.rb + slot) (512 * w.batch + col)).1).ecc = []) (k : Nat) :
    let at' := m.place (128 * w.rb + slot) (512 * w.batch + col)
    let q := s.pot (panBsk p) at'.1
    let e := cp64Promote (tget (fun _ => (0, 0)) q.elems at'.2)
      (treeSum (w.leaves.map (fun l => match l with | some l => l.elem slot col | none => 0)))
    (s.promote p w m r slot col).pot (panBsk p) k = if k = at'.1 then { q with
      elems := tset (fun _ => (0, 0)) q.elems at'.2 e, ovf := q.ovf || !f32fin e.1
      convSat := q.convSat || w.convSat, outSat := q.outSat || m.outSat } else s.pot (panBsk p) k := by
  intro at' q e
  unfold State.promote
  simp only [State.potEccIn_of_clean _ hecc]
  rw [← State.setPot_pot]
  refine Fr.pot_eq (W := [.baskets, .pans, .evq, .fastQ]) (fr_settleMvm (fr_dite ?last ?more) (by simp [Within]) _ _) (by decide) _ _
  case last => exact fr_setPan (fr_dite (fr_potOvf (fr_refl _ _) (by simp [Within]) _ _) (fr_refl _ _)) (by simp [Within]) _ _
  case more => exact fr_modWin (fr_dite (fr_potOvf (fr_refl _ _) (by simp [Within]) _ _) (fr_refl _ _)) (by simp [Within]) _ _ _

/-- A window whose blocks the ring still holds runs them all again (04, R116). -/
theorem State.windowParity_spec
    (hring : ((s.pan p).ring.filter (fun k => k.window = w.id && k.home = p && k.step = w.step)).length =
      w.leaves.length * (if m.wide then 2 else 1)) :
    let t := s.windowParity p w m r slot
    t.pots = s.pots ∧ (t.pan p).ladders.length = (s.pan p).ladders.length + w.leaves.length * (if m.wide then 2 else 1) ∧
    t.evq = s.evq ++ [{ time := s.time, code := 0x0203, cls := 1, unit := 0x02, index := p, stream := some r.sid
                        step := shl (r.h % 16) 24 + r.idx % 2 ^ 24, detail := shl 1 28 + slot }] := by
  intro t
  simp only [t, State.windowParity, hring, if_true]
  refine ⟨?pots, ?ladders, ?event⟩
  case pots => exact fr_setPan (W := [.pans, .evq]) (fr_modWin (fr_raiseS (fr_refl _ s) (by simp [Within]) _ _ _ _ _ _ _ _)
    (by simp [Within]) _ _ _) (by simp [Within]) _ _ .pots (by decide)
  case ladders =>
    obtain ⟨k, ws, hmarked⟩ := (s.raiseS 0x0203 1 0x02 p r.sid r.h r.idx (shl 1 28 + slot)).modWin_pan p w.id
      fun x => { x with leaves := x.leaves.map (fun _ => none), ready := none }
    simp only [State.setPan_pan, if_true, List.length_append, List.length_map, hring, hmarked]
    rfl
  case event => exact fr_setPan (W := [.pans]) (fr_modWin (fr_refl _ (s.raiseS 0x0203 1 0x02 p r.sid r.h r.idx (shl 1 28 + slot)))
    (by simp [Within]) _ _ _) (by simp [Within]) _ _ .evq (by decide)

end

/-- Settles O26. After the drive nothing moves a Pan's walk, and after the sum has landed nothing changes a Pot. -/
theorem groupBlocksAndPromotionsGoOn : Obligations.GroupBlocksAndPromotionsGoOn := by
  unfold Obligations.GroupBlocksAndPromotionsGoOn
  intro s p b v
  refine ⟨?block, ?lands, ?parity⟩
  case block =>
    intro u tile n rest m r parity hp hqueue hm hu hr hmode hst hclk hholds hdue pass group home hgood hbuf hroom goes
    subst hu
    have hfree : s.HeadFree p m tile n r := ⟨hr, hgood, hbuf, hroom⟩
    rw [exec_groupBlockEnd hp hqueue hm hmode hst hclk hholds hdue]
    constructor
    · intro hgoes
      obtain ⟨blk, hhead, hwalk⟩ := State.blockEnd_walk (rest := rest) (parity := parity) hfree hgoes (panBsk p) m.uid
      simp only [Pan.walk, Pan.walkPast, Prod.mk.injEq] at hwalk
      obtain ⟨hcnt, hat, hleft, hring⟩ := hwalk
      exact ⟨_, rfl, hcnt, hat, hleft, blk, hring, hhead⟩
    · intro hheld
      rw [State.blockEnd_held hfree hheld hqueue]
  case lands =>
    intro slot col w m r hp hw hm hr at' q hecc e
    refine ⟨_, exec_promotion false hp hw hm hr, ?_, fun k hk => ?_⟩
    · exact (State.promote_pot hecc _).trans (if_pos rfl)
    · exact (State.promote_pot hecc k).trans (if_neg hk)
  case parity =>
    intro slot col w m r hp hw hm hr n hring
    exact ⟨_, exec_promotion true hp hw hm hr, State.windowParity_spec hring⟩

end Sys2Proof.Machine
end

section
/-! PROOFS. Control steps that go on (05, R148 to R150, R154, R155, R160 to R162, R183; 06, R187): each is its stream's change
followed by `State.ctlTo`, whose effect `ctlTo_done` says once. -/

namespace Sys2Proof.Machine

/-- A control opcode that writes no completion record is none of the fabric's steps either. -/
theorem plain_of_control {opc : Nat} (hopc : opc ≤ 0x09 ∨ 0xF0 ≤ opc) :
    hasRecord opc = false ∧ ¬ (0x51 ≤ opc ∧ opc ≤ 0x54) := by
  refine ⟨?_, by omega⟩
  simp [hasRecord]
  omega

/-- Reading the word and the block of the head step leaves its stream but for what it has to flush. -/
theorem headRead_str (s : State) (sid : Nat) (h : Hdr) :
    ∃ w, (headRead s sid h).str sid = { s.str sid with hostW := w } := by
  obtain ⟨_, w, hstr⟩ := headRead_spec s sid h
  exact ⟨w, (hstr sid).trans (if_pos rfl)⟩

/-- The stream of the head step as it issues: it waits no more. -/
theorem issued_str (s : State) (sid : Nat) (h : Hdr) :
    (issued s sid h).str sid = { (headRead s sid h).str sid with waitSince := none } :=
  ((issued_at s sid h).str sid).trans (if_pos rfl)

/-- A control step that goes on at step p from a state in which its stream has become v is done. -/
theorem At.ctlTo_done {s u : State} {sid : Nat} {h : Hdr} {v : Stream} (p : Nat)
    (hat : At (headRead s sid h) u sid h { v with waitSince := none }) (hopc : h.opc ≤ 0x09 ∨ 0xF0 ≤ h.opc)
    (hbsk : v.bsk = ((headRead s sid h).str sid).bsk) (hptr : v.ptr = ((headRead s sid h).str sid).ptr) :
    CtlDone (headRead s sid h) (u.ctlTo sid h p) sid h { v with ptr := p } := by
  obtain ⟨hrec, hfab⟩ := plain_of_control hopc
  exact Machine.ctlTo_done v hat hbsk hptr hrec hfab

/-! ## NOP, WAIT, SIG, FENCE, YIELD -/

/-- A step without effect goes on at the next step. -/
theorem effNext_done (s : State) (sid : Nat) (h : Hdr) (hopc : h.opc ≤ 0x09 ∨ 0xF0 ≤ h.opc) :
    CtlDone (headRead s sid h) (effNext (issued s sid h) sid h) sid h
      { (headRead s sid h).str sid with ptr := (s.str sid).ptr + 1 } := by
  obtain ⟨w, hstr⟩ := headRead_str s sid h
  have hptr : ((issued s sid h).str sid).ptr = (s.str sid).ptr := by rw [issued_str, hstr]
  unfold effNext
  rw [hptr]
  exact (issued_at s sid h).ctlTo_done _ hopc rfl rfl

/-- What holds of every entry and of the new value holds after the value is set. -/
theorem tset_forall {α : Type} [DecidableEq α] {P : Nat × α → Prop} (d : Nat → α) {t : Tab α} {k : Nat} {v : α}
    (ht : ∀ e, e ∈ t → P e) (hv : P (k, v)) : ∀ e, e ∈ tset d t k v → P e := by
  have hins : ∀ e, e ∈ tins k v t → P e := by
    induction t with
    | nil => simpa [tins] using hv
    | cons x t ih =>
      have hx : P x := ht x (by simp)
      have ht' : ∀ e, e ∈ t → P e := fun e he => ht e (by simp [he])
      unfold tins
      split_ifs
      · simpa [hv, hx] using ht'
      · simpa [hv] using ht'
      · simpa [hx] using ih ht'
  have hdel : ∀ e, e ∈ tdel k t → P e := by
    clear hins
    induction t with
    | nil => simp [tdel]
    | cons x t ih =>
      have hx : P x := ht x (by simp)
      have ht' : ∀ e, e ∈ t → P e := fun e he => ht e (by simp [he])
      unfold tdel
      split_ifs
      · exact ih ht'
      · simpa [hx] using ih ht'
  unfold tset
  split_ifs
  · exact hdel
  · exact hins

/-- Changing a RESIDENT stream of the same Basket makes no migration pending. -/
theorem movePending_setStr {s : State} {sid : Nat} {v : Stream} (hres : v.st = .resident) (hbsk : v.bsk = (s.str sid).bsk)
    (hmove : s.movePending sid = false) : (s.setStr sid v).movePending sid = false := by
  unfold State.movePending at hmove ⊢
  simp only [State.setStr_str, if_true, hbsk, State.setStr_keeps]
  rw [Bool.or_eq_false_iff] at hmove ⊢
  refine ⟨hmove.1, ?_⟩
  have hany := hmove.2
  rw [List.any_eq_false] at hany ⊢
  exact tset_forall strDflt hany (by simp [hres])

/-- A stream that issues is RESIDENT, so reading its head step makes no migration pending. -/
theorem movePending_headRead {s : State} {sid : Nat} (h : Hdr) (hlive : s.issues sid = true) (hmove : s.movePending sid = false) :
    (headRead s sid h).movePending sid = false := by
  have hres : (s.str sid).st = .resident := by
    simp only [State.issues, Bool.and_eq_true, decide_eq_true_eq] at hlive
    exact hlive.1.1.1
  have hscrub (u : State) (a n : Nat) : (u.scrub a n).movePending sid = u.movePending sid := by rw [scrub_eq]; rfl
  have hflushed : (flushed s sid h).movePending sid = false := by
    unfold flushed
    dsimp only
    split_ifs
    · have hstr : (s.scrub (s.str sid).stepAddr 16).str sid = s.str sid := by rw [scrub_eq]; rfl
      exact movePending_setStr (by simpa [hstr] using hres) rfl (by rw [hscrub, hmove])
    · rw [hscrub, hmove]
  unfold headRead
  dsimp only
  split_ifs
  · exact hflushed
  · rw [hscrub, hflushed]

/-- Settles O7. The five steps have one effect; the YIELD also needs that reading its word makes no migration pending. -/
theorem plainControlStepsGoOn : Obligations.PlainControlStepsGoOn := by
  unfold Obligations.PlainControlStepsGoOn
  intro s sid h u v
  have hdone (hopc : h.opc ≤ 0x09) : CtlDone u (effNext (issued s sid h) sid h) sid h v := effNext_done s sid h (.inl hopc)
  refine ⟨fun hr => ?nop, fun hr => ?wait, fun hr => ?sig, fun hr => ?fence, fun hr hmove => ?yield⟩
  case nop => exact ⟨_, runStep_ready hr effNext noHold rfl (by decide), hdone (by simp [hr.code])⟩
  case wait => exact ⟨_, runStep_ready hr effNext noHold rfl (by decide), hdone (by simp [hr.code])⟩
  case sig => exact ⟨_, runStep_ready hr effNext noHold rfl (by decide), hdone (by simp [hr.code])⟩
  case fence => exact ⟨_, runStep_ready hr effNext noHold rfl (by decide), hdone (by simp [hr.code])⟩
  case yield =>
    exact ⟨_, runStep_ready hr effNext yieldHold (movePending_headRead h hr.live hmove) (by decide), hdone (by simp [hr.code])⟩

/-! ## LOOP, END, BR, CALL, RET -/

/-- The stream of a BR or CALL once CLR has cleared the flag it tested. -/
def Stream.cleared (v : Stream) (h : Hdr) : Stream :=
  { v with flags := if bit h.ops 24 then clearFlag v.flags h.pred else v.flags }

/-- CLR changes the stream of a BR or CALL alone. -/
theorem brClear_at (s : State) (sid : Nat) (h : Hdr) : At (headRead s sid h) ((issued s sid h).brClear sid h) sid h
    { ((headRead s sid h).str sid).cleared h with waitSince := none } := by
  have hat := issued_at s sid h
  unfold State.brClear Stream.cleared
  dsimp only
  split_ifs
  · rw [issued_str]
    exact hat.set _
  · exact hat

/-- Settles O8. Each step changes its stream's stacks or flags and then goes on at its own target. -/
theorem loopsAndBranchesMoveThePointer : Obligations.LoopsAndBranchesMoveThePointer := by
  unfold Obligations.LoopsAndBranchesMoveThePointer
  constructor <;> intro s sid h u v
  all_goals have hat : At u (issued s sid h) sid h { v with waitSince := none } := issued_at s sid h
  all_goals have hstr : (issued s sid h).str sid = { v with waitSince := none } := issued_str s sid h
  case left =>
    intro cnt e
    refine ⟨fun hr hcnt => ?empty, fun hr hcnt => ?opens, fun f hr hf hrem => ?again, fun f hr hf hrem => ?closes⟩
    all_goals have hopc : h.opc ≤ 0x09 ∨ 0xF0 ≤ h.opc := .inl (by simp [hr.code])
    case empty =>
      refine ⟨_, runStep_ready hr effLoop noHold rfl (by decide), ?_⟩
      rw [effLoop, if_pos hcnt]
      exact hat.ctlTo_done _ hopc rfl rfl
    case opens =>
      refine ⟨_, runStep_ready hr effLoop noHold rfl (by decide), ?_⟩
      rw [effLoop, if_neg hcnt, hstr]
      exact (hat.set _).ctlTo_done (v := { v with loops := _ }) _ hopc rfl rfl
    case again =>
      refine ⟨_, runStep_ready hr effEndl noHold rfl (by decide), ?_⟩
      simp only [effEndl, hstr, hf, if_pos hrem]
      exact (hat.set _).ctlTo_done (v := { v with loops := v.loops.dropLast ++ [{ f with remaining := f.remaining - 1 }] }) _
        hopc rfl rfl
    case closes =>
      refine ⟨_, runStep_ready hr effEndl noHold rfl (by decide), ?_⟩
      simp only [effEndl, hstr, hf, if_neg hrem.not_gt]
      exact (hat.set _).ctlTo_done (v := { v with loops := v.loops.dropLast }) _ hopc rfl rfl
  case right =>
    intro fl tgt
    have hclear : At u ((issued s sid h).brClear sid h) sid h { v.cleared h with waitSince := none } := brClear_at s sid h
    refine ⟨fun hr => ?br, fun hr => ?call, fun c hr hc => ?ret⟩
    all_goals have hopc : h.opc ≤ 0x09 ∨ 0xF0 ≤ h.opc := .inl (by simp [hr.code])
    case br =>
      exact ⟨_, runStep_ready hr effBr noHold rfl (by decide), hclear.ctlTo_done _ hopc rfl rfl⟩
    case call =>
      refine ⟨_, runStep_ready hr effCall noHold rfl (by decide), ?_⟩
      rw [effCall, (hclear.str sid).trans (if_pos rfl)]
      exact (hclear.set _).ctlTo_done (v := { v.cleared h with calls := _ }) _ hopc rfl rfl
    case ret =>
      refine ⟨_, runStep_ready hr effRet noHold rfl (by decide), ?_⟩
      simp only [effRet, hstr, hc]
      exact (hat.set _).ctlTo_done (v := { v with calls := v.calls.dropLast }) _ hopc rfl rfl

end Sys2Proof.Machine
end

section
/-! PROOFS. The end of a step (05, R149, R152, R155; 06, R193; 07, R233): what its record, its flags and its token change, for
steps that complete as they issue and for those that complete later. -/

namespace Sys2Proof.Machine

/-! ## Bytes -/

@[simp] theorem leBytes_length (k n : Nat) : (leBytes k n).length = k := by
  induction k generalizing n with
  | zero => rfl
  | succ k ih => simp [leBytes, ih]

/-- A completion record has 32 bytes (06, Table 06-3). -/
@[simp] theorem recBytes_length (time : Nat) (r : StepRec) : (recBytes time r).length = 32 := by
  simp [recBytes]

/-- Where the ring of a stream takes its next record. -/
def Stream.ringSlot (v : Stream) : Nat := v.win v.cring + v.crTail % 2 ^ v.crLog2 * 32

/-- Byte k lies in the descriptor of stream sid. -/
def InDesc (sid k : Nat) : Prop := descAddr sid ≤ k ∧ k < descAddr sid + 64

/-- A record written: outside the descriptor, whose CR_TAIL moves on, the ring's next place holds it and no other byte changes. -/
theorem State.putRec_rdB (s : State) (sid k : Nat) (bs : List Byte) (hk : ¬ InDesc sid k) :
    (s.putRec sid bs).rdB k = if (s.str sid).ringSlot ≤ k ∧ k < (s.str sid).ringSlot + bs.length then
      bs.getD (k - (s.str sid).ringSlot) 0 else s.rdB k := by
  have hout : ¬ (descAddr sid + 0x24 ≤ k ∧ k < descAddr sid + 0x24 + 4) := by
    unfold InDesc at hk
    omega
  unfold State.putRec State.wrN
  rw [State.wr_rdB, leBytes_length, if_neg hout]
  exact State.wr_rdB s _ bs k

/-- What the end of a step that is neither partial nor a HALT changes. -/
structure Finished (s t : State) (r : StepRec) : Prop where
  bsk : ∀ j, t.bsk j =
    if j = r.h then { s.bsk r.h with inflight := (s.bsk r.h).inflight.filter (fun x => x.uid != r.uid) } else s.bsk j
  str : ∀ j, t.str j = if j = r.sid then
    { s.str r.sid with
      flags := flagsAfter (s.str r.sid).flags r, retry := retryAfter (s.str r.sid).retry r
      crTail := if hasRecord r.opc then ((s.str r.sid).crTail + 1) % 2 ^ 32 else (s.str r.sid).crTail }
    else s.str j
  tokens : t.tokens = (s.sig r.h r.sig).tokens
  globals : t.globals = (s.sig r.h r.sig).globals
  time : t.time = s.time
  rdB : ∀ k, ¬ InDesc r.sid k → t.rdB k =
    if hasRecord r.opc = true ∧ (s.str r.sid).ringSlot ≤ k ∧ k < (s.str r.sid).ringSlot + 32 then
      (recBytes s.time r).getD (k - (s.str r.sid).ringSlot) 0
    else s.rdB k

/-- The state once a step's flags are set and its record, where it has one, is written. -/
def State.recorded (s : State) (r : StepRec) : State :=
  let t := s.str r.sid
  let u := s.setStr r.sid { t with flags := flagsAfter t.flags r, retry := retryAfter t.retry r }
  if hasRecord r.opc then u.putRec r.sid (recBytes u.time r) else u

theorem State.recorded_fr (s : State) (r : StepRec) : Fr [.mem, .memBad, .memCorr, .memCe, .memUe, .streams] s (s.recorded r) := by
  have hset (v : Stream) : Fr [.mem, .memBad, .memCorr, .memCe, .memUe, .streams] s (s.setStr r.sid v) :=
    fr_setStr (fr_refl _ s) (by simp [Within]) _ _
  unfold State.recorded
  dsimp only
  split_ifs
  · exact fr_putRec (hset _) (by simp [Within]) _ _
  · exact hset _

theorem State.recorded_str (s : State) (r : StepRec) (j : Nat) : (s.recorded r).str j = if j = r.sid then
    { s.str r.sid with
      flags := flagsAfter (s.str r.sid).flags r, retry := retryAfter (s.str r.sid).retry r
      crTail := if hasRecord r.opc then ((s.str r.sid).crTail + 1) % 2 ^ 32 else (s.str r.sid).crTail }
    else s.str j := by
  unfold State.recorded
  dsimp only
  by_cases hrec : hasRecord r.opc = true
  · simp only [if_pos hrec, putRec_str, State.setStr_str, if_true]
    split_ifs <;> rfl
  · simp only [if_neg hrec, State.setStr_str]

theorem State.recorded_rdB (s : State) (r : StepRec) (k : Nat) (hk : ¬ InDesc r.sid k) : (s.recorded r).rdB k =
    if hasRecord r.opc = true ∧ (s.str r.sid).ringSlot ≤ k ∧ k < (s.str r.sid).ringSlot + 32 then
      (recBytes s.time r).getD (k - (s.str r.sid).ringSlot) 0
    else s.rdB k := by
  unfold State.recorded
  dsimp only
  by_cases hrec : hasRecord r.opc = true
  · rw [if_pos hrec, State.putRec_rdB _ _ _ _ hk, State.setStr_str, if_pos rfl, recBytes_length]
    simp only [hrec, true_and]
    rfl
  · rw [if_neg hrec, if_neg (fun hin => hrec hin.1)]
    rfl

theorem State.finish_eq {s : State} {r : StepRec} (hst : r.status ≠ 2) (hhalt : ¬ (r.opc = 0x0A ∧ r.status = 5)) :
    s.finish r = ((s.recorded r).setBsk r.h
      { (s.recorded r).bsk r.h with inflight := ((s.recorded r).bsk r.h).inflight.filter (fun x => x.uid != r.uid) }).sig r.h r.sig := by
  unfold State.finish State.recorded
  simp only [if_neg hst, if_neg hhalt]

/-- A signal's tokens depend on the tokens, the queues' interrupts and the time alone. -/
theorem sig_tokens_of_fr {W : List Field} {s t : State} (hfr : Fr W s t) (b c : Nat)
    (hW : ∀ f, f ∈ [Field.tokens, .globals, .hq, .msix, .time] → f ∉ W) :
    (t.sig b c).tokens = (s.sig b c).tokens ∧ (t.sig b c).globals = (s.sig b c).globals ∧ (t.sig b c).time = s.time ∧
    (t.sig b c).mem = t.mem := by
  rw [sig_congr s t b c (hfr .tokens (hW _ (by simp))) (hfr .globals (hW _ (by simp))) (hfr .hq (hW _ (by simp)))
    (hfr .msix (hW _ (by simp))) (hfr .time (hW _ (by simp)))]
  exact ⟨rfl, rfl, hfr .time (hW _ (by simp)), rfl⟩

theorem State.finish_spec {s : State} {r : StepRec} (hst : r.status ≠ 2) (hhalt : ¬ (r.opc = 0x0A ∧ r.status = 5)) :
    Finished s (s.finish r) r := by
  have hfr := s.recorded_fr r
  have hstr := s.recorded_str r
  have hrdB := s.recorded_rdB r
  rw [State.finish_eq hst hhalt]
  generalize s.recorded r = u at *
  have hbsk (j : Nat) : u.bsk j = s.bsk j := hfr.bsk_eq (by decide) j
  have hset (v : Basket) : Fr [.mem, .memBad, .memCorr, .memCe, .memUe, .streams, .baskets] s (u.setBsk r.h v) :=
    fr_setBsk (hfr.mono (by simp [Within])) (by simp [Within]) _ _
  obtain ⟨htok, hglob, htime, hmem⟩ := sig_tokens_of_fr (hset { u.bsk r.h with
    inflight := (u.bsk r.h).inflight.filter (fun x => x.uid != r.uid) }) r.h r.sig (by decide)
  refine ⟨fun j => ?_, fun j => ?_, htok, hglob, htime, fun k hk => ?_⟩
  · rw [(sig_reads _ _ _).2, State.setBsk_bsk, hbsk, hbsk]
  · rw [(sig_reads _ _ _).1, ← hstr]
    rfl
  · rw [sig_rdB, ← hrdB k hk]
    rfl

/-! ## STEP_COMPLETION and RING_HEAD_POLL -/

/-- A step that is done, in order and not held back by the ring or a chained ROT completes. -/
theorem State.tryFinish_of_done {s : State} {r : StepRec} (hdone : r.done = true)
    (hchain : r.chainOf.bind (s.bsk r.h).rec? = none) (hord : ordClear (s.bsk r.h).inflight r = true)
    (hring : hasRecord r.opc = true → s.ringFull r.sid = false) : s.tryFinish r = s.finish r := by
  have hfull : (hasRecord r.opc && s.ringFull r.sid) = false := by
    cases hrec : hasRecord r.opc with
    | false => rfl
    | true => simp [hring hrec]
  unfold State.tryFinish State.tryEnd
  simp [hchain, hdone, hord, hfull]

theorem exec_stepCompletion {s : State} {sid uid : Nat} {r : StepRec} (hsid : sid < 131072)
    (hrec : (s.bsk (s.str sid).bsk).rec? uid = some r) (hr : r.sid = sid) :
    exec (.stepCompletion sid uid) s = .next (s.tryFinish r) := by
  show execStepCompletion sid uid s = _
  unfold execStepCompletion guard
  rw [if_pos (decide_eq_true hsid), hrec]
  exact congrArg Host.Outcome.next (if_pos hr)

theorem exec_ringHeadPoll {s : State} {sid : Nat} {r : StepRec} (hsid : sid < 131072)
    (hfind : (s.bsk (s.str sid).bsk).inflight.find? (fun x => x.sid = sid && x.stalled) = some r) :
    exec (.ringHeadPoll sid) s = .next ((s.at (s.time + 1000)).tryFinish r) := by
  have hbsk : (s.at (s.time + 1000)).bsk ((s.at (s.time + 1000)).str sid).bsk = s.bsk (s.str sid).bsk := rfl
  show execRingHeadPoll sid s = _
  unfold execRingHeadPoll guard
  rw [if_pos (decide_eq_true hsid)]
  dsimp only
  rw [hbsk, hfind]

/-- Settles O20: both commands are `State.finish` on the step, a microsecond on at the poll. -/
theorem stepsThatAreDoneComplete : Obligations.StepsThatAreDoneComplete := by
  unfold Obligations.StepsThatAreDoneComplete
  intro s sid r v After hsid hrsid hrh hdone hchain hord hst hopc hring
  subst hrsid
  have hhalt : ¬ (r.opc = 0x0A ∧ r.status = 5) := fun hh => hopc hh.1
  have hafter {u : State} (hbsk : ∀ j, u.bsk j = s.bsk j) (hstr : ∀ j, u.str j = s.str j) (hmem : ∀ k, u.rdB k = s.rdB k) :
      After u (u.finish r) := by
    obtain ⟨hfbsk, hfstr, htok, hglob, _, hfrdB⟩ := State.finish_spec (s := u) hst hhalt
    have hv : u.str r.sid = v := hstr _
    rw [hv] at hfrdB
    refine ⟨?bsk, ?str, fun j hj => ?others, ?tokens, ?globals, fun hrec k hk hout => ?written, fun k hk hout => ?kept⟩
    case bsk => rw [← hrh, hfbsk, if_pos rfl, hbsk]
    case str => rw [hfstr, if_pos rfl, hv]
    case others => rw [hfstr, if_neg hj, hstr]
    case tokens => rw [htok, hrh]
    case globals => rw [hglob, hrh]
    case written =>
      have hin : hasRecord r.opc = true ∧ v.ringSlot ≤ v.ringSlot + k ∧ v.ringSlot + k < v.ringSlot + 32 := ⟨hrec, by omega, by omega⟩
      have hbyte := (hfrdB (v.ringSlot + k) hout).trans (if_pos hin)
      rwa [Nat.add_sub_cancel_left] at hbyte
    case kept =>
      have hnot : ¬ (hasRecord r.opc = true ∧ v.ringSlot ≤ k ∧ k < v.ringSlot + 32) := by
        rintro ⟨hrec, hlo, hhi⟩
        have := hk hrec
        unfold Stream.ringSlot at hlo hhi
        omega
      exact ((hfrdB k hout).trans (if_neg hnot)).trans (hmem k)
  have hends {u : State} (hbsk : ∀ j, u.bsk j = s.bsk j) (hfull : u.ringFull r.sid = s.ringFull r.sid) :
      u.tryFinish r = u.finish r :=
    State.tryFinish_of_done hdone (by rw [hbsk, hrh, hchain]) (by rw [hbsk, hrh, hord]) (by rw [hfull]; exact hring)
  constructor
  · intro hrec
    refine ⟨s.finish r, ?_, (State.finish_spec hst hhalt).time, hafter (fun _ => rfl) (fun _ => rfl) fun _ => rfl⟩
    exact (exec_stepCompletion hsid hrec rfl).trans (congrArg Host.Outcome.next (hends (fun _ => rfl) rfl))
  · intro hfind
    refine ⟨(s.at (s.time + 1000)).finish r, ?_, ?_, hafter (fun _ => rfl) (fun _ => rfl) fun _ => rfl⟩
    · exact (exec_ringHeadPoll hsid hfind).trans (congrArg Host.Outcome.next (hends (fun _ => rfl) rfl))
    · rw [(State.finish_spec hst hhalt).time]
      exact max_eq_right (by omega)

end Sys2Proof.Machine
end

section
/-! PROOFS. HALT and MARK (05, R163; 06, R193; 07, R233), DBRK and DSNAP (05, R146). -/

namespace Sys2Proof.Machine

/-! ## HALT and MARK -/

/-- Reading the head step leaves the record it issues with. -/
theorem recAt_headRead (s : State) (sid : Nat) (h : Hdr) : recAt (headRead s sid h) sid h = recAt s sid h := by
  obtain ⟨hfr, w, hstr⟩ := headRead_spec s sid h
  unfold recAt
  rw [hstr, if_pos rfl, show (headRead s sid h).nextUid = s.nextUid from hfr .nextUid (by decide),
    show (headRead s sid h).time = s.time from hfr .time (by decide), show (headRead s sid h).dzf = s.dzf from hfr .dzf (by decide)]

/-- Reading the head step leaves the Basket and the completion ring of its stream. -/
theorem headRead_ring (s : State) (sid : Nat) (h : Hdr) :
    let v := (headRead s sid h).str sid
    v.bsk = (s.str sid).bsk ∧ v.crTail = (s.str sid).crTail ∧ v.crLog2 = (s.str sid).crLog2 := by
  obtain ⟨w, hv⟩ := headRead_str s sid h
  rw [hv]
  exact ⟨rfl, rfl, rfl⟩

theorem endRec_headRead (s : State) (sid : Nat) (h : Hdr) (status failed : Nat) :
    endRec (headRead s sid h) sid h status failed = endRec s sid h status failed := by
  unfold endRec
  rw [recAt_headRead]

/-- Whether a step completes as it issues does not depend on the reading of its word and block. -/
theorem endsNow_headRead (s : State) (sid : Nat) (h : Hdr) (r : StepRec) : endsNow (headRead s sid h) sid r ↔ endsNow s sid r := by
  obtain ⟨hfr, w, hstr⟩ := headRead_spec s sid h
  have hsid : (headRead s sid h).str sid = { s.str sid with hostW := w } := (hstr sid).trans (if_pos rfl)
  have hmem : (headRead s sid h).mem = s.mem := hfr .mem (by decide)
  have hfull : (headRead s sid h).ringFull sid = s.ringFull sid := by
    unfold State.ringFull State.rdN State.rd
    rw [hsid, hmem]
  unfold endsNow
  rw [hsid, hfr.bsk_eq (by decide), hfull]

/-- The end at issue of a HALT or MARK, whose stream has become v and goes on at the next step: `over_rec`, read from the
state before its word and block were read. -/
theorem over_endRec {s : State} {sid : Nat} {h : Hdr} {v : Stream} {u : State} (hat : At (headRead s sid h) u sid h v)
    {status failed : Nat} (hst : status ≠ 2) (hopc : h.opc = 0x0A ∨ h.opc = 0x0B)
    (htail : v.crTail = (s.str sid).crTail) (hlog : v.crLog2 = (s.str sid).crLog2) :
    let r := endRec s sid h status failed
    let t := u.over { recAt s sid h with status := status, failed := failed }
    (endsNow s sid r → t = (u.enter r).finish r) ∧
    (ordClear ((s.bsk (s.str sid).bsk).inflight ++ [r]) r = false → t = u.enter r) ∧
    (¬ endsNow s sid r → (∀ j, t.str j = u.str j) ∧ ∀ k, t.rdB k = u.rdB k) := by
  obtain ⟨hfr, w, hstr⟩ := headRead_spec s sid h
  have hsid : (headRead s sid h).str sid = { s.str sid with hostW := w } := (hstr sid).trans (if_pos rfl)
  have hrec : hasRecord h.opc = true := by rcases hopc with hopc | hopc <;> rw [hopc] <;> decide
  have hover := over_rec hat status failed hst hrec (by omega) (by rw [hsid, htail]) (by rw [hsid, hlog])
  dsimp only at hover
  rwa [recAt_headRead, endRec_headRead, endsNow_headRead, hsid, hfr.bsk_eq (by decide)] at hover

/-- HALT and MARK have a record, set no flag and make no retry. -/
theorem endRec_keeps {s : State} {sid : Nat} {h : Hdr} {status failed : Nat} (hst : status ≠ 2) (hopc : h.opc = 0x0A ∨ h.opc = 0x0B) :
    let r := endRec s sid h status failed
    hasRecord r.opc = true ∧ (∀ f, flagsAfter f r = f) ∧ ∀ o, retryAfter o r = o := by
  have hfab : ¬ (0x51 ≤ h.opc ∧ h.opc ≤ 0x54) := by omega
  refine ⟨?_, fun f => flagsAfter_none f _ rfl rfl rfl hst, fun o => if_neg hfab⟩
  rcases hopc with hopc | hopc <;> simp [endRec, recAt, hopc, hasRecord]

/-- The streams once a HALT or MARK has completed as it issued. -/
theorem finish_endRec_str {s : State} {sid : Nat} {h : Hdr} {status failed : Nat} (u : State) (hst : status ≠ 2)
    (hopc : h.opc = 0x0A ∨ h.opc = 0x0B) (j : Nat) :
    let r := endRec s sid h status failed
    ((u.enter r).finish r).str j = if j = sid then
      (if h.opc = 0x0A ∧ status = 5 then
        { u.str sid with crTail := ((u.str sid).crTail + 1) % 2 ^ 32, st := .ended, halting := false }
       else { u.str sid with crTail := ((u.str sid).crTail + 1) % 2 ^ 32 })
    else u.str j := by
  intro r
  obtain ⟨hrec, hflags, hretry⟩ := endRec_keeps (s := s) (sid := sid) (failed := failed) hst hopc
  exact finish_str (u.enter r) r j hst hrec (hflags _) (hretry _)

/-- As the head step issues with its stream made v, the others stand. -/
theorem issued_set_str (s : State) (sid : Nat) (h : Hdr) (v : Stream) (j : Nat) :
    ((issued s sid h).setStr sid v).str j = if j = sid then v else s.str j := by
  obtain ⟨⟨w, hissued⟩, _⟩ := issued_spec s sid h
  rw [State.setStr_str]
  split_ifs with hj
  · rfl
  · rw [hissued, if_neg hj]

/-- The stream of a HALT that has issued and whose record is still to come. -/
def Stream.haltsAt (v : Stream) : Stream := { v with waitSince := none, halting := true, ptr := v.ptr + 1 }

/-- A HALT has issued: it has ENDed its stream with a record, or it holds the stream and, out of order, stays in flight. -/
theorem effHalt_spec (s : State) (sid : Nat) (h : Hdr) (hopc : h.opc = 0x0A) :
    let v := (headRead s sid h).str sid
    let r := endRec s sid h 5 0
    let t := effHalt (issued s sid h) sid h
    (endsNow s sid r → ∀ j, t.str j = if j = sid then
      { v.haltsAt with crTail := (v.crTail + 1) % 2 ^ 32, st := .ended, halting := false } else s.str j) ∧
    (¬ endsNow s sid r → ∀ j, t.str j = if j = sid then v.haltsAt else s.str j) ∧
    (ordClear ((s.bsk v.bsk).inflight ++ [r]) r = false → r ∈ (t.bsk v.bsk).inflight) := by
  intro v r t
  obtain ⟨hbsk, htail, hlog⟩ := headRead_ring s sid h
  have hu := issued_set_str s sid h v.haltsAt
  obtain ⟨hends, hwaits, hstays⟩ := over_endRec ((issued_at s sid h).set v.haltsAt) (status := 5) (failed := 0) (by decide)
    (.inl hopc) htail hlog
  have ht : t = ((issued s sid h).setStr sid v.haltsAt).over { recAt s sid h with status := 5, failed := 0 } := by
    simp only [t, effHalt, issued_str, recAt_issued]
    rfl
  rw [← ht] at hends hwaits hstays
  refine ⟨fun hnow j => ?ended, fun hnot j => ?held, fun hord => ?flies⟩
  case ended =>
    rw [hends hnow, finish_endRec_str _ (by decide) (.inl hopc), hu, hu, if_pos rfl, if_pos (And.intro hopc rfl)]
    split_ifs <;> rfl
  case held => rw [(hstays hnot).1, hu]
  case flies =>
    have hb : v.bsk = r.h := hbsk
    rw [hb] at hord ⊢
    rw [hwaits hord, enter_bsk, if_pos rfl]
    exact List.mem_append_right _ (List.mem_singleton_self r)

/-- The stream of a MARK that has issued and whose record is still to come. -/
def Stream.goesOn (v : Stream) : Stream := { v with waitSince := none, ptr := v.ptr + 1 }

/-- A MARK has issued: it has written its record at the ring's tail, or it waits in flight. -/
theorem effMark_spec (s : State) (sid : Nat) (h : Hdr) (hopc : h.opc = 0x0B) :
    let v := (headRead s sid h).str sid
    let r := endRec s sid h 6 (bits h.ops 63 0)
    let t := effMark (issued s sid h) sid h
    (endsNow s sid r → (∀ j, t.str j = if j = sid then { v.goesOn with crTail := (v.crTail + 1) % 2 ^ 32 } else s.str j) ∧
      ∀ k, ¬ InDesc sid k → t.rdB k =
        if v.ringSlot ≤ k ∧ k < v.ringSlot + 32 then (recBytes s.time r).getD (k - v.ringSlot) 0 else s.rdB k) ∧
    (¬ endsNow s sid r → (∀ j, t.str j = if j = sid then v.goesOn else s.str j) ∧ ∀ k, t.rdB k = s.rdB k) := by
  intro v r t
  obtain ⟨_, htail, hlog⟩ := headRead_ring s sid h
  obtain ⟨_, _, _, _, hfr⟩ := issued_spec s sid h
  have hu := issued_set_str s sid h v.goesOn
  have hmem : ((issued s sid h).setStr sid v.goesOn).mem = s.mem := hfr .mem (by decide)
  have htime : ((issued s sid h).setStr sid v.goesOn).time = s.time := hfr .time (by decide)
  obtain ⟨hends, hwaits, hstays⟩ := over_endRec ((issued_at s sid h).set v.goesOn) (status := 6) (failed := bits h.ops 63 0)
    (by decide) (.inr hopc) htail hlog
  have ht : t = ((issued s sid h).setStr sid v.goesOn).over { recAt s sid h with status := 6, failed := bits h.ops 63 0 } := by
    simp only [t, effMark, State.goTo, issued_str, recAt_issued]
    rfl
  rw [← ht] at hends hwaits hstays
  generalize (issued s sid h).setStr sid v.goesOn = u at *
  have hrdB (k : Nat) : u.rdB k = s.rdB k := by rw [State.rdB, hmem, State.rdB]
  refine ⟨fun hnow => ⟨fun j => ?str, fun k hk => ?bytes⟩, fun hnot => ⟨fun j => ?strStays, fun k => ?bytesStay⟩⟩
  case str =>
    rw [hends hnow, finish_endRec_str _ (by decide) (.inr hopc), hu, hu, if_pos rfl, if_neg (fun hh : h.opc = 0x0A ∧ (6 : Nat) = 5 => by omega)]
    split_ifs <;> rfl
  case bytes =>
    obtain ⟨hrec, _, _⟩ := endRec_keeps (s := s) (sid := sid) (status := 6) (failed := bits h.ops 63 0) (by decide) (.inr hopc)
    have hfin := (State.finish_spec (s := u.enter r) (r := r) (show 6 ≠ 2 by decide)
      (show ¬ (h.opc = 0x0A ∧ 6 = 5) by omega)).rdB k hk
    have hslot : ((u.enter r).str r.sid).ringSlot = v.ringSlot := by
      rw [enter_str, hu, if_pos (show r.sid = sid from rfl)]
      rfl
    rw [hends hnow, hfin, hslot, show (u.enter r).time = s.time from htime, show (u.enter r).rdB k = s.rdB k from hrdB k]
    simp only [show hasRecord r.opc = true from hrec, true_and]
  case strStays => rw [(hstays hnot).1, hu]
  case bytesStay => rw [(hstays hnot).2, hrdB]

/-- Settles O9. HALT and MARK are over as they issue: `over_endRec` tells apart what their order and the ring let happen. -/
theorem haltAndMarkEndWithRecords : Obligations.HaltAndMarkEndWithRecords := by
  unfold Obligations.HaltAndMarkEndWithRecords
  constructor <;> intro s sid h v r
  case left =>
    intro hr
    obtain ⟨hends, hheld, hflies⟩ := effHalt_spec s sid h hr.code
    refine ⟨_, runStep_ready hr effHalt noHold rfl (by decide), ?_⟩
    by_cases hnow : endsNow s sid r
    · have hstr := hends hnow
      have hsid := (hstr sid).trans (if_pos rfl)
      refine ⟨by rw [hsid, Stream.haltsAt], fun _ => by rw [hsid]; exact ⟨rfl, rfl⟩, fun hord => ?_, fun j hj => by rw [hstr, if_neg hj]⟩
      exact absurd hnow.1 (by rw [← (headRead_ring s sid h).1, hord]; decide)
    · have hstr := hheld hnow
      have hsid := (hstr sid).trans (if_pos rfl)
      exact ⟨by rw [hsid, Stream.haltsAt], fun hyes => absurd hyes hnow, fun hord => ⟨hsid, hflies hord⟩,
        fun j hj => by rw [hstr, if_neg hj]⟩
  case right =>
    intro a hr
    obtain ⟨hends, hheld⟩ := effMark_spec s sid h hr.code
    refine ⟨_, runStep_ready hr effMark noHold rfl (by decide), fun hnow => ?now, fun hnot => ?later, fun j hj => ?others⟩
    case now =>
      obtain ⟨hstr, hrdB⟩ := hends hnow
      refine ⟨(hstr sid).trans (if_pos rfl), fun k hk hout => ?_, fun k hk hout => ?_⟩
      · have hbyte := (hrdB (a + k) hout).trans (if_pos ⟨Nat.le_add_right _ _, Nat.add_lt_add_left hk _⟩)
        rwa [show a + k - v.ringSlot = k from Nat.add_sub_cancel_left _ _] at hbyte
      · refine (hrdB k hout).trans (if_neg fun hin => ?_)
        obtain ⟨hlo, hhi⟩ : a ≤ k ∧ k < a + 32 := hin
        omega
    case later =>
      obtain ⟨hstr, hrdB⟩ := hheld hnot
      exact ⟨(hstr sid).trans (if_pos rfl), hrdB⟩
    case others =>
      by_cases hnow : endsNow s sid r
      · rw [(hends hnow).1, if_neg hj]
      · rw [(hheld hnow).1, if_neg hj]

/-! ## DBRK and DSNAP -/

/-- n parts of c bytes each. -/
theorem flatMap_range_length {f : Nat → List Byte} {c : Nat} (hf : ∀ k, (f k).length = c) (n : Nat) :
    ((List.range n).flatMap f).length = n * c := by
  simp [List.length_flatMap, hf]

@[simp] theorem loopBytes_length (ls : List LoopFrame) : (loopBytes ls).length = 128 := by
  unfold loopBytes
  refine flatMap_range_length (c := 16) (fun k => ?_) 8
  split <;> simp

@[simp] theorem callBytes_length (cs : List CallFrame) : (callBytes cs).length = 32 := by
  unfold callBytes
  refine flatMap_range_length (c := 4) (fun k => ?_) 8
  split <;> simp

/-- DSNAP's record has 256 bytes (05, R146; log entry 21, DESIGN CHOICE). -/
theorem dsnapBytes_length (s : State) (v : Stream) : (dsnapBytes s v).length = 256 := by
  simp [dsnapBytes, flatMap_range_length (c := 2)]

theorem State.wr_fr (s : State) (a : Nat) (bs : List Byte) : Fr [.mem, .memBad, .memCorr, .memCe, .memUe] s (s.wr a bs) :=
  fr_wr (fr_refl _ s) (by simp [Within]) a bs

/-- A write to local memory does not look at tokens, streams or Baskets. -/
theorem At.wr {s u : State} {sid : Nat} {h : Hdr} {v : Stream} (hat : At s u sid h v) (a : Nat) (bs : List Byte) :
    At (s.wr a bs) (u.wr a bs) sid h v := by
  obtain ⟨hstr, hbsk, hrest⟩ := hat
  refine ⟨fun j => by rw [wr_str, wr_str, hstr], fun j => by simp only [wr_bsk, wr_str, hbsk], ?_⟩
  have htok := (takeTok_congr (s := s) (u := s.wr a bs) (s.wr_fr a bs .tokens (by decide)) (s.wr_fr a bs .globals (by decide))
    (s.str sid).bsk h.wait)
  rw [wr_str, htok.1, htok.2]
  rw [show (u.wr a bs).streams = u.streams from u.wr_fr a bs .streams (by decide),
    show (u.wr a bs).baskets = u.baskets from u.wr_fr a bs .baskets (by decide)]
  conv_lhs => rw [hrest]
  unfold State.wr State.eccCount
  dsimp only
  split_ifs <;> rfl

theorem State.notice_str (s : State) (kind index : Nat) (detail : Int) (j : Nat) : (s.notice kind index detail).str j = s.str j := by
  unfold State.notice
  dsimp only
  split_ifs <;> rfl

/-- What is put in a table is there. -/
theorem mem_tins_self {α : Type} (k : Nat) (v : α) (t : Tab α) : (k, v) ∈ tins k v t := by
  induction t with
  | nil => simp [tins]
  | cons x t ih =>
    unfold tins
    split_ifs <;> simp [ih]

/-- With room in the mailbox a notice is posted at its tail (13, R427). -/
theorem State.notice_spec (s : State) (kind index : Nat) (detail : Int) (hroom : s.trv.noteTail - s.trv.noteHead ≠ 64) :
    let t := s.notice kind index detail
    t.trv.noteTail = s.trv.noteTail + 1 ∧
    (s.trv.noteTail.toNat % 64, ({ kind := kind, time := s.time, index := index, detail := detail } : Notice)) ∈ t.trv.notes := by
  unfold State.notice
  rw [if_neg hroom]
  exact ⟨rfl, mem_tins_self _ _ _⟩

/-- Settles O10. -/
theorem debugStepsSuspendAndSnapshot : Obligations.DebugStepsSuspendAndSnapshot := by
  unfold Obligations.DebugStepsSuspendAndSnapshot
  constructor <;> intro s sid h v
  case left =>
    intro hr
    have hopc : h.opc ≤ 0x09 ∨ 0xF0 ≤ h.opc := .inr (by simp [hr.code])
    have hptr : ((issued s sid h).str sid).ptr = v.ptr := by rw [issued_str]
    obtain ⟨hstr, hothers, _, _, hrest⟩ := (issued_at s sid h).ctlTo_done (v.ptr + 1) hopc rfl rfl
    obtain ⟨hfr, w, hread⟩ := headRead_spec s sid h
    refine ⟨_, runStep_ready hr effDbrk noHold rfl (by decide), ?_⟩
    unfold effDbrk
    dsimp only
    rw [hptr]
    generalize (issued s sid h).ctlTo sid h (v.ptr + 1) = u at *
    have htrv : u.trv = s.trv := by rw [hrest]; exact hfr .trv (by decide)
    have htime : u.time = s.time := by rw [hrest]; exact hfr .time (by decide)
    let x : Stream := { u.str sid with st := .suspended, cause := 0xF002 }
    have hput : Fr [.mem, .memBad, .memCorr, .memCe, .memUe, .streams] u (u.putStr sid x) :=
      fr_putStr (fr_refl _ u) (by simp [Within]) _ _
    refine ⟨?str, fun hroom => ?note, fun j hj => ?others⟩
    case str => rw [State.notice_str, putStr_str, if_pos rfl, hstr]
    case note =>
      have hnote := (u.putStr sid x).notice_spec 0x20 sid (v.ptr : Int)
      rw [hput .trv (by decide), hput .time (by decide), htrv, htime] at hnote
      exact hnote hroom
    case others => rw [State.notice_str, putStr_str, if_neg hj, hothers j hj, hread, if_neg hj]
  case right =>
    intro bytes hr
    have hopc : h.opc ≤ 0x09 ∨ 0xF0 ≤ h.opc := .inr (by simp [hr.code])
    refine ⟨dsnapBytes_length _ _, _, runStep_ready hr effDsnap noHold rfl (by decide), ?_⟩
    rw [effDsnap, issued_str]
    obtain ⟨hrec, hfab⟩ := plain_of_control hopc
    exact Machine.ctlTo_done v ((issued_at s sid h).wr _ _) (by rw [wr_str]) (by rw [wr_str]) hrec hfab

end Sys2Proof.Machine
end

section
/-! PROOFS. Tokens signalled by a register write (05, R155, R159), and the head step that waits on one too long (05, R156,
R158). -/

namespace Sys2Proof.Machine

/-! ## BSK_TOK_SIG -/

/-- One more on a token: up to 65,535, with OVF where it stood there. -/
theorem Token.add_one (t : Token) : t.add 1 = { count := min 65535 (t.count + 1), ovf := t.ovf || decide (t.count = 65535) } := by
  unfold Token.add sat16 sat
  congr 1

/-- Code 0 and reserved codes signal nothing. -/
theorem State.sig_of_illegal {s : State} {c : Nat} (h : Nat) (hc : c = 0 ∨ tokLegal c = false) : s.sig h c = s := by
  unfold State.sig State.sigK
  rcases hc with hc | hc
  · rw [if_pos hc]
  · split_ifs <;> simp_all

/-- A legal code's token counts one more. -/
theorem State.sig_of_legal {s : State} {c : Nat} (h : Nat) (hc : c ≠ 0) (hlegal : tokLegal c = true) :
    s.sig h c = if 0x81 ≤ c then (s.setTok h c ((s.tok h c).add 1)).tokIrq (c - 0x81) else s.setTok h c ((s.tok h c).add 1) := by
  unfold State.sig State.sigK
  rw [if_neg hc, if_pos hlegal]

/-- Settles O22: the write is a signal, of a Basket's own token up to code 0x20 and of a global one from 0x81 on. -/
theorem tokenSignalWriteAddsOne : Obligations.TokenSignalWriteAddsOne := by
  unfold Obligations.TokenSignalWriteAddsOne
  intro s h w c k hh
  have hexec : exec (.tokenSignalWrite h w) s = .next (s.sig h c) := if_pos (decide_eq_true hh)
  refine ⟨fun hc => ?ignored, fun hc hlegal => ?counted⟩
  case ignored => rw [hexec, State.sig_of_illegal h hc]
  case counted =>
    refine ⟨_, hexec, ?_⟩
    rw [State.sig_of_legal h hc hlegal, Token.add_one]
    by_cases hglobal : 0x81 ≤ c
    · have hbig : ¬ c ≤ 0x20 := by omega
      rw [if_pos hglobal, tokIrq_eq]
      refine ⟨?_, fun hsmall => absurd hsmall hbig, fun _ => ⟨?_, fun n hn => ?_⟩⟩
      · rw [State.setTok, if_neg hbig, State.tok, if_neg hbig]
        exact (tget_tset _ _ _ _ _).trans (if_pos rfl)
      · rw [State.setTok, if_neg hbig]
      · rw [State.setTok, if_neg hbig]
        exact (tget_tset _ _ _ _ _).trans (if_neg hn)
    · have hsmall : c ≤ 0x20 := by
        simp only [tokLegal, Bool.or_eq_true, Bool.and_eq_true, decide_eq_true_eq] at hlegal
        omega
      rw [if_neg hglobal]
      refine ⟨?_, fun _ => ⟨?_, fun n hn => ?_⟩, fun hbig => absurd hsmall hbig.not_ge⟩
      · rw [State.setTok, if_pos hsmall, State.tok, if_pos hsmall]
        exact (tget_tset _ _ _ _ _).trans (if_pos rfl)
      · rw [State.setTok, if_pos hsmall]
      · rw [State.setTok, if_pos hsmall]
        exact (tget_tset _ _ _ _ _).trans (if_neg hn)

/-! ## Aborting a stream -/

theorem State.settleBsk_inflight (s : State) (h j : Nat) : ((s.settleBsk h).bsk j).inflight = (s.bsk j).inflight := by
  unfold State.settleBsk
  dsimp only
  by_cases hserves : inService (s.bsk h) = true
  · rw [if_pos hserves, State.setBsk_bsk]
    by_cases hj : j = h
    · rw [if_pos hj, hj]
    · rw [if_neg hj]
  · rw [if_neg hserves]

/-- A Basket without the steps and MVM runs of stream i, which no longer hold its fast mode. -/
def State.bskWithout (s : State) (i : Nat) : Basket :=
  let b := s.bsk (s.str i).bsk
  let left := b.fastUids.filter (fun u => !((b.inflight.filter (fun r => r.sid = i)).map (·.uid)).contains u)
  { b with
    inflight := b.inflight.filter (fun r => r.sid != i)
    mvms := b.mvms.filter (fun m => m.sid != i)
    fastGrant := b.fastGrant && !(b.fastGrant && left.isEmpty), fastUids := left }

/-- Stopping a stream leaves every Basket but its own, and there all but what was the stream's. -/
theorem State.dropStream_bsk (s : State) (i j : Nat) :
    (s.dropStream i).bsk j = if j = (s.str i).bsk then s.bskWithout i else s.bsk j := by
  have hfr : Fr [.waiting, .pans, .pots, .fastQ, .dzf] (s.setBsk (s.str i).bsk (s.bskWithout i)) (s.dropStream i) := by
    refine fr_mk_waiting_fastQ_dzf (fr_freePots (fr_foldl _ _ _ _ _ (fr_refl _ _) fun u p hu => ?_) (by simp [Within]) _ _ _)
      (by decide) (by decide) (by decide) _ _ _
    exact fr_setPan hu (by simp [Within]) _ _
  rw [hfr.bsk_eq (by decide), State.setBsk_bsk]

theorem putStr_bsk (u : State) (i j : Nat) (v : Stream) : (u.putStr i v).bsk j = u.bsk j := by
  unfold State.putStr
  rw [wrDesc_bsk]
  rfl

theorem wrCtx_bsk (u : State) (i j : Nat) : (u.wrCtx i).bsk j = u.bsk j := wr_bsk _ _ _ _

/-- What aborting a RESIDENT stream changes of it, of its Basket, and what it leaves (07, R234). -/
theorem State.abortStr_of_resident {s : State} {i : Nat} (cause : Nat) (hres : (s.str i).st = .resident) :
    let t := s.abortStr i cause
    ((t.str i).st = .aborted ∧ (t.str i).cause = cause ∧ (t.str i).ptr = (s.str i).ptr ∧ (t.str i).waitSince = none) ∧
    (∀ j, j ≠ i → t.str j = s.str j) ∧ (∀ r, r ∈ (t.bsk (s.str i).bsk).inflight → r.sid ≠ i) := by
  have hdrop : Fr [.waiting, .baskets, .pans, .pots, .fastQ, .dzf] s (s.dropStream i) := fr_dropStream (fr_refl _ s) (by simp [Within]) i
  have hbsk := s.dropStream_bsk i (s.str i).bsk
  unfold State.abortStr
  simp only [hres]
  simp only [reduceCtorEq, false_or, or_false, if_true, if_false]
  generalize s.dropStream i = u at *
  refine ⟨?self, fun j hj => ?others, fun r hr => ?flight⟩
  case self =>
    rw [settle_str, wrCtx_str, putStr_str, if_pos rfl]
    exact ⟨rfl, rfl, rfl, rfl⟩
  case others =>
    rw [settle_str, wrCtx_str, putStr_str, if_neg hj, hdrop.str_eq (by decide)]
  case flight =>
    rw [State.settleBsk_inflight, wrCtx_bsk, putStr_bsk, hbsk, if_pos rfl] at hr
    simpa using (List.mem_filter.mp hr).2

/-- Settles O21: the event is raised and its stream aborted. -/
theorem tokenTimeoutAbortsTheStream : Obligations.TokenTimeoutAbortsTheStream := by
  unfold Obligations.TokenTimeoutAbortsTheStream
  intro s sid τ c v tmo short hsid hwait hres
  have hexec : exec (.tokenTimeout sid) s = .next (if v.st = .resident ∧ tmo ≠ 0 ∧ short then
      (s.at (τ + tmo * 1000000 + 1)).raiseX 0x0404 0x01 v.bsk sid v.bsk v.ptr c else s) := by
    show execTokenTimeout sid s = _
    unfold execTokenTimeout guard
    rw [if_pos (decide_eq_true hsid)]
    dsimp only
    rw [show (s.str sid).waitSince = some (τ, c) from hwait]
  refine ⟨fun hnot => ?stays, fun htmo hshort => ?aborts⟩
  case stays =>
    rw [hexec, if_neg]
    rintro ⟨_, htmo, hshort⟩
    exact hnot.elim htmo (fun h => h hshort)
  case aborts =>
    rw [if_pos ⟨hres, htmo, hshort⟩] at hexec
    refine ⟨_, hexec, ?_⟩
    let u := (s.at (τ + tmo * 1000000 + 1)).raiseS 0x0404 4 0x01 v.bsk sid v.bsk v.ptr c
    have hfr : Fr [.mem, .memBad, .memCorr, .memCe, .memUe, .streams, .waiting, .baskets, .pans, .pots, .fastQ, .dzf, .hq, .dev]
        u (u.abortStr sid 0x0404) := fr_abortStr (fr_refl _ u) (by simp [Within]) _ _
    have htime : (u.abortStr sid 0x0404).time = max s.time (τ + tmo * 1000000 + 1) := hfr .time (by decide)
    obtain ⟨⟨hst, hcause, hptr, hnone⟩, hothers, hflight⟩ := State.abortStr_of_resident (s := u) (i := sid) 0x0404 hres
    refine ⟨htime, hst, hcause, hptr, hnone, hothers, hflight, ?_⟩
    have hevq : (u.abortStr sid 0x0404).evq = u.evq := hfr .evq (by decide)
    refine ⟨{ time := u.time, code := 0x0404, cls := 4, unit := 0x01, index := v.bsk, stream := some sid
              step := shl (v.bsk % 16) 24 + v.ptr % 2 ^ 24, detail := c }, ?_, rfl, rfl, rfl, rfl, rfl, rfl, rfl, htime.symm⟩
    exact hevq.symm ▸ List.mem_append_right _ (List.mem_singleton_self _)

end Sys2Proof.Machine
end

section
/-! PROOFS. MVM and MVMW at issue (05, R169; 06, R203): the block they latch, their Pots' bands, and their walk behind what each
service slot's Pan has to compute. -/

namespace Sys2Proof.Machine

/-! ## What is latched -/

theorem Fr.scale_eq {W : List Field} {s t : State} (hfr : Fr W s t) (hscales : .scales ∉ W) (h i : Nat) :
    t.scale h i = s.scale h i := by
  have hsame : t.scales = s.scales := hfr .scales hscales
  unfold State.scale
  rw [hsame]

/-- The block of a step and what an MVM latches are the same as it issues. -/
theorem mvm_issued (s : State) (sid : Nat) (h : Hdr) (wide : Bool) (uid : Nat) (b : Blk) :
    let v := (issued s sid h).str sid
    (issued s sid h).blkOf v h = s.blkOf (s.str sid) h ∧
    (issued s sid h).mvmRun v b uid sid wide = s.mvmRun (s.str sid) b uid sid wide := by
  obtain ⟨⟨w, hstr⟩, hbsk, _, _, hfr⟩ := issued_spec s sid h
  have hmem : (issued s sid h).mem = s.mem := hfr .mem (by decide)
  have htime : (issued s sid h).time = s.time := hfr .time (by decide)
  have hpot := hfr.pot_eq (by decide)
  have hscale := hfr.scale_eq (by decide)
  have hslots (k : Nat) : bskSlots ((issued s sid h).bsk k) = bskSlots (s.bsk k) := by
    rw [hbsk]
    split_ifs with hk
    · rw [hk]; rfl
    · rfl
  have hrdN (a n : Nat) : (issued s sid h).rdN a n = s.rdN a n := by
    unfold State.rdN State.rd
    rw [hmem]
  rw [hstr, if_pos rfl]
  generalize issued s sid h = u at *
  constructor
  · unfold State.blkOf
    simp only [hrdN]
    rfl
  · unfold State.mvmRun State.wdesc State.zeroPoints
    simp only [htime, hpot, hscale, hslots, hrdN]
    rfl

/-! ## The walk -/

/-- A Pan in a service slot of Basket h computes one walk more. -/
def State.addWalk (h : Nat) (walk : Nat → List CItem) (s : State) (i : Nat) : State :=
  match s.slotPan h i with
  | some p => s.setPan p { s.pan p with computeQ := (s.pan p).computeQ ++ walk i }
  | none => s

theorem State.addWalk_fr (h : Nat) (walk : Nat → List CItem) (s : State) (i : Nat) : Fr [.pans] s (s.addWalk h walk i) := by
  unfold State.addWalk
  split
  · exact fr_setPan (fr_refl _ s) (by simp [Within]) _ _
  · exact fr_refl _ s

theorem State.slotPan_congr {s t : State} (hslot : ∀ p, (t.pan p).slot = (s.pan p).slot) (h i : Nat) :
    t.slotPan h i = s.slotPan h i := by
  unfold State.slotPan
  simp only [hslot]

/-- Only the Pan of the slot changes, in what it has to compute. -/
theorem State.addWalk_pan (h : Nat) (walk : Nat → List CItem) (s : State) (i q : Nat) :
    (s.addWalk h walk i).pan q =
      if s.slotPan h i = some q then { s.pan q with computeQ := (s.pan q).computeQ ++ walk i } else s.pan q := by
  unfold State.addWalk
  cases hp : s.slotPan h i with
  | none => simp
  | some p =>
    dsimp only
    rw [State.setPan_pan]
    by_cases hq : q = p
    · subst hq; simp
    · rw [if_neg hq, if_neg (fun he => hq (Option.some.inj he).symm)]

theorem State.slotPan_addWalk (h : Nat) (walk : Nat → List CItem) (s : State) (i k j : Nat) :
    (s.addWalk h walk i).slotPan k j = s.slotPan k j := by
  refine State.slotPan_congr (fun p => ?_) k j
  rw [State.addWalk_pan]
  split_ifs <;> rfl

/-- The Pan found for a service slot is in that slot. -/
theorem State.slot_of_slotPan {s : State} {h i p : Nat} (hp : s.slotPan h i = some p) : (s.pan p).slot = some i := by
  simpa using List.find?_some hp

/-- A Pan that holds none of the slots stays as it was. -/
theorem State.addWalks_of_no_slot (h : Nat) (walk : Nat → List CItem) {is : List Nat} {q : Nat} (s : State)
    (hq : ∀ i, i ∈ is → s.slotPan h i ≠ some q) : (is.foldl (State.addWalk h walk) s).pan q = s.pan q := by
  induction is generalizing s with
  | nil => rfl
  | cons i is ih =>
    rw [List.foldl_cons, ih _ fun j hj => by rw [State.slotPan_addWalk]; exact hq j (by simp [hj]), State.addWalk_pan,
      if_neg (hq i (by simp))]

/-- Each slot's Pan gets its own walk. -/
theorem State.addWalks_of_slot (h : Nat) (walk : Nat → List CItem) {is : List Nat} (hnd : is.Nodup) {i p : Nat} (hi : i ∈ is)
    (s : State) (hp : s.slotPan h i = some p) :
    (is.foldl (State.addWalk h walk) s).pan p = { s.pan p with computeQ := (s.pan p).computeQ ++ walk i } := by
  induction is generalizing s with
  | nil => cases hi
  | cons j is ih =>
    obtain ⟨hj, hnd⟩ := List.nodup_cons.mp hnd
    rw [List.foldl_cons]
    by_cases hij : i = j
    · subst hij
      rw [State.addWalks_of_no_slot, State.addWalk_pan, if_pos hp]
      intro k hk hkp
      rw [State.slotPan_addWalk] at hkp
      have hslots := (State.slot_of_slotPan hkp).symm.trans (State.slot_of_slotPan hp)
      exact hj (Option.some.inj hslots ▸ hk)
    · have hjp : s.slotPan h j ≠ some p := fun hjp =>
        hij (Option.some.inj ((State.slot_of_slotPan hp).symm.trans (State.slot_of_slotPan hjp)))
      rw [ih hnd ((List.mem_cons.mp hi).resolve_left hij) _ (by rw [State.slotPan_addWalk, hp]), State.addWalk_pan, if_neg hjp]

/-! ## The Pots and the Basket -/

/-- Pots outside a list stay as they were while those in it change. -/
theorem State.foldl_setPot_of_not_mem (f : State → Nat → Pot) (s : State) (h : Nat) {ns : List Nat} {n : Nat} (hn : n ∉ ns) :
    (ns.foldl (fun s i => s.setPot h i (f s i)) s).pot h n = s.pot h n := by
  induction ns generalizing s with
  | nil => rfl
  | cons i ns ih =>
    rw [List.mem_cons, not_or] at hn
    rw [List.foldl_cons, ih _ hn.2]
    have hix : potIx h n ≠ potIx h i := fun hix => hn.1 (Nat.add_left_cancel hix)
    exact (tget_tset _ _ _ _ _).trans (if_neg hix)

/-- Saturated activation codes are counted and told; the Basket keeps its steps, its MVM runs and its count of issues. -/
theorem State.whiskEvents_bsk (s : State) (h sid idx k : Nat) (o : Bool) :
    ∃ n, (s.whiskEvents h sid idx [] [] o).bsk k = { s.bsk k with satCnt := n } := by
  unfold State.whiskEvents
  cases o with
  | false => exact ⟨_, rfl⟩
  | true =>
    by_cases hk : k = h
    · exact ⟨sat32 ((s.bsk h).satCnt + 1), by simp [hk]⟩
    · exact ⟨(s.bsk k).satCnt, by simp [hk]⟩

/-- An MVM's Pots take the bands it will add to them (04, R125). -/
def State.addBands (s : State) (h : Nat) (m : MvmRun) (pots : List Nat) : State :=
  pots.foldl (fun s i =>
    let add := potBands m.r m.k m.n m.p0 m.rp m.cp m.slots m.groups m.p i
    let q := s.pot h i
    s.setPot h i { q with
      bands := add.foldl (fun bs a => tmod natDflt bs a.1 (· + a.2)) q.bands
      depth := max q.depth (depthAfter q.bands add) }) s

/-- An MVM in flight with the record r: its saturation is told, its Pots take their bands, and its Basket keeps its run. -/
def State.mvmTaken (s : State) (sid : Nat) (r : StepRec) (m : MvmRun) (pots : List Nat) : State :=
  let s := if m.outSat then s.whiskEvents r.h sid r.idx [] [] true else s
  let s := s.addBands r.h m pots
  s.setBsk r.h { s.bsk r.h with mvms := (s.bsk r.h).mvms ++ [m] }

theorem mvmIssue_eq (u : State) (sid : Nat) (h : Hdr) (wide : Bool) {b : Blk} {m : MvmRun} {r : StepRec}
    (hb : (u.blkOf (u.str sid) h).2 = b) (hm : u.mvmRun (u.str sid) b (recAt u sid h).uid sid wide = m)
    (hr : { recAt u sid h with pots := mvmPots m.r m.n m.p0 m.rp m.cp, scales := [(fld b 0x4C 2, rbOf m.k)], outSat := m.outSat } = r) :
    u.mvmIssue sid h wide =
      (List.range m.slots).foldl (State.addWalk r.h fun i => walkOf r.uid i (rbOf m.r * rbOf m.k) m.slots (ceilDiv m.n 512))
        ((u.launch sid r).mvmTaken sid r m (mvmPots m.r m.n m.p0 m.rp m.cp)) := by
  subst hb hm hr
  rfl

/-- What an MVM in flight changes before its walk is laid. -/
theorem State.mvmTaken_spec (s : State) (sid : Nat) (r : StepRec) (m : MvmRun) (pots : List Nat) :
    let t := s.mvmTaken sid r m pots
    Fr [.baskets, .evq, .pots] s t ∧ (t.bsk r.h).mvms = (s.bsk r.h).mvms ++ [m] ∧
    (t.bsk r.h).inflight = (s.bsk r.h).inflight ∧ (t.bsk r.h).issueCnt = (s.bsk r.h).issueCnt ∧
    ∀ n, n ∉ pots → t.pot r.h n = s.pot r.h n := by
  have hnoted : Fr [.baskets, .evq] s (if m.outSat then s.whiskEvents r.h sid r.idx [] [] true else s) ∧
      ∃ n, (if m.outSat then s.whiskEvents r.h sid r.idx [] [] true else s).bsk r.h = { s.bsk r.h with satCnt := n } := by
    split_ifs
    · exact ⟨fr_whiskEvents (fr_refl _ s) (by simp [Within]) _ _ _ _ _ _, s.whiskEvents_bsk r.h sid r.idx r.h true⟩
    · exact ⟨fr_refl _ s, _, rfl⟩
  unfold State.mvmTaken
  dsimp only
  generalize (if m.outSat then s.whiskEvents r.h sid r.idx [] [] true else s) = u at *
  obtain ⟨hfr, k, hbsk⟩ := hnoted
  have hbands : Fr [.pots] u (u.addBands r.h m pots) :=
    fr_foldl _ u _ _ _ (fr_refl _ u) fun _ _ hw => fr_setPot hw (by simp [Within]) _ _ _
  have hself : (u.addBands r.h m pots).bsk r.h = { s.bsk r.h with satCnt := k } := (hbands.bsk_eq (by decide) _).trans hbsk
  refine ⟨fr_setBsk ((hfr.mono (by simp [Within])).trans (hbands.mono (by simp [Within]))) (by simp [Within]) _ _, ?_, ?_, ?_,
    fun n hn => ?_⟩
  · rw [State.setBsk_bsk, if_pos rfl, hself]
  · rw [State.setBsk_bsk, if_pos rfl, hself]
  · rw [State.setBsk_bsk, if_pos rfl, hself]
  · exact (State.foldl_setPot_of_not_mem _ u r.h hn).trans (hfr.pot_eq (by decide) _ _)

/-- An MVM that has issued: in flight with its record, its Pots' bands taken and its walk laid. -/
theorem mvmIssue_issued {s : State} {sid : Nat} {h : Hdr} {wide : Bool} {b : Blk} {m : MvmRun} {r : StepRec}
    (hb : (s.blkOf (s.str sid) h).2 = b) (hm : s.mvmRun (s.str sid) b s.nextUid sid wide = m)
    (hr : { recAt s sid h with pots := mvmPots m.r m.n m.p0 m.rp m.cp, scales := [(fld b 0x4C 2, rbOf m.k)], outSat := m.outSat } = r) :
    (issued s sid h).mvmIssue sid h wide =
      (List.range m.slots).foldl (State.addWalk r.h fun i => walkOf r.uid i (rbOf m.r * rbOf m.k) m.slots (ceilDiv m.n 512))
        (((issued s sid h).launch sid r).mvmTaken sid r m (mvmPots m.r m.n m.p0 m.rp m.cp)) := by
  obtain ⟨hblk, hrun⟩ := mvm_issued s sid h wide s.nextUid b
  refine mvmIssue_eq _ sid h wide (by rw [hblk, hb]) ?_ (by rw [recAt_issued]; exact hr)
  rw [recAt_issued, show (recAt s sid h).uid = s.nextUid from rfl, hrun, hm]

theorem exec_mvm {s : State} {sid : Nat} {h : Hdr} {wide : Bool} (hr : HeadReady s sid (if wide then 0x13 else 0x12) h)
    (hhold : mvmHold (headRead s sid h) sid h = false) :
    exec (if wide then .mvmw sid else .mvm sid) s = .next ((issued s sid h).mvmIssue sid h wide) := by
  cases wide
  · exact runStep_ready hr (fun s sid h => s.mvmIssue sid h false) mvmHold hhold (by decide)
  · exact runStep_ready hr (fun s sid h => s.mvmIssue sid h true) mvmHold hhold (by decide)

/-- Settles O14: the step goes in flight, its run and bands are kept, and each slot's Pan gets its own part of the walk. -/
theorem mvmWalksEverySlot : Obligations.MvmWalksEverySlot := by
  unfold Obligations.MvmWalksEverySlot
  intro s sid h wide
  dsimp only
  generalize hb : (s.blkOf (s.str sid) h).2 = b
  generalize hm : s.mvmRun (s.str sid) b s.nextUid sid wide = m
  generalize hr : ({ recAt s sid h with pots := mvmPots m.r m.n m.p0 m.rp m.cp, scales := [(fld b 0x4C 2, rbOf m.k)], outSat := m.outSat } : StepRec) = r
  intro hready hhold
  have hrh : r.h = (s.str sid).bsk := by rw [← hr]; rfl
  have huid : r.uid = s.nextUid := by rw [← hr]; rfl
  have hexec := exec_mvm hready hhold
  rw [mvmIssue_issued hb hm hr, hrh, huid] at hexec
  obtain ⟨hgoes, hflight, hlaunch⟩ := launch_issued s sid h hrh
  obtain ⟨htaken, hmvms, hsame, hcount, hpots⟩ := ((issued s sid h).launch sid r).mvmTaken_spec sid r m
    (mvmPots m.r m.n m.p0 m.rp m.cp)
  have hlaunchMvms : (((issued s sid h).launch sid r).bsk r.h).mvms = (s.bsk r.h).mvms := by
    obtain ⟨_, hbsk, _⟩ := (issued s sid h).launch_spec sid r
    obtain ⟨_, hissued, _⟩ := issued_spec s sid h
    rw [hbsk, hissued, hrh, if_pos rfl]
  generalize (issued s sid h).launch sid r = u at *
  generalize u.mvmTaken sid r m (mvmPots m.r m.n m.p0 m.rp m.cp) = x at *
  rw [hrh] at *
  generalize hwalk : (fun i => walkOf s.nextUid i (rbOf m.r * rbOf m.k) m.slots (ceilDiv m.n 512)) = walk at hexec
  have hwalks : Fr [.pans] x ((List.range m.slots).foldl (State.addWalk (s.str sid).bsk walk) x) :=
    fr_foldl _ x _ _ _ (fr_refl _ x) fun y i hy => hy.trans (y.addWalk_fr _ walk i)
  have hpan (p : Nat) : x.pan p = s.pan p := (htaken.pan_eq (by decide) p).trans (hlaunch.pan_eq (by decide) p)
  have hslot (i : Nat) : x.slotPan (s.str sid).bsk i = s.slotPan (s.str sid).bsk i :=
    State.slotPan_congr (fun p => by rw [hpan]) _ i
  refine ⟨_, hexec, ?goes, ?flies, ?mvms, fun i p hi hp => ?walked, fun p hp => ?others, fun n hn => ?pots, fun a => ?bytes⟩
  case goes =>
    refine hgoes.of_fr (W := [.baskets, .evq, .pots, .pans]) ((htaken.mono (by simp [Within])).trans (hwalks.mono (by simp [Within]))) ?_ (by decide)
    rw [hwalks.bsk_eq (by decide), hcount]
  case flies =>
    unfold FlyingAs
    rw [hwalks.bsk_eq (by decide), hsame, hflight]
    exact List.mem_append_right _ (List.mem_singleton_self r)
  case mvms => rw [hwalks.bsk_eq (by decide), hmvms, hlaunchMvms]
  case walked =>
    rw [State.addWalks_of_slot _ walk List.nodup_range (List.mem_range.mpr hi) x ((hslot i).trans hp), hpan, ← hwalk]
  case others =>
    rw [State.addWalks_of_no_slot _ walk x (fun i hi => by rw [hslot]; exact hp i (List.mem_range.mp hi)), hpan]
  case pots =>
    rw [hwalks.pot_eq (by decide), hpots n hn, hlaunch.pot_eq (by decide)]
  case bytes =>
    have hmem : ((List.range m.slots).foldl (State.addWalk (s.str sid).bsk walk) x).mem = s.mem :=
      (hwalks .mem (by decide)).trans ((htaken .mem (by decide)).trans (hlaunch .mem (by decide)))
    unfold State.rdB
    rw [hmem]

end Sys2Proof.Machine
end

section
/-! PROOFS. The start of a 4 µs interval (05, R176 to R181; log entry 134, DEDUCED): each Basket moves its own Pans' levels on,
from what it and they were before, whatever the Baskets before it have done. That the level of a RETIRED Pan falls is log entry
67 (DEDUCED). -/

namespace Sys2Proof.Machine

/-! ## The plan -/

/-- With ramps on, the plan moves a level by one at most, and not above full. -/
theorem planLevel_ramps (full waited : Bool) (cap work now next : Nat) {sent : Nat} (hsent : sent ≤ 16) :
    let l := planLevel false full waited cap work now next sent
    l ≤ sent + 1 ∧ sent ≤ l + 1 ∧ (cap ≤ 16 → l ≤ 16) := by
  unfold planLevel
  cases full
  · by_cases hfall : (waited || decide (cap < sent)) = true
    · simp only [hfall, Bool.false_eq_true, if_false, if_true]
      omega
    · have hcap : sent ≤ cap := by
        simp only [Bool.or_eq_true, decide_eq_true_eq, not_or] at hfall
        omega
      simp only [hfall, Bool.false_eq_true, if_false]
      split_ifs <;> omega
  · simp only [Bool.false_eq_true, if_false, if_true]
    omega

/-! ## One Basket -/

theorem mem_bskPans_iff {h q : Nat} : q ∈ bskPans h ↔ panBsk q = h := by
  rw [mem_bskPans]
  unfold panBsk
  constructor
  · rintro ⟨k, hk, rfl⟩
    omega
  · intro hq
    exact ⟨q % 17, Nat.mod_lt _ (by decide), by omega⟩

/-- What Pan q of Basket h becomes at the start of an interval. -/
def State.rampedPan (s : State) (h q : Nat) : Pan :=
  rampPan (bit (s.bsk h).seqCfg.toNat 16) (s.atFull q)
    (levelCap ((s.bsk h).rateNext.getD (s.bsk h).rate) ((s.pan q).margin = 2)) (s.workOf q) (s.pan q)

theorem State.rampBsk_pan (s : State) (held filler h q : Nat) :
    (s.rampBsk held filler h).pan q = if panBsk q = h then s.rampedPan h q else s.pan q := by
  let cap (p : Nat) : Nat := levelCap ((s.bsk h).rateNext.getD (s.bsk h).rate) ((s.pan p).margin = 2)
  let f (p : Nat) : Pan → Pan := rampPan (bit (s.bsk h).seqCfg.toNat 16) (s.atFull p) (cap p) (s.workOf p)
  obtain ⟨x, hx⟩ : ∃ x, s.rampBsk held filler h = (s.setBsk h x).eachPan id f (bskPans h) := ⟨_, rfl⟩
  have hnd : ((bskPans h).map id).Nodup := by
    rw [List.map_id]
    exact bskPans_nodup h
  rw [hx]
  by_cases hq : panBsk q = h
  · rw [if_pos hq]
    exact State.eachPan_of_mem id f _ hnd (mem_bskPans_iff.mpr hq)
  · rw [if_neg hq, State.eachPan_of_not_mem id f _ _ (by rw [List.map_id, mem_bskPans_iff]; exact hq)]
    rfl

theorem State.rampBsk_bsk (s : State) (held filler h k : Nat) : ∃ late fill, (s.rampBsk held filler h).bsk k = if k = h then
    { s.bsk h with
      lateCnt := late, fillCnt := fill
      stallRamp := if (bskPans h).any (fun p => (s.pan p).paced) then sat32 ((s.bsk h).stallRamp + held) else (s.bsk h).stallRamp }
    else s.bsk k := by
  obtain ⟨late, fill, f, hf⟩ : ∃ late fill f, s.rampBsk held filler h = (s.setBsk h { s.bsk h with
      lateCnt := late, fillCnt := fill
      stallRamp := if (bskPans h).any (fun p => (s.pan p).paced) then sat32 ((s.bsk h).stallRamp + held)
        else (s.bsk h).stallRamp }).eachPan id f (bskPans h) := ⟨_, _, _, rfl⟩
  refine ⟨late, fill, ?_⟩
  rw [hf, (State.eachPan_fr _ _ _ _).bsk_eq (by decide), State.setBsk_bsk]

/-! ## The Baskets in turn -/

/-- t is s as far as the interval's start of Basket h goes: its Pans, its own fields, and what holds Pans at A = 16. -/
structure RampSame (h : Nat) (s t : State) : Prop where
  bsk : t.bsk h = s.bsk h
  pans : ∀ q, panBsk q = h → t.pan q = s.pan q
  cal : t.cal = s.cal
  runs : t.startupRuns = s.startupRuns

theorem RampSame.trans {h : Nat} {s t u : State} (hst : RampSame h s t) (htu : RampSame h t u) : RampSame h s u :=
  ⟨htu.bsk.trans hst.bsk, fun q hq => (htu.pans q hq).trans (hst.pans q hq), htu.cal.trans hst.cal, htu.runs.trans hst.runs⟩

/-- What a Pan becomes depends on no more than that. -/
theorem RampSame.rampedPan {h : Nat} {s t : State} (hst : RampSame h s t) {q : Nat} (hq : panBsk q = h) :
    t.rampedPan h q = s.rampedPan h q := by
  unfold State.rampedPan State.atFull State.workOf
  rw [hq, hst.bsk, hst.pans q hq, hst.cal, hst.runs]

theorem RampSame.paced {h : Nat} {s t : State} (hst : RampSame h s t) :
    (bskPans h).any (fun p => (t.pan p).paced) = (bskPans h).any (fun p => (s.pan p).paced) := by
  rw [Bool.eq_iff_iff, List.any_eq_true, List.any_eq_true]
  refine exists_congr fun p => and_congr_right fun hp => ?_
  rw [hst.pans p (mem_bskPans_iff.mp hp)]

/-- A Basket's interval starts without a change of another's state, nor of whether a start-up sweep may run. -/
theorem State.rampBsk_same (s : State) (held filler : Nat) {h k : Nat} (hk : k ≠ h) : RampSame k s (s.rampBsk held filler h) := by
  have hfr : Fr [.baskets, .pans] s (s.rampBsk held filler h) := fr_rampBsk (fr_refl _ s) (by simp [Within]) _ _ _
  refine ⟨?_, fun q hq => ?_, hfr .cal (by decide), ?_⟩
  · obtain ⟨_, _, hbsk⟩ := s.rampBsk_bsk held filler h k
    rw [hbsk, if_neg hk]
  · rw [State.rampBsk_pan, if_neg (by rw [hq]; exact hk)]
  · have hcold (j : Nat) : ((s.rampBsk held filler h).bsk j).st = (s.bsk j).st ∧
        ((s.rampBsk held filler h).bsk j).coldSweep = (s.bsk j).coldSweep := by
      obtain ⟨_, _, hbsk⟩ := s.rampBsk_bsk held filler h j
      by_cases hj : j = h
      · rw [hbsk, if_pos hj, hj]
        exact ⟨rfl, rfl⟩
      · rw [hbsk, if_neg hj]
        exact ⟨rfl, rfl⟩
    have hket : (s.rampBsk held filler h).ket = s.ket := hfr .ket (by decide)
    unfold State.startupRuns State.coil
    simp only [hcold, hket]

/-- The Baskets of a list start their interval in turn. -/
def State.rampBsks (s : State) (held filler : List Nat) (hs : List Nat) : State :=
  hs.foldl (fun s h => s.rampBsk (held.getD h 0) (filler.getD h 0) h) s

theorem State.rampBsks_cons (s : State) (held filler : List Nat) (h : Nat) (hs : List Nat) :
    s.rampBsks held filler (h :: hs) = (s.rampBsk (held.getD h 0) (filler.getD h 0) h).rampBsks held filler hs := by
  unfold State.rampBsks
  rw [List.foldl_cons]

theorem State.rampBsks_same (s : State) (held filler : List Nat) {hs : List Nat} {k : Nat} (hk : k ∉ hs) :
    RampSame k s (s.rampBsks held filler hs) := by
  induction hs generalizing s with
  | nil => exact ⟨rfl, fun _ _ => rfl, rfl, rfl⟩
  | cons h hs ih =>
    rw [List.mem_cons, not_or] at hk
    rw [State.rampBsks_cons]
    exact (s.rampBsk_same _ _ hk.1).trans (ih _ hk.2)

/-- Each Basket of the list starts its interval from what it was before. -/
theorem State.rampBsks_spec (s : State) (held filler : List Nat) {hs : List Nat} (hnd : hs.Nodup) {h : Nat} (hh : h ∈ hs) :
    (∀ q, panBsk q = h → (s.rampBsks held filler hs).pan q = s.rampedPan h q) ∧
    ((s.rampBsks held filler hs).bsk h).stallRamp = if (bskPans h).any (fun p => (s.pan p).paced) then
      sat32 ((s.bsk h).stallRamp + held.getD h 0) else (s.bsk h).stallRamp := by
  induction hs generalizing s with
  | nil => cases hh
  | cons k hs ih =>
    obtain ⟨hk, hnd⟩ := List.nodup_cons.mp hnd
    rw [State.rampBsks_cons]
    by_cases hkh : h = k
    · subst hkh
      have hrest := (s.rampBsk (held.getD h 0) (filler.getD h 0) h).rampBsks_same held filler hk
      refine ⟨fun q hq => (hrest.pans q hq).trans ?_, (congrArg Basket.stallRamp hrest.bsk).trans ?_⟩
      · rw [State.rampBsk_pan, if_pos hq]
      · obtain ⟨_, _, hbsk⟩ := s.rampBsk_bsk (held.getD h 0) (filler.getD h 0) h h
        rw [hbsk, if_pos rfl]
    · have hfirst := s.rampBsk_same (held.getD k 0) (filler.getD k 0) hkh
      obtain ⟨hpan, hstall⟩ := ih (s.rampBsk (held.getD k 0) (filler.getD k 0) k) hnd ((List.mem_cons.mp hh).resolve_left hkh)
      refine ⟨fun q hq => (hpan q hq).trans (hfirst.rampedPan hq), ?_⟩
      rw [hstall, hfirst.paced, hfirst.bsk]

/-! ## The interval -/

/-- A sweep whose measurements begin loses its banks; levels and what was driven stay. -/
theorem State.startMeasure_pan (s : State) (q : Nat) :
    ∃ a b w, s.startMeasure.pan q = { s.pan q with a := a, b := b, wrUntil := w } := by
  unfold State.startMeasure
  split
  · next w hw =>
    dsimp only
    split_ifs
    · by_cases hq : q = w.pan
      · exact ⟨{}, {}, 0, (State.setPan_pan _ _ _ _).trans (by rw [if_pos hq, hq])⟩
      · exact ⟨_, _, _, (State.setPan_pan _ _ _ _).trans (if_neg hq)⟩
    · exact ⟨_, _, _, rfl⟩
  · exact ⟨_, _, _, rfl⟩

/-- Interval k has come at 4k µs. -/
def State.intervalAt (s : State) (k : Nat) : State := { s.at (4000 * k) with dev := { s.dev with rampK := k } }

/-- What the start of an interval makes of a Pan, but for the banks of one that is being swept, and of its Basket. -/
theorem State.ramp_spec (s : State) (held filler : List Nat) {p : Nat} (hp : p < 272) :
    let k := nextDue s.dev.rampK s.time 4000
    let t := s.ramp held filler
    t.time = 4000 * k ∧ t.dev.rampK = k ∧
    (∃ a b w, t.pan p = { s.rampedPan (panBsk p) p with a := a, b := b, wrUntil := w }) ∧
    (t.bsk (panBsk p)).stallRamp = if (bskPans (panBsk p)).any (fun q => (s.pan q).paced) then
      sat32 ((s.bsk (panBsk p)).stallRamp + held.getD (panBsk p) 0) else (s.bsk (panBsk p)).stallRamp := by
  intro k t
  have hin : panBsk p ∈ List.range 16 := List.mem_range.mpr (by unfold panBsk; omega)
  have hsame : RampSame (panBsk p) s (s.intervalAt k) := ⟨rfl, fun _ _ => rfl, rfl, rfl⟩
  have hmax : (s.intervalAt k).time = 4000 * k := max_nextDue _ _ _ (by decide)
  have hrampK : (s.intervalAt k).dev.rampK = k := rfl
  obtain ⟨hpan, hstall⟩ := (s.intervalAt k).rampBsks_spec held filler List.nodup_range hin
  have hramps : Fr [.baskets, .pans] (s.intervalAt k) ((s.intervalAt k).rampBsks held filler (List.range 16)) :=
    fr_foldl _ _ _ _ _ (fr_refl _ _) fun _ _ hy => fr_rampBsk hy (by simp [Within]) _ _ _
  obtain ⟨c, ht⟩ : ∃ c, t = { ((s.intervalAt k).rampBsks held filler (List.range 16)).startMeasure with cal := c } := ⟨_, rfl⟩
  generalize (s.intervalAt k).rampBsks held filler (List.range 16) = x at *
  generalize s.intervalAt k = u at *
  obtain ⟨a, b, w, hx⟩ := x.startMeasure_pan p
  have hmeasure : Fr [.pans, .cal] x t := by
    rw [ht]
    exact fr_mk_cal (fr_startMeasure (fr_refl _ x) (by simp [Within])) (by decide) _
  have htpan : t.pan p = x.startMeasure.pan p := by rw [ht]; rfl
  generalize t = y at *
  have hdev : y.dev = u.dev := (hmeasure .dev (by decide)).trans (hramps .dev (by decide))
  refine ⟨?time, by rw [hdev, hrampK], ⟨a, b, w, ?pan⟩, ?stall⟩
  case time => exact ((hmeasure .time (by decide)).trans (hramps .time (by decide))).trans hmax
  case pan => rw [htpan, hx, hpan p rfl, hsame.rampedPan rfl]
  case stall => rw [hmeasure.bsk_eq (by decide), hstall, hsame.paced, hsame.bsk]

/-- Settles O29: the levels are those of `State.rampedPan`, and the plan moves them by one at most. -/
theorem rampMovesLevelsOn : Obligations.RampMovesLevelsOn := by
  unfold Obligations.RampMovesLevelsOn
  intro s p held filler v b off k cap hclock hp
  obtain ⟨htime, hk, ⟨a, a', w, hpan⟩, hstall⟩ := s.ramp_spec held filler hp
  refine ⟨s.ramp held filler, congrArg Host.Outcome.next (if_pos hclock), htime, hk, ?_⟩
  rw [hpan, hstall]
  refine ⟨rfl, rfl, rfl, rfl, rfl, rfl, rfl, fun hoff hsent => ?_⟩
  have hplan := planLevel_ramps (s.atFull p) (v.waited || decide (v.mode = .retired)) cap (s.workOf p) v.lvlNext v.lvlSent hsent
  rw [← hoff] at hplan
  exact hplan

end Sys2Proof.Machine
end

section
/-! PROOFS. YIELD's suspension (05, R183; 10, R332), migration (07, R237 to R239) and placement (07, R232). The two commands of a
move are log entry 121, and where a stream goes that yields to a test is log entry 122 (both DESIGN CHOICES). -/

namespace Sys2Proof.Machine

/-! ## YIELD -/

/-- The stream of a YIELD that stays on its Basket. -/
def Stream.atItsYield (v : Stream) : Stream := { v with st := .suspended, cause := 0xF001, waitSince := none, atYield := true }

/-- What becomes of a stream at its YIELD: for a test it leaves where a Basket takes it, else it is suspended. -/
def State.yielded (s : State) (sid : Nat) : State :=
  match s.moveTarget sid (s.str sid).bsk with
  | some g => if (s.bsk (s.str sid).bsk).testDefer.isSome then s.sendAway sid g true else s.putStr sid (s.str sid).atItsYield
  | none => s.putStr sid (s.str sid).atItsYield

theorem State.yielded_of_stay {s : State} {sid : Nat}
    (hstay : (s.bsk (s.str sid).bsk).testDefer = none ∨ s.moveTarget sid (s.str sid).bsk = none) :
    s.yielded sid = s.putStr sid (s.str sid).atItsYield := by
  unfold State.yielded
  split
  · next g hg =>
    have htest := hstay.resolve_right (by simp [hg])
    simp [htest]
  · rfl

theorem State.yielded_of_test {s : State} {sid g : Nat} (htest : (s.bsk (s.str sid).bsk).testDefer ≠ none)
    (hg : s.moveTarget sid (s.str sid).bsk = some g) : s.yielded sid = s.sendAway sid g true := by
  unfold State.yielded
  rw [hg]
  exact if_pos (Option.isSome_iff_ne_none.mpr htest)

/-- A YIELD with something pending, and no step of its stream in flight, suspends its stream or sends it away. -/
theorem exec_yieldSuspend {s : State} {sid : Nat} (hsid : sid < 131072) (hlive : s.issues sid = true)
    (htable : (s.str sid).ptr < (s.str sid).tblSteps) (hopc : (hdrOf (s.rdN (s.str sid).stepAddr 16)).opc = 0x09)
    (hpred : predHolds (s.str sid).flags (hdrOf (s.rdN (s.str sid).stepAddr 16)).pred = true)
    (hvalid : s.validate sid (hdrOf (s.rdN (s.str sid).stepAddr 16)) = none) (hmove : s.movePending sid = true)
    (hflight : ∀ r, r ∈ (s.bsk (s.str sid).bsk).inflight → r.sid ≠ sid) :
    exec (.yieldSuspend sid) s = .next (s.yielded sid) := by
  have hany : (s.bsk (s.str sid).bsk).inflight.any (fun r => decide (r.sid = sid)) = false := by
    rw [List.any_eq_false]
    simpa using hflight
  refine (if_pos (decide_eq_true hsid)).trans (congrArg Host.Outcome.next (if_pos ?_))
  simp [hlive, htable, hopc, hpred, hvalid, hmove, hany]

/-! ## MIGRATE -/

/-- MIGRATE where nothing refuses it (07, R237). -/
theorem State.cmdMigrate_of_good {s : State} {i g : Nat} (hst : (s.str i).st = .resident ∨ (s.str i).st = .suspended)
    (hdesc : descBad (s.descNum i) = false) (htakes : s.takesStream (s.readDesc i (s.str i)).aff g = true)
    (hmig : s.migBad i g (s.readDesc i (s.str i)) = none) :
    s.cmdMigrate i g = ((s.putStr i { s.readDesc i (s.str i) with
      st := .migrating, migTo := some g, wasRes := (s.str i).st = .resident, waitSince := none
      bsk := if (s.str i).migSaved then g else (s.str i).bsk }).settleBsk (s.str i).bsk, none) := by
  unfold State.cmdMigrate
  simp only [if_pos hst, hdesc, htakes, hmig, Bool.not_true, Bool.false_eq_true, if_false]
  rfl

/-! ## The move: saving -/

/-- Where no word is bad, a region reads good. -/
theorem State.regionBad_of_sound {s : State} (hbad : s.memBad = []) (t : Stream) (r : Region) : s.regionBad t r = none := by
  unfold State.regionBad
  simp [hbad]

/-- What saving Pots leaves, as long as no word of memory is bad. -/
def migKept : List Field := [.mem, .memBad, .memCorr, .memCe, .memUe, .streams, .pots]

theorem State.wr_memBad_nil {s : State} (hbad : s.memBad = []) (a : Nat) (bs : List Byte) : (s.wr a bs).memBad = [] := by
  unfold State.wr State.eccCount
  dsimp only
  split_ifs <;> simp [hbad]

theorem State.spilled_memBad_nil {s : State} (hbad : s.memBad = []) (h n buf sid : Nat) : (s.spilled h n buf sid).1.memBad = [] := by
  have hscrub : Fr [.memCorr, .memCe, .memUe] s (s.scrubRegions (s.str sid) [spillRegion (s.pot h n) buf]) :=
    fr_scrubRegions (fr_refl _ s) (by simp [Within]) _ _
  unfold State.spilled State.spillInto
  exact State.wr_memBad_nil ((hscrub .memBad (by decide)).trans hbad) _ _

/-- What saving the Pots ns of Basket h for stream i makes of a state: each is FREE and on the stream's list, nothing else of
streams or Pots changes. -/
structure PotsSaved (i h : Nat) (ns : List Nat) (s t : State) : Prop where
  frame : Fr migKept s t
  sound : t.memBad = []
  str : ∃ l, l.map Prod.fst = ns ∧
    ∀ j, t.str j = if j = i then { s.str i with migPots := (s.str i).migPots ++ l } else s.str j
  freed : ∀ n, n ∈ ns → (t.pot h n).st = .free
  kept : ∀ n, n ∉ ns → t.pot h n = s.pot h n

/-- An unbound Pot's new region is zeroed before the Pot is saved into it (07, R238). -/
def State.zeroed (s : State) (i n buf : Nat) : State :=
  let p := s.pot (s.str i).bsk n
  if p.bound.isNone then s.wr ((s.str i).win buf) (List.replicate (16 * p.rp * p.cp) 0) else s

theorem State.zeroed_spec {s : State} (i n buf : Nat) (hbad : s.memBad = []) :
    Fr [.mem, .memBad, .memCorr, .memCe, .memUe] s (s.zeroed i n buf) ∧ (s.zeroed i n buf).memBad = [] := by
  unfold State.zeroed
  dsimp only
  split_ifs
  · exact ⟨fr_wr (fr_refl _ s) (by simp [Within]) _ _, State.wr_memBad_nil hbad _ _⟩
  · exact ⟨fr_refl _ s, hbad⟩

/-- A Pot of stream i whose spill goes well is FREE and stands on the stream's list. -/
theorem State.migPot_of_spilled {s x : State} {i n : Nat} {o : Bool} (next : Nat) (ovf : Bool) (hst : (s.str i).st = .migrating)
    (hspill : (s.zeroed i n ((s.pot (s.str i).bsk n).bound.getD next)).spillPot (s.str i).bsk n
      ((s.pot (s.str i).bsk n).bound.getD next) i (s.str i).ptr = (x, some o)) :
    ∃ e, e.1 = n ∧ (s.migPot i n next ovf).1 =
      (x.setStr i { x.str i with migPots := (s.str i).migPots ++ [e] }).setPot (s.str i).bsk n
        { x.pot (s.str i).bsk n with pred := .free, predBound := none } := by
  unfold State.zeroed at hspill
  unfold State.migPot
  simp only [hst, ne_eq, not_true_eq_false, if_false]
  simp only at hspill
  rw [hspill]
  exact ⟨(n, _), rfl, rfl⟩

/-- A spill without errors writes memory alone, but for its Pot, which is FREE. -/
theorem State.spillPot_frees {u : State} {h n : Nat} (buf sid idx : Nat) (hecc : (u.pot h n).ecc = []) (hbad : u.memBad = []) :
    ∃ x q o, u.spillPot h n buf sid idx = (x.setPot h n q, some o) ∧ Fr [.mem, .memBad, .memCorr, .memCe, .memUe] u x ∧
      x.memBad = [] ∧ q.st = .free :=
  ⟨_, _, _, State.spillPot_of_good idx hecc (State.regionBad_of_sound hbad _ _), (u.spilled_spec h n buf sid).1,
    State.spilled_memBad_nil hbad h n buf sid, rfl⟩

/-- One Pot without an error in its SRAM is saved (07, R238). -/
theorem State.migPot_saves {s : State} {i n : Nat} (next : Nat) (ovf : Bool) (hst : (s.str i).st = .migrating)
    (hecc : (s.pot (s.str i).bsk n).ecc = []) (hbad : s.memBad = []) :
    PotsSaved i (s.str i).bsk [n] s (s.migPot i n next ovf).1 := by
  obtain ⟨hzero, hsound⟩ := State.zeroed_spec i n ((s.pot (s.str i).bsk n).bound.getD next) hbad
  obtain ⟨x, q, o, hspill, hspilled, hgood, hfree⟩ := State.spillPot_frees ((s.pot (s.str i).bsk n).bound.getD next) i (s.str i).ptr
    (by rw [hzero.pot_eq (by decide), hecc]) hsound
  obtain ⟨e, rfl, hmig⟩ := State.migPot_of_spilled next ovf hst hspill
  have hfr : Fr [.mem, .memBad, .memCorr, .memCe, .memUe] s x := hzero.trans hspilled
  have hstr (j : Nat) : x.str j = s.str j := hfr.str_eq (by decide) j
  rw [hmig]
  refine ⟨?frame, hgood, ⟨[e], rfl, fun j => ?str⟩, fun n hn => ?freed, fun n hn => ?kept⟩
  case frame =>
    exact fr_setPot (fr_setStr (fr_setPot (hfr.mono (by simp [Within, migKept])) (by simp [Within, migKept]) _ _ _)
      (by simp [Within, migKept]) _ _) (by simp [Within, migKept]) _ _ _
  case str =>
    simp only [State.setPot_keeps, State.setStr_str, hstr]
  case freed =>
    obtain rfl : n = e.1 := by simpa using hn
    simp [hfree]
  case kept =>
    have hne : n ≠ e.1 := by simpa using hn
    simp only [State.setPot_pot, if_neg hne, State.setStr_keeps]
    exact hfr.pot_eq (by decide) _ n

/-- Saving Pots one list after another. -/
theorem PotsSaved.cons {i h n : Nat} {ns : List Nat} {s t u : State} (hn : n ∉ ns) (hst : PotsSaved i h [n] s t)
    (htu : PotsSaved i h ns t u) : PotsSaved i h (n :: ns) s u := by
  obtain ⟨l, hl, hstr⟩ := hst.str
  obtain ⟨l', hl', hstr'⟩ := htu.str
  refine ⟨hst.frame.trans htu.frame, htu.sound, ⟨l ++ l', by simp [hl, hl'], fun j => ?_⟩, fun m hm => ?_, fun m hm => ?_⟩
  · rw [hstr', hstr, hstr, if_pos rfl]
    split_ifs <;> simp
  · rcases List.mem_cons.mp hm with rfl | hm
    · rw [htu.kept m hn, hst.freed m (by simp)]
    · exact htu.freed m hm
  · rw [List.mem_cons, not_or] at hm
    rw [htu.kept m hm.2, hst.kept m (by simpa using hm.1)]

/-- The Pots of a list are saved one after another. -/
theorem State.migPots_saves {s : State} {i : Nat} {ns : List Nat} (hnd : ns.Nodup) (next : Nat) (ovf : Bool)
    (hst : (s.str i).st = .migrating) (hecc : ∀ n, n ∈ ns → (s.pot (s.str i).bsk n).ecc = []) (hbad : s.memBad = []) :
    PotsSaved i (s.str i).bsk ns s
      (ns.foldl (fun (a : State × Nat × Bool) n => a.1.migPot i n a.2.1 a.2.2) (s, next, ovf)).1 := by
  induction ns generalizing s next ovf with
  | nil =>
    refine ⟨fr_refl _ s, hbad, ⟨[], rfl, fun j => ?_⟩, by simp, fun _ _ => rfl⟩
    show s.str j = _
    split_ifs with hj <;> simp [hj]
  | cons n ns ih =>
    obtain ⟨hn, hnd⟩ := List.nodup_cons.mp hnd
    have hfirst := State.migPot_saves next ovf hst (hecc n (by simp)) hbad
    rw [List.foldl_cons]
    generalize s.migPot i n next ovf = a at *
    obtain ⟨u, next', ovf'⟩ := a
    obtain ⟨l, _, hstr⟩ := hfirst.str
    have hself := (hstr i).trans (if_pos rfl)
    have hbsk : (u.str i).bsk = (s.str i).bsk := by rw [hself]
    have hrest := ih hnd next' ovf' (s := u) (by rw [hself, hst]) (fun m hm => ?_) hfirst.sound
    · rw [hbsk] at hrest
      exact hfirst.cons hn hrest
    · rw [hbsk, hfirst.kept m (by simp only [List.mem_singleton]; rintro rfl; exact hn hm)]
      exact hecc m (by simp [hm])

theorem State.ownPots_congr {s u : State} {h : Nat} (hpot : ∀ n, u.pot h n = s.pot h n) (i : Nat) (st : PotState) :
    u.ownPots h i st = s.ownPots h i st := by
  unfold State.ownPots
  simp only [hpot]

theorem State.ownPots_nodup (s : State) (h i : Nat) (st : PotState) : (s.ownPots h i st).Nodup :=
  List.nodup_range.filter _

/-- The saved stream's context goes to memory, and its Basket is the target. -/
def State.sendOff (s : State) (i g h : Nat) : State :=
  ((s.wrCtx i).putStr i { (s.wrCtx i).str i with bsk := g, migSaved := true }).settleBsk h

theorem State.sendOff_spec (s : State) (i g h : Nat) :
    Fr [.mem, .memBad, .memCorr, .memCe, .memUe, .streams, .baskets] s (s.sendOff i g h) ∧
    ∀ j, (s.sendOff i g h).str j = if j = i then { s.str i with bsk := g, migSaved := true } else s.str j := by
  refine ⟨?_, fun j => ?_⟩
  · exact fr_settleBsk (fr_putStr (fr_wrCtx (fr_refl _ s) (by simp [Within]) _) (by simp [Within]) _ _) (by simp [Within]) _
  · unfold State.sendOff
    rw [settle_str, putStr_str, wrCtx_str, wrCtx_str]

/-- A spill that was not finite is one POT_OVF of the stream (04, R120). -/
def State.migOvf (s : State) (i h ptr : Nat) (ovf : Bool) : State :=
  if ovf then (s.setBsk h { s.bsk h with potOvfCnt := sat32 ((s.bsk h).potOvfCnt + 1) }).raiseS 0x0202 0 0x01 h i h ptr 0 else s

theorem State.migOvf_fr (s : State) (i h ptr : Nat) (ovf : Bool) : Fr [.baskets, .evq] s (s.migOvf i h ptr ovf) := by
  unfold State.migOvf
  split_ifs
  · exact fr_raiseS (fr_setBsk (fr_refl _ s) (by simp [Within]) _ _) (by simp [Within]) _ _ _ _ _ _ _ _
  · exact fr_refl _ s

/-- The images of the stream's entries are in memory, and its list of Pots starts anew (07, R238). -/
def State.imaged (s : State) (i : Nat) : State := (s.setStr i { s.str i with migPots := [] }).migImages i

theorem State.imaged_spec (s : State) (i : Nat) :
    Fr [.mem, .memBad, .memCorr, .memCe, .memUe, .streams] s (s.imaged i) ∧
    (∀ j, (s.imaged i).str j = if j = i then { s.str i with migPots := [] } else s.str j) ∧
    (s.memBad = [] → (s.imaged i).memBad = []) := by
  refine ⟨fr_migImages (fr_setStr (fr_refl _ s) (by simp [Within]) _ _) (by simp [Within]) _, fun j => ?_, fun hbad => ?_⟩
  all_goals unfold State.imaged State.migImages
  · rw [wr_str, State.setStr_str]
  · exact State.wr_memBad_nil (by simpa using hbad) _ _

/-- The first half of a move where nothing refuses it and no error aborts the stream (07, R238). -/
theorem State.migSave_eq {s x : State} {i g next : Nat} {ovf : Bool} (hheld : s.ownPots (s.str i).bsk i .held = [])
    (hfree : ∀ n, n ∈ s.ownPots (s.str i).bsk i .opened → (s.pot g n).st = .free)
    (hentries : s.entriesUsed g i (s.str i).shnd (s.str i).scnt = false)
    (hx : ((s.imaged i).ownPots (s.str i).bsk i .opened).foldl (fun (a : State × Nat × Bool) n => a.1.migPot i n a.2.1 a.2.2)
      (s.imaged i, (s.str i).migb + 64 * (s.str i).scnt, false) = (x, next, ovf))
    (hst : (x.str i).st = .migrating) :
    s.migSave i g = (x.migOvf i (s.str i).bsk (s.str i).ptr ovf).sendOff i g (s.str i).bsk := by
  have hany : (s.ownPots (s.str i).bsk i .opened).any (fun n => decide ((s.pot g n).st ≠ .free)) = false := by
    rw [List.any_eq_false]
    simpa using hfree
  unfold State.imaged at hx
  unfold State.migSave
  simp only [hheld, hany, hentries, hx, hst, List.isEmpty_nil, Bool.not_true, Bool.false_eq_true, if_false, ne_eq, not_true_eq_false]
  unfold State.sendOff State.migOvf
  rfl

/-- What the first half of a move changes: its stream is saved for Basket g, and the Pots it took with it are FREE. -/
theorem State.migSave_spec {s : State} {i g : Nat} (hst : (s.str i).st = .migrating)
    (hheld : s.ownPots (s.str i).bsk i .held = [])
    (hpots : ∀ n, n ∈ s.ownPots (s.str i).bsk i .opened → (s.pot g n).st = .free ∧ (s.pot (s.str i).bsk n).ecc = [])
    (hentries : s.entriesUsed g i (s.str i).shnd (s.str i).scnt = false) (hbad : s.memBad = []) :
    (∃ l, l.map Prod.fst = s.ownPots (s.str i).bsk i .opened ∧
      ∀ j, (s.migSave i g).str j = if j = i then { s.str i with migPots := l, bsk := g, migSaved := true } else s.str j) ∧
    (∀ n, n ∈ s.ownPots (s.str i).bsk i .opened → ((s.migSave i g).pot (s.str i).bsk n).st = .free) ∧
    (s.migSave i g).scales = s.scales := by
  obtain ⟨himages, hstr, hsound⟩ := s.imaged_spec i
  have hself := (hstr i).trans (if_pos rfl)
  have hown := State.ownPots_congr (himages.pot_eq (by decide) (s.str i).bsk) i .opened
  have hecc : ∀ n, n ∈ s.ownPots (s.str i).bsk i .opened → ((s.imaged i).pot ((s.imaged i).str i).bsk n).ecc = [] := fun n hn => by
    rw [himages.pot_eq (by decide), hself, (hpots n hn).2]
  have hsaved := State.migPots_saves (s := s.imaged i) (i := i) (s.ownPots_nodup (s.str i).bsk i .opened)
    ((s.str i).migb + 64 * (s.str i).scnt) false (by rw [hself, hst]) hecc (hsound hbad)
  obtain ⟨a, ha⟩ : ∃ a, (s.ownPots (s.str i).bsk i .opened).foldl (fun (a : State × Nat × Bool) n => a.1.migPot i n a.2.1 a.2.2)
      (s.imaged i, (s.str i).migb + 64 * (s.str i).scnt, false) = a := ⟨_, rfl⟩
  obtain ⟨x, next, ovf⟩ := a
  rw [ha, show ((s.imaged i).str i).bsk = (s.str i).bsk by rw [hself]] at hsaved
  dsimp only at hsaved
  obtain ⟨l, hl, hxstr⟩ := hsaved.str
  have hxself : x.str i = { s.str i with migPots := l } := by
    have hxi := hxstr i
    rw [if_pos rfl, hself] at hxi
    exact hxi
  rw [State.migSave_eq (next := next) hheld (fun n hn => (hpots n hn).1) hentries (by rw [hown, ha]) (by rw [hxself, hst])]
  have hovf := x.migOvf_fr i (s.str i).bsk (s.str i).ptr ovf
  obtain ⟨hsend, hsent⟩ := (x.migOvf i (s.str i).bsk (s.str i).ptr ovf).sendOff_spec i g (s.str i).bsk
  refine ⟨⟨l, hl, fun j => ?_⟩, fun n hn => ?_, ?_⟩
  · rw [hsent, hovf.str_eq (by decide), hovf.str_eq (by decide), hxself]
    by_cases hj : j = i
    · rw [if_pos hj, if_pos hj]
    · rw [if_neg hj, if_neg hj, hxstr, if_neg hj, hstr, if_neg hj]
  · rw [hsend.pot_eq (by decide), hovf.pot_eq (by decide)]
    exact hsaved.freed n hn
  · exact (hsend .scales (by decide)).trans ((hovf .scales (by decide)).trans
      ((hsaved.frame .scales (by decide)).trans (himages .scales (by decide))))

/-! ## The move: opening -/

theorem State.setScale_scale (s : State) (g k m : Nat) (v : ScaleEntry) :
    (s.setScale g k v).scale g m = if m = k then v else s.scale g m := by
  have hix : scaleIx g m = scaleIx g k ↔ m = k := by unfold scaleIx; omega
  exact (tget_tset _ _ _ _ _).trans (if_congr hix rfl rfl)

/-- Images in memory make their entries, each the one it stands for. -/
theorem State.foldl_setScale_scale (s : State) (g base : Nat) (a : Nat → Nat) (ks : List Nat) (m : Nat) :
    (ks.foldl (fun s k => s.setScale g (base + k) (imageScale (s.rdN (a k) 64))) s).scale g (base + m) =
      if m ∈ ks then imageScale (s.rdN (a m) 64) else s.scale g (base + m) := by
  induction ks generalizing s with
  | nil => rfl
  | cons k ks ih =>
    have hread : (s.setScale g (base + k) (imageScale (s.rdN (a k) 64))).rdN (a m) 64 = s.rdN (a m) 64 := rfl
    rw [List.foldl_cons, ih, hread, State.setScale_scale]
    by_cases hm : m = k
    · simp [hm]
    · have hne : base + m ≠ base + k := by omega
      simp [hm]

/-- Where each entry of a list gives its own Pot P, so it is in the end. -/
theorem foldl_pot_of_mem {α : Type} {f : State → α → State} {key : α → Nat} {g : Nat} {P : Pot → Prop}
    (hself : ∀ u e, P ((f u e).pot g (key e))) (hother : ∀ u e n, n ≠ key e → (f u e).pot g n = u.pot g n)
    {l : List α} {n : Nat} (s : State) (hn : n ∈ l.map key ∨ P (s.pot g n)) : P ((l.foldl f s).pot g n) := by
  induction l generalizing s with
  | nil => simpa using hn
  | cons e l ih =>
    refine ih _ ?_
    by_cases hne : n = key e
    · exact .inr (hne ▸ hself s e)
    · rw [hother s e n hne]
      simpa [hne] using hn

/-- A Pot that a stream has opened. -/
def Pot.OpenFor (i : Nat) (q : Pot) : Prop := q.st = .opened ∧ q.owner = i

/-- The images are loaded into their entries, and the listed Pots are open for their stream (07, R238). -/
theorem State.migLoad_spec (s : State) (i g : Nat) :
    (∀ k, k < (s.str i).scnt → (s.migLoad i g).scale g ((s.str i).shnd + k) =
      imageScale (s.rdN ((s.str i).win ((s.str i).migb + 64 * k)) 64)) ∧
    (∀ e, e ∈ (s.str i).migPots → ((s.migLoad i g).pot g e.1).OpenFor i) := by
  unfold State.migLoad
  dsimp only
  constructor
  · intro k hk
    have hpots (u : State) (l : List (Nat × Nat × Nat × Nat)) (f : State → Nat × Nat × Nat × Nat → State)
        (hf : ∀ u e, Fr [.pots] u (f u e)) : Fr [.pots] u (l.foldl f u) :=
      fr_foldl _ u f l u (fr_refl _ u) fun v e hv => hv.trans (hf v e)
    rw [(hpots _ _ _ fun u e => fr_setPot (fr_refl _ u) (by simp [Within]) _ _ _).scale_eq (by decide),
      State.foldl_setScale_scale _ _ _ (fun k => (s.str i).win ((s.str i).migb + 64 * k)), if_pos (List.mem_range.mpr hk), scrub_eq]
    rfl
  · intro e he
    refine foldl_pot_of_mem (key := Prod.fst) (fun u e => ?_) (fun u e n hn => ?_) _ (.inl (List.mem_map_of_mem he))
    · simp [Pot.OpenFor, openedPot]
    · simp [hn]

/-- The RESULT of a migration that GCTL_STRM_CMD gave is in its register; one of a queue command goes to its queue. -/
theorem State.migReport_spec (s : State) (i res : Nat) :
    Fr [.streams, .hq, .dev] s (s.migReport i res) ∧
    (∀ j, (s.migReport i res).str j = if j = i then { s.str i with migReg := false, migBy := none } else s.str j) ∧
    ((s.str i).migReg = true → (s.migReport i res).dev = { s.dev with stBusy := false, stResult := res, stStream := i }) := by
  obtain ⟨x, hx, hreport⟩ : ∃ x, Fr [.hq] (s.setStr i { s.str i with migReg := false, migBy := none }) x ∧ s.migReport i res =
      if (s.str i).migReg then { x with dev := { x.dev with stBusy := false, stResult := res, stStream := i } } else x := by
    refine ⟨_, ?_, rfl⟩
    split
    · exact fr_qDone (fr_refl _ _) (by simp [Within]) _ _ _ _ _
    · exact fr_refl _ _
  have hstr (j : Nat) := (hx.str_eq (by decide) j).trans (State.setStr_str _ _ _ _)
  refine ⟨fr_migReport (fr_refl _ s) (by simp [Within]) _ _, fun j => ?_, fun hreg => ?_⟩
  · rw [hreport, ← hstr]
    split_ifs <;> rfl
  · rw [hreport, if_pos hreg, show x.dev = s.dev from hx .dev (by decide)]

/-- A stream that is opened on Basket g takes state `st` there and has nothing of its move left (07, R238). -/
theorem State.reopen_spec {s : State} {i g : Nat} (st : StrState) (hgood : s.imagesBad (s.str i) = none) :
    (∀ j, (s.reopen i g st).str j = if j = i then
      { s.str i with st := st, bsk := g, migTo := none, wasRes := false, migSaved := false, migPots := [] } else s.str j) ∧
    (∀ h k, (s.reopen i g st).scale h k = (s.migLoad i g).scale h k) ∧
    (∀ h n, (s.reopen i g st).pot h n = (s.migLoad i g).pot h n) := by
  have hload : Fr [.memCorr, .memCe, .memUe, .pots, .scales] s (s.migLoad i g) := fr_migLoad (fr_refl _ s) (by simp [Within]) _ _
  have hstr (j : Nat) : (s.migLoad i g).str j = s.str j := hload.str_eq (by decide) j
  unfold State.reopen
  simp only [hgood]
  generalize s.migLoad i g = u at *
  have hput (v : Stream) : Fr [.mem, .memBad, .memCorr, .memCe, .memUe, .streams, .baskets] u ((u.putStr i v).settleBsk g) :=
    fr_settleBsk (fr_putStr (fr_refl _ u) (by simp [Within]) _ _) (by simp [Within]) _
  refine ⟨fun j => ?_, fun h k => (hput _).scale_eq (by decide) h k, fun h n => (hput _).pot_eq (by decide) h n⟩
  rw [settle_str, putStr_str, hstr, hstr]

/-- The stream of a move that has ended on Basket g. -/
def Stream.arrived (v : Stream) (g : Nat) : Stream :=
  { v with
    st := if v.wasRes then .resident else .suspended
    bsk := g, migTo := none, wasRes := false, migSaved := false, migPots := [], migReg := false, migBy := none }

/-- The second half of a move where the target takes the stream (07, R238). -/
theorem State.migOpen_spec {s : State} {i g : Nat} (hserves : inService (s.bsk g) = true)
    (hentries : s.entriesUsed g i (s.str i).shnd (s.str i).scnt = false) (hfit : s.potsFit g (s.str i) = true)
    (hgood : s.imagesBad (s.str i) = none) :
    (∀ j, (s.migOpen i g).str j = if j = i then (s.str i).arrived g else s.str j) ∧
    (∀ h k, (s.migOpen i g).scale h k = (s.migLoad i g).scale h k) ∧
    (∀ h n, (s.migOpen i g).pot h n = (s.migLoad i g).pot h n) ∧
    ((s.str i).migReg = true →
      (s.migOpen i g).dev.stBusy = false ∧ (s.migOpen i g).dev.stResult = 0 ∧ (s.migOpen i g).dev.stStream = i) := by
  obtain ⟨hstr, hscale, hpot⟩ := State.reopen_spec (g := g) (if (s.str i).wasRes then .resident else .suspended) hgood
  have hself := (hstr i).trans (if_pos rfl)
  have hopen : s.migOpen i g = (s.reopen i g (if (s.str i).wasRes then .resident else .suspended)).migReport i 0 := by
    have hst : ((s.reopen i g (if (s.str i).wasRes then .resident else .suspended)).str i).st ≠ .aborted := by
      rw [hself]
      dsimp only
      split_ifs <;> decide
    unfold State.migOpen
    simp only [hserves, hentries, hfit, Bool.not_true, Bool.or_self, Bool.false_eq_true, if_false]
    exact if_neg hst
  rw [hopen]
  obtain ⟨hreport, hreported, hresult⟩ := (s.reopen i g (if (s.str i).wasRes then .resident else .suspended)).migReport_spec i 0
  generalize s.reopen i g (if (s.str i).wasRes then .resident else .suspended) = u at *
  refine ⟨fun j => ?_, fun h k => ?_, fun h n => ?_, fun hreg => ?_⟩
  · rw [hreported, hself, hstr]
    by_cases hj : j = i
    · rw [if_pos hj, if_pos hj]
      rfl
    · rw [if_neg hj, if_neg hj, if_neg hj]
  · rw [hreport.scale_eq (by decide), hscale]
  · rw [hreport.pot_eq (by decide), hpot]
  · rw [hresult (by rw [hself, hreg])]
    exact ⟨rfl, rfl, rfl⟩

/-! ## The commands -/

theorem State.sendAway_str (s : State) (i g : Nat) (res : Bool) (j : Nat) : (s.sendAway i g res).str j = if j = i then
    { s.str i with st := .migrating, migTo := some g, wasRes := res, waitSince := none, migReg := false, migBy := none, atYield := false }
    else s.str j :=
  putStr_str _ _ _ _

/-- A migration under way leaves the command register BUSY (07, Table 07-10). -/
theorem exec_migrate {s x : State} {i g : Nat} (hi : i < 131072) (hg : g < 16) (hrsv : s.stateRsv i = false)
    (hbusy : s.dev.stBusy = false) (hx : s.cmdMigrate i g = (x, none)) :
    ∃ t, exec (.migrate i g) s = .next t ∧ t.dev.stBusy = true ∧ t.dev.stStream = i ∧
      ∀ j, t.str j = if j = i then { x.str i with migReg := true } else x.str j := by
  have hdo : s.strmDo 4 g i = (x, none) := by
    unfold State.strmDo
    rw [if_neg (by omega), hrsv]
    exact hx
  have hreg : s.strmReg 4 g i =
      { x.setStr i { x.str i with migReg := true } with dev := { x.dev with stBusy := true, stStream := i } } := by
    unfold State.strmReg
    rw [hbusy, hdo]
    rfl
  exact ⟨_, (if_pos (by simp [hi, hg])).trans (congrArg Host.Outcome.next hreg), rfl, rfl, fun j => State.setStr_str _ _ _ _⟩

/-- MIGRATION_MOVE with the stream's steps over is the first half of the move. -/
theorem exec_migrationMove_save {s : State} {i g : Nat} (hi : i < 131072) (hst : (s.str i).st = .migrating)
    (hto : (s.str i).migTo = some g) (hsaved : (s.str i).migSaved = false)
    (hflight : ∀ r, r ∈ (s.bsk (s.str i).bsk).inflight → r.sid ≠ i) : exec (.migrationMove i) s = .next (s.migSave i g) := by
  have hany : (s.bsk (s.str i).bsk).inflight.any (fun r => decide (r.sid = i)) = false := by
    rw [List.any_eq_false]
    simpa using hflight
  have hmove : s.migMove i = s.migSave i g := by
    unfold State.migMove
    simp only [hto, hst, hsaved, hany, ne_eq, not_true_eq_false, Bool.false_eq_true, if_false]
  exact (if_pos (decide_eq_true hi)).trans (congrArg Host.Outcome.next hmove)

/-- MIGRATION_MOVE of a saved stream is the second half of the move. -/
theorem exec_migrationMove_open {s : State} {i g : Nat} (hi : i < 131072) (hst : (s.str i).st = .migrating)
    (hto : (s.str i).migTo = some g) (hsaved : (s.str i).migSaved = true) : exec (.migrationMove i) s = .next (s.migOpen i g) := by
  have hmove : s.migMove i = s.migOpen i g := by
    unfold State.migMove
    simp only [hto, hst, hsaved, ne_eq, not_true_eq_false, if_false, if_true]
  exact (if_pos (decide_eq_true hi)).trans (congrArg Host.Outcome.next hmove)

/-- STREAM_PLACEMENT settles the first stream that a Basket can take. -/
theorem exec_streamPlacement {s : State} {i g : Nat}
    (hfirst : s.waiting.find? (fun k => (s.placeAt (s.str k).aff (fun _ => true)).isSome) = some i)
    (hplace : s.placeAt (s.str i).aff (fun _ => true) = some g) :
    exec .streamPlacement s = .next (({ s with waiting := s.waiting.filter (fun k => k != i) }).settleOn i g .resident) := by
  show execStreamPlacement s = _
  unfold execStreamPlacement
  simp only [hfirst, hplace]

/-- A stream settled on a Basket is there, in its new state. -/
theorem State.settleOn_spec (s : State) (i g : Nat) (st : StrState) :
    (∀ j, (s.settleOn i g st).str j = if j = i then { s.str i with st := st, bsk := g } else s.str j) ∧
    (s.settleOn i g st).waiting = s.waiting := by
  have hfr : Fr [.mem, .memBad, .memCorr, .memCe, .memUe, .streams, .baskets] s (s.settleOn i g st) :=
    fr_settleBsk (fr_putStr (fr_refl _ s) (by simp [Within]) _ _) (by simp [Within]) _
  refine ⟨fun j => ?_, hfr .waiting (by decide)⟩
  unfold State.settleOn
  rw [settle_str, putStr_str]

/-- Settles O24: one equation for each command, and what its operation changes. -/
theorem streamsYieldMoveAndArePlaced : Obligations.StreamsYieldMoveAndArePlaced := by
  unfold Obligations.StreamsYieldMoveAndArePlaced
  constructor
  · intro s sid v h hsid hlive htable hopc hpred hvalid hmove hflight
    have hexec := exec_yieldSuspend hsid hlive htable hopc hpred hvalid hmove hflight
    by_cases hstay : (s.bsk v.bsk).testDefer = none ∨ s.moveTarget sid v.bsk = none
    · rw [State.yielded_of_stay hstay] at hexec
      refine ⟨_, hexec, fun j hj => (putStr_str _ _ _ _).trans (if_neg hj), fun _ => (putStr_str _ _ _ _).trans (if_pos rfl),
        fun g htest hg => ?_⟩
      rw [hg] at hstay
      exact absurd (hstay.resolve_left htest) (by simp)
    · rw [not_or] at hstay
      obtain ⟨g, hg⟩ := Option.ne_none_iff_exists'.mp hstay.2
      rw [State.yielded_of_test hstay.1 hg] at hexec
      refine ⟨_, hexec, fun j hj => (s.sendAway_str _ _ _ _).trans (if_neg hj), fun hnone => ?_, fun g' _ hg' => ?_⟩
      · exact absurd hnone (not_or.mpr hstay)
      · obtain rfl : g = g' := Option.some.inj (hg.symm.trans hg')
        exact (s.sendAway_str _ _ _ _).trans (if_pos rfl)
  · intro s i g v u
    refine ⟨fun hi hg hrsv hbusy hst hdesc htakes hmig => ?migrate, fun hi hst hto hsaved hflight hheld hpots hentries hbad => ?save,
      fun hi hst hto hsaved hserves hentries hfit hgood => ?opens, fun hfirst hplace => ?place⟩
    case migrate =>
      obtain ⟨t, ht, hbusy', hstream, hstr⟩ := exec_migrate hi hg hrsv hbusy (State.cmdMigrate_of_good hst hdesc htakes hmig)
      refine ⟨t, ht, hbusy', hstream, fun j hj => ?_, ?_⟩
      · rw [hstr, if_neg hj, settle_str, putStr_str, if_neg hj]
      · rw [hstr, if_pos rfl, settle_str, putStr_str, if_pos rfl]
    case save =>
      obtain ⟨⟨l, hl, hstr⟩, hfreed, hscales⟩ := State.migSave_spec hst hheld hpots hentries hbad
      have hself := (hstr i).trans (if_pos rfl)
      refine ⟨_, exec_migrationMove_save hi hst hto hsaved hflight, fun j hj => by rw [hstr, if_neg hj], ?_⟩
      rw [hself]
      exact ⟨rfl, hst, rfl, hto, hl, hfreed, hscales⟩
    case opens =>
      obtain ⟨hstr, hscale, hpot, hresult⟩ := State.migOpen_spec hserves hentries hfit hgood
      obtain ⟨hloaded, hopened⟩ := s.migLoad_spec i g
      have hself := (hstr i).trans (if_pos rfl)
      refine ⟨_, exec_migrationMove_open hi hst hto hsaved, fun j hj => by rw [hstr, if_neg hj], ?_⟩
      rw [hself]
      exact ⟨rfl, rfl, rfl, rfl, fun k hk => (hscale _ _).trans (hloaded k hk), fun e he => by rw [hpot]; exact hopened e he,
        rfl, rfl, rfl, rfl, hresult⟩
    case place =>
      obtain ⟨hstr, hwaiting⟩ := State.settleOn_spec { s with waiting := s.waiting.filter (fun k => k != i) } i g .resident
      exact ⟨_, exec_streamPlacement hfirst hplace, (hstr i).trans (if_pos rfl), fun j hj => (hstr j).trans (if_neg hj), hwaiting⟩

end Sys2Proof.Machine
end

section
/-! PROOFS. Every command leaves the fields off its list as they were: the frame of each command, said of `exec`. -/

namespace Sys2Proof.Machine

theorem within_self {l : List Field} : Within l l := within_of fun _ h => h

/-- The frame of a command is its list. -/
theorem exec_frame (c : Instr) (s : State) : FrO (touches c) s (exec c s) :=
  match c with
  | .nop sid => fr_execNop (fr_refl _ s) within_self sid
  | .loop sid => fr_execLoop (fr_refl _ s) within_self sid
  | .endl sid => fr_execEndl (fr_refl _ s) within_self sid
  | .br sid => fr_execBr (fr_refl _ s) within_self sid
  | .call sid => fr_execCall (fr_refl _ s) within_self sid
  | .ret sid => fr_execRet (fr_refl _ s) within_self sid
  | .wait sid => fr_execWait (fr_refl _ s) within_self sid
  | .sig sid => fr_execSig (fr_refl _ s) within_self sid
  | .fence sid => fr_execFence (fr_refl _ s) within_self sid
  | .yield sid => fr_execYield (fr_refl _ s) within_self sid
  | .yieldSuspend sid => fr_execYieldSuspend (fr_refl _ s) within_self sid
  | .halt sid => fr_execHalt (fr_refl _ s) within_self sid
  | .mark sid => fr_execMark (fr_refl _ s) within_self sid
  | .dbrk sid => fr_execDbrk (fr_refl _ s) within_self sid
  | .dsnap sid => fr_execDsnap (fr_refl _ s) within_self sid
  | .wld sid => fr_execWld (fr_refl _ s) within_self sid
  | .wsw sid => fr_execWsw (fr_refl _ s) within_self sid
  | .wref sid => fr_execWref (fr_refl _ s) within_self sid
  | .mvm sid => fr_execMvm (fr_refl _ s) within_self sid
  | .mvmw sid => fr_execMvmw (fr_refl _ s) within_self sid
  | .popen sid => fr_execPopen (fr_refl _ s) within_self sid
  | .pclose sid => fr_execPclose (fr_refl _ s) within_self sid
  | .spill sid => fr_execSpill (fr_refl _ s) within_self sid
  | .resume sid => fr_execResume (fr_refl _ s) within_self sid
  | .rot sid => fr_execRot (fr_refl _ s) within_self sid
  | .qnt sid => fr_execQnt (fr_refl _ s) within_self sid
  | .scup sid => fr_execScup (fr_refl _ s) within_self sid
  | .stat sid => fr_execStat (fr_refl _ s) within_self sid
  | .vop sid => fr_execVop (fr_refl _ s) within_self sid
  | .att sid => fr_execAtt (fr_refl _ s) within_self sid
  | .dma sid => fr_execDma (fr_refl _ s) within_self sid
  | .get sid => fr_execGet (fr_refl _ s) within_self sid
  | .put sid => fr_execPut (fr_refl _ s) within_self sid
  | .aadd sid => fr_execAadd (fr_refl _ s) within_self sid
  | .gath sid => fr_execGath (fr_refl _ s) within_self sid
  | .stepCompletion sid uid => fr_execStepCompletion (fr_refl _ s) within_self sid uid
  | .ringHeadPoll sid => fr_execRingHeadPoll (fr_refl _ s) within_self sid
  | .tokenTimeout sid => fr_execTokenTimeout (fr_refl _ s) within_self sid
  | .tokenSignalWrite h tok => fr_execTokenSignalWrite (fr_refl _ s) within_self h tok
  | .tokenIrqDeferred g => fr_execTokenIrqDeferred (fr_refl _ s) within_self g
  | .start sid bsk => fr_execStart (fr_refl _ s) within_self sid bsk
  | .streamResume sid bsk => fr_execStreamResume (fr_refl _ s) within_self sid bsk
  | .abort sid bsk => fr_execAbort (fr_refl _ s) within_self sid bsk
  | .migrate sid bsk => fr_execMigrate (fr_refl _ s) within_self sid bsk
  | .streamReset sid bsk => fr_execStreamReset (fr_refl _ s) within_self sid bsk
  | .migrationMove sid => fr_execMigrationMove (fr_refl _ s) within_self sid
  | .streamPlacement => fr_execStreamPlacement (fr_refl _ s) within_self
  | .tileLoad p => fr_execTileLoad (fr_refl _ s) within_self p
  | .bankSwap p => fr_execBankSwap (fr_refl _ s) within_self p
  | .bankRefresh p bankB copy => fr_execBankRefresh (fr_refl _ s) within_self p bankB copy
  | .groupBlockEnd p parity => fr_execGroupBlockEnd (fr_refl _ s) within_self p parity
  | .promotion p slot col parity => fr_execPromotion (fr_refl _ s) within_self p slot col parity
  | .potWaitEnd h pot => fr_execPotWaitEnd (fr_refl _ s) within_self h pot
  | .replaySamePan p parity => fr_execReplaySamePan (fr_refl _ s) within_self p parity
  | .replaySpare p parity => fr_execReplaySpare (fr_refl _ s) within_self p parity
  | .noSpareReplay p parity => fr_execNoSpareReplay (fr_refl _ s) within_self p parity
  | .sampledReplayCompare r => fr_execSampledReplayCompare (fr_refl _ s) within_self r
  | .sampledReplayResolve r => fr_execSampledReplayResolve (fr_refl _ s) within_self r
  | .tapRead readings => fr_execTapRead (fr_refl _ s) within_self readings
  | .rampInterval held filler => fr_execRampInterval (fr_refl _ s) within_self held filler
  | .governorEval => fr_execGovernorEval (fr_refl _ s) within_self
  | .rateChange h => fr_execRateChange (fr_refl _ s) within_self h
  | .basketStop h => fr_execBasketStop (fr_refl _ s) within_self h
  | .basketCommit h => fr_execBasketCommit (fr_refl _ s) within_self h
  | .basketOff h => fr_execBasketOff (fr_refl _ s) within_self h
  | .basketOn h => fr_execBasketOn (fr_refl _ s) within_self h
  | .basketReset h => fr_execBasketReset (fr_refl _ s) within_self h
  | .basketDrained h => fr_execBasketDrained (fr_refl _ s) within_self h
  | .scaleClassWrite cls => fr_execScaleClassWrite (fr_refl _ s) within_self cls
  | .seqCntClr h => fr_execSeqCntClr (fr_refl _ s) within_self h
  | .wskCntClr h => fr_execWskCntClr (fr_refl _ s) within_self h
  | .rdoCntClr h => fr_execRdoCntClr (fr_refl _ s) within_self h
  | .panCntClr p => fr_execPanCntClr (fr_refl _ s) within_self p
  | .kettleFrame inp => fr_execKettleFrame (fr_refl _ s) within_self inp
  | .pwmPeriod glitch => fr_execPwmPeriod (fr_refl _ s) within_self glitch
  | .xcondClear q => fr_execXcondClear (fr_refl _ s) within_self q
  | .slotStop n => fr_execSlotStop (fr_refl _ s) within_self n
  | .slotCommit n => fr_execSlotCommit (fr_refl _ s) within_self n
  | .slotCntClr n => fr_execSlotCntClr (fr_refl _ s) within_self n
  | .ketCntClr => fr_execKetCntClr (fr_refl _ s) within_self
  | .spWrite n v => fr_execSpWrite (fr_refl _ s) within_self n v
  | .injStart cfg => fr_execInjStart (fr_refl _ s) within_self cfg
  | .injStop cfg => fr_execInjStop (fr_refl _ s) within_self cfg
  | .capArm cfg => fr_execCapArm (fr_refl _ s) within_self cfg
  | .thermalRetest p => fr_execThermalRetest (fr_refl _ s) within_self p
  | .calTurn => fr_execCalTurn (fr_refl _ s) within_self
  | .handover => fr_execHandover (fr_refl _ s) within_self
  | .sweepCommit res => fr_execSweepCommit (fr_refl _ s) within_self res
  | .calTimeout e => fr_execCalTimeout (fr_refl _ s) within_self e
  | .calAbandon => fr_execCalAbandon (fr_refl _ s) within_self
  | .calReq pan => fr_execCalReq (fr_refl _ s) within_self pan
  | .calCntClr => fr_execCalCntClr (fr_refl _ s) within_self
  | .blindWindow h n => fr_execBlindWindow (fr_refl _ s) within_self h n
  | .calStale source idx => fr_execCalStale (fr_refl _ s) within_self source idx
  | .startupSweep h attempts => fr_execStartupSweep (fr_refl _ s) within_self h attempts
  | .testDue h => fr_execTestDue (fr_refl _ s) within_self h
  | .testReq mask => fr_execTestReq (fr_refl _ s) within_self mask
  | .testDeferEnd h => fr_execTestDeferEnd (fr_refl _ s) within_self h
  | .testEntry h => fr_execTestEntry (fr_refl _ s) within_self h
  | .testResult h res => fr_execTestResult (fr_refl _ s) within_self h res
  | .eventRecord => fr_execEventRecord (fr_refl _ s) within_self
  | .feuPendClear mask => fr_execFeuPendClear (fr_refl _ s) within_self mask
  | .ringRst => fr_execRingRst (fr_refl _ s) within_self
  | .feuCntClr => fr_execFeuCntClr (fr_refl _ s) within_self
  | .helloSend port => fr_execHelloSend (fr_refl _ s) within_self port
  | .hello port m => fr_execHello (fr_refl _ s) within_self port m
  | .coordTimeout => fr_execCoordTimeout (fr_refl _ s) within_self
  | .heartbeat => fr_execHeartbeat (fr_refl _ s) within_self
  | .soloStart => fr_execSoloStart (fr_refl _ s) within_self
  | .join port uid => fr_execJoin (fr_refl _ s) within_self port uid
  | .joinResend => fr_execJoinResend (fr_refl _ s) within_self
  | .assign port uid node => fr_execAssign (fr_refl _ s) within_self port uid node
  | .claim port uid node => fr_execClaim (fr_refl _ s) within_self port uid node
  | .deny port uid node => fr_execDeny (fr_refl _ s) within_self port uid node
  | .mgt port m => fr_execMgt (fr_refl _ s) within_self port m
  | .write port m => fr_execWrite (fr_refl _ s) within_self port m
  | .read port m => fr_execRead (fr_refl _ s) within_self port m
  | .atomic port m => fr_execAtomic (fr_refl _ s) within_self port m
  | .skip port m => fr_execSkip (fr_refl _ s) within_self port m
  | .compl port m => fr_execCompl (fr_refl _ s) within_self port m
  | .rdrsp port m => fr_execRdrsp (fr_refl _ s) within_self port m
  | .forward port m => fr_execForward (fr_refl _ s) within_self port m
  | .resendTimer tag => fr_execResendTimer (fr_refl _ s) within_self tag
  | .unitGiveUp tag => fr_execUnitGiveUp (fr_refl _ s) within_self tag
  | .tagRelease tag => fr_execTagRelease (fr_refl _ s) within_self tag
  | .dedupExpire src tag e => fr_execDedupExpire (fr_refl _ s) within_self src tag e
  | .creditStallDiscard port m => fr_execCreditStallDiscard (fr_refl _ s) within_self port m
  | .flitReplay port => fr_execFlitReplay (fr_refl _ s) within_self port
  | .replayWindow port => fr_execReplayWindow (fr_refl _ s) within_self port
  | .lightDetect port => fr_execLightDetect (fr_refl _ s) within_self port
  | .linkUp port => fr_execLinkUp (fr_refl _ s) within_self port
  | .trainingTimeout port => fr_execTrainingTimeout (fr_refl _ s) within_self port
  | .lossOfSignal port => fr_execLossOfSignal (fr_refl _ s) within_self port
  | .portEnable port => fr_execPortEnable (fr_refl _ s) within_self port
  | .portDisable port => fr_execPortDisable (fr_refl _ s) within_self port
  | .portDrain port on => fr_execPortDrain (fr_refl _ s) within_self port on
  | .retrain port => fr_execRetrain (fr_refl _ s) within_self port
  | .unretire port => fr_execUnretire (fr_refl _ s) within_self port
  | .plaitApply => fr_execPlaitApply (fr_refl _ s) within_self
  | .plaitSettled => fr_execPlaitSettled (fr_refl _ s) within_self
  | .cfgCommit => fr_execCfgCommit (fr_refl _ s) within_self
  | .cfgAdvance => fr_execCfgAdvance (fr_refl _ s) within_self
  | .cfgClose => fr_execCfgClose (fr_refl _ s) within_self
  | .cfgCloseEffect => fr_execCfgCloseEffect (fr_refl _ s) within_self
  | .dzfCntClr => fr_execDzfCntClr (fr_refl _ s) within_self
  | .idmapWr node => fr_execIdmapWr (fr_refl _ s) within_self node
  | .idmapDel => fr_execIdmapDel (fr_refl _ s) within_self
  | .sqDoorbell q idx => fr_execSqDoorbell (fr_refl _ s) within_self q idx
  | .cqDoorbell q idx => fr_execCqDoorbell (fr_refl _ s) within_self q idx
  | .commandFetch q => fr_execCommandFetch (fr_refl _ s) within_self q
  | .queueNop q cid => fr_execQueueNop (fr_refl _ s) within_self q cid
  | .strm q cid => fr_execStrm (fr_refl _ s) within_self q cid
  | .xfer q cid => fr_execXfer (fr_refl _ s) within_self q cid
  | .queueCommandComplete q cid => fr_execQueueCommandComplete (fr_refl _ s) within_self q cid
  | .irqCoalesceTimer q => fr_execIrqCoalesceTimer (fr_refl _ s) within_self q
  | .queueEnable q => fr_execQueueEnable (fr_refl _ s) within_self q
  | .queueDisable q => fr_execQueueDisable (fr_refl _ s) within_self q
  | .queuePendingStart q => fr_execQueuePendingStart (fr_refl _ s) within_self q
  | .bar2Write addr bytes poisoned => fr_execBar2Write (fr_refl _ s) within_self addr bytes poisoned
  | .bar2Read addr len => fr_execBar2Read (fr_refl _ s) within_self addr len
  | .vfFlr v => fr_execVfFlr (fr_refl _ s) within_self v
  | .pfFlr => fr_execPfFlr (fr_refl _ s) within_self
  | .hostLinkLost => fr_execHostLinkLost (fr_refl _ s) within_self
  | .registerWrite fn off wide v => fr_execRegisterWrite (fr_refl _ s) within_self fn off wide v
  | .refusedAccess fn off size isWrite => fr_execRefusedAccess (fr_refl _ s) within_self fn off size isWrite
  | .latchedLowerRead fn off => fr_execLatchedLowerRead (fr_refl _ s) within_self fn off
  | .accErrClear => fr_execAccErrClear (fr_refl _ s) within_self
  | .warmReset => fr_execWarmReset (fr_refl _ s) within_self
  | .perstAssert => fr_execPerstAssert (fr_refl _ s) within_self
  | .perstRelease => fr_execPerstRelease (fr_refl _ s) within_self
  | .coldReset cause railOrderOk => fr_execColdReset (fr_refl _ s) within_self cause railOrderOk
  | .vauxApply badFuses => fr_execVauxApply (fr_refl _ s) within_self badFuses
  | .vauxPowerFail => fr_execVauxPowerFail (fr_refl _ s) within_self
  | .clockLoss pll => fr_execClockLoss (fr_refl _ s) within_self pll
  | .thermtrip channel => fr_execThermtrip (fr_refl _ s) within_self channel
  | .syncIn level => fr_execSyncIn (fr_refl _ s) within_self level
  | .boardAlert level => fr_execBoardAlert (fr_refl _ s) within_self level
  | .hotIn level => fr_execHotIn (fr_refl _ s) within_self level
  | .inputStuck input => fr_execInputStuck (fr_refl _ s) within_self input
  | .inputRearm input => fr_execInputRearm (fr_refl _ s) within_self input
  | .outContention signal level => fr_execOutContention (fr_refl _ s) within_self signal level
  | .outputReenable mask => fr_execOutputReenable (fr_refl _ s) within_self mask
  | .pmbusPoll reads => fr_execPmbusPoll (fr_refl _ s) within_self reads
  | .trivetBoot => fr_execTrivetBoot (fr_refl _ s) within_self
  | .getInfo via tag => fr_execGetInfo (fr_refl _ s) within_self via tag
  | .subscribe via tag cls mask => fr_execSubscribe (fr_refl _ s) within_self via tag cls mask
  | .readMon via tag idx cnt => fr_execReadMon (fr_refl _ s) within_self via tag idx cnt
  | .scanWrite via tag table => fr_execScanWrite (fr_refl _ s) within_self via tag table
  | .compWrite via tag sets => fr_execCompWrite (fr_refl _ s) within_self via tag sets
  | .trigArm via tag convs kind => fr_execTrigArm (fr_refl _ s) within_self via tag convs kind
  | .trig via tag => fr_execTrig (fr_refl _ s) within_self via tag
  | .ilvSet via tag pair chan frames => fr_execIlvSet (fr_refl _ s) within_self via tag pair chan frames
  | .readBbr via tag seq cnt => fr_execReadBbr (fr_refl _ s) within_self via tag seq cnt
  | .flashRead via tag addr len => fr_execFlashRead (fr_refl _ s) within_self via tag addr len
  | .flashProgram via tag addr bytes => fr_execFlashProgram (fr_refl _ s) within_self via tag addr bytes
  | .flashErase via tag addr len => fr_execFlashErase (fr_refl _ s) within_self via tag addr len
  | .flashOpComplete => fr_execFlashOpComplete (fr_refl _ s) within_self
  | .fuseAdvance via tag req nonce sigOk => fr_execFuseAdvance (fr_refl _ s) within_self via tag req nonce sigOk
  | .bbrErase via tag nonce sigOk => fr_execBbrErase (fr_refl _ s) within_self via tag nonce sigOk
  | .trivetRestart via tag => fr_execTrivetRestart (fr_refl _ s) within_self via tag
  | .mctpControl req => fr_execMctpControl (fr_refl _ s) within_self req
  | .pldmMonitoring sensor => fr_execPldmMonitoring (fr_refl _ s) within_self sensor
  | .pldmFirmwareUpdate op => fr_execPldmFirmwareUpdate (fr_refl _ s) within_self op
  | .spdm req => fr_execSpdm (fr_refl _ s) within_self req
  | .report sub => fr_execReport (fr_refl _ s) within_self sub
  | .monitorDispatch => fr_execMonitorDispatch (fr_refl _ s) within_self
  | .conversionComplete conv value offScale => fr_execConversionComplete (fr_refl _ s) within_self conv value offScale
  | .monWindow comp value => fr_execMonWindow (fr_refl _ s) within_self comp value
  | .holdoffEnd comp value => fr_execHoldoffEnd (fr_refl _ s) within_self comp value
  | .commonTriggerStart => fr_execCommonTriggerStart (fr_refl _ s) within_self
  | .monitorPathCal channel start => fr_execMonitorPathCal (fr_refl _ s) within_self channel start
  | .bbrCommit => fr_execBbrCommit (fr_refl _ s) within_self
  | .bbrSecondEnd => fr_execBbrSecondEnd (fr_refl _ s) within_self
  | .memReady => fr_execMemReady (fr_refl _ s) within_self
  | .hostLinkUp width speed flit => fr_execHostLinkUp (fr_refl _ s) within_self width speed flit
  | .warmingEnd h => fr_execWarmingEnd (fr_refl _ s) within_self h
  | .contentionCleared signal => fr_execContentionCleared (fr_refl _ s) within_self signal
  | .heaterHoldEnd => fr_execHeaterHoldEnd (fr_refl _ s) within_self

end Sys2Proof.Machine
end

section
/-! PROOFS. No step takes a token's count above 65,535 (05, R155): a state's tokens stay in range through every operation that
signals, takes or clears one, and through every operation that leaves them alone. -/

namespace Sys2Proof.Machine

/-- The tokens of the Baskets and the global ones are within their counts. -/
def State.TokensOk (s : State) : Prop := TokOk s.tokens ∧ TokOk s.globals

/-- An operation on a state keeps the tokens in range. -/
def KeepsTokens (f : State → State) : Prop := ∀ s, s.TokensOk → (f s).TokensOk

/-- The next state of an outcome has its tokens in range. -/
def TokensOkO (o : Out) : Prop := ∀ t, o = .next t → t.TokensOk

/-- Every field but the tokens. -/
def notTokens : List Field :=
  [.pending, .time, .freeCtr, .mem, .memBad, .memCorr, .memCe, .memUe, .host, .hostBad, .streams, .waiting, .baskets, .pans, .pots,
   .scales, .nextUid, .fastQ, .ket, .cal, .feu, .dzf, .hq, .trv, .dev, .evq, .tx, .hellos, .joins, .msix, .mgmt]

theorem within_notTokens {l : List Field} (hl : (l.all fun f => decide (f ∈ notTokens)) = true) : Within l notTokens :=
  within_mono within_self hl

section
variable {s t : State}

theorem State.TokensOk.of_fr (h : s.TokensOk) (hfr : Fr notTokens s t) : t.TokensOk :=
  ⟨(hfr .tokens (by decide)).symm ▸ h.1, (hfr .globals (by decide)).symm ▸ h.2⟩

theorem State.TokensOk.ite {c : Prop} [Decidable c] (hs : s.TokensOk) (ht : t.TokensOk) : (if c then s else t).TokensOk := by
  split <;> assumption

theorem State.TokensOk.guard (ok : Bool) (h : s.TokensOk) : TokensOkO (guard ok s) := by
  unfold Machine.guard
  split
  · rintro _ ⟨⟩
    exact h
  · rintro _ ⟨⟩

theorem State.TokensOk.next (h : s.TokensOk) : TokensOkO (.next s) := by
  rintro _ ⟨⟩
  exact h

end

/-! ## Signals and takings -/

theorem State.TokensOk.tok_count {s : State} (h : s.TokensOk) (b c : Nat) : (s.tok b c).count ≤ 65535 := by
  unfold State.tok
  split
  · exact h.1 _
  · exact h.2 _

theorem setTok_keepsTokens (b c : Nat) {v : Token} (hv : v.count ≤ 65535) : KeepsTokens (·.setTok b c v) := by
  intro s h
  dsimp only [State.setTok]
  split
  · exact ⟨tokOk_tset _ _ _ h.1 hv, h.2⟩
  · exact ⟨h.1, tokOk_tset _ _ _ h.2 hv⟩

/-- A signal saturates (05, R155). -/
theorem sigK_keepsTokens (b c k : Nat) : KeepsTokens (·.sigK b c k) := by
  intro s h
  have hset := setTok_keepsTokens b c (add_count (s.tok b c) k) s h
  dsimp only [State.sigK]
  exact .ite h (.ite (.ite (hset.of_fr (fr_tokIrq (fr_refl _ _) (within_notTokens rfl) _)) hset) h)

theorem sig_keepsTokens (b c : Nat) : KeepsTokens (·.sig b c) := sigK_keepsTokens b c 1

theorem takeTok_keepsTokens (b c : Nat) : KeepsTokens (·.takeTok b c) := by
  intro s h
  exact .ite h (setTok_keepsTokens b c ((Nat.sub_le _ _).trans (h.tok_count b c)) s h)

/-! ## The end of a step -/

theorem finish_keepsTokens (r : StepRec) : KeepsTokens (·.finish r) := by
  intro s h
  beta_reduce
  unfold State.finish
  extract_lets t s1 s2 s3 b s4 s5
  have h2 : Fr notTokens s s2 :=
    have h1 : Fr notTokens s s1 := fr_setStr (fr_refl _ s) (within_notTokens rfl) _ _
    fr_dite (fr_raiseS h1 (within_notTokens rfl) _ _ _ _ _ _ _ _) h1
  have h4 : Fr notTokens s s4 := fr_setBsk (fr_dite (fr_putRec h2 (within_notTokens rfl) _ _) h2) (within_notTokens rfl) _ _
  have h5 : s5.TokensOk := sig_keepsTokens _ _ s4 (h.of_fr h4)
  exact .ite (h5.of_fr (fr_endStr (fr_refl _ _) (within_notTokens rfl) _)) h5

theorem tryEnd_keepsTokens (r : StepRec) : KeepsTokens (·.tryEnd r) := by
  intro s h
  exact .ite h (.ite (.ite h (h.of_fr (fr_setBsk (fr_refl _ s) (within_notTokens rfl) _ _))) (finish_keepsTokens r s h))

theorem tryFinish_keepsTokens (r : StepRec) : KeepsTokens (·.tryFinish r) := by
  intro s h
  beta_reduce
  unfold State.tryFinish
  extract_lets b
  split
  · exact tryEnd_keepsTokens r s h
  · next k _ =>
    have hlead := tryEnd_keepsTokens { k with done := true } _
      (h.of_fr (fr_modRec (fr_refl _ s) (within_notTokens rfl) r.h k.uid (fun x => { x with done := true })))
    exact .ite (.ite (tryEnd_keepsTokens r _ hlead) hlead) h

theorem over_keepsTokens (r : StepRec) : KeepsTokens (·.over r) := by
  intro s h
  exact tryFinish_keepsTokens _ _ (h.of_fr (fr_enter (fr_refl _ s) (within_notTokens rfl) _))

/-! ## The head of a stream -/

/-- The operation of an opcode keeps the tokens in range. -/
def EffKeeps (eff : State → Nat → Hdr → State) : Prop := ∀ sid h, KeepsTokens (eff · sid h)

theorem EffKeeps.of_fr {eff : State → Nat → Hdr → State} (hfr : ∀ s sid h, Fr notTokens s (eff s sid h)) : EffKeeps eff :=
  fun sid h _ hs => hs.of_fr (hfr _ sid h)

theorem setStr_keepsTokens (sid : Nat) (v : Stream) : KeepsTokens (·.setStr sid v) := fun _ hs => hs

theorem skipStep_keepsTokens (sid : Nat) (h : Hdr) : KeepsTokens (·.skipStep sid h) := by
  intro s hs
  have htake : (if tokLegal h.wait then s.takeTok (s.str sid).bsk h.wait else s).TokensOk := .ite (takeTok_keepsTokens _ _ s hs) hs
  have hdrop := htake.of_fr (fr_dropChain (fr_refl _ _) (within_notTokens rfl) sid)
  exact over_keepsTokens _ _ (setStr_keepsTokens _ _ _ hdrop)

section
variable {eff : State → Nat → Hdr → State} (heff : EffKeeps eff) (hold : State → Nat → Hdr → Bool) (sid : Nat) (h : Hdr)
include heff

theorem issueStep_keepsTokens : KeepsTokens (·.issueStep sid h eff) := by
  intro s hs
  exact heff sid h _ ((takeTok_keepsTokens _ _ s hs).of_fr
    (fr_setBsk (fr_setStr (fr_refl _ _) (within_notTokens rfl) _ _) (within_notTokens rfl) _ _))

theorem headGo_keepsTokens : KeepsTokens (·.headGo sid h hold eff) := by
  intro s hs
  beta_reduce
  unfold State.headGo
  refine .ite (hs.of_fr (fr_setStr (fr_refl _ s) (within_notTokens rfl) _ _)) (.ite (skipStep_keepsTokens sid h s hs) ?_)
  split
  · exact hs.of_fr (fr_failStep (fr_refl _ s) (within_notTokens rfl) _ _ _)
  · extract_lets off u
    have hu : u.TokensOk := .ite hs (hs.of_fr (fr_scrub (fr_refl _ s) (within_notTokens rfl) _ _))
    generalize (if blockLen h.opc = 0 then none else _) = bad
    cases bad with
    | some w => exact hs.of_fr (fr_memX (fr_scrub (fr_refl _ s) (within_notTokens rfl) _ _) (within_notTokens rfl) _ _ _ _)
    | none =>
      refine .ite hu ?_
      split
      · exact hu.of_fr (fr_failStep (fr_refl _ _) (within_notTokens rfl) _ _ _)
      · exact .ite hu (.ite hu (issueStep_keepsTokens heff sid h u hu))

theorem headStep_keepsTokens : KeepsTokens (·.headStep sid h hold eff) := by
  intro s hs
  beta_reduce
  unfold State.headStep
  refine .ite (.ite hs ?_) (headGo_keepsTokens heff hold sid h s hs)
  split
  · split
    · exact hs.of_fr (fr_hostX (fr_refl _ s) (within_notTokens rfl) _ _ _ _)
    · exact headGo_keepsTokens heff hold sid h _ (hs.of_fr (fr_setStr (fr_refl _ s) (within_notTokens rfl) _ _))
  · exact headGo_keepsTokens heff hold sid h s hs

theorem runHead_keepsTokens (opc : Nat) : KeepsTokens (·.runHead opc sid hold eff) := by
  intro s hs
  beta_reduce
  unfold State.runHead
  refine .ite hs (.ite (hs.of_fr (fr_failStep (fr_refl _ s) (within_notTokens rfl) _ _ _)) ?_)
  split
  · exact hs.of_fr (fr_memX (fr_scrub (fr_refl _ s) (within_notTokens rfl) _ _) (within_notTokens rfl) _ _ _ _)
  · exact .ite hs (headStep_keepsTokens heff hold sid _ _ (hs.of_fr (fr_scrub (fr_refl _ s) (within_notTokens rfl) _ _)))

theorem runStep_tokensOk (opc : Nat) {s : State} (hs : s.TokensOk) : TokensOkO (runStep opc hold eff sid s) :=
  (runHead_keepsTokens heff hold sid opc s hs).guard _

end

/-! ## The operations of the control steps -/

theorem ctlTo_keepsTokens (sid : Nat) (h : Hdr) (p : Nat) : KeepsTokens (·.ctlTo sid h p) := by
  intro s hs
  exact over_keepsTokens _ _ (hs.of_fr (fr_goTo (fr_refl _ s) (within_notTokens rfl) _ _))

theorem effNext_keeps : EffKeeps effNext := fun sid h s => ctlTo_keepsTokens sid h ((s.str sid).ptr + 1) s

theorem effLoop_keeps : EffKeeps effLoop := by
  intro sid h s hs
  exact .ite (ctlTo_keepsTokens sid h _ s hs) (ctlTo_keepsTokens sid h _ _ (setStr_keepsTokens _ _ s hs))

theorem effEndl_keeps : EffKeeps effEndl := by
  intro sid h s hs
  dsimp only [effEndl]
  split
  · exact hs
  · have hset (v : Stream) : (s.setStr sid v).TokensOk := setStr_keepsTokens sid v s hs
    exact .ite (ctlTo_keepsTokens sid h _ _ (hset _)) (ctlTo_keepsTokens sid h _ _ (hset _))

theorem brClear_keepsTokens (sid : Nat) (h : Hdr) : KeepsTokens (·.brClear sid h) :=
  fun s hs => hs.of_fr (fr_brClear (fr_refl _ s) (within_notTokens rfl) _ _)

theorem effBr_keeps : EffKeeps effBr := fun sid h s hs => ctlTo_keepsTokens sid h _ _ (brClear_keepsTokens sid h s hs)

theorem effCall_keeps : EffKeeps effCall :=
  fun sid h s hs => ctlTo_keepsTokens sid h _ _ (setStr_keepsTokens sid _ _ (brClear_keepsTokens sid h s hs))

theorem effRet_keeps : EffKeeps effRet := by
  intro sid h s hs
  dsimp only [effRet]
  split
  · exact hs
  · exact ctlTo_keepsTokens sid h _ _ (setStr_keepsTokens sid _ s hs)

theorem effHalt_keeps : EffKeeps effHalt := fun sid _ s hs => over_keepsTokens _ _ (setStr_keepsTokens sid _ s hs)

theorem effMark_keeps : EffKeeps effMark :=
  fun _ _ s hs => over_keepsTokens _ _ (hs.of_fr (fr_goTo (fr_refl _ s) (within_notTokens rfl) _ _))

theorem effDbrk_keeps : EffKeeps effDbrk :=
  fun sid h s hs => (ctlTo_keepsTokens sid h _ s hs).of_fr
    (fr_notice (fr_putStr (fr_refl _ _) (within_notTokens rfl) _ _) (within_notTokens rfl) _ _ _)

theorem effDsnap_keeps : EffKeeps effDsnap :=
  fun sid h s hs => ctlTo_keepsTokens sid h _ _ (hs.of_fr (fr_wr (fr_refl _ s) (within_notTokens rfl) _ _))

/-! ## Clears and resets -/

theorem resetBsk_keepsTokens (b : Nat) : KeepsTokens (·.resetBsk b) := by
  intro s h
  have hdrop := h.of_fr (fr_evict (fr_abandonIn (fr_refl _ s) (within_notTokens rfl) b) (within_notTokens rfl) b)
  have hcut := tokOk_filter _ (fun k => k / 32 != b) hdrop.1
  beta_reduce
  unfold State.resetBsk
  extract_lets s1 s2 s3 s4 s5
  have h3 : s3.TokensOk := ⟨hcut, hdrop.2⟩
  have h5 : Fr notTokens s3 s5 := fr_foldl _ _ _ _ _ (fr_setBsk (fr_refl _ _) (within_notTokens rfl) _ _)
    fun _ _ hx => fr_setPan hx (within_notTokens rfl) _ _
  exact h3.of_fr (fr_testTurn (fr_remargin h5 (within_notTokens rfl) _) (within_notTokens rfl))

theorem cmdReset'_keepsTokens (b : Nat) : KeepsTokens (·.cmdReset' b) := by
  intro s h
  beta_reduce
  unfold State.cmdReset'
  split
  · exact h.of_fr (fr_ignBsk (fr_refl _ s) (within_notTokens rfl) _)
  · exact h.of_fr (fr_ignBsk (fr_refl _ s) (within_notTokens rfl) _)
  · exact resetBsk_keepsTokens b s h

theorem bskCtl_keepsTokens (b v : Nat) : KeepsTokens (·.bskCtl b v) := by
  intro s h
  beta_reduce
  unfold State.bskCtl
  split
  · exact h
  · exact h.of_fr (fr_cmdStop (fr_refl _ s) (within_notTokens rfl) _)
  · exact h.of_fr (fr_cmdCommit (fr_refl _ s) (within_notTokens rfl) _)
  · exact h.of_fr (fr_cmdCommit (fr_cmdStop (fr_refl _ s) (within_notTokens rfl) _) (within_notTokens rfl) _)
  · exact cmdReset'_keepsTokens b s h
  · exact h.of_fr (fr_cmdOff (fr_refl _ s) (within_notTokens rfl) _)
  · exact h.of_fr (fr_cmdOn (fr_refl _ s) (within_notTokens rfl) _)
  · exact h.of_fr (fr_ignBsk (fr_refl _ s) (within_notTokens rfl) _)

/-- Clearing OVF leaves the count (05, Table 05-21). -/
theorem tokOk_clearOvf (m : Tab Token) (k : Nat) (h : TokOk m) : TokOk (tmod tokDflt m k (fun t => { t with ovf := false })) :=
  tokOk_tset _ _ _ h (h k)

theorem seqClear_keepsTokens (b : Nat) : KeepsTokens (·.seqClear b) := by
  intro s h
  beta_reduce
  unfold State.seqClear
  extract_lets _ u clr
  have hu : u.TokensOk := h.of_fr (fr_setBsk (fr_refl _ s) (within_notTokens rfl) _ _)
  constructor <;> dsimp only
  · exact tokOk_foldl _ _ _ hu.1 fun m _ => tokOk_clearOvf m _
  · exact tokOk_foldl _ _ _ hu.2 tokOk_clearOvf

/-- A warm reset empties the tables of tokens; one that does nothing leaves them (14, R429). -/
theorem warmReset_keepsTokens : KeepsTokens State.warmReset := by
  intro s h
  unfold State.warmReset
  split
  · exact h
  · extract_lets s1 s2 s3 s4
    have hempty : s4.TokensOk := ⟨tokOk_nil, tokOk_nil⟩
    exact hempty.of_fr (fr_bootRec (fr_refl _ _) (within_notTokens rfl) _)

theorem bare_tokensOk (s : State) (trv : Trivet) (inc : Nat) : (s.bare trv inc).TokensOk := ⟨tokOk_nil, tokOk_nil⟩

theorem coldReset_keepsTokens (c : ColdCause) (orderOk : Bool) : KeepsTokens (·.coldReset c orderOk) := by
  intro s h
  beta_reduce
  unfold State.coldReset
  split
  · exact h
  · extract_lets kind inc trip rec5 _ s1 _ _ s2 s3 uid0 s4 s5 s6
    have h1 : s1.TokensOk := bare_tokensOk _ _ _
    have h2 : s2.TokensOk := h1
    have h3 : Fr notTokens s2 s3 := fr_foldl _ _ _ _ _ (fr_refl _ _) fun _ _ hx => fr_setPan hx (within_notTokens rfl) _ _
    have h4 : Fr notTokens s2 s4 := fr_foldl _ _ _ _ _ h3 fun _ _ hx => fr_setBsk hx (within_notTokens rfl) _ _
    have h5 : Fr notTokens s2 s5 := fr_foldl _ _ _ _ _ h4 fun _ _ hx => fr_fromRecord hx (within_notTokens rfl) _
    have h6 : Fr notTokens s2 s6 := fr_foldl _ _ _ _ _ h5 fun _ _ hx => fr_layPans hx (within_notTokens rfl) _
    exact h2.of_fr (fr_bootRec h6 (within_notTokens rfl) _)

/-! ## Packets -/

theorem State.TokensOk.ite_fst {α : Type} {c : Prop} [Decidable c] {p q : State × α} (hp : p.1.TokensOk) (hq : q.1.TokensOk) :
    (if c then p else q).1.TokensOk := by
  split <;> assumption

theorem answer_keepsTokens (m : Packet) (code : Nat) (bs : List Byte) : KeepsTokens (·.answer m code bs) :=
  fun s h => h.of_fr (fr_answer (fr_refl _ s) (within_notTokens rfl) _ _ _)

theorem fr_scrubs (s : State) (base : Nat) (l : List (Nat × Nat)) :
    Fr notTokens s (l.foldl (fun s x => s.scrub (base + x.1) x.2) s) :=
  fr_foldl _ _ _ _ _ (fr_refl _ s) fun _ _ hx => fr_scrub hx (within_notTokens rfl) _ _

/-- A unit at a doorbell signals a token; any other writes or adds in memory (07, R242; 04, R132). -/
theorem applyUnit_keepsTokens (m : Packet) : KeepsTokens (·.applyUnit m) := by
  intro s h
  beta_reduce
  unfold State.applyUnit
  refine .ite (h.of_fr (fr_foldl _ _ _ _ _ (fr_refl _ s) fun _ _ hx => fr_writeWord hx (within_notTokens rfl) _ _)) ?_
  split
  · exact sigK_keepsTokens _ _ _ s h
  · exact h.of_fr (fr_foldl _ _ _ _ _ (fr_scrubs s _ _) fun _ _ hx => fr_addElem hx (within_notTokens rfl) _ _)

theorem handle_tokensOk (port : Nat) (m : Packet) {s : State} (h : s.TokensOk) : (s.handle port m).1.TokensOk := by
  unfold State.handle
  refine .ite_fst (answer_keepsTokens m _ _ s h) ?_
  split
  · exact answer_keepsTokens m _ _ _ (h.of_fr (fr_countMis (fr_refl _ s) (within_notTokens rfl) _ _))
  · have hread := h.of_fr (fr_scrub (fr_refl _ s) (within_notTokens rfl) (pktLoc m) 64)
    refine .ite_fst (answer_keepsTokens m _ _ s h) (.ite_fst (answer_keepsTokens m _ _ s h) (.ite_fst ?_ (.ite_fst ?_ (.ite_fst ?_
      (.ite_fst ?_ ?_)))))
    · exact .ite_fst (answer_keepsTokens m _ _ _ hread) (answer_keepsTokens m _ _ _ hread)
    · exact answer_keepsTokens m _ _ _ (h.of_fr (fr_tagDup (fr_refl _ s) (within_notTokens rfl) _ _))
    · exact answer_keepsTokens m _ _ _ h
    · exact answer_keepsTokens m _ _ _ (h.of_fr (fr_scrubs s _ _))
    · exact answer_keepsTokens m _ _ _ (applyUnit_keepsTokens m s h)

theorem advance_keepsTokens (src : Nat) : KeepsTokens (·.advance src) :=
  fun s h => h.of_fr (fr_advance (fr_refl _ s) (within_notTokens rfl) _)

theorem followers_keepsTokens (src n : Nat) : KeepsTokens (·.followers src n) := by
  induction n with
  | zero => exact fun _ h => h
  | succ n ih =>
    intro s h
    beta_reduce
    unfold State.followers
    split
    · exact h
    · next x _ =>
      extract_lets _ u
      have hhandle := handle_tokensOk x.1 x.2 (s := u) h
      split
      · next u heq =>
        rw [heq] at hhandle
        exact ih _ (advance_keepsTokens src u hhandle)
      · next u heq =>
        rw [heq] at hhandle
        exact hhandle

theorem ordered_keepsTokens (port : Nat) (m : Packet) : KeepsTokens (·.ordered port m) := by
  intro s h
  have hhandle := handle_tokensOk port m h
  beta_reduce
  unfold State.ordered
  refine .ite ?_ (.ite (.ite h (.ite (answer_keepsTokens m _ _ s h) h)) hhandle)
  split
  · next u heq =>
    rw [heq] at hhandle
    exact followers_keepsTokens _ _ _ (advance_keepsTokens _ u hhandle)
  · next u heq =>
    rw [heq] at hhandle
    exact hhandle

theorem arrive_keepsTokens (port : Nat) (m : Packet) : KeepsTokens (·.arrive port m) := by
  intro s h
  have hnew : (s.newInc m).TokensOk := h.of_fr (fr_newInc (fr_refl _ s) (within_notTokens rfl) _)
  exact .ite h (.ite (ordered_keepsTokens port m _ hnew) (handle_tokensOk port m hnew))

theorem arrival_keepsTokens (type port : Nat) (m : Packet) : KeepsTokens (·.arrival type port m (·.arrive port m)) := by
  intro s h
  exact .ite h (.ite (h.of_fr (fr_countBad (fr_refl _ s) (within_notTokens rfl) _)) (.ite h
    (.ite (arrive_keepsTokens port m s h) (h.of_fr (fr_forwardPkt (fr_refl _ s) (within_notTokens rfl) _)))))

/-! ## Registers -/

theorem gctlWrite_keepsTokens (r v : Nat) : KeepsTokens (·.gctlWrite r v) := by
  intro s h
  beta_reduce
  unfold State.gctlWrite
  split
  · exact .ite (warmReset_keepsTokens s h) h
  · exact h.of_fr (fr_scaleClass (fr_refl _ s) (within_notTokens rfl) _)
  · exact .ite (h.of_fr (fr_accClear (fr_refl _ s) (within_notTokens rfl))) h
  · exact h.of_fr (fr_strmReg (fr_refl _ s) (within_notTokens rfl) _ _ _)
  · exact .ite h h
  all_goals exact h

theorem bskWrite_keepsTokens (b r v : Nat) : KeepsTokens (·.bskWrite b r v) := by
  intro s h
  have hrwl (r : Nat) (w : W32) : (s.bskRwl b r w).TokensOk := h.of_fr (fr_bskRwl (fr_refl _ s) (within_notTokens rfl) _ _ _)
  have hset (f : Basket → Basket) : (s.bskSet b f).TokensOk := h.of_fr (fr_bskSet (fr_refl _ s) (within_notTokens rfl) _ _)
  beta_reduce
  unfold State.bskWrite
  split
  · exact bskCtl_keepsTokens b v s h
  · exact hrwl _ _
  · exact hrwl _ _
  · exact hset _
  · exact sig_keepsTokens b _ s h
  · exact .ite (seqClear_keepsTokens b s h) h
  · exact hrwl _ _
  · exact hrwl _ _
  · exact .ite (h.of_fr (fr_wskClear (fr_refl _ s) (within_notTokens rfl) _)) h
  · exact hrwl _ _
  · exact hset _
  · exact .ite (h.of_fr (fr_rdoClear (fr_refl _ s) (within_notTokens rfl) _)) h
  · exact hrwl _ _
  · exact h

theorem pfWrite_keepsTokens (off v : Nat) : KeepsTokens (·.pfWrite off v) := by
  intro s h
  beta_reduce
  unfold State.pfWrite
  split
  · exact gctlWrite_keepsTokens _ v s h
  · exact h.of_fr (fr_clkWrite (fr_refl _ s) (within_notTokens rfl) _ _)
  · exact h.of_fr (fr_feuWrite (fr_refl _ s) (within_notTokens rfl) _ _)
  · exact h.of_fr (fr_ketWrite (fr_refl _ s) (within_notTokens rfl) _ _)
  · exact h.of_fr (fr_calWrite (fr_refl _ s) (within_notTokens rfl) _ _)
  · exact bskWrite_keepsTokens _ _ v s h
  · exact h.of_fr (fr_panWrite (fr_refl _ s) (within_notTokens rfl) _ _ _)
  · exact h.of_fr (fr_dzfWrite (fr_refl _ s) (within_notTokens rfl) _ _)
  · exact h.of_fr (fr_hqWrite (fr_refl _ s) (within_notTokens rfl) _ _)
  · exact h.of_fr (fr_mbxWrite (fr_refl _ s) (within_notTokens rfl) _ _)
  · exact h

theorem fnWrite_keepsTokens (fn off v : Nat) : KeepsTokens (·.fnWrite fn off v) := by
  intro s h
  beta_reduce
  unfold State.fnWrite
  refine .ite (pfWrite_keepsTokens off v s h) ?_
  split
  · exact h.of_fr (fr_queWrite (fr_refl _ s) (within_notTokens rfl) _ _ _ _)
  · exact h

theorem fnWrite64_keepsTokens (fn off v : Nat) : KeepsTokens (·.fnWrite64 fn off v) :=
  fun s h => h.of_fr (fr_fnWrite64 (fr_refl _ s) (within_notTokens rfl) _ _ _)

theorem unlatch_keepsTokens (fn : Nat) (w : Bool) : KeepsTokens (·.unlatch fn w) :=
  fun s h => h.of_fr (fr_unlatch (fr_refl _ s) (within_notTokens rfl) _ _)

theorem write32_keepsTokens (fn off v : Nat) : KeepsTokens (·.write32 fn off v) := by
  intro s h
  have hu := unlatch_keepsTokens fn true s h
  exact .ite hu (.ite (fnWrite64_keepsTokens fn _ _ _ hu) (fnWrite_keepsTokens fn off v _ hu))

theorem write64_keepsTokens (fn off v : Nat) : KeepsTokens (·.write64 fn off v) := by
  intro s h
  exact .ite (fnWrite64_keepsTokens fn off v _ (unlatch_keepsTokens fn true s h))
    (write32_keepsTokens fn _ _ _ (write32_keepsTokens fn off _ s h))

/-! ## Commands that leave the tokens alone -/

/-- The tokens are on no list of the command's fields. -/
def sparesTokens (c : Instr) : Bool := (touches c).all fun f => decide (f ∈ notTokens)

theorem exec_tokensOk_of_spares {c : Instr} {s : State} (hc : sparesTokens c = true) (h : s.TokensOk) : TokensOkO (exec c s) :=
  fun t ht => h.of_fr fun f hf => exec_frame c s t ht f fun hin => hf (by simpa using List.all_eq_true.mp hc f hin)

/-! ## Commands that touch tokens -/

section
variable {s : State} (hs : s.TokensOk)
include hs

theorem execStepCompletion_tokensOk (sid uid : Nat) : TokensOkO (execStepCompletion sid uid s) := by
  refine State.TokensOk.guard _ ?_
  split
  · exact .ite (tryFinish_keepsTokens _ s hs) hs
  · exact hs

theorem execRingHeadPoll_tokensOk (sid : Nat) : TokensOkO (execRingHeadPoll sid s) := by
  refine State.TokensOk.guard _ ?_
  have hat : (s.at (s.time + 1000)).TokensOk := hs
  dsimp only
  split
  · exact tryFinish_keepsTokens _ _ hat
  · exact hat

theorem execRegisterWrite_tokensOk (fn off : Nat) (wide : Bool) (v : W64) : TokensOkO (execRegisterWrite fn off wide v s) := by
  refine State.TokensOk.guard _ (.ite hs ?_)
  split
  · exact (unlatch_keepsTokens fn true s hs).of_fr (fr_accRefuse (fr_refl _ _) (within_notTokens rfl) _ _ _)
  · exact .ite (write64_keepsTokens _ _ _ s hs) (write32_keepsTokens _ _ _ s hs)

theorem execPerstAssert_tokensOk : TokensOkO (execPerstAssert s) :=
  State.TokensOk.next (.ite hs (warmReset_keepsTokens s hs))

theorem execVauxApply_tokensOk (bad : List (Nat × Bool)) : TokensOkO (execVauxApply bad s) := by
  refine State.TokensOk.guard _ (.ite hs ?_)
  refine State.TokensOk.of_fr ?_ (fr_foldl _ _ _ _ _ (fr_refl _ _) fun _ _ hx => fr_raise hx (within_notTokens rfl) _ _ _ _ _)
  exact bare_tokensOk s { s.trv.dark with badFuse := bad.map (·.1) } (s.trv.lastInc + 1)

theorem execVauxPowerFail_tokensOk : TokensOkO (execVauxPowerFail s) :=
  State.TokensOk.next (.ite hs (by exact ⟨tokOk_nil, tokOk_nil⟩))

/-- A command that touches tokens keeps them in range. -/
theorem exec_tokensOk_of_touches {c : Instr} (hc : sparesTokens c = false) : TokensOkO (exec c s) := by
  cases c with
  | nop sid => exact runStep_tokensOk effNext_keeps _ _ _ hs
  | loop sid => exact runStep_tokensOk effLoop_keeps _ _ _ hs
  | endl sid => exact runStep_tokensOk effEndl_keeps _ _ _ hs
  | br sid => exact runStep_tokensOk effBr_keeps _ _ _ hs
  | call sid => exact runStep_tokensOk effCall_keeps _ _ _ hs
  | ret sid => exact runStep_tokensOk effRet_keeps _ _ _ hs
  | wait sid => exact runStep_tokensOk effNext_keeps _ _ _ hs
  | sig sid => exact runStep_tokensOk effNext_keeps _ _ _ hs
  | fence sid => exact runStep_tokensOk effNext_keeps _ _ _ hs
  | yield sid => exact runStep_tokensOk effNext_keeps _ _ _ hs
  | halt sid => exact runStep_tokensOk effHalt_keeps _ _ _ hs
  | mark sid => exact runStep_tokensOk effMark_keeps _ _ _ hs
  | dbrk sid => exact runStep_tokensOk effDbrk_keeps _ _ _ hs
  | dsnap sid => exact runStep_tokensOk effDsnap_keeps _ _ _ hs
  | wld sid => exact runStep_tokensOk (.of_fr fun s => fr_effWld (fr_refl _ s) (within_notTokens rfl)) _ _ _ hs
  | wsw sid => exact runStep_tokensOk (.of_fr fun s => fr_effWsw (fr_refl _ s) (within_notTokens rfl)) _ _ _ hs
  | wref sid => exact runStep_tokensOk (.of_fr fun s => fr_effWref (fr_refl _ s) (within_notTokens rfl)) _ _ _ hs
  | mvm sid => exact runStep_tokensOk (.of_fr fun s sid h => fr_mvmIssue (fr_refl _ s) (within_notTokens rfl) sid h _) _ _ _ hs
  | mvmw sid => exact runStep_tokensOk (.of_fr fun s sid h => fr_mvmIssue (fr_refl _ s) (within_notTokens rfl) sid h _) _ _ _ hs
  | popen sid => exact runStep_tokensOk (.of_fr fun s => fr_effPopen (fr_refl _ s) (within_notTokens rfl)) _ _ _ hs
  | pclose sid => exact runStep_tokensOk (.of_fr fun s => fr_effPclose (fr_refl _ s) (within_notTokens rfl)) _ _ _ hs
  | spill sid => exact runStep_tokensOk (.of_fr fun s => fr_effSpill (fr_refl _ s) (within_notTokens rfl)) _ _ _ hs
  | resume sid => exact runStep_tokensOk (.of_fr fun s => fr_effResume (fr_refl _ s) (within_notTokens rfl)) _ _ _ hs
  | rot sid => exact runStep_tokensOk (.of_fr fun s => fr_effRot (fr_refl _ s) (within_notTokens rfl)) _ _ _ hs
  | qnt sid => exact runStep_tokensOk (.of_fr fun s => fr_effQnt (fr_refl _ s) (within_notTokens rfl)) _ _ _ hs
  | scup sid => exact runStep_tokensOk (.of_fr fun s => fr_effScup (fr_refl _ s) (within_notTokens rfl)) _ _ _ hs
  | stat sid => exact runStep_tokensOk (.of_fr fun s => fr_effStat (fr_refl _ s) (within_notTokens rfl)) _ _ _ hs
  | vop sid => exact runStep_tokensOk (.of_fr fun s => fr_effVop (fr_refl _ s) (within_notTokens rfl)) _ _ _ hs
  | att sid => exact runStep_tokensOk (.of_fr fun s => fr_effAtt (fr_refl _ s) (within_notTokens rfl)) _ _ _ hs
  | dma sid => exact runStep_tokensOk (.of_fr fun s => fr_effDma (fr_refl _ s) (within_notTokens rfl)) _ _ _ hs
  | get sid => exact runStep_tokensOk (.of_fr fun s => fr_effGet (fr_refl _ s) (within_notTokens rfl)) _ _ _ hs
  | put sid => exact runStep_tokensOk (.of_fr fun s => fr_effPut (fr_refl _ s) (within_notTokens rfl)) _ _ _ hs
  | aadd sid => exact runStep_tokensOk (.of_fr fun s => fr_effAadd (fr_refl _ s) (within_notTokens rfl)) _ _ _ hs
  | gath sid => exact runStep_tokensOk (.of_fr fun s => fr_effGath (fr_refl _ s) (within_notTokens rfl)) _ _ _ hs
  | stepCompletion sid uid => exact execStepCompletion_tokensOk hs sid uid
  | ringHeadPoll sid => exact execRingHeadPoll_tokensOk hs sid
  | tokenSignalWrite b tok => exact (sig_keepsTokens b _ s hs).guard _
  | basketReset b => exact (cmdReset'_keepsTokens b s hs).guard _
  | seqCntClr b => exact (seqClear_keepsTokens b s hs).guard _
  | write port m => exact (arrival_keepsTokens _ port m s hs).guard _
  | read port m => exact (arrival_keepsTokens _ port m s hs).guard _
  | atomic port m => exact (arrival_keepsTokens _ port m s hs).guard _
  | skip port m => exact (arrival_keepsTokens _ port m s hs).guard _
  | registerWrite fn off wide v => exact execRegisterWrite_tokensOk hs fn off wide v
  | warmReset => exact (warmReset_keepsTokens s hs).next
  | perstAssert => exact execPerstAssert_tokensOk hs
  | coldReset cause orderOk => exact (coldReset_keepsTokens cause orderOk s hs).next
  | vauxApply bad => exact execVauxApply_tokensOk hs bad
  | vauxPowerFail => exact execVauxPowerFail_tokensOk hs
  | _ => exact absurd hc.symm Bool.false_ne_true

end

/-- No command takes a token out of range. -/
theorem exec_tokensOk {s : State} (hs : s.TokensOk) (c : Instr) : TokensOkO (exec c s) := by
  cases hc : sparesTokens c
  · exact exec_tokensOk_of_touches hs hc
  · exact exec_tokensOk_of_spares hc hs

/-- Settles O5: with nothing queued the state ticks, else the first command runs, and neither takes a token out of range. -/
theorem stepsKeepTokenCountsInRange : Obligations.StepsKeepTokenCountsInRange := by
  intro s t htok hglob ht
  have hs : s.TokensOk := ⟨htok, hglob⟩
  unfold step at ht
  split at ht
  · cases ht
    exact hs.of_fr (fr_idleTick (fr_refl _ s) (within_notTokens rfl))
  · next c rest _ => exact exec_tokensOk (s := { s with pending := rest }) hs c t ht

end Sys2Proof.Machine
end

section
/-! PROOFS. WLD, WSW and WREF (06, R196, R197, R200, R201): what a Pan step changes where its Pan is out of service, and where
other work stands before it. -/

namespace Sys2Proof.Machine

/-! ## What a Pan step reads as it issues -/

/-- A target names the same Pan as the step issues. -/
theorem target_issued (s : State) (sid : Nat) (h : Hdr) (b ops : Nat) : (issued s sid h).target b ops = s.target b ops := by
  obtain ⟨_, _, _, _, hfr⟩ := issued_spec s sid h
  have hslot := State.slotPan_congr (s := s) fun p => congrArg Pan.slot (hfr.pan_eq (by decide) p)
  unfold State.target
  simp only [hslot]

/-- The weight descriptor of the step's block is the same as it issues. -/
theorem wdesc_issued (s : State) (sid : Nat) (h : Hdr) :
    (issued s sid h).wdesc ((issued s sid h).str sid) ((issued s sid h).blkOf ((issued s sid h).str sid) h).2 =
      s.wdesc (s.str sid) (s.blkOf (s.str sid) h).2 := by
  obtain ⟨hblk, _⟩ := mvm_issued s sid h false 0 0
  obtain ⟨⟨w, hstr⟩, _, _, _, hfr⟩ := issued_spec s sid h
  have hmem : (issued s sid h).mem = s.mem := hfr .mem (by decide)
  rw [hblk, hstr, if_pos rfl]
  unfold State.wdesc State.rdN State.rd
  rw [hmem]
  rfl

/-! ## Queues of a Pan -/

/-- A write joins a Pan's write queue. -/
def Pan.addWrite (w : WItem) (v : Pan) : Pan := { v with writeQ := v.writeQ ++ [w] }

/-- A swap joins a Pan's compute queue. -/
def Pan.addSwap (uid : Nat) (v : Pan) : Pan := { v with computeQ := v.computeQ ++ [.wsw uid] }

/-- A write that has just joined starts where it stands alone. -/
def State.startWrite (s : State) (p : Nat) : State := if (s.pan p).writeQ.length = 1 then s.writeNext p else s

/-- A swap that has just joined starts where it stands alone. -/
def State.startSwap (s : State) (p : Nat) : State := if (s.pan p).computeQ.length = 1 then s.swapNext p else s

/-- Behind other writes a write waits. -/
theorem State.startWrite_of_behind {s : State} {p : Nat} {v : Pan} {w : WItem} (hpan : s.pan p = v.addWrite w)
    (hbehind : v.writeQ ≠ []) : s.startWrite p = s := by
  unfold State.startWrite
  rw [hpan]
  exact if_neg (by simpa [Pan.addWrite] using hbehind)

/-- Behind other work a swap waits. -/
theorem State.startSwap_of_behind {s : State} {p uid : Nat} {v : Pan} (hpan : s.pan p = v.addSwap uid)
    (hbehind : v.computeQ ≠ []) : s.startSwap p = s := by
  unfold State.startSwap
  rw [hpan]
  exact if_neg (by simpa [Pan.addSwap] using hbehind)

/-! ## The three steps as they issue -/

theorem effWld_issued (s : State) (sid : Nat) (h : Hdr) :
    effWld (issued s sid h) sid h = (issued s sid h).panStep sid (recAt s sid h) (s.target (s.str sid).bsk h.ops)
      (Pan.addWrite (.wld s.nextUid (s.wdesc (s.str sid) (s.blkOf (s.str sid) h).2)
        (bits h.ops 17 0 + iterOf (s.str sid) * bits h.ops 33 26))) State.startWrite := by
  obtain ⟨⟨w, hstr⟩, _⟩ := issued_spec s sid h
  unfold effWld
  simp only [wdesc_issued, recAt_issued, target_issued]
  rw [hstr, if_pos rfl]
  rfl

theorem effWsw_issued (s : State) (sid : Nat) (h : Hdr) :
    effWsw (issued s sid h) sid h = (issued s sid h).panStep sid (recAt s sid h) (s.target (s.str sid).bsk h.ops)
      (Pan.addSwap s.nextUid) State.startSwap := by
  obtain ⟨⟨w, hstr⟩, _⟩ := issued_spec s sid h
  unfold effWsw
  simp only [recAt_issued, target_issued]
  rw [hstr, if_pos rfl]
  rfl

theorem effWref_issued (s : State) (sid : Nat) (h : Hdr) :
    effWref (issued s sid h) sid h = (issued s sid h).panStep sid (recAt s sid h) (s.target (s.str sid).bsk h.ops)
      (Pan.addWrite (.wref s.nextUid (bits h.ops 1 0))) State.startWrite := by
  obtain ⟨⟨w, hstr⟩, _⟩ := issued_spec s sid h
  unfold effWref
  simp only [recAt_issued, target_issued]
  rw [hstr, if_pos rfl]
  rfl

/-! ## A Pan step that is not applied, and one that waits -/

/-- The step that stands last in flight flies. -/
theorem flyingAs_of_last {s t : State} {sid : Nat} {r : StepRec} {l : List StepRec} (hr : r.h = (s.str sid).bsk)
    (hflight : (t.bsk r.h).inflight = l ++ [r]) : FlyingAs s t sid r := by
  unfold FlyingAs
  rw [← hr, hflight]
  exact List.mem_append_right _ (List.mem_singleton_self r)

section
variable {s : State} {sid p : Nat} {h : Hdr} (put : Pan → Pan) {go : State → Nat → State}

/-- On a Pan out of service a Pan step is over at once with status 4, and no Pan changes. -/
theorem panStep_of_out_of_service (go : State → Nat → State) (hout : (takesWork (s.pan p) && decide (p < 272)) = false) :
    let t := (issued s sid h).panStep sid (recAt s sid h) p put go
    StepGoes s t sid h ∧ FlyingAs s t sid { recAt s sid h with done := true, status := 4, detail := p } ∧ t.pans = s.pans := by
  obtain ⟨_, _, _, _, hissue⟩ := issued_spec s sid h
  obtain ⟨hgoes, hflight, hfr⟩ := launch_issued s sid h (r := { recAt s sid h with done := true, status := 4, detail := p }) rfl
  unfold State.panStep
  rw [hissue.pan_eq (by decide), if_neg (Bool.eq_false_iff.mp hout)]
  exact ⟨hgoes, flyingAs_of_last rfl hflight, hfr .pans (by decide)⟩

/-- On a Pan that takes work a Pan step that waits in its queue changes that queue alone. -/
theorem panStep_of_waits (hwork : (takesWork (s.pan p) && decide (p < 272)) = true)
    (hwaits : ∀ u : State, u.pan p = put (s.pan p) → go u p = u) :
    let t := (issued s sid h).panStep sid (recAt s sid h) p put go
    StepGoes s t sid h ∧ FlyingAs s t sid (recAt s sid h) ∧ (∀ q, q ≠ p → t.pan q = s.pan q) ∧ t.pan p = put (s.pan p) := by
  obtain ⟨_, _, _, _, hissue⟩ := issued_spec s sid h
  obtain ⟨hgoes, hflight, hfr⟩ := launch_issued s sid h (r := recAt s sid h) rfl
  unfold State.panStep
  rw [hissue.pan_eq (by decide), if_pos hwork]
  generalize (issued s sid h).launch sid (recAt s sid h) = u at hgoes hflight hfr ⊢
  rw [hwaits _ ((State.setPan_pan _ _ _ _).trans (if_pos rfl))]
  refine ⟨hgoes.of_fr (W := [.pans]) (fr_setPan (fr_refl _ u) (by simp [Within]) _ _) rfl (by decide),
    flyingAs_of_last rfl hflight, fun q hq => ?_, (State.setPan_pan _ _ _ _).trans (if_pos rfl)⟩
  rw [State.setPan_pan, if_neg hq, hfr.pan_eq (by decide)]

end

/-! ## The commands -/

theorem exec_wld_ready {s : State} {sid : Nat} {h : Hdr} (hready : HeadReady s sid 0x10 h) :
    exec (.wld sid) s = .next (effWld (issued s sid h) sid h) :=
  runStep_ready hready effWld noHold rfl (by decide)

theorem exec_wsw_ready {s : State} {sid : Nat} {h : Hdr} (hready : HeadReady s sid 0x11 h) :
    exec (.wsw sid) s = .next (effWsw (issued s sid h) sid h) :=
  runStep_ready hready effWsw noHold rfl (by decide)

theorem exec_wref_ready {s : State} {sid : Nat} {h : Hdr} (hready : HeadReady s sid 0x14 h) :
    exec (.wref sid) s = .next (effWref (issued s sid h) sid h) :=
  runStep_ready hready effWref noHold rfl (by decide)

/-- Settles O11: each step is a `State.panStep`, which is not applied on a Pan out of service, and behind other work only joins
its queue. -/
theorem panStepsJoinTheirQueues : Obligations.PanStepsJoinTheirQueues := by
  unfold Obligations.PanStepsJoinTheirQueues
  refine ⟨?out, ?waits⟩
  case out =>
    intro s sid h p r hout
    refine ⟨fun hready => ⟨_, exec_wld_ready hready, ?_⟩, fun hready => ⟨_, exec_wsw_ready hready, ?_⟩,
      fun hready => ⟨_, exec_wref_ready hready, ?_⟩⟩
    · exact effWld_issued s sid h ▸ panStep_of_out_of_service _ _ hout
    · exact effWsw_issued s sid h ▸ panStep_of_out_of_service _ _ hout
    · exact effWref_issued s sid h ▸ panStep_of_out_of_service _ _ hout
  case waits =>
    intro s sid h v p w tile hwork
    refine ⟨fun hready hbehind => ⟨_, exec_wld_ready hready, ?_⟩, fun hready hbehind => ⟨_, exec_wsw_ready hready, ?_⟩,
      fun hready hbehind => ⟨_, exec_wref_ready hready, ?_⟩⟩
    · exact effWld_issued s sid h ▸ panStep_of_waits _ hwork fun _ hpan => State.startWrite_of_behind hpan hbehind
    · exact effWsw_issued s sid h ▸ panStep_of_waits _ hwork fun _ hpan => State.startSwap_of_behind hpan hbehind
    · exact effWref_issued s sid h ▸ panStep_of_waits _ hwork fun _ hpan => State.startWrite_of_behind hpan hbehind

end Sys2Proof.Machine
end

section
/-! PROOFS. The records of the vector engine and the memory engine too are marked done by their issue number, in the first record
of that number (`State.stepDone`). As in O12, O13, O16 and O17, no hypothesis of O18 or O19 says that no step in flight holds that
number already. -/

namespace Sys2Proof.Machine

/-- The opcode of VOP or DMA. -/
def engineOpc (vop : Bool) : Nat := if vop then 0x40 else 0x50

/-- The block of a VOP that copies one BF16 value, or of a DMA that copies one row of 4 bytes, from window offset 0x1000 to
0x2000. -/
def engineBlock (vop : Bool) : List Byte :=
  leBytes 64 (if vop then 0x1000 + 0x2000 * 2 ^ 128 + 2 ^ 192 + 2 ^ 224 else 0x1000 + 0x2000 * 2 ^ 64 + 4 * 2 ^ 128 + 2 ^ 160)

/-- The state of `sharedUid`, its stream at that VOP or DMA: the NOP in flight holds the issue number that the step takes. -/
def engineSharedUid (vop : Bool) : State :=
  { sharedUid true with
    mem := wrTab (wrTab [] 0x100 (leBytes 16 (engineOpc vop * 2 ^ 120 + 2 ^ 118 + 2 ^ 72))) (crockBase + 0x40) (engineBlock vop) }

/-- The VOP or DMA at the head of stream 0. -/
def engineSharedUidHdr (vop : Bool) : Hdr := hdrOf ((engineSharedUid vop).rdN 0x100 16)

theorem engineSharedUid_ready (vop : Bool) :
    HeadReady (engineSharedUid vop) 0 (engineOpc vop) (engineSharedUidHdr vop) where
  range := by decide
  live := by cases vop <;> decide +kernel
  table := by cases vop <;> decide +kernel
  good := by cases vop <;> decide +kernel
  word := rfl
  code := by cases vop <;> decide +kernel
  fence h := absurd h (by cases vop <;> decide +kernel)
  token h := absurd h (by cases vop <;> decide +kernel)
  pred := by cases vop <;> decide +kernel
  block := by cases vop <;> decide +kernel
  pot := by cases vop <;> decide +kernel
  valid := by cases vop <;> decide +kernel
  room := by cases vop <;> decide +kernel

/-- What the step reads is free of uncorrectable words. -/
theorem engineSharedUid_readsGood (vop : Bool) :
    ReadsGood (engineSharedUid vop) 0 (stepRegions (engineSharedUid vop) ((engineSharedUid vop).str 0) (engineOpc vop)
      ((engineSharedUid vop).blkOf ((engineSharedUid vop).str 0) (engineSharedUidHdr vop)).2).1 := by
  unfold ReadsGood
  cases vop <;> decide +kernel

/-- The NOP takes the mark: after the command the NOP's record is done, and the step's is not. -/
theorem engineSharedUid_marks_nop (vop : Bool) :
    (Out.flight (exec (if vop then .vop 0 else .dma 0) (engineSharedUid vop))).map (fun r => (r.opc, r.done)) =
      [(0x00, true), (engineOpc vop, false)] := by
  cases vop <;> decide +kernel

/-- So no record of its opcode flies done after it. -/
theorem engineSharedUid_not_flying_done {vop : Bool} {t : State} {r : StepRec}
    (ht : exec (if vop then .vop 0 else .dma 0) (engineSharedUid vop) = .next t) (hopc : r.opc = engineOpc vop)
    (hdone : r.done = true) : r ∉ (t.bsk 0).inflight := by
  intro hr
  have hmark := Out.mem_flight_marks ht hr
  rw [engineSharedUid_marks_nop, hopc, hdone] at hmark
  revert hmark
  cases vop <;> decide

/-- Refutes O18: a VOP whose issue number a NOP in flight already holds writes its vector, and its own record is never done. -/
theorem not_vectorStepsWriteTheirResults : ¬ Obligations.VectorStepsWriteTheirResults := by
  unfold Obligations.VectorStepsWriteTheirResults
  rintro ⟨hall, _⟩
  obtain ⟨t, ht, _, _, hfly⟩ := hall (engineSharedUid true) 0 (engineSharedUidHdr true) (engineSharedUid_ready true)
    (engineSharedUid_readsGood true)
  exact engineSharedUid_not_flying_done (vop := true) ht (by decide +kernel) rfl hfly

/-- Refutes O19: a DMA whose issue number a NOP in flight already holds copies its row, and its own record is never done. -/
theorem not_dataMoversAndFabricSteps : ¬ Obligations.DataMoversAndFabricSteps := by
  unfold Obligations.DataMoversAndFabricSteps
  rintro ⟨hall, _⟩
  obtain ⟨hdma, _⟩ := hall (engineSharedUid false) 0 (engineSharedUidHdr false)
  obtain ⟨t, ht, _, _, _, hfly⟩ := hdma (engineSharedUid_ready false) (engineSharedUid_readsGood false) (by decide +kernel)
  exact engineSharedUid_not_flying_done (vop := false) ht (by decide +kernel) rfl hfly

end Sys2Proof.Machine
end

section
/-! PROOFS. What reaches local and host memory (07, R240): bytes come into a memory by `State.wr` and `State.hwr` alone, and both
keep its canonical form (log entry 13, DESIGN CHOICE). Here the operations that write, and those that end a stream or a step. -/

namespace Sys2Proof.Machine

/-- Every field but the two memories. -/
def notMem : List Field :=
  [.pending, .time, .freeCtr, .memBad, .memCorr, .memCe, .memUe, .hostBad, .streams, .waiting, .baskets, .pans, .pots, .scales,
   .tokens, .globals, .nextUid, .fastQ, .ket, .cal, .feu, .dzf, .hq, .trv, .dev, .evq, .tx, .hellos, .joins, .msix, .mgmt]

theorem within_notMem {l : List Field} (hl : (l.all fun f => decide (f ∈ notMem)) = true) : Within l notMem :=
  within_mono within_self hl

/-- The next state of an outcome has its memories in canonical form. -/
def MemOkO (o : Out) : Prop := ∀ t, o = .next t → t.MemOk

section
variable {s t : State}

theorem State.MemOk.of_fr (h : s.MemOk) (hfr : Fr notMem s t) : t.MemOk :=
  ⟨(hfr .mem (by decide)).symm ▸ h.1, (hfr .host (by decide)).symm ▸ h.2⟩

theorem State.MemOk.of_eq (h : s.MemOk) (hmem : t.mem = s.mem) (hhost : t.host = s.host) : t.MemOk := by
  rw [State.MemOk, hmem, hhost]
  exact h

theorem State.MemOk.ite {c : Prop} [Decidable c] (hs : s.MemOk) (ht : t.MemOk) : (if c then s else t).MemOk := by
  split <;> assumption

theorem State.MemOk.ite_fst {α : Type} {c : Prop} [Decidable c] {p q : State × α} (hp : p.1.MemOk) (hq : q.1.MemOk) :
    (if c then p else q).1.MemOk := by
  split <;> assumption

/-- The state of a pair that a match has taken apart. -/
theorem State.MemOk.of_fst {α : Type} {p : State × α} {a : α} (hp : p.1.MemOk) (e : p = (t, a)) : t.MemOk := by
  rw [e] at hp
  exact hp

theorem State.MemOk.foldl {α : Type} {f : State → α → State} {l : List α} (h : s.MemOk)
    (hf : ∀ s x, s.MemOk → (f s x).MemOk) : (l.foldl f s).MemOk := by
  induction l generalizing s with
  | nil => exact h
  | cons x l ih => exact ih (hf s x h)

theorem State.MemOk.foldl_fst {α β : Type} {f : State × β → α → State × β} {l : List α} {p : State × β} (h : p.1.MemOk)
    (hf : ∀ p x, p.1.MemOk → (f p x).1.MemOk) : (l.foldl f p).1.MemOk := by
  induction l generalizing p with
  | nil => exact h
  | cons x l ih => exact ih (hf p x h)

theorem State.MemOk.guard {ok : Bool} (h : s.MemOk) : MemOkO (guard ok s) := by
  unfold Machine.guard
  split
  · rintro _ ⟨⟩
    exact h
  · rintro _ ⟨⟩

theorem State.MemOk.next (h : s.MemOk) : MemOkO (.next s) := by
  rintro _ ⟨⟩
  exact h

end

/-! ## Updates that leave the memories alone -/

section
variable {s : State} (hs : s.MemOk)
include hs

theorem State.MemOk.setStr {i : Nat} {v : Stream} : (s.setStr i v).MemOk := hs
theorem State.MemOk.setBsk {h : Nat} {v : Basket} : (s.setBsk h v).MemOk := hs
theorem State.MemOk.setPan {p : Nat} {v : Pan} : (s.setPan p v).MemOk := hs
theorem State.MemOk.setPot {h n : Nat} {v : Pot} : (s.setPot h n v).MemOk := hs
theorem State.MemOk.raise {code cls unit index detail : Nat} : (s.raise code cls unit index detail).MemOk := hs
theorem State.MemOk.raiseS {code cls unit index sid h step detail : Nat} :
    (s.raiseS code cls unit index sid h step detail).MemOk := hs
theorem State.MemOk.modRec {h uid : Nat} {f : StepRec → StepRec} : (s.modRec h uid f).MemOk := hs
theorem State.MemOk.enter {r : StepRec} : (s.enter r).MemOk := hs
theorem State.MemOk.goTo {sid p : Nat} : (s.goTo sid p).MemOk := hs

theorem State.MemOk.settleBsk {h : Nat} : (s.settleBsk h).MemOk := hs.of_fr (fr_settleBsk (fr_refl _ s) (within_notMem rfl) _)
theorem State.MemOk.scrub {a n : Nat} : (s.scrub a n).MemOk := hs.of_fr (fr_scrub (fr_refl _ s) (within_notMem rfl) _ _)
theorem State.MemOk.scrubRegions {v : Stream} {l : List Region} : (s.scrubRegions v l).MemOk :=
  hs.of_fr (fr_scrubRegions (fr_refl _ s) (within_notMem rfl) _ _)
theorem State.MemOk.sig {h c : Nat} : (s.sig h c).MemOk := hs.of_fr (fr_sig (fr_refl _ s) (within_notMem rfl) _ _)
theorem State.MemOk.takeTok {h c : Nat} : (s.takeTok h c).MemOk := hs.of_fr (fr_takeTok (fr_refl _ s) (within_notMem rfl) _ _)
theorem State.MemOk.dropStream {i : Nat} : (s.dropStream i).MemOk :=
  hs.of_fr (fr_dropStream (fr_refl _ s) (within_notMem rfl) _)
theorem State.MemOk.migReport {i res : Nat} : (s.migReport i res).MemOk :=
  hs.of_fr (fr_migReport (fr_refl _ s) (within_notMem rfl) _ _)
theorem State.MemOk.sendUnits {us : List FUnit} : (s.sendUnits us).MemOk :=
  hs.of_fr (fr_sendUnits (fr_refl _ s) (within_notMem rfl) _)
theorem State.MemOk.takeTags {n : Nat} : (s.takeTags n).2.MemOk := hs.of_fr (fr_takeTags (fr_refl _ s) (within_notMem rfl) _)

/-! ## Writes -/

theorem State.MemOk.wr {a : Nat} {bs : List Byte} : (s.wr a bs).MemOk :=
  ⟨State.wr_wf s a bs hs.1, (fr_wr (fr_refl _ s) within_self a bs .host (by decide)).symm ▸ hs.2⟩
theorem State.MemOk.hwr {a : Nat} {bs : List Byte} : (s.hwr a bs).MemOk := ⟨hs.1, State.hwr_wf s a bs hs.2⟩
theorem State.MemOk.wrN {a n v : Nat} : (s.wrN a n v).MemOk := hs.wr

theorem State.MemOk.wrRows {a pitch : Nat} {rows : List (List Byte)} : (s.wrRows a pitch rows).MemOk :=
  foldl_fst hs fun _ _ hx => hx.wr

theorem State.MemOk.wrDesc {i : Nat} {ptr : Bool} : (s.wrDesc i ptr).MemOk := .wrN (.wrN (.wrN (.wrN (.ite hs.wrN hs))))
theorem State.MemOk.wrCtx {i : Nat} : (s.wrCtx i).MemOk := hs.wr
theorem State.MemOk.putStr {i : Nat} {v : Stream} : (s.putStr i v).MemOk := .wrDesc hs.setStr

/-! ## Streams that stop -/

theorem State.MemOk.abortStr {i cause : Nat} : (s.abortStr i cause).MemOk := by
  unfold State.abortStr
  refine .ite ?_ hs
  extract_lets was s1 s2 s3
  have h1 : s1.MemOk := .ite hs.migReport.dropStream hs.dropStream
  have h2 : s2.MemOk := .putStr h1
  exact .settleBsk (.ite h2 h2.wrCtx)

theorem State.MemOk.raiseX {code unit index sid h step detail : Nat} : (s.raiseX code unit index sid h step detail).MemOk :=
  .abortStr hs.raiseS
theorem State.MemOk.hostX {kind sid h step : Nat} : (s.hostX kind sid h step).MemOk := hs.raiseX
theorem State.MemOk.memX {w sid h step : Nat} : (s.memX w sid h step).MemOk := hs.raiseX

theorem State.MemOk.migFail {i res : Nat} : (s.migFail i res).MemOk := .putStr hs.migReport

theorem State.MemOk.evict {h : Nat} : (s.evict h).MemOk := hs.foldl fun _ _ hx => .ite hx.migFail hx.abortStr

theorem State.MemOk.failStep {sid code reason : Nat} : (s.failStep sid code reason).MemOk := .raiseS hs.putStr

/-! ## The end of a step -/

theorem State.MemOk.putRec {sid : Nat} {bs : List Byte} : (s.putRec sid bs).MemOk := .wrN (.setStr hs.wr)
theorem State.MemOk.endStr {sid : Nat} : (s.endStr sid).MemOk := by
  unfold State.endStr
  exact .settleBsk (.wrCtx hs.putStr)

theorem State.MemOk.finish {r : StepRec} : (s.finish r).MemOk := by
  unfold State.finish
  extract_lets t s1 s2 s3 b s4 s5
  have h2 : s2.MemOk := .ite (.raiseS hs.setStr) hs.setStr
  have h3 : s3.MemOk := .ite h2.putRec h2
  have h5 : s5.MemOk := .sig h3.setBsk
  exact .ite h5.endStr h5

theorem State.MemOk.tryEnd {r : StepRec} : (s.tryEnd r).MemOk := .ite hs (.ite (.ite hs hs.setBsk) hs.finish)

theorem State.MemOk.tryFinish {r : StepRec} : (s.tryFinish r).MemOk := by
  unfold State.tryFinish
  extract_lets b
  split
  · exact hs.tryEnd
  · next k _ =>
    have hlead : ((s.modRec r.h k.uid (fun x => { x with done := true })).tryEnd { k with done := true }).MemOk := .tryEnd hs.modRec
    exact .ite (.ite hlead.tryEnd hlead) hs

theorem State.MemOk.over {r : StepRec} : (s.over r).MemOk := .tryFinish hs.enter

end

end Sys2Proof.Machine
end

section
/-! PROOFS. The sequencer keeps both memories in canonical form (05, R148 to R163; 06): the head of a stream, and the operations of
the control steps, the Whisk and vector steps, and the data movers. -/

namespace Sys2Proof.Machine

/-- The operation of an opcode keeps the memories in canonical form. -/
def EffMemOk (eff : State → Nat → Hdr → State) : Prop := ∀ sid h s, s.MemOk → (eff s sid h).MemOk

theorem EffMemOk.of_fr {eff : State → Nat → Hdr → State} (hfr : ∀ s sid h, Fr notMem s (eff s sid h)) : EffMemOk eff :=
  fun sid h s hs => hs.of_fr (hfr s sid h)

/-! ## The head of a stream -/

theorem State.MemOk.skipStep {s : State} (hs : s.MemOk) {sid : Nat} {h : Hdr} : (s.skipStep sid h).MemOk := by
  have htake : (if tokLegal h.wait then s.takeTok (s.str sid).bsk h.wait else s).MemOk := .ite hs.takeTok hs
  exact .over (.setStr (htake.of_fr (fr_dropChain (fr_refl _ _) (within_notMem rfl) sid)))

section
variable {eff : State → Nat → Hdr → State} (heff : EffMemOk eff) {hold : State → Nat → Hdr → Bool} {sid : Nat} {h : Hdr}
  {s : State} (hs : s.MemOk)
include heff hs

theorem State.MemOk.issueStep : (s.issueStep sid h eff).MemOk := heff sid h _ (.setBsk (.setStr hs.takeTok))

theorem State.MemOk.headGo : (s.headGo sid h hold eff).MemOk := by
  unfold State.headGo
  refine .ite hs.setStr (.ite hs.skipStep ?_)
  split
  · exact hs.failStep
  · extract_lets off u
    have hu : u.MemOk := .ite hs hs.scrub
    generalize (if blockLen h.opc = 0 then none else _) = bad
    cases bad with
    | some w => exact .memX hs.scrub
    | none =>
      refine .ite hu ?_
      split
      · exact hu.failStep
      · exact .ite hu (.ite hu (hu.issueStep heff))

theorem State.MemOk.headStep : (s.headStep sid h hold eff).MemOk := by
  unfold State.headStep
  refine .ite (.ite hs ?_) (hs.headGo heff)
  split
  · split
    · exact hs.hostX
    · exact .headGo heff hs.setStr
  · exact hs.headGo heff

theorem State.MemOk.runHead {opc : Nat} : (s.runHead opc sid hold eff).MemOk := by
  unfold State.runHead
  refine .ite hs (.ite hs.failStep ?_)
  split
  · exact .memX hs.scrub
  · exact .ite hs (.headStep heff hs.scrub)

theorem runStep_memOk {opc : Nat} : MemOkO (runStep opc hold eff sid s) := (hs.runHead heff).guard

end

/-! ## The control steps -/

theorem State.MemOk.ctlTo {s : State} (hs : s.MemOk) {sid p : Nat} {h : Hdr} : (s.ctlTo sid h p).MemOk := .over hs.goTo

theorem State.MemOk.brClear {s : State} (hs : s.MemOk) {sid : Nat} {h : Hdr} : (s.brClear sid h).MemOk :=
  hs.of_fr (fr_brClear (fr_refl _ s) (within_notMem rfl) _ _)

theorem effNext_memOk : EffMemOk effNext := fun _ _ _ hs => hs.ctlTo

theorem effLoop_memOk : EffMemOk effLoop := fun _ _ _ hs => .ite hs.ctlTo (.ctlTo hs.setStr)

theorem effEndl_memOk : EffMemOk effEndl := by
  intro sid h s hs
  unfold effEndl
  extract_lets t
  split
  · exact hs
  · exact .ite (.ctlTo hs.setStr) (.ctlTo hs.setStr)

theorem effBr_memOk : EffMemOk effBr := fun _ _ _ hs => .ctlTo hs.brClear

theorem effCall_memOk : EffMemOk effCall := fun _ _ _ hs => .ctlTo (.setStr hs.brClear)

theorem effRet_memOk : EffMemOk effRet := by
  intro sid h s hs
  unfold effRet
  extract_lets t
  split
  · exact hs
  · exact .ctlTo hs.setStr

theorem effHalt_memOk : EffMemOk effHalt := fun _ _ _ hs => .over hs.setStr

theorem effMark_memOk : EffMemOk effMark := fun _ _ _ hs => .over hs.goTo

theorem effDbrk_memOk : EffMemOk effDbrk :=
  fun _ _ _ hs => (State.MemOk.putStr (State.MemOk.ctlTo hs)).of_fr (fr_notice (fr_refl _ _) (within_notMem rfl) _ _ _)

theorem effDsnap_memOk : EffMemOk effDsnap := fun _ _ _ hs => .ctlTo hs.wr

/-! ## Steps that read their inputs first -/

section
variable {s : State} (hs : s.MemOk)
include hs

theorem State.MemOk.launch {sid : Nat} {r : StepRec} : (s.launch sid r).MemOk := .enter hs.goTo
theorem State.MemOk.stepDone {r : StepRec} {detail : Nat} : (s.stepDone r detail).MemOk := hs.modRec
theorem State.MemOk.setScale {h n : Nat} {v : ScaleEntry} : (s.setScale h n v).MemOk := hs
theorem State.MemOk.quantise {h hnd f : Nat} {shadow : Bool} {zp : List Nat} {xs : List (List W32)} :
    (s.quantise h hnd f shadow zp xs).1.MemOk := hs.of_fr (fr_quantise (fr_refl _ s) (within_notMem rfl) _ _ _ _ _ _)
theorem State.MemOk.whiskEvents {h sid idx : Nat} {wide under : List Nat} {sat : Bool} :
    (s.whiskEvents h sid idx wide under sat).MemOk := hs.of_fr (fr_whiskEvents (fr_refl _ s) (within_notMem rfl) _ _ _ _ _ _)

/-- Inputs with an uncorrectable word end the stream; else the step's work runs on what was read (07, R243). -/
theorem State.MemOk.withInputs {v : Stream} {r : StepRec} {ins : List Region} {work : State → State}
    (hwork : ∀ u, u.MemOk → (work u).MemOk) : (s.withInputs v r ins work).MemOk := by
  unfold State.withInputs
  extract_lets u
  split
  · exact .memX hs.scrubRegions
  · exact hwork u hs.scrubRegions

theorem State.MemOk.sendStep {sid off : Nat} {h : Hdr} {us : State → StepRec → List (Nat → Nat → FUnit)} :
    (s.sendStep sid h off us).MemOk := hs.of_fr (fr_sendStep (fr_refl _ s) (within_notMem rfl) _ _ _ _)

theorem State.MemOk.dmaRow {v : Stream} {b : Blk} {i : Nat} : (s.dmaRow v b i).1.MemOk := by
  unfold State.dmaRow
  extract_lets len src dst got
  clear_value got
  obtain ⟨_ | k, bs⟩ := got
  · refine .ite_fst ?_ hs.wr
    split
    · exact hs
    · exact hs.hwr
  · exact hs

end

theorem dmaRows_memOk {v : Stream} {b : Blk} (n : Nat) : ∀ {s : State} {i : Nat}, s.MemOk → (s.dmaRows v b n i).1.MemOk := by
  induction n with
  | zero => exact fun hs => hs
  | succ n ih =>
    intro s i hs
    unfold State.dmaRows
    split
    · next heq => exact hs.dmaRow.of_fst heq
    · next heq => exact ih (hs.dmaRow.of_fst heq)

theorem effRot_memOk : EffMemOk effRot := by
  intro sid h s hs
  unfold effRot
  extract_lets t b r ctl c n io
  exact .withInputs hs.launch fun u hu => .ite hu.setStr (.stepDone hu.wrRows)

theorem effQnt_memOk : EffMemOk effQnt := by
  intro sid h s hs
  unfold effQnt
  extract_lets t b c n hnd f ctl r io s1 s2
  refine .withInputs (.setStr hs.launch) fun u hu => ?_
  extract_lets xs zp
  exact .modRec (.stepDone (.whiskEvents (.ite (.wrRows (.wrRows hu.quantise)) (.wrRows hu.quantise))))

theorem effScup_memOk : EffMemOk effScup := by
  intro sid h s hs
  unfold effScup
  extract_lets t hnd cnt a _ r s1
  have h1 : s1.MemOk := hs.launch
  exact .ite (h1.withInputs fun u hu => .stepDone (hu.foldl fun _ _ hx => hx.setScale))
    (.stepDone (h1.foldl fun _ _ hx => hx.setScale))

theorem effStat_memOk : EffMemOk effStat := fun _ _ _ hs => .stepDone (.wr hs.launch)

theorem effVop_memOk : EffMemOk effVop := by
  intro sid h s hs
  unfold effVop
  extract_lets t b r c n op f io
  exact .withInputs hs.launch fun u hu => .stepDone hu.wrRows

theorem effAtt_memOk : EffMemOk effAtt := by
  intro sid h s hs
  unfold effAtt
  extract_lets t b r a q pt io
  exact .withInputs hs.launch fun u hu => .ite hu.raiseX (hu.withInputs fun w hw => .stepDone (.ite (.wr hw.wr) hw.wr))

theorem effDma_memOk : EffMemOk effDma := by
  intro sid h s hs
  unfold effDma
  extract_lets t b r io
  refine .withInputs hs.launch fun u hu => ?_
  extract_lets _ s1
  have hrows := dmaRows_memOk (v := t) (b := b) (fld b 0x14 4) (i := 0) (State.MemOk.ite hu.setStr hu : s1.MemOk)
  split
  · next heq => exact .hostX (hrows.of_fst heq)
  · next heq => exact .stepDone (hrows.of_fst heq)

theorem effPut_memOk : EffMemOk effPut := fun _ _ _ hs => hs.withInputs fun _ hu => hu.sendStep

theorem effAadd_memOk : EffMemOk effAadd := fun _ _ _ hs => hs.withInputs fun _ hu => hu.sendStep

theorem State.MemOk.gathRows {s : State} (hs : s.MemOk) {v : Stream} {b : Blk} {idx : List Nat} : (s.gathRows v b idx).MemOk :=
  hs.foldl fun _ _ hx => .ite hx.wr (.ite hx.wr hx)

theorem effGath_memOk : EffMemOk effGath := by
  intro sid h s hs
  unfold effGath
  extract_lets t
  split
  next off b =>
  extract_lets idx ixr r
  refine .ite (.withInputs hs.launch fun u hu => .stepDone hu.gathRows) (hs.withInputs fun u hu => ?_)
  exact .sendUnits (.gathRows (.launch hu.takeTags))

end Sys2Proof.Machine
end

section
/-! PROOFS. The Pots keep both memories in canonical form (04, R123 to R133): a spill and a close write their buffers, their columns
and their close record. -/

namespace Sys2Proof.Machine

section
variable {s : State} (hs : s.MemOk)
include hs

theorem State.MemOk.potOvf {h uid : Nat} : (s.potOvf h uid).MemOk := hs.of_fr (fr_potOvf (fr_refl _ s) (within_notMem rfl) _ _)
theorem State.MemOk.potDone {h uid len : Nat} : (s.potDone h uid len).MemOk :=
  hs.of_fr (fr_potDone (fr_refl _ s) (within_notMem rfl) _ _ _)

theorem State.MemOk.potEcc {t : State} {h n : Nat} (e : s.potEcc h n = some t) : t.MemOk :=
  hs.of_fr (fr_potEcc (fr_refl _ s) (within_notMem rfl) _ _ t e)

theorem State.MemOk.potEccAt {h n sid idx : Nat} : (s.potEccAt h n sid idx).MemOk := .raiseX hs.setBsk
theorem State.MemOk.potEccX {h n : Nat} {r : StepRec} : (s.potEccX h n r).MemOk := hs.potEccAt

/-! ## Spills -/

theorem State.MemOk.spillInto {a : Nat} {p : Pot} : (s.spillInto a p).1.MemOk := hs.wr

theorem State.MemOk.spillPot {h n buf sid idx : Nat} : (s.spillPot h n buf sid idx).1.MemOk := by
  unfold State.spillPot
  split
  · exact hs.potEccAt
  · next u heq =>
    have hu := hs.potEcc heq
    extract_lets p t rg
    split
    · exact .memX hu.scrubRegions
    · exact .setPot (.spillInto hu.scrubRegions)

theorem State.MemOk.runSpill {h n buf : Nat} {r : StepRec} : (s.runSpill h n r buf).MemOk := by
  unfold State.runSpill
  extract_lets len
  split
  · next heq =>
    have hu := hs.spillPot.of_fst heq
    exact .potDone (.ite hu.potOvf hu)
  · next heq => exact hs.spillPot.of_fst heq

/-! ## Closes -/

theorem State.MemOk.putStats {a : Nat} {merge : Bool} {vs : List W32} : (s.putStats a merge vs).MemOk := hs.wr

theorem State.MemOk.endClose {h n : Nat} : (s.endClose h n).MemOk := by
  unfold State.endClose
  extract_lets p
  split
  · exact .modRec (.setPot hs.wr)
  · exact hs

theorem State.MemOk.runPclose {h n : Nat} {r : StepRec} {d : CloseDesc} : (s.runPclose h n r d).MemOk := by
  unfold State.runPclose
  split
  · exact hs.potEccX
  · next u heq =>
    have hu : u.MemOk := hs.potEcc heq
    extract_lets p _ t ins s1
    have h1 : s1.MemOk := hu.scrubRegions
    split
    · exact h1.memX
    · split
      next s2 ovf heq =>
      have h2 : s2.MemOk := by
        split at heq
        · exact h1.spillInto.of_fst heq
        · exact h1.of_fst (p := (s1, false)) heq
      extract_lets s3 p hl cols vs s4 nonfin base
      have h3 : s3.MemOk := .ite h2.potOvf h2
      have h4 : s4.MemOk := .ite (.foldl_fst h3 fun _ _ hx => hx.putStats) h3
      refine .ite (.ite ?_ ?_) ?_
      · exact .endClose (.setPot (.modRec (.whiskEvents (.ite (.wrRows (.wrRows h4.quantise)) (.wrRows h4.quantise)))))
      · exact .endClose (.setPot (.modRec (.whiskEvents h4.wrRows)))
      · exact .sendUnits (.modRec h4.setPot)

/-! ## Waits -/

theorem State.MemOk.runWait {h n : Nat} : (s.runWait h n).MemOk := by
  unfold State.runWait
  extract_lets p
  split
  · exact hs
  · split
    · exact hs.setPot
    · refine .ite ?_ hs
      extract_lets s1
      have h1 : s1.MemOk := hs.setPot
      split
      · exact h1.of_fr (fr_runPopen (fr_refl _ _) (within_notMem rfl) _ _ _ _ _)
      · exact h1.runSpill
      · exact h1.runPclose

theorem State.MemOk.addWait {h n : Nat} {w : PotWait} : (s.addWait h n w).MemOk := .ite (.runWait hs.setPot) hs.setPot

/-! ## The Pot steps -/

theorem State.MemOk.retryClose {sid n : Nat} {h : Hdr} : (s.retryClose sid h n).MemOk := by
  unfold State.retryClose
  extract_lets r p
  split
  · next k _ _ =>
    extract_lets s1
    have h1 : s1.MemOk := hs.launch
    split
    · exact h1.potEccX
    · next u heq =>
      have hu : u.MemOk := h1.potEcc heq
      exact .ite (.endClose (.modRec hu.setPot)) (.sendUnits (.modRec hu.setPot))
  · exact hs.launch

end

theorem effPopen_memOk : EffMemOk effPopen :=
  fun _ _ _ hs => (State.MemOk.foldl (State.MemOk.launch hs) fun _ _ hx => hx.setPot).foldl fun _ _ hx => hx.addWait

theorem effSpill_memOk : EffMemOk effSpill := fun _ _ _ hs => .addWait (.setPot hs.launch)

theorem effPclose_memOk : EffMemOk effPclose := by
  intro sid h s hs
  unfold effPclose
  extract_lets t
  split
  exact .ite hs.retryClose (.addWait (.setPot (.launch hs.takeTags)))

end Sys2Proof.Machine
end

section
/-! PROOFS. The Pans keep both memories in canonical form (02, R42 to R55; 04, R115 to R119; 10, R311 to R325): a Pan writes no
memory of its own, and where a bank, a block or a replay fails in class X it ends a stream. -/

namespace Sys2Proof.Machine

section
variable {s : State} (hs : s.MemOk)
include hs

/-! ## What Pans do without ending a stream -/

theorem State.MemOk.fresh : s.fresh.MemOk := hs
theorem State.MemOk.holdPan {p : Nat} {byPlan : Bool} : (s.holdPan p byPlan).MemOk := hs
theorem State.MemOk.modWin {p w : Nat} {f : Window → Window} : (s.modWin p w f).MemOk := hs
theorem State.MemOk.popWrite {p : Nat} : (s.popWrite p).MemOk := hs.of_fr (fr_popWrite (fr_refl _ s) (within_notMem rfl) _)
theorem State.MemOk.wrefBank {p : Nat} {toB ok : Bool} : (s.wrefBank p toB ok).1.MemOk :=
  hs.of_fr (fr_wrefBank (fr_refl _ s) (within_notMem rfl) _ _ _)
theorem State.MemOk.fetchTile {p tile : Nat} {d : WDesc} : (s.fetchTile p d tile).1.MemOk :=
  hs.of_fr (fr_fetchTile (fr_refl _ s) (within_notMem rfl) _ _ _)
theorem State.MemOk.grantFast {h : Nat} {m : MvmRun} : (s.grantFast h m).1.MemOk :=
  hs.of_fr (fr_grantFast (fr_refl _ s) (within_notMem rfl) _ _)
theorem State.MemOk.draw {h n : Nat} : (s.draw h n).1.MemOk := hs.of_fr (fr_draw (fr_refl _ s) (within_notMem rfl) _ _)
theorem State.MemOk.runOn {p : Nat} {blk : Block} {k : Bank} {parity : Bool} : (s.runOn p blk k parity).1.MemOk :=
  hs.of_fr (fr_runOn (fr_refl _ s) (within_notMem rfl) _ _ _ _)
theorem State.MemOk.commit {blk : Block} {run : Run} : (s.commit blk run).MemOk :=
  hs.of_fr (fr_commit (fr_refl _ s) (within_notMem rfl) _ _)
theorem State.MemOk.settleMvm {h uid : Nat} : (s.settleMvm h uid).MemOk :=
  hs.of_fr (fr_settleMvm (fr_refl _ s) (within_notMem rfl) _ _)
theorem State.MemOk.chk {blk : Block} {cls p detail : Nat} : (s.chk blk cls p detail).MemOk :=
  hs.of_fr (fr_chk (fr_refl _ s) (within_notMem rfl) _ _ _ _)
theorem State.MemOk.replayed {p : Nat} {blk : Block} : (s.replayed p blk).MemOk := hs
theorem State.MemOk.dropLadder {p : Nat} {l : Ladder} : (s.dropLadder p l).MemOk := hs
theorem State.MemOk.dropSample {p : Nat} {x : Sample} : (s.dropSample p x).MemOk := hs
theorem State.MemOk.cntSame : s.cntSame.MemOk := hs
theorem State.MemOk.cntSpare : s.cntSpare.MemOk := hs
theorem State.MemOk.earlyCal {p : Nat} : (s.earlyCal p).MemOk := hs.of_fr (fr_earlyCal (fr_refl _ s) (within_notMem rfl) _)
theorem State.MemOk.toSuspect {p : Nat} {b : Bool} : (s.toSuspect p b).MemOk :=
  hs.of_fr (fr_toSuspect (fr_refl _ s) (within_notMem rfl) _ _)
theorem State.MemOk.testTurn : s.testTurn.MemOk := hs.of_fr (fr_testTurn (fr_refl _ s) (within_notMem rfl))
theorem State.MemOk.abandonIn {h : Nat} : (s.abandonIn h).MemOk := hs.of_fr (fr_abandonIn (fr_refl _ s) (within_notMem rfl) _)
theorem State.MemOk.tellSpares {h : Nat} : (s.tellSpares h).MemOk := hs.of_fr (fr_tellSpares (fr_refl _ s) (within_notMem rfl) _)
theorem State.MemOk.notApplied {p : Nat} : (s.notApplied p).MemOk := hs.of_fr (fr_notApplied (fr_refl _ s) (within_notMem rfl) _)
theorem State.MemOk.passSlot {p q : Nat} {b : Bool} : (s.passSlot p q b).MemOk :=
  hs.of_fr (fr_passSlot (fr_refl _ s) (within_notMem rfl) _ _ _)
theorem State.MemOk.bbrPut {k : BbrKind} : (s.bbrPut k).MemOk := hs

/-! ## Retirement -/

theorem State.MemOk.retireBasket {h : Nat} {byTest : Bool} : (s.retireBasket h byTest).MemOk := by
  unfold State.retireBasket
  extract_lets s1 s2 b s3 s4
  have h3 : s3.MemOk := .setBsk (.evict hs.abandonIn)
  exact .testTurn (.raise (.ite h3.bbrPut h3))

theorem State.MemOk.retirePan {p : Nat} {b : Option Nat} : (s.retirePan p b).MemOk := by
  unfold State.retirePan
  have hfull (u : State) (hu : u.MemOk) : (if u.slotsFull (panBsk p) then u else u.retireBasket (panBsk p) false).MemOk :=
    .ite hu hu.retireBasket
  refine hfull _ (.tellSpares (.notApplied (.bbrPut (.raise (.setPan ?_)))))
  split
  · exact hs.passSlot
  · exact hs.setPan

/-! ## Loads -/

theorem State.MemOk.loadX {w : Nat} {who : LoadFor} : (s.loadX w who).MemOk := by
  unfold State.loadX
  split
  · exact hs.memX
  · exact hs.raise

theorem State.MemOk.loadTile {p tile : Nat} {toB : Bool} {d : WDesc} {who : LoadFor} : (s.loadTile p toB d tile who).1.MemOk := by
  unfold State.loadTile
  extract_lets t rs
  split
  · exact .loadX hs.scrubRegions
  · have h1 := hs.scrubRegions (v := t) (l := rs)
    split
    next s2 bytes heq =>
    have h2 : s2.MemOk := by
      refine State.MemOk.of_fst (.ite_fst ?_ (.ite_fst h1.fetchTile h1)) heq
      split
      · exact h1.hostX
      · exact h1.raise
      · exact h1
    split
    · exact h2
    · exact .setBsk h2.setPan

theorem State.MemOk.writeNext {p : Nat} : (s.writeNext p).MemOk := by
  unfold State.writeNext
  extract_lets h v
  split
  · split
    next heq =>
    have h1 := hs.loadTile.of_fst heq
    exact .ite (.modRec h1.popWrite) h1
  · split
    next heq =>
    have h1 := hs.loadTile.of_fst heq
    exact .ite h1.popWrite h1
  · split
    split
    next heq =>
    have h1 := hs.popWrite.wrefBank.of_fst heq
    split
    next heq =>
    exact .modRec (h1.wrefBank.of_fst heq)
  · split
    · exact hs.loadTile
    · exact hs
  · exact hs

theorem State.MemOk.panStep {sid p : Nat} {r : StepRec} {put : Pan → Pan} {go : State → Nat → State}
    (hgo : ∀ u p, u.MemOk → (go u p).MemOk) : (s.panStep sid r p put go).MemOk :=
  .ite (hgo _ _ (.setPan hs.launch)) hs.launch

/-! ## Group blocks and promotions -/

theorem State.MemOk.blockTail {p nvec : Nat} {blk : Block} {last parity : Bool} : (s.blockTail p nvec blk last parity).MemOk := by
  unfold State.blockTail
  extract_lets s1
  have h1 : s1.MemOk := .ite hs.modWin hs
  split
  next heq =>
  have h2 := h1.draw.of_fst heq
  split
  next heq =>
  have h3 := h2.runOn.of_fst heq
  refine .ite ?_ (.setPan h3.setPan)
  split
  · exact .setPan h3.setPan
  · exact .setPan (.commit h3.setPan)

theorem State.MemOk.blockEnd {p tile batch : Nat} {m : MvmRun} {rest : List CItem} {parity : Bool} :
    (s.blockEnd p m tile batch rest parity).MemOk := by
  unfold State.blockEnd
  extract_lets h v b nvec pass group rg t home
  split
  · exact .memX hs.scrubRegions
  · exact hs
  · refine .ite hs.holdPan (.ite (.holdPan (.fresh hs.setBsk)) (.ite hs.holdPan ?_))
    split
    next heq =>
    have h1 := hs.scrubRegions.grantFast.of_fst heq
    exact .blockTail (.setPan h1.setBsk)

theorem State.MemOk.groupBlock {p : Nat} {parity : Bool} : (s.groupBlock p parity).MemOk := by
  unfold State.groupBlock
  extract_lets v
  split
  · split
    · exact .ite (.settleMvm hs.blockEnd) hs
    · exact hs
  · exact hs

theorem State.MemOk.windowParity {p slot : Nat} {w : Window} {m : MvmRun} {r : StepRec} : (s.windowParity p w m r slot).MemOk :=
  .ite (.setPan (.modWin hs.raiseS)) hs.raiseX

theorem State.MemOk.promote {p slot col : Nat} {w : Window} {m : MvmRun} {r : StepRec} : (s.promote p w m r slot col).MemOk := by
  unfold State.promote
  extract_lets h
  split
  next pot el =>
  split
  · exact hs.potEccX
  · next u heq =>
    have hu : u.MemOk := hs.of_fr (fr_potEccIn (fr_refl _ s) (within_notMem rfl) _ _ _ _ heq)
    extract_lets q n bad s1 s2 _ _
    have h2 : s2.MemOk := .ite (.potOvf hu.setPot) hu.setPot
    exact .settleMvm (.ite h2.setPan h2.modWin)

/-! ## Replays -/

theorem State.MemOk.chkX {blk : Block} {p detail : Nat} : (s.chkX blk p detail).MemOk := by
  unfold State.chkX
  split
  · exact hs.raiseX
  · exact hs

theorem State.MemOk.replayBank {p : Nat} {m : MvmRun} {blk : Block} : (s.replayBank p m blk).1.MemOk := by
  unfold State.replayBank
  extract_lets v
  refine .ite_fst hs (.ite_fst hs ?_)
  split
  next heq =>
  have h1 := hs.loadTile.of_fst heq
  exact .ite_fst h1.setPan h1

theorem State.MemOk.spareBank {q : Nat} {m : MvmRun} {blk : Block} : (s.spareBank q m blk).1.MemOk := hs.loadTile

theorem State.MemOk.replaySame {p : Nat} {parity : RunParity} : (s.replaySame p parity).MemOk := by
  unfold State.replaySame
  extract_lets h
  split
  · exact hs
  · next l _ =>
    split
    · exact hs
    · refine .ite (.chkX hs.cntSame) ?_
      split
      · next heq => exact hs.replayBank.of_fst heq
      · next heq =>
        have h1 := hs.replayBank.of_fst heq
        split
        next heq =>
        have h2 := h1.runOn.of_fst heq
        refine .ite ?_ (.setPan h2.replayed)
        extract_lets s3 s4
        have h3 : s3.MemOk := .commit (.dropLadder h2.replayed)
        exact .settleMvm (.ite h3 (.chk h3.cntSame))

theorem State.MemOk.rung3 {p spare : Nat} {l : Ladder} {run : Run} : (s.rung3 p l run spare).MemOk :=
  .ite (.settleMvm (.chk (.commit hs.dropLadder))) hs.chkX

theorem State.MemOk.sparePassed {p q : Nat} {l : Ladder} : (s.sparePassed p q l).MemOk :=
  .ite hs (.ite (.retirePan hs.chk) (.ite (.toSuspect hs.chk) hs.chk))

theorem State.MemOk.ladderSpare {h : Nat} : (s.ladderSpare h).2.MemOk := hs.of_fr (fr_ladderSpare (fr_refl _ s) (within_notMem rfl) _)

theorem State.MemOk.replaySpare {p : Nat} {parity : RunParity} : (s.replaySpare p parity).MemOk := by
  unfold State.replaySpare
  extract_lets h
  split
  · exact hs
  · next l _ =>
    refine .ite hs ?_
    split
    · exact hs
    · have hspare := hs.ladderSpare (h := h)
      split
      · next heq =>
        rw [heq] at hspare
        exact hspare
      · next q _ heq =>
        rw [heq] at hspare
        refine .ite (.chkX hspare.cntSpare) (.ite hspare ?_)
        split
        · next heq => exact hspare.spareBank.of_fst heq
        · next heq =>
          have h1 := hspare.spareBank.of_fst heq
          split
          next heq =>
          have h2 := h1.runOn.of_fst heq
          exact .ite (.settleMvm (.sparePassed (.commit (.dropLadder (.cntSpare (.replayed h2.setPan))))))
            (.rung3 (.cntSpare (.replayed h2.setPan)))

theorem State.MemOk.noSpare {p : Nat} {parity : RunParity} : (s.noSpare p parity).MemOk := by
  unfold State.noSpare
  extract_lets h
  split
  · exact hs
  · next l _ =>
    refine .ite hs ?_
    split
    · exact hs
    · refine .ite (.chkX hs.cntSpare) (.ite (.retirePan (.cntSpare hs.chkX)) ?_)
      split
      · next heq => exact hs.replayBank.of_fst heq
      · next heq =>
        have h1 := hs.replayBank.of_fst heq
        extract_lets blk
        split
        next heq =>
        have h2 := h1.runOn.of_fst heq
        refine .ite ?_ (.rung3 (.cntSpare h2.replayed))
        extract_lets s3 s4
        have h3 : s3.MemOk := .commit (.dropLadder (.cntSpare h2.replayed))
        have h4 : s4.MemOk := .ite h3 h3.chk
        exact .settleMvm (.ite h4.toSuspect h4)

theorem State.MemOk.smpSpare {p det : Nat} {x : Sample} {sp : Run} : (s.smpSpare p x sp det).MemOk := by
  unfold State.smpSpare
  extract_lets s1 spare
  have h1 : s1.MemOk := hs.commit
  split
  · exact .retirePan h1.chk
  · exact .toSuspect h1.chk
  · exact h1.chk

theorem State.MemOk.smpCompare {p : Nat} {parity : RunParity} : (s.smpCompare p parity).MemOk := by
  unfold State.smpCompare
  extract_lets h
  split
  · exact hs
  · next x _ =>
    split
    · exact hs
    · refine .ite (.settleMvm (.commit hs.dropSample)) (.ite hs.chkX ?_)
      split
      · next heq => exact hs.spareBank.of_fst heq
      · next heq =>
        have h1 := hs.spareBank.of_fst heq
        split
        next u _ heq =>
        have h2 : u.MemOk := h1.runOn.of_fst heq
        extract_lets v c _ s3
        have h3 : s3.MemOk := h2
        exact .ite (.settleMvm (.commit h3.dropSample)) h3

theorem State.MemOk.smpResolve {p : Nat} {parity : RunParity} : (s.smpResolve p parity).MemOk := by
  unfold State.smpResolve
  extract_lets h
  split
  · exact hs
  · next x _ =>
    split
    · extract_lets det
      refine .ite hs.chkX ?_
      have hbank (m : MvmRun) : (if takesWork (s.pan p) then s.replayBank p m x.blk else (s, some {})).1.MemOk :=
        .ite_fst hs.replayBank hs
      split
      · next heq => exact (hbank _).of_fst heq
      · next heq =>
        have h1 := (hbank _).of_fst heq
        extract_lets gone
        split
        next heq =>
        have h2 := State.MemOk.of_fst (.ite_fst h1 h1.runOn) heq
        extract_lets s3 v same s4
        have h3 : s3.MemOk := .replayed h2.dropSample
        refine State.MemOk.settleMvm ?_
        unfold s4
        split
        · exact .chk h3.commit
        · exact .earlyCal (.chk h3.commit)
        · exact .chk h3.commit
        · exact .ite h3.smpSpare h3.chkX
    · exact hs

end

theorem effWld_memOk : EffMemOk effWld := fun _ _ _ hs => hs.panStep fun _ _ hu => .ite hu.writeNext hu

theorem effWref_memOk : EffMemOk effWref := fun _ _ _ hs => hs.panStep fun _ _ hu => .ite hu.writeNext hu

end Sys2Proof.Machine
end

section
/-! PROOFS. Stream commands, migrations, Baskets, calibration and the FEU keep both memories in canonical form (07, R231 to R239; 09;
10; 14). -/

namespace Sys2Proof.Machine

section
variable {s : State} (hs : s.MemOk)
include hs

/-! ## Stream commands -/

theorem State.MemOk.settleOn {i h : Nat} {st : StrState} : (s.settleOn i h st).MemOk := .settleBsk hs.putStr

theorem State.MemOk.setWaiting {l : List Nat} : ({ s with waiting := l } : State).MemOk := hs

theorem State.MemOk.cmdStart {i : Nat} : (s.cmdStart i).1.MemOk := by
  unfold State.cmdStart
  extract_lets t d _ u s1 s2
  have h1 : s1.MemOk := .wrCtx hs.setStr
  have h2 : s2.MemOk := h1.putStr
  refine .ite_fst (.ite_fst hs ?_) hs
  split
  · exact hs.raiseS
  · split
    · exact h1.settleOn
    · exact h2.setWaiting

theorem State.MemOk.migLoad {i h : Nat} : (s.migLoad i h).MemOk := hs.of_fr (fr_migLoad (fr_refl _ s) (within_notMem rfl) _ _)

theorem State.MemOk.reopen {i h : Nat} {st : StrState} : (s.reopen i h st).MemOk := by
  unfold State.reopen
  split
  · exact .memX hs.scrub
  · exact .settleBsk (.putStr hs.migLoad)

theorem State.MemOk.cmdResume {i : Nat} : (s.cmdResume i).1.MemOk := by
  unfold State.cmdResume
  extract_lets t d _ u
  refine .ite_fst (.ite_fst hs (.ite_fst ?_ ?_)) hs
  · split
    · exact .settleBsk (.reopen hs.setStr)
    · exact hs
  · exact .settleOn hs.setStr

theorem State.MemOk.cmdAbort {i : Nat} : (s.cmdAbort i).1.MemOk := .ite_fst hs.abortStr hs

theorem State.MemOk.cmdReset {i : Nat} : (s.cmdReset i).1.MemOk := .ite_fst hs.putStr hs

theorem State.MemOk.cmdMigrate {i g : Nat} : (s.cmdMigrate i g).1.MemOk := by
  unfold State.cmdMigrate
  extract_lets t u
  refine .ite_fst (.ite_fst hs (.ite_fst hs ?_)) hs
  split
  · exact hs
  · exact .settleBsk hs.putStr

theorem State.MemOk.strmDo {cmd b i : Nat} : (s.strmDo cmd b i).1.MemOk :=
  .ite_fst hs (.ite_fst hs (.ite_fst hs.cmdStart (.ite_fst hs.cmdResume (.ite_fst hs.cmdAbort (.ite_fst hs.cmdMigrate hs.cmdReset)))))

theorem State.MemOk.strmReg {cmd b i : Nat} : (s.strmReg cmd b i).MemOk := by
  unfold State.strmReg
  refine .ite hs ?_
  split
  · next u _ heq =>
    have hu : u.MemOk := hs.strmDo.of_fst heq
    exact hu
  · next u heq =>
    have hu : u.MemOk := hs.strmDo.of_fst heq
    exact hu

/-! ## Migrations -/

theorem State.MemOk.migRefuse {i r : Nat} : (s.migRefuse i r).MemOk := .migReport hs.putStr

theorem State.MemOk.migImages {i : Nat} : (s.migImages i).MemOk := hs.wr

theorem State.MemOk.migPot {i n next : Nat} {ovf : Bool} : (s.migPot i n next ovf).1.MemOk := by
  unfold State.migPot
  extract_lets t p fresh buf next' s1
  have h1 : s1.MemOk := .ite hs.wr hs
  refine .ite_fst hs ?_
  split
  · next heq => exact h1.spillPot.of_fst heq
  · next heq => exact .setPot (.setStr (h1.spillPot.of_fst heq))

theorem State.MemOk.migSave {i g : Nat} : (s.migSave i g).MemOk := by
  unfold State.migSave
  extract_lets t h s1
  refine .ite hs.migRefuse (.ite hs.migRefuse (.ite hs.migRefuse ?_))
  have h1 : s1.MemOk := .migImages hs.setStr
  have hpots := State.MemOk.foldl_fst (l := s1.ownPots h i .opened) (p := (s1, t.migb + 64 * t.scnt, false))
    (f := fun a n => a.1.migPot i n a.2.1 a.2.2) h1 fun _ _ hp => hp.migPot
  split
  next heq =>
  have h2 := hpots.of_fst heq
  refine .ite h2 ?_
  extract_lets _ s3
  have h3 : s3.MemOk := .ite (.raiseS h2.setBsk) h2
  exact .settleBsk (.putStr h3.wrCtx)

theorem State.MemOk.migOpen {i g : Nat} : (s.migOpen i g).MemOk :=
  .ite hs.migFail (.ite hs.migFail (.ite hs.reopen (.migReport hs.reopen)))

theorem State.MemOk.migMove {i : Nat} : (s.migMove i).MemOk := by
  unfold State.migMove
  extract_lets t
  split
  · exact hs
  · exact .ite hs (.ite hs.migOpen (.ite hs hs.migSave))

theorem State.MemOk.sendAway {i g : Nat} {res : Bool} : (s.sendAway i g res).MemOk := hs.putStr

theorem State.MemOk.moveOff {h i : Nat} : (s.moveOff h i).MemOk := by
  unfold State.moveOff
  extract_lets t
  refine .ite (.migMove hs.migMove) ?_
  split
  · exact .migMove (.migMove hs.sendAway)
  · exact hs

/-! ## Baskets -/

theorem State.MemOk.remargin {h : Nat} : (s.remargin h).MemOk := hs.of_fr (fr_remargin (fr_refl _ s) (within_notMem rfl) _)
theorem State.MemOk.ignBsk {h : Nat} : (s.ignBsk h).MemOk := hs
theorem State.MemOk.toWarming {h : Nat} : (s.toWarming h).MemOk := hs
theorem State.MemOk.warmed {h : Nat} : (s.warmed h).MemOk := hs.of_fr (fr_warmed (fr_refl _ s) (within_notMem rfl) _)
theorem State.MemOk.takeStaged {h : Nat} {e : Nat × W32} : (Machine.takeStaged s h e).MemOk :=
  hs.of_fr (fr_takeStaged (fr_refl _ s) (within_notMem rfl) _ _)

theorem State.MemOk.takeClass {h : Nat} : (s.takeClass h).MemOk := by
  unfold State.takeClass
  extract_lets b was s1 now
  have h1 : s1.MemOk := hs.setBsk
  refine .ite ?_ (.ite ?_ h1)
  · split
    · exact .tellSpares h1.setPan
    · exact h1
  · split
    · exact .tellSpares h1.setPan
    · exact h1.retireBasket

theorem State.MemOk.commitBsk {h : Nat} : (s.commitBsk h).MemOk := by
  unfold State.commitBsk
  exact .testTurn (.settleBsk (.remargin (.takeClass (.setBsk (hs.foldl fun _ _ hx => hx.takeStaged)))))

theorem State.MemOk.cmdCommit {h : Nat} : (s.cmdCommit h).MemOk := by
  unfold State.cmdCommit
  extract_lets b
  split
  · exact hs.commitBsk
  · exact .ite hs.setBsk hs.ignBsk
  · exact hs.ignBsk

theorem State.MemOk.resetBsk {h : Nat} : (s.resetBsk h).MemOk := by
  unfold State.resetBsk
  extract_lets s1 s2 s3 s4
  have h3 : s3.MemOk := hs.abandonIn.evict
  exact .testTurn (.remargin (h3.setBsk.foldl fun _ _ hx => hx.setPan))

theorem State.MemOk.cmdReset' {h : Nat} : (s.cmdReset' h).MemOk := by
  unfold State.cmdReset'
  split
  · exact hs.ignBsk
  · exact hs.ignBsk
  · exact hs.resetBsk

theorem State.MemOk.cmdStop {h : Nat} : (s.cmdStop h).MemOk := hs.of_fr (fr_cmdStop (fr_refl _ s) (within_notMem rfl) _)

theorem State.MemOk.bskCtl {h v : Nat} : (s.bskCtl h v).MemOk := by
  unfold State.bskCtl
  split
  · exact hs
  · exact hs.cmdStop
  · exact hs.cmdCommit
  · exact hs.cmdStop.cmdCommit
  · exact hs.cmdReset'
  · exact hs.of_fr (fr_cmdOff (fr_refl _ s) (within_notMem rfl) _)
  · exact hs.of_fr (fr_cmdOn (fr_refl _ s) (within_notMem rfl) _)
  · exact hs.ignBsk

theorem State.MemOk.drained {h : Nat} : (s.drained h).MemOk := by
  unfold State.drained
  extract_lets b
  refine .ite ?_ hs
  split
  · exact .ite (.commitBsk hs.setBsk) hs.setBsk
  · exact .ite (.toWarming hs.setBsk) hs.setBsk
  · exact hs

theorem State.MemOk.testOver {h code next : Nat} {row : Bool} : (s.testOver h code row next).MemOk := by
  unfold State.testOver
  exact .testTurn (.settleBsk (.foldl hs.setBsk fun _ _ hx => .ite hx.putStr hx))

/-! ## Lost light, calibration and the FEU -/

theorem State.MemOk.loseBlock {h p band : Nat} {e : Nat × Nat} : (s.loseBlock h p band e).MemOk := by
  unfold State.loseBlock
  split
  · exact hs.raiseX
  · exact hs

theorem State.MemOk.coilBsk {band h : Nat} : (s.coilBsk band h).MemOk := by
  unfold State.coilBsk
  refine .ite hs (.testTurn (.foldl (.setBsk (.toWarming (.abandonIn ?_))) fun _ _ hx => hx.setPan))
  exact hs.foldl fun _ _ hx => hx.foldl fun _ _ hy => hy.loseBlock

theorem State.MemOk.coilFault {q : Nat} : (s.coilFault q).MemOk := by
  unfold State.coilFault
  split
  · exact (hs.foldl fun _ _ hx => hx.coilBsk).of_fr (fr_quadPortsDown (fr_refl _ _) (within_notMem rfl) _)
  · exact hs

theorem State.MemOk.tapIn {r : TapReading} : (s.tapIn r).MemOk := hs

theorem State.MemOk.preload {p c : Nat} : (s.preload p c).1.MemOk := by
  unfold State.preload
  split
  · split
    · exact .ite_fst hs hs.loadTile
    · exact hs
  · exact hs

theorem State.MemOk.abandonSweep : s.abandonSweep.MemOk := hs.of_fr (fr_abandonSweep (fr_refl _ s) (within_notMem rfl))

theorem State.MemOk.setCal {c : Cal} : ({ s with cal := c } : State).MemOk := hs
theorem State.MemOk.startMeasure : s.startMeasure.MemOk := hs.of_fr (fr_startMeasure (fr_refl _ s) (within_notMem rfl))

theorem State.MemOk.handOver {w : Sweep} {c : Nat} : (s.handOver w c).MemOk := by
  unfold State.handOver
  extract_lets p v
  refine .ite hs.abandonSweep (.ite hs ?_)
  split
  · next heq => exact hs.preload.of_fst heq
  · next heq =>
    extract_lets s1
    have h1 : s1.MemOk := (hs.preload.of_fst heq).of_fr (fr_toCalibrating (fr_refl _ _) (within_notMem rfl) _ _ _)
    exact .startMeasure h1.setCal

theorem State.MemOk.startup {h : Nat} {l : List (Nat × List Attempt)} : (s.startup h l).MemOk := by
  unfold State.startup
  extract_lets b ps first s0 r t _ u
  have h0 : s0.MemOk := hs.foldl fun _ _ hx => hx.setPan
  have hr : r.1.MemOk := h0.of_fr (fr_tryPans (fr_refl _ s0) (within_notMem rfl) ps l)
  have ht : t.MemOk := .tellSpares (hr.of_fr (fr_putOut (fr_letIn (fr_refl _ _) (within_notMem rfl) _) (within_notMem rfl) _ _ _))
  have hu : u.MemOk := ht
  exact .ite hs (.ite hs (.ite hu.warmed hu.retireBasket))

theorem State.MemOk.feuRing {e : SeqEvent} : (s.feuRing e).MemOk := by
  unfold State.feuRing
  extract_lets f n a next
  have hnext {u : State} (hu : u.MemOk) : (next u).MemOk := hu
  have hlost : s.feuLost.MemOk := hs
  exact .ite hs (.ite hlost (.ite (.ite hlost (hnext hs.hwr)) (.ite hlost (hnext hs.wr))))

theorem State.MemOk.feuTake {ev : EventRec} : (s.feuTake ev).MemOk := by
  unfold State.feuTake
  extract_lets q e c _ s1 s2 irq s3
  have h1 : s1.MemOk := hs
  have h2 : s2.MemOk := h1.feuRing
  have h3 : s3.MemOk := .ite h2 h2
  exact h3.of_fr (fr_toTrivet (fr_refl _ s3) (within_notMem rfl) _)

end

end Sys2Proof.Machine
end

section
/-! PROOFS. The fabric, the host port, the resets and the registers keep both memories in canonical form (07, R241 to R255; 11; 12;
14; 15), and with them every command and every step. -/

namespace Sys2Proof.Machine

section
variable {s : State} (hs : s.MemOk)
include hs

/-! ## Packets -/

theorem State.MemOk.writeWord {m : Packet} {k : Nat} : (s.writeWord m k).MemOk :=
  .ite hs.wr (hs.foldl fun _ _ hx => .ite hx.wr hx)

theorem State.MemOk.addElem {m : Packet} {i : Nat} : (s.addElem m i).MemOk := .ite hs.wrN (.ite hs.wrN hs.wrN)

theorem State.MemOk.scrubSpans {m : Packet} :
    ((pktSpans m).foldl (fun s x => s.scrub (pktLoc m + x.1) x.2) s).MemOk := hs.foldl fun _ _ hx => hx.scrub

/-- A unit at a doorbell signals a token; any other writes or adds in memory (07, R242; 04, R132). -/
theorem State.MemOk.applyUnit {m : Packet} : (s.applyUnit m).MemOk := by
  unfold State.applyUnit
  refine .ite (hs.foldl fun _ _ hx => hx.writeWord) ?_
  split
  · exact hs.of_fr (fr_sigK (fr_refl _ s) (within_notMem rfl) _ _ _)
  · exact hs.scrubSpans.foldl fun _ _ hx => hx.addElem

theorem State.MemOk.answer {m : Packet} {code : Nat} {bs : List Byte} : (s.answer m code bs).MemOk :=
  hs.of_fr (fr_answer (fr_refl _ s) (within_notMem rfl) _ _ _)

theorem State.MemOk.setDzf {d : Dzf} : ({ s with dzf := d } : State).MemOk := hs

theorem State.MemOk.handle {port : Nat} {m : Packet} : (s.handle port m).1.MemOk := by
  unfold State.handle
  refine .ite_fst hs.answer ?_
  split
  · exact .answer (hs.of_fr (fr_countMis (fr_refl _ s) (within_notMem rfl) _ _))
  · refine .ite_fst hs.answer (.ite_fst hs.answer (.ite_fst (.ite_fst hs.scrub.answer hs.scrub.answer) (.ite_fst ?_ (.ite_fst ?_
      (.ite_fst hs.scrubSpans.answer ?_)))))
    · exact .answer (hs.of_fr (fr_tagDup (fr_refl _ s) (within_notMem rfl) _ _))
    · exact .answer hs.setDzf
    · exact .answer hs.applyUnit.setDzf

theorem State.MemOk.advance {src : Nat} : (s.advance src).MemOk := hs

end

theorem followers_memOk (src n : Nat) : ∀ {s : State}, s.MemOk → (s.followers src n).MemOk := by
  induction n with
  | zero => exact fun hs => hs
  | succ n ih =>
    intro s hs
    unfold State.followers
    split
    · exact hs
    · next x _ =>
      have hhandle := State.MemOk.handle (hs.setDzf (d := { s.dzf with reorder := s.dzf.reorder.filter (fun y => y != x) }))
        (port := x.1) (m := x.2)
      dsimp only
      split
      · next heq => exact ih (State.MemOk.advance (hhandle.of_fst heq))
      · next heq => exact hhandle.of_fst heq

section
variable {s : State} (hs : s.MemOk)
include hs

theorem State.MemOk.ordered {port : Nat} {m : Packet} : (s.ordered port m).MemOk := by
  unfold State.ordered
  extract_lets ahead
  refine .ite ?_ (.ite (.ite hs (.ite hs.answer hs.setDzf)) hs.handle)
  split
  · next heq => exact followers_memOk _ _ (State.MemOk.advance (hs.handle.of_fst heq))
  · next heq => exact hs.handle.of_fst heq

theorem State.MemOk.arrive {port : Nat} {m : Packet} : (s.arrive port m).MemOk := by
  have hnew : (s.newInc m).MemOk := hs.of_fr (fr_newInc (fr_refl _ s) (within_notMem rfl) _)
  exact .ite hs (.ite hnew.ordered hnew.handle)

theorem State.MemOk.arrival {type port : Nat} {m : Packet} {f : State → State} (hf : (f s).MemOk) :
    (s.arrival type port m f).MemOk :=
  .ite hs (.ite (hs.of_fr (fr_countBad (fr_refl _ s) (within_notMem rfl) _)) (.ite hs
    (.ite hf (hs.of_fr (fr_forwardPkt (fr_refl _ s) (within_notMem rfl) _)))))

/-! ## Answers to the node's own units -/

theorem State.MemOk.dropUnit {u : FUnit} : (s.dropUnit u).MemOk := hs
theorem State.MemOk.putUnit {u : FUnit} : (s.putUnit u).MemOk := hs
theorem State.MemOk.pump : s.pump.MemOk := hs.of_fr (fr_pump (fr_refl _ s) (within_notMem rfl))
theorem State.MemOk.apTell {acc : Nat} : (s.apTell acc).MemOk := hs
theorem State.MemOk.apFailed {b : Nat} : (s.apFailed b).MemOk := hs.of_fr (fr_apFailed (fr_refl _ s) (within_notMem rfl) _)
theorem State.MemOk.setDev {d : Dev} : ({ s with dev := d } : State).MemOk := hs

theorem State.MemOk.settle {u : FUnit} {ok aged : Bool} : (s.settle u ok aged).MemOk := by
  unfold State.settle
  split
  · exact hs.modRec
  · extract_lets p s1 s2
    have h2 : s2.MemOk := .modRec (.ite hs hs.setPot)
    split
    · exact .ite h2.endClose h2
    · exact h2
  · exact .ite hs (.sendUnits hs.takeTags)
  · exact .ite hs (.apFailed hs.apTell)
  · exact .ite hs (.apFailed (.setDev hs.apTell))
  · exact hs
  · exact hs

theorem State.MemOk.deposit {u : FUnit} {payload : List Byte} : (s.deposit u payload).MemOk := by
  unfold State.deposit
  extract_lets bs
  split
  · exact hs.wr
  · exact hs.setPan
  · exact .ite hs hs.setDev
  · exact hs

theorem State.MemOk.answered {port : Nat} {m : Packet} {u : FUnit} : (s.answered port m u).MemOk := by
  unfold State.answered
  have hrefuse {x : State} (hx : x.MemOk) : (x.mismatch 1 port (m.cfg / 4096) m.src).MemOk :=
    hx.of_fr (fr_mismatch (fr_refl _ x) (within_notMem rfl) _ _ _ _)
  exact .ite (.pump (.settle (.ite (.deposit hs.dropUnit) hs.putUnit))) (.ite hs.putUnit (.ite hs
    (.pump (.settle (.dropUnit (.ite (hrefuse hs.setDzf) hs))))))

theorem State.MemOk.sink {port : Nat} {m : Packet} : (s.sink port m).MemOk := by
  unfold State.sink
  split
  · exact hs.answered
  · exact hs

theorem State.MemOk.sendSkip {u : FUnit} : (s.sendSkip u).MemOk := hs.of_fr (fr_sendSkip (fr_refl _ s) (within_notMem rfl) _)

/-! ## Resets -/

theorem State.MemOk.abortAll {cause : Nat} : (s.abortAll cause).MemOk := hs.foldl fun _ _ hx => hx.abortStr

theorem State.MemOk.stopClock {st : Nat} {cause : Nat} : (s.stopClock st cause).MemOk := by
  unfold State.stopClock
  extract_lets s1 s2 s3 s4
  have h1 : s1.MemOk := hs.abandonSweep.abortAll
  have h2 : s2.MemOk := h1.foldl fun _ _ hx => hx.of_fr (fr_haltBsk (fr_refl _ _) (within_notMem rfl) _)
  have h3 : s3.MemOk := h2.foldl fun _ _ hx => hx.of_fr (fr_coilDark (fr_refl _ _) (within_notMem rfl) _)
  have h4 : s4.MemOk := h3.foldl fun _ _ hx => hx.of_fr (fr_portDark (fr_refl _ _) (within_notMem rfl) _)
  clear_value s4
  exact h4.of_eq rfl rfl

theorem State.MemOk.warmBsk {h : Nat} : (s.warmBsk h).MemOk := .ite (.setBsk hs.resetBsk) hs.resetBsk

theorem State.MemOk.bootRec {kind : Nat} : (s.bootRec kind).MemOk := hs

theorem State.MemOk.warmReset : s.warmReset.MemOk := by
  unfold State.warmReset
  refine .ite hs ?_
  extract_lets s1 s2 s3 s4
  have h3 : s3.MemOk := .foldl (hs.abortAll.abandonSweep) fun _ _ hx => hx.warmBsk
  have h4 : s4.MemOk := by
    clear_value s3
    exact h3.of_eq rfl rfl
  exact h4.bootRec

/-- After a loss of the rails local memory holds nothing, and host memory what it held (14, Table 14-4; log entry 13, DESIGN
CHOICE). -/
theorem State.MemOk.bare {trv : Trivet} {inc : Nat} : (s.bare trv inc).MemOk := ⟨resetStateIsAsTheTablesSay.1.1, hs.2⟩

theorem State.MemOk.coldReset {c : ColdCause} {orderOk : Bool} : (s.coldReset c orderOk).MemOk := by
  unfold State.coldReset
  refine .ite hs ?_
  extract_lets kind inc trip rec5 _ s1 _ _ s2 s3 uid0 s4 s5 s6
  have h1 : s1.MemOk := hs.bare
  have h2 : s2.MemOk := h1.of_eq rfl rfl
  have h3 : s3.MemOk := h2.foldl fun _ _ hx => hx.setPan
  have h4 : s4.MemOk := h3.foldl fun _ _ hx => hx.setBsk
  have h5 : s5.MemOk := h4.foldl fun _ _ hx => hx.of_fr (fr_fromRecord (fr_refl _ _) (within_notMem rfl) _)
  have h6 : s6.MemOk := h5.foldl fun _ _ hx => hx.of_fr (fr_layPans (fr_refl _ _) (within_notMem rfl) _)
  exact h6.bootRec

/-! ## Registers -/

theorem State.MemOk.gctlWrite {r v : Nat} : (s.gctlWrite r v).MemOk := by
  unfold State.gctlWrite
  split
  · exact .ite hs.warmReset hs
  · exact hs.of_fr (fr_scaleClass (fr_refl _ s) (within_notMem rfl) _)
  · exact .ite (hs.of_fr (fr_accClear (fr_refl _ s) (within_notMem rfl))) hs
  · exact hs.strmReg
  · exact .ite hs.setDev hs
  all_goals exact hs

theorem State.MemOk.bskRwl {h r : Nat} {v : W32} : (s.bskRwl h r v).MemOk :=
  hs.of_fr (fr_bskRwl (fr_refl _ s) (within_notMem rfl) _ _ _)
theorem State.MemOk.bskSet {h : Nat} {f : Basket → Basket} : (s.bskSet h f).MemOk :=
  hs.of_fr (fr_bskSet (fr_refl _ s) (within_notMem rfl) _ _)

theorem State.MemOk.bskWrite {h r v : Nat} : (s.bskWrite h r v).MemOk := by
  unfold State.bskWrite
  split
  · exact hs.bskCtl
  · exact hs.bskRwl
  · exact hs.bskRwl
  · exact hs.bskSet
  · exact hs.sig
  · exact .ite (hs.of_fr (fr_seqClear (fr_refl _ s) (within_notMem rfl) _)) hs
  · exact hs.bskRwl
  · exact hs.bskRwl
  · exact .ite (hs.of_fr (fr_wskClear (fr_refl _ s) (within_notMem rfl) _)) hs
  · exact hs.bskRwl
  · exact hs.bskSet
  · exact .ite (hs.of_fr (fr_rdoClear (fr_refl _ s) (within_notMem rfl) _)) hs
  · exact hs.bskRwl
  · exact hs

theorem State.MemOk.pfWrite {off v : Nat} : (s.pfWrite off v).MemOk := by
  unfold State.pfWrite
  split
  · exact hs.gctlWrite
  · exact hs.of_fr (fr_clkWrite (fr_refl _ s) (within_notMem rfl) _ _)
  · exact hs.of_fr (fr_feuWrite (fr_refl _ s) (within_notMem rfl) _ _)
  · exact hs.of_fr (fr_ketWrite (fr_refl _ s) (within_notMem rfl) _ _)
  · exact hs.of_fr (fr_calWrite (fr_refl _ s) (within_notMem rfl) _ _)
  · exact hs.bskWrite
  · exact hs.of_fr (fr_panWrite (fr_refl _ s) (within_notMem rfl) _ _ _)
  · exact hs.of_fr (fr_dzfWrite (fr_refl _ s) (within_notMem rfl) _ _)
  · exact hs.of_fr (fr_hqWrite (fr_refl _ s) (within_notMem rfl) _ _)
  · exact hs.of_fr (fr_mbxWrite (fr_refl _ s) (within_notMem rfl) _ _)
  · exact hs

theorem State.MemOk.fnWrite {fn off v : Nat} : (s.fnWrite fn off v).MemOk := by
  unfold State.fnWrite
  refine .ite hs.pfWrite ?_
  split
  · exact hs.of_fr (fr_queWrite (fr_refl _ s) (within_notMem rfl) _ _ _ _)
  · exact hs

theorem State.MemOk.fnWrite64 {fn off v : Nat} : (s.fnWrite64 fn off v).MemOk :=
  hs.of_fr (fr_fnWrite64 (fr_refl _ s) (within_notMem rfl) _ _ _)

theorem State.MemOk.unlatch {fn : Nat} {w : Bool} : (s.unlatch fn w).MemOk := hs

theorem State.MemOk.write32 {fn off v : Nat} : (s.write32 fn off v).MemOk := by
  unfold State.write32
  extract_lets held s1
  have h1 : s1.MemOk := hs.unlatch
  exact .ite h1.setDev (.ite h1.fnWrite64 h1.fnWrite)

theorem State.MemOk.write64 {fn off v : Nat} : (s.write64 fn off v).MemOk := .ite hs.unlatch.fnWrite64 hs.write32.write32

end

/-! ## Every command -/

/-- The memories are on no list of the command's fields. -/
def sparesMem (c : Instr) : Bool := (touches c).all fun f => decide (f ∈ notMem)

theorem exec_memOk_of_spares {c : Instr} {s : State} (hc : sparesMem c = true) (hs : s.MemOk) : MemOkO (exec c s) :=
  fun t ht => hs.of_fr fun f hf => exec_frame c s t ht f fun hin => hf (by simpa using List.all_eq_true.mp hc f hin)

section
variable {s : State} (hs : s.MemOk)
include hs

theorem execStepCompletion_memOk (sid uid : Nat) : MemOkO (execStepCompletion sid uid s) := by
  refine State.MemOk.guard ?_
  split
  · exact .ite hs.tryFinish hs
  · exact hs

theorem execRingHeadPoll_memOk (sid : Nat) : MemOkO (execRingHeadPoll sid s) := by
  have hat : (s.at (s.time + 1000)).MemOk := hs
  refine State.MemOk.guard ?_
  dsimp only
  split
  · exact hat.tryFinish
  · exact hat

theorem execTokenTimeout_memOk (sid : Nat) : MemOkO (execTokenTimeout sid s) := by
  have hat (τ : Nat) : (s.at τ).MemOk := hs
  refine State.MemOk.guard ?_
  dsimp only
  split
  · exact .ite (hat _).raiseX hs
  · exact hs

theorem execYieldSuspend_memOk (sid : Nat) : MemOkO (execYieldSuspend sid s) := by
  refine State.MemOk.guard (.ite ?_ hs)
  split
  · exact .ite hs.sendAway hs.putStr
  · exact hs.putStr

theorem execStreamPlacement_memOk : MemOkO (execStreamPlacement s) := by
  refine State.MemOk.next ?_
  split
  · split
    · exact .settleOn hs.setWaiting
    · exact hs
  · exact hs

theorem execPromotion_memOk (p slot col : Nat) (parity : Bool) : MemOkO (execPromotion p slot col parity s) := by
  refine State.MemOk.guard ?_
  dsimp only
  split
  · split
    · exact .ite hs.windowParity hs.promote
    · exact hs
  · exact hs

theorem execWarmingEnd_memOk (h : Nat) : MemOkO (execWarmingEnd h s) :=
  State.MemOk.guard (.ite (.ite hs.warmed hs.retireBasket) hs)

theorem execTapRead_memOk (readings : List TapReading) : MemOkO (execTapRead readings s) := by
  refine State.MemOk.guard (.ite ?_ hs)
  have hat : ({ s.at (16000 * nextDue s.dev.tapK s.time 16000) with
    dev := { s.dev with tapK := nextDue s.dev.tapK s.time 16000 } } : State).MemOk := hs
  exact (hat.foldl fun _ _ hx => hx.tapIn).foldl fun _ _ hx => hx.coilFault

theorem execTestEntry_memOk (h : Nat) : MemOkO (execTestEntry h s) :=
  State.MemOk.guard (.ite (.setBsk (.abandonIn (hs.foldl fun _ _ hx => hx.moveOff))) hs)

theorem execTestResult_memOk (h : Nat) (res : TestOutcome) : MemOkO (execTestResult h res s) := by
  have hat (τ : Nat) : (s.at τ).MemOk := hs
  refine State.MemOk.guard (.ite hs ?_)
  split
  · exact (hat _).testOver
  · exact .ite (.testTurn (.retireBasket (hat _).setBsk)) (.testOver (hat _).raise)
  · exact .testTurn (.retireBasket (hat _).setBsk)

theorem execHandover_memOk : MemOkO (execHandover s) := by
  refine State.MemOk.next ?_
  split
  · split
    · exact .ite hs.handOver hs
    · exact hs
  · exact hs

theorem execEventRecord_memOk : MemOkO (execEventRecord s) := by
  have hrest (l : List EventRec) : ({ s with evq := l } : State).MemOk := hs
  refine State.MemOk.next ?_
  split
  · exact .ite (hrest _).feuTake hs
  · exact hs

theorem execUnitGiveUp_memOk (tag : Nat) : MemOkO (execUnitGiveUp tag s) := by
  have hat (τ : Nat) : (s.at τ).MemOk := hs
  refine State.MemOk.next ?_
  split
  · exact .ite (.pump (.settle (.ite (.sendSkip (hat _).dropUnit) (hat _).dropUnit))) hs
  · exact hs

theorem State.MemOk.barReject {b : Nat} : (s.barReject b).MemOk := hs.of_fr (fr_barReject (fr_refl _ s) (within_notMem rfl) _)

theorem execBar2Write_memOk (addr : Nat) (bytes : List Byte) (poisoned : Bool) : MemOkO (execBar2Write addr bytes poisoned s) := by
  refine State.MemOk.guard (.ite hs.barReject ?_)
  split
  · exact .ite hs.wr hs.barReject
  · split
    · exact .sendUnits hs.takeTags
    · exact hs.barReject
  · exact hs.barReject

theorem State.MemOk.setQue {q : Nat} {v : Queue} : (s.setQue q v).MemOk := hs
theorem State.MemOk.qDone {q cid st res det : Nat} : (s.qDone q cid st res det).MemOk := hs

theorem startCmd_memOk {q cid opc : Nat} {f : QCmd → State → State} (hf : ∀ c u, u.MemOk → (f c u).MemOk) :
    MemOkO (s.startCmd q cid opc f) := by
  refine State.MemOk.guard ?_
  split
  · exact .ite (hf _ _ hs.setQue) hs
  · exact hs

theorem execStrm_memOk (q cid : Nat) : MemOkO (execStrm q cid s) := by
  refine startCmd_memOk hs fun c u hu => .ite hu.qDone (.ite hu.qDone ?_)
  split
  · next heq =>
    have h1 := hu.strmDo.of_fst heq
    exact .qDone (.ite h1.setStr h1)
  · next heq => exact .setStr (hu.strmDo.of_fst heq)

theorem execXfer_memOk (q cid : Nat) : MemOkO (execXfer q cid s) := by
  refine startCmd_memOk hs fun c u hu => ?_
  split
  · exact hu.qDone
  · exact .ite (.qDone hu.wr) (.qDone hu.scrub.hwr)

theorem execQueueCommandComplete_memOk (q cid : Nat) : MemOkO (execQueueCommandComplete q cid s) := by
  refine State.MemOk.guard ?_
  dsimp only
  split
  · split
    · have hleft (v : Queue) (a : Nat) (bs : List Byte) : ((s.hwr a bs).setQue q v).MemOk := hs.hwr
      exact .ite (hleft _ _ _) ((hleft _ _ _).of_fr (fr_queueIrq (fr_refl _ _) (within_notMem rfl) _))
    · exact hs
  · exact hs

theorem execVfFlr_memOk (v : Nat) : MemOkO (execVfFlr v s) := by
  refine State.MemOk.guard (.foldl (.foldl ?_ fun _ _ hx => ?_) fun _ _ hx => hx.abortStr)
  · exact hs.of_fr (fr_dropMigBy (fr_refl _ s) (within_notMem rfl) _)
  · exact hx.of_fr (fr_killQue (fr_refl _ _) (within_notMem rfl) _)

theorem execRegisterWrite_memOk (fn off : Nat) (wide : Bool) (v : W64) : MemOkO (execRegisterWrite fn off wide v s) := by
  refine State.MemOk.guard (.ite hs ?_)
  split
  · exact hs.unlatch.of_fr (fr_accRefuse (fr_refl _ _) (within_notMem rfl) _ _ _)
  · exact .ite hs.write64 hs.write32

theorem execPerstAssert_memOk : MemOkO (execPerstAssert s) := State.MemOk.next (.ite hs (.setDev hs.warmReset))

theorem execVauxApply_memOk (bad : List (Nat × Bool)) : MemOkO (execVauxApply bad s) :=
  State.MemOk.guard (.ite hs (.foldl (.setDev hs.bare) fun _ _ hx => hx.raise))

theorem execVauxPowerFail_memOk : MemOkO (execVauxPowerFail s) := State.MemOk.next (.ite hs (.setDev hs.bare))

theorem execClockLoss_memOk (pll : Bool) : MemOkO (execClockLoss pll s) := State.MemOk.next (.ite (.setDev hs.stopClock) hs)

theorem execThermtrip_memOk (channel : Nat) : MemOkO (execThermtrip channel s) := by
  have hraise : (s.raise 0x0B04 4 0x00 0 channel).MemOk := hs
  exact State.MemOk.guard (.setDev (.ite hraise.stopClock hraise))

/-- A command that writes to memory keeps its canonical form. -/
theorem exec_memOk_of_touches {c : Instr} (hc : sparesMem c = false) : MemOkO (exec c s) := by
  cases c with
  | nop sid => exact runStep_memOk effNext_memOk hs
  | loop sid => exact runStep_memOk effLoop_memOk hs
  | endl sid => exact runStep_memOk effEndl_memOk hs
  | br sid => exact runStep_memOk effBr_memOk hs
  | call sid => exact runStep_memOk effCall_memOk hs
  | ret sid => exact runStep_memOk effRet_memOk hs
  | wait sid => exact runStep_memOk effNext_memOk hs
  | sig sid => exact runStep_memOk effNext_memOk hs
  | fence sid => exact runStep_memOk effNext_memOk hs
  | yield sid => exact runStep_memOk effNext_memOk hs
  | halt sid => exact runStep_memOk effHalt_memOk hs
  | mark sid => exact runStep_memOk effMark_memOk hs
  | dbrk sid => exact runStep_memOk effDbrk_memOk hs
  | dsnap sid => exact runStep_memOk effDsnap_memOk hs
  | wld sid => exact runStep_memOk effWld_memOk hs
  | wsw sid => exact runStep_memOk (.of_fr fun s => fr_effWsw (fr_refl _ s) (within_notMem rfl)) hs
  | wref sid => exact runStep_memOk effWref_memOk hs
  | mvm sid => exact runStep_memOk (.of_fr fun s sid h => fr_mvmIssue (fr_refl _ s) (within_notMem rfl) sid h _) hs
  | mvmw sid => exact runStep_memOk (.of_fr fun s sid h => fr_mvmIssue (fr_refl _ s) (within_notMem rfl) sid h _) hs
  | popen sid => exact runStep_memOk effPopen_memOk hs
  | pclose sid => exact runStep_memOk effPclose_memOk hs
  | spill sid => exact runStep_memOk effSpill_memOk hs
  | resume sid => exact runStep_memOk (.of_fr fun s => fr_effResume (fr_refl _ s) (within_notMem rfl)) hs
  | rot sid => exact runStep_memOk effRot_memOk hs
  | qnt sid => exact runStep_memOk effQnt_memOk hs
  | scup sid => exact runStep_memOk effScup_memOk hs
  | stat sid => exact runStep_memOk effStat_memOk hs
  | vop sid => exact runStep_memOk effVop_memOk hs
  | att sid => exact runStep_memOk effAtt_memOk hs
  | dma sid => exact runStep_memOk effDma_memOk hs
  | get sid => exact runStep_memOk (.of_fr fun s => fr_effGet (fr_refl _ s) (within_notMem rfl)) hs
  | put sid => exact runStep_memOk effPut_memOk hs
  | aadd sid => exact runStep_memOk effAadd_memOk hs
  | gath sid => exact runStep_memOk effGath_memOk hs
  | stepCompletion sid uid => exact execStepCompletion_memOk hs sid uid
  | ringHeadPoll sid => exact execRingHeadPoll_memOk hs sid
  | tokenTimeout sid => exact execTokenTimeout_memOk hs sid
  | yieldSuspend sid => exact execYieldSuspend_memOk hs sid
  | start sid b => exact hs.strmReg.guard
  | streamResume sid b => exact hs.strmReg.guard
  | abort sid b => exact hs.strmReg.guard
  | migrate sid b => exact hs.strmReg.guard
  | streamReset sid b => exact hs.strmReg.guard
  | migrationMove sid => exact hs.migMove.guard
  | streamPlacement => exact execStreamPlacement_memOk hs
  | tileLoad p => exact State.MemOk.guard (.ite hs.writeNext hs)
  | groupBlockEnd p parity => exact hs.groupBlock.guard
  | promotion p slot col parity => exact execPromotion_memOk hs p slot col parity
  | potWaitEnd b n => exact hs.runWait.guard
  | replaySamePan p parity => exact hs.replaySame.guard
  | replaySpare p parity => exact hs.replaySpare.guard
  | noSpareReplay p parity => exact hs.noSpare.guard
  | sampledReplayCompare r => exact hs.smpCompare.guard
  | sampledReplayResolve r => exact hs.smpResolve.guard
  | tapRead readings => exact execTapRead_memOk hs readings
  | basketCommit b => exact hs.cmdCommit.guard
  | basketReset b => exact hs.cmdReset'.guard
  | basketDrained b => exact hs.drained.guard
  | warmingEnd b => exact execWarmingEnd_memOk hs b
  | startupSweep b attempts => exact hs.startup.guard
  | handover => exact execHandover_memOk hs
  | testEntry b => exact execTestEntry_memOk hs b
  | testResult b res => exact execTestResult_memOk hs b res
  | eventRecord => exact execEventRecord_memOk hs
  | write port m => exact (hs.arrival hs.arrive).guard
  | read port m => exact (hs.arrival hs.arrive).guard
  | atomic port m => exact (hs.arrival hs.arrive).guard
  | skip port m => exact (hs.arrival hs.arrive).guard
  | compl port m => exact (hs.arrival hs.sink).guard
  | rdrsp port m => exact (hs.arrival hs.sink).guard
  | unitGiveUp tag => exact execUnitGiveUp_memOk hs tag
  | strm q cid => exact execStrm_memOk hs q cid
  | xfer q cid => exact execXfer_memOk hs q cid
  | queueCommandComplete q cid => exact execQueueCommandComplete_memOk hs q cid
  | bar2Write addr bytes poisoned => exact execBar2Write_memOk hs addr bytes poisoned
  | vfFlr v => exact execVfFlr_memOk hs v
  | registerWrite fn off wide v => exact execRegisterWrite_memOk hs fn off wide v
  | warmReset => exact hs.warmReset.next
  | perstAssert => exact execPerstAssert_memOk hs
  | coldReset cause orderOk => exact hs.coldReset.next
  | vauxApply bad => exact execVauxApply_memOk hs bad
  | vauxPowerFail => exact execVauxPowerFail_memOk hs
  | clockLoss pll => exact execClockLoss_memOk hs pll
  | thermtrip channel => exact execThermtrip_memOk hs channel
  | _ => exact absurd hc.symm Bool.false_ne_true

end

/-- No command leaves a memory out of its canonical form. -/
theorem exec_memOk {s : State} (hs : s.MemOk) (c : Instr) : MemOkO (exec c s) := by
  cases hc : sparesMem c
  · exact exec_memOk_of_touches hs hc
  · exact exec_memOk_of_spares hc hs

/-- Settles O4: with nothing queued the state ticks, else the first command runs, and neither puts into a memory anything but
bytes written. -/
theorem stepsKeepMemoryCanonical : Obligations.StepsKeepMemoryCanonical := by
  intro s t hs ht
  unfold step at ht
  split at ht
  · cases ht
    exact hs.of_fr (fr_idleTick (fr_refl _ s) (within_notMem rfl))
  · next c rest _ => exact exec_memOk (s := { s with pending := rest }) hs c t ht

end Sys2Proof.Machine
end

section
/-! PROOFS. The way of a packet out of the node: which port takes it, and what counting a tie changes (11, R360 to R362). -/

namespace Sys2Proof.Machine

/-! ## The way of a packet out of the node -/

/-- What choosing a route may add to a state: a tie counted, kept and reported. -/
def State.Tied (s t : State) : Prop := ∃ n l e, t = { s with dzf := { s.dzf with tie := n, ties := l }, evq := e }

theorem State.Tied.refl (s : State) : s.Tied s := ⟨_, _, _, rfl⟩

theorem State.Tied.trans {s t v : State} (h : s.Tied t) (h' : t.Tied v) : s.Tied v := by
  obtain ⟨_, _, _, rfl⟩ := h
  obtain ⟨_, _, _, rfl⟩ := h'
  exact ⟨_, _, _, rfl⟩

theorem State.tied_routeTie (s : State) (table win k : Nat) : s.Tied (s.routeTie table win k) := by
  unfold State.routeTie
  split
  · exact .refl s
  · exact ⟨_, _, _, rfl⟩

theorem State.tied_routeTies (table win : Nat) (l : List (Nat × Route)) (s : State) :
    s.Tied (l.foldl (fun s x => s.routeTie table win x.1) s) := by
  induction l generalizing s with
  | nil => exact .refl s
  | cons x l ih => exact (s.tied_routeTie table win x.1).trans (ih _)

theorem State.tied_lookup (s : State) (table key : Nat) : s.Tied (s.lookup table key).2 := by
  unfold State.lookup
  extract_lets cs top
  split
  · exact .refl s
  · exact .refl s
  · exact State.Tied.trans ⟨_, _, _, rfl⟩ (State.tied_routeTies _ _ _ _)

/-- The entry of a routing table that takes a key: the first of those of the highest priority. -/
def State.routeFor (s : State) (table key : Nat) : Option Route :=
  let cs := s.candidates (if table = 0 then s.dzf.group else s.dzf.member) key
  ((cs.filter (fun e => e.2.prio = maxNat (cs.map (·.2.prio)))).head?).map (·.2)

theorem State.lookup_fst (s : State) (table key : Nat) : (s.lookup table key).1 = s.routeFor table key := by
  unfold State.lookup State.routeFor
  extract_lets cs top
  split <;> next heq => simp only [top] at heq; simp [heq]

theorem State.lookup_spec {s t : State} {table key : Nat} {e : Option Route} (h : s.lookup table key = (e, t)) :
    s.routeFor table key = e ∧ s.Tied t := by
  rw [← State.lookup_fst]
  have htied := s.tied_lookup table key
  rw [h] at htied ⊢
  exact ⟨rfl, htied⟩

/-- The port a packet leaves by, read from the state before a tie is counted. -/
def State.portFor (s : State) (p : Packet) (rsp transit : Bool) : Option Nat :=
  if p.dst = s.dzf.nodeId ∧ s.dzf.idValid then some ownPort else
  match s.routeFor (if p.dst / 128 = s.dzf.nodeId / 128 then 1 else 0)
      (if p.dst / 128 = s.dzf.nodeId / 128 then p.dst % 128 else p.dst / 128) with
  | some e => s.choosePort e.ports (!rsp && (p.cls = 1 || p.cls = 2)) p.tag p.src transit
  | none => if p.cls = 3 && !rsp then s.treePort p.dst else none

theorem State.egress_spec (s : State) (p : Packet) (rsp transit : Bool) :
    (s.egress p rsp transit).1 = s.portFor p rsp transit ∧ s.Tied (s.egress p rsp transit).2 := by
  unfold State.egress State.portFor
  by_cases hown : p.dst = s.dzf.nodeId ∧ s.dzf.idValid = true
  · rw [if_pos hown, if_pos hown]
    exact ⟨rfl, .refl s⟩
  rw [if_neg hown, if_neg hown]
  by_cases hgroup : p.dst / 128 = s.dzf.nodeId / 128
  all_goals
    simp only [hgroup, if_true, if_false]
    split <;> next heq =>
      obtain ⟨hroute, _, _, _, rfl⟩ := State.lookup_spec heq
      rw [hroute]
      exact ⟨rfl, _, _, _, rfl⟩

/-- Whether and where a packet leaves does not hang on the time, the outstanding units or the count of free-running words. -/
theorem State.egress_fst_of (s : State) (now k : Nat) (us : List FUnit) (p : Packet) (rsp transit : Bool) :
    (State.egress { s with time := now, freeCtr := k, dzf := { s.dzf with units := us } } p rsp transit).1 =
      (s.egress p rsp transit).1 := by
  rw [(State.egress_spec _ _ _ _).1, (State.egress_spec _ _ _ _).1]
  rfl

/-- A packet that has a way out finds it with a state in which no more than a tie is counted. -/
theorem State.egress_of_fst {s : State} {p : Packet} {rsp transit : Bool} {way : Option Nat}
    (hway : (s.egress p rsp transit).1 = way) : ∃ t, s.egress p rsp transit = (way, t) ∧ s.Tied t :=
  ⟨_, Prod.ext hway rfl, (s.egress_spec p rsp transit).2⟩

end Sys2Proof.Machine
end

section
/-! PROOFS. The end of a step's unit, and what an answer does to the unit it is for (07, R253, R254; 11, R358). -/

namespace Sys2Proof.Machine

/-! ## The end of a step's unit -/

/-- The record of a step once one of its units has ended. -/
def FUnit.endPart (u : FUnit) (ok aged : Bool) (r : StepRec) : StepRec :=
  let failed := if ok then r.failed else setBit r.failed u.part true
  let old := if r.opc = 0x53 ∧ (aged ∨ bit r.detail 31) then 2 ^ 31 else 0
  let last := decide (r.units ≤ 1)
  { r with
    units := r.units - 1, failed := failed, done := last
    status := if last && decide (failed ≠ 0) then 2 else r.status
    detail := if r.opc = 0x54 then r.detail else old + popcount failed 64 }

theorem State.settle_step {u : FUnit} {uid h : Nat} (hwho : u.who = .step uid h) (s : State) (ok aged : Bool) :
    s.settle u ok aged = s.modRec h uid (u.endPart ok aged) := by
  unfold State.settle
  rw [hwho]
  rfl

/-- What `lmod` changes stands in the list it leaves. -/
theorem mem_lmod_of_find? {α : Type} {p : α → Bool} {f : α → α} {l : List α} {x : α} (hx : l.find? p = some x) :
    f x ∈ lmod p f l := by
  induction l with
  | nil => cases hx
  | cons a l ih =>
    unfold lmod
    by_cases hp : p a = true
    · obtain rfl : a = x := by simpa [hp] using hx
      simp [hp]
    · rw [if_neg hp]
      exact List.mem_cons_of_mem _ (ih (by simpa [hp] using hx))

/-- A step in flight holds a record of issue number `uid` as `r` is once its unit `u` has ended. -/
def State.PartEnded (t : State) (h uid : Nat) (u : FUnit) (r : StepRec) (ok : Bool) : Prop :=
  ∃ x, x ∈ (t.bsk h).inflight ∧ x.uid = uid ∧ x.units = r.units - 1 ∧
    x.done = decide (r.units ≤ 1) ∧ x.failed = (if ok then r.failed else setBit r.failed u.part true)

section
variable {s : State} {u : FUnit} {uid h : Nat} {r : StepRec}

theorem State.partEnded_settle (hwho : u.who = .step uid h) (hr : (s.bsk h).inflight.find? (fun x => x.uid = uid) = some r)
    (ok aged : Bool) : (s.settle u ok aged).PartEnded h uid u r ok := by
  have huid : r.uid = uid := by simpa using List.find?_some hr
  rw [State.settle_step hwho]
  refine ⟨u.endPart ok aged r, ?_, huid, rfl, rfl, rfl⟩
  rw [State.modRec_bsk, if_pos rfl]
  exact mem_lmod_of_find? hr

theorem State.pump_of_idle (hidle : s.dzf.backlog = []) : s.pump = s := by
  unfold State.pump
  rw [hidle]
  rfl

/-- A unit of a step ends where nothing waits behind the outstanding units: the step's record alone changes. -/
theorem State.settle_pump (hwho : u.who = .step uid h) (hidle : s.dzf.backlog = []) (ok aged : Bool) :
    (s.settle u ok aged).pump = s.settle u ok aged ∧ (s.settle u ok aged).dzf = s.dzf ∧ (s.settle u ok aged).mem = s.mem ∧
      (s.settle u ok aged).time = s.time := by
  rw [State.settle_step hwho]
  exact ⟨State.pump_of_idle hidle, rfl, rfl, rfl⟩

end

/-! ## Answers -/

theorem State.wr_dzf (s : State) (a : Nat) (bs : List Byte) : (s.wr a bs).dzf = s.dzf := by
  simp only [State.wr]
  rw [State.eccCount_eq]

/-- A report of two configurations that do not match notes when it was made and changes nothing else. -/
theorem State.mismatch_eq (s : State) (kind port ebits peer : Nat) :
    ∃ ms e, s.mismatch kind port ebits peer = { s with dzf := { s.dzf with misAt := ms }, evq := e } := by
  unfold State.mismatch
  extract_lets last
  split <;> exact ⟨_, _, rfl⟩

section
variable {s : State} {port : Nat} {m : Packet} {u : FUnit} {uid h : Nat} {r : StepRec}

theorem State.answered_busy (hst : m.status = 2) :
    s.answered port m u = s.putUnit { u with busyAt := some (s.time + 1000) } := by
  simp [State.answered, hst]

theorem State.answered_noRoute (hst : m.status = 5) : s.answered port m u = s := by
  simp [State.answered, hst]

theorem State.answered_data (hst : m.status ≤ 1) (htype : u.pkt.type = 2) :
    s.answered port m u = (((s.dropUnit u).deposit u m.payload).settle u true false).pump := by
  simp [State.answered, hst, htype]

theorem State.answered_good (hst : m.status ≤ 1) (htype : u.pkt.type ≠ 2) :
    s.answered port m u = ((s.putUnit { u with good := true, goodAt := s.time }).settle u true false).pump := by
  simp [State.answered, hst, htype]

/-- The state in which a unit that an answer fails is given up: of a refused one, counted. -/
def State.failing (s : State) (port : Nat) (m : Packet) : State :=
  if m.status = 4 then
    ({ s with dzf := { s.dzf with refused := sat16 (s.dzf.refused + 1) } }).mismatch 1 port (m.cfg / 4096) m.src
  else s

theorem State.answered_failed (hst : m.status = 3 ∨ m.status = 4 ∨ m.status = 6 ∨ m.status = 7) :
    s.answered port m u = (((s.failing port m).dropUnit u).settle u false false).pump := by
  unfold State.answered State.failing
  rw [if_neg (by omega), if_neg (by omega), if_neg (by omega)]

theorem State.failing_keeps (s : State) (port : Nat) (m : Packet) :
    (s.failing port m).dzf.units = s.dzf.units ∧ (s.failing port m).dzf.backlog = s.dzf.backlog ∧
      (s.failing port m).mem = s.mem ∧ (s.failing port m).baskets = s.baskets ∧
      (s.failing port m).dzf.refused = (if m.status = 4 then min 65535 (s.dzf.refused + 1) else s.dzf.refused) := by
  unfold State.failing
  split
  · obtain ⟨ms, e, heq⟩ :=
      ({ s with dzf := { s.dzf with refused := sat16 (s.dzf.refused + 1) } }).mismatch_eq 1 port (m.cfg / 4096) m.src
    rw [heq]
    exact ⟨rfl, rfl, rfl, rfl, rfl⟩
  · exact ⟨rfl, rfl, rfl, rfl, rfl⟩

/-- An answer that comes in for an outstanding unit is that unit's. -/
theorem exec_answer (hport : portOk port = true) (hclk : s.clocked = true) (hcar : s.carries port = true)
    (hmine : s.isMine m = true) (hu : s.unitOf m = some u) (htype : m.type = 5 ∨ m.type = 6) :
    exec (if m.type = 5 then .compl port m else .rdrsp port m) s = .next (s.answered port m u) := by
  rcases htype with htype | htype <;>
    simp [exec, execCompl, execRdrsp, guard, State.arrival, State.sink, hport, hclk, hcar, hmine, hu, htype]

/-- A READ's unit takes read responses and no others. -/
theorem State.unitOf_type (hu : s.unitOf m = some u) : u.pkt.type = 2 ↔ m.type = 6 := by
  have := List.find?_some hu
  simp only [Bool.and_eq_true, beq_iff_eq, decide_eq_decide] at this
  exact this.2

theorem State.answered_data_spec (hst : m.status ≤ 1) (htype : u.pkt.type = 2) (hidle : s.dzf.backlog = [])
    (hwho : u.who = .step uid h) (hr : (s.bsk h).inflight.find? (fun x => x.uid = uid) = some r) :
    let t := s.answered port m u
    t.PartEnded h uid u r true ∧ t.dzf.units = s.dzf.units.filter (fun x => x.pkt.tag != u.pkt.tag) ∧
      t.mem = (s.wr u.local_ ((m.payload.drop u.off).take u.len)).mem := by
  have hdep : (s.dropUnit u).deposit u m.payload = (s.dropUnit u).wr u.local_ ((m.payload.drop u.off).take u.len) := by
    unfold State.deposit
    rw [hwho]
  rw [State.answered_data hst htype, hdep]
  have hdzf := (s.dropUnit u).wr_dzf u.local_ ((m.payload.drop u.off).take u.len)
  obtain ⟨hpump, hsame, hmem, -⟩ := State.settle_pump
    (s := (s.dropUnit u).wr u.local_ ((m.payload.drop u.off).take u.len)) hwho (by rw [hdzf]; exact hidle) true false
  refine ⟨?_, ?_, ?_⟩
  · rw [hpump]
    exact State.partEnded_settle hwho (by rw [wr_bsk]; exact hr) _ _
  · rw [hpump, hsame, hdzf]
    rfl
  · rw [hpump, hmem]
    simp only [State.wr]
    rw [State.eccCount_eq, State.eccCount_eq s]
    rfl

theorem State.answered_good_spec (hst : m.status ≤ 1) (htype : u.pkt.type ≠ 2) (hidle : s.dzf.backlog = [])
    (hwho : u.who = .step uid h) (hr : (s.bsk h).inflight.find? (fun x => x.uid = uid) = some r) :
    let t := s.answered port m u
    t.PartEnded h uid u r true ∧ t.mem = s.mem ∧
      t.dzf.units = s.dzf.units.map
        (fun x => if x.pkt.tag = u.pkt.tag then { u with good := true, goodAt := s.time } else x) := by
  rw [State.answered_good hst htype]
  obtain ⟨hpump, hsame, hmem, -⟩ := State.settle_pump
    (s := s.putUnit { u with good := true, goodAt := s.time }) hwho hidle true false
  refine ⟨?_, ?_, ?_⟩
  · rw [hpump]
    exact State.partEnded_settle (s := s.putUnit { u with good := true, goodAt := s.time }) hwho hr _ _
  · rw [hpump, hmem]
    rfl
  · rw [hpump, hsame]
    rfl

theorem State.answered_failed_spec (hst : m.status = 3 ∨ m.status = 4 ∨ m.status = 6 ∨ m.status = 7)
    (hidle : s.dzf.backlog = []) (hwho : u.who = .step uid h)
    (hr : (s.bsk h).inflight.find? (fun x => x.uid = uid) = some r) :
    let t := s.answered port m u
    t.PartEnded h uid u r false ∧ t.dzf.units = s.dzf.units.filter (fun x => x.pkt.tag != u.pkt.tag) ∧ t.mem = s.mem ∧
      t.dzf.refused = (if m.status = 4 then min 65535 (s.dzf.refused + 1) else s.dzf.refused) := by
  obtain ⟨hunits, hbacklog, hmem, hbaskets, hrefused⟩ := s.failing_keeps port m
  rw [State.answered_failed hst]
  obtain ⟨hpump, hsame, hmem', -⟩ := State.settle_pump
    (s := (s.failing port m).dropUnit u) hwho (hbacklog.trans hidle) false false
  refine ⟨?_, ?_, ?_, ?_⟩
  · rw [hpump]
    have hbsk : ((s.failing port m).dropUnit u).bsk h = s.bsk h := congrArg (fun b => tget bskDflt b h) hbaskets
    exact State.partEnded_settle hwho (by rw [hbsk]; exact hr) _ _
  · rw [hpump, hsame, ← hunits]
    rfl
  · rw [hpump, hmem']
    exact hmem
  · rw [hpump, hsame]
    exact hrefused

end

end Sys2Proof.Machine
end

section
/-! PROOFS. The timers of a unit and of the deduplication store, packets for other nodes, and O48 (07, R253 to R255; 11, R357 to
R363). -/

namespace Sys2Proof.Machine

/-! ## The timers of a unit -/

/-- A unit as a transmission leaves it: its time stamp and its hops are new. -/
def State.stamped (s : State) (u : FUnit) : FUnit :=
  { u with pkt := { u.pkt with stime := s.time % 2 ^ 32, hops := s.dzf.hops0 }, lastAt := s.time, busyAt := none }

/-- The state in which a unit is transmitted: the unit heads the outstanding ones. -/
def State.sending (s : State) (u : FUnit) : State :=
  { s with dzf := { s.dzf with units := s.stamped u :: s.dzf.units.filter (fun x => x.pkt.tag != u.pkt.tag) } }

/-- A transmission puts the packet on its port where the node may originate and a port takes it, and holds it else. -/
theorem State.transmit_cases (s : State) (u : FUnit) :
    (∃ q t, s.mayOriginate = true ∧ (s.egress (s.stamped u).pkt false false).1 = some q ∧ (s.sending u).Tied t ∧
      s.transmit u = { t with tx := s.tx ++ [(q, (s.stamped u).pkt, s.time)] }) ∨
    ((s.mayOriginate = false ∨ (s.egress (s.stamped u).pkt false false).1 = none) ∧ (s.sending u).Tied (s.transmit u)) := by
  have hdef : s.transmit u = if s.mayOriginate then
      match (s.sending u).egress (s.stamped u).pkt false false with
      | (some port, t) => t.putPort port (s.stamped u).pkt
      | (none, t) => t
    else s.sending u := by
    unfold State.transmit
    rfl
  have hway : ((s.sending u).egress (s.stamped u).pkt false false).1 = (s.egress (s.stamped u).pkt false false).1 :=
    s.egress_fst_of s.time s.freeCtr _ _ _ _
  by_cases hmay : s.mayOriginate = true
  · rw [hdef, if_pos hmay]
    obtain ⟨t, heq, htied⟩ := State.egress_of_fst hway
    rw [heq]
    cases hq : (s.egress (s.stamped u).pkt false false).1 with
    | some q =>
      refine .inl ⟨q, t, hmay, rfl, htied, ?_⟩
      obtain ⟨_, _, _, rfl⟩ := htied
      rfl
    | none => exact .inr ⟨.inr rfl, htied⟩
  · rw [hdef, if_neg hmay]
    exact .inr ⟨.inl (by simpa using hmay), .refl _⟩

/-- A transmission changes of the state the outstanding units, the port's queue and what a tie counts. -/
theorem State.transmit_keeps (s : State) (u : FUnit) :
    (s.transmit u).dzf.units = s.stamped u :: s.dzf.units.filter (fun x => x.pkt.tag != u.pkt.tag) ∧
      (s.transmit u).dzf.backlog = s.dzf.backlog ∧ (s.transmit u).time = s.time ∧
      (s.transmit u).baskets = s.baskets := by
  rcases s.transmit_cases u with ⟨q, t, -, -, ⟨_, _, _, rfl⟩, heq⟩ | ⟨-, ⟨_, _, _, heq⟩⟩
  all_goals
    rw [heq]
    exact ⟨rfl, rfl, rfl, rfl⟩

theorem State.transmit_tx (s : State) (u : FUnit) :
    (∀ q, s.mayOriginate = true → (s.egress (s.stamped u).pkt false false).1 = some q →
      (s.transmit u).tx = s.tx ++ [(q, (s.stamped u).pkt, s.time)]) ∧
    (s.mayOriginate = false ∨ (s.egress (s.stamped u).pkt false false).1 = none → (s.transmit u).tx = s.tx) := by
  rcases s.transmit_cases u with ⟨q, t, hmay, hway, ⟨_, _, _, rfl⟩, heq⟩ | ⟨hnone, ⟨_, _, _, heq⟩⟩
  · rw [heq]
    refine ⟨fun q' _ hq' => ?_, fun hno => ?_⟩
    · obtain rfl : q = q' := by simpa [hway] using hq'
      rfl
    · simp [hmay, hway] at hno
  · rw [heq]
    refine ⟨fun q' hmay hq' => ?_, fun _ => rfl⟩
    simp [hmay, hq'] at hnone

theorem exec_resendTimer {s : State} {u : FUnit} {tag : Nat} (hu : s.unitTag tag = some u) (hclk : s.clocked = true)
    (hwait : u.waiting = true) (hwho : u.who ≠ .gone) (hdue : max s.time (s.resendAt u) ≤ u.firstAt + 1900000) :
    exec (.resendTimer tag) s = .next ((s.at (s.resendAt u)).transmit u) := by
  have hdo : (u.waiting && u.who != .gone && s.clocked && decide (max s.time (s.resendAt u) ≤ u.firstAt + 1900000)) = true := by
    simp [hwait, hwho, hclk, hdue]
  have hat : s.at (max s.time (s.resendAt u)) = s.at (s.resendAt u) := by
    simp [State.at]
  simp only [exec, execResendTimer, hu, hdo, if_true, hat]

/-- The SKIP that takes over the SEQ of an ORD unit. -/
def State.skipFor (s : State) (u : FUnit) : FUnit :=
  { readUnit .skipSeq 0 0 0 0 0 0 s.dzf.nextTag with
    firstAt := s.time
    pkt := { unitPacket 0x04 0 0 0 s.dzf.nextTag 0 [] with
      dst := u.pkt.dst, src := s.dzf.nodeId, cfg := cfgField s.dzf.sendCfg, inc := s.dzf.inc, seq := u.pkt.seq } }

theorem State.sendSkip_eq (s : State) (u : FUnit) :
    s.sendSkip u = State.transmit { s with dzf := { s.dzf with nextTag := (s.dzf.nextTag + 1) % 2 ^ 32 } } (s.skipFor u) := rfl

/-- A SKIP takes the place of an ORD unit given up: it heads the outstanding units, and the steps stay. -/
theorem State.sendSkip_keeps (s : State) (u : FUnit) :
    (∃ k, k ∈ (s.sendSkip u).dzf.units ∧ k.pkt.type = 4 ∧ k.pkt.seq = u.pkt.seq ∧ k.pkt.dst = u.pkt.dst) ∧
      (s.sendSkip u).dzf.backlog = s.dzf.backlog ∧ (s.sendSkip u).time = s.time ∧ (s.sendSkip u).baskets = s.baskets := by
  rw [State.sendSkip_eq]
  obtain ⟨hunits, hbacklog, htime, hbaskets⟩ := State.transmit_keeps
    { s with dzf := { s.dzf with nextTag := (s.dzf.nextTag + 1) % 2 ^ 32 } } (s.skipFor u)
  refine ⟨?_, hbacklog, htime, hbaskets⟩
  rw [hunits]
  exact ⟨_, List.mem_cons_self, rfl, rfl, rfl⟩

/-- The state in which a unit's part fails at 1.9 ms: the unit is gone, a SKIP sent for one of class ORD. -/
def State.aged (s : State) (u : FUnit) : State :=
  let t := (s.at (u.firstAt + 1900000)).dropUnit u
  if u.pkt.cls = 0 then t.sendSkip u else t

theorem State.aged_keeps (s : State) (u : FUnit) :
    (s.aged u).dzf.backlog = s.dzf.backlog ∧ (s.aged u).time = max s.time (u.firstAt + 1900000) ∧
      (s.aged u).baskets = s.baskets := by
  unfold State.aged
  extract_lets t
  split
  · exact (t.sendSkip_keeps u).2
  · exact ⟨rfl, rfl, rfl⟩

theorem State.aged_units (s : State) (u : FUnit) :
    (u.pkt.cls ≠ 0 → (s.aged u).dzf.units = s.dzf.units.filter (fun x => x.pkt.tag != u.pkt.tag)) ∧
    (u.pkt.cls = 0 →
      ∃ k, k ∈ (s.aged u).dzf.units ∧ k.pkt.type = 4 ∧ k.pkt.seq = u.pkt.seq ∧ k.pkt.dst = u.pkt.dst) := by
  unfold State.aged
  refine ⟨fun hcls => ?_, fun hcls => ?_⟩
  · rw [if_neg hcls]
    rfl
  · rw [if_pos hcls]
    exact (State.sendSkip_keeps _ u).1

theorem exec_unitGiveUp {s : State} {u : FUnit} {tag : Nat} (hu : s.unitTag tag = some u) (hclk : s.clocked = true)
    (hwait : u.waiting = true) : exec (.unitGiveUp tag) s = .next (((s.aged u).settle u false true).pump) := by
  simp only [exec, execUnitGiveUp, hu, hwait, hclk, Bool.and_self, if_true]
  rfl

theorem State.aged_settle {s : State} {u : FUnit} {uid h : Nat} {r : StepRec} (hwho : u.who = .step uid h)
    (hidle : s.dzf.backlog = []) (hr : (s.bsk h).inflight.find? (fun x => x.uid = uid) = some r) :
    let t := ((s.aged u).settle u false true).pump
    t.PartEnded h uid u r false ∧ t.time = max s.time (u.firstAt + 1900000) ∧ t.dzf = (s.aged u).dzf := by
  obtain ⟨hbacklog, htime, hbaskets⟩ := s.aged_keeps u
  obtain ⟨hpump, hdzf, -, htime'⟩ := State.settle_pump hwho (hbacklog.trans hidle) false true
  have hbsk : (s.aged u).bsk h = s.bsk h := congrArg (fun b => tget bskDflt b h) hbaskets
  intro t
  simp only [t, hpump]
  exact ⟨State.partEnded_settle hwho (by rw [hbsk]; exact hr) _ _, htime'.trans htime, hdzf⟩

theorem exec_tagRelease_open {s : State} {u : FUnit} {tag : Nat} (hu : s.unitTag tag = some u)
    (hopen : s.partOpen u = true) : exec (.tagRelease tag) s = .next s := by
  simp [exec, execTagRelease, hu, hopen]

theorem exec_tagRelease {s : State} {u : FUnit} {tag : Nat} (hu : s.unitTag tag = some u) (hclk : s.clocked = true)
    (hgood : u.good = true) (hopen : s.partOpen u = false) :
    ∃ l, exec (.tagRelease tag) s = .next { s with
      time := max s.time (max u.goodAt (u.lastAt + 50000))
      dzf := { s.dzf with units := s.dzf.units.filter (fun x => x.pkt.tag != u.pkt.tag), dedup := l } } := by
  simp only [exec, execTagRelease, hu, hgood, hclk, hopen, Bool.not_false, Bool.and_self, if_true]
  exact ⟨_, rfl⟩

/-! ## The deduplication store -/

theorem State.dedupExpire_none {s : State} {src tag e : Nat} (b : Bool)
    (hnone : s.dzf.dedup.find? (fun d => d.src = src && d.tag = tag && d.epoch = e) = none) : s.dedupExpire src tag e b = s := by
  unfold State.dedupExpire
  simp only [hnone]

theorem State.dedupExpire_some {s : State} {src tag e : Nat} {d : Dedup}
    (hd : s.dzf.dedup.find? (fun d => d.src = src && d.tag = tag && d.epoch = e) = some d) :
    let less : Dzf := { s.dzf with dedup := s.dzf.dedup.filter (fun d => !(d.src = src && d.tag = tag && d.epoch = e)) }
    s.dedupExpire src tag e false = { s with time := max s.time (d.at_ + 2000000), dzf := less } ∧
    s.dedupExpire src tag e true =
      if src = s.dzf.nodeId && (s.unitTag tag).isSome then s else { s with dzf := less } := by
  unfold State.dedupExpire
  simp only [hd]
  exact ⟨rfl, rfl⟩

/-! ## Packets for other nodes -/

section
variable {s : State} {port : Nat} {m : Packet}

theorem exec_forward (hport : portOk port = true) (hclk : s.clocked = true) (hcar : s.carries port = true)
    (hmine : s.isMine m = false) (hlo : 1 ≤ m.type) (hhi : m.type ≤ 7) :
    exec (.forward port m) s = .next (s.forwardPkt m) := by
  have hnone : m.type ≠ 0 := by omega
  have hall : ¬ 8 ≤ m.type := by omega
  simp [exec, execForward, guard, State.arrival, hport, hclk, hcar, hmine, hnone, hall]

theorem State.forwardPkt_on {q : Nat} (hhops : 2 ≤ m.hops)
    (hway : (s.egress { m with hops := m.hops - 1 } (m.type = 5 || m.type = 6) true).1 = some q) :
    (s.forwardPkt m).tx = s.tx ++ [(q, { m with hops := m.hops - 1 }, s.time)] ∧ (s.forwardPkt m).mem = s.mem := by
  unfold State.forwardPkt
  rw [if_neg (by omega)]
  obtain ⟨t, heq, _, _, _, rfl⟩ := State.egress_of_fst hway
  simp only [heq]
  exact ⟨rfl, rfl⟩

theorem State.sendReply_on {p : Packet} {q : Nat} {transit : Bool} (hway : (s.egress p true transit).1 = some q) :
    (s.sendReply p transit).tx = s.tx ++ [(q, p, s.time)] ∧ (s.sendReply p transit).mem = s.mem := by
  unfold State.sendReply
  obtain ⟨t, heq, _, _, _, rfl⟩ := State.egress_of_fst hway
  simp only [heq]
  exact ⟨rfl, rfl⟩

/-- A unit whose hops are used up is answered NO_ROUTE by the way its source has. -/
theorem State.forwardPkt_noRoute {q : Nat} (hhops : m.hops ≤ 1) (hlo : 1 ≤ m.type) (hunit : m.type ≤ 4)
    (hway : (s.egress (s.reply m 5 (if m.type = 2 then freeBytes s.freeCtr 16 else [])) true true).1 = some q) :
    (s.forwardPkt m).tx = s.tx ++ [(q, s.reply m 5 (if m.type = 2 then freeBytes s.freeCtr 16 else []), s.time)] ∧
      (s.forwardPkt m).mem = s.mem := by
  unfold State.forwardPkt State.noRoute
  rw [if_pos hhops, if_pos ⟨hlo, hunit⟩]
  by_cases hread : m.type = 2
  · simp only [hread, if_true] at hway ⊢
    exact State.sendReply_on ((s.egress_fst_of s.time (s.freeCtr + 16) s.dzf.units _ _ _).trans hway)
  · simp only [hread, if_false] at hway ⊢
    exact State.sendReply_on hway

theorem State.forwardPkt_answer (hhops : m.hops ≤ 1) (hans : 5 ≤ m.type) : s.forwardPkt m = s := by
  unfold State.forwardPkt State.noRoute
  rw [if_pos hhops, if_neg (by omega)]

theorem exec_creditStallDiscard {e : Nat × Packet × Nat} (hport : port < 32)
    (he : s.tx.find? (fun e => e.1 = port && e.2.1 = m) = some e) :
    exec (.creditStallDiscard port m) s = .next (({ s.at (e.2.2 + 100000) with tx := s.tx.erase e }).setPort port
      { s.port port with stall := min 65535 ((s.port port).stall + 1) }) := by
  simp only [exec, execCreditStallDiscard, guard, hport, he, decide_true, if_true]
  rfl

end

/-! ## O48 -/

/-- Settles O48: an answer reaches its own unit and ends a part of the step through `settle`; the timers transmit, fail or
release one unit; and a packet for others leaves by the port `egress` names, which a counted tie does not change. -/
theorem unitsAreAnsweredAndPassedOn : Obligations.UnitsAreAnsweredAndPassedOn := by
  refine ⟨?_, ?_, ?_⟩
  · intro s port m u uid h r Ends gone Put hport hclk hcar hmine hu hidle hwho hr
    have hanswer := exec_answer hport hclk hcar hmine hu
    have hread := State.unitOf_type hu
    refine ⟨fun htype hst => ?_, fun htype hst => ?_, fun htype => ⟨fun hst => ?_, fun hst => ?_, fun hst => ?_⟩⟩
    · have hexec := hanswer (.inr htype)
      rw [if_neg (by omega)] at hexec
      obtain ⟨hends, hunits, hmem⟩ := State.answered_data_spec (port := port) hst (hread.mpr htype) hidle hwho hr
      exact ⟨_, hexec, hends, hunits, hmem⟩
    · have hexec := hanswer (.inl htype)
      rw [if_pos htype] at hexec
      obtain ⟨hends, hmem, hunits⟩ :=
        State.answered_good_spec (port := port) hst (fun h2 => by have := hread.mp h2; omega) hidle hwho hr
      exact ⟨_, hexec, hends, hmem, hunits⟩
    · exact ⟨_, hanswer htype, by rw [State.answered_busy hst]; rfl, by rw [State.answered_busy hst]; rfl⟩
    · exact (hanswer htype).trans (congrArg Host.Outcome.next (State.answered_noRoute hst))
    · obtain ⟨hends, hunits, hmem, hrefused⟩ := State.answered_failed_spec (port := port) hst hidle hwho hr
      exact ⟨_, hanswer htype, hends, hunits, hmem, hrefused⟩
  · intro s u tag rest
    refine ⟨?_, fun hu hclk => ⟨?_, ?_, fun _ hopen => exec_tagRelease_open hu hopen, fun hgood hopen => ?_⟩⟩
    · intro src k e mine less
      refine ⟨fun b hnone => congrArg Host.Outcome.next (State.dedupExpire_none b hnone), fun d hd => ?_⟩
      obtain ⟨haged, hreleased⟩ := State.dedupExpire_some hd
      refine ⟨congrArg Host.Outcome.next haged, fun hgone => congrArg Host.Outcome.next (hreleased.trans (if_neg ?_)),
        fun hown hstands => congrArg Host.Outcome.next (hreleased.trans (if_pos ?_))⟩
      · rcases hgone with hsrc | hunit
        · simp [hsrc]
        · simp [hunit]
      · simp [hown, Option.isSome_iff_ne_none, hstands]
    · intro hwait hwho hdue p
      have hway := s.egress_fst_of (max s.time (s.resendAt u)) s.freeCtr s.dzf.units p false false
      obtain ⟨hunits, -, htime, -⟩ := (s.at (s.resendAt u)).transmit_keeps u
      obtain ⟨hsent, hheld⟩ := (s.at (s.resendAt u)).transmit_tx u
      refine ⟨_, exec_resendTimer hu hclk hwait hwho hdue, htime, ?_, fun q hmay hq => ?_, fun hno => ?_⟩
      · rw [hunits, htime]
        rfl
      · rw [htime]
        exact hsent q hmay (hway.trans hq)
      · exact hheld (hno.imp_right hway.trans)
    · intro uid h r hwait hwho hidle hr
      obtain ⟨⟨x, hx, huid, hun, -, hfailed⟩, htime, hdzf⟩ := State.aged_settle hwho hidle hr
      obtain ⟨hgone, hskip⟩ := s.aged_units u
      rw [← hdzf] at hgone hskip
      exact ⟨_, exec_unitGiveUp hu hclk hwait, htime, ⟨x, hx, huid, hun, hfailed⟩, hgone, hskip⟩
    · obtain ⟨l, hexec⟩ := exec_tagRelease hu hclk hgood hopen
      exact ⟨_, hexec, rfl, rfl, rfl⟩
  · intro s port m v bs
    refine ⟨fun hport hclk hcar hmine hlo hhi => ?_, fun e hport he => ?_⟩
    · have hexec := exec_forward hport hclk hcar hmine hlo hhi
      refine ⟨fun q hhops hq => ⟨_, hexec, State.forwardPkt_on hhops hq⟩,
        fun q hhops hunit hq => ⟨_, hexec, State.forwardPkt_noRoute hhops hlo hunit hq⟩, fun hhops hans => ?_⟩
      rw [hexec, State.forwardPkt_answer hhops hans]
    · refine ⟨_, exec_creditStallDiscard hport he, rfl, rfl, ?_, fun k hk => ?_⟩
      · rw [State.setPort_port, if_pos rfl]
      · rw [State.setPort_port, if_neg hk]
        rfl

end Sys2Proof.Machine
end

section
/-! PROOFS. The operations of the stream commands (07, R231 to R235, Table 07-5): the streams a Basket holds, where a stream that
starts is placed, and what an abort takes back. -/

namespace Sys2Proof.Machine

/-! ## The streams a Basket holds -/

/-- A stream is one of those Basket h holds. -/
def Stream.heldBy (h : Nat) (t : Stream) : Bool :=
  t.bsk = h && (t.st = .resident || t.st = .suspended || t.st = .migrating)

theorem filter_tins {α : Type} (d : Nat → α) {q : α → Bool} {k : Nat} {v : α} (hnew : q v = false) :
    ∀ t : Tab α, q (tget d t k) = false → (tins k v t).filter (fun e => q e.2) = t.filter (fun e => q e.2)
  | [], _ => by simp [tins, hnew]
  | (i, w) :: t, hold => by
    unfold tins
    by_cases hlt : k < i
    · rw [if_pos hlt]
      simp [hnew]
    by_cases heq : k = i
    · have hw : q w = false := by simpa [tget, heq] using hold
      rw [if_neg hlt, if_pos heq]
      simp [hnew, hw]
    · have hrest := filter_tins d hnew t (by simpa [tget, heq] using hold)
      rw [if_neg hlt, if_neg heq, List.filter_cons, List.filter_cons, hrest]

/-- A table that reads another value than the default at k has an entry there. -/
theorem mem_of_tget_ne {α : Type} (d : Nat → α) {k : Nat} : ∀ {t : Tab α}, tget d t k ≠ d k → (k, tget d t k) ∈ t
  | [], hne => absurd rfl hne
  | (i, w) :: t, hne => by
    unfold tget at hne ⊢
    by_cases heq : k = i
    · rw [if_pos heq, heq]
      exact List.mem_cons_self
    · rw [if_neg heq] at hne ⊢
      exact List.mem_cons_of_mem _ (mem_of_tget_ne d hne)

/-- A stream that no Basket holds, before and after, leaves the lists of held streams as they are. -/
theorem State.held_setStr {s : State} {i : Nat} {v : Stream} {h : Nat} (hne : v ≠ strDflt i)
    (hold : (s.str i).heldBy h = false) (hnew : v.heldBy h = false) : (s.setStr i v).held h = s.held h := by
  have hset : (s.setStr i v).streams = tins i v s.streams := if_neg hne
  unfold State.held
  rw [hset]
  exact congrArg (List.map Prod.fst) (filter_tins strDflt (q := Stream.heldBy h) hnew s.streams hold)

theorem State.held_ne_nil {s : State} {i h : Nat} (hheld : (s.str i).heldBy h = true) : s.held h ≠ [] := by
  have hne : s.str i ≠ strDflt i := by
    intro heq
    rw [heq] at hheld
    simp [Stream.heldBy, strDflt] at hheld
  exact List.ne_nil_of_mem (List.mem_map_of_mem (List.mem_filter.mpr ⟨mem_of_tget_ne strDflt hne, hheld⟩))

/-! ## Placement -/

theorem State.placeAt_congr {s t : State} (hheld : ∀ h, t.held h = s.held h) (hbsk : ∀ h, t.bsk h = s.bsk h) (aff : Nat)
    (ok : Nat → Bool) : t.placeAt aff ok = s.placeAt aff ok := by
  unfold State.placeAt State.takesStream
  simp only [hheld, hbsk]

theorem argMin_mem {α : Type} {key : α → Nat} : ∀ {l : List α} {x : α}, argMin key l = some x → x ∈ l
  | [], _, hx => nomatch hx
  | a :: l, x, hx => by
    unfold argMin at hx
    split at hx
    · obtain rfl : a = x := by simpa using hx
      exact List.mem_cons_self
    · next y hy =>
      split at hx
      · obtain rfl : y = x := by simpa using hx
        exact List.mem_cons_of_mem _ (argMin_mem hy)
      · obtain rfl : a = x := by simpa using hx
        exact List.mem_cons_self

/-- A Basket that takes a stream is in service. -/
theorem State.inService_of_placeAt {s : State} {aff g : Nat} {ok : Nat → Bool} (hplace : s.placeAt aff ok = some g) :
    inService (s.bsk g) = true := by
  have htakes := (List.mem_filter.mp (argMin_mem hplace)).2
  simp only [State.takesStream, Bool.and_eq_true] at htakes
  exact htakes.1.1.2

/-- A Basket in service runs once a stream has settled on it. -/
theorem State.settleOn_run {s : State} {i g : Nat} (hserves : inService (s.bsk g) = true) :
    ((s.settleOn i g .resident).bsk g).st = .run := by
  unfold State.settleOn
  have hheld : (s.putStr i { s.str i with st := .resident, bsk := g }).held g ≠ [] := by
    refine State.held_ne_nil (i := i) ?_
    rw [putStr_str, if_pos rfl]
    simp [Stream.heldBy]
  have hbsk : (s.putStr i { s.str i with st := .resident, bsk := g }).bsk g = s.bsk g := putStr_bsk _ _ _ _
  unfold State.settleBsk
  simp only [hbsk, hserves, if_true, State.setBsk_bsk]
  rw [if_neg (by simpa using hheld)]

/-! ## START -/

/-- A stream as START reads it from its descriptor. -/
def State.started (s : State) (i : Nat) : Stream :=
  { s.readDesc i { cause := (s.str i).cause } with ptr := fld (s.descNum i) 0x0C 3 }

/-- The state in which a started stream looks for a Basket. -/
def State.starting (s : State) (i : Nat) : State := (s.setStr i (s.started i)).wrCtx i

/-- The state with list `w` of streams that wait for a Basket. -/
def State.setWaiting (s : State) (w : List Nat) : State := { s with waiting := w }

theorem State.setWaiting_keeps (s : State) (w : List Nat) :
    (s.setWaiting w).waiting = w ∧ (s.setWaiting w).dev = s.dev ∧ ∀ j, (s.setWaiting w).str j = s.str j :=
  ⟨rfl, rfl, fun _ => rfl⟩

/-- The state in which a started stream waits for a Basket, PENDING. -/
def State.pended (s : State) (i : Nat) : State :=
  ((s.starting i).putStr i { s.started i with st := .pending }).setWaiting (s.waiting ++ [i])

section
variable {s : State} {i : Nat} (hst : (s.str i).st = .idle ∨ (s.str i).st = .ended ∨ (s.str i).st = .aborted)
  (hdesc : descBad (s.descNum i) = false) (himage : s.imageBad (fld (s.descNum i) 0 8) = none)

theorem State.starting_str (s : State) (i j : Nat) : (s.starting i).str j = if j = i then s.started i else s.str j := by
  unfold State.starting
  rw [wrCtx_str, State.setStr_str]

theorem State.starting_dev (s : State) (i : Nat) : (s.starting i).dev = s.dev ∧ (s.starting i).waiting = s.waiting := by
  have hfr : Fr [.mem, .memBad, .memCorr, .memCe, .memUe] (s.setStr i (s.started i)) (s.starting i) :=
    fr_wrCtx (fr_refl _ _) (by simp [Within]) _
  exact ⟨hfr .dev (by decide), hfr .waiting (by decide)⟩

include hdesc in
theorem State.started_ne_default : s.started i ≠ strDflt i := by
  intro heq
  have haff : fld (s.descNum i) 0x0A 2 = 0 := congrArg Stream.aff heq
  simp [descBad, haff] at hdesc

include hst hdesc in
/-- A stream that starts is on no Basket yet: the choice of one is the same with it read in. -/
theorem State.starting_placeAt (aff : Nat) (ok : Nat → Bool) : (s.starting i).placeAt aff ok = s.placeAt aff ok := by
  have hfr : Fr [.mem, .memBad, .memCorr, .memCe, .memUe] (s.setStr i (s.started i)) (s.starting i) :=
    fr_wrCtx (fr_refl _ _) (by simp [Within]) _
  have hbsk (h : Nat) : (s.starting i).bsk h = s.bsk h := hfr.bsk_eq (by decide) h
  refine State.placeAt_congr (fun h => ?_) hbsk aff ok
  rw [hfr.held_eq (by decide)]
  refine State.held_setStr (State.started_ne_default hdesc) ?_ (by simp [Stream.heldBy, State.started, State.readDesc])
  rcases hst with h | h | h <;> simp [Stream.heldBy, h]

include hst hdesc himage in
theorem State.cmdStart_of_good : s.cmdStart i =
    match s.placeAt (fld (s.descNum i) 0x0A 2) (fun _ => true) with
    | some g => ((s.starting i).settleOn i g .resident, 0)
    | none => (s.pended i, 0) := by
  rw [← State.starting_placeAt hst hdesc]
  unfold State.pended
  rw [← (s.starting_dev i).2]
  unfold State.cmdStart
  simp only [if_pos hst, hdesc, himage, Bool.false_eq_true, if_false]
  rfl

end

/-! ## RESUME, RESET and ABORT -/

/-- A stream as RESUME reads it again from its descriptor. -/
def State.resumed (s : State) (i : Nat) : Stream :=
  { s.readDesc i (s.str i) with ptr := fld (s.descNum i) 0x0C 3, atYield := false, waitSince := none }

section
variable {s : State} {i : Nat}

theorem State.cmdResume_of_good (hst : (s.str i).st = .suspended) (hdesc : descBad (s.descNum i) = false)
    (hhere : (s.str i).migSaved = false) :
    s.cmdResume i = ((s.setStr i (s.resumed i)).settleOn i (s.str i).bsk .resident, 0) := by
  unfold State.cmdResume
  extract_lets t d _ u
  have hsaved : u.migSaved = false := hhere
  rw [if_pos hst, if_neg (by simp [d, hdesc]), if_neg (by simp [hsaved])]
  rfl

theorem State.cmdReset_of_over (hst : (s.str i).st = .ended ∨ (s.str i).st = .aborted) :
    s.cmdReset i = (s.putStr i { s.str i with st := .idle, cause := 0, bsk := 0 }, 0) := by
  unfold State.cmdReset
  simp only [if_pos hst]

theorem State.cmdAbort_of_live (hst : (s.str i).st = .pending ∨ (s.str i).st = .resident ∨ (s.str i).st = .suspended ∨
    (s.str i).st = .migrating) : s.cmdAbort i = (s.abortStr i 0xF004, 0) := by
  unfold State.cmdAbort
  simp only [if_pos hst]

/-- A stream as an abort leaves it. -/
def Stream.aborted (t : Stream) (cause : Nat) : Stream :=
  { t with
    st := .aborted, cause := cause, flags := {}, loops := [], calls := [], retry := none, chain := none
    chained := false, hostW := none, waitSince := none, halting := false, atYield := false, migTo := none, wasRes := false
    migSaved := false, migPots := [], migReg := false, migBy := none }

/-- The state in which an aborted stream stops: of one that migrates, the move answered CANCELLED. -/
def State.cancelled (s : State) (i : Nat) : State :=
  if (s.str i).st = .migrating then s.migReport i 2 else s

theorem State.abortStr_of_live (cause : Nat) (hst : (s.str i).st = .pending ∨ (s.str i).st = .resident ∨
    (s.str i).st = .suspended ∨ (s.str i).st = .migrating) :
    ∃ u, Fr [.mem, .memBad, .memCorr, .memCe, .memUe]
        (((s.cancelled i).dropStream i).putStr i ((s.str i).aborted cause)) u ∧
      s.abortStr i cause = u.settleBsk (s.str i).bsk := by
  have hdrop : (if (s.str i).st = .migrating then (s.migReport i 2).dropStream i else s.dropStream i) =
      (s.cancelled i).dropStream i := by
    unfold State.cancelled
    split <;> rfl
  refine ⟨if (s.str i).st = .pending then ((s.cancelled i).dropStream i).putStr i ((s.str i).aborted cause) else
    (((s.cancelled i).dropStream i).putStr i ((s.str i).aborted cause)).wrCtx i, ?_, ?_⟩
  · split
    · exact fr_refl _ _
    · exact fr_wrCtx (fr_refl _ _) (by simp [Within]) _
  · unfold State.abortStr
    simp only [if_pos hst, hdrop]
    rfl

/-- A migration's answer may give the command register back, and takes it from nobody. -/
theorem State.migReport_stBusy (res : Nat) (hbusy : s.dev.stBusy = false) : (s.migReport i res).dev.stBusy = false := by
  have hset : Fr [.streams, .hq] s (s.setStr i { s.str i with migReg := false, migBy := none }) :=
    fr_setStr (fr_refl _ s) (by simp [Within]) _ _
  unfold State.migReport
  extract_lets t u x
  have hx : Fr [.streams, .hq] s x := by
    simp only [x]
    split
    · exact fr_qDone hset (by simp [Within]) _ _ _ _ _
    · exact hset
  have hdev : x.dev = s.dev := hx .dev (by decide)
  split
  · rfl
  · rw [hdev, hbusy]

theorem State.cancelled_spec (s : State) (i : Nat) :
    (∀ j, j ≠ i → (s.cancelled i).str j = s.str j) ∧ ((s.cancelled i).str i).bsk = (s.str i).bsk ∧
      (s.dev.stBusy = false → (s.cancelled i).dev.stBusy = false) := by
  unfold State.cancelled
  split
  · obtain ⟨-, hstr, -⟩ := s.migReport_spec i 2
    refine ⟨fun j hj => (hstr j).trans (if_neg hj), ?_, State.migReport_stBusy 2⟩
    rw [hstr, if_pos rfl]
  · exact ⟨fun _ _ => rfl, rfl, id⟩

theorem State.dropStream_waiting (s : State) (i : Nat) : i ∉ (s.dropStream i).waiting := by
  unfold State.dropStream
  simp

/-- What an abort changes of its stream, of the stream's Basket, and what it leaves (07, R234). -/
theorem State.abortStr_spec (cause : Nat) (hst : (s.str i).st = .pending ∨ (s.str i).st = .resident ∨
    (s.str i).st = .suspended ∨ (s.str i).st = .migrating) :
    let t := s.abortStr i cause
    (∀ j, t.str j = if j = i then (s.str i).aborted cause else s.str j) ∧ i ∉ t.waiting ∧
      (∀ r, r ∈ (t.bsk (s.str i).bsk).inflight → r.sid ≠ i) ∧ (s.dev.stBusy = false → t.dev.stBusy = false) := by
  obtain ⟨u, hu, habort⟩ := State.abortStr_of_live cause hst
  obtain ⟨hothers, hhome, hbusy⟩ := s.cancelled_spec i
  have hdrop : Fr [.waiting, .baskets, .pans, .pots, .fastQ, .dzf] (s.cancelled i) ((s.cancelled i).dropStream i) :=
    fr_dropStream (fr_refl _ _) (by simp [Within]) i
  have hput : Fr [.mem, .memBad, .memCorr, .memCe, .memUe, .streams] ((s.cancelled i).dropStream i)
      (((s.cancelled i).dropStream i).putStr i ((s.str i).aborted cause)) := fr_putStr (fr_refl _ _) (by simp [Within]) _ _
  have hsettle : Fr [.baskets] u (u.settleBsk (s.str i).bsk) := fr_settleBsk (fr_refl _ _) (by simp [Within]) _
  intro t
  simp only [t, habort]
  refine ⟨fun j => ?str, ?waiting, fun r hr => ?flight, fun hfree => ?busy⟩
  case str =>
    rw [settle_str, hu.str_eq (by decide), putStr_str]
    split_ifs with hj
    · rfl
    · rw [hdrop.str_eq (by decide), hothers j hj]
  case waiting =>
    rw [show (u.settleBsk (s.str i).bsk).waiting = u.waiting from hsettle .waiting (by decide),
      show u.waiting = _ from hu .waiting (by decide), hput .waiting (by decide)]
    exact State.dropStream_waiting _ _
  case flight =>
    rw [State.settleBsk_inflight, hu.bsk_eq (by decide), putStr_bsk, State.dropStream_bsk, hhome, if_pos rfl] at hr
    simpa using (List.mem_filter.mp hr).2
  case busy =>
    have hdev : (u.settleBsk (s.str i).bsk).dev = (s.cancelled i).dev :=
      (hsettle .dev (by decide)).trans ((hu .dev (by decide)).trans ((hput .dev (by decide)).trans (hdrop .dev (by decide))))
    rw [hdev]
    exact hbusy hfree

end

end Sys2Proof.Machine
end

section
/-! PROOFS. START, RESUME, ABORT and RESET as GCTL_STRM_CMD gives them, and O23 (07, R231 to R235). -/

namespace Sys2Proof.Machine

/-! ## The operation of each command -/

theorem State.settleOn_dev (s : State) (i g : Nat) (st : StrState) : (s.settleOn i g st).dev = s.dev := by
  have hfr : Fr [.mem, .memBad, .memCorr, .memCe, .memUe, .streams, .baskets] s (s.settleOn i g st) :=
    fr_settleOn (fr_refl _ s) (by simp [Within]) _ _ _
  exact hfr .dev (by decide)

theorem State.putStr_dev (s : State) (i : Nat) (v : Stream) : (s.putStr i v).dev = s.dev := by
  have hfr : Fr [.mem, .memBad, .memCorr, .memCe, .memUe, .streams] s (s.putStr i v) :=
    fr_putStr (fr_refl _ s) (by simp [Within]) _ _
  exact hfr .dev (by decide)

section
variable {s : State} {i : Nat}

theorem State.cmdStart_placed (hst : (s.str i).st = .idle ∨ (s.str i).st = .ended ∨ (s.str i).st = .aborted)
    (hdesc : descBad (s.descNum i) = false) (himage : s.imageBad (fld (s.descNum i) 0 8) = none) {g : Nat}
    (hplace : s.placeAt (fld (s.descNum i) 0x0A 2) (fun _ => true) = some g) :
    ∃ x, s.cmdStart i = (x, 0) ∧ x.dev = s.dev ∧ (x.bsk g).st = .run ∧
      ∀ j, x.str j = if j = i then { s.started i with st := .resident, bsk := g } else s.str j := by
  have hx := State.cmdStart_of_good hst hdesc himage
  rw [hplace] at hx
  obtain ⟨hstr, -⟩ := (s.starting i).settleOn_spec i g .resident
  have hserves : inService ((s.starting i).bsk g) = true :=
    State.inService_of_placeAt ((State.starting_placeAt hst hdesc _ _).trans hplace)
  have hdev : ((s.starting i).settleOn i g .resident).dev = s.dev := by
    rw [State.settleOn_dev, (s.starting_dev i).1]
  refine ⟨_, hx, hdev, State.settleOn_run hserves, fun j => ?_⟩
  rw [hstr, s.starting_str, s.starting_str, if_pos rfl]
  split_ifs <;> rfl

theorem State.pended_spec (s : State) (i : Nat) :
    (s.pended i).dev = s.dev ∧ (s.pended i).waiting = s.waiting ++ [i] ∧
      ∀ j, (s.pended i).str j = if j = i then { s.started i with st := .pending } else s.str j := by
  obtain ⟨hwaiting, hdev, hstr⟩ :=
    ((s.starting i).putStr i { s.started i with st := .pending }).setWaiting_keeps (s.waiting ++ [i])
  unfold State.pended
  refine ⟨?_, hwaiting, fun j => ?_⟩
  · rw [hdev, State.putStr_dev, (s.starting_dev i).1]
  · rw [hstr, putStr_str, s.starting_str]
    split_ifs <;> rfl

theorem State.cmdStart_waits (hst : (s.str i).st = .idle ∨ (s.str i).st = .ended ∨ (s.str i).st = .aborted)
    (hdesc : descBad (s.descNum i) = false) (himage : s.imageBad (fld (s.descNum i) 0 8) = none)
    (hplace : s.placeAt (fld (s.descNum i) 0x0A 2) (fun _ => true) = none) :
    ∃ x, s.cmdStart i = (x, 0) ∧ x.dev = s.dev ∧ x.waiting = s.waiting ++ [i] ∧
      ∀ j, x.str j = if j = i then { s.started i with st := .pending } else s.str j := by
  have hx := State.cmdStart_of_good hst hdesc himage
  rw [hplace] at hx
  exact ⟨_, hx, s.pended_spec i⟩

theorem State.cmdResume_here (hst : (s.str i).st = .suspended) (hdesc : descBad (s.descNum i) = false)
    (hhere : (s.str i).migSaved = false) :
    ∃ x, s.cmdResume i = (x, 0) ∧ x.dev = s.dev ∧
      ∀ j, x.str j = if j = i then { s.resumed i with st := .resident, bsk := (s.str i).bsk } else s.str j := by
  obtain ⟨hstr, -⟩ := (s.setStr i (s.resumed i)).settleOn_spec i (s.str i).bsk .resident
  refine ⟨_, State.cmdResume_of_good hst hdesc hhere, State.settleOn_dev _ _ _ _, fun j => ?_⟩
  rw [hstr, State.setStr_str, State.setStr_str, if_pos rfl]
  split_ifs <;> rfl

end

/-! ## The commands of GCTL_STRM_CMD -/

/-- What a stream command given by GCTL_STRM_CMD leaves: RESULT 0 for stream i, which alone has changed. -/
def State.Told (s t : State) (i : Nat) : Prop :=
  t.dev.stResult = 0 ∧ t.dev.stStream = i ∧ t.dev.stBusy = false ∧ ∀ j, j ≠ i → t.str j = s.str j

/-- State t is x with the command for stream i answered 0 in the register. -/
def State.TellsOf (s x t : State) (i : Nat) : Prop :=
  s.Told t i ∧ t.str i = x.str i ∧ (∀ h, t.bsk h = x.bsk h) ∧ t.waiting = x.waiting

section
variable {s x : State} {i : Nat}

/-- A stream command that nothing refuses is answered at once. -/
theorem State.strmReg_tells {cmd : Nat} (hbusy : s.dev.stBusy = false) (hdo : s.strmDo cmd 0 i = (x, some 0))
    (hfree : x.dev.stBusy = false) (hothers : ∀ j, j ≠ i → x.str j = s.str j) : s.TellsOf x (s.strmReg cmd 0 i) i := by
  have hreg : s.strmReg cmd 0 i = { x with dev := { x.dev with stResult := 0, stStream := i } } := by
    unfold State.strmReg
    rw [hbusy, hdo]
    rfl
  rw [hreg]
  exact ⟨⟨rfl, rfl, hfree, hothers⟩, rfl, fun _ => rfl, rfl⟩

variable (hi : i < 131072) (hrsv : s.stateRsv i = false)
include hi hrsv

/-- Which operation each command of the register is, where its operands are legal. -/
theorem State.strmDo_of_good :
    s.strmDo 1 0 i = ((s.cmdStart i).1, some (s.cmdStart i).2) ∧
    s.strmDo 2 0 i = ((s.cmdResume i).1, some (s.cmdResume i).2) ∧
    s.strmDo 3 0 i = ((s.cmdAbort i).1, some (s.cmdAbort i).2) ∧
    s.strmDo 5 0 i = ((s.cmdReset i).1, some (s.cmdReset i).2) := by
  have hin : ¬ 131072 ≤ i := by omega
  simp [State.strmDo, hrsv, hin]

variable (hbusy : s.dev.stBusy = false) (hfree : x.dev.stBusy = false) (hothers : ∀ j, j ≠ i → x.str j = s.str j)
include hbusy hfree hothers

theorem exec_start (hx : s.cmdStart i = (x, 0)) : ∃ t, exec (.start i 0) s = .next t ∧ s.TellsOf x t i := by
  have hdo := (State.strmDo_of_good hi hrsv).1
  rw [hx] at hdo
  exact ⟨_, if_pos (by simp [hi]), State.strmReg_tells hbusy hdo hfree hothers⟩

theorem exec_streamResume (hx : s.cmdResume i = (x, 0)) : ∃ t, exec (.streamResume i 0) s = .next t ∧ s.TellsOf x t i := by
  have hdo := (State.strmDo_of_good hi hrsv).2.1
  rw [hx] at hdo
  exact ⟨_, if_pos (by simp [hi]), State.strmReg_tells hbusy hdo hfree hothers⟩

theorem exec_abort (hx : s.cmdAbort i = (x, 0)) : ∃ t, exec (.abort i 0) s = .next t ∧ s.TellsOf x t i := by
  have hdo := (State.strmDo_of_good hi hrsv).2.2.1
  rw [hx] at hdo
  exact ⟨_, if_pos (by simp [hi]), State.strmReg_tells hbusy hdo hfree hothers⟩

theorem exec_streamReset (hx : s.cmdReset i = (x, 0)) : ∃ t, exec (.streamReset i 0) s = .next t ∧ s.TellsOf x t i := by
  have hdo := (State.strmDo_of_good hi hrsv).2.2.2
  rw [hx] at hdo
  exact ⟨_, if_pos (by simp [hi]), State.strmReg_tells hbusy hdo hfree hothers⟩

end

/-! ## O23 -/

/-- Settles O23: each command is one operation of the stream, answered at once; START settles its stream on the Basket `placeAt`
names, a choice the stream read in does not change, and ABORT drops what was in flight. -/
theorem streamCommandsMoveStreams : Obligations.StreamCommandsMoveStreams := by
  intro s i g v d ptr Told hi hrsv hbusy
  refine ⟨fun hst hdesc himage => ⟨fun hplace => ?placed, fun hplace => ?waits⟩, fun hst hdesc hhere => ?resume,
    fun hst => ?abort, fun hst => ?reset⟩
  case placed =>
    obtain ⟨x, hx, hdev, hrun, hstr⟩ := State.cmdStart_placed hst hdesc himage hplace
    obtain ⟨t, ht, htold, hself, hbsk, -⟩ :=
      exec_start hi hrsv hbusy (by rw [hdev]; exact hbusy) (fun j hj => by rw [hstr, if_neg hj]) hx
    rw [hstr, if_pos rfl] at hself
    refine ⟨t, ht, htold, ?_⟩
    rw [hself, hbsk]
    exact ⟨rfl, rfl, rfl, rfl, rfl, rfl, hrun⟩
  case waits =>
    obtain ⟨x, hx, hdev, hwaiting, hstr⟩ := State.cmdStart_waits hst hdesc himage hplace
    obtain ⟨t, ht, htold, hself, -, hwait⟩ :=
      exec_start hi hrsv hbusy (by rw [hdev]; exact hbusy) (fun j hj => by rw [hstr, if_neg hj]) hx
    rw [hstr, if_pos rfl] at hself
    refine ⟨t, ht, htold, ?_⟩
    rw [hself, hwait]
    exact ⟨rfl, rfl, hwaiting⟩
  case resume =>
    obtain ⟨x, hx, hdev, hstr⟩ := State.cmdResume_here hst hdesc hhere
    obtain ⟨t, ht, htold, hself, -, -⟩ :=
      exec_streamResume hi hrsv hbusy (by rw [hdev]; exact hbusy) (fun j hj => by rw [hstr, if_neg hj]) hx
    rw [hstr, if_pos rfl] at hself
    refine ⟨t, ht, htold, ?_⟩
    rw [hself]
    exact ⟨rfl, rfl, rfl, rfl, rfl, rfl⟩
  case abort =>
    obtain ⟨hstr, hwaiting, hflight, hfree⟩ := State.abortStr_spec 0xF004 hst
    obtain ⟨t, ht, htold, hself, hbsk, hwait⟩ :=
      exec_abort hi hrsv hbusy (hfree hbusy) (fun j hj => by rw [hstr, if_neg hj]) (State.cmdAbort_of_live hst)
    rw [hstr, if_pos rfl] at hself
    refine ⟨t, ht, htold, ?_⟩
    rw [hself, hbsk, hwait]
    exact ⟨rfl, rfl, rfl, rfl, hwaiting, hflight⟩
  case reset =>
    have hstr (j : Nat) := putStr_str s i j { s.str i with st := .idle, cause := 0, bsk := 0 }
    obtain ⟨t, ht, htold, hself, -, -⟩ := exec_streamReset hi hrsv hbusy (by rw [State.putStr_dev]; exact hbusy)
      (fun j hj => by rw [hstr, if_neg hj]) (State.cmdReset_of_over hst)
    exact ⟨t, ht, htold, hself.trans ((hstr i).trans (if_pos rfl))⟩

end Sys2Proof.Machine
end

section
/-! PROOFS. The commands of the Kettle's slots and of the Kettle (08, R268, R269, R280, R281). That a start without KEEP preloads
the outer loop too, as R281 has it for the inner one, is log entry 70 (DEDUCED). -/

namespace Sys2Proof.Machine

/-! ## STOP and COMMIT -/

theorem stopSlot_of_going {v : Slot} (hst : v.st = .run ∨ v.st = .pendingEnable ∨ v.st = .hold) :
    stopSlot v = { v with st := .stopping } := by
  rcases hst with h | h | h <;> simp only [stopSlot, h]

theorem stopSlot_of_rest {v : Slot} (hst : v.st = .stopped ∨ v.st = .stopping) : stopSlot v = v := by
  rcases hst with h | h <;> simp only [stopSlot, h]

theorem commitCmd_of_going {n : Nat} {v : Slot} (hst : v.st = .run ∨ v.st = .pendingEnable ∨ v.st = .hold) :
    commitCmd n v = { v with ign := true } := by
  rcases hst with h | h | h <;> simp only [commitCmd, h]

theorem commitCmd_of_stopping {n : Nat} {v : Slot} (hst : v.st = .stopping) :
    commitCmd n v = { v with st := .pendingEnable } := by
  simp only [commitCmd, hst]

section
variable {n : Nat} {v : Slot} (hst : v.st = .stopped)
include hst

theorem commitCmd_of_bad (hbad : commitBad n v = true) : commitCmd n v = { v with ign := true } := by
  simp only [commitCmd, commitSlot, hst, hbad, if_true]

variable (hgood : commitBad n v = false)
include hgood

theorem commitCmd_of_off (hoff : v.cMode = 0) : commitCmd n v = { v with mode := 0, out := 0, outNext := none } := by
  simp only [commitCmd, commitSlot, hst, hgood, hoff, Bool.false_eq_true, if_false, if_true]

theorem commitCmd_of_keep (hon : v.cMode ≠ 0) (hkeep : bit v.c 19 = true) : commitCmd n v = { v with st := .run } := by
  simp only [commitCmd, commitSlot, hst, hgood, hon, hkeep, Bool.false_eq_true, if_false, if_true]

theorem commitCmd_of_fresh (hon : v.cMode ≠ 0) (hkeep : bit v.c 19 = false) :
    commitCmd n v = { v with
      st := .run, mode := v.cMode, inner := {}, outer := {}, ramp := v.spLatched, preload := true, preloadO := true, osat := false
      osatO := false, isat := false, isatO := false } := by
  simp only [commitCmd, commitSlot, hst, hgood, hon, hkeep, Bool.false_eq_true, if_false]

end

/-! ## Set-points and clears -/

theorem State.spWrite_of_link {s : State} {n : Nat} (w : W32) (hlink : (s.slot n).link = true) : s.spWrite n w = s :=
  if_pos hlink

theorem State.spWrite_of_own {s : State} {n : Nat} (w : W32) (hlink : (s.slot n).link = false) :
    s.spWrite n w = s.setSlot n { s.slot n with sp := w, spWrites := (s.slot n).spWrites + 1 } :=
  if_neg (by simp [hlink])

/-- Each engine of a list without repetition changes once, and no other. -/
theorem State.foldl_setEng_eng (f : Engine → Engine) (s : State) {es : List Nat} (hnd : es.Nodup) (e : Nat) :
    (es.foldl (fun s e => s.setEng e (f (s.eng e))) s).eng e = if e ∈ es then f (s.eng e) else s.eng e := by
  induction es generalizing s with
  | nil => rfl
  | cons d es ih =>
    obtain ⟨hd, hnd⟩ := List.nodup_cons.mp hnd
    rw [List.foldl_cons, ih _ hnd, State.setEng_eng]
    by_cases he : e = d
    · subst he
      simp [hd]
    · simp [he]

theorem State.ketClear_eng (s : State) {e : Nat} (he : e < 4) :
    s.ketClear.eng e = { s.eng e with peak := 0, miss := false } :=
  (s.foldl_setEng_eng (fun k => { k with peak := 0, miss := false }) List.nodup_range e).trans
    (if_pos (List.mem_range.mpr he))

/-- Changes of engines stay within the engines. -/
theorem State.foldl_setEng_eq (f : Engine → Engine) (s : State) (es : List Nat) :
    ∃ x, es.foldl (fun s e => s.setEng e (f (s.eng e))) s = { s with ket := { s.ket with engines := x } } := by
  induction es generalizing s with
  | nil => exact ⟨_, rfl⟩
  | cons e es ih =>
    obtain ⟨x, hx⟩ := ih (s.setEng e (f (s.eng e)))
    exact ⟨x, hx⟩

/-- The Kettle's clear leaves the rest of the state, and every slot. -/
theorem State.ketClear_spec (s : State) : s.ketClear = { s with ket := s.ketClear.ket } ∧ ∀ k, s.ketClear.slot k = s.slot k := by
  obtain ⟨x, hx⟩ : ∃ x, s.ketClear = { s with ket := { s.ket with engines := x } } :=
    s.foldl_setEng_eq (fun k => { k with peak := 0, miss := false }) _
  rw [hx]
  exact ⟨rfl, fun _ => rfl⟩

/-! ## The commands -/

section
variable (s : State) {n : Nat} (hn : n < 320)
include hn

theorem guard_slot (t : State) : guard (decide (n < 320)) t = .next t := if_pos (decide_eq_true hn)

theorem exec_slotStop : exec (.slotStop n) s = .next (s.setSlot n (stopSlot (s.slot n))) := guard_slot hn _

theorem exec_slotCommit : exec (.slotCommit n) s = .next (s.setSlot n (commitCmd n (s.slot n))) := guard_slot hn _

theorem exec_slotCntClr : exec (.slotCntClr n) s = .next (s.setSlot n (clrSlot (s.slot n))) := guard_slot hn _

theorem exec_spWrite (w : W32) : exec (.spWrite n w) s = .next (s.spWrite n w) := guard_slot hn _

end

/-- Settles O35: a STOP or a COMMIT is one change of its slot, told by the slot's state; the clears touch counters alone. -/
theorem kettleSlotsAreCommanded : Obligations.KettleSlotsAreCommanded := by
  unfold Obligations.KettleSlotsAreCommanded
  constructor
  case left =>
    intro s n v hn
    rw [exec_slotStop s hn, exec_slotCommit s hn]
    have hslot {x y : Slot} (h : x = y) : Host.Outcome.next (s.setSlot n x) = (Host.Outcome.next (s.setSlot n y) : Out) := by rw [h]
    exact ⟨fun hst => hslot (stopSlot_of_going hst), fun hst => hslot (stopSlot_of_rest hst),
      fun hst => hslot (commitCmd_of_stopping hst), fun hst => hslot (commitCmd_of_going hst),
      fun hst hbad => hslot (commitCmd_of_bad hst hbad), fun hst hgood hoff => hslot (commitCmd_of_off hst hgood hoff),
      fun hst hgood hon hkeep => hslot (commitCmd_of_keep hst hgood hon hkeep),
      fun hst hgood hon hkeep => hslot (commitCmd_of_fresh hst hgood hon hkeep)⟩
  case right =>
    intro s n w v hn
    rw [exec_spWrite s hn, exec_slotCntClr s hn]
    obtain ⟨hket, hslots⟩ := s.ketClear_spec
    exact ⟨fun hlink => congrArg _ (State.spWrite_of_link w hlink), fun hlink => congrArg _ (State.spWrite_of_own w hlink),
      rfl, s.ketClear, rfl, hket, fun _ he => s.ketClear_eng he, hslots⟩

end Sys2Proof.Machine
end

section
/-! PROOFS. The Kettle's frame (08, R260 to R268, R280), and injection and capture as they are commanded (08, R283, R284). A slot
that does not run and has no input is changed at cycle 0 alone: all later work of a frame stays within the slots that run and
those whose inputs are latched. That a start with a reserved TYPE leaves the generator and KET_INJ_CFG as they were is log
entry 143 (DEDUCED). -/

namespace Sys2Proof.Machine

/-! ## What a frame's work leaves -/

/-- t comes of s by work of one Kettle frame: the slots of P stand, and so do the frame's number and the time; no event is
lost. -/
structure FrameKeeps (P : Nat → Prop) (s t : State) : Prop where
  slot : ∀ k, P k → t.slot k = s.slot k
  frame : t.ket.frame = s.ket.frame
  time : t.time = s.time
  evq : s.evq ⊆ t.evq

/-- The fields that a frame's work changes beside the Kettle and the events. -/
def besideKettle : List Field := [.baskets, .pans, .cal, .trv, .msix, .mgmt]

section
variable {P : Nat → Prop} {s₀ s t : State}

theorem FrameKeeps.refl (P : Nat → Prop) (s : State) : FrameKeeps P s s := ⟨fun _ _ => rfl, rfl, rfl, fun _ h => h⟩

theorem FrameKeeps.trans (h : FrameKeeps P s₀ s) (ht : FrameKeeps P s t) : FrameKeeps P s₀ t :=
  ⟨fun k hk => (ht.slot k hk).trans (h.slot k hk), ht.frame.trans h.frame, ht.time.trans h.time, List.Subset.trans h.evq ht.evq⟩

theorem FrameKeeps.of_fr (h : FrameKeeps P s₀ s) (hfr : Fr besideKettle s t) : FrameKeeps P s₀ t := by
  have hket : t.ket = s.ket := hfr .ket (by decide)
  have htime : t.time = s.time := hfr .time (by decide)
  have hevq : t.evq = s.evq := hfr .evq (by decide)
  exact h.trans ⟨fun k _ => congrArg (fun x : Kettle => tget slotDflt x.slots k) hket, congrArg Kettle.frame hket, htime,
    hevq ▸ fun _ he => he⟩

theorem FrameKeeps.foldl {α : Type} {f : State → α → State} {l : List α} (h : FrameKeeps P s₀ s)
    (hf : ∀ s x, x ∈ l → FrameKeeps P s₀ s → FrameKeeps P s₀ (f s x)) : FrameKeeps P s₀ (l.foldl f s) := by
  induction l generalizing s with
  | nil => exact h
  | cons x l ih => exact ih (hf _ _ (by simp) h) fun s y hy => hf s y (by simp [hy])

theorem FrameKeeps.ite {c : Prop} [Decidable c] (hs : FrameKeeps P s₀ s) (ht : FrameKeeps P s₀ t) :
    FrameKeeps P s₀ (if c then s else t) := by
  split <;> assumption

/-! ## Single updates -/

theorem FrameKeeps.setPan (h : FrameKeeps P s₀ s) (p : Nat) (v : Pan) : FrameKeeps P s₀ (s.setPan p v) :=
  h.of_fr (fr_setPan (fr_refl _ s) (by simp [Within, besideKettle]) p v)

theorem FrameKeeps.setEng (h : FrameKeeps P s₀ s) (e : Nat) (v : Engine) : FrameKeeps P s₀ (s.setEng e v) :=
  h.trans ⟨fun _ _ => rfl, rfl, rfl, fun _ he => he⟩

theorem FrameKeeps.setCoil (h : FrameKeeps P s₀ s) (q : Nat) (v : Coil) : FrameKeeps P s₀ (s.setCoil q v) :=
  h.trans ⟨fun _ _ => rfl, rfl, rfl, fun _ he => he⟩

theorem FrameKeeps.raise (h : FrameKeeps P s₀ s) (code cls unit index detail : Nat) :
    FrameKeeps P s₀ (s.raise code cls unit index detail) :=
  h.trans ⟨fun _ _ => rfl, rfl, rfl, List.subset_append_left _ _⟩

theorem FrameKeeps.condition (h : FrameKeeps P s₀ s) (kind idx : Nat) (detail : Int) :
    FrameKeeps P s₀ (s.condition kind idx detail) :=
  h.of_fr (fr_condition (fr_refl _ s) (by simp [Within, besideKettle]) kind idx detail)

theorem FrameKeeps.discardSweep (h : FrameKeeps P s₀ s) (p : Nat) : FrameKeeps P s₀ (s.discardSweep p) :=
  h.of_fr (fr_discardSweep (fr_refl _ s) (by simp [Within, besideKettle]) p)

theorem FrameKeeps.toCalibrating (h : FrameKeeps P s₀ s) (p reason : Nat) (b : Option Nat) :
    FrameKeeps P s₀ (s.toCalibrating p reason b) :=
  h.of_fr (fr_toCalibrating (fr_refl _ s) (by simp [Within, besideKettle]) p reason b)

/-! ## Work on a slot outside P -/

section
variable {n : Nat} (hn : ¬ P n)
include hn

theorem FrameKeeps.setSlot (h : FrameKeeps P s₀ s) (v : Slot) : FrameKeeps P s₀ (s.setSlot n v) := by
  refine h.trans ⟨fun k hk => ?_, rfl, rfl, fun _ he => he⟩
  have hkn : k ≠ n := fun hkn => hn (hkn ▸ hk)
  rw [State.setSlot_slot, if_neg hkn]

theorem FrameKeeps.ketEvent (h : FrameKeeps P s₀ s) (key code cls detail : Nat) :
    FrameKeeps P s₀ (s.ketEvent n key code cls detail) :=
  h.ite ((h.setSlot hn _).raise _ _ _ _ _)

theorem FrameKeeps.slotStart (h : FrameKeeps P s₀ s) : FrameKeeps P s₀ (s.slotStart n) :=
  (h.setSlot hn _).ite ((h.setSlot hn _).ketEvent hn _ _ _ _)

theorem FrameKeeps.missSlot (h : FrameKeeps P s₀ s) (load : Nat) : FrameKeeps P s₀ (s.missSlot load n) :=
  (h.setSlot hn _).ketEvent hn _ _ _ _

theorem FrameKeeps.clampMark (h : FrameKeeps P s₀ s) (was now outer : Bool) :
    FrameKeeps P s₀ (s.clampMark n was now outer) :=
  (((h.setSlot hn _).setSlot hn _).ketEvent hn _ _ _ _).ite (h.setSlot hn _)

theorem FrameKeeps.outerStep (h : FrameKeeps P s₀ s) (inj : Int) : FrameKeeps P s₀ (s.outerStep n inj) :=
  (h.setSlot hn _).ite ((h.setSlot hn _).clampMark hn _ _ _)

theorem FrameKeeps.thermalLimit (h : FrameKeeps P s₀ s) (segs : Nat) : FrameKeeps P s₀ (s.thermalLimit n segs) := by
  have hlimit (v : Slot) (p : Nat) (x : Pan) (key code cls detail : Nat) :=
    ((h.setSlot hn v).setPan p x).ketEvent hn key code cls detail
  unfold State.thermalLimit
  dsimp only
  split
  · split
    · exact ((hlimit _ _ _ _ _ _ _).discardSweep _).toCalibrating _ _ _
    · exact hlimit _ _ _ _ _ _ _
  · split
    · exact (hlimit _ _ _ _ _ _ _).toCalibrating _ _ _
    · exact hlimit _ _ _ _ _ _ _
  · exact ((hlimit _ _ _ _ _ _ _).discardSweep _).setPan _ _
  · exact hlimit _ _ _ _ _ _ _

theorem FrameKeeps.heat (h : FrameKeeps P s₀ s) (u : Int) : FrameKeeps P s₀ (s.heat n u).1 := by
  have hcomp {c : Prop} [Decidable c] (v : Slot) (key code cls detail : Nat) :=
    ((h.setSlot hn v).ketEvent hn key code cls detail).ite (c := c) (h.setSlot hn v)
  exact ((hcomp _ _ _ _ _).thermalLimit hn _).ite (hcomp _ _ _ _ _)

theorem FrameKeeps.slotStep (h : FrameKeeps P s₀ s) (f : Nat) (injVal : Int) : FrameKeeps P s₀ (s.slotStep n f injVal) := by
  unfold State.slotStep
  dsimp only
  split
  · exact (((((h.outerStep hn _).ite h).setSlot hn _).clampMark hn _ _ _).heat hn _).setSlot hn _
  · exact (((h.outerStep hn _).ite h).setSlot hn _).clampMark hn _ _ _

end

theorem FrameKeeps.latchIn (h : FrameKeeps P s₀ s) (f : Nat) {x : SlotInput} (hx : ¬ P x.slot) :
    FrameKeeps P s₀ (s.latchIn f x) := by
  unfold State.latchIn
  dsimp only
  split
  · exact h
  · exact (h.setSlot hx _).ite h
  · exact ((h.setSlot hx _).setPan _ _).ite (h.setSlot hx _)
  · exact h.setSlot hx _

/-! ## The frame -/

theorem FrameKeeps.outerStart (h : FrameKeeps P s₀ s) : FrameKeeps P s₀ s.outerStart :=
  h.foldl fun _ _ _ hs => hs.ite (hs.setPan _ _)

theorem FrameKeeps.lockStep (h : FrameKeeps P s₀ s) (q : Nat) : FrameKeeps P s₀ (s.lockStep q) :=
  (h.setCoil _ _).ite ((h.setCoil _ _).condition _ _ _)

/-- Slots that finish and slots that miss the frame are among those to run. -/
theorem mem_of_mem_schedule (cost : Nat → Nat) {n : Nat} (l : List Nat) (a b : Nat) :
    (n ∈ (schedule cost l a b).1 → n ∈ l) ∧ (n ∈ (schedule cost l a b).2 → n ∈ l) := by
  induction l generalizing a b with
  | nil => exact ⟨id, id⟩
  | cons m l ih =>
    unfold schedule
    dsimp only
    split
    · obtain ⟨hdone, hmissed⟩ := ih (min a b + cost m) (max a b)
      simp only [List.mem_cons]
      exact ⟨Or.imp_right hdone, fun h => .inr (hmissed h)⟩
    · obtain ⟨hdone, hmissed⟩ := ih 240 (max a b)
      simp only [List.mem_cons]
      exact ⟨fun h => .inr (hdone h), Or.imp_right hmissed⟩

/-- An engine's frame leaves the slots of P, none of which runs. -/
theorem FrameKeeps.engineFrame (h : FrameKeeps P s₀ s) (hidle : ∀ k, P k → (s₀.slot k).st ≠ .run) (f e : Nat) :
    FrameKeeps P s₀ (s.engineFrame f e) := by
  have hruns {n : Nat} (hn : s.slotRuns n f = true) : ¬ P n := by
    intro hP
    have hrun : (s.slot n).st = .run := by
      simp only [State.slotRuns, Bool.and_eq_true, decide_eq_true_eq] at hn
      exact hn.1.1
    exact hidle n hP (h.slot n hP ▸ hrun)
  refine FrameKeeps.setEng (FrameKeeps.foldl (FrameKeeps.foldl h fun _ n hn hs => ?_) fun _ n hn hs => ?_) _ _
  · exact hs.slotStep (hruns (List.mem_filter.mp ((mem_of_mem_schedule _ _ _ _).1 hn)).2) _ _
  · exact hs.missSlot (hruns (List.mem_filter.mp ((mem_of_mem_schedule _ _ _ _).2 hn)).2) _

end

/-- The Kettle's next frame has come, VHTR latched. -/
def State.frameCome (s : State) (inp : KetInputs) : State :=
  let f := nextDue s.ket.frame s.time 1000
  { s.at (1000 * f) with ket := { s.ket with
    frame := f, vhtr := (inp.vhtr.take 4).zipIdx.foldl (fun t x => tset natDflt t x.2 x.1) s.ket.vhtr } }

/-- Cycle 0 of every slot of the frame is over. -/
def State.frameStarted (s : State) (inp : KetInputs) : State := (List.range 320).foldl State.slotStart (s.frameCome inp)

theorem State.frameCome_time (s : State) (inp : KetInputs) :
    (s.frameCome inp).time = 1000 * nextDue s.ket.frame s.time 1000 :=
  max_nextDue _ _ _ (by decide)

/-- After cycle 0 a frame leaves the slots of P, where none of them runs or has an input. -/
theorem State.frame_keeps {P : Nat → Prop} {s : State} {inp : KetInputs}
    (hidle : ∀ k, P k → ((s.frameStarted inp).slot k).st ≠ .run) (hin : ∀ x, x ∈ inp.slots → ¬ P x.slot) :
    FrameKeeps P (s.frameStarted inp) (s.frame inp) := by
  have hstart := FrameKeeps.refl P (s.frameStarted inp)
  have houter {c : Prop} [Decidable c] := hstart.outerStart.ite (c := c) hstart
  have hlatch {c : Prop} [Decidable c] (f : Nat) := (houter (c := c)).foldl fun _ x hx hs => hs.latchIn f (hin x hx)
  exact FrameKeeps.foldl (FrameKeeps.foldl (hlatch _) fun _ e _ hs => hs.engineFrame hidle _ e) fun _ q _ hs => hs.lockStep q

/-- The slots start one by one: cycle 0 of slot n finds its slot as the frame did, and no other slot's changes it after. -/
theorem State.slotStarts_around (s : State) {n : Nat} {l : List Nat} (hnd : l.Nodup) (hn : n ∈ l) :
    ∃ u, FrameKeeps (· = n) s u ∧ FrameKeeps (· = n) (u.slotStart n) (l.foldl State.slotStart s) := by
  obtain ⟨before, after, rfl⟩ := List.append_of_mem hn
  have hne {m : Nat} (hm : m ∈ before ∨ m ∈ after) : m ≠ n := by
    rintro rfl
    simp only [List.nodup_middle, List.nodup_cons, List.mem_append] at hnd
    exact hnd.1 hm
  refine ⟨before.foldl State.slotStart s, ?_, ?_⟩
  · exact (FrameKeeps.refl _ s).foldl fun _ m hm hs => hs.slotStart (hne (.inl hm))
  · rw [List.foldl_append, List.foldl_cons]
    exact (FrameKeeps.refl _ _).foldl fun _ m hm hs => hs.slotStart (hne (.inr hm))

/-! ## Cycle 0 of a slot at rest -/

/-- A slot at rest after cycle 0: its last output applied, its target latched, the writes that it supersedes counted. -/
def Slot.rested (v : Slot) : Slot :=
  { v with
    st := .stopped, out := v.outNext.getD v.out, outNext := none, spLatched := v.sp.toInt, spWrites := 0
    segs := v.segsNext.getD v.segs, segsNext := none, spLost := min 65535 (v.spLost + (v.spWrites - 1)) }

theorem cycle0_of_rest (held : Bool) {n : Nat} {v : Slot} (hst : v.st = .stopped ∨ v.st = .stopping) (hn : n % 80 ≠ 69) :
    cycle0 held n v = v.rested := by
  rcases hst with hst | hst <;> simp [cycle0, hst, hn, Slot.rested, sat16, sat]

/-- A Kettle event tells in its own slot alone; one never told before is raised. -/
theorem State.ketEvent_spec (s : State) (n key code cls detail : Nat) :
    let t := s.ketEvent n key code cls detail
    t.slot n = { s.slot n with told := (t.slot n).told } ∧
    (tget natDflt (s.slot n).told key = 0 →
      ∃ e, e ∈ t.evq ∧ e.code = code ∧ e.unit = 0x03 ∧ e.index = n ∧ e.time = s.time) := by
  unfold State.ketEvent
  dsimp only
  split_ifs with hrecent
  · exact ⟨rfl, fun hnone => absurd hnone hrecent.1⟩
  · exact ⟨by simp, fun _ => ⟨_, List.mem_append_right _ (List.mem_singleton_self _), rfl, rfl, rfl, rfl⟩⟩

theorem State.slotStart_of_rest {s : State} {n : Nat} (hst : (s.slot n).st = .stopped ∨ (s.slot n).st = .stopping)
    (hn : n % 80 ≠ 69) :
    let v := s.slot n
    let t := s.slotStart n
    t.slot n = { v.rested with told := (t.slot n).told } ∧
    (v.spWrites ≤ 1 → (t.slot n).told = v.told) ∧
    (2 ≤ v.spWrites → tget natDflt v.told 0x0605 = 0 →
      ∃ e, e ∈ t.evq ∧ e.code = 0x0605 ∧ e.unit = 0x03 ∧ e.index = n ∧ e.time = s.time) := by
  have hself : (s.setSlot n (s.slot n).rested).slot n = (s.slot n).rested := by simp
  unfold State.slotStart
  dsimp only
  rw [cycle0_of_rest _ hst hn]
  split_ifs with hfew
  · rw [hself]
    exact ⟨rfl, fun _ => rfl, fun hmany => absurd hfew (by omega)⟩
  · obtain ⟨hslot, hevent⟩ := (s.setSlot n (s.slot n).rested).ketEvent_spec n 0x0605 0x0605 0 (ketDetail n ((s.slot n).spWrites - 1))
    rw [hself] at hslot hevent
    exact ⟨hslot, fun hle => absurd hle hfew, fun _ hnone => hevent hnone⟩

/-! ## The command -/

theorem exec_kettleFrame {s : State} {inp : KetInputs} (hslots : ∀ x, x ∈ inp.slots → x.slot < 320) (hclock : s.clocked = true) :
    exec (.kettleFrame inp) s = .next (s.frame inp) := by
  have hok : inp.slots.all (fun x => decide (x.slot < 320)) = true := by simpa using hslots
  show execKettleFrame inp s = _
  unfold execKettleFrame
  rw [hok, hclock]
  rfl

theorem State.frame_time (s : State) (inp : KetInputs) :
    (s.frame inp).time = 1000 * nextDue s.ket.frame s.time 1000 ∧ (s.frame inp).ket.frame = nextDue s.ket.frame s.time 1000 := by
  have hstart : FrameKeeps (fun _ => False) (s.frameCome inp) (s.frameStarted inp) :=
    (FrameKeeps.refl _ _).foldl fun _ _ _ hs => hs.slotStart id
  have hframe : FrameKeeps (fun _ => False) (s.frameStarted inp) (s.frame inp) := State.frame_keeps (fun _ h => h.elim) fun _ _ => id
  have hwhole := hstart.trans hframe
  exact ⟨hwhole.time.trans (s.frameCome_time inp), hwhole.frame⟩

/-- What a frame makes of a slot at rest that has no input. -/
theorem State.frame_of_rest {s : State} {inp : KetInputs} {n : Nat} (hn : n < 320)
    (hst : (s.slot n).st = .stopped ∨ (s.slot n).st = .stopping) (hin : ∀ x, x ∈ inp.slots → x.slot ≠ n) (htec : n % 80 ≠ 69) :
    let v := s.slot n
    let t := s.frame inp
    t.slot n = { v.rested with told := (t.slot n).told } ∧
    (v.spWrites ≤ 1 → (t.slot n).told = v.told) ∧
    (2 ≤ v.spWrites → tget natDflt v.told 0x0605 = 0 →
      ∃ e, e ∈ t.evq ∧ e.code = 0x0605 ∧ e.unit = 0x03 ∧ e.index = n ∧ e.time = t.time) := by
  obtain ⟨u, hbefore, hafter⟩ := (s.frameCome inp).slotStarts_around List.nodup_range (List.mem_range.mpr hn)
  have hcome : u.slot n = s.slot n := hbefore.slot n rfl
  obtain ⟨hslot, hfew, hmany⟩ := u.slotStart_of_rest (hcome ▸ hst) htec
  have hframe : FrameKeeps (· = n) (s.frameStarted inp) (s.frame inp) := by
    refine State.frame_keeps ?_ hin
    rintro _ rfl
    rw [State.frameStarted, hafter.slot _ rfl, hslot]
    exact SlotState.noConfusion
  have hwhole : FrameKeeps (· = n) (u.slotStart n) (s.frame inp) := hafter.trans hframe
  have hkept := hwhole.slot n rfl
  rw [hcome] at hslot hfew hmany
  refine ⟨?_, ?_, fun hwrites hnone => ?_⟩
  · rw [hkept]
    exact hslot
  · rw [hkept]
    exact hfew
  · obtain ⟨e, he, hcode, hunit, hindex, htime⟩ := hmany hwrites hnone
    refine ⟨e, hwhole.evq he, hcode, hunit, hindex, ?_⟩
    rw [htime, hbefore.time, (s.frame_time inp).1, s.frameCome_time]

/-! ## Injection -/

theorem State.injStart_of_type {s : State} {c : W32} (htype : bits c.toNat 30 29 ≤ 1) :
    s.injStart c = s.setEng s.engNo { s.eng s.engNo with
      injCfg := c &&& 0x7FFF0000#32, injRun := true, injStarted := true, lfsr := 0x7FFF, chip := 0, phase := 0, sweepAt := 0 } :=
  if_neg (by omega)

theorem State.injStart_of_reserved {s : State} {c : W32} (htype : 1 < bits c.toNat 30 29) : s.injStart c = s :=
  if_pos htype

/-- Settles O36: a slot at rest without an input changes at cycle 0 alone; the commands of injection and capture are one change
of the engine that KET_ENG_SEL names. -/
theorem kettleFramesAndTestSignals : Obligations.KettleFramesAndTestSignals := by
  unfold Obligations.KettleFramesAndTestSignals
  constructor
  case left =>
    intro s inp n v f hslots hclock
    obtain ⟨htime, hnumber⟩ := s.frame_time inp
    refine ⟨s.frame inp, exec_kettleFrame hslots hclock, htime, hnumber, fun hn hst hin htec => ?_⟩
    obtain ⟨hslot, hfew, hmany⟩ := State.frame_of_rest hn hst hin htec
    refine ⟨hslot, fun hwrites hlost => ⟨?_, hfew hwrites⟩, hmany⟩
    have hcount : min 65535 (v.spLost + (v.spWrites - 1)) = v.spLost := by omega
    rw [hslot]
    exact hcount
  case right =>
    intro s c e k
    exact ⟨fun htype => congrArg _ (State.injStart_of_type htype), fun htype => congrArg _ (State.injStart_of_reserved htype),
      rfl, rfl⟩

end Sys2Proof.Machine
end

section
/-! PROOFS. Cold resets, VAUX and its loss (09, R303; 11, R348, R363; 13, R419 to R421; 14, R429, R434): what each part of a
cold reset does, and what the black box ends with. A memory that lists nothing is log entry 13, what the registers rest at log
entry 10 (both DESIGN CHOICES). -/

namespace Sys2Proof.Machine

/-- What one entry of a list establishes, and every entry keeps, holds after the list. -/
theorem foldl_establishes {α σ : Type} {P : σ → Prop} {f : σ → α → σ} {l : List α} {x : α} (hx : x ∈ l)
    (hset : ∀ s, P (f s x)) (hkeep : ∀ s y, P s → P (f s y)) (s : σ) : P (l.foldl f s) := by
  obtain ⟨before, after, rfl⟩ := List.append_of_mem hx
  rw [List.foldl_append, List.foldl_cons]
  exact List.foldlRecOn after f (hset _) fun u hu y _ => hkeep u y hu

/-! ## The parts of a cold reset -/

/-- The core without its main rails, before fuses and records are read again. -/
def State.coldBare (s : State) (c : ColdCause) (ok : Bool) : State :=
  let u := s.bare { s.trv with subs := [], resetKind := s.coldKind c } (match c with
    | .vaux => s.dzf.inc
    | .mainRails => s.dzf.inc + 1)
  { u with
    dzf := { u.dzf with quietTil := 2000000 }
    dev := { u.dev with
      st := if s.trv.recovery && ok then 5 else 0, cause := if ok then 0 else 3, thermTrip := s.dev.thermTrip } }

/-- The Pans of a list take the repair images of their fuse words. -/
def State.fusePans (s : State) (ps : List Nat) : State := ps.foldl (fun s p => s.setPan p (s.fusedPan p)) s

/-- Every Basket's generator takes its seed from the unique ID. -/
def State.seeded (s : State) : State :=
  let uid0 := BitVec.ofNat 32 s.uid
  (List.range 16).foldl (fun s h => s.setBsk h { s.bsk h with lfsr := lfsrSeed uid0 h }) s

/-- The records of a list act in their order. -/
def State.fromRecords (s : State) (rs : List BbrRec) : State := rs.foldl State.fromRecord s

/-- The slots of every Basket are laid. -/
def State.allLaid (s : State) : State := (List.range 16).foldl State.layPans s

/-- The core when its fuses have been read. -/
def State.coldFused (s : State) (c : ColdCause) (ok : Bool) : State := ((s.coldBare c ok).fusePans (List.range 272)).seeded

/-- The core as a cold reset leaves it, its BOOT record not yet queued. -/
def State.coldCore (s : State) (c : ColdCause) (ok : Bool) : State :=
  ((s.coldFused c ok).fromRecords (liveSticky s.trv.known)).allLaid

/-! ## Sparing from the fuses -/

theorem State.fusePans_pan (s : State) (ps : List Nat) (p : Nat) :
    (s.fusePans ps).pan p = if p ∈ ps then s.fusedPan p else s.pan p := by
  induction ps generalizing s with
  | nil => rfl
  | cons q ps ih =>
    have hfused : (s.setPan q (s.fusedPan q)).fusedPan p = s.fusedPan p := rfl
    refine (ih (s.setPan q (s.fusedPan q))).trans ?_
    rw [hfused, State.setPan_pan]
    by_cases hp : p = q
    · subst hp; simp
    · simp [hp]

theorem State.fusePans_fr (s : State) (ps : List Nat) : Fr [.pans] s (s.fusePans ps) :=
  fr_foldl _ s _ ps s (fr_refl _ s) fun _ _ hs => fr_setPan hs (by simp [Within]) _ _

theorem State.seeded_fr (s : State) : Fr [.baskets] s s.seeded :=
  fr_foldl _ s _ _ s (fr_refl _ s) fun _ _ hs => fr_setBsk hs (by simp [Within]) _ _

/-! ## The records -/

theorem State.fromRecords_fr (s : State) (rs : List BbrRec) : Fr [.baskets, .pans, .dzf, .evq] s (s.fromRecords rs) :=
  fr_foldl _ s _ rs s (fr_refl _ s) fun _ _ hs => fr_fromRecord hs (by simp [Within]) _

/-- No record changes the incarnation. -/
theorem State.fromRecord_inc (s : State) (r : BbrRec) : (s.fromRecord r).dzf.inc = s.dzf.inc := by
  unfold State.fromRecord
  split <;> rfl

theorem State.fromRecords_inc (s : State) (rs : List BbrRec) : (s.fromRecords rs).dzf.inc = s.dzf.inc :=
  List.foldlRecOn rs State.fromRecord (motive := fun t : State => t.dzf.inc = s.dzf.inc) rfl
    fun t ht r _ => (t.fromRecord_inc r).trans ht

/-- Only a field repair of a Pan changes its spare rows. -/
theorem State.fromRecord_rowSpare (s : State) {r : BbrRec} {p : Nat} (hr : ∀ a b d, r.kind ≠ .fieldRepair p a b d) :
    ((s.fromRecord r).pan p).rowSpare = (s.pan p).rowSpare := by
  unfold State.fromRecord
  split
  · next q a b d hk =>
    have hpq : p ≠ q := fun h => hr a b d (h ▸ hk)
    rw [State.setPan_pan, if_neg hpq]
  · rw [State.setPan_pan]
    split_ifs with hpq
    · rw [hpq]
    · rfl
  · rfl
  · rfl
  · rfl

theorem State.fromRecords_rowSpare (s : State) {rs : List BbrRec} {p : Nat}
    (hrs : ∀ r, r ∈ rs → ∀ a b d, r.kind ≠ .fieldRepair p a b d) :
    ((s.fromRecords rs).pan p).rowSpare = (s.pan p).rowSpare :=
  List.foldlRecOn rs State.fromRecord (motive := fun t : State => (t.pan p).rowSpare = (s.pan p).rowSpare) rfl
    fun t ht r hr => (t.fromRecord_rowSpare (hrs r hr)).trans ht

/-- The Pan is out of service for good, without a slot. -/
def Pan.Retired (v : Pan) : Prop := v.mode = .retired ∧ v.slot = none

/-- What is retired in s is retired in t. -/
structure KeepsRetired (s t : State) : Prop where
  pan : ∀ p, (s.pan p).Retired → (t.pan p).Retired
  bsk : ∀ h, (s.bsk h).st = .retired → (t.bsk h).st = .retired
  port : ∀ n, (s.port n).st = .retired → (t.port n).st = .retired

/-- What a record retired no other brings back. -/
theorem State.fromRecord_keepsRetired (s : State) (r : BbrRec) : KeepsRetired s (s.fromRecord r) := by
  unfold State.fromRecord
  split
  · refine ⟨fun p hp => ?_, fun _ => id, fun _ => id⟩
    rw [State.setPan_pan]
    split_ifs with heq
    · exact heq ▸ hp
    · exact hp
  · refine ⟨fun p hp => ?_, fun _ => id, fun _ => id⟩
    rw [State.setPan_pan]
    split_ifs
    · exact ⟨rfl, rfl⟩
    · exact hp
  · refine ⟨fun _ => id, fun h hh => ?_, fun _ => id⟩
    rw [State.setBsk_bsk]
    split_ifs
    · rfl
    · exact hh
  · refine ⟨fun _ => id, fun _ => id, fun n hn => ?_⟩
    simp only [State.raise_keeps, State.setPort_port]
    split_ifs
    · rfl
    · exact hn
  · exact ⟨fun _ => id, fun _ => id, fun _ => id⟩

section
variable {rs : List BbrRec} {r : BbrRec} (hr : r ∈ rs) (s : State)
include hr

theorem State.fromRecords_panRetire {p k : Nat} (hk : r.kind = .panRetire p k) : ((s.fromRecords rs).pan p).Retired := by
  refine foldl_establishes (P := fun t : State => (t.pan p).Retired) hr (fun u => ?_)
    (fun u y => (u.fromRecord_keepsRetired y).pan p) s
  simp [State.fromRecord, hk, Pan.Retired]

theorem State.fromRecords_basketRetire {h k : Nat} (hk : r.kind = .basketRetire h k) :
    ((s.fromRecords rs).bsk h).st = .retired := by
  refine foldl_establishes (P := fun t : State => (t.bsk h).st = .retired) hr (fun u => ?_)
    (fun u y => (u.fromRecord_keepsRetired y).bsk h) s
  simp [State.fromRecord, hk]

theorem State.fromRecords_portRetire {n k : Nat} (hk : r.kind = .portRetire n k) : ((s.fromRecords rs).port n).st = .retired := by
  refine foldl_establishes (P := fun t : State => (t.port n).st = .retired) hr (fun u => ?_)
    (fun u y => (u.fromRecord_keepsRetired y).port n) s
  simp [State.fromRecord, hk]

end

/-! ## The slots laid -/

theorem State.allLaid_fr (s : State) : Fr [.pans] s s.allLaid :=
  fr_foldl _ s _ _ s (fr_refl _ s) fun _ _ hs => fr_layPans hs (by simp [Within]) _

/-- What laying slots leaves of a Pan: its spare rows, and its retirement. -/
structure KeptByLaying (v w : Pan) : Prop where
  rowSpare : w.rowSpare = v.rowSpare
  retired : v.Retired → w.Retired

theorem State.layPans_keeps (s : State) (h p : Nat) : KeptByLaying (s.pan p) ((s.layPans h).pan p) := by
  unfold State.layPans
  refine List.foldlRecOn _ _ (motive := fun t : State => KeptByLaying (s.pan p) (t.pan p)) ⟨rfl, id⟩ ?_
  rintro t ⟨hrow, hret⟩ ⟨q, k⟩ hq
  rw [State.setPan_pan]
  by_cases hpq : p = q
  · subst hpq
    have huse := (List.mem_filter.mp (List.fst_mem_of_mem_zipIdx hq)).2
    simp only [Bool.and_eq_true, decide_eq_true_eq] at huse
    rw [if_pos rfl]
    exact ⟨hrow, fun hp => absurd hp.1 huse.1⟩
  · rw [if_neg hpq]
    exact ⟨hrow, hret⟩

theorem State.allLaid_keeps (s : State) (p : Nat) : KeptByLaying (s.pan p) (s.allLaid.pan p) :=
  List.foldlRecOn _ State.layPans (motive := fun t : State => KeptByLaying (s.pan p) (t.pan p)) ⟨rfl, id⟩ fun t ht h _ =>
    have hlay := t.layPans_keeps h p
    ⟨hlay.rowSpare.trans ht.rowSpare, fun hp => hlay.retired (ht.retired hp)⟩

/-! ## The whole reset -/

section
variable (s : State) (c : ColdCause) (ok : Bool)

theorem State.coldFused_fr : Fr [.baskets, .pans] (s.coldBare c ok) (s.coldFused c ok) :=
  Fr.trans ((State.fusePans_fr _ _).mono (by simp [Within])) ((State.seeded_fr _).mono (by simp [Within]))

theorem State.coldCore_fr : Fr [.baskets, .pans, .dzf, .evq] (s.coldBare c ok) (s.coldCore c ok) :=
  Fr.trans ((s.coldFused_fr c ok).mono (by simp [Within]))
    (Fr.trans (State.fromRecords_fr _ _) ((State.allLaid_fr _).mono (by simp [Within])))

/-- The incarnation stands from the first. -/
theorem State.coldCore_inc : (s.coldCore c ok).dzf.inc = (s.coldBare c ok).dzf.inc := by
  have hlaid : (s.coldCore c ok).dzf = ((s.coldFused c ok).fromRecords (liveSticky s.trv.known)).dzf :=
    State.allLaid_fr _ .dzf (by decide)
  have hfused : (s.coldFused c ok).dzf = (s.coldBare c ok).dzf := s.coldFused_fr c ok .dzf (by decide)
  rw [hlaid, State.fromRecords_inc, hfused]

/-- A Pan that no live record repairs takes its spare rows from its fuse word. -/
theorem State.coldCore_rowSpare {p : Nat} (hp : p < 272)
    (hrs : ∀ r, r ∈ liveSticky s.trv.known → ∀ a b d, r.kind ≠ .fieldRepair p a b d) :
    ((s.coldCore c ok).pan p).rowSpare = BitVec.ofNat 32 (s.fuseData (0x10 + p)) := by
  have hfused : (s.coldFused c ok).pan p = (s.coldBare c ok).fusedPan p := by
    unfold State.coldFused
    rw [(State.seeded_fr _).pan_eq (by decide), State.fusePans_pan, if_pos (List.mem_range.mpr hp)]
  unfold State.coldCore
  rw [(State.allLaid_keeps _ p).rowSpare, State.fromRecords_rowSpare _ hrs]
  exact congrArg Pan.rowSpare hfused

section
variable {r : BbrRec} (hr : r ∈ liveSticky s.trv.known)
include hr

theorem State.coldCore_panRetire {p k : Nat} (hk : r.kind = .panRetire p k) : ((s.coldCore c ok).pan p).Retired :=
  (State.allLaid_keeps _ p).retired (State.fromRecords_panRetire hr _ hk)

theorem State.coldCore_basketRetire {h k : Nat} (hk : r.kind = .basketRetire h k) : ((s.coldCore c ok).bsk h).st = .retired := by
  unfold State.coldCore
  rw [(State.allLaid_fr _).bsk_eq (by decide)]
  exact State.fromRecords_basketRetire hr _ hk

theorem State.coldCore_portRetire {n k : Nat} (hk : r.kind = .portRetire n k) : ((s.coldCore c ok).port n).st = .retired := by
  have hlaid : (s.coldCore c ok).dzf = ((s.coldFused c ok).fromRecords (liveSticky s.trv.known)).dzf :=
    State.allLaid_fr _ .dzf (by decide)
  unfold State.port
  rw [hlaid]
  exact State.fromRecords_portRetire hr _ hk

end

end

section
variable {s : State} (c : ColdCause) (ok : Bool)

/-- With power, and no rail-order fault that holds the dies in reset, the core is anew and a BOOT record queued. -/
theorem exec_coldReset_of_powered (hvaux : s.dev.vaux = true) (hcause : s.dev.cause ≠ 3) :
    exec (.coldReset c ok) s = .next ((s.coldCore c ok).bootRec (s.coldKind c)) := by
  have htrv : (s.coldFused c ok).trv = (s.coldBare c ok).trv := s.coldFused_fr c ok .trv (by decide)
  have hknown : (s.coldFused c ok).trv.known = s.trv.known := by
    rw [htrv]
    rfl
  have hreset : s.coldReset c ok = (s.coldCore c ok).bootRec (s.coldKind c) := by
    unfold State.coldCore
    rw [← hknown]
    exact if_neg (by simp [hvaux, hcause])
  exact congrArg Host.Outcome.next hreset

/-- Without power, or held by a rail-order fault, nothing happens. -/
theorem exec_coldReset_of_held (hheld : s.dev.vaux = false ∨ s.dev.cause = 3) : exec (.coldReset c ok) s = .next s := by
  have hreset : s.coldReset c ok = s := if_pos (by simpa using hheld)
  exact congrArg Host.Outcome.next hreset

end

/-! ## VAUX comes -/

/-- Trivet awake on the fuses it read, before it has told of the words that were not valid. -/
def State.awake (s : State) (bad : List (Nat × Bool)) : State :=
  let u := s.bare { s.trv.dark with badFuse := bad.map (·.1) } (s.trv.lastInc + 1)
  { u with dev := { u.dev with vaux := true } }

/-- The event of a fuse word that is not valid. -/
def State.tellFuse (s : State) (e : Nat × Bool) : State := s.raise 0x0A04 0 0x07 0 (shl (b2n e.2) 28 + e.1)

section
variable {bad : List (Nat × Bool)}

theorem exec_vauxApply {s : State} (hvaux : s.dev.vaux = false) (hbad : ∀ e, e ∈ bad → e.1 < 512) :
    exec (.vauxApply bad) s = .next (bad.foldl State.tellFuse (s.awake bad)) := by
  have hok : bad.all (fun e => decide (e.1 < 512)) = true := by simpa using hbad
  show execVauxApply bad s = _
  unfold execVauxApply
  rw [hok, hvaux]
  rfl

theorem foldl_tellFuse_fr (u : State) : Fr [.evq] u (bad.foldl State.tellFuse u) :=
  fr_foldl _ u _ bad u (fr_refl _ u) fun _ _ hs => fr_raise hs (by simp [Within]) _ _ _ _ _

/-- The event of e is among those raised. -/
def State.ToldFuse (s : State) (e : Nat × Bool) : Prop :=
  ∃ x, x ∈ s.evq ∧ x.code = 0x0A04 ∧ x.cls = 0 ∧ x.unit = 0x07 ∧ x.detail = shl (b2n e.2) 28 + e.1

/-- Each word that was not valid is told. -/
theorem foldl_tellFuse_tells (u : State) {e : Nat × Bool} (he : e ∈ bad) : (bad.foldl State.tellFuse u).ToldFuse e :=
  foldl_establishes (P := fun t : State => t.ToldFuse e) he
    (fun _ => ⟨_, List.mem_append_right _ (List.mem_singleton_self _), rfl, rfl, rfl, rfl⟩)
    (fun _ _ ⟨x, hx, hfields⟩ => ⟨x, List.mem_append_left _ hx, hfields⟩) u

end

/-! ## The record that a commit writes -/

section
variable (t : Trivet) (time now : Nat) (carried : Bool) (k : BbrKind)

theorem Trivet.putRec_length : (t.putRec time carried k).bbr.length = t.bbr.length := by
  unfold Trivet.putRec
  dsimp only
  cases hlast : t.bbr.getLast? with
  | none => simp [List.getLast?_eq_none_iff.mp hlast]
  | some x =>
    have hpos : 0 < t.bbr.length := List.length_pos_iff.mpr fun h => by simp [h] at hlast
    simp only [List.length_append, List.length_dropLast, List.length_singleton]
    omega

/-- A record put at the head sector is the last of all. -/
theorem Trivet.putRec_last (hne : t.bbr ≠ []) : (t.putRec time carried k).records.getLast? =
    some { seq := t.bbrSeq + 1, time := time, carried := carried, kind := k } := by
  simp [Trivet.putRec, Trivet.records, List.getLast?_eq_some_getLast hne]

theorem Trivet.openSector_length : (t.openSector now).bbr.length = t.bbr.length + 1 := by
  unfold Trivet.openSector
  dsimp only
  rw [Trivet.putRec_length, List.length_append, List.length_singleton]

/-- What is reclaimed is the oldest of 255 sectors. -/
theorem Trivet.reclaim_ne_nil (hne : t.bbr ≠ []) : t.reclaim.bbr ≠ [] := by
  unfold Trivet.reclaim
  split
  · next old rest hbbr =>
    split
    · exact hne
    · next hmany =>
      have hcarried (l : List BbrRec) : (l.foldl (fun t r => t.putRec r.time true r.kind) t).bbr.length = t.bbr.length :=
        List.foldlRecOn l _ (motive := fun u : Trivet => u.bbr.length = t.bbr.length) rfl
          fun u hu r _ => (u.putRec_length _ _ _).trans hu
      refine List.length_pos_iff.mp ?_
      dsimp only
      rw [List.length_drop, hcarried]
      omega
  · exact hne

theorem Trivet.commit_last : ∃ r, (t.commit now time k).records.getLast? = some r ∧ r.time = time ∧ r.kind = k := by
  unfold Trivet.commit
  extract_lets full u
  have hu : u.bbr ≠ [] := by
    unfold u
    split
    · refine Trivet.reclaim_ne_nil _ (List.length_pos_iff.mp ?_)
      rw [Trivet.openSector_length]
      omega
    · next hroom =>
      intro hnil
      simp [full, hnil] at hroom
  exact ⟨_, u.putRec_last time false k hu, rfl, rfl⟩

end

/-! ## VAUX fails -/

/-- The part without power, after Trivet t. -/
def State.unpowered (s : State) (t : Trivet) : State :=
  let u := s.bare t.dark s.dzf.inc
  { u with dev := { u.dev with vaux := false } }

theorem exec_vauxPowerFail {s : State} (hvaux : s.dev.vaux = true) :
    exec .vauxPowerFail s = .next (s.unpowered (s.trv.commit s.time s.time
      (.powerLoss s.trv.bbrQ.length (s.trv.queuedSeqs.headD 0) (s.trv.queuedSeqs.getLastD 0)))) := by
  show execVauxPowerFail s = _
  unfold execVauxPowerFail
  rw [hvaux]
  rfl

/-- Settles O55: a cold reset is `State.coldCore` with a BOOT record queued, part by part; the black box ends with the record of
the power loss. -/
theorem coldResetStartsAnew : Obligations.ColdResetStartsAnew := by
  unfold Obligations.ColdResetStartsAnew
  intro s c ok bad rs
  refine ⟨fun hvaux hcause => ?reset, fun hheld => exec_coldReset_of_held c ok hheld, fun hvaux hbad => ?apply,
    fun hvaux => ?fail⟩
  case reset =>
    have hexec := exec_coldReset_of_powered c ok hvaux hcause
    have hfr := s.coldCore_fr c ok
    have hinc := s.coldCore_inc c ok
    have hrow p := s.coldCore_rowSpare (p := p) c ok
    have hpan r p k hr := s.coldCore_panRetire (r := r) c ok hr (p := p) (k := k)
    have hbsk r h k hr := s.coldCore_basketRetire (r := r) c ok hr (h := h) (k := k)
    have hport r n k hr := s.coldCore_portRetire (r := r) c ok hr (n := n) (k := k)
    generalize s.coldCore c ok = u at hexec hfr hinc hrow hpan hbsk hport
    have hdev : u.dev = (s.coldBare c ok).dev := hfr .dev (by decide)
    refine ⟨u.bootRec (s.coldKind c), hexec, hfr .time (by decide), hfr .mem (by decide), hfr .streams (by decide),
      hfr .pots (by decide), hfr .tokens (by decide), hfr .globals (by decide), hfr .hq (by decide), hfr .ket (by decide),
      hfr .cal (by decide), hfr .feu (by decide), hfr .pending (by decide), congrArg Dev.cause hdev,
      (congrArg Dev.st hdev).trans ?_, hinc.trans ?_, hrow, hpan, hbsk, hport⟩
    · simp [State.coldBare]
    · cases c <;> rfl
  case apply =>
    have hfr := foldl_tellFuse_fr (bad := bad) (s.awake bad)
    have hdev : _ = (s.awake bad).dev := hfr .dev (by decide)
    have htrv : _ = (s.awake bad).trv := hfr .trv (by decide)
    have hdzf : _ = (s.awake bad).dzf := hfr .dzf (by decide)
    exact ⟨_, exec_vauxApply hvaux hbad, congrArg Dev.vaux hdev, congrArg Trivet.badFuse htrv, congrArg Trivet.ready htrv,
      congrArg Dzf.inc hdzf, fun e he => foldl_tellFuse_tells _ he⟩
  case fail =>
    exact ⟨_, exec_vauxPowerFail hvaux, rfl, rfl, rfl, Trivet.commit_last _ _ _ _⟩

end Sys2Proof.Machine
end

section
/-! PROOFS. A sweep's turn and its handover (09, R287 to R289, R291, R292, Table 09-3). That the banks of the Pan under sweep hold
nothing once its measurements begin is log entry 75 (DEDUCED). -/

namespace Sys2Proof.Machine

/-! ## The turn -/

/-- Margins are not slots. -/
theorem State.remargin_slot (s : State) (h q : Nat) : ((s.remargin h).pan q).slot = (s.pan q).slot := by
  unfold State.remargin
  refine List.foldlRecOn _ _ (motive := fun t : State => (t.pan q).slot = (s.pan q).slot) rfl fun t ht p _ => ?_
  dsimp only
  split
  · rw [State.setPan_pan]
    split_ifs with hq
    · subst hq
      exact ht
    · exact ht
  · exact ht

/-- What taking the settings of `CAL_CFG` leaves as it was. -/
structure CfgTaken (s t : State) : Prop where
  cal : t.cal = { s.cal with act := s.cal.cfg }
  time : t.time = s.time
  slot : ∀ p, (t.pan p).slot = (s.pan p).slot

theorem State.calCfgTake_taken (s : State) : CfgTaken s s.calCfgTake := by
  unfold State.calCfgTake
  split
  · next heq => exact ⟨congrArg (fun x => { s.cal with act := x }) heq, rfl, fun _ => rfl⟩
  · generalize hu : ({ s with cal := { s.cal with act := s.cal.cfg } } : State) = u
    have hfr : Fr [.pans] u ((List.range 16).foldl State.remargin u) :=
      fr_foldl _ u _ _ u (fr_refl _ u) fun _ _ hs => fr_remargin hs (by simp [Within]) _
    have hslot p : (((List.range 16).foldl State.remargin u).pan p).slot = (u.pan p).slot :=
      List.foldlRecOn _ _ (motive := fun t : State => (t.pan p).slot = (u.pan p).slot) rfl
        fun t ht h _ => (t.remargin_slot h p).trans ht
    subst hu
    exact ⟨hfr .cal (by decide), hfr .time (by decide), hslot⟩

/-- With the rotation going on and no sweep under way, the Pan that is picked begins its sweep. -/
theorem State.turn_of_pick {s : State} {h p : Nat} {c : Option Nat} (hnone : s.cal.sweep = none)
    (hgo : bit s.cal.cfg.toNat 0 = false)
    (hnext : ((List.range 16).map (fun i => (s.cal.next + i) % 16)).find? (fun k => (s.calCfgTake.calPick k).isSome) = some h)
    (hpick : s.calCfgTake.calPick h = some (p, c)) : s.turn = s.calCfgTake.sweepStart h p c := by
  have hcal := s.calCfgTake_taken.cal
  unfold State.turn
  simp [hnone, hcal, hgo, hnext, hpick]

theorem State.sweepStart_pan (s : State) (h p : Nat) (c : Option Nat) (q : Nat) :
    (s.sweepStart h p c).pan q = if q = p then { s.pan p with early := false } else s.pan q := State.setPan_pan _ _ _ _

theorem State.sweepStart_cal (s : State) (h p : Nat) (c : Option Nat) : (s.sweepStart h p c).cal = { s.cal with
    next := (h + 1) % 16
    sweep := some { pan := p, cover := c, handed := c.isNone, startAt := s.time, calAt := s.time, measAt := none
                    timeout := max 6 (bits s.cal.act.toNat 31 24), slot := (s.pan p).slot } } := rfl

/-! ## A tile for the covering spare -/

/-- A tile's bytes come for one Pan, and no other changes. -/
theorem State.fetchTile_pan (s : State) {p q : Nat} (d : WDesc) (tile : Nat) (hq : q ≠ p) :
    (s.fetchTile p d tile).1.pan q = s.pan q := by
  have hset (v : Pan) : (s.setPan p v).pan q = s.pan q := (State.setPan_pan _ _ _ _).trans (if_neg hq)
  have hsent (u : State) (z : Dzf) (n : Nat) (us : List FUnit) :
      (((({ u with dzf := z } : State).takeTags n).2).sendUnits us).pan q = u.pan q := by
    have hfr : Fr [.dzf, .evq, .tx] u ((({ u with dzf := z } : State).takeTags n).2.sendUnits us) :=
      fr_sendUnits (fr_takeTags (fr_mk_dzf (fr_refl _ u) (by simp) z) (by simp [Within]) n) (by simp [Within]) us
    exact hfr.pan_eq (by decide) q
  unfold State.fetchTile
  dsimp only
  split_ifs
  · rfl
  · exact hset _
  · exact (hsent _ _ _ _).trans (hset _)

/-- A load that writes its bank changes its own Pan alone. -/
theorem State.loadTile_pan {s t : State} {p q tile : Nat} {toB : Bool} {d : WDesc} {who : LoadFor}
    (hload : s.loadTile p toB d tile who = (t, true)) (hq : q ≠ p) : t.pan q = s.pan q := by
  unfold State.loadTile at hload
  extract_lets x rs at hload
  split at hload
  · cases hload
  · next u bt src _ _ =>
    obtain ⟨-, hpans, -⟩ := s.scrubRegions_keeps x rs
    have hu : u.pan q = s.pan q := congrArg (tget panDflt · q) hpans
    clear_value u
    split at hload
    next u' bytes hbytes =>
    split at hload
    · cases hload
    · simp only [Prod.mk.injEq, and_true] at hload
      subst hload
      refine ((State.setPan_pan _ _ _ _).trans (if_neg hq)).trans ?_
      split_ifs at hbytes
      · split at hbytes
        · cases hbytes
        · cases hbytes
        · cases hbytes
          exact hu
      · have hfetch := u.fetchTile_pan d tile hq
        rw [hbytes] at hfetch
        exact hfetch.trans hu
      · cases hbytes
        exact hu

/-- The tile to come is on the covering spare: no other Pan has changed, nor has the sweep. -/
structure Preloaded (s u : State) (c : Nat) : Prop where
  pan : ∀ q, q ≠ c → u.pan q = s.pan q
  time : u.time = s.time
  cal : u.cal = s.cal

theorem State.preloaded_of_preload {s u : State} {p c : Nat} (h : s.preload p c = (u, true)) : Preloaded s u c := by
  have hfr : Fr [.mem, .memBad, .memCorr, .memCe, .memUe, .streams, .waiting, .baskets, .pans, .pots, .fastQ, .dzf, .hq, .dev,
      .evq, .tx] s (s.preload p c).1 := fr_preload (fr_refl _ s) (by simp [Within]) p c
  rw [h] at hfr
  refine ⟨fun q hq => ?_, hfr .time (by decide), hfr .cal (by decide)⟩
  unfold State.preload at h
  split at h
  · split at h
    · dsimp only at h
      split at h
      · cases h; rfl
      · exact State.loadTile_pan h hq
    · cases h; rfl
  · cases h; rfl

/-! ## The slot passes -/

theorem Pan.settleIdle_eq (v : Pan) : ∃ r f l, v.settleIdle = { v with rate := r, fast := f, level0 := l } := by
  unfold Pan.settleIdle
  split
  · exact ⟨_, _, _, rfl⟩
  · exact ⟨_, _, _, rfl⟩

theorem Pan.closeWins_eq (v : Pan) : ∃ k ws, v.closeWins = { v with nextReady := k, windows := ws } :=
  Pan.stamp_eq _

/-- The Pan has no slot now; what its blocks left to commit, and its level, are as they were. -/
structure LeftSlot (v w : Pan) : Prop where
  slot : w.slot = none
  ladders : w.ladders = v.ladders
  samples : w.samples = v.samples
  lowBuf : w.lowBuf = v.lowBuf
  lvlNow : w.lvlNow = v.lvlNow

/-- Pan p has passed its slot to Pan c. -/
structure SlotPassed (s t : State) (p c : Nat) : Prop where
  leaver : LeftSlot (s.pan p) (t.pan p)
  mode : (t.pan c).mode = .inService
  slot : (t.pan c).slot = (s.pan p).slot
  others : ∀ q, q ≠ p → q ≠ c → t.pan q = s.pan q

theorem SlotPassed.of_preloaded {s u t : State} {p c : Nat} (h : SlotPassed u t p c) (hpre : Preloaded s u c) (hne : p ≠ c) :
    SlotPassed s t p c := by
  have hpan : u.pan p = s.pan p := hpre.pan p hne
  exact ⟨hpan ▸ h.leaver, h.mode, hpan ▸ h.slot, fun q hp hc => (h.others q hp hc).trans (hpre.pan q hc)⟩

theorem State.passSlot_passed (s : State) {p c : Nat} (hne : p ≠ c) : SlotPassed s (s.passSlot p c true) p c := by
  unfold State.passSlot
  extract_lets v tiles w s1
  refine ⟨?_, ?_, ?_, fun q hp hc => ?_⟩
  · rw [State.setPan_pan, if_pos rfl]
    generalize hx : ({ v with slot := none, progress := 0, lastHigh := none, group := 0, ladders := _, computeQ := _ } : Pan) = x
    obtain ⟨k, ws, hclose⟩ := x.closeWins_eq
    obtain ⟨r, f, l, hidle⟩ := x.closeWins.settleIdle_eq
    rw [hidle, hclose, ← hx]
    exact ⟨rfl, rfl, rfl, rfl, rfl⟩
  · rw [State.setPan_pan, if_neg hne.symm, State.setPan_pan, if_pos rfl]
  · rw [State.setPan_pan, if_neg hne.symm, State.setPan_pan, if_pos rfl]
  · rw [State.setPan_pan, if_neg hp, State.setPan_pan, if_neg hc]

/-- A Pan whose explicit steps are not applied has none left to write. -/
theorem State.notApplied_pan (s : State) (p q : Nat) :
    ∃ cs, (s.notApplied p).pan q = if q = p then { s.pan p with writeQ := [], computeQ := cs } else s.pan q := by
  unfold State.notApplied
  extract_lets v uids u
  have hfr : Fr [.baskets] u
      (uids.foldl (fun s x => s.modRec (panBsk p) x (fun r => { r with done := true, status := 4, detail := p })) u) :=
    fr_foldl _ u _ uids u (fr_refl _ u) fun _ _ hs => fr_modRec hs (by simp [Within]) _ _ _
  exact ⟨_, (hfr.pan_eq (by decide) q).trans (State.setPan_pan _ _ _ _)⟩

/-- A Pan goes to its sweep, its slot to the covering spare. -/
theorem State.toCalibrating_pan (s : State) (p c q : Nat) :
    ∃ cs, (s.toCalibrating p 1 (some c)).pan q =
      if q = p then { (s.passSlot p c true).pan p with
        mode := .calibrating, reason := 1, margin := 0, suspectLeft := 0, forceRate := false, writeQ := [], computeQ := cs }
      else (s.passSlot p c true).pan q := by
  unfold State.toCalibrating
  rw [(State.tellSpares_fr _).pan_eq (by decide)]
  generalize hu : State.setPan _ p _ = u
  obtain ⟨cs, hpan⟩ := u.notApplied_pan p q
  refine ⟨cs, hpan.trans ?_⟩
  rw [← hu, State.setPan_pan, State.setPan_pan, if_pos rfl]
  split_ifs <;> rfl

/-! ## The measurements -/

/-- Nothing holds back the measurements: the Pan is at A = 16 and none of its blocks is left to commit. -/
def Pan.settled (v : Pan) : Bool := decide (v.lvlNow = 16 ∧ v.ladders = [] ∧ v.samples = [] ∧ v.lowBuf = none)

theorem LeftSlot.settled {v w : Pan} (h : LeftSlot v w) : w.settled = v.settled := by
  unfold Pan.settled
  rw [h.lvlNow, h.ladders, h.samples, h.lowBuf]

/-- The measurements of sweep w begin in s: the banks of its Pan hold nothing any more. -/
def State.measuring (s : State) (w : Sweep) : State :=
  { s.setPan w.pan { s.pan w.pan with a := {}, b := {}, wrUntil := 0 } with
    cal := { s.cal with sweep := some { w with measAt := some s.time } } }

/-- A sweep that has its Pan, and measures nothing yet, begins to where the Pan has settled. -/
theorem State.startMeasure_of_handed {s : State} {w : Sweep} (hsweep : s.cal.sweep = some w) (hhanded : w.handed = true)
    (hmeas : w.measAt = none) : s.startMeasure = if (s.pan w.pan).settled then s.measuring w else s := by
  have hcond : (w.handed && w.measAt.isNone && (s.pan w.pan).lvlNow = 16 && (s.pan w.pan).ladders.isEmpty &&
      (s.pan w.pan).samples.isEmpty && (s.pan w.pan).lowBuf.isNone) = (s.pan w.pan).settled := by
    rw [Bool.eq_iff_iff]
    simp [hhanded, hmeas, Pan.settled, and_assoc]
  unfold State.startMeasure
  rw [hsweep, ← hcond]
  rfl

theorem State.measuring_pan (s : State) (w : Sweep) (q : Nat) : (s.measuring w).pan q =
    if q = w.pan then { s.pan w.pan with a := {}, b := {}, wrUntil := 0 } else s.pan q := State.setPan_pan _ _ _ _

/-! ## The handover -/

/-- The handover has come: sweep w has its Pan from now on. -/
def State.sweepHanded (s : State) (w : Sweep) : State :=
  { s with cal := { s.cal with sweep := some { w with handed := true, calAt := s.time } } }

theorem State.sweepHanded_pan (s : State) (w : Sweep) (q : Nat) : (s.sweepHanded w).pan q = s.pan q := rfl

theorem State.sweepHanded_time (s : State) (w : Sweep) : (s.sweepHanded w).time = s.time := rfl

theorem State.sweepHanded_cal (s : State) (w : Sweep) :
    (s.sweepHanded w).cal = { s.cal with sweep := some { w with handed := true, calAt := s.time } } := rfl

/-- The slot passes to spare c, and the sweep has its Pan. -/
def State.handed (s : State) (w : Sweep) (c : Nat) : State := (s.toCalibrating w.pan 1 (some c)).sweepHanded w

theorem State.handed_time (s : State) (w : Sweep) (c : Nat) : (s.handed w c).time = s.time := by
  have hfr : Fr [.baskets, .pans, .trv, .msix, .mgmt] s (s.toCalibrating w.pan 1 (some c)) :=
    fr_toCalibrating (fr_refl _ s) (by simp [Within]) _ _ _
  exact (State.sweepHanded_time _ w).trans (hfr .time (by decide))

theorem State.handed_cal (s : State) (w : Sweep) (c : Nat) :
    (s.handed w c).cal = { s.cal with sweep := some { w with handed := true, calAt := s.time } } := by
  have hfr : Fr [.baskets, .pans, .trv, .msix, .mgmt] s (s.toCalibrating w.pan 1 (some c)) :=
    fr_toCalibrating (fr_refl _ s) (by simp [Within]) _ _ _
  have htime : (s.toCalibrating w.pan 1 (some c)).time = s.time := hfr .time (by decide)
  have hcal : (s.toCalibrating w.pan 1 (some c)).cal = s.cal := hfr .cal (by decide)
  rw [State.handed, State.sweepHanded_cal, htime, hcal]

theorem State.handed_pan (s : State) (w : Sweep) (c q : Nat) : ∃ cs, (s.handed w c).pan q =
    if q = w.pan then { (s.passSlot w.pan c true).pan w.pan with
      mode := .calibrating, reason := 1, margin := 0, suspectLeft := 0, forceRate := false, writeQ := [], computeQ := cs }
    else (s.passSlot w.pan c true).pan q := by
  rw [State.handed, State.sweepHanded_pan]
  exact s.toCalibrating_pan w.pan c q

/-- The Pan under sweep is out of service, with nothing to write. -/
theorem State.handed_outgoing (s : State) (w : Sweep) (c : Nat) : ((s.handed w c).pan w.pan).mode = .calibrating ∧
    ((s.handed w c).pan w.pan).reason = 1 ∧ ((s.handed w c).pan w.pan).writeQ = [] := by
  obtain ⟨_, hpan⟩ := s.handed_pan w c w.pan
  rw [hpan, if_pos rfl]
  exact ⟨rfl, rfl, rfl⟩

theorem State.handed_passed (s : State) {w : Sweep} {c : Nat} (hne : w.pan ≠ c) : SlotPassed s (s.handed w c) w.pan c := by
  obtain ⟨⟨hslot, hladders, hsamples, hlow, hlvl⟩, hmode, hcover, hothers⟩ := s.passSlot_passed hne
  obtain ⟨_, hleft⟩ := s.handed_pan w c w.pan
  obtain ⟨_, htaken⟩ := s.handed_pan w c c
  rw [if_pos rfl] at hleft
  rw [if_neg hne.symm] at htaken
  refine ⟨?_, (congrArg Pan.mode htaken).trans hmode, (congrArg Pan.slot htaken).trans hcover, fun q hp hc => ?_⟩
  · rw [hleft]
    exact ⟨hslot, hladders, hsamples, hlow, hlvl⟩
  · obtain ⟨_, hother⟩ := s.handed_pan w c q
    rw [if_neg hp] at hother
    exact hother.trans (hothers q hp hc)

/-- The spare c may take the slot of Pan p: it works at A = 16 without a thermal limit, no replay needs it, and the Pan is between
tiles with no window open. -/
structure MayHandOver (s : State) (p c : Nat) : Prop where
  inService : (s.pan p).mode = .inService
  spare : (s.pan c).mode = .spare
  cool : (s.slot (panSlot c)).therm = false
  level : (s.pan c).lvlNow = 16
  between : (s.pan p).progress = 0
  closed : (s.pan p).windows.any (fun y => !y.closed) = false
  free : s.coverBusy (panBsk p) c = false

/-- With the tile to come on the spare, the handover comes and the measurements begin where they may. -/
theorem State.handOver_of_ready {s u : State} {w : Sweep} {c : Nat} (h : MayHandOver s w.pan c)
    (hpre : s.preload w.pan c = (u, true)) : s.handOver w c = (u.handed w c).startMeasure := by
  unfold State.handOver
  rw [if_neg (by simp [h.inService, h.spare, h.cool]), if_neg (by rw [h.level, h.between, h.closed, h.free]; simp), hpre]
  rfl

theorem exec_handover {s : State} {w : Sweep} {c : Nat} (hclock : s.clocked = true) (hsweep : s.cal.sweep = some w)
    (hhanded : w.handed = false) (hcover : w.cover = some c) : exec .handover s = .next (s.handOver w c) := by
  show execHandover s = _
  unfold execHandover
  rw [hsweep]
  dsimp only
  rw [hhanded, hcover]
  exact congrArg Host.Outcome.next (if_pos hclock)

end Sys2Proof.Machine
end

section
/-! PROOFS. The ends of a sweep, requests for one, and O38 (09, R291, R294 to R297, Tables 09-4, 09-8, 09-13). The order in which
spares are given out is log entry 113 (DESIGN CHOICE), corrections back at zero with the offset they gave the Kettle log entry
126 (DEDUCED), the phase that an end tells log entry 128 (DESIGN CHOICE). -/

namespace Sys2Proof.Machine

/-! ## A Pan back among the spares -/

/-- A Pan as a SPARE, without a slot. -/
def Pan.spared (v : Pan) : Pan := { v with mode := .spare, reason := 0, slot := none }

/-- The sweep is over, and its Pan p a SPARE. -/
def State.sweepOver (s : State) (p : Nat) : State :=
  (({ s with cal := { s.cal with sweep := none } } : State).setPan p (s.pan p).spared).tellSpares (panBsk p)

theorem State.sweepOver_pan (s : State) (p q : Nat) :
    (s.sweepOver p).pan q = if q = p then (s.pan p).spared else s.pan q := by
  unfold State.sweepOver
  rw [(State.tellSpares_fr _).pan_eq (by decide)]
  exact State.setPan_pan _ _ _ _

theorem State.sweepOver_keeps (s : State) (p : Nat) :
    (s.sweepOver p).cal = { s.cal with sweep := none } ∧ (s.sweepOver p).evq = s.evq := by
  generalize hu : ({ s with cal := { s.cal with sweep := none } } : State).setPan p (s.pan p).spared = u
  have hfr : Fr [.baskets, .trv, .msix, .mgmt] u (u.tellSpares (panBsk p)) := State.tellSpares_fr u
  unfold State.sweepOver
  rw [hu]
  subst hu
  exact ⟨hfr .cal (by decide), hfr .evq (by decide)⟩

/-! ## A sweep that converged -/

theorem State.commitCal_cal (s : State) (p : Nat) (m : PanMap) (r : SweepResult) :
    (s.commitCal p m r).cal = { s.cal with sweepCnt := sat32 (s.cal.sweepCnt + 1) } := by
  have hspWrite (u : State) (n : Nat) (v : W32) : (u.spWrite n v).cal = u.cal :=
    fr_spWrite (W := [.ket]) (fr_refl _ u) (by simp [Within]) n v .cal (by decide)
  unfold State.commitCal
  rw [hspWrite]
  dsimp only
  split <;> rfl

theorem exec_sweepCommit {s : State} {w : Sweep} {r : SweepResult} {m : PanMap} (hsweep : s.cal.sweep = some w)
    (hclock : s.clocked = true) (hmeas : w.measAt.isSome = true) (hdue : s.time ≤ w.calAt + w.timeout * 1000000)
    (hmap : repairMap (s.pan w.pan).startMap r.rings r.mods = some m) :
    exec (.sweepCommit r) s = .next ((s.commitCal w.pan m r).sweepOver w.pan) := by
  have hdone : s.sweepDone w r = (s.commitCal w.pan m r).sweepOver w.pan := by
    unfold State.sweepDone
    rw [hmap]
    rfl
  show execSweepCommit r s = _
  unfold execSweepCommit
  rw [hsweep, ← hdone]
  exact congrArg Host.Outcome.next (if_pos ⟨hclock, hmeas, hdue⟩)

/-! ## A sweep that did not converge -/

/-- The moment at which a sweep's end by cause k is told: a sweep that ran out of time runs until then. -/
def State.atEnd (s : State) (w : Sweep) (k : Nat) : State := if k = 1 then s.at (w.calAt + w.timeout * 1000000) else s

theorem State.atEnd_fr (s : State) (w : Sweep) (k : Nat) : Fr [.time] s (s.atEnd w k) := by
  unfold State.atEnd
  split
  · exact fr_at (fr_refl _ s) (by simp [Within]) _
  · exact fr_refl _ s

/-- What a sweep of Pan p counts and tells that did not converge. -/
theorem State.notConverged_spec (s : State) (p k f : Nat) :
    let n := min 3 ((s.pan p).timeouts + 1)
    let t := s.notConverged p k f
    (∀ q, t.pan q = if q = p then { s.pan p with timeouts := n } else s.pan q) ∧
    t.cal = { s.cal with timeouts := sat16 (s.cal.timeouts + 1) } ∧
    ∃ e, e ∈ t.evq ∧ e.code = 0x0701 ∧ e.cls = 0 ∧ e.unit = 0x04 ∧ e.detail = shl k 24 + shl f 20 + shl n 18 + p :=
  ⟨fun _ => State.setPan_pan _ _ _ _, rfl, _, List.mem_append_right _ (List.mem_singleton_self _), rfl, rfl, rfl, rfl⟩

/-- The fields of a CAL_TIMEOUT's DETAIL (09, Table 09-4). -/
theorem calDetail_bits {k f n p : Nat} (hk : k ≤ 9) (hf : f ≤ 9) (hn : n ≤ 2) (hp : p < 272) :
    let d := shl k 24 + shl f 20 + shl n 18 + p
    bits d 31 24 = k ∧ bits d 23 20 = f ∧ bits d 17 0 = p := by
  simp only [bits, shl]
  omega

/-- Before its third failure the Pan becomes a SPARE. -/
theorem State.sweepFailed_of_few {s : State} {w : Sweep} (k f : Nat) (hfew : (s.pan w.pan).timeouts < 2)
    (hslot : w.slot.isSome = true) : s.sweepFailed w k f = ((s.atEnd w k).notConverged w.pan k f).sweepOver w.pan := by
  obtain ⟨sl, hsl⟩ := Option.isSome_iff_exists.mp hslot
  have hend : (s.atEnd w k).pan w.pan = s.pan w.pan := (s.atEnd_fr w k).pan_eq (by decide) _
  obtain ⟨hpans, -⟩ := (s.atEnd w k).notConverged_spec w.pan k f
  have htimeouts : (((s.atEnd w k).notConverged w.pan k f).pan w.pan).timeouts < 3 := by
    rw [hpans, if_pos rfl, hend]
    exact lt_of_le_of_lt (min_le_right _ _) (by omega)
  unfold State.atEnd at htimeouts ⊢
  unfold State.sweepFailed
  extract_lets s1 p h s2 s3
  rw [hsl]
  change (s2.pan p).timeouts < 3 at htimeouts
  change _ = s2.sweepOver p
  clear_value s2
  exact if_pos htimeouts

/-- What becomes of a Pan whose sweep has not converged, and how that is counted and told. -/
theorem State.sweepFailed_spec {s : State} {w : Sweep} (k f : Nat) (hfew : (s.pan w.pan).timeouts < 2)
    (hslot : w.slot.isSome = true) :
    let n := (s.pan w.pan).timeouts + 1
    let t := s.sweepFailed w k f
    (∀ q, t.pan q = if q = w.pan then ({ s.pan w.pan with timeouts := n } : Pan).spared else s.pan q) ∧
    t.cal = { s.cal with timeouts := sat16 (s.cal.timeouts + 1), sweep := none } ∧
    ∃ e, e ∈ t.evq ∧ e.code = 0x0701 ∧ e.cls = 0 ∧ e.unit = 0x04 ∧
      e.detail = shl k 24 + shl f 20 + shl n 18 + w.pan := by
  have hfr := s.atEnd_fr w k
  have hwas q : (s.atEnd w k).pan q = s.pan q := hfr.pan_eq (by decide) q
  have hcalWas : (s.atEnd w k).cal = s.cal := hfr .cal (by decide)
  have hspec := (s.atEnd w k).notConverged_spec w.pan k f
  have hcount : min 3 ((s.pan w.pan).timeouts + 1) = (s.pan w.pan).timeouts + 1 := by omega
  rw [hwas, hcalWas, hcount] at hspec
  obtain ⟨hpans, hcal, e, he, htold⟩ := hspec
  rw [State.sweepFailed_of_few k f hfew hslot]
  generalize (s.atEnd w k).notConverged w.pan k f = u at hpans hcal he
  obtain ⟨hover, hevq⟩ := u.sweepOver_keeps w.pan
  refine ⟨fun q => ?_, ?_, e, hevq ▸ he, htold⟩
  · rw [State.sweepOver_pan, hpans w.pan, if_pos rfl, hpans q, hwas]
    split_ifs <;> rfl
  · rw [hover, hcal]

theorem exec_calTimeout {s : State} {w : Sweep} {k f : Nat} (hsweep : s.cal.sweep = some w) (hclock : s.clocked = true)
    (hhanded : w.handed = true) (hk : 1 ≤ k ∧ k ≤ 9) (hf : 1 ≤ f ∧ f ≤ 9) (hmeas : w.measAt = none → k = 1) :
    exec (.calTimeout ⟨k, f⟩) s = .next (s.sweepFailed w k (if w.measAt = none then 1 else f)) := by
  have hphase : (if w.measAt.isNone then 1 else f) = if w.measAt = none then 1 else f := by simp
  show execCalTimeout ⟨k, f⟩ s = _
  unfold execCalTimeout
  rw [hsweep, ← hphase]
  exact congrArg Host.Outcome.next
    (if_pos ⟨hclock, hhanded, hk.1, hk.2, hf.1, hf.2, fun hnone => hmeas (Option.isNone_iff_eq_none.mp hnone)⟩)

/-! ## A sweep that is abandoned -/

/-- The end of sweep w is told and counted. -/
def State.toldAbandoned (s : State) (w : Sweep) : State :=
  let u := s.calTimeout w.pan 0x0F (sweepPhase w s.time) (s.pan w.pan).timeouts
  { u with cal := { u.cal with abandon := sat16 (u.cal.abandon + 1) } }

theorem State.abandonSweep_of_handed {s : State} {w : Sweep} (hsweep : s.cal.sweep = some w) (hhanded : w.handed = true)
    (hslot : w.slot.isSome = true) : s.abandonSweep = (s.toldAbandoned w).sweepOver w.pan := by
  unfold State.abandonSweep
  rw [hsweep]
  dsimp only
  rw [if_pos ⟨hhanded, hslot⟩]
  rfl

/-! ## Requests -/

theorem State.calReq_of_ignored {s : State} {p : Nat} (h : 272 ≤ p ∨ ∃ w, s.cal.sweep = some w ∧ w.pan = p) :
    s.calReq p = s := by
  unfold State.calReq
  rcases h with hp | ⟨w, hsweep, hpan⟩
  · exact if_pos (by simp [hp])
  · exact if_pos (by simp [hsweep, hpan])

theorem State.calReq_of_taken {s : State} {p : Nat} (hp : p < 272) (hother : ∀ w, s.cal.sweep = some w → w.pan ≠ p) :
    s.calReq p = s.setPan p { s.pan p with early := true } := by
  unfold State.calReq
  dsimp only
  split
  · next w hsweep => exact if_neg (by simp [hp, hother w hsweep])
  · exact if_neg (by simp [hp])

/-- Settles O38: the turn picks after the settings are taken, the handover passes the slot, each end is `State.sweepOver` after
what it counts and tells, and a request is one mark. -/
theorem sweepsRunTheirCourse : Obligations.SweepsRunTheirCourse := by
  unfold Obligations.SweepsRunTheirCourse
  refine ⟨?turn, ?handover, ?ends, ?requests⟩
  case turn =>
    intro s h p c u hclock hnone hgo hnext hpick
    obtain ⟨hcal, htime, hslot⟩ := s.calCfgTake_taken
    refine ⟨u.sweepStart h p c, ?_, (u.sweepStart_pan h p c p).trans (if_pos rfl),
      fun q hq => (u.sweepStart_pan h p c q).trans (if_neg hq), ?_⟩
    · rw [← State.turn_of_pick hnone hgo hnext hpick]
      exact congrArg Host.Outcome.next (if_pos hclock)
    · rw [State.sweepStart_cal, hcal, htime, hslot]
  case handover =>
    intro s u w c p v x now hclock hsweep hhanded hmeas hcover hne hv hx hcool hlvl hbetween hclosed hfree hpre
    have hpreloaded := State.preloaded_of_preload hpre
    have hexec : exec .handover s = .next (u.handed w c).startMeasure := by
      rw [exec_handover hclock hsweep hhanded hcover,
        State.handOver_of_ready ⟨hv, hx, hcool, hlvl, hbetween, hclosed, hfree⟩ hpre]
    have hpassed := (u.handed_passed hne).of_preloaded hpreloaded hne
    obtain ⟨hmode, hreason, hwrite⟩ := u.handed_outgoing w c
    have htime : (u.handed w c).time = s.time := (u.handed_time w c).trans hpreloaded.time
    have hcal : (u.handed w c).cal.sweep = some { w with handed := true, calAt := s.time } := by
      rw [State.handed_cal, hpreloaded.time]
    generalize u.handed w c = t at hexec hpassed hmode hreason hwrite htime hcal
    have hmeasure := State.startMeasure_of_handed hcal rfl hmeas
    have hsettled : (t.pan p).settled = now := hpassed.leaver.settled
    refine ⟨_, hexec, ?_⟩
    rw [hmeasure, hsettled]
    cases now with
    | false =>
      have hsweep' : t.cal.sweep = some { w with handed := true, calAt := s.time, measAt := none } := by rw [hcal, hmeas]
      exact ⟨hpassed.mode, hpassed.slot, hmode, hpassed.leaver.slot, hreason, hpassed.leaver.ladders, hwrite, hsweep',
        fun h => absurd h Bool.false_ne_true, hpassed.others⟩
    | true =>
      have hpan q := t.measuring_pan { w with handed := true, calAt := s.time } q
      have hself := (hpan p).trans (if_pos rfl)
      have hrest q (hq : q ≠ p) := (hpan q).trans (if_neg hq)
      have hsweep' : (t.measuring { w with handed := true, calAt := s.time }).cal.sweep =
          some { w with handed := true, calAt := s.time, measAt := some s.time } := by
        rw [← htime]
        rfl
      rw [if_pos rfl, hself, hrest c hne.symm]
      exact ⟨hpassed.mode, hpassed.slot, hmode, hpassed.leaver.slot, hreason, hpassed.leaver.ladders, hwrite, hsweep',
        fun _ => ⟨rfl, rfl⟩, fun q hq hc => (hrest q hq).trans (hpassed.others q hq hc)⟩
  case ends =>
    intro s w r p v hsweep hhanded hp
    have hother (t : State) (q : Nat) (hq : q ≠ p) : (t.sweepOver p).pan q = t.pan q := (t.sweepOver_pan p q).trans (if_neg hq)
    refine ⟨fun m hclock hmeas hdue hmap => ?commit, fun k f hclock hk1 hk9 hf1 hf9 hmeas hfew hslot => ?timeout,
      fun hslot => ?abandon⟩
    case commit =>
      obtain ⟨hcal, -⟩ := (s.commitCal p m r).sweepOver_keeps p
      have hpan : ((s.commitCal p m r).sweepOver p).pan p = (v.calibrated m r s.time).spared := by
        rw [State.sweepOver_pan, if_pos rfl, State.commitCal_pan, if_pos rfl]
      refine ⟨_, exec_sweepCommit hsweep hclock hmeas hdue hmap, ?_⟩
      rw [hcal, hpan, State.commitCal_cal]
      exact ⟨rfl, rfl, rfl, rfl, rfl, rfl, rfl, rfl, rfl, rfl, rfl, rfl, rfl,
        fun q hq => (hother _ q hq).trans ((s.commitCal_pan p q m r).trans (if_neg hq))⟩
    case timeout =>
      have hphase : (if w.measAt = none then 1 else f) ≤ 9 := by split_ifs <;> omega
      obtain ⟨hpans, hcal, e, he, hcode, hcls, hunit, hdetail⟩ :=
        s.sweepFailed_spec k (if w.measAt = none then 1 else f) hfew hslot
      obtain ⟨hcause, hphaseBits, hpanBits⟩ := calDetail_bits hk9 hphase (n := v.timeouts + 1) (by omega) hp
      refine ⟨_, exec_calTimeout hsweep hclock hhanded ⟨hk1, hk9⟩ ⟨hf1, hf9⟩ hmeas, ?_⟩
      rw [hcal, hpans p, if_pos rfl]
      refine ⟨rfl, rfl, rfl, rfl, rfl, rfl, rfl, ⟨e, he, hcode, hcls, hunit, ?_, ?_, ?_⟩,
        fun q hq => (hpans q).trans (if_neg hq)⟩
      · exact (congrArg (bits · 31 24) hdetail).trans hcause
      · exact (congrArg (bits · 23 20) hdetail).trans hphaseBits
      · exact (congrArg (bits · 17 0) hdetail).trans hpanBits
    case abandon =>
      obtain ⟨hcal, -⟩ := (s.toldAbandoned w).sweepOver_keeps p
      have hpan : ((s.toldAbandoned w).sweepOver p).pan p = v.spared := ((s.toldAbandoned w).sweepOver_pan p p).trans (if_pos rfl)
      refine ⟨_, congrArg Host.Outcome.next (State.abandonSweep_of_handed hsweep hhanded hslot), ?_⟩
      rw [hcal, hpan]
      exact ⟨rfl, rfl, rfl, hother _⟩
  case requests =>
    intro s p
    exact ⟨fun h => congrArg Host.Outcome.next (State.calReq_of_ignored h),
      fun hp hother => congrArg Host.Outcome.next (State.calReq_of_taken hp hother), rfl⟩

end Sys2Proof.Machine
end

section
/-! PROOFS. The clears of a Basket's counters and of the FEU's, and a scale class as it is written (03, Table 03-13; 04, Table
04-16; 05, Table 05-21; 10, R329, Table 10-16). -/

namespace Sys2Proof.Machine

/-! ## Changing units one after another -/

/-- Each index of a list without repetition changes once, and no other. -/
theorem tget_foldl_tmod {α : Type} [DecidableEq α] (d : Nat → α) (f : α → α) (t : Tab α) {ks : List Nat} (hnd : ks.Nodup)
    (j : Nat) : tget d (ks.foldl (fun t k => tmod d t k f) t) j = if j ∈ ks then f (tget d t j) else tget d t j := by
  induction ks generalizing t with
  | nil => rfl
  | cons k ks ih =>
    obtain ⟨hk, hnd⟩ := List.nodup_cons.mp hnd
    rw [List.foldl_cons, ih _ hnd, tget_tmod]
    by_cases hj : j = k
    · subst hj
      simp [hk]
    · simp [hj]

/-- Baskets of a list without repetition change once each, and nothing else does. -/
theorem State.foldl_setBsk_spec (f : Basket → Basket) (s : State) {hs : List Nat} (hnd : hs.Nodup) :
    ∃ x, hs.foldl (fun s h => s.setBsk h (f (s.bsk h))) s = { s with baskets := x } ∧
      ∀ k, tget bskDflt x k = if k ∈ hs then f (s.bsk k) else s.bsk k := by
  refine ⟨hs.foldl (fun t h => tmod bskDflt t h f) s.baskets, ?_, tget_foldl_tmod bskDflt f s.baskets hnd⟩
  clear hnd
  induction hs generalizing s with
  | nil => rfl
  | cons h hs ih => exact ih _

/-! ## The commands -/

theorem guard_basket {h : Nat} (hh : h < 16) (t : State) : guard (decide (h < 16)) t = .next t := if_pos (decide_eq_true hh)

/-- A class that is written waits for the COMMIT of every Basket of the part (10, R329). -/
theorem State.scaleClass_spec (s : State) (c : BitVec 2) :
    s.scaleClass c = { s with dev := { s.dev with cls := c }, baskets := (s.scaleClass c).baskets } ∧
      ∀ k, (s.scaleClass c).bsk k = if k < 16 then { s.bsk k with clsPend := true } else s.bsk k := by
  obtain ⟨x, hx, hget⟩ := State.foldl_setBsk_spec (fun b => { b with clsPend := true })
    { s with dev := { s.dev with cls := c } } (List.nodup_range (n := 16))
  rw [show s.scaleClass c = _ from hx]
  simp only [List.mem_range] at hget
  exact ⟨rfl, hget⟩

/-- The sequencer's clear takes OVF from each of the Basket's own tokens and from each global one (05, Table 05-21). -/
theorem State.seqClear_spec (s : State) (h : Nat) :
    ∃ x y, s.seqClear h =
        { s.setBsk h { s.bsk h with issueCnt := 0, stallBank := 0, stallRamp := 0, fillCnt := 0, lateCnt := 0 } with
          tokens := x, globals := y } ∧
      (∀ k, k < 32 → tget tokDflt x (h * 32 + k) = { tget tokDflt s.tokens (h * 32 + k) with ovf := false }) ∧
      ∀ k, k < 127 → tget tokDflt y k = { tget tokDflt s.globals k with ovf := false } := by
  have hnd : ((List.range 32).map (h * 32 + ·)).Nodup := List.nodup_range.map fun _ _ he => Nat.add_left_cancel he
  have hown := tget_foldl_tmod tokDflt (fun t => { t with ovf := false }) s.tokens hnd
  have hglobal := tget_foldl_tmod tokDflt (fun t => { t with ovf := false }) s.globals (List.nodup_range (n := 127))
  rw [List.foldl_map] at hown
  exact ⟨_, _, rfl, fun k hk => (hown _).trans (if_pos (List.mem_map_of_mem (List.mem_range.mpr hk))),
    fun k hk => (hglobal k).trans (if_pos (List.mem_range.mpr hk))⟩

/-- Settles O34: the class and the sequencer's clear change each Basket or token of a list once, the other clears are one update
each. -/
theorem countersClearAndClassesAreTaken : Obligations.CountersClearAndClassesAreTaken := by
  unfold Obligations.CountersClearAndClassesAreTaken
  constructor
  case left =>
    intro s h c b
    refine ⟨⟨_, rfl, s.scaleClass_spec c⟩, fun hh => ?_⟩
    obtain ⟨x, y, hclear, hown, hglobal⟩ := s.seqClear_spec h
    have hexec : exec (.seqCntClr h) s = _ := (guard_basket hh _).trans (congrArg _ hclear)
    refine ⟨guard_basket hh _, guard_basket hh _, _, hexec, rfl, ?_, fun k hk => ?_, hown, hglobal⟩
    · exact (State.setBsk_bsk _ _ _ _).trans (if_pos rfl)
    · exact (State.setBsk_bsk _ _ _ _).trans (if_neg hk)
  case right => exact fun s => ⟨rfl, rfl⟩

end Sys2Proof.Machine
end

section
/-! PROOFS. FAULT_N and the pending bits it follows (10, R338; 14, R433). -/

namespace Sys2Proof.Machine

theorem bit_eq_testBit (n k : Nat) : bit n k = n.testBit k := (Nat.testBit_eq_decide_div_mod_eq).symm

/-- Of the bits that stand, those remain that are not cleared. -/
theorem bit_and_not (x m : BitVec 5) {k : Nat} (hk : k < 5) : bit (x &&& ~~~m).toNat k = (bit x.toNat k && !bit m.toNat k) := by
  simp only [bit_eq_testBit, BitVec.testBit_toNat, BitVec.getLsbD_and, BitVec.getLsbD_not, hk, decide_true, Bool.true_and]

/-- While the clock runs FAULT_N is asserted for exactly the pending classes from FLT_CLS on (10, R338). -/
theorem State.faultN_iff {s : State} (hclk : s.dev.faultClk = false) (hc : bits s.feu.cfg.toNat 6 4 ≤ 4) :
    s.faultN = true ↔ ∃ k, k < 5 ∧ bits s.feu.cfg.toNat 6 4 ≤ k ∧ bit s.feu.pend.toNat k = true := by
  simp [State.faultN, hclk, min_eq_right hc]

/-- Settles O43: `State.faultN_iff` before the write and after it, which leaves the bits it does not clear. -/
theorem faultNFollowsThePendingBits : Obligations.FaultNFollowsThePendingBits := by
  unfold Obligations.FaultNFollowsThePendingBits
  intro s m c hclk hc
  have hleft (k : Nat) (hk : k < 5) := bit_and_not s.feu.pend m hk
  refine ⟨State.faultN_iff hclk hc, s.pendClear m, rfl, rfl, hleft, ?_⟩
  have hafter : (s.pendClear m).faultN = true ↔ _ := State.faultN_iff hclk hc
  rw [← Bool.not_eq_true, hafter]
  constructor
  · intro hnone k hk hck hset
    by_contra hkept
    exact hnone ⟨k, hk, hck, (hleft k hk).trans (by simp [hset, hkept])⟩
  · rintro hcleared ⟨k, hk, hck, hset⟩
    rw [show bit (s.pendClear m).feu.pend.toNat k = _ from hleft k hk] at hset
    simp only [Bool.and_eq_true, Bool.not_eq_true'] at hset
    obtain ⟨hwas, hkept⟩ := hset
    exact absurd (hcleared k hk hck hwas) (by simp [hkept])

end Sys2Proof.Machine
end

section
/-! PROOFS. The structural test of a Basket (10, R331 to R334): when it falls due, its deferral and drain, its entry, and what a
result makes of the Basket and of its streams. -/

namespace Sys2Proof.Machine

/-! ## Falling due -/

/-- Basket h may fall due: it is in none of the states that keep it from its test, and a pattern set stands (10, R331; 13, R414). -/
structure State.MayFallDue (s : State) (h : Nat) : Prop where
  serves : (s.bsk h).st ≠ .retired
  idle : (s.bsk h).st ≠ .test
  undeferred : (s.bsk h).testDefer = none
  patterns : s.patternsOk = true

/-- A Basket that may fall due does. -/
theorem State.MayFallDue.makeDue {s : State} {h : Nat} (hmay : s.MayFallDue h) :
    s.makeDue h = s.setBsk h { s.bsk h with testDue := true } := by
  unfold State.makeDue
  simp [hmay.serves, hmay.idle, hmay.undeferred, hmay.patterns]

/-- Another Basket that falls due changes nothing of this one. -/
theorem State.makeDue_bsk_of_ne (s : State) {h k : Nat} (hk : k ≠ h) : (s.makeDue h).bsk k = s.bsk k := by
  unfold State.makeDue
  dsimp only
  split_ifs
  · rfl
  · exact (State.setBsk_bsk _ _ _ _).trans (if_neg hk)
  · exact (State.setBsk_bsk _ _ _ _).trans (if_neg hk)

/-- That a Basket may fall due outlasts its own falling due and that of others. -/
theorem State.MayFallDue.of_makeDue {s : State} {h : Nat} (hmay : s.MayFallDue h) (k : Nat) : (s.makeDue k).MayFallDue h := by
  have hfr : Fr [.baskets] s (s.makeDue k) := fr_makeDue (fr_refl _ s) (by simp [Within]) k
  have hpatterns : (s.makeDue k).patternsOk = true := by
    rw [← hmay.patterns, State.patternsOk, show (s.makeDue k).trv = s.trv from hfr .trv (by decide)]
    rfl
  have hsame : ∃ d, (s.makeDue k).bsk h = { s.bsk h with testDue := d } := by
    by_cases hk : h = k
    · subst hk
      exact ⟨true, by rw [hmay.makeDue, State.setBsk_bsk, if_pos rfl]⟩
    · exact ⟨_, s.makeDue_bsk_of_ne hk⟩
  obtain ⟨d, hd⟩ := hsame
  exact ⟨hd ▸ hmay.serves, hd ▸ hmay.idle, hd ▸ hmay.undeferred, hpatterns⟩

/-- A Basket that a request names, and that may fall due, is due after it. -/
theorem State.MayFallDue.requested {h : Nat} {m : Nat} (hbit : bit m h = true) {ks : List Nat} :
    ∀ {s : State}, s.MayFallDue h → h ∈ ks ∨ (s.bsk h).testDue = true →
      ((ks.foldl (fun s k => if bit m k then s.makeDue k else s) s).bsk h).testDue = true := by
  induction ks with
  | nil => exact fun _ hdue => by simpa using hdue
  | cons k ks ih =>
    intro s hmay hdue
    rw [List.foldl_cons]
    by_cases hk : h = k
    · subst hk
      rw [if_pos hbit]
      exact ih (hmay.of_makeDue h) (.inr (by rw [hmay.makeDue, State.setBsk_bsk, if_pos rfl]))
    · have hleft : h ∈ ks ∨ (s.bsk h).testDue = true := by simpa [hk] using hdue
      split_ifs
      · exact ih (hmay.of_makeDue k) (by rwa [s.makeDue_bsk_of_ne hk])
      · exact ih hmay hleft

theorem State.testTurn_testDue (s : State) (h : Nat) : (s.testTurn.bsk h).testDue = (s.bsk h).testDue := by
  obtain ⟨d, hd⟩ := s.testTurn_bsk h
  rw [hd]

/-! ## The drain -/

/-- While a Basket drains for its test no other takes a turn. -/
theorem State.testTurn_of_draining {s : State} {h : Nat} (hh : h < 16) (hst : (s.bsk h).st = .draining)
    (hfor : (s.bsk h).drainFor = .test) : s.testTurn = s :=
  if_pos (List.any_eq_true.mpr ⟨h, List.mem_range.mpr hh, by simp [hst, hfor]⟩)

/-- The end of a deferral drains the Basket for its test. -/
theorem State.drainBsk_test (s : State) {h : Nat} (hh : h < 16) :
    ((s.drainBsk h .test).bsk h).st = .draining ∧ ((s.drainBsk h .test).bsk h).drainFor = .test ∧
      ((s.drainBsk h .test).bsk h).testDefer = none ∧ (s.drainBsk h .test).time = s.time := by
  have htime : (s.drainBsk h .test).time = s.time :=
    fr_drainBsk (W := [.baskets, .pans, .cal, .trv, .evq, .msix, .mgmt]) (fr_refl _ s) (by simp [Within]) h .test .time (by decide)
  have hbsk : (s.drainBsk h .test).bsk h =
      { (s.abandonIn h).bsk h with st := .draining, drainFor := .test, testDefer := none } := by
    unfold State.drainBsk
    dsimp only
    generalize s.abandonIn h = u
    rw [State.testTurn_of_draining hh (by simp) (by simp), State.setBsk_bsk, if_pos rfl]
  rw [hbsk]
  exact ⟨rfl, rfl, rfl, htime⟩

theorem exec_testDeferEnd {s : State} {h d : Nat} (hh : h < 16) (hdefer : (s.bsk h).testDefer = some d)
    (hserves : inService (s.bsk h) = true) :
    exec (.testDeferEnd h) s = .next ((if s.potsOwned h then s.at d else s).drainBsk h .test) := by
  refine (guard_basket hh _).trans ?_
  rw [hdefer]
  exact congrArg Host.Outcome.next (if_pos hserves)

/-! ## The entry -/

/-- Basket h rid of the streams that can move and of a sweep there (10, R332). -/
def State.clearedForTest (s : State) (h : Nat) : State := ((s.held h).foldl (fun s i => s.moveOff h i) s).abandonIn h

theorem State.clearedForTest_time (s : State) (h : Nat) : (s.clearedForTest h).time = s.time :=
  fr_abandonIn (W := [.mem, .memBad, .memCorr, .memCe, .memUe, .streams, .waiting, .baskets, .pans, .pots, .scales, .fastQ,
      .cal, .dzf, .hq, .trv, .dev, .evq, .msix, .mgmt])
    (fr_foldl _ s _ _ _ (fr_refl _ s) fun _ i hu => fr_moveOff hu (by simp [Within]) h i) (by simp [Within]) h .time (by decide)

/-- A Basket that has drained for its test enters it as soon as it is cleared. -/
theorem exec_testEntry {s : State} {h : Nat} (hh : h < 16) (hst : (s.bsk h).st = .draining) (hfor : (s.bsk h).drainFor = .test)
    (hempty : (s.bsk h).inflight = []) :
    exec (.testEntry h) s = .next ((s.clearedForTest h).setBsk h
      { (s.clearedForTest h).bsk h with st := .test, testFrom := (s.clearedForTest h).time }) :=
  (guard_basket hh _).trans (congrArg Host.Outcome.next (if_pos ⟨hst, hfor, by simp [hempty]⟩))

/-! ## A result that keeps the Basket -/

/-- A Basket as the end of its test leaves it, before its streams are counted (10, R334). -/
def Basket.tested (b : Basket) (now code : Nat) (row : Bool) (next : Nat) : Basket :=
  { b with
    st := if b.pendStop then .stopped else .ready, pendStop := false, testDue := false, testRes := code, testDone := now
    testRow := row, testAt := now + next * 60000000000 }

/-- A stream that the test has held at its YIELD issues again. -/
def State.leaveYield (s : State) (i : Nat) : State :=
  if (s.str i).st = .suspended ∧ (s.str i).atYield then s.putStr i { s.str i with st := .resident, atYield := false } else s

/-- The end of a test before its Basket settles. -/
def State.testEnded (s : State) (h code : Nat) (row : Bool) (next : Nat) : State :=
  let u := s.setBsk h ((s.bsk h).tested s.time code row next)
  (u.held h).foldl State.leaveYield u

theorem State.testOver_eq (s : State) (h code : Nat) (row : Bool) (next : Nat) :
    s.testOver h code row next = ((s.testEnded h code row next).settleBsk h).testTurn := rfl

theorem State.testEnded_fr (s : State) (h code : Nat) (row : Bool) (next : Nat) :
    Fr [.mem, .memBad, .memCorr, .memCe, .memUe, .streams] (s.setBsk h ((s.bsk h).tested s.time code row next))
      (s.testEnded h code row next) := by
  refine fr_foldl _ _ _ _ _ (fr_refl _ _) fun u i hu => ?_
  unfold State.leaveYield
  split_ifs
  · exact fr_putStr hu (by simp [Within]) _ _
  · exact hu

/-- A Basket whose test is over goes on with the streams it holds. -/
theorem State.testOver_spec {s : State} {h : Nat} (hstop : (s.bsk h).pendStop = false) (code : Nat) (row : Bool) (next : Nat) :
    let t := s.testOver h code row next
    (t.bsk h).st = (if t.held h = [] then .ready else .run) ∧ t.time = s.time ∧ (t.bsk h).testRes = code ∧
      (t.bsk h).testDone = s.time ∧ (t.bsk h).testDue = false ∧ (t.bsk h).testAt = s.time + next * 60000000000 := by
  intro t
  have ht : t = _ := s.testOver_eq h code row next
  have hfr := s.testEnded_fr h code row next
  generalize s.testEnded h code row next = u at ht hfr
  have hbsk : u.bsk h = (s.bsk h).tested s.time code row next := by
    rw [hfr.bsk_eq (by decide), State.setBsk_bsk, if_pos rfl]
  have hserves : inService (u.bsk h) = true := by simp [inService, hbsk, Basket.tested, hstop]
  have hsettle : u.settleBsk h = u.setBsk h { u.bsk h with st := if (u.held h).isEmpty then .ready else .run } := if_pos hserves
  have hturn : Fr [.baskets] u t := by
    rw [ht, hsettle]
    exact fr_testTurn (fr_setBsk (fr_refl _ u) (by simp [Within]) _ _) (by simp [Within])
  obtain ⟨d, hd⟩ := (u.settleBsk h).testTurn_bsk h
  rw [← ht, hsettle, State.setBsk_bsk, if_pos rfl, hbsk] at hd
  rw [hturn.held_eq (by decide), show t.time = u.time from hturn .time (by decide),
    show u.time = s.time from hfr .time (by decide), hd]
  exact ⟨by simp, rfl, rfl, rfl, rfl, rfl⟩

/-! ## A Basket that is evicted -/

/-- What an eviction does to one stream: it suspends the one that is moving there, and aborts another (07, Table 07-4, R239). -/
def State.evictOne (s : State) (i : Nat) : State :=
  if (s.str i).st = .migrating ∧ (s.str i).migSaved then s.migFail i 5 else s.abortStr i 0xF005

theorem State.evict_eq (s : State) (h : Nat) : s.evict h = (s.held h).foldl State.evictOne s := rfl

/-- An eviction aborts such a stream (07, Table 07-4). -/
def Stream.Evictable (v : Stream) : Prop :=
  v.st = .resident ∨ v.st = .suspended ∨ (v.st = .migrating ∧ v.migSaved = false)

/-- A stream that an eviction has aborted. -/
def Stream.Evicted (v : Stream) : Prop := v.st = .aborted ∧ v.cause = 0xF005

theorem State.abortStr_of_over {s : State} {i : Nat} (cause : Nat) (hst : ¬ ((s.str i).st = .pending ∨
    (s.str i).st = .resident ∨ (s.str i).st = .suspended ∨ (s.str i).st = .migrating)) : s.abortStr i cause = s := if_neg hst

/-- One stream's eviction changes no other. -/
theorem State.evictOne_str_of_ne (s : State) {i j : Nat} (hj : j ≠ i) : (s.evictOne i).str j = s.str j := by
  unfold State.evictOne
  split_ifs
  · obtain ⟨-, hreport, -⟩ := s.migReport_spec i 5
    unfold State.migFail
    rw [putStr_str, if_neg hj, hreport, if_neg hj]
  · by_cases hst : (s.str i).st = .pending ∨ (s.str i).st = .resident ∨ (s.str i).st = .suspended ∨ (s.str i).st = .migrating
    · obtain ⟨hstr, -⟩ := State.abortStr_spec (s := s) 0xF005 hst
      exact (hstr j).trans (if_neg hj)
    · rw [State.abortStr_of_over _ hst]

theorem State.evictOne_aborts {s : State} {i : Nat} (hv : (s.str i).Evictable) : ((s.evictOne i).str i).Evicted := by
  have hstays : ¬ ((s.str i).st = .migrating ∧ (s.str i).migSaved) := by
    rintro ⟨hmig, hsaved⟩
    rcases hv with hst | hst | ⟨-, hunsaved⟩
    · simp [hst] at hmig
    · simp [hst] at hmig
    · simp [hunsaved] at hsaved
  have hlive : (s.str i).st = .pending ∨ (s.str i).st = .resident ∨ (s.str i).st = .suspended ∨ (s.str i).st = .migrating :=
    .inr (hv.imp id (Or.imp id And.left))
  obtain ⟨hstr, -⟩ := State.abortStr_spec (s := s) 0xF005 hlive
  unfold State.evictOne
  rw [if_neg hstays, hstr, if_pos rfl]
  exact ⟨rfl, rfl⟩

theorem State.evictOne_of_evicted {s : State} {i : Nat} (hv : (s.str i).Evicted) : s.evictOne i = s := by
  unfold State.evictOne
  rw [if_neg (by simp [hv.1]), State.abortStr_of_over _ (by simp [hv.1])]

/-- Every stream of the list that an eviction aborts is aborted in the end. -/
theorem State.foldl_evictOne_aborts {is : List Nat} {i : Nat} : ∀ {s : State},
    (i ∈ is ∧ (s.str i).Evictable) ∨ (s.str i).Evicted → ((is.foldl State.evictOne s).str i).Evicted := by
  induction is with
  | nil => exact fun h => by simpa using h
  | cons j is ih =>
    intro s h
    refine ih ?_
    by_cases hj : i = j
    · subst hj
      rcases h with ⟨-, hv⟩ | hv
      · exact .inr (State.evictOne_aborts hv)
      · exact .inr (by rwa [State.evictOne_of_evicted hv])
    · rw [s.evictOne_str_of_ne hj]
      simpa [hj] using h

/-- A Basket that settles changes its state alone. -/
theorem State.settleBsk_bsk (s : State) (h k : Nat) : ∃ st, (s.settleBsk h).bsk k = { s.bsk k with st := st } := by
  unfold State.settleBsk
  dsimp only
  by_cases hserves : inService (s.bsk h) = true
  · rw [if_pos hserves, State.setBsk_bsk]
    by_cases hk : k = h
    · rw [if_pos hk, hk]
      exact ⟨_, rfl⟩
    · rw [if_neg hk]
      exact ⟨_, rfl⟩
  · rw [if_neg hserves]
    exact ⟨_, rfl⟩

/-- An eviction leaves the result of every Basket's test. -/
theorem State.evictOne_testRes (s : State) (i k : Nat) : ((s.evictOne i).bsk k).testRes = (s.bsk k).testRes := by
  unfold State.evictOne
  split_ifs
  · rw [(fr_migFail (W := [.mem, .memBad, .memCorr, .memCe, .memUe, .streams, .hq, .dev]) (fr_refl _ s) (by simp [Within])
      i 5).bsk_eq (by decide)]
  · by_cases hst : (s.str i).st = .pending ∨ (s.str i).st = .resident ∨ (s.str i).st = .suspended ∨ (s.str i).st = .migrating
    · obtain ⟨u, hu, habort⟩ := State.abortStr_of_live (s := s) 0xF005 hst
      have hcancel : Fr [.streams, .hq, .dev] s (s.cancelled i) := by
        unfold State.cancelled
        split_ifs
        · exact (s.migReport_spec i 2).1
        · exact fr_refl _ s
      obtain ⟨st, hsettle⟩ := u.settleBsk_bsk (s.str i).bsk k
      rw [habort, hsettle]
      dsimp only
      rw [hu.bsk_eq (by decide), putStr_bsk, State.dropStream_bsk]
      unfold State.bskWithout
      simp only [hcancel.bsk_eq (by decide)]
      split_ifs with hk
      · rw [hk]
      · rfl
    · rw [State.abortStr_of_over _ hst]

theorem State.evict_testRes (s : State) (h k : Nat) : ((s.evict h).bsk k).testRes = (s.bsk k).testRes := by
  rw [State.evict_eq]
  exact List.foldlRecOn (motive := fun u : State => (u.bsk k).testRes = (s.bsk k).testRes) _ _ rfl
    fun u hu i _ => (u.evictOne_testRes i k).trans hu

/-! ## A result that retires the Basket -/

/-- A sweep that is abandoned leaves a Basket all but what it has told of its SPAREs. -/
theorem State.abandonIn_bsk (s : State) (h k : Nat) : ∃ b, (s.abandonIn h).bsk k = { s.bsk k with spareTold := b } := by
  unfold State.abandonIn
  split
  · split_ifs
    · unfold State.abandonSweep
      split
      · exact ⟨_, rfl⟩
      next w _ =>
        obtain ⟨b, hb⟩ := State.tellSpares_bsk _ (panBsk w.pan) k
        refine ⟨b, hb.trans ?_⟩
        split_ifs <;> rfl
    · exact ⟨_, rfl⟩
  · exact ⟨_, rfl⟩

/-- A Basket as its test retires it (10, R321, R334). -/
def Basket.testRetired (b : Basket) : Basket :=
  { b with
    st := .retired, pendEn := false, pendStop := false, testDefer := none, testDue := false
    retiredByTest := b.retiredByTest || true }

/-- Basket h is retired by its test, and the black box and the FEU are told (10, R321; 13, R420). -/
def State.entersRetired (s : State) (h : Nat) : State :=
  ((s.setBsk h (s.bsk h).testRetired).bbrPut (.basketRetire h 1)).raise 0x0104 3 0x01 h (2 ^ 31 + shl h 16)

theorem State.retireBasket_by_test (s : State) (h : Nat) :
    s.retireBasket h true = (((s.abandonIn h).evict h).entersRetired h).testTurn := rfl

/-- A Basket that its test retires loses its streams, keeps its result, and its retirement is told (10, R321, R334). -/
theorem State.retireBasket_spec (s : State) (h : Nat) :
    let t := s.retireBasket h true
    (t.bsk h).st = .retired ∧ (t.bsk h).testRes = (s.bsk h).testRes ∧ (t.bsk h).retiredByTest = true ∧
      (∀ i, i ∈ s.held h → (s.str i).Evictable → (t.str i).Evicted) ∧
      ∃ e, e ∈ t.evq ∧ e.code = 0x0104 ∧ e.cls = 3 ∧ e.index = h := by
  intro t
  have habandon : Fr [.baskets, .pans, .cal, .trv, .evq, .msix, .mgmt] s (s.abandonIn h) :=
    fr_abandonIn (fr_refl _ s) (by simp [Within]) h
  obtain ⟨told, htold⟩ := s.abandonIn_bsk h h
  have hres := (s.abandonIn h).evict_testRes h h
  have hevicted i (hi : i ∈ s.held h) (hv : (s.str i).Evictable) : (((s.abandonIn h).evict h).str i).Evicted := by
    rw [← habandon.held_eq (by decide) h] at hi
    rw [← habandon.str_eq (by decide) i] at hv
    exact State.foldl_evictOne_aborts (.inl ⟨hi, hv⟩)
  rw [htold] at hres
  have ht : t = _ := s.retireBasket_by_test h
  generalize (s.abandonIn h).evict h = u at hres hevicted ht
  have hturn : Fr [.baskets] (u.entersRetired h) t := ht ▸ fr_testTurn (fr_refl _ _) (by simp [Within])
  obtain ⟨d, hd⟩ := (u.entersRetired h).testTurn_bsk h
  have hbsk : (u.entersRetired h).bsk h = (u.bsk h).testRetired :=
    (State.setBsk_bsk u h h (u.bsk h).testRetired).trans (if_pos rfl)
  rw [← ht, hbsk] at hd
  rw [hd]
  refine ⟨rfl, hres, Bool.or_true _, fun i hi hv => ?_, ?_⟩
  · rw [hturn.str_eq (by decide)]
    exact hevicted i hi hv
  · rw [show t.evq = (u.entersRetired h).evq from hturn .evq (by decide)]
    exact ⟨_, List.mem_append_right _ (List.mem_singleton_self _), rfl, rfl, rfl⟩

/-! ## The results -/

/-- The moment at which the result of Basket h's test stands (10, R333, Table 10-10). -/
def State.atResult (s : State) (h : Nat) : State := s.at ((s.bsk h).testFrom + 18000000)

/-- The Basket with a failed test entered (10, R334). -/
def State.testFailed (s : State) (h : Nat) : State := s.setBsk h { s.bsk h with testRes := 3, testDone := s.time }

theorem exec_testResult_pass {s : State} {h : Nat} (hh : h < 16) (hst : (s.bsk h).st = .test) :
    exec (.testResult h .pass) s = .next ((s.atResult h).testOver h 1 false (bits s.feu.testCfg.toNat 31 16)) :=
  (guard_basket hh _).trans (congrArg Host.Outcome.next (if_neg (by simp [hst])))

theorem exec_testResult_fail {s : State} {h : Nat} (hh : h < 16) (hst : (s.bsk h).st = .test) :
    exec (.testResult h .fail) s = .next (((s.atResult h).testFailed h).retireBasket h true).testTurn :=
  (guard_basket hh _).trans (congrArg Host.Outcome.next (if_neg (by simp [hst])))

/-- Settles O41: one equation for each command, and what the state it answers holds of the Basket under test. -/
theorem structuralTestsRunTheirCourse : Obligations.StructuralTestsRunTheirCourse := by
  unfold Obligations.StructuralTestsRunTheirCourse
  intro s h b hh
  refine ⟨?due, ?requested, ?deferred, ?enters, ?passes, ?fails⟩
  case due =>
    intro hclk hinterval hserves hidle hundeferred hpatterns
    have hmay : (s.at b.testAt).MayFallDue h := ⟨hserves, hidle, hundeferred, hpatterns⟩
    have hexec : exec (.testDue h) s = .next ((s.at b.testAt).makeDue h).testTurn :=
      (guard_basket hh _).trans (congrArg Host.Outcome.next (if_neg (by simp [hinterval, hclk])))
    have hfr : Fr [.baskets] (s.at b.testAt) ((s.at b.testAt).makeDue h).testTurn :=
      fr_testTurn (fr_makeDue (fr_refl _ _) (by simp [Within]) h) (by simp [Within])
    refine ⟨_, hexec, hfr .time (by decide), ?_⟩
    rw [State.testTurn_testDue, hmay.makeDue, State.setBsk_bsk, if_pos rfl]
  case requested =>
    intro m hbit hserves hidle hundeferred hpatterns
    have hmay : s.MayFallDue h := ⟨hserves, hidle, hundeferred, hpatterns⟩
    refine ⟨_, rfl, ?_⟩
    unfold State.testReq
    rw [State.testTurn_testDue]
    exact hmay.requested hbit (.inl (List.mem_range.mpr hh))
  case deferred =>
    intro d hdefer hserves
    obtain ⟨hst, hfor, hnone, htime⟩ := (if s.potsOwned h then s.at d else s).drainBsk_test hh
    refine ⟨_, exec_testDeferEnd hh hdefer hserves, hst, hfor, hnone, htime.trans ?_⟩
    split_ifs <;> rfl
  case enters =>
    intro hst hfor hempty
    have htime := s.clearedForTest_time h
    refine ⟨_, exec_testEntry hh hst hfor hempty, ?_⟩
    rw [State.setBsk_bsk, if_pos rfl]
    refine ⟨rfl, htime, ?_⟩
    simp [Basket.stressed]
  case passes =>
    intro hst hstop
    obtain ⟨hgoes, htime, hres, hdone, hdue, hat⟩ :=
      State.testOver_spec (s := s.atResult h) (h := h) hstop 1 false (bits s.feu.testCfg.toNat 31 16)
    refine ⟨_, exec_testResult_pass hh hst, hgoes, htime, hres, hdone.trans htime.symm, hdue, ?_, by rw [htime]; exact hat⟩
    unfold Basket.stressed
    rw [hgoes]
    split_ifs <;> rfl
  case fails =>
    intro hst
    obtain ⟨hretired, hres, hby, hevicted, e, he, htold⟩ := ((s.atResult h).testFailed h).retireBasket_spec h
    have hfailed : (((s.atResult h).testFailed h).bsk h).testRes = 3 := by
      unfold State.testFailed
      rw [State.setBsk_bsk, if_pos rfl]
    refine ⟨_, exec_testResult_fail hh hst, ?_⟩
    generalize ((s.atResult h).testFailed h).retireBasket h true = u at *
    have hturn : Fr [.baskets] u u.testTurn := fr_testTurn (fr_refl _ u) (by simp [Within])
    obtain ⟨d, hd⟩ := u.testTurn_bsk h
    rw [hd]
    refine ⟨hretired, hres.trans hfailed, hby, fun i hi hv => ?_, e, ?_, htold⟩
    · rw [hturn.str_eq (by decide)]
      exact hevicted i hi hv
    · rwa [show u.testTurn.evq = u.evq from hturn .evq (by decide)]

end Sys2Proof.Machine
end

section
/-! PROOFS. What a replay leaves of the Pans it runs on (10, R313 to R325): a tile that is loaded, a run, a commit and the end of an
MVM change no ladder, no sampled block and no Pan's state. -/

namespace Sys2Proof.Machine

/-! ## What replays read and change of a Pan -/

/-- What replays read and change of a Pan: its state, its ladders and sampled blocks, and what its runs are compared by. -/
structure Trial where
  mode : PanMode
  suspectLeft : Nat
  forceRate : Bool
  ladders : List Ladder
  samples : List Sample
  chkCfg : W32
  loss : Nat

def Pan.trial (v : Pan) : Trial := ⟨v.mode, v.suspectLeft, v.forceRate, v.ladders, v.samples, v.chkCfg, v.loss⟩

/-- From s to t no Pan's trials change, and no counter of the FEU. -/
structure TrialsStay (s t : State) : Prop where
  trial (q : Nat) : (t.pan q).trial = (s.pan q).trial
  feu : t.feu = s.feu

theorem TrialsStay.refl (s : State) : TrialsStay s s := ⟨fun _ => rfl, rfl⟩

theorem TrialsStay.trans {s t u : State} (hst : TrialsStay s t) (htu : TrialsStay t u) : TrialsStay s u :=
  ⟨fun q => (htu.trial q).trans (hst.trial q), htu.feu.trans hst.feu⟩

/-- What changes neither Pans nor the FEU changes no trial. -/
theorem Fr.trialsStay {W : List Field} {s t : State} (hfr : Fr W s t) (hpans : .pans ∉ W) (hfeu : .feu ∉ W) : TrialsStay s t :=
  ⟨fun q => by rw [hfr.pan_eq hpans], hfr .feu hfeu⟩

section
variable {s t : State} (hst : TrialsStay s t)
include hst

theorem TrialsStay.mode (q : Nat) : (t.pan q).mode = (s.pan q).mode := congrArg Trial.mode (hst.trial q)

theorem TrialsStay.ladders (q : Nat) : (t.pan q).ladders = (s.pan q).ladders := congrArg Trial.ladders (hst.trial q)

theorem TrialsStay.samples (q : Nat) : (t.pan q).samples = (s.pan q).samples := congrArg Trial.samples (hst.trial q)

theorem TrialsStay.chkCfg (q : Nat) : (t.pan q).chkCfg = (s.pan q).chkCfg := congrArg Trial.chkCfg (hst.trial q)

theorem TrialsStay.loss (q : Nat) : (t.pan q).loss = (s.pan q).loss := congrArg Trial.loss (hst.trial q)

theorem TrialsStay.takesWork (q : Nat) : takesWork (t.pan q) = takesWork (s.pan q) := by
  unfold Machine.takesWork
  rw [hst.mode]

/-- A Pan may change in all but its trials. -/
theorem TrialsStay.setPan {p : Nat} {v : Pan} (hv : v.trial = (t.pan p).trial) : TrialsStay s (t.setPan p v) := by
  refine hst.trans ⟨fun q => ?_, rfl⟩
  rw [State.setPan_pan]
  split_ifs with hq
  · rw [hv, hq]
  · rfl

theorem TrialsStay.setBsk (h : Nat) (x : Basket) : TrialsStay s (t.setBsk h x) := ⟨hst.trial, hst.feu⟩

theorem TrialsStay.replayed (p : Nat) (blk : Block) : TrialsStay s (t.replayed p blk) := ⟨hst.trial, hst.feu⟩

theorem TrialsStay.chk (blk : Block) (cls p detail : Nat) : TrialsStay s (t.chk blk cls p detail) :=
  hst.trans ((fr_chk (W := [.evq]) (fr_refl _ t) (by simp [Within]) _ _ _ _).trialsStay (by decide) (by decide))

theorem TrialsStay.raise (code cls unit index detail : Nat) : TrialsStay s (t.raise code cls unit index detail) :=
  ⟨hst.trial, hst.feu⟩

theorem TrialsStay.modWin (p w : Nat) (f : Window → Window) : TrialsStay s (t.modWin p w f) := by
  obtain ⟨k, ws, hstamp⟩ := Pan.stamp_eq { t.pan p with windows := lmod (fun x => x.id = w) f (t.pan p).windows }
  refine hst.setPan ?_
  rw [hstamp]
  rfl

theorem TrialsStay.runOn {p : Nat} {blk : Block} {k : Bank} {parity : Bool} {u : State} {run : Run}
    (hrun : t.runOn p blk k parity = (u, run)) : TrialsStay s u := by
  obtain ⟨rfl, -⟩ := Prod.mk.inj hrun
  refine ⟨(hst.setPan (p := p) ?_).trial, hst.feu⟩
  rfl

theorem TrialsStay.earlyCal (p : Nat) : TrialsStay s (t.earlyCal p) := by
  unfold State.earlyCal
  exact hst.setPan rfl

theorem TrialsStay.addSums (run : Run) : TrialsStay s (t.addSums run) := by
  unfold State.addSums
  split
  · exact hst
  · exact hst.setPan rfl

end

/-! ## Commits, and the end of an MVM -/

section
variable {s t : State} (hst : TrialsStay s t)
include hst

theorem TrialsStay.commitSums (blk : Block) (run : Run) : TrialsStay s (t.commitSums blk run) := by
  have hcount (h : Nat) (x : Basket) : TrialsStay s ((t.setBsk h x).addSums run) := (hst.setBsk h x).addSums run
  unfold State.commitSums
  dsimp only
  generalize hu : (t.setBsk _ _).addSums run = u
  have hsu : TrialsStay s u := hu ▸ hcount _ _
  split_ifs
  · exact hsu
  · split
    · have hmark := hsu.modWin blk.home blk.window fun w => { w with convSat := true }
      split_ifs
      · exact hmark
      · exact hmark.trans ((fr_raiseS (W := [.baskets, .evq]) (fr_modRec (fr_refl _ _) (by simp [Within]) _ _ _)
          (by simp [Within]) _ _ _ _ _ _ _ _).trialsStay (by decide) (by decide))
    · exact hsu

theorem TrialsStay.commitLeaf (blk : Block) (run : Run) : TrialsStay s (t.commitLeaf blk run) := by
  unfold State.commitLeaf
  dsimp only
  split
  · exact hst
  · split_ifs
    · split
      · exact hst.modWin _ _ _
      · exact hst.setPan rfl
    · split
      · split_ifs
        · refine TrialsStay.modWin ?_ _ _ _
          exact hst.setPan rfl
        · exact hst.modWin _ _ _
      · exact hst.modWin _ _ _

theorem TrialsStay.commit (blk : Block) (run : Run) : TrialsStay s (t.commit blk run) := by
  rw [State.commit_eq]
  exact (hst.commitSums blk run).commitLeaf blk run

theorem TrialsStay.settleMvm (h uid : Nat) : TrialsStay s (t.settleMvm h uid) := by
  unfold State.settleMvm
  dsimp only
  split
  · exact hst
  · generalize hu : t.setBsk h _ = u
    have hsu : TrialsStay s u := hu ▸ hst.setBsk h _
    split_ifs
    · exact hst
    · exact List.foldlRecOn (motive := TrialsStay s) (bskPans h) _ ⟨hsu.trial, hsu.feu⟩ fun a ha q _ => ha.setPan rfl
    · exact hsu

end

/-! ## The tile a replay runs on -/

/-- A tile's bytes that have come from another node leave every trial. -/
theorem State.fetchTile_stays {s t : State} {p tile : Nat} {d : WDesc} {bs : List Byte}
    (hfetch : s.fetchTile p d tile = (t, some bs)) : TrialsStay s t := by
  unfold State.fetchTile at hfetch
  dsimp only at hfetch
  split_ifs at hfetch
  · simp at hfetch
  · obtain ⟨rfl, -⟩ := Prod.mk.inj hfetch
    exact (TrialsStay.refl s).setPan rfl
  · simp at hfetch

/-- A tile that is loaded leaves every trial. -/
theorem State.loadTile_stays {s t : State} {p tile : Nat} {toB : Bool} {d : WDesc} {who : LoadFor}
    (hload : s.loadTile p toB d tile who = (t, true)) : TrialsStay s t := by
  have hscrub : TrialsStay s (s.scrubRegions { winBase := d.win } (loadRegions d tile)) :=
    (fr_scrubRegions (W := [.memCorr, .memCe, .memUe]) (fr_refl _ s) (by simp [Within]) _ _).trialsStay (by decide) (by decide)
  unfold State.loadTile at hload
  dsimp only at hload
  generalize s.scrubRegions { winBase := d.win } (loadRegions d tile) = u at hscrub hload
  split at hload
  · simp at hload
  generalize hsrc : (if d.space = 3 then _ else _ : State × Option (List Byte)) = src at hload
  obtain ⟨w, _ | bs⟩ := src
  · simp at hload
  have hbytes : TrialsStay s w := by
    split_ifs at hsrc
    · split at hsrc
      · simp at hsrc
      · simp at hsrc
      · obtain ⟨rfl, -⟩ := Prod.mk.inj hsrc
        exact hscrub
    · exact hscrub.trans (State.fetchTile_stays hsrc)
    · obtain ⟨rfl, -⟩ := Prod.mk.inj hsrc
      exact hscrub
  obtain ⟨rfl, -⟩ := Prod.mk.inj hload
  refine (hbytes.setPan ?_).setBsk _ _
  cases toB <;> rfl

/-- Finding a bank for a replay on a Pan leaves every trial. -/
theorem State.replayBank_stays {s t : State} {p : Nat} {m : MvmRun} {blk : Block} {k : Bank}
    (hbank : s.replayBank p m blk = (t, some k)) : TrialsStay s t := by
  unfold State.replayBank at hbank
  dsimp only at hbank
  generalize (if (s.pan p).idle.valid = true then _ else _ : List WItem) = old at hbank
  split_ifs at hbank with hsel hidle hload
  · obtain ⟨rfl, -⟩ := Prod.mk.inj hbank
    exact .refl s
  · obtain ⟨rfl, -⟩ := Prod.mk.inj hbank
    exact .refl s
  · obtain ⟨rfl, -⟩ := Prod.mk.inj hbank
    exact (State.loadTile_stays (Prod.ext rfl hload)).setPan rfl
  · simp at hbank

/-- Loading a spare for a replay leaves every trial. -/
theorem State.spareBank_stays {s t : State} {q : Nat} {m : MvmRun} {blk : Block} {k : Bank}
    (hbank : s.spareBank q m blk = (t, some k)) : TrialsStay s t := by
  unfold State.spareBank at hbank
  dsimp only at hbank
  split_ifs at hbank with hload
  · obtain ⟨rfl, -⟩ := Prod.mk.inj hbank
    exact State.loadTile_stays (Prod.ext rfl hload)
  · simp at hbank

/-- Giving up a sweep for a ladder changes the Pan it gives and no other, and no counter of the FEU. -/
theorem State.ladderSpare_keeps {s a : State} {h q : Nat} (hspare : s.ladderSpare h = (some q, a)) :
    (∀ p, p ≠ q → a.pan p = s.pan p) ∧ a.feu = s.feu := by
  have hfr : FrR [.time, .baskets, .pans, .cal, .trv, .evq, .msix, .mgmt] s (s.ladderSpare h) :=
    fr_ladderSpare (fr_refl _ s) (by simp [Within]) h
  refine ⟨fun p hp => ?_, frR_eq hfr hspare .feu (by decide)⟩
  unfold State.ladderSpare at hspare
  split at hspare
  · obtain ⟨-, rfl⟩ := Prod.mk.inj hspare
    rfl
  · split at hspare
    next w hw =>
      split_ifs at hspare with hgives
      · obtain ⟨hq, rfl⟩ := Prod.mk.inj hspare
        have hne : p ≠ w.pan := fun he => hp (he.trans (Option.some.inj hq))
        show (s.abandonSweep).pan p = s.pan p
        unfold State.abandonSweep
        rw [hw]
        dsimp only
        rw [(State.tellSpares_fr _).pan_eq (by decide), if_pos ⟨hgives.2.1, hgives.2.2.1⟩]
        exact (State.setPan_pan _ _ _ _).trans (if_neg hne)
      · simp at hspare
    next => simp at hspare

/-- Pan p takes its margin (09, R301). -/
def State.margined (s : State) (p : Nat) : State := s.setPan p { s.pan p with margin := s.marginOf p }

/-- Pan p begins a SUSPECT Pan's window of 1,000 blocks (02, Table 02-14). -/
def State.suspected (s : State) (p : Nat) (forced : Bool) : State :=
  s.setPan p { s.pan p with mode := .suspect, suspectLeft := 1000, forceRate := forced, reason := 0 }

theorem State.toSuspect_eq (s : State) (p : Nat) (forced : Bool) :
    s.toSuspect p forced = ((s.suspected p forced).margined p).raise 0x0105 2 0x02 p (panDetail p) := rfl

theorem State.suspected_trial (s : State) (p : Nat) (forced : Bool) :
    ((s.suspected p forced).pan p).trial = { (s.pan p).trial with mode := .suspect, suspectLeft := 1000, forceRate := forced } := by
  unfold State.suspected
  rw [State.setPan_pan, if_pos rfl]
  rfl

theorem State.margined_stays (s : State) (p : Nat) : TrialsStay s (s.margined p) := (TrialsStay.refl s).setPan rfl

/-- A Pan that becomes SUSPECT changes in its own trial alone, and an event tells it (02, Table 02-14). -/
theorem State.toSuspect_spec (s : State) (p : Nat) (forced : Bool) :
    let t := s.toSuspect p forced
    (t.pan p).trial = { (s.pan p).trial with mode := .suspect, suspectLeft := 1000, forceRate := forced } ∧
      t.feu = s.feu ∧ ∃ e, e ∈ t.evq ∧ e.code = 0x0105 ∧ e.cls = 2 ∧ e.unit = 0x02 ∧ e.index = p := by
  have hstays := ((s.suspected p forced).margined_stays p).raise 0x0105 2 0x02 p (panDetail p)
  rw [State.toSuspect_eq]
  exact ⟨(hstays.trial p).trans (s.suspected_trial p forced), hstays.feu,
    _, List.mem_append_right _ (List.mem_singleton_self _), rfl, rfl, rfl, rfl⟩

/-- The end of an MVM after it changes none of that. -/
theorem State.toSuspect_settled (s : State) (p : Nat) (forced : Bool) (h uid : Nat) :
    let t := (s.toSuspect p forced).settleMvm h uid
    (t.pan p).trial = { (s.pan p).trial with mode := .suspect, suspectLeft := 1000, forceRate := forced } ∧
      t.feu = s.feu ∧ ∃ e, e ∈ t.evq ∧ e.code = 0x0105 ∧ e.cls = 2 ∧ e.unit = 0x02 ∧ e.index = p := by
  obtain ⟨htrial, hfeu, htold⟩ := s.toSuspect_spec p forced
  generalize s.toSuspect p forced = x at htrial hfeu htold ⊢
  have hend := (TrialsStay.refl x).settleMvm h uid
  have hfr : Fr [.baskets, .pans, .fastQ] x (x.settleMvm h uid) := fr_settleMvm (fr_refl _ x) (by simp [Within]) _ _
  have hevq : (x.settleMvm h uid).evq = x.evq := hfr .evq (by decide)
  rw [← hevq] at htold
  exact ⟨(hend.trial p).trans htrial, hend.feu.trans hfeu, htold⟩

end Sys2Proof.Machine
end

section
/-! PROOFS. The replay ladder, sampled replay, and O28 (10, R313 to R325). That a passed replay for a parity error counts nothing
and makes no Pan SUSPECT is log entry 60, that a sampled block whose spare has gone commits by its own tests log entry 34 (both
DEDUCED), what becomes of runs that fail a test log entry 109 (DESIGN CHOICE). -/

namespace Sys2Proof.Machine

theorem guard_pan {p : Nat} (hp : p < 272) (t : State) : guard (decide (p < 272)) t = .next t := if_pos (decide_eq_true hp)

theorem State.dropLadder_trial (s : State) (p : Nat) (l : Ladder) :
    ((s.dropLadder p l).pan p).trial = { (s.pan p).trial with ladders := (s.pan p).ladders.erase l } := by
  unfold State.dropLadder
  rw [State.setPan_pan, if_pos rfl]
  rfl

theorem State.dropSample_trial (s : State) (p : Nat) (x : Sample) :
    ((s.dropSample p x).pan p).trial = { (s.pan p).trial with samples := (s.pan p).samples.erase x } := by
  unfold State.dropSample
  rw [State.setPan_pan, if_pos rfl]
  rfl

/-- A sampled block that has run again is off its Pan, which keeps the rest of its trial. -/
theorem State.rerun_trial (s : State) (p : Nat) (x : Sample) :
    (((s.dropSample p x).replayed p x.blk).pan p).trial = { (s.pan p).trial with samples := (s.pan p).samples.erase x } :=
  (((TrialsStay.refl (s.dropSample p x)).replayed p x.blk).trial p).trans (s.dropSample_trial p x)

@[simp] theorem State.cntSpare_pan (s : State) (q : Nat) : s.cntSpare.pan q = s.pan q := rfl

/-! ## Rung 1: the block's own Pan -/

/-- A replay that passes on the block's own Pan (10, R313). -/
def State.passSame (s : State) (p : Nat) (l : Ladder) (run : Run) : State :=
  let x := (s.dropLadder p l).commit l.blk run
  (if l.quiet then x else x.cntSame.chk l.blk 1 p (chkDetail 1 l.first l.band 0x3FF p)).settleMvm (panBsk p) l.blk.step

/-- A ladder whose replay failed on its own Pan asks for a spare (10, R313). -/
def Ladder.climb (run : Run) (l : Ladder) : Ladder :=
  { l with
    rung := 2, first := if l.first = 0 then run.failCode else l.first, quiet := false
    band := if l.first = 0 ∧ run.failCode = 6 then run.tap.getD 0 else l.band, satOnly := l.satOnly && satAlone run }

theorem State.replaySame_eq {s u r : State} {p : Nat} {l : Ladder} {m : MvmRun} {k : Bank} {parity : RunParity} {run : Run}
    (hl : s.ladderAt p 1 = some l) (hm : (s.bsk (panBsk p)).mvm? l.blk.step = some m) (hring : parity ≠ .ring)
    (hbank : s.replayBank p m l.blk = (u, some k)) (hrun : u.runOn p l.blk k (decide (parity = .path)) = (r, run)) :
    s.replaySame p parity = if run.failCode = 0 then (r.replayed p l.blk).passSame p l run else (r.replayed p l.blk).setPan p
      { (r.replayed p l.blk).pan p with
        ladders := lmod (fun x => x = l) (Ladder.climb run) ((r.replayed p l.blk).pan p).ladders } := by
  unfold State.replaySame
  simp only [hl, hm, hbank, if_neg hring, hrun]
  rfl

theorem State.passSame_spec (s : State) (p : Nat) (l : Ladder) (run : Run) :
    ((s.passSame p l run).pan p).ladders = (s.pan p).ladders.erase l ∧
      (s.passSame p l run).feu.replSame = if l.quiet then s.feu.replSame else sat32 (s.feu.replSame + 1) := by
  have hcommit := (TrialsStay.refl (s.dropLadder p l)).commit l.blk run
  have hladders := (hcommit.ladders p).trans (congrArg Trial.ladders (s.dropLadder_trial p l))
  have hfeu : ((s.dropLadder p l).commit l.blk run).feu = s.feu := hcommit.feu
  unfold State.passSame
  dsimp only
  generalize (s.dropLadder p l).commit l.blk run = x at hladders hfeu
  cases l.quiet with
  | true =>
    have hend := (TrialsStay.refl x).settleMvm (panBsk p) l.blk.step
    refine ⟨(hend.ladders p).trans hladders, ?_⟩
    rw [if_pos rfl, if_pos rfl, hend.feu, hfeu]
  | false =>
    have hend := ((TrialsStay.refl x.cntSame).chk l.blk 1 p (chkDetail 1 l.first l.band 0x3FF p)).settleMvm (panBsk p) l.blk.step
    refine ⟨(hend.ladders p).trans hladders, ?_⟩
    rw [if_neg Bool.false_ne_true, if_neg Bool.false_ne_true, hend.feu, ← hfeu]
    rfl

/-! ## Rung 2: a spare -/

/-- A replay that passes on spare q (10, R313, R314). -/
def State.passSpare (s : State) (p q : Nat) (l : Ladder) (run : Run) : State :=
  (((s.dropLadder p l).commit l.blk run).sparePassed p q l).settleMvm (panBsk p) l.blk.step

/-- A replay that passes on its own Pan where no spare is left (10, R320). -/
def State.passAlone (s : State) (p : Nat) (l : Ladder) (run : Run) : State :=
  let x := (s.dropLadder p l).commit l.blk run
  let y := if l.quiet then x else x.chk l.blk 2 p (chkDetail 5 l.first l.band 0x3FF p)
  (if (y.pan p).mode = .inService then y.toSuspect p true else y).settleMvm (panBsk p) l.blk.step

/-- Spare q has used its allowance for n vectors more (10, R319). -/
def State.charge (s : State) (q n : Nat) : State := s.setPan q { s.pan q with allowance := (s.pan q).allowance + n }

theorem State.charge_stays (s : State) (q n : Nat) : TrialsStay s (s.charge q n) := (TrialsStay.refl s).setPan rfl

section
variable {s a u r : State} {p q : Nat} {l : Ladder} {m : MvmRun} {k : Bank} {parity : RunParity} {run : Run}

theorem State.replaySpare_of_pass (hl : s.ladderAt p 2 = some l) (hm : (s.bsk (panBsk p)).mvm? l.blk.step = some m)
    (hturn : s.spareTurn (panBsk p) = some p) (hspare : s.ladderSpare (panBsk p) = (some q, a)) (hring : parity ≠ .ring)
    (hroom : (a.pan q).allowance + l.blk.vals.length ≤ 512) (hbank : a.spareBank q m l.blk = (u, some k))
    (hrun : u.runOn q l.blk k (decide (parity = .path)) = (r, run)) (hpass : run.failCode = 0) :
    s.replaySpare p parity = ((r.charge q l.blk.vals.length).replayed p l.blk).cntSpare.passSpare p q l run := by
  unfold State.replaySpare
  simp only [hl, hm, hturn, hspare, hbank, hrun, hpass, if_neg hring, if_neg (Nat.not_lt.mpr hroom), ne_eq, not_true_eq_false,
    if_false, if_true]
  rfl

theorem State.noSpare_of_pass (hl : s.ladderAt p 2 = some l) (hm : (s.bsk (panBsk p)).mvm? l.blk.step = some m)
    (hnone : (s.ladderSpare (panBsk p)).1 = none) (hring : parity ≠ .ring) (hmode : (s.pan p).mode = .inService)
    (hbank : s.replayBank p m l.blk = (u, some k))
    (hrun : u.runOn p { l.blk with rate := max 1 (l.blk.rate - 1), fast := false } k (decide (parity = .path)) = (r, run))
    (hpass : run.failCode = 0) : s.noSpare p parity = (r.replayed p l.blk).cntSpare.passAlone p l run := by
  have hsound : (s.pan p).mode ≠ .suspect := by simp [hmode]
  unfold State.noSpare
  simp only [hl, hm, hnone, hbank, hrun, if_neg hring, if_neg hsound, Option.isSome_none]
  exact if_pos hpass

/-- A Pan in service whose block passed on a spare becomes SUSPECT; a replay for a parity error alone changes nothing. -/
theorem State.sparePassed_of_inService (hmode : (s.pan p).mode = .inService) :
    s.sparePassed p q l = if l.quiet then s else (s.chk l.blk 2 p (chkDetail 2 l.first l.band q p)).toSuspect p false := by
  have hsound : ¬ (s.pan p).mode = .suspect := by simp [hmode]
  unfold State.sparePassed
  dsimp only
  rw [if_neg hsound, if_pos hmode]

/-- A Pan in service whose block passed on a spare becomes SUSPECT, but for a parity error in committed entries alone. -/
theorem State.passSpare_spec (hmode : (s.pan p).mode = .inService) (run : Run) :
    let t := s.passSpare p q l run
    t.feu = s.feu ∧ (t.pan p).ladders = (s.pan p).ladders.erase l ∧
      (l.quiet = false → (t.pan p).mode = .suspect ∧ (t.pan p).suspectLeft = 1000 ∧
        ∃ e, e ∈ t.evq ∧ e.code = 0x0105 ∧ e.cls = 2 ∧ e.unit = 0x02 ∧ e.index = p) ∧
      (l.quiet = true → (t.pan p).mode = .inService) := by
  have hcommit := (TrialsStay.refl (s.dropLadder p l)).commit l.blk run
  have hladders := (hcommit.ladders p).trans (congrArg Trial.ladders (s.dropLadder_trial p l))
  have hserves := (hcommit.mode p).trans ((congrArg Trial.mode (s.dropLadder_trial p l)).trans hmode)
  have hfeu : ((s.dropLadder p l).commit l.blk run).feu = s.feu := hcommit.feu
  intro t
  have ht : t = State.settleMvm _ _ _ := rfl
  rw [State.sparePassed_of_inService hserves] at ht
  generalize (s.dropLadder p l).commit l.blk run = x at hladders hserves hfeu ht
  cases hquiet : l.quiet with
  | true =>
    rw [hquiet, if_pos rfl] at ht
    have hend := (TrialsStay.refl x).settleMvm (panBsk p) l.blk.step
    rw [← ht] at hend
    exact ⟨hend.feu.trans hfeu, (hend.ladders p).trans hladders, fun h => absurd h (by decide),
      fun _ => (hend.mode p).trans hserves⟩
  | false =>
    have hchk := (TrialsStay.refl x).chk l.blk 2 p (chkDetail 2 l.first l.band q p)
    rw [hquiet, if_neg Bool.false_ne_true] at ht
    generalize x.chk l.blk 2 p (chkDetail 2 l.first l.band q p) = y at hchk ht
    obtain ⟨htrial, hkeeps, htold⟩ := y.toSuspect_settled p false (panBsk p) l.blk.step
    rw [← ht] at htrial hkeeps htold
    exact ⟨hkeeps.trans (hchk.feu.trans hfeu),
      (congrArg Trial.ladders htrial).trans ((hchk.ladders p).trans hladders),
      fun _ => ⟨congrArg Trial.mode htrial, congrArg Trial.suspectLeft htrial, htold⟩, fun h => absurd h (by decide)⟩

/-- A Pan in service whose block passed at half the rate becomes SUSPECT under the RATE margin. -/
theorem State.passAlone_spec (hmode : (s.pan p).mode = .inService) (run : Run) :
    let t := s.passAlone p l run
    t.feu = s.feu ∧ (t.pan p).mode = .suspect ∧ (t.pan p).forceRate = true ∧
      (t.pan p).ladders = (s.pan p).ladders.erase l := by
  have hcommit := (TrialsStay.refl (s.dropLadder p l)).commit l.blk run
  have htold : TrialsStay (s.dropLadder p l) (if l.quiet then (s.dropLadder p l).commit l.blk run
      else ((s.dropLadder p l).commit l.blk run).chk l.blk 2 p (chkDetail 5 l.first l.band 0x3FF p)) := by
    split_ifs
    · exact hcommit
    · exact hcommit.chk _ _ _ _
  intro t
  have ht : t = State.settleMvm _ _ _ := rfl
  generalize (if l.quiet then (s.dropLadder p l).commit l.blk run
    else ((s.dropLadder p l).commit l.blk run).chk l.blk 2 p (chkDetail 5 l.first l.band 0x3FF p)) = y at htold ht
  rw [if_pos ((htold.mode p).trans ((congrArg Trial.mode (s.dropLadder_trial p l)).trans hmode))] at ht
  obtain ⟨htrial, hkeeps, -⟩ := y.toSuspect_settled p true (panBsk p) l.blk.step
  rw [← ht] at htrial hkeeps
  exact ⟨hkeeps.trans htold.feu, congrArg Trial.mode htrial, congrArg Trial.forceRate htrial,
    (congrArg Trial.ladders htrial).trans ((htold.ladders p).trans (congrArg Trial.ladders (s.dropLadder_trial p l)))⟩

end

/-! ## Sampled blocks -/

/-- What the comparison of a sampled block's runs finds: 0 where they agree (10, R324; log entry 109, DESIGN CHOICE). -/
def State.smpCode (s : State) (p : Nat) (x : Sample) (run : Run) : Nat :=
  if run.failCode ≠ 0 then run.failCode
  else compareRuns (s.pan p).chkCfg (s.pan p).loss x.blk.gsize x.blk.rate x.orig run

/-- Two runs of a sampled block that both pass agree (10, R325). -/
def State.runsAgree (s : State) (p : Nat) (x : Sample) (a b : Run) : Bool :=
  decide (a.failCode = 0) && decide (b.failCode = 0) &&
    decide (compareRuns (s.pan p).chkCfg (s.pan p).loss x.blk.gsize x.blk.rate a b = 0)

theorem State.runsAgree_congr {s t : State} {p : Nat} {x : Sample} (hcfg : (t.pan p).chkCfg = (s.pan p).chkCfg)
    (hloss : (t.pan p).loss = (s.pan p).loss) (a b : Run) : t.runsAgree p x a b = s.runsAgree p x a b := by
  unfold State.runsAgree
  rw [hcfg, hloss]

theorem TrialsStay.smpCode {s t : State} (hst : TrialsStay s t) (p : Nat) (x : Sample) (run : Run) :
    t.smpCode p x run = s.smpCode p x run := by
  unfold State.smpCode
  rw [hst.chkCfg, hst.loss]

/-- A sampled block commits by its first run (10, R324). -/
def State.commitFirst (s : State) (p : Nat) (x : Sample) : State :=
  ((s.dropSample p x).commit x.blk x.orig).settleMvm (panBsk p) x.blk.step

theorem State.commitFirst_spec (s : State) (p : Nat) (x : Sample) :
    ((s.commitFirst p x).pan p).samples = (s.pan p).samples.erase x ∧ (s.commitFirst p x).feu = s.feu := by
  have hend := ((TrialsStay.refl (s.dropSample p x)).commit x.blk x.orig).settleMvm (panBsk p) x.blk.step
  exact ⟨(hend.samples p).trans (congrArg Trial.samples (s.dropSample_trial p x)), hend.feu⟩

/-- A comparison is counted. -/
def State.cntRun (s : State) : State := { s with feu := { s.feu with smpRun := sat32 (s.feu.smpRun + 1) } }

/-- A comparison that fails is counted. -/
def State.cntFail (s : State) : State := { s with feu := { s.feu with smpFail := sat32 (s.feu.smpFail + 1) } }

section
variable {s u r : State} {p : Nat} {x : Sample} {m : MvmRun} {k : Bank} {parity : RunParity} {run : Run}

theorem State.smpCompare_of_gone (hx : (s.pan p).samples.find? (fun y => y.spare.isNone) = some x)
    (hm : (s.bsk (panBsk p)).mvm? x.blk.step = some m) (hgone : (s.pan x.sparePan).mode ≠ .spare) :
    s.smpCompare p parity = s.commitFirst p x := by
  unfold State.smpCompare
  simp only [hx, hm]
  exact if_pos hgone

theorem State.smpCompare_of_run (hx : (s.pan p).samples.find? (fun y => y.spare.isNone) = some x)
    (hm : (s.bsk (panBsk p)).mvm? x.blk.step = some m) (hspare : (s.pan x.sparePan).mode = .spare) (hring : parity ≠ .ring)
    (hbank : s.spareBank x.sparePan m x.blk = (u, some k))
    (hrun : u.runOn x.sparePan x.blk k (decide (parity = .path)) = (r, run)) :
    s.smpCompare p parity = if r.smpCode p x run = 0 then r.cntRun.commitFirst p x
      else r.cntRun.cntFail.setPan p { r.pan p with
        samples := lmod (fun y => y = x) (fun y => { y with spare := some run, failed := r.smpCode p x run })
          (r.pan p).samples } := by
  have hthere : ¬ (s.pan x.sparePan).mode ≠ .spare := not_not_intro hspare
  unfold State.smpCompare
  simp only [hx, hm, if_neg hthere, if_neg hring, hbank, hrun]
  rfl

/-- What Table 10-4 makes of the third run, which agrees with the spare's or not, and with the first or not (10, R325). -/
def State.smpVerdict (s : State) (p : Nat) (x : Sample) (sp run : Run) (det : Nat → Nat) (withSpare withFirst : Bool) : State :=
  match withSpare, withFirst with
  | true, false => (s.commit x.blk run).chk x.blk 1 p (det 6)
  | false, true => ((s.commit x.blk x.orig).chk x.blk 1 p (det 7)).earlyCal x.sparePan
  | true, true => (s.commit x.blk x.orig).chk x.blk 0 p (det 8)
  | false, false => if sp.failCode = 0 then s.smpSpare p x sp (det 9) else s.chkX x.blk p (det 4)

theorem State.smpResolve_eq {sp : Run} (hx : (s.pan p).samples.find? (fun y => y.spare.isSome) = some x)
    (hm : (s.bsk (panBsk p)).mvm? x.blk.step = some m) (hsp : x.spare = some sp) (hring : parity ≠ .ring)
    (hworks : takesWork (s.pan p) = true) (hbank : s.replayBank p m x.blk = (u, some k))
    (hrun : u.runOn p x.blk k (decide (parity = .path)) = (r, run)) :
    let w := (r.dropSample p x).replayed p x.blk
    ∃ det, s.smpResolve p parity =
      (w.smpVerdict p x sp run det (w.runsAgree p x run sp) (w.runsAgree p x run x.orig)).settleMvm (panBsk p) x.blk.step := by
  have hstill : takesWork (u.pan p) = true := ((State.replayBank_stays hbank).takesWork p).trans hworks
  refine ⟨fun o => chkDetail o x.failed (if x.failed = 6 then sp.tap.getD 0 else 0) x.sparePan p, ?_⟩
  unfold State.smpResolve State.runsAgree
  simp only [hx, hm, hsp, if_neg hring, hworks, if_true, hbank, hrun, hstill, Bool.not_true, Bool.false_eq_true, if_false,
    Bool.not_false, Bool.true_and]
  rfl

/-- Where the third run agrees with one, no Pan's trial changes. -/
theorem State.smpVerdict_of_agree (s : State) (p : Nat) (x : Sample) (sp run : Run) (det : Nat → Nat) {withSpare withFirst : Bool}
    (hagree : withSpare = true ∨ withFirst = true) :
    TrialsStay s (s.smpVerdict p x sp run det withSpare withFirst) := by
  have hcommit (run : Run) (cls o : Nat) : TrialsStay s ((s.commit x.blk run).chk x.blk cls p (det o)) :=
    ((TrialsStay.refl s).commit x.blk run).chk _ _ _ _
  cases withSpare <;> cases withFirst
  case false.false => simp at hagree
  case false.true => exact (hcommit x.orig 1 7).earlyCal x.sparePan
  case true.false => exact hcommit run 1 6
  case true.true => exact hcommit x.orig 0 8

/-- Where it agrees with neither, the spare's run commits and a Pan in service becomes SUSPECT. -/
theorem State.smpVerdict_of_neither {sp : Run} (hpass : sp.failCode = 0) (hmode : (s.pan p).mode = .inService) (run : Run)
    (det : Nat → Nat) :
    ((s.smpVerdict p x sp run det false false).pan p).samples = (s.pan p).samples ∧
      ((s.smpVerdict p x sp run det false false).pan p).mode = .suspect := by
  have hcommit := (TrialsStay.refl s).commit x.blk sp
  have hchk := hcommit.chk x.blk 2 p (det 9)
  have hverdict : s.smpVerdict p x sp run det false false = ((s.commit x.blk sp).chk x.blk 2 p (det 9)).toSuspect p false := by
    refine (if_pos hpass).trans ?_
    unfold State.smpSpare
    simp only [(hcommit.mode p).trans hmode]
  obtain ⟨htrial, -⟩ := ((s.commit x.blk sp).chk x.blk 2 p (det 9)).toSuspect_spec p false
  rw [hverdict]
  generalize ((s.commit x.blk sp).chk x.blk 2 p (det 9)).toSuspect p false = t at htrial ⊢
  exact ⟨(congrArg Trial.samples htrial).trans (hchk.samples p), congrArg Trial.mode htrial⟩

end

/-- Settles O28: each command is one equation, and what it makes of a run that passes, fails or is compared has its own lemma. -/
theorem blocksAreReplayed : Obligations.BlocksAreReplayed := by
  unfold Obligations.BlocksAreReplayed
  refine ⟨?same, ?spare, ?alone, ?compared, ?resolved⟩
  case same =>
    intro s u p l m k parity h v
    obtain ⟨⟨r, run⟩, hrun⟩ : ∃ r, u.runOn p l.blk k (decide (parity = .path)) = r := ⟨_, rfl⟩
    rw [hrun]
    intro _ hp hm hring hl hbank
    have hran := ((State.replayBank_stays hbank).runOn hrun).replayed p l.blk
    have heq := State.replaySame_eq hl hm hring hbank hrun
    refine ⟨fun hpass => ⟨_, guard_pan hp _, ?_⟩, fun hfail => ⟨_, guard_pan hp _, ?_⟩⟩
    · obtain ⟨hladders, hcount⟩ := (r.replayed p l.blk).passSame_spec p l run
      rw [heq, if_pos hpass, hladders, hcount, hran.ladders, hran.feu]
      exact ⟨rfl, rfl⟩
    · rw [heq, if_neg hfail, State.setPan_pan, if_pos rfl, hran.ladders]
      rfl
  case spare =>
    intro s a u p q l m k parity h v hp hm hring hl hturn hspare hne hroom hbank hmode
    obtain ⟨⟨r, run⟩, hrun⟩ : ∃ r, u.runOn q l.blk k (decide (parity = .path)) = r := ⟨_, rfl⟩
    rw [hrun]
    intro hpass
    refine ⟨_, guard_pan hp _, ?_⟩
    rw [State.replaySpare_of_pass hl hm hturn hspare hring hroom hbank hrun hpass]
    obtain ⟨hothers, hfeu⟩ := State.ladderSpare_keeps hspare
    have hwas : a.pan p = v := hothers p hne.symm
    have hran := (((State.spareBank_stays hbank).runOn hrun).trans (r.charge_stays q l.blk.vals.length)).replayed p l.blk
    generalize (r.charge q l.blk.vals.length).replayed p l.blk = w at hran
    have hserves : (w.pan p).mode = .inService := by rw [hran.mode, hwas, hmode]
    obtain ⟨hkeeps, hladders, hloud, hquiet⟩ := State.passSpare_spec (s := w.cntSpare) (q := q) (l := l) hserves run
    refine ⟨?_, hladders.trans ?_, hloud, hquiet⟩
    · rw [hkeeps, ← hfeu, ← hran.feu]
      rfl
    · rw [w.cntSpare_pan, hran.ladders, hwas]
  case alone =>
    intro s u p l m k parity h v blk hp hm hring hl hnone hbank hmode
    obtain ⟨⟨r, run⟩, hrun⟩ : ∃ r, u.runOn p blk k (decide (parity = .path)) = r := ⟨_, rfl⟩
    rw [hrun]
    intro hpass
    refine ⟨_, guard_pan hp _, ?_⟩
    rw [State.noSpare_of_pass hl hm hnone hring hmode hbank hrun hpass]
    have hran := ((State.replayBank_stays hbank).runOn hrun).replayed p l.blk
    generalize r.replayed p l.blk = w at hran
    obtain ⟨hkeeps, hsuspect, hforced, hladders⟩ :=
      State.passAlone_spec (s := w.cntSpare) (l := l) ((hran.mode p).trans hmode) run
    refine ⟨?_, hsuspect, hforced, hladders.trans ?_⟩
    · rw [hkeeps, ← hran.feu]
      rfl
    · rw [w.cntSpare_pan, hran.ladders]
  case compared =>
    intro s u p x m k parity h v hp hm hx hmode
    constructor
    · intro hgone
      refine ⟨_, guard_pan hp _, ?_⟩
      rw [State.smpCompare_of_gone hx hm hgone]
      exact s.commitFirst_spec p x
    · intro hspare hring hbank
      obtain ⟨⟨r, run⟩, hrun⟩ : ∃ r, u.runOn x.sparePan x.blk k (decide (parity = .path)) = r := ⟨_, rfl⟩
      rw [hrun]
      intro _ c
      have hran := (State.spareBank_stays hbank).runOn hrun
      have hcode : r.smpCode p x run = c := hran.smpCode p x run
      refine ⟨_, guard_pan hp _, ?_⟩
      rw [State.smpCompare_of_run hx hm hspare hring hbank hrun, hcode]
      by_cases hc : c = 0
      · obtain ⟨hsamples, hfeu⟩ := r.cntRun.commitFirst_spec p x
        rw [if_pos hc, hfeu, hsamples, ← hran.feu]
        exact ⟨rfl, fun _ => ⟨congrArg (List.erase · x) (hran.samples p), rfl⟩, fun h => absurd hc h⟩
      · rw [if_neg hc, State.setPan_pan, if_pos rfl, hran.samples, ← hran.feu]
        exact ⟨rfl, fun h => absurd h hc, fun _ => ⟨rfl, rfl⟩⟩
  case resolved =>
    intro s u p x sp m k parity h v
    obtain ⟨⟨r, run⟩, hrun⟩ : ∃ r, u.runOn p x.blk k (decide (parity = .path)) = r := ⟨_, rfl⟩
    rw [hrun]
    intro _ same hp hm hx hsp hring hworks hbank
    have hran := (State.replayBank_stays hbank).runOn hrun
    obtain ⟨det, heq⟩ := State.smpResolve_eq hx hm hsp hring hworks hbank hrun
    have htrial := r.rerun_trial p x
    have hsamples := (congrArg Trial.samples htrial).trans (congrArg (List.erase · x) (hran.samples p))
    have hmode := (congrArg Trial.mode htrial).trans (hran.mode p)
    have hagree (a b : Run) : ((r.dropSample p x).replayed p x.blk).runsAgree p x a b = same a b :=
      State.runsAgree_congr ((congrArg Trial.chkCfg htrial).trans (hran.chkCfg p))
        ((congrArg Trial.loss htrial).trans (hran.loss p)) a b
    rw [hagree, hagree] at heq
    generalize (r.dropSample p x).replayed p x.blk = w at heq hsamples hmode
    refine ⟨fun hone => ⟨_, guard_pan hp _, ?_⟩, fun hspare hfirst hpass hserves => ⟨_, guard_pan hp _, ?_⟩⟩
    · have hend := (w.smpVerdict_of_agree p x sp run det hone).settleMvm h x.blk.step
      rw [heq]
      exact ⟨(hend.samples p).trans hsamples, (hend.mode p).trans hmode⟩
    · obtain ⟨hkept, hsuspect⟩ := State.smpVerdict_of_neither (x := x) hpass (hmode.trans hserves) run det
      have hend := (TrialsStay.refl (w.smpVerdict p x sp run det false false)).settleMvm h x.blk.step
      rw [heq, hspare, hfirst]
      exact ⟨(hend.samples p).trans (hkept.trans hsamples), (hend.mode p).trans hsuspect⟩

end Sys2Proof.Machine
end

section
/-! PROOFS. The machine's step and the frame of a command (00, R6; 11, R354; log entries 17 and 44). -/

namespace Sys2Proof.Machine

/-- No command has the queue on its list. -/
theorem pending_not_mem_touches (c : Instr) : Field.pending ∉ touches c := by
  cases c <;> simp [touches]

/-- With no edge to settle at any input, the inputs stay as they are. -/
theorem State.settleInputs_eq_self {s : State} (hedge : ∀ n, n < 3 → (s.inp n).edgeAt = none) : s.settleInputs = s :=
  List.foldlRecOn (List.range 3) State.settleInput (motive := (· = s)) rfl fun u hu n hn => by
    subst hu
    exact State.settleInput_eq_self fun τ hτ => by simp [hedge n (List.mem_range.mp hn)] at hτ

/-- Settles O3: the frame of a command is its list, and the queue is on none. -/
theorem commandsTouchOnlyTheirFields : Obligations.CommandsTouchOnlyTheirFields := by
  unfold Obligations.CommandsTouchOnlyTheirFields
  intro c s t ht
  have hfr : Fr (touches c) s t := exec_frame c s t ht
  exact ⟨hfr, hfr .pending (pending_not_mem_touches c)⟩

/-- Settles O1: `step` takes its two cases from the queue, and an idle nanosecond moves nothing but the time. -/
theorem stepRunsTheFrontCommand : Obligations.StepRunsTheFrontCommand := by
  unfold Obligations.StepRunsTheFrontCommand
  refine ⟨fun s c rest => rfl, fun s hempty hclock hslew hedge => ?_⟩
  have hidle : s.idleTick = { s with time := s.time + 1 } := by
    unfold State.idleTick
    rw [if_neg (by simp [hclock]), if_neg (by omega)]
    exact State.settleInputs_eq_self (s := { s with time := s.time + 1 }) hedge
  have hstep : step s = .next s.idleTick := by
    unfold step
    rw [hempty]
  rw [hstep, hidle]

end Sys2Proof.Machine
end

section
/-! PROOFS. Fabric ports and their links, and O49 (11, R343 to R348, Tables 11-2, 11-3). That LINK_CRC tells the replays of the
millisecond that ends is log entry 145 (DEDUCED). -/

namespace Sys2Proof.Machine

/-! ## What leaves every port as it was -/

/-- Every port reads as before at the same time, and no event raised before is gone. -/
structure PortsStay (s t : State) : Prop where
  ports : t.dzf.ports = s.dzf.ports
  time : t.time = s.time
  evq : s.evq <+: t.evq

theorem PortsStay.refl (s : State) : PortsStay s s := ⟨rfl, rfl, List.prefix_rfl⟩

theorem PortsStay.trans {s t u : State} (hst : PortsStay s t) (htu : PortsStay t u) : PortsStay s u :=
  ⟨htu.ports.trans hst.ports, htu.time.trans hst.time, hst.evq.trans htu.evq⟩

theorem PortsStay.port {s t : State} (h : PortsStay s t) (k : Nat) : t.port k = s.port k :=
  congrArg (tget portDflt · k) h.ports

theorem PortsStay.foldl {α : Type} {f : State → α → State} (hf : ∀ s x, PortsStay s (f s x)) (l : List α) (s : State) :
    PortsStay s (l.foldl f s) :=
  List.foldlRecOn l f (motive := PortsStay s) (.refl s) fun _ hu x _ => hu.trans (hf _ x)

theorem State.routeTie_portsStay (s : State) (table win k : Nat) : PortsStay s (s.routeTie table win k) := by
  unfold State.routeTie
  split
  · exact .refl s
  · exact ⟨rfl, rfl, List.prefix_append _ _⟩

theorem State.lookup_portsStay (s : State) (table key : Nat) : PortsStay s (s.lookup table key).2 := by
  unfold State.lookup
  extract_lets cs top
  split
  · exact .refl s
  · exact .refl s
  next e rest _ _ =>
    exact PortsStay.trans (t := { s with dzf := { s.dzf with tie := sat32 (s.dzf.tie + 1) } }) ⟨rfl, rfl, List.prefix_rfl⟩
      (.foldl (fun u (x : Nat × Route) => u.routeTie_portsStay table e.1 x.1) rest _)

theorem State.egress_portsStay (s : State) (p : Packet) (rsp transit : Bool) : PortsStay s (s.egress p rsp transit).2 := by
  unfold State.egress
  by_cases hown : p.dst = s.dzf.nodeId ∧ s.dzf.idValid = true
  · rw [if_pos hown]
    exact .refl s
  rw [if_neg hown]
  by_cases hgroup : p.dst / 128 = s.dzf.nodeId / 128
  all_goals
    simp only [hgroup, if_true, if_false]
    split <;> next heq => exact (congrArg (PortsStay s ·.2) heq).mp (s.lookup_portsStay _ _)

theorem State.egress_eq_portsStay {s t : State} {p : Packet} {rsp transit : Bool} {way : Option Nat}
    (h : s.egress p rsp transit = (way, t)) : PortsStay s t :=
  (congrArg (PortsStay s ·.2) h).mp (s.egress_portsStay p rsp transit)

theorem State.sendReply_portsStay (s : State) (p : Packet) (transit : Bool) : PortsStay s (s.sendReply p transit) := by
  unfold State.sendReply
  split <;> next heq => exact (State.egress_eq_portsStay heq).trans ⟨rfl, rfl, List.prefix_rfl⟩

theorem State.noRoute_portsStay (s : State) (m : Packet) : PortsStay s (s.noRoute m) := by
  unfold State.noRoute
  split_ifs
  · exact PortsStay.trans (t := { s with freeCtr := s.freeCtr + 16 }) ⟨rfl, rfl, List.prefix_rfl⟩ (State.sendReply_portsStay _ _ _)
  · exact s.sendReply_portsStay _ _
  · exact .refl s

theorem State.rerouted_portsStay (s : State) (m : Packet) : PortsStay s (s.rerouted m) := by
  unfold State.rerouted
  extract_lets own
  split <;> next u heq =>
    have hway : PortsStay s u := State.egress_eq_portsStay heq
    first
    | exact hway.trans ⟨rfl, rfl, List.prefix_rfl⟩
    | split_ifs
      · exact hway
      · exact hway.trans (u.noRoute_portsStay m)

theorem State.reroute_portsStay (s : State) (n : Nat) : PortsStay s (s.reroute n) := by
  unfold State.reroute
  extract_lets q
  exact PortsStay.trans (t := { s with tx := q.2, freeCtr := s.freeCtr + s.tx.length }) ⟨rfl, rfl, List.prefix_rfl⟩
    (.foldl State.rerouted_portsStay _ _)

theorem State.follow_portsStay (s : State) (port uid dist : Nat) : PortsStay s (s.follow port uid dist) := by
  unfold State.follow State.greet
  extract_lets d fresh u
  split_ifs <;> exact ⟨rfl, rfl, List.prefix_rfl⟩

theorem State.adopt_portsStay (s : State) : PortsStay s s.adopt := by
  unfold State.adopt
  split
  · exact .refl s
  · extract_lets d low
    split
    · split
      · exact s.follow_portsStay _ _ _
      · exact .refl s
    · split_ifs <;> exact ⟨rfl, rfl, List.prefix_rfl⟩

/-! ## A port that changes its state -/

/-- A port as it enters a state without a link. -/
def Port.dark (v : Port) (st : PortState) (now : Nat) : Port := { v with st := st, gen := 0, lanes := 0, stateAt := now }

/-- Entering a state is the port's own change, and what follows of it leaves the ports. -/
theorem State.portTo_portsStay (s : State) (n : Nat) (st : PortState) :
    PortsStay (s.setPort n ((s.port n).dark st s.time)) (s.portTo n st) := by
  unfold State.portTo
  extract_lets live u
  split_ifs
  · exact (State.adopt_portsStay _).trans (State.reroute_portsStay _ n)
  · exact State.adopt_portsStay _

theorem State.portTo_port (s : State) (n k : Nat) (st : PortState) :
    (s.portTo n st).port k = if k = n then (s.port n).dark st s.time else s.port k := by
  rw [(s.portTo_portsStay n st).port k, State.setPort_port]

theorem State.portTo_time (s : State) (n : Nat) (st : PortState) : (s.portTo n st).time = s.time :=
  (s.portTo_portsStay n st).time

theorem State.portTo_evq (s : State) (n : Nat) (st : PortState) : s.evq <+: (s.portTo n st).evq :=
  (s.portTo_portsStay n st).evq

/-- A port as it retires: dark, its windows empty (11, R348). -/
def Port.retire (v : Port) (now : Nat) : Port :=
  ({ v with trainFailAt := [], downAt := [], badWins := 0 } : Port).dark .retired now

/-- The state in which a port retires: its windows are empty. -/
def State.retiring (s : State) (n : Nat) : State :=
  s.setPort n { s.port n with trainFailAt := [], downAt := [], badWins := 0 }

/-- A retirement is the port's way to RETIRED, and is told (11, R348). -/
theorem State.retirePort_spec (s : State) (n c : Nat) :
    let u := (s.retiring n).portTo n .retired
    PortsStay u (s.retirePort n c) ∧ ∃ e, e ∈ (s.retirePort n c).evq ∧ e.code = 0x0804 ∧ e.cls = 3 ∧ e.unit = 0x05 ∧
      e.index = n ∧ e.detail = shl c 28 + n := by
  intro u
  have heq : s.retirePort n c = (u.raise 0x0804 3 0x05 n (shl c 28 + n)).bbrPut (.portRetire n c) := rfl
  rw [heq]
  generalize u = u
  exact ⟨⟨rfl, rfl, List.prefix_append _ _⟩, _, List.mem_append_right _ (List.mem_singleton_self _), rfl, rfl, rfl, rfl, rfl⟩

theorem State.retirePort_port (s : State) (n c k : Nat) :
    (s.retirePort n c).port k = if k = n then (s.port n).retire s.time else s.port k := by
  rw [(s.retirePort_spec n c).1.port, State.portTo_port]
  unfold State.retiring
  by_cases hk : k = n
  · simp [hk, Port.retire]
  · simp [hk]

theorem State.retirePort_time (s : State) (n c : Nat) : (s.retirePort n c).time = s.time :=
  (s.retirePort_spec n c).1.time.trans ((s.retiring n).portTo_time n .retired)

theorem State.retirePort_evq (s : State) (n c : Nat) : s.evq <+: (s.retirePort n c).evq :=
  ((s.retiring n).portTo_evq n .retired).trans (s.retirePort_spec n c).1.evq

/-- The falls of a port in the second that ends now, this one from UP or DRAIN among them. -/
def Port.falls (v : Port) (now : Nat) : List Nat :=
  lastSecond now v.downAt ++ (if v.st = .up ∨ v.st = .drain then [now] else [])

/-- A linked port as it goes DOWN: the fall is counted and kept. -/
def Port.fall (v : Port) (now : Nat) : Port := { v with downs := sat16 (v.downs + 1), downAt := v.falls now }

theorem State.portDown_eq {s : State} {n : Nat} (hlink : linked (s.port n).st = true) : s.portDown n =
    (let u := (s.setPort n ((s.port n).fall s.time)).portTo n .down
     if 16 ≤ ((s.port n).falls s.time).length then u.retirePort n 3 else u) := by
  unfold State.portDown
  extract_lets v ts u
  exact if_neg (by simp [v, hlink])

/-- A linked port goes DOWN, and at its 16th fall of a second retires (11, R348). -/
theorem State.portDown_port {s : State} {n : Nat} (hlink : linked (s.port n).st = true) (k : Nat) :
    (s.portDown n).port k =
      if k = n then
        let w := ((s.port n).fall s.time).dark .down s.time
        if 16 ≤ ((s.port n).falls s.time).length then w.retire s.time else w
      else s.port k := by
  rw [State.portDown_eq hlink]
  extract_lets u w
  have hport j : u.port j = if j = n then w else s.port j := by
    simp only [u, State.portTo_port, State.setPort_port]
    by_cases hj : j = n
    · simp [hj, w]
    · simp [hj]
  have htime : u.time = s.time := State.portTo_time _ n .down
  by_cases hmany : 16 ≤ ((s.port n).falls s.time).length
  · rw [if_pos hmany, if_pos hmany, State.retirePort_port, hport, hport, if_pos rfl, htime]
    split_ifs <;> rfl
  · rw [if_neg hmany, if_neg hmany, hport]

/-! ## The commands -/

theorem State.onPort_eq {s : State} {n : Nat} (hn : n < 32) (hclock : s.clocked = true) (f : State → State) :
    s.onPort n f = .next (f s) := by
  unfold State.onPort guard
  rw [if_pos (decide_eq_true hn), if_pos hclock]

/-- The windows in a row above a port's threshold, with the one that ends. -/
def Port.badWindows (v : Port) : Nat := if bits v.cfg.toNat 15 0 < v.crcMs then v.badWins + 1 else 0

/-- A port's millisecond is over: its window begins anew. -/
def State.windowOver (s : State) (n : Nat) : State :=
  s.fresh.setPort n { s.port n with
    crcMs := 0, badWins := (s.port n).badWindows
    fecCor := sat16 ((s.port n).fecCor + if linked (s.port n).st then bits (Config.freeWord s.freeCtr).toNat 15 0 else 0) }

/-- LINK_CRC of a millisecond (11, R347; log entry 145, DEDUCED). -/
def linkCrc (now n crcMs : Nat) : EventRec :=
  { time := now, code := 0x0801, cls := 1, unit := 0x05, index := n, stream := none, step := 0
    detail := shl (min 0xFFFF crcMs) 16 + n }

/-- The replays of a millisecond are told at its end. -/
def State.windowTold (s : State) (n : Nat) : State :=
  if (s.port n).crcMs = 0 then s.windowOver n
  else { s.windowOver n with evq := s.evq ++ [linkCrc s.time n (s.port n).crcMs] }

theorem State.windowTold_port (s : State) (n k : Nat) : (s.windowTold n).port k = (s.windowOver n).port k := by
  unfold State.windowTold
  split_ifs <;> rfl

theorem State.windowTold_evq (s : State) (n : Nat) : (s.windowTold n).evq =
    if (s.port n).crcMs = 0 then s.evq else s.evq ++ [linkCrc s.time n (s.port n).crcMs] := by
  unfold State.windowTold
  split_ifs <;> rfl

/-- What the end of a window leaves of every port, where none retires. -/
theorem State.windowTold_spec (s : State) (n : Nat) :
    (∀ k, k ≠ n → (s.windowTold n).port k = s.port k) ∧ ((s.windowTold n).port n).crcMs = 0 ∧
      ((s.windowTold n).port n).badWins = (s.port n).badWindows ∧ ((s.windowTold n).port n).st = (s.port n).st := by
  refine ⟨fun k hk => ?_, ?_, ?_, ?_⟩
  all_goals
    rw [State.windowTold_port]
    unfold State.windowOver
  · simp [hk]
  all_goals simp

/-- A failed training is counted and kept at the time τ it ends. -/
def Port.trainFails (v : Port) (τ : Nat) : Port :=
  { v with trainFail := sat16 (v.trainFail + 1), trainFailAt := lastSecond τ v.trainFailAt ++ [τ] }

section
variable {s : State} {n : Nat} (hn : n < 32) (hclock : s.clocked = true)
include hn hclock

theorem exec_flitReplay (hlink : linked (s.port n).st = true) : exec (.flitReplay n) s =
    .next (s.fresh.setPort n { s.port n with
      crc := sat32 ((s.port n).crc + 1), crcMs := (s.port n).crcMs + 1
      fecUnc := sat16 ((s.port n).fecUnc + (Config.freeWord s.freeCtr).toNat % 2) }) := by
  change execFlitReplay n s = _
  unfold execFlitReplay
  rw [State.onPort_eq hn hclock]
  exact congrArg Host.Outcome.next (if_neg (by simp [hlink]))

theorem exec_replayWindow : exec (.replayWindow n) s = .next (
    if 10 ≤ (s.port n).badWindows ∧ ((s.port n).st = .hello ∨ (s.port n).st = .up ∨ (s.port n).st = .drain ∨
        (s.port n).st = .down ∨ (s.port n).st = .training) then (s.windowTold n).retirePort n 1
    else s.windowTold n) := by
  change execReplayWindow n s = _
  unfold execReplayWindow
  rw [State.onPort_eq hn hclock]
  rfl

theorem exec_lightDetect (hst : (s.port n).st = .down) (hlock : (s.coil (n / 8)).everLocked = true) : ∃ pw,
    exec (.lightDetect n) s = .next (
      let u := ({ s with freeCtr := s.freeCtr + 4 } : State).portTo n .training
      u.setPort n { u.port n with rxPwr := pw }) := by
  change ∃ pw, execLightDetect n s = _
  unfold execLightDetect
  rw [State.onPort_eq hn hclock]
  exact ⟨_, congrArg Host.Outcome.next (if_pos (by simp [hst, hlock]))⟩

theorem exec_linkUp (hst : (s.port n).st = .training) : exec (.linkUp n) s =
    .next ((s.portTo n .hello).setPort n { (s.portTo n .hello).port n with lanes := 0xFF }) := by
  change execLinkUp n s = _
  unfold execLinkUp
  rw [State.onPort_eq hn hclock]
  exact congrArg Host.Outcome.next (if_pos hst)

theorem exec_trainingTimeout (hst : (s.port n).st = .training) : exec (.trainingTimeout n) s = .next (
    let u := s.at ((s.port n).stateAt + 10000000)
    let w := (u.setPort n ((s.port n).trainFails u.time)).portTo n .down
    if 3 ≤ (lastSecond u.time (s.port n).trainFailAt ++ [u.time]).length then w.retirePort n 2 else w) := by
  change execTrainingTimeout n s = _
  unfold execTrainingTimeout
  rw [State.onPort_eq hn hclock]
  exact congrArg Host.Outcome.next (if_pos hst)

theorem exec_portEnable : exec (.portEnable n) s = .next (s.portOn n) := State.onPort_eq hn hclock (·.portOn n)

theorem exec_portDisable : exec (.portDisable n) s = .next (s.portOff n) := State.onPort_eq hn hclock (·.portOff n)

theorem exec_portDrain (on : Bool) : exec (.portDrain n on) s = .next (s.portDrain n on) :=
  State.onPort_eq hn hclock (·.portDrain n on)

theorem exec_retrain : exec (.retrain n) s = .next (s.portRetrain n) := State.onPort_eq hn hclock (·.portRetrain n)

theorem exec_unretire : exec (.unretire n) s = .next (s.portBack n) := State.onPort_eq hn hclock (·.portBack n)

theorem exec_lossOfSignal : exec (.lossOfSignal n) s = .next (s.portDown n) := State.onPort_eq hn hclock (·.portDown n)

end

/-! ## What EN, DRAIN, RETRAIN and UNRETIRE do to their port -/

/-- What entering a state leaves of a port that was changed just before. -/
theorem State.setPort_portTo_port (s : State) (n k : Nat) (v : Port) (st : PortState) :
    ((s.setPort n v).portTo n st).port k = if k = n then v.dark st s.time else s.port k := by
  rw [State.portTo_port]
  by_cases hk : k = n
  · simp [hk]
  · simp [hk]

section
variable {s : State} {n : Nat}

theorem State.portOn_of_disabled (hst : (s.port n).st = .disabled) :
    s.portOn n = (s.setPort n { s.port n with en := true }).portTo n .down :=
  if_pos (by simp [hst])

theorem State.portOn_of_not_disabled (hst : (s.port n).st ≠ .disabled) :
    s.portOn n = s.setPort n { s.port n with en := true } :=
  if_neg (by simp [hst])

theorem State.portOff_of_working (hret : (s.port n).st ≠ .retired) (hpass : (s.port n).st ≠ .pass) :
    s.portOff n = (s.setPort n { s.port n with en := false }).portTo n .disabled :=
  if_neg (by simp [hret, hpass])

theorem State.portOff_of_out (hst : (s.port n).st = .retired ∨ (s.port n).st = .pass) :
    s.portOff n = s.setPort n { s.port n with en := false } :=
  if_pos (by simpa using hst)

/-- DRAIN moves a port between UP and DRAIN, and no other. -/
theorem State.portDrain_port (on : Bool) (k : Nat) : (s.portDrain n on).port k = if k = n then { s.port n with
    drainBit := on
    st := if on = true ∧ (s.port n).st = .up then .drain else if on = false ∧ (s.port n).st = .drain then .up else (s.port n).st }
    else s.port k := by
  unfold State.portDrain
  rw [(State.adopt_portsStay _).port, State.setPort_port]
  simp

/-- UNRETIRE takes a port DOWN. -/
theorem State.portBack_port (hst : (s.port n).st = .retired) (k : Nat) :
    (s.portBack n).port k = if k = n then (s.port n).dark .down s.time else s.port k := by
  rw [← s.portTo_port n k .down, show s.portBack n = (s.portTo n .down).bbrPut (.portUnretire n) from if_pos hst]
  rfl

/-- A command that makes one change of one port. -/
theorem exec_port_becomes {c : Instr} {t : State} {w : Port} (h : exec c s = .next t)
    (hport : ∀ k, t.port k = if k = n then w else s.port k) :
    ∃ t, exec c s = .next t ∧ (∀ k, k ≠ n → t.port k = s.port k) ∧ t.port n = w :=
  ⟨t, h, fun k hk => (hport k).trans (if_neg hk), (hport n).trans (if_pos rfl)⟩

end

/-! ## The obligation -/

/-- Settles O49: each command is one change of its port, and what entering a state brings about leaves every port. -/
theorem portsFollowTheirLinks : Obligations.PortsFollowTheirLinks := by
  unfold Obligations.PortsFollowTheirLinks
  intro s n v now Only To dark downs bad hn hclock
  refine ⟨fun hlink => ?replay, ?window, fun hst hlock => ?light, fun hst => ?linkUp, fun hst => ?timeout, fun hlink => ?lost,
    fun hst => ?enable, fun hst => ?enabled, fun hret hpass => ?disable, fun hst => ?kept, ?drain, ?undrain, fun hst => ?retrain,
    fun hiso hdrain => ?trained, fun hst => ?unretire, fun hst => ?unretired⟩
  case replay =>
    refine ⟨_, exec_flitReplay hn hclock hlink, fun k hk => ?_, ?_, ?_, ?_, rfl⟩
    · simp [hk]
    · simp [sat32, sat, v]
    · simp [v]
    · simp [v]
  case window =>
    obtain ⟨hothers, hcrc, hwins, hst⟩ := s.windowTold_spec n
    have htold := s.windowTold_evq n
    have htells : v.crcMs ≠ 0 → linkCrc now n v.crcMs ∈ (s.windowTold n).evq := fun hne => by
      rw [htold, if_neg hne]
      exact List.mem_append_right _ (List.mem_singleton_self _)
    by_cases hret : 10 ≤ bad ∧ (v.st = .hello ∨ v.st = .up ∨ v.st = .drain ∨ v.st = .down ∨ v.st = .training)
    · refine ⟨_, (exec_replayWindow hn hclock).trans (congrArg Host.Outcome.next (if_pos hret)), fun k hk => ?_, ?_,
        fun hne => (State.retirePort_evq _ n 1).subset (htells hne), fun _ hfew => absurd hret.1 (by omega),
        fun hfew => absurd hret.1 (by omega), fun _ _ => ⟨?_, (State.retirePort_spec _ n 1).2⟩⟩
      · rw [State.retirePort_port, if_neg hk, hothers k hk]
      · rw [State.retirePort_port, if_pos rfl]
        exact hcrc
      · rw [State.retirePort_port, if_pos rfl]
        rfl
    · exact ⟨_, (exec_replayWindow hn hclock).trans (congrArg Host.Outcome.next (if_neg hret)), hothers, hcrc, htells,
        fun hzero _ => htold.trans (if_pos hzero), fun _ => ⟨hwins, hst⟩, fun hmany hlive => absurd ⟨hmany, hlive⟩ hret⟩
  case light =>
    obtain ⟨pw, heq⟩ := exec_lightDetect hn hclock hst hlock
    refine ⟨_, heq, fun k hk => ?_, ?_, ?_⟩
    · rw [State.setPort_port, if_neg hk, State.portTo_port, if_neg hk]
      rfl
    · simp [State.portTo_port, Port.dark]
    · simp [State.portTo_port, Port.dark, now]
  case linkUp =>
    refine exec_port_becomes (exec_linkUp hn hclock hst) fun k => ?_
    rw [State.setPort_port, State.portTo_port, State.portTo_port, if_pos rfl]
    split_ifs <;> rfl
  case timeout =>
    intro τ ts
    have hafter k : (((s.at (v.stateAt + 10000000)).setPort n (v.trainFails τ)).portTo n .down).port k =
        if k = n then (v.trainFails τ).dark .down τ else s.port k := State.setPort_portTo_port _ _ _ _ _
    have htime : (((s.at (v.stateAt + 10000000)).setPort n (v.trainFails τ)).portTo n .down).time = τ := State.portTo_time _ _ _
    have heq := exec_trainingTimeout hn hclock hst
    by_cases hthird : 3 ≤ ts.length
    · refine ⟨_, heq.trans (congrArg Host.Outcome.next (if_pos hthird)), fun k hk => ?_,
        (State.retirePort_time _ n 2).trans htime, ?_, ?_, fun hfew => absurd hthird (by omega)⟩
      · rw [State.retirePort_port, if_neg hk]
        exact (hafter k).trans (if_neg hk)
      · rw [State.retirePort_port, if_pos rfl]
        exact congrArg Port.trainFail ((hafter n).trans (if_pos rfl))
      · rw [State.retirePort_port, if_pos rfl, if_pos hthird]
        rfl
    · refine ⟨_, heq.trans (congrArg Host.Outcome.next (if_neg hthird)), fun k hk => (hafter k).trans (if_neg hk), htime,
        congrArg Port.trainFail ((hafter n).trans (if_pos rfl)), ?_,
        fun _ => congrArg Port.trainFailAt ((hafter n).trans (if_pos rfl))⟩
      rw [if_neg hthird]
      exact congrArg Port.st ((hafter n).trans (if_pos rfl))
  case lost =>
    have hport := State.portDown_port hlink
    refine ⟨_, exec_lossOfSignal hn hclock, fun k hk => (hport k).trans (if_neg hk), ?_, ?_⟩
    · rw [hport, if_pos rfl]
      split_ifs <;> simp [Port.retire, Port.dark, Port.fall, sat16, sat, v]
    · rw [hport, if_pos rfl]
      simp only [Port.falls, downs, v, now]
      split_ifs <;> rfl
  case enable =>
    refine exec_port_becomes (exec_portEnable hn hclock) fun k => ?_
    rw [State.portOn_of_disabled hst, State.setPort_portTo_port]
    rfl
  case enabled => rw [exec_portEnable hn hclock, State.portOn_of_not_disabled hst]
  case disable =>
    refine exec_port_becomes (exec_portDisable hn hclock) fun k => ?_
    rw [State.portOff_of_working hret hpass, State.setPort_portTo_port]
    rfl
  case kept => rw [exec_portDisable hn hclock, State.portOff_of_out hst]
  case drain => exact exec_port_becomes (exec_portDrain hn hclock true) fun k => by simp [State.portDrain_port, v]
  case undrain => exact exec_port_becomes (exec_portDrain hn hclock false) fun k => by simp [State.portDrain_port, v]
  case retrain =>
    refine exec_port_becomes (exec_retrain hn hclock) fun k => ?_
    rw [State.portRetrain, if_pos hst, State.portTo_port]
    rfl
  case trained => rw [exec_retrain hn hclock, State.portRetrain, if_neg (not_or.mpr ⟨hiso, hdrain⟩)]
  case unretire => exact exec_port_becomes (exec_unretire hn hclock) (State.portBack_port hst)
  case unretired => rw [exec_unretire hn hclock, State.portBack, if_neg hst]

end Sys2Proof.Machine
end

section
/-! PROOFS. Rollouts and the fabric's counters (11, R364, R367, R369 to R371), Plait maps (11, R365, R366), and O46. The digest of
a configuration by `sha384Low` is log entry 43 (PRESUMED), MODE at APPLY with the way back to LOCAL at the settling log entry 42
(DEDUCED). -/

namespace Sys2Proof.Machine

/-! ## Rollouts -/

section
variable {s : State}

theorem State.cfgCommit_of_phase (hphase : s.dzf.phase ≠ 0) : s.cfgCommit = s.cfgResult 1 := if_pos hphase

/-- The staged epoch is the next one, up to 15 ahead, or the first. -/
def Dzf.epochFits (d : Dzf) : Prop :=
  d.epoch.toNat = 0 ∨ (1 ≤ (d.stgEpoch.toNat + 2 ^ 32 - d.epoch.toNat) % 2 ^ 32 ∧
    (d.stgEpoch.toNat + 2 ^ 32 - d.epoch.toNat) % 2 ^ 32 ≤ 15)

/-- COMMIT's test of the staged epoch. -/
theorem Dzf.epochBad_iff (d : Dzf) : (d.stgEpoch.toNat = 0 ∨ (d.epoch.toNat ≠ 0 ∧
    !(1 ≤ (d.stgEpoch.toNat + 2 ^ 32 - d.epoch.toNat) % 2 ^ 32 ∧ (d.stgEpoch.toNat + 2 ^ 32 - d.epoch.toNat) % 2 ^ 32 ≤ 15))) ↔
    d.stgEpoch.toNat = 0 ∨ ¬ d.epochFits := by
  unfold Dzf.epochFits
  simp only [Bool.not_eq_true', decide_eq_false_iff_not, not_or, ne_eq]

theorem State.cfgCommit_of_epoch (hphase : s.dzf.phase = 0) (hepoch : s.dzf.stgEpoch.toNat = 0 ∨ ¬ s.dzf.epochFits) :
    s.cfgCommit = s.cfgResult 2 :=
  (if_neg (not_not.mpr hphase)).trans (if_pos (s.dzf.epochBad_iff.mpr hepoch))

section
variable (hphase : s.dzf.phase = 0) (hepoch : s.dzf.stgEpoch.toNat ≠ 0) (hfits : s.dzf.epochFits)
include hphase hepoch hfits

theorem State.cfgCommit_of_image (himg : s.imgBad = true) : s.cfgCommit = s.cfgResult 3 := by
  have hgood := fun h => (not_or.mpr ⟨hepoch, not_not.mpr hfits⟩) (s.dzf.epochBad_iff.mp h)
  exact (if_neg (not_not.mpr hphase)).trans ((if_neg hgood).trans (if_pos himg))

/-- COMMIT takes the staged set into force; before the first there is no window of two epochs (11, R369, R371). -/
theorem State.cfgCommit_of_good (himg : s.imgBad = false) : s.cfgCommit = { s with dzf := { s.dzf with
    result := 0, phase := if s.dzf.epoch.toNat = 0 then 0 else 1
    prevEpoch := if s.dzf.epoch.toNat = 0 then s.dzf.prevEpoch else s.dzf.epoch
    prevDigest := if s.dzf.epoch.toNat = 0 then s.dzf.prevDigest else s.dzf.digest
    epoch := s.dzf.stgEpoch, digest := sha384Low s.cfgRecord, rgen := s.dzf.stgRgen
    group := s.dzf.groupSh, member := s.dzf.memberSh, ties := [] } } := by
  have hgood := fun h => (not_or.mpr ⟨hepoch, not_not.mpr hfits⟩) (s.dzf.epochBad_iff.mp h)
  exact (if_neg (not_not.mpr hphase)).trans ((if_neg hgood).trans (if_neg (by simp [himg])))

end

/-- A command of the fabric block while the clock runs. -/
theorem next_of_clocked (hclock : s.clocked = true) (t : State) :
    (Host.Outcome.next (if s.clocked then t else s) : Out) = .next t := congrArg Host.Outcome.next (if_pos hclock)

/-! ## The counters -/

/-- A port with its counters cleared (11, Table 11-18). -/
def Port.cleared (v : Port) : Port :=
  { v with crc := 0, fecUnc := 0, fecCor := 0, trainFail := 0, downs := 0, bad := 0, stall := 0 }

/-- Changes of the ports alone. -/
def PortsOnly (s t : State) : Prop := ∃ ps, t = { s with dzf := { s.dzf with ports := ps } }

theorem PortsOnly.setPort {t : State} (h : PortsOnly s t) (n : Nat) (v : Port) : PortsOnly s (t.setPort n v) := by
  obtain ⟨ps, rfl⟩ := h
  exact ⟨_, rfl⟩

end

/-- One change made to each port of a list. -/
theorem State.foldl_setPort_port (f : Port → Port) {ns : List Nat} (hnd : ns.Nodup) (s : State) (k : Nat) :
    (ns.foldl (fun s n => s.setPort n (f (s.port n))) s).port k = if k ∈ ns then f (s.port k) else s.port k := by
  induction ns generalizing s with
  | nil => rfl
  | cons n ns ih =>
    obtain ⟨hn, hrest⟩ := List.nodup_cons.mp hnd
    refine (ih hrest _).trans ?_
    by_cases hk : k = n
    · subst hk
      simp [hn]
    · simp [hk]

theorem State.dzfClear_spec (s : State) : ∃ ps,
    s.dzfClear = { s with dzf := { s.dzf with ports := ps, rcvd := 0, refused := 0, tie := 0 } } ∧
      ∀ n, n < 32 → s.dzfClear.port n = (s.port n).cleared := by
  have hport := State.foldl_setPort_port Port.cleared List.nodup_range (ns := List.range 32) s
  have honly : PortsOnly s ((List.range 32).foldl (fun s n => s.setPort n (s.port n).cleared) s) :=
    List.foldlRecOn _ _ (motive := PortsOnly s) ⟨_, rfl⟩ fun _ hu n _ => hu.setPort n _
  unfold State.dzfClear
  change ∀ n, ((List.range 32).foldl (fun s n => s.setPort n (s.port n).cleared) s).port n = _ at hport
  extract_lets u
  have hu : u = (List.range 32).foldl (fun s n => s.setPort n (s.port n).cleared) s := rfl
  rw [← hu] at hport honly
  clear_value u
  obtain ⟨ps, rfl⟩ := honly
  exact ⟨ps, rfl, fun n hn => (hport n).trans (if_pos (List.mem_range.mpr hn))⟩

/-! ## Plait maps -/

/-- The port a map goes by, as APPLY takes it into force (11, R365, Table 11-20). -/
def Port.takesMode (v : Port) : Port :=
  { v with
    mode := v.stgMode, peer := if v.stgMode = 1 then v.stgPeer else 0
    toLocal := decide (v.mode ≠ 0) && decide (v.stgMode = 0) }

/-- A port that leaves LOCAL is PASS at once. -/
def Port.plaited (v : Port) (now : Nat) : Port :=
  if v.mode = 0 ∧ v.stgMode ≠ 0 then v.takesMode.dark .pass now else v.takesMode

theorem Port.plaited_spec (v : Port) (now : Nat) :
    let w := v.plaited now
    w.mode = v.stgMode ∧ w.peer = (if v.stgMode = 1 then v.stgPeer else 0) ∧
      w.toLocal = (decide (v.mode ≠ 0) && decide (v.stgMode = 0)) ∧
      w.st = (if v.mode = 0 ∧ v.stgMode ≠ 0 then .pass else v.st) := by
  unfold Port.plaited
  by_cases haway : v.mode = 0 ∧ v.stgMode ≠ 0
  · rw [if_pos haway, if_pos haway]
    exact ⟨rfl, rfl, rfl, rfl⟩
  · rw [if_neg haway, if_neg haway]
    exact ⟨rfl, rfl, rfl, rfl⟩

theorem State.plaitPort_spec (s : State) (p : Nat) :
    (∀ k, (s.plaitPort p).port k = if k = p then (s.port p).plaited s.time else s.port k) ∧ (s.plaitPort p).time = s.time := by
  have heq : s.plaitPort p = if (s.port p).mode = 0 ∧ (s.port p).stgMode ≠ 0 then
      (s.setPort p (s.port p).takesMode).portTo p .pass else s.setPort p (s.port p).takesMode := by
    unfold State.plaitPort
    simp only [Bool.and_eq_true, decide_eq_true_eq]
    rfl
  rw [heq]
  unfold Port.plaited
  split_ifs
  · exact ⟨fun k => State.setPort_portTo_port _ _ _ _ _, State.portTo_time _ _ _⟩
  · exact ⟨fun k => State.setPort_port _ _ _ _, rfl⟩

/-- A change that each port of a list goes through by itself. -/
theorem State.foldl_port {f : State → Nat → State} {g : Nat → Port → Port}
    (hf : ∀ s n, (∀ k, (f s n).port k = if k = n then g s.time (s.port n) else s.port k) ∧ (f s n).time = s.time)
    {ns : List Nat} (hnd : ns.Nodup) (s : State) :
    (∀ k, (ns.foldl f s).port k = if k ∈ ns then g s.time (s.port k) else s.port k) ∧ (ns.foldl f s).time = s.time := by
  induction ns generalizing s with
  | nil => exact ⟨fun k => rfl, rfl⟩
  | cons n ns ih =>
    obtain ⟨hn, hrest⟩ := List.nodup_cons.mp hnd
    obtain ⟨hport, htime⟩ := hf s n
    obtain ⟨hports, htimes⟩ := ih hrest (f s n)
    refine ⟨fun k => (hports k).trans ?_, htimes.trans htime⟩
    rw [hport, htime]
    by_cases hk : k = n
    · subst hk
      simp [hn]
    · simp [hk]

/-- A port that was on its way back to LOCAL is DOWN (11, R366). -/
def Port.settledLocal (now : Nat) (v : Port) : Port :=
  if v.toLocal then ({ v with toLocal := false } : Port).dark .down now else v

/-- The couplers of one port have settled. -/
def State.settleLocal (s : State) (p : Nat) : State :=
  if (s.port p).toLocal then (s.setPort p { s.port p with toLocal := false }).portTo p .down else s

theorem State.settleLocal_spec (s : State) (p : Nat) :
    (∀ k, (s.settleLocal p).port k = if k = p then Port.settledLocal s.time (s.port p) else s.port k) ∧
      (s.settleLocal p).time = s.time := by
  unfold State.settleLocal Port.settledLocal
  split_ifs
  · exact ⟨fun k => State.setPort_portTo_port _ _ _ _ _, State.portTo_time _ _ _⟩
  · exact ⟨fun k => by split_ifs with hk <;> simp [*], rfl⟩

section
variable {s : State} {p : Nat}

/-- A map that some port speaks against is refused by the lowest such port. -/
theorem State.plaitApply_of_bad (hp : p < 32) (hbad : s.plaitBad p = true) (hlow : ∀ q, q < p → ¬ s.plaitBad q = true) :
    s.plaitApply = { s with dzf := { s.dzf with plaitRef := true, plaitPort := p } } := by
  have hfind : (List.range 32).find? s.plaitBad = some p :=
    List.find?_range_eq_some.mpr ⟨hbad, List.mem_range.mpr hp, fun q hq => by simpa using hlow q hq⟩
  unfold State.plaitApply
  rw [hfind]

theorem State.plaitApply_of_good (hgood : ∀ q, q < 32 → ¬ s.plaitBad q = true) :
    s.plaitApply = (let t := (List.range 32).foldl State.plaitPort s
      { t with dzf := { t.dzf with plaitRef := false, plaitPort := 0, plaitBusy := true, plaitAt := t.time } }) := by
  have hfind : (List.range 32).find? s.plaitBad = none :=
    List.find?_eq_none.mpr fun q hq => hgood q (List.mem_range.mp hq)
  unfold State.plaitApply
  rw [hfind]

theorem exec_plaitSettled (hbusy : s.dzf.plaitBusy = true) (hclock : s.clocked = true) : exec .plaitSettled s = .next (
    let t := (List.range 32).foldl State.settleLocal (s.at (s.dzf.plaitAt + 40000))
    { t with dzf := { t.dzf with plaitBusy := false } }) := by
  change execPlaitSettled s = _
  unfold execPlaitSettled State.settleLocal
  rw [if_pos (by simp [hbusy, hclock])]

end

/-- Settles O46: a rollout's command is one change of the fabric block, and a map's is one change of each port. -/
theorem rolloutsAndCircuitsChange : Obligations.RolloutsAndCircuitsChange := by
  unfold Obligations.RolloutsAndCircuitsChange
  refine ⟨?rollouts, ?maps⟩
  case' rollouts =>
    intro s d e c next Answers hclock
    refine ⟨fun hphase => ?busy, fun hphase hepoch => ?epoch, fun hphase he hnext himg => ?image,
      fun hphase he hnext himg => ?commit, fun hphase => ?advance, fun hphase => ?noAdvance, fun hphase => ?close,
      fun hphase => ?noClose, fun hphase => ?closed, ?clear⟩
  case' maps =>
    intro s p d bad hclock hp
    refine ⟨fun hbad hlow => ?refused, fun hgood => ?applied, fun hbusy => ?settled⟩
  case busy => exact (next_of_clocked hclock _).trans (congrArg Host.Outcome.next (State.cfgCommit_of_phase hphase))
  case epoch => exact (next_of_clocked hclock _).trans (congrArg Host.Outcome.next (State.cfgCommit_of_epoch hphase hepoch))
  case image =>
    exact (next_of_clocked hclock _).trans (congrArg Host.Outcome.next (State.cfgCommit_of_image hphase he hnext himg))
  case commit =>
    refine ⟨_, (next_of_clocked hclock _).trans (congrArg Host.Outcome.next (State.cfgCommit_of_good hphase he hnext himg)),
      rfl, rfl, rfl, rfl, rfl, rfl, rfl, rfl, rfl, fun hc => ⟨if_neg hc, if_neg hc, ?_⟩⟩
    simp only [Dzf.sendCfg, if_neg (show ¬ s.dzf.epoch.toNat = 0 from hc), if_true]
    rfl
  case advance => exact (next_of_clocked hclock _).trans (congrArg Host.Outcome.next (if_pos hphase))
  case noAdvance => exact (next_of_clocked hclock _).trans (congrArg Host.Outcome.next (if_neg hphase))
  case close => exact (next_of_clocked hclock _).trans (congrArg Host.Outcome.next (if_neg (not_not.mpr hphase)))
  case noClose => exact (next_of_clocked hclock _).trans (congrArg Host.Outcome.next (if_pos hphase))
  case closed => exact congrArg Host.Outcome.next (if_pos ⟨hphase, hclock⟩)
  case clear =>
    obtain ⟨ps, heq, hports⟩ := s.dzfClear_spec
    refine ⟨_, next_of_clocked hclock _, ?_, hports, ?_⟩
    · rw [heq]
    · rw [heq]
  case refused =>
    exact (next_of_clocked hclock _).trans (congrArg Host.Outcome.next (State.plaitApply_of_bad hp hbad hlow))
  case applied =>
    obtain ⟨hport, htime⟩ := State.foldl_port (g := fun now v => v.plaited now) State.plaitPort_spec List.nodup_range s
      (ns := List.range 32)
    refine ⟨_, (next_of_clocked hclock _).trans (congrArg Host.Outcome.next (State.plaitApply_of_good hgood)), ?_⟩
    generalize (List.range 32).foldl State.plaitPort s = t at hport htime
    refine ⟨rfl, rfl, htime, ?_⟩
    intro v w
    have hw : w = v.plaited s.time := (hport p).trans (if_pos (List.mem_range.mpr hp))
    rw [hw]
    exact v.plaited_spec s.time
  case settled =>
    obtain ⟨hport, htime⟩ := State.foldl_port (g := Port.settledLocal) State.settleLocal_spec List.nodup_range
      (s.at (s.dzf.plaitAt + 40000)) (ns := List.range 32)
    refine ⟨_, exec_plaitSettled hbusy hclock, ?_⟩
    generalize (List.range 32).foldl State.settleLocal (s.at (s.dzf.plaitAt + 40000)) = t at hport htime
    have hport : t.port p = Port.settledLocal _ (s.port p) := (hport p).trans (if_pos (List.mem_range.mpr hp))
    unfold Port.settledLocal at hport
    refine ⟨htime, rfl, (congrArg Port.toLocal hport).trans ?_, fun hback => (congrArg Port.st hport).trans ?_,
      fun hstays => hport.trans (if_neg (by simp [hstays]))⟩
    · split_ifs with hback
      · rfl
      · simpa using hback
    · rw [if_pos hback]
      rfl

end Sys2Proof.Machine
end

section
/-! PROOFS. HELLOs and the coordinator's tree, and O44 (11, R346, R349 to R351, R354). -/

namespace Sys2Proof.Machine

/-! ## Offers -/

theorem filterMap_eq_singleton {α β : Type} {f : α → Option β} {l : List α} {x : α} {y : β} (hnd : l.Nodup) (hx : x ∈ l)
    (hf : f x = some y) (hothers : ∀ z, z ≠ x → f z = none) : l.filterMap f = [y] := by
  obtain ⟨a, b, rfl⟩ := List.append_of_mem hx
  have hne : ∀ z, z ∈ a ++ b → z ≠ x := by
    rintro z hz rfl
    exact (List.nodup_middle.mp hnd).notMem hz
  have hnone (c : List α) (hc : ∀ z, z ∈ c → z ∈ a ++ b) : c.filterMap f = [] :=
    List.filterMap_eq_nil_iff.mpr fun z hz => hothers z (hne z (hc z hz))
  rw [List.filterMap_append, List.filterMap_cons, hf, hnone a fun z hz => List.mem_append_left _ hz,
    hnone b fun z hz => List.mem_append_right _ hz]
  rfl

theorem State.mem_upPorts {s : State} {n : Nat} : n ∈ s.upPorts ↔ n < 32 ∧ (s.port n).st = .up := by
  simp [State.upPorts]

/-- Without a neighbour nobody offers a coordinator. -/
theorem State.offers_of_alone {s : State} (halone : ∀ k, (s.port k).nbr = none) : s.offers = [] :=
  List.filterMap_eq_nil_iff.mpr fun k _ => by simp [halone k]

/-- The offer of the only neighbour, whose heartbeat has just gone on. -/
theorem State.offers_of_one {s : State} {n : Nat} {m : Hello} (hn : n < 32) (hst : (s.port n).st = .up)
    (hnbr : (s.port n).nbr = some m) (hbeat : (s.port n).nbrHbAt = s.time + 1) (hsolo : m.solo = false)
    (halone : ∀ k, k ≠ n → (s.port k).nbr = none) : s.offers = [(n, m.coord, min 254 (m.dist + 1))] := by
  refine filterMap_eq_singleton (List.nodup_range.filter _) (State.mem_upPorts.mpr ⟨hn, hst⟩) ?_ fun k hk => ?_
  · simp [hnbr, hbeat, hsolo]
  · simp [halone k hk]

section
variable {s : State}

/-- A lower UID that one neighbour alone offers is adopted through its port. -/
theorem State.adopt_of_one {n uid dist : Nat} (hsolo : s.dzf.solo = false) (hoffers : s.offers = [(n, uid, dist)])
    (hlow : uid < s.uid) : s.adopt = s.follow n uid dist := by
  unfold State.adopt
  simp [hsolo, hoffers, hlow, argMin]

/-- A node that stands under its own UID and hears no other keeps it. -/
theorem State.adopt_of_own (hsolo : s.dzf.solo = false) (hoffers : s.offers = []) (hdist : s.dzf.dist ≠ 0xFF)
    (hown : s.dzf.coordUid = s.uid) : s.adopt = s := by
  unfold State.adopt
  simp [hsolo, hoffers, hdist, hown, argMin]

/-- What adopting a coordinator through a port changes, and what it sends where the coordinator is new. -/
theorem State.follow_spec (port uid dist : Nat) : ∃ js,
    s.follow port uid dist = { s with
      dzf := { s.dzf with coordUid := uid, parent := some port, dist := dist, coord := false, solo := false }, joins := js } ∧
    (s.dzf.coordUid ≠ uid → js = s.joins ++ [if s.dzf.idValid then (3, port, s.uid, s.dzf.nodeId) else (1, port, s.uid, 0)]) := by
  unfold State.follow State.greet
  extract_lets d fresh u
  by_cases hfresh : fresh = true
  · rw [if_pos hfresh]
    refine ⟨_, ?_, fun _ => rfl⟩
    change (if s.dzf.idValid then _ else _) = _
    split_ifs <;> rfl
  · rw [if_neg hfresh]
    exact ⟨_, rfl, fun hne => absurd (by simp [fresh, d, hne]) hfresh⟩

/-! ## A HELLO -/

/-- A HELLO of another configuration is told, at most (11, R368). -/
theorem State.helloCfg_eq (n : Nat) (m : Hello) :
    ∃ ms e, s.helloCfg n m = { s with dzf := { s.dzf with misAt := ms }, evq := e } ∧ s.evq <+: e := by
  unfold State.helloCfg State.mismatch
  split_ifs
  · extract_lets last
    split_ifs
    · exact ⟨_, _, rfl, List.prefix_rfl⟩
    · exact ⟨_, _, rfl, List.prefix_append _ _⟩
  · exact ⟨_, _, rfl, List.prefix_rfl⟩

/-- Steering moves the time and what the node keeps of its offset, and nothing else of the fabric (11, R354). -/
theorem State.steer_spec (n : Nat) (m : Hello) :
    (∃ o st sy sl, (s.steer n m).dzf = { s.dzf with timeOfs := o, stepped := st, sync := sy, slew := sl }) ∧
      (s.steer n m).joins = s.joins ∧ (s.steer n m).evq = s.evq := by
  have hfr : Fr [.time, .dzf, .trv, .msix, .mgmt] s (s.steer n m) := fr_steer (fr_refl _ s) (by simp [Within]) n m
  refine ⟨?_, hfr .joins (by decide), hfr .evq (by decide)⟩
  unfold State.steer
  split_ifs
  · exact ⟨_, _, _, _, rfl⟩
  · exact ⟨_, _, _, _, rfl⟩
  · extract_lets ofs far was d u
    split_ifs
    · have hcond : Fr [.trv, .msix, .mgmt] u (u.condition 0x03 0 (ofs / 1000)) := fr_condition (fr_refl _ u) (by simp [Within]) _ _ _
      rw [show (u.condition 0x03 0 (ofs / 1000)).dzf = u.dzf from hcond .dzf (by decide)]
      exact ⟨_, _, _, _, rfl⟩
    · exact ⟨_, _, _, _, rfl⟩

/-- What follows on a HELLO once its port is settled: its configuration, the tree, the heartbeat and the time. -/
def State.afterHello (s : State) (n : Nat) (m : Hello) : State := ((s.helloCfg n m).adopt.takeHb n m).steer n m

/-- None of it changes a port or takes an event back. -/
theorem State.afterHello_keeps (n : Nat) (m : Hello) :
    (∀ k, (s.afterHello n m).port k = s.port k) ∧ s.evq <+: (s.afterHello n m).evq := by
  obtain ⟨ms, e, hcfg, hevq⟩ := s.helloCfg_eq n m
  have hadopt := (s.helloCfg n m).adopt_portsStay
  obtain ⟨⟨o, st, sy, sl, hdzf⟩, -, htold⟩ := ((s.helloCfg n m).adopt.takeHb n m).steer_spec n m
  have hbeat : ((s.helloCfg n m).adopt.takeHb n m).dzf.ports = s.dzf.ports ∧
      ((s.helloCfg n m).adopt.takeHb n m).evq = (s.helloCfg n m).adopt.evq := by
    have hports : (s.helloCfg n m).adopt.dzf.ports = s.dzf.ports := by rw [hadopt.ports, hcfg]
    unfold State.takeHb
    split_ifs <;> exact ⟨hports, rfl⟩
  constructor
  · intro k
    unfold State.port State.afterHello
    rw [hdzf, ← hbeat.1]
  · unfold State.afterHello
    rw [htold, hbeat.2]
    refine List.IsPrefix.trans ?_ hadopt.evq
    rw [hcfg]
    exact hevq

theorem exec_hello {n : Nat} {m : Hello} (hn : n < 32) (hclock : s.clocked = true) (hlink : linked (s.port n).st = true) :
    exec (.hello n m) s = .next (((s.keepHello n m).settlePort n m).afterHello n m) := by
  change execHello n m s = _
  unfold execHello
  rw [State.onPort_eq hn hclock]
  exact congrArg Host.Outcome.next (if_pos hlink)

/-- A port that takes a HELLO keeps its neighbour's words (11, R349). -/
theorem State.keepHello_port (n : Nat) (m : Hello) : ∃ b, ∀ k, (s.keepHello n m).port k =
    if k = n then { s.port n with nbr := some m, nbrAt := s.time, nbrHbAt := b } else s.port k := by
  unfold State.keepHello
  exact ⟨_, fun k => State.setPort_port _ _ k _⟩

theorem exec_helloSend {n : Nat} (hn : n < 32) (hclock : s.clocked = true) (hlink : linked (s.port n).st = true) :
    exec (.helloSend n) s = .next { s with hellos := s.hellos ++ [(n, s.helloOf n)] } := by
  change execHelloSend n s = _
  unfold execHelloSend
  rw [State.onPort_eq hn hclock]
  exact congrArg Host.Outcome.next (if_pos hlink)

/-! ## A port that settles its generation (11, R346, Table 11-3) -/

/-- With a common generation the port carries traffic. -/
theorem State.settlePort_of_common {n : Nat} {m : Hello} (hst : (s.port n).st = .hello) (hgen : bit m.genMap 0 = true)
    (hsolo : s.dzf.solo = false) : s.settlePort n m =
      s.setPort n { s.port n with st := if (s.port n).drainBit then .drain else .up, gen := 1, stateAt := s.time } := by
  unfold State.settlePort
  simp [hst, hgen, State.setPort, hsolo]

/-- Without one it is ISOLATED, and an event says so. -/
theorem State.settlePort_of_none {n : Nat} {m : Hello} (hst : (s.port n).st = .hello) (hgen : bit m.genMap 0 = false) :
    s.settlePort n m =
      (s.setPort n { s.port n with st := .isolated, gen := 0, stateAt := s.time }).raise 0x0805 0 0x05 n
        (shl n 4 + m.genMap % 16) := by
  unfold State.settlePort
  simp [hst, hgen]

/-- A port that no longer waits for a HELLO has nothing to settle. -/
theorem State.settlePort_of_settled {n : Nat} {m : Hello} (hst : (s.port n).st ≠ .hello) : s.settlePort n m = s :=
  if_pos hst

/-- An event is among those waiting. -/
theorem State.raise_raised (code cls unit index detail : Nat) : ∃ e, e ∈ (s.raise code cls unit index detail).evq ∧
    e.code = code ∧ e.cls = cls ∧ e.unit = unit ∧ e.index = index ∧ e.detail = detail :=
  ⟨_, List.mem_append_right _ (List.mem_singleton_self _), rfl, rfl, rfl, rfl, rfl⟩

/-- A heartbeat that goes on by one under the same coordinator is noted at the port. -/
theorem State.keepHello_of_beat {n : Nat} {m o : Hello} (hnbr : (s.port n).nbr = some o) (hcoord : o.coord = m.coord)
    (hbeat : m.hb = (o.hb + 1) % 2 ^ 32) (hfits : o.hb < 2 ^ 32) :
    s.keepHello n m = s.setPort n { s.port n with nbr := some m, nbrAt := s.time, nbrHbAt := s.time + 1 } := by
  have hne : o.hb ≠ m.hb := by omega
  have hahead : (m.hb + 2 ^ 32 - o.hb) % 2 ^ 32 < 2 ^ 31 := by omega
  unfold State.keepHello
  simp only [hnbr, hcoord, hahead, decide_true, Bool.and_true, decide_eq_true hne, if_true]

/-- A lower UID whose heartbeat has just gone on, heard through one port alone, becomes the node's coordinator. -/
theorem State.afterHello_adopts {n : Nat} {m : Hello} (hn : n < 32) (hst : (s.port n).st = .up) (hsolo : s.dzf.solo = false)
    (hnbr : (s.port n).nbr = some m) (hbeat : (s.port n).nbrHbAt = s.time + 1) (hnot : m.solo = false) (hlow : m.coord < s.uid)
    (halone : ∀ k, k ≠ n → (s.port k).nbr = none) :
    (s.afterHello n m).dzf.coordUid = m.coord ∧ (s.afterHello n m).dzf.parent = some n ∧
      (s.afterHello n m).dzf.dist = min 254 (m.dist + 1) ∧ (s.afterHello n m).dzf.coord = false ∧
      (s.afterHello n m).dzf.hb = m.hb ∧
      (s.dzf.coordUid ≠ m.coord → (s.afterHello n m).joins =
        s.joins ++ [if s.dzf.idValid then (3, n, s.uid, s.dzf.nodeId) else (1, n, s.uid, 0)]) := by
  obtain ⟨ms, e, hcfg, -⟩ := s.helloCfg_eq n m
  have hoffers : (s.helloCfg n m).offers = [(n, m.coord, min 254 (m.dist + 1))] := by
    rw [hcfg]
    exact State.offers_of_one hn hst hnbr hbeat hnot halone
  have hadopt : (s.helloCfg n m).adopt = (s.helloCfg n m).follow n m.coord (min 254 (m.dist + 1)) := by
    refine State.adopt_of_one ?_ hoffers ?_ <;> rw [hcfg]
    · exact hsolo
    · exact hlow
  obtain ⟨js, hfollow, hjoins⟩ := (s.helloCfg n m).follow_spec n m.coord (min 254 (m.dist + 1))
  have hhb : ((s.helloCfg n m).adopt.takeHb n m) =
      { (s.helloCfg n m).adopt with dzf := { (s.helloCfg n m).adopt.dzf with hb := m.hb } } :=
    if_pos (by rw [hadopt, hfollow])
  obtain ⟨⟨ofs, st, sy, sl, hdzf⟩, hsent, -⟩ := ((s.helloCfg n m).adopt.takeHb n m).steer_spec n m
  change (s.afterHello n m).dzf = _ at hdzf
  change (s.afterHello n m).joins = _ at hsent
  rw [hhb, hadopt, hfollow] at hdzf hsent
  refine ⟨?coordUid, ?parent, ?dist, ?coord, ?hb, fun hnew => ?joins⟩
  case joins =>
    refine hsent.trans ((hjoins ?_).trans ?_) <;> rw [hcfg]
    · exact hnew
    · rfl
  all_goals rw [hdzf]

/-! ## The coordinator itself (11, R350 to R352) -/

/-- Losing an ID tells it, and changes nothing of the fabric but the ID. -/
theorem State.loseId_spec : s.loseId.dzf = { s.dzf with idValid := false, nodeId := 0xFFFF } ∧ s.loseId.time = s.time ∧
    s.loseId.joins = s.joins := by
  have hfr : Fr [.trv, .msix, .mgmt] _ s.loseId := fr_condition (fr_refl _ _) (by simp [Within]) 0x04 0 (s.dzf.nodeId : Int)
  exact ⟨hfr .dzf (by decide), hfr .time (by decide), hfr .joins (by decide)⟩

/-- The coordinator's own grant moves its ID and the list of grants, and not its place in the tree. -/
theorem State.selfId_keeps : s.selfId.time = s.time ∧ s.selfId.dzf.coord = s.dzf.coord ∧
    s.selfId.dzf.parent = s.dzf.parent ∧ s.selfId.dzf.dist = s.dzf.dist ∧ s.selfId.dzf.sync = s.dzf.sync := by
  have hlost : ∃ t : State, (if s.dzf.idValid ∧ !s.grantable s.uid s.dzf.nodeId then s.loseId else s) = t ∧ t.time = s.time ∧
      t.dzf.coord = s.dzf.coord ∧ t.dzf.parent = s.dzf.parent ∧ t.dzf.dist = s.dzf.dist ∧ t.dzf.sync = s.dzf.sync := by
    obtain ⟨hdzf, htime, -⟩ := s.loseId_spec
    split_ifs
    · refine ⟨_, rfl, htime, ?_⟩
      rw [hdzf]
      exact ⟨rfl, rfl, rfl, rfl⟩
    · exact ⟨_, rfl, rfl, rfl, rfl, rfl, rfl⟩
  obtain ⟨t, ht, hkept⟩ := hlost
  unfold State.selfId
  rw [ht]
  extract_lets u
  split_ifs
  · exact hkept
  · split <;> exact hkept

/-- The map names the ID of its UID first. -/
theorem State.chooseId_of_mapped {uid i : Nat} (hmap : idOf s.dzf.idmap uid = some i) : s.chooseId uid = some i := by
  unfold State.chooseId
  rw [hmap]

/-- Without an ID the coordinator takes the one the rule names. -/
theorem State.selfId_of_mapped {i : Nat} (hid : s.dzf.idValid = false) (hmap : idOf s.dzf.idmap s.uid = some i) :
    s.selfId.dzf.idValid = true ∧ s.selfId.dzf.nodeId = i := by
  unfold State.selfId
  simp [hid, State.chooseId_of_mapped hmap, State.noteAssigned]

/-- The state of a node that nobody below it reaches for 10 ms, before it grants itself an ID. -/
def State.crowned (s : State) : State :=
  { s.at (s.dzf.coordAt + 10000000) with dzf := { s.dzf with
      coord := true, parent := none, dist := 0, assigned := [], sync := true, stepped := true, timeOfs := 0, slew := 0 } }

theorem exec_coordTimeout (hclock : s.clocked = true) (hsolo : s.dzf.solo = false) (hcoord : s.dzf.coord = false)
    (hdist : s.dzf.dist ≠ 0xFF) (hown : s.dzf.coordUid = s.uid) (halone : ∀ k, (s.port k).nbr = none) :
    exec .coordTimeout s = .next s.crowned.selfId := by
  have hadopt : (s.at (s.dzf.coordAt + 10000000)).adopt = s.at (s.dzf.coordAt + 10000000) :=
    State.adopt_of_own hsolo (State.offers_of_alone halone) hdist hown
  change execCoordTimeout s = _
  unfold execCoordTimeout
  simp only [hclock, hsolo, hcoord, hdist, hown, hadopt, decide_false, Bool.not_true, Bool.or_false, Bool.false_eq_true, if_true,
    if_false]
  exact congrArg Host.Outcome.next (if_pos hown)

end

/-- Settles O44: a HELLO's port is settled first, and what follows on it changes no port; the tree follows the one neighbour's
offer, or the node's own UID where it hears nobody. -/
theorem hellosBuildTheTree : Obligations.HellosBuildTheTree := by
  unfold Obligations.HellosBuildTheTree
  intro s n m v hclock
  refine ⟨?send, ?up, ?isolated, ?adopt, ?beat, ?crown, ?alone⟩
  case send =>
    intro hn hlink
    exact exec_helloSend hn hclock hlink
  case up =>
    intro hn hst hsolo hgen
    obtain ⟨b, hport⟩ := s.keepHello_port n m
    have hself : (s.keepHello n m).port n = { v with nbr := some m, nbrAt := s.time, nbrHbAt := b } := (hport n).trans (if_pos rfl)
    obtain ⟨hafter, -⟩ := ((s.keepHello n m).settlePort n m).afterHello_keeps n m
    refine ⟨_, exec_hello hn hclock (by rw [show (s.port n).st = _ from hst]; rfl), ?_⟩
    rw [State.settlePort_of_common ((congrArg Port.st hself).trans hst) hgen hsolo, hself] at hafter ⊢
    simp only [hafter, State.setPort_port, if_true]
    exact ⟨trivial, trivial, trivial, trivial, fun k hk => by rw [if_neg hk, hport k, if_neg hk]⟩
  case isolated =>
    intro hn hst hgen
    obtain ⟨b, hport⟩ := s.keepHello_port n m
    have hself : (s.keepHello n m).port n = { v with nbr := some m, nbrAt := s.time, nbrHbAt := b } := (hport n).trans (if_pos rfl)
    obtain ⟨hafter, hevq⟩ := ((s.keepHello n m).settlePort n m).afterHello_keeps n m
    refine ⟨_, exec_hello hn hclock (by rw [show (s.port n).st = _ from hst]; rfl), ?_⟩
    rw [State.settlePort_of_none ((congrArg Port.st hself).trans hst) hgen, hself] at hafter hevq ⊢
    obtain ⟨e, hmem, htold⟩ := State.raise_raised (s := (s.keepHello n m).setPort n
      { v with nbr := some m, nbrAt := s.time, nbrHbAt := b, st := .isolated, gen := 0, stateAt := s.time }) 0x0805 0 0x05 n
      (shl n 4 + m.genMap % 16)
    simp only [hafter, State.raise_keeps, State.setPort_port, if_true]
    exact ⟨trivial, trivial, trivial, fun k hk => by rw [if_neg hk, hport k, if_neg hk], e, hevq.subset hmem, htold⟩
  case adopt =>
    intro o hn hst hsolo hnbr hcoord hbeat hfits hnot hlow halone
    have hkeep := State.keepHello_of_beat hnbr hcoord hbeat hfits
    refine ⟨_, exec_hello hn hclock (by rw [show (s.port n).st = _ from hst]; rfl), ?_⟩
    have hself := State.setPort_port s n n { v with nbr := some m, nbrAt := s.time, nbrHbAt := s.time + 1 }
    rw [if_pos rfl] at hself
    rw [hkeep, State.settlePort_of_settled (by rw [hself]; simp [hst])]
    exact State.afterHello_adopts hn ((congrArg Port.st hself).trans hst) hsolo (congrArg Port.nbr hself)
      (congrArg Port.nbrHbAt hself) hnot hlow fun k hk => by rw [State.setPort_port, if_neg hk, halone k hk]
  case beat =>
    intro hcoord
    exact congrArg Host.Outcome.next (if_pos (by rw [hcoord, hclock]; rfl))
  case crown =>
    intro hsolo hcoord hdist hown halone
    obtain ⟨htime, hself, hparent, hroot, hsync⟩ := s.crowned.selfId_keeps
    exact ⟨_, exec_coordTimeout hclock hsolo hcoord hdist hown halone, htime, hself, hparent, hroot, hsync,
      fun i hid hmap => s.crowned.selfId_of_mapped hid hmap⟩
  case alone =>
    intro hsolo hup
    change execSoloStart s = _
    unfold execSoloStart
    exact congrArg Host.Outcome.next (if_neg (by simp [hclock, hsolo, hup]))

end Sys2Proof.Machine
end

section
/-! PROOFS. Node IDs asked for, granted and denied, and O45 (11, R352, R353, Table 11-19). -/

namespace Sys2Proof.Machine

section
variable {s : State} {n : Nat}

/-! ## A node's own ID -/

theorem State.uid_eq_of_trv {t : State} (h : t.trv = s.trv) : t.uid = s.uid := by
  unfold State.uid State.fuseData State.fuseValid State.fuse
  rw [h]

/-- A notice touches no fuse. -/
theorem State.notice_uid (kind index : Nat) (detail : Int) : (s.notice kind index detail).uid = s.uid := by
  unfold State.notice
  extract_lets t
  split_ifs
  · rfl
  · have hfr (u : State) : Fr [.msix] u (u.msi 0 1) := fr_msi (fr_refl _ _) (by simp [Within]) 0 1
    exact (State.uid_eq_of_trv (hfr _ .trv (by decide))).trans rfl

/-- Telling a condition touches no fuse, so the node's UID stands. -/
theorem State.condition_uid (kind idx : Nat) (detail : Int) : (s.condition kind idx detail).uid = s.uid := by
  unfold State.condition
  split_ifs
  · extract_lets m u
    have hsent : Fr [.mgmt] s u := fr_foldl _ _ _ _ _ (fr_refl _ _) fun t x ht => by
      split_ifs
      · exact fr_send ht (by simp [Within]) _
      · exact ht
    refine (State.notice_uid _ _ _).trans (State.uid_eq_of_trv (hsent .trv (by decide)))
  · rfl

/-- Losing an ID leaves the node's UID. -/
theorem State.loseId_uid : s.loseId.uid = s.uid :=
  State.condition_uid (s := { s with dzf := { s.dzf with idValid := false, nodeId := 0xFFFF } }) 0x04 0 (s.dzf.nodeId : Int)

/-! ## What the tree's records hold -/

theorem idOf_append_self {l : List (Nat × Nat)} {uid i : Nat} (hnew : ∀ e, e ∈ l → e.1 ≠ uid) :
    idOf (l ++ [(uid, i)]) uid = some i := by
  unfold idOf
  rw [List.find?_append, List.find?_eq_none.mpr (by simpa using hnew)]
  simp

/-- The port a request came up by is found again under its UID (log entry 40, DEDUCED). -/
theorem State.noteUp_upFrom (port uid : Nat) : idOf (s.noteUp port uid).dzf.upFrom uid = some port :=
  idOf_append_self fun e he => by simpa using (List.mem_filter.mp he).2

/-- A grant's way down is recorded under its node. -/
theorem State.noteDown_downPath (port node : Nat) : tget noneDflt (s.noteDown port node).dzf.downPath node = some port := by
  unfold State.noteDown
  simp [tget_tset]

/-- The coordinator's grants hold the pair. -/
theorem State.mem_noteAssigned (uid node : Nat) : (uid, node) ∈ (s.noteAssigned uid node).dzf.assigned :=
  List.mem_append_right _ (List.mem_singleton_self _)

/-! ## The messages -/

/-- A tree message that comes by a port that is UP is the tree's to judge. -/
theorem State.onTree_eq (hn : n < 32) (hclock : s.clocked = true) (hup : (s.port n).st = .up) (f : State → State) :
    s.onTree n f = .next (f s) := by
  unfold State.onTree
  rw [State.onPort_eq hn hclock]
  exact congrArg Host.Outcome.next (if_pos (by simp [State.carries, hup]))

/-- A request goes up through the parent, and its port is kept. -/
theorem State.passUp_spec {p : Nat} (hparent : s.dzf.parent = some p) (sub uid node : Nat) :
    (s.passUp sub n uid node).joins = s.joins ++ [(sub, p, uid, node)] ∧
      idOf (s.passUp sub n uid node).dzf.upFrom uid = some n := by
  have hup : (s.noteUp n uid).dzf.parent = some p := hparent
  unfold State.passUp
  simp only [hup]
  exact ⟨rfl, State.noteUp_upFrom n uid⟩

/-- A grant goes down by the port its request came up by, and leaves its way. -/
theorem State.passDown_spec {p uid : Nat} (hfrom : idOf s.dzf.upFrom uid = some p) (sub node : Nat) :
    (s.passDown sub uid node true).joins = s.joins ++ [(sub, p, uid, node)] ∧
      tget noneDflt (s.passDown sub uid node true).dzf.downPath node = some p := by
  unfold State.passDown
  simp only [hfrom, if_true]
  exact ⟨rfl, State.noteDown_downPath p node⟩

/-- A denial goes down the same way and leaves nothing. -/
theorem State.passDown_denied {p uid : Nat} (hfrom : idOf s.dzf.upFrom uid = some p) (sub node : Nat) :
    s.passDown sub uid node false = { s with joins := s.joins ++ [(sub, p, uid, node)] } := by
  unfold State.passDown
  simp only [hfrom]
  rfl

/-- A grant of the coordinator is sent back by its port, noted, and its way recorded. -/
theorem State.granted_spec (sub uid node : Nat) :
    let t := (((s.noteAssigned uid node).noteUp n uid).noteDown n node).putJoin sub n uid node
    t.joins = s.joins ++ [(sub, n, uid, node)] ∧ (uid, node) ∈ t.dzf.assigned ∧ tget noneDflt t.dzf.downPath node = some n :=
  ⟨rfl, State.mem_noteAssigned uid node, State.noteDown_downPath (s := (s.noteAssigned uid node).noteUp n uid) n node⟩

/-- The node whose own claim is denied drops its ID and joins. -/
theorem State.deny_own {node p : Nat} (hid : s.dzf.idValid = true) (hnode : s.dzf.nodeId = node)
    (hparent : s.dzf.parent = some p) : (s.deny s.uid node).dzf.idValid = false ∧ (s.deny s.uid node).dzf.nodeId = 0xFFFF ∧
      (s.deny s.uid node).joins = s.joins ++ [(1, p, s.uid, 0)] := by
  obtain ⟨hdzf, -, hjoins⟩ := s.loseId_spec
  have hup : s.loseId.dzf.parent = some p := by rw [hdzf]; exact hparent
  unfold State.deny
  rw [if_pos rfl, if_pos ⟨hid, hnode⟩]
  simp only [hup]
  refine ⟨(congrArg Dzf.idValid hdzf : _), (congrArg Dzf.nodeId hdzf : _), ?_⟩
  unfold State.putJoin
  rw [State.loseId_uid, hjoins]

/-- An MGT packet for this node that comes by a port that is UP is delivered. -/
theorem exec_mgt {m : Packet} (hn : n < 32) (hclock : s.clocked = true) (hup : (s.port n).st = .up) (htype : m.type = 7)
    (hmine : s.isMine m = true) : exec (.mgt n m) s = .next (s.mgtIn n m) := by
  have hcarries : s.carries n = true := by simp [State.carries, hup]
  change guard (portOk n) (s.arrival 0x07 n m (·.mgtIn n m)) = _
  unfold State.arrival portOk guard
  simp [hn, hclock, hcarries, htype, hmine]

/-- What the subtypes of the tree say. -/
theorem State.mgtIn_tree {m : Packet} (hcfg : (s.dzf.acceptCfg m.cfg).isSome = true) :
    let u := leNat ((m.payload.drop 1).take 16)
    let k := leNat ((m.payload.drop 17).take 2)
    (m.payload.getD 0 0 = 1 → s.mgtIn n m = s.join n u) ∧ (m.payload.getD 0 0 = 2 → s.mgtIn n m = s.assign u k) ∧
      (m.payload.getD 0 0 = 3 → s.mgtIn n m = s.claim n u k) ∧ (m.payload.getD 0 0 = 4 → s.mgtIn n m = s.deny u k) := by
  refine ⟨?_, ?_, ?_, ?_⟩ <;> intro hsub <;> unfold State.mgtIn <;> rw [if_pos hcfg, hsub] <;> rfl

/-- With room in the map the pair replaces any entry for either (11, Table 11-19). -/
theorem State.idmapWr_of_room {node : Nat} (hnode : node ≤ 32767) (hroom : s.dzf.idmap.length < 32768) :
    s.idmapWr node = { s with dzf := { s.dzf with
      idmapId := node
      idmap := s.dzf.idmap.filter (fun e => e.1 != s.dzf.mapUid && e.2 != node) ++ [(s.dzf.mapUid, node)] } } := by
  have hfits : node % 2 ^ 16 = node := by omega
  unfold State.idmapWr
  rw [hfits]
  have hnot : ¬(32767 < node ∨ (decide (32768 ≤ s.dzf.idmap.length) && decide ((s.dzf.idmap.filter
      (fun e => e.1 != s.dzf.mapUid && e.2 != node)).length = s.dzf.idmap.length)) = true) := by
    simp only [Bool.and_eq_true, decide_eq_true_eq]
    omega
  exact congrArg (fun x => ({ s with dzf := x } : State)) (if_neg hnot)

/-- An ID that no node may have is kept in its register and enters no map. -/
theorem State.idmapWr_of_high {node : Nat} (hhigh : 32767 < node) (hfits : node < 65536) :
    s.idmapWr node = { s with dzf := { s.dzf with idmapId := node } } := by
  have hfits : node % 2 ^ 16 = node := by omega
  unfold State.idmapWr
  rw [hfits]
  exact congrArg (fun x => ({ s with dzf := x } : State)) (if_pos (.inl hhigh))

end

/-- Settles O45: a tree message on a port that is UP goes to the coordinator, to the node itself, or on by the way the tree
keeps for it; an MGT packet only carries it there. -/
theorem nodeIdsAreAskedForAndGranted : Obligations.NodeIdsAreAskedForAndGranted := by
  unfold Obligations.NodeIdsAreAskedForAndGranted
  intro s n uid node p d hn hclock hup
  have hjoin (u : Nat) : exec (.join n u) s = .next (s.join n u) := State.onTree_eq hn hclock hup (·.join n u)
  have hassign (u k : Nat) : exec (.assign n u k) s = .next (s.assign u k) := State.onTree_eq hn hclock hup (·.assign u k)
  have hclaim (u k : Nat) : exec (.claim n u k) s = .next (s.claim n u k) := State.onTree_eq hn hclock hup (·.claim n u k)
  have hdeny (u k : Nat) : exec (.deny n u k) s = .next (s.deny u k) := State.onTree_eq hn hclock hup (·.deny u k)
  have hbelow (h : d.coord = false) : ¬ s.dzf.coord = true := by simp [show s.dzf.coord = false from h]
  refine ⟨?grant, ?mapped, ?ask, ?own, ?down, ?claimed, ?refused, ?claimUp, ?denied, ?denyDown, ?again, ?packet, ?wr, ?wrHigh, ?del⟩
  case grant =>
    intro i hcoord hchoice
    refine ⟨_, hjoin _, ?_⟩
    rw [show s.join n uid = _ from if_pos hcoord]
    simp only [hchoice]
    exact State.granted_spec 2 uid i
  case mapped => exact fun i hmap => State.chooseId_of_mapped hmap
  case ask =>
    intro hcoord hparent
    refine ⟨_, hjoin _, ?_⟩
    rw [show s.join n uid = _ from if_neg (hbelow hcoord)]
    exact State.passUp_spec hparent 1 uid 0
  case own => exact (hassign _ _).trans (congrArg Host.Outcome.next (if_pos rfl))
  case down =>
    intro hother hfrom
    refine ⟨_, hassign _ _, ?_⟩
    rw [show s.assign uid node = _ from if_neg hother]
    exact State.passDown_spec hfrom 2 node
  case claimed =>
    intro hcoord hgrant
    refine ⟨_, hclaim _ _, ?_⟩
    rw [show s.claim n uid node = _ from (if_pos hcoord).trans (if_pos hgrant)]
    exact State.granted_spec 3 uid node
  case refused =>
    intro hcoord hgrant
    exact (hclaim _ _).trans (congrArg Host.Outcome.next ((if_pos hcoord).trans (if_neg (by simp [hgrant]))))
  case claimUp =>
    intro hcoord hparent hother
    have hnot : s.dzf.parent ≠ some n := by
      rw [show s.dzf.parent = _ from hparent]
      simpa using hother
    refine ⟨_, hclaim _ _, ?_⟩
    rw [show s.claim n uid node = _ from (if_neg (hbelow hcoord)).trans (if_neg hnot)]
    exact State.passUp_spec hparent 3 uid node
  case denied => exact fun hid hnode hparent => ⟨_, hdeny _ _, State.deny_own hid hnode hparent⟩
  case denyDown =>
    intro hother hfrom
    have hdown : s.deny uid node = s.passDown 4 uid node false := if_neg hother
    rw [hdeny, hdown, State.passDown_denied hfrom]
  case again =>
    intro hid hparent
    change execJoinResend s = _
    unfold execJoinResend
    rw [show s.dzf.parent = _ from hparent]
    exact congrArg Host.Outcome.next (if_pos (by simp [hclock, show s.dzf.idValid = _ from hid]))
  case packet =>
    intro m htype hmine hcfg
    obtain ⟨htoJoin, htoAssign, htoClaim, htoDeny⟩ := State.mgtIn_tree (n := n) hcfg
    rw [exec_mgt hn hclock hup htype hmine]
    refine ⟨fun h => ?_, fun h => ?_, fun h => ?_, fun h => ?_⟩
    · rw [htoJoin h, hjoin]
    · rw [htoAssign h, hassign]
    · rw [htoClaim h, hclaim]
    · rw [htoDeny h, hdeny]
  case wr =>
    intro hnode hroom
    exact congrArg Host.Outcome.next (State.idmapWr_of_room hnode hroom)
  case wrHigh =>
    intro hhigh hfits
    exact congrArg Host.Outcome.next (State.idmapWr_of_high hhigh hfits)
  case del => rfl

end Sys2Proof.Machine
end

section
/-! PROOFS. Basket control, and O32 (14, R438 to R440, Table 14-8). -/

namespace Sys2Proof.Machine

section
variable {s : State} {h : Nat}

/-! ## A drain begins -/

/-- A turn of the structural test goes to a Basket in service. -/
theorem State.testTurn_bsk_of_idle {k : Nat} (hidle : inService (s.bsk k) = false) : s.testTurn.bsk k = s.bsk k := by
  unfold State.testTurn
  split_ifs
  · rfl
  · split
    next j hfound =>
      have hserves := List.find?_some hfound
      have hk : k ≠ j := by
        rintro rfl
        simp [hidle] at hserves
      rw [State.setBsk_bsk, if_neg hk]
    · rfl

/-- What a drain's beginning leaves of every Basket. -/
theorem State.drainBsk_spec (s : State) (h : Nat) (why : DrainFor) :
    let t := s.drainBsk h why
    (t.bsk h).st = .draining ∧ (t.bsk h).drainFor = why ∧ (t.bsk h).inflight = (s.bsk h).inflight ∧ (t.bsk h).testDefer = none ∧
      ∀ k, k ≠ h → (t.bsk k).st = (s.bsk k).st ∧ (t.bsk k).inflight = (s.bsk k).inflight := by
  intro t
  obtain ⟨told, htold⟩ := s.abandonIn_bsk h h
  let u := (s.abandonIn h).setBsk h { (s.abandonIn h).bsk h with st := .draining, drainFor := why, testDefer := none }
  have hu : u.bsk h = { (s.abandonIn h).bsk h with st := .draining, drainFor := why, testDefer := none } :=
    (State.setBsk_bsk _ _ _ _).trans (if_pos rfl)
  have hself : t.bsk h = u.bsk h := State.testTurn_bsk_of_idle (by rw [hu]; rfl)
  rw [hself, hu, htold]
  refine ⟨rfl, rfl, rfl, rfl, fun k hk => ?_⟩
  obtain ⟨other, hother⟩ := s.abandonIn_bsk h k
  obtain ⟨d, hd⟩ := u.testTurn_bsk k
  have hk : u.bsk k = { s.bsk k with spareTold := other } := ((State.setBsk_bsk _ _ _ _).trans (if_neg hk)).trans hother
  rw [show t.bsk k = _ from hd, hk]
  exact ⟨rfl, rfl⟩

/-! ## COMMIT -/

/-- A staged register takes its value in its own Basket, and no Basket changes its state or its scale class. -/
theorem takeStaged_keeps (s : State) (h : Nat) (e : Nat × W32) (k : Nat) :
    ((takeStaged s h e).bsk k).st = (s.bsk k).st ∧ ((takeStaged s h e).bsk k).cls = (s.bsk k).cls := by
  have hself (b : Basket) (hb : b.st = (s.bsk h).st ∧ b.cls = (s.bsk h).cls) :
      ((s.setBsk h b).bsk k).st = (s.bsk k).st ∧ ((s.setBsk h b).bsk k).cls = (s.bsk k).cls := by
    rw [State.setBsk_bsk]
    split_ifs with hk
    · rw [hk]
      exact hb
    · exact ⟨rfl, rfl⟩
  unfold takeStaged
  dsimp only
  split
  case h_7 =>
    split_ifs
    · exact ⟨rfl, rfl⟩
    · exact ⟨rfl, rfl⟩
  all_goals exact hself _ ⟨rfl, rfl⟩

/-- The state in which every staged register of a Basket has its value. -/
def State.allStaged (s : State) (h : Nat) : State := (s.bsk h).staged.foldl (fun s e => takeStaged s h e) s

theorem State.allStaged_keeps (s : State) (h k : Nat) :
    ((s.allStaged h).bsk k).st = (s.bsk k).st ∧ ((s.allStaged h).bsk k).cls = (s.bsk k).cls :=
  List.foldlRecOn (motive := fun u : State => (u.bsk k).st = (s.bsk k).st ∧ (u.bsk k).cls = (s.bsk k).cls) _ _ ⟨rfl, rfl⟩
    fun u hu e _ => ⟨(takeStaged_keeps u h e k).1.trans hu.1, (takeStaged_keeps u h e k).2.trans hu.2⟩

theorem State.allStaged_fr (s : State) (h : Nat) : Fr [.baskets, .pans] s (s.allStaged h) :=
  fr_foldl _ _ _ _ _ (fr_refl _ s) fun _ _ hu => fr_takeStaged hu (by simp [Within]) _ _

/-- A Basket that has the part's scale class already takes no other. -/
theorem State.takeClass_of_same (hcls : (s.bsk h).cls = s.dev.cls.toNat) :
    s.takeClass h = s.setBsk h { s.bsk h with clsPend := false } := by
  unfold State.takeClass
  rw [← hcls]
  have hslots : bskSlots ((s.setBsk h { s.bsk h with cls := (s.bsk h).cls, clsPend := false }).bsk h) = bskSlots (s.bsk h) := by
    rw [State.setBsk_bsk, if_pos rfl]
    rfl
  dsimp only
  rw [hslots, if_neg (lt_irrefl _), if_neg (lt_irrefl _)]

/-- A Basket that is READY settles in RUN with streams. -/
theorem State.settleBsk_of_ready (hst : (s.bsk h).st = .ready) :
    s.settleBsk h = s.setBsk h { s.bsk h with st := if s.held h = [] then .ready else .run } := by
  unfold State.settleBsk
  simp [inService, hst]

/-- A Basket as a COMMIT enters it. -/
def Basket.committed (b : Basket) : Basket :=
  { b with st := .ready, pendEn := false, ign := false, staged := [], clsPend := false }

/-- What a COMMIT without a new scale class leaves (14, R439). -/
theorem State.commitBsk_spec (s : State) (h : Nat) (hcls : (s.bsk h).cls = s.dev.cls.toNat) :
    (∃ d, (s.commitBsk h).bsk h =
      { ((s.allStaged h).bsk h).committed with st := if s.held h = [] then .ready else .run, testDefer := d }) ∧
      ∀ k, k ≠ h → ((s.commitBsk h).bsk k).st = (s.bsk k).st := by
  let u := (s.allStaged h).setBsk h { (s.allStaged h).bsk h with st := .ready, pendEn := false, ign := false, staged := [] }
  have hu : u.bsk h = { (s.allStaged h).bsk h with st := .ready, pendEn := false, ign := false, staged := [] } :=
    (State.setBsk_bsk _ _ _ _).trans (if_pos rfl)
  have hsame : (u.bsk h).cls = u.dev.cls.toNat := by
    rw [hu]
    exact ((s.allStaged_keeps h h).2.trans hcls).trans (congrArg (fun d : Dev => d.cls.toNat) (s.allStaged_fr h .dev (by decide))).symm
  let w := (u.takeClass h).remargin h
  have hw (k : Nat) : w.bsk k = if k = h then ((s.allStaged h).bsk h).committed else (s.allStaged h).bsk k := by
    rw [State.remargin_bsk, State.takeClass_of_same hsame, State.setBsk_bsk, hu, State.setBsk_bsk]
    split_ifs <;> rfl
  have hheld : w.held h = s.held h := by
    have hremargin : Fr [.pans] (u.takeClass h) w := fr_remargin (fr_refl _ _) (by simp [Within]) h
    rw [hremargin.held_eq (by decide), State.takeClass_of_same hsame]
    exact (s.allStaged_fr h).held_eq (by decide) h
  have hsettled : w.settleBsk h = w.setBsk h { w.bsk h with st := if s.held h = [] then .ready else .run } := by
    rw [State.settleBsk_of_ready (by rw [hw, if_pos rfl]; rfl), hheld]
  have hcommit : s.commitBsk h = (w.settleBsk h).testTurn := rfl
  rw [hcommit, hsettled]
  constructor
  · obtain ⟨d, hd⟩ := (w.setBsk h { w.bsk h with st := if s.held h = [] then .ready else .run }).testTurn_bsk h
    refine ⟨d, hd.trans ?_⟩
    rw [State.setBsk_bsk, if_pos rfl, hw, if_pos rfl]
  · intro k hk
    obtain ⟨d, hd⟩ := (w.setBsk h { w.bsk h with st := if s.held h = [] then .ready else .run }).testTurn_bsk k
    rw [hd, State.setBsk_bsk, if_neg hk, hw, if_neg hk]
    exact (s.allStaged_keeps h k).1

end

/-- Settles O32: one equation for each command in each state that the statement names, and what a drain's beginning and a
COMMIT leave. -/
theorem basketControlFollowsItsStates : Obligations.BasketControlFollowsItsStates := by
  unfold Obligations.BasketControlFollowsItsStates
  intro s h b hh
  have hstop : exec (.basketStop h) s = .next (s.cmdStop h) := guard_basket hh _
  have hcommit : exec (.basketCommit h) s = .next (s.cmdCommit h) := guard_basket hh _
  have hoff : exec (.basketOff h) s = .next (s.cmdOff h) := guard_basket hh _
  have hon : exec (.basketOn h) s = .next (s.cmdOn h) := guard_basket hh _
  rw [hstop, hcommit, hoff, hon]
  unfold State.cmdStop State.cmdCommit State.cmdOff State.cmdOn
  refine ⟨?stop, ?stopTest, ?stopIgn, ?stopDrain, ?commit, ?commitDrain, ?commitIgn, ?off, ?offStopped, ?offHeld, ?on, ?onDrain,
    ?onIgn⟩
  case stop =>
    intro hst
    obtain ⟨hdrains, hwhy, hflight, hdefer, hothers⟩ := s.drainBsk_spec h .stop
    refine ⟨s.drainBsk h .stop, ?_, hdrains, hwhy, hflight, hdefer, hothers⟩
    rcases hst with hst | hst <;> simp only [show (s.bsk h).st = _ from hst]
  case stopTest =>
    intro hst
    simp only [b, show (s.bsk h).st = _ from hst]
  case stopIgn =>
    intro hst
    rcases hst with hst | hst | hst | hst <;> simp only [show (s.bsk h).st = _ from hst] <;> rfl
  case stopDrain =>
    intro hst
    simp only [b, show (s.bsk h).st = _ from hst]
    split_ifs
    · rfl
    · simp only [State.ignBsk, show (s.bsk h).st = _ from hst]
  case commit =>
    intro hst hcls u
    obtain ⟨⟨d, hself⟩, hothers⟩ := s.commitBsk_spec h hcls
    refine ⟨s.commitBsk h, by simp only [show (s.bsk h).st = _ from hst], ?_⟩
    rw [hself]
    exact ⟨rfl, rfl, rfl, rfl, rfl, rfl, rfl, rfl, rfl, rfl, hothers⟩
  case commitDrain =>
    intro hst hwhy
    simp only [b, show (s.bsk h).st = _ from hst, show (s.bsk h).drainFor = _ from hwhy, if_true]
  case commitIgn =>
    intro hst
    rcases hst with hst | hst | hst | hst | hst | hst <;> simp only [show (s.bsk h).st = _ from hst] <;> rfl
  case off =>
    intro hheld hst
    obtain ⟨hdrains, hwhy, -, hdefer, hothers⟩ := s.drainBsk_spec h .off
    refine ⟨s.drainBsk h .off, ?_, hdrains, hwhy, hdefer, hothers⟩
    rcases hst with hst | hst <;> simp [hheld, show (s.bsk h).st = _ from hst]
  case offStopped =>
    intro hheld hst
    simp only [hheld, show (s.bsk h).st = _ from hst]
    rfl
  case offHeld =>
    intro hheld
    exact congrArg Host.Outcome.next (if_pos (by simp [hheld]))
  case on =>
    intro hst
    simp only [show (s.bsk h).st = _ from hst]
    rfl
  case onDrain =>
    intro hst hwhy
    simp only [b, show (s.bsk h).st = _ from hst, show (s.bsk h).drainFor = _ from hwhy, if_true]
  case onIgn =>
    intro hst
    rcases hst with hst | hst | hst | hst | hst | hst <;> simp only [show (s.bsk h).st = _ from hst] <;> rfl

end Sys2Proof.Machine
end

section
/-! PROOFS. Basket RESET, the end of a drain and of WARMING, and O33 (14, R435, R439, Tables 14-4, 14-8; 07, R239). -/

namespace Sys2Proof.Machine

/-- What is left of a table at an index whose entries were taken out. -/
theorem tget_filter {α : Type} {d : Nat → α} {t : Tab α} {keep : Nat → Bool} {k : Nat} (hk : keep k = false) :
    tget d (t.filter fun e => keep e.1) k = d k := by
  induction t with
  | nil => rfl
  | cons e t ih =>
    rw [List.filter_cons]
    split_ifs with hkeep
    · have hne : k ≠ e.1 := by
        rintro rfl
        simp [hk] at hkeep
      unfold tget
      rw [if_neg hne, ih]
    · exact ih

section
variable {s : State} {h : Nat}

/-! ## Margins -/

/-- Margins that follow the Basket's rate change nothing else of a Pan. -/
theorem State.remargin_pan (s : State) (h p : Nat) : ∃ m, (s.remargin h).pan p = { s.pan p with margin := m } := by
  unfold State.remargin
  refine List.foldlRecOn (motive := fun u : State => ∃ m, u.pan p = { s.pan p with margin := m }) _ _ ⟨_, rfl⟩ fun u hu q _ => ?_
  obtain ⟨m, hm⟩ := hu
  dsimp only
  split_ifs
  · rw [State.setPan_pan]
    split_ifs with hq
    · rw [← hq, hm]
      exact ⟨_, rfl⟩
    · exact ⟨m, hm⟩
  · exact ⟨m, hm⟩

/-! ## An eviction -/

/-- An eviction leaves every Basket's rate and scale class. -/
theorem State.evictOne_keeps (s : State) (i k : Nat) :
    ((s.evictOne i).bsk k).rate = (s.bsk k).rate ∧ ((s.evictOne i).bsk k).cls = (s.bsk k).cls := by
  unfold State.evictOne
  split_ifs
  · rw [(fr_migFail (W := [.mem, .memBad, .memCorr, .memCe, .memUe, .streams, .hq, .dev]) (fr_refl _ s) (by simp [Within])
      i 5).bsk_eq (by decide)]
    exact ⟨rfl, rfl⟩
  · by_cases hst : (s.str i).st = .pending ∨ (s.str i).st = .resident ∨ (s.str i).st = .suspended ∨ (s.str i).st = .migrating
    · obtain ⟨u, hu, habort⟩ := State.abortStr_of_live (s := s) 0xF005 hst
      have hcancel : Fr [.streams, .hq, .dev] s (s.cancelled i) := by
        unfold State.cancelled
        split_ifs
        · exact (s.migReport_spec i 2).1
        · exact fr_refl _ s
      obtain ⟨st, hsettle⟩ := u.settleBsk_bsk (s.str i).bsk k
      rw [habort, hsettle]
      dsimp only
      rw [hu.bsk_eq (by decide), putStr_bsk, State.dropStream_bsk]
      unfold State.bskWithout
      simp only [hcancel.bsk_eq (by decide)]
      split_ifs with hk
      · rw [hk]
        exact ⟨rfl, rfl⟩
      · exact ⟨rfl, rfl⟩
    · rw [State.abortStr_of_over _ hst]
      exact ⟨rfl, rfl⟩

theorem State.evict_keeps (s : State) (h k : Nat) :
    ((s.evict h).bsk k).rate = (s.bsk k).rate ∧ ((s.evict h).bsk k).cls = (s.bsk k).cls := by
  rw [State.evict_eq]
  exact List.foldlRecOn (motive := fun u : State => (u.bsk k).rate = (s.bsk k).rate ∧ (u.bsk k).cls = (s.bsk k).cls) _ _
    ⟨rfl, rfl⟩ fun u hu i _ => ⟨(u.evictOne_keeps i k).1.trans hu.1, (u.evictOne_keeps i k).2.trans hu.2⟩

/-- A stream that moves to the Basket has reached it: its images and Pots are saved (07, R239). -/
def Stream.Arriving (v : Stream) : Prop := v.st = .migrating ∧ v.migSaved = true

/-- An eviction suspends a stream that moves to the Basket (07, R239). -/
theorem State.evictOne_suspends {i : Nat} (hv : (s.str i).Arriving) :
    ((s.evictOne i).str i).st = .suspended ∧ ((s.evictOne i).str i).cause = 0xF003 := by
  unfold State.evictOne
  rw [if_pos (show (s.str i).st = .migrating ∧ (s.str i).migSaved = true from hv)]
  unfold State.migFail
  rw [putStr_str, if_pos rfl]
  exact ⟨rfl, rfl⟩

/-- A stream that an eviction does not name stays as it was. -/
theorem State.foldl_evictOne_str_of_not_mem {is : List Nat} {i : Nat} (hi : i ∉ is) : (is.foldl State.evictOne s).str i = s.str i :=
  List.foldlRecOn (motive := fun u : State => u.str i = s.str i) _ _ rfl fun u hu j hj =>
    (u.evictOne_str_of_ne (by rintro rfl; exact hi hj)).trans hu

theorem State.foldl_evictOne_suspends {is : List Nat} {i : Nat} (hnd : is.Nodup) (hi : i ∈ is) (hv : (s.str i).Arriving) :
    ((is.foldl State.evictOne s).str i).st = .suspended ∧ ((is.foldl State.evictOne s).str i).cause = 0xF003 := by
  obtain ⟨a, b, rfl⟩ := List.append_of_mem hi
  have hne : i ∉ a ++ b := (List.nodup_middle.mp hnd).notMem
  rw [List.foldl_append, List.foldl_cons, State.foldl_evictOne_str_of_not_mem fun hb => hne (List.mem_append_right _ hb)]
  refine State.evictOne_suspends ?_
  rw [State.foldl_evictOne_str_of_not_mem fun ha => hne (List.mem_append_left _ ha)]
  exact hv

/-! ## A Basket RESET -/

/-- A Basket that its sweep and its streams have left. -/
def State.evacuated (s : State) (h : Nat) : State := (s.abandonIn h).evict h

theorem State.evacuated_keeps (s : State) (h : Nat) :
    ((s.evacuated h).bsk h).rate = (s.bsk h).rate ∧ ((s.evacuated h).bsk h).cls = (s.bsk h).cls := by
  obtain ⟨told, htold⟩ := s.abandonIn_bsk h h
  have hkeeps := (s.abandonIn h).evict_keeps h h
  rw [htold] at hkeeps
  exact hkeeps

/-- What becomes of the streams that a Basket holds as they leave it (07, Tables 07-4, 07-5). -/
theorem State.evacuated_str (s : State) (h : Nat) :
    (∀ i, i ∈ s.held h → (s.str i).Evictable → ((s.evacuated h).str i).Evicted) ∧
      ((s.held h).Nodup → ∀ i, i ∈ s.held h → (s.str i).Arriving →
        ((s.evacuated h).str i).st = .suspended ∧ ((s.evacuated h).str i).cause = 0xF003) := by
  have hfr : Fr [.baskets, .pans, .cal, .trv, .evq, .msix, .mgmt] s (s.abandonIn h) := fr_abandonIn (fr_refl _ s) (by simp [Within]) h
  unfold State.evacuated
  rw [State.evict_eq, hfr.held_eq (by decide)]
  refine ⟨fun i hi hv => ?_, fun hnd i hi hv => ?_⟩ <;> rw [← hfr.str_eq (by decide) i] at hv
  · exact State.foldl_evictOne_aborts (.inl ⟨hi, hv⟩)
  · exact State.foldl_evictOne_suspends hnd hi hv

/-- The state with a Basket's Pots, scale entries and tokens at their reset values, and its block reset (14, Table 14-4). -/
def State.unlisted (s : State) (h : Nat) : State :=
  ({ s with
    pots := s.pots.filter (fun e => e.1 / 64 != h)
    scales := s.scales.filter (fun e => e.1 / 16384 != h)
    tokens := s.tokens.filter (fun e => e.1 / 32 != h)
    fastQ := s.fastQ.filter (· != h) }).setBsk h (resetBskRegs (BitVec.ofNat 32 s.uid) h (s.bsk h))

/-- Each of the Basket's Pans is reset at the one time. -/
theorem State.foldl_resetPan {ps : List Nat} {now : Nat} : ∀ {u : State}, u.time = now →
    ps.foldl (fun s p => s.setPan p (resetPan s.time (s.pan p))) u = u.eachPan id (fun _ => resetPan now) ps := by
  induction ps with
  | nil => exact fun _ => rfl
  | cons p ps ih =>
    rintro u rfl
    exact ih rfl

theorem State.resetBsk_eq (s : State) (h : Nat) :
    s.resetBsk h = ((((s.evacuated h).unlisted h).eachPan id (fun _ => resetPan (s.evacuated h).time) (bskPans h)).remargin h).testTurn := by
  unfold State.resetBsk
  exact congrArg (fun u : State => (u.remargin h).testTurn) (State.foldl_resetPan rfl)

/-- What a Basket RESET leaves of the state in which its streams and its sweep are gone. -/
theorem State.resetBsk_spec (s : State) (h : Nat) :
    Fr [.baskets, .pans, .pots, .scales, .tokens, .fastQ] (s.evacuated h) (s.resetBsk h) ∧
    (∃ x, (s.resetBsk h).bsk h = resetBskRegs x h ((s.evacuated h).bsk h)) ∧
    (∀ k, k ≠ h → ∃ d, (s.resetBsk h).bsk k = { (s.evacuated h).bsk k with testDefer := d }) ∧
    (∀ p, panBsk p = h → ∃ m, (s.resetBsk h).pan p = { resetPan (s.evacuated h).time ((s.evacuated h).pan p) with margin := m }) ∧
    (∀ p, panBsk p ≠ h → ∃ m, (s.resetBsk h).pan p = { (s.evacuated h).pan p with margin := m }) ∧
    (∀ n, n < 64 → (s.resetBsk h).pot h n = {}) ∧ (∀ n, n < 16384 → (s.resetBsk h).scale h n = scaleDflt n) ∧
    (∀ n, n < 32 → tget tokDflt (s.resetBsk h).tokens (h * 32 + n) = {}) := by
  rw [State.resetBsk_eq]
  generalize s.evacuated h = u
  have heach := (u.unlisted h).eachPan_fr id (fun _ => resetPan u.time) (bskPans h)
  have hpan (p : Nat) (hp : panBsk p = h) : ((u.unlisted h).eachPan id (fun _ => resetPan u.time) (bskPans h)).pan p =
      resetPan u.time (u.pan p) :=
    (u.unlisted h).eachPan_of_mem id _ (by simpa using bskPans_nodup h) (mem_bskPans_iff.mpr hp)
  have hother (p : Nat) (hp : panBsk p ≠ h) : ((u.unlisted h).eachPan id (fun _ => resetPan u.time) (bskPans h)).pan p = u.pan p :=
    (u.unlisted h).eachPan_of_not_mem id _ _ (by simpa using fun hin => hp (mem_bskPans_iff.mp hin))
  generalize (u.unlisted h).eachPan id (fun _ => resetPan u.time) (bskPans h) = v at *
  have hturn : Fr [.baskets, .pans] v (v.remargin h).testTurn :=
    fr_testTurn (fr_remargin (fr_refl _ _) (by simp [Within]) h) (by simp [Within])
  have hbsk (k : Nat) : (v.remargin h).bsk k =
      if k = h then resetBskRegs (BitVec.ofNat 32 u.uid) h (u.bsk h) else u.bsk k := by
    rw [State.remargin_bsk, heach.bsk_eq (by decide)]
    exact State.setBsk_bsk _ _ _ _
  have hlists : Fr [.baskets, .pans] (u.unlisted h) (v.remargin h).testTurn :=
    (heach.mono (by simp [Within])).trans hturn
  have hmargin (p : Nat) : ∃ m, (v.remargin h).testTurn.pan p = { v.pan p with margin := m } := by
    obtain ⟨m, hm⟩ := v.remargin_pan h p
    have hfr : Fr [.baskets] (v.remargin h) (v.remargin h).testTurn := fr_testTurn (fr_refl _ _) (by simp [Within])
    exact ⟨m, (hfr.pan_eq (by decide) p).trans hm⟩
  refine ⟨?frame, ⟨BitVec.ofNat 32 u.uid, ?self⟩, fun k hk => ?others, fun p hp => ?pan, fun p hp => ?otherPan, fun n hn => ?pot, fun n hn => ?scale,
    fun n hn => ?token⟩
  case frame =>
    have hunlisted : Fr [.baskets, .pots, .scales, .tokens, .fastQ] u (u.unlisted h) :=
      fr_setBsk (fr_mk_pots_scales_tokens_fastQ (fr_refl _ _) (by decide) (by decide) (by decide) (by decide) _ _ _ _) (by simp [Within]) _ _
    exact (hunlisted.mono (by simp [Within])).trans (hlists.mono (by simp [Within]))
  case self =>
    rw [State.testTurn_bsk_of_idle (by rw [hbsk, if_pos rfl]; rfl), hbsk, if_pos rfl]
  case others =>
    obtain ⟨d, hd⟩ := (v.remargin h).testTurn_bsk k
    exact ⟨d, by rw [hd, hbsk, if_neg hk]⟩
  case pan =>
    rw [← hpan p hp]
    exact hmargin p
  case otherPan =>
    rw [← hother p hp]
    exact hmargin p
  case pot =>
    unfold State.pot
    rw [hlists .pots (by decide)]
    exact tget_filter (keep := fun k => k / 64 != h) (by simp [potIx]; omega)
  case scale =>
    unfold State.scale
    rw [hlists .scales (by decide)]
    exact tget_filter (keep := fun k => k / 16384 != h) (by simp [scaleIx]; omega)
  case token =>
    rw [hlists .tokens (by decide)]
    exact tget_filter (keep := fun k => k / 32 != h) (by simp; omega)

/-! ## A drain that is over -/

/-- A COMMIT that waited, or an ON, acts as the drain ends. -/
theorem State.drained_eq (hst : (s.bsk h).st = .draining) (hempty : (s.bsk h).inflight = []) (hquiet : s.quiet h = true) :
    ((s.bsk h).drainFor = .stop → (s.bsk h).pendEn = false → s.drained h = s.setBsk h { s.bsk h with st := .stopped }) ∧
    ((s.bsk h).drainFor = .off → s.drained h =
      if (s.bsk h).pendEn then (s.setBsk h { s.bsk h with st := .off }).toWarming h
      else s.setBsk h { s.bsk h with st := .off }) := by
  unfold State.drained
  dsimp only
  rw [if_pos ⟨hst, by simp [hempty], hquiet⟩]
  constructor
  · intro hwhy hpend
    simp only [hwhy, hpend]
    rfl
  · intro hwhy
    simp only [hwhy]

/-- A test that a reset broke off falls due 10 minutes after the Basket serves again (10, R334). -/
theorem State.warmed_again (s : State) (h : Nat) : ((s.warmed h).bsk h).testAgain = false ∧
    ((s.warmed h).bsk h).testAt = if (s.bsk h).testAgain then s.time + 600000000000 else (s.bsk h).testAt := by
  unfold State.warmed
  dsimp only
  generalize hu : s.setBsk h _ = u
  obtain ⟨d, hd⟩ := (u.settleBsk h).testTurn_bsk h
  obtain ⟨st, hsettle⟩ := u.settleBsk_bsk h h
  rw [hd, hsettle, ← hu, State.setBsk_bsk, if_pos rfl]
  exact ⟨rfl, rfl⟩

end

/-- Settles O33: a RESET is an eviction and then the reset of what the Basket has; a drain and a WARMING end by their own
equations. -/
theorem basketsResetDrainAndWarmUp : Obligations.BasketsResetDrainAndWarmUp := by
  unfold Obligations.BasketsResetDrainAndWarmUp
  intro s h b hh
  refine ⟨?reset, ?ignored, ?drained, ?warmed⟩
  case reset =>
    intro hon hserves
    have hexec : exec (.basketReset h) s = .next (s.resetBsk h) := by
      refine (guard_basket hh _).trans (congrArg Host.Outcome.next ?_)
      unfold State.cmdReset'
      split
      next hst => exact absurd hst hon
      next hst => exact absurd hst hserves
      next => rfl
    obtain ⟨hfr, ⟨x, hself⟩, -, hpan, -, hpot, hscale, htok⟩ := s.resetBsk_spec h
    obtain ⟨hrate, hcls⟩ := s.evacuated_keeps h
    obtain ⟨hevicted, hsuspended⟩ := s.evacuated_str h
    refine ⟨_, hexec, ?_⟩
    rw [hself]
    refine ⟨rfl, rfl, rfl, hrate, hcls, rfl, hpot, hscale, htok, fun p hp => ?_, fun i hi hv => ?_, fun hnd i hi hst hsaved => ?_⟩
    · obtain ⟨m, hm⟩ := hpan p hp
      rw [hm]
      exact ⟨rfl, rfl, rfl⟩
    · rw [hfr.str_eq (by decide)]
      exact hevicted i hi hv
    · rw [hfr.str_eq (by decide)]
      exact hsuspended hnd i hi ⟨hst, hsaved⟩
  case ignored =>
    intro hst
    refine (guard_basket hh _).trans (congrArg Host.Outcome.next ?_)
    unfold State.cmdReset'
    rcases hst with hst | hst <;> simp only [show (s.bsk h).st = _ from hst] <;> rfl
  case drained =>
    intro hst hempty hquiet
    have hexec : exec (.basketDrained h) s = .next (s.drained h) := guard_basket hh _
    obtain ⟨hstop, hoff⟩ := State.drained_eq hst hempty hquiet
    rw [hexec]
    refine ⟨fun hwhy hpend => ?_, fun hwhy hpend => ?_, fun hwhy hpend => ⟨_, rfl, ?_⟩⟩
    · rw [hstop hwhy hpend]
    · rw [hoff hwhy, if_neg (by simp [show (s.bsk h).pendEn = _ from hpend])]
    · rw [hoff hwhy, if_pos hpend]
      unfold State.toWarming
      rw [State.setBsk_bsk, if_pos rfl]
      exact ⟨rfl, rfl⟩
  case warmed =>
    intro hst hcold hfull
    obtain ⟨hserves, -⟩ := s.warmed_bsk h
    obtain ⟨hagain, hat⟩ := s.warmed_again h
    exact ⟨_, (guard_basket hh _).trans (congrArg Host.Outcome.next ((if_pos ⟨hst, by simp [show (s.bsk h).coldSweep = _ from hcold]⟩).trans
      (if_pos hfull))), hserves, hagain, hat⟩

end Sys2Proof.Machine
end

section
/-! PROOFS. Warm resets, clock losses and thermal trips, and O54 (11, R363, R371; 14, R432, R433, R435, R444; 16, R472). -/

namespace Sys2Proof.Machine

/-! ## Aborting every stream -/

/-- The stream is one that an abort ends (07, Table 07-4). -/
def Stream.Live (v : Stream) : Prop := v.st = .pending ∨ v.st = .resident ∨ v.st = .suspended ∨ v.st = .migrating

theorem Stream.Evicted.not_live {v : Stream} (h : v.Evicted) : ¬ v.Live := by
  obtain ⟨hst, -⟩ := h
  simp [Stream.Live, hst]

/-- A table reads its default at an index that it does not list. -/
theorem tget_of_not_mem {α : Type} {d : Nat → α} {t : Tab α} {k : Nat} (hk : k ∉ t.map (·.1)) : tget d t k = d k := by
  induction t with
  | nil => rfl
  | cons e t ih =>
    simp only [List.map_cons, List.mem_cons, not_or] at hk
    obtain ⟨hne, hrest⟩ := hk
    unfold tget
    rw [if_neg hne, ih hrest]

section
variable {s : State} {i : Nat}

/-- An abort ends its own stream, if that is live, and no other. -/
theorem State.abortStr_str (s : State) (i cause j : Nat) :
    ((s.abortStr i cause).str j = s.str j ∧ ¬ (j = i ∧ (s.str j).Live)) ∨
      (j = i ∧ (s.abortStr i cause).str j = (s.str i).aborted cause) := by
  by_cases hlive : (s.str i).Live
  · obtain ⟨hstr, -⟩ := State.abortStr_spec (s := s) cause hlive
    by_cases hj : j = i
    · exact .inr ⟨hj, (hstr j).trans (if_pos hj)⟩
    · exact .inl ⟨(hstr j).trans (if_neg hj), fun h => hj h.1⟩
  · refine .inl ⟨by rw [State.abortStr_of_over _ hlive], ?_⟩
    rintro ⟨rfl, h⟩
    exact hlive h

/-- Aborting a list of streams ends those of it that are live. -/
theorem State.foldl_abortStr_str {is : List Nat} : ∀ {s : State},
    ((s.str i).Live ∧ i ∈ is) ∨ (s.str i).Evicted → ((is.foldl (fun s i => s.abortStr i 0xF005) s).str i).Evicted := by
  induction is with
  | nil => exact fun h => by simpa using h
  | cons j is ih =>
    intro s h
    refine ih ?_
    rcases s.abortStr_str j 0xF005 i with ⟨hsame, hnot⟩ | ⟨-, hst⟩
    · rw [hsame]
      refine h.imp_left fun ⟨hlive, hmem⟩ => ⟨hlive, ?_⟩
      exact (List.mem_cons.mp hmem).resolve_left fun hij => hnot ⟨hij, hlive⟩
    · rw [hst]
      exact .inr ⟨rfl, rfl⟩

/-- A stream that is over stays as it was. -/
theorem State.foldl_abortStr_over {is : List Nat} (hover : ¬ (s.str i).Live) :
    (is.foldl (fun s i => s.abortStr i 0xF005) s).str i = s.str i :=
  List.foldlRecOn (motive := fun u : State => u.str i = s.str i) _ _ rfl fun u hu j _ => by
    rcases u.abortStr_str j 0xF005 i with ⟨hsame, -⟩ | ⟨rfl, hst⟩
    · exact hsame.trans hu
    · rw [State.abortStr_of_over]
      · exact hu
      · rw [hu]
        exact hover

/-- Every live stream is ABORTED with CAUSE 0xF005. -/
theorem State.abortAll_evicts (hlive : (s.str i).Live) : ((s.abortAll 0xF005).str i).Evicted := by
  refine State.foldl_abortStr_str (.inl ⟨hlive, ?_⟩)
  by_contra hnot
  have hdflt : s.str i = strDflt i := tget_of_not_mem hnot
  rw [hdflt] at hlive
  simp [Stream.Live, strDflt] at hlive

/-- No stream is live after it. -/
theorem State.abortAll_over (s : State) (i : Nat) : ¬ ((s.abortAll 0xF005).str i).Live := by
  by_cases hlive : (s.str i).Live
  · exact (State.abortAll_evicts hlive).not_live
  · rw [show (s.abortAll 0xF005).str i = s.str i from State.foldl_abortStr_over hlive]
    exact hlive

/-! ## What an abort leaves -/

/-- GCTL without the answer of a stream command. -/
def Dev.unanswered (d : Dev) : Dev := { d with stBusy := false, stResult := 0, stStream := 0 }

/-- The fabric engine without the node's own units. -/
def Dzf.unsent (d : Dzf) : Dzf := { d with units := [], backlog := [] }

/-- A Basket in service may settle in its other state; any other keeps its state. -/
def Basket.StaysIn (b c : Basket) : Prop := c.st = b.st ∨ (inService b = true ∧ inService c = true)

theorem Basket.StaysIn.trans {b c d : Basket} (hbc : b.StaysIn c) (hcd : c.StaysIn d) : b.StaysIn d := by
  have hst {x y : Basket} (h : x.st = y.st) : inService x = inService y := by unfold inService; rw [h]
  rcases hbc with hbc | ⟨hb, hc⟩
  · rcases hcd with hcd | ⟨hc, hd⟩
    · exact .inl (hcd.trans hbc)
    · exact .inr ⟨(hst hbc).symm.trans hc, hd⟩
  · rcases hcd with hcd | ⟨-, hd⟩
    · exact .inr ⟨hb, (hst hcd).trans hc⟩
    · exact .inr ⟨hb, hd⟩

theorem State.settleBsk_staysIn (s : State) (h k : Nat) : (s.bsk k).StaysIn ((s.settleBsk h).bsk k) := by
  unfold State.settleBsk
  dsimp only
  by_cases hserves : inService (s.bsk h) = true
  · rw [if_pos hserves, State.setBsk_bsk]
    split_ifs with hk
    · rw [hk]
      exact .inr ⟨hserves, by simp [inService]⟩
    · exact .inr ⟨by rw [hk]; exact hserves, by simp [inService]⟩
    · exact .inl rfl
  · rw [if_neg hserves]
    exact .inl rfl

theorem State.migReport_dev (s : State) (i res : Nat) : (s.migReport i res).dev.unanswered = s.dev.unanswered := by
  have hset : Fr [.streams, .hq] s (s.setStr i { s.str i with migReg := false, migBy := none }) :=
    fr_setStr (fr_refl _ s) (by simp [Within]) _ _
  unfold State.migReport
  extract_lets t u x
  have hx : Fr [.streams, .hq] s x := by
    simp only [x]
    split
    · exact fr_qDone hset (by simp [Within]) _ _ _ _ _
    · exact hset
  have hdev : x.dev = s.dev := hx .dev (by decide)
  split
  · exact Eq.trans (b := x.dev.unanswered) rfl (congrArg Dev.unanswered hdev)
  · exact congrArg Dev.unanswered hdev

theorem State.dropStream_dzf (s : State) (i : Nat) : (s.dropStream i).dzf.unsent = s.dzf.unsent := by
  unfold State.dropStream
  extract_lets t h b uids left fast v w x
  have hv : Fr [.baskets] s v := fr_setBsk (fr_refl _ _) (by simp [Within]) _ _
  clear_value v
  have hw : Fr [.pans] v w := fr_foldl _ _ _ _ _ (fr_refl _ _) fun y p hy => fr_setPan hy (by simp [Within]) _ _
  clear_value w
  have hx : Fr [.pots] w x := fr_freePots (fr_refl _ _) (by simp [Within]) _ _ _
  clear_value x
  have hdzf : x.dzf = s.dzf := (hx .dzf (by decide)).trans ((hw .dzf (by decide)).trans (hv .dzf (by decide)))
  exact Eq.trans (b := x.dzf.unsent) rfl (congrArg Dzf.unsent hdzf)

/-- What one abort leaves of GCTL, of the fabric engine and of the Baskets. -/
theorem State.abortStr_keeps (s : State) (i cause : Nat) :
    (s.abortStr i cause).dev.unanswered = s.dev.unanswered ∧ (s.abortStr i cause).dzf.unsent = s.dzf.unsent ∧
      ∀ k, (s.bsk k).StaysIn ((s.abortStr i cause).bsk k) := by
  by_cases hlive : (s.str i).Live
  · obtain ⟨u, hu, habort⟩ := State.abortStr_of_live (s := s) cause hlive
    have hcancel : Fr [.streams, .hq, .dev] s (s.cancelled i) ∧ (s.cancelled i).dev.unanswered = s.dev.unanswered := by
      unfold State.cancelled
      split_ifs
      · exact ⟨(s.migReport_spec i 2).1, s.migReport_dev i 2⟩
      · exact ⟨fr_refl _ s, rfl⟩
    obtain ⟨hcfr, hcdev⟩ := hcancel
    generalize s.cancelled i = c at *
    have hdrop : Fr [.waiting, .baskets, .pans, .pots, .fastQ, .dzf] c (c.dropStream i) := fr_dropStream (fr_refl _ _) (by simp [Within]) i
    have hput : Fr [.mem, .memBad, .memCorr, .memCe, .memUe, .streams] (c.dropStream i) u :=
      (fr_putStr (fr_refl _ _) (by simp [Within]) _ _).trans (hu.mono (by simp [Within]))
    have hsettle : Fr [.baskets] u (u.settleBsk (s.str i).bsk) := fr_settleBsk (fr_refl _ _) (by simp [Within]) _
    rw [habort]
    refine ⟨?_, ?_, fun k => ?_⟩
    · rw [hsettle .dev (by decide), hput .dev (by decide), hdrop .dev (by decide), hcdev]
    · rw [hsettle .dzf (by decide), hput .dzf (by decide), State.dropStream_dzf, hcfr .dzf (by decide)]
    · refine Basket.StaysIn.trans (.inl ?_) (u.settleBsk_staysIn (s.str i).bsk k)
      rw [hput.bsk_eq (by decide), State.dropStream_bsk]
      unfold State.bskWithout
      simp only [hcfr.bsk_eq (by decide)]
      split_ifs with hk
      · rw [hk]
      · rfl
  · rw [State.abortStr_of_over _ hlive]
    exact ⟨rfl, rfl, fun _ => .inl rfl⟩

theorem State.abortAll_keeps (s : State) (cause : Nat) :
    (s.abortAll cause).dev.unanswered = s.dev.unanswered ∧ (s.abortAll cause).dzf.unsent = s.dzf.unsent ∧
      ∀ k, (s.bsk k).StaysIn ((s.abortAll cause).bsk k) :=
  List.foldlRecOn (motive := fun u : State => u.dev.unanswered = s.dev.unanswered ∧ u.dzf.unsent = s.dzf.unsent ∧
    ∀ k, (s.bsk k).StaysIn (u.bsk k)) _ _ ⟨rfl, rfl, fun _ => .inl rfl⟩ fun u hu i _ => by
      obtain ⟨hdev, hdzf, hbsk⟩ := u.abortStr_keeps i cause
      exact ⟨hdev.trans hu.1, hdzf.trans hu.2.1, fun k => (hu.2.2 k).trans (hbsk k)⟩

/-! ## A sweep that is abandoned -/

theorem State.abandonSweep_bsk (s : State) (k : Nat) : ∃ b, s.abandonSweep.bsk k = { s.bsk k with spareTold := b } := by
  unfold State.abandonSweep
  split
  · exact ⟨_, rfl⟩
  next w _ =>
    obtain ⟨b, hb⟩ := State.tellSpares_bsk _ (panBsk w.pan) k
    refine ⟨b, hb.trans ?_⟩
    split_ifs <;> rfl

/-- No sweep runs after it, and no event is taken back. -/
theorem State.abandonSweep_spec (s : State) : s.abandonSweep.cal.sweep = none ∧ s.evq <+: s.abandonSweep.evq := by
  unfold State.abandonSweep
  split
  next hnone => exact ⟨hnone, List.prefix_rfl⟩
  next w _ =>
    have htold (u : State) : Fr [.baskets, .trv, .msix, .mgmt] u (u.tellSpares (panBsk w.pan)) :=
      fr_tellSpares (fr_refl _ _) (by simp [Within]) _
    dsimp only
    rw [htold _ .cal (by decide), htold _ .evq (by decide)]
    split_ifs <;> exact ⟨rfl, List.prefix_append _ _⟩

/-! ## The reset of the Baskets (14, Table 14-4, R435) -/

/-- No stream is live and no sweep runs. -/
def State.Idle (s : State) : Prop := (∀ i, ¬ (s.str i).Live) ∧ s.cal.sweep = none

/-- There is nothing for a Basket reset to evict. -/
theorem State.Idle.evacuated (hs : s.Idle) (h : Nat) : s.evacuated h = s := by
  obtain ⟨hover, hsweep⟩ := hs
  have hnone : s.abandonIn h = s := by
    unfold State.abandonIn
    rw [hsweep]
  unfold State.evacuated
  rw [hnone, State.evict_eq]
  refine List.foldlRecOn (motive := fun u : State => u = s) _ _ rfl fun u hu i _ => ?_
  subst hu
  unfold State.evictOne
  rw [if_neg fun hmig => hover i (.inr (.inr (.inr hmig.1))), State.abortStr_of_over _ (hover i)]

/-- The state in which a warm reset leaves a Basket (log entry 66, DEDUCED). -/
def warmSt (st : BskState) : BskState := if st = .off ∨ st = .retired then st else .warming

theorem warmSt_idem (st : BskState) : warmSt (warmSt st) = warmSt st := by
  unfold warmSt
  split_ifs <;> rfl

/-- A Pan that holds no weights and no work. -/
def Pan.Cleared (v : Pan) : Prop := v.a.valid = false ∧ v.b.valid = false ∧ v.computeQ = []

/-- A Basket that holds no work, in a state. -/
def Basket.Bare (b : Basket) (st : BskState) : Prop := b.st = st ∧ b.inflight = [] ∧ b.mvms = []

/-- What a warm reset of one Basket leaves of an idle part. -/
theorem State.warmBsk_spec (hs : s.Idle) (h : Nat) :
    Fr [.baskets, .pans, .pots, .scales, .tokens, .fastQ] s (s.warmBsk h) ∧
    ((s.warmBsk h).bsk h).Bare (warmSt (s.bsk h).st) ∧
    (∀ k, k ≠ h → ∃ d, (s.warmBsk h).bsk k = { s.bsk k with testDefer := d }) ∧
    (∀ p, panBsk p = h → ((s.warmBsk h).pan p).Cleared) ∧
    (∀ p, panBsk p ≠ h → ∃ m, (s.warmBsk h).pan p = { s.pan p with margin := m }) := by
  obtain ⟨hfr, ⟨x, hself⟩, hother, hpan, hotherPan, -⟩ := s.resetBsk_spec h
  rw [hs.evacuated] at hfr hself
  simp only [hs.evacuated] at hother hpan hotherPan
  have hcleared (p : Nat) (hp : panBsk p = h) : ((s.resetBsk h).pan p).Cleared := by
    obtain ⟨m, hm⟩ := hpan p hp
    rw [hm]
    exact ⟨rfl, rfl, rfl⟩
  have hbare : ((s.resetBsk h).bsk h).Bare .warming := by
    rw [hself]
    exact ⟨rfl, rfl, rfl⟩
  clear hself hpan
  unfold State.warmBsk warmSt
  dsimp only
  generalize s.resetBsk h = r at *
  by_cases hst : (s.bsk h).st = .off ∨ (s.bsk h).st = .retired
  · rw [if_pos hst, if_pos hst]
    have hset : Fr [.baskets, .pans, .pots, .scales, .tokens, .fastQ] r (r.setBsk h { r.bsk h with st := (s.bsk h).st }) :=
      fr_setBsk (fr_refl _ _) (by simp [Within]) _ _
    refine ⟨hfr.trans hset, ?_, fun k hk => ?_, hcleared, hotherPan⟩
    · rw [State.setBsk_bsk, if_pos rfl]
      exact ⟨rfl, hbare.2⟩
    · rw [State.setBsk_bsk, if_neg hk]
      exact hother k hk
  · rw [if_neg hst, if_neg hst]
    exact ⟨hfr, hbare, hother, hcleared, hotherPan⟩

theorem State.Idle.warmBsk (hs : s.Idle) (h : Nat) : (s.warmBsk h).Idle := by
  obtain ⟨hfr, -⟩ := State.warmBsk_spec hs h
  refine ⟨fun i => ?_, (congrArg Cal.sweep (hfr .cal (by decide))).trans hs.2⟩
  rw [hfr.str_eq (by decide)]
  exact hs.1 i

/-- What one entry of a list establishes in states of a kind, and every entry keeps there, holds after the list. -/
theorem foldl_establishes_in {I P : State → Prop} {f : State → Nat → State} {l : List Nat} {x : Nat} (hx : x ∈ l)
    (hI : ∀ u y, I u → I (f u y)) (hset : ∀ u, I u → P (f u x)) (hkeep : ∀ u y, I u → P u → P (f u y)) (hs : I s) :
    P (l.foldl f s) := by
  obtain ⟨before, after, rfl⟩ := List.append_of_mem hx
  rw [List.foldl_append, List.foldl_cons]
  have hbefore : I (before.foldl f s) := List.foldlRecOn before f hs fun u hu y _ => hI u y hu
  exact (List.foldlRecOn (motive := fun u : State => I u ∧ P u) after f ⟨hI _ x hbefore, hset _ hbefore⟩ fun u hu y _ =>
    ⟨hI u y hu.1, hkeep u y hu.1 hu.2⟩).2

theorem State.foldl_warmBsk_fr (hs : s.Idle) (hs' : List Nat) :
    Fr [.baskets, .pans, .pots, .scales, .tokens, .fastQ] s (hs'.foldl State.warmBsk s) := by
  refine (List.foldlRecOn (motive := fun u : State => u.Idle ∧ Fr [.baskets, .pans, .pots, .scales, .tokens, .fastQ] s u) _ _
    ⟨hs, fr_refl _ s⟩ fun u hu h _ => ?_).2
  obtain ⟨hfr, -⟩ := State.warmBsk_spec hu.1 h
  exact ⟨hu.1.warmBsk h, hu.2.trans hfr⟩

/-- Every Basket of the list goes through its reset. -/
theorem State.foldl_warmBsk_bsk (hs : s.Idle) {hs' : List Nat} {h : Nat} (hh : h ∈ hs') :
    ((hs'.foldl State.warmBsk s).bsk h).Bare (warmSt (s.bsk h).st) := by
  have hstep (u : State) (y : Nat) (hu : u.Idle) (hst : (u.bsk h).st = (s.bsk h).st ∨ (u.bsk h).st = warmSt (s.bsk h).st) :
      (y = h → ((u.warmBsk y).bsk h).Bare (warmSt (s.bsk h).st)) ∧
        (y ≠ h → ∃ d, (u.warmBsk y).bsk h = { u.bsk h with testDefer := d }) := by
    obtain ⟨-, hself, hother, -⟩ := State.warmBsk_spec hu y
    refine ⟨?_, fun hy => hother h (Ne.symm hy)⟩
    rintro rfl
    rcases hst with hst | hst <;> rw [hst] at hself
    · exact hself
    · rwa [warmSt_idem] at hself
  refine foldl_establishes_in (P := fun u => (u.bsk h).Bare (warmSt (s.bsk h).st)) (I := fun u => u.Idle ∧ ((u.bsk h).st = (s.bsk h).st ∨ (u.bsk h).st = warmSt (s.bsk h).st))
    hh (fun u y hu => ⟨hu.1.warmBsk y, ?_⟩) (fun u hu => (hstep u h hu.1 hu.2).1 rfl) (fun u y hu hbare => ?_) ⟨hs, .inl rfl⟩
  · by_cases hy : y = h
    · exact .inr ((hstep u y hu.1 hu.2).1 hy).1
    · obtain ⟨d, hd⟩ := (hstep u y hu.1 hu.2).2 hy
      rw [hd]
      exact hu.2
  · by_cases hy : y = h
    · exact (hstep u y hu.1 hu.2).1 hy
    · obtain ⟨d, hd⟩ := (hstep u y hu.1 hu.2).2 hy
      rw [hd]
      exact hbare

/-- And with it every Pan. -/
theorem State.foldl_warmBsk_pan (hs : s.Idle) {hs' : List Nat} {p : Nat} (hp : panBsk p ∈ hs') :
    ((hs'.foldl State.warmBsk s).pan p).Cleared := by
  refine foldl_establishes_in (I := State.Idle) (P := fun u => (u.pan p).Cleared) hp (fun u y hu => hu.warmBsk y) (fun u hu => ?_) (fun u y hu hclear => ?_) hs
  · obtain ⟨-, -, -, hpan, -⟩ := State.warmBsk_spec hu (panBsk p)
    exact hpan p rfl
  · obtain ⟨-, -, -, hpan, hother⟩ := State.warmBsk_spec hu y
    by_cases hy : panBsk p = y
    · exact hpan p hy
    · obtain ⟨m, hm⟩ := hother p hy
      rw [hm]
      exact hclear

/-! ## A warm reset -/

/-- The part with its streams aborted, its sweep abandoned and its Baskets reset. -/
def State.warmCore (s : State) : State := (List.range 16).foldl State.warmBsk (s.abortAll 0xF005).abandonSweep

/-- What a warm reset keeps of the rest is what the abort of every stream keeps. -/
theorem State.abandoned_keeps (s : State) : let u := (s.abortAll 0xF005).abandonSweep
    u.Idle ∧ (∀ i, u.str i = (s.abortAll 0xF005).str i) ∧ (∀ h, (s.bsk h).StaysIn (u.bsk h)) ∧
      u.dzf.unsent = s.dzf.unsent ∧ u.dev.unanswered = s.dev.unanswered ∧ u.ket = s.ket ∧ u.time = s.time := by
  intro u
  have habort : Fr [.mem, .memBad, .memCorr, .memCe, .memUe, .streams, .waiting, .baskets, .pans, .pots, .fastQ, .dzf, .hq, .dev]
      s (s.abortAll 0xF005) := fr_abortAll (fr_refl _ s) (by simp [Within]) _
  have hsweep : Fr [.baskets, .pans, .cal, .trv, .evq, .msix, .mgmt] (s.abortAll 0xF005) u := fr_abandonSweep (fr_refl _ _) (by simp [Within])
  obtain ⟨hdev, hdzf, hbsk⟩ := s.abortAll_keeps 0xF005
  have hstr (i : Nat) : u.str i = (s.abortAll 0xF005).str i := hsweep.str_eq (by decide) i
  refine ⟨⟨fun i => ?_, ((s.abortAll 0xF005).abandonSweep_spec).1⟩, hstr, fun h => ?_, ?_, ?_, ?_, ?_⟩
  · rw [hstr]
    exact s.abortAll_over i
  · obtain ⟨b, hb⟩ := (s.abortAll 0xF005).abandonSweep_bsk h
    rw [show u.bsk h = _ from hb]
    exact hbsk h
  · rw [hsweep .dzf (by decide), hdzf]
  · rw [hsweep .dev (by decide), hdev]
  · exact (hsweep .ket (by decide)).trans (habort .ket (by decide))
  · exact (hsweep .time (by decide)).trans (habort .time (by decide))

theorem Basket.StaysIn.warmSt {b c : Basket} (h : b.StaysIn c) : warmSt c.st = warmSt b.st := by
  rcases h with h | ⟨hb, hc⟩
  · rw [h]
  · have hserves {x : Basket} (hx : inService x = true) : Machine.warmSt x.st = .warming := by
      simp only [inService, Bool.or_eq_true, decide_eq_true_eq] at hx
      rcases hx with hx | hx <;> rw [hx] <;> rfl
    rw [hserves hb, hserves hc]

theorem State.warmCore_spec (s : State) :
    (∀ i, (s.str i).Live → (s.warmCore.str i).Evicted) ∧ (∀ h, h < 16 → (s.warmCore.bsk h).Bare (warmSt (s.bsk h).st)) ∧
      (∀ p, p < 272 → (s.warmCore.pan p).Cleared) ∧ s.warmCore.dzf.unsent = s.dzf.unsent ∧
      s.warmCore.dev.unanswered = s.dev.unanswered ∧ s.warmCore.ket = s.ket ∧ s.warmCore.time = s.time := by
  obtain ⟨hidle, hstr, hbsk, hdzf, hdev, hket, htime⟩ := s.abandoned_keeps
  have hfr := State.foldl_warmBsk_fr hidle (List.range 16)
  have hcore (h : Nat) (hh : h < 16) := State.foldl_warmBsk_bsk hidle (List.mem_range.mpr hh)
  have hpans (p : Nat) (hp : p < 272) := State.foldl_warmBsk_pan hidle (p := p) (hs' := List.range 16)
    (List.mem_range.mpr (by unfold panBsk; omega))
  unfold State.warmCore
  generalize (s.abortAll 0xF005).abandonSweep = u at *
  refine ⟨fun i hlive => ?_, fun h hh => ?_, hpans, ?_, ?_, ?_, ?_⟩
  · rw [hfr.str_eq (by decide), hstr]
    exact State.abortAll_evicts hlive
  · rw [← (hbsk h).warmSt]
    exact hcore h hh
  · rw [hfr .dzf (by decide), hdzf]
  · rw [hfr .dev (by decide), hdev]
  · rw [hfr .ket (by decide), hket]
  · rw [hfr .time (by decide), htime]

/-- A warm reset drops the node's own units in any case. -/
theorem Dzf.warm_unsent (d : Dzf) (now : Nat) : d.unsent.warm now = d.warm now := rfl

/-- The rest of the part, reset. -/
def State.rewarmed (s : State) : State :=
  { s with
    pots := [], scales := [], tokens := [], globals := [], fastQ := [], waiting := [], hq := {}, memCe := 0, memUe := 0
    dzf := s.dzf.warm s.time, dev := s.dev.warm }

theorem State.warmReset_eq (hclock : s.clocked = true) (hcause : s.dev.cause ≠ 3) : s.warmReset = s.warmCore.rewarmed.bootRec 3 :=
  if_neg (by simp [hclock, hcause])

theorem State.warmReset_of_dark (hdark : s.clocked = false ∨ s.dev.cause = 3) : s.warmReset = s :=
  if_pos (by simpa using hdark)

/-- What a warm reset leaves (14, Table 14-4). -/
theorem State.warmReset_spec (hclock : s.clocked = true) (hcause : s.dev.cause ≠ 3) : let t := s.warmReset
    ((∀ i, (s.str i).Live → (t.str i).Evicted) ∧ (∀ h, h < 16 → (t.bsk h).Bare (warmSt (s.bsk h).st)) ∧
      (∀ p, p < 272 → (t.pan p).Cleared) ∧ t.pots = [] ∧ t.scales = [] ∧ t.tokens = [] ∧ t.globals = [] ∧ t.hq = {} ∧
      t.ket = s.ket ∧ t.dzf = s.dzf.warm s.time ∧ t.dev.cls = s.dev.cls ∧ t.dev.scratch = s.dev.scratch ∧ t.memCe = 0 ∧
      t.memUe = 0) ∧ t.time = s.time := by
  intro t
  have ht : t = s.warmCore.rewarmed.bootRec 3 := State.warmReset_eq hclock hcause
  have hboot : Fr [.trv] s.warmCore.rewarmed t := ht ▸ fr_bootRec (fr_refl _ _) (by simp [Within]) 3
  obtain ⟨hstr, hbsk, hpan, hdzf, hdev, hket, htime⟩ := s.warmCore_spec
  clear ht
  clear_value t
  generalize s.warmCore = u at *
  refine ⟨⟨fun i hlive => ?_, fun h hh => ?_, fun p hp => ?_, hboot .pots (by decide), hboot .scales (by decide),
    hboot .tokens (by decide), hboot .globals (by decide), hboot .hq (by decide), ?_, ?_, ?_, ?_, hboot .memCe (by decide),
    hboot .memUe (by decide)⟩, ?_⟩
  · rw [hboot.str_eq (by decide)]
    exact hstr i hlive
  · rw [hboot.bsk_eq (by decide)]
    exact hbsk h hh
  · rw [hboot.pan_eq (by decide)]
    exact hpan p hp
  · rw [hboot .ket (by decide)]
    exact hket
  · rw [hboot .dzf (by decide)]
    change u.dzf.warm u.time = _
    rw [← Dzf.warm_unsent, hdzf, htime, Dzf.warm_unsent]
  · rw [hboot .dev (by decide)]
    exact (congrArg Dev.cls hdev :)
  · rw [hboot .dev (by decide)]
    exact (congrArg Dev.scratch hdev :)
  · rw [hboot .time (by decide)]
    exact htime

/-! ## Losing the clock (14, R433, R444) -/

/-- A port without light is not linked, and no event is taken back. -/
theorem State.portDark_spec (s : State) (n : Nat) : linked ((s.portDark n).port n).st = false ∧
    (∀ k, linked (s.port k).st = false → linked ((s.portDark n).port k).st = false) ∧ s.evq <+: (s.portDark n).evq := by
  unfold State.portDark
  by_cases htrains : (s.port n).st = .training
  · rw [if_pos htrains]
    refine ⟨?_, fun k hk => ?_, s.portTo_evq n .down⟩
    · rw [State.portTo_port, if_pos rfl]
      rfl
    · rw [State.portTo_port]
      split_ifs
      · rfl
      · exact hk
  · rw [if_neg htrains]
    cases hlink : linked (s.port n).st with
    | false =>
      have hsame : s.portDown n = s := if_pos (by simp [hlink])
      rw [hsame]
      exact ⟨hlink, fun k hk => hk, List.prefix_rfl⟩
    | true =>
      refine ⟨?_, fun k hk => ?_, ?_⟩
      · rw [State.portDown_port hlink, if_pos rfl]
        split_ifs <;> rfl
      · rw [State.portDown_port hlink]
        split_ifs
        · rfl
        · rfl
        · exact hk
      · rw [State.portDown_eq hlink]
        extract_lets u
        have hdown : s.evq <+: u.evq := State.portTo_evq (s.setPort n ((s.port n).fall s.time)) n .down
        split_ifs
        · exact hdown.trans (u.retirePort_evq n 3)
        · exact hdown

theorem State.foldl_portDark_spec (s : State) (ns : List Nat) :
    (∀ n, n ∈ ns → linked ((ns.foldl State.portDark s).port n).st = false) ∧ s.evq <+: (ns.foldl State.portDark s).evq :=
  ⟨fun n hn => foldl_establishes (P := fun u : State => linked (u.port n).st = false) hn (fun u => (u.portDark_spec n).1)
      (fun u m hu => (u.portDark_spec m).2.1 n hu) s,
    List.foldlRecOn (motive := fun u : State => s.evq <+: u.evq) _ _ List.prefix_rfl fun u hu n _ =>
      hu.trans (u.portDark_spec n).2.2⟩

/-- A Coil without light, its gates off. -/
def Coil.Unlit (c : Coil) : Prop := c.dark = true ∧ c.gates = 0

theorem State.foldl_coilDark_spec (s : State) {qs : List Nat} {q : Nat} (hq : q ∈ qs) :
    ((qs.foldl State.coilDark s).coil q).Unlit := by
  have hself (u : State) (k : Nat) : (u.coilDark k).coil q = if q = k then
      { (u.coil k).gatesTo u.time 0 0 u.time with dark := true } else u.coil q := State.setCoil_coil _ _ _ _
  refine foldl_establishes (P := fun u : State => (u.coil q).Unlit) hq (fun u => ?_) (fun u k hu => ?_) s
  · rw [hself, if_pos rfl]
    exact ⟨rfl, rfl⟩
  · rw [hself]
    split_ifs
    · exact ⟨rfl, rfl⟩
    · exact hu

/-- A Basket that does nothing on a dark part (log entry 105, DEDUCED). -/
def Basket.Halted (b : Basket) : Prop := b.st = .off ∨ b.st = .retired ∨ b.st = .stopped

theorem State.foldl_haltBsk_spec (s : State) {hs : List Nat} {h : Nat} (hh : h ∈ hs) :
    ((hs.foldl State.haltBsk s).bsk h).Halted := by
  have hstep (u : State) (k : Nat) : (h = k → ((u.haltBsk k).bsk h).Halted) ∧ ((u.bsk h).Halted → ((u.haltBsk k).bsk h).Halted) := by
    unfold State.haltBsk
    dsimp only
    by_cases hst : (u.bsk k).st = .off ∨ (u.bsk k).st = .retired
    · rw [if_pos hst]
      refine ⟨?_, id⟩
      rintro rfl
      exact hst.imp id .inl
    · rw [if_neg hst, State.setBsk_bsk]
      split_ifs with hk
      · exact ⟨fun _ => .inr (.inr rfl), fun _ => .inr (.inr rfl)⟩
      · exact ⟨fun heq => absurd heq hk, id⟩
  exact foldl_establishes (P := fun u : State => (u.bsk h).Halted) hh (fun u => (hstep u h).1 rfl) (fun u k => (hstep u k).2) s

/-- The part with its streams aborted and its Baskets, its light and its links gone. -/
def State.darkened (s : State) : State :=
  (List.range 32).foldl State.portDark ((List.range 4).foldl State.coilDark
    ((List.range 16).foldl State.haltBsk (s.abandonSweep.abortAll 0xF005)))

theorem State.stopClock_eq (s : State) (st cause : Nat) : s.stopClock st cause = { s.darkened with
    ket := { s.darkened.ket with heaterHold := some (s.darkened.time + 10000000) }
    dev := { s.darkened.dev with st := st, cause := cause, faultClk := true, rootLock := false, testLock := false } } := by
  unfold State.stopClock State.darkened
  dsimp only

theorem State.darkened_spec (s : State) :
    (∀ i, (s.str i).Live → (s.darkened.str i).Evicted) ∧ (∀ n, n < 32 → linked (s.darkened.port n).st = false) ∧
      (∀ q, q < 4 → (s.darkened.coil q).Unlit) ∧ (∀ h, h < 16 → (s.darkened.bsk h).Halted) ∧ s.darkened.time = s.time ∧
      s.darkened.dev.unanswered = s.dev.unanswered ∧ s.evq <+: s.darkened.evq := by
  have hsweep : Fr [.baskets, .pans, .cal, .trv, .evq, .msix, .mgmt] s s.abandonSweep := fr_abandonSweep (fr_refl _ _) (by simp [Within])
  have hevq := s.abandonSweep_spec.2
  unfold State.darkened
  generalize s.abandonSweep = a at *
  have habort : Fr [.mem, .memBad, .memCorr, .memCe, .memUe, .streams, .waiting, .baskets, .pans, .pots, .fastQ, .dzf, .hq, .dev]
      a (a.abortAll 0xF005) := fr_abortAll (fr_refl _ _) (by simp [Within]) _
  obtain ⟨hdev, -⟩ := a.abortAll_keeps 0xF005
  have hevicts (i : Nat) (hlive : (a.str i).Live) := State.abortAll_evicts hlive
  generalize a.abortAll 0xF005 = b at *
  have hhalted (h : Nat) (hh : h < 16) := b.foldl_haltBsk_spec (List.mem_range.mpr hh)
  have hhalt : Fr [.baskets] b ((List.range 16).foldl State.haltBsk b) :=
    fr_foldl _ _ _ _ _ (fr_refl _ _) fun u h hu => fr_haltBsk hu (by simp [Within]) h
  generalize (List.range 16).foldl State.haltBsk b = c at *
  have hunlit (q : Nat) (hq : q < 4) := c.foldl_coilDark_spec (List.mem_range.mpr hq)
  have hcoil : Fr [.ket] c ((List.range 4).foldl State.coilDark c) :=
    fr_foldl _ _ _ _ _ (fr_refl _ _) fun u q hu => fr_coilDark hu (by simp [Within]) q
  generalize (List.range 4).foldl State.coilDark c = d at *
  obtain ⟨hports, hmore⟩ := d.foldl_portDark_spec (List.range 32)
  have hport : Fr [.freeCtr, .dzf, .trv, .evq, .tx, .joins] d ((List.range 32).foldl State.portDark d) :=
    fr_foldl _ _ _ _ _ (fr_refl _ _) fun u n hu => fr_portDark hu (by simp [Within]) n
  generalize (List.range 32).foldl State.portDark d = e at *
  refine ⟨fun i hlive => ?_, fun n hn => hports n (List.mem_range.mpr hn), fun q hq => ?_, fun h hh => ?_, ?_, ?_, ?_⟩
  · rw [hport.str_eq (by decide), hcoil.str_eq (by decide), hhalt.str_eq (by decide)]
    refine hevicts i ?_
    rwa [hsweep.str_eq (by decide)]
  · unfold State.coil
    rw [show e.ket = d.ket from hport .ket (by decide)]
    exact hunlit q hq
  · rw [hport.bsk_eq (by decide), hcoil.bsk_eq (by decide)]
    exact hhalted h hh
  · exact (hport .time (by decide)).trans ((hcoil .time (by decide)).trans ((hhalt .time (by decide)).trans
      ((habort .time (by decide)).trans (hsweep .time (by decide)))))
  · rw [hport .dev (by decide), hcoil .dev (by decide), hhalt .dev (by decide), hdev, hsweep .dev (by decide)]
  · have hsame : d.evq = a.evq := (hcoil .evq (by decide)).trans ((hhalt .evq (by decide)).trans (habort .evq (by decide)))
    rw [hsame] at hmore
    exact hevq.trans hmore

/-- Stopping keeps what a trip has noted, and takes no event back. -/
theorem State.stopClock_keeps (s : State) (st cause : Nat) :
    (s.stopClock st cause).dev.thermTrip = s.dev.thermTrip ∧ s.evq <+: (s.stopClock st cause).evq := by
  obtain ⟨-, -, -, -, -, hdev, hevq⟩ := s.darkened_spec
  rw [State.stopClock_eq]
  generalize s.darkened = t at *
  exact ⟨(congrArg Dev.thermTrip hdev :), hevq⟩

theorem exec_clockLoss (hclock : s.clocked = true) (pll : Bool) : exec (.clockLoss pll) s = .next
    { s.stopClock 4 (if pll then 2 else 1) with dev := { (s.stopClock 4 (if pll then 2 else 1)).dev with
      refOk := (s.stopClock 4 (if pll then 2 else 1)).dev.refOk && pll } } :=
  congrArg Host.Outcome.next (if_pos hclock)

theorem exec_thermtrip {ch : Nat} (hch : ch < 512) (hclock : s.clocked = true) : exec (.thermtrip ch) s = .next
    { (s.raise 0x0B04 4 0x00 0 ch).stopClock 3 4 with dev := { ((s.raise 0x0B04 4 0x00 0 ch).stopClock 3 4).dev with
      st := 3, cause := 4, thermTrip := true, faultClk := true } } := by
  refine (if_pos (decide_eq_true hch)).trans (congrArg Host.Outcome.next ?_)
  dsimp only
  rw [if_pos (show (s.raise 0x0B04 4 0x00 0 ch).clocked = true from hclock)]

/-! ## The heaters after it (14, R433) -/

/-- A slot without current. -/
def Slot.Unheated (v : Slot) : Prop := v.out = 0 ∧ v.segs = [0, 0, 0, 0]

/-- Switching off the slots of the Pans (08, Table 08-1). -/
theorem State.foldl_unheat_spec {es : Tab Slot} (hes : ∀ e, e ∈ es → e.1 % 80 < 68) (n : Nat) :
    let t := es.foldl (fun s e => s.setSlot e.1 { s.slot e.1 with
      out := 0, outNext := none, segs := [0, 0, 0, 0], segsNext := none }) s
    t.time = s.time ∧ t.ket.heaterHold = s.ket.heaterHold ∧ t.ket.heatersOff = s.ket.heatersOff ∧
      (n ∈ es.map (·.1) ∨ (s.slot n).Unheated → (t.slot n).Unheated) ∧ (68 ≤ n % 80 → t.slot n = s.slot n) := by
  induction es generalizing s with
  | nil => simp
  | cons e es ih =>
    have hstep j : (s.setSlot e.1 { s.slot e.1 with out := 0, outNext := none, segs := [0, 0, 0, 0], segsNext := none }).slot j =
        if j = e.1 then { s.slot e.1 with out := 0, outNext := none, segs := [0, 0, 0, 0], segsNext := none } else s.slot j :=
      State.setSlot_slot _ _ _ _
    obtain ⟨htime, hhold, hoff, hset, hkeep⟩ := ih (s := s.setSlot e.1 { s.slot e.1 with
      out := 0, outNext := none, segs := [0, 0, 0, 0], segsNext := none }) fun x hx => hes x (List.mem_cons_of_mem _ hx)
    refine ⟨htime, hhold, hoff, fun h => hset ?_, fun hhigh => (hkeep hhigh).trans ?_⟩
    · rw [hstep]
      by_cases hn : n = e.1
      · rw [if_pos hn]
        exact .inr ⟨rfl, rfl⟩
      · rw [if_neg hn]
        exact h.imp_left fun hmem => (List.mem_cons.mp hmem).resolve_left hn
    · have hlow := hes e List.mem_cons_self
      rw [hstep, if_neg (by rintro rfl; omega)]

/-- The part at the end of the heaters' hold. -/
def State.unheated (s : State) (τ : Nat) : State :=
  (s.ket.slots.filter (fun e => decide (e.1 % 80 < 68))).foldl (fun s e => s.setSlot e.1 { s.slot e.1 with
    out := 0, outNext := none, segs := [0, 0, 0, 0], segsNext := none })
    { s.at τ with ket := { s.ket with heaterHold := none, heatersOff := true } }

theorem exec_heaterHoldEnd {τ : Nat} (hhold : s.ket.heaterHold = some τ) : exec .heaterHoldEnd s = .next (s.unheated τ) := by
  change execHeaterHoldEnd s = _
  unfold execHeaterHoldEnd
  rw [hhold]
  rfl

/-- Every Pan's slot is without current then, and the others stand. -/
theorem State.unheated_spec (s : State) (τ : Nat) : (s.unheated τ).time = max s.time τ ∧ (s.unheated τ).ket.heaterHold = none ∧
    (s.unheated τ).ket.heatersOff = true ∧
    ∀ n, (n % 80 < 68 → ((s.unheated τ).slot n).Unheated) ∧ (68 ≤ n % 80 → (s.unheated τ).slot n = s.slot n) := by
  have hspec n := State.foldl_unheat_spec (s := { s.at τ with ket := { s.ket with heaterHold := none, heatersOff := true } })
    (es := s.ket.slots.filter (fun e => decide (e.1 % 80 < 68))) (by simp) n
  obtain ⟨htime, hnone, hoff, -, -⟩ := hspec 0
  refine ⟨htime, hnone, hoff, fun n => ⟨fun hlow => (hspec n).2.2.2.1 ?_, (hspec n).2.2.2.2⟩⟩
  by_cases hn : n ∈ s.ket.slots.map (·.1)
  · obtain ⟨e, he, rfl⟩ := List.mem_map.mp hn
    exact .inl (List.mem_map_of_mem (List.mem_filter.mpr ⟨he, decide_eq_true hlow⟩))
  · have hdflt : s.slot n = slotDflt n := tget_of_not_mem hn
    refine .inr (show (s.slot n).Unheated from ?_)
    rw [hdflt]
    exact ⟨rfl, rfl⟩

end

/-- Settles O54: a warm reset aborts every stream first, so that the Baskets' resets find nothing to evict; a lost clock stops
each unit in turn, and what stops later leaves what has stopped. -/
theorem warmResetsAndClockLosses : Obligations.WarmResetsAndClockLosses := by
  unfold Obligations.WarmResetsAndClockLosses
  refine ⟨?warm, ?lost⟩
  case warm =>
    intro s Warm
    refine ⟨fun hclock hcause => ?_, fun hdark => ?_, fun hperst hclock hcause => ?_, fun hperst => ?_,
      fun hperst hclock hcause haux => ?_, fun hperst => ?_⟩
    · obtain ⟨hwarm, htime⟩ := State.warmReset_spec hclock hcause
      exact ⟨s.warmReset, rfl, hwarm, htime⟩
    · exact congrArg Host.Outcome.next (State.warmReset_of_dark hdark)
    · obtain ⟨hwarm, htime⟩ := State.warmReset_spec hclock hcause
      have hexec : exec .perstAssert s = .next
          { s.warmReset with dev := { s.warmReset.dev with perst := true, perstAt := s.warmReset.time } } :=
        congrArg Host.Outcome.next (if_neg (by simp [hperst]))
      generalize s.warmReset = t at *
      exact ⟨_, hexec, hwarm, rfl, htime⟩
    · exact congrArg Host.Outcome.next (if_pos hperst)
    · have hexec : exec .perstRelease s = .next { s.at (s.dev.perstAt + 100000) with dev := { s.dev with
          perst := false, st := if s.dev.st = 5 then 5 else 1, rootLock := true, testLock := true, refOk := true, railOk := 0x7FF } } := by
        change execPerstRelease s = _
        unfold execPerstRelease
        rw [if_neg (by simp [hperst])]
        exact congrArg Host.Outcome.next (if_neg (by
          simpa [haux, hcause, State.at, State.clocked] using hclock))
      exact ⟨_, hexec, rfl, rfl, rfl, rfl, rfl⟩
    · exact congrArg Host.Outcome.next (if_pos (by simp [hperst]))
  case lost =>
    intro s Dead
    have hdead (u : State) (st cause : Nat) (d : Dev) (hclock : st = 3 ∨ st = 4) (hd : d.st = st) (hfault : d.faultClk = true)
        (hstr : u.streams = s.streams) (htime : u.time = s.time) : Dead { u.stopClock st cause with dev := d } := by
      obtain ⟨hevicts, hports, hcoils, hbsks, hat, -, -⟩ := u.darkened_spec
      rw [State.stopClock_eq]
      generalize u.darkened = t at *
      have hstrs (i : Nat) : u.str i = s.str i := congrArg (tget strDflt · i) hstr
      refine ⟨fun i hlive => hevicts i (by rw [hstrs]; exact hlive), hports, hcoils, hbsks, ?_, hfault, ?_, ?_, hat.trans htime⟩
      · change some (t.time + 10000000) = _
        rw [hat, htime]
      · unfold State.faultN
        simp [hfault]
      · unfold State.clocked
        rcases hclock with rfl | rfl <;> simp [hd]
    refine ⟨fun hclock pll => ?_, fun hdark pll => ?_, fun hclock ch hch => ?_, fun τ hhold => ?_⟩
    · have hstop (d : Dev) (hd : d.st = 4) (hfault : d.faultClk = true) := hdead s 4 (if pll then 2 else 1) d (.inr rfl) hd hfault rfl rfl
      have hexec := exec_clockLoss hclock pll
      have hst : (s.stopClock 4 (if pll then 2 else 1)).dev.st = 4 := rfl
      have hcause : (s.stopClock 4 (if pll then 2 else 1)).dev.cause = if pll then 2 else 1 := rfl
      have hfault : (s.stopClock 4 (if pll then 2 else 1)).dev.faultClk = true := rfl
      have htrip := (s.stopClock_keeps 4 (if pll then 2 else 1)).1
      generalize s.stopClock 4 (if pll then 2 else 1) = t at *
      exact ⟨_, hexec, hstop _ hst hfault, hst, hcause, htrip⟩
    · exact congrArg Host.Outcome.next (if_neg (by simp [hdark]))
    · obtain ⟨e, hmem, hcode, hcls, -, -, hdetail⟩ := State.raise_raised (s := s) 0x0B04 4 0x00 0 ch
      have hstop (d : Dev) (hd : d.st = 3) (hfault : d.faultClk = true) := hdead (s.raise 0x0B04 4 0x00 0 ch) 3 4 d (.inl rfl) hd hfault rfl rfl
      have hexec := exec_thermtrip hch hclock
      have hevq := ((s.raise 0x0B04 4 0x00 0 ch).stopClock_keeps 3 4).2
      generalize (s.raise 0x0B04 4 0x00 0 ch).stopClock 3 4 = t at *
      exact ⟨_, hexec, hstop _ rfl rfl, rfl, rfl, rfl, e, hevq.subset hmem, hcode, hcls, hdetail⟩
    · obtain ⟨htime, hnone, hoff, hslots⟩ := s.unheated_spec τ
      exact ⟨_, exec_heaterHoldEnd hhold, htime, hnone, hoff, fun n => (hslots n).1, fun n => (hslots n).2⟩

end Sys2Proof.Machine
end

section
/-! PROOFS. Queue pairs: doorbells, enables, fetches and the commands they run, and O50 (12, R381, R383 to R387). -/

namespace Sys2Proof.Machine

/-! ## Bytes of a table -/

theorem tabBytes_length (m : Tab Byte) (a n : Nat) : (tabBytes m a n).length = n := by
  induction n generalizing a with
  | zero => rfl
  | succ n ih => exact congrArg (· + 1) (ih (a + 1))

theorem tabBytes_getD {m : Tab Byte} {a n k : Nat} (hk : k < n) (x : Byte) : (tabBytes m a n).getD k x = tget memDflt m (a + k) := by
  induction n generalizing a k with
  | zero => omega
  | succ n ih =>
    cases k with
    | zero => rfl
    | succ k => exact (ih (a := a + 1) (by omega)).trans (by rw [show a + 1 + k = a + (k + 1) by omega])

/-- The first entry that fits is the one that changes. -/
theorem lmod_append_cons {α : Type} {p : α → Bool} {f : α → α} {pre post : List α} {x : α} (hpre : ∀ y, y ∈ pre → p y = false)
    (hx : p x = true) : lmod p f (pre ++ x :: post) = pre ++ f x :: post := by
  induction pre with
  | nil => simp [lmod, hx]
  | cons y pre ih =>
    have hy := hpre y List.mem_cons_self
    have hrest := ih fun z hz => hpre z (List.mem_cons_of_mem _ hz)
    simp [lmod, hy, hrest]

section
variable {s : State} {q : Nat}

/-! ## Errors of the host port (12, Table 12-16) -/

theorem bit_or_self (x : BitVec 7) {b : Nat} (hb : b < 7) : bit (x ||| BitVec.ofNat 7 (2 ^ b)).toNat b = true := by
  have hmod : 2 ^ b % 2 ^ 7 = 2 ^ b := Nat.mod_eq_of_lt (Nat.pow_lt_pow_right (by decide) hb)
  rw [bit_eq_testBit, BitVec.toNat_or, BitVec.toNat_ofNat, hmod, Nat.testBit_or, Nat.testBit_two_pow_self, Bool.or_true]

/-- An error of the host port sets its flag, and one that is new signals vector 2. -/
theorem State.hqErr_spec (s : State) {b : Nat} (hb : b < 7) :
    (s.hqErr b) = { s with
      hq := { s.hq with err := s.hq.err ||| BitVec.ofNat 7 (2 ^ b) }
      msix := if bit s.hq.err.toNat b then s.msix else s.msix ++ [(0, 2)] } ∧
    bit (s.hqErr b).hq.err.toNat b = true := by
  have heq : (s.hqErr b) = { s with
      hq := { s.hq with err := s.hq.err ||| BitVec.ofNat 7 (2 ^ b) }
      msix := if bit s.hq.err.toNat b then s.msix else s.msix ++ [(0, 2)] } := by
    unfold State.hqErr
    dsimp only
    split_ifs <;> rfl
  rw [heq]
  exact ⟨rfl, bit_or_self _ hb⟩

/-! ## Doorbells, fetches and enables -/

theorem guard_queue (hq : q < 64) (t : State) : guard (decide (q < 64)) t = .next t := if_pos (decide_eq_true hq)

/-- A doorbell beyond the last entry sets the queue's ERR and the host's flag, and no index. -/
theorem State.badBell_spec (s : State) (q : Nat) :
    s.badBell q = { s.setQue q { s.que q with err := true } with hq := (s.badBell q).hq, msix := (s.badBell q).msix } ∧
      (s.badBell q).que q = { s.que q with err := true } ∧ bit (s.badBell q).hq.err.toNat 1 = true ∧
      (bit s.hq.err.toNat 1 = false → (s.badBell q).msix = s.msix ++ [(0, 2)]) := by
  obtain ⟨heq, hbit⟩ := (s.setQue q { s.que q with err := true }).hqErr_spec (b := 1) (by decide)
  have hbell : s.badBell q = _ := heq
  refine ⟨by rw [hbell], ?_, hbit, fun hnew => ?_⟩
  · rw [hbell]
    exact (State.setQue_que _ _ _ _).trans (if_pos rfl)
  · rw [hbell]
    exact if_neg (by simp [show bit (s.setQue q { s.que q with err := true }).hq.err.toNat 1 = false from hnew])

theorem exec_commandFetch (hq : q < 64) (hactive : (s.que q).active = true) (hen : (s.que q).en = true)
    (hpend : (s.que q).pendEn = false) (hmore : (s.que q).sqHead ≠ (s.que q).sqTail) (hroom : (s.que q).room = true)
    (hlink : s.hq.linkUp = true) (hgives : s.hostFail ((s.que q).sqBase.toNat + 64 * (s.que q).sqHead) 64 = none)
    (hclock : s.clocked = true) :
    let v := s.que q
    let hd := (v.sqHead + 1) % v.sqSize
    exec (.commandFetch q) s = .next (s.setQue q { v with
      sqHead := hd, cmds := v.cmds ++ [fetched (s.hrd (v.sqBase.toNat + 64 * v.sqHead) 64) hd] }) := by
  intro v hd
  refine (guard_queue hq _).trans (congrArg Host.Outcome.next ?_)
  rw [if_pos (by simp [hactive, hen, hpend, hmore, hroom, hlink, hclock])]
  dsimp only
  rw [hgives]

/-- Without an entry to take, or room for it, nothing is fetched. -/
theorem exec_commandFetch_of_idle (hq : q < 64) (hidle : (s.que q).active = false ∨ (s.que q).en = false ∨
    (s.que q).sqHead = (s.que q).sqTail ∨ (s.que q).room = false ∨ s.clocked = false) : exec (.commandFetch q) s = .next s := by
  refine (guard_queue hq _).trans (congrArg Host.Outcome.next (if_neg ?_))
  rcases hidle with h | h | h | h | h <;> simp [h]

/-! ## A command that starts (12, R381) -/

/-- The state in which a queue's next command has started. -/
def State.begun (s : State) (q : Nat) (pre : List QCmd) (c : QCmd) (post : List QCmd) : State :=
  s.setQue q { s.que q with cmds := pre ++ { c with started := true } :: post }

section
variable {c : QCmd} {pre post : List QCmd} (hq : q < 64) (hclock : s.clocked = true) (hcmds : (s.que q).cmds = pre ++ c :: post)
  (hwaits : c.started = false) (hpre : ∀ x, x ∈ pre → x.started = true ∧ x.cid ≠ c.cid)

include hcmds hwaits hpre in
theorem Queue.next_eq (hfence : c.fence = true → pre = []) : (s.que q).next = some c := by
  have hfind : (s.que q).cmds.find? (fun c => !c.started) = some c := by
    rw [hcmds, List.find?_append, List.find?_eq_none.mpr fun x hx => by simp [(hpre x hx).1]]
    simp [hwaits]
  unfold Queue.next
  rw [hfind]
  dsimp only
  refine if_neg fun hheld => ?_
  cases hf : c.fence with
  | false => simp [hf] at hheld
  | true => simp [hf, hcmds, hfence hf, hwaits] at hheld

include hq hclock hcmds hwaits hpre in
/-- The command named is the next, and starts. -/
theorem State.startCmd_eq (hfence : c.fence = true → pre = []) {opc : Nat} (hopc : c.opc = opc) (f : QCmd → State → State) :
    s.startCmd q c.cid opc f = .next (f c (s.begun q pre c post)) := by
  refine (guard_queue hq _).trans (congrArg Host.Outcome.next ?_)
  rw [Queue.next_eq hcmds hwaits hpre hfence]
  dsimp only
  rw [if_pos ⟨hclock, rfl, hopc⟩, hcmds, lmod_append_cons (fun y hy => by simp [(hpre y hy).1]) (by simp [hwaits])]
  rfl

include hpre in
/-- A started command is done with what it answers. -/
theorem State.qDone_que {t : State} {v : Queue} (ht : t.que q = { v with cmds := pre ++ { c with started := true } :: post })
    (hopen : c.done = none) (st res det : Nat) : (t.qDone q c.cid st res det).que q =
      { v with cmds := pre ++ { c with started := true, done := some (st, res, det) } :: post } := by
  unfold State.qDone
  rw [State.setQue_que, if_pos rfl, ht]
  dsimp only
  rw [lmod_append_cons (fun y hy => by simp [(hpre y hy).2]) (by simp [hopen])]

theorem State.begun_que : (s.begun q pre c post).que q = { s.que q with cmds := pre ++ { c with started := true } :: post } :=
  (State.setQue_que _ _ _ _).trans (if_pos rfl)

end

end

/-! ## What a stream command does to its stream (07, Tables 07-5, 07-10) -/

section
variable {s : State} {i : Nat}

/-- A change of stream i alone, which leaves the host port. -/
def State.Moves (s t : State) (i : Nat) (v : Stream) : Prop := (∀ j, t.str j = if j = i then v else s.str j) ∧ t.hq = s.hq

theorem State.Moves.refl (s : State) (i : Nat) : s.Moves s i (s.str i) :=
  ⟨fun _ => by split_ifs with hj; exacts [by rw [hj], rfl], rfl⟩

/-- The stream as it settles on a Basket in a state. -/
def Stream.placed (v : Stream) (st : StrState) (h : Nat) : Stream := { v with st := st, bsk := h }

/-- The stream with another Basket in its record. -/
def Stream.sentTo (v : Stream) (h : Nat) : Stream := { v with bsk := h }

/-- The stream a START leaves, and its RESULT (07, R231). -/
def State.startPlan (s : State) (i : Nat) : Stream × Nat :=
  if (s.str i).st = .idle ∨ (s.str i).st = .ended ∨ (s.str i).st = .aborted then
    if descBad (s.descNum i) then (s.str i, 3) else
    match s.imageBad (fld (s.descNum i) 0 8) with
    | some _ => (s.str i, 4)
    | none =>
      match s.placeAt (fld (s.descNum i) 0x0A 2) (fun _ => true) with
      | some h => ((s.started i).placed .resident h, 0)
      | none => ({ s.started i with st := .pending }, 0)
  else (s.str i, 2)

/-- The stream that is opened on Basket h, or that an uncorrectable image aborts (07, R238, R243). -/
def State.reopenPlan (s : State) (v : Stream) (h : Nat) : Stream :=
  if (s.imagesBad v).isSome then v.aborted 0x0203
  else { v with st := .resident, bsk := h, migTo := none, wasRes := false, migSaved := false, migPots := [] }

/-- The stream a RESUME leaves, and its RESULT (07, R235, R239, R243). -/
def State.resumePlan (s : State) (i : Nat) : Stream × Nat :=
  let t := s.resumed i
  if (s.str i).st = .suspended then
    if descBad (s.descNum i) then (s.str i, 3)
    else if t.migSaved then
      match s.placeAt t.aff (fun h => !s.entriesUsed h i t.shnd t.scnt && s.potsFit h t) with
      | some h => (s.reopenPlan (t.sentTo h) h, 0)
      | none => (s.str i, if (s.placeAt t.aff (fun h => s.potsFit h t)).isSome then 9 else 5)
    else (t.placed .resident (s.str i).bsk, 0)
  else (s.str i, 2)

/-- The stream an ABORT leaves, and its RESULT (07, R234). -/
def State.abortPlan (s : State) (i : Nat) : Stream × Nat :=
  if (s.str i).st = .pending ∨ (s.str i).st = .resident ∨ (s.str i).st = .suspended ∨ (s.str i).st = .migrating then
    ((s.str i).aborted 0xF004, 0)
  else (s.str i, 2)

/-- The stream a RESET leaves, and its RESULT (07, Table 07-5). -/
def State.resetPlan (s : State) (i : Nat) : Stream × Nat :=
  if (s.str i).st = .ended ∨ (s.str i).st = .aborted then ({ s.str i with st := .idle, cause := 0, bsk := 0 }, 0)
  else (s.str i, 2)

/-- The RESULT of a MIGRATE that is refused (07, R237). -/
def State.migrateAns (s : State) (i g : Nat) : Option Nat :=
  if (s.str i).st = .resident ∨ (s.str i).st = .suspended then
    if descBad (s.descNum i) then some 3
    else if !s.takesStream (s.readDesc i (s.str i)).aff g then some 5
    else s.migBad i g (s.readDesc i (s.str i))
  else some 2

theorem State.settleOn_moves {u : State} (hu : s.Moves u i (u.str i)) (h : Nat) (st : StrState) :
    s.Moves (u.settleOn i h st) i ((u.str i).placed st h) := by
  obtain ⟨hstr, hhq⟩ := hu
  have hfr : Fr [.mem, .memBad, .memCorr, .memCe, .memUe, .streams, .baskets] u (u.settleOn i h st) :=
    fr_settleOn (fr_refl _ u) (by simp [Within]) _ _ _
  refine ⟨fun j => ?_, (hfr .hq (by decide)).trans hhq⟩
  unfold State.settleOn
  rw [settle_str, putStr_str, hstr j]
  split_ifs <;> rfl

theorem State.putStr_moves {u : State} {v : Stream} (hu : s.Moves u i v) (w : Stream) : s.Moves (u.putStr i w) i w := by
  obtain ⟨hstr, hhq⟩ := hu
  have hfr : Fr [.mem, .memBad, .memCorr, .memCe, .memUe, .streams] u (u.putStr i w) := fr_putStr (fr_refl _ u) (by simp [Within]) _ _
  refine ⟨fun j => ?_, (hfr .hq (by decide)).trans hhq⟩
  rw [putStr_str, hstr j]
  split_ifs <;> rfl

theorem State.setStr_moves (s : State) (i : Nat) (v : Stream) : s.Moves (s.setStr i v) i v := ⟨fun j => State.setStr_str _ _ _ _, rfl⟩

theorem State.setWaiting_hq (s : State) (w : List Nat) : (s.setWaiting w).hq = s.hq := rfl

theorem State.cmdStart_plan (s : State) (i : Nat) :
    (s.cmdStart i).2 = (s.startPlan i).2 ∧ s.Moves (s.cmdStart i).1 i (s.startPlan i).1 := by
  by_cases hst : (s.str i).st = .idle ∨ (s.str i).st = .ended ∨ (s.str i).st = .aborted
  · cases hdesc : descBad (s.descNum i) with
    | true =>
      unfold State.cmdStart State.startPlan
      simp only [if_pos hst, hdesc, if_true]
      exact ⟨trivial, .refl s i⟩
    | false =>
      cases himage : s.imageBad (fld (s.descNum i) 0 8) with
      | some e =>
        unfold State.cmdStart State.startPlan
        simp only [if_pos hst, hdesc, himage, Bool.false_eq_true, if_false]
        exact ⟨trivial, .refl s i⟩
      | none =>
        have hstarts : s.Moves (s.starting i) i (s.started i) := by
          have hfr : Fr [.mem, .memBad, .memCorr, .memCe, .memUe] (s.setStr i (s.started i)) (s.starting i) :=
            fr_wrCtx (fr_refl _ _) (by simp [Within]) i
          exact ⟨s.starting_str i, hfr .hq (by decide)⟩
        have hstr : (s.starting i).str i = s.started i := (s.starting_str i i).trans (if_pos rfl)
        rw [State.cmdStart_of_good hst hdesc himage]
        unfold State.startPlan
        simp only [if_pos hst, hdesc, himage, Bool.false_eq_true, if_false]
        cases s.placeAt (fld (s.descNum i) 0x0A 2) (fun _ => true) with
        | some h =>
          have hmoves := State.settleOn_moves (u := s.starting i) (hstr ▸ hstarts) h .resident
          rw [hstr] at hmoves
          exact ⟨rfl, hmoves⟩
        | none =>
          obtain ⟨hputs, hhq⟩ := State.putStr_moves hstarts { s.started i with st := .pending }
          have hqueued : s.Moves (s.pended i) i { s.started i with st := .pending } :=
            ⟨fun j => ((State.setWaiting_keeps _ _).2.2 j).trans (hputs j), (State.setWaiting_hq _ _).trans hhq⟩
          exact ⟨rfl, hqueued⟩
  · unfold State.cmdStart State.startPlan
    simp only [if_neg hst]
    exact ⟨trivial, .refl s i⟩

theorem State.migReport_hq (hnobody : (s.str i).migBy = none) (res : Nat) : (s.migReport i res).hq = s.hq := by
  unfold State.migReport
  simp only [hnobody]
  split_ifs <;> rfl

/-- Aborting a stream whose move has nobody to answer. -/
theorem State.abortStr_moves {u : State} {v : Stream} (hu : s.Moves u i v) (hlive : v.st = .pending ∨ v.st = .resident ∨
    v.st = .suspended ∨ v.st = .migrating) (hnobody : v.migBy = none) (cause : Nat) :
    s.Moves (u.abortStr i cause) i (v.aborted cause) := by
  obtain ⟨hstr, hhq⟩ := hu
  have hv : u.str i = v := (hstr i).trans (if_pos rfl)
  obtain ⟨hstrs, -⟩ := State.abortStr_spec (s := u) (i := i) cause (hv ▸ hlive)
  refine ⟨fun j => ?_, ?_⟩
  · rw [hstrs, hv, hstr j]
    split_ifs <;> rfl
  · obtain ⟨x, hx, habort⟩ := State.abortStr_of_live (s := u) (i := i) cause (hv ▸ hlive)
    have hcancel : (u.cancelled i).hq = u.hq := by
      unfold State.cancelled
      split_ifs
      · exact State.migReport_hq (hv ▸ hnobody) 2
      · rfl
    have hdrop : Fr [.waiting, .baskets, .pans, .pots, .fastQ, .dzf] (u.cancelled i) ((u.cancelled i).dropStream i) :=
      fr_dropStream (fr_refl _ _) (by simp [Within]) i
    have hput : Fr [.mem, .memBad, .memCorr, .memCe, .memUe, .streams] ((u.cancelled i).dropStream i) x :=
      (fr_putStr (fr_refl _ _) (by simp [Within]) _ _).trans (hx.mono (by simp [Within]))
    have hsettle : Fr [.baskets] x (x.settleBsk (u.str i).bsk) := fr_settleBsk (fr_refl _ _) (by simp [Within]) _
    rw [habort, hsettle .hq (by decide), hput .hq (by decide), hdrop .hq (by decide), hcancel, hhq]

theorem State.cmdAbort_plan (hnobody : (s.str i).migBy = none) :
    (s.cmdAbort i).2 = (s.abortPlan i).2 ∧ s.Moves (s.cmdAbort i).1 i (s.abortPlan i).1 := by
  unfold State.cmdAbort State.abortPlan
  dsimp only
  split_ifs with hlive
  · exact ⟨rfl, State.abortStr_moves (.refl s i) hlive hnobody _⟩
  · exact ⟨rfl, .refl s i⟩

theorem State.cmdReset_plan (s : State) (i : Nat) :
    (s.cmdReset i).2 = (s.resetPlan i).2 ∧ s.Moves (s.cmdReset i).1 i (s.resetPlan i).1 := by
  unfold State.cmdReset State.resetPlan
  dsimp only
  split_ifs
  · exact ⟨rfl, State.putStr_moves (.refl s i) _⟩
  · exact ⟨rfl, .refl s i⟩

theorem State.cmdMigrate_plan (s : State) (i g : Nat) :
    (s.cmdMigrate i g).2 = s.migrateAns i g ∧ ((s.migrateAns i g).isSome → (s.cmdMigrate i g).1 = s) := by
  unfold State.cmdMigrate State.migrateAns
  dsimp only
  by_cases hst : (s.str i).st = .resident ∨ (s.str i).st = .suspended
  · rw [if_pos hst, if_pos hst]
    by_cases hdesc : descBad (s.descNum i) = true
    · rw [if_pos hdesc, if_pos hdesc]
      exact ⟨rfl, fun _ => rfl⟩
    · rw [if_neg hdesc, if_neg hdesc]
      by_cases htakes : (!s.takesStream (s.readDesc i (s.str i)).aff g) = true
      · rw [if_pos htakes, if_pos htakes]
        exact ⟨rfl, fun _ => rfl⟩
      · rw [if_neg htakes, if_neg htakes]
        cases s.migBad i g (s.readDesc i (s.str i)) with
        | some r => exact ⟨rfl, fun _ => rfl⟩
        | none => exact ⟨rfl, fun h => by simp at h⟩
  · rw [if_neg hst, if_neg hst]
    exact ⟨rfl, fun _ => rfl⟩

theorem State.reopen_moves {u : State} {v : Stream} (hu : s.Moves u i v) (hst : v.st = .suspended) (hnobody : v.migBy = none) (h : Nat) :
    s.Moves (u.reopen i h .resident) i (u.reopenPlan v h) := by
  obtain ⟨hstr, hhq⟩ := hu
  have hv : u.str i = v := (hstr i).trans (if_pos rfl)
  unfold State.reopen State.reopenPlan
  rw [hv]
  cases hbad : u.imagesBad v with
  | some w =>
    have hscrub : Fr [.memCorr, .memCe, .memUe] u (u.scrub (v.win v.migb) (64 * v.scnt)) := fr_scrub (fr_refl _ _) (by simp [Within]) _ _
    have hread : s.Moves (u.scrub (v.win v.migb) (64 * v.scnt)) i v :=
      ⟨fun j => (hscrub.str_eq (by decide) j).trans (hstr j), (hscrub .hq (by decide)).trans hhq⟩
    exact State.abortStr_moves (u := (u.scrub (v.win v.migb) (64 * v.scnt)).raiseS 0x0203 4 0x00 0 i h v.ptr (memUnitDetail w))
      hread (.inr (.inr (.inl hst))) hnobody 0x0203
  | none =>
    have hload : Fr [.memCorr, .memCe, .memUe, .pots, .scales] u (u.migLoad i h) := fr_migLoad (fr_refl _ u) (by simp [Within]) _ _
    have hloaded : s.Moves (u.migLoad i h) i v :=
      ⟨fun j => (hload.str_eq (by decide) j).trans (hstr j), (hload .hq (by decide)).trans hhq⟩
    have hself : (u.migLoad i h).str i = v := (hloaded.1 i).trans (if_pos rfl)
    dsimp only
    rw [hself]
    generalize u.migLoad i h = w at *
    obtain ⟨hputs, hputHq⟩ := State.putStr_moves hloaded { v with
      st := .resident, bsk := h, migTo := none, wasRes := false, migSaved := false, migPots := [] }
    refine ⟨fun j => (settle_str _ _ _).trans (hputs j), ?_⟩
    have hsettle (x : State) : Fr [.baskets] x (x.settleBsk h) := fr_settleBsk (fr_refl _ _) (by simp [Within]) _
    exact (hsettle _ .hq (by decide)).trans hputHq

theorem State.reopenPlan_setStr (s : State) (i : Nat) (w v : Stream) (h : Nat) :
    (s.setStr i w).reopenPlan v h = s.reopenPlan v h := rfl

theorem State.cmdResume_plan (hnobody : (s.str i).migBy = none) :
    (s.cmdResume i).2 = (s.resumePlan i).2 ∧ s.Moves (s.cmdResume i).1 i (s.resumePlan i).1 := by
  by_cases hst : (s.str i).st = .suspended
  · cases hdesc : descBad (s.descNum i) with
    | true =>
      unfold State.cmdResume State.resumePlan
      simp only [if_pos hst, hdesc, if_true]
      exact ⟨trivial, .refl s i⟩
    | false =>
      cases hsaved : (s.resumed i).migSaved with
      | false =>
        have hhere : (s.str i).migSaved = false := hsaved
        have hmoves := State.settleOn_moves (u := s.setStr i (s.resumed i)) (by
          rw [State.setStr_str, if_pos rfl]
          exact s.setStr_moves i _) (s.str i).bsk .resident
        rw [State.setStr_str, if_pos rfl] at hmoves
        rw [State.cmdResume_of_good hst hdesc hhere]
        unfold State.resumePlan
        simp only [if_pos hst, hdesc, hsaved, Bool.false_eq_true, if_false]
        exact ⟨trivial, hmoves⟩
      | true =>
        have hcmd : s.cmdResume i = (match s.placeAt (s.resumed i).aff
            (fun h => !s.entriesUsed h i (s.resumed i).shnd (s.resumed i).scnt && s.potsFit h (s.resumed i)) with
          | some h => (((s.setStr i ((s.resumed i).sentTo h)).reopen i h .resident).settleBsk (s.resumed i).bsk, 0)
          | none => (s, if (s.placeAt (s.resumed i).aff (fun h => s.potsFit h (s.resumed i))).isSome then 9 else 5)) := by
          unfold State.cmdResume
          dsimp only
          rw [if_pos hst, if_neg (by simp [hdesc])]
          exact if_pos hsaved
        rw [hcmd]
        unfold State.resumePlan
        simp only [if_pos hst, hdesc, hsaved, Bool.false_eq_true, if_false, if_true]
        cases s.placeAt (s.resumed i).aff
            (fun h => !s.entriesUsed h i (s.resumed i).shnd (s.resumed i).scnt && s.potsFit h (s.resumed i)) with
        | none => exact ⟨rfl, .refl s i⟩
        | some h =>
          obtain ⟨hreopened, hhq⟩ := State.reopen_moves (s.setStr_moves i ((s.resumed i).sentTo h)) hst hnobody h
          rw [State.reopenPlan_setStr] at hreopened
          dsimp only
          generalize (s.setStr i ((s.resumed i).sentTo h)).reopen i h .resident = x at *
          have hsettle : Fr [.baskets] x (x.settleBsk (s.resumed i).bsk) := fr_settleBsk (fr_refl _ _) (by simp [Within]) _
          exact ⟨rfl, fun j => (settle_str _ _ _).trans (hreopened j), (hsettle .hq (by decide)).trans hhq⟩
  · unfold State.cmdResume State.resumePlan
    simp only [if_neg hst]
    exact ⟨trivial, .refl s i⟩

end

section
variable {s : State} {i : Nat}

/-- The stream a stream command leaves, and its RESULT, none where a migration is under way (07, Tables 07-5, 07-10). -/
def State.strmPlan (s : State) (cmd bsk i : Nat) : Stream × Option Nat :=
  if cmd = 0 ∨ 5 < cmd ∨ (cmd ≠ 4 ∧ bsk ≠ 0) ∨ 131072 ≤ i then (s.str i, some 1)
  else if s.stateRsv i then (s.str i, some 3)
  else if cmd = 1 then ((s.startPlan i).1, some (s.startPlan i).2)
  else if cmd = 2 then ((s.resumePlan i).1, some (s.resumePlan i).2)
  else if cmd = 3 then ((s.abortPlan i).1, some (s.abortPlan i).2)
  else if cmd = 4 then (s.str i, s.migrateAns i bsk)
  else ((s.resetPlan i).1, some (s.resetPlan i).2)

/-- The host port is no part of it. -/
theorem State.strmPlan_setQue (s : State) (q : Nat) (v : Queue) (cmd bsk i : Nat) :
    (s.setQue q v).strmPlan cmd bsk i = s.strmPlan cmd bsk i := rfl

theorem State.strmDo_plan (hnobody : (s.str i).migBy = none) (cmd bsk : Nat) :
    (s.strmDo cmd bsk i).2 = (s.strmPlan cmd bsk i).2 ∧
      ((s.strmPlan cmd bsk i).2.isSome → s.Moves (s.strmDo cmd bsk i).1 i (s.strmPlan cmd bsk i).1) := by
  have hof {x : State × Nat} {y : Stream × Nat} (h : x.2 = y.2 ∧ s.Moves x.1 i y.1) :
      some x.2 = some y.2 ∧ ((some y.2).isSome → s.Moves x.1 i y.1) := ⟨congrArg some h.1, fun _ => h.2⟩
  unfold State.strmDo State.strmPlan
  dsimp only
  by_cases hbad : cmd = 0 ∨ 5 < cmd ∨ (cmd ≠ 4 ∧ bsk ≠ 0) ∨ 131072 ≤ i
  · rw [if_pos hbad, if_pos hbad]
    exact ⟨rfl, fun _ => .refl s i⟩
  rw [if_neg hbad, if_neg hbad]
  by_cases hrsv : s.stateRsv i = true
  · rw [if_pos hrsv, if_pos hrsv]
    exact ⟨rfl, fun _ => .refl s i⟩
  rw [if_neg hrsv, if_neg hrsv]
  by_cases hstart : cmd = 1
  · rw [if_pos hstart, if_pos hstart]
    exact hof (s.cmdStart_plan i)
  rw [if_neg hstart, if_neg hstart]
  by_cases hresume : cmd = 2
  · rw [if_pos hresume, if_pos hresume]
    exact hof (State.cmdResume_plan hnobody)
  rw [if_neg hresume, if_neg hresume]
  by_cases habort : cmd = 3
  · rw [if_pos habort, if_pos habort]
    exact hof (State.cmdAbort_plan hnobody)
  rw [if_neg habort, if_neg habort]
  by_cases hmigrate : cmd = 4
  · rw [if_pos hmigrate, if_pos hmigrate]
    obtain ⟨hans, hrefused⟩ := s.cmdMigrate_plan i bsk
    refine ⟨hans, fun hsome => ?_⟩
    rw [hrefused hsome]
    exact .refl s i
  · rw [if_neg hmigrate, if_neg hmigrate]
    exact hof (s.cmdReset_plan i)

end

/-! ## The commands, once they have started (12, R383, R384) -/

section
variable {s b : State} {q : Nat} {c : QCmd}

theorem exec_queueNop (hstart : ∀ f, s.startCmd q c.cid 0 f = .next (f c b)) :
    exec (.queueNop q c.cid) s = .next (b.qDone q c.cid (if rsvZero c 8 then 0 else 1) 0 0) := by
  change execQueueNop q c.cid s = _
  exact hstart _

section
variable (hstart : ∀ f, s.startCmd q c.cid 1 f = .next (f c b))
include hstart

theorem exec_strm_of_reserved (hrsv : rsvZero c 12 = false) : exec (.strm q c.cid) s = .next (b.qDone q c.cid 1 0 0) := by
  change execStrm q c.cid s = _
  unfold execStrm
  rw [hstart]
  exact congrArg Host.Outcome.next (if_pos (by rw [hrsv]; rfl))

theorem exec_strm_of_denied (hrsv : rsvZero c 12 = true)
    (hdenied : b.strmDenied (b.que q).func (bits (c.arg 8 4) 31 28) (bits (c.arg 8 4) 17 0) = true) :
    exec (.strm q c.cid) s = .next (b.qDone q c.cid 4 0 0) := by
  change execStrm q c.cid s = _
  unfold execStrm
  rw [hstart]
  exact congrArg Host.Outcome.next ((if_neg (by rw [hrsv]; decide)).trans (if_pos hdenied))

/-- The stream that a START of a function starts is the function's. -/
def State.ownedBy (s : State) (cmd i r func : Nat) : State :=
  if cmd = 1 ∧ r = 0 then s.setStr i { s.str i with func := func } else s

theorem exec_strm_of_answered {u : State} {r : Nat} (hrsv : rsvZero c 12 = true)
    (hgranted : b.strmDenied (b.que q).func (bits (c.arg 8 4) 31 28) (bits (c.arg 8 4) 17 0) = false)
    (hdo : b.strmDo (bits (c.arg 8 4) 31 28) (bits (c.arg 8 4) 27 24) (bits (c.arg 8 4) 17 0) = (u, some r)) :
    exec (.strm q c.cid) s =
      .next ((u.ownedBy (bits (c.arg 8 4) 31 28) (bits (c.arg 8 4) 17 0) r (b.que q).func).qDone q c.cid 0 r 0) := by
  change execStrm q c.cid s = _
  unfold execStrm
  rw [hstart]
  dsimp only
  rw [if_neg (by rw [hrsv]; decide), if_neg (by rw [hgranted]; decide), hdo]
  rfl

end

theorem State.ownedBy_spec (s : State) (cmd i r func : Nat) : (s.ownedBy cmd i r func).hq = s.hq ∧
    ((s.ownedBy cmd i r func).str i).st = (s.str i).st ∧ ((s.ownedBy cmd i r func).str i).bsk = (s.str i).bsk ∧
    ((s.ownedBy cmd i r func).str i).ptr = (s.str i).ptr ∧ ∀ j, j ≠ i → (s.ownedBy cmd i r func).str j = s.str j := by
  unfold State.ownedBy
  split_ifs
  · rw [State.setStr_str, if_pos rfl]
    exact ⟨rfl, rfl, rfl, rfl, fun j hj => (State.setStr_str _ _ _ _).trans (if_neg hj)⟩
  · exact ⟨rfl, rfl, rfl, rfl, fun _ _ => rfl⟩

section
variable (hstart : ∀ f, s.startCmd q c.cid 2 f = .next (f c b))
include hstart

theorem exec_xfer_of_bad {st : Nat} (hbad : b.xferBad (b.que q).func c = some st) :
    exec (.xfer q c.cid) s = .next (b.qDone q c.cid st 0 0) := by
  change execXfer q c.cid s = _
  unfold execXfer
  rw [hstart]
  dsimp only
  rw [hbad]

theorem exec_xfer_in (hgood : b.xferBad (b.que q).func c = none) (hdir : c.arg 0x1C 1 = 0) {k : Nat}
    (hk : b.hostGood (c.arg 8 8) (c.arg 0x18 4) = k) :
    exec (.xfer q c.cid) s =
      .next ((b.wr (c.arg 0x10 8) (b.hrd (c.arg 8 8) k)).qDone q c.cid (if k = c.arg 0x18 4 then 0 else 3) 0 k) := by
  change execXfer q c.cid s = _
  unfold execXfer
  rw [hstart]
  dsimp only
  rw [hgood]
  dsimp only
  rw [if_pos hdir, hk]

theorem exec_xfer_out (hgood : b.xferBad (b.que q).func c = none) (hdir : c.arg 0x1C 1 ≠ 0) {k : Nat}
    (hk : b.devGood (c.arg 0x10 8) (c.arg 0x18 4) = k) :
    exec (.xfer q c.cid) s = .next (((b.scrub (c.arg 0x10 8) (c.arg 0x18 4)).hwr (c.arg 8 8) (b.rd (c.arg 0x10 8) k)).qDone q c.cid
      (if k = c.arg 0x18 4 then 0 else 6) 0 k) := by
  change execXfer q c.cid s = _
  unfold execXfer
  rw [hstart]
  dsimp only
  rw [hgood]
  dsimp only
  rw [if_neg hdir, hk]

end

/-- Host bytes that are copied to device memory. -/
theorem State.copyIn_spec (b : State) (d h k : Nat) : let t := b.wr d (b.hrd h k)
    t.hq = b.hq ∧ t.host = b.host ∧ (∀ x, x < k → t.rdB (d + x) = tget memDflt b.host (h + x)) ∧
      ∀ x, x < d ∨ d + k ≤ x → t.rdB x = b.rdB x := by
  intro t
  have hfr : Fr [.mem, .memBad, .memCorr, .memCe, .memUe] b t := fr_wr (fr_refl _ _) (by simp [Within]) _ _
  have hrd (x : Nat) : t.rdB x = if d ≤ x ∧ x < d + k then (b.hrd h k).getD (x - d) 0 else b.rdB x := by
    have hwr := State.wr_rdB b d (b.hrd h k) x
    rwa [show (b.hrd h k).length = k from tabBytes_length _ _ _] at hwr
  refine ⟨hfr .hq (by decide), hfr .host (by decide), fun x hx => ?_, fun x hx => ?_⟩
  · rw [hrd, if_pos (by omega), Nat.add_sub_cancel_left]
    exact tabBytes_getD hx 0
  · rw [hrd, if_neg (by omega)]

/-- Device bytes that are copied to host memory. -/
theorem State.copyOut_spec (b : State) (d n h k : Nat) : let t := (b.scrub d n).hwr h (b.rd d k)
    t.hq = b.hq ∧ t.mem = b.mem ∧ (∀ x, x < k → tget memDflt t.host (h + x) = b.rdB (d + x)) ∧
      ∀ x, x < h ∨ h + k ≤ x → tget memDflt t.host x = tget memDflt b.host x := by
  have hfr : Fr [.memCorr, .memCe, .memUe] b (b.scrub d n) := fr_scrub (fr_refl _ _) (by simp [Within]) _ _
  generalize b.scrub d n = u at *
  intro t
  have hhost (x : Nat) : tget memDflt t.host x = if h ≤ x ∧ x < h + k then (b.rd d k).getD (x - h) 0 else tget memDflt b.host x := by
    have hwr := tget_wrTab (b.rd d k) u.host h x
    rw [show (b.rd d k).length = k from tabBytes_length _ _ _] at hwr
    rw [← show u.host = b.host from hfr .host (by decide)]
    exact hwr
  refine ⟨hfr .hq (by decide), hfr .mem (by decide), fun x hx => ?_, fun x hx => ?_⟩
  · rw [hhost, if_pos (by omega), Nat.add_sub_cancel_left]
    exact tabBytes_getD hx 0
  · rw [hhost, if_neg (by omega)]

/-- A stream command of a queue whose move has nobody else to answer does what the command does, and answers its queue. -/
theorem exec_strm_spec {r : Nat} {pre post : List QCmd} (hstart : ∀ f, s.startCmd q c.cid 1 f = .next (f c (s.begun q pre c post)))
    (hrsv : rsvZero c 12 = true) :
    let w := c.arg 8 4
    let i := bits w 17 0
    let x := s.strmDo (bits w 31 28) (bits w 27 24) i
    s.strmDenied (s.que q).func (bits w 31 28) i = false → (s.str i).migBy = none → x.2 = some r →
      ∃ u, exec (.strm q c.cid) s = .next (State.qDone u q c.cid 0 r 0) ∧ u.hq = (s.begun q pre c post).hq ∧
        (u.str i).st = (x.1.str i).st ∧ (u.str i).bsk = (x.1.str i).bsk ∧ (u.str i).ptr = (x.1.str i).ptr ∧
        ∀ j, j ≠ i → u.str j = s.str j := by
  intro w i x hgranted hnobody hx
  have hfunc : ((s.begun q pre c post).que q).func = (s.que q).func := by rw [State.begun_que]; rfl
  have hgranted' : (s.begun q pre c post).strmDenied ((s.begun q pre c post).que q).func (bits w 31 28) i = false := by
    rw [hfunc]
    exact hgranted
  obtain ⟨hans, hmoves⟩ := State.strmDo_plan hnobody (bits w 31 28) (bits w 27 24)
  obtain ⟨hans', hmoves'⟩ := State.strmDo_plan (s := s.begun q pre c post) (i := i) hnobody (bits w 31 28) (bits w 27 24)
  have hplan : (s.begun q pre c post).strmPlan (bits w 31 28) (bits w 27 24) i = s.strmPlan (bits w 31 28) (bits w 27 24) i :=
    State.strmPlan_setQue _ _ _ _ _ _
  rw [hplan] at hans' hmoves'
  have hr : (s.strmPlan (bits w 31 28) (bits w 27 24) i).2 = some r := hans.symm.trans hx
  obtain ⟨hstr, -⟩ := hmoves (by rw [hr]; rfl)
  obtain ⟨hstr', hhq⟩ := hmoves' (by rw [hr]; rfl)
  rw [hr] at hans'
  have hexec : exec (.strm q c.cid) s = .next ((((s.begun q pre c post).strmDo (bits w 31 28) (bits w 27 24) i).1.ownedBy
      (bits w 31 28) i r ((s.begun q pre c post).que q).func).qDone q c.cid 0 r 0) :=
    exec_strm_of_answered hstart hrsv hgranted' (Prod.ext rfl hans')
  have hothers (j : Nat) (hj : j ≠ i) : (s.begun q pre c post).str j = s.str j := rfl
  generalize ((s.begun q pre c post).strmDo (bits w 31 28) (bits w 27 24) i).1 = u at *
  have hself : u.str i = x.1.str i := ((hstr' i).trans (if_pos rfl)).trans ((hstr i).trans (if_pos rfl)).symm
  obtain ⟨hownHq, hst, hbsk, hptr, hown⟩ := u.ownedBy_spec (bits w 31 28) i r ((s.begun q pre c post).que q).func
  refine ⟨_, hexec, hownHq.trans hhq, ?_, ?_, ?_, fun j hj => ?_⟩
  · rw [← hself]
    exact hst
  · rw [← hself]
    exact hbsk
  · rw [← hself]
    exact hptr
  · exact (hown j hj).trans (((hstr' j).trans (if_neg hj)).trans (hothers j hj))

end

/-- Settles O50: each doorbell and enable by its equation; a command that starts is the queue's next, and what its work leaves of
the queue is the entry that is done. -/
theorem queuesRunTheirCommands : Obligations.QueuesRunTheirCommands := by
  unfold Obligations.QueuesRunTheirCommands
  refine ⟨?bells, ?commands⟩
  case bells =>
    intro s q idx v bad Told hq
    refine ⟨fun hidx => ?_, fun hidx => ?_, fun hidx => ?_, fun hidx => ?_, fun hactive hen hpend hmore hroom hlink hgives hclock => ?_,
      fun hidle => ?_, fun hen hactive => ?_, fun hen hactive => ?_, fun hen => ?_, fun hen => ?_, fun hen => ?_,
      fun hpend hactive => ?_⟩
    · exact (guard_queue hq _).trans (congrArg Host.Outcome.next (if_neg (Nat.not_le.mpr hidx)))
    · exact ⟨_, (guard_queue hq _).trans (congrArg Host.Outcome.next (if_pos hidx)), s.badBell_spec q⟩
    · exact (guard_queue hq _).trans (congrArg Host.Outcome.next (if_neg (Nat.not_le.mpr hidx)))
    · exact ⟨_, (guard_queue hq _).trans (congrArg Host.Outcome.next (if_pos hidx)), s.badBell_spec q⟩
    · exact exec_commandFetch hq hactive hen hpend hmore hroom hlink hgives hclock
    · exact exec_commandFetch_of_idle hq hidle
    · refine (guard_queue hq _).trans (congrArg Host.Outcome.next ?_)
      unfold State.queOn
      simp only [show (s.que q).en = false from hen, show (s.que q).active = false from hactive]
      rfl
    · refine (guard_queue hq _).trans (congrArg Host.Outcome.next ?_)
      unfold State.queOn
      dsimp only
      rw [if_neg (by simp [show (s.que q).en = false from hen]), if_pos hactive]
    · exact (guard_queue hq _).trans (congrArg Host.Outcome.next (if_pos hen))
    · refine (guard_queue hq _).trans (congrArg Host.Outcome.next ((if_neg (by simp [show (s.que q).en = true from hen])).trans ?_))
      simp [v]
    · exact (guard_queue hq _).trans (congrArg Host.Outcome.next (if_pos (by simp [show (s.que q).en = false from hen])))
    · exact (guard_queue hq _).trans (congrArg Host.Outcome.next (if_pos (by
        simp [show (s.que q).pendEn = true from hpend, show (s.que q).active = false from hactive])))
  case commands =>
    intro s q c pre post v w i h d n Ends hq hclock hcmds hwaits hopen hpre hfence
    have hstart {opc : Nat} (hopc : c.opc = opc) (f : QCmd → State → State) :
        s.startCmd q c.cid opc f = .next (f c (s.begun q pre c post)) := State.startCmd_eq hq hclock hcmds hwaits hpre hfence hopc f
    have hfunc : ((s.begun q pre c post).que q).func = v.func := by rw [State.begun_que]; rfl
    have hdone {t : State} (ht : t.hq = (s.begun q pre c post).hq) (st res det : Nat) : Ends (t.qDone q c.cid st res det) st res det := by
      refine State.qDone_que hpre ?_ hopen st res det
      have hque : t.que q = (s.begun q pre c post).que q := congrArg (fun x : Hq => tget queueDflt x.queues q) ht
      rw [hque]
      exact State.begun_que
    refine ⟨fun hopc => ?nop, fun hopc hrsv => ?rsv, fun hopc hrsv hdenied => ?denied, ?strm,
      fun st hopc hbad => ?bad, fun hopc hgood hdir => ?toDevice, fun hopc hgood hdir => ?toHost⟩
    case nop => exact ⟨_, exec_queueNop (hstart hopc), rfl, hdone rfl _ 0 0⟩
    case rsv => exact ⟨_, exec_strm_of_reserved (hstart hopc) hrsv, rfl, hdone rfl 1 0 0⟩
    case denied =>
      exact ⟨_, exec_strm_of_denied (hstart hopc) hrsv (by rw [hfunc]; exact hdenied), rfl, hdone rfl 4 0 0⟩
    case strm =>
      intro r hopc hrsv hgranted hnobody x hx
      obtain ⟨u, hexec, hhq, hst, hbsk, hptr, hothers⟩ := exec_strm_spec (hstart hopc) hrsv hgranted hnobody hx
      exact ⟨_, hexec, hdone hhq 0 r 0, hst, hbsk, hptr, hothers⟩
    case bad => exact ⟨_, exec_xfer_of_bad (hstart hopc) (by rw [hfunc]; exact hbad), rfl, hdone rfl st 0 0⟩
    case toDevice =>
      intro k
      obtain ⟨hhq, hhost, hin, hout⟩ := (s.begun q pre c post).copyIn_spec d h k
      have hexec := exec_xfer_in (k := k) (hstart hopc) (by rw [hfunc]; exact hgood) hdir rfl
      change exec _ s = .next (((s.begun q pre c post).wr d ((s.begun q pre c post).hrd h k)).qDone _ _ _ _ _) at hexec
      generalize (s.begun q pre c post).wr d ((s.begun q pre c post).hrd h k) = t at *
      exact ⟨_, hexec, hdone hhq _ 0 k, hhost, hin, hout⟩
    case toHost =>
      intro k
      obtain ⟨hhq, hmem, hin, hout⟩ := (s.begun q pre c post).copyOut_spec d n h k
      have hexec := exec_xfer_out (k := k) (hstart hopc) (by rw [hfunc]; exact hgood) hdir rfl
      change exec _ s = .next ((((s.begun q pre c post).scrub d n).hwr h ((s.begun q pre c post).rd d k)).qDone _ _ _ _ _) at hexec
      generalize ((s.begun q pre c post).scrub d n).hwr h ((s.begun q pre c post).rd d k) = t at *
      exact ⟨_, hexec, hdone hhq _ 0 k, hmem, hin, hout⟩

end Sys2Proof.Machine
end

section
/-! PROOFS. Completion entries, their interrupts and held token messages, and O51 (12, R385, R387 to R390, R398). -/

namespace Sys2Proof.Machine

section
variable {s : State} {q : Nat}

/-! ## Interrupts of a queue (12, R388, R389) -/

/-- The messages once a queue's vector is signalled, where it lies inside its function's table. -/
def Queue.signalled (v : Queue) (msix : List (Nat × Nat)) : List (Nat × Nat) :=
  let vec := bits v.cfg.toNat 10 0
  if vec < (if v.func = 0 then 1056 else 32) then msix ++ [(v.func, vec)] else msix

theorem State.queueMsi_eq (s : State) (q : Nat) :
    s.queueMsi q = { s.setQue q { s.que q with irqCnt := 0 } with msix := (s.que q).signalled s.msix } := by
  unfold State.queueMsi Queue.signalled
  dsimp only
  split_ifs <;> rfl

/-- A completion that is counted towards its queue's interrupt. -/
def Queue.counted (v : Queue) (now : Nat) : Queue :=
  { v with irqCnt := v.irqCnt + 1, irqAt := if v.irqCnt = 0 then now else v.irqAt }

theorem State.queueIrq_eq (s : State) (q : Nat) (hon : bit (s.que q).cfg.toNat 30 = true) : s.queueIrq q =
    let u := s.setQue q ((s.que q).counted s.time)
    if max 1 (bits (s.que q).icfg.toNat 15 8) ≤ (s.que q).irqCnt + 1 ∨ bits (s.que q).icfg.toNat 7 0 = 0 then u.queueMsi q else u :=
  if_neg (by simp [hon])

/-- What a completion without NOIRQ leaves: its own queue's count, and the message where no other is waited for. -/
theorem State.queueIrq_spec (s : State) (q : Nat) :
    let v := s.que q
    let t := s.queueIrq q
    t = { s with hq := t.hq, msix := t.msix } ∧ (∀ k, k ≠ q → t.que k = s.que k) ∧ (∃ n τ, t.que q = { v with irqCnt := n, irqAt := τ }) ∧
    (bit v.cfg.toNat 30 = false → t = s) ∧
    (bit v.cfg.toNat 30 = true → max 1 (bits v.icfg.toNat 15 8) ≤ v.irqCnt + 1 ∨ bits v.icfg.toNat 7 0 = 0 →
      t.msix = v.signalled s.msix ∧ (t.que q).irqCnt = 0) := by
  intro v t
  by_cases hon : bit v.cfg.toNat 30 = true
  · have ht : t = _ := State.queueIrq_eq s q hon
    dsimp only at ht
    have hself : (s.setQue q ((s.que q).counted s.time)).que q = v.counted s.time := (State.setQue_que _ _ _ _).trans (if_pos rfl)
    have hother (k : Nat) (hk : k ≠ q) : (s.setQue q ((s.que q).counted s.time)).que k = s.que k :=
      (State.setQue_que _ _ _ _).trans (if_neg hk)
    by_cases hmany : max 1 (bits v.icfg.toNat 15 8) ≤ v.irqCnt + 1 ∨ bits v.icfg.toNat 7 0 = 0
    · rw [if_pos hmany, State.queueMsi_eq, hself] at ht
      have hque (k : Nat) : t.que k = if k = q then { v.counted s.time with irqCnt := 0 } else s.que k := by
        rw [ht]
        refine (State.setQue_que _ _ _ _).trans ?_
        split_ifs with hk
        · rfl
        · exact hother k hk
      refine ⟨by rw [ht]; rfl, fun k hk => (hque k).trans (if_neg hk), ⟨0, _, (hque q).trans (if_pos rfl)⟩, fun hoff => ?_, fun _ _ => ⟨?_, ?_⟩⟩
      · simp [hon] at hoff
      · rw [ht]
        rfl
      · rw [hque, if_pos rfl]
    · rw [if_neg hmany] at ht
      refine ⟨by rw [ht]; rfl, fun k hk => by rw [ht, hother k hk], ⟨_, _, by rw [ht, hself]; rfl⟩, fun hoff => ?_, fun _ h => absurd h hmany⟩
      simp [hon] at hoff
  · have hsame : t = s := if_pos (by simpa using hon)
    rw [hsame]
    exact ⟨rfl, fun _ _ => rfl, ⟨_, _, rfl⟩, fun _ => rfl, fun h => absurd h hon⟩

/-! ## Completion entries (12, R385, R387) -/

/-- The bytes of a completion entry (12, Table 12-7). -/
def QCmd.entry (c : QCmd) (phase : Bool) (st res det : Nat) : List Byte :=
  leBytes 2 c.cid ++ leBytes 1 st ++ leBytes 1 (b2n phase) ++ leBytes 2 c.sqhd ++ leBytes 2 0 ++ leBytes 4 res ++ leBytes 4 det

theorem QCmd.entry_length (c : QCmd) (phase : Bool) (st res det : Nat) : (c.entry phase st res det).length = 16 := by
  unfold QCmd.entry
  simp only [List.length_append, leBytes_length]

/-- The queue without the command whose entry is written. -/
def Queue.completed (v : Queue) (c : QCmd) : Queue :=
  { v with
    cmds := v.cmds.erase c
    cqTail := if decide (v.cqTail + 1 = v.cqSize) then 0 else v.cqTail + 1
    phase := v.phase != decide (v.cqTail + 1 = v.cqSize)
    active := v.active && !((v.cmds.erase c).isEmpty && (!v.en || v.pendEn)) }

/-- The state with the entry written. -/
def State.completed (s : State) (q : Nat) (c : QCmd) (st res det : Nat) : State :=
  (s.hwr ((s.que q).cqBase.toNat + 16 * (s.que q).cqTail) (c.entry (s.que q).phase st res det)).setQue q ((s.que q).completed c)

theorem exec_queueCommandComplete {c : QCmd} {st res det : Nat} (hq : q < 64) (hclock : s.clocked = true)
    (hfind : (s.que q).cmds.find? (fun x => x.cid = c.cid && x.done.isSome) = some c) (hdone : c.done = some (st, res, det)) :
    exec (.queueCommandComplete q c.cid) s =
      .next (if c.noirq then s.completed q c st res det else (s.completed q c st res det).queueIrq q) := by
  refine (guard_queue hq _).trans (congrArg Host.Outcome.next ?_)
  simp only [hclock, Bool.true_and]
  rw [hfind]
  dsimp only
  rw [hdone]
  rfl

theorem exec_irqCoalesceTimer (hq : q < 64) : exec (.irqCoalesceTimer q) s = .next (if (s.que q).irqCnt = 0 then s else
    (s.at ((s.que q).irqAt + bits (s.que q).icfg.toNat 7 0 * 1000)).queueMsi q) := guard_queue hq _

/-! ## Held token messages (12, R390) -/

/-- The messages once a token's word has signalled its vector, where that is a vector for tokens. -/
def tokenSignalled (c : Nat) (msix : List (Nat × Nat)) : List (Nat × Nat) :=
  if bit c 31 = true ∧ 3 ≤ bits c 10 0 ∧ bits c 10 0 ≤ 1055 then msix ++ [(0, bits c 10 0)] else msix

theorem State.tirqMsi_eq (s : State) (c : Nat) :
    (if bit c 31 then s.tirqMsi c else s) = { s with msix := tokenSignalled c s.msix } := by
  unfold State.tirqMsi tokenSignalled
  by_cases hon : bit c 31 = true
  · rw [if_pos hon]
    simp only [hon, true_and]
    split_ifs <;> rfl
  · rw [if_neg hon, if_neg (fun h => hon h.1)]

/-- A held message of a token is sent a microsecond after the last. -/
theorem exec_tokenIrqDeferred {g : Nat} (hg : g < 127) (hheld : tget falseDflt s.hq.tirqHeld g = true) :
    let u := s.at (tget natDflt s.hq.tirqAt g + 999)
    exec (.tokenIrqDeferred g) s = .next { u with
      hq := { s.hq with
        tirqHeld := tset falseDflt s.hq.tirqHeld g false
        tirqAt := tset natDflt s.hq.tirqAt g (u.time + 1) }
      msix := tokenSignalled (tget w32Dflt s.hq.tirq g).toNat s.msix } := by
  refine (if_pos (decide_eq_true hg)).trans (congrArg Host.Outcome.next ((if_pos hheld).trans ?_))
  exact State.tirqMsi_eq _ _

end

/-- Settles O51: the entry is written before its interrupt, which changes its queue's count alone; a token's held message is
one equation. -/
theorem completionsAndMessagesAreSignalled : Obligations.CompletionsAndMessagesAreSignalled := by
  unfold Obligations.CompletionsAndMessagesAreSignalled
  refine ⟨?completion, ?token⟩
  case completion =>
    intro s q c st res det v a wrap rest vec sent hq
    refine ⟨fun hclock hfind hdone => ?entry, fun hcount => ?timer, fun hcount => ?none⟩
    case entry =>
      intro bs
      have hexec := exec_queueCommandComplete hq hclock hfind hdone
      have hself : (s.completed q c st res det).que q = v.completed c := (State.setQue_que _ _ _ _).trans (if_pos rfl)
      have hothers (k : Nat) (hk : k ≠ q) : (s.completed q c st res det).que k = s.que k := (State.setQue_que _ _ _ _).trans (if_neg hk)
      have hhost (k : Nat) : tget memDflt (s.completed q c st res det).host k =
          if a ≤ k ∧ k < a + 16 then bs.getD (k - a) 0 else tget memDflt s.host k := by
        have hwr := tget_wrTab (c.entry v.phase st res det) s.host a k
        rwa [QCmd.entry_length] at hwr
      have hframe : s.completed q c st res det = { s with host := (s.completed q c st res det).host, hq := (s.completed q c st res det).hq } := rfl
      have hmsix : (s.completed q c st res det).msix = s.msix := rfl
      generalize s.completed q c st res det = u at *
      cases hnoirq : c.noirq with
      | true =>
        rw [hnoirq, if_pos rfl] at hexec
        refine ⟨u, hexec, by rw [hframe], fun k hk => ?_, fun k hk => (hhost k).trans (if_neg (by omega)), by rw [hself]; rfl,
          by rw [hself]; rfl, by rw [hself]; rfl, by rw [hself]; rfl, hothers, fun _ => ⟨hmsix, by rw [hself]; rfl⟩, fun h => by simp at h⟩
        rw [hhost, if_pos (by omega), Nat.add_sub_cancel_left]
      | false =>
        rw [hnoirq, if_neg (by decide)] at hexec
        obtain ⟨hirq, hirqOthers, ⟨m, τ, hirqSelf⟩, hoff, hon⟩ := u.queueIrq_spec q
        rw [hself] at hirqSelf hoff hon
        have hsameHost : (u.queueIrq q).host = u.host := by rw [hirq]
        refine ⟨_, hexec, by rw [hirq, hframe], fun k hk => ?_, fun k hk => ?_, by rw [hirqSelf]; rfl, by rw [hirqSelf]; rfl,
          by rw [hirqSelf]; rfl, by rw [hirqSelf]; rfl, fun k hk => (hirqOthers k hk).trans (hothers k hk), fun hquiet => ?_,
          fun _ henabled hmany => ?_⟩
        · rw [hsameHost, hhost, if_pos (by omega), Nat.add_sub_cancel_left]
        · rw [hsameHost, hhost, if_neg (by omega)]
        · rw [hoff (hquiet.resolve_left (by decide)), hself]
          exact ⟨hmsix, rfl⟩
        · obtain ⟨hsent, hcount⟩ := hon henabled hmany
          exact ⟨hsent.trans (congrArg v.signalled hmsix), hcount⟩
    case timer =>
      have hexec := (exec_irqCoalesceTimer hq).trans (congrArg Host.Outcome.next (if_neg hcount))
      rw [State.queueMsi_eq] at hexec
      exact ⟨_, hexec, rfl, (State.setQue_que _ _ _ _).trans (if_pos rfl), rfl⟩
    case none => exact (exec_irqCoalesceTimer hq).trans (congrArg Host.Outcome.next (if_pos hcount))
  case token =>
    intro s g c hg hheld
    refine ⟨_, exec_tokenIrqDeferred hg hheld, ?_, rfl, ?_, rfl, fun n hn => ?_⟩
    · dsimp only
      rw [tget_tset, if_pos rfl]
    · dsimp only
      rw [tget_tset, if_pos rfl]
    · dsimp only
      rw [tget_tset, if_neg hn]

end Sys2Proof.Machine
end

section
/-! PROOFS. BAR2 accesses, the host side's resets and links, and O52 (12, R377 to R380, R393, R394, R398). -/

namespace Sys2Proof.Machine

section
variable {s : State}

/-! ## Units that a window sends (12, R379) -/

/-- Transmission takes no tag. -/
theorem State.transmit_nextTag (s : State) (u : FUnit) : (s.transmit u).dzf.nextTag = s.dzf.nextTag := by
  rcases s.transmit_cases u with ⟨q, t, -, -, ⟨_, _, _, rfl⟩, heq⟩ | ⟨-, ⟨_, _, _, heq⟩⟩
  · rw [heq]
    rfl
  · rw [heq]
    rfl

theorem State.issueUnit_nextTag (s : State) (u : FUnit) : (s.issueUnit u).dzf.nextTag = s.dzf.nextTag := by
  unfold State.issueUnit
  dsimp only
  rw [State.transmit_nextTag]
  split_ifs <;> rfl

theorem pumpUnits_nextTag (n : Nat) : ∀ s : State, (pumpUnits n s).dzf.nextTag = s.dzf.nextTag := by
  induction n with
  | zero => exact fun _ => rfl
  | succ n ih =>
    intro s
    unfold pumpUnits
    split
    · rfl
    · dsimp only
      split_ifs
      · rfl
      · exact ih _
      · exact (ih _).trans (State.issueUnit_nextTag _ _)

/-- Units are handed over under the tags they have. -/
theorem State.sendUnits_spec (s : State) (us : List FUnit) :
    (s.sendUnits us).dzf.nextTag = s.dzf.nextTag ∧ (s.sendUnits us).mem = s.mem ∧ (s.sendUnits us).dev = s.dev := by
  have hfr : Fr [.dzf, .evq, .tx] s (s.sendUnits us) := fr_sendUnits (fr_refl _ _) (by simp [Within]) _
  exact ⟨pumpUnits_nextTag _ _, hfr .mem (by decide), hfr .dev (by decide)⟩

/-! ## BAR2 (12, R377 to R379) -/

/-- An access that is not carried out is counted and flagged, and changes no memory and no unit. -/
theorem State.barReject_spec (s : State) {b : Nat} (hb : b < 7) :
    (s.barReject b).hq.reject = min 65535 (s.hq.reject + 1) ∧ (s.barReject b).mem = s.mem ∧ (s.barReject b).dzf = s.dzf ∧
      (s.barReject b).dev = s.dev ∧ bit (s.barReject b).hq.err.toNat b = true := by
  obtain ⟨heq, hbit⟩ := ({ s with hq := { s.hq with reject := sat16 (s.hq.reject + 1) } } : State).hqErr_spec hb
  have hreject : s.barReject b = _ := heq
  refine ⟨?_, ?_, ?_, ?_, hbit⟩ <;> rw [hreject]
  rfl

/-- The access goes nowhere: to a reserved offset, to memory that is not ready or to a window that is not enabled. -/
def State.BarNowhere (s : State) (a n : Nat) : Prop :=
  barTo a n = .rsv ∨ (s.memUp = false ∧ ∃ l, barTo a n = .mem l) ∨ (∃ k, barTo a n = .win k ∧ s.apAddr k a = none)

section
variable {a : Nat} {bs : List Byte} (hok : barOk a bs.length = true)
include hok

theorem exec_bar2Write_of_poisoned : exec (.bar2Write a bs true) s = .next (s.barReject 3) :=
  (if_pos hok).trans (congrArg Host.Outcome.next (if_pos rfl))

theorem exec_bar2Write_mem {l : Nat} (hto : barTo a bs.length = .mem l) (hup : s.memUp = true) :
    exec (.bar2Write a bs false) s = .next (s.wr l bs) := by
  refine (if_pos hok).trans (congrArg Host.Outcome.next ?_)
  simp only [hto, hup]
  rfl

theorem exec_bar2Write_nowhere (hno : s.BarNowhere a bs.length) : exec (.bar2Write a bs false) s = .next (s.barReject 2) := by
  refine (if_pos hok).trans (congrArg Host.Outcome.next ?_)
  rcases hno with hto | ⟨hup, l, hto⟩ | ⟨k, hto, hnone⟩
  · simp only [hto]
    rfl
  · simp only [hto, hup]
    rfl
  · simp only [hto, hnone]
    rfl

theorem exec_bar2Write_win {k g : Nat} (hto : barTo a bs.length = .win k) (hway : s.apAddr k a = some g) :
    exec (.bar2Write a bs false) s =
      .next ((s.takeTags (pieces g bs.length).length).2.sendUnits (apWrites g bs (s.takeTags (pieces g bs.length).length).1)) := by
  refine (if_pos hok).trans (congrArg Host.Outcome.next ?_)
  simp only [hto, hway]
  rfl

end

section
variable {a n : Nat} (hok : barOk a n = true)
include hok

theorem exec_bar2Read_mem {l : Nat} (hto : barTo a n = .mem l) (hup : s.memUp = true) (hgood : s.badIn l n = []) :
    exec (.bar2Read a n) s = .next ((s.scrub l n).barReturn a (s.rd l n) false) := by
  refine (if_pos hok).trans (congrArg Host.Outcome.next ?_)
  simp only [hto, hup, hgood]
  rfl

theorem exec_bar2Read_nowhere (hno : s.BarNowhere a n) :
    exec (.bar2Read a n) s = .next ((s.barReturn a (List.replicate n 0) false).barReject 2) := by
  refine (if_pos hok).trans (congrArg Host.Outcome.next ?_)
  rcases hno with hto | ⟨hup, l, hto⟩ | ⟨k, hto, hnone⟩
  · simp only [hto]
  · simp only [hto, hup]
    exact if_neg (by decide)
  · simp only [hto, hnone]

theorem exec_bar2Read_win {k g : Nat} (hto : barTo a n = .win k) (hway : s.apAddr k a = some g) :
    exec (.bar2Read a n) s =
      .next ((s.takeTags (pieces g n).length).2.sendUnits (apReads a g n (s.takeTags (pieces g n).length).1)) := by
  refine (if_pos hok).trans (congrArg Host.Outcome.next ?_)
  simp only [hto, hway]

end

/-! ## Migrations whose queues are gone -/

/-- Nobody waits any more for the moves that the queues gave; nothing else of a stream changes. -/
theorem State.dropMigBy_spec (s : State) (qs : List Nat) : Fr [.streams] s (s.dropMigBy qs) ∧
    ∀ i, ((s.dropMigBy qs).str i).st = (s.str i).st := by
  unfold State.dropMigBy
  dsimp only
  refine ⟨fr_foldl _ _ _ _ _ (fr_refl _ _) fun u e hu => fr_setStr hu (by simp [Within]) _ _, fun i => ?_⟩
  refine List.foldlRecOn (motive := fun u : State => (u.str i).st = (s.str i).st) _ _ rfl fun u hu e _ => ?_
  rw [State.setStr_str]
  split_ifs with hi
  · rw [← hu, hi]
  · exact hu

/-! ## A VF's reset (12, R393, R394) -/

/-- A queue that runs no more and holds no command. -/
def Queue.Dead (v : Queue) : Prop := v.en = false ∧ v.active = false ∧ v.cmds = []

theorem en_cleared (x : BitVec 32) : bit (x &&& 0x7FFFFFFF#32).toNat 31 = false := by
  rw [bit_eq_testBit, BitVec.testBit_toNat, BitVec.getLsbD_and]
  simp

theorem State.killQue_dead (s : State) (q : Nat) : ((s.killQue q).que q).Dead := by
  unfold State.killQue
  rw [State.setQue_que, if_pos rfl]
  exact ⟨en_cleared _, rfl, rfl⟩

theorem State.killQue_keeps (s : State) (q k : Nat) (hk : (s.que k).Dead) : ((s.killQue q).que k).Dead := by
  by_cases hkq : k = q
  · rw [hkq]
    exact s.killQue_dead q
  · unfold State.killQue
    rwa [State.setQue_que, if_neg hkq]

/-- Answering a queue brings no command to one that has none. -/
theorem State.qDone_dead {q k cid st res det : Nat} (hk : (s.que k).Dead) : ((s.qDone q cid st res det).que k).Dead := by
  unfold State.qDone
  rw [State.setQue_que]
  split_ifs with hkq
  · subst hkq
    obtain ⟨hen, hactive, hcmds⟩ := hk
    refine ⟨hen, hactive, ?_⟩
    dsimp only
    rw [hcmds]
    rfl
  · exact hk

theorem State.abortStr_dead {i cause k : Nat} (hk : (s.que k).Dead) : ((s.abortStr i cause).que k).Dead := by
  by_cases hlive : (s.str i).Live
  · obtain ⟨u, hu, habort⟩ := State.abortStr_of_live (s := s) cause hlive
    have hcancel : ((s.cancelled i).que k).Dead := by
      unfold State.cancelled
      split_ifs
      · unfold State.migReport
        extract_lets t v w
        have hw : (w.que k).Dead := by
          simp only [w]
          split
          · exact State.qDone_dead hk
          · exact hk
        split_ifs
        · exact hw
        · exact hw
      · exact hk
    have hdrop : Fr [.waiting, .baskets, .pans, .pots, .fastQ, .dzf] (s.cancelled i) ((s.cancelled i).dropStream i) :=
      fr_dropStream (fr_refl _ _) (by simp [Within]) i
    have hput : Fr [.mem, .memBad, .memCorr, .memCe, .memUe, .streams] ((s.cancelled i).dropStream i) u :=
      (fr_putStr (fr_refl _ _) (by simp [Within]) _ _).trans (hu.mono (by simp [Within]))
    have hsettle : Fr [.baskets] u (u.settleBsk (s.str i).bsk) := fr_settleBsk (fr_refl _ _) (by simp [Within]) _
    have hhq : (s.abortStr i cause).hq = (s.cancelled i).hq := by
      rw [habort, hsettle .hq (by decide), hput .hq (by decide), hdrop .hq (by decide)]
    unfold State.que at hcancel ⊢
    rwa [hhq]
  · rwa [State.abortStr_of_over _ hlive]

/-! ### The streams -/

/-- Aborting a list of streams ends those of it that are live, with the same CAUSE. -/
theorem State.foldl_abortStr_ends {cause i : Nat} {es : Tab Stream} : ∀ {s : State},
    ((s.str i).Live ∧ i ∈ es.map (·.1)) ∨ ((s.str i).st = .aborted ∧ (s.str i).cause = cause) →
    ((es.foldl (fun s e => s.abortStr e.1 cause) s).str i).st = .aborted ∧
      ((es.foldl (fun s e => s.abortStr e.1 cause) s).str i).cause = cause := by
  induction es with
  | nil => exact fun h => by simpa using h
  | cons e es ih =>
    intro s h
    refine ih ?_
    rcases s.abortStr_str e.1 cause i with ⟨hsame, hnot⟩ | ⟨-, hst⟩
    · rw [hsame]
      refine h.imp_left fun ⟨hlive, hmem⟩ => ⟨hlive, ?_⟩
      exact (List.mem_cons.mp hmem).resolve_left fun hij => hnot ⟨hij, hlive⟩
    · rw [hst]
      exact .inr ⟨rfl, rfl⟩

/-- A stream that is live is listed. -/
theorem State.listed_of_live {i : Nat} (hlive : (s.str i).Live) : i ∈ s.streams.map (·.1) := by
  by_contra hnot
  have hdflt : s.str i = strDflt i := tget_of_not_mem hnot
  rw [hdflt] at hlive
  simp [Stream.Live, strDflt] at hlive

/-- The state of a VF's reset before its streams are aborted: its queues are gone. -/
def State.vfQuiet (s : State) (v : Nat) : State := (s.queuesOf v).foldl State.killQue (s.dropMigBy (s.queuesOf v))

theorem exec_vfFlr {v : Nat} (h1 : 1 ≤ v) (h32 : v < 32) :
    exec (.vfFlr v) s = .next (((s.vfQuiet v).streams.filter fun e => (s.vfQuiet v).vfHas v e.1).foldl
      (fun s e => s.abortStr e.1 0xF004) (s.vfQuiet v)) :=
  if_pos (by simp [h1, h32])

theorem State.vfQuiet_spec (s : State) (v : Nat) : (s.vfQuiet v).hq.vfs = s.hq.vfs ∧
    (∀ i, ((s.vfQuiet v).str i).st = (s.str i).st) ∧ ∀ q, q < 64 → (s.que q).func = v → ((s.vfQuiet v).que q).Dead := by
  obtain ⟨hfr, hst⟩ := s.dropMigBy_spec (s.queuesOf v)
  have hhq : (s.dropMigBy (s.queuesOf v)).hq = s.hq := hfr .hq (by decide)
  have hkept : (s.vfQuiet v).hq.vfs = (s.dropMigBy (s.queuesOf v)).hq.vfs ∧
      (s.vfQuiet v).streams = (s.dropMigBy (s.queuesOf v)).streams :=
    List.foldlRecOn (motive := fun u : State => u.hq.vfs = (s.dropMigBy (s.queuesOf v)).hq.vfs ∧
      u.streams = (s.dropMigBy (s.queuesOf v)).streams) _ State.killQue ⟨rfl, rfl⟩ fun u hu q _ => hu
  obtain ⟨hvfs, hstreams⟩ := hkept
  refine ⟨hvfs.trans (congrArg Hq.vfs hhq), fun i => ?_, fun q hq hfunc => ?_⟩
  · rw [← hst i]
    unfold State.str
    rw [hstreams]
  · refine foldl_establishes (P := fun u : State => (u.que q).Dead) (x := q) ?_ (fun u => u.killQue_dead q)
      (fun u k hu => u.killQue_keeps k q hu) _
    simp [State.queuesOf, hq, hfunc]

/-- A VF's reset leaves its queues without commands and ends the streams it was granted. -/
theorem vfFlr_spec {v : Nat} (h1 : 1 ≤ v) (h32 : v < 32) : ∃ t, exec (.vfFlr v) s = .next t ∧
    (∀ q, q < 64 → (s.que q).func = v → (t.que q).Dead) ∧
    ∀ i, s.vfHas v i = true → (s.str i).Live → (t.str i).st = .aborted ∧ (t.str i).cause = 0xF004 := by
  obtain ⟨hvfs, hst, hdead⟩ := s.vfQuiet_spec v
  have hhas : ∀ i, (s.vfQuiet v).vfHas v i = s.vfHas v i := fun i => by
    unfold State.vfHas
    rw [hvfs]
  refine ⟨_, exec_vfFlr h1 h32, fun q hq hfunc => ?_, fun i hi hlive => ?_⟩
  · exact List.foldlRecOn (motive := fun u : State => (u.que q).Dead) _ _ (hdead q hq hfunc)
      fun u hu e _ => State.abortStr_dead hu
  · have hlive' : ((s.vfQuiet v).str i).Live := by
      unfold Stream.Live at hlive ⊢
      rwa [hst i]
    refine State.foldl_abortStr_ends (.inl ⟨hlive', ?_⟩)
    obtain ⟨e, he, rfl⟩ := List.mem_map.mp (State.listed_of_live hlive')
    exact List.mem_map.mpr ⟨e, List.mem_filter.mpr ⟨he, (hhas _).trans hi⟩, rfl⟩

/-! ## The PF's reset and the host link (12, R394, R398) -/

/-- The host registers as the PF's reset leaves them. -/
def Hq.cleared (h : Hq) : Hq := { h with ap := [], tirq := [], tirqAt := [], tirqHeld := [], vfs := [], queues := [] }

theorem State.dropMigBy_streams (s : State) (qs : List Nat) : ∃ x, s.dropMigBy qs = { s with streams := x } := by
  unfold State.dropMigBy
  refine List.foldlRecOn (motive := fun u : State => ∃ x, u = { s with streams := x }) _ _ ⟨s.streams, rfl⟩ fun u hu e _ => ?_
  obtain ⟨x, rfl⟩ := hu
  exact ⟨_, rfl⟩

theorem State.pfReset_spec (s : State) : s.pfReset = { s with streams := s.pfReset.streams, hq := s.hq.cleared } ∧
    ∀ i, (s.pfReset.str i).st = (s.str i).st := by
  obtain ⟨-, hst⟩ := s.dropMigBy_spec (List.range 64)
  obtain ⟨x, hx⟩ := s.dropMigBy_streams (List.range 64)
  refine ⟨?_, hst⟩
  unfold State.pfReset
  rw [hx]
  rfl

/-- Only messages of Trivet's own vector are added by a report. -/
theorem State.notice_msix (s : State) (k i : Nat) (d : Int) {m : Nat × Nat} (hm : m ∈ s.msix) : m ∈ (s.notice k i d).msix := by
  unfold State.notice
  dsimp only
  split_ifs
  · exact hm
  · exact List.mem_append_left _ hm

theorem State.condition_msix (s : State) (k i : Nat) (d : Int) {m : Nat × Nat} (hm : m ∈ s.msix) : m ∈ (s.condition k i d).msix := by
  unfold State.condition
  dsimp only
  split_ifs
  · refine State.notice_msix _ _ _ _ ?_
    refine List.foldlRecOn (motive := fun u : State => m ∈ u.msix) _ _ hm fun u hu x _ => ?_
    split_ifs
    · exact hu
    · exact hu
  · exact hm

theorem exec_hostLinkLost (hup : s.hq.linkUp = true) : exec .hostLinkLost s =
    .next ((({ s.pfReset with hq := { s.pfReset.hq with linkUp := false, width := 0, speed := 0, flit := false } } : State).hqErr
      0).condition 0x05 0 0) :=
  congrArg Host.Outcome.next (if_pos hup)

theorem hostLinkLost_spec (hup : s.hq.linkUp = true) : ∃ t, exec .hostLinkLost s = .next t ∧
    t.hq = { s.hq.cleared with linkUp := false, width := 0, speed := 0, flit := false, err := s.hq.err ||| 1#7 } ∧
    (bit s.hq.err.toNat 0 = false → (0, 2) ∈ t.msix) := by
  have hexec := exec_hostLinkLost hup
  obtain ⟨hreset, -⟩ := s.pfReset_spec
  rw [hreset] at hexec
  obtain ⟨herr, -⟩ := ({ s with
    streams := s.pfReset.streams
    hq := { s.hq.cleared with linkUp := false, width := 0, speed := 0, flit := false } } : State).hqErr_spec (b := 0) (by decide)
  rw [herr] at hexec
  refine ⟨_, hexec, ?_, fun hnew => State.condition_msix _ _ _ _ ?_⟩
  · exact fr_condition (W := [.trv, .msix, .mgmt]) (fr_refl _ _) (by simp [Within]) _ _ _ .hq (by decide)
  · dsimp only
    rw [show bit s.hq.cleared.err.toNat 0 = false from hnew, if_neg Bool.false_ne_true]
    simp

theorem exec_memReady (hperst : s.dev.perst = false) (hclock : s.clocked = true) (hst : s.dev.st ≠ 5) :
    exec .memReady s = .next { s with hq := { s.hq with memReady := true } } :=
  congrArg Host.Outcome.next (if_neg (by simp [hperst, hclock, hst]))

theorem exec_hostLinkUp {w g : Nat} (f : Bool) (hw : w ∈ [1, 2, 4, 8, 16]) (h1 : 1 ≤ g) (h6 : g ≤ 6)
    (hperst : s.dev.perst = false) : exec (.hostLinkUp w g f) s =
      .next { s with hq := { s.hq with linkUp := true, width := w, speed := g, flit := f } } := by
  refine (if_pos ?_).trans (congrArg Host.Outcome.next (if_neg (by simp [hperst])))
  simp only [List.contains_iff_mem.mpr hw, h1, h6, decide_true, Bool.and_self]

/-! ## What each way of an access leaves -/

/-- What an access through a window hands to the fabric takes its tags and touches no memory. -/
theorem State.window_spec (s : State) (n : Nat) (us : List FUnit) :
    ((s.takeTags n).2.sendUnits us).mem = s.mem ∧ ((s.takeTags n).2.sendUnits us).dev = s.dev ∧
      ((s.takeTags n).2.sendUnits us).dzf.nextTag = (s.dzf.nextTag + n) % 2 ^ 32 := by
  obtain ⟨htag, hmem, hdev⟩ := (s.takeTags n).2.sendUnits_spec us
  exact ⟨hmem, hdev, htag⟩

end

/-- Settles O52: an access goes one of three ways, by where its offset lies; a VF's reset kills its queues before it aborts its
streams, and the PF's reset, which a lost link begins with, is one change of the host registers. -/
theorem hostSideAccessesAndResets : Obligations.HostSideAccessesAndResets := by
  unfold Obligations.HostSideAccessesAndResets
  refine ⟨fun s a n bs => ⟨fun hok => ⟨?poisoned, fun l hto hup => exec_bar2Write_mem hok hto hup, fun hno => ?writeNowhere,
    fun k g hto hway => ?writeWindow⟩, fun hok => ⟨fun l hto hup hgood => ?read, fun hno => ?readNowhere,
    fun k g hto hway => ?readWindow⟩⟩, fun s v => ⟨fun h1 h32 => vfFlr_spec h1 h32, ?pf, hostLinkLost_spec,
    exec_memReady, fun w g f => exec_hostLinkUp f⟩⟩
  case poisoned =>
    obtain ⟨hreject, hmem, hdzf, -, hbit⟩ := s.barReject_spec (b := 3) (by decide)
    exact ⟨_, exec_bar2Write_of_poisoned hok, ⟨hreject, hmem, hdzf⟩, hbit⟩
  case writeNowhere =>
    obtain ⟨hreject, hmem, hdzf, -, hbit⟩ := s.barReject_spec (b := 2) (by decide)
    exact ⟨_, exec_bar2Write_nowhere hok hno, ⟨hreject, hmem, hdzf⟩, hbit⟩
  case writeWindow =>
    obtain ⟨hmem, -, htag⟩ := s.window_spec (pieces g bs.length).length (apWrites g bs (s.takeTags (pieces g bs.length).length).1)
    exact ⟨_, exec_bar2Write_win hok hto hway, hmem, htag⟩
  case read =>
    have hscrub : Fr [.memCorr, .memCe, .memUe] s (s.scrub l n) := fr_scrub (fr_refl _ _) (by simp [Within]) _ _
    refine ⟨_, exec_bar2Read_mem hok hto hup hgood, ?_, hscrub .mem (by decide), hscrub .hq (by decide)⟩
    have hdev : (s.scrub l n).dev = s.dev := hscrub .dev (by decide)
    exact congrArg (fun d : Dev => d.barData ++ [(a, s.rd l n, false)]) hdev
  case readNowhere =>
    obtain ⟨hreject, hmem, hdzf, hdev, -⟩ := (s.barReturn a (List.replicate n 0) false).barReject_spec (b := 2) (by decide)
    exact ⟨_, exec_bar2Read_nowhere hok hno, ⟨hreject, hmem, hdzf⟩, congrArg Dev.barData hdev⟩
  case readWindow =>
    obtain ⟨hmem, hdev, htag⟩ := s.window_spec (pieces g n).length (apReads a g n (s.takeTags (pieces g n).length).1)
    exact ⟨_, exec_bar2Read_win hok hto hway, hmem, congrArg Dev.barData hdev, htag⟩
  case pf =>
    obtain ⟨hreset, hst⟩ := s.pfReset_spec
    exact ⟨s.pfReset, rfl, hreset, hst⟩

end Sys2Proof.Machine
end

section
/-! PROOFS. Accesses to BAR0, and O53 (15, R449, R450, R452, R455, R456, Table 15-8). -/

namespace Sys2Proof.Machine

section
variable {s : State} {fn off : Nat}

/-! ## Refused accesses (15, R449, Table 15-8) -/

/-- The access is counted, and its function, kind and offset are recorded where nothing stands recorded. -/
def State.Records (s t : State) (fn off k : Nat) : Prop :=
  t = { s with dev := t.dev } ∧ t.dev.accCnt = min 65535 (s.dev.accCnt + 1) ∧ t.dev.accErr = true ∧
    (s.dev.accErr = false → t.dev.accFn = fn ∧ t.dev.accKind = k ∧ t.dev.accAddr = off) ∧
    (s.dev.accErr = true → t.dev.accFn = s.dev.accFn ∧ t.dev.accKind = s.dev.accKind ∧ t.dev.accAddr = s.dev.accAddr)

theorem State.accRefuse_records (s : State) (fn off k : Nat) : s.Records (s.accRefuse fn off k) fn off k := by
  unfold State.accRefuse
  dsimp only
  cases herr : s.dev.accErr
  · rw [if_neg Bool.false_ne_true]
    exact ⟨rfl, rfl, rfl, fun _ => ⟨rfl, rfl, rfl⟩, fun h => absurd (herr.symm.trans h) Bool.false_ne_true⟩
  · rw [if_pos rfl]
    exact ⟨rfl, rfl, herr, fun h => absurd (h.symm.trans herr) Bool.false_ne_true, fun _ => ⟨rfl, rfl, rfl⟩⟩

/-- The latch and the held word that the access ends stand apart from the record. -/
theorem State.unlatch_accRefuse_records (s : State) (fn off k : Nat) (isWrite : Bool) :
    s.Records ((s.unlatch fn isWrite).accRefuse fn off k) fn off k := by
  obtain ⟨heq, hrest⟩ := (s.unlatch fn isWrite).accRefuse_records fn off k
  exact ⟨by rw [heq]; rfl, hrest⟩

theorem State.accRefuse_readData (s : State) (fn off k : Nat) : (s.accRefuse fn off k).dev.readData = s.dev.readData := by
  unfold State.accRefuse
  dsimp only
  split_ifs <;> rfl

theorem State.unlatch_accRefuse_readData (s : State) (fn off k : Nat) (isWrite : Bool) :
    ((s.unlatch fn isWrite).accRefuse fn off k).dev.readData = s.dev.readData :=
  (s.unlatch fn isWrite).accRefuse_readData fn off k

section
variable (hreach : s.reachable = true)
include hreach

theorem not_unreachable : ¬ (!s.reachable) = true := by rw [hreach]; decide

theorem exec_registerWrite_refused {k : Nat} {wide : Bool} {v : W64} (hspan : barSpan fn off (if wide then 8 else 4) = true)
    (hrefuse : s.refusal fn off (if wide then 8 else 4) true = some k) :
    exec (.registerWrite fn off wide v) s = .next ((s.unlatch fn true).accRefuse fn off k) := by
  refine (if_pos hspan).trans (congrArg Host.Outcome.next ((if_neg (not_unreachable hreach)).trans ?_))
  rw [hrefuse]

theorem exec_refusedAccess {k n : Nat} {isWrite : Bool} (hspan : barSpan fn off n = true)
    (hrefuse : s.refusal fn off n isWrite = some k) :
    exec (.refusedAccess fn off n isWrite) s = .next (if isWrite then (s.unlatch fn isWrite).accRefuse fn off k else
      ((s.unlatch fn isWrite).accRefuse fn off k).readReturn fn (s.readBytes fn off n)) := by
  refine (if_pos hspan).trans (congrArg Host.Outcome.next ((if_neg (not_unreachable hreach)).trans ?_))
  rw [hrefuse]

/-! ## Accepted writes (15, R450, R452) -/

theorem exec_registerWrite_word (v : W64) (hspan : barSpan fn off 4 = true) (halign : off % 4 = 0)
    (hopen : s.stateRefuses fn off = false) :
    exec (.registerWrite fn off false v) s = .next (s.write32 fn off (v.toNat % 2 ^ 32)) := by
  have hrefusal : s.refusal fn off 4 true = none := by simp [State.refusal, halign, hopen]
  refine (if_pos hspan).trans (congrArg Host.Outcome.next ((if_neg (not_unreachable hreach)).trans ?_))
  rw [if_neg Bool.false_ne_true, hrefusal, if_neg Bool.false_ne_true]

end

theorem State.write32_low (v : Nat) (hlow : isLow fn off = true) : s.write32 fn off v =
    { s.unlatch fn true with dev := { (s.unlatch fn true).dev with
      heldLow := tset noneDflt (s.unlatch fn true).dev.heldLow fn (some (off, BitVec.ofNat 32 v)) } } :=
  if_pos hlow

/-- The upper word takes effect together with the lower word that the same function left for it. -/
theorem State.write32_high {w : W32} (v : Nat) (hlow : isLow fn off = true) (hnot : isLow fn (off + 4) = false)
    (hheld : tget noneDflt s.dev.heldLow fn = some (off, w)) :
    s.write32 fn (off + 4) v = (s.unlatch fn true).fnWrite64 fn off (w.toNat + v * 2 ^ 32) := by
  unfold State.write32
  dsimp only
  rw [if_neg (by simp [hnot]), if_pos ⟨by omega, by rwa [Nat.add_sub_cancel]⟩, hheld]
  dsimp only
  rw [if_pos rfl, Nat.add_sub_cancel]
  rfl

theorem State.write32_word (v : Nat) (hlow : isLow fn off = false) (hhigh : 4 ≤ off → isLow fn (off - 4) = false) :
    s.write32 fn off v = (s.unlatch fn true).fnWrite fn off v := by
  unfold State.write32
  dsimp only
  rw [if_neg (by simp [hlow]), if_neg fun h => absurd ((hhigh h.1).symm.trans h.2) Bool.false_ne_true]

/-- A word of the PF that is no half of a 64-bit register is written by itself. -/
theorem exec_registerWrite_pf (hreach : s.reachable = true) (v : W64) (hoff : off < 0x2000000) (halign : off % 4 = 0)
    (hopen : s.stateRefuses 0 off = false) (hlow : isLow 0 off = false) (hhigh : 4 ≤ off → isLow 0 (off - 4) = false) :
    exec (.registerWrite 0 off false v) s = .next ((s.unlatch 0 true).pfWrite off (v.toNat % 2 ^ 32)) := by
  have hspan : barSpan 0 off 4 = true := by
    simp only [barSpan, Bool.and_eq_true, decide_eq_true_eq]
    omega
  rw [exec_registerWrite_word hreach v hspan halign hopen, State.write32_word _ hlow hhigh]
  exact congrArg Host.Outcome.next (if_pos rfl)

/-! ## The command and the scratch registers (14, Table 14-13; 15, Table 15-4) -/

theorem ofNat_mod_of_le {m n : Nat} (h : m ≤ n) (v : Nat) : BitVec.ofNat m (v % 2 ^ n) = BitVec.ofNat m v := by
  apply BitVec.eq_of_toNat_eq
  rw [BitVec.toNat_ofNat, BitVec.toNat_ofNat, Nat.mod_mod_of_dvd _ (pow_dvd_pow 2 h)]

/-- The scratch registers take writes wherever the first of them does. -/
theorem exec_scratchWrite (hreach : s.reachable = true) (hopen : s.stateRefuses 0 0x500 = false) {i : Nat} (hi : i < 4)
    (v : W64) : exec (.registerWrite 0 (0x500 + 4 * i) false v) s =
      .next { s.unlatch 0 true with dev := { (s.unlatch 0 true).dev with
        scratch := s.dev.scratch.set i (BitVec.ofNat 32 v.toNat) } } := by
  have hsame : s.stateRefuses 0 (0x500 + 4 * i) = false := by
    interval_cases i <;> exact hopen
  have hlow : isLow 0 (0x500 + 4 * i) = false := by
    interval_cases i <;> decide
  have hhigh : isLow 0 (0x500 + 4 * i - 4) = false := by
    interval_cases i <;> decide
  rw [exec_registerWrite_pf hreach v (by omega) (by omega) hsame hlow fun _ => hhigh, ← ofNat_mod_of_le le_rfl v.toNat]
  interval_cases i <;> rfl

/-- The first word of a Basket's block is `BSK_CTL`, and no half of a 64-bit register. -/
theorem regBlock_bskCtl {h : Nat} (hh : h < 16) : regBlock (0x100000 + 0x10000 * h) = (.bsk h, 0) := by
  unfold regBlock
  rw [if_neg (by omega), if_neg (by omega), if_neg (by omega), if_neg (by omega), if_neg (by omega), if_pos (by omega),
    show (0x100000 + 0x10000 * h - 0x100000) / 0x10000 = h by omega, show (0x100000 + 0x10000 * h - 0x100000) % 0x10000 = 0 by omega]

theorem isLow_bskCtl {h : Nat} (hh : h < 16) :
    isLow 0 (0x100000 + 0x10000 * h) = false ∧ isLow 0 (0x100000 + 0x10000 * h - 4) = false := by
  refine ⟨(if_pos rfl).trans ?_, ?_⟩
  · unfold lowWord
    rw [regBlock_bskCtl hh]
  · interval_cases h <;> decide

theorem exec_bskCtlWrite (hreach : s.reachable = true) {h : Nat} (hh : h < 16)
    (hopen : s.stateRefuses 0 (0x100000 + 0x10000 * h) = false) (v : W64) :
    exec (.registerWrite 0 (0x100000 + 0x10000 * h) false v) s =
      .next ((s.unlatch 0 true).bskCtl h (v.toNat % 2 ^ 32)) := by
  obtain ⟨hlow, hhigh⟩ := isLow_bskCtl hh
  rw [exec_registerWrite_pf hreach v (by omega) (by omega) hopen hlow fun _ => hhigh]
  unfold State.pfWrite
  rw [regBlock_bskCtl hh]
  rfl

/-! ## Reads that latch (15, R450) -/

theorem exec_latchedLowerRead (hreach : s.reachable = true) (hspan : barSpan fn off 4 = true) (halign : off % 4 = 0) :
    exec (.latchedLowerRead fn off) s = .next ((if fn = 0 ∧ lowWord off = true then
      { s.unlatch fn false with dev := { (s.unlatch fn false).dev with
        latch := tset noneDflt (s.unlatch fn false).dev.latch fn (some (off, BitVec.ofNat 32 (s.word fn (off + 4)))) } }
      else s.unlatch fn false).readReturn fn (leBytes 4 (s.read32 fn off))) :=
  (if_pos (by simp [hspan, halign])).trans (congrArg Host.Outcome.next (if_neg (not_unreachable hreach)))

end

/-- Settles O53: a refused access is recorded whatever latch it ends; an accepted write reaches its register's own write, whose
effect is the command's. -/
theorem registerAccessesAreTakenOrRecorded : Obligations.RegisterAccessesAreTakenOrRecorded := by
  unfold Obligations.RegisterAccessesAreTakenOrRecorded
  intro s fn off
  dsimp only
  intro hreach
  refine ⟨fun k wide v hspan hrefuse => ?refusedWrite, fun k n hspan hrefuse => ?refused, fun k n hspan hrefuse => ?refusedRead,
    fun hopen i v hi => exec_scratchWrite hreach hopen hi v, fun hopen hoff halign => ⟨?cls, ?warm, ?clear, fun h hh hbsk => ?bsk⟩,
    fun v hspan halign hopen hlow => ?low, fun v w hspan halign hopen hlow hnot hheld => ?high, fun hspan halign => ?latch, rfl⟩
  case refusedWrite => exact ⟨_, exec_registerWrite_refused hreach hspan hrefuse, s.unlatch_accRefuse_records fn off k true⟩
  case refused =>
    exact ⟨_, exec_refusedAccess hreach hspan hrefuse, s.unlatch_accRefuse_records fn off k true,
      s.unlatch_accRefuse_readData fn off k true⟩
  case refusedRead =>
    obtain ⟨heq, hrest⟩ := s.unlatch_accRefuse_records fn off k false
    have hdata := s.unlatch_accRefuse_readData fn off k false
    refine ⟨_, exec_refusedAccess hreach hspan hrefuse, ⟨?_, hrest⟩, congrArg (· ++ [(fn, s.readBytes fn off n)]) hdata⟩
    rw [if_neg Bool.false_ne_true, heq]
    rfl
  case cls =>
    rintro rfl v
    rw [exec_registerWrite_pf hreach v hoff halign hopen (by decide) fun _ => by decide, ← ofNat_mod_of_le (by decide : 2 ≤ 32) v.toNat]
    rfl
  case warm =>
    rintro rfl
    rw [exec_registerWrite_pf hreach 1 hoff halign hopen (by decide) fun _ => by decide]
    rfl
  case clear =>
    rintro rfl
    rw [exec_registerWrite_pf hreach 0x80000000 hoff halign hopen (by decide) fun _ => by decide]
    rfl
  case bsk =>
    subst hbsk
    have hwrite := exec_bskCtlWrite hreach hh hopen
    refine ⟨(hwrite 1).trans ?_, (hwrite 2).trans ?_, (hwrite 4).trans ?_, (hwrite 8).trans ?_, (hwrite 16).trans ?_⟩ <;>
      exact (if_pos (decide_eq_true hh)).symm
  case low =>
    rw [exec_registerWrite_word hreach v hspan halign hopen, State.write32_low _ hlow, ofNat_mod_of_le le_rfl]
  case high =>
    rw [exec_registerWrite_word hreach v hspan (by omega) hopen, State.write32_high _ hlow hnot hheld]
  case latch =>
    refine ⟨_, exec_latchedLowerRead hreach hspan halign, ?_⟩
    by_cases hlow : fn = 0 ∧ lowWord off = true
    · rw [if_pos hlow, if_pos hlow]
      refine ⟨rfl, rfl, ?_⟩
      dsimp only [State.readReturn, State.unlatch]
      rw [tget_tset, if_pos rfl]
    · rw [if_neg hlow, if_neg hlow]
      refine ⟨rfl, rfl, ?_⟩
      dsimp only [State.readReturn, State.unlatch]
      rw [tget_tset, if_pos rfl]

end Sys2Proof.Machine
end

section
/-! PROOFS. Trivet's answers to its transports, its signed commands, and O57 (13, R399 to R403, R410, R419, R422 to R426). -/

namespace Sys2Proof.Machine

section
variable {s u : State} {via : Via} {tag : Nat}

/-! ## Answers (13, R401, R426) -/

/-- From s on, Trivet has given one answer to a command and changed nothing outside itself. -/
def State.Answers (s t : State) (via : Via) (code tag st : Nat) (data : List Nat) : Prop :=
  t = { s with freeCtr := t.freeCtr, trv := t.trv, msix := t.msix, mgmt := t.mgmt } ∧
    t.mgmt = s.mgmt ++ [.response via code tag st data] ∧
    (via = .mailbox → t.trv.rspDone = true ∧ t.trv.rspStat = st ∧ t.trv.rspTag = tag % 2 ^ 16 ∧ t.trv.goBusy = false ∧
      t.msix = s.msix ++ [(0, 1)]) ∧
    (via ≠ .mailbox → t.msix = s.msix)

/-- Trivet without its mailbox's answer and without a command in progress there. -/
def Trivet.unanswered (v : Trivet) : Trivet := { v with rsp := [], rspDone := false, rspStat := 0, rspTag := 0, goBusy := false }

/-- What does not look at the mailbox's answer reads the same. -/
theorem Trivet.eq_of_unanswered {α : Type} {v w : Trivet} (h : v.unanswered = w.unanswered) (f : Trivet → α)
    (hf : ∀ x : Trivet, f x.unanswered = f x) : f v = f w :=
  (hf v).symm.trans ((congrArg f h).trans (hf w))

theorem State.respond_answers (hu : u = { s with freeCtr := u.freeCtr, trv := u.trv }) (via : Via) (code tag st : Nat)
    (data : List Nat) (bytes : Option (List Byte)) : s.Answers (u.respond via code tag st data bytes) via code tag st data := by
  obtain ⟨c, v, rfl⟩ : ∃ c v, u = { s with freeCtr := c, trv := v } := ⟨_, _, hu⟩
  cases via with
  | mailbox => exact ⟨rfl, rfl, fun _ => ⟨rfl, rfl, rfl, rfl, rfl⟩, fun h => absurd rfl h⟩
  | vdm => exact ⟨rfl, rfl, fun h => absurd h (by simp), fun _ => rfl⟩
  | management e => exact ⟨rfl, rfl, fun h => absurd h (by simp), fun _ => rfl⟩

theorem State.status_answers (hu : u = { s with freeCtr := u.freeCtr, trv := u.trv }) (via : Via) (code tag st : Nat) :
    s.Answers (u.status via code tag st) via code tag st [] :=
  State.respond_answers hu via code tag st [] (some [])

/-- Of Trivet an answer changes the mailbox's answer alone. -/
theorem State.respond_trv (u : State) (via : Via) (code tag st : Nat) (data : List Nat) (bytes : Option (List Byte)) :
    (u.respond via code tag st data bytes).trv.unanswered = u.trv.unanswered := by
  cases via <;> rfl

theorem State.status_trv (u : State) (via : Via) (code tag st : Nat) :
    (u.status via code tag st).trv.unanswered = u.trv.unanswered :=
  u.respond_trv via code tag st [] (some [])

/-- The answer is the one message that is sent. -/
theorem State.status_mgmt (u : State) (via : Via) (code tag st : Nat) :
    (u.status via code tag st).mgmt = u.mgmt ++ [.response via code tag st []] :=
  (State.status_answers rfl via code tag st).2.1

/-! ## GET_INFO (13, R401) -/

theorem exec_getInfo_unheard (hdeaf : s.hears via true = false) : exec (.getInfo via tag) s = .next s :=
  congrArg Host.Outcome.next (if_neg (by rw [hdeaf]; decide))

theorem exec_getInfo (hears : s.hears via true = true) : exec (.getInfo via tag) s =
    .next (({ s.fresh with trv := { s.trv with nonce := some (Config.nonce s.freeCtr) } } : State).respond via 1 tag 0
      [s.uid, s.trv.fwVer, s.trv.bank, s.svnCount, b2n s.locked, Config.nonce s.freeCtr] none) :=
  congrArg Host.Outcome.next (if_pos hears)

theorem getInfo_spec (hears : s.hears via true = true) : ∃ t n, exec (.getInfo via tag) s = .next t ∧ t.trv.nonce = some n ∧
    s.Answers t via 1 tag 0 [s.uid, s.trv.fwVer, s.trv.bank, s.svnCount, b2n s.locked, n] :=
  ⟨_, Config.nonce s.freeCtr, exec_getInfo hears, Trivet.eq_of_unanswered (State.respond_trv _ _ _ _ _ _ _) Trivet.nonce fun _ => rfl,
    State.respond_answers rfl _ _ _ _ _ _⟩

section
variable (hears : s.hears via false = true)
include hears

theorem not_unheard : ¬ (!s.hears via false) = true := by rw [hears]; decide

/-! ## SUBSCRIBE, READ_BBR and READ_MON (13, R401, R403, R410) -/

omit hears in
/-- A command that is refused leaves Trivet but for the answer. -/
theorem refused_spec {i : Instr} {code st : Nat} (hexec : exec i s = .next (s.status via code tag st)) :
    ∃ t, exec i s = .next t ∧ s.Answers t via code tag st [] ∧ t.trv.unanswered = s.trv.unanswered :=
  ⟨_, hexec, State.status_answers rfl _ _ _ _, s.status_trv _ _ _ _⟩

end

/-- A subscription without records. -/
def Sub.opened (e cls mask : Nat) : Sub := { eid := e, cls := cls, mask := mask, queue := [], lost := 0 }

/-- The subscribers with another one, or one in its own place. -/
theorem State.withSubs_spec (s : State) (l : List Sub) (via : Via) (tag : Nat) :
    s.Answers (({ s with trv := { s.trv with subs := l } } : State).status via 2 tag 0) via 2 tag 0 [] ∧
      (({ s with trv := { s.trv with subs := l } } : State).status via 2 tag 0).trv.subs = l :=
  ⟨State.status_answers rfl _ _ _ _, Trivet.eq_of_unanswered (State.status_trv _ _ _ _ _) Trivet.subs fun _ => rfl⟩

theorem exec_subscribe_again {e cls mask : Nat} (hears : s.hears (.management e) false = true)
    (hknown : s.trv.subs.any (fun x => x.eid = e) = true) : exec (.subscribe (.management e) tag cls mask) s =
      .next (({ s with trv := { s.trv with
        subs := lmod (fun x => x.eid = e) (fun _ => Sub.opened e cls mask) s.trv.subs } } : State).status (.management e) 2 tag 0) :=
  congrArg Host.Outcome.next ((if_neg (not_unheard hears)).trans (if_pos hknown))

theorem exec_subscribe_new {e cls mask : Nat} (hears : s.hears (.management e) false = true)
    (hnew : s.trv.subs.any (fun x => x.eid = e) = false) (hroom : s.trv.subs.length < 4) :
    exec (.subscribe (.management e) tag cls mask) s =
      .next (({ s with trv := { s.trv with subs := s.trv.subs ++ [Sub.opened e cls mask] } } : State).status (.management e) 2 tag 0) :=
  congrArg Host.Outcome.next ((if_neg (not_unheard hears)).trans
    ((if_neg (ne_of_eq_of_ne hnew Bool.false_ne_true)).trans (if_pos hroom)))

theorem exec_subscribe_full {e cls mask : Nat} (hears : s.hears (.management e) false = true)
    (hnew : s.trv.subs.any (fun x => x.eid = e) = false) (hfull : 4 ≤ s.trv.subs.length) :
    exec (.subscribe (.management e) tag cls mask) s = .next (s.status (.management e) 2 tag 2) :=
  congrArg Host.Outcome.next ((if_neg (not_unheard hears)).trans
    ((if_neg (ne_of_eq_of_ne hnew Bool.false_ne_true)).trans (if_neg (Nat.not_lt.mpr hfull))))

section
variable (hears : s.hears via false = true)
include hears

theorem exec_subscribe_unmanaged {cls mask : Nat} (hvia : managed via = false) :
    exec (.subscribe via tag cls mask) s = .next (s.status via 2 tag 2) := by
  refine congrArg Host.Outcome.next ((if_neg (not_unheard hears)).trans ?_)
  cases via with
  | management e => exact Bool.noConfusion (hvia : true = false)
  | mailbox => rfl
  | vdm => rfl

theorem readBbr_spec (sq n : Nat) : ∃ t, exec (.readBbr via tag sq n) s = .next t ∧
    s.Answers t via 8 tag 0 (((s.trv.records.filter (fun r => decide (sq ≤ r.seq))).take n).flatMap recData) :=
  ⟨_, congrArg Host.Outcome.next (if_pos hears), State.respond_answers rfl _ _ _ _ _ _⟩

theorem readMon_spec {i n : Nat} (hi : i < 16384) (hn : n ≤ 16384) : ∃ t, exec (.readMon via tag i n) s = .next t ∧
    s.Answers t via 3 tag 0 (((List.range n).flatMap (fun k => s.monAt ((i + k) % 16384))).map BitVec.toNat) :=
  ⟨_, congrArg Host.Outcome.next ((if_neg (not_unheard hears)).trans (if_neg (by omega))), State.respond_answers rfl _ _ _ _ _ _⟩

theorem exec_readMon_beyond {i n : Nat} (hout : 16384 ≤ i ∨ 16384 < n) :
    exec (.readMon via tag i n) s = .next (s.status via 3 tag 6) :=
  congrArg Host.Outcome.next ((if_neg (not_unheard hears)).trans (if_pos hout))

/-! ## Signed commands (13, R419, R422) -/

omit hears in
theorem not_unmanaged (hvia : managed via = true) : ¬ (!managed via) = true := by rw [hvia]; decide

omit hears in
theorem signed_iff {nc : Nat} {ok : Bool} :
    (ok && decide (s.trv.nonce = some nc)) = true ↔ ok = true ∧ s.trv.nonce = some nc := by
  simp

theorem exec_fuseAdvance_unmanaged (hvia : managed via = false) (rq : FuseReq) (nc : Nat) (ok : Bool) :
    exec (.fuseAdvance via tag rq nc ok) s = .next (s.status via 0xB tag 2) :=
  congrArg Host.Outcome.next ((if_neg (not_unheard hears)).trans (if_pos (by rw [hvia]; rfl)))

theorem exec_fuseAdvance_unsigned (hvia : managed via = true) {nc : Nat} {ok : Bool} (rq : FuseReq)
    (hbad : ok = false ∨ s.trv.nonce ≠ some nc) : exec (.fuseAdvance via tag rq nc ok) s = .next (s.status via 0xB tag 5) := by
  refine congrArg Host.Outcome.next ((if_neg (not_unheard hears)).trans ((if_neg (not_unmanaged hvia)).trans (if_pos ?_)))
  rcases hbad with rfl | hbad
  · rfl
  · simp [hbad]

theorem exec_fuseAdvance (hvia : managed via = true) {nc : Nat} (rq : FuseReq) (hnonce : s.trv.nonce = some nc) :
    exec (.fuseAdvance via tag rq nc true) s = .next (match s.fuseTarget rq with
      | some n => (s.blow n).status via 0xB tag 0
      | none => s.status via 0xB tag 6) :=
  congrArg Host.Outcome.next ((if_neg (not_unheard hears)).trans ((if_neg (not_unmanaged hvia)).trans
    (if_neg (by simp [hnonce]))))

theorem exec_bbrErase_unmanaged (hvia : managed via = false) (nc : Nat) (ok : Bool) :
    exec (.bbrErase via tag nc ok) s = .next (s.status via 0xC tag 2) :=
  congrArg Host.Outcome.next ((if_neg (not_unheard hears)).trans (if_pos (by rw [hvia]; rfl)))

theorem exec_bbrErase_unsigned (hvia : managed via = true) {nc : Nat} {ok : Bool} (hbad : ok = false ∨ s.trv.nonce ≠ some nc) :
    exec (.bbrErase via tag nc ok) s = .next (s.status via 0xC tag 5) := by
  refine congrArg Host.Outcome.next ((if_neg (not_unheard hears)).trans ((if_neg (not_unmanaged hvia)).trans (if_neg ?_)))
  rw [signed_iff]
  rintro ⟨hok, hnonce⟩
  rcases hbad with hbad | hbad
  · exact absurd (hok.symm.trans hbad) (by decide)
  · exact hbad hnonce

end

/-! ### A fuse word that is blown -/

theorem bits_commit {d : Nat} (hd : d < 2 ^ 120) : bits (BitVec.ofNat 128 (d + shl 3 120)).toNat 121 120 = 3 := by
  have hshl : shl 3 120 = 3 * 2 ^ 120 := rfl
  unfold bits
  rw [BitVec.toNat_ofNat, hshl]
  omega

/-- A blown word is valid; no other word changes. -/
theorem State.blow_spec (s : State) (n : Nat) : (s.blow n).fuseValid n = true ∧ ∀ j, j ≠ n → (s.blow n).fuse j = s.fuse j := by
  unfold State.fuseValid State.fuse State.blow
  dsimp only
  refine ⟨?_, fun j hj => (tget_tins _ _ _ _ _).trans (if_neg hj)⟩
  rw [tget_tins, if_pos rfl, bits_commit (Nat.mod_lt _ (by positivity))]
  simp

/-- What is known of the fuses rests on the words and on those that failed their ECC. -/
theorem State.fuse_congr {t : State} (hfuses : t.trv.fuses = s.trv.fuses) (j : Nat) : t.fuse j = s.fuse j := by
  unfold State.fuse
  rw [hfuses]

theorem State.fuseValid_congr {t : State} (hfuses : t.trv.fuses = s.trv.fuses) (hbad : t.trv.badFuse = s.trv.badFuse) (j : Nat) :
    t.fuseValid j = s.fuseValid j := by
  unfold State.fuseValid
  rw [State.fuse_congr hfuses, hbad]

theorem fuseAdvance_spec (hears : s.hears via false = true) (hvia : managed via = true) {nc k : Nat} {rq : FuseReq}
    (hnonce : s.trv.nonce = some nc) (htarget : s.fuseTarget rq = some k) :
    ∃ t, exec (.fuseAdvance via tag rq nc true) s = .next t ∧ s.Answers t via 0xB tag 0 [] ∧ t.fuseValid k = true ∧
      ∀ j, j ≠ k → t.fuse j = s.fuse j := by
  have hexec := exec_fuseAdvance (tag := tag) hears hvia rq hnonce
  rw [htarget] at hexec
  have htrv := (s.blow k).status_trv via 0xB tag 0
  have hfuses : ((s.blow k).status via 0xB tag 0).trv.fuses = (s.blow k).trv.fuses := Trivet.eq_of_unanswered htrv Trivet.fuses fun _ => rfl
  have hbad : ((s.blow k).status via 0xB tag 0).trv.badFuse = (s.blow k).trv.badFuse := Trivet.eq_of_unanswered htrv Trivet.badFuse fun _ => rfl
  obtain ⟨hvalid, hothers⟩ := s.blow_spec k
  exact ⟨_, hexec, State.status_answers rfl _ _ _ _, (State.fuseValid_congr hfuses hbad k).trans hvalid,
    fun j hj => (State.fuse_congr hfuses j).trans (hothers j hj)⟩

/-! ### The record that is erased -/

/-- Trivet with an empty record, its sectors' erases counted. -/
def Trivet.blankRecord (v : Trivet) : Trivet :=
  { v with
    bbr := []
    bbrErase := v.bbr.foldl (fun e x => tset natDflt e x.num (tget natDflt e x.num + 1)) v.bbrErase
    bbrTorn := 0 }

theorem exec_bbrErase (hears : s.hears via false = true) (hvia : managed via = true) {nc : Nat} (hnonce : s.trv.nonce = some nc) :
    exec (.bbrErase via tag nc true) s =
      .next (({ s with trv := s.trv.blankRecord.commit s.time s.time (.erased s.trv.bbrSeq) } : State).status via 0xC tag 0) :=
  congrArg Host.Outcome.next ((if_neg (not_unheard hears)).trans ((if_neg (not_unmanaged hvia)).trans
    (if_pos (signed_iff.mpr ⟨rfl, hnonce⟩))))

/-- The first commit of an empty record opens sector 0. -/
theorem Trivet.blankRecord_commit (v : Trivet) (now time : Nat) (k : BbrKind) : (v.blankRecord.commit now time k).records =
    [{ seq := v.bbrSeq + 1, time := now, carried := false, kind := .sector 0 (tget natDflt v.blankRecord.bbrErase 0) },
      { seq := v.bbrSeq + 2, time := time, carried := false, kind := k }] := rfl

theorem bbrErase_spec (hears : s.hears via false = true) (hvia : managed via = true) {nc : Nat} (hnonce : s.trv.nonce = some nc) :
    ∃ t, exec (.bbrErase via tag nc true) s = .next t ∧ s.Answers t via 0xC tag 0 [] ∧
      (∀ r, r ∈ t.trv.records → s.trv.bbrSeq < r.seq) ∧
      ∃ r, t.trv.records.getLast? = some r ∧ r.time = s.time ∧ r.kind = .erased s.trv.bbrSeq := by
  have hrecords : ((({ s with trv := s.trv.blankRecord.commit s.time s.time (.erased s.trv.bbrSeq) } : State).status via 0xC
      tag 0).trv.records = _) :=
    (Trivet.eq_of_unanswered (State.status_trv _ via 0xC tag 0) Trivet.records fun _ => rfl).trans
      (s.trv.blankRecord_commit s.time s.time (.erased s.trv.bbrSeq))
  refine ⟨_, exec_bbrErase hears hvia hnonce, State.status_answers rfl _ _ _ _, fun r hr => ?_, ⟨_, congrArg List.getLast? hrecords,
    rfl, rfl⟩⟩
  rw [hrecords] at hr
  simp only [List.mem_cons, List.not_mem_nil, or_false] at hr
  rcases hr with rfl | rfl <;> dsimp only <;> omega

/-! ## MCTP, PLDM, SPDM and REPORT (13, R399, R400, R403, R424) -/

section
variable (hready : s.trv.ready = true)
include hready

theorem exec_mctpGetEid : exec (.mctpControl .getEid) s = .next { s with mgmt := s.mgmt ++ [.mctp (s.trv.eid.getD 0)] } :=
  congrArg Host.Outcome.next (if_pos (by rw [hready]; rfl))

theorem exec_mctpSetEid (e : Nat) : exec (.mctpControl (.setEid e)) s =
    .next { s with trv := { s.trv with eid := some e }, mgmt := s.mgmt ++ [.mctp e] } :=
  congrArg Host.Outcome.next (if_pos (by rw [hready]; rfl))

/-- REPORT takes 16 records of its subscriber's and its count of dropped ones. -/
theorem exec_report {i : Nat} {x : Sub} (hi : i < 4) (hsub : s.trv.subs[i]? = some x) (hmore : x.queue ≠ [] ∨ x.lost ≠ 0) :
    exec (.report i) s = .next { s with
      trv := { s.trv with subs := s.trv.subs.set i { x with queue := x.queue.drop 16, lost := 0 } }
      mgmt := s.mgmt ++ [.report x.eid (x.queue.take 16) x.lost] } := by
  refine (if_pos (decide_eq_true hi)).trans (congrArg Host.Outcome.next ?_)
  rw [hsub]
  refine if_pos ?_
  rw [hready]
  rcases hmore with hqueue | hlost
  · simp [hqueue]
  · simp [hlost]

variable (heid : s.trv.eid.isSome = true)
include heid

theorem ready_and_known : (s.trv.ready && s.trv.eid.isSome) = true := by rw [hready, heid]; rfl

/-- A sensor whose channel was never read answers 0, without a value. -/
theorem exec_pldmMonitoring {n : Nat} (hn : n < 512) : exec (.pldmMonitoring n) s = .next { s with mgmt := s.mgmt ++
    [.sensor n ((tget noneDflt s.trv.chanLast n).getD 0) (tget noneDflt s.trv.chanLast n).isSome] } := by
  refine (if_pos (decide_eq_true hn)).trans (congrArg Host.Outcome.next ((if_pos (ready_and_known hready heid)).trans ?_))
  cases tget noneDflt s.trv.chanLast n <;> rfl

theorem exec_spdmCertificates : exec (.spdm .certificates) s =
    .next { s with mgmt := s.mgmt ++ [.spdm 0 (Config.measurement 0 0)] } :=
  congrArg Host.Outcome.next (if_pos (ready_and_known hready heid))

theorem exec_spdmChallenge (n : Nat) : exec (.spdm (.challenge n)) s =
    .next { s with mgmt := s.mgmt ++ [.spdm 0 (Config.measurement 7 n)] } :=
  congrArg Host.Outcome.next (if_pos (ready_and_known hready heid))

theorem exec_spdmMeasurements {i : Nat} (h1 : 1 ≤ i) (h6 : i ≤ 6) : exec (.spdm (.measurements i)) s =
    .next { s with mgmt := s.mgmt ++ [.spdm i (Config.measurement i (s.measured i))] } :=
  congrArg Host.Outcome.next ((if_pos (ready_and_known hready heid)).trans (if_pos ⟨h1, h6⟩))

end

end

/-- Settles O57: every answer is one `respond`, which changes nothing of Trivet but the mailbox's answer; a command that is refused
gives the answer alone. -/
theorem trivetAnswersItsCommands : Obligations.TrivetAnswersItsCommands := by
  unfold Obligations.TrivetAnswersItsCommands
  intro s via tag
  refine ⟨exec_getInfo_unheard, getInfo_spec, fun hears => ?heard, fun hready => ?ready⟩
  case heard =>
    refine ⟨fun cls mask e hvia => ?subscribe, fun cls mask hvia => ?unmanaged, readBbr_spec hears, fun i n => readMon_spec hears,
      fun i n hout => ?beyond, fun rq nc k hvia => fuseAdvance_spec hears hvia, fun rq nc hvia hnonce hnone => ?noTarget,
      fun rq nc ok hvia hbad => ?unsigned, fun nc hvia => bbrErase_spec hears hvia, fun nc ok hvia hbad => ?eraseUnsigned,
      fun hvia rq nc ok => ⟨?fuseRefused, ?eraseRefused⟩⟩
    case subscribe =>
      subst hvia
      refine ⟨fun hknown => ⟨_, exec_subscribe_again hears hknown, s.withSubs_spec _ _ _⟩,
        fun hnew hroom => ⟨_, exec_subscribe_new hears hnew hroom, s.withSubs_spec _ _ _⟩, fun hnew hfull => ?_⟩
      obtain ⟨t, hexec, hsays, htrv⟩ := refused_spec (exec_subscribe_full (tag := tag) (cls := cls) (mask := mask) hears hnew hfull)
      exact ⟨t, hexec, hsays, Trivet.eq_of_unanswered htrv Trivet.subs fun _ => rfl⟩
    case unmanaged =>
      obtain ⟨t, hexec, hsays, htrv⟩ := refused_spec (exec_subscribe_unmanaged (tag := tag) (cls := cls) (mask := mask) hears hvia)
      exact ⟨t, hexec, hsays, Trivet.eq_of_unanswered htrv Trivet.subs fun _ => rfl⟩
    case beyond =>
      obtain ⟨t, hexec, hsays, -⟩ := refused_spec (exec_readMon_beyond (tag := tag) hears hout)
      exact ⟨t, hexec, hsays⟩
    case noTarget =>
      have hnext := exec_fuseAdvance (tag := tag) hears hvia rq hnonce
      rw [hnone] at hnext
      obtain ⟨t, hexec, hsays, htrv⟩ := refused_spec hnext
      exact ⟨t, hexec, hsays, Trivet.eq_of_unanswered htrv Trivet.fuses fun _ => rfl⟩
    case unsigned =>
      obtain ⟨t, hexec, hsays, htrv⟩ := refused_spec (exec_fuseAdvance_unsigned (tag := tag) hears hvia rq hbad)
      exact ⟨t, hexec, hsays, Trivet.eq_of_unanswered htrv Trivet.fuses fun _ => rfl⟩
    case eraseUnsigned =>
      obtain ⟨t, hexec, hsays, htrv⟩ := refused_spec (exec_bbrErase_unsigned (tag := tag) hears hvia hbad)
      exact ⟨t, hexec, hsays, Trivet.eq_of_unanswered htrv Trivet.bbr fun _ => rfl⟩
    case fuseRefused =>
      obtain ⟨t, hexec, hsays, htrv⟩ := refused_spec (exec_fuseAdvance_unmanaged (tag := tag) hears hvia rq nc ok)
      exact ⟨t, hexec, hsays, Trivet.eq_of_unanswered htrv Trivet.fuses fun _ => rfl⟩
    case eraseRefused =>
      obtain ⟨t, hexec, hsays, htrv⟩ := refused_spec (exec_bbrErase_unmanaged (tag := tag) hears hvia nc ok)
      exact ⟨t, hexec, hsays, Trivet.eq_of_unanswered htrv Trivet.bbr fun _ => rfl⟩
  case ready =>
    exact ⟨exec_mctpGetEid hready, exec_mctpSetEid hready, fun heid n => exec_pldmMonitoring hready heid,
      fun heid => ⟨⟨_, exec_spdmCertificates hready heid⟩, fun n => ⟨_, exec_spdmChallenge hready heid n⟩,
        fun i h1 h6 => ⟨_, exec_spdmMeasurements hready heid h1 h6⟩⟩, fun i x => exec_report hready⟩

end Sys2Proof.Machine
end

section
/-! PROOFS. Flash reads, programs and erases, and O58 (13, R401, R411 to R414). -/

namespace Sys2Proof.Machine

/-! ## Bytes of flash (13, R414) -/

theorem tget_filter_kept {α : Type} {d : Nat → α} {t : Tab α} {keep : Nat → Bool} {k : Nat} (hk : keep k = true) :
    tget d (t.filter fun e => keep e.1) k = tget d t k := by
  induction t with
  | nil => rfl
  | cons e t ih =>
    obtain ⟨j, v⟩ := e
    rw [List.filter_cons]
    by_cases hj : k = j
    · subst hj
      rw [if_pos hk]
      unfold tget
      rw [if_pos rfl, if_pos rfl]
    · split_ifs
      · unfold tget
        rw [if_neg hj, if_neg hj, ih]
      · rw [ih]
        exact (if_neg hj).symm

theorem tget_flashPut (t : Tab Byte) (a : Nat) (bs : List Byte) (k : Nat) :
    tget flashDflt (flashPut t a bs) k = if a ≤ k ∧ k < a + bs.length then bs.getD (k - a) 0 else tget flashDflt t k := by
  induction bs generalizing t a with
  | nil => exact (if_neg (by simp)).symm
  | cons b bs ih =>
    refine (ih _ _).trans ?_
    rw [tget_tset, List.length_cons]
    by_cases hk : k = a
    · subst hk
      rw [if_neg (by omega), if_pos rfl, if_pos (by omega), Nat.sub_self]
      rfl
    · rw [if_neg hk]
      by_cases hin : a + 1 ≤ k ∧ k < a + 1 + bs.length
      · rw [if_pos hin, if_pos (by omega), show k - a = (k - (a + 1)) + 1 by omega]
        rfl
      · rw [if_neg hin, if_neg (by omega)]

/-- A write of the pattern area that does not reach its commit word. -/
def blanksCommit (a len : Nat) : Bool := inPattern a && !(decide (a ≤ patWord) && decide (patWord < a + len))

theorem blanksCommit_iff {a len : Nat} :
    blanksCommit a len = true ↔ inPattern a = true ∧ (patWord < a ∨ a + len ≤ patWord) := by
  simp only [blanksCommit, Bool.and_eq_true, Bool.not_eq_true', Bool.and_eq_false_iff, decide_eq_false_iff_not, Nat.not_le,
    Nat.not_lt]

/-- Such a write makes the commit word read blank; nothing else changes. -/
theorem tget_uncommit (t : Tab Byte) (a len k : Nat) : tget flashDflt (uncommit t a len) k =
    if blanksCommit a len = true ∧ patWord ≤ k ∧ k < patWord + 4 then 0xFF else tget flashDflt t k := by
  have hdef : uncommit t a len = if blanksCommit a len = true then
      (List.range 4).foldl (fun t i => tset flashDflt t (patWord + i) 0xFF) t else t := rfl
  rw [hdef]
  by_cases hblank : blanksCommit a len = true
  · rw [if_pos hblank]
    simp only [hblank, true_and, List.range, List.range.loop, List.foldl_cons, List.foldl_nil, tget_tset]
    by_cases hword : patWord ≤ k ∧ k < patWord + 4
    · rw [if_pos hword]
      split_ifs
      · rfl
      · rfl
      · rfl
      · rfl
      · omega
    · rw [if_neg hword, if_neg (by omega), if_neg (by omega), if_neg (by omega), if_neg (by omega)]
  · rw [if_neg hblank, if_neg fun h => hblank h.1]

section
variable {s : State} {via : Via} {tag a n : Nat}

/-! ## The checks (13, R413) -/

/-- The first three checks of a write find nothing; among them that whole units are written. -/
theorem State.flashCheck_none {len unit : Nat} (hcheck : (s.flashCheck via a len unit).2 = none) :
    s.flashCheck via a len unit = (s, none) ∧ a % unit = 0 ∧ len % unit = 0 := by
  unfold State.flashCheck at hcheck ⊢
  dsimp only at hcheck ⊢
  split_ifs at hcheck ⊢ with hplace hunits
  · split at hcheck
    · exact absurd hcheck (by simp)
    · exact ⟨rfl, by omega, by omega⟩

/-- A check that refuses raises its event at most. -/
theorem State.flashCheck_some {len unit st : Nat} (hcheck : (s.flashCheck via a len unit).2 = some st) :
    ∃ e, s.flashCheck via a len unit = ({ s with evq := e }, some st) := by
  unfold State.flashCheck at hcheck ⊢
  dsimp only at hcheck ⊢
  split_ifs at hcheck ⊢ with hplace hunits
  · exact ⟨s.evq, Prod.ext rfl hcheck⟩
  · exact ⟨s.evq, Prod.ext rfl hcheck⟩
  · split at hcheck
    · exact ⟨_, Prod.ext rfl hcheck⟩
    · exact absurd hcheck (by simp)

/-! ## The commands (13, R401, R411) -/

theorem State.flashDone_idle (hidle : s.trv.flashOps = []) : s.flashDone = s := by
  unfold State.flashDone
  rw [hidle]

theorem flashOpComplete_spec {o : FlashOp} {rest : List FlashOp} (hops : s.trv.flashOps = o :: rest) :
    ∃ t, exec .flashOpComplete s = .next t ∧ t.trv.flashOps = rest ∧
      t.mgmt = s.mgmt ++ [.response o.via o.code o.tag 0 []] ∧ t.trv.flash = s.trv.flash := by
  have hdone : s.flashDone = ({ s with trv := { s.trv with flashOps := rest } } : State).status o.via o.code o.tag 0 := by
    unfold State.flashDone
    rw [hops]
  have htrv := State.status_trv ({ s with trv := { s.trv with flashOps := rest } } : State) o.via o.code o.tag 0
  exact ⟨_, congrArg Host.Outcome.next hdone, Trivet.eq_of_unanswered htrv Trivet.flashOps fun _ => rfl,
    State.status_mgmt _ _ _ _ _, Trivet.eq_of_unanswered htrv Trivet.flash fun _ => rfl⟩

section
variable (hears : s.hears via false = true) (hidle : s.trv.flashOps = [])
include hears hidle

/-- A bank that neither programs nor erases is read at once. -/
theorem exec_flashRead : exec (.flashRead via tag a n) s = .next (if 0x8000000 < a + n then s.status via 9 tag 6 else
    ({ s with freeCtr := s.freeCtr + a + n } : State).respond via 9 tag 0
      (((List.range n).map (fun i => s.flashByte (a + i))).map BitVec.toNat)
      (some ((List.range n).map (fun i => s.flashByte (a + i))))) := by
  refine congrArg Host.Outcome.next ((if_neg (not_unheard hears)).trans ?_)
  have hfree : s.trv.flashOps.any (fun o => o.bank = flashBank a || o.bank = flashBank (a + n - 1)) = false := by
    rw [hidle]
    rfl
  simp only [hfree, Bool.false_eq_true, if_false]

theorem flashRead_spec (hin : a + n ≤ 0x8000000) : ∃ t data, exec (.flashRead via tag a n) s = .next t ∧
    t.mgmt = s.mgmt ++ [.response via 9 tag 0 data] ∧ data.length = n ∧ t.trv.flash = s.trv.flash ∧
    ∀ i, i < n → s.inImage (a + i) = false → a + i < 0x6F00000 → data[i]? = some (tget flashDflt s.trv.flash (a + i)).toNat := by
  refine ⟨_, _, (exec_flashRead hears hidle).trans (congrArg Host.Outcome.next (if_neg (Nat.not_lt.mpr hin))),
    (State.respond_answers (s := s) rfl _ _ _ _ _ _).2.1, by simp,
    Trivet.eq_of_unanswered (State.respond_trv _ _ _ _ _ _ _) Trivet.flash fun _ => rfl, fun i hi himage hbelow => ?_⟩
  have hbyte : s.flashByte (a + i) = tget flashDflt s.trv.flash (a + i) := by
    unfold State.flashByte
    rw [if_neg (by simp [himage, hbelow])]
  simp [hi, hbyte]

omit hears hidle in
/-- An operation that the checks refuse is answered so, and nothing of flash changes. -/
theorem refusedFlash_spec {i : Instr} {e : List EventRec} {st : Nat}
    (hexec : exec i s = .next (({ s with evq := e } : State).status via 0xA tag st)) :
    ∃ t, exec i s = .next t ∧ t.mgmt = s.mgmt ++ [.response via 0xA tag st []] ∧ t.trv.flash = s.trv.flash :=
  ⟨_, hexec, State.status_mgmt _ _ _ _ _, Trivet.eq_of_unanswered (State.status_trv _ _ _ _ _) Trivet.flash fun _ => rfl⟩

theorem exec_flashProgram_refused {bs : List Byte} {st : Nat} (hcheck : (s.flashCheck via a bs.length 256).2 = some st) :
    ∃ e, exec (.flashProgram via tag a bs) s = .next (({ s with evq := e } : State).status via 0xA tag st) := by
  obtain ⟨e, heq⟩ := State.flashCheck_some hcheck
  refine ⟨e, congrArg Host.Outcome.next ((if_neg (not_unheard hears)).trans ?_)⟩
  rw [State.flashDone_idle hidle, heq]

theorem exec_flashErase_refused {st : Nat} (hcheck : (s.flashCheck via a n 0x10000).2 = some st) :
    ∃ e, exec (.flashErase via tag a n) s = .next (({ s with evq := e } : State).status via 0xA tag st) := by
  obtain ⟨e, heq⟩ := State.flashCheck_some hcheck
  refine ⟨e, congrArg Host.Outcome.next ((if_neg (not_unheard hears)).trans ?_)⟩
  rw [State.flashDone_idle hidle, heq]

end

/-- The first byte that a program finds not blank, or in an image. -/
def State.firstStained (s : State) (a len : Nat) : Option Nat :=
  (List.range len).find? (fun i => s.inImage a || tget flashDflt s.trv.flash (a + i) ≠ 0xFF)

theorem exec_flashProgram (hears : s.hears via false = true) (hidle : s.trv.flashOps = []) {bs : List Byte}
    (hcheck : (s.flashCheck via a bs.length 256).2 = none) : exec (.flashProgram via tag a bs) s =
      .next (match s.firstStained a bs.length with
        | some i => (s.raise 0x0A01 0 0x07 0 (shl (flashBank a) 30 + (a + i - bankBase (flashBank a)) / 256)).status via 0xA tag 4
        | none => s.flashRun via tag a bs.length (flashPut s.trv.flash a bs)) := by
  obtain ⟨heq, -, -⟩ := State.flashCheck_none hcheck
  refine congrArg Host.Outcome.next ((if_neg (not_unheard hears)).trans ?_)
  rw [State.flashDone_idle hidle, heq]
  rfl

/-- Where firmware's image stood, an erase leaves none. -/
def State.withoutImage (s : State) (b : Nat) : State :=
  if b < 2 then { s with trv := { s.trv with fw := tset fwDflt s.trv.fw b {} } } else s

theorem State.withoutImage_spec (s : State) (b : Nat) : (s.withoutImage b).mgmt = s.mgmt ∧
    (s.withoutImage b).trv.flash = s.trv.flash ∧ (s.withoutImage b).trv.flashOps = s.trv.flashOps ∧
    (b < 2 → ((s.withoutImage b).fwBank b).img = none) := by
  unfold State.withoutImage
  by_cases hb : b < 2
  · rw [if_pos hb]
    refine ⟨rfl, rfl, rfl, fun _ => ?_⟩
    unfold State.fwBank
    dsimp only
    rw [tget_tset, if_pos rfl]
  · rw [if_neg hb]
    exact ⟨rfl, rfl, rfl, fun h => absurd h hb⟩

theorem exec_flashErase (hears : s.hears via false = true) (hidle : s.trv.flashOps = [])
    (hcheck : (s.flashCheck via a n 0x10000).2 = none) : exec (.flashErase via tag a n) s =
      .next ((s.withoutImage (flashBank a)).flashRun via tag a n
        ((s.withoutImage (flashBank a)).trv.flash.filter (fun e => !(decide (a ≤ e.1) && decide (e.1 < a + n))))) := by
  obtain ⟨heq, -, -⟩ := State.flashCheck_none hcheck
  refine congrArg Host.Outcome.next ((if_neg (not_unheard hears)).trans ?_)
  rw [State.flashDone_idle hidle, heq]
  rfl

/-! ## What a program and an erase leave -/

/-- Of whole pages, those that hold a byte of the commit word hold all of it. -/
theorem not_blanksCommit_of_page {len k : Nat} (ha : a % 256 = 0) (hlen : len % 256 = 0) (hk : a ≤ k ∧ k < a + len)
    (hword : patWord ≤ k ∧ k < patWord + 4) : ¬ blanksCommit a len = true := by
  rw [blanksCommit_iff]
  rintro ⟨-, hout⟩
  unfold patWord at *
  omega

/-- Whole pages of bytes are put where they are programmed. -/
theorem tget_programmed {t : Tab Byte} {bs : List Byte} (ha : a % 256 = 0) (hlen : bs.length % 256 = 0) (k : Nat)
    (hk : a ≤ k ∧ k < a + bs.length) :
    tget flashDflt (uncommit (flashPut t a bs) a bs.length) k = bs.getD (k - a) 0 := by
  rw [tget_uncommit, tget_flashPut, if_pos hk]
  exact if_neg fun ⟨hblank, hword⟩ => not_blanksCommit_of_page ha hlen hk hword hblank

/-- The flash is as it was but for the written bytes and the commit word. -/
def away (a len k : Nat) : Prop := (k < a ∨ a + len ≤ k) ∧ (k < patWord ∨ patWord + 4 ≤ k)

theorem tget_uncommit_away (t : Tab Byte) {len k : Nat} (hk : away a len k) :
    tget flashDflt (uncommit t a len) k = tget flashDflt t k := by
  rw [tget_uncommit]
  obtain ⟨-, hword⟩ := hk
  exact if_neg fun h => by omega

/-- An operation runs in its bank and is not answered yet. -/
def State.FlashRuns (s t : State) (via : Via) (tag a : Nat) : Prop :=
  t.mgmt = s.mgmt ∧ t.trv.flashOps = [{ bank := flashBank a, via := via, code := 0xA, tag := tag }]

theorem State.flashRun_runs {u : State} (hmgmt : u.mgmt = s.mgmt) (hidle : u.trv.flashOps = []) (via : Via) (tag a len : Nat)
    (t : Tab Byte) : s.FlashRuns (u.flashRun via tag a len t) via tag a :=
  ⟨hmgmt, congrArg (· ++ [_]) hidle⟩

theorem flashProgram_spec (hears : s.hears via false = true) (hidle : s.trv.flashOps = []) {bs : List Byte}
    (hcheck : (s.flashCheck via a bs.length 256).2 = none) (himage : s.inImage a = false)
    (hblank : ∀ i, i < bs.length → tget flashDflt s.trv.flash (a + i) = 0xFF) :
    ∃ t, exec (.flashProgram via tag a bs) s = .next t ∧ s.FlashRuns t via tag a ∧
      (∀ i, i < bs.length → tget flashDflt t.trv.flash (a + i) = bs.getD i 0) ∧
      (∀ k, away a bs.length k → tget flashDflt t.trv.flash k = tget flashDflt s.trv.flash k) ∧
      (inPattern a = true → patWord < a ∨ a + bs.length ≤ patWord →
        ∀ i, i < 4 → tget flashDflt t.trv.flash (patWord + i) = 0xFF) := by
  obtain ⟨-, ha, hlen⟩ := State.flashCheck_none hcheck
  have hnone : s.firstStained a bs.length = none := by
    refine List.find?_eq_none.mpr fun i hi => ?_
    simp [himage, hblank i (List.mem_range.mp hi)]
  have hexec := exec_flashProgram (tag := tag) hears hidle hcheck
  rw [hnone] at hexec
  dsimp only at hexec
  refine ⟨_, hexec, State.flashRun_runs rfl hidle _ _ _ _ _, fun i hi => ?_, fun k hk => ?_, fun hpat hout i hi => ?_⟩
  · refine (tget_programmed ha hlen _ ⟨by omega, by omega⟩).trans ?_
    rw [Nat.add_sub_cancel_left]
  · refine (tget_uncommit_away _ hk).trans ((tget_flashPut _ _ _ _).trans (if_neg ?_))
    obtain ⟨hplace, -⟩ := hk
    omega
  · refine (tget_uncommit _ _ _ _).trans (if_pos ⟨blanksCommit_iff.mpr ⟨hpat, hout⟩, by omega⟩)

theorem flashProgram_stained (hears : s.hears via false = true) (hidle : s.trv.flashOps = []) {bs : List Byte} {i : Nat}
    (hcheck : (s.flashCheck via a bs.length 256).2 = none) (hi : i < bs.length)
    (hstain : tget flashDflt s.trv.flash (a + i) ≠ 0xFF) :
    ∃ t, exec (.flashProgram via tag a bs) s = .next t ∧ t.mgmt = s.mgmt ++ [.response via 0xA tag 4 []] ∧
      t.trv.flash = s.trv.flash ∧ ∃ e, e ∈ t.evq ∧ e.code = 0x0A01 ∧ e.cls = 0 ∧ e.unit = 0x07 := by
  obtain ⟨j, hj⟩ : ∃ j, s.firstStained a bs.length = some j := by
    refine Option.isSome_iff_exists.mp (List.find?_isSome.mpr ⟨i, List.mem_range.mpr hi, ?_⟩)
    simpa using .inr hstain
  have hexec := exec_flashProgram (tag := tag) hears hidle hcheck
  rw [hj] at hexec
  dsimp only at hexec
  refine ⟨_, hexec, State.status_mgmt _ _ _ _ _, Trivet.eq_of_unanswered (State.status_trv _ _ _ _ _) Trivet.flash fun _ => rfl,
    ?_⟩
  rw [(State.status_answers (s := s.raise _ _ _ _ _) rfl via 0xA tag 4).1]
  exact ⟨_, List.mem_append_right _ (List.mem_singleton_self _), rfl, rfl, rfl⟩

theorem flashErase_spec (hears : s.hears via false = true) (hidle : s.trv.flashOps = [])
    (hcheck : (s.flashCheck via a n 0x10000).2 = none) :
    ∃ t, exec (.flashErase via tag a n) s = .next t ∧ s.FlashRuns t via tag a ∧
      (∀ k, a ≤ k → k < a + n → tget flashDflt t.trv.flash k = 0xFF) ∧
      (∀ k, away a n k → tget flashDflt t.trv.flash k = tget flashDflt s.trv.flash k) ∧
      (flashBank a < 2 → (t.fwBank (flashBank a)).img = none) := by
  obtain ⟨hmgmt, hflash, hops, hfw⟩ := s.withoutImage_spec (flashBank a)
  refine ⟨_, exec_flashErase hears hidle hcheck, State.flashRun_runs hmgmt (hops.trans hidle) _ _ _ _ _, fun k hle hlt => ?_,
    fun k hk => ?_, hfw⟩
  · refine (tget_uncommit _ _ _ _).trans ?_
    split_ifs
    · rfl
    · exact tget_filter (keep := fun j => !(decide (a ≤ j) && decide (j < a + n))) (by simp [hle, hlt])
  · refine (tget_uncommit_away _ hk).trans ?_
    rw [hflash]
    obtain ⟨hplace, -⟩ := hk
    refine tget_filter_kept (keep := fun j => !(decide (a ≤ j) && decide (j < a + n))) ?_
    simp only [Bool.not_eq_true', Bool.and_eq_false_iff, decide_eq_false_iff_not]
    omega

end

/-- Settles O58: with no operation under way the checks decide; a program of whole pages reaches the commit word wholly or not
at all. -/
theorem flashIsReadProgrammedAndErased : Obligations.FlashIsReadProgrammedAndErased := by
  unfold Obligations.FlashIsReadProgrammedAndErased
  intro s via tag a n bs
  refine ⟨fun o rest => flashOpComplete_spec, fun hears hidle => ⟨flashRead_spec hears hidle, fun hout => ?beyond,
    flashProgram_spec hears hidle, fun i => flashProgram_stained hears hidle, fun st hcheck => ?program,
    flashErase_spec hears hidle, fun st hcheck => ?erase⟩⟩
  case beyond =>
    exact ⟨_, (exec_flashRead hears hidle).trans (congrArg Host.Outcome.next (if_pos hout)), s.status_mgmt _ _ _ _,
      Trivet.eq_of_unanswered (State.status_trv _ _ _ _ _) Trivet.flash fun _ => rfl⟩
  case program =>
    obtain ⟨e, hexec⟩ := exec_flashProgram_refused (tag := tag) hears hidle hcheck
    exact refusedFlash_spec hexec
  case erase =>
    obtain ⟨e, hexec⟩ := exec_flashErase_refused (tag := tag) hears hidle hcheck
    exact refusedFlash_spec hexec

end Sys2Proof.Machine
end

section
/-! PROOFS. The monitor's settings (13, R406, R408, R409). -/

namespace Sys2Proof.Machine

section
variable {s : State} {via : Via} {tag : Nat}

/-! ## The scan table (13, R406) -/

section
variable (hears : s.hears via false = true)
include hears

theorem exec_scanWrite {tb : List ScanEntry} (hlen : tb.length ≤ 256)
    (hlegal : ∀ e, e ∈ tb → e.rsv = 0 ∧ e.channel + e.span ≤ 0x1FF) : exec (.scanWrite via tag tb) s =
      .next (({ s with trv := { s.trv with scanNew := some tb } } : State).status via 4 tag 0) := by
  refine congrArg Host.Outcome.next ((if_neg (not_unheard hears)).trans ((if_neg ?_).trans (if_neg ?_)))
  · rintro (hlong | hrsv)
    · omega
    · obtain ⟨e, he, hne⟩ := List.any_eq_true.mp hrsv
      exact absurd (hlegal e he).1 (of_decide_eq_true hne)
  · rintro hspan
    obtain ⟨e, he, hout⟩ := List.any_eq_true.mp hspan
    have := (hlegal e he).2
    have := of_decide_eq_true hout
    omega

theorem scanWrite_spec {tb : List ScanEntry} (hlen : tb.length ≤ 256)
    (hlegal : ∀ e, e ∈ tb → e.rsv = 0 ∧ e.channel + e.span ≤ 0x1FF) : ∃ t, exec (.scanWrite via tag tb) s = .next t ∧
      t.mgmt = s.mgmt ++ [.response via 4 tag 0 []] ∧ t.trv.scanNew = some tb ∧ t.trv.scan = s.trv.scan := by
  have htrv := State.status_trv ({ s with trv := { s.trv with scanNew := some tb } } : State) via 4 tag 0
  exact ⟨_, exec_scanWrite hears hlen hlegal, State.status_mgmt _ _ _ _ _, Trivet.eq_of_unanswered htrv Trivet.scanNew fun _ => rfl,
    Trivet.eq_of_unanswered htrv Trivet.scan fun _ => rfl⟩

theorem exec_scanWrite_illegal {tb : List ScanEntry} (hbad : 256 < tb.length ∨ ∃ e, e ∈ tb ∧ e.rsv ≠ 0) :
    exec (.scanWrite via tag tb) s = .next (s.status via 4 tag 1) := by
  refine congrArg Host.Outcome.next ((if_neg (not_unheard hears)).trans (if_pos (hbad.imp_right ?_)))
  rintro ⟨e, he, hne⟩
  exact List.any_eq_true.mpr ⟨e, he, decide_eq_true hne⟩

/-! ## The comparators (13, R408) -/

omit hears in
/-- A comparator as it is set: not armed yet, its holdoff and its crossings as they were. -/
def Comp.settled (v : Comp) (c : CompSet) : Comp :=
  { v with lo := c.lo, hi := c.hi, hyst := c.hyst, en := c.en, gain := c.gain, frames := c.frames, armed := false }

/-- One comparator of a table is set. -/
def setComps (t : Tab Comp) (c : CompSet) : Tab Comp := tset compDflt t c.idx ((tget compDflt t c.idx).settled c)

omit hears in
theorem setComps_others {l : List CompSet} {k : Nat} (hk : ∀ x, x ∈ l → x.idx ≠ k) (t : Tab Comp) :
    tget compDflt (l.foldl setComps t) k = tget compDflt t k :=
  List.foldlRecOn (motive := fun u => tget compDflt u k = tget compDflt t k) _ _ rfl fun _ hu x hx =>
    ((tget_tset _ _ _ _ _).trans (if_neg (hk x hx).symm)).trans hu

omit hears in
/-- The last setting of a comparator counts. -/
theorem setComps_last {pre post : List CompSet} {c : CompSet} (hpost : ∀ x, x ∈ post → x.idx ≠ c.idx) (t : Tab Comp) :
    ∃ v, tget compDflt ((pre ++ c :: post).foldl setComps t) c.idx = Comp.settled v c := by
  rw [List.foldl_append, List.foldl_cons, setComps_others hpost]
  exact ⟨_, (tget_tset _ _ _ _ _).trans (if_pos rfl)⟩

theorem exec_compWrite {sets : List CompSet} (hlegal : ∀ x, x ∈ sets → x.idx < 64 ∧ 1 ≤ x.frames ∧ x.frames ≤ 64 ∧ x.gain ≤ 3) :
    exec (.compWrite via tag sets) s =
      .next (({ s with trv := { s.trv with comps := sets.foldl setComps s.trv.comps } } : State).status via 5 tag 0) := by
  refine congrArg Host.Outcome.next ((if_neg (not_unheard hears)).trans (if_neg ?_))
  intro hany
  obtain ⟨x, hx, hout⟩ := List.any_eq_true.mp hany
  have := hlegal x hx
  simp only [Bool.or_eq_true, decide_eq_true_eq] at hout
  omega

theorem exec_compWrite_illegal {sets : List CompSet}
    (hbad : ∃ x, x ∈ sets ∧ (64 ≤ x.idx ∨ x.frames = 0 ∨ 64 < x.frames ∨ 3 < x.gain)) :
    exec (.compWrite via tag sets) s = .next (s.status via 5 tag 6) := by
  refine congrArg Host.Outcome.next ((if_neg (not_unheard hears)).trans (if_pos ?_))
  obtain ⟨x, hx, hout⟩ := hbad
  refine List.any_eq_true.mpr ⟨x, hx, ?_⟩
  simp only [Bool.or_eq_true, decide_eq_true_eq]
  tauto

/-! ## Trigger groups and pairs (13, R409) -/

theorem exec_trigArm {cs : List TrigConv} {k : TrigKind}
    (hlegal : ∀ c, c ∈ cs → c.conv < 16 ∧ c.channel < 512 ∧ 1 ≤ c.frames ∧ c.frames ≤ 64 ∧ c.gain ≤ 3 ∧ s.pairOf c.conv = none)
    (htime : ∀ τ, k = .atTime τ → τ % 1000 = 0) : exec (.trigArm via tag cs k) s =
      .next (({ s with trv := { s.trv with group := some {
        convs := cs, kind := k, fired := false
        readyAt := maxNat (cs.map (fun c => s.convFree c.conv)) + 12000 } } } : State).status via 6 tag 0) := by
  refine congrArg Host.Outcome.next ((if_neg (not_unheard hears)).trans (if_neg ?_))
  rw [Bool.or_eq_true]
  rintro (hany | hkind)
  · obtain ⟨c, hc, hout⟩ := List.any_eq_true.mp hany
    obtain ⟨hconv, hchan, hpos, hframes, hgain, hpair⟩ := hlegal c hc
    simp only [hpair, Bool.or_eq_true, decide_eq_true_eq, Option.isSome_none, Bool.false_eq_true, or_false] at hout
    omega
  · cases k with
    | atTime τ => exact absurd (htime τ rfl) (of_decide_eq_true hkind)
    | command => exact Bool.noConfusion (hkind : false = true)
    | syncIn => exact Bool.noConfusion (hkind : false = true)

theorem exec_trig : exec (.trig via tag) s = .next ((s.fire .command).status via 6 tag 0) :=
  congrArg Host.Outcome.next (if_pos hears)

omit hears in
theorem State.fire_of_kind {g : TrigGroup} (hgroup : s.trv.group = some g) :
    s.fire g.kind = { s with trv := { s.trv with group := some { g with fired := true } } } := by
  unfold State.fire
  rw [hgroup]
  exact if_pos rfl

omit hears in
/-- The state of a pair that is set: its two converters start half a window apart, where both were idle. -/
def State.paired (s : State) (pr ch fr : Nat) : State :=
  let u : State := { s with trv := { s.trv with pairs := tset noneDflt s.trv.pairs pr (some (ch, fr)) } }
  let e := 12 + 2 * pr
  let τ := s.time + convTime fr
  if (s.convAt e).isNone && (s.convAt (e + 1)).isNone then (u.pairConv pr e ch fr τ).pairConv pr (e + 1) ch fr (τ + 8000 * fr) else u

theorem exec_ilvSet {pr ch fr : Nat} (hpr : pr < 2) (hlo : 0x158 ≤ ch) (hhi : ch ≤ 0x15B) (hpos : 1 ≤ fr) (hfr : fr ≤ 64) :
    exec (.ilvSet via tag pr ch fr) s = .next ((s.paired pr ch fr).status via 7 tag 0) :=
  congrArg Host.Outcome.next ((if_neg (not_unheard hears)).trans (if_neg (by omega)))

theorem exec_ilvSet_illegal {pr ch fr : Nat} (hbad : 2 ≤ pr ∨ ch < 0x158 ∨ 0x15B < ch ∨ fr = 0 ∨ 64 < fr) :
    exec (.ilvSet via tag pr ch fr) s = .next (s.status via 7 tag 6) :=
  congrArg Host.Outcome.next ((if_neg (not_unheard hears)).trans (if_pos hbad))

end

theorem State.setConv_convAt (s : State) (c : Nat) (v : Option Conv) (k : Nat) :
    (s.setConv c v).convAt k = if k = c then v else s.convAt k := tget_tset _ _ _ _ _

/-- A pair's converter starts over with its pair's setting. -/
theorem State.pairConv_convAt (s : State) (pr c ch n τ : Nat) : ∃ x, (s.pairConv pr c ch n τ).convAt c = some x ∧
    x.endAt = τ ∧ x.channel = ch ∧ x.frames = n ∧ x.src = 3 :=
  ⟨_, (State.setConv_convAt _ _ _ _).trans (if_pos rfl), rfl, rfl, rfl, rfl⟩

theorem State.pairConv_others (s : State) {pr c ch n τ k : Nat} (hk : k ≠ c) : (s.pairConv pr c ch n τ).convAt k = s.convAt k :=
  (State.setConv_convAt _ _ _ _).trans (if_neg hk)

theorem State.paired_spec (s : State) (pr ch fr : Nat) : ∃ v, s.paired pr ch fr = { s with trv := v } ∧
    tget noneDflt v.pairs pr = some (ch, fr) := by
  have hset : tget noneDflt (tset noneDflt s.trv.pairs pr (some (ch, fr))) pr = some (ch, fr) := (tget_tset _ _ _ _ _).trans (if_pos rfl)
  unfold State.paired
  dsimp only
  split_ifs
  · exact ⟨_, rfl, hset⟩
  · exact ⟨_, rfl, hset⟩

theorem State.paired_convs {pr ch fr : Nat} (hfirst : s.convAt (12 + 2 * pr) = none) (hsecond : s.convAt (12 + 2 * pr + 1) = none) :
    ∃ x y, (s.paired pr ch fr).convAt (12 + 2 * pr) = some x ∧ (s.paired pr ch fr).convAt (12 + 2 * pr + 1) = some y ∧
      x.endAt = s.time + 12000 + 16000 * fr ∧ y.endAt = s.time + 12000 + 16000 * fr + 8000 * fr ∧
      x.channel = ch ∧ y.channel = ch ∧ x.src = 3 ∧ y.src = 3 := by
  unfold State.paired
  dsimp only
  rw [if_pos (by rw [hfirst, hsecond]; rfl)]
  obtain ⟨x, hx, hxend, hxchan, -, hxsrc⟩ := ({ s with trv := { s.trv with
    pairs := tset noneDflt s.trv.pairs pr (some (ch, fr)) } } : State).pairConv_convAt pr (12 + 2 * pr) ch fr (s.time + convTime fr)
  obtain ⟨y, hy, hyend, hychan, -, hysrc⟩ := (({ s with trv := { s.trv with
    pairs := tset noneDflt s.trv.pairs pr (some (ch, fr)) } } : State).pairConv pr (12 + 2 * pr) ch fr
      (s.time + convTime fr)).pairConv_convAt pr (12 + 2 * pr + 1) ch fr (s.time + convTime fr + 8000 * fr)
  unfold convTime at *
  exact ⟨x, y, (State.pairConv_others _ (by omega)).trans hx, hy, hxend.trans (by omega), hyend.trans (by omega), hxchan, hychan,
    hxsrc, hysrc⟩

end

/-! ## The settings of O59 -/

/-- The conversions that run rest on Trivet's converters. -/
theorem State.convAt_congr {s t : State} (h : t.trv.convs = s.trv.convs) (c : Nat) : t.convAt c = s.convAt c := by
  unfold State.convAt
  rw [h]

theorem compWrite_spec {s : State} {via : Via} {tag : Nat} (hears : s.hears via false = true) {pre post : List CompSet} {c : CompSet}
    (hlegal : ∀ x, x ∈ pre ++ c :: post → x.idx < 64 ∧ 1 ≤ x.frames ∧ x.frames ≤ 64 ∧ x.gain ≤ 3)
    (hpost : ∀ x, x ∈ post → x.idx ≠ c.idx) :
    ∃ t, exec (.compWrite via tag (pre ++ c :: post)) s = .next t ∧ t.mgmt = s.mgmt ++ [.response via 5 tag 0 []] ∧
      (∃ v, tget compDflt t.trv.comps c.idx = Comp.settled v c) ∧
      ∀ k, (∀ x, x ∈ pre ++ c :: post → x.idx ≠ k) → tget compDflt t.trv.comps k = tget compDflt s.trv.comps k := by
  refine ⟨_, exec_compWrite hears hlegal, State.status_mgmt _ _ _ _ _, ?_⟩
  rw [Trivet.eq_of_unanswered (State.status_trv _ _ _ _ _) Trivet.comps fun _ => rfl]
  exact ⟨setComps_last hpost _, fun k hk => setComps_others hk _⟩

theorem ilvSet_spec {s : State} {via : Via} {tag : Nat} (hears : s.hears via false = true) {pr ch fr : Nat} (hpr : pr < 2)
    (hlo : 0x158 ≤ ch) (hhi : ch ≤ 0x15B) (hpos : 1 ≤ fr) (hfr : fr ≤ 64) :
    ∃ t, exec (.ilvSet via tag pr ch fr) s = .next t ∧ t.mgmt = s.mgmt ++ [.response via 7 tag 0 []] ∧
      tget noneDflt t.trv.pairs pr = some (ch, fr) ∧
      (s.convAt (12 + 2 * pr) = none → s.convAt (12 + 2 * pr + 1) = none →
        ∃ x y, t.convAt (12 + 2 * pr) = some x ∧ t.convAt (12 + 2 * pr + 1) = some y ∧
          x.endAt = s.time + 12000 + 16000 * fr ∧ y.endAt = s.time + 12000 + 16000 * fr + 8000 * fr ∧
          x.channel = ch ∧ y.channel = ch ∧ x.src = 3 ∧ y.src = 3) := by
  have htrv := (s.paired pr ch fr).status_trv via 7 tag 0
  obtain ⟨v, hpaired, hpair⟩ := s.paired_spec pr ch fr
  have hconvs := State.convAt_congr (Trivet.eq_of_unanswered htrv Trivet.convs fun _ => rfl)
  refine ⟨_, exec_ilvSet hears hpr hlo hhi hpos hfr, ?_, ?_, fun hfirst hsecond => ?_⟩
  · rw [State.status_mgmt, hpaired]
  · rw [Trivet.eq_of_unanswered htrv Trivet.pairs fun _ => rfl, hpaired]
    exact hpair
  · rw [hconvs, hconvs]
    exact State.paired_convs hfirst hsecond

end Sys2Proof.Machine
end

section
/-! PROOFS. The monitor at work, and O59 (13, R405 to R410). -/

namespace Sys2Proof.Machine

section
variable {s : State}

/-! ## What the scan changes (13, R406) -/

/-- Trivet without its place in the scan. -/
def Trivet.unscanned (v : Trivet) : Trivet :=
  { v with scan := [], scanNew := none, scanPos := 0, scanOfs := 0, scanRep := 0, scanWait := 0, skip := 0 }

/-- The scan has gone on, and nothing else has changed. -/
def State.Scanned (s u : State) : Prop := u = { s with trv := u.trv } ∧ u.trv.unscanned = s.trv.unscanned

theorem State.Scanned.refl (s : State) : s.Scanned s := ⟨rfl, rfl⟩

theorem State.Scanned.trans {s u t : State} (hsu : s.Scanned u) (hut : u.Scanned t) : s.Scanned t := by
  obtain ⟨hstate, hrest⟩ := hsu
  obtain ⟨hstate', hrest'⟩ := hut
  exact ⟨by rw [hstate', hstate], hrest'.trans hrest⟩

/-- What does not look at the scan reads the same. -/
theorem State.Scanned.eq {α : Type} {s u : State} (h : s.Scanned u) (f : Trivet → α) (hf : ∀ x : Trivet, f x.unscanned = f x) :
    f u.trv = f s.trv :=
  (hf _).symm.trans ((congrArg f h.2).trans (hf _))

theorem State.Scanned.time {s u : State} (h : s.Scanned u) : u.time = s.time := by
  rw [h.1]

theorem State.scanNext_scanned (s : State) : s.Scanned s.scanNext := by
  unfold State.scanNext
  dsimp only
  split_ifs <;> exact ⟨rfl, rfl⟩

theorem State.scanStep_scanned (s : State) (e : ScanEntry) : s.Scanned (s.scanStep e) := by
  unfold State.scanStep
  dsimp only
  split_ifs
  · exact ⟨rfl, rfl⟩
  · exact ⟨rfl, rfl⟩
  · exact State.Scanned.trans ⟨rfl, rfl⟩ (State.scanNext_scanned _)

theorem scanTake_scanned (n : Nat) : ∀ s : State, s.Scanned (s.scanTake n).1 := by
  induction n with
  | zero => exact State.Scanned.refl
  | succ n ih =>
    intro s
    unfold State.scanTake
    split
    · exact .refl s
    · dsimp only
      split_ifs
      · exact .refl s
      · exact s.scanNext_scanned.trans (ih _)
      · refine State.Scanned.trans ?_ (ih _)
        exact State.Scanned.trans ⟨rfl, rfl⟩ (State.scanStep_scanned _ _)
      · exact s.scanStep_scanned _

/-- An entry that is on and due gives its channel at once. -/
theorem State.scanTake_of_due {e : ScanEntry} {n : Nat} (hentry : s.trv.scan[s.trv.scanPos]? = some e)
    (hdue : s.trv.scanWait ≤ s.time) (hen : e.en = true) (hchan : chanRsv (e.channel + s.trv.scanOfs) = false) :
    s.scanTake (n + 1) = (s.scanStep e, some (s.trv.scanPos, e, e.channel + s.trv.scanOfs)) := by
  unfold State.scanTake
  rw [hentry]
  dsimp only
  rw [if_neg (Nat.not_lt.mpr hdue), if_neg (by simp [hen]), if_neg (by simp [hchan])]

/-! ## The dispatcher (13, R407) -/

/-- Whether a converter is free rests on its conversion, the armed group and the pairs. -/
theorem State.convIdle_congr {t : State} {c : Nat} (hconv : t.convAt c = s.convAt c) (hgroup : t.trv.group = s.trv.group)
    (hpairs : t.trv.pairs = s.trv.pairs) : t.convIdle c = s.convIdle c := by
  unfold State.convIdle State.grouped State.pairOf
  rw [hconv, hgroup, hpairs]

/-- The states in which a converter, its group and its pair are as they were. -/
def State.SameAt (s t : State) (c : Nat) : Prop :=
  t.convAt c = s.convAt c ∧ t.trv.group = s.trv.group ∧ t.trv.pairs = s.trv.pairs

theorem State.SameAt.idle {s t : State} {c : Nat} (h : s.SameAt t c) : t.convIdle c = s.convIdle c :=
  State.convIdle_congr h.1 h.2.1 h.2.2

theorem State.SameAt.trans {s t u : State} {c : Nat} (hst : s.SameAt t c) (htu : t.SameAt u c) : s.SameAt u c :=
  ⟨htu.1.trans hst.1, htu.2.1.trans hst.2.1, htu.2.2.trans hst.2.2⟩

theorem State.Scanned.sameAt {s t : State} (h : s.Scanned t) (c : Nat) : s.SameAt t c :=
  ⟨State.convAt_congr (h.eq Trivet.convs fun _ => rfl) c, h.eq Trivet.group fun _ => rfl, h.eq Trivet.pairs fun _ => rfl⟩

theorem State.startConv_sameAt (s : State) {c k : Nat} (hk : k ≠ c) (ch g n src e : Nat) :
    s.SameAt (s.startConv k ch g n src e) c :=
  ⟨(State.setConv_convAt _ _ _ _).trans (if_neg hk.symm), rfl, rfl⟩

theorem State.serveConv_busy {k : Nat} (hbusy : s.convIdle k = false) : s.serveConv k = s := if_pos (by rw [hbusy]; rfl)

/-- Serving one converter leaves the others. -/
theorem State.serveConv_others (s : State) {c k : Nat} (hk : k ≠ c) : s.SameAt (s.serveConv k) c := by
  unfold State.serveConv
  split_ifs
  · exact ⟨rfl, rfl, rfl⟩
  · have htake := scanTake_scanned 1024 s
    split
    · exact State.startConv_sameAt _ hk _ _ _ _ _
    · split
      next heq => exact ((heq ▸ htake).sameAt c).trans (State.startConv_sameAt _ hk _ _ _ _ _)
      next heq => exact (heq ▸ htake).sameAt c

/-- A converter that is not free is not served, whatever the others are. -/
theorem State.foldl_serveConv_busy {c : Nat} (hbusy : s.convIdle c = false) (l : List Nat) :
    s.SameAt (l.foldl State.serveConv s) c := by
  refine List.foldlRecOn (motive := fun u : State => s.SameAt u c) _ _ ⟨rfl, rfl, rfl⟩ fun u hu k _ => ?_
  by_cases hk : k = c
  · subst hk
    rw [State.serveConv_busy (hu.idle.trans hbusy)]
    exact hu
  · exact hu.trans (u.serveConv_others hk)

theorem State.foldl_serveConv_others {c : Nat} {l : List Nat} (hl : c ∉ l) (s : State) : s.SameAt (l.foldl State.serveConv s) c :=
  List.foldlRecOn (motive := fun u : State => s.SameAt u c) _ _ ⟨rfl, rfl, rfl⟩ fun u hu _ hk =>
    hu.trans (u.serveConv_others fun h => hl (h ▸ hk))

/-- Converters none of which is free are passed over. -/
theorem State.foldl_serveConv_none {l : List Nat} (hbusy : ∀ k, k ∈ l → s.convIdle k = false) : l.foldl State.serveConv s = s :=
  List.foldlRecOn (motive := fun u : State => u = s) _ _ rfl fun u hu k hk => by
    rw [hu]
    exact State.serveConv_busy (hbusy k hk)

/-- An idle scan has taken a waiting table. -/
def State.scanStart (s : State) : State := if s.trv.scan.isEmpty && s.trv.scanNew.isSome then s.scanNext else s

theorem State.scanStart_scanned (s : State) : s.Scanned s.scanStart := by
  unfold State.scanStart
  split_ifs
  · exact s.scanNext_scanned
  · exact .refl s

theorem exec_monitorDispatch (hready : s.trv.ready = true) :
    exec .monitorDispatch s = .next ((List.range 16).foldl State.serveConv s.scanStart) :=
  congrArg Host.Outcome.next (if_pos hready)

/-- The converters of the part are those before one, it, and others. -/
theorem range_split {c : Nat} (hc : c < 16) : ∃ l, List.range 16 = List.range c ++ c :: l ∧ c ∉ l := by
  refine ⟨(List.range 16).drop (c + 1), ?_⟩
  revert c
  decide

/-- The lowest free converter is served first, and keeps what it got. -/
theorem dispatch_first {c : Nat} (hc : c < 16) (hbefore : ∀ k, k < c → s.convIdle k = false) :
    ((List.range 16).foldl State.serveConv s.scanStart).convAt c = (s.scanStart.serveConv c).convAt c := by
  obtain ⟨l, hrange, hl⟩ := range_split hc
  rw [hrange, List.foldl_append, List.foldl_cons, State.foldl_serveConv_none (l := List.range c) fun k hk => ?_]
  · exact (State.foldl_serveConv_others hl _).1
  · exact (s.scanStart_scanned.sameAt k).idle.trans (hbefore k (List.mem_range.mp hk))

/-- A conversion as it starts. -/
def State.converting (s : State) (ch g n src e : Nat) : Conv :=
  { channel := ch, gain := g, frames := n, src := src, entry := e, stale := (tget noneDflt s.trv.chanCal ch).isSome
    endAt := s.time + 12000 + 16000 * n }

theorem State.startConv_convAt (s : State) (c ch g n src e : Nat) :
    (s.startConv c ch g n src e).convAt c = some (s.converting ch g n src e) := by
  refine (State.setConv_convAt _ _ _ _).trans ((if_pos rfl).trans ?_)
  unfold State.converting convTime
  rw [Nat.add_assoc]

theorem State.Scanned.converting {s u : State} (h : s.Scanned u) (ch g n src e : Nat) :
    u.converting ch g n src e = s.converting ch g n src e := by
  have hcal : u.trv.chanCal = s.trv.chanCal := h.eq Trivet.chanCal fun _ => rfl
  unfold State.converting
  rw [h.time, hcal]

/-- Comparators are served before the scan. -/
theorem State.serveConv_comp {c n : Nat} (hidle : s.convIdle c = true) (hfirst : argMin id s.trv.compQ = some n) :
    (s.serveConv c).convAt c = some (s.converting (compChan n) (tget compDflt s.trv.comps n).gain
      (tget compDflt s.trv.comps n).frames 1 n) := by
  unfold State.serveConv
  rw [if_neg (by simp [hidle]), hfirst]
  exact State.startConv_convAt _ _ _ _ _ _ _

theorem State.serveConv_scan {c : Nat} {e : ScanEntry} (hidle : s.convIdle c = true) (hnone : s.trv.compQ = [])
    (hentry : s.trv.scan[s.trv.scanPos]? = some e) (hdue : s.trv.scanWait ≤ s.time) (hen : e.en = true)
    (hchan : chanRsv (e.channel + s.trv.scanOfs) = false) :
    (s.serveConv c).convAt c = some (s.converting (e.channel + s.trv.scanOfs) e.gain (e.frames + 1) 0 s.trv.scanPos) := by
  unfold State.serveConv
  rw [if_neg (by simp [hidle]), hnone, State.scanTake_of_due hentry hdue hen hchan]
  exact (State.startConv_convAt _ _ _ _ _ _ _).trans (congrArg some ((s.scanStep_scanned e).converting _ _ _ _ _))

theorem dispatch_comp {c n : Nat} (hready : s.trv.ready = true) (hc : c < 16) (hidle : s.convIdle c = true)
    (hbefore : ∀ k, k < c → s.convIdle k = false) (hfirst : argMin id s.trv.compQ = some n) :
    ∃ t, exec .monitorDispatch s = .next t ∧ t.convAt c = some (s.converting (compChan n) (tget compDflt s.trv.comps n).gain
      (tget compDflt s.trv.comps n).frames 1 n) := by
  have hstart := s.scanStart_scanned
  have hcomps : s.scanStart.trv.comps = s.trv.comps := hstart.eq Trivet.comps fun _ => rfl
  have hqueue : s.scanStart.trv.compQ = s.trv.compQ := hstart.eq Trivet.compQ fun _ => rfl
  refine ⟨_, exec_monitorDispatch hready, (dispatch_first hc hbefore).trans ?_⟩
  rw [State.serveConv_comp ((hstart.sameAt c).idle.trans hidle) (hqueue ▸ hfirst), hstart.converting, hcomps]

theorem dispatch_scan {c : Nat} {e : ScanEntry} (hready : s.trv.ready = true) (hc : c < 16) (hidle : s.convIdle c = true)
    (hbefore : ∀ k, k < c → s.convIdle k = false) (hnone : s.trv.compQ = []) (hentry : s.trv.scan[s.trv.scanPos]? = some e)
    (hdue : s.trv.scanWait ≤ s.time) (hen : e.en = true) (hchan : chanRsv (e.channel + s.trv.scanOfs) = false) :
    ∃ t, exec .monitorDispatch s = .next t ∧
      t.convAt c = some (s.converting (e.channel + s.trv.scanOfs) e.gain (e.frames + 1) 0 s.trv.scanPos) := by
  have hstart : s.scanStart = s := by
    refine if_neg fun hempty => ?_
    have hnil : s.trv.scan = [] := List.isEmpty_iff.mp (Bool.and_eq_true_iff.mp hempty).1
    rw [hnil] at hentry
    exact absurd hentry (by simp)
  refine ⟨_, exec_monitorDispatch hready, (dispatch_first hc hbefore).trans ?_⟩
  rw [hstart]
  exact State.serveConv_scan hidle hnone hentry hdue hen hchan

/-! ## A conversion that ends (13, R405, R409, R410) -/

/-- The record of a conversion that ends. -/
def State.converted (s : State) (c : Nat) (x : Conv) (value : Int) (off : Bool) : MonRec :=
  let r := clampVal x.channel x.gain value off
  { time := max s.time x.endAt, value := if x.stale then (tget noneDflt s.trv.chanLast x.channel).getD 0 else r.1
    sat := !x.stale && r.2, stale := x.stale, src := x.src, gain := x.gain, conv := c, channel := x.channel
    frames := x.frames - 1, entry := x.entry }

/-- The state in which the record of a conversion stands. -/
def State.recordConv (s : State) (c : Nat) (x : Conv) (value : Int) (off : Bool) : State :=
  (s.at x.endAt).putMon (s.converted c x value off)

theorem State.recordConv_mon (s : State) (c : Nat) (x : Conv) (value : Int) (off : Bool) (k : Nat) :
    tget noneDflt (s.recordConv c x value off).trv.mon k =
      if k = s.trv.wptr then some (s.converted c x value off) else tget noneDflt s.trv.mon k := by
  unfold State.recordConv State.putMon State.at
  dsimp only
  rw [tget_tset]

/-- The converter's next state, after its record: free, or its pair's. -/
def State.afterConv (s : State) (c : Nat) (x : Conv) : State :=
  match s.pairOf c with
  | some (ch, n) =>
    if x.src = 3 then s.pairConv ((c - 12) / 2) c ch n (s.time + 16000 * n)
    else s.pairConv ((c - 12) / 2) c ch n (s.time + convTime n + (if c % 2 = 1 then 8000 * n else 0))
  | none => s.setConv c none

theorem exec_conversionComplete {c : Nat} {x : Conv} (hc : c < 16) (hconv : s.convAt c = some x) (value : Int) (off : Bool) :
    exec (.conversionComplete c value off) s = .next ((s.recordConv c x value off).afterConv c x) := by
  refine (if_pos (decide_eq_true hc)).trans (congrArg Host.Outcome.next ?_)
  rw [hconv]
  rfl

/-- Only the converter changes after its record. -/
theorem State.afterConv_frame (s : State) (c : Nat) (x : Conv) : ∃ l, s.afterConv c x = { s with trv := { s.trv with convs := l } } := by
  unfold State.afterConv
  split
  · split_ifs
    · exact ⟨_, rfl⟩
    · exact ⟨_, rfl⟩
    · exact ⟨_, rfl⟩
  · exact ⟨_, rfl⟩

theorem State.afterConv_free {c : Nat} {x : Conv} (hpair : s.pairOf c = none) : (s.afterConv c x).convAt c = none := by
  unfold State.afterConv
  rw [hpair]
  exact (State.setConv_convAt _ _ _ _).trans (if_pos rfl)

theorem State.afterConv_pair {c ch n : Nat} {x : Conv} (hpair : s.pairOf c = some (ch, n)) (hsrc : x.src = 3) :
    ∃ y, (s.afterConv c x).convAt c = some y ∧ y.src = 3 ∧ y.channel = ch ∧ y.frames = n ∧ y.endAt = s.time + 16000 * n := by
  unfold State.afterConv
  rw [hpair]
  dsimp only
  rw [if_pos hsrc]
  obtain ⟨y, hy, hend, hchan, hframes, hysrc⟩ := s.pairConv_convAt ((c - 12) / 2) c ch n (s.time + 16000 * n)
  exact ⟨y, hy, hysrc, hchan, hframes, hend⟩

theorem conversionComplete_spec {c : Nat} {x : Conv} (value : Int) (off : Bool) (hc : c < 16) (hconv : s.convAt c = some x) :
    ∃ t, exec (.conversionComplete c value off) s = .next t ∧ t.time = max s.time x.endAt ∧
      t.trv.wptr = (s.trv.wptr + 1) % 16384 ∧ tget noneDflt t.trv.mon s.trv.wptr = some (s.converted c x value off) ∧
      (∀ k, k ≠ s.trv.wptr → tget noneDflt t.trv.mon k = tget noneDflt s.trv.mon k) ∧
      (s.pairOf c = none → t.convAt c = none) ∧
      (∀ ch n, s.pairOf c = some (ch, n) → x.src = 3 → ∃ y, t.convAt c = some y ∧ y.src = 3 ∧ y.channel = ch ∧ y.frames = n ∧
        y.endAt = max s.time x.endAt + 16000 * n) := by
  obtain ⟨l, hafter⟩ := (s.recordConv c x value off).afterConv_frame c x
  refine ⟨_, exec_conversionComplete hc hconv value off, ?_, ?_, ?_, fun k hk => ?_, fun hpair => State.afterConv_free hpair,
    fun ch n hpair hsrc => State.afterConv_pair hpair hsrc⟩
  · rw [hafter]
    rfl
  · rw [hafter]
    rfl
  · rw [hafter]
    exact (s.recordConv_mon c x value off _).trans (if_pos rfl)
  · rw [hafter]
    exact (s.recordConv_mon c x value off k).trans (if_neg hk)

/-! ## Comparators (13, R408) -/

/-- Trivet without its mailbox notices. -/
def Trivet.unnoted (v : Trivet) : Trivet := { v with notes := [], noteTail := 0, nlost := 0 }

theorem State.condition_trv (s : State) (k i : Nat) (d : Int) : (s.condition k i d).trv.unnoted = s.trv.unnoted := by
  have hnotice (u : State) : (u.notice k i d).trv.unnoted = u.trv.unnoted := by
    unfold State.notice
    dsimp only
    split_ifs <;> rfl
  unfold State.condition
  split_ifs
  · refine (hnotice _).trans (congrArg Trivet.unnoted ?_)
    refine List.foldlRecOn (motive := fun u : State => u.trv = s.trv) _ _ rfl fun u hu x _ => ?_
    split_ifs
    · exact hu
    · exact hu
  · rfl

theorem Trivet.eq_of_unnoted {α : Type} {v w : Trivet} (h : v.unnoted = w.unnoted) (f : Trivet → α)
    (hf : ∀ x : Trivet, f x.unnoted = f x) : f v = f w :=
  (hf v).symm.trans ((congrArg f h).trans (hf w))

/-- A comparator that starts waits in the dispatcher's queue, its holdoff running. -/
theorem State.compStart_spec (s : State) (n : Nat) (v : Comp) : (s.compStart n v).time = s.time ∧
    (s.compStart n v).trv.compQ = s.trv.compQ ++ [n] ∧
    tget compDflt (s.compStart n v).trv.comps n = { v with hold := some (s.time + 64000), cross := 0 } :=
  ⟨rfl, rfl, (tget_tset _ _ _ _ _).trans (if_pos rfl)⟩

section
variable {n : Nat} {value : Int} (hn : n < 64)
include hn

theorem exec_monWindow (hready : s.trv.ready = true) (hen : (tget compDflt s.trv.comps n).en = true) :
    exec (.monWindow n value) s = .next (
      let v := tget compDflt s.trv.comps n
      if v.lo + v.hyst ≤ value ∧ value ≤ v.hi - v.hyst then s.setComp n { v with armed := true }
      else if !v.armed || (decide (v.lo ≤ value) && decide (value ≤ v.hi)) then s
      else if v.hold.isSome then s.setComp n { v with armed := false, cross := v.cross + 1 }
      else (s.condition 0x07 n (if v.hi < value then 1 else 2)).compStart n { v with armed := false }) :=
  (if_pos (decide_eq_true hn)).trans (congrArg Host.Outcome.next (if_neg (by simp [hready, hen])))

theorem exec_monWindow_off (hen : (tget compDflt s.trv.comps n).en = false) : exec (.monWindow n value) s = .next s :=
  (if_pos (decide_eq_true hn)).trans (congrArg Host.Outcome.next (if_pos (by simp [hen])))

/-- Outside LO to HI an armed comparator leaves its window. -/
theorem exec_monWindow_leaves (hready : s.trv.ready = true) (hen : (tget compDflt s.trv.comps n).en = true)
    (hout : value < (tget compDflt s.trv.comps n).lo ∨ (tget compDflt s.trv.comps n).hi < value)
    (hhyst : 0 ≤ (tget compDflt s.trv.comps n).hyst) (harmed : (tget compDflt s.trv.comps n).armed = true) :
    exec (.monWindow n value) s = .next (
      let v := tget compDflt s.trv.comps n
      if v.hold.isSome then s.setComp n { v with armed := false, cross := v.cross + 1 }
      else (s.condition 0x07 n (if v.hi < value then 1 else 2)).compStart n { v with armed := false }) := by
  refine (exec_monWindow hn hready hen).trans (congrArg Host.Outcome.next ((if_neg (by omega)).trans (if_neg ?_)))
  simp only [harmed, Bool.not_true, Bool.false_or, Bool.and_eq_true, decide_eq_true_eq]
  omega

theorem monWindow_starts (hready : s.trv.ready = true) (hen : (tget compDflt s.trv.comps n).en = true)
    (hout : value < (tget compDflt s.trv.comps n).lo ∨ (tget compDflt s.trv.comps n).hi < value)
    (hhyst : 0 ≤ (tget compDflt s.trv.comps n).hyst) (harmed : (tget compDflt s.trv.comps n).armed = true)
    (hfree : (tget compDflt s.trv.comps n).hold = none) : ∃ t, exec (.monWindow n value) s = .next t ∧
      t.trv.compQ = s.trv.compQ ++ [n] ∧ tget compDflt t.trv.comps n =
        { tget compDflt s.trv.comps n with armed := false, hold := some (s.time + 64000), cross := 0 } := by
  refine ⟨_, (exec_monWindow_leaves hn hready hen hout hhyst harmed).trans (congrArg Host.Outcome.next
    (if_neg (by simp [hfree]))), ?_⟩
  generalize (if (tget compDflt s.trv.comps n).hi < value then (1 : Int) else 2) = d
  have htold : Fr [.trv, .msix, .mgmt] s (s.condition 0x07 n d) := fr_condition (fr_refl _ _) (by simp [Within]) _ _ _
  have hqueue : (s.condition 0x07 n d).trv.compQ = s.trv.compQ :=
    Trivet.eq_of_unnoted (s.condition_trv _ _ _) Trivet.compQ fun _ => rfl
  have htime : (s.condition 0x07 n d).time = s.time := htold .time (by decide)
  obtain ⟨-, hstart, hcomp⟩ := (s.condition 0x07 n d).compStart_spec n { tget compDflt s.trv.comps n with armed := false }
  rw [hqueue] at hstart
  rw [htime] at hcomp
  exact ⟨hstart, hcomp⟩

/-! ### The end of a holdoff -/

theorem exec_holdoffEnd {τ : Nat} (hhold : (tget compDflt s.trv.comps n).hold = some τ) :
    exec (.holdoffEnd n value) s = .next (
      let v := tget compDflt s.trv.comps n
      if v.cross ≠ 0 ∧ ¬(v.lo ≤ value ∧ value ≤ v.hi) then (s.at τ).compStart n v
      else (s.at τ).setComp n { v with hold := none, cross := 0 }) := by
  refine (if_pos (decide_eq_true hn)).trans (congrArg Host.Outcome.next ?_)
  simp only [hhold]

theorem exec_holdoffEnd_quiet {τ : Nat} (hhold : (tget compDflt s.trv.comps n).hold = some τ)
    (hquiet : (tget compDflt s.trv.comps n).cross = 0 ∨
      ((tget compDflt s.trv.comps n).lo ≤ value ∧ value ≤ (tget compDflt s.trv.comps n).hi)) :
    exec (.holdoffEnd n value) s =
      .next ((s.at τ).setComp n { tget compDflt s.trv.comps n with hold := none, cross := 0 }) := by
  refine (exec_holdoffEnd hn hhold).trans (congrArg Host.Outcome.next (if_neg ?_))
  rintro ⟨hcross, hout⟩
  exact hquiet.elim hcross hout

theorem holdoffEnd_starts {τ : Nat} (hhold : (tget compDflt s.trv.comps n).hold = some τ)
    (hcross : (tget compDflt s.trv.comps n).cross ≠ 0)
    (hout : value < (tget compDflt s.trv.comps n).lo ∨ (tget compDflt s.trv.comps n).hi < value) :
    ∃ t, exec (.holdoffEnd n value) s = .next t ∧ t.time = max s.time τ ∧ t.trv.compQ = s.trv.compQ ++ [n] ∧
      tget compDflt t.trv.comps n = { tget compDflt s.trv.comps n with hold := some (t.time + 64000), cross := 0 } :=
  ⟨_, (exec_holdoffEnd hn hhold).trans (congrArg Host.Outcome.next (if_pos ⟨hcross, by omega⟩)),
    (s.at τ).compStart_spec n (tget compDflt s.trv.comps n)⟩

end

/-! ## Common triggers (13, R409) -/

/-- The group's converter starts. -/
def State.startTogether (s : State) (c : TrigConv) : State :=
  s.setConv c.conv (some {
    channel := c.channel, gain := c.gain, frames := c.frames, src := 2, entry := 0
    stale := (tget noneDflt s.trv.chanCal c.channel).isSome, endAt := s.time + 16000 * c.frames })

/-- When an armed group starts whose trigger has come. -/
def TrigGroup.startAt (g : TrigGroup) : Nat := match g.kind with | .atTime τ => max τ g.readyAt | _ => g.readyAt

theorem exec_commonTriggerStart {g : TrigGroup} (hgroup : s.trv.group = some g) (hcome : g.fired = true ∨ ∃ τ, g.kind = .atTime τ) :
    exec .commonTriggerStart s =
      .next { g.convs.foldl State.startTogether (s.at g.startAt) with
        trv := { (g.convs.foldl State.startTogether (s.at g.startAt)).trv with group := none } } := by
  refine congrArg Host.Outcome.next ?_
  rw [hgroup]
  dsimp only
  unfold TrigGroup.startAt
  cases hkind : g.kind with
  | atTime τ => rfl
  | command =>
    have hfired : g.fired = true := hcome.resolve_right fun ⟨τ, h⟩ => by simp [hkind] at h
    rw [hfired]
    rfl
  | syncIn =>
    have hfired : g.fired = true := hcome.resolve_right fun ⟨τ, h⟩ => by simp [hkind] at h
    rw [hfired]
    rfl

theorem State.foldl_startTogether_time (l : List TrigConv) (s : State) : (l.foldl State.startTogether s).time = s.time :=
  List.foldlRecOn (motive := fun u : State => u.time = s.time) _ _ rfl fun _ hu _ _ => hu

theorem State.foldl_startTogether_others {l : List TrigConv} {c : Nat} (hl : ∀ z, z ∈ l → z.conv ≠ c) (s : State) :
    (l.foldl State.startTogether s).convAt c = s.convAt c :=
  List.foldlRecOn (motive := fun u : State => u.convAt c = s.convAt c) _ _ rfl fun _ hu z hz =>
    ((State.setConv_convAt _ _ _ _).trans (if_neg (hl z hz).symm)).trans hu

/-- Each converter of the group starts as its last setting says, all at one instant. -/
theorem State.foldl_startTogether_last {pre post : List TrigConv} {y : TrigConv} (hpost : ∀ z, z ∈ post → z.conv ≠ y.conv)
    (s : State) : ∃ x, ((pre ++ y :: post).foldl State.startTogether s).convAt y.conv = some x ∧ x.channel = y.channel ∧
      x.gain = y.gain ∧ x.frames = y.frames ∧ x.src = 2 ∧ x.endAt = s.time + 16000 * y.frames := by
  rw [List.foldl_append, List.foldl_cons, State.foldl_startTogether_others hpost]
  refine ⟨_, (State.setConv_convAt _ _ _ _).trans (if_pos rfl), rfl, rfl, rfl, rfl, ?_⟩
  rw [State.foldl_startTogether_time]

/-! ## A path's calibration (13, R407) -/

theorem exec_monitorPathCal {ch : Nat} (hch : ch < 512) : exec (.monitorPathCal ch true) s = .next { s with trv := { s.trv with
    chanCal := tset noneDflt s.trv.chanCal ch (some s.time), chanTold := tset falseDflt s.trv.chanTold ch false } } :=
  (if_pos (decide_eq_true hch)).trans (congrArg Host.Outcome.next (if_pos rfl))

theorem exec_monitorPathCal_end {ch b : Nat} (hch : ch < 512) (hcal : tget noneDflt s.trv.chanCal ch = some b) :
    exec (.monitorPathCal ch false) s = .next { s.at (b + 1000000) with trv := { s.trv with
      chanCal := tset noneDflt s.trv.chanCal ch none, chanTold := tset falseDflt s.trv.chanTold ch false } } := by
  refine (if_pos (decide_eq_true hch)).trans (congrArg Host.Outcome.next ((if_neg (by decide)).trans ?_))
  rw [hcal]

end

/-! ## O59 -/

theorem trigger_spec (s : State) (via : Via) (tag : Nat) (hears : s.hears via false = true) :
    (∀ (cs : List TrigConv) (k : TrigKind),
      (∀ c, c ∈ cs → c.conv < 16 ∧ c.channel < 512 ∧ 1 ≤ c.frames ∧ c.frames ≤ 64 ∧ c.gain ≤ 3 ∧ s.pairOf c.conv = none) →
      (∀ τ, k = .atTime τ → τ % 1000 = 0) →
      ∃ t, exec (.trigArm via tag cs k) s = .next t ∧ t.mgmt = s.mgmt ++ [.response via 6 tag 0 []] ∧ t.trv.group = some {
        convs := cs, kind := k, fired := false, readyAt := maxNat (cs.map (fun c => s.convFree c.conv)) + 12000 }) ∧
    (∀ g, s.trv.group = some g → g.kind = .command →
      ∃ t, exec (.trig via tag) s = .next t ∧ t.mgmt = s.mgmt ++ [.response via 6 tag 0 []] ∧
        t.trv.group = some { g with fired := true }) := by
  refine ⟨fun cs k hlegal htime => ?_, fun g hgroup hkind => ?_⟩
  · exact ⟨_, exec_trigArm hears hlegal htime, State.status_mgmt _ _ _ _ _,
      Trivet.eq_of_unanswered (State.status_trv _ _ _ _ _) Trivet.group fun _ => rfl⟩
  · have hexec := exec_trig (tag := tag) hears
    rw [← hkind, State.fire_of_kind hgroup] at hexec
    exact ⟨_, hexec, State.status_mgmt _ _ _ _ _,
      Trivet.eq_of_unanswered (State.status_trv _ _ _ _ _) Trivet.group fun _ => rfl⟩

/-- Settles O59: each setting is checked before it is taken; a free converter is served when every lower one is busy, and what ends
or leaves its window is one change of Trivet. -/
theorem monitorIsSetUpAndConverts : Obligations.MonitorIsSetUpAndConverts := by
  unfold Obligations.MonitorIsSetUpAndConverts
  refine ⟨fun s via tag hears => ?settings, fun s c => ⟨fun hready hc => ⟨fun hbusy => ?busy, fun hidle hbefore => ⟨fun n hfirst => ?comp,
    fun e hnone hentry hdue hen hchan => ?scan⟩⟩, fun x value off hc hconv => ?complete, fun n value hn hready => ?window,
    fun n value τ hn => ?holdoff, fun g hgroup hcome => ?together, fun ch hch => ?calibration⟩⟩
  case settings =>
    obtain ⟨harm, htrig⟩ := trigger_spec s via tag hears
    refine ⟨fun tb => scanWrite_spec hears, fun tb hbad => ?_, fun pre post c hlegal hpost => ?_, fun sets hbad => ?_, harm, htrig,
      fun pr ch fr => ilvSet_spec hears, fun pr ch fr hbad => ?_⟩
    · exact ⟨_, exec_scanWrite_illegal hears hbad, State.status_mgmt _ _ _ _ _,
        Trivet.eq_of_unanswered (State.status_trv _ _ _ _ _) Trivet.scanNew fun _ => rfl⟩
    · obtain ⟨t, hexec, hsays, ⟨v, hv⟩, hothers⟩ := compWrite_spec (tag := tag) hears hlegal hpost
      refine ⟨t, hexec, hsays, ?_, hothers⟩
      dsimp only
      rw [hv]
      exact ⟨rfl, rfl, rfl, rfl, rfl, rfl, rfl⟩
    · exact ⟨_, exec_compWrite_illegal hears hbad, State.status_mgmt _ _ _ _ _,
        Trivet.eq_of_unanswered (State.status_trv _ _ _ _ _) Trivet.comps fun _ => rfl⟩
    · exact ⟨_, exec_ilvSet_illegal hears hbad, State.status_mgmt _ _ _ _ _,
        Trivet.eq_of_unanswered (State.status_trv _ _ _ _ _) Trivet.pairs fun _ => rfl⟩
  case busy =>
    have hstart := s.scanStart_scanned.sameAt c
    exact ⟨_, exec_monitorDispatch hready, (State.foldl_serveConv_busy (hstart.idle.trans hbusy) _).1.trans hstart.1⟩
  case comp => exact dispatch_comp hready hc hidle hbefore hfirst
  case scan => exact dispatch_scan hready hc hidle hbefore hnone hentry hdue hen hchan
  case complete =>
    obtain ⟨t, hexec, htime, hrest⟩ := conversionComplete_spec value off hc hconv
    refine ⟨t, hexec, htime, ?_⟩
    rw [htime]
    exact hrest
  case window =>
    exact ⟨fun hen hlo hhi => (exec_monWindow hn hready hen).trans (congrArg Host.Outcome.next (if_pos ⟨hlo, hhi⟩)),
      fun hen hout hhyst harmed => monWindow_starts hn hready hen hout hhyst harmed,
      fun hen hout hhyst harmed hhold => (exec_monWindow_leaves hn hready hen hout hhyst harmed).trans
        (congrArg Host.Outcome.next (if_pos hhold)),
      exec_monWindow_off hn⟩
  case holdoff =>
    intro w u hhold
    exact ⟨exec_holdoffEnd_quiet hn hhold, holdoffEnd_starts hn hhold⟩
  case together =>
    refine ⟨_, exec_commonTriggerStart hgroup hcome, rfl, ?_, fun pre post y hconvs hpost => ?_⟩
    · exact State.foldl_startTogether_time _ _
    · obtain ⟨x, hx, hchan, hgain, hframes, hsrc, hend⟩ := State.foldl_startTogether_last (pre := pre) hpost (s.at g.startAt)
      rw [← hconvs] at hx
      refine ⟨x, hx, hchan, hgain, hframes, hsrc, hend.trans ?_⟩
      rw [← State.foldl_startTogether_time g.convs (s.at g.startAt)]
  case calibration =>
    refine ⟨⟨_, exec_monitorPathCal hch, rfl, ?_⟩, fun b hcal => ⟨_, exec_monitorPathCal_end hch hcal, rfl, ?_⟩⟩
    · dsimp only
      rw [tget_tset, if_pos rfl]
    · dsimp only
      rw [tget_tset, if_pos rfl]

end Sys2Proof.Machine
end

section
/-! PROOFS. Trivet's boot, restart, update and record, and O60 (13, R415 to R421). -/

namespace Sys2Proof.Machine

section
variable {s u : State}

/-! ## What Trivet's reports leave (13, R402, R403, R416, R420) -/

/-- Trivet without its subscribers, its notices and what waits for the record. -/
def Trivet.unreported (v : Trivet) : Trivet :=
  { v with subs := [], notes := [], noteTail := 0, nlost := 0, bbrQ := [], secCount := 0, second := 0, lostSec := [] }

theorem Trivet.eq_of_unreported {α : Type} {v w : Trivet} (h : v.unreported = w.unreported) (f : Trivet → α)
    (hf : ∀ x : Trivet, f x.unreported = f x) : f v = f w :=
  (hf v).symm.trans ((congrArg f h).trans (hf w))

theorem State.condition_unreported (s : State) (k i : Nat) (d : Int) :
    (s.condition k i d).trv.unreported = s.trv.unreported :=
  Trivet.eq_of_unnoted (s.condition_trv k i d) Trivet.unreported fun _ => rfl

theorem State.subPut_unreported (s : State) (e : SeqEvent) (i : Nat) : (s.subPut e i).trv.unreported = s.trv.unreported := by
  unfold State.subPut
  split
  · rfl
  · split_ifs
    · rfl
    · rfl
    · exact State.condition_unreported _ _ _ _

theorem State.bbrRoll_unreported (s : State) : s.bbrRoll.trv.unreported = s.trv.unreported := by
  unfold State.bbrRoll
  dsimp only
  split_ifs <;> rfl

theorem State.bbrEvent_unreported (s : State) (e : SeqEvent) : (s.bbrEvent e).trv.unreported = s.trv.unreported := by
  refine Eq.trans ?_ s.bbrRoll_unreported
  unfold State.bbrEvent
  dsimp only
  split_ifs <;> rfl

theorem State.trivetTake_unreported (s : State) (e : SeqEvent) : (s.trivetTake e).trv.unreported = s.trv.unreported := by
  have hsubs : ((List.range 4).foldl (fun s i => s.subPut e i) s).trv.unreported = s.trv.unreported :=
    List.foldlRecOn (motive := fun u : State => u.trv.unreported = s.trv.unreported) _ _ rfl fun u hu i _ =>
      (u.subPut_unreported e i).trans hu
  unfold State.trivetTake
  dsimp only
  split_ifs
  · exact (State.bbrEvent_unreported _ e).trans hsubs
  · exact hsubs

/-- What the FEU held goes to Trivet, and the FEU holds nothing. -/
theorem State.takeHeld_spec (s : State) : s.takeHeld.trv.unreported = s.trv.unreported ∧ s.takeHeld.feu.held = [] := by
  have htaken : (s.feu.held.foldl (fun s e => s.trivetTake e)
      ({ s with feu := { s.feu with held := [], heldLost := [] } } : State)).trv.unreported = s.trv.unreported ∧
      (s.feu.held.foldl (fun s e => s.trivetTake e)
        ({ s with feu := { s.feu with held := [], heldLost := [] } } : State)).feu.held = [] :=
    List.foldlRecOn (motive := fun u : State => u.trv.unreported = s.trv.unreported ∧ u.feu.held = []) _ _ ⟨rfl, rfl⟩
      fun u hu e _ => by
        have hfr : Fr [.trv, .msix, .mgmt] u (u.trivetTake e) := fr_trivetTake (fr_refl _ _) (by simp [Within]) e
        obtain ⟨hrest, hheld⟩ := hu
        exact ⟨(u.trivetTake_unreported e).trans hrest, (congrArg Feu.held (hfr .feu (by decide))).trans hheld⟩
  unfold State.takeHeld
  dsimp only
  split_ifs
  · exact htaken
  · exact htaken

/-! ## Boot (13, R416, R417, R421) -/

/-- The record that a boot leaves. -/
theorem State.bootRec_last (s : State) (kind : Nat) : (s.bootRec kind).trv.bbrQ.getLast? =
    some (s.time, .boot s.trv.bank s.trv.fwVer s.svnCount kind (b2n s.trv.recovery) s.dzf.inc) :=
  List.getLast?_concat

theorem State.svnCount_congr (hfuses : u.trv.fuses = s.trv.fuses) (hbad : u.trv.badFuse = s.trv.badFuse) :
    u.svnCount = s.svnCount := by
  unfold State.svnCount
  simp only [State.fuseValid_congr hfuses hbad]

/-- Trivet after the ROM has chosen bank b and image i. -/
def State.booted (s : State) (b : Nat) (i : FwImage) : State :=
  { s with
    trv := { s.trv with boots := s.trv.boots + 1, ready := true, up := true, bank := b, fwVer := i.version }
    dev := { s.dev with st := s.dev.recovered } }

/-- Trivet in recovery. -/
def State.stranded (s : State) : State :=
  { s with
    freeCtr := s.freeCtr + 1
    trv := { s.trv with boots := s.trv.boots + 1, recovery := true, fwVer := 0 }
    dev := { s.dev with st := 5 } }

section
variable (hvaux : s.dev.vaux = true) (hready : s.trv.ready = false) (hrecovery : s.trv.recovery = false)
include hvaux hready hrecovery

theorem boots_now : ¬ (!s.dev.vaux || s.trv.ready || s.trv.recovery) = true := by
  rw [hvaux, hready, hrecovery]
  decide

theorem exec_trivetBoot {b : Nat} {i : FwImage} (hbank : s.bootBank = some (b, i)) : exec .trivetBoot s =
    .next ((((s.booted b i).condition 0x09 b (i.version : Int)).takeHeld.tellTorn).bootRec s.trv.resetKind) := by
  have hsame : ({ s with trv := { s.trv with boots := s.trv.boots + 1 } } : State).bootBank = some (b, i) := hbank
  refine congrArg Host.Outcome.next ((if_neg (boots_now hvaux hready hrecovery)).trans ?_)
  simp only [hsame]
  rfl

theorem exec_trivetBoot_none (hbank : s.bootBank = none) : exec .trivetBoot s =
    .next (((s.stranded.condition 0x0A 0 ((Config.freeWord s.freeCtr).toNat : Int)).tellTorn).bootRec s.trv.resetKind) := by
  have hsame : ({ s with trv := { s.trv with boots := s.trv.boots + 1 } } : State).bootBank = none := hbank
  refine congrArg Host.Outcome.next ((if_neg (boots_now hvaux hready hrecovery)).trans ?_)
  simp only [hsame]
  rfl

omit hvaux hready hrecovery in
/-- What a boot record says rests on what a report leaves. -/
theorem State.bootRec_reported {w : State} (kind : Nat) (hrest : w.trv.unreported = u.trv.unreported) (htime : w.time = u.time)
    (hdzf : w.dzf = u.dzf) : (w.bootRec kind).trv.unreported = u.trv.unreported ∧
      (w.bootRec kind).trv.bbrQ.getLast? =
        some (u.time, .boot u.trv.bank u.trv.fwVer u.svnCount kind (b2n u.trv.recovery) u.dzf.inc) := by
  refine ⟨hrest, ?_⟩
  rw [State.bootRec_last, htime, hdzf, Trivet.eq_of_unreported hrest Trivet.bank fun _ => rfl,
    Trivet.eq_of_unreported hrest Trivet.fwVer fun _ => rfl, Trivet.eq_of_unreported hrest Trivet.recovery fun _ => rfl,
    State.svnCount_congr (Trivet.eq_of_unreported hrest Trivet.fuses fun _ => rfl)
      (Trivet.eq_of_unreported hrest Trivet.badFuse fun _ => rfl)]

omit hvaux hready hrecovery in
/-- Torn slots are told by an event alone. -/
theorem State.tellTorn_fr (s : State) : Fr [.evq] s s.tellTorn := fr_tellTorn (fr_refl _ _) (by simp [Within])

theorem trivetBoot_spec {b : Nat} {i : FwImage} (hbank : s.bootBank = some (b, i)) : ∃ t, exec .trivetBoot s = .next t ∧
    t.trv.unreported = (s.booted b i).trv.unreported ∧
    t.trv.bbrQ.getLast? = some (s.time, .boot b i.version s.svnCount s.trv.resetKind 0 s.dzf.inc) ∧ t.feu.held = [] := by
  refine ⟨_, exec_trivetBoot hvaux hready hrecovery hbank, ?_⟩
  have htold : Fr [.trv, .msix, .mgmt] (s.booted b i) ((s.booted b i).condition 0x09 b (i.version : Int)) :=
    fr_condition (fr_refl _ _) (by simp [Within]) _ _ _
  have hreport := (s.booted b i).condition_unreported 0x09 b (i.version : Int)
  generalize (s.booted b i).condition 0x09 b (i.version : Int) = w at htold hreport ⊢
  obtain ⟨htaken, hheld⟩ := w.takeHeld_spec
  have hfr : Fr [.feu, .trv, .msix, .mgmt, .evq] (s.booted b i) w.takeHeld.tellTorn :=
    ((htold.mono (by simp [Within])).trans ((fr_takeHeld (W := [.feu, .trv, .msix, .mgmt]) (fr_refl _ w)
      (by simp [Within])).mono (by simp [Within]))).trans ((State.tellTorn_fr _).mono (by simp [Within]))
  have htorn := State.tellTorn_fr w.takeHeld
  have hrest : w.takeHeld.tellTorn.trv.unreported = (s.booted b i).trv.unreported :=
    (congrArg Trivet.unreported (htorn .trv (by decide))).trans (htaken.trans hreport)
  obtain ⟨hkept, hlast⟩ := State.bootRec_reported s.trv.resetKind hrest (hfr .time (by decide)) (hfr .dzf (by decide))
  refine ⟨hkept, hlast.trans ?_, (congrArg Feu.held (htorn .feu (by decide))).trans hheld⟩
  have hout : (s.booted b i).trv.recovery = false := hrecovery
  rw [hout]
  rfl

theorem trivetBoot_stranded (hbank : s.bootBank = none) : ∃ t, exec .trivetBoot s = .next t ∧
    t.trv.unreported = s.stranded.trv.unreported ∧
    t.trv.bbrQ.getLast? = some (s.time, .boot s.trv.bank 0 s.svnCount s.trv.resetKind 1 s.dzf.inc) ∧ t.dev.st = 5 := by
  refine ⟨_, exec_trivetBoot_none hvaux hready hrecovery hbank, ?_⟩
  have htold : Fr [.trv, .msix, .mgmt] s.stranded (s.stranded.condition 0x0A 0 ((Config.freeWord s.freeCtr).toNat : Int)) :=
    fr_condition (fr_refl _ _) (by simp [Within]) _ _ _
  have hreport := s.stranded.condition_unreported 0x0A 0 ((Config.freeWord s.freeCtr).toNat : Int)
  generalize s.stranded.condition 0x0A 0 ((Config.freeWord s.freeCtr).toNat : Int) = w at htold hreport ⊢
  have htorn := State.tellTorn_fr w
  have hfr : Fr [.trv, .msix, .mgmt, .evq] s.stranded w.tellTorn :=
    (htold.mono (by simp [Within])).trans (htorn.mono (by simp [Within]))
  have hrest : w.tellTorn.trv.unreported = s.stranded.trv.unreported :=
    (congrArg Trivet.unreported (htorn .trv (by decide))).trans hreport
  obtain ⟨hkept, hlast⟩ := State.bootRec_reported s.trv.resetKind hrest (hfr .time (by decide)) (hfr .dzf (by decide))
  exact ⟨hkept, hlast, congrArg Dev.st (hfr .dev (by decide))⟩

end

theorem exec_trivetBoot_up (hup : s.dev.vaux = false ∨ s.trv.ready = true ∨ s.trv.recovery = true) :
    exec .trivetBoot s = .next s := by
  refine congrArg Host.Outcome.next (if_pos ?_)
  rcases hup with h | h | h <;> simp [h]

/-! ## Restart (13, R416) -/

/-- What a restart has dropped, and what it keeps of s. -/
def State.Restarted (s t : State) : Prop :=
  t.trv.ready = false ∧ t.trv.recovery = false ∧ t.trv.eid = none ∧ t.trv.subs = [] ∧ t.trv.scan = [] ∧ t.trv.comps = [] ∧
    t.trv.notes = [] ∧ t.trv.rspDone = false ∧ t.trv.flash = s.trv.flash ∧ t.trv.fw = s.trv.fw ∧ t.trv.bbr = s.trv.bbr ∧
    t.trv.bbrQ = s.trv.bbrQ ∧ t.trv.fuses = s.trv.fuses

theorem State.restartTrivet_spec (s : State) : s.Restarted s.restartTrivet ∧ s.restartTrivet.mgmt = s.mgmt :=
  ⟨⟨rfl, rfl, rfl, rfl, rfl, rfl, rfl, rfl, rfl, rfl, rfl, rfl, rfl⟩, rfl⟩

theorem ready_or_recovery (h : s.trv.ready = true ∨ s.trv.recovery = true) : (s.trv.ready || s.trv.recovery) = true := by
  rwa [Bool.or_eq_true]

theorem trivetRestart_spec (hruns : s.trv.ready = true ∨ s.trv.recovery = true) (tag : Nat) :
    ∃ t, exec (.trivetRestart none tag) s = .next t ∧ s.Restarted t ∧ t.mgmt = s.mgmt :=
  ⟨_, congrArg Host.Outcome.next (if_pos (ready_or_recovery hruns)), s.restartTrivet_spec⟩

/-- A restart that is asked for is answered first. -/
theorem trivetRestart_asked {via : Via} (tag : Nat) (hears : s.hears via false = true) :
    ∃ t, exec (.trivetRestart (some via) tag) s = .next t ∧ s.Restarted t ∧ t.mgmt = s.mgmt ++ [.response via 0xD tag 0 []] := by
  have htrv := s.status_trv via 0xD tag 0
  obtain ⟨hrestarted, hmgmt⟩ := (s.status via 0xD tag 0).restartTrivet_spec
  obtain ⟨h1, h2, h3, h4, h5, h6, h7, h8, hflash, hfw, hbbr, hqueue, hfuses⟩ := hrestarted
  refine ⟨_, congrArg Host.Outcome.next (if_pos hears), ⟨h1, h2, h3, h4, h5, h6, h7, h8, hflash.trans ?_, hfw.trans ?_,
    hbbr.trans ?_, hqueue.trans ?_, hfuses.trans ?_⟩, hmgmt.trans (s.status_mgmt _ _ _ _)⟩
  · exact Trivet.eq_of_unanswered htrv Trivet.flash fun _ => rfl
  · exact Trivet.eq_of_unanswered htrv Trivet.fw fun _ => rfl
  · exact Trivet.eq_of_unanswered htrv Trivet.bbr fun _ => rfl
  · exact Trivet.eq_of_unanswered htrv Trivet.bbrQ fun _ => rfl
  · exact Trivet.eq_of_unanswered htrv Trivet.fuses fun _ => rfl

/-! ## Firmware updates (13, R415) -/

theorem State.fwBank_of_set {t : State} {b k : Nat} {v : FwBank} (h : t.trv.fw = tset fwDflt s.trv.fw b v) :
    t.fwBank k = if k = b then v else s.fwBank k := by
  unfold State.fwBank
  rw [h, tget_tset]

/-- An update that is over leaves one record. -/
def State.Updated (s t : State) (b ver o : Nat) : Prop :=
  t.trv.fwUpd = none ∧ t.trv.bbrQ = s.trv.bbrQ ++ [(s.time, .fwUpdate b ver o)]

theorem State.fwOp_begin (hnone : s.trv.fwUpd = none) : (s.fwOp .begin).trv.fwUpd = some (s.updBank, none) ∧
    (s.fwOp .begin).trv.fw = tset fwDflt s.trv.fw s.updBank {} := by
  unfold State.fwOp
  rw [hnone]
  exact ⟨rfl, rfl⟩

section
variable {b : Nat} {img : FwImage}

theorem State.fwOp_transfer {x : Option FwImage} (hupd : s.trv.fwUpd = some (b, x)) (img : FwImage) :
    (s.fwOp (.transfer img)).trv.fwUpd = some (b, some img) ∧
      (s.fwOp (.transfer img)).trv.fw = tset fwDflt s.trv.fw b { img := some img, commit := false } := by
  unfold State.fwOp
  rw [hupd]
  exact ⟨rfl, rfl⟩

/-- The state in which an update is recorded, with its bank committed where its image verifies. -/
def State.activated (s : State) (b : Nat) (img : FwImage) : State :=
  (({ s with trv := { s.trv with fwUpd := none } } : State).setFw b { img := some img, commit := s.verifies img }).bbrPut
    (.fwUpdate b img.version (b2n (!s.verifies img)))

theorem State.fwOp_activate (hupd : s.trv.fwUpd = some (b, some img)) (restart : Bool) : s.fwOp (.activate restart) =
    if s.verifies img && restart then (s.activated b img).restartTrivet else s.activated b img := by
  unfold State.fwOp
  rw [hupd]
  rfl

theorem State.activated_spec (s : State) (b : Nat) (img : FwImage) :
    s.Updated (s.activated b img) b img.version (b2n (!s.verifies img)) ∧
      (s.activated b img).fwBank b = { img := some img, commit := s.verifies img } :=
  ⟨⟨rfl, rfl⟩, (State.fwBank_of_set (s := s) rfl).trans (if_pos rfl)⟩

theorem State.fwOp_cancel (hupd : s.trv.fwUpd = some (b, some img)) :
    s.Updated (s.fwOp .cancel) b img.version 2 ∧ (s.fwOp .cancel).trv.fw = s.trv.fw := by
  unfold State.fwOp
  rw [hupd]
  exact ⟨⟨rfl, rfl⟩, rfl⟩

end

theorem exec_pldmFirmwareUpdate (heid : s.trv.eid.isSome = true) (hruns : s.trv.ready = true ∨ s.trv.recovery = true) (op : FwOp) :
    exec (.pldmFirmwareUpdate op) s = .next (s.fwOp op) :=
  congrArg Host.Outcome.next (if_pos (Bool.and_eq_true_iff.mpr ⟨heid, ready_or_recovery hruns⟩))

/-! ## The record (13, R418 to R420) -/

section
variable (v : Trivet) (now time : Nat) (k : BbrKind)

/-- A record as the last put. -/
def Trivet.newest (v : Trivet) (time : Nat) (k : BbrKind) : BbrRec :=
  { seq := v.bbrSeq, time := time, carried := false, kind := k }

theorem Trivet.reclaim_bbrQ : v.reclaim.bbrQ = v.bbrQ := by
  unfold Trivet.reclaim
  split
  · split_ifs
    · rfl
    · exact List.foldlRecOn (motive := fun u : Trivet => u.bbrQ = v.bbrQ) _ _ rfl fun _ hu _ _ => hu
  · rfl

/-- A commit opens a sector where none has room, and then puts its record. -/
theorem Trivet.commit_eq_putRec : ∃ u : Trivet, v.commit now time k = u.putRec time false k ∧ u.bbr ≠ [] ∧ u.bbrQ = v.bbrQ ∧
    (∀ x, v.bbr.getLast? = some x → x.recs.length < 1024 → u = v) := by
  unfold Trivet.commit
  extract_lets full u
  refine ⟨u, rfl, ?_⟩
  unfold u
  cases hlast : v.bbr.getLast? with
  | none =>
    rw [if_pos (by unfold full; rw [hlast])]
    exact ⟨Trivet.reclaim_ne_nil _ (List.length_pos_iff.mp (by rw [Trivet.openSector_length]; omega)), Trivet.reclaim_bbrQ _,
      fun x hx => absurd hx (by simp)⟩
  | some x =>
    by_cases hfull : 1024 ≤ x.recs.length
    · rw [if_pos (by unfold full; rw [hlast]; exact decide_eq_true hfull)]
      refine ⟨Trivet.reclaim_ne_nil _ (List.length_pos_iff.mp (by rw [Trivet.openSector_length]; omega)), Trivet.reclaim_bbrQ _,
        fun y hy hroom => ?_⟩
      obtain rfl := Option.some.inj hy
      omega
    · rw [if_neg (by unfold full; rw [hlast]; simpa using hfull)]
      exact ⟨fun hnil => by simp [hnil] at hlast, rfl, fun _ _ _ => rfl⟩

/-- A record that is put where its sector has room follows all others. -/
theorem Trivet.putRec_records {v : Trivet} (hne : v.bbr ≠ []) :
    (v.putRec time false k).records = v.records ++ [(v.putRec time false k).newest time k] := by
  obtain ⟨l, x, hsplit⟩ : ∃ l x, v.bbr = l ++ [x] := ⟨_, _, (List.dropLast_append_getLast hne).symm⟩
  simp [Trivet.putRec, Trivet.records, Trivet.newest, hsplit]

end

theorem bbrCommit_spec {τ : Nat} {k : BbrKind} {rest : List (Nat × BbrKind)} (hqueue : s.trv.bbrQ = (τ, k) :: rest) :
    ∃ t r, exec .bbrCommit s = .next t ∧ t = { s with trv := t.trv } ∧ t.trv.bbrQ = rest ∧
      t.trv.records.getLast? = some r ∧ r.time = τ ∧ r.kind = k ∧ r.seq = t.trv.bbrSeq ∧ r.carried = false ∧
      (∀ x, s.trv.bbr.getLast? = some x → x.recs.length < 1024 →
        t.trv.records = s.trv.records ++ [r] ∧ r.seq = s.trv.bbrSeq + 1) := by
  have hexec : exec .bbrCommit s = .next { s with trv := ({ s.trv with bbrQ := rest } : Trivet).commit s.time τ k } := by
    refine congrArg Host.Outcome.next ?_
    rw [hqueue]
  obtain ⟨u, hcommit, hne, hrest, hroom⟩ := ({ s.trv with bbrQ := rest } : Trivet).commit_eq_putRec s.time τ k
  rw [hcommit] at hexec
  have hrecords := Trivet.putRec_records τ k hne
  refine ⟨_, (u.putRec τ false k).newest τ k, hexec, rfl, hrest, ?_, rfl, rfl, rfl, rfl, fun x hx hshort => ?_⟩
  · dsimp only
    rw [hrecords, List.getLast?_concat]
  · refine ⟨?_, ?_⟩
    · dsimp only
      rw [hrecords, hroom x hx hshort]
      rfl
    · rw [hroom x hx hshort]
      rfl

theorem bbrSecondEnd_spec (hsecond : s.trv.second ≤ s.time / 1000000000) : ∃ t, exec .bbrSecondEnd s = .next t ∧
    t.time = (s.time / 1000000000 + 1) * 1000000000 ∧ t.trv.second = s.time / 1000000000 + 1 ∧ t.trv.secCount = 0 ∧
    t.trv.lostSec = [] ∧ t.trv.bbrQ = (if s.trv.lostSec = [] then s.trv.bbrQ else s.trv.bbrQ ++
      [(t.time, .lost s.trv.lostSec.length (s.trv.lostSec.headD 0) (s.trv.lostSec.getLastD 0))]) := by
  have htime : (s.at (nextMul s.time 1000000000)).time = (s.time / 1000000000 + 1) * 1000000000 := by
    unfold State.at nextMul
    dsimp only
    omega
  have hsec : (s.at (nextMul s.time 1000000000)).time / 1000000000 = s.time / 1000000000 + 1 := by
    rw [htime]
    omega
  have htrv : (s.at (nextMul s.time 1000000000)).trv = s.trv := rfl
  refine ⟨_, rfl, ?_⟩
  generalize s.at (nextMul s.time 1000000000) = u at htime hsec htrv ⊢
  have hqueue : u.trv.bbrQ = s.trv.bbrQ := congrArg Trivet.bbrQ htrv
  unfold State.bbrRoll
  dsimp only
  rw [hsec, if_neg (by rw [htrv]; omega)]
  by_cases hlost : s.trv.lostSec = []
  · rw [if_pos hlost, if_pos (by rw [htrv, hlost]; rfl)]
    exact ⟨htime, rfl, rfl, rfl, hqueue⟩
  · rw [if_neg hlost, if_neg (by rw [htrv]; simpa using hlost), ← htrv]
    exact ⟨htime, rfl, rfl, rfl, rfl⟩

end

/-- Settles O60: what a boot and its reports leave of Trivet is one record more; a restart and an update are each one change of
Trivet, and a commit puts its record at a sector with room. -/
theorem trivetBootsAndKeepsItsRecord : Obligations.TrivetBootsAndKeepsItsRecord := by
  unfold Obligations.TrivetBootsAndKeepsItsRecord
  intro s
  refine ⟨fun hvaux hready hrecovery => ⟨fun b i hbank => ?boot, fun hbank => ?stranded⟩, exec_trivetBoot_up,
    trivetRestart_spec, fun via tag => trivetRestart_asked tag, fun heid hruns => ?update, fun τ k rest => bbrCommit_spec,
    bbrSecondEnd_spec⟩
  case boot =>
    obtain ⟨t, hexec, hrest, hlast, hheld⟩ := trivetBoot_spec hvaux hready hrecovery hbank
    exact ⟨t, hexec, Trivet.eq_of_unreported hrest Trivet.ready fun _ => rfl, Trivet.eq_of_unreported hrest Trivet.up fun _ => rfl,
      Trivet.eq_of_unreported hrest Trivet.bank fun _ => rfl, Trivet.eq_of_unreported hrest Trivet.fwVer fun _ => rfl,
      ⟨Trivet.eq_of_unreported hrest Trivet.boots fun _ => rfl, hlast⟩, hheld⟩
  case stranded =>
    obtain ⟨t, hexec, hrest, hlast, hst⟩ := trivetBoot_stranded hvaux hready hrecovery hbank
    exact ⟨t, hexec, Trivet.eq_of_unreported hrest Trivet.recovery fun _ => rfl,
      (Trivet.eq_of_unreported hrest Trivet.ready fun _ => rfl).trans hready, Trivet.eq_of_unreported hrest Trivet.fwVer fun _ => rfl,
      hst, ⟨Trivet.eq_of_unreported hrest Trivet.boots fun _ => rfl, hlast⟩⟩
  case update =>
    have hexec := exec_pldmFirmwareUpdate heid hruns
    refine ⟨fun hnone => ?_, fun b x img hupd => ?_, fun b img hupd => ?_, fun b img hupd hverifies => ?_, fun b img hupd => ?_⟩
    · obtain ⟨hupd, hfw⟩ := State.fwOp_begin hnone
      exact ⟨_, hexec _, hupd, (State.fwBank_of_set hfw).trans (if_pos rfl),
        fun b hb => (State.fwBank_of_set hfw).trans (if_neg hb)⟩
    · obtain ⟨hnext, hfw⟩ := State.fwOp_transfer hupd img
      exact ⟨_, hexec _, hnext, (State.fwBank_of_set hfw).trans (if_pos rfl)⟩
    · refine ⟨_, (hexec _).trans (congrArg Host.Outcome.next ((State.fwOp_activate hupd false).trans (if_neg (by simp)))), ?_⟩
      exact s.activated_spec b img
    · obtain ⟨hupdated, hbank⟩ := s.activated_spec b img
      rw [hverifies] at hupdated hbank
      exact ⟨_, (hexec _).trans (congrArg Host.Outcome.next ((State.fwOp_activate hupd true).trans (if_pos (by rw [hverifies]; rfl)))),
        ⟨rfl, hupdated.2⟩, hbank, rfl, rfl⟩
    · exact ⟨_, hexec _, State.fwOp_cancel hupd⟩

end Sys2Proof.Machine
end
